-- ==== Sys2Proof/Word.lean ====
section
/-! DEFINITION. The word types of the module and the units its instants are counted in.

Registers and table words are 32 bits (chapter 00, R5, R6); control-space addresses are plain naturals. -/

namespace Sys2Proof

/-- A 32-bit register or table word. -/
abbrev Word := BitVec 32

/-- One byte of the host area of bulk memory. -/
abbrev Byte := BitVec 8

/-- A module time or a span of it, counted in units of 2^-16 ns, the unit of the 96-bit format of R26
(48-bit seconds, 32-bit nanoseconds, 16-bit fraction). -/
abbrev Instant := Nat

end Sys2Proof
end

