-- ==== Sys2Proof/Types/Core.lean ====
section
/-! DEFINITION. What every command and event of the module shares: the command header of Table 14-1, and the
command block's part of the state (chapter 14). -/

namespace Sys2Proof.Machine

/-- The way a command reached the module: over the head's submission ring (R411), routed over the cascade ring
by the head (R430), or mirrored over the peer lane by the ACTIVE module of the pair (R484). -/
inductive Via where
  | host | ring | peer
deriving DecidableEq, Repr

/-- Whether a payload spells operands of its opcode (Table 14-4): one that does not is malformed, or holds an index or a code outside its range. -/
inductive PayloadForm where
  | good | malformed | outOfRange
deriving DecidableEq, Repr

/-- The header of a command (Table 14-1), with the form of its payload, the module time at which the module takes it, the way it came,
the time epoch its payload carries where it carries one (Table 2-6), and, over the ring or the peer lane, the instant that the head or the
ACTIVE chose for it: the step second of TIME_RESTEP, else the instant from which every effective instant is reckoned (R57, R280, R485). Over
the ring it also carries the host's generation, which the head's hardware puts beside the identity (R441). -/
structure Hdr where
  at_       : Instant
  session   : Fin 4
  seq       : Word
  tag       : Nat
  expert    : Bool
  casc      : Bool
  noReply   : Bool
  target    : Fin 64
  payLen    : Nat
  timeoutMs : Nat
  bufAddr   : Nat
  bufLen    : Nat
  via       : Via
  epoch     : Option Word
  chosen    : Option Instant
  form      : PayloadForm
  hostGen   : BitVec 4
deriving DecidableEq, Repr

/-- How far a command in flight has come (R425, R428, R433, R484). -/
inductive FlightState where
  /-- its header checks passed; it waits to execute -/
  | admitted
  /-- sent to the standby and waiting for its acknowledgement -/
  | mirroring
  /-- acknowledged by the standby: it executes -/
  | mirrored
  /-- a LOCK_ACQUIRE waiting in the queue of a lock -/
  | waiting
  /-- it replied ACCEPTED and its completion is to follow -/
  | accepted
  /-- its final reply is written in this reply slot, not yet freed -/
  | replied (slot : Nat)
deriving DecidableEq, Repr

/-- A command in flight (R425). `due` is the uptime at which its timeout expires; a `muted` one completes without a reply (R438, R518). -/
structure Flight where
  session : Fin 4
  seq     : Word
  opcode  : Nat
  tag     : Nat
  casc    : Bool
  noReply : Bool
  target  : Fin 64
  via     : Via
  slots   : Nat
  due     : Nat
  st      : FlightState
  muted   : Bool
  /-- its timeout in ms -/
  limit   : Nat
  /-- the instant chosen for it, once it is (R57, R280, R485) -/
  chosen  : Option Instant
  /-- the index of the module that executes it, as its reply gives it (Table 14-3) -/
  module  : Nat
deriving DecidableEq, Repr

/-- The final status and result of a command as kept for its duplicates (R424); none while it is in flight. -/
structure Cached where
  seq     : Word
  noReply : Bool
  reply   : Option (Nat × List Word)
deriving DecidableEq, Repr

/-- A session (R422, R423, R435). -/
structure Session where
  opened : Bool
  expert : Bool
  hi     : Word
  window : List Cached
  lost   : List Nat
deriving DecidableEq, Repr

/-- A LOCK_ACQUIRE in a lock's queue (R433). -/
structure Waiter where
  session : Fin 4
  seq     : Word
  leaseMs : Nat
deriving DecidableEq, Repr

/-- One lock of the lock service (R433 to R435). -/
structure Lock where
  owner  : Option (Fin 4)
  due    : Nat
  broken : Bool
  queue  : List Waiter
deriving DecidableEq, Repr

/-- A reply slot the host has not freed (Table 14-3). -/
structure Reply where
  slot       : Nat
  gen        : Bool
  status     : Nat
  tag        : Nat
  seq        : Word
  opcode     : Nat
  final      : Bool
  inProgress : Bool
  session    : Fin 4
  module     : Nat
  result     : List Word
deriving DecidableEq, Repr

/-- A cascade-route command whose member statuses the head collects (R431). -/
structure Aggregate where
  session  : Fin 4
  seq      : Word
  opcode   : Nat
  statuses : List (Nat × Nat)
deriving DecidableEq, Repr

/-- Reply coalescing of one session (R437). -/
structure Coalesce where
  waiting : Nat
  due     : Option Nat
deriving DecidableEq, Repr

/-- One item of GLB_ENABLE: enable fields of a block's control register, set or cleared; the port counts for the port block only. -/
structure EnableItem where
  block  : Fin 20
  port   : Fin 10
  fields : Word
  on     : Bool
deriving DecidableEq, Repr

/-- What CMD_TUNE sets; what is absent stays. -/
structure CmdTuneArgs where
  defTimeoutMs : Option Nat
  coalCnt      : Option Nat
  coalUs       : Option Nat
deriving DecidableEq, Repr

/-- Data a command wrote to a host buffer (R414), newest last. -/
structure DmaWrite where
  addr : Nat
  data : List Word
deriving DecidableEq, Repr

/-- The command block (chapter 14). -/
structure CmdPart where
  ready     : Bool
  sessions  : List Session
  locks     : List Lock
  flights   : List Flight
  sqHead    : Nat
  rqTail    : Nat
  parity    : Bool
  replies   : List Reply
  coal      : List Coalesce
  hbDue     : Option Nat
  stalled   : Bool
  aggs      : List Aggregate
  dma       : List DmaWrite
  msix      : List Nat
  /-- reset generations by identity, of the module's own agents and those of other modules (R442) -/
  gens      : List (Nat × BitVec 4)
  /-- the session default of R428, in ms -/
  defTimeout : Nat
deriving DecidableEq, Repr

end Sys2Proof.Machine
end

