-- ==== Sys2Proof/Types/Accord.lean ====
section
/-! DEFINITION. Snapshots, alignment and speculation (chapters 06 and 07): operands and state. -/

namespace Sys2Proof.Machine

/-! ### Snapshots -/

/-- A channel record (Table 6-3). -/
structure Rec where
  chan   : Nat
  w0     : Word
  w1     : Word
  q      : Nat
  arr    : Nat
  pstate : Word
deriving DecidableEq, Repr

/-- A snapshot (Table 6-2): the counts of its header are those of its records. `k` is the number of its reporting instant, counted from
the epoch at the group's rate. -/
structure Snapshot where
  group       : Nat
  committed   : Bool
  lowFill     : Bool
  fillMissing : Bool
  setVer      : Nat
  epoch       : Word
  k           : Nat
  fr          : Nat
  t           : Instant
  seq         : Word
  module      : Nat
  digest      : Nat
  takenUs     : Nat
  /-- W in ms and d in units of 100 µs, in force for the instant -/
  waitMs      : Nat
  dead        : Nat
  recs        : List Rec
  /-- a record is without its value because of an injected fault (R577) -/
  withheld    : Bool
deriving DecidableEq, Repr

/-! ### Operands -/

/-- ALN_GROUP_START: spans in ns, so that values that are no whole register unit can be named (R213). -/
structure GroupStartArgs where
  group    : Fin 32
  rate     : Option (Fin 12)
  waitNs   : Option Nat
  deadNs   : Option Nat
  tolNs    : Option Nat
  minFill  : Option Nat
  fillMiss : Option Bool
  histEn   : Option Bool
  chans    : Option (List Nat)
deriving DecidableEq, Repr

structure GroupChanArgs where
  group  : Fin 32
  add    : List Nat
  remove : List Nat
deriving DecidableEq, Repr

structure GroupTimingArgs where
  group    : Fin 32
  waitNs   : Option Nat
  deadNs   : Option Nat
  minFill  : Option Nat
  fillMiss : Option Bool
deriving DecidableEq, Repr

structure HistAllocArgs where
  group   : Fin 32
  depth   : Nat
  maxChan : Nat
deriving DecidableEq, Repr

structure HistReadArgs where
  group : Fin 32
  start : Instant
deriving DecidableEq, Repr

structure GroupRawArgs where
  group : Fin 32
  ctl   : Word
  wait  : Word
  tol   : Word
deriving DecidableEq, Repr

structure AlnTuneArgs where
  tol     : Option (Fin 32 × Nat)
  sizeGib : Option Nat
deriving DecidableEq, Repr

/-- A depth as SPL_GROUP names it. -/
inductive DepthProfile where
  | off
  | depth (n : Nat)
  | auto
deriving DecidableEq, Repr

/-- The values of a predictor class (Tables 7-10 and 7-13): the class word and the three tolerances. -/
structure ClassVals where
  ctl    : Word
  tolMag : Word
  tolAng : Word
  tolAbs : Word
deriving DecidableEq, Repr

/-- SPL_CLASS_RAW: the magnitude floor is a binary32 value of which the upper 16 bits are kept. -/
structure ClassRawArgs where
  cls      : Fin 16
  kind     : Fin 4
  maxAge   : Nat
  magFloor : Word
  tolMag   : Word
  tolAng   : Word
  tolAbs   : Word
deriving DecidableEq, Repr

/-! ### State -/

/-- A value in an open assembly. -/
structure AsmVal where
  w0      : Word
  w1      : Word
  flags   : Nat
  arrival : Instant
  late    : Bool
deriving DecidableEq, Repr

/-- The settings of a group as its register words hold them. -/
structure GrpWords where
  ctl  : Word
  wait : Word
  tol  : Word
deriving DecidableEq, Repr

/-- An open assembly: the settings and the channel set in force for its instant, its values by channel, and how far it has come: its
issued provisionally, its window closed, the close guard ended, its commit triggered, and the standby's acknowledgement received. -/
structure Asm where
  k      : Nat
  t      : Instant
  words  : GrpWords
  setVer : Nat
  set    : List Nat
  vals   : List (Nat × AsmVal)
  issued : Option Snapshot
  closed : Bool
  guardEnd : Bool
  trig   : Bool
  acked  : Bool
deriving DecidableEq, Repr

/-- A change that waits for t_eff (R204). -/
structure GrpChange where
  k     : Nat
  t     : Instant
  words : GrpWords
  set   : Option (List Nat)
deriving DecidableEq, Repr

/-- The states of Table 6-6. -/
inductive GroupState where
  | stopped | starting | running | stopping
deriving DecidableEq, Repr

/-- A run of instants not issued while a group is suspended (R236): the first, the last and their number. -/
structure Suspend where
  first : Instant
  last  : Instant
  count : Nat
deriving DecidableEq, Repr

/-- Settings and set in force for the instants before `untilK` that a change replaced (R204, R205). -/
structure GrpWas where
  untilK : Nat
  words  : GrpWords
  set    : List Nat
  setVer : Nat
deriving DecidableEq, Repr

/-- An alignment group. `nextOpen` is the first instant with no assembly yet, `nextDl` the first whose deadline has not come; `startK` the start instant or, after a step, the resume
instant (R206); the history holds whole snapshots, oldest first. -/
structure Group where
  st       : GroupState
  was      : List GrpWas
  set      : List Nat
  setVer   : Nat
  pend     : Option GrpChange
  startK   : Nat
  startT   : Instant
  stopK    : Nat
  stopT    : Instant
  nextOpen : Nat
  nextDl   : Nat
  asms     : List Asm
  susp     : Option Suspend
  depth    : Nat
  maxChan  : Nat
  hist     : List Snapshot
deriving DecidableEq, Repr

/-- A value of a channel's predictor history (R219). -/
structure PredVal where
  t   : Instant
  w0  : Word
  w1  : Word
  thr : Nat
deriving DecidableEq, Repr

/-- A channel's predictor class with the changes that wait (R215): each takes effect at the first deadline at or after an uptime. -/
structure ChanClass where
  cur  : Fin 16
  next : List (Nat × Fin 16)
deriving DecidableEq, Repr

/-- The states of Table 7-5. -/
inductive LedgerState where
  | free | issued | checking | confirmed | rollback | flushed
deriving DecidableEq, Repr

/-- A predicted channel of a ledger entry with its provisional record and its class as at the issue (R225). -/
structure PredChan where
  r   : Rec
  cls : ClassVals
  kind : Nat
deriving DecidableEq, Repr

/-- A ledger entry (R233). A FREE entry keeps what it held until it is allocated anew. -/
structure LedgerEntry where
  st       : LedgerState
  group    : Nat
  k        : Nat
  t        : Instant
  epoch    : Word
  setVer   : Nat
  issue    : Nat
  classVer : Nat
  pred     : List PredChan
  contra   : Nat
  void     : Bool
deriving DecidableEq, Repr

/-- A message from Accord to Nose: a provisional snapshot, a committed one without provisional issue, the outcome of a check, and a
flush of a group's instants. -/
inductive NoseMsg where
  | prov (s : Snapshot)
  | commit (s : Snapshot)
  | confirm (s : Snapshot)
  | rollback (s : Snapshot)
  | flush (group : Nat) (ks : List Nat)
deriving DecidableEq, Repr

/-- An inclusion list sent to the standby (R490), with the uptime at which its acknowledgement is overdue. -/
structure SentList where
  group : Nat
  k     : Nat
  due   : Nat
deriving DecidableEq, Repr

structure AccordPart where
  groups  : List Group
  /-- channel table: member, group and pclass of word W0 -/
  chans   : List (Nat × Word)
  cls     : List (Nat × ChanClass)
  hist    : List (Nat × List PredVal)
  classes : List ClassVals
  clsPend : Option Nat
  clsVer  : Nat
  ledger  : List (Nat × LedgerEntry)
  /-- snapshots crossing to Nose, Atomizer and the oscillation engine -/
  nose    : List NoseMsg
  pub     : List Snapshot
  osc     : List Snapshot
  lists   : List SentList
deriving DecidableEq, Repr

end Sys2Proof.Machine
end

