-- ==== Sys2Proof/Types/Time.lean ====
section
/-! DEFINITION. The time base (chapter 02): PTP messages and data sets, the operands of its commands and events,
and its part of the state. -/

namespace Sys2Proof.Machine

/-! ### PTP -/

/-- The roles of Table 2-2. -/
inductive PtpRole where
  | ordinary | boundary | grandmaster
deriving DecidableEq, Repr

/-- The profiles of Table 2-2. -/
inductive PtpProfile where
  | iec61850_9_3 | c37_238 | default1588
deriving DecidableEq, Repr

/-- The states of a PTP port that the chapter names (R36), with LISTENING before any decision and DISABLED where the
profile does not use the port. -/
inductive PtpPortState where
  | disabled | listening | master | passive | slave
deriving DecidableEq, Repr

/-- The C37.238 TLV of an Announce message (Table 2-2): the grandmaster's identity and the total time inaccuracy in ns. -/
structure C37Tlv where
  gmIdentity   : Nat
  inaccuracyNs : Nat
deriving DecidableEq, Repr

/-- The data set an Announce message carries. -/
structure Announce where
  gmIdentity   : Nat
  gmClass      : Nat
  gmAccuracy   : Nat
  gmVariance   : Nat
  priority1    : Nat
  priority2    : Nat
  stepsRemoved : Nat
  sender       : Nat
  utcOffset    : BitVec 8
  utcValid     : Bool
  leap         : Int
  timeTrace    : Bool
  freqTrace    : Bool
  timeSource   : Nat
  tlv          : Option C37Tlv
deriving DecidableEq, Repr

/-- The PTP messages the engine handles or sends. An origin time stands as the sender's time; a one-step Pdelay_Resp carries the
turnaround between the request's arrival and its own departure. -/
inductive PtpBody where
  | announce (a : Announce)
  | sync (origin : Instant) (twoStep : Bool)
  | followUp (origin : Instant)
  | delayReq
  | delayResp (rx : Instant)
  | pdelayReq
  | pdelayResp (rx : Instant) (turnaround : Nat) (twoStep : Bool)
  | pdelayRespFollowUp (tx : Instant)
  | management
deriving DecidableEq, Repr

/-- A PTP message with its transport (Ethernet layer 2, or UDP over IPv4), domain and sequence number. -/
structure PtpMsg where
  udp    : Bool
  domain : BitVec 8
  seq    : BitVec 16
  body   : PtpBody
deriving DecidableEq, Repr

/-- The clock data set that TIME_PTP_DS reads and writes (Table 2-10). -/
structure PtpClockDS where
  identity  : Nat
  priority1 : Nat
  priority2 : Nat
  accuracy  : Nat
  variance  : Nat
deriving DecidableEq, Repr

/-- What the time-properties data set holds beside the offset of TB_UTC_CTL and the pending leap second. -/
structure PtpTimeDS where
  timeTrace  : Bool
  freqTrace  : Bool
  timeSource : Nat
deriving DecidableEq, Repr

/-- The port data set that TIME_PTP_DS reads and writes: intervals in ms and the Announce receipt timeout in
Announce intervals. -/
structure PtpPortDS where
  announceMs : Nat
  syncMs     : Nat
  delayMs    : Nat
  receipt    : Nat
deriving DecidableEq, Repr

/-- One PTP port: its state, the best foreign master heard on it, its timers (uptimes), the delay exchange, the Sync it waits a
Follow_Up for, and the last time it was given, which counts once. -/
structure PtpPort where
  st         : PtpPortState
  ds         : PtpPortDS
  best       : Option Announce
  announceBy : Option Nat
  missed     : Nat
  annDue     : Option Nat
  syncDue    : Option Nat
  delayDue   : Option Nat
  txSeq      : BitVec 16
  pendSync   : Option (BitVec 16 × Instant)
  pathDelay  : Nat
  pdelayTx   : Option (BitVec 16 × Instant)
  pdelayRx   : Option (BitVec 16 × Instant × Instant)
  delayTx    : Option (BitVec 16 × Instant)
  lastSync   : Option (Instant × Instant)
  syncNew    : Bool
deriving DecidableEq, Repr

/-! ### Operands -/

structure TimeProfileArgs where
  role    : PtpRole
  profile : PtpProfile
  domain  : BitVec 8
  ports   : BitVec 10
  twoStep : Bool
  udp     : Bool
deriving DecidableEq, Repr

structure TimeSourcesArgs where
  prio    : BitVec 24
  refFreq : Option Bool
deriving DecidableEq, Repr

structure TimeOutputsArgs where
  outEn    : Bool
  ppsWidth : Nat
  ppsFree  : Bool
  todEn    : Bool
  todBaud  : Fin 4
deriving DecidableEq, Repr

structure TimeServoArgs where
  bwMhz   : Nat
  lockNs  : Nat
  driftPs : Nat
deriving DecidableEq, Repr

structure TimeDiscontArgs where
  stepThresh : Nat
  confirm    : Nat
  hold       : Bool
deriving DecidableEq, Repr

/-- TIME_PTP_DS: what is written (each part only where given); the reply always reads the sets back. -/
structure TimePtpDsArgs where
  clock : Option PtpClockDS
  times : Option PtpTimeDS
  port  : Fin 10
  ds    : Option PtpPortDS
  asym  : Option (BitVec 16)
deriving DecidableEq, Repr

/-- One measurement against a source: the source (Table 2-1), and for REF_IN its frequency as counted, in mHz. What a phase source gave
stands in the state: the last Sync of a PTP port, the last sentence with its edge, the last IRIG-B frame with its reference marker. -/
structure Measurement where
  src      : Fin 13
  milliHz  : Nat
deriving DecidableEq, Repr

/-- A time-of-day sentence: its characters between `$` and the line end, as received (R39). -/
structure TodSentence where
  chars : List (BitVec 8)
deriving DecidableEq, Repr

/-- A decoded IRIG-B frame (R42 to R44): its format B000 to B007, how many leading edges of TOD_IN ago its reference marker came, the
day-of-year time in seconds since the start of the year, the BCD year where the format carries one, and the IEEE 1344 control functions
where present. -/
structure IrigFrame where
  edgesAgo   : Fin 128
  format     : Fin 8
  daySecs    : Nat
  bcdYear    : Nat
  ieee1344   : Bool
  year1344   : Nat
  leapPend   : Bool
  leapMinus  : Bool
  timeQual   : BitVec 4
  localHalfH : Int
  parityOk   : Bool
deriving DecidableEq, Repr

/-! ### State -/

/-- Servo states with the codes of Table 2-5. -/
inductive ServoState where
  | freerun | acquire | locked | holdover | discont
deriving DecidableEq, Repr

/-- Qualification of one source (R30): consecutive intervals of valid time, and the uptime by which more must
come. -/
structure SrcQual where
  run       : Nat
  qualified : Bool
  last      : Nat
  due       : Option Nat
deriving DecidableEq, Repr

/-- A TIME_RESTEP that waits for its whole second of source time (R54, R55). -/
structure Restep where
  session : Fin 4
  seq     : Word
  second  : Instant
deriving DecidableEq, Repr

/-- One time-to-digital converter: its queue, oldest first, the last accepted edge and the uptime its blind time
ends (R62, R63, R576). -/
structure Tdc where
  queue : List Instant
  last  : Option Instant
  fresh : Bool
  blind : Nat
deriving DecidableEq, Repr

/-- An entry of a transmit-timestamp queue (R64). -/
structure TxStamp where
  frameId  : BitVec 16
  at_      : Instant
  epochLsb : Bool
deriving DecidableEq, Repr

/-- The time base. `now` is module time; `up` counts the same ticks since power-up and never steps. -/
structure TimePart where
  now        : Instant
  up         : Nat
  epoch      : Word
  servo      : ServoState
  stepped    : Bool
  src        : List SrcQual
  current    : Nat
  rate       : Int
  lockedRate : Int
  offset     : Int
  /-- module time less the source's time, as last measured or stepped away -/
  lead       : Int
  error      : Option Nat
  lockRun    : Nat
  calmRun    : Nat
  suspRun    : Nat
  suspNeg    : Bool
  /-- every measurement of the suspect run is suspect by an injection alone -/
  suspInj    : Bool
  confirmed  : Option (Int × Nat)
  holdE0     : Nat
  holdSince  : Nat
  holdSrc    : Nat
  leftLocked : Option Nat
  restep     : Option Restep
  utcWritten : Bool
  leap       : Option (Int × Instant)
  ppsIn      : Option Nat
  /-- the stamp of the last accepted PPS_IN edge; none after a step of module time -/
  ppsStamp   : Option Instant
  ppsOutEnd  : Option Nat
  ppsOutLast : Option Instant
  todSent    : Option Instant
  /-- the seconds of the last accepted sentence, and its time-quality digit -/
  todLast    : Option Nat
  todQual    : Option (BitVec 8)
  /-- the edge, the seconds and whether the sequence jumped, of a sentence not yet measured -/
  todRef     : Option (Instant × Nat × Bool)
  /-- the stamps of TOD_IN's leading edges while it carries IRIG-B, newest first -/
  irigEdges  : List Instant
  /-- the on-time reference and the seconds of module time of an IRIG-B frame not yet measured, and the last frame's time-quality code -/
  irigLast   : Option (Instant × Nat)
  irigQual   : Option (BitVec 4)
  tdc        : List Tdc
  txts       : List (List TxStamp)
  cmpTgt     : List Nat
  /-- per compare unit, the TRIG_OUT lands it pulses with the uptime each pulse ends, the earlier first -/
  cmpPulse   : List (List (Nat × Nat))
  todOut     : List (List (BitVec 8))
  role       : PtpRole
  profile    : PtpProfile
  domain     : BitVec 8
  twoStep    : Bool
  udp        : Bool
  clockDS    : PtpClockDS
  timesDS    : PtpTimeDS
  ptp        : List PtpPort
deriving DecidableEq, Repr

end Sys2Proof.Machine
end

