-- ==== Sys2Proof/Types/Frame.lean ====
section
/-! DEFINITION. Frames as the module meets them: received frames of Table 3-2 and Table 4-1, transmitted frames, and
the descriptors of Tables 3-6 and 3-7. -/

namespace Sys2Proof.Machine

/-- A C37.118.2 frame over UDP or TCP: the addressing, the state of the IPv4 and UDP checksums, and the bytes of the
UDP payload, from SYNC to CHK. -/
structure C37Frame where
  srcIp   : BitVec 32
  dstPort : BitVec 16
  tcp     : Bool
  csumOk  : Bool
  bytes   : List Byte
deriving DecidableEq, Repr

/-- One ASDU of a sampled-value frame (R117): eight pairs of a 32-bit value and a 32-bit quality. -/
structure Asdu where
  svIdCrc  : Word
  smpCnt   : Nat
  confRev  : Word
  smpSynch : Nat
  smpRate  : Option Nat
  data     : List (Word × Word)
  complete : Bool
deriving DecidableEq, Repr

/-- A sampled-value frame: layer 2 (kind 1) or R-SV over UDP (kind 2), Table 4-1. `src` is the MAC or the IPv4
source address. -/
structure SvFrame where
  routed    : Bool
  src       : BitVec 48
  dstPort   : BitVec 16
  appid     : BitVec 16
  csumOk    : Bool
  encrypted : Bool
  noAsdu    : Nat
  asdus     : List Asdu
  auth      : Option (List Byte)
deriving DecidableEq, Repr

/-- What a frame carries, as far as any stage tells frames apart. -/
inductive FrameBody where
  | ptp (m : PtpMsg)
  | macControl (opcode pauseTime : Nat)
  | eapol
  | c37 (f : C37Frame)
  | sv (f : SvFrame)
  | session905
  | fragmentOrIpv6
  | prpSupervision
  | hsr
  | other
deriving DecidableEq, Repr

/-- The SecTAG of a protected frame and whether its integrity check verifies under the association's key. -/
structure SecTag where
  sci     : BitVec 64
  hasSci  : Bool
  an      : Fin 4
  pn      : Nat
  icvOk   : Bool
deriving DecidableEq, Repr

/-- The PRP redundancy control trailer (R91). -/
structure PrpTrailer where
  seq    : BitVec 16
  lanB   : Bool
  sizeOk : Bool
deriving DecidableEq, Repr

/-- A frame on the wire of a port: `len` counts from the destination address through the FCS (R78). -/
structure RxFrame where
  len       : Nat
  fcsOk     : Bool
  fecFixed  : Nat
  fecBad    : Nat
  da        : BitVec 48
  sa        : BitVec 48
  etherType : BitVec 16
  sectag    : Option SecTag
  vlan      : Option (BitVec 16)
  stacked   : Bool
  prp       : Option PrpTrailer
  body      : FrameBody
deriving DecidableEq, Repr

/-- A receive descriptor as the module returns it (Table 3-6), with its index in the ring. -/
structure RxDesc where
  index  : Nat
  len    : Nat
  flags  : Word
  tci    : BitVec 16
  ts     : Option Instant
  epoch  : Option Word
deriving DecidableEq, Repr

/-- A transmit descriptor as software passes it (Table 3-7). -/
structure TxDesc where
  len     : Nat
  sop     : Bool
  eop     : Bool
  tsReq   : Bool
  cls     : Fin 4
  prp     : Bool
  vlanIns : Bool
  tci     : BitVec 16
  frameId : BitVec 16
deriving DecidableEq, Repr

/-- What a transmitted frame carries. Atomizer's frames carry their fields as bytes, most significant first (R6); the datagram of a stream stands
whole on its first fragment, and every fragment carries its identification, its offset and whether more follow (R308). -/
inductive TxBody where
  | ptp (m : PtpMsg)
  | goose (block : Nat) (content : List Byte)
  | stream (index : Nat) (t : Instant) (ident : BitVec 16) (offset : Nat) (more : Bool) (content : List Byte)
  /-- a ring frame: its port and ring, the index of its sop descriptor and how many descriptors hold it -/
  | ring (port : Nat) (ring : Fin 2) (index descs : Nat)
  /-- the other LAN's copy of a ring frame (R95) -/
  | ringCopy (port : Nat) (ring : Fin 2) (index : Nat)
  | pause (quanta : Nat)
  | firmware (content : List Word)
deriving DecidableEq, Repr

/-- The SecTAG of a protected frame on its way out (Table 3-4): the SCI always, the association and packet number, ES and SCB, and the
confidentiality offset, or none for integrity only. -/
structure TxSecTag where
  sci    : BitVec 64
  an     : Fin 4
  pn     : Nat
  es     : Bool
  scb    : Bool
  offset : Option Nat
deriving DecidableEq, Repr

/-- A frame offered to a port's transmitter (R80, R95, R64). -/
structure TxFrame where
  cls     : Fin 4
  len     : Nat
  prpSeq  : Option (BitVec 16)
  tsReq   : Option (BitVec 16)
  sectag  : Option TxSecTag
  body    : TxBody
deriving DecidableEq, Repr

end Sys2Proof.Machine
end

