-- ==== Sys2Proof/Types/Ingress.lean ====
section
/-! DEFINITION. Ingress and the stream table (chapter 04): operands and state. -/

namespace Sys2Proof.Machine

/-- What a channel of a stream holds, with the scale the parser applies to integer values (R129): the PHUNIT or
ANUNIT factor, or the valid-bit mask of a digital word. -/
inductive ChanKind where
  | freq | dfreq | phasor | analog | digital
deriving DecidableEq, Repr

structure ChanScale where
  kind  : ChanKind
  scale : Word
  mask  : BitVec 16
deriving DecidableEq, Repr

/-- One PMU block of a configuration frame: its FORMAT word, its counts and the scales of its phasors, analogs and
digital words in order. -/
structure CfgBlock where
  fmt      : BitVec 4
  is60     : Bool
  phasors  : List Word
  analogs  : List Word
  digitals : List (BitVec 16)
deriving DecidableEq, Repr

/-- A configuration frame CFG-2 or CFG-3 (R134). -/
structure CfgFrame where
  srcIp     : BitVec 32
  dstPort   : BitVec 16
  idcode    : BitVec 16
  frameSize : Nat
  timeBase  : Nat
  blocks    : List CfgBlock
deriving DecidableEq, Repr

/-- The key of a stream (R122). `kind` is 0 C37.118.2, 1 SV, 2 R-SV. -/
structure StreamKey where
  kind   : Fin 3
  src    : BitVec 48
  port   : BitVec 16
  id     : BitVec 16
  svId   : Word
deriving DecidableEq, Repr

/-! ### Operands -/

/-- One block (C37.118.2) or the one stream (SV) of ING_STREAM_ADD. -/
structure AddBlock where
  chanBase : Nat
  chanSpan : Nat
  offsets  : Option (Nat × Nat)
deriving DecidableEq, Repr

structure StreamAddArgs where
  key        : StreamKey
  /-- whether the profile has the firmware reach the source over TCP for configurations and commands (R115) -/
  tcp        : Bool
  ports      : Option (BitVec 10)
  acceptTest : Bool
  cfg3       : Bool
  startData  : Bool
  blocks     : List AddBlock
  rate       : Nat
  svSlot     : Nat
  synchReq   : Nat
  auth       : Option Nat
  confRev    : Word
deriving DecidableEq, Repr

/-- A stream named by its key or by the index of an entry (R142). -/
inductive StreamRef where
  | key (k : StreamKey)
  | index (i : Nat)
deriving DecidableEq, Repr

structure StreamRawArgs where
  index : Nat
  words : Vector Word 8
deriving DecidableEq, Repr

structure ChanScaleArgs where
  chans : List (Nat × ChanScale)
deriving DecidableEq, Repr

structure IngTuneArgs where
  sizeMib : Option Nat
  tqMax   : Option Nat
  cfgPoll : Option Nat
  unkToFw : Option Bool
deriving DecidableEq, Repr

/-! ### State -/

/-- A frame in an ingress buffer with its receive timestamp, its port and whether it lies in the spill area. -/
structure BufFrame where
  len      : Nat
  arrival  : Instant
  body     : FrameBody
  spilled  : Bool
  epoch    : Word
  degraded : Bool
deriving DecidableEq, Repr

/-- A fetch the firmware has outstanding for a stream (R135): its deadline and tries, the frame size it must
have where the entries are CFG_STALE, and whether it holds one of the 64 TCP sessions (R115). -/
structure CfgFetch where
  due     : Nat
  tries   : Nat
  size    : Option Nat
  session : Bool
deriving DecidableEq, Repr

/-- What the firmware keeps for a C37.118.2 stream, keyed by its key entry. -/
structure StreamFw where
  tcp       : Bool
  cfg3      : Bool
  startData : Bool
  fetch     : Option CfgFetch
  pollDue   : Option Nat
  bit10     : Bool
  held      : Option CfgFrame
  applyDue  : Option Nat
  staleSize : Option Nat
  header    : List Byte
deriving DecidableEq, Repr

/-- A key of the unknown list (R138). -/
structure UnknownKey where
  key   : StreamKey
  port  : Nat
  count : Nat
  first : Instant
  last  : Instant
deriving DecidableEq, Repr

/-- A value crossing to Accord (R14, R15): channel, measurement instant, arrival time, content and the flags passed
with it. -/
structure ChanValue where
  chan     : Nat
  t        : Instant
  arrival  : Instant
  w0       : Word
  w1       : Word
  flags    : Nat
  epoch    : Word
deriving DecidableEq, Repr

/-- One sample set of a sampled-value stream on its way to estimation and capture (R127, R131): its slot, its number counted
from the PTP epoch at the stream's rate, its instant, its arrival, eight values with their qualities, and whether it was passed
with TIME_DEGRADED. -/
structure SvSample where
  slot     : Nat
  rate     : Nat
  num      : Nat
  t        : Instant
  arrival  : Instant
  epoch    : Word
  vals     : List (Word × Word)
  degraded : Bool
deriving DecidableEq, Repr

structure IngressPart where
  /-- stream table: word `w` of entry `e` under key `8 e + w` -/
  table   : List (Nat × Word)
  buffers : List (List BufFrame)
  next    : Nat
  recent  : List (Nat × List Instant)
  confBad : List Nat
  fw      : List (Nat × StreamFw)
  scales  : List (Nat × ChanScale)
  unknown : List UnknownKey
  copied  : Nat × Nat
  cmdOut  : List (Nat × Nat)
  values  : List ChanValue
  samples : List SvSample
  /-- channels and instants of items that an injected fault lost, on their way to Accord with the next crossing (R577) -/
  reports : List (Nat × Instant)
deriving DecidableEq, Repr

end Sys2Proof.Machine
end

