-- ==== Sys2Proof/Types/CaptureIn.lean ====
section
/-! DEFINITION. What crosses to the capture units (chapter 11): raw samples from ingress, estimates and threshold changes from
estimation, alarm changes from Atomizer, and edges and compares from Fixative. -/

namespace Sys2Proof.Machine

inductive CapIn where
  /-- a sample set of a slot (R127) -/
  | raw (x : SvSample)
  /-- a delivered estimate (R156) -/
  | est (v : ChanValue)
  /-- a threshold change (R179): estimated channel, new state, whether its output carries INJECTED, and instant -/
  | thr (chan : Nat) (st : Fin 3) (injected : Bool) (t : Instant)
  /-- a TRIG_IN edge (R344) -/
  | ext (input : Nat) (rising : Bool) (t : Instant)
  /-- a firing of a compare unit with the capture action (R71) -/
  | cmp (unit : Nat) (t : Instant)
  /-- an alarm that became COMMITTED (R343): its source and key, whether it carries INJECTED, and its instant -/
  | alarm (src key : Nat) (injected : Bool) (t : Instant)
deriving DecidableEq, Repr

end Sys2Proof.Machine
end

