-- ==== Sys2Proof/Types/Capture.lean ====
section
/-! DEFINITION. Disturbance capture (chapter 11): operands and state. -/

namespace Sys2Proof.Machine

/-! ### Operands -/

/-- The trigger of a named profile of CAP_UNIT_PROFILE: a level on a capture channel, or an edge of a TRIG_IN. -/
inductive CapTrigger where
  | level (ch : Fin 64) (below : Bool) (thr : Word)
  | ext (tin : Fin 4)
deriving DecidableEq, Repr

structure CapProfileArgs where
  unit : Fin 4
  est  : Bool
  pre  : Nat
  post : Nat
  trig : CapTrigger
deriving DecidableEq, Repr

structure CapChannel where
  k   : Fin 64
  en  : Bool
  src : BitVec 18
deriving DecidableEq, Repr

/-- A sequencer word as given: its state and its place, 0 COND, 1 THR, 2 SEL, 3 N, 4 TMR, 5 EXIT. -/
structure CapSeqWord where
  st   : Fin 8
  slot : Fin 6
  val  : Word
deriving DecidableEq, Repr

structure CapReadArgs where
  number : Fin 256
  first  : Nat
  count  : Nat
deriving DecidableEq, Repr

structure CapTuneArgs where
  rowWait : Option Nat
  partGib : Option Nat
  edges   : Option (Vector (Fin 4) 4)
  src0    : Option (Fin 16)
  src1    : Option (Fin 16)
  pol     : Option (Fin 4)
deriving DecidableEq, Repr

/-! ### State -/

/-- Unit states with the codes of Table 11-2. -/
inductive CapState where
  | idle | filling | armed | triggered | closing
deriving DecidableEq, Repr

def CapState.code : CapState → Nat
  | .idle => 0
  | .filling => 1
  | .armed => 2
  | .triggered => 3
  | .closing => 4

/-- A row (R333): its number counted from the epoch at the unit's rate, its instant, its elements in capture-channel order as words, and
whether an element was passed with TIME_DEGRADED. -/
structure CapRow where
  num      : Nat
  t        : Instant
  els      : List (List Word)
  degraded : Bool
deriving DecidableEq, Repr

/-- A row that has not closed: the elements delivered so far, by capture channel. -/
structure CapOpen where
  num      : Nat
  els      : List (Nat × List Word)
  degraded : Bool
deriving DecidableEq, Repr

/-- An event in a unit's queue (R343). -/
inductive CapEvtKind where
  | alarm (src key : Nat)
  | ext (input : Nat)
  | cmp (unit : Nat)
  | thr (chan : Nat) (st : Fin 3)
deriving DecidableEq, Repr

structure CapEvt where
  kind     : CapEvtKind
  t        : Instant
  injected : Bool
deriving DecidableEq, Repr

/-- A capture unit. `rows` holds the ring, newest row first; `undrained` the bytes of the record not yet in bulk memory; `post` the
post-trigger rows in force; `endNum` the number of the record's last row once it is triggered; `cross` the crossing at the row
that began the present run of true rows (R348); `number` the directory entry of the record in hand. -/
structure CapUnit where
  st        : CapState
  rate      : Nat
  post      : Nat
  number    : Nat
  next      : Nat
  open_     : List CapOpen
  rows      : List CapRow
  undrained : Nat
  endNum    : Nat
  queue     : List CapEvt
  seq       : Nat
  c0        : Nat
  c1        : Nat
  start     : Instant
  truth     : Bool
  cross     : Instant
  force     : Bool
  lastErr   : Nat
deriving DecidableEq, Repr

/-- A record of the directory (R336, R359): its place in MiB from the partition's base, and its header fields, with the rows it
holds, oldest first. `closed` is false while it is being recorded. -/
structure CapRec where
  number   : Nat
  unit     : Nat
  closed   : Bool
  locked   : Bool
  base     : Nat
  size     : Nat
  est      : Bool
  rate     : Nat
  flags    : Nat
  epoch    : Word
  preRows  : Nat
  trigIdx  : Nat
  trigFrac : Nat
  cause    : Nat
  tTrig    : Instant
  postReq  : Nat
  chans    : List Word
  rows     : List CapRow
deriving DecidableEq, Repr

structure CapPart where
  units : List CapUnit
  /-- the directory: records in order of arming, a record moved to the end when it closes -/
  recs  : List CapRec
  /-- the levels of TRIG_IN0 to TRIG_IN3 -/
  trigIn : BitVec 4
deriving DecidableEq, Repr

end Sys2Proof.Machine
end

