-- ==== Sys2Proof/Types/Nose.lean ====
section
/-! DEFINITION. The limit and island engines of Nose (chapters 09 and 10) and the alarms they hand to Atomizer: operands and state. -/

namespace Sys2Proof.Machine

/-! ### Alarms on their way to Atomizer (R316, R317) -/

/-- The causes that an administrative clear carries (R316). -/
inductive ClearCause where
  | config | model | stop | restart | trackClosed
deriving DecidableEq, Repr

/-- One change of an alarm's state: source, key, state of Table 10-4, the flags of its members, and the cause of an administrative clear. -/
structure AlarmChange where
  src      : Nat
  key      : Nat
  st       : Fin 4
  degraded : Bool
  injected : Bool
  cause    : Option ClearCause
deriving DecidableEq, Repr

/-- The changes handed over for one instant, ordered by source and key. `group` is 32 for an oscillation update. -/
structure AlarmBatch where
  group   : Nat
  t       : Instant
  changes : List AlarmChange
deriving DecidableEq, Repr

/-! ### Limit engine (R312 to R315) -/

/-- The last value of a RATE entry. -/
inductive PrevVal where
  | num (x : Rat)
  | inf (neg : Bool)
deriving DecidableEq, Repr

/-- The state of a limit entry: 0 inactive, 1 PROVISIONAL, 2 COMMITTED with the instant of the raise, its counters, the last value and its
instant, the earliest instant of a clear that waits (R315), and the quantity at the raise. -/
structure LimState where
  alarm    : Fin 3
  since    : Nat
  nSet     : Nat
  nClr     : Nat
  prev     : Option (PrevVal × Nat × Instant)
  clrPend  : Option Nat
  qty      : Rat
  degraded : Bool
  injected : Bool
deriving DecidableEq, Repr

/-- What was handed over last for an alarm: its state, the instant it belongs to, and what the alarm carried: kind, live buses and the flags of
its members. -/
structure Handed where
  st       : Fin 4
  k        : Nat
  kind     : Nat
  live     : Nat
  degraded : Bool
  injected : Bool
deriving DecidableEq, Repr

/-- The limit checkpoint of a provisional instant in flight (R314): the snapshot, what the entries held that it changed, and whether its
evaluation was abandoned. -/
structure LimCkpt where
  snap    : Snapshot
  saved   : List (Nat × LimState)
  skipped : Bool
deriving DecidableEq, Repr

structure LimPart where
  /-- limit entries: word `w` of entry `e` under key `4 e + w` -/
  table  : List (Nat × Word)
  st     : List (Nat × LimState)
  handed : List (Nat × Handed)
  ckpts  : List LimCkpt
  /-- entries written while active, with the group whose next commit clears them (R330) -/
  config : List (Nat × Nat)
deriving DecidableEq, Repr

/-! ### Island engine (chapter 09) -/

/-- A bus–branch model: records by word, under key `4 i + w`. -/
structure Model where
  version  : Word
  group    : Nat
  is60     : Bool
  nBus     : Nat
  nBranch  : Nat
  buses    : List (Nat × Word)
  branches : List (Nat × Word)
deriving DecidableEq, Repr

/-- A model buffer as the host lays it out (R278): header fields and the record words. -/
structure ModelBuffer where
  version : Word
  nBus    : Nat
  nBranch : Nat
  group   : Fin 32
  is60    : Bool
  crc     : Word
  words   : List Word
deriving DecidableEq, Repr

/-- A summary packet (Table 9-4). -/
structure Packet where
  committed : Bool
  owner     : Fin 64
  epoch     : Word
  t         : Instant
  cfgCrc    : Word
  entries   : List Word
  status    : List Bool
  hdrCrc    : Word
  payCrc    : Word
deriving DecidableEq, Repr

/-- A bus in a view: its summary entry and whether a record of it carries INJECTED. -/
structure BusView where
  bus      : Nat
  entry    : Word
  injected : Bool
deriving DecidableEq, Repr

/-- A view (R286 to R288): its instant, the buses, the status of every kind-2 branch, given or held, and the owners present and
absent. -/
structure View where
  k       : Nat
  fr      : Nat
  t       : Instant
  commit  : Bool
  buses   : List BusView
  status  : List (Nat × Bool)
  present : List Nat
  missing : List Nat
deriving DecidableEq, Repr

/-- What the engine keeps of a usable bus: the unwrapped angle and its average, in units of 360°/65,536. -/
structure BusDyn where
  psi : Int
  ema : Rat
deriving DecidableEq, Repr

/-- What the engine keeps of a topology island. -/
structure TopDyn where
  ref    : Nat
  nSplit : Nat
  nCoh   : Nat
  seen   : Nat
deriving DecidableEq, Repr

/-- The kinds of Table 9-8. -/
inductive IslKind where
  | topo | elec | many
deriving DecidableEq, Repr

/-- Why an alarm must qualify anew at the next view (R280) or the next committed view (R299). -/
inductive Trial where
  | model | restart
deriving DecidableEq, Repr

/-- An island alarm (R294, R295). `pub` is the key under which it is published: the one its island had in the last committed view, or at the
raise, since a provisional view clears no published key (R229). -/
structure IslAlarm where
  kind     : IslKind
  key      : Nat
  pub      : Nat
  topKey   : Nat
  live     : List Nat
  nBus     : Nat
  meanDf   : Rat
  t        : Instant
  degraded : Bool
  injected : Bool
  commit   : Bool
  since    : Nat
  absent   : Nat
  clrPend  : Option Nat
  trial    : Option Trial
deriving DecidableEq, Repr

/-- The dynamic state a checkpoint covers (R296). `era` is the number of activations that it has been through, and `admin` the published keys
that the last evaluation cleared administratively, with their causes (R316). -/
structure IslDyn where
  buses  : List (Nat × BusDyn)
  tops   : List (Nat × TopDyn)
  status : List (Nat × Bool)
  alarms : List IslAlarm
  fresh  : Bool
  era    : Nat
  admin  : List (Nat × ClearCause)
deriving DecidableEq, Repr

/-- An island of a view, for ISL_ISLANDS_READ. -/
structure IslandRow where
  kind   : IslKind
  key    : Nat
  nBus   : Nat
  nLive  : Nat
  meanDf : Rat
deriving DecidableEq, Repr

/-- What the evaluation of a view shows: its islands and the component of each bus. -/
structure IslShow where
  rows   : List IslandRow
  labels : List (Nat × Nat)
deriving DecidableEq, Repr

/-- The island checkpoint of a provisional view in flight (R296): the view, the state before its evaluation, what it showed, the bytes of its
journal, and whether its evaluation was abandoned. -/
structure IslCkpt where
  view    : View
  saved   : IslDyn
  shown   : IslShow
  bytes   : Nat
  skipped : Bool
deriving DecidableEq, Repr

/-- An instant of the island group on its way through the ring exchange (R286, R287): its snapshots so far, and whether its provisional view
has been formed. -/
structure RingInst where
  k      : Nat
  t      : Instant
  prov   : Option Snapshot
  commit : Option Snapshot
  formed : Bool
deriving DecidableEq, Repr

/-- The island engine. `eras` counts the activations, and `olds` holds the models replaced, each with the instant before which it still applies
(R280). `held` is the branch status of the last committed view, `last` the instant of the last ring commit, `out` the packets sent on the ring. -/
structure IslPart where
  active  : Option Model
  eras    : Nat
  olds    : List (Instant × Option Model)
  staged  : Model
  pend    : Option (Nat × Instant)
  dyn     : IslDyn
  held    : List (Nat × Bool)
  ckpts   : List IslCkpt
  handed  : List (Nat × Handed)
  packets : List Packet
  ring    : List RingInst
  last    : Option Instant
  shown   : IslShow
  present : List Nat
  missing : List Nat
  out     : List Packet
deriving DecidableEq, Repr

/-! ### Operands -/

/-- The coherence and alarm settings of a profile (Table 9-12). -/
structure IslProfileArgs where
  fGap     : Word
  thetaLim : Word
  tHoldMs  : Nat
  clrHoldMs : Nat
  taMs     : Nat
  minLive  : Nat
  livePct  : Nat
deriving DecidableEq, Repr

structure IslTuneArgs where
  ringWait  : Option Nat
  ringClose : Option Nat
  topoPers  : Option Nat
  topoClr   : Option Nat
deriving DecidableEq, Repr

/-- Staged records as given: whether a branch, the index, and the four words. -/
structure IslRawRec where
  branch : Bool
  index  : Nat
  words  : Vector Word 4
deriving DecidableEq, Repr

structure IslActivateArgs where
  version : Word
  group   : Fin 32
  is60    : Bool
deriving DecidableEq, Repr

/-- A limit entry of PUB_LIMITS. -/
structure LimitArgs where
  entry    : Fin 32768
  kind     : Fin 4
  chan     : Nat
  debounce : Nat
  high     : Word
  low      : Word
  hyst     : Word
deriving DecidableEq, Repr

end Sys2Proof.Machine
end

