-- ==== Sys2Proof/Types/Cascade.lean ====
section
/-! DEFINITION. Mailboxes and the cascade ring (chapter 15): operands and state. -/

namespace Sys2Proof.Machine

/-! ### Mailboxes -/

/-- A master identity (R441): module index and agent. -/
abbrev MasterId := BitVec 12

/-- A claim of a channel (R444): the identity, the uptime at which it lapses, and the words staged so far. -/
structure MbxClaim where
  ident  : MasterId
  due    : Nat
  staged : List (Nat × Word)
deriving DecidableEq, Repr

/-- A channel's status (Table 15-5); its words lie in the register bank. -/
structure MbxChan where
  full   : Bool
  claim  : Option MbxClaim
  sender : MasterId
  gen    : BitVec 4
  count  : BitVec 8
  time   : Word
deriving DecidableEq, Repr

/-- A command waiting on a channel (R448): MBX_SEND with its words and its sender, or MBX_RECV without. -/
structure MbxWaiter where
  chan    : Nat
  words   : Option (List Word × MasterId)
  session : Fin 4
  seq     : Word
deriving DecidableEq, Repr

structure MbxPart where
  chans   : List MbxChan
  waiters : List MbxWaiter
deriving DecidableEq, Repr

/-! ### The ring -/

/-- States of the ring with the codes of Table 15-7. -/
inductive RingState where
  | unformed | alone | formed | closed | broken
deriving DecidableEq, Repr

def RingState.code : RingState → Nat
  | .unformed => 0
  | .alone => 1
  | .formed => 2
  | .closed => 3
  | .broken => 4

/-- What a ring frame carries (R455): a bus-summary packet (class 0); or, of class 1, a routed command by its opcode and header, a reply by
session, seq, status and result, a chunk of data for a host buffer, a mailbox message, or a word of the ring's own management. -/
inductive RingBody where
  | summary (p : Packet)
  | command (op : Nat) (h : Hdr)
  | reply (session : Fin 4) (seq : Word) (status : Nat) (words : List Word)
  | chunk (addr : Nat) (data : List Word)
  | mailbox (chan : Fin 64) (sender : MasterId) (gen : BitVec 4) (words : Vector Word 16)
  | token (count : Nat) (uids : List (List Byte))
  | map (present absent : BitVec 64)
  | closedToken (silent : Fin 64)
  | releaseOrder (member : Fin 64) (at_ : Instant)
  | joinRecord (uid : List Byte) (index : Fin 64)
deriving DecidableEq, Repr

/-- A ring frame: the member it comes from, the member it is for, or all, its CRC and its body. -/
structure RingFrame where
  origin : Fin 64
  dest   : Option (Fin 64)
  crcOk  : Bool
  body   : RingBody
deriving DecidableEq, Repr

/-- A rejoin in progress (R459, R460): the index, the command, the whole millisecond of the release, and the uptime at which the trial ends. -/
structure Rejoin where
  index   : Fin 64
  session : Fin 4
  seq     : Word
  at_     : Instant
  trial   : Option Nat
deriving DecidableEq, Repr

structure CasPart where
  st       : RingState
  /-- own index, once taken, and the index stored in MRAM -/
  index    : Option (Fin 64)
  stored   : Option (Fin 64)
  present  : BitVec 64
  absent   : BitVec 64
  /-- the uptime at which each absent member was marked so -/
  gone     : List (Nat × Nat)
  /-- at the head, the uid of every index (R452) -/
  uids     : List (Nat × List Byte)
  skipping : Bool
  /-- the uptime at which a formation token must be back, and the CAS_REFORM it serves -/
  formDue  : Option Nat
  reform   : Option (Fin 4 × Word)
  rejoin   : Option Rejoin
  /-- an order of the head to release CR_SKIP_N at an instant, and the uptime at which that trial ends here -/
  release  : Option Instant
  trial    : Option Nat
  /-- own frames offered and not yet back, and every frame put on CR_OUT -/
  mine     : List RingFrame
  sent     : List RingFrame
deriving DecidableEq, Repr

end Sys2Proof.Machine
end

