-- ==== Sys2Proof/Types/Estimation.lean ====
section
/-! DEFINITION. Phasor estimation (chapter 05): operands and state. -/

namespace Sys2Proof.Machine

/-! ### Operands -/

structure PecProfileArgs where
  slots  : List (Fin 1024)
  is60   : Bool
  mclass : Bool
  rate   : Fin 12
deriving DecidableEq, Repr

structure PecInput where
  index  : Fin 8192
  enable : Bool
  scale  : Word
  kind   : Fin 3
  fref   : Fin 8
deriving DecidableEq, Repr

structure PecThreshold where
  index    : Fin 24576
  high     : Word
  low      : Word
  hyst     : Word
  debounce : Nat
  enHigh   : Bool
  enLow    : Bool
deriving DecidableEq, Repr

structure PecSwapArgs where
  slots : List (Fin 1024)
  len   : Option Nat
  queue : Bool
deriving DecidableEq, Repr

structure PecSlotRawArgs where
  slot       : Fin 1024
  decim      : Nat
  firProf    : Nat
  holdMax    : Nat
  acceptTest : Bool
  xfLen      : Nat
deriving DecidableEq, Repr

structure PecCoefArgs where
  bank    : Bool
  profile : Fin 16
  taps    : List Int
deriving DecidableEq, Repr

/-! ### State -/

/-- Slot states with the codes of Table 5-17. -/
inductive SlotState where
  | idle | wait | run | drydown | gap
deriving DecidableEq, Repr

/-- A restart that waits for its t0 (R166, Table 5-8), with the slot word and bank that come into force there. -/
structure PendRestart where
  t0   : Instant
  w0   : Option Word
  bank : Option Bool
deriving DecidableEq, Repr

/-- A demodulated sample (R153): the number of the input sample its decimated sample ends at, the oscillator's phase in turns, the sample in
rectangular form, and whether the scale it was made with was a number. -/
structure BaseSample where
  num   : Nat
  phase : Rat
  re    : Rat
  im    : Rat
  real  : Bool
deriving DecidableEq, Repr

/-- One input's chain: the five integrators and five combs of the CIC (R149), its newest outputs after scaling, the oscillator's phase in turns, the
demodulated samples, newest first, the last good sample with the present run of missing ones (R163), and f_track. -/
structure CicChain where
  integ  : List (BitVec 64)
  combs  : List (BitVec 64)
  outs   : List Rat
  phase  : Option Rat
  base   : List BaseSample
  good   : Word
  miss   : Nat
  fTrack : Word
deriving DecidableEq, Repr

/-- What the span of an output must know of a sample: which inputs were filled, had the test bit or were questionable, and whether its
ASDU was degraded. -/
structure SpanMark where
  num      : Nat
  filled   : BitVec 8
  test     : BitVec 8
  quest    : BitVec 8
  degraded : Bool
deriving DecidableEq, Repr

/-- An output whose span is complete, on its way out: its instant, whether it is a Drydown output, and per enabled input the flags,
the phasor, the frequency and the ROCOF. -/
structure ReadyInput where
  k     : Nat
  flags : Nat
  re    : Word
  im    : Word
  f     : Word
  rf    : Word
deriving DecidableEq, Repr

structure ReadyOut where
  tc  : Instant
  dry : Bool
  ins : List ReadyInput
deriving DecidableEq, Repr

/-- A cross-fade (R172): FIR outputs so far of its length, and whether it has started. -/
structure CrossFade where
  step    : Nat
  len     : Nat
  started : Bool
deriving DecidableEq, Repr

/-- One estimation slot. `num` is the number of the last sample taken; `marks` lists the samples of the newest spans worth a mark, newest
first; `first` is the number of the first sample of the running history and `nextK` the reporting instant, counted from the epoch,
whose output comes next; `cur` and `curBank` are the slot word and bank the running history began with; `bound` is a t0 whose
first sample has not come, `gapEnd` says that the restart which ends a gap is scheduled, and `wasReset` that the slot was not IDLE when the
island was reset. -/
structure PecSlot where
  st       : SlotState
  bank     : Bool
  pend     : List PendRestart
  t0       : Instant
  restarts : BitVec 16
  dryLeft  : Nat
  xf       : Option CrossFade
  held     : Bool
  xfStart  : Nat
  xfEnd    : Nat
  bound    : Option PendRestart
  cur      : Word
  curBank  : Bool
  running  : Bool
  gapEnd   : Bool
  wasReset : Bool
  num      : Nat
  first    : Nat
  nextK    : Nat
  marks    : List SpanMark
  chains   : List CicChain
  ready    : List ReadyOut
deriving DecidableEq, Repr

/-- The threshold state of an estimated channel and its counters (R178). -/
structure ThrState where
  st   : Fin 3
  nUp  : Nat
  nDn  : Nat
  nClr : Nat
deriving DecidableEq, Repr

structure PecPart where
  /-- words of the slot, input, threshold and coefficient tables: word `w` of entry `i` of table `t` under key `2^18 t + 8 i + w` -/
  table    : List (Nat × Word)
  /-- committed coefficient profiles, under key 16 × bank + profile -/
  profiles : List (Nat × List Int)
  slots    : List (Nat × PecSlot)
  thr      : List (Nat × ThrState)
  /-- the t0 of the synchronised restart that waits, and the seconds of the pending or last one (PEC_SYNC_SEC) -/
  sync     : Option Instant
  syncSec  : Nat
  /-- the t0 of the restart of every slot after a reset of the island, once the island runs again (Table 5-8) -/
  resume   : Option Instant
deriving DecidableEq, Repr

end Sys2Proof.Machine
end

