-- ==== Sys2Proof/Types/Faults.lean ====
section
/-! DEFINITION. Fault detectors and injection (chapter 19): operands and state. -/

namespace Sys2Proof.Machine

/-! ### Operands -/

/-- The mode of an injection slot (Table 19-11). -/
inductive InjMode where
  | once | count | span
deriving DecidableEq, Repr

/-- INJECT with a named profile: what a slot is armed with, or the slot to disarm. -/
inductive InjectArgs where
  | arm (det : Fin 22) (target : Fin 65536) (param : Word) (mode : InjMode) (shots : Nat) (delayUs durUs : Nat)
  | disarm (slot : Fin 8)
deriving DecidableEq, Repr

/-- The FLT_INJ_* words of a slot as given. -/
structure InjRawArgs where
  slot  : Fin 8
  sel   : Word
  ctl   : Word
  time  : Word
  param : Word
deriving DecidableEq, Repr

/-! ### State -/

inductive InjState where
  | idle | armed | firing | done
deriving DecidableEq, Repr

def InjState.code : InjState → Nat
  | .idle => 0
  | .armed => 1
  | .firing => 2
  | .done => 3

/-- An injection slot (R532): its state, what it was armed with, shots so far and left, the uptimes at which it fires and at which a SPAN
ends, and the session that armed it. -/
structure InjSlot where
  st      : InjState
  det     : Nat
  target  : Nat
  param   : Word
  mode    : InjMode
  fired   : Nat
  left    : Nat
  due     : Nat
  dur     : Nat
  session : Nat
deriving DecidableEq, Repr

structure FltPart where
  slots    : List InjSlot
  /-- uptime of the last detection of each detector -/
  lastDet  : List (Nat × Nat)
  /-- uptime of the last firing, while the inj bit is set (R537) -/
  lastFire : Option Nat
  /-- channels and instants whose value an injected fault withheld, dropped or corrupted (R577) -/
  marks    : List (Nat × Instant)
  /-- FAULT_N causes that stand because of an injection (R533) -/
  injCauses : List Nat
deriving DecidableEq, Repr

end Sys2Proof.Machine
end

