-- ==== Sys2Proof/Types/Keys.lean ====
section
/-! DEFINITION. Flacon, the key store (chapter 13): operands and state. Usage classes carry the codes of Table 13-2: 0 MACsec, 1 GMAC, 2
HMAC, 3 signing, 4 key-encryption, 5 derive-only; origins those of Table 13-1. -/

namespace Sys2Proof.Machine

/-! ### Operands -/

/-- A profile of KEY_GENERATE: the class, the length in bits and the attributes fixed at creation. -/
structure KeyGenArgs where
  slot        : Fin 256
  cls         : Fin 8
  bits        : Nat
  uses        : Word
  expire      : Bool
  cascade     : Bool
  exportNever : Bool
deriving DecidableEq, Repr

structure KeyDeriveArgs where
  slot        : Fin 256
  parent      : Fin 256
  label       : List Byte
  context     : List Byte
  cls         : Fin 8
  bits        : Nat
  uses        : Word
  expire      : Bool
  cascade     : Bool
  exportNever : Bool
deriving DecidableEq, Repr

structure KeyImportArgs where
  slot    : Fin 256
  kek     : Fin 256
  wrapped : List Byte
deriving DecidableEq, Repr

structure KeyClearArgs where
  slot        : Fin 256
  cls         : Fin 8
  key         : List Byte
  uses        : Word
  expire      : Bool
  cascade     : Bool
  exportNever : Bool
deriving DecidableEq, Repr

/-- The source of a replacement's key (R395). -/
inductive KeySource where
  | generate
  | derive (parent : Fin 256) (label context : List Byte)
  | wrapped (kek : Fin 256) (data : List Byte)
  | clear (key : List Byte)
deriving DecidableEq, Repr

structure KeyReplaceArgs where
  slot   : Fin 256
  txn    : Word
  uses   : Word
  source : KeySource
  kcv    : List Byte
deriving DecidableEq, Repr

/-- A lifecycle state with its code (Table 13-7). -/
inductive Lifecycle where
  | blank | provisioned | deployed | service | retired
deriving DecidableEq, Repr

def Lifecycle.code : Lifecycle → Nat
  | .blank => 0
  | .provisioned => 1
  | .deployed => 2
  | .service => 3
  | .retired => 4

structure KeyAttrArgs where
  slot      : Fin 256
  uses      : Option Word
  setExport : Bool
deriving DecidableEq, Repr

structure KeyTuneArgs where
  periodDs : Option Nat
  authSlot : Option (Fin 256)
  authEn   : Option Bool
deriving DecidableEq, Repr

/-! ### State -/

/-- Slot states with the codes of Table 13-12. -/
inductive KeyState where
  | empty | active | orphaned | exhausted
deriving DecidableEq, Repr

def KeyState.code : KeyState → Nat
  | .empty => 0
  | .active => 1
  | .orphaned => 2
  | .exhausted => 3

/-- A slot (R384, R392): its attributes (Table 13-1), its two shares, the uptime at which its latest use ends, whether it is to be destroyed
then (R400), whether a remask was deferred by uses, and whether it has been for a whole period. -/
structure KeySlot where
  st          : KeyState
  cls         : Nat
  len         : Nat
  parent      : Option Nat
  uses        : Word
  expire      : Bool
  cascade     : Bool
  exportNever : Bool
  origin      : Nat
  svc         : Bool
  gen         : BitVec 16
  shareA      : List Byte
  shareB      : List Byte
  usedUntil   : Nat
  dying       : Bool
  deferred    : Bool
  late        : Bool
deriving DecidableEq, Repr

/-- A shadow slot (R395, R396, R398): the slot it replaces, the transaction, the new key with its attributes, and the uptime at which it is
discarded where it is staged; a shadow without one is being committed for the command named. `old` is the slot as it was where it has been
destroyed since (Table 13-3). -/
structure KeyShadow where
  slot    : Nat
  txn     : Word
  key     : List Byte
  uses    : Word
  origin  : Nat
  parent  : Option Nat
  svc     : Bool
  staged  : Option Nat
  session : Fin 4
  seq     : Word
  old     : KeySlot
deriving DecidableEq, Repr

/-- A nonce (R379, R403): its bytes and the uptime at which it expires. -/
structure Nonce where
  bytes : List Byte
  due   : Nat
deriving DecidableEq, Repr

structure KeyPart where
  slots   : List (Nat × KeySlot)
  shadows : List KeyShadow
  lc      : Lifecycle
  /-- accepted transitions since manufacture -/
  changes : Nat
  nonce   : Option Nonce
  /-- KEY_TXN_ID and KEY_TXN_STAT: transaction, slot and outcome (R399) -/
  txn     : Word × Nat × Nat
  /-- the outcome is to be reported at the next power-up -/
  txnDue  : Bool
  /-- crypto engines out of service: 0 MACsec, 1 message, 2 ECDSA, 3 derivation (R529) -/
  katFail : List Nat
  /-- the entropy source's health: false while the DRBG is halted (R529) -/
  rngOk   : Bool
deriving DecidableEq, Repr

end Sys2Proof.Machine
end

