-- ==== Sys2Proof/Types/Memory.lean ====
section
/-! DEFINITION. Bulk memory and the lottery arbiter (chapter 16): operands and state. -/

namespace Sys2Proof.Machine

/-- The profiles of MEM_TICKETS (Table 16-5). -/
inductive TicketProfile where
  | default | captureFirst
deriving DecidableEq, Repr

/-- What the ECC finds in a transfer (R467). -/
inductive EccOutcome where
  | clean | corrected | uncorrectable
deriving DecidableEq, Repr

/-- A memory channel's arbiter: its LFSR, the last port that won with zero tickets, for how many draws each port has waited, the longest wait
since it was last read, and its transfers in the present and in the preceding millisecond. -/
structure MemChan where
  lfsr     : Word
  lastZero : Nat
  waits    : List Nat
  maxWait  : Nat
  window   : Nat
  busy     : Nat
  prev     : Nat
deriving DecidableEq, Repr

/-- Bulk memory. `host` lists the bytes of the host area that have been written, by offset, offsets rising strictly; an offset that is not listed
holds nothing defined (R465). -/
structure MemPart where
  host     : List Host.Cell
  /-- which undefined contents the host area has: raised at each loss of its contents -/
  fill     : Nat
  chans    : List MemChan
  /-- barriers issued and not yet complete, by island (R474) -/
  barriers : List Nat
  /-- transfers that came poisoned and wait for their requester to take them: the port, the channel, and whether by injection (R539) -/
  poison   : List (Nat × Nat × Bool)
deriving DecidableEq, Repr

end Sys2Proof.Machine
end

