-- ==== Sys2Proof/Types/Oscillation.lean ====
section
/-! DEFINITION. Oscillation analysis (chapter 08): operands and state. -/

namespace Sys2Proof.Machine

/-! ### Operands -/

structure OscProfileArgs where
  set   : Fin 32
  fo    : Fin 5
  winS  : Nat
  first : Nat
  count : Nat
  bands : Fin 8
  order : Nat
deriving DecidableEq, Repr

/-- A signal of a set (Tables 8-2 and 8-13). -/
structure OscSignal where
  core  : Fin 256
  slot  : Fin 64
  en    : Bool
  kind  : Fin 8
  chA   : BitVec 18
  chB   : BitVec 18
  scale : Word
deriving DecidableEq, Repr

/-- OSC_THRESHOLDS for one band of a set. -/
structure OscThresholdArgs where
  set      : Fin 32
  band     : Fin 3
  zeta     : Option Word
  hyst     : Option Word
  aMin     : Option Word
  aMax     : Option Word
  dampPers : Option Nat
  ampPers  : Option Nat
  clrPers  : Option Nat
deriving DecidableEq, Repr

/-- A branch of the dissipating-energy unit (Table 8-13). -/
structure OscBranch where
  index    : Fin 4096
  en       : Bool
  set      : Fin 32
  vCh      : BitVec 18
  iCh      : BitVec 18
  fromArea : Fin 16
  toArea   : Fin 16
  fromBus  : BitVec 16
  toBus    : BitVec 16
  scale    : Word
deriving DecidableEq, Repr

/-- A table entry as given: whether a branch, its index and its words. -/
structure OscTblEntry where
  branch : Bool
  index  : Nat
  words  : Vector Word 4
deriving DecidableEq, Repr

structure OscTuneArgs where
  set      : Fin 32
  tauS     : Option Nat
  minValid : Option Nat
  k        : Option (Fin 3 × Nat × Nat)
  pfrDb    : Option Nat
  cohPct   : Option Nat
  cvPct    : Option Nat
  segS     : Option Nat
  persistS : Option Nat
  defWinS  : Option Nat
  minSig   : Option Nat
deriving DecidableEq, Repr

/-! ### State -/

/-- A record of a channel as the engine took it, by the number of its instant. -/
structure OscIn where
  k        : Nat
  w0       : Word
  w1       : Word
  usable   : Bool
  degraded : Bool
  injected : Bool
deriving DecidableEq, Repr

/-- An update that became ready: its instant in units of 100 ms, the set's words and the branch table as they stood (R251, R276). -/
structure OscUpdate where
  u        : Nat
  words    : List Word
  branches : List (Nat × Word)
deriving DecidableEq, Repr

/-- A shape entry: the slot, the complex ratio to the reference, and whether it is valid: that of a signal excluded at the last update is not
(R254). -/
structure ShapeEntry where
  slot  : Nat
  re    : Rat
  im    : Rat
  valid : Bool
deriving DecidableEq, Repr

/-- The forced record of a track (R270, R271): source bus, source area, confidence, branch flows, and the age of the result in updates. -/
structure ForcedRec where
  srcBus  : Nat
  srcArea : Nat
  conf    : Rat
  flows   : List (Nat × Rat)
  age     : Nat
deriving DecidableEq, Repr

/-- A track (R262, R266, R269): its last mode, how many updates it has not been continued, its persistence counters, its class with the run
of the test against it and the update that classified it FORCED, and its forced record. -/
structure OscTrack where
  band    : Nat
  f       : Rat
  zeta    : Rat
  aRef    : Rat
  shape   : List ShapeEntry
  missed  : Nat
  nDamp   : Nat
  nAmp    : Nat
  forced  : Bool
  run     : Nat
  since   : Nat
  source  : Option ForcedRec
deriving DecidableEq, Repr

inductive OscKind where
  | damping | amplitude | forced
deriving DecidableEq, Repr

/-- An active oscillation alarm (R266 to R268, R273). `key` is the number of the track that raised it, by which it is published; `track` is the
one it follows, which differs only where a restart has handed the alarm to a track of another number. -/
structure OscAlarm where
  kind     : OscKind
  band     : Nat
  key      : Nat
  track    : Nat
  f        : Rat
  zeta     : Rat
  aRef     : Rat
  degraded : Bool
  injected : Bool
  nClr     : Nat
  stale    : Bool
deriving DecidableEq, Repr

/-- An analysis set. `since` is the module time of its last restart, and `first` says that its first update after a start, which restarts it, is
still to come; updates are counted in units of 100 ms; the flags are those of R256 at the last update with results. -/
structure OscSet where
  run     : Bool
  first   : Bool
  since   : Instant
  nextU   : Nat
  current : Option OscUpdate
  waiting : Option OscUpdate
  tracks  : List (Nat × OscTrack)
  noise   : List (Option Word)
  alarms  : List OscAlarm
  lastU   : Nat
  ready   : Bool
  valid   : List (Nat × Nat)
  excl    : List Nat
  defNext : Nat
  degraded : Bool
  injected : Bool
deriving DecidableEq, Repr

structure OscPart where
  /-- signal and branch tables: word `w` of entry `i` under key `4 i + w` -/
  signals  : List (Nat × Word)
  branches : List (Nat × Word)
  /-- records taken by channel, newest first, and the last instant taken of each group -/
  hist     : List (Nat × List OscIn)
  last     : List (Nat × Instant)
  sets     : List OscSet
deriving DecidableEq, Repr

end Sys2Proof.Machine
end

