-- ==== Sys2Proof/Types/Ports.lean ====
section
/-! DEFINITION. The port islands (chapter 03): operands and state. Ports 0 to 7 are P0 to P7, 8 is M0, 9 is M1. -/

namespace Sys2Proof.Machine

/-! ### Operands -/

structure PortProfileArgs where
  ports : BitVec 10
  mode  : Nat
  fec   : Nat
  an    : Bool
deriving DecidableEq, Repr

/-- Base and size of one ring. -/
structure RingSetup where
  transmit : Bool
  ring     : Fin 2
  base     : BitVec 64
  size     : Nat
deriving DecidableEq, Repr

/-- An entry of the host filters. -/
structure FilterSetup where
  index     : Fin 4
  enabled   : Bool
  etherType : BitVec 16
deriving DecidableEq, Repr

structure PortRingsArgs where
  port    : Fin 10
  rings   : List RingSetup
  filters : List FilterSetup
deriving DecidableEq, Repr

structure PortPrpArgs where
  pair     : Fin 5
  enable   : Bool
  forgetMs : Nat
deriving DecidableEq, Repr

/-- The cipher suites of Table 3-4. -/
inductive CipherSuite where
  | gcm128 | gcm256 | xpn128 | xpn256
deriving DecidableEq, Repr

/-- PORT_MACSEC: an association installed in or retired from the transmit channel or a receive channel. -/
structure PortMacsecArgs where
  port     : Fin 10
  install  : Bool
  receive  : Option (Fin 8)
  sci      : BitVec 64
  an       : Fin 4
  slot     : Nat
  suite    : CipherSuite
  validate : Fin 3
deriving DecidableEq, Repr

structure PortEqArgs where
  port   : Fin 10
  pre    : BitVec 6
  main   : BitVec 6
  post   : BitVec 6
  ctle   : BitVec 5
  freeze : Bool
deriving DecidableEq, Repr

structure PortMacRawArgs where
  port      : Fin 10
  maxLen    : Nat
  quanta    : BitVec 16
  xoff      : BitVec 8
  xon       : BitVec 8
  pnWarn    : Nat
  replayWin : Nat
  /-- the confidentiality offset, or none for integrity only -/
  offset    : Option Nat
deriving DecidableEq, Repr

structure WakePatternArgs where
  m        : Fin 2
  k        : Fin 8
  bytes    : List (Nat × Byte)
  enable   : Bool
deriving DecidableEq, Repr

structure WakePatternRawArgs where
  m    : Fin 2
  k    : Fin 8
  mask : Vector Word 4
  crc  : Word
deriving DecidableEq, Repr

/-- What an optics read returned (R106, R107): nothing where the switch or address 0x50 gave no acknowledge, else
bytes 0 to 95 of page A0h. -/
structure OpticsRead where
  ack   : Bool
  bytes : List Byte
deriving DecidableEq, Repr

/-- A frame that reaches a wake-pattern detector (R104). -/
structure WakeFrame where
  fcsOk : Bool
  len   : Nat
  bytes : List Byte
deriving DecidableEq, Repr

/-- The conditions a port's PCS reports (R75). -/
structure PcsState where
  signal    : Bool
  blockLock : Bool
  fecLock   : Bool
  anDone    : Bool
  phySlow   : Bool
deriving DecidableEq, Repr

/-- The values the receiver's adaptation reached (R110): CTLE and DFE taps 1 to 5. -/
structure EqResult where
  ctle : BitVec 5
  dfe1 : BitVec 6
  dfe2 : BitVec 6
  dfe3 : BitVec 6
  dfe4 : BitVec 6
  dfe5 : BitVec 6
deriving DecidableEq, Repr

/-! ### State -/

/-- A secure association: its association number, its key slot, the next packet number to send or the lowest
acceptable one, and the two shares of the key it was installed with (R392, R397). -/
structure SecAssoc where
  an   : Fin 4
  slot : Nat
  pn   : Nat
  shareA : List Byte
  shareB : List Byte
deriving DecidableEq, Repr

structure SecChannel where
  sci    : BitVec 64
  assocs : List SecAssoc
deriving DecidableEq, Repr

/-- MACsec of one port (Table 3-4). -/
structure Macsec where
  suite     : CipherSuite
  txSci     : BitVec 64
  tx        : List SecAssoc
  txUse     : Option (Fin 4)
  rx        : List (Nat × SecChannel)
  pnWarn    : Option Nat
  replayWin : Nat
  offset    : Option Nat
deriving DecidableEq, Repr

/-- What the optics logic of a port is doing (R106, R107). -/
inductive OpticsState where
  | idle
  | debounce (due : Nat)
  | settle (due : Nat)
  | reading
  | retry (due : Nat)
deriving DecidableEq, Repr

/-- One port island. Times are uptimes. -/
structure Port where
  signal     : Bool
  blockLock  : Bool
  fecLock    : Bool
  anDone     : Bool
  phySlow    : Bool
  adaptDue   : Option Nat
  adapted    : Bool
  link       : Bool
  modAbsPin  : Bool
  modAbs     : Bool
  optics     : OpticsState
  optReason  : Nat
  retries    : Nat
  extBad     : Bool
  downAt     : Nat
  downCause  : Nat
  pauseEnd   : Option Nat
  pauseHeld  : Option Nat
  pausedAt   : Option Nat
  xoffOn     : Bool
  xoffDue    : Option Nat
  macsec     : Macsec
  queue      : List TxFrame
  onWire     : Option (TxFrame × Instant)
  msecEvent  : Bool
  rxHead     : List Nat
  rxOut      : List (List RxDesc)
  txHead     : List Nat
  txPend     : List (List TxDesc)
  txOut      : List (List (Nat × Bool))
  rx64       : Nat
  tx64       : Nat
  wakeable   : Bool
deriving DecidableEq, Repr

/-- An entry of a PRP discard window (R92): keyed on source address and sequence number; `tie` where it stands for a LAN A copy that
completes stage 3 in the same cycle as the LAN B copy just discarded. -/
structure PrpEntry where
  sa  : BitVec 48
  seq : BitVec 16
  due : Nat
  tie : Bool
deriving DecidableEq, Repr

/-- A PRP pair: its window, oldest first, and the sequence counter of R95. -/
structure PrpPair where
  window : List PrpEntry
  txSeq  : BitVec 16
deriving DecidableEq, Repr

/-- One of the two I²C masters (R105): the address and the one-byte register of its cage switch as last written, and the port whose read
it carries. -/
structure I2cMaster where
  switchAddr : BitVec 7
  switchReg  : Byte
  port       : Option (Fin 10)
deriving DecidableEq, Repr

/-- Frames the port islands gave to the command cores (receive ring 0's firmware frames and the PTP engine have
their own steps); kept with the port they came on. -/
structure PortsPart where
  ports  : List Port
  pairs  : List PrpPair
  ptpIn  : List (Nat × PtpMsg × Instant)
  i2c    : List I2cMaster
deriving DecidableEq, Repr

end Sys2Proof.Machine
end

