-- ==== Sys2Proof/Types/Publication.lean ====
section
/-! DEFINITION. Atomizer (chapter 10): operands and state of output streams, alarms, control blocks and lands. -/

namespace Sys2Proof.Machine

/-! ### Operands -/

/-- Where a stream or block sends: an IPv4 or MAC destination, the UDP port of a stream, a VLAN tag, and for R-SV the two identifiers of
R307. -/
structure PubDest where
  addr  : BitVec 48
  port  : BitVec 16
  vlan  : Option (BitVec 16)
  svid  : List Byte
  svidP : List Byte
deriving DecidableEq, Repr

structure StreamProfileArgs where
  stream   : Fin 64
  rsv      : Bool
  prov     : Bool
  group    : Fin 32
  dest     : PubDest
  ports    : BitVec 10
  authEn   : Bool
  authSlot : BitVec 8
deriving DecidableEq, Repr

/-- A block of a stream layout (Table 10-1). -/
structure LayoutBlock where
  stn   : Vector Byte 16
  blkId : BitVec 16
  fCh   : Word
  dfCh  : Word
  ph    : List Word
  an    : List Word
  dg    : List Word
deriving DecidableEq, Repr

/-- A stream layout buffer (Table 10-1). -/
structure LayoutBuffer where
  idcode : BitVec 16
  crc    : Word
  blocks : List LayoutBlock
deriving DecidableEq, Repr

/-- A selector of an alarm (Table 10-14). -/
structure AlarmSel where
  en     : Bool
  wild   : Bool
  source : Fin 4
  key    : BitVec 16
deriving DecidableEq, Repr

structure GocbArgs where
  cb       : Fin 128
  routed   : Option Bool
  strings  : Option (List Byte × List Byte × List Byte)
  members  : Option (List AlarmSel)
  appid    : Option (BitVec 16)
  dest     : Option PubDest
  ports    : Option (BitVec 10)
  auth     : Option (Bool × BitVec 8)
  run      : Option Bool
deriving DecidableEq, Repr

structure AlarmOutArgs where
  land    : Fin 8
  sels    : Option (List AlarmSel)
  provEn  : Option Bool
  pol     : Option Bool
  minOnMs : Option Nat
deriving DecidableEq, Repr

structure PubStreamRawArgs where
  stream   : Fin 64
  ctl      : Option Word
  leadDs   : Option Nat
  authSlot : Option (BitVec 8)
deriving DecidableEq, Repr

structure GocbRawArgs where
  cb    : Fin 128
  ctl   : Option Word
  ports : Option (BitVec 10)
  tMin  : Option Nat
  t0    : Option Nat
deriving DecidableEq, Repr

/-- Table words as given: the table, the index and the words. -/
structure PubTblEntry where
  table : Fin 4
  index : Nat
  words : Vector Word 4
deriving DecidableEq, Repr

/-- A command frame of C37.118.2 for an output stream (R305). -/
inductive C37Command where
  | dataOn | dataOff | sendCfg2 | sendCfg3
deriving DecidableEq, Repr

/-! ### State -/

/-- What a frame of a stream is made by. -/
structure StreamCfg where
  layout  : Option LayoutBuffer
  prov    : Bool
  ports   : Nat
  dest    : PubDest
  confRev : Nat
deriving DecidableEq, Repr

/-- A stream: its layout and destination in force, what instants before the last change go by, and the change that waits (R310). `on` is
cleared and set by command frames (R305); `stopped` is the instant and the epoch at which it was stopped last (R311); `last` is the last committed instant handed to the ports or prepared. -/
structure Stream where
  layout  : Option LayoutBuffer
  dest    : PubDest
  confRev : Nat
  old     : Option (Instant × StreamCfg)
  pend    : Option (Instant × StreamCfg)
  on      : Bool
  stopped : Option (Instant × Word)
  keyStop : Bool
  last    : Option Instant
deriving DecidableEq, Repr

/-- The published state of an alarm (R317), with the cause of an administrative clear (R316). -/
structure PubAlarm where
  src      : Nat
  key      : Nat
  st       : Fin 4
  t        : Instant
  degraded : Bool
  injected : Bool
  cause    : Option ClearCause
deriving DecidableEq, Repr

/-- What a member or selector shows: state, instant of the last change, and flags. -/
structure MemberView where
  st       : Fin 4
  t        : Instant
  degraded : Bool
  injected : Bool
deriving DecidableEq, Repr

/-- A control block: its strings, address and revision, the member states of its last message, and its ladder: the interval to the next message
in ms and the uptime at which it is due. -/
structure Gocb where
  gocbRef : List Byte
  datSet  : List Byte
  goId    : List Byte
  appid   : BitVec 16
  dest    : PubDest
  confRev : Nat
  sent    : List MemberView
  step    : Nat
  due     : Option Nat
  keyStop : Bool
deriving DecidableEq, Repr

/-- A land: asserted or not, when it was asserted, and the release that waits for min_on_ms. -/
structure AlarmLand where
  on     : Bool
  since  : Nat
  relDue : Option Nat
deriving DecidableEq, Repr

/-- A committed frame prepared by a module that does not hold the interlock (R495, R496): its stream and instant, the ports it goes to, its
bytes of UDP payload and its content. -/
structure Prepared where
  stream : Nat
  t      : Instant
  ports  : Nat
  vlan   : Bool
  len    : Nat
  cont   : List Byte
deriving DecidableEq, Repr

/-- A configuration frame that the firmware sends in answer to a command frame (R305): CFG-2 or CFG-3 of a stream, from a layout, with its scale
factor and the rate of its group. -/
structure CfgAnswer where
  stream : Nat
  cfg3   : Bool
  layout : LayoutBuffer
  scale  : Nat
  rate   : Nat
deriving DecidableEq, Repr

structure PubPart where
  /-- alarms that have left CLEARED, the one changed last at the end, and those that found no record -/
  alarms   : List PubAlarm
  extra     : List PubAlarm
  streams  : List (Nat × Stream)
  blocks   : List (Nat × Gocb)
  /-- selectors: land × 16 + i, and members: block × 64 + m -/
  landSel  : List (Nat × Word)
  members  : List (Nat × Word)
  lands    : List AlarmLand
  prepared : List Prepared
  /-- configuration frames sent by the firmware in answer to command frames -/
  answers  : List CfgAnswer
deriving DecidableEq, Repr

end Sys2Proof.Machine
end

