-- ==== Sys2Proof/Types/Pair.lean ====
section
/-! DEFINITION. Redundant pairs (chapter 17): operands and state. -/

namespace Sys2Proof.Machine

/-- The pair states of Table 17-1. -/
inductive PairState where
  | unpaired | listen | copySrc | copyDst | active | solo | standby | unverified | orphan
deriving DecidableEq, Repr

def PairState.code : PairState → Nat
  | .unpaired => 0
  | .listen => 1
  | .copySrc => 2
  | .copyDst => 3
  | .active => 4
  | .solo => 5
  | .standby => 6
  | .unverified => 7
  | .orphan => 8

/-! ### Operands -/

structure PairTuneArgs where
  quiet   : Option Nat
  hbMiss  : Option Nat
  ackUs   : Option Nat
  checkMs : Option Nat
deriving DecidableEq, Repr

/-- What an inclusion list says (Table 17-3): the arrival fields and late bits in the order of the channel set, the digest of the active and
the mirrored commands that take effect after the snapshot. `crcOk` says that its CRC is right. -/
structure InclusionList where
  group     : Fin 32
  forced    : Bool
  setVer    : Nat
  epoch     : Word
  t         : Instant
  seq       : Word
  digest    : Nat
  mirrorCnt : Nat
  arrivals  : List Nat
  lates     : List Bool
  crcOk     : Bool
deriving DecidableEq, Repr

/-- A result record (R493): the group, or the set with bit 5 set, the instant or update, and its CRC-64. -/
structure ResultRecord where
  source : Nat
  item   : Nat
  crc    : Nat
deriving DecidableEq, Repr

/-- The transmit cursor (R496): the last confirmed committed frame of each stream, the last confirmed message of each block, and published
alarm states. -/
structure Cursor where
  streams : List (Nat × Instant)
  blocks  : List (Nat × (Word × Word × List MemberView))
  alarms  : List PubAlarm
deriving DecidableEq, Repr

structure Heartbeat where
  st      : PairState
  cause   : Nat
  sideB   : Bool
  holds   : Bool
  index   : Fin 64
  count   : Word
  inj     : Bool
  cursor  : Cursor
  crcOk   : Bool
deriving DecidableEq, Repr

/-- What a copy moves (Table 17-2), as the source holds it: register words, of which the settings of mirrored blocks are taken and the
sequence and message numbers of groups and blocks, the clock's PTP settings, MACsec, and the parts with tables and dynamic state. -/
structure PairImage where
  up      : Nat
  regs    : List (Nat × Word)
  role    : PtpRole
  profile : PtpProfile
  domain  : BitVec 8
  twoStep : Bool
  macsec  : List Macsec
  table   : List (Nat × Word)
  scales  : List (Nat × ChanScale)
  pec     : PecPart
  aln     : AccordPart
  lim     : LimPart
  isl     : IslPart
  osc     : OscPart
  pub     : PubPart
deriving DecidableEq, Repr

/-! ### State -/

/-- What goes out on the peer lane. -/
inductive PeerMsg where
  | heartbeat (h : Heartbeat)
  | command (op : Nat) (h : Hdr)
  | mirrorAck (session : Fin 4) (seq : Word) (status : Nat)
  | list (l : InclusionList)
  | ack (group : Nat) (t : Instant)
  | fetch (group : Nat) (t : Instant) (chans : List Nat)
  | result (r : ResultRecord)
  | settings (x : PairImage)
  | image (tCut : Instant) (x : PairImage)
  | release
  | join
deriving DecidableEq, Repr

/-- A list that the standby has not finished (R491, R492): the number of its instant, whether every record was asked for after a first mismatch,
and whether records are on their way. -/
structure ListWork where
  list  : InclusionList
  k     : Nat
  whole : Bool
  asked : Bool
deriving DecidableEq, Repr

/-- A copy in progress (R488): the phase, whether phase A has completed, t_cut, the uptime at which phases B and C must have ended, the PAIR_JOIN it
serves, the groups of which an instant has been committed live with matching digests, and at the standby the raw samples that it holds until its
image arrives (R489). -/
structure Copy where
  phase   : Nat
  phaseA  : Bool
  tCut    : Option Instant
  due     : Option Nat
  command : Option (Fin 4 × Word)
  live    : List Nat
  raw     : List SvSample
deriving DecidableEq, Repr

/-- A swap as the module that gave up the interlock, or that took it, sees it (R500, R501): frames drain, the interlock is released and its
module waits until an uptime for its peer to take it, or the check runs until an uptime. -/
inductive SwapStage where
  | draining | released (due : Nat) | checking (due : Nat)
deriving DecidableEq, Repr

structure PairPart where
  st       : PairState
  cause    : Nat
  gate     : Bool
  driving  : Bool
  ownSeen  : Bool
  lineBusy : Bool
  fed      : Nat
  /-- an island watchdog of R479 has expired since the last feed, and whether an injection expired it -/
  wdTrip   : Option Bool
  /-- PAIR_FORM with prefer_active whose claim has not succeeded -/
  wants    : Bool
  claim    : Option Nat
  backoff  : Option Nat
  /-- the peer as its last heartbeat gave it, whether valid heartbeats arrive, and the uptime of the last in which it held the interlock -/
  peer     : Option Heartbeat
  lane     : Bool
  lastHold : Option Nat
  hbCount  : Word
  /-- the transmit cursor as last sent, and what the peer has confirmed (R496) -/
  shown    : Cursor
  adopted  : Cursor
  out      : List PeerMsg
  work     : List ListWork
  /-- groups whose next list carries forced (R494) -/
  forced   : List Nat
  /-- result records not yet matched: the module's own, and its peer's (R493) -/
  results  : List ResultRecord
  theirs   : List ResultRecord
  copy     : Copy
  swap     : Option SwapStage
  /-- a check of R501 has failed since the take-over -/
  swapBad  : Bool
  swapCmd  : Option (Fin 4 × Word)
  restart  : Option (Fin 4 × Word)
  /-- alarms that the old active published PROVISIONAL and that wait for the commit of their instant (R497) -/
  resolve  : List PubAlarm
  /-- the module time from which the swap interval counts (R502) -/
  lastSwap : Option Instant
  /-- PAIR_LAST_SW: interruption in units of 10 ns, and cause -/
  lastSw   : Nat × Nat
  /-- the take-over whose first resumed frame has not left: its cause, and whether its events carry INJECTED -/
  switchPend : Option (Nat × Bool)
deriving DecidableEq, Repr

end Sys2Proof.Machine
end

