-- ==== Sys2Proof/Types/Power.lean ====
section
/-! DEFINITION. Power, reset and operating states (chapter 18): operands and state of the always-on island. Islands carry the
codes of R528: 0 to 9 the ports, 10 ingress, 11 estimation, 12 Accord, 13 Nose, 14 Atomizer, 15 capture, 16 Sillage,
17 Flacon, 18 Fixative, 19 control, 20 cascade, 21 pair, 22 bulk memory. -/

namespace Sys2Proof.Machine

/-- The states of Table 18-1. -/
inductive PwrMode where
  | off | dormant | ready | run
deriving DecidableEq, Repr

/-! ### Operands -/

structure AvfsArgs where
  capW   : Option Nat
  floors : List (Fin 23 × Nat)
deriving DecidableEq, Repr

/-- What a read of the companion's identity memory gave: no acknowledge, or its 256 bytes (R525). -/
structure CompanionRead where
  ack   : Bool
  bytes : List Byte
deriving DecidableEq, Repr

/-- What a power-up, or a reset by RESET_N, finds: the level of CASC_HEAD (sampled at power-up and at RESET_N only), which copies of the firmware
image fail their check, which key slots' records fail authentication, and which MRAM banks pass. -/
structure StartArgs where
  head    : Bool
  bad1    : Bool
  bad2    : Bool
  badKeys : List Nat
  bank0Ok : Bool
  bank1Ok : Bool
deriving DecidableEq, Repr

/-! ### State -/

/-- A transition in progress (R509): where it goes, the wake cause it will leave, and the command that asked for it. -/
structure Transition where
  goal      : PwrMode
  cause   : Nat
  /-- the islands start from reset: a power-up, a wake from Dormant or a pulse on RESET_N -/
  cold    : Bool
  command : Option (Fin 4 × Word)
  /-- the commands in flight at its acceptance, which complete before the state is left (R511) -/
  waits   : List (Fin 4 × Word)
deriving DecidableEq, Repr

/-- The timing companion (R525, R526). -/
structure Companion where
  present : Bool
  bytes   : List Byte
  reason  : Nat
  retries : Nat
  readDue : Option Nat
  applied : Nat
  warmDue : Option Nat
  inUse   : Bool
deriving DecidableEq, Repr

/-- The instructions of the test port (R550): BYPASS and IDCODE, EXTEST, and any other that drives lands. -/
inductive TestInstr where
  | bypass | idcode | extest | drive (code : Nat)
deriving DecidableEq, Repr

/-- The test access port: whether TRST_N is low or unconnected, and the instruction it holds. -/
structure TestPort where
  held  : Bool
  instr : TestInstr
deriving DecidableEq, Repr

structure AonPart where
  mode      : PwrMode
  trans     : Option Transition
  wake      : Nat
  vinOk     : Bool
  vioOk     : Bool
  hotOff    : Bool
  causes    : List Nat
  held      : List Nat
  lastHeld  : Nat
  pllHeld   : List Nat
  wdTimes   : List (Nat × List Nat)
  temp      : Int
  freq      : List Nat
  floors    : List Nat
  /-- for an island whose clock is stretched, the uptime at which that ends and the frequency it had -/
  stretch   : List (Option (Nat × Nat))
  capW      : Nat
  comp      : Companion
  resetLow  : Bool
  perstLow  : Bool
  cascHead  : Bool
  dormantAt : Option Nat
  imageFail : Bool
  wakeFrame : Option (Nat × Nat)
  /-- Off by command or by heat: only VIN falling out of range and rising again ends it (R554, Table 18-4) -/
  offHeld   : Bool
  tap       : TestPort
deriving DecidableEq, Repr

end Sys2Proof.Machine
end

