-- ==== Sys2Proof/Types/Sillage.lean ====
section
/-! DEFINITION. Sillage, the event record (chapter 12): operands and state. -/

namespace Sys2Proof.Machine

/-! ### Operands -/

/-- A profile of EVR_CLASS_PROFILE: the interval and base of each class it names. -/
structure EvrProfile where
  classes  : List (Fin 64)
  interval : Nat
  base     : Word
deriving DecidableEq, Repr

/-- A signature block written to MRAM: when, and whether the write and the rewrite really read back differently (R377). -/
structure BlockWrite where
  at_   : Instant
  real1 : Bool
  real2 : Bool
deriving DecidableEq, Repr

structure EvrReadArgs where
  first : Nat
  last  : Nat
deriving DecidableEq, Repr

structure EvrHostArgs where
  cls    : Fin 64
  qty    : Word
  detail : Vector Word 16
deriving DecidableEq, Repr

structure EvrClassRaw where
  cls  : Fin 64
  ctl  : Word
  base : Word
deriving DecidableEq, Repr

/-! ### State -/

/-- An open accumulation of a class (R363, R364). `late` says that it should have closed while the queue was full (R367), `early` that it should have
closed early then, and `stop` the instant of a step that ended its epoch (R366). -/
structure Accum where
  start     : Instant
  opened    : Instant
  count     : Nat
  hist      : List Nat
  min       : Rat
  tMin      : Instant
  max       : Rat
  tMax      : Instant
  first     : Instant
  last      : Instant
  nInj      : Nat
  degraded  : Bool
  saturated : Bool
  detail    : List Word
  epoch     : Word
  late      : Bool
  early     : Bool
  stop      : Option Instant
deriving DecidableEq, Repr

/-- A closed record (Table 12-2): its sequence number, its flags, the class it is ordered by, and its first 252 bytes but for the flags, which
may still change until it is written. -/
structure EvrRecord where
  kind     : Nat
  cls      : Nat
  flags    : Nat
  epoch    : Word
  seq      : Nat
  tOpen    : Instant
  tClose   : Instant
  count    : Nat
  base     : Word
  hist     : List Nat
  min      : Word
  tMin     : Instant
  max      : Word
  tMax     : Instant
  first    : Instant
  last     : Instant
  nInj     : Nat
  detail   : List Word
  utc      : Nat
deriving DecidableEq, Repr

/-- A record in MRAM with the chain values before and after it (R373). -/
structure EvrStored where
  item : EvrRecord
  prev : List Byte
  hash : List Byte
deriving DecidableEq, Repr

/-- A signature block in MRAM: its area, its index there, the seqs it covers and its 256 bytes. -/
structure EvrBlock where
  area  : Nat
  k     : Nat
  first : Nat
  n     : Nat
  bytes : List Byte
deriving DecidableEq, Repr

structure EvrPart where
  /-- open accumulations by class -/
  open_    : List (Nat × Accum)
  /-- accumulations of an epoch that has ended, which wait for room in the queue (R366, R367) -/
  stuck    : List (Nat × Accum)
  /-- the uptime and the instant at which a class last closed a record -/
  lastClose : List (Nat × (Nat × Instant))
  queue    : List EvrRecord
  nextSeq  : Nat
  /-- records written: the seq that the next record in MRAM will have -/
  written  : Nat
  /-- seq of the CLEAR record of the last clear (R371) -/
  s0       : Nat
  /-- the chain value after the last record written -/
  chain    : List Byte
  /-- records in MRAM by slot: pinned, circulating and refuge -/
  pinned   : List (Nat × EvrStored)
  circ     : List (Nat × EvrStored)
  refuge   : List (Nat × EvrStored)
  /-- slots of the refuge written since manufacture -/
  nRefuge  : Nat
  blocks   : List EvrBlock
  /-- blocks of an area that wait to be written (R374): area, index, partial, power seal -/
  due      : List (Nat × Nat × Bool × Bool)
  /-- the first failure of each bank (R377, R378): its address, and whether it was injected -/
  bank0    : Option (Nat × Bool)
  bank1    : Option Bool
  wrapped  : Bool
  clears   : Nat
  nonce    : Option Nonce
  seqHi    : Word
  /-- what was open and queued is lost, and the next start writes the LOG record of R368 -/
  restart  : Bool
  /-- class settings in the configuration store, restored at power-up (R383) -/
  saved    : List (Nat × Word)
deriving DecidableEq, Repr

end Sys2Proof.Machine
end

