-- ==== Sys2Proof/Syntax.lean ====
section
/-! DEFINITION. The commands and events of the module: one constructor for each row of the opcode table, in the table's order, with the row's
operands. A command of Table 21-2 carries its header (Table 14-1). An event carries what comes from outside with it: the instant it happens at,
the lane or index it happens on, and the data it brings. The rule that gives each row its meaning stands beside it. -/

namespace Sys2Proof

open Sys2Proof.Machine

/-- One command or event. -/
inductive Instr where
  /-- IDENTITY (R439). Returns product code, stepping, firmware release, uid, ordering code, module index, head flag, ring members, lifecycle
  state and pair role. -/
  | identity (h : Hdr)
  /-- GLB_STATUS (R439). Returns the state of every island and the supervisor status, including SILLAGE_DEGRADED. -/
  | glbStatus (h : Hdr)
  /-- GLB_ENABLE (R439). Sets or clears the en field, and any further enable field the command names, of the named blocks' control registers; the
  change is refused on a locked field. -/
  | glbEnable (h : Hdr) (l : List EnableItem)
  /-- GLB_LOCK (R439). Sets the lock field of the named blocks, making their RWL fields read-only until the block is reset. -/
  | glbLock (h : Hdr) (l : List (Fin 20 × Fin 10))
  /-- REG_READ (R439). Reads up to 1,016 consecutive words; RC fields clear as they are read. -/
  | regRead (h : Hdr) (addr : Word) (n : Nat)
  /-- REG_WRITE (R575). Writes up to 503 address and value pairs in order under each block's rules; it is mirrored only when every pair lies in a
  mirrored window, and a mix of mirrored and unmirrored windows is refused. -/
  | regWrite (h : Hdr) (l : List (Word × Word))
  /-- AON_STATUS (R527). Returns the operating state, fault causes, temperature, rails, island frequencies and companion reason. -/
  | aonStatus (h : Hdr)
  /-- PWR_STATE (R509). Requests a transition to run, ready, dormant or off, subject to the pair-state and wake-source checks of R510. -/
  | pwrState (h : Hdr) (goal : PwrMode)
  /-- PWR_PROFILE (R524). Selects the fixed or efficient AVFS profile. -/
  | pwrProfile (h : Hdr) (efficient : Bool)
  /-- TC10_IDENTITY (R527). Returns the 256-byte companion identity copy and its reason code. -/
  | tc10Identity (h : Hdr)
  /-- AVFS_RAW (R524). Sets the power cap and per-island frequency floors; a cap that the floors would break is not applied and sets cap_held. -/
  | avfsRaw (h : Hdr) (a : AvfsArgs)
  /-- ISLAND_RESET (R520). Resets a named island, or releases one held in reset after repeated watchdog expiries. -/
  | islandReset (h : Hdr) (isl : Fin 23)
  /-- WAKE_PATTERN (R102). Takes byte offsets and values, and computes and writes the mask and CRC-16 check value of a wake pattern. -/
  | wakePattern (h : Hdr) (a : WakePatternArgs)
  /-- WAKE_PATTERN_RAW (R102). Writes a wake pattern's mask and check value as given. -/
  | wakePatternRaw (h : Hdr) (a : WakePatternRawArgs)
  /-- TIME_STATUS (R68). Returns servo state, source, offset, epoch, time-quality code and holdover time. -/
  | timeStatus (h : Hdr)
  /-- TIME_PROFILE (R69). Sets PTP role, profile, domain and ports from a named profile without stepping module time. -/
  | timeProfile (h : Hdr) (p : TimeProfileArgs)
  /-- TIME_RESTEP (R54). Accepts a step of module time to the source at the next eligible whole second and replies ACCEPTED. -/
  | timeRestep (h : Hdr)
  /-- TIME_SOURCES (R69). Writes the source priority list; a resulting change of source follows R31. -/
  | timeSources (h : Hdr) (p : TimeSourcesArgs)
  /-- TIME_OUTPUTS (R68). Sets PPS_OUT, TOD_OUT and the sentence rate. -/
  | timeOutputs (h : Hdr) (p : TimeOutputsArgs)
  /-- TIME_SERVO (R578). Sets the servo bandwidth bw_mhz, lock_ns and drift_ps. -/
  | timeServo (h : Hdr) (p : TimeServoArgs)
  /-- TIME_DISCONT_CFG (R68). Sets step_thresh, confirm and the discontinuity mode. -/
  | timeDiscontCfg (h : Hdr) (p : TimeDiscontArgs)
  /-- TIME_PTP_DS (R68). Reads and writes the PTP data sets and the per-port asymmetry. -/
  | timePtpDs (h : Hdr) (p : TimePtpDsArgs)
  /-- PORT_STATUS (R111). Returns link, mode, optics reason and counters of a port. -/
  | portStatus (h : Hdr) (p : Fin 10)
  /-- PORT_PROFILE (R111). Sets mode, FEC and auto-negotiation from a named profile. -/
  | portProfile (h : Hdr) (a : PortProfileArgs)
  /-- PORT_RINGS (R111). Sets ring bases, sizes and host filters of a port. -/
  | portRings (h : Hdr) (a : PortRingsArgs)
  /-- PORT_PRP (R90). Enables PRP on a LAN pair and sets forget_ms. -/
  | portPrp (h : Hdr) (a : PortPrpArgs)
  /-- PORT_MACSEC (R88). Installs or retires a secure association from a Flacon slot of class MACsec and sets the cipher suite and validateFrames. -/
  | portMacsec (h : Hdr) (a : PortMacsecArgs)
  /-- PORT_OPTICS (R109). Returns the A0h copy, and A2h on request. -/
  | portOptics (h : Hdr) (p : Fin 10) (a2h : Option (List Byte))
  /-- PORT_EQ (R110). Sets transmit cursors, CTLE and freeze. -/
  | portEq (h : Hdr) (a : PortEqArgs)
  /-- PORT_MAC_RAW (R111). Sets max_len, PAUSE thresholds and quanta, pn_warn, replay window and confidentiality offset. -/
  | portMacRaw (h : Hdr) (a : PortMacRawArgs)
  /-- PORT_OPT_OVERRIDE (R109). Sets or clears the optics override that admits optics failing checks 3 to 5. -/
  | portOptOverride (h : Hdr) (p : Fin 10) (on : Bool)
  /-- ING_STATUS (R142). Returns ingress counters, table use and spill level. -/
  | ingStatus (h : Hdr)
  /-- ING_STREAM_ADD (R120). Adds a stream in the lowest run of consecutive FREE entries; C37.118.2 entries start in LEARNING. -/
  | ingStreamAdd (h : Hdr) (a : StreamAddArgs)
  /-- ING_STREAM_REMOVE (R142). Makes a stream's entries FREE, or fails with ING_NO_STREAM. -/
  | ingStreamRemove (h : Hdr) (r : StreamRef)
  /-- ING_STREAM_LIST (R142). Returns entries with state and channel range. -/
  | ingStreamList (h : Hdr)
  /-- ING_UNKNOWN (R138). Returns the list of the 64 most recently seen unknown keys. -/
  | ingUnknown (h : Hdr)
  /-- ING_CFG_FETCH (R134). Fetches a stream configuration now. -/
  | ingCfgFetch (h : Hdr) (r : StreamRef)
  /-- ING_HEADER (R142). Returns the last header frame of a stream. -/
  | ingHeader (h : Hdr) (r : StreamRef)
  /-- ING_STREAM_RAW (R119). Writes stream table entry words as given, including layout and state. -/
  | ingStreamRaw (h : Hdr) (a : StreamRawArgs)
  /-- ING_CHAN_SCALE (R129). Writes channel types, scale factors and masks. -/
  | ingChanScale (h : Hdr) (a : ChanScaleArgs)
  /-- ING_TUNE (R142). Sets spill size, tq_max, cfg_poll and unk_to_fw. -/
  | ingTune (h : Hdr) (a : IngTuneArgs)
  /-- PEC_STATUS (R182). Returns slot states, Drydown left, counters, sync_pend and t0. -/
  | pecStatus (h : Hdr)
  /-- PEC_PROFILE (R157). Sets the estimation profile of named slots, checked under R157, and schedules their restart; replies with t0, G and
  Drydown. -/
  | pecProfile (h : Hdr) (a : PecProfileArgs)
  /-- PEC_INPUTS (R182). Sets enable, scale, type and fref of estimation inputs. -/
  | pecInputs (h : Hdr) (l : List PecInput)
  /-- PEC_THRESHOLDS (R177). Sets the thresholds, hysteresis, debounce and enables of estimated channels. -/
  | pecThresholds (h : Hdr) (l : List PecThreshold)
  /-- SYNC_DECIM (R170). Schedules a synchronised restart of all slots at t0, merging with one already pending. -/
  | syncDecim (h : Hdr)
  /-- PEC_BANK_SWAP (R172). Swaps named slots to the other coefficient bank, with a cross-fade or as a restart. -/
  | pecBankSwap (h : Hdr) (a : PecSwapArgs)
  /-- PEC_SLOT_RAW (R157). Writes D, fir_prof, hold_max, accept_test and xf_len of a slot as given. -/
  | pecSlotRaw (h : Hdr) (a : PecSlotRawArgs)
  /-- PEC_COEF_LOAD (R151). Writes a coefficient bank profile, refusing an asymmetric profile or one in use. -/
  | pecCoefLoad (h : Hdr) (a : PecCoefArgs)
  /-- PEC_BANK_SWAP_X (R175). Bank swap with the queue option that holds the swap behind a running cross-fade. -/
  | pecBankSwapX (h : Hdr) (a : PecSwapArgs)
  /-- PEC_DSYNC_CFG (R170). Sets dsync_en and dsync_edge. -/
  | pecDsyncCfg (h : Hdr) (enable : Bool) (falling : Bool)
  /-- ALN_STATUS (R213). Returns group states, needs, rate sum, counters and last seq. -/
  | alnStatus (h : Hdr)
  /-- ALN_GROUP_START (R202). Starts a STOPPED group with a start instant at least 100 ms ahead, checked against the assembly and rate limits. -/
  | alnGroupStart (h : Hdr) (a : GroupStartArgs)
  /-- ALN_GROUP_STOP (R202). Stops a group at a stop instant, or at once with the flush option or from STARTING. -/
  | alnGroupStop (h : Hdr) (g : Fin 32) (flush : Bool)
  /-- ALN_GROUP_CHANNELS (R204). Adds or removes group channels, effective at t_eff, and increases set_ver. -/
  | alnGroupChannels (h : Hdr) (a : GroupChanArgs)
  /-- ALN_GROUP_TIMING (R204). Sets W, d, min_fill and fill_missing of a group, effective at t_eff. -/
  | alnGroupTiming (h : Hdr) (a : GroupTimingArgs)
  /-- ALN_HIST_ALLOC (R210). Sets the history depth and max_chan of a STOPPED group. -/
  | alnHistAlloc (h : Hdr) (a : HistAllocArgs)
  /-- ALN_HIST_READ (R212). Copies whole history snapshots of one group to host memory in seq order. -/
  | alnHistRead (h : Hdr) (a : HistReadArgs)
  /-- ALN_GROUP_RAW (R207). Writes the ALN_GRP registers of a STOPPED group as given. -/
  | alnGroupRaw (h : Hdr) (a : GroupRawArgs)
  /-- ALN_CHAN_RAW (R215). Writes channel-table words as given, under the membership checks of R215. -/
  | alnChanRaw (h : Hdr) (l : List (Nat × Word))
  /-- ALN_TUNE (R213). Sets snap_tol and the history partition size. -/
  | alnTune (h : Hdr) (a : AlnTuneArgs)
  /-- SPL_STATUS (R243). Returns ledger use and peak, group speculation states and counters. -/
  | splStatus (h : Hdr)
  /-- SPL_GROUP (R237). Sets a group's ledger depth from a named profile, effective at t_eff. -/
  | splGroup (h : Hdr) (g : Fin 32) (p : DepthProfile)
  /-- SPL_CLASS (R238). Sets a predictor class from a named profile, effective at the first deadline at least 100 ms ahead. -/
  | splClass (h : Hdr) (n : Fin 16) (kind : Fin 4)
  /-- SPL_LEDGER_READ (R234). Returns ledger entries with state, group, instant, epoch and count, and index lists and contradiction counts on
  request. -/
  | splLedgerRead (h : Hdr) (lists : Bool) (contra : Bool)
  /-- SPL_CLASS_RAW (R238). Writes kind, max_age and tolerances of a class as given. -/
  | splClassRaw (h : Hdr) (a : ClassRawArgs)
  /-- SPL_GROUP_RAW (R237). Writes spec_depth and spec_max of a group as given. -/
  | splGroupRaw (h : Hdr) (g : Fin 32) (depth : Fin 64) (max64 : Bool)
  /-- OSC_STATUS (R274). Returns set states, core use, counters and the last update per set. -/
  | oscStatus (h : Hdr)
  /-- OSC_SET_PROFILE (R246). Sets a STOPPED analysis set from a named profile. -/
  | oscSetProfile (h : Hdr) (a : OscProfileArgs)
  /-- OSC_SIGNALS (R251). Writes signal slots of a STOPPED set. -/
  | oscSignals (h : Hdr) (set : Fin 32) (l : List OscSignal)
  /-- OSC_THRESHOLDS (R251). Sets damping threshold, hysteresis, amplitude limits and persistences per band. -/
  | oscThresholds (h : Hdr) (a : OscThresholdArgs)
  /-- OSC_SET_START (R272). Starts a set after the rate, core and band checks, restarting it at its first update. -/
  | oscSetStart (h : Hdr) (set : Fin 32)
  /-- OSC_SET_STOP (R274). Stops a set; its active alarms clear with cause STOP. -/
  | oscSetStop (h : Hdr) (set : Fin 32)
  /-- OSC_MODES_READ (R274). Returns tracks with frequency, damping, amplitude, class, flags and shapes on request. -/
  | oscModesRead (h : Hdr) (set : Fin 32) (shapes : Bool)
  /-- OSC_DEF_BRANCHES (R276). Writes dissipating-energy branch entries. -/
  | oscDefBranches (h : Hdr) (l : List OscBranch)
  /-- OSC_FORCED_READ (R274). Returns forced records with source bus, area, confidence, age and branch flows. -/
  | oscForcedRead (h : Hdr) (set : Fin 32) (flows : Bool)
  /-- OSC_SET_RAW (R251). Writes the OSC_SET registers of a set as given. -/
  | oscSetRaw (h : Hdr) (set : Fin 32) (l : List (Fin 32 × Word))
  /-- OSC_SIG_RAW (R276). Writes signal-table and branch-table words as given. -/
  | oscSigRaw (h : Hdr) (l : List OscTblEntry)
  /-- OSC_TUNE (R251). Sets tau, k_a, k_d, min_valid and the forced-detector parameters. -/
  | oscTune (h : Hdr) (a : OscTuneArgs)
  /-- ISL_STATUS (R300). Returns model version, CRC, t_eff, missing ring members and counters. -/
  | islStatus (h : Hdr)
  /-- ISL_PROFILE (R300). Sets the coherence and alarm parameters from a named profile. -/
  | islProfile (h : Hdr) (a : IslProfileArgs)
  /-- ISL_MODEL_LOAD (R280). Loads and stages a bus-branch model from a host buffer for activation at t_eff. -/
  | islModelLoad (h : Hdr) (b : ModelBuffer)
  /-- ISL_ISLANDS_READ (R300). Returns islands of the last committed view with keys, counts, mean df and alarm states. -/
  | islIslandsRead (h : Hdr) (labels : Bool)
  /-- ISL_TUNE (R300). Sets ring_wait, ring_close, topo_pers and topo_clr. -/
  | islTune (h : Hdr) (a : IslTuneArgs)
  /-- ISL_TBL_RAW (R302). Writes staged model records as given. -/
  | islTblRaw (h : Hdr) (l : List IslRawRec)
  /-- ISL_MODEL_ACTIVATE (R302). Checks the staged model written by ISL_TBL_RAW and stages it for t_eff. -/
  | islModelActivate (h : Hdr) (a : IslActivateArgs)
  /-- PUB_STATUS (R328). Returns stream and control-block states, alarm table use and counters. -/
  | pubStatus (h : Hdr)
  /-- PUB_STREAM_PROFILE (R310). Sets kind, mode, source group, destination, ports and auth of a stream from a named profile. -/
  | pubStreamProfile (h : Hdr) (a : StreamProfileArgs)
  /-- PUB_STREAM_LAYOUT (R304). Loads a stream layout from a host buffer after its group, channel-count, frame-size and CRC checks. -/
  | pubStreamLayout (h : Hdr) (stream : Fin 64) (l : LayoutBuffer)
  /-- PUB_STREAM_CTL (R311). Starts or stops an output stream. -/
  | pubStreamCtl (h : Hdr) (stream : Fin 64) (run : Bool)
  /-- PUB_GOCB (R321). Sets a control block's kind, strings, members, destination and auth, and starts or stops it. -/
  | pubGocb (h : Hdr) (a : GocbArgs)
  /-- PUB_ALARM_OUT (R324). Sets an ALARM_OUT land's selectors, prov_en, pol and min_on_ms. -/
  | pubAlarmOut (h : Hdr) (a : AlarmOutArgs)
  /-- PUB_LIMITS (R330). Writes limit entries from a named profile; an entry written while its alarm is active clears it with cause CONFIG at the
  next commit. -/
  | pubLimits (h : Hdr) (l : List LimitArgs)
  /-- PUB_ALARMS_READ (R328). Returns active and recently changed alarms with state, instant and flags. -/
  | pubAlarmsRead (h : Hdr) (src : Option (Fin 3))
  /-- PUB_STREAM_RAW (R310). Writes PUB_STRM registers and lead_s as given. -/
  | pubStreamRaw (h : Hdr) (a : PubStreamRawArgs)
  /-- PUB_GOCB_RAW (R320). Writes PUB_GOCB registers, t_min and t0 as given. -/
  | pubGocbRaw (h : Hdr) (a : GocbRawArgs)
  /-- PUB_TBL_RAW (R330). Writes limit, land-selector and member table words as given. -/
  | pubTblRaw (h : Hdr) (l : List PubTblEntry)
  /-- CAP_STATUS (R360). Returns capture unit states, partition use and counters. -/
  | capStatus (h : Hdr)
  /-- CAP_UNIT_PROFILE (R360). Sets mode, pre, post and a sequencer of an IDLE unit from a named profile. -/
  | capUnitProfile (h : Hdr) (a : CapProfileArgs)
  /-- CAP_CHANNELS (R332). Sets the capture channels of an IDLE unit. -/
  | capChannels (h : Hdr) (u : Fin 4) (l : List CapChannel)
  /-- CAP_ARM (R337). Arms a unit, reserving partition space, recycling old records where allowed; replies with the record number and size. -/
  | capArm (h : Hdr) (u : Fin 4)
  /-- CAP_STOP (R357). Closes a TRIGGERED record with STOPPED, or disarms, or with the keep option closes a NO_TRIGGER record. -/
  | capStop (h : Hdr) (u : Fin 4) (keep : Bool)
  /-- CAP_FORCE (R348). Requests a manual trigger at the first row evaluated after acceptance. -/
  | capForce (h : Hdr) (u : Fin 4)
  /-- CAP_LIST (R359). Returns the capture record directory. -/
  | capList (h : Hdr) (first : Fin 256)
  /-- CAP_READ (R359). Copies the header and a range of rows of a closed record to a host buffer. -/
  | capRead (h : Hdr) (a : CapReadArgs)
  /-- CAP_FREE (R359). Frees a closed, unlocked capture record not being read. -/
  | capFree (h : Hdr) (n : Fin 256)
  /-- CAP_LOCK (R359). Sets or clears the lock of a capture record. -/
  | capLock (h : Hdr) (n : Fin 256) (lock : Bool)
  /-- CAP_SEQ_RAW (R360). Writes sequencer state words of an IDLE unit as given. -/
  | capSeqRaw (h : Hdr) (u : Fin 4) (l : List CapSeqWord)
  /-- CAP_ARM_X (R338). Arms a unit with the truncate option. -/
  | capArmX (h : Hdr) (u : Fin 4) (trunc : Bool)
  /-- CAP_TUNE (R335). Sets row_wait_ms, part_gib, TRIG_IN edges and out_src. -/
  | capTune (h : Hdr) (a : CapTuneArgs)
  /-- EVR_STATUS (R382). Returns Sillage status, next seq, area use and counters. -/
  | evrStatus (h : Hdr)
  /-- EVR_CLASS_PROFILE (R366). Sets class intervals and bases from a named profile; changed intervals close their accumulations early. -/
  | evrClassProfile (h : Hdr) (p : EvrProfile)
  /-- EVR_READ (R382). Copies records and blocks of a seq range to a host buffer. -/
  | evrRead (h : Hdr) (a : EvrReadArgs)
  /-- EVR_PUBKEY (R382). Returns uid, curve, key_id and the public key. -/
  | evrPubkey (h : Hdr)
  /-- EVR_SEAL (R374). Closes every accumulation and writes partial signature blocks. -/
  | evrSeal (h : Hdr)
  /-- EVR_CLEAR_NONCE (R379). Returns a single-use clear nonce valid for 60 s. -/
  | evrClearNonce (h : Hdr)
  /-- EVR_CLEAR (R380). Checks the HMAC tag and nonce, closes accumulations, erases the pinned and circulating areas and writes a CLEAR record. -/
  | evrClear (h : Hdr) (nonce : List Byte) (tag : List Byte)
  /-- EVR_HOST_EVENT (R381). Accumulates one host event into a class from 48 to 63. -/
  | evrHostEvent (h : Hdr) (a : EvrHostArgs)
  /-- EVR_CLASS_RAW (R366). Writes EVR_CLASS_CTL and EVR_CLASS_BASE as given. -/
  | evrClassRaw (h : Hdr) (l : List EvrClassRaw)
  /-- KEY_STATUS (R408). Returns lifecycle state, slot use and counters. -/
  | keyStatus (h : Hdr)
  /-- KEY_INFO (R400). Returns a slot's attributes, state and check value, with KEY_ORPHANED for an orphan. -/
  | keyInfo (h : Hdr) (slot : Fin 256)
  /-- KEY_GENERATE (R389). Creates a key in an EMPTY slot from the random generator. -/
  | keyGenerate (h : Hdr) (a : KeyGenArgs)
  /-- KEY_IMPORT (R391). Creates a key in an EMPTY slot by AES-KWP unwrap under a key-encryption slot. -/
  | keyImport (h : Hdr) (a : KeyImportArgs)
  /-- KEY_DERIVE (R390). Creates a child key by SP 800-108 counter-mode derivation from a derive-only parent. -/
  | keyDerive (h : Hdr) (a : KeyDeriveArgs)
  /-- KEY_REPLACE (R395). Stages a replacement key in a shadow and, unless generated, checks its value and commits it. -/
  | keyReplace (h : Hdr) (a : KeyReplaceArgs)
  /-- KEY_REPLACE_COMMIT (R396). Commits a staged generated replacement key. -/
  | keyReplaceCommit (h : Hdr) (slot : Fin 256) (kcv : List Byte)
  /-- KEY_DESTROY (R400). Destroys a slot and applies parent invalidation to its children. -/
  | keyDestroy (h : Hdr) (slot : Fin 256)
  /-- KEY_EXPORT (R387). Exports a key wrapped under a key-encryption slot, never from an export_never slot. -/
  | keyExport (h : Hdr) (slot : Fin 256) (kek : Fin 256)
  /-- KEY_LC_NONCE (R403). Returns a single-use lifecycle nonce valid for 60 s. -/
  | keyLcNonce (h : Hdr)
  /-- KEY_LIFECYCLE (R404). Performs an authorised lifecycle transition, destroying the slots of Table 13-4. -/
  | keyLifecycle (h : Hdr) (goal : Lifecycle) (nonce : List Byte) (tag : List Byte)
  /-- KEY_ATTEST (R406). Returns a statement about a slot signed by the attestation key, with its certificate. -/
  | keyAttest (h : Hdr) (slot : Fin 256) (nonce : List Byte)
  /-- KEY_TXN_RESULT (R399). Returns the outcome of the last replacement whose reply was not delivered. -/
  | keyTxnResult (h : Hdr)
  /-- KEY_IMPORT_CLEAR (R389). Creates a key from clear material, in PROVISIONED and SERVICE only. -/
  | keyImportClear (h : Hdr) (a : KeyClearArgs)
  /-- KEY_ATTR_RAW (R408). Lowers a slot's use counter or sets export_never. -/
  | keyAttrRaw (h : Hdr) (a : KeyAttrArgs)
  /-- KEY_TUNE (R403). Sets the remask period, auth_slot and auth_en. -/
  | keyTune (h : Hdr) (a : KeyTuneArgs)
  /-- CMD_SESSION_OPEN (R422). Opens or reopens a session, clearing its replay window and breaking its locks. -/
  | cmdSessionOpen (h : Hdr) (expert : Bool)
  /-- CMD_SESSION_CLOSE (R422). Closes a session and breaks its locks. -/
  | cmdSessionClose (h : Hdr)
  /-- LOCK_ACQUIRE (R433). Acquires a lock in increasing order with a lease, at once or by waiting in a FIFO queue. -/
  | lockAcquire (h : Hdr) (n : Fin 32) (leaseMs : Nat) (wait : Bool)
  /-- LOCK_RENEW (R434). Restarts a held lease with a new length. -/
  | lockRenew (h : Hdr) (n : Fin 32) (leaseMs : Nat)
  /-- LOCK_RELEASE (R434). Frees a held lock and hands it to the next waiter. -/
  | lockRelease (h : Hdr) (n : Fin 32)
  /-- LOCK_STATUS (R439). Returns owner, remaining lease and waiters of each lock. -/
  | lockStatus (h : Hdr)
  /-- CMD_ECHO (R439). Returns its payload. -/
  | cmdEcho (h : Hdr) (payload : List Word)
  /-- CMD_TUNE (R437). Sets def_timeout_ms, coal_cnt and coal_us. -/
  | cmdTune (h : Hdr) (a : CmdTuneArgs)
  /-- MBX_STATUS (R461). Returns channel states, counters and the generation of a named identity. -/
  | mbxStatus (h : Hdr) (ident : MasterId)
  /-- MBX_SEND (R448). Sends 16 words to a channel of the target, optionally waiting for it to empty. -/
  | mbxSend (h : Hdr) (n : Fin 64) (words : Vector Word 16) (wait : Bool)
  /-- MBX_RECV (R461). Returns a message with its stamps and empties the channel. -/
  | mbxRecv (h : Hdr) (n : Fin 64) (wait : Bool)
  /-- MBX_PEEK (R461). Returns a message without emptying the channel. -/
  | mbxPeek (h : Hdr) (n : Fin 64)
  /-- MBX_BIND (R451). Writes a binding entry that confines a channel to two identities. -/
  | mbxBind (h : Hdr) (n : Fin 64) (en : Bool) (a : MasterId) (b : MasterId)
  /-- MBX_CLEAR (R446). Empties a channel and ends its claim. -/
  | mbxClear (h : Hdr) (n : Fin 64)
  /-- CAS_STATUS (R461). Returns ring state, members, map and counters. -/
  | casStatus (h : Hdr)
  /-- CAS_REJOIN (R459). Checks an absent index and schedules a rejoin trial of a restarted member. -/
  | casRejoin (h : Hdr) (m : Fin 64)
  /-- CAS_REFORM (R454). Renumbers the ring in ring order with a new formation token and replies ACCEPTED. -/
  | casReform (h : Hdr)
  /-- CAS_TUNE (R461). Sets skip_en and the cascade interrupt enables. -/
  | casTune (h : Hdr) (skipEn : Option Bool) (intEn : Option Bool)
  /-- MEM_STATUS (R476). Returns partition sizes, channel utilisation and counters. -/
  | memStatus (h : Hdr)
  /-- MEM_TICKETS (R469). Sets requester tickets from a named profile. -/
  | memTickets (h : Hdr) (p : TicketProfile)
  /-- MEM_HOST_READ (R476). Copies a host-area range to a host buffer. -/
  | memHostRead (h : Hdr) (off : Nat) (len : Nat)
  /-- MEM_HOST_WRITE (R476). Copies a host buffer to a host-area range. -/
  | memHostWrite (h : Hdr) (off : Nat) (data : List Byte)
  /-- MEM_TICKETS_RAW (R469). Writes MEM_TKT0 and MEM_TKT1 as given. -/
  | memTicketsRaw (h : Hdr) (t0 : Word) (t1 : Word)
  /-- MEM_LFSR (R470). Reads or seeds the arbitration LFSR of a channel. -/
  | memLfsr (h : Hdr) (c : Fin 32) (seed : Option Word)
  /-- PAIR_STATUS (R506). Returns pair state, peer state, interlock view, copy progress and counters. -/
  | pairStatus (h : Hdr)
  /-- PAIR_FORM (R486). Sets side, prefer_active and en; a prefer_active module claims the interlock. -/
  | pairForm (h : Hdr) (sideB : Bool) (prefer : Bool)
  /-- PAIR_JOIN (R488). Starts the state copy from the ACTIVE_SOLO module to its peer and replies ACCEPTED. -/
  | pairJoin (h : Hdr)
  /-- PAIR_SWAP (R500). Starts a role swap: stops class 1 and 2 hand-over, drains frames, sends a final cursor and releases the interlock. -/
  | pairSwap (h : Hdr)
  /-- PAIR_SWAP_SCHED (R502). Sets the scheduled swap interval. -/
  | pairSwapSched (h : Hdr) (hours : Nat)
  /-- PAIR_RESTART (R503). Puts an ORPHAN whose phase A completed into ACTIVE_SOLO and restarts groups, slots, sets and the island engine. -/
  | pairRestart (h : Hdr)
  /-- PAIR_SPLIT (R482). Releases the interlock if held and makes the module UNPAIRED. -/
  | pairSplit (h : Hdr)
  /-- PAIR_TUNE (R506). Sets ilk_quiet, hb_miss, ack_us and swap_check_ms. -/
  | pairTune (h : Hdr) (a : PairTuneArgs)
  /-- FLT_STATUS (R540). Returns detection counts, slot states and the last detection per detector. -/
  | fltStatus (h : Hdr)
  /-- INJECT (R532). Arms an injection slot from a named profile, or disarms one. -/
  | inject (h : Hdr) (a : InjectArgs)
  /-- FLT_INJ_RAW (R532). Writes the FLT_INJ words of a slot as given. -/
  | fltInjRaw (h : Hdr) (a : InjRawArgs)
  /-- SQ_DOORBELL (R411). A write of CMD_SQ_TAIL announces new submission slots to fetch. -/
  | sqDoorbell (at_ : Instant) (tail : Nat)
  /-- RQ_HEAD_FREE (R412). A write of CMD_RQ_HEAD frees reply slots, letting stopped fetching resume. -/
  | rqHeadFree (at_ : Instant) (head : BitVec 8)
  /-- HEARTBEAT_FEED (R438). A write of CMD_HEARTBEAT feeds the supervisor heartbeat. -/
  | heartbeatFeed (at_ : Instant)
  /-- FETCH_ENABLE (R412). Setting CMD_CTL.en starts command fetching from the submission head. -/
  | fetchEnable (at_ : Instant)
  /-- FETCH_DISABLE (R410). Clearing CMD_CTL.en stops fetching after the command in progress. -/
  | fetchDisable (at_ : Instant)
  /-- BLOCK_LOCK_SET (R7). Writing 1 to a block's lock bit makes its RWL fields read-only until the block's reset. -/
  | blockLockSet (at_ : Instant) (b : Fin 20) (port : Fin 10)
  /-- REG_WRITE_PLAIN (R7). A write to a register with no behaviour of its own sets RW fields, clears W1C bits and ignores RO, reserved and locked
  fields. -/
  | regWritePlain (at_ : Instant) (addr : Word) (v : Word)
  /-- RC_COUNTER_READ (R7). A read of an RC counter returns its value and clears it. -/
  | rcCounterRead (at_ : Instant) (addr : Word)
  /-- COUNTER64_LO_READ (R113). Reading the _LO word of a 64-bit port counter returns the low half, latches the high half and clears the counter. -/
  | counter64LoRead (at_ : Instant) (p : Fin 10) (tx : Bool)
  /-- TIME_NOW_LATCH_READ (R70). Reading TB_NOW_FRAC latches the other three module-time words. -/
  | timeNowLatchRead (at_ : Instant)
  /-- FINE_TIME_LATCH_READ (R70). Reading TB_FINE_LO latches fine time bits 39:32 into TB_FINE_HI. -/
  | fineTimeLatchRead (at_ : Instant)
  /-- EVR_SEQ_LATCH_READ (R383). Reading EVR_SEQ_LO latches EVR_SEQ_HI. -/
  | evrSeqLatchRead (at_ : Instant)
  /-- TXTS_ID_READ (R66). Reading TB_TXTS_ID removes the oldest transmit-timestamp entry and copies it into the companion registers. -/
  | txtsIdRead (at_ : Instant) (p : Fin 10)
  /-- TDC_STAMP_READ (R576). Reading word 0 of TB_TDCn_STAMP dequeues or copies a stamp into the four stamp words. -/
  | tdcStampRead (at_ : Instant) (n : Fin 6)
  /-- COMPARE_ARM (R71). Writing arm as 1 takes the 40-bit target and arms a compare unit, firing at once if the target is already reached. -/
  | compareArm (at_ : Instant) (n : Fin 8) (irq : Bool) (action : Fin 4)
  /-- PORT_MODE_CHANGE (R76). A write changing PORT_CTL.mode or fec on an enabled port takes the link down, drops queued frames and restarts in
  the new mode. -/
  | portModeChange (at_ : Instant) (p : Fin 10) (mode : Fin 8) (fec : Fin 4)
  /-- RX_TAIL_WRITE (R97). Advancing a receive ring TAIL passes descriptors to the module. -/
  | rxTailWrite (at_ : Instant) (p : Fin 10) (r : Fin 2) (tail : BitVec 12)
  /-- TX_TAIL_WRITE (R97). Advancing a transmit ring TAIL passes frames to the module for transmission. -/
  | txTailWrite (at_ : Instant) (p : Fin 10) (r : Fin 2) (tail : BitVec 12) (descs : List TxDesc)
  /-- ING_TBL_READ (R143). ING_TBL_CMD op 1 reads entry ING_TBL_IDX into W0-W7. -/
  | ingTblRead (at_ : Instant)
  /-- ING_TBL_WRITE (R144). ING_TBL_CMD op 2 writes W0-W7 to the entry under R122, R124 and R126, reporting err. -/
  | ingTblWrite (at_ : Instant)
  /-- PEC_TBL_READ (R184). PEC_TBL_CMD op 1 reads an estimation table entry into W0-W7. -/
  | pecTblRead (at_ : Instant)
  /-- PEC_TBL_WRITE (R184). PEC_TBL_CMD op 2 writes an estimation table entry; a header write commits a coefficient profile. -/
  | pecTblWrite (at_ : Instant)
  /-- ALN_CHAN_READ (R215). ALN_CHAN_CMD op 1 reads a channel-table entry. -/
  | alnChanRead (at_ : Instant)
  /-- ALN_CHAN_WRITE (R215). ALN_CHAN_CMD op 2 writes a channel-table entry under the membership and state checks. -/
  | alnChanWrite (at_ : Instant)
  /-- OSC_TBL_READ (R276). OSC_TBL_CMD op 1 reads a signal or branch entry. -/
  | oscTblRead (at_ : Instant)
  /-- OSC_TBL_WRITE (R276). OSC_TBL_CMD op 2 writes a signal or branch entry. -/
  | oscTblWrite (at_ : Instant)
  /-- ISL_TBL_READ_ACTIVE (R302). ISL_TBL_CMD op 1 reads a record of the active model. -/
  | islTblReadActive (at_ : Instant)
  /-- ISL_TBL_WRITE_STAGED (R302). ISL_TBL_CMD op 2 writes a record of the staged model. -/
  | islTblWriteStaged (at_ : Instant)
  /-- ISL_TBL_READ_STAGED (R302). ISL_TBL_CMD op 3 reads a record of the staged model. -/
  | islTblReadStaged (at_ : Instant)
  /-- PUB_TBL_READ (R330). PUB_TBL_CMD op 1 reads a limit, land-selector or member entry. -/
  | pubTblRead (at_ : Instant)
  /-- PUB_TBL_WRITE (R330). PUB_TBL_CMD op 2 writes a limit, land-selector or member entry. -/
  | pubTblWrite (at_ : Instant)
  /-- ALN_GRP_REG_WRITE (R207). A direct write to ALN_GRP registers is accepted only while the group is STOPPED, otherwise ignored and counted. -/
  | alnGrpRegWrite (at_ : Instant) (g : Fin 32) (i : Fin 3) (v : Word)
  /-- SPL_CLASS_REG_WRITE (R244). Class words written by one REG_WRITE form one pending class change, refused while another is pending. -/
  | splClassRegWrite (at_ : Instant) (l : List (Fin 16 × Fin 4 × Word))
  /-- CAP_PART_WRITE (R335). A write of CAP_CTL.part_gib takes effect only while every unit is IDLE and no record is held. -/
  | capPartWrite (at_ : Instant) (gib : Fin 16)
  /-- MBX_WORD_WRITE (R444). A channel word write claims, stages or fills a mailbox channel, or is dropped by claim, full or binding. -/
  | mbxWordWrite (at_ : Instant) (ident : MasterId) (n : Fin 64) (j : Fin 16) (v : Word)
  /-- MBX_W15_READ (R445). A read of W15 while full clears full and empties the channel. -/
  | mbxW15Read (at_ : Instant) (n : Fin 64)
  /-- MBX_BIND_WRITE (R451). A write of a binding entry, locked once en is 1. -/
  | mbxBindWrite (at_ : Instant) (n : Fin 64) (w : Word)
  /-- INJ_SLOT_ARM (R532). Writing FLT_INJ_CTL.arm as 1 arms an injection slot and records an INJECT event. -/
  | injSlotArm (at_ : Instant) (slot : Fin 8) (session : Fin 4)
  /-- INJ_SLOT_DISARM (R535). Writing arm as 0 disarms a slot, stopping one that is firing. -/
  | injSlotDisarm (at_ : Instant) (slot : Fin 8)
  /-- COMMAND_FETCH (R426). The module copies the command at the submission head when reply slots and in-flight room allow, and starts its header
  checks. -/
  | commandFetch (op : BitVec 16) (h : Hdr)
  /-- COMMAND_TIMEOUT (R428). The per-command timeout expires before the commit point; the command is abandoned with TIMEOUT. -/
  | commandTimeout (session : Fin 4) (seq : Word)
  /-- CORE_WATCHDOG_EXPIRY (R429). A command core watchdog expires; the core resets and its commands reply by commit point. -/
  | coreWatchdogExpiry (at_ : Instant) (core : Fin 4) (real : Bool) (cmds : List (Fin 4 × Word))
  /-- LOCK_LEASE_EXPIRY (R435). A lock lease lapses and the lock is broken. -/
  | lockLeaseExpiry (n : Fin 32)
  /-- HEARTBEAT_EXPIRY (R438). The supervisor heartbeat expires: sessions close, locks break, fetching stops and ring positions return to zero. -/
  | heartbeatExpiry
  /-- REPLY_COALESCE_EXPIRY (R437). coal_us after a session's first waiting reply, its reply vector bit sets. -/
  | replyCoalesceExpiry (n : Fin 4)
  /-- CASCADE_REPLY_AGGREGATE (R431). The head writes one aggregated reply after every ring member has replied or the timeout expires. -/
  | cascadeReplyAggregate (at_ : Instant) (session : Fin 4) (seq : Word)
  /-- ROUTED_COMMAND_RECEIVE (R430). A ring member receives a command routed by the head and executes it. -/
  | routedCommandReceive (op : BitVec 16) (h : Hdr)
  /-- MIRRORED_COMMAND_RECEIVE (R484). The standby receives a mirrored command over the peer lane, checks it and acknowledges. -/
  | mirroredCommandReceive (at_ : Instant) (op : BitVec 16) (h : Hdr)
  /-- MIRROR_ACK_RECEIVE (R484). The standby's acknowledgement reaches the active, the commit point at which both apply the command. -/
  | mirrorAckReceive (at_ : Instant) (session : Fin 4) (seq : Word) (status : BitVec 16)
  /-- PTP_MESSAGE_RECEIVE (R36). The PTP engine handles a received PTP message, including Pdelay_Resp turnaround and BMCA state changes. -/
  | ptpMessageReceive (at_ : Instant)
  /-- ANNOUNCE_RECEIPT_TIMEOUT (R30). An Announce receipt timeout of a PTP port expires. -/
  | announceReceiptTimeout (p : Fin 10)
  /-- SERVO_MEASUREMENT (R50). An offset measurement against the source drives qualification, servo correction, suspect-run tracking and state
  changes. -/
  | servoMeasurement (at_ : Instant) (m : Measurement)
  /-- SOURCE_UNQUALIFY_TIMEOUT (R30). Three seconds without valid time make a source unqualified, moving the servo to FREERUN or HOLDOVER. -/
  | sourceUnqualifyTimeout (src : Fin 13)
  /-- RESTEP_TAKE (R55). At the chosen whole second module time is stepped to the source, the epoch increases and the step consequences follow. -/
  | restepTake
  /-- LEAP_SECOND_END (R29). At the end of an announced leap second utc_offset changes by one. -/
  | leapSecondEnd
  /-- PPS_IN_EDGE (R38). An edge on PPS_IN is stamped, or ignored as short or extra. -/
  | ppsInEdge (at_ : Instant) (rising : Bool) (widthNs : Nat)
  /-- TOD_SENTENCE_RECEIVE (R40). A time-of-day sentence is checked for checksum, window and continuity. -/
  | todSentenceReceive (at_ : Instant) (m : TodSentence)
  /-- IRIG_FRAME_RECEIVE (R43). An IRIG-B frame is decoded, parity-checked and converted to module time. -/
  | irigFrameReceive (at_ : Instant) (f : IrigFrame)
  /-- PPS_OUT_PULSE (R61). At each second of module time a PPS_OUT pulse starts when allowed. -/
  | ppsOutPulse
  /-- TOD_SENTENCE_SEND (R41). 20 ms after a PPS_OUT edge a sentence is started on TOD_OUT. -/
  | todSentenceSend
  /-- TDC_EDGE_STAMP (R62). An edge on a TRIG_IN, PPS_IN or TOD_IN input is stamped by its converter and queued. -/
  | tdcEdgeStamp (at_ : Instant) (n : Fin 6) (rising : Bool)
  /-- COMPARE_FIRE (R71). An armed compare unit fires when fine time reaches its target and performs its action. -/
  | compareFire (n : Fin 8)
  /-- TRIG_OUT_PULSE_END (R71). A compare pulse on TRIG_OUT ends 1 µs after its firing. -/
  | trigOutPulseEnd (n : Fin 8)
  /-- TC_PRES_CHANGE (R525). A change of TC_PRES_N starts a read of the companion identity or a fallback to the internal oscillator. -/
  | tcPresChange (at_ : Instant) (present : Bool)
  /-- TC10_IDENTITY_READ_COMPLETE (R526). A companion identity read completes and is accepted or rejected. -/
  | tc10IdentityReadComplete (at_ : Instant) (r : CompanionRead)
  /-- TC10_WARMUP_END (R526). warmup_s after power the accepted companion is used for holdover and tc10 sets. -/
  | tc10WarmupEnd
  /-- FRAME_RECEIVE (R77). A received frame passes PCS, timestamp, MAC, MACsec, VLAN, PRP and classifier stages. -/
  | frameReceive (at_ : Instant) (p : Fin 10) (f : RxFrame)
  /-- PAUSE_EXPIRY (R81). The pause time of a port runs out and transmission resumes. -/
  | pauseExpiry (p : Fin 10)
  /-- PAUSE_REPEAT (R84). Every quanta/2 pause times a PAUSE is repeated while the condition lasts. -/
  | pauseRepeat (p : Fin 10)
  /-- PRP_FORGET_EXPIRY (R93). A PRP window entry whose second copy did not arrive is freed after forget_ms. -/
  | prpForgetExpiry (k : Fin 5)
  /-- TRANSMIT_SELECT (R80). Between frames the port picks the next frame by strict class priority, subject to pause and the interlock gate. -/
  | transmitSelect (at_ : Instant) (p : Fin 10)
  /-- FRAME_TRANSMIT_COMPLETE (R100). A frame has been sent or dropped; done and err are set on its descriptor. -/
  | frameTransmitComplete (at_ : Instant) (p : Fin 10)
  /-- LINK_UP (R75). A port declares link up once lock, FEC, adaptation and optics conditions all hold. -/
  | linkUp (at_ : Instant) (p : Fin 10) (c : PcsState)
  /-- LINK_DOWN (R75). A port loses link and drops frames offered to it. -/
  | linkDown (at_ : Instant) (p : Fin 10)
  /-- EQ_ADAPT_COMPLETE (R110). Initial receiver adaptation completes after signal detect. -/
  | eqAdaptComplete (at_ : Instant) (p : Fin 10) (e : EqResult)
  /-- MOD_ABS_CHANGE (R106). A change of MOD_ABS starts the 50 ms debounce, abandoning a read in progress. -/
  | modAbsChange (at_ : Instant) (p : Fin 10) (absent : Bool)
  /-- MOD_ABS_DEBOUNCE_END (R106). The debounce ends; removal takes the link down, insertion waits 300 ms before reading. -/
  | modAbsDebounceEnd (p : Fin 10)
  /-- OPTICS_READ_START (R106). 300 ms after insertion, or at power-up, the A0h read starts. -/
  | opticsReadStart (p : Fin 10)
  /-- OPTICS_READ_COMPLETE (R107). An A0h read completes and the optics checks accept or reject the module. -/
  | opticsReadComplete (at_ : Instant) (p : Fin 10) (r : OpticsRead)
  /-- OPTICS_READ_RETRY (R107). 100 ms after a failed read or checksum, the read is retried. -/
  | opticsReadRetry (p : Fin 10)
  /-- WAKE_PATTERN_MATCH (R104). In Dormant a frame on M0 or M1 matches a wake pattern and wakes the module. -/
  | wakePatternMatch (at_ : Instant) (m : Fin 2) (f : WakeFrame)
  /-- PARSE_FRAME (R137). The parser takes a buffered frame and applies the checks of Table 4-5, delivering values, samples or drops. -/
  | parseFrame (at_ : Instant)
  /-- HELD_CONFIG_APPLY (R135). Within 1 ms of a size mismatch the firmware writes or suspends on a held configuration, or fetches one. -/
  | heldConfigApply (at_ : Instant) (e : Fin 16384)
  /-- CONFIG_FRAME_RECEIVE (R134). A fetched or unsolicited configuration frame is compared with the layout and written, held or suspends the
  entries. -/
  | configFrameReceive (at_ : Instant) (c : CfgFrame)
  /-- CFG_POLL_TIMER (R134). Every cfg_poll seconds, or 10 s while STAT bit 10 is set, the firmware fetches a configuration. -/
  | cfgPollTimer (e : Fin 16384)
  /-- CFG_FETCH_TIMEOUT (R135). A fetch without reply within 5 s is repeated; the third failure of a CFG_STALE fetch suspends the entries. -/
  | cfgFetchTimeout (e : Fin 16384)
  /-- C37_COMMAND_FRAME_RECEIVE (R305). The firmware answers CFG requests and honours on/off command frames for an output stream. -/
  | c37CommandFrameReceive (at_ : Instant) (i : Fin 64) (c : C37Command)
  /-- SV_SAMPLE_IN (R162). A raw sample enters the estimation chain with quality, fill and gap handling. -/
  | svSampleIn (at_ : Instant)
  /-- ESTIMATE_OUTPUT (R156). When an output's span is complete the chain delivers phasor, frequency and ROCOF stamped tc. -/
  | estimateOutput (at_ : Instant) (i : Fin 1024)
  /-- SLOT_RESTART (R166). At t0 a slot clears its filter histories and restarts, entering Drydown. -/
  | slotRestart (i : Fin 1024)
  /-- DSYNC_EDGE (R170). An active DSYNC edge schedules or merges a synchronised restart. -/
  | dsyncEdge (at_ : Instant) (rising : Bool) (widthNs : Nat)
  /-- CROSSFADE_END (R172). After L FIR outputs the new profile alone is in force and xf_done sets. -/
  | crossfadeEnd (at_ : Instant) (i : Fin 1024)
  /-- HELD_SWAP_START (R175). A held swap starts at the first FIR output after the running cross-fade ends. -/
  | heldSwapStart (at_ : Instant) (i : Fin 1024)
  /-- ACCORD_VALUE_RECEIVE (R189). A value crossing to Accord is matched to an instant and included, marked LATE or dropped by its arrival time. -/
  | accordValueReceive (at_ : Instant)
  /-- PROVISIONAL_ISSUE (R216). At t + d a provisional snapshot is issued if the conditions of Table 7-1 hold. -/
  | provisionalIssue (g : Fin 32)
  /-- WINDOW_CLOSE (R190). At t + W the wait window closes and the 20 µs close guard starts. -/
  | windowClose (g : Fin 32)
  /-- CLOSE_GUARD_END (R190). The close guard ends and triggers commit of the instant. -/
  | closeGuardEnd (g : Fin 32)
  /-- EMPTY_GROUP_TRIGGER (R195). A group with an empty channel set triggers commit at each reporting instant. -/
  | emptyGroupTrigger (g : Fin 32)
  /-- SNAPSHOT_COMMIT (R209). A triggered snapshot commits in instant order, with barrier, check and predictor update. -/
  | snapshotCommit (at_ : Instant) (g : Fin 32)
  /-- GROUP_START_REACHED (R201). A STARTING group reaches its start instant and becomes RUNNING. -/
  | groupStartReached (g : Fin 32)
  /-- GROUP_CHANGE_EFFECTIVE (R204). A pending group change takes effect at t_eff. -/
  | groupChangeEffective (g : Fin 32)
  /-- CLASS_CHANGE_EFFECTIVE (R238). A pending predictor class change takes effect at the first deadline 100 ms after acceptance. -/
  | classChangeEffective (at_ : Instant)
  /-- PROVISIONAL_SNAPSHOT_EVALUATE (R296). Nose checkpoints and evaluates a provisional snapshot in its island and limit engines. -/
  | provisionalSnapshotEvaluate (at_ : Instant)
  /-- COMMITTED_SNAPSHOT_EVALUATE (R313). Nose evaluates a committed snapshot issued without provisional issue. -/
  | committedSnapshotEvaluate (at_ : Instant)
  /-- CONFIRM_RECEIVE (R227). On CONFIRM Nose publishes PROVISIONAL alarms as COMMITTED, applies pending clears and drops the checkpoint. -/
  | confirmReceive (at_ : Instant)
  /-- ROLLBACK_RECEIVE (R228). On ROLLBACK Nose restores the checkpoint, evaluates the committed snapshot and re-evaluates later instants. -/
  | rollbackReceive (at_ : Instant)
  /-- FLUSH_RECEIVE (R239). Nose restores the oldest flushed checkpoint and retracts PROVISIONAL alarms of flushed instants. -/
  | flushReceive (at_ : Instant)
  /-- SUMMARY_PACKET_RECEIVE (R285). A received summary packet is checked and held or dropped. -/
  | summaryPacketReceive (at_ : Instant) (p : Packet)
  /-- PROVISIONAL_VIEW_FORM (R286). The provisional island view forms once every owner's packet is held after issue. -/
  | provisionalViewForm (at_ : Instant)
  /-- RING_WAIT_EXPIRY (R286). At t + d + ring_wait the provisional view forms with missing owners. -/
  | ringWaitExpiry
  /-- RING_COMMIT (R287). Once committed and holding every owner's committed packet, the engine restores and evaluates the committed view. -/
  | ringCommit (at_ : Instant)
  /-- RING_CLOSE_EXPIRY (R287). At t + W + ring_close the ring commit takes place with missing owners. -/
  | ringCloseExpiry
  /-- ISL_MODEL_EFFECTIVE (R280). A staged model becomes active at t_eff with a full recompute. -/
  | islModelEffective
  /-- OSC_SNAPSHOT_INTAKE (R252). The oscillation engine takes a committed snapshot's records into its signals and decimators. -/
  | oscSnapshotIntake (at_ : Instant)
  /-- OSC_UPDATE_READY (R257). An update becomes ready when every feeding group has committed up to u, and starts or waits. -/
  | oscUpdateReady (at_ : Instant) (i : Fin 32)
  /-- OSC_UPDATE_COMPLETE (R258). An update completes with modes, tracks, forced tests, DEF flows and alarm changes handed to Atomizer. -/
  | oscUpdateComplete (at_ : Instant) (i : Fin 32)
  /-- ALARM_BATCH_RECEIVE (R317). Atomizer takes one instant's batch of alarm state changes, updating control blocks and lands. -/
  | alarmBatchReceive (at_ : Instant)
  /-- GOOSE_RETRANSMIT (R320). A control block retransmits on its ladder with increased sqNum. -/
  | gooseRetransmit (k : Fin 128)
  /-- ALARM_OUT_MIN_ON_EXPIRY (R324). min_on_ms after assertion a CLEARED land is released. -/
  | alarmOutMinOnExpiry (n : Fin 8)
  /-- SNAPSHOT_PUBLISH (R309). Atomizer sends the output frame of a stream for a provisional or committed snapshot. -/
  | snapshotPublish (at_ : Instant)
  /-- STREAM_CHANGE_EFFECTIVE (R310). A pending stream layout, mode or destination change takes effect at t_eff. -/
  | streamChangeEffective (i : Fin 64)
  /-- CAPTURE_ROW_CLOSE (R334). A capture row closes when every element has arrived; it enters the ring and the sequencer evaluates it. -/
  | captureRowClose (at_ : Instant)
  /-- CAPTURE_ROW_WAIT_EXPIRY (R334). row_wait_ms after its instant a row closes with missing elements. -/
  | captureRowWaitExpiry (u : Fin 4)
  /-- CAPTURE_EVENT_QUEUE (R343). An alarm, EXT, compare or threshold event is queued for the sequencer. -/
  | captureEventQueue (at_ : Instant)
  /-- RECORD_DRAIN_COMPLETE (R339). Every row of a closing record is in bulk memory and the header is written; the unit goes IDLE or re-arms. -/
  | recordDrainComplete (at_ : Instant) (u : Fin 4)
  /-- EVENT_ACCUMULATE (R364). An island's event is accumulated into its class's open accumulation. -/
  | eventAccumulate (at_ : Instant)
  /-- ACCUMULATION_INTERVAL_END (R363). At the end of a class interval its accumulation closes into a record if it holds events. -/
  | accumulationIntervalEnd (c : Fin 64)
  /-- IMMEDIATE_HOLDOFF_END (R365). 10 ms after an immediate close, the accumulation held meanwhile closes. -/
  | immediateHoldoffEnd (c : Fin 64)
  /-- RECORD_MRAM_WRITE (R367). A queued record is written to MRAM and read back. -/
  | recordMramWrite (at_ : Instant) (real1 : Bool) (real2 : Bool)
  /-- SIGNATURE_BLOCK_WRITE (R374). After the last slot of a block is written, the signature block is written within 50 ms. -/
  | signatureBlockWrite (w : BlockWrite)
  /-- EVR_NONCE_EXPIRY (R379). A clear nonce expires 60 s after issue. -/
  | evrNonceExpiry
  /-- KEY_REMASK (R392). Each period a fresh random value is XORed into both shares of every slot. -/
  | keyRemask (at_ : Instant)
  /-- KEY_COMMIT_COMPLETE (R398). Phase 2 of a replacement completes; the new key is in force and the reply follows. -/
  | keyCommitComplete (at_ : Instant) (slot : Fin 256)
  /-- STAGED_KEY_DISCARD (R396). A staged generated key not committed within 60 s is discarded. -/
  | stagedKeyDiscard (slot : Fin 256)
  /-- CHILD_CASCADE_DESTROY (R400). A cascade child is destroyed at the end of its current use. -/
  | childCascadeDestroy (slot : Fin 256)
  /-- LC_NONCE_EXPIRY (R403). A lifecycle nonce expires 60 s after issue. -/
  | lcNonceExpiry
  /-- KAT_RUN (R529). Every 24 h the crypto engines run their known-answer tests. -/
  | katRun (at_ : Instant) (real : BitVec 4)
  /-- MBX_CLAIM_LAPSE (R444). A claim with no write for 100 µs lapses and its staged words are discarded. -/
  | mbxClaimLapse (n : Fin 64)
  /-- MBX_RING_MESSAGE_ARRIVE (R444). A 16-word message over the ring claims and fills a channel in one step. -/
  | mbxRingMessageArrive (at_ : Instant) (n : Fin 64) (sender : MasterId) (gen : BitVec 4) (words : Vector Word 16)
  /-- RING_FORMATION_TOKEN (R452). A member takes its index from the formation token, adds its uid and forwards it. -/
  | ringFormationToken (at_ : Instant) (count : Nat) (uids : List (List Byte))
  /-- RING_FORMATION_RETURN (R452). The token returns to the head and the ring is formed. -/
  | ringFormationReturn (at_ : Instant) (count : Nat) (uids : List (List Byte))
  /-- RING_FORMATION_TIMEOUT (R452). The token does not return within 10 ms and the head is ALONE. -/
  | ringFormationTimeout
  /-- RING_MAP_BROADCAST (R453). Every 100 ms the head broadcasts the ring map. -/
  | ringMapBroadcast (at_ : Instant)
  /-- RING_MAP_RECEIVE (R453). A member stores the received ring map. -/
  | ringMapReceive (at_ : Instant) (present : BitVec 64) (absent : BitVec 64)
  /-- RING_FRAME_RECEIVE (R455). A ring frame on CR_IN is taken, forwarded or removed by its origin. -/
  | ringFrameReceive (at_ : Instant) (f : RingFrame)
  /-- CR_IN_SILENCE (R457). 20 µs without a valid frame or idle on CR_IN asserts CR_SKIP_N. -/
  | crInSilence (at_ : Instant)
  /-- RING_RELOCK (R457). The member relocks on the skip lane and sends a ring-closed token, or the ring is BROKEN. -/
  | ringRelock (at_ : Instant) (locked : Bool)
  /-- RING_CLOSED_TOKEN (R457). The head receives a ring-closed token and marks the silent member absent. -/
  | ringClosedToken (at_ : Instant) (silent : Fin 64)
  /-- REJOIN_RELEASE (R459). At the chosen millisecond the neighbour releases CR_SKIP_N for a rejoin trial. -/
  | rejoinRelease
  /-- JOIN_RECORD_RECEIVE (R460). The member's join record arrives and it is marked present under its index. -/
  | joinRecordReceive (at_ : Instant) (uid : List Byte) (index : Fin 64)
  /-- REJOIN_TRIAL_TIMEOUT (R459). No join record within 200 µs; CR_SKIP_N is reasserted and the rejoin fails. -/
  | rejoinTrialTimeout
  /-- ARBITRATION_DRAW (R470). Each memory channel draws a winning requester port by lottery every cycle and moves one transfer. -/
  | arbitrationDraw (at_ : Instant) (c : Fin 32) (asking : BitVec 8) (withdraw : Bool) (ecc : EccOutcome)
  /-- BARRIER_COMPLETE (R474). Every write before a barrier is acknowledged and the consumer is told of the item. -/
  | barrierComplete (at_ : Instant) (isl : Fin 23)
  /-- FABRIC_TIMEOUT (R521). A fabric transaction not completed in 2 µs is abandoned and the requester interface reset. -/
  | fabricTimeout (at_ : Instant) (isl : Fin 23) (real : Bool)
  /-- HANDSHAKE_TIMEOUT (R11). A crossing not acknowledged in 20 µs is abandoned or held for retry. -/
  | handshakeTimeout (at_ : Instant) (snd : Fin 23) (rcv : Fin 23) (real : Bool)
  /-- INTERLOCK_WATCHDOG_FEED (R479). Every 1 µs the pair island feeds the interlock watchdog while its conditions hold. -/
  | interlockWatchdogFeed (at_ : Instant)
  /-- INTERLOCK_WATCHDOG_EXPIRY (R479). Unfed for 2 µs, the fail-safe driver stops and releases the interlock. -/
  | interlockWatchdogExpiry
  /-- OWN_WAVE_LOST (R480). The detector loses the own-side wave and closes the transmit gate and land drivers. -/
  | ownWaveLost (at_ : Instant) (real : Bool)
  /-- INTERLOCK_QUIET (R481). The pair shows no transition for ilk_quiet and an eligible module starts its claim. -/
  | interlockQuiet (at_ : Instant)
  /-- CLAIM_CONFIRM (R481). Within 1 µs of claiming the module sees its own wave and takes over, or backs off on contention. -/
  | claimConfirm (at_ : Instant) (seen : Bool)
  /-- CLAIM_BACKOFF_END (R481). After its side's back-off the module may claim again. -/
  | claimBackoffEnd
  /-- PREFER_ACTIVE_CONTEND_TIMEOUT (R487). The peer's wave for 100 µs sends the prefer_active module to LISTEN. -/
  | preferActiveContendTimeout (at_ : Instant)
  /-- PAIR_HEARTBEAT_SEND (R496). Every 1 µs a module sends its heartbeat with state, side, interlock view and cursor changes. -/
  | pairHeartbeatSend (at_ : Instant)
  /-- PAIR_HEARTBEAT_RECEIVE (R496). A received heartbeat updates the peer view and the adopted transmit cursor. -/
  | pairHeartbeatReceive (at_ : Instant) (h : Heartbeat)
  /-- PEER_LANE_LOSS (R496). hb_miss intervals without a valid heartbeat make the standby UNVERIFIED and the active ACTIVE_SOLO. -/
  | peerLaneLoss (at_ : Instant)
  /-- INCLUSION_LIST_RECEIVE (R491). The standby forms the committed snapshot from the list, compares digests and acknowledges. -/
  | inclusionListReceive (at_ : Instant) (l : InclusionList)
  /-- PAIR_RECORD_FETCH_COMPLETE (R492). Records fetched from the active arrive and the standby recomputes its digest. -/
  | pairRecordFetchComplete (at_ : Instant) (recs : List Rec)
  /-- PAIR_ACK_RECEIVE (R494). The standby's acknowledgement reaches the active, which commits the snapshot. -/
  | pairAckReceive (at_ : Instant) (g : Fin 32) (t : Instant)
  /-- PAIR_ACK_TIMEOUT (R494). No acknowledgement in ack_us; the active commits, sends forced and enters ACTIVE_SOLO. -/
  | pairAckTimeout
  /-- RESULT_RECORD_RECEIVE (R493). The standby compares the active's result record with its own. -/
  | resultRecordReceive (at_ : Instant) (r : ResultRecord)
  /-- COPY_PHASE_A_COMPLETE (R488). The standby has acknowledged every setting; t_cut is fixed. -/
  | copyPhaseAComplete (at_ : Instant) (x : Option PairImage)
  /-- COPY_T_CUT (R488). At t_cut the dynamic state image is sent. -/
  | copyTCut
  /-- COPY_IMAGE_INSTALLED (R488). Every image is installed at the standby and phase C starts. -/
  | copyImageInstalled (at_ : Instant) (x : Option PairImage)
  /-- COPY_COMPLETE (R488). Live commits with matching digests end the copy; ACTIVE and STANDBY are entered. -/
  | copyComplete (at_ : Instant)
  /-- COPY_TIMEOUT (R489). Phases B and C not ended within 5 s fail the copy. -/
  | copyTimeout
  /-- SWAP_FRAMES_DRAINED (R500). Frames in flight end, the final cursor is sent and the interlock released. -/
  | swapFramesDrained (at_ : Instant)
  /-- SWAP_CHECK_EXPIRY (R501). swap_check_ms after take-over with all checks passed, PAIR_SWAP completes OK. -/
  | swapCheckExpiry
  /-- SWAP_CHECK_FAIL (R501). A failed land read-back or port check releases the interlock and the swap fails. -/
  | swapCheckFail (at_ : Instant)
  /-- SCHEDULED_SWAP (R502). At the scheduled whole second a role swap starts. -/
  | scheduledSwap
  /-- SUPPLY_IN_RANGE (R509). VIN and VIO both in range start power-up. -/
  | supplyInRange (at_ : Instant) (tempC : Int)
  /-- POWER_UP_COMPLETE (R516). Rails, PLLs, memory training and firmware load complete and the islands are released into Run. -/
  | powerUpComplete (at_ : Instant) (a : StartArgs)
  /-- VIN_LOSS (R515). VIN falls out of range; outputs close, the MRAM write completes and the module goes Off. -/
  | vinLoss (at_ : Instant)
  /-- RESET_N_PULSE (R517). RESET_N low for 10 µs resets every island but always-on and wakes from Ready or Dormant. -/
  | resetNPulse (at_ : Instant) (widthNs : Nat)
  /-- PERST_N_ASSERT (R518). PERST_N low on the head resets the endpoint and command registers and closes sessions. -/
  | perstNAssert (at_ : Instant)
  /-- PERST_N_RELEASE (R518). Release of PERST_N on the head ends the reset and wakes from Dormant. -/
  | perstNRelease (at_ : Instant)
  /-- WAKE_N_EDGE (R509). A WAKE_N falling edge wakes the module from Ready or Dormant when enabled. -/
  | wakeNEdge (at_ : Instant)
  /-- STATE_TRANSITION_COMPLETE (R511). The sequence for leaving Run completes and the module enters Ready, Dormant or Off. -/
  | stateTransitionComplete (at_ : Instant)
  /-- TEMPERATURE_SAMPLE (R520). Every 10 ms the junction temperature is read, setting hot or entering Off. -/
  | temperatureSample (at_ : Instant) (tempC : Int)
  /-- ISLAND_WATCHDOG_EXPIRY (R520). An island watchdog expires; the island resets or is held in reset on repetition. -/
  | islandWatchdogExpiry (at_ : Instant) (isl : Fin 23) (real : Bool)
  /-- RAIL_WINDOW_FAULT (R529). A rail outside its AVFS window for 10 ms sets FAULT_N cause 5. -/
  | railWindowFault (at_ : Instant) (rail : Fin 6) (real : Bool)
  /-- PLL_LOCK_LOSS (R529). An island PLL loses lock and the island is held in reset until relock. -/
  | pllLockLoss (at_ : Instant) (isl : Fin 23) (real : Bool)
  /-- CPM_MARGIN_LOSS (R522). A critical-path monitor reports lost margin and the island clock is stretched. -/
  | cpmMarginLoss (at_ : Instant) (isl : Fin 23) (real : Bool)
  /-- CLOCK_STRETCH_END (R522). After 10 µs the lowered island frequency is released. -/
  | clockStretchEnd (isl : Fin 23)
  /-- INJECTION_FIRE (R532). After its delay an armed injection slot fires into its detector. -/
  | injectionFire (slot : Fin 8)
  /-- INJECTION_SPAN_END (R532). A SPAN injection's duration ends and the slot is DONE. -/
  | injectionSpanEnd (slot : Fin 8)
  /-- INJ_BIT_CLEAR (R537). 1 s after the last firing the inj bit clears in the pair heartbeat. -/
  | injBitClear
  /-- PTP_MESSAGE_INTERVAL (R37). At each interval of its master or peer-delay role the PTP engine sends Announce, Sync and delay request messages
  carrying the clockClass of Table 2-3. -/
  | ptpMessageInterval (p : Fin 10)
  /-- VIO_OUT_OF_RANGE (R547). VIO falls out of range with VIN present; FAULT_N cause 0 is asserted and every logic-group output goes high-
  impedance. -/
  | vioOutOfRange (at_ : Instant)
  /-- VIN_ABOVE_RANGE (R553). VIN rises above its range, so the supervisor judges it out of range and asserts FAULT_N cause 0. -/
  | vinAboveRange (at_ : Instant)
  /-- PLL_RELOCK (R529). An island PLL regains lock and the island held in reset since the loss of lock is released. -/
  | pllRelock (at_ : Instant) (isl : Fin 23)
  /-- ALARM_OUT_READBACK_CHECK (R557). The ALARM_OUT read-back at the land is compared with its drive, each 1 ms during a swap check and whenever
  a carrier load holds the land, firing OUT_READBACK on a difference. -/
  | alarmOutReadbackCheck (at_ : Instant) (land : Fin 8) (real : Bool)
  /-- RNG_HEALTH_TEST (R529). The entropy source's SP 800-90B health test fails, halting the DRBG, or 1,024 consecutive passing samples bring it
  back into service. -/
  | rngHealthTest (at_ : Instant) (fails : Bool)
deriving DecidableEq, Repr

end Sys2Proof
end

