-- ==== Sys2Proof/Decode.lean ====
section
/-! DEFINITION. The table gives no row of this block any bits: a command is a packet whose payload the manual names but does not lay out, and an
event has no encoding at all. So no word spells a command. -/

namespace Sys2Proof

/-- The command a word spells by the table's bits: none, since no row has bits. -/
def decodeTableWord (_nbits _w : Nat) : Option Instr := none

end Sys2Proof
end

