-- ==== Sys2Proof/Config.lean ====
section
/-! DEFINITION. What the spec leaves to an implementation or leaves open: constants without a body, so that no proof can
see a value of theirs. Those that take a counter first give a fresh value at each use. -/

namespace Sys2Proof.Config

/-- The rate correction, in units of 2^-48, that the servo's proportional–integral loop gives for a bandwidth in mHz,
a measured offset in ticks and the present rate (R578 gives the bandwidth and no gains). -/
opaque servoRate (n : Nat) (bwMhz : Nat) (offset rate : Int) : Int

/-- The rate correction with which REF_IN steers the rate in HOLDOVER for a deviation in ppb (R45). -/
opaque refRate (n : Nat) (ppb rate : Int) : Int

/-- What the memory behind a transmit ring holds in a descriptor that no row gives: length, flags, TCI and frame identifier (Table 3-7). -/
opaque ringDesc (n port ring index : Nat) : Nat × Word × Nat × Nat

/-- Whether an IEC 62351-6 authentication value verifies under a key slot's present key, over what a frame carries (R118). -/
opaque authVerifies (key : List Byte) (frame : List Nat) (value : List Byte) : Bool

/-- Whether a number that falls between two values of its format is rounded to the upper one, where the spec gives a formula or a unit and no
rounding (R129, Table 7-2, Table 9-3). -/
opaque roundsUp (x : Rat) : Bool

/-- What arithmetic on values that are not all finite gives, by the words it is done on (Table 7-2). -/
opaque nonFinite (ws : List Word) : Word

/-- A quotient by zero, where the spec states no result (Table 7-2 across a step of module time, R313). -/
opaque noQuotient (n : Rat) : Rat

/-- The age field of a record predicted for a channel without history: R224 counts it from an instant that does not exist. -/
opaque noHistoryAge : Nat

/-- Bytes of an undo record of the limit journal, and of the island journal for a number of changed items (R296, R314). -/
opaque limRecordBytes : Nat
opaque islJournalBytes (changed : Nat) : Nat

/-- A step of the angle average on numbers whose quotient the engine rounds (R292). -/
opaque emaStep (ema change : Rat) : Rat

/-- The quantity recorded for an alarm whose value is not finite (Table 12-1). -/
opaque infQuantity : Rat

/-- Bytes of a GOOSE or R-GOOSE message, of an R-SV message and of an authentication extension, whose encodings the manual takes from their
standards and does not give (R318 to R322). -/
opaque gooseBytes (routed : Bool) (strings members : Nat) : Nat
opaque rsvBytes (strings values : Nat) : Nat
opaque authBytes (routed : Bool) : Nat

/-- AES-GMAC over a message with a fresh initialisation vector (R322), which the manual takes from its standard. -/
opaque gmac (n : Nat) (key m : List Byte) : List Byte

/-- The version that the module writes into SYNC, 1 or 2 (R305 gives none), and the IPv4 identification of its datagrams (R308 says only that the
fragments of one share it). -/
opaque c37Version : Bool
opaque ipIdent (n : Nat) : BitVec 16

/-- The quality byte of a UtcTime (R319 gives the instant only), by whether time is LOCKED and by the time-quality code of its error. -/
opaque utcQuality (locked : Bool) (code : Nat) : Byte

/-- A tap before the centre of the oscillation engine's decimation filter of rate ratio `r` (R253 gives its length, phase and pass band). -/
opaque decimTap (r i : Nat) : Rat

/-- A mode: frequency in Hz, damping ratio, amplitude in the reference, and the shape by position of the signal, each entry a magnitude and an
angle in turns. -/
structure Mode where
  f     : Rat
  zeta  : Rat
  aRef  : Rat
  shape : List (Nat × Rat × Rat)
deriving DecidableEq, Repr

/-- The modes a core's subspace estimation finds in its windows at a model order and rate (R260), before Table 8-3 bounds their error. -/
opaque oscModes (n order fo : Nat) (windows : List (List Rat)) : List Mode

/-- The mode of the grid that a candidate of `oscModes` is an estimate of, with whether ambient excitation alone drives it and its signal-to-noise
ratio in the reference in dB; none where there is no such mode, or where the inputs are not exact (R263). -/
opaque oscTruth (n order fo : Nat) (windows : List (List Rat)) (candidate : Nat) : Option (Mode × Bool × Rat)

/-- A sample of a signal after a band-pass filter, which the manual names by its band and does not give (R264, R270). -/
opaque bandPass (n fo : Nat) (lo hi : Rat) (samples : List Rat) (i : Nat) : Rat

/-- A sample of the envelope of a signal's component in a band, which the manual names and does not give (R269). -/
opaque envelope (n fo : Nat) (lo hi : Rat) (samples : List Rat) (i : Nat) : Rat

/-- The number that a setting which is no finite number stands for in a product, where the manual states none (R249, R270). -/
opaque nonNumber (w : Word) : Rat

/-- Trigger point, fraction and cause words of a record that closes without a trigger (R357 states none). -/
opaque noTrigger (n : Nat) : Nat × Nat × Nat

/-- The cryptographic functions that the manual takes from their standards: SHA-256, HMAC-SHA-256, one block of AES in ECB mode, AES-KWP
(RFC 5649; none where its integrity check fails), and ECDSA per FIPS 186-5 and RFC 6979 over P-256 or P-384. -/
opaque sha256 (m : List Byte) : List Byte
opaque hmacSha256 (key m : List Byte) : List Byte
opaque aesBlock (key block : List Byte) : List Byte
opaque kwpWrap (key data : List Byte) : List Byte
opaque kwpUnwrap (key data : List Byte) : Option (List Byte)
opaque ecdsaPublic (p384 : Bool) (key : List Byte) : List Byte
opaque ecdsaSign (p384 : Bool) (key m : List Byte) : List Byte

/-- Draw `n` of the random generator (R389): `len` bytes. -/
opaque random (n len : Nat) : List Byte

/-- What manufacture gives the module: its unique identifier (R374), the attestation key of slot 0 (R388) and its certificate (R406). -/
opaque uid : List Byte
opaque attestationKey : List Byte
opaque certificate : List Byte

/-- The immediate bit of an event class that Table 12-1 does not list (R362 fixes one for each of the 64 classes). -/
opaque classImmediate (cls : Nat) : Bool

/-- Whether a replacement cut by a loss of power had begun to write its pointer word (R398, R515): the lengths of the phases are bounds only. -/
opaque pointerWritten (n : Nat) : Bool

/-- A byte of the host area that nothing has written since the contents were last lost (R465). -/
opaque undefinedByte (fill offset : Nat) : Byte

/-- The size of a copy's image in MiB (Table 17-9), whose encoding the manual does not give. -/
opaque copyImageMib (n : Nat) : Nat

/-- Where in its partition an owner keeps an item of bulk memory, as far as no rule gives the place (Table 16-2). -/
opaque bulkPlace (partition item : Nat) : Nat

/-- Whether a pulse on RESET_N from 1 to 10 µs long resets the islands: R517 says what shorter and longer ones do. -/
opaque midPulseResets (n widthNs : Nat) : Bool

/-- Whether a poisoned transfer of the command cores was code, and of which core; and whether a core was executing a command (R539). -/
opaque codeRead (n : Nat) : Option (Fin 4)
opaque coreRuns (n : Nat) (core : Fin 4) (session : Fin 4) (seq : Word) : Bool

/-- The floor in MHz that an island's present configuration needs (R523), of which the manual gives no figure. -/
opaque neededMhz (isl : Nat) (regs : List (Nat × Word)) : Nat

/-- The frequency in MHz at which the loop of an island holds it: stretched (R522), or under the efficient profile (R523, R524). -/
opaque stretchedMhz (n isl : Nat) : Nat
opaque efficientMhz (n isl : Nat) : Nat

/-- Whether the floors break a power cap in W (R524), and the voltage of a rail in mV. -/
opaque capBroken (capW : Nat) (floors : List Nat) : Bool
opaque railMv (n rail : Nat) : Nat

/-- The ordering code of the module (R439): whether it is BGI-NX64-CA. -/
opaque orderedCA : Bool

end Sys2Proof.Config
end

