-- ==== Sys2Proof/Machine/Bits.lean ====
section
/-! DEFINITION. Bit fields of words, spans of time, the sparse stores of the state, and the
little arithmetic the meanings share (R5, R6, R26, R27, R28). -/

namespace Sys2Proof.Machine

/-! ### Bit fields (R5: `[hi:lo]`, bit 0 the least significant) -/

/-- The value of field `[hi:lo]` of a word. -/
def fld (w : Word) (hi lo : Nat) : Nat := w.toNat / 2 ^ lo % 2 ^ (hi + 1 - lo)

/-- Bit `n` of a word. -/
def bit (w : Word) (n : Nat) : Bool := w.getLsbD n

/-- `v` placed at field `[hi:lo]`, cut to the field's width. -/
def put (hi lo v : Nat) : Word := BitVec.ofNat 32 (v % 2 ^ (hi + 1 - lo) * 2 ^ lo)

/-- A flag placed at bit `n`. -/
def putBit (n : Nat) (b : Bool) : Word := if b then BitVec.ofNat 32 (2 ^ n) else 0#32

/-- The mask of field `[hi:lo]`. -/
def maskOf (hi lo : Nat) : Word := BitVec.ofNat 32 ((2 ^ (hi + 1 - lo) - 1) * 2 ^ lo)

/-- A word with field `[hi:lo]` replaced by `v`. -/
def setFld (w : Word) (hi lo v : Nat) : Word := (w &&& ~~~(maskOf hi lo)) ||| put hi lo v

/-- A word with bit `n` replaced. -/
def setBit (w : Word) (n : Nat) (b : Bool) : Word := setFld w n n b.toNat

/-- A natural number as a word, its low 32 bits. -/
def word (n : Nat) : Word := BitVec.ofNat 32 n

/-- The number that an `n`-bit two's-complement field spells. -/
def signed (n v : Nat) : Int := if 2 * (v % 2 ^ n) < 2 ^ n then (v % 2 ^ n : Nat) else ((v % 2 ^ n : Nat) : Int) - ((2 ^ n : Nat) : Int)

/-- A signed number in `n`-bit two's complement. -/
def unsign (n : Nat) (v : Int) : Nat := (v % ((2 ^ n : Nat) : Int)).toNat

/-- A number held between two bounds (the lower bound wins where they cross). -/
def clamp (lo hi v : Nat) : Nat := max lo (min hi v)

/-- An integer held between two bounds. -/
def clampInt (lo hi v : Int) : Int := max lo (min hi v)

/-- Quotient rounded up. -/
def ceilDiv (a b : Nat) : Nat := (a + b - 1) / b

/-! ### Spans of module time -/

def ticksPerNs : Nat := 65536
def ns (n : Nat) : Nat := n * 65536
def us (n : Nat) : Nat := n * 65536000
def ms (n : Nat) : Nat := n * 65536000000
def sec (n : Nat) : Nat := n * 65536000000000

/-- Whole seconds of an instant (R26, 48 bits). -/
def secsOf (t : Instant) : Nat := t / 65536000000000 % 2 ^ 48

/-- Nanoseconds within the second (R26). -/
def nsecOf (t : Instant) : Nat := t / 65536 % 1000000000

/-- Fraction of a nanosecond in units of 2^-16 (R26). -/
def fracOf (t : Instant) : Nat := t % 65536

/-- Fine time: the 40-bit nanosecond count (R27). -/
def fineOf (t : Instant) : Nat := t / 65536 % 2 ^ 40

/-- The signed 40-bit difference of two fine times (R28). -/
def fineDiff (a b : Nat) : Int := signed 40 (a % 2 ^ 40 + 2 ^ 40 - b % 2 ^ 40)

/-- The first whole second of module time at or after an instant. -/
def ceilSec (t : Instant) : Instant := sec (ceilDiv t (sec 1))

/-! ### Sparse stores

A store is a list of pairs with rising keys that lists no value equal to what an unlisted key reads as, so
equal stores are equal lists. `dflt` says what an unlisted key reads as. -/

/-- The value listed under a key, if any. -/
def lookup {α : Type} : List (Nat × α) → Nat → Option α
  | [], _ => none
  | (k, v) :: rest, key => if k = key then some v else lookup rest key

/-- What a key reads as. -/
def fetch {α : Type} (dflt : Nat → α) (l : List (Nat × α)) (key : Nat) : α :=
  match lookup l key with
  | some v => v
  | none => dflt key

/-- The list without a key. -/
def dropKey {α : Type} : List (Nat × α) → Nat → List (Nat × α)
  | [], _ => []
  | (k, v) :: rest, key => if k = key then rest else (k, v) :: dropKey rest key

/-- The list with a key set, in rising order. -/
def setKey {α : Type} : List (Nat × α) → Nat → α → List (Nat × α)
  | [], key, v => [(key, v)]
  | (k, w) :: rest, key, v =>
    if key < k then (key, v) :: (k, w) :: rest
    else if k = key then (key, v) :: rest
    else (k, w) :: setKey rest key v

/-- The store with a key written: a value equal to the unlisted one is not listed. -/
def store {α : Type} [DecidableEq α] (dflt : Nat → α) (l : List (Nat × α)) (key : Nat) (v : α) :
    List (Nat × α) :=
  if v = dflt key then dropKey l key else setKey l key v

/-- Keys rise strictly and none is below `lo`. -/
def risingFrom {α : Type} : Nat → List (Nat × α) → Bool
  | _, [] => true
  | lo, (k, _) :: rest => decide (lo ≤ k) && risingFrom (k + 1) rest

/-- The canonical form of a store. -/
def canon {α : Type} [DecidableEq α] (dflt : Nat → α) (l : List (Nat × α)) : Bool :=
  risingFrom 0 l && l.all (fun p => decide (p.2 ≠ dflt p.1))

/-! ### Lists -/

/-- The list with element `n` rewritten by `f`; unchanged where there is none. -/
def updAt {α : Type} : List α → Nat → (α → α) → List α
  | [], _, _ => []
  | a :: rest, 0, f => f a :: rest
  | a :: rest, n + 1, f => a :: updAt rest n f

/-- The numbers below `n`, rising. -/
def upto (n : Nat) : List Nat := List.range n

/-- The set bits of a word among the first `n`, rising. -/
def bitsOf (n : Nat) (w : Word) : List Nat := (List.range n).filter (fun i => w.getLsbD i)

/-- Sum of a list. -/
def total (l : List Nat) : Nat := l.foldl (· + ·) 0

/-- Insertion of an element into a list kept in order by `le`. -/
def insertBy {α : Type} (le : α → α → Bool) (x : α) : List α → List α
  | [] => [x]
  | y :: ys => if le x y then x :: y :: ys else y :: insertBy le x ys

/-- A list sorted by `le`, by insertion (so that the kernel evaluates it). -/
def sortBy {α : Type} (le : α → α → Bool) : List α → List α
  | [] => []
  | x :: xs => insertBy le x (sortBy le xs)

/-- The list without its first occurrence of an element. -/
def eraseFirst {α : Type} [DecidableEq α] (a : α) : List α → List α
  | [] => []
  | b :: rest => if b = a then rest else b :: eraseFirst a rest

/-- Whether a list has no element twice. -/
def noDup {α : Type} [DecidableEq α] : List α → Bool
  | [] => true
  | x :: xs => !(xs.contains x) && noDup xs

end Sys2Proof.Machine
end

