-- ==== Sys2Proof/Machine/RegMap.lean ====
section
/-! DEFINITION. The register map: every register of Table 21-1 with its access masks and reset value (R7, R572), as the
register tables of chapters 02 to 19 give them, and a name for the address of each. `dims` gives the count and stride
of each index of an indexed register. The fields a table resets to “—” are read from the rest of the state. -/

namespace Sys2Proof.Machine

/-- One register, or one family of indexed registers. -/
structure RegDesc where
  base  : Nat
  dims  : List (Nat × Nat)
  rw    : Nat
  rwl   : Nat
  w1c   : Nat
  rc    : Nat
  ro    : Nat
  wo    : Nat
  reset : Nat
deriving DecidableEq, Repr

/-- Whether an offset from the base is that of one of the registers of a family. -/
def offsetIn : List (Nat × Nat) → Nat → Bool
  | [], o => o == 0
  | (n, stride) :: rest, o => decide (o / stride < n) && offsetIn rest (o % stride)

/-- Whether a descriptor covers an address. -/
def RegDesc.covers (d : RegDesc) (a : Nat) : Bool := decide (d.base ≤ a) && offsetIn d.dims (a - d.base)

namespace Reg
def AON_CTL : Nat := 0x10000
def AON_STAT : Nat := 0x10004
def AON_PWR : Nat := 0x10008
def AON_FAULT : Nat := 0x1000c
def AON_WD_EXPIRE : Nat := 0x10080
def AON_FAB_TIMEOUT : Nat := 0x10084
def AON_HOT : Nat := 0x10088
def AON_ISL (i : Nat) : Nat := 0x10100 + i * 0x4
def AON_TC_ID (i : Nat) : Nat := 0x10200 + i * 0x4
def AON_WAKE_STAT : Nat := 0x10300
def AON_WAKE_TIME : Nat := 0x10304
def AON_WAKE_MASK_M0 (i : Nat) (j : Nat) : Nat := 0x10400 + i * 0x20 + j * 0x4
def AON_WAKE_MASK_M1 (i : Nat) (j : Nat) : Nat := 0x10800 + i * 0x20 + j * 0x4
def AON_WAKE_CRC_M0 (i : Nat) : Nat := 0x10410 + i * 0x20
def AON_WAKE_CRC_M1 (i : Nat) : Nat := 0x10810 + i * 0x20
def TB_CTL : Nat := 0x20000
def TB_STAT : Nat := 0x20004
def TB_EPOCH : Nat := 0x20008
def TB_NOW_FRAC : Nat := 0x20010
def TB_NOW_NS : Nat := 0x20014
def TB_NOW_SEC_LO : Nat := 0x20018
def TB_NOW_SEC_HI : Nat := 0x2001c
def TB_FINE_LO : Nat := 0x20020
def TB_FINE_HI : Nat := 0x20024
def TB_SRC_CTL : Nat := 0x20030
def TB_SRC_STAT : Nat := 0x20034
def TB_RATE_LO : Nat := 0x20040
def TB_RATE_HI : Nat := 0x20044
def TB_DISC_CTL : Nat := 0x20050
def TB_DISC_STAT : Nat := 0x20054
def TB_OFFSET : Nat := 0x20058
def TB_HOLD_CTL : Nat := 0x20060
def TB_SERVO_CTL : Nat := 0x20064
def TB_OUT_CTL : Nat := 0x20070
def TB_TOD_CTL : Nat := 0x20074
def TB_UTC_CTL : Nat := 0x20080
def TB_CMP_TGT_LO (i : Nat) : Nat := 0x20100 + i * 0x10
def TB_CMP_TGT_HI (i : Nat) : Nat := 0x20104 + i * 0x10
def TB_CMP_CTL (i : Nat) : Nat := 0x20108 + i * 0x10
def TB_CMP_STAT (i : Nat) : Nat := 0x2010c + i * 0x10
def TB_TDC_STAMP0 (i : Nat) : Nat := 0x20200 + i * 0x20
def TB_TDC_STAMP1 (i : Nat) : Nat := 0x20204 + i * 0x20
def TB_TDC_STAMP2 (i : Nat) : Nat := 0x20208 + i * 0x20
def TB_TDC_STAMP3 (i : Nat) : Nat := 0x2020c + i * 0x20
def TB_TDC_STAT (i : Nat) : Nat := 0x20210 + i * 0x20
def TB_PORT_ASYM (i : Nat) : Nat := 0x20400 + i * 0x4
def TB_TXTS_ID (i : Nat) : Nat := 0x21000 + i * 0x100
def TB_TXTS_NS (i : Nat) : Nat := 0x21004 + i * 0x100
def TB_TXTS_SEC_LO (i : Nat) : Nat := 0x21008 + i * 0x100
def TB_TXTS_SEC_HI (i : Nat) : Nat := 0x2100c + i * 0x100
def TB_TXTS_STAT (i : Nat) : Nat := 0x21010 + i * 0x100
def PORT_CTL (i : Nat) : Nat := 0x30000 + i * 0x1000
def PORT_STAT (i : Nat) : Nat := 0x30004 + i * 0x1000
def PORT_MAC_CTL (i : Nat) : Nat := 0x30008 + i * 0x1000
def PORT_PAUSE_CTL (i : Nat) : Nat := 0x3000c + i * 0x1000
def PORT_PRP_CTL (i : Nat) : Nat := 0x30020 + i * 0x1000
def PORT_MSEC_CTL (i : Nat) : Nat := 0x30040 + i * 0x1000
def PORT_EQ_CTL (i : Nat) : Nat := 0x30080 + i * 0x1000
def PORT_EQ_STAT0 (i : Nat) : Nat := 0x30084 + i * 0x1000
def PORT_EQ_STAT1 (i : Nat) : Nat := 0x30088 + i * 0x1000
def PORT_OPT_CTL (i : Nat) : Nat := 0x300c0 + i * 0x1000
def PORT_OPT_STAT (i : Nat) : Nat := 0x300c4 + i * 0x1000
def PORT_OPT_ID (i : Nat) (j : Nat) : Nat := 0x30100 + i * 0x1000 + j * 0x4
def PORT_HOST_FILT (i : Nat) (j : Nat) : Nat := 0x30180 + i * 0x1000 + j * 0x4
def PORT_RXR_BASE_LO (i : Nat) (j : Nat) : Nat := 0x30200 + i * 0x1000 + j * 0x40
def PORT_RXR_BASE_HI (i : Nat) (j : Nat) : Nat := 0x30204 + i * 0x1000 + j * 0x40
def PORT_RXR_SIZE (i : Nat) (j : Nat) : Nat := 0x30208 + i * 0x1000 + j * 0x40
def PORT_RXR_HEAD (i : Nat) (j : Nat) : Nat := 0x3020c + i * 0x1000 + j * 0x40
def PORT_RXR_TAIL (i : Nat) (j : Nat) : Nat := 0x30210 + i * 0x1000 + j * 0x40
def PORT_TXR_BASE_LO (i : Nat) (j : Nat) : Nat := 0x30300 + i * 0x1000 + j * 0x40
def PORT_TXR_BASE_HI (i : Nat) (j : Nat) : Nat := 0x30304 + i * 0x1000 + j * 0x40
def PORT_TXR_SIZE (i : Nat) (j : Nat) : Nat := 0x30308 + i * 0x1000 + j * 0x40
def PORT_TXR_HEAD (i : Nat) (j : Nat) : Nat := 0x3030c + i * 0x1000 + j * 0x40
def PORT_TXR_TAIL (i : Nat) (j : Nat) : Nat := 0x30310 + i * 0x1000 + j * 0x40
def PORT_CNT (i : Nat) (j : Nat) : Nat := 0x30800 + i * 0x1000 + j * 0x4
def ING_CTL : Nat := 0x40000
def ING_STAT : Nat := 0x40004
def ING_USE : Nat := 0x40008
def ING_SPILL_CTL : Nat := 0x40010
def ING_SPILL_STAT : Nat := 0x40014
def ING_SPILL_PEAK : Nat := 0x40018
def ING_TBL_IDX : Nat := 0x40020
def ING_TBL_CMD : Nat := 0x40024
def ING_TBL_W (i : Nat) : Nat := 0x40040 + i * 0x4
def ING_CNT (i : Nat) : Nat := 0x40100 + i * 0x4
def ING_OVF_DROP (i : Nat) : Nat := 0x40180 + i * 0x4
def PEC_CTL : Nat := 0x50000
def PEC_STAT : Nat := 0x50004
def PEC_SYNC_CTL : Nat := 0x50008
def PEC_SYNC_SEC : Nat := 0x5000c
def PEC_USE : Nat := 0x50010
def PEC_TBL_IDX : Nat := 0x50020
def PEC_TBL_CMD : Nat := 0x50024
def PEC_TBL_W (i : Nat) : Nat := 0x50040 + i * 0x4
def PEC_CNT (i : Nat) : Nat := 0x50100 + i * 0x4
def ALN_CTL : Nat := 0x60000
def ALN_STAT : Nat := 0x60004
def ALN_USE : Nat := 0x60008
def ALN_RATE : Nat := 0x6000c
def ALN_HIST_CTL : Nat := 0x60010
def ALN_HIST_USE : Nat := 0x60014
def ALN_CHAN_IDX : Nat := 0x60020
def ALN_CHAN_CMD : Nat := 0x60024
def ALN_CHAN_W0 : Nat := 0x60028
def ALN_CNT (i : Nat) : Nat := 0x60100 + i * 0x4
def ALN_GRP_CTL (i : Nat) : Nat := 0x61000 + i * 0x40
def ALN_GRP_WAIT (i : Nat) : Nat := 0x61004 + i * 0x40
def ALN_GRP_TOL (i : Nat) : Nat := 0x61008 + i * 0x40
def ALN_GRP_SET (i : Nat) : Nat := 0x6100c + i * 0x40
def ALN_GRP_VER (i : Nat) : Nat := 0x61010 + i * 0x40
def ALN_GRP_EFF_SEC (i : Nat) : Nat := 0x61014 + i * 0x40
def ALN_GRP_HIST (i : Nat) : Nat := 0x61018 + i * 0x40
def ALN_GRP_SEQ (i : Nat) : Nat := 0x6101c + i * 0x40
def ALN_GRP_CNT (i : Nat) (j : Nat) : Nat := 0x61020 + i * 0x40 + j * 0x4
def SPL_CTL : Nat := 0x70000
def SPL_STAT : Nat := 0x70004
def SPL_LEDGER_STAT : Nat := 0x70008
def SPL_LEDGER_PEAK : Nat := 0x7000c
def SPL_CLASS_CTL (i : Nat) : Nat := 0x70100 + i * 0x10
def SPL_CLASS_TOL_MAG (i : Nat) : Nat := 0x70104 + i * 0x10
def SPL_CLASS_TOL_ANG (i : Nat) : Nat := 0x70108 + i * 0x10
def SPL_CLASS_TOL_ABS (i : Nat) : Nat := 0x7010c + i * 0x10
def SPL_GRP_STAT (i : Nat) : Nat := 0x70800 + i * 0x4
def SPL_GRP_CNT (i : Nat) (j : Nat) : Nat := 0x71000 + i * 0x20 + j * 0x4
def OSC_CTL : Nat := 0x80000
def OSC_STAT : Nat := 0x80004
def OSC_USE : Nat := 0x80008
def OSC_TBL_IDX : Nat := 0x80010
def OSC_TBL_CMD : Nat := 0x80014
def OSC_TBL_W (i : Nat) : Nat := 0x80018 + i * 0x4
def OSC_CNT (i : Nat) : Nat := 0x80100 + i * 0x4
def OSC_SET_CTL (i : Nat) : Nat := 0x81000 + i * 0x80
def OSC_SET_WIN (i : Nat) : Nat := 0x81004 + i * 0x80
def OSC_SET_CORES (i : Nat) : Nat := 0x81008 + i * 0x80
def OSC_SET_B_DAMP (i : Nat) (j : Nat) : Nat := 0x81010 + i * 0x80 + j * 0x20
def OSC_SET_B_HYST (i : Nat) (j : Nat) : Nat := 0x81014 + i * 0x80 + j * 0x20
def OSC_SET_B_AMIN (i : Nat) (j : Nat) : Nat := 0x81018 + i * 0x80 + j * 0x20
def OSC_SET_B_AMAX (i : Nat) (j : Nat) : Nat := 0x8101c + i * 0x80 + j * 0x20
def OSC_SET_B_PERS (i : Nat) (j : Nat) : Nat := 0x81020 + i * 0x80 + j * 0x20
def OSC_SET_B_NOISE (i : Nat) (j : Nat) : Nat := 0x81024 + i * 0x80 + j * 0x20
def OSC_SET_B_K (i : Nat) (j : Nat) : Nat := 0x81028 + i * 0x80 + j * 0x20
def OSC_SET_NOISE (i : Nat) : Nat := 0x81070 + i * 0x80
def OSC_SET_FORCED (i : Nat) : Nat := 0x81074 + i * 0x80
def OSC_SET_FORCED2 (i : Nat) : Nat := 0x81078 + i * 0x80
def OSC_SET_STAT (i : Nat) : Nat := 0x8107c + i * 0x80
def ISL_CTL : Nat := 0x90000
def ISL_STAT : Nat := 0x90004
def ISL_MODEL_CRC : Nat := 0x90008
def ISL_MODEL_USE : Nat := 0x9000c
def ISL_MODEL_USE2 : Nat := 0x90010
def ISL_MODEL_EFF_SEC : Nat := 0x90014
def ISL_COH_F : Nat := 0x90020
def ISL_COH_ANG : Nat := 0x90024
def ISL_COH_TIME : Nat := 0x90028
def ISL_COH_EMA : Nat := 0x9002c
def ISL_ALM_CTL : Nat := 0x90030
def ISL_RING_CTL : Nat := 0x90040
def ISL_RING_STAT : Nat := 0x90044
def ISL_RING_MISS_LO : Nat := 0x90048
def ISL_RING_MISS_HI : Nat := 0x9004c
def ISL_JOURNAL : Nat := 0x90050
def ISL_TBL_IDX : Nat := 0x90060
def ISL_TBL_CMD : Nat := 0x90064
def ISL_TBL_W (i : Nat) : Nat := 0x90068 + i * 0x4
def ISL_CNT (i : Nat) : Nat := 0x90100 + i * 0x4
def PUB_CTL : Nat := 0xa0000
def PUB_STAT : Nat := 0xa0004
def PUB_USE : Nat := 0xa0008
def PUB_LADDER : Nat := 0xa0010
def PUB_TBL_IDX : Nat := 0xa0020
def PUB_TBL_CMD : Nat := 0xa0024
def PUB_TBL_W (i : Nat) : Nat := 0xa0028 + i * 0x4
def PUB_CNT (i : Nat) : Nat := 0xa0100 + i * 0x4
def PUB_AOUT_CTL (i : Nat) : Nat := 0xa0200 + i * 0x4
def PUB_STRM_CTL (i : Nat) : Nat := 0xa1000 + i * 0x20
def PUB_STRM_LEAD (i : Nat) : Nat := 0xa1004 + i * 0x20
def PUB_STRM_EFF_SEC (i : Nat) : Nat := 0xa1008 + i * 0x20
def PUB_STRM_AUTH (i : Nat) : Nat := 0xa100c + i * 0x20
def PUB_GOCB_CTL (i : Nat) : Nat := 0xa3000 + i * 0x20
def PUB_GOCB_ST (i : Nat) : Nat := 0xa3004 + i * 0x20
def PUB_GOCB_SQ (i : Nat) : Nat := 0xa3008 + i * 0x20
def PUB_GOCB_PORTS (i : Nat) : Nat := 0xa300c + i * 0x20
def CAP_CTL : Nat := 0xb0000
def CAP_STAT : Nat := 0xb0004
def CAP_PART_USE : Nat := 0xb0008
def CAP_TRIGIN_CTL : Nat := 0xb000c
def CAP_ROW_WAIT : Nat := 0xb0010
def CAP_CNT (i : Nat) : Nat := 0xb0100 + i * 0x4
def CAP_U_CTL (i : Nat) : Nat := 0xb1000 + i * 0x400
def CAP_U_STAT (i : Nat) : Nat := 0xb1004 + i * 0x400
def CAP_U_PRE (i : Nat) : Nat := 0xb1008 + i * 0x400
def CAP_U_POST (i : Nat) : Nat := 0xb100c + i * 0x400
def CAP_U_CH (i : Nat) (j : Nat) : Nat := 0xb1100 + i * 0x400 + j * 0x4
def CAP_U_S_COND (i : Nat) (j : Nat) : Nat := 0xb1200 + i * 0x400 + j * 0x20
def CAP_U_S_THR (i : Nat) (j : Nat) : Nat := 0xb1204 + i * 0x400 + j * 0x20
def CAP_U_S_SEL (i : Nat) (j : Nat) : Nat := 0xb1208 + i * 0x400 + j * 0x20
def CAP_U_S_N (i : Nat) (j : Nat) : Nat := 0xb120c + i * 0x400 + j * 0x20
def CAP_U_S_TMR (i : Nat) (j : Nat) : Nat := 0xb1210 + i * 0x400 + j * 0x20
def CAP_U_S_EXIT (i : Nat) (j : Nat) : Nat := 0xb1214 + i * 0x400 + j * 0x20
def EVR_CTL : Nat := 0xc0000
def EVR_STAT : Nat := 0xc0004
def EVR_SEQ_LO : Nat := 0xc0008
def EVR_SEQ_HI : Nat := 0xc000c
def EVR_USE : Nat := 0xc0010
def EVR_FAIL : Nat := 0xc0014
def EVR_CNT (i : Nat) : Nat := 0xc0100 + i * 0x4
def EVR_CLASS_CTL (i : Nat) : Nat := 0xc1000 + i * 0x10
def EVR_CLASS_BASE (i : Nat) : Nat := 0xc1004 + i * 0x10
def EVR_CLASS_CNT (i : Nat) : Nat := 0xc1008 + i * 0x10
def KEY_CTL : Nat := 0xd0000
def KEY_STAT : Nat := 0xd0004
def KEY_LC : Nat := 0xd0008
def KEY_USE : Nat := 0xd000c
def KEY_REMASK : Nat := 0xd0010
def KEY_TXN_ID : Nat := 0xd0014
def KEY_TXN_STAT : Nat := 0xd0018
def KEY_SLOT_IDX : Nat := 0xd0020
def KEY_SLOT_ATTR : Nat := 0xd0024
def KEY_SLOT_USES : Nat := 0xd0028
def KEY_SLOT_GEN : Nat := 0xd002c
def KEY_CNT (i : Nat) : Nat := 0xd0100 + i * 0x4
def CMD_ID : Nat := 0xe0000
def CMD_FW : Nat := 0xe0004
def CMD_STAT : Nat := 0xe0008
def CMD_EPOCH : Nat := 0xe000c
def CMD_CTL : Nat := 0xe0010
def CMD_SQ_BASE_LO : Nat := 0xe0100
def CMD_SQ_BASE_HI : Nat := 0xe0104
def CMD_SQ_SIZE : Nat := 0xe0108
def CMD_SQ_TAIL : Nat := 0xe010c
def CMD_SQ_HEAD : Nat := 0xe0110
def CMD_RQ_BASE_LO : Nat := 0xe0120
def CMD_RQ_BASE_HI : Nat := 0xe0124
def CMD_RQ_HEAD : Nat := 0xe0128
def CMD_RQ_TAIL : Nat := 0xe012c
def CMD_DB_STAT : Nat := 0xe0130
def CMD_LAST_NR : Nat := 0xe0134
def CMD_INT_STAT : Nat := 0xe0200
def CMD_INT_MASK : Nat := 0xe0204
def CMD_INT_COAL : Nat := 0xe0208
def CMD_HEARTBEAT : Nat := 0xe0300
def CMD_CNT (i : Nat) : Nat := 0xe0400 + i * 0x4
def MBX_STAT : Nat := 0xf0000
def MBX_GEN : Nat := 0xf0004
def MBX_INT_EN (i : Nat) : Nat := 0xf0008 + i * 0x4
def MBX_CNT (i : Nat) : Nat := 0xf0100 + i * 0x4
def MBX_BIND (i : Nat) : Nat := 0xf0800 + i * 0x4
def MBX_CH_W (i : Nat) (j : Nat) : Nat := 0xf1000 + i * 0x80 + j * 0x4
def MBX_CH_STAT (i : Nat) : Nat := 0xf1040 + i * 0x80
def MBX_CH_TIME (i : Nat) : Nat := 0xf1044 + i * 0x80
def CAS_CTL : Nat := 0x100000
def CAS_STAT : Nat := 0x100004
def CAS_MAP (i : Nat) : Nat := 0x100008 + i * 0x4
def CAS_CNT (i : Nat) : Nat := 0x100100 + i * 0x4
def MEM_CTL : Nat := 0x110000
def MEM_STAT : Nat := 0x110004
def MEM_PART : Nat := 0x110008
def MEM_TKT0 : Nat := 0x110010
def MEM_TKT1 : Nat := 0x110014
def MEM_CH_IDX : Nat := 0x110020
def MEM_CH_STAT : Nat := 0x110024
def MEM_CH_LFSR : Nat := 0x110028
def MEM_GRANT (i : Nat) : Nat := 0x110100 + i * 0x4
def MEM_CNT (i : Nat) : Nat := 0x110120 + i * 0x4
def PAIR_CTL : Nat := 0x120000
def PAIR_STAT : Nat := 0x120004
def PAIR_ILK : Nat := 0x120008
def PAIR_TMO : Nat := 0x12000c
def PAIR_SWAP_CTL : Nat := 0x120010
def PAIR_SWAP_NEXT : Nat := 0x120014
def PAIR_COPY_STAT : Nat := 0x120018
def PAIR_LAST_SW : Nat := 0x12001c
def PAIR_CNT (i : Nat) : Nat := 0x120100 + i * 0x4
def FLT_CTL : Nat := 0x130000
def FLT_STAT : Nat := 0x130004
def FLT_DET_STAT : Nat := 0x130008
def FLT_DET_MASK : Nat := 0x13000c
def FLT_INJ_SEL (i : Nat) : Nat := 0x130100 + i * 0x20
def FLT_INJ_CTL (i : Nat) : Nat := 0x130104 + i * 0x20
def FLT_INJ_TIME (i : Nat) : Nat := 0x130108 + i * 0x20
def FLT_INJ_PARAM (i : Nat) : Nat := 0x13010c + i * 0x20
def FLT_INJ_STAT (i : Nat) : Nat := 0x130110 + i * 0x20
def FLT_DET (i : Nat) : Nat := 0x130200 + i * 0x4
def FLT_CNT (i : Nat) : Nat := 0x130300 + i * 0x4
end Reg

/-- The registers of window 0x01_0000 (chapter 03). -/
def regsAon : List RegDesc := [
  ⟨0x10000, [], 4, 0x80000003, 0, 0, 0, 0, 2⟩,
  ⟨0x10004, [], 0, 0, 3, 0, 0xff0070, 0, 0⟩,
  ⟨0x10008, [], 0, 0, 0, 0, 0x73, 0, 0⟩,
  ⟨0x1000c, [], 0, 0, 0, 0, 0x1f00003f, 0, 0⟩,
  ⟨0x10080, [], 0, 0, 0, 0xffffffff, 0, 0, 0⟩,
  ⟨0x10084, [], 0, 0, 0, 0xffffffff, 0, 0, 0⟩,
  ⟨0x10088, [], 0, 0, 0, 0xffffffff, 0, 0, 0⟩,
  ⟨0x10100, [(23, 4)], 0, 0, 0, 0, 0x8fff0fff, 0, 0⟩,
  ⟨0x10200, [(64, 4)], 0, 0, 0, 0, 0xffffffff, 0, 0⟩,
  ⟨0x10300, [], 0, 0, 0x80000000, 0, 0x100ff, 0, 0⟩,
  ⟨0x10304, [], 0, 0, 0, 0, 0xffffffff, 0, 0⟩,
  ⟨0x10400, [(8, 0x20), (4, 4)], 0xffffffff, 0, 0, 0, 0, 0, 0⟩,
  ⟨0x10800, [(8, 0x20), (4, 4)], 0xffffffff, 0, 0, 0, 0, 0, 0⟩,
  ⟨0x10410, [(8, 0x20)], 0x8000ffff, 0, 0, 0, 0, 0, 0⟩,
  ⟨0x10810, [(8, 0x20)], 0x8000ffff, 0, 0, 0, 0, 0, 0⟩]

/-- The registers of window 0x02_0000 (chapter 02). -/
def regsTime : List RegDesc := [
  ⟨0x20000, [], 0, 0x8000000f, 0, 0, 0, 0, 9⟩,
  ⟨0x20004, [], 0, 0, 0x38, 0, 0xc7, 0, 0⟩,
  ⟨0x20008, [], 0, 0, 0, 0, 0xffffffff, 0, 0⟩,
  ⟨0x20010, [], 0, 0, 0, 0, 0xffff, 0, 0⟩,
  ⟨0x20014, [], 0, 0, 0, 0, 0xffffffff, 0, 0⟩,
  ⟨0x20018, [], 0, 0, 0, 0, 0xffffffff, 0, 0⟩,
  ⟨0x2001c, [], 0, 0, 0, 0, 0xffff, 0, 0⟩,
  ⟨0x20020, [], 0, 0, 0, 0, 0xffffffff, 0, 0⟩,
  ⟨0x20024, [], 0, 0, 0, 0, 0xff, 0, 0⟩,
  ⟨0x20030, [], 0x10ffffff, 0, 0, 0, 0, 0, 0xffffff⟩,
  ⟨0x20034, [], 0, 0, 0, 0xffff00, 0x1f0000ff, 0, 0⟩,
  ⟨0x20040, [], 0, 0, 0, 0, 0xffffffff, 0, 0⟩,
  ⟨0x20044, [], 0, 0, 0, 0, 0xff, 0, 0⟩,
  ⟨0x20050, [], 0xffffffff, 0, 0, 0, 0, 0, 0x332003e8⟩,
  ⟨0x20054, [], 0, 0, 0, 0xffff, 0x80000000, 0, 0⟩,
  ⟨0x20058, [], 0, 0, 0, 0, 0xffffffff, 0, 0⟩,
  ⟨0x20060, [], 0xffffff, 0, 0, 0, 0, 0, 0x186a0⟩,
  ⟨0x20064, [], 0x1ff, 0, 0, 0, 0, 0, 0x32⟩,
  ⟨0x20070, [], 0x37ff, 0, 0, 0, 0, 0, 0x3064⟩,
  ⟨0x20074, [], 0x37, 0, 0, 0, 0, 0, 0x30⟩,
  ⟨0x20080, [], 0xfff00ff, 0, 0, 0, 0, 0, 0⟩,
  ⟨0x20100, [(8, 0x10)], 0xffffffff, 0, 0, 0, 0, 0, 0⟩,
  ⟨0x20104, [(8, 0x10)], 0xff, 0, 0, 0, 0, 0, 0⟩,
  ⟨0x20108, [(8, 0x10)], 0xf, 0, 0, 0, 0, 0, 0⟩,
  ⟨0x2010c, [(8, 0x10)], 0, 0, 7, 0, 0, 0, 0⟩,
  ⟨0x20200, [(6, 0x20)], 0, 0, 0, 0, 0x8000ffff, 0, 0⟩,
  ⟨0x20204, [(6, 0x20)], 0, 0, 0, 0, 0xffffffff, 0, 0⟩,
  ⟨0x20208, [(6, 0x20)], 0, 0, 0, 0, 0xffffffff, 0, 0⟩,
  ⟨0x2020c, [(6, 0x20)], 0, 0, 0, 0, 0xffff, 0, 0⟩,
  ⟨0x20210, [(6, 0x20)], 0, 0, 0x80000000, 0xffff, 0x1f0000, 0, 0⟩,
  ⟨0x20400, [(10, 4)], 0xffff, 0, 0, 0, 0, 0, 0⟩,
  ⟨0x21000, [(10, 0x100)], 0, 0, 0, 0, 0xc00fffff, 0, 0⟩,
  ⟨0x21004, [(10, 0x100)], 0, 0, 0, 0, 0xffffffff, 0, 0⟩,
  ⟨0x21008, [(10, 0x100)], 0, 0, 0, 0, 0xffffffff, 0, 0⟩,
  ⟨0x2100c, [(10, 0x100)], 0, 0, 0, 0, 0xffff, 0, 0⟩,
  ⟨0x21010, [(10, 0x100)], 0, 0, 0x80000000, 0xffff, 0x7f0000, 0, 0⟩]

/-- The registers of window 0x03_0000 (chapter 03). -/
def regsPort : List RegDesc := [
  ⟨0x30000, [(10, 0x1000)], 0x801, 0x8000070e, 0, 0, 0, 0, 0x400⟩,
  ⟨0x30004, [(10, 0x1000)], 0, 0, 0xc0, 0, 0xfe003f, 0, 0⟩,
  ⟨0x30008, [(10, 0x1000)], 0x3fff0f00, 0, 0, 0, 0, 0, 0x6400600⟩,
  ⟨0x3000c, [(10, 0x1000)], 0xffffffff, 0, 0, 0, 0, 0, 0⟩,
  ⟨0x30020, [(5, 0x2000)], 0x3ff0001, 0, 0, 0, 0, 0, 0x1900000⟩,
  ⟨0x30040, [(10, 0x1000)], 0xf, 0, 0, 0, 0, 0, 0⟩,
  ⟨0x30080, [(10, 0x1000)], 0x9f3f3f3f, 0, 0, 0, 0, 0, 0⟩,
  ⟨0x30084, [(10, 0x1000)], 0, 0, 0, 0, 0x3f3f3f1f, 0, 0⟩,
  ⟨0x30088, [(10, 0x1000)], 0, 0, 0, 0, 0x3f3f, 0, 0⟩,
  ⟨0x300c0, [(8, 0x1000)], 0x7f02, 1, 0, 0, 0, 0, 0x7001⟩,
  ⟨0x380c0, [(2, 0x1000)], 0x7f02, 1, 0, 0, 0, 0, 0x7000⟩,
  ⟨0x300c4, [(10, 0x1000)], 0, 0, 0, 0, 0xd, 0, 0⟩,
  ⟨0x30100, [(10, 0x1000), (24, 4)], 0, 0, 0, 0, 0xffffffff, 0, 0⟩,
  ⟨0x30180, [(10, 0x1000), (4, 4)], 0x8000ffff, 0, 0, 0, 0, 0, 0⟩,
  ⟨0x30200, [(10, 0x1000), (2, 0x40)], 0xffffffff, 0, 0, 0, 0, 0, 0⟩,
  ⟨0x30204, [(10, 0x1000), (2, 0x40)], 0xffffffff, 0, 0, 0, 0, 0, 0⟩,
  ⟨0x30208, [(10, 0x1000), (2, 0x40)], 0x1fff, 0, 0, 0, 0, 0, 0⟩,
  ⟨0x3020c, [(10, 0x1000), (2, 0x40)], 0, 0, 0, 0, 0xfff, 0, 0⟩,
  ⟨0x30210, [(10, 0x1000), (2, 0x40)], 0xfff, 0, 0, 0, 0, 0, 0⟩,
  ⟨0x30300, [(10, 0x1000), (2, 0x40)], 0xffffffff, 0, 0, 0, 0, 0, 0⟩,
  ⟨0x30304, [(10, 0x1000), (2, 0x40)], 0xffffffff, 0, 0, 0, 0, 0, 0⟩,
  ⟨0x30308, [(10, 0x1000), (2, 0x40)], 0x1fff, 0, 0, 0, 0, 0, 0⟩,
  ⟨0x3030c, [(10, 0x1000), (2, 0x40)], 0, 0, 0, 0, 0xfff, 0, 0⟩,
  ⟨0x30310, [(10, 0x1000), (2, 0x40)], 0xfff, 0, 0, 0, 0, 0, 0⟩,
  ⟨0x30800, [(10, 0x1000), (29, 4)], 0, 0, 0, 0xffffffff, 0, 0, 0⟩]

/-- The registers of window 0x04_0000 (chapter 04). -/
def regsIng : List RegDesc := [
  ⟨0x40000, [], 0xfff2, 0x80000001, 0, 0, 0, 0, 0x3c42⟩,
  ⟨0x40004, [], 0, 0, 7, 0, 8, 0, 0⟩,
  ⟨0x40008, [], 0, 0, 0, 0, 0x7ff7fff, 0, 0⟩,
  ⟨0x40010, [], 0, 0x1ff, 0, 0, 0, 0, 0x40⟩,
  ⟨0x40014, [], 0, 0, 0, 0, 0x7ffff, 0, 0⟩,
  ⟨0x40018, [], 0, 0, 0, 0x7ffff, 0, 0, 0⟩,
  ⟨0x40020, [], 0x3fff, 0, 0, 0, 0, 0, 0⟩,
  ⟨0x40024, [], 0, 0, 0, 0, 0xf0000000, 3, 0⟩,
  ⟨0x40040, [(8, 4)], 0xffffffff, 0, 0, 0, 0, 0, 0⟩,
  ⟨0x40100, [(15, 4)], 0, 0, 0, 0xffffffff, 0, 0, 0⟩,
  ⟨0x40180, [(10, 4)], 0, 0, 0, 0xffffffff, 0, 0, 0⟩]

/-- The registers of window 0x05_0000 (chapter 05). -/
def regsPec : List RegDesc := [
  ⟨0x50000, [], 0, 0x80000003, 0, 0, 0, 0, 2⟩,
  ⟨0x50004, [], 0, 0, 0x37, 0, 8, 0, 0⟩,
  ⟨0x50008, [], 3, 0, 0, 0, 0, 0, 0⟩,
  ⟨0x5000c, [], 0, 0, 0, 0, 0xffffffff, 0, 0⟩,
  ⟨0x50010, [], 0, 0, 0, 0, 0x7ff07ff, 0, 0⟩,
  ⟨0x50020, [], 0x37fff, 0, 0, 0, 0, 0, 0⟩,
  ⟨0x50024, [], 0, 0, 0, 0, 0xf0000000, 3, 0⟩,
  ⟨0x50040, [(8, 4)], 0xffffffff, 0, 0, 0, 0, 0, 0⟩,
  ⟨0x50100, [(14, 4)], 0, 0, 0, 0xffffffff, 0, 0, 0⟩]

/-- The registers of window 0x06_0000 (chapter 06). -/
def regsAln : List RegDesc := [
  ⟨0x60000, [], 0, 0x80000001, 0, 0, 0, 0, 0⟩,
  ⟨0x60004, [], 0, 0, 0x1f, 0, 0, 0, 0⟩,
  ⟨0x60008, [], 0, 0, 0, 0, 0x3f7fff, 0, 0⟩,
  ⟨0x6000c, [], 0, 0, 0, 0, 0xffff, 0, 0⟩,
  ⟨0x60010, [], 0, 0x1f, 0, 0, 0, 0, 0⟩,
  ⟨0x60014, [], 0, 0, 0, 0, 0x7fff, 0, 0⟩,
  ⟨0x60020, [], 0x3ffff, 0, 0, 0, 0, 0, 0⟩,
  ⟨0x60024, [], 0, 0, 0, 0, 0xf0000000, 3, 0⟩,
  ⟨0x60028, [], 0x9f0f0000, 0, 0, 0, 7, 0, 0⟩,
  ⟨0x60100, [(3, 4)], 0, 0, 0, 0xffffffff, 0, 0, 0⟩,
  ⟨0x61000, [(32, 0x40)], 0x7fffcf, 0, 0, 0, 0xf0000000, 0, 0x5a86⟩,
  ⟨0x61004, [(32, 0x40)], 0x7fffffff, 0, 0, 0, 0, 0, 0x50014⟩,
  ⟨0x61008, [(32, 0x40)], 0x3ff, 0, 0, 0, 0, 0, 0xa⟩,
  ⟨0x6100c, [(32, 0x40)], 0, 0, 0, 0, 0x7ffff, 0, 0⟩,
  ⟨0x61010, [(32, 0x40)], 0, 0, 0, 0, 0x1ffff, 0, 0⟩,
  ⟨0x61014, [(32, 0x40)], 0, 0, 0, 0, 0xffffffff, 0, 0⟩,
  ⟨0x61018, [(32, 0x40)], 0, 0, 0, 0, 0xfffffff, 0, 0⟩,
  ⟨0x6101c, [(32, 0x40)], 0, 0, 0, 0, 0xffffffff, 0, 0⟩,
  ⟨0x61020, [(32, 0x40), (8, 4)], 0, 0, 0, 0xffffffff, 0, 0, 0⟩]

/-- The registers of window 0x07_0000 (chapter 07). -/
def regsSpl : List RegDesc := [
  ⟨0x70000, [], 0, 0x80000001, 0, 0, 0, 0, 0⟩,
  ⟨0x70004, [], 0, 0, 0x1f, 0, 0, 0, 0⟩,
  ⟨0x70008, [], 0, 0, 0, 0, 0xfff0fff, 0, 0⟩,
  ⟨0x7000c, [], 0, 0, 0, 0xfff, 0, 0, 0⟩,
  ⟨0x70100, [(16, 0x10)], 0xffffff03, 0, 0, 0, 0, 0, 0x3f800a01⟩,
  ⟨0x70104, [(16, 0x10)], 0xffffffff, 0, 0, 0, 0, 0, 0x3b03126f⟩,
  ⟨0x70108, [(16, 0x10)], 0xffffffff, 0, 0, 0, 0, 0, 0x3dcccccd⟩,
  ⟨0x7010c, [(16, 0x10)], 0xffffffff, 0, 0, 0, 0, 0, 0x3a83126f⟩,
  ⟨0x70800, [(32, 4)], 0, 0, 0, 0, 0x37f, 0, 0⟩,
  ⟨0x71000, [(32, 0x20), (8, 4)], 0, 0, 0, 0xffffffff, 0, 0, 0⟩]

/-- The registers of window 0x08_0000 (chapter 08). -/
def regsOsc : List RegDesc := [
  ⟨0x80000, [], 0, 0x80000003, 0, 0, 0, 0, 2⟩,
  ⟨0x80004, [], 0, 0, 0x1f, 0, 0, 0, 0⟩,
  ⟨0x80008, [], 0, 0, 0, 0, 0x3f3f01ff, 0, 0⟩,
  ⟨0x80010, [], 0x13fff, 0, 0, 0, 0, 0, 0⟩,
  ⟨0x80014, [], 0, 0, 0, 0, 0xf0000000, 3, 0⟩,
  ⟨0x80018, [(4, 4)], 0xffffffff, 0, 0, 0, 0, 0, 0⟩,
  ⟨0x80100, [(8, 4)], 0, 0, 0, 0xffffffff, 0, 0, 0⟩,
  ⟨0x81000, [(32, 0x80)], 0x71f7000, 0, 0, 0, 0xc0000000, 0, 0x2101000⟩,
  ⟨0x81004, [(32, 0x80)], 0x7f03ff, 0, 0, 0, 0, 0, 0x5f012c⟩,
  ⟨0x81008, [(32, 0x80)], 0x1ffff, 0, 0, 0, 0, 0, 0⟩,
  ⟨0x81010, [(32, 0x80), (3, 0x20)], 0xffffffff, 0, 0, 0, 0, 0, 0x3d4ccccd⟩,
  ⟨0x81014, [(32, 0x80), (3, 0x20)], 0xffffffff, 0, 0, 0, 0, 0, 0x3c23d70a⟩,
  ⟨0x81018, [(32, 0x80), (3, 0x20)], 0xffffffff, 0, 0, 0, 0, 0, 0⟩,
  ⟨0x8101c, [(32, 0x80), (3, 0x20)], 0xffffffff, 0, 0, 0, 0, 0, 0x7f800000⟩,
  ⟨0x81020, [(32, 0x80), (3, 0x20)], 0x3fffffff, 0, 0, 0, 0, 0, 0x320c864⟩,
  ⟨0x81024, [(32, 0x80), (3, 0x20)], 0, 0, 0, 0, 0xffffffff, 0, 0⟩,
  ⟨0x81028, [(32, 0x80), (3, 0x20)], 0xffff, 0, 0, 0, 0, 0, 0x810⟩,
  ⟨0x81070, [(32, 0x80)], 0xfff, 0, 0, 0, 0, 0, 0x258⟩,
  ⟨0x81074, [(32, 0x80)], 0xff7f7f3f, 0, 0, 0, 0, 0, 0x3c195a0c⟩,
  ⟨0x81078, [(32, 0x80)], 0xf7fff, 0, 0, 0, 0, 0, 0x31e1e⟩,
  ⟨0x8107c, [(32, 0x80)], 0, 0, 0, 0, 0xffff3f3f, 0, 0⟩]

/-- The registers of window 0x09_0000 (chapter 09). -/
def regsIsl : List RegDesc := [
  ⟨0x90000, [], 2, 0x80000005, 0, 0, 0, 0, 2⟩,
  ⟨0x90004, [], 0, 0, 0x3f, 0, 0x3f80, 0, 0⟩,
  ⟨0x90008, [], 0, 0, 0, 0, 0xffffffff, 0, 0⟩,
  ⟨0x9000c, [], 0, 0, 0, 0, 0x1ffff, 0, 0⟩,
  ⟨0x90010, [], 0, 0, 0, 0, 0x3ffff, 0, 0⟩,
  ⟨0x90014, [], 0, 0, 0, 0, 0xffffffff, 0, 0⟩,
  ⟨0x90020, [], 0xffffffff, 0, 0, 0, 0, 0, 0x3ca3d70a⟩,
  ⟨0x90024, [], 0xffffffff, 0, 0, 0, 0, 0, 0x41200000⟩,
  ⟨0x90028, [], 0xfff0fff, 0, 0, 0, 0, 0, 0x3e800c8⟩,
  ⟨0x9002c, [], 0x1fff, 0, 0, 0, 0, 0, 0x1f4⟩,
  ⟨0x90030, [], 0x7fffffff, 0, 0, 0, 0, 0, 0x32050103⟩,
  ⟨0x90040, [], 0x1fff03ff, 0, 0, 0, 0, 0, 0x258006e⟩,
  ⟨0x90044, [], 0, 0, 0, 0, 0x7f7f, 0, 0⟩,
  ⟨0x90048, [], 0, 0, 0, 0, 0xffffffff, 0, 0⟩,
  ⟨0x9004c, [], 0, 0, 0, 0, 0xffffffff, 0, 0⟩,
  ⟨0x90050, [], 0, 0, 0, 0x7ff0000, 0x7ff, 0, 0⟩,
  ⟨0x90060, [], 0x5ffff, 0, 0, 0, 0, 0, 0⟩,
  ⟨0x90064, [], 0, 0, 0, 0, 0xf0000000, 3, 0⟩,
  ⟨0x90068, [(4, 4)], 0xffffffff, 0, 0, 0, 0, 0, 0⟩,
  ⟨0x90100, [(13, 4)], 0, 0, 0, 0xffffffff, 0, 0, 0⟩]

/-- The registers of window 0x0A_0000 (chapter 10). -/
def regsPub : List RegDesc := [
  ⟨0xa0000, [], 0, 0x80000007, 0, 0, 0, 0, 0⟩,
  ⟨0xa0004, [], 0, 0, 0x1f, 0, 0, 0, 0⟩,
  ⟨0xa0008, [], 0, 0, 0, 0, 0x1fffff7f, 0, 0⟩,
  ⟨0xa0010, [], 0xffff007f, 0, 0, 0, 0, 0, 0x3e80002⟩,
  ⟨0xa0020, [], 0x307fff, 0, 0, 0, 0, 0, 0⟩,
  ⟨0xa0024, [], 0, 0, 0, 0, 0xf0000000, 3, 0⟩,
  ⟨0xa0028, [(4, 4)], 0xffffffff, 0, 0, 0, 0, 0, 0⟩,
  ⟨0xa0100, [(8, 4)], 0, 0, 0, 0xffffffff, 0, 0, 0⟩,
  ⟨0xa0200, [(8, 4)], 0xc3ffffff, 0, 0, 0, 0x20000000, 0, 0x640000⟩,
  ⟨0xa1000, [(64, 0x20)], 0x3c1f03ff, 0, 0, 0, 0xc0000000, 0, 0⟩,
  ⟨0xa1004, [(64, 0x20)], 0x1fff, 0, 0, 0, 0, 0, 0x258⟩,
  ⟨0xa1008, [(64, 0x20)], 0, 0, 0, 0, 0xffffffff, 0, 0⟩,
  ⟨0xa100c, [(64, 0x20)], 0xff, 0, 0, 0, 0, 0, 0⟩,
  ⟨0xa3000, [(128, 0x20)], 0xe000ff00, 0, 0, 0, 0x107f0000, 0, 0⟩,
  ⟨0xa3004, [(128, 0x20)], 0, 0, 0, 0, 0xffffffff, 0, 0⟩,
  ⟨0xa3008, [(128, 0x20)], 0, 0, 0, 0, 0xffffffff, 0, 0⟩,
  ⟨0xa300c, [(128, 0x20)], 0x3ff, 0, 0, 0, 0, 0, 0⟩]

/-- The registers of window 0x0B_0000 (chapter 11). -/
def regsCap : List RegDesc := [
  ⟨0xb0000, [], 0, 0x80000f01, 0, 0, 0, 0, 0⟩,
  ⟨0xb0004, [], 0, 0, 0xff, 0, 0, 0, 0⟩,
  ⟨0xb0008, [], 0, 0, 0, 0, 0x1ff3fff, 0, 0⟩,
  ⟨0xb000c, [], 0x3ff00ff, 0, 0, 0, 0, 0, 0⟩,
  ⟨0xb0010, [], 0x3ff, 0, 0, 0, 0, 0, 0x32⟩,
  ⟨0xb0100, [(8, 4)], 0, 0, 0, 0xffffffff, 0, 0, 0⟩,
  ⟨0xb1000, [(4, 0x400)], 0x3d, 0, 0, 0, 0, 0, 0⟩,
  ⟨0xb1004, [(4, 0x400)], 0, 0, 0, 0, 0xffffff77, 0, 0⟩,
  ⟨0xb1008, [(4, 0x400)], 0xfffff, 0, 0, 0, 0, 0, 0⟩,
  ⟨0xb100c, [(4, 0x400)], 0xffffffff, 0, 0, 0, 0, 0, 0⟩,
  ⟨0xb1100, [(4, 0x400), (64, 4)], 0x8003ffff, 0, 0, 0, 0, 0, 0⟩,
  ⟨0xb1200, [(4, 0x400), (8, 0x20)], 0x337ff, 0, 0, 0, 0, 0, 0⟩,
  ⟨0xb1204, [(4, 0x400), (8, 0x20)], 0xffffffff, 0, 0, 0, 0, 0, 0⟩,
  ⟨0xb1208, [(4, 0x400), (8, 0x20)], 0xffffffff, 0, 0, 0, 0, 0, 0⟩,
  ⟨0xb120c, [(4, 0x400), (8, 0x20)], 0xffffffff, 0, 0, 0, 0, 0, 0⟩,
  ⟨0xb1210, [(4, 0x400), (8, 0x20)], 0x80ffffff, 0, 0, 0, 0, 0, 0⟩,
  ⟨0xb1214, [(4, 0x400), (8, 0x20)], 0x7370737, 0, 0, 0, 0, 0, 0⟩]

/-- The registers of window 0x0C_0000 (chapter 12). -/
def regsEvr : List RegDesc := [
  ⟨0xc0000, [], 0, 0x81ffff01, 0, 0, 0, 0, 0x1000001⟩,
  ⟨0xc0004, [], 0, 0, 0xf, 0, 0x30, 0, 0⟩,
  ⟨0xc0008, [], 0, 0, 0, 0, 0xffffffff, 0, 0⟩,
  ⟨0xc000c, [], 0, 0, 0, 0, 0xffffffff, 0, 0⟩,
  ⟨0xc0010, [], 0, 0, 0, 0, 0x1ff7fff, 0, 0⟩,
  ⟨0xc0014, [], 0, 0, 0, 0, 0xc3ffffff, 0, 0⟩,
  ⟨0xc0100, [(5, 4)], 0, 0, 0, 0xffffffff, 0, 0, 0⟩,
  ⟨0xc1000, [(64, 0x10)], 0x80000fff, 0, 0, 0, 0x40000000, 0, 0x8000003c⟩,
  ⟨0xc1004, [(64, 0x10)], 0xffffffff, 0, 0, 0, 0, 0, 0x3f800000⟩,
  ⟨0xc1008, [(64, 0x10)], 0, 0, 0, 0xffffffff, 0, 0, 0⟩]

/-- The registers of window 0x0D_0000 (chapter 13). -/
def regsKey : List RegDesc := [
  ⟨0xd0000, [], 0, 0x8001ff00, 0, 0, 0, 0, 0⟩,
  ⟨0xd0004, [], 0, 0, 0x3f, 0, 0, 0, 0⟩,
  ⟨0xd0008, [], 0, 0, 0, 0, 0xffff0007, 0, 0⟩,
  ⟨0xd000c, [], 0, 0, 0, 0, 0x1ff01ff, 0, 0⟩,
  ⟨0xd0010, [], 0x3ff, 0, 0, 0, 0, 0, 0xa⟩,
  ⟨0xd0014, [], 0, 0, 0, 0, 0xffffffff, 0, 0⟩,
  ⟨0xd0018, [], 0, 0, 0, 0, 0xff03, 0, 0⟩,
  ⟨0xd0020, [], 0xff, 0, 0, 0, 0, 0, 0⟩,
  ⟨0xd0024, [], 0, 0, 0, 0, 0xffffffff, 0, 0⟩,
  ⟨0xd0028, [], 0, 0, 0, 0, 0xffffffff, 0, 0⟩,
  ⟨0xd002c, [], 0, 0, 0, 0, 0xffff, 0, 0⟩,
  ⟨0xd0100, [(8, 4)], 0, 0, 0, 0xffffffff, 0, 0, 0⟩]

/-- The registers of window 0x0E_0000 (chapter 14). -/
def regsCmd : List RegDesc := [
  ⟨0xe0000, [], 0, 0, 0, 0, 0xffffff00, 0, 0x640200⟩,
  ⟨0xe0004, [], 0, 0, 0, 0, 0xffffffff, 0, 0x3020000⟩,
  ⟨0xe0008, [], 0, 0, 0x10000, 0, 0xfffe000f, 0, 0⟩,
  ⟨0xe000c, [], 0, 0, 0, 0, 0xffffffff, 0, 0⟩,
  ⟨0xe0010, [], 3, 0x80000004, 0, 0, 0, 0, 0⟩,
  ⟨0xe0100, [], 0xffffffff, 0, 0, 0, 0, 0, 0⟩,
  ⟨0xe0104, [], 0xffffffff, 0, 0, 0, 0, 0, 0⟩,
  ⟨0xe0108, [], 0x7ff, 0, 0, 0, 0, 0, 0x400⟩,
  ⟨0xe010c, [], 0x3ff, 0, 0, 0, 0, 0, 0⟩,
  ⟨0xe0110, [], 0, 0, 0, 0, 0x3ff, 0, 0⟩,
  ⟨0xe0120, [], 0xffffffff, 0, 0, 0, 0, 0, 0⟩,
  ⟨0xe0124, [], 0xffffffff, 0, 0, 0, 0, 0, 0⟩,
  ⟨0xe0128, [], 0xff, 0, 0, 0, 0, 0, 0⟩,
  ⟨0xe012c, [], 0, 0, 0, 0, 0x1ff, 0, 0⟩,
  ⟨0xe0130, [], 0, 0, 0, 0xffff, 0x81ff0000, 0, 0⟩,
  ⟨0xe0134, [], 0, 0, 0, 0, 0xffffffff, 0, 0⟩,
  ⟨0xe0200, [], 0, 0, 0xffffffff, 0, 0, 0, 0⟩,
  ⟨0xe0204, [], 0xffffffff, 0, 0, 0, 0, 0, 0xffffffff⟩,
  ⟨0xe0208, [], 0x3ff00ff, 0, 0, 0, 0, 0, 1⟩,
  ⟨0xe0300, [], 0, 0, 0, 0, 0, 0xffffffff, 0⟩,
  ⟨0xe0400, [(5, 4)], 0, 0, 0, 0xffffffff, 0, 0, 0⟩]

/-- The registers of window 0x0F_0000 (chapter 15). -/
def regsMbx : List RegDesc := [
  ⟨0xf0000, [], 0, 0, 3, 0, 0, 0, 0⟩,
  ⟨0xf0004, [], 0, 0, 0, 0, 0xfffff, 0, 0⟩,
  ⟨0xf0008, [(2, 4)], 0xffffffff, 0, 0, 0, 0, 0, 0⟩,
  ⟨0xf0100, [(4, 4)], 0, 0, 0, 0xffffffff, 0, 0, 0⟩,
  ⟨0xf0800, [(64, 4)], 0, 0x80ffffff, 0, 0, 0, 0, 0⟩,
  ⟨0xf1000, [(64, 0x80), (16, 4)], 0xffffffff, 0, 0, 0, 0, 0, 0⟩,
  ⟨0xf1040, [(64, 0x80)], 0, 0, 0, 0, 0xcfff0fff, 0, 0⟩,
  ⟨0xf1044, [(64, 0x80)], 0, 0, 0, 0, 0xffffffff, 0, 0⟩]

/-- The registers of window 0x10_0000 (chapter 15). -/
def regsCas : List RegDesc := [
  ⟨0x100000, [], 4, 0x80000002, 0, 0, 0, 0, 6⟩,
  ⟨0x100004, [], 0, 0, 0xf, 0, 0xffff8010, 0, 0⟩,
  ⟨0x100008, [(4, 4)], 0, 0, 0, 0, 0xffffffff, 0, 0⟩,
  ⟨0x100100, [(4, 4)], 0, 0, 0, 0xffffffff, 0, 0, 0⟩]

/-- The registers of window 0x11_0000 (chapter 16). -/
def regsMem : List RegDesc := [
  ⟨0x110000, [], 1, 0x80000000, 0, 0, 0, 0, 1⟩,
  ⟨0x110004, [], 0, 0, 3, 0, 0, 0, 0⟩,
  ⟨0x110008, [], 0, 0, 0, 0, 0x1ff0f1f, 0, 0⟩,
  ⟨0x110010, [], 0, 0xffffffff, 0, 0, 0, 0, 0x20203060⟩,
  ⟨0x110014, [], 0, 0xffffffff, 0, 0, 0, 0, 0x8100810⟩,
  ⟨0x110020, [], 0x1f, 0, 0, 0, 0, 0, 0⟩,
  ⟨0x110024, [], 0, 0, 0, 0xffff0000, 0x7f, 0, 0⟩,
  ⟨0x110028, [], 0, 0, 0, 0, 0xffffffff, 0, 0⟩,
  ⟨0x110100, [(8, 4)], 0, 0, 0, 0xffffffff, 0, 0, 0⟩,
  ⟨0x110120, [(4, 4)], 0, 0, 0, 0xffffffff, 0, 0, 0⟩]

/-- The registers of window 0x12_0000 (chapter 17). -/
def regsPair : List RegDesc := [
  ⟨0x120000, [], 0, 0x80000007, 0, 0, 0, 0, 0⟩,
  ⟨0x120004, [], 0, 0, 0x1f, 0, 0xff00e020, 0, 0⟩,
  ⟨0x120008, [], 0, 0, 0, 0, 0xf0000000, 0, 0⟩,
  ⟨0x12000c, [], 0x3fffff3f, 0, 0, 0, 0, 0, 0x3e8100a⟩,
  ⟨0x120010, [], 0x3fff03ff, 0, 0, 0, 0, 0, 0xc80000⟩,
  ⟨0x120014, [], 0, 0, 0, 0, 0xffffffff, 0, 0⟩,
  ⟨0x120018, [], 0, 0, 0, 0, 0xfff0007, 0, 0⟩,
  ⟨0x12001c, [], 0, 0, 0, 0, 0xfffffff, 0, 0⟩,
  ⟨0x120100, [(10, 4)], 0, 0, 0, 0xffffffff, 0, 0, 0⟩]

/-- The registers of window 0x13_0000 (chapter 19). -/
def regsFlt : List RegDesc := [
  ⟨0x130000, [], 1, 0x80000002, 0, 0, 0, 0, 1⟩,
  ⟨0x130004, [], 0, 0, 7, 0, 0, 0, 0⟩,
  ⟨0x130008, [], 0, 0, 0x3fffff, 0, 0, 0, 0⟩,
  ⟨0x13000c, [], 0x3fffff, 0, 0, 0, 0, 0, 0⟩,
  ⟨0x130100, [(8, 0x20)], 0xffff1f, 0, 0, 0, 0, 0, 0⟩,
  ⟨0x130104, [(8, 0x20)], 0xb000ffff, 0, 0, 0, 0, 0, 1⟩,
  ⟨0x130108, [(8, 0x20)], 0xffffffff, 0, 0, 0, 0, 0, 0⟩,
  ⟨0x13010c, [(8, 0x20)], 0xffffffff, 0, 0, 0, 0, 0, 0⟩,
  ⟨0x130110, [(8, 0x20)], 0, 0, 0, 0, 0xffff03, 0, 0⟩,
  ⟨0x130200, [(22, 4)], 0, 0, 0, 0xffffffff, 0, 0, 0⟩,
  ⟨0x130300, [(3, 4)], 0, 0, 0, 0xffffffff, 0, 0, 0⟩]

/-- The registers of a block by its code (R570); unassigned blocks have none. -/
def regsOf : Nat → List RegDesc
  | 1 => regsAon
  | 2 => regsTime
  | 3 => regsPort
  | 4 => regsIng
  | 5 => regsPec
  | 6 => regsAln
  | 7 => regsSpl
  | 8 => regsOsc
  | 9 => regsIsl
  | 10 => regsPub
  | 11 => regsCap
  | 12 => regsEvr
  | 13 => regsKey
  | 14 => regsCmd
  | 15 => regsMbx
  | 16 => regsCas
  | 17 => regsMem
  | 18 => regsPair
  | 19 => regsFlt
  | _ => []

/-- The block an address lies in (R570). -/
def blockOf (a : Nat) : Nat := a / 0x10000

/-- The descriptor of an address; none where the address is unmapped or not aligned to a word (R9, R572). -/
def descAt (a : Nat) : Option RegDesc := (regsOf (blockOf a)).find? (fun d => d.covers a)

/-- What a register reads as until it is written. -/
def resetWord (a : Nat) : Word :=
  match descAt a with
  | some d => word d.reset
  | none => 0#32

end Sys2Proof.Machine
end

