-- ==== Sys2Proof/Types/Record.lean ====
section
/-! DEFINITION. An event on its way to Sillage (R362, R364): its class, its quantity, its instant and epoch, whether it
carries INJECTED, whether module time was degraded, and the words of its detail in the order of Table 12-1. -/

namespace Sys2Proof.Machine

structure EventMsg where
  cls      : Nat
  qty      : Rat
  at_      : Instant
  epoch    : Word
  injected : Bool
  degraded : Bool
  detail   : List Word
deriving DecidableEq, Repr

end Sys2Proof.Machine
end

