-- ==== Sys2Proof/Machine/Fresh.lean ====
section
/-! DEFINITION. What each piece of the state is where nothing has been done with it: the values that resets, stops and State.reset put there. -/

namespace Sys2Proof.Machine

def noQual : SrcQual := ⟨0, false, 0, none⟩

def noTdc : Tdc := ⟨[], none, false, 0⟩

/-- The intervals of a profile's port data set: 1 s in the power profiles; Announce every 2 s in the default profile. -/
def profileDS : PtpProfile → PtpPortDS
  | .iec61850_9_3 => ⟨1000, 1000, 1000, 3⟩
  | .c37_238 => ⟨1000, 1000, 1000, 3⟩
  | .default1588 => ⟨2000, 1000, 1000, 3⟩

/-- A PTP port as a profile leaves it: LISTENING where the profile uses it, DISABLED elsewhere. -/
def freshPtpPort (used : Bool) (ds : PtpPortDS) (up : Nat) : PtpPort :=
  let after (msec : Nat) : Option Nat := if used then some (up + ms (max 1 msec)) else none
  { st := if used then .listening else .disabled, ds := ds, best := none,
    announceBy := after (ds.announceMs * ds.receipt), missed := 0, annDue := after ds.announceMs, syncDue := after ds.syncMs,
    delayDue := after ds.delayMs, txSeq := 0#16, pendSync := none, pathDelay := 0, pdelayTx := none, pdelayRx := none, delayTx := none,
    lastSync := none, syncNew := false }

/-- MACsec with nothing installed. DESIGN CHOICE (assumption 109): the suite, and confidentiality with offset 0, until commands set others. -/
def freshMacsec : Macsec := ⟨.gcm128, 0#64, [], none, [], none, 0, some 0⟩

def idleI2c : I2cMaster := ⟨0#7, 0#8, none⟩

/-- A port island as its reset leaves it. -/
def freshPort : Port :=
  { signal := false, blockLock := false, fecLock := false, anDone := false, phySlow := false, adaptDue := none,
    adapted := false, link := false, modAbsPin := true, modAbs := true, optics := .settle 0, optReason := 7, retries := 0,
    extBad := false, downAt := 0, downCause := 0, pauseEnd := none, pauseHeld := none, pausedAt := none, xoffOn := false,
    xoffDue := none, macsec := freshMacsec, queue := [], onWire := none, msecEvent := false, rxHead := [0, 0],
    rxOut := [[], []], txHead := [0, 0], txPend := [[], []], txOut := [[], []], rx64 := 0, tx64 := 0, wakeable := false }

def freshChain : CicChain := ⟨List.replicate 5 0#64, List.replicate 5 0#64, [], none, [], 0#32, 0, 0#32⟩

def idleSlot : PecSlot :=
  { st := .idle, bank := false, pend := [], t0 := 0, restarts := 0#16, dryLeft := 0, xf := none, held := false, xfStart := 0, xfEnd := 0,
    bound := none, cur := 0#32, curBank := false, running := false, gapEnd := false, wasReset := false, num := 0, first := 0, nextK := 0, marks := [],
    chains := List.replicate 8 freshChain, ready := [] }

def idleGroup : Group :=
  { st := .stopped, was := [], set := [], setVer := 0, pend := none, startK := 0, startT := 0, stopK := 0, stopT := 0, nextOpen := 0, nextDl := 0, asms := [],
    susp := none, depth := 0, maxChan := 0, hist := [] }

def resetClass : ClassVals := ⟨0x3F800A01#32, 0x3B03126F#32, 0x3DCCCCCD#32, 0x3A83126F#32⟩

/-- The dynamic state with nothing in it; the first view recomputes everything. -/
def freshDyn (alarms : List IslAlarm) : IslDyn := { buses := [], tops := [], status := [], alarms := alarms, fresh := true, era := 0, admin := [] }

def idleLand : AlarmLand := ⟨false, 0, none⟩

def stoppedSet : OscSet :=
  { run := false, first := false, since := 0, nextU := 0, current := none, waiting := none, tracks := [], noise := [none, none, none], alarms := [], lastU := 0,
    ready := false, valid := [], excl := [], defNext := 0, degraded := false, injected := false }

def idleUnit : CapUnit :=
  { st := .idle, rate := 0, post := 0, number := 0, next := 0, open_ := [], rows := [], undrained := 0, endNum := 0, queue := [],
    seq := 0, c0 := 0, c1 := 0, start := 0, truth := false, cross := 0, force := false, lastErr := 0 }

def idleInj : InjSlot :=
  { st := .idle, det := 0, target := 0, param := 0#32, mode := .once, fired := 0, left := 0, due := 0, dur := 0, session := 0 }

def closedSession : Session := ⟨false, false, 0#32, [], []⟩

def freeLock : Lock := { owner := none, due := 0, broken := false, queue := [] }

def emptyChan : MbxChan := { full := false, claim := none, sender := 0#12, gen := 0#4, count := 0#8, time := 0#32 }

/-- A channel as reset leaves it (R470). -/
def freshChan (c : Nat) : MemChan :=
  { lfsr := word (0xACE10000 + c + 1), lastZero := 7, waits := List.replicate 8 0, maxWait := 0, window := 0, busy := 0, prev := 0 }

def noCopy : Copy := ⟨0, false, none, none, none, [], []⟩

def noCursor : Cursor := ⟨[], [], []⟩

def emptySlot : KeySlot :=
  { st := .empty, cls := 0, len := 0, parent := none, uses := 0#32, expire := false, cascade := false, exportNever := false, origin := 0,
    svc := false, gen := 0#16, shareA := [], shareB := [], usedUntil := 0, dying := false, deferred := false, late := false }

/-! ### The parts of the state after reset (see the assumption log for the values the spec does not give) -/

/-- The time base as a reset of the Fixative island leaves it (R47), at an epoch and an uptime. -/
def freshTime (epoch : Word) (up : Nat) : TimePart :=
  { now := 0, up := up, epoch := epoch, servo := .freerun, stepped := false, src := List.replicate 13 noQual, current := 15, rate := 0,
    lockedRate := 0, offset := 0, lead := 0, error := none, lockRun := 0, calmRun := 0, suspRun := 0, suspNeg := false, suspInj := false, confirmed := none, holdE0 := 0,
    holdSince := 0, holdSrc := 15, leftLocked := none, restep := none, utcWritten := false, leap := none, ppsIn := none, ppsStamp := none, ppsOutEnd := none,
    ppsOutLast := none, todSent := none, todLast := none, todQual := none, todRef := none, irigEdges := [], irigLast := none, irigQual := none, tdc := List.replicate 6 noTdc, txts := List.replicate 10 [],
    cmpTgt := List.replicate 8 0, cmpPulse := List.replicate 8 [], todOut := [], role := .ordinary, profile := .iec61850_9_3, domain := 0#8,
    twoStep := true, udp := false, clockDS := ⟨0, 128, 128, 0xFE, 0xFFFF⟩, timesDS := ⟨false, false, 0xA0⟩,
    ptp := List.replicate 10 (freshPtpPort false (profileDS .iec61850_9_3) up) }

/-- The command block with no session open, no lock held and empty rings (R440). -/
def freshCmd : CmdPart :=
  { ready := true, sessions := List.replicate 4 closedSession, locks := List.replicate 32 freeLock, flights := [], sqHead := 0, rqTail := 0,
    parity := true, replies := [], coal := List.replicate 4 ⟨0, none⟩, hbDue := none, stalled := false, aggs := [], dma := [], msix := [], gens := [],
    defTimeout := 1000 }

/-- The companion where none is fitted. -/
def noCompanion : Companion :=
  { present := false, bytes := [], reason := 1, retries := 0, readDue := none, applied := 0, warmDue := none, inUse := false }

/-- The always-on island in Run after a first power-up of a module with CASC_HEAD high and nothing wrong. -/
def freshAon : AonPart :=
  { mode := .run, trans := none, wake := 0, vinOk := true, vioOk := true, hotOff := false, causes := [], held := [], lastHeld := 0,
    pllHeld := [], wdTimes := [], temp := 0, freq := List.replicate 23 1600, floors := List.replicate 23 800, stretch := List.replicate 23 none,
    capW := 65, comp := noCompanion, resetLow := false, perstLow := false, cascHead := true, dormantAt := none,
    imageFail := false, wakeFrame := none, offHeld := false, tap := ⟨true, .idcode⟩ }

def freshPorts : PortsPart := ⟨List.replicate 10 freshPort, List.replicate 5 ⟨[], 0#16⟩, [], [idleI2c, idleI2c]⟩

def freshIng : IngressPart :=
  { table := [], buffers := List.replicate 10 [], next := 0, recent := [], confBad := [], fw := [], scales := [], unknown := [], copied := (0, 0),
    cmdOut := [], values := [], samples := [], reports := [] }

def freshPec : PecPart := ⟨[], [], [], [], none, 0, none⟩

def freshAln : AccordPart :=
  { groups := List.replicate 32 idleGroup, chans := [], cls := [], hist := [], classes := List.replicate 16 resetClass, clsPend := none,
    clsVer := 0, ledger := [], nose := [], pub := [], osc := [], lists := [] }

def freshIsl : IslPart :=
  { active := none, eras := 0, olds := [], staged := ⟨0#32, 0, false, 0, 0, [], []⟩, pend := none, dyn := freshDyn [], held := [], ckpts := [], handed := [],
    packets := [], ring := [], last := none, shown := ⟨[], []⟩, present := [], missing := [], out := [] }

def freshPub : PubPart :=
  { alarms := [], extra := [], streams := [], blocks := [], landSel := [], members := [], lands := List.replicate 8 idleLand, prepared := [],
    answers := [] }

def freshOsc : OscPart := ⟨[], [], [], [], List.replicate 32 stoppedSet⟩

def freshFlt : FltPart := ⟨List.replicate 8 idleInj, [], none, [], []⟩

/-- The attestation key of slot 0, which manufacture installs (R388): an ECDSA key over P-384 that is never exported. -/
def attestationSlot : KeySlot :=
  { emptySlot with
    st := .active, cls := 3, len := 48, uses := 0xFFFFFFFF#32, exportNever := true
    shareA := List.replicate 48 0#8, shareB := Config.attestationKey }

def freshKey : KeyPart :=
  { slots := [(0, attestationSlot)], shadows := [], lc := .blank, changes := 0, nonce := none, txn := (0#32, 0, 0), txnDue := false, katFail := [], rngOk := true }

def freshEvr : EvrPart :=
  { open_ := [], stuck := [], lastClose := [], queue := [], nextSeq := 0, written := 0, s0 := 0, chain := List.replicate 32 0#8, pinned := [], circ := [],
    refuge := [], nRefuge := 0, blocks := [], due := [], bank0 := none, bank1 := none, wrapped := false, clears := 0, nonce := none,
    seqHi := 0#32, restart := false, saved := [] }

/-- A module alone on its ring, with index 0 (R452). -/
def freshCas : CasPart :=
  { st := .alone, index := some 0, stored := some 0, present := 1#64, absent := 0#64, gone := [], uids := [], skipping := false,
    formDue := none, reform := none, rejoin := none, release := none, trial := none, mine := [], sent := [] }

def freshPair : PairPart :=
  { st := .unpaired, cause := 0, gate := true, driving := false, ownSeen := false, lineBusy := false, fed := 0, wdTrip := none, wants := false,
    claim := none, backoff := none, peer := none, lane := false, lastHold := none, hbCount := 0#32, shown := noCursor, adopted := noCursor,
    out := [], work := [], forced := [], results := [], theirs := [], copy := noCopy, swap := none, swapBad := false, swapCmd := none,
    restart := none, resolve := [], lastSwap := none, lastSw := (0, 0), switchPend := none }

def freshMem : MemPart := ⟨[], 0, (upto 32).map freshChan, [], []⟩

end Sys2Proof.Machine
end

