-- ==== Sys2Proof/Machine/State.lean ====
section
/-! DEFINITION. The state of the module: everything the manual gives it, as plain data, with the queue of commands and events that wait. -/

namespace Sys2Proof.Machine

/-- Why the machine stops. Every command of this module completes with a reply and every event has its effect, so no meaning raises a fault. -/
inductive Fault where
  /-- raised by nothing: it stands here only so that the type has a name for “no fault” (safe) -/
  | noFault
deriving DecidableEq, Repr

/-- Why a command has no meaning. -/
inductive Refusal where
  /-- raised by an arm of exec whose row has no meaning yet; no arm is one (safe) -/
  | notModelled (mnemonic : String)
deriving DecidableEq, Repr

/-- The whole module. Registers stand in `regs` by address, those at their reset value left out (RegMap.lean gives every address, its fields and its
reset value); what a block holds beside its registers stands in the block's own part. -/
structure State where
  /-- the commands and events that wait, first in, first out -/
  pending : List Sys2Proof.Instr
  /-- the register bank (R7, Table 21-1): addresses rising, none at its reset value -/
  regs    : List (Nat × Word)
  /-- what the last register read outside a command returned -/
  rdata   : List Word
  /-- the model's own counter that the free values of Config are applied to -/
  free    : Nat
  /-- events on their way to Sillage, oldest first (R362) -/
  events  : List EventMsg
  /-- the command block (chapter 14) -/
  cmd     : CmdPart
  /-- the always-on island (chapter 18) -/
  aon     : AonPart
  /-- Fixative, module time and the clock synchronisation (chapter 02) -/
  time    : TimePart
  /-- the ten ports (chapter 03) -/
  ports   : PortsPart
  /-- ingress and the stream table (chapter 04) -/
  ing     : IngressPart
  /-- estimation (chapter 05) -/
  pec     : PecPart
  /-- rows on their way from estimation and ingress to capture (R148, R331) -/
  capIn   : List CapIn
  /-- Accord and speculation (chapters 06 and 07) -/
  aln     : AccordPart
  /-- the limit engine (chapter 10) -/
  lim     : LimPart
  /-- island detection (chapter 09) -/
  isl     : IslPart
  /-- batches of alarm changes on their way from Nose to Atomizer (R317) -/
  batches : List AlarmBatch
  /-- Atomizer (chapter 10) -/
  pub     : PubPart
  /-- oscillation analysis (chapter 08) -/
  osc     : OscPart
  /-- disturbance capture (chapter 11) -/
  cap     : CapPart
  /-- detectors and injection (chapter 19) -/
  flt     : FltPart
  /-- Flacon, the key store (chapter 13) -/
  key     : KeyPart
  /-- Sillage, the event record (chapter 12) -/
  evr     : EvrPart
  /-- the mailboxes (chapter 15) -/
  mbx     : MbxPart
  /-- the cascade ring (chapter 15) -/
  cas     : CasPart
  /-- the redundant pair (chapter 17) -/
  pair    : PairPart
  /-- bulk memory and the arbiter (chapter 16) -/
  mem     : MemPart
deriving DecidableEq, Repr

/-- The machine right after reset: the end of a first power-up (R516), in Run, with every register at its reset value and nothing waiting. -/
def State.reset : State :=
  { pending := [], regs := [], rdata := [], free := 0, events := [], cmd := freshCmd, aon := freshAon, time := freshTime 1#32 0,
    ports := freshPorts, ing := freshIng, pec := freshPec, capIn := [], aln := freshAln, lim := ⟨[], [], [], [], []⟩, isl := freshIsl,
    batches := [], pub := freshPub, osc := freshOsc, cap := ⟨List.replicate 4 idleUnit, [], 0#4⟩, flt := freshFlt, key := freshKey,
    evr := freshEvr, mbx := ⟨List.replicate 64 emptyChan, []⟩, cas := freshCas, pair := freshPair, mem := freshMem }

end Sys2Proof.Machine
end

