-- ==== Sys2Proof/Machine/Ops.lean ====
section
/-! DEFINITION. The operations every block shares: the register bank and its access rules (Table 0-3, R7 to R9), counters,
status bits and interrupt vectors (R436), the clock, and events on their way to Sillage. -/

namespace Sys2Proof.Machine

/-! ### The register bank -/

/-- A register's stored word. -/
def State.reg (s : State) (a : Nat) : Word := fetch resetWord s.regs a

/-- The bank with a word stored. -/
def State.setReg (s : State) (a : Nat) (w : Word) : State := { s with regs := store resetWord s.regs a w }

/-- A field of a register. -/
def State.rf (s : State) (a hi lo : Nat) : Nat := fld (s.reg a) hi lo

/-- A bit of a register. -/
def State.rb (s : State) (a n : Nat) : Bool := bit (s.reg a) n

/-- The bank with a field of a register set. -/
def State.setRf (s : State) (a hi lo v : Nat) : State := s.setReg a (setFld (s.reg a) hi lo v)

/-- The bank with a bit of a register set. -/
def State.setRb (s : State) (a n : Nat) (b : Bool) : State := s.setReg a (setBit (s.reg a) n b)

/-- Whether a value that is given lies outside its range. -/
def outside (lo hi : Nat) : Option Nat → Bool
  | some v => decide (v < lo) || decide (hi < v)
  | none => false

/-- A field set where a value is given. -/
def State.setSome (s : State) (a hi lo : Nat) : Option Nat → State
  | some v => s.setRf a hi lo v
  | none => s

/-- The register that carries the lock bit for an address: offset 0 of its window, or of its port's sub-window
(R572, Table 21-1); that of the command block is CMD_CTL. -/
def lockReg (a : Nat) : Nat := if blockOf a = 3 then a / 0x1000 * 0x1000 else if blockOf a = 14 then Reg.CMD_CTL else blockOf a * 0x10000

/-- Whether the lock that guards an address is set. A mailbox binding is guarded by its own enable (R451). -/
def State.isLocked (s : State) (a : Nat) : Bool :=
  if blockOf a = 15 then s.rb a 31 else s.rb (lockReg a) 31

/-- The word a plain write leaves (Table 0-3): RW fields take the value, RWL fields too unless locked, W1C bits written as
1 clear, and every other field keeps what it holds. -/
def writeMerge (d : RegDesc) (locked : Bool) (old v : Word) : Word :=
  let m := if locked then word d.rw else word d.rw ||| word d.rwl
  ((old &&& ~~~m) ||| (v &&& m)) &&& ~~~(v &&& word d.w1c)

/-- A write to a register with no behaviour of its own (R7 to R9). -/
def State.plainWrite (s : State) (a : Nat) (v : Word) : State :=
  match descAt a with
  | none => s
  | some d => s.setReg a (writeMerge d (s.isLocked a) (s.reg a) v)

/-- Whether a write would change an RWL field behind a set lock (R579). -/
def State.lockRefuses (s : State) (a : Nat) (v : Word) : Bool :=
  match descAt a with
  | none => false
  | some d => s.isLocked a && (((s.reg a) ^^^ v) &&& word d.rwl) != 0#32

/-- Every register of a list of address ranges back at its reset value. -/
def State.resetRegs (s : State) (inside : Nat → Bool) : State :=
  { s with regs := s.regs.filter (fun p => !inside p.1) }

/-! ### Counters, status bits and vectors -/

/-- A counter field raised by `n`, saturating at all ones. -/
def State.countFld (s : State) (a hi lo n : Nat) : State :=
  s.setRf a hi lo (min (2 ^ (hi + 1 - lo) - 1) (s.rf a hi lo + n))

/-- A 32-bit counter raised by `n`, saturating at all ones. -/
def State.count (s : State) (a n : Nat) : State := s.setReg a (word (min 0xFFFFFFFF ((s.reg a).toNat + n)))

/-- The vector that a condition in a status register raises (Table 14-6). -/
def vectorOf (a : Nat) : Nat :=
  match blockOf a with
  | 1 => if a = Reg.AON_WAKE_STAT then 14 else 22
  | 2 => 6
  | 3 => 14
  | 4 => 14
  | 5 => 16
  | 6 => 17
  | 7 => 18
  | 8 => 19
  | 9 => 20
  | 10 => 7
  | 11 => 8
  | 12 => 9
  | 13 => 10
  | 15 => 13
  | 16 => 12
  | 17 => 21
  | 18 => 11
  | _ => 15

/-- An interrupt vector's bit sets; where it was clear and is not masked, and MSI-X is enabled, the vector is raised
(R436). -/
def State.vector (s : State) (v : Nat) : State :=
  let was := s.rb Reg.CMD_INT_STAT v
  let s1 := s.setRb Reg.CMD_INT_STAT v true
  if !was && !s.rb Reg.CMD_INT_MASK v && s.rb Reg.CMD_CTL 1 then
    { s1 with cmd := { s1.cmd with msix := s1.cmd.msix ++ [v] } }
  else s1

/-- A status bit sets, and its block's vector with it (R436). -/
def State.status (s : State) (a n : Nat) : State := (s.setRb a n true).vector (vectorOf a)

/-- IRQ_N is asserted while any unmasked bit of CMD_INT_STAT is set (R436); with the command registers held in reset, or without VIO, it is not
(R518, R547). -/
def State.irqAsserted (s : State) : Bool := !s.aon.perstLow && s.aon.vioOk && (s.reg Reg.CMD_INT_STAT &&& ~~~(s.reg Reg.CMD_INT_MASK)) != 0#32

/-! ### The clock -/

/-- Module time and uptime run on to a later module time; an instant already past leaves them. -/
def State.advance (s : State) (t : Instant) : State :=
  { s with time := { s.time with now := s.time.now + (t - s.time.now), up := s.time.up + (t - s.time.now) } }

/-- Module time and uptime run on until an uptime is reached. -/
def State.advanceUp (s : State) (u : Nat) : State :=
  { s with time := { s.time with now := s.time.now + (u - s.time.up), up := s.time.up + (u - s.time.up) } }

/-- Module time. -/
def State.now (s : State) : Instant := s.time.now

/-- Ticks since power-up. -/
def State.up (s : State) : Nat := s.time.up

/-- The whole second of source time at which a TIME_RESTEP accepted now takes effect: the first at least 10 ms ahead (R55). -/
def State.restepSecond (s : State) : Instant := ceilSec ((s.now : Int) - s.time.lead + (ms 10 : Nat)).toNat

/-- Timestamps are degraded in every servo state but LOCKED (R53). -/
def State.degraded (s : State) : Bool := s.time.servo != .locked

/-! ### Free values -/

/-- The next use of a free value: the counter the free-value constants of Config are applied to moves on. -/
def State.nextFree (s : State) : State := { s with free := s.free + 1 }

/-! ### Events -/

/-- An event crosses to Sillage with the present instant and epoch (R362, R364). -/
def State.raise (s : State) (cls : Nat) (qty : Rat) (detail : List Word) : State :=
  { s with events := s.events ++ [⟨cls, qty, s.time.now, s.time.epoch, false, s.degraded, detail⟩] }

/-- An event that carries INJECTED (R364, R533). -/
def State.raiseInjected (s : State) (cls : Nat) (qty : Rat) (detail : List Word) : State :=
  { s with events := s.events ++ [⟨cls, qty, s.time.now, s.time.epoch, true, s.degraded, detail⟩] }

/-- The words of an instant: fraction and nanoseconds, then seconds, low word first. -/
def instantWords (t : Instant) : List Word :=
  [word (fracOf t), word (nsecOf t), word (secsOf t), word (secsOf t / 2 ^ 32)]

/-- A signed number as the two words of its 64-bit form. -/
def int64Words (v : Int) : List Word := [word (unsign 64 v), word (unsign 64 v / 2 ^ 32)]

end Sys2Proof.Machine
end

