-- ==== Sys2Proof/Machine/FaultOps.lean ====
section
/-! DEFINITION. Operations of the fault detectors (chapter 19): a detection, and the occasions on which an injection slot acts. -/

namespace Sys2Proof.Machine

def State.setFlt (s : State) (f : FltPart → FltPart) : State := { s with flt := f s.flt }

def State.inj (s : State) (i : Nat) : InjSlot := (s.flt.slots[i]?).getD idleInj

def State.updInj (s : State) (i : Nat) (f : InjSlot → InjSlot) : State := s.setFlt (fun p => { p with slots := updAt p.slots i f })

/-! ### Detections (R529, R530) -/

/-- The Sillage class of a detector (Table 19-1). -/
def detClass : Nat → Nat
  | 0 => 32
  | 1 => 19
  | 2 => 20
  | 3 => 21
  | 4 => 24
  | 20 => 1
  | 21 => 29
  | d => if d < 20 then d + 28 else 32

/-- A detection counted: flt_det_d, its status bit, and vector 15 unless it is masked or irq_en is 0, or ecc_irq for an uncorrectable error of
bulk memory (R530, Tables 16-7 and 19-9). -/
def State.detected (s : State) (d : Nat) : State :=
  let s1 := (s.count (Reg.FLT_DET d) 1).setRb Reg.FLT_DET_STAT d true
  let s2 := s1.setFlt (fun p => { p with lastDet := setKey p.lastDet d s.up })
  if s2.rb Reg.FLT_CTL 0 && !s2.rb Reg.FLT_DET_MASK d && (d != 8 || s2.rb Reg.MEM_CTL 0) then s2.vector 15 else s2

/-- A detection with its event (R530). -/
def State.detect (s : State) (d : Nat) (inj : Bool) (qty : Rat) (detail : List Word) : State :=
  let s1 := s.detected d
  if inj then s1.raiseInjected (detClass d) qty detail else s1.raise (detClass d) qty detail

/-! ### Occasions (R532 to R534) -/

/-- Detectors without a target (Table 19-2). -/
def targetless (d : Nat) : Bool := d == 4 || d == 12 || d == 15 || d == 19 || d == 20

/-- The firing slot that acts on a detector and target, the lowest first. -/
def State.firing (s : State) (d t : Nat) : Option Nat :=
  (upto 8).find? (fun i => (s.inj i).st == .firing && (s.inj i).det == d && (targetless d || (s.inj i).target == t))

/-- One shot of a slot: counted, and the slot DONE after its last. A SPAN ends with its duration. -/
def State.spendShot (s : State) (i : Nat) : State :=
  let s1 := s.updInj i (fun x => { x with
    fired := min 0xFFFF (x.fired + 1)
    left := x.left - 1
    st := if x.mode == .span || 1 < x.left then .firing else .done })
  ((s1.count (Reg.FLT_CNT 2) 1).status Reg.FLT_STAT 0).setFlt (fun p => { p with lastFire := some s.up })

/-- Whether an injection acts on this occasion of a detector, and the state with its shot spent. -/
def State.shot (s : State) (d t : Nat) : Bool × State :=
  match s.firing d t with
  | some i => (true, s.spendShot i)
  | none => (false, s)

/-- An occasion on which a detector may fire (R533, R534): none where there is neither a real condition nor a firing slot; else whether it
is reported with INJECTED. A real condition that meets an injected one is reported as real, and the shot is absorbed. -/
def State.occasion (s : State) (d t : Nat) (real : Bool) : Option Bool × State :=
  let r := s.shot d t
  if r.1 then
    (if real then (some false, ((r.2.count (Reg.FLT_CNT 1) 1).status Reg.FLT_STAT 1)) else (some true, r.2))
  else (if real then some false else none, r.2)

/-- A slot is disarmed (R535): one that was firing stops, its arm bit clears, and what a real fault would have held until a power cycle ends with
it (R533). -/
def State.disarmInj (s : State) (i : Nat) : State :=
  let x := s.inj i
  let s1 := (s.updInj i (fun x => { x with st := .idle })).setRb (Reg.FLT_INJ_CTL i) 31 false
  if x.det = 11 && s.flt.injCauses.contains 5 then
    { s1 with flt := { s1.flt with injCauses := s1.flt.injCauses.filter (· != 5) }, aon := { s1.aon with causes := s1.aon.causes.filter (· != 5) } }
  else if x.det = 9 then
    let e := s1.evr
    let b0 := if x.target = 0 && (match e.bank0 with | some (_, inj) => inj | none => false) then none else e.bank0
    let b1 := if x.target = 1 && e.bank1 == some true then none else e.bank1
    { s1 with
      evr := { e with bank0 := b0, bank1 := b1 }
      aon := { s1.aon with causes := if b0.isSome && b1.isSome then s1.aon.causes else s1.aon.causes.filter (· != 2) } }
  else s1

/-- Every slot is disarmed (R535). -/
def State.disarmAll (s : State) : State :=
  (upto 8).foldl (fun (s : State) i => if (s.inj i).st == .idle then s else s.disarmInj i) s

/-- The inj bit of the pair heartbeat (R537): from a firing until 1 s after the last. -/
def State.injBit (s : State) : Bool :=
  match s.flt.lastFire with
  | some u => decide (s.up < u + sec 1)
  | none => false

/-- Whether injection is allowed (R531). -/
def State.injAllowed (s : State) : Bool := (s.key.lc == .provisioned || s.key.lc == .service) && s.rb Reg.FLT_CTL 1

end Sys2Proof.Machine
end

