-- ==== Sys2Proof/Machine/KeyOps.lean ====
section
/-! DEFINITION. Key slots as every block uses them (chapter 13): their contents, one use of a slot, and check values. -/

namespace Sys2Proof.Machine

def State.setKeys (s : State) (f : KeyPart → KeyPart) : State := { s with key := f s.key }

/-- A counter of Table 13-9 by its position. -/
def State.keyCount (s : State) (i : Nat) : State := s.count (Reg.KEY_CNT i) 1

/-- A key slot. -/
def State.kslot (s : State) (n : Nat) : KeySlot := fetch (fun _ => emptySlot) s.key.slots n

def State.updKslot (s : State) (n : Nat) (f : KeySlot → KeySlot) : State :=
  s.setKeys (fun k => { k with slots := store (fun _ => emptySlot) k.slots n (f (fetch (fun _ => emptySlot) k.slots n)) })

/-- Bytes filled up with zero to a length. -/
def padTo (n : Nat) (l : List Byte) : List Byte := (l ++ List.replicate n 0#8).take n

/-- Two byte strings combined bit by bit. -/
def xorBytes (a b : List Byte) : List Byte := (a.zip b).map (fun p => p.1 ^^^ p.2)

/-- The key of a slot: the two shares put together (R392). -/
def KeySlot.key (x : KeySlot) : List Byte := xorBytes x.shareA x.shareB

/-- The key of a slot, as an engine takes it. -/
def State.keyBytes (s : State) (n : Nat) : List Byte := (s.kslot n).key

/-- The lengths in bits that a class allows (Table 13-2). -/
def classBits : Nat → List Nat
  | 0 => [128, 256]
  | 1 => [128, 256]
  | 2 => [128, 192, 256, 320, 384, 448, 512]
  | 3 => [256, 384]
  | 4 => [256]
  | 5 => [256, 512]
  | _ => []

/-- The engine of a class, as Table 19-2 numbers them. -/
def classEngine : Nat → Nat
  | 0 => 0
  | 1 => 1
  | 2 => 1
  | 3 => 2
  | _ => 3

/-- How long one use of a key lasts at most (Table 13-5): an installation is taken as instantaneous. -/
def useTime (cls len : Nat) : Nat :=
  match cls with
  | 0 => 0
  | 1 => us 40
  | 2 => us 40
  | 3 => if len = 32 then ms 3 else ms 8
  | _ => us 50

/-- Why a slot cannot serve one of the classes: 0 where it can, else a status (R385, R386, R401). -/
def State.keyErr (s : State) (n : Nat) (classes : List Nat) : Nat :=
  let x := s.kslot n
  if x.st = .empty || x.dying || !classes.contains x.cls then 0x0501
  else if s.key.katFail.contains (classEngine x.cls) then 0x0501
  else if x.st = .exhausted || x.uses = 0#32 then 0x0502
  else 0

/-- Random bytes of the module's generator. -/
def State.random (s : State) (n : Nat) : List Byte × State := ((Config.random s.free n), s.nextFree)

/-- The shares of a slot with a fresh random value XORed into both (R392). -/
def State.remaskSlot (s : State) (n : Nat) : State :=
  let r := s.random (s.kslot n).len
  let m := padTo (s.kslot n).shareA.length r.1
  r.2.updKslot n (fun x => { x with shareA := xorBytes x.shareA m, shareB := xorBytes x.shareB m, deferred := false, late := false })

/-- A remask that uses deferred for a whole period, made where the use has ended (R392). -/
def State.remaskLate (s : State) (n : Nat) : State :=
  if (s.kslot n).late && decide ((s.kslot n).usedUntil ≤ s.up) then s.remaskSlot n else s

/-- One use of a slot for one of the classes (R386): 0 and the counter lowered, or why it does not start. -/
def State.useKeySlot (s : State) (n : Nat) (classes : List Nat) : Nat × State :=
  match s.keyErr n classes with
  | 0 => (0, ((s.remaskLate n).keyCount 0).updKslot n (fun x => { x with
      uses := if x.uses = 0xFFFFFFFF#32 then x.uses else x.uses - 1#32
      usedUntil := max x.usedUntil (s.up + useTime x.cls x.len) }))
  | 0x0502 =>
    if (s.kslot n).st = .exhausted then (0x0502, s)
    else (0x0502, ((s.keyCount 1).updKslot n (fun x => { x with st := .exhausted })).status Reg.KEY_STAT 2)
  | e => (e, s)

/-- The public key of a signing key as 0x04 ‖ X ‖ Y. -/
def publicKey (key : List Byte) : List Byte := 4#8 :: Config.ecdsaPublic (decide (key.length = 48)) key

/-- The key check value of Table 13-2. -/
def checkValue (cls : Nat) (key : List Byte) : List Byte :=
  let zero := List.replicate 16 0#8
  (match cls with
  | 2 => Config.hmacSha256 key zero
  | 5 => Config.hmacSha256 key zero
  | 3 => Config.sha256 (publicKey key)
  | _ => Config.aesBlock key zero).take 3

/-- A number as bytes, most significant first. -/
def beBytes (n v : Nat) : List Byte := ((upto n).map (fun i => BitVec.ofNat 8 (v / 256 ^ i))).reverse

/-- A key derived from a parent's key (R390), of `bits` bits. -/
def deriveKey (parent label context : List Byte) (bits : Nat) : List Byte :=
  let k (i : Nat) := Config.hmacSha256 parent (beBytes 4 i ++ label ++ [0#8] ++ context ++ beBytes 4 bits)
  (k 1 ++ k 2).take (bits / 8)

end Sys2Proof.Machine
end

