-- ==== Sys2Proof/Machine/Gates.lean ====
section
/-! DEFINITION. What lets a command, a frame or a read through: the islands that run (chapter 18), the ring and the module's place in it
(chapter 15), the pair's interlock and mirroring (chapter 17), and the poison of bulk-memory transfers (chapters 16 and 19). -/

namespace Sys2Proof.Machine

/-! ### Islands (R508, R512, R520, R529; codes of R528) -/

namespace Isle
def ingress : Nat := 10
def estimation : Nat := 11
def accord : Nat := 12
def nose : Nat := 13
def atomizer : Nat := 14
def capture : Nat := 15
def sillage : Nat := 16
def flacon : Nat := 17
def fixative : Nat := 18
def control : Nat := 19
def cascade : Nat := 20
def pair : Nat := 21
def memory : Nat := 22
end Isle

/-- Whether an island has power, clock and no reset: in Run every island, in Ready the ports, Fixative, control and
cascade (Table 18-1), unless it is held in reset. -/
def State.runs (s : State) (isl : Nat) : Bool :=
  (match s.aon.mode with
   | .run => true
   | .ready => decide (isl < 10) || isl == Isle.fixative || isl == Isle.control || isl == Isle.cascade
   | .dormant => false
   | .off => false) && !s.aon.held.contains isl && !s.aon.pllHeld.contains isl && !s.aon.resetLow

/-- Whether an island drives its logic-group outputs: they are high-impedance without the supplies, and while the island is in reset or has no power
(R516, R547, R557). -/
def State.drivesLogic (s : State) (isl : Nat) : Bool := s.aon.vinOk && s.aon.vioOk && s.runs isl

/-- The island that the opcodes of a block address (Table 18-10). -/
def islandOf : Nat → Option Nat
  | 0x02 => some Isle.fixative
  | 0x04 => some Isle.ingress
  | 0x05 => some Isle.estimation
  | 0x06 => some Isle.accord
  | 0x07 => some Isle.accord
  | 0x08 => some Isle.nose
  | 0x09 => some Isle.nose
  | 0x0A => some Isle.atomizer
  | 0x0B => some Isle.capture
  | 0x0C => some Isle.sillage
  | 0x0D => some Isle.flacon
  | 0x10 => some Isle.cascade
  | 0x11 => some Isle.memory
  | 0x12 => some Isle.pair
  | _ => none

/-- The opcodes accepted in Ready (R512): IDENTITY, GLB_STATUS, AON_STATUS, PWR_STATE, PWR_PROFILE, TC10_IDENTITY, TIME_STATUS, PORT_STATUS,
CAS_STATUS and block 0x0E. -/
def readyOpcode (op : Nat) : Bool :=
  op == 0x0000 || op == 0x0001 || op == 0x0100 || op == 0x0101 || op == 0x0102 || op == 0x0103 || op == 0x0200 || op == 0x0300 ||
    op == 0x1000 || op / 256 == 0x0E

/-- Whether an opcode is accepted in the module's operating state: after both firmware images failed only IDENTITY and AON_STATUS, in Ready
those of R512, and otherwise those of an island that runs. -/
def State.opcodeRuns (s : State) (op : Nat) : Bool :=
  if s.aon.imageFail then op == 0x0000 || op == 0x0100
  else if s.aon.mode == .ready then readyOpcode op
  else match islandOf (op / 256) with
    | some i => s.runs i
    | none => true

/-! ### The ring (R452, R453, R455) -/

def State.setCas (s : State) (f : CasPart → CasPart) : State := { s with cas := f s.cas }

/-- Own index on the ring: 0 at the head and where none has been taken. -/
def State.ownIndex (s : State) : Nat := match s.cas.index with
  | some i => i.val
  | none => 0

def State.ownFin (s : State) : Fin 64 := s.cas.index.getD 0

/-- CASC_HEAD tied high. -/
def State.isHead (s : State) : Bool := s.aon.cascHead

/-- Whether the map has a member under an index, not absent; the module itself is always there (R416 row 9, R453). -/
def State.memberPresent (s : State) (i : Nat) : Bool := i == s.ownIndex || (s.cas.present.getLsbD i && !s.cas.absent.getLsbD i)

/-- Whether the module is part of a ring: it has formed, closed around a member, or broken. -/
def State.inRing (s : State) : Bool := s.cas.st == .formed || s.cas.st == .closed || s.cas.st == .broken

/-- A frame of the module's own put on CR_OUT: it is the module's to remove when it comes back. -/
def State.ringOut (s : State) (dest : Option (Fin 64)) (b : RingBody) : State :=
  if s.inRing then
    let f : RingFrame := ⟨s.ownFin, dest, true, b⟩
    s.setCas (fun c => { c with mine := c.mine ++ [f], sent := c.sent ++ [f] })
  else s

/-! ### Identities and generations (R441, R442) -/

def State.setMbx (s : State) (f : MbxPart → MbxPart) : State := { s with mbx := f s.mbx }

/-- The host's identity: it exists at the head only. -/
def hostIdent : MasterId := 0x03F#12

/-- Where a generation is kept: the module's own cores by their numbers, every other agent by its identity. -/
def State.genKey (s : State) (i : MasterId) : Nat :=
  if i.toNat / 64 = s.ownIndex && decide (i.toNat % 64 < 4) then 4096 + i.toNat % 64 else i.toNat

/-- The reset generation of an identity, as far as the module knows it. -/
def State.genOf (s : State) (i : MasterId) : BitVec 4 := (lookup s.cmd.gens (s.genKey i)).getD 0#4

/-- A generation that has come with a message. -/
def State.learnGen (s : State) (i : MasterId) (g : BitVec 4) : State :=
  { s with cmd := { s.cmd with gens := setKey s.cmd.gens (s.genKey i) g } }

/-! ### What commands send round the ring -/

/-- A command routed to its target, or to every member with the cascade-route flag (R430, R431), with the host's generation (R441). -/
def State.routeOut (s : State) (op : Nat) (h : Hdr) : State :=
  s.ringOut (if h.casc then none else some h.target) (.command op { h with via := .ring, hostGen := s.genOf hostIdent })

/-- Words put into host memory by the head's endpoint. -/
def State.dmaOut (s : State) (addr : Nat) (data : List Word) : State := { s with cmd := { s.cmd with dma := s.cmd.dma ++ [⟨addr, data⟩] } }

/-- What a command writes to its host buffer (R414): another module than the head sends it there in chunks of 4,096 bytes (R455). -/
def State.hostWrite (s : State) (via : Via) (addr : Nat) (data : List Word) : State :=
  match via with
  | .ring => (upto (ceilDiv data.length 1024)).foldl (fun (s : State) k =>
      s.ringOut (some 0) (.chunk (addr + 4096 * k) ((data.drop (1024 * k)).take 1024))) s
  | _ => s.dmaOut addr data

/-- A member's reply on its way back to the head (R430). -/
def State.ringReplyOut (s : State) (f : Flight) (status : Nat) (words : List Word) : State :=
  s.ringOut (some 0) (.reply f.session f.seq status words)

/-! ### The pair (R478, R480, R483, R484, R490, R494, R505) -/

def State.setPair (s : State) (f : PairPart → PairPart) : State := { s with pair := f s.pair }

/-- The states that hold the interlock (Table 17-1). -/
def PairState.holds : PairState → Bool
  | .copySrc => true
  | .active => true
  | .solo => true
  | _ => false

/-- A message on the peer lane. -/
def State.peerOut (s : State) (m : PeerMsg) : State := s.setPair (fun p => { p with out := p.out ++ [m] })

/-- The transmit gate of classes 1 and 2 (R480). -/
def State.gateOpen (s : State) : Bool := s.pair.gate

/-- Whether the module hands class 1 and 2 frames to its ports: while the gate is open, until a swap drains them (R495, R500). -/
def State.speaks (s : State) : Bool := s.pair.gate && s.pair.swap != some .draining

/-- Whether commits wait for the standby's acknowledgement (R494). -/
def State.commitsByAck (s : State) : Bool := s.pair.st == .active

/-- Whether inclusion lists go out at commit triggers: in ACTIVE, and during a copy from t_cut on (R488, R490). -/
def State.sendsLists (s : State) : Bool :=
  s.pair.st == .active || (s.pair.st == .copySrc && (match s.pair.copy.tCut with
    | some t => decide (t ≤ s.now)
    | none => false))

/-- Whether the standby of a copy waits for its image: it holds its raw samples and the lists that come (R488, R489). -/
def State.awaitsImage (s : State) : Bool := s.pair.st == .copyDst && s.pair.copy.phase == 2

/-- Whether committed snapshots are formed from the peer's lists only (R488 phase C, R491). -/
def State.followsLists (s : State) : Bool := s.pair.st == .standby || s.pair.st == .copyDst

/-- ack_us: 100 to 10,000 (R494). -/
def State.ackUs (s : State) : Nat := clamp 100 10000 (s.rf Reg.PAIR_TMO 29 16)

/-- The index under which the module's buses are owned: the lower one of a pair (R277, R505). -/
def State.ownerIndex (s : State) : Nat :=
  if s.pair.st == .unpaired then s.ownIndex
  else match s.pair.peer with
    | some h => min s.ownIndex h.index.val
    | none => s.ownIndex

/-- Whether the module sends summaries: alone, or as the holder of the interlock (R18, R505). -/
def State.contributes (s : State) : Bool := s.pair.st == .unpaired || s.pair.st.holds

/-- The opcodes of blocks 0x02 to 0x0A and 0x11 that only return data or act once, without changing a setting or a table. -/
def dataOnly (op : Nat) : Bool :=
  [0x0200, 0x0300, 0x0305, 0x0400, 0x0403, 0x0404, 0x0405, 0x0406, 0x0500, 0x0600, 0x0606, 0x0700, 0x0703, 0x0800, 0x0806, 0x0808, 0x0900,
   0x0903, 0x0A00, 0x0A07, 0x1100, 0x1102, 0x1103].contains op

/-- Whether a window or block is mirrored. -/
def mirroredBlock (b : Nat) : Bool := (decide (2 ≤ b) && decide (b ≤ 0x0A)) || b == 0x11

/-- The mirrored opcodes (R483); REG_WRITE, TIME_PTP_DS and MEM_LFSR are by what they write. -/
def mirroredOp (op : Nat) : Bool := op == 0x0002 || op == 0x0003 || (mirroredBlock (op / 256) && !dataOnly op)

/-- How the pair state of the receiving module treats a mirrored command (R484, R500): it fails, goes to the standby, or executes here. -/
inductive Gate where
  | pass | refuse (status : Nat) | mirror

def State.pairGate (s : State) : Gate :=
  match s.pair.st with
  | .unpaired => .pass
  | .solo => .pass
  | .copySrc => .refuse 0x0105
  | .active => if s.pair.swap.isSome then .refuse 0x0105 else .mirror
  | _ => if s.pair.swapCmd.isSome then .refuse 0x0105 else .refuse 0x0402

/-! ### Poisoned transfers of bulk memory (R466, R467, R539) -/

/-- The channel of an address: 256-byte stripes rotate through all 32 (R466). -/
def channelOf (addr : Nat) : Nat := addr / 256 % 32

/-- One 64-byte transfer read by a requester port: the errors that an injection makes on its channel (Table 19-2), and whether it comes poisoned,
by these or as one of the port's that came so. -/
def State.readTransfer (s : State) (p n : Nat) : Bool × State :=
  let c := channelOf (64 * n)
  let a := s.occasion 7 c false
  let s1 := match a.1 with
    | some inj => (((a.2.count (Reg.MEM_CNT 2) 1).status Reg.MEM_STAT 0).detect 7 inj 0 [word c])
    | none => a.2
  let b := s1.occasion 8 c false
  match b.1 with
  | some inj => (true, (((b.2.count (Reg.MEM_CNT 3) 1).status Reg.MEM_STAT 1).detect 8 inj 0 [word c]))
  | none =>
    match b.2.mem.poison.find? (fun x => x.1 == p && x.2.1 == c) with
    | some x => (true, { b.2 with mem := { b.2.mem with poison := eraseFirst x b.2.mem.poison } })
    | none => (false, b.2)

/-- The oldest poisoned transfer of a requester port taken: whether it was injected. -/
def State.takePoison (s : State) (p : Nat) : Option Bool × State :=
  match s.mem.poison.find? (fun x => x.1 == p) with
  | some x => (some x.2.2, { s with mem := { s.mem with poison := eraseFirst x s.mem.poison } })
  | none => (none, s)

/-- Whether a barrier of an island is under way: what it wrote is not told to a consumer until it completes (R474). -/
def State.barred (s : State) (isl : Nat) : Bool := s.mem.barriers.contains isl

/-- A barrier issued by an island (R474). -/
def State.issueBarrier (s : State) (isl : Nat) : State := { s with mem := { s.mem with barriers := s.mem.barriers ++ [isl] } }

/-- A range read by a requester port: the numbers, from its first, of the transfers that come poisoned. -/
def State.readBulk (s : State) (p addr len : Nat) : List Nat × State :=
  let live := (upto 8).any (fun i => (s.inj i).st == .firing && ((s.inj i).det == 7 || (s.inj i).det == 8)) || s.mem.poison.any (fun x => x.1 == p)
  if !live || len = 0 then ([], s)
  else (upto ((addr + len - 1) / 64 + 1 - addr / 64)).foldl (fun (q : List Nat × State) i =>
    let r := q.2.readTransfer p (addr / 64 + i)
    (if r.1 then q.1 ++ [i] else q.1, r.2)) ([], s)

end Sys2Proof.Machine
end

