-- ==== Sys2Proof/Machine/Command.lean ====
section
/-! DEFINITION. The Corete command protocol around every opcode (chapter 14): fetching, the header checks of Table 14-2, the
replay window, replies, and the one runner that every opcode's meaning goes through. -/

namespace Sys2Proof.Machine

/-! ### Status codes (Table 14-4, Table 14-8) -/

namespace St
def OK : Nat := 0x0000
def ACCEPTED : Nat := 0x0001
def DUPLICATE : Nat := 0x0002
def BAD_OPCODE : Nat := 0x0101
def BAD_PARAM : Nat := 0x0102
def PARAM_RANGE : Nat := 0x0103
def STATE : Nat := 0x0104
def BUSY : Nat := 0x0105
def BUSY_XFADE : Nat := 0x0106
def LOCK_HELD : Nat := 0x0201
def LOCK_ORDER : Nat := 0x0202
def LOCK_BROKEN : Nat := 0x0203
def LEASE_EXPIRED : Nat := 0x0204
def TIMEOUT : Nat := 0x0301
def PEER_UNVERIFIED : Nat := 0x0401
def NOT_ACTIVE : Nat := 0x0402
def KEY_ATTR : Nat := 0x0501
def KEY_EXHAUSTED : Nat := 0x0502
def KEY_ORPHANED : Nat := 0x0503
def LIFECYCLE : Nat := 0x0504
def INJECT_DENIED : Nat := 0x0601
def CAP_OVERFLOW : Nat := 0x0701
def CAP_TOO_LONG : Nat := 0x0702
def TIME_EPOCH : Nat := 0x0801
def CMD_NOT_EXPERT : Nat := 0x0E10
def CMD_SEQ_OLD : Nat := 0x0E11
def CMD_NO_MODULE : Nat := 0x0E12
def CMD_TAG_BUSY : Nat := 0x0E13
end St

/-- The statuses of the “Took effect” column of Table 14-4. -/
def tookEffect (st : Nat) : Bool :=
  st == St.OK || st == St.ACCEPTED || st == St.LOCK_BROKEN || st == St.KEY_ORPHANED || st == St.CAP_OVERFLOW

/-! ### Opcodes -/

/-- The runs of basic and expert opcodes of each block: how many from low byte 0x00 and from 0x80 (Table 21-2). -/
def opcodeRuns : Nat → Nat × Nat
  | 0x00 => (4, 2)
  | 0x01 => (4, 2)
  | 0x02 => (5, 3)
  | 0x03 => (6, 3)
  | 0x04 => (7, 3)
  | 0x05 => (6, 4)
  | 0x06 => (7, 3)
  | 0x07 => (4, 2)
  | 0x08 => (9, 3)
  | 0x09 => (4, 3)
  | 0x0A => (8, 3)
  | 0x0B => (10, 3)
  | 0x0C => (8, 1)
  | 0x0D => (13, 3)
  | 0x0E => (7, 1)
  | 0x0F => (5, 1)
  | 0x10 => (3, 1)
  | 0x11 => (4, 2)
  | 0x12 => (7, 1)
  | 0x13 => (2, 1)
  | _ => (0, 0)

/-- Whether an opcode is defined (R573). -/
def opcodeDefined (op : Nat) : Bool :=
  let lo := op % 256
  let runs := opcodeRuns (op / 256)
  decide (lo < runs.1) || (decide (0x80 ≤ lo) && decide (lo < 0x80 + runs.2)) || op == 0x0110 || op == 0x0190

/-- An expert opcode has bit 7 of its low byte set (R415). -/
def isExpertOp (op : Nat) : Bool := op % 256 ≥ 0x80

/-- The opcodes that reply ACCEPTED (R419, R503): TIME_RESTEP, CAS_REJOIN, CAS_REFORM, PAIR_JOIN, PAIR_SWAP and PAIR_RESTART. -/
def repliesAccepted (op : Nat) : Bool :=
  op == 0x0202 || op == 0x1001 || op == 0x1002 || op == 0x1202 || op == 0x1203 || op == 0x1205

/-- The opcodes whose data travels in a host buffer (R414), so that an absent buffer fails row 8 of Table 14-2:
ALN_HIST_READ, ISL_MODEL_LOAD, PUB_STREAM_LAYOUT, CAP_READ, EVR_READ, MEM_HOST_READ and MEM_HOST_WRITE. -/
def needsBuffer (op : Nat) : Bool :=
  op == 0x0606 || op == 0x0902 || op == 0x0A02 || op == 0x0B07 || op == 0x0C02 || op == 0x1102 || op == 0x1103

/-! ### The layout of headers (Tables 14-1 and 14-3) -/

/-- The 16 words of a command's header in host memory. -/
def Hdr.words (h : Hdr) (op : Nat) : List Word :=
  [put 15 0 op ||| putBit 16 h.expert ||| putBit 17 h.casc ||| putBit 18 h.noReply,
   put 15 0 h.tag ||| put 17 16 h.session.val ||| put 29 24 h.target.val, word h.payLen, h.seq, word h.timeoutMs,
   word h.bufAddr, word (h.bufAddr / 2 ^ 32), word h.bufLen] ++ List.replicate 8 0#32

/-- A word of a list, zero beyond its end. -/
def wordAt (w : List Word) (i : Nat) : Word := (w[i]?).getD 0#32

/-- The opcode and the header that 16 words spell; reserved bits have no meaning (R8). What the header of Table 14-1 does not carry stays as it
is in `h`. -/
def Hdr.read (h : Hdr) (w : List Word) : Nat × Hdr :=
  (fld (wordAt w 0) 15 0, { h with
    expert := bit (wordAt w 0) 16, casc := bit (wordAt w 0) 17, noReply := bit (wordAt w 0) 18
    tag := fld (wordAt w 1) 15 0, session := Fin.ofNat 4 (fld (wordAt w 1) 17 16), target := Fin.ofNat 64 (fld (wordAt w 1) 29 24)
    payLen := (wordAt w 2).toNat, seq := wordAt w 3, timeoutMs := (wordAt w 4).toNat
    bufAddr := (wordAt w 5).toNat + (wordAt w 6).toNat * 2 ^ 32, bufLen := (wordAt w 7).toNat })

/-- Bytes 0 to 15 of a reply. -/
def Reply.head (r : Reply) : List Word :=
  [put 15 0 r.status ||| put 31 16 r.tag, r.seq,
   put 15 0 r.opcode ||| putBit 16 r.gen ||| putBit 17 r.final ||| putBit 18 r.inProgress ||| put 21 20 r.session.val ||| put 29 24 r.module,
   word (4 * r.result.length)]

/-- The bytes of a reply from byte 16 on. -/
def Reply.rest (r : Reply) : List Word := List.replicate 4 0#32 ++ r.result

/-! ### Sessions and the replay window -/

/-- The signed 32-bit difference of two sequence numbers (R423). -/
def seqDiff (a b : Word) : Int := signed 32 (a - b).toNat

def State.session (s : State) (n : Fin 4) : Session := (s.cmd.sessions[n.val]?).getD closedSession

def State.updSession (s : State) (n : Fin 4) (f : Session → Session) : State :=
  { s with cmd := { s.cmd with sessions := updAt s.cmd.sessions n.val f } }

/-- A seq recorded in a session's window, `hi` moved up where it is above, and entries that fall out of the
1,024-number window dropped (R423). -/
def Session.record (x : Session) (c : Cached) : Session :=
  let hi := if 0 < seqDiff c.seq x.hi then c.seq else x.hi
  { x with hi := hi, window := c :: x.window.filter (fun e => decide (-1024 < seqDiff e.seq hi) && e.seq != c.seq) }

/-- The recorded entry of a seq. -/
def Session.find (x : Session) (seq : Word) : Option Cached := x.window.find? (fun e => e.seq == seq)

/-! ### Flights -/

def State.updFlights (s : State) (f : List Flight → List Flight) : State :=
  { s with cmd := { s.cmd with flights := f s.cmd.flights } }

/-- The collections of member statuses changed (R431). -/
def State.setAggs (s : State) (f : List Aggregate → List Aggregate) : State := { s with cmd := { s.cmd with aggs := f s.cmd.aggs } }

/-- Whether a command in flight is the one named and has no final reply yet. -/
def Flight.is (f : Flight) (session : Fin 4) (seq : Word) : Bool :=
  f.session == session && f.seq == seq && (match f.st with | .replied _ => false | _ => true)

/-- The command in flight under a session and seq. -/
def State.flight? (s : State) (session : Fin 4) (seq : Word) : Option Flight :=
  s.cmd.flights.find? (fun f => f.is session seq)

/-- Reply slots the host has freed and no command has reserved (R412, R425). -/
def State.freeSlots (s : State) : Nat :=
  256 - (s.cmd.replies.length + total (s.cmd.flights.map (·.slots)))

/-- The reply slots a command reserves at fetch (R425). -/
def slotsFor (op : Nat) (h : Hdr) : Nat := if h.noReply then 0 else if repliesAccepted op then 2 else 1

/-! ### Replies -/

/-- A session's reply vector under coalescing (R437): it sets when coal_cnt replies wait, or coal_us after the first. -/
def State.coalesce (s : State) (n : Fin 4) : State :=
  let cnt := max 1 (s.rf Reg.CMD_INT_COAL 7 0)
  let usec := min 1000 (s.rf Reg.CMD_INT_COAL 25 16)
  let c := (s.cmd.coal[n.val]?).getD ⟨0, none⟩
  let w := c.waiting + 1
  if cnt ≤ w || usec = 0 then
    ({ s with cmd := { s.cmd with coal := updAt s.cmd.coal n.val (fun _ => ⟨w, none⟩) } }).vector n.val
  else
    let due := match c.due with | some d => d | none => s.up + us usec
    { s with cmd := { s.cmd with coal := updAt s.cmd.coal n.val (fun _ => ⟨w, some due⟩) } }

/-- The address in host memory of a reply slot: 4 KiB each, from a base aligned to 4 KiB (R410). -/
def State.replyAddr (s : State) (slot : Nat) : Nat :=
  ((s.reg Reg.CMD_RQ_BASE_LO).toNat + (s.reg Reg.CMD_RQ_BASE_HI).toNat * 2 ^ 32) / 4096 * 4096 + 4096 * slot

/-- A reply written to the slot at CMD_RQ_TAIL, its first 16 bytes last, and the tail moved on; `gen` alternates at each wrap (R412, R417,
R418). -/
def State.writeReply (s : State) (f : Flight) (status : Nat) (words : List Word) (final inProgress : Bool) : State :=
  let r : Reply := ⟨s.cmd.rqTail, s.cmd.parity, status, f.tag, f.seq, f.opcode, final, inProgress, f.session,
    f.module, words⟩
  let tail := (s.cmd.rqTail + 1) % 256
  let s1 := (s.dmaOut (s.replyAddr s.cmd.rqTail + 16) r.rest).dmaOut (s.replyAddr s.cmd.rqTail) r.head
  ({ s1 with cmd := { s1.cmd with replies := s1.cmd.replies ++ [r], rqTail := tail,
                                  parity := if tail = 0 then !s1.cmd.parity else s1.cmd.parity } }).coalesce f.session

/-- The final outcome of a command kept for its duplicates (R424). -/
def State.cacheReply (s : State) (f : Flight) (status : Nat) (words : List Word) : State :=
  s.updSession f.session (fun x => { x with window := x.window.map (fun e =>
    if e.seq == f.seq then { e with reply := some (status, words) } else e) })

/-- A failed command that gets no reply is counted, and its status left in CMD_LAST_NR (R419). -/
def State.noteNoReply (s : State) (f : Flight) (status : Nat) : State :=
  if tookEffect status then s
  else (s.count (Reg.CMD_CNT 3) 1).setReg Reg.CMD_LAST_NR (put 15 0 status ||| put 31 16 f.seq.toNat)

/-- The most words a reply's result holds: 4,064 bytes (R417). -/
def maxResult : Nat := 1016

/-- The final outcome of a command in flight: its reply, its cached reply and the end of its flight (R417, R419,
R424, R425). A member's reply goes back to the head over the ring (R430); the head collects the statuses of a
cascade-route command (R431); of a mirrored command the standby acknowledges the status (R484). -/
def State.postFinal (s : State) (f : Flight) (status : Nat) (result : List Word) : State :=
  let words := result.take maxResult
  let out := s.updFlights (List.filter (fun g => !g.is f.session f.seq))
  match f.via with
  | .ring => out.ringReplyOut f status words
  | .peer => out.peerOut (.mirrorAck f.session f.seq status)
  | .host =>
    if f.muted then out
    else if f.casc then
      (s.updFlights (List.map (fun g => if g.is f.session f.seq then { g with st := .accepted } else g))).setAggs (List.map (fun a =>
        if a.session == f.session && a.seq == f.seq then { a with statuses := setKey a.statuses s.ownIndex status } else a))
    else
      let c := s.cacheReply f status words
      if f.noReply then
        (c.updFlights (List.filter (fun g => !g.is f.session f.seq))).noteNoReply f status
      else
        let slot := c.cmd.rqTail
        (c.updFlights (List.map (fun g => if g.is f.session f.seq then { g with st := .replied slot, slots := 0 } else g))).writeReply
          f status words true false

/-- The first reply of a command that replies ACCEPTED (R419); its block is free from here on (R427). -/
def State.postAccepted (s : State) (f : Flight) : State :=
  let upd := s.updFlights (List.map (fun g =>
    if g.is f.session f.seq then { g with st := .accepted, slots := min 1 g.slots } else g))
  match f.via with
  | .host => if !f.noReply && !f.casc && !f.muted then upd.writeReply f St.ACCEPTED [] false false else upd
  | .peer => upd.peerOut (.mirrorAck f.session f.seq St.ACCEPTED)
  | .ring => upd

/-- The completion of a command that replied ACCEPTED or waited (R419, R433). -/
def State.complete (s : State) (session : Fin 4) (seq : Word) (status : Nat) (words : List Word) : State :=
  match s.flight? session seq with
  | some f => s.postFinal f status words
  | none => s

/-! ### Fetching and the header checks -/

/-- The outcome of the header checks. -/
inductive Checked where
  | refuse (status : Nat) (words : List Word)
  | duplicate (c : Cached)
  | pass
deriving DecidableEq, Repr

/-- Rows 4 to 10 of Table 14-2, after the seq is recorded, with the malformed header values of BAD_PARAM in row 8. -/
def State.checkRest (s : State) (op : Nat) (h : Hdr) : Checked :=
  let x := s.session h.session
  if x.lost ≠ [] then .refuse St.LEASE_EXPIRED (x.lost.map word)
  else if !opcodeDefined op || h.expert != isExpertOp op then .refuse St.BAD_OPCODE []
  else if isExpertOp op && !x.expert then .refuse St.CMD_NOT_EXPERT []
  else if s.cmd.flights.any (fun f => f.session == h.session && f.tag == h.tag)
    then .refuse St.CMD_TAG_BUSY []
  else if decide (4032 < h.payLen) || h.bufAddr % 64 != 0 || decide (2 ^ 30 < h.bufLen) || decide (600000 < h.timeoutMs)
      || (needsBuffer op && h.bufAddr == 0)
    then .refuse St.BAD_PARAM []
  else if !s.memberPresent h.target.val then .refuse St.CMD_NO_MODULE []
  else if h.casc && (op / 256 == 0x0E || op / 256 == 0x0F) then .refuse St.BAD_PARAM []
  else .pass

/-- Rows 1 to 3 of Table 14-2. Row 3 has a window to look in only while the session is open. -/
def State.checkFirst (s : State) (op : Nat) (h : Hdr) : Checked :=
  let x := s.session h.session
  if 255 < h.tag then .refuse St.BAD_PARAM []
  else if !x.opened && op != 0x0E00 && op != 0x0000 then .refuse St.STATE []
  else if !x.opened then .pass
  else match x.find h.seq with
    | some c => .duplicate c
    | none => if seqDiff h.seq x.hi < -1023 then .refuse St.CMD_SEQ_OLD [] else .pass

/-- The command's timeout in ms (R428). -/
def State.timeoutMs (s : State) (h : Hdr) : Nat := if h.timeoutMs = 0 then s.cmd.defTimeout else h.timeoutMs

/-- The command in flight that a header makes. -/
def State.newFlight (s : State) (op : Nat) (h : Hdr) (st : FlightState) (slots : Nat) : Flight :=
  ⟨h.session, h.seq, op, h.tag, h.casc, h.noReply, h.target, h.via, slots, s.up + ms (s.timeoutMs h), st, false, s.timeoutMs h, h.chosen, s.ownIndex⟩

def State.addFlight (s : State) (f : Flight) : State := s.updFlights (· ++ [f])

/-- A reply to a command that its first checks end: it is in flight only until its slot is freed (R425). -/
def State.replyAtOnce (s : State) (op : Nat) (h : Hdr) (status : Nat) (words : List Word) (inProgress : Bool) : State :=
  let f := s.newFlight op h (.replied s.cmd.rqTail) 0
  if h.noReply then s.noteNoReply f status
  else (s.addFlight f).writeReply f status words true inProgress

/-- The reply to a duplicate (R423, R424): the recorded outcome, or in_progress; none where the original gets none. A cached reply that cannot be
read, in Ready or poisoned, is repeated without a result (R512, R539). -/
def State.replyDuplicate (s : State) (op : Nat) (h : Hdr) (c : Cached) : State :=
  let s1 := s.count (Reg.CMD_CNT 1) 1
  if c.noReply then s1
  else match c.reply with
    | some (st, words) =>
      let p := s1.takePoison 4
      p.2.replyAtOnce op h St.DUPLICATE (if s1.aon.mode == .ready || p.1.isSome then [] else word st :: words) false
    | none => s1.replyAtOnce op h St.DUPLICATE [] true

/-- Whether the module is on its way into Dormant or Off, when it fetches no more (R511). -/
def State.leaving (s : State) : Bool :=
  match s.aon.trans with
  | some t => t.goal == .dormant || t.goal == .off
  | none => false

/-- Fetching may take the command at CMD_SQ_HEAD (R413, R426): the module is the head, there is one, and fetching is enabled. -/
def State.fetchable (s : State) : Bool :=
  s.isHead && !s.leaving && s.cmd.ready && s.rb Reg.CMD_CTL 0 && s.cmd.sqHead != s.rf Reg.CMD_SQ_TAIL 9 0

/-- The number of slots of the submission ring (R410). DESIGN CHOICE (assumption 123): a size that is no power of two from 64 to 1,024 is taken as
1,024. -/
def State.sqSize (s : State) : Nat :=
  let n := s.rf Reg.CMD_SQ_SIZE 10 0
  if [64, 128, 256, 512].contains n then n else 1024

/-- Room for a command: its reply slots, and fewer than 256 commands in flight (R425, R426). -/
def State.roomFor (s : State) (op : Nat) (h : Hdr) : Bool :=
  decide (slotsFor op h ≤ s.freeSlots) && decide (s.cmd.flights.length < 256)

/-- Fetching stops for want of room: stalled sets, and vector 4 with it (R426). -/
def State.stall (s : State) : State :=
  if s.cmd.stalled then s else ({ s with cmd := { s.cmd with stalled := true } }).vector 4

/-- The slot at the submission head copied, and the head moved past it (R411). -/
def State.takeSlot (s : State) : State :=
  ({ s with cmd := { s.cmd with sqHead := (s.cmd.sqHead + 1) % s.sqSize, stalled := false } }).count (Reg.CMD_CNT 0) 1

/-- The opcodes whose effective instant every ring member shares under the cascade-route flag: TIME_RESTEP and the two that stage a model (R57,
R280). -/
def commonInstant (op : Nat) : Bool := op == 0x0202 || op == 0x0902 || op == 0x0982

/-- The instant chosen for a command: the step second of TIME_RESTEP, else the instant from which its effective instant is reckoned (R57, R280,
R485). -/
def State.chooseFor (s : State) (op : Nat) : Instant := if op = 0x0202 then s.restepSecond else s.now

/-- A command of the cascade route with the instant that the head chooses for every member. -/
def State.withChosen (s : State) (op : Nat) (h : Hdr) : Hdr :=
  if h.casc && commonInstant op && h.chosen.isNone then { h with chosen := some (s.chooseFor op) } else h

/-- A fetched command whose seq is recorded and whose header passed, put in flight (R416): a command that only the head executes is refused
elsewhere (Table 21-3), a cascade-route command opens a collection of statuses and goes out to the ring, and one for another member is
routed there (R430, R431). -/
def State.takeIn (s : State) (op : Nat) (h0 : Hdr) : State :=
  let h := s.withChosen op h0
  let f := s.newFlight op h .admitted (slotsFor op h)
  let s1 := s.addFlight f
  if (op == 0x1001 || op == 0x1002) && h.target.val != 0 then s1.postFinal f 0x1011 []
  else if h.casc then
    ({ s1 with cmd := { s1.cmd with aggs := s1.cmd.aggs ++ [Aggregate.mk h.session h.seq op []] } }).routeOut op h
  else if h.target.val ≠ s.ownIndex then s1.routeOut op h
  else s1

/-- The seq of a command recorded in its session's window; a closed session has none. -/
def State.recordSeq (s : State) (h : Hdr) : State :=
  if (s.session h.session).opened then s.updSession h.session (fun x => x.record ⟨h.seq, h.noReply, none⟩) else s

/-- A fetched command goes through the checks of Table 14-2 (R416). -/
def State.checkAndAdmit (s : State) (op : Nat) (h : Hdr) : State :=
  match s.checkFirst op h with
  | .refuse st words => s.replyAtOnce op h st words false
  | .duplicate c => s.replyDuplicate op h c
  | .pass =>
    let s1 := s.recordSeq h
    match s1.checkRest op h with
    | .refuse st words =>
      let s2 := if st = St.LEASE_EXPIRED then s1.updSession h.session (fun x => { x with lost := [] }) else s1
      let f := s2.newFlight op h .admitted (slotsFor op h)
      (s2.addFlight f).postFinal f st words
    | .duplicate c => s1.replyDuplicate op h c
    | .pass => s1.takeIn op h

/-- A command reaches the module (R426, R430, R484): the head fetches it from the submission ring when it can, and a
member or standby takes it as it comes, checked already at the head or by the ACTIVE. -/
def State.fetchCmd (s : State) (op : Nat) (h : Hdr) : State :=
  match h.via with
  | .host =>
    if !s.fetchable then s
    else if !s.roomFor op h then s.stall
    else s.takeSlot.checkAndAdmit op h
  | .ring => (s.learnGen hostIdent h.hostGen).addFlight (s.newFlight op h .admitted 0)
  | .peer => s.addFlight (s.newFlight op h .admitted 0)

/-! ### Running a command -/

/-- What an opcode's own effect comes to: done with a status and result words, accepted with the completion to follow,
or waiting in a queue. -/
inductive Res where
  | done (status : Nat) (words : List Word) (s : State)
  | accepted (s : State)
  | waiting (s : State)

/-- A command that changes nothing and replies a status (R420). -/
def refuse (status : Nat) (s : State) : Res := .done status [] s

/-- A command that is done. -/
def ok (words : List Word) (s : State) : Res := .done St.OK words s

/-- What a command of the ring sends to its host buffer crosses in chunks: one that comes poisoned is sent once more, and at a second the command
replies TIMEOUT (R539). -/
def Res.carried (via : Via) : Res → Res
  | .done st words s =>
    if via == .ring && tookEffect st then
      let a := s.takePoison 7
      let b := a.2.takePoison 7
      if a.1.isSome && b.1.isSome then .done St.TIMEOUT [] b.2 else .done st words a.2
    else .done st words s
  | .accepted s => .accepted s
  | .waiting s => .waiting s

/-- The end of an execution: the reply, unless the effect itself ended the command's flight. -/
def State.finish (f : Flight) : Res → State
  | .done st words s => s.complete f.session f.seq st words
  | .accepted s => match s.flight? f.session f.seq with
    | some g => s.postAccepted g
    | none => s
  | .waiting s => s.updFlights (List.map (fun g => if g.is f.session f.seq then { g with st := .waiting } else g))

/-- Whether a command in flight is for this module. -/
def State.isHere (s : State) (f : Flight) : Bool := f.casc || f.via != .host || f.target.val == s.ownIndex

/-- Whether a command holds its block: from its checks until it is done, accepted or waiting (R427, R433). -/
def Flight.occupies (f : Flight) : Bool := f.st == .admitted || f.st == .mirroring || f.st == .mirrored

/-- Whether a command fetched earlier, to the same block of this module, is still to execute (R427). -/
def State.isBehind (s : State) (f : Flight) : Bool :=
  (s.cmd.flights.takeWhile (· != f)).any (fun g => g.opcode / 256 == f.opcode / 256 && g.occupies && s.isHere g)

/-- The command in flight that executes here: the one named by session and seq, admitted or acknowledged by the standby, for this module, and not
behind another of its block (R427). -/
def State.executable (s : State) (op : Nat) (h : Hdr) : Option Flight :=
  s.cmd.flights.find? (fun f => f.is h.session h.seq && f.opcode == op && (f.st == .admitted || f.st == .mirrored) && s.isHere f && !s.isBehind f)

/-- A payload that carries a time epoch other than the current one fails with TIME_EPOCH, and the result gives the
current epoch (Table 2-6, Table 14-4). -/
def epochCheck (h : Hdr) (body : State → Res) (s : State) : Res :=
  match h.epoch with
  | some e => if e == s.time.epoch then body s else .done St.TIME_EPOCH [s.time.epoch] s
  | none => body s

/-- Whether an effect changes an RWL field behind a lock that was set before it (R579). -/
def State.breaksLock (s t : State) : Bool :=
  (s.regs ++ t.regs).any (fun p => s.isLocked p.1 && s.lockRefuses p.1 (t.reg p.1))

/-- An effect that a lock forbids fails with STATE and changes nothing (R579). REG_WRITE is the one exception; a reset of an island ends its
lock with it. -/
def guardLocks (op : Nat) (s : State) : Res → Res
  | .done st words t =>
    if tookEffect st && op != 0x0081 && op != 0x0181 && s.breaksLock t then refuse St.STATE s else .done st words t
  | .accepted t => if s.breaksLock t then refuse St.STATE s else .accepted t
  | .waiting t => .waiting t

/-- What an opcode's checks and its effect come to on this module: nothing where its operating state does not accept the opcode (R512). -/
def State.outcome (s : State) (op : Nat) (h : Hdr) (body : State → Res) : Res :=
  if !s.opcodeRuns op then refuse St.STATE s
  else match h.form with
    | .malformed => refuse St.BAD_PARAM s
    | .outOfRange => refuse St.PARAM_RANGE s
    | .good => guardLocks op s (epochCheck h body s)

/-- A mirrored command whose checks have passed here goes to the standby with the instant chosen for it, and waits for its acknowledgement (R484,
R485). -/
def State.mirrorOut (s : State) (op : Nat) (h : Hdr) (f : Flight) : State :=
  let c := f.chosen.getD (s.chooseFor op)
  (s.updFlights (List.map (fun g => if g.is f.session f.seq then { g with st := .mirroring, chosen := some c } else g))).peerOut
    (.command op { h with via := .peer, at_ := s.now, chosen := some c })

/-- What an opcode's checks and effect come to, reckoned from the instant that the head or the ACTIVE chose, where one has (R57, R280, R485).
TIME_RESTEP takes its second from the command in flight. -/
def State.outcomeFrom (s : State) (op : Nat) (h : Hdr) (body : State → Res) (f : Flight) : Res :=
  match f.chosen with
  | none => s.outcome op h body
  | some c =>
    if op = 0x0202 then s.outcome op h body
    else
      let back (t : State) : State := { t with time := { t.time with now := s.time.now } }
      match State.outcome { s with time := { s.time with now := c } } op h body with
      | .done st words t => .done st words (back t)
      | .accepted t => .accepted (back t)
      | .waiting t => .waiting (back t)

/-- The standby takes a mirrored command; no other pair state does (R484). -/
def State.peerOutcome (s : State) (op : Nat) (h : Hdr) (body : State → Res) (f : Flight) : Res :=
  if s.pair.st != .standby then refuse St.STATE s else s.outcomeFrom op h body f

/-- A command executes: one that the pair mirrors is checked here and sent to the standby first, unless it has acknowledged it (R484). -/
def State.execute (s : State) (mir : Bool) (op : Nat) (h : Hdr) (body : State → Res) (f : Flight) : State :=
  if f.via == .peer then State.finish f (s.peerOutcome op h body f)
  else
    let r := s.outcomeFrom op h body f
    if !mir || f.st == .mirrored then State.finish f r
    else match s.pairGate with
      | .pass => State.finish f r
      | .refuse st => State.finish f (refuse st s)
      | .mirror => match r with
        | .done st words _ => if tookEffect st then s.mirrorOut op h f else State.finish f (.done st words s)
        | _ => s.mirrorOut op h f

/-- Every opcode's row: the command is taken where it is not yet in flight, and executes once its checks have passed.
Module time runs on to the instant the row names first. -/
def runCmdAs (mir : Bool) (op : Nat) (h : Hdr) (body : State → Res) (s0 : State) : State :=
  let s := s0.advance h.at_
  match s.executable op h with
  | some f => s.execute mir op h body f
  | none =>
    let s1 := s.fetchCmd op h
    match s1.executable op h with
    | some f => s1.execute mir op h body f
    | none => s1

/-- A row whose opcode alone says whether the pair mirrors it. -/
def runCmd (op : Nat) (h : Hdr) (body : State → Res) (s : State) : State := runCmdAs (mirroredOp op) op h body s

end Sys2Proof.Machine
end

