-- ==== Sys2Proof/Machine/PairLink.lean ====
section
/-! DEFINITION. Changes of the pair state and the trace they leave (R478, R497, R501, R538): what every other block of the module meets of the
pair. -/

namespace Sys2Proof.Machine

/-- The inj bit of the peer's last heartbeat (R538). -/
def State.peerInj (s : State) : Bool := match s.pair.peer with
  | some h => h.inj
  | none => false

/-- An event that carries INJECTED or not. -/
def State.raiseAs (s : State) (inj : Bool) (cls : Nat) (qty : Rat) (detail : List Word) : State :=
  if inj then s.raiseInjected cls qty detail else s.raise cls qty detail

/-- A change of the pair state (R478): state_chg with its vector, unverified where the module becomes so, and the PAIR_STATE record. What only
the old state waits for is dropped: acknowledgements, a list under work and unmatched results. -/
def State.enterPair (s : State) (st : PairState) (cause : Nat) (inj : Bool) : State :=
  if s.pair.st = st then s
  else
    let old := s.pair.st
    let s1 := (s.setPair (fun p => { p with st := st, cause := cause, work := [], results := [], theirs := [] })).status Reg.PAIR_STAT 0
    let s2 := if st = .unverified then s1.status Reg.PAIR_STAT 1 else s1
    let s3 := { s2 with aln := { s2.aln with lists := [] } }
    s3.raiseAs inj 10 0 [word old.code, word st.code, word cause]

/-- The first frame of class 1 or 2 after a take-over starts on the wire (R497): PAIR_LAST_SW, and the PAIR_SWITCH record with the time since
the last heartbeat in which the peer held the interlock. -/
def State.noteSwitch (s : State) (cls : Fin 4) : State :=
  match s.pair.switchPend with
  | some (cause, inj) =>
    if cls = 1 || cls = 2 then
      let gap := s.up - s.pair.lastHold.getD s.up
      let old := match s.pair.peer with
        | some h => h.index.val
        | none => s.ownIndex
      (s.setPair (fun p => { p with switchPend := none, lastSw := (min 0xFFFFFF (gap / ns 10), cause) })).raiseAs inj 9
        ((gap : Rat) / (us 1 : Rat)) [word old, word s.ownIndex, word cause]
    else s
  | none => s

/-- A frame of class 1 or 2 that is dropped fails the check of a swap (R501). -/
def State.noteSwapBad (s : State) (cls : Fin 4) : State :=
  match s.pair.swap with
  | some (.checking _) => if cls = 1 || cls = 2 then s.setPair (fun p => { p with swapBad := true }) else s
  | _ => s

/-- An island watchdog of R479 expires: the interlock watchdog is not fed from here on. -/
def State.tripInterlock (s : State) (isl : Nat) (inj : Bool) : State :=
  if isl < 10 || isl == Isle.ingress || isl == Isle.estimation || isl == Isle.accord || isl == Isle.nose || isl == Isle.atomizer ||
      isl == Isle.pair
  then s.setPair (fun p => { p with wdTrip := some inj }) else s

end Sys2Proof.Machine
end

