-- ==== Sys2Proof/Machine/Crc.lean ====
section
/-! DEFINITION. The check codes the manual names: CRC-16 of R103 and R116, CRC-32C, and CRC-64 of R492. -/

namespace Sys2Proof.Machine

/-- One byte through CRC-16, polynomial 0x1021, most significant bit first. -/
def crc16Byte (c : Nat) (b : Byte) : Nat :=
  (upto 8).foldl (fun x _ => if x / 0x8000 % 2 = 1 then (x * 2 % 0x10000) ^^^ 0x1021 else x * 2 % 0x10000)
    (c ^^^ (b.toNat * 256))

/-- CRC-16 with initial value 0xFFFF, no reflection and no final XOR (R103). -/
def crc16 (bytes : List Byte) : Nat := bytes.foldl crc16Byte 0xFFFF

/-- One byte through CRC-32C (Castagnoli), reflected. -/
def crc32cByte (c : Nat) (b : Byte) : Nat :=
  (upto 8).foldl (fun x _ => if x % 2 = 1 then (x / 2) ^^^ 0x82F63B78 else x / 2) (c ^^^ b.toNat)

/-- CRC-32C of a byte string. -/
def crc32c (bytes : List Byte) : Word := word (bytes.foldl crc32cByte 0xFFFFFFFF ^^^ 0xFFFFFFFF)

/-- One byte through CRC-64, polynomial 0x42F0_E1EB_A9EA_3693 reflected. -/
def crc64Byte (c : Nat) (b : Byte) : Nat :=
  (upto 8).foldl (fun x _ => if x % 2 = 1 then (x / 2) ^^^ 0xC96C5795D7870F42 else x / 2) (c ^^^ b.toNat)

/-- CRC-64 with the parameters of R492. -/
def crc64 (bytes : List Byte) : Nat := bytes.foldl crc64Byte 0xFFFFFFFFFFFFFFFF ^^^ 0xFFFFFFFFFFFFFFFF

/-- The four bytes of a word, least significant first (R6). -/
def bytesLE (w : Word) : List Byte := (upto 4).map (fun i => BitVec.ofNat 8 (w.toNat / 2 ^ (8 * i)))

/-- The bytes of words, each least significant first. -/
def bytesOf (ws : List Word) : List Byte := ws.flatMap bytesLE

/-- A number from bytes, most significant first. -/
def beNat (bytes : List Byte) : Nat := bytes.foldl (fun n b => n * 256 + b.toNat) 0

/-- A number from bytes, least significant first. -/
def leNat : List Byte → Nat
  | [] => 0
  | b :: rest => b.toNat + 256 * leNat rest

/-- Words from bytes, four at a time, least significant byte first; a short tail is filled with zero. -/
def wordsLE : List Byte → List Word
  | [] => []
  | a :: [] => [word (leNat [a])]
  | a :: b :: [] => [word (leNat [a, b])]
  | a :: b :: c :: [] => [word (leNat [a, b, c])]
  | a :: b :: c :: d :: rest => word (leNat [a, b, c, d]) :: wordsLE rest

end Sys2Proof.Machine
end

