-- ==== Sys2Proof/Machine/Float.lean ====
section
/-! DEFINITION. binary32 values as the registers and records hold them: their exact rational value, and rounding to nearest
with ties to even. -/

namespace Sys2Proof.Machine

namespace F32

/-- The quiet NaN of the missing pattern (Table 6-4). -/
def nan : Word := 0x7FC00000#32

def isNaN (w : Word) : Bool := fld w 30 23 == 255 && fld w 22 0 != 0
def isInf (w : Word) : Bool := fld w 30 23 == 255 && fld w 22 0 == 0
def isFinite (w : Word) : Bool := fld w 30 23 != 255

/-- Two to an integer power. -/
def pow2 (e : Int) : Rat := if 0 ≤ e then ((2 ^ e.toNat : Nat) : Rat) else 1 / ((2 ^ (-e).toNat : Nat) : Rat)

/-- The exact value of a finite word; 0 for NaN and infinities. -/
def toRat (w : Word) : Rat :=
  let m : Nat := fld w 22 0
  let e : Nat := fld w 30 23
  let v : Rat := if e = 255 then 0 else if e = 0 then (m : Rat) * pow2 (-149) else ((2 ^ 23 + m : Nat) : Rat) * pow2 ((e : Int) - 150)
  if bit w 31 then -v else v

/-- The largest `e` with 2^e ≤ n / d, for positive n and d. -/
def exponent (n d : Nat) : Int :=
  let e : Int := (Nat.log2 n : Int) - (Nat.log2 d : Int)
  let fits (e : Int) : Bool := if 0 ≤ e then decide (d * 2 ^ e.toNat ≤ n) else decide (d ≤ n * 2 ^ (-e).toNat)
  if fits e then e else e - 1

/-- A quotient rounded to nearest, ties to even. -/
def roundDiv (n d : Nat) : Nat :=
  let q := n / d
  let r := n % d
  if 2 * r > d then q + 1 else if 2 * r = d then q + q % 2 else q

/-- The binary32 nearest to a rational, ties to even; beyond the largest finite value the infinity of its sign. -/
def ofRat (x : Rat) : Word :=
  let n := x.num.natAbs
  let d := x.den
  if n = 0 then 0#32
  else
    let e := max (exponent n d) (-126)
    let k : Int := e - 23
    let q := if 0 ≤ k then roundDiv n (d * 2 ^ k.toNat) else roundDiv (n * 2 ^ (-k).toNat) d
    let bits := if q < 2 ^ 23 then q else (e + 126).toNat * 2 ^ 23 + q
    word (min bits 0x7F800000) ||| putBit 31 (decide (x < 0))

/-- Magnitude comparison of finite or infinite values; false where either is NaN. -/
def lt (a b : Word) : Bool :=
  if isNaN a || isNaN b then false
  else if isInf a then bit a 31 && !(isInf b && bit b 31)
  else if isInf b then !bit b 31
  else decide (toRat a < toRat b)

/-- The next word above and below a finite one. -/
def nextUp (w : Word) : Word := if fld w 30 0 = 0 then 1#32 else if bit w 31 then w - 1#32 else w + 1#32
def nextDown (w : Word) : Word := if fld w 30 0 = 0 then 0x80000001#32 else if bit w 31 then w + 1#32 else w - 1#32

/-- The word of an exact number: the binary32 value equal to it where there is one, else one of the two next to it, where the spec gives no
rounding. -/
def conv (x : Rat) : Word :=
  let r := ofRat x
  let up := Config.roundsUp x
  if isInf r then
    (if x < 0 then (if up then 0xFF7FFFFF#32 else 0xFF800000#32) else if up then 0x7F800000#32 else 0x7F7FFFFF#32)
  else if toRat r = x then r
  else if toRat r < x then (if up then nextUp r else r)
  else if up then r else nextDown r

/-- A formula on binary32 values, on their exact values where all are finite. -/
def arith (ws : List Word) (f : List Rat → Rat) : Word :=
  if ws.all isFinite then conv (f (ws.map toRat)) else Config.nonFinite ws

end F32

/-- A quotient; by zero one that the spec does not fix. -/
def quot (a b : Rat) : Rat := if b = 0 then Config.noQuotient a else a / b

/-- The quantity of a channel that a threshold or limit compares (R177, R312): a number, the magnitude of a phasor by its square, or
one that is not finite. -/
inductive Quantity where
  | val (x : Rat)
  | mag (sq : Rat)
  | pinf
  | ninf
  | nan
deriving DecidableEq, Repr

namespace Quantity

/-- The quantity of a scalar channel. -/
def ofWord (w : Word) : Quantity :=
  if F32.isNaN w then .nan else if F32.isInf w then (if bit w 31 then .ninf else .pinf) else .val (F32.toRat w)

/-- The quantity of a phasor. -/
def ofPhasor (re im : Word) : Quantity :=
  if F32.isNaN re || F32.isNaN im then .nan else if F32.isInf re || F32.isInf im then .pinf
  else .mag (F32.toRat re * F32.toRat re + F32.toRat im * F32.toRat im)

/-- Above a number. -/
def gt (q : Quantity) (x : Rat) : Bool :=
  match q with
  | .val v => decide (x < v)
  | .mag m => decide (x < 0) || decide (x * x < m)
  | .pinf => true
  | .ninf => false
  | .nan => false

/-- Below a number. -/
def lt (q : Quantity) (x : Rat) : Bool :=
  match q with
  | .val v => decide (v < x)
  | .mag m => decide (0 < x) && decide (m < x * x)
  | .pinf => false
  | .ninf => true
  | .nan => false

end Quantity

/-- Above a binary32 number; no quantity is above NaN. -/
def aboveWord (q : Quantity) (w : Word) : Bool :=
  if F32.isNaN w then false else if F32.isInf w then bit w 31 && q != .ninf && q != .nan else q.gt (F32.toRat w)

/-- Below a binary32 number; no quantity is below NaN. -/
def belowWord (q : Quantity) (w : Word) : Bool :=
  if F32.isNaN w then false else if F32.isInf w then !bit w 31 && q != .pinf && q != .nan else q.lt (F32.toRat w)

/-- Above the sum of two binary32 numbers, and below their difference: never where that is no number. -/
def aboveSum (q : Quantity) (a b : Word) : Bool :=
  if F32.isNaN a || F32.isNaN b || (F32.isInf a && F32.isInf b && bit a 31 != bit b 31) then false
  else if F32.isInf a then aboveWord q a
  else if F32.isInf b then aboveWord q b
  else q.gt (F32.toRat a + F32.toRat b)

def belowDiff (q : Quantity) (a b : Word) : Bool :=
  if F32.isNaN a || F32.isNaN b || (F32.isInf a && F32.isInf b && bit a 31 == bit b 31) then false
  else if F32.isInf a then belowWord q a
  else if F32.isInf b then belowWord q (b ^^^ 0x80000000#32)
  else q.lt (F32.toRat a - F32.toRat b)

/-- A fixed denominator for instants as rationals in seconds. -/
def ratSeconds (t : Nat) : Rat := (t : Rat) / (sec 1 : Rat)

end Sys2Proof.Machine
end

