-- ==== Sys2Proof/Machine/Elementary.lean ====
section
/-! DEFINITION. The elementary functions that the estimation, prediction and island formulas name: square root, cosine and sine, and the angle of
a rectangular value, each to within 2^-90 in rational arithmetic, and binary64 rounding (R148). -/

namespace Sys2Proof.Machine

namespace Elem

/-- The integer square root, found bit by bit from bit `b` down. -/
def isqrtFrom (n : Nat) : Nat → Nat → Nat
  | 0, r => if (r + 1) * (r + 1) ≤ n then r + 1 else r
  | b + 1, r => isqrtFrom n b (if (r + 2 ^ (b + 1)) * (r + 2 ^ (b + 1)) ≤ n then r + 2 ^ (b + 1) else r)

def isqrt (n : Nat) : Nat := isqrtFrom n (Nat.log2 n / 2 + 1) 0

/-- The square root of a number, exact where it is rational; 0 of a negative one. -/
def sqrt (x : Rat) : Rat :=
  if x ≤ 0 then 0
  else
    let m := x.num.natAbs * x.den
    let k := 110 - min 110 (Nat.log2 m / 2)
    (isqrt (m * 4 ^ k) : Rat) / ((x.den * 2 ^ k : Nat) : Rat)

/-- Fixed-point one. -/
def one : Int := 2 ^ 110

/-- A number in fixed point. -/
def fix (x : Rat) : Int := (x * (one : Rat)).floor

def mulFix (a b : Int) : Int := a * b / one

/-- π in fixed point, from its decimal expansion. -/
def piFix : Int := 3141592653589793238462643383279502884197 * one / 1000000000000000000000000000000000000000

/-- Terms of a Taylor series in `x2`, the square of the argument in fixed point: each follows from the one before it by −x2 / ((i + 1)(i + 2)). -/
def taylor (x2 : Int) : Nat → Nat → Int → Int
  | 0, _, _ => 0
  | n + 1, i, t => t + taylor x2 n (i + 2) (-(mulFix t x2) / (((i + 1) * (i + 2) : Nat) : Int))

/-- Cosine and sine of an angle in rad in fixed point, at most a quarter turn. -/
def cosFix (a : Int) : Int := taylor (mulFix a a) 24 0 one
def sinFix (a : Int) : Int := taylor (mulFix a a) 24 1 a

/-- An angle in turns brought to 0 to 1. -/
def unit (x : Rat) : Rat := x - (x.floor : Rat)

/-- Cosine and sine of an angle in turns; exact at every quarter turn. -/
def cosSin (x : Rat) : Rat × Rat :=
  let u := unit x
  let quad := (u * 4).floor.toNat
  let a := mulFix (fix (u - (quad : Rat) / 4)) (2 * piFix)
  let c : Rat := if u * 4 = (quad : Rat) then 1 else (cosFix a : Rat) / (one : Rat)
  let s : Rat := if u * 4 = (quad : Rat) then 0 else (sinFix a : Rat) / (one : Rat)
  match quad with
  | 0 => (c, s)
  | 1 => (-s, c)
  | 2 => (-c, -s)
  | _ => (s, -c)

/-- An angle in rad as turns. -/
def turns (a : Rat) : Rat := a * (one : Rat) / ((2 * piFix : Int) : Rat)

/-- The series of the arctangent, z − z³/3 + z⁵/5 − …, in fixed point. -/
def atanSum (z2 : Int) : Nat → Nat → Int → Int
  | 0, _, _ => 0
  | n + 1, i, p => p / ((i : Nat) : Int) + atanSum z2 n (i + 2) (-(mulFix p z2))

/-- The arctangent of a number from 0 to 1 in turns, by halving its angle three times. -/
def atanTurns (z : Rat) : Rat :=
  let half (z : Rat) : Rat := let w := z / (1 + sqrt (1 + z * z)); (fix w : Rat) / (one : Rat)
  let w := fix (half (half (half z)))
  turns ((8 * atanSum (mulFix w w) 28 1 w : Int) / (one : Rat))

/-- The angle of a rectangular value in turns, above −1/2 and at most 1/2; exact at every eighth of a turn, and 0 of zero. -/
def arg (re im : Rat) : Rat :=
  let x := if re < 0 then -re else re
  let y := if im < 0 then -im else im
  let first : Rat :=
    if y = 0 then 0 else if x = 0 then 1 / 4 else if x = y then 1 / 8
    else if y < x then atanTurns (y / x) else 1 / 4 - atanTurns (x / y)
  let upper := if re < 0 then 1 / 2 - first else first
  if im < 0 then -upper else upper

/-- ln 2 in fixed point, from its decimal expansion. -/
def ln2Fix : Int := 693147180559945309417232121458176568076 * one / 1000000000000000000000000000000000000000

/-- The natural logarithm of a number: the power of two it lies at, and the series of the inverse hyperbolic tangent on the rest; 0 where there is
none. -/
def ln (x : Rat) : Rat :=
  if x ≤ 0 then 0
  else
    let e := F32.exponent x.num.natAbs x.den
    let m := x / F32.pow2 e
    let z := fix ((m - 1) / (m + 1))
    ((e * ln2Fix + 2 * atanSum (-(mulFix z z)) 40 1 z : Int) : Rat) / (one : Rat)

/-- An angle in turns as rad. -/
def rad (x : Rat) : Rat := x * ((2 * piFix : Int) : Rat) / (one : Rat)

/-- The angle of a rectangular value in units of 360°/65,536, modulo a turn: the unit it falls on, else one of the two next to it, where the
spec gives no rounding (Table 9-3). -/
def angUnits (re im : Rat) : Nat :=
  let x := unit (arg re im) * 65536
  let n := x.floor.toNat
  (if x ≠ (n : Rat) && Config.roundsUp x then n + 1 else n) % 65536

end Elem

namespace F64

/-- The binary64 value nearest to a number, ties to even. The numbers of the estimation chain stay below the largest finite value. -/
def round (x : Rat) : Rat :=
  let n := x.num.natAbs
  let d := x.den
  if n = 0 then 0
  else
    let k : Int := max (F32.exponent n d) (-1022) - 52
    let q := if 0 ≤ k then F32.roundDiv n (d * 2 ^ k.toNat) else F32.roundDiv (n * 2 ^ (-k).toNat) d
    let v : Rat := (q : Rat) * F32.pow2 k
    if x < 0 then -v else v

def add (a b : Rat) : Rat := round (a + b)
def sub (a b : Rat) : Rat := round (a - b)
def mul (a b : Rat) : Rat := round (a * b)
def div (a b : Rat) : Rat := round (a / b)

/-- A sum in the order of its terms. -/
def sum (l : List Rat) : Rat := l.foldl add 0

/-- A sum of products in the order of its terms. -/
def dot (l : List (Rat × Rat)) : Rat := sum (l.map (fun p => mul p.1 p.2))

end F64

end Sys2Proof.Machine
end

