-- ==== Sys2Proof/Machine/TimeOps.lean ====
section
/-! DEFINITION. Operations of the time base (chapter 02): source qualification and choice, the servo, the error estimate
and its codes, stamps and time outputs. -/

namespace Sys2Proof.Machine

def State.setTime (s : State) (f : TimePart → TimePart) : State := { s with time := f s.time }

/-! ### Settings as they act (Tables 2-14, 2-15, 2-19, 2-20; R578) -/

/-- The step threshold in ns: 100 to 1,000,000. -/
def State.stepThresh (s : State) : Nat := clamp 100 1000000 (s.rf Reg.TB_DISC_CTL 19 0)

/-- Suspect measurements that confirm a discontinuity: 0 is taken as 1. -/
def State.discConfirm (s : State) : Nat := max 1 (s.rf Reg.TB_DISC_CTL 30 28)

/-- The lock threshold in ns. -/
def State.lockNs (s : State) : Nat := s.rf Reg.TB_DISC_CTL 27 20

/-- The servo bandwidth in mHz: 1 to 500. -/
def State.bwMhz (s : State) : Nat := clamp 1 500 (s.rf Reg.TB_SERVO_CTL 8 0)

/-- The use of TOD_IN: 3 is taken as 0 (R72). -/
def State.todMode (s : State) : Nat := s.rf Reg.TB_TOD_CTL 1 0 % 3

/-- The PPS_OUT width in ms: 1 to 500. -/
def State.ppsWidth (s : State) : Nat := clamp 1 500 (s.rf Reg.TB_OUT_CTL 8 0)

/-- The source codes in order of priority (Table 2-14). -/
def State.priorities (s : State) : List Nat :=
  (upto 6).map (fun i => s.rf Reg.TB_SRC_CTL (4 * i + 3) (4 * i))

/-- The TAI − UTC offset in use (R29). -/
def State.utcOffset (s : State) : Int := signed 8 (s.rf Reg.TB_UTC_CTL 7 0)

/-! ### Sources (R30 to R32) -/

def State.srcQual (s : State) (c : Nat) : SrcQual := (s.time.src[c]?).getD noQual

def State.updSrc (s : State) (c : Nat) (f : SrcQual → SrcQual) : State :=
  s.setTime (fun t => { t with src := updAt t.src c f })

/-- Whether a source code may be used as a phase source: a PTP port, or the one of 0xA and 0xB that TOD_IN is set
to (R32). -/
def State.phaseCode (s : State) (c : Nat) : Bool :=
  decide (c < 10) || (c == 10 && s.todMode == 1) || (c == 11 && s.todMode == 2)

/-- The qualified phase source highest in TB_SRC_CTL, or 0xF (R30). -/
def State.pickSource (s : State) : Nat :=
  ((s.priorities.find? (fun c => s.phaseCode c && (s.srcQual c).qualified)).getD 15)

/-- The interval in ms within which a source delivers its next valid time: the Sync interval of a PTP port, one second
for the others (R30). -/
def State.srcIntervalMs (s : State) (c : Nat) : Nat :=
  match s.time.ptp[c]? with
  | some p => max 1 p.ds.syncMs
  | none => 1000

/-! ### The error estimate and its codes (R53) -/

/-- The accuracy of Table 2-9 for a source, in ns. -/
def accuracyNs (c : Nat) : Nat := if c < 10 then 25 else if c = 10 then 15 else 100

/-- The estimate of maximum time error, in ticks; none where it is unbounded. In HOLDOVER it grows by drift_ps for each
second since entry. -/
def State.timeError (s : State) : Option Rat :=
  match s.time.servo with
  | .freerun => none
  | .acquire => if s.time.stepped then (s.time.error.map (fun (e : Nat) => (e : Rat))) else none
  | .discont => s.time.error.map (fun (e : Nat) => (e : Rat))
  | .locked => some ((accuracyNs s.time.current * ticksPerNs : Nat) : Rat)
  | .holdover =>
    some ((s.time.holdE0 : Rat) + (s.rf Reg.TB_HOLD_CTL 23 0 : Rat) * (65536 : Rat) / 1000 * ((s.up - s.time.holdSince : Nat) : Rat) / (sec 1 : Rat))

/-- The C37.118.2 STAT time-quality code, bits 8 to 6, for an error in ticks: 1 below 100 ns, and one more for each factor
of ten to 10 ms; 7 beyond or unbounded. PRESUMED (assumption 31): the bounds C37.118.2 gives the codes; the spec's own example gives 1 to 5. -/
def statTimeCode (e : Option Rat) : Nat :=
  match e with
  | none => 7
  | some x =>
    if x < (ns 100 : Rat) then 1 else if x < (us 1 : Rat) then 2 else if x < (us 10 : Rat) then 3
    else if x < (us 100 : Rat) then 4 else if x < (ms 1 : Rat) then 5 else if x < (ms 10 : Rat) then 6 else 7

/-- The FRACSEC time-quality code: 0 in LOCKED, the decade of the error otherwise, 0xF unbounded. -/
def fracTimeCode (locked : Bool) (e : Option Rat) : Nat :=
  if locked then 0 else
  match e with
  | none => 15
  | some x => if x < (ns 1 : Rat) then 1 else if x < (ns 10 : Rat) then 2 else if x < (ns 100 : Rat) then 3
    else if x < (us 1 : Rat) then 4 else if x < (us 10 : Rat) then 5 else if x < (us 100 : Rat) then 6
    else if x < (ms 1 : Rat) then 7 else if x < (ms 10 : Rat) then 8 else if x < (ms 100 : Rat) then 9
    else if x < (sec 1 : Rat) then 10 else if x < (sec 10 : Rat) then 11 else 15

/-- STAT bits 5 and 4: how long ago LOCKED was last left (R53). -/
def State.unlockedCode (s : State) : Nat :=
  if s.time.servo == .locked then 0 else
  match s.time.leftLocked with
  | none => 3
  | some u => let d := s.up - u
    if d < sec 10 then 0 else if d < sec 100 then 1 else if d < sec 1000 then 2 else 3

/-- SmpSynch of R-SV output (R53). -/
def State.smpSynch (s : State) : Nat :=
  match s.time.servo with
  | .locked => 2
  | .freerun => 0
  | .acquire => if s.time.stepped then 1 else 0
  | _ => 1

def servoCode : ServoState → Nat
  | .freerun => 0
  | .acquire => 1
  | .locked => 2
  | .holdover => 3
  | .discont => 4

/-! ### The servo (R46, R49 to R53, R578, Table 2-5) -/

/-- The bound of the rate correction: 100 ppm in units of 2^-48 (R46). -/
def maxRate : Int := 28147497671

/-- The bound of the slew of R52 over the last locked rate: 50 µs/s in units of 2^-48. -/
def slewRate : Int := 14073748835

/-- The servo moves to another state; leaving LOCKED is remembered (R53), and the run of the lock condition starts anew. -/
def State.setServo (s : State) (st : ServoState) : State :=
  s.setTime (fun t => { t with
    servo := st, lockRun := 0, calmRun := 0,
    leftLocked := (if t.servo = .locked ∧ st ≠ .locked then (some t.up) else t.leftLocked) })

/-- A pending TIME_RESTEP ends without a step, and its completion reports STATE (R55). The completion itself is
`State.abandonRestep` of the step operations. -/
def State.restepPending (s : State) : Bool := s.time.restep.isSome

/-- A suspect run ends as outliers (R50). -/
def State.endSuspectRun (s : State) : State :=
  (s.countFld Reg.TB_DISC_STAT 15 0 s.time.suspRun).setTime (fun t => { t with suspRun := 0 })

/-- REF_IN steers the rate: in HOLDOVER, and in DISCONT with HOLD mode, which runs as HOLDOVER does (R45, R52). -/
def State.refSteers (s : State) : Bool :=
  s.rb Reg.TB_CTL 0 && (s.time.servo == .holdover || (s.time.servo == .discont && s.rb Reg.TB_DISC_CTL 31))

/-- The servo's loop takes a measured offset, unless servo_en is 0 (R46, R578). -/
def State.servoLoop (s : State) (offset : Int) : State :=
  if s.rb Reg.TB_CTL 0 then
    let r := clampInt (-maxRate) maxRate (Config.servoRate s.free s.bwMhz offset s.time.rate)
    s.nextFree.setTime (fun t => { t with rate := r, lockedRate := if t.servo == .locked then r else t.lockedRate })
  else s

/-- The slew of R52: towards the source, within 50 µs/s of the last locked rate. -/
def State.servoSlew (s : State) (offset : Int) : State :=
  if s.rb Reg.TB_CTL 0 && !s.rb Reg.TB_DISC_CTL 31 then
    let want := Config.servoRate s.free s.bwMhz offset s.time.rate
    let r := clampInt (-maxRate) maxRate (clampInt (s.time.lockedRate - slewRate) (s.time.lockedRate + slewRate) want)
    s.nextFree.setTime (fun t => { t with rate := r })
  else s

/-- Entry into HOLDOVER with the error it starts from (R53, R59). A suspect run ends without a confirmation, so as outliers (R50). -/
def State.enterHoldover (s : State) (lost : Nat) : State :=
  let e0 : Nat := match s.time.servo with
    | .locked => accuracyNs lost * ticksPerNs
    | _ => s.time.error.getD 0
  (s.endSuspectRun.setServo .holdover).setTime (fun t => { t with holdE0 := e0, holdSince := t.up, holdSrc := lost })

/-- Leaving HOLDOVER records the time spent there (class 3). -/
def State.noteHoldover (s : State) : State :=
  if s.time.servo == .holdover then
    s.raise 3 (((s.up - s.time.holdSince : Nat) : Rat) / (sec 1 : Rat)) [word s.time.holdSrc, word (s.time.holdE0 / 65536)]
  else s

/-- Confirmation of a discontinuity (R51, detector 20): DISCONT, the event, the confirmed offset and source, and the Sillage event. -/
def State.confirmDiscont (s : State) (offset : Int) (src : Nat) : State :=
  let s1 := ((s.setServo .discont).status Reg.TB_STAT 4).detect 20 s.time.suspInj ((offset.natAbs : Rat) / 65536)
    ([word src] ++ int64Words (offset / 65536) ++ [word (servoCode s.time.servo)])
  s1.setTime (fun t => { t with confirmed := some (offset, src), suspRun := 0 })

/-- A measurement in ACQUIRE or LOCKED after the first-lock step (R50, Table 2-5); one whose sentence is out of sequence is suspect too, since
the source has jumped (R40). While an injection adds to it, the servo does not take it (R533). -/
def State.measureTracking (s : State) (offset : Int) (src : Nat) (jumped added inj : Bool) : State :=
  if jumped || decide (s.stepThresh * ticksPerNs < offset.natAbs) then
    let neg := decide (offset < 0)
    let s1 := if decide (0 < s.time.suspRun) && s.time.suspNeg != neg then s.endSuspectRun else s
    let s2 := s1.setTime (fun t => { t with
      suspInj := if t.suspRun = 0 then inj else t.suspInj && inj
      suspRun := t.suspRun + 1, suspNeg := neg, lockRun := 0 })
    if s2.discConfirm ≤ s2.time.suspRun then s2.confirmDiscont offset src else s2
  else
    let s1 := if added then s.endSuspectRun else s.endSuspectRun.servoLoop offset
    if s1.time.servo == .acquire then
      if offset.natAbs < s1.lockNs * ticksPerNs then
        let n := s1.time.lockRun + 1
        if 8 ≤ n then s1.setServo .locked else s1.setTime (fun t => { t with lockRun := n })
      else s1.setTime (fun t => { t with lockRun := 0 })
    else s1

/-- A measurement in DISCONT (R52): the offset below the threshold for `confirm` measurements ends it. -/
def State.measureDiscont (s : State) (offset : Int) (jumped added : Bool) : State :=
  let s1 := if added then s else s.servoSlew offset
  if !jumped && decide (offset.natAbs < s1.stepThresh * ticksPerNs) then
    let n := s1.time.calmRun + 1
    if s1.discConfirm ≤ n then s1.setServo .acquire else s1.setTime (fun t => { t with calmRun := n })
  else s1.setTime (fun t => { t with calmRun := 0 })

/-! ### UTC (R29) -/

/-- The TAI − UTC offset taken from the current source. -/
def State.takeUtc (s : State) (off : BitVec 8) : State :=
  (s.setRf Reg.TB_UTC_CTL 7 0 off.toNat).setTime (fun t => { t with utcWritten := true })

/-- The instant at which a leap second announced for the end of the current UTC day has taken place (R29): the end of the second inserted
after 23:59:59, or the instant after 23:59:58 where one is deleted. `tai` is the present second of module time. -/
def leapEnd (tai : Nat) (off dir : Int) : Instant := sec ((((tai : Int) - off) / 86400 + 1) * 86400 + off + dir).toNat

/-- The leap second that the current source announces, or its announcement withdrawn; one already pending keeps its end (R29). -/
def State.takeLeap (s : State) (tai : Nat) (off dir : Int) : State :=
  if dir = 0 then s.setTime (fun t => { t with leap := none })
  else match s.time.leap with
    | some (d, t) => if d = dir && decide (s.now < t) then s else s.setTime (fun x => { x with leap := some (dir, leapEnd tai off dir) })
    | none => s.setTime (fun x => { x with leap := some (dir, leapEnd tai off dir) })

/-! ### PTP ports -/

def State.ptpPort (s : State) (p : Nat) : PtpPort := (s.time.ptp[p]?).getD (freshPtpPort false (profileDS .default1588) 0)

def State.updPtp (s : State) (p : Nat) (f : PtpPort → PtpPort) : State :=
  s.setTime (fun t => { t with ptp := updAt t.ptp p f })

/-! ### What a phase source gave (R34, R38, R40, R42) -/

/-- TB_PORT_ASYM in ticks (R34). PRESUMED (assumption 108): positive where the way from the master is the longer one, as in IEEE 1588. -/
def State.portAsym (s : State) (p : Nat) : Int := signed 16 (s.rf (Reg.TB_PORT_ASYM p) 15 0) * 65536 / 1000

/-- The time a phase source gave and that is not yet measured: the stamp in module time, the source's time at that stamp, and whether its
sentence is out of sequence. -/
def State.srcSample (s : State) (c : Nat) : Option (Instant × Int × Bool) :=
  if c = 10 then s.time.todRef.map (fun r => (r.1, ((sec r.2.1 : Nat) : Int), r.2.2))
  else if c = 11 then s.time.irigLast.map (fun r => (r.1, ((sec r.2 : Nat) : Int), false))
  else match s.time.ptp[c]? with
    | some p =>
      if p.syncNew then p.lastSync.map (fun x => (x.2, (x.1 : Int) + (p.pathDelay : Int) + s.portAsym c, false)) else none
    | none => none

/-- A sample measured: it counts once. -/
def State.usedSample (s : State) (c : Nat) : State :=
  s.setTime (fun t =>
    if c = 10 then { t with todRef := none }
    else if c = 11 then { t with irigLast := none }
    else { t with ptp := updAt t.ptp c (fun p => { p with syncNew := false }) })

/-- What stands in stamps of the old module time is dropped at a step. -/
def State.dropSamples (s : State) : State :=
  s.setTime (fun t => { t with
    ppsStamp := none, todRef := none, irigLast := none, irigEdges := []
    ptp := t.ptp.map (fun p => { p with
      syncNew := false, lastSync := none, pendSync := none, pdelayTx := none, pdelayRx := none, delayTx := none }) })

/-! ### Compare units (R71) -/

/-- The 40-bit target in the registers of a compare unit. -/
def State.cmpRegTarget (s : State) (n : Nat) : Nat :=
  (s.reg (Reg.TB_CMP_TGT_LO n)).toNat + 2 ^ 32 * s.rf (Reg.TB_CMP_TGT_HI n) 7 0

/-- Whether a target is already reached: the signed difference now − target is zero or positive (R28, R71). -/
def State.cmpReached (s : State) (target : Nat) : Bool := decide (0 ≤ fineDiff (fineOf s.now) target)

/-- The instant at which an armed unit's target is reached, at the present or later. -/
def State.cmpDue (s : State) (n : Nat) : Instant :=
  let tgt := (s.time.cmpTgt[n]?).getD 0
  if s.cmpReached tgt then s.now
  else (s.now / 65536 + (fineDiff tgt (fineOf s.now)).toNat) * 65536

/-- Whether a TRIG_OUT land is held by a compare pulse. -/
def State.cmpPulsing (s : State) (land : Nat) : Bool :=
  s.time.cmpPulse.any (fun l => l.any (fun x => x.1 == land))

/-- A compare unit's pulse on a land starts, or starts anew, for 1 µs (R71). -/
def State.pulseCompare (s : State) (n land : Nat) : State :=
  s.setTime (fun t => { t with
    cmpPulse := updAt t.cmpPulse n (fun l => l.filter (fun x => x.1 != land) ++ [(land, t.up + us 1)]) })

/-! ### Stamps (R62 to R66, R576) -/

def State.tdcOf (s : State) (n : Nat) : Tdc := (s.time.tdc[n]?).getD noTdc

def State.updTdc (s : State) (n : Nat) (f : Tdc → Tdc) : State :=
  s.setTime (fun t => { t with tdc := updAt t.tdc n f })

/-- An edge at converter `n` (R62, R63): lost while the converter is blind; else stamped in steps of 1/128 ns, and on TDC0
to TDC3 queued, or dropped and counted where the queue holds 16. The stamp where the edge was accepted. DESIGN CHOICE (assumption 110): the
stamps dropped at a full queue are counted in TB_TDCn_STAT.lost, the one counter of the converter. -/
def State.stampEdge (s : State) (n : Nat) : State × Option Instant :=
  let c := s.tdcOf n
  let stat := Reg.TB_TDC_STAT n
  if s.up < c.blind then (s.countFld stat 15 0 1, none)
  else
    let t := s.now / 512 * 512
    let s1 := s.updTdc n (fun c => { c with last := some t, fresh := true, blind := s.up + ns 20 })
    if n < 4 then
      if c.queue.length < 16 then (s1.updTdc n (fun c => { c with queue := c.queue ++ [t] }), some t)
      else (((s1.countFld stat 15 0 1).setRb stat 31 true).status Reg.TB_STAT 3, some t)
    else (s1, some t)

/-- The four words of a stamp, with valid in bit 31 of the first (R576). -/
def stampWords (t : Instant) : List Word :=
  [putBit 31 true ||| word (fracOf t), word (nsecOf t), word (secsOf t), word (secsOf t / 2 ^ 32)]

/-- The three words after the first of a converter's stamp registers, stored. -/
def State.copyStamp (s : State) (n : Nat) (t : Instant) : State :=
  (((s.setReg (Reg.TB_TDC_STAMP0 n) (word (fracOf t))).setReg (Reg.TB_TDC_STAMP1 n) (word (nsecOf t))).setReg
    (Reg.TB_TDC_STAMP2 n) (word (secsOf t))).setReg (Reg.TB_TDC_STAMP3 n) (word (secsOf t / 2 ^ 32))

/-- A read of TB_TDCn_STAMP's first word (R576): the value, and the state after. -/
def State.readTdc (s : State) (n : Nat) : Word × State :=
  let c := s.tdcOf n
  if n < 4 then
    match c.queue with
    | t :: rest => (putBit 31 true ||| word (fracOf t), (s.copyStamp n t).updTdc n (fun c => { c with queue := rest }))
    | [] => (s.reg (Reg.TB_TDC_STAMP0 n), s)
  else
    match c.last with
    | some t => (putBit 31 c.fresh ||| word (fracOf t), (s.copyStamp n t).updTdc n (fun c => { c with fresh := false }))
    | none => (s.reg (Reg.TB_TDC_STAMP0 n), s)

/-- A transmit timestamp queued for a port, or dropped and counted where 64 wait (R64, R65). -/
def State.queueTxStamp (s : State) (p : Nat) (frameId : BitVec 16) (at_ : Instant) : State :=
  let q := (s.time.txts[p]?).getD []
  let stat := Reg.TB_TXTS_STAT p
  if q.length < 64 then
    s.setTime (fun t => { t with txts := updAt t.txts p (· ++ [⟨frameId, at_, t.epoch.getLsbD 0⟩]) })
  else (s.countFld stat 15 0 1).setRb stat 31 true

/-- A read of TB_TXTS_ID (R66): the oldest entry removed and copied into the companion registers; valid 0 and the copy
unchanged where the queue is empty. -/
def State.readTxts (s : State) (p : Nat) : Word × State :=
  match (s.time.txts[p]?).getD [] with
  | [] => (put 19 16 p, s)
  | e :: rest =>
    let s1 := ((s.setReg (Reg.TB_TXTS_NS p) (word (nsecOf e.at_))).setReg (Reg.TB_TXTS_SEC_LO p) (word (secsOf e.at_))).setReg
      (Reg.TB_TXTS_SEC_HI p) (word (secsOf e.at_ / 2 ^ 32))
    (putBit 31 true ||| putBit 30 e.epochLsb ||| put 19 16 p ||| put 15 0 e.frameId.toNat,
     s1.setTime (fun t => { t with txts := updAt t.txts p (fun _ => rest) }))

/-- A read of TB_NOW_FRAC latches the other three words of module time (R70). -/
def State.readNow (s : State) : Word × State :=
  (word (fracOf s.now),
   ((s.setReg Reg.TB_NOW_NS (word (nsecOf s.now))).setReg Reg.TB_NOW_SEC_LO (word (secsOf s.now))).setReg
     Reg.TB_NOW_SEC_HI (word (secsOf s.now / 2 ^ 32)))

/-- A read of TB_FINE_LO latches bits 39:32 of fine time (R70). -/
def State.readFine (s : State) : Word × State :=
  (word (fineOf s.now), s.setReg Reg.TB_FINE_HI (word (fineOf s.now / 2 ^ 32)))

/-! ### Time outputs (R41, R61) -/

/-- Whether PPS_OUT is driven: enabled, and in FREERUN and ACQUIRE only with pps_free. -/
def State.ppsAllowed (s : State) : Bool :=
  s.rb Reg.TB_CTL 2 && (match s.time.servo with
    | .freerun => s.rb Reg.TB_OUT_CTL 9
    | .acquire => s.rb Reg.TB_OUT_CTL 9
    | _ => true)

/-- The next whole second of module time after the last PPS_OUT second, at the present or later. -/
def State.nextSecond (s : State) : Instant :=
  let t := ceilSec s.now
  if s.time.ppsOutLast == some t then t + sec 1 else t

/-- The decimal digits of a number as ASCII. -/
def decimal : Nat → Nat → List (BitVec 8)
  | 0, _ => []
  | fuel + 1, n => if n < 10 then [BitVec.ofNat 8 (48 + n)] else decimal fuel (n / 10) ++ [BitVec.ofNat 8 (48 + n % 10)]

/-- One upper-case hexadecimal digit. -/
def hexDigit (n : Nat) : BitVec 8 := BitVec.ofNat 8 (if n < 10 then 48 + n else 55 + n)

/-- A signed number in decimal. -/
def decimalInt (v : Int) : List (BitVec 8) :=
  if v < 0 then BitVec.ofNat 8 45 :: decimal 20 v.natAbs else decimal 20 v.natAbs

/-- The characters of an ASCII text. -/
def ascii (t : String) : List (BitVec 8) := t.toList.map (fun c => BitVec.ofNat 8 c.toNat)

/-- The src letter of Table 2-4. -/
def State.todSource (s : State) : BitVec 8 :=
  match s.time.servo with
  | .holdover => 72#8
  | .freerun => 70#8
  | _ => if s.time.current < 10 then 80#8 else if s.time.current = 11 then 73#8 else if s.time.current = 10 then 71#8 else 70#8

/-- The sentence of Table 2-4 for a PPS_OUT edge, with its carriage return and line feed (R39). -/
def State.todSentence (s : State) (edge : Instant) : List (BitVec 8) :=
  let comma : List (BitVec 8) := [44#8]
  let leap : BitVec 8 := match s.time.leap with
    | some (d, _) => if 0 < d then 43#8 else 45#8
    | none => 48#8
  let body := ascii "BGTOD," ++ decimal 20 (secsOf edge) ++ comma ++ decimalInt s.utcOffset ++ comma ++ [leap] ++ comma ++
    [hexDigit (fracTimeCode (s.time.servo == .locked) s.timeError)] ++ comma ++ [s.todSource]
  let cs := (body.foldl (fun a b => a ^^^ b) 0#8).toNat
  [36#8] ++ body ++ [42#8, hexDigit (cs / 16), hexDigit (cs % 16), 13#8, 10#8]

/-! ### Reading a time-of-day sentence (R39, R40) -/

/-- A list cut at every occurrence of a character. -/
def splitAt (sep : BitVec 8) : List (BitVec 8) → List (List (BitVec 8))
  | [] => [[]]
  | c :: rest =>
    match splitAt sep rest with
    | [] => [[c]]
    | w :: ws => if c = sep then [] :: w :: ws else (c :: w) :: ws

/-- The number a string of decimal digits spells. -/
def readDecimal (l : List (BitVec 8)) : Option Nat :=
  if l.isEmpty then none
  else l.foldl (fun acc c => match acc with
    | none => none
    | some n => if 48 ≤ c.toNat && c.toNat ≤ 57 then some (n * 10 + (c.toNat - 48)) else none) (some 0)

/-- The number a signed decimal spells. -/
def readSigned : List (BitVec 8) → Option Int
  | [] => none
  | c :: rest =>
    if c = 45#8 then (readDecimal rest).map (fun n => -(n : Int))
    else if c = 43#8 then (readDecimal rest).map (fun n => (n : Int))
    else (readDecimal (c :: rest)).map (fun n => (n : Int))

/-- Whether a tq field is one of Table 2-4: 0, 1 to B, or F. -/
def todQualOk (l : List (BitVec 8)) : Bool := (ascii "0123456789ABF").any (fun c => l == [c])

/-- Whether a src field is one of Table 2-4. -/
def todSrcOk (l : List (BitVec 8)) : Bool := (ascii "GPIHF").any (fun c => l == [c])

/-- The fields of a well-formed sentence (R39): sec, utc, leap and tq; none where the form or the checksum fails. -/
def readTod (chars : List (BitVec 8)) : Option (Nat × Int × Int × BitVec 8) :=
  match chars with
  | 36#8 :: rest =>
    match splitAt 42#8 rest with
    | [body, cs] =>
      let x := (body.foldl (fun a b => a ^^^ b) 0#8).toNat
      if cs = [hexDigit (x / 16), hexDigit (x % 16)] && decide (chars.length ≤ 62) then
        match splitAt 44#8 body with
        | [tag, sc, utc, leap, tq, src] =>
          if tag = ascii "BGTOD" && decide (sc.length ≤ 15) && (sc.length == 1 || sc[0]? != some 48#8) && todQualOk tq && todSrcOk src then
            match readDecimal sc, readSigned utc with
            | some n, some u =>
              let q := (tq[0]?).getD 48#8
              if leap = [48#8] then some (n, u, 0, q)
              else if leap = [43#8] then some (n, u, 1, q)
              else if leap = [45#8] then some (n, u, -1, q) else none
            | _, _ => none
          else none
        | _ => none
      else none
    | _ => none
  | _ => none

/-! ### Reading the time base's own registers -/

/-- The fields of the time-base registers that are read from the state (Tables 2-11, 2-13, 2-17). -/
def State.timeView (s : State) (a : Nat) : Word :=
  let t := s.time
  if a = Reg.TB_STAT then putBit 7 t.restep.isSome ||| putBit 6 s.aon.comp.inUse ||| put 2 0 (servoCode t.servo)
  else if a = Reg.TB_EPOCH then t.epoch
  else if a = Reg.TB_NOW_FRAC then word (fracOf t.now)
  else if a = Reg.TB_FINE_LO then word (fineOf t.now)
  else if a = Reg.TB_SRC_STAT then
    ((upto 8).foldl (fun w c => w ||| putBit c (s.srcQual c).qualified) 0#32) |||
    ((upto 5).foldl (fun w c => w ||| putBit (24 + c) (s.srcQual (8 + c)).qualified) 0#32)
  else if a = Reg.TB_RATE_LO then word (unsign 40 t.rate)
  else if a = Reg.TB_RATE_HI then word (unsign 40 t.rate / 2 ^ 32)
  else if a = Reg.TB_DISC_STAT then putBit 31 (decide (0 < t.suspRun))
  else if a = Reg.TB_OFFSET then word (unsign 32 (t.offset / 65536))
  else
    match (upto 6).find? (fun n => a == Reg.TB_TDC_STAT n) with
    | some n => put 20 16 (s.tdcOf n).queue.length
    | none =>
      match (upto 10).find? (fun p => a == Reg.TB_TXTS_STAT p) with
      | some p => put 22 16 ((t.txts[p]?).getD []).length
      | none => 0#32

end Sys2Proof.Machine
end

