-- ==== Sys2Proof/Machine/StreamOps.lean ====
section
/-! DEFINITION. The stream table (chapter 04): entries and their fields (Table 4-2), the checks on writing one (R119, R122, R126,
R127), and finding the entry of a key. -/

namespace Sys2Proof.Machine

def State.setIng (s : State) (f : IngressPart → IngressPart) : State := { s with ing := f s.ing }

/-- Word `w` of entry `e`; every entry word reads zero until it is written. -/
def State.sw (s : State) (e w : Nat) : Word := fetch (fun _ => 0#32) s.ing.table (8 * e + w)

def State.setSw (s : State) (e w : Nat) (v : Word) : State :=
  s.setIng (fun g => { g with table := store (fun _ => 0#32) g.table (8 * e + w) v })

/-- The eight words of an entry. -/
def State.entryWords (s : State) (e : Nat) : List Word := (upto 8).map (s.sw e)

/-- The bits of word `w` of an entry that Table 4-2 gives a meaning, by the entry's kind; the others are reserved and read as zero (R8).
Kind 3, which no valid entry has, is laid out as kinds 1 and 2. -/
def entryMask (kind w : Nat) : Word :=
  if kind = 0 then
    match w with
    | 0 => 0xFFFFC000#32
    | 3 => 0x03FFFFFF#32
    | 4 => 0x0FFFFFFF#32
    | 5 => 0x03FFFFFF#32
    | 6 => 0x00FFFFFF#32
    | 7 => 0x000FFFFF#32
    | _ => 0xFFFFFFFF#32
  else
    match w with
    | 0 => 0xFFFF3800#32
    | 4 => 0#32
    | 5 => 0x03FF0007#32
    | 6 => 0xFF000000#32
    | _ => 0xFFFFFFFF#32

/-- An entry written, its reserved bits ignored (R8). -/
def State.setEntry (s : State) (e : Nat) (words : List Word) : State :=
  let kind := fld ((words[0]?).getD 0#32) 27 26
  (upto 8).foldl (fun s w => s.setSw e w ((words[w]?).getD 0#32 &&& entryMask kind w)) s

/-! ### Fields of Table 4-2 -/

def wValid (w0 : Word) : Bool := bit w0 31
def wState (w0 : Word) : Nat := fld w0 30 28
def wKind (w0 : Word) : Nat := fld w0 27 26

/-- SV rates of codes 0 to 4, in samples/s. -/
def svRate : Nat → Nat
  | 0 => 4000
  | 1 => 4800
  | 2 => 12800
  | 3 => 14400
  | 4 => 15360
  | _ => 0

/-- The entries listed with their first word, rising. -/
def State.firstWords (s : State) : List (Nat × Word) :=
  (s.ing.table.filter (fun p => p.1 % 8 == 0)).map (fun p => (p.1 / 8, p.2))

/-- The valid entries, rising. -/
def State.validEntries (s : State) : List Nat := (s.firstWords.filter (fun p => wValid p.2)).map (·.1)

/-- Whether an entry is a key entry: SV and R-SV, or C37.118.2 with cont 0. -/
def isKeyEntry (w0 : Word) : Bool := wKind w0 != 0 || !bit w0 15

/-- The key that an entry's words spell (R122). -/
def keyOf (ws : List Word) : StreamKey :=
  let w (i : Nat) : Word := (ws[i]?).getD 0#32
  let kind := wKind (w 0)
  { kind := if kind = 1 then 1 else if kind = 2 then 2 else 0
    src := if kind = 1 then BitVec.ofNat 48 (fld (w 2) 31 16 * 2 ^ 32 + (w 1).toNat) else BitVec.ofNat 48 (w 1).toNat
    port := if kind = 1 then 0#16 else BitVec.ofNat 16 (fld (w 2) 31 16)
    id := BitVec.ofNat 16 (fld (w 2) 15 0)
    svId := if kind = 0 then 0#32 else w 3 }

/-- The words 1 to 3 of an entry with a key. -/
def keyWords (k : StreamKey) : Word × Word × Word :=
  (word k.src.toNat,
   put 31 16 (if k.kind = 1 then k.src.toNat / 2 ^ 32 else k.port.toNat) ||| put 15 0 k.id.toNat,
   if k.kind = 0 then 0#32 else k.svId)

/-- The valid key entry of a key. -/
def State.findKey (s : State) (k : StreamKey) : Option Nat :=
  (s.firstWords.find? (fun p => wValid p.2 && isKeyEntry p.2 && keyOf (s.entryWords p.1) == k)).map (·.1)

/-- The entries of a stream: its key entry and the continuation entries after it (R120). -/
def State.streamEntries (s : State) (e : Nat) : List Nat :=
  e :: ((upto 1023).map (fun i => e + 1 + i)).takeWhile (fun j =>
    wValid (s.sw j 0) && wKind (s.sw j 0) == 0 && bit (s.sw j 0) 15 && wKind (s.sw e 0) == 0)

/-- The channel range of a C37.118.2 entry: base and span (word 4). -/
def chanRange (w4 : Word) : Nat × Nat := (fld w4 17 0, fld w4 27 18)

/-- The first local index of the range reserved for estimated channels (R146). -/
def estimatedBase : Nat := 237568

/-- Whether two ranges of indices share one. -/
def overlaps (a b : Nat × Nat) : Bool := decide (a.1 < b.1 + b.2) && decide (b.1 < a.1 + a.2)

/-- Why a write of entry `e` is refused, as ING_TBL_CMD.err reports it (Table 4-11): 5 kind or rate, 1 key, 3 SV limit, 2 channel
range, 6 sv_slot; 0 where it is not. A write of an entry that is not valid is never refused. -/
def State.entryErr (s : State) (e : Nat) (ws : List Word) : Nat :=
  let w (i : Nat) : Word := (ws[i]?).getD 0#32
  if !wValid (w 0) then 0
  else
    let kind := wKind (w 0)
    let sv := kind == 1 || kind == 2
    let others := s.validEntries.filter (fun j => j != e)
    let otherSv := others.filter (fun j => wKind (s.sw j 0) != 0)
    if kind = 3 || (sv && decide (4 < fld (w 5) 2 0)) then 5
    else if isKeyEntry (w 0) && others.any (fun j => isKeyEntry (s.sw j 0) && keyOf (s.entryWords j) == keyOf ws) then 1
    else if sv && (decide (1024 ≤ otherSv.length) ||
        decide (40000000 < 8 * (svRate (fld (w 5) 2 0) + total (otherSv.map (fun j => svRate (fld (s.sw j 5) 2 0)))))) then 3
    else if kind = 0 && (decide (262144 < (chanRange (w 4)).1 + (chanRange (w 4)).2) ||
        overlaps (chanRange (w 4)) (estimatedBase, 24576) ||
        others.any (fun j => wKind (s.sw j 0) == 0 && overlaps (chanRange (w 4)) (chanRange (s.sw j 4)))) then 2
    else if sv && otherSv.any (fun j => fld (s.sw j 5) 25 16 == fld (w 5) 25 16) then 6
    else 0

/-- The status that a command gives for a refused entry (R119, R122, R126, R127, Table 4-7). -/
def entryStatus : Nat → Nat
  | 1 => 0x0410
  | 2 => 0x0411
  | 3 => 0x0413
  | 6 => 0x0414
  | _ => 0x0103

/-- The valid SV or R-SV entry whose sv_slot is a slot (R145). -/
def State.slotEntry (s : State) (slot : Nat) : Option Nat :=
  s.validEntries.find? (fun j => wKind (s.sw j 0) != 0 && fld (s.sw j 5) 25 16 == slot)

/-! ### What the firmware keeps for a stream -/

def freshFw : StreamFw := ⟨false, false, false, none, none, false, none, none, none, []⟩

def State.fw (s : State) (e : Nat) : StreamFw := (lookup s.ing.fw e).getD freshFw

def State.setFw (s : State) (e : Nat) (f : StreamFw → StreamFw) : State :=
  s.setIng (fun g => { g with fw := setKey g.fw e (f ((lookup g.fw e).getD freshFw)) })

/-- The last header frame of a stream is kept, at most 1 KiB of it (Table 4-1, Table 4-6). -/
def State.keepHeader (s : State) (f : C37Frame) : State :=
  let id := BitVec.ofNat 16 (beNat ((f.bytes.drop 4).take 2))
  match s.findKey ⟨0, BitVec.ofNat 48 f.srcIp.toNat, f.dstPort, id, 0#32⟩ with
  | some e => s.setFw e (fun x => { x with header := f.bytes.take 1024 })
  | none => s

end Sys2Proof.Machine
end

