-- ==== Sys2Proof/Machine/EstimationOps.lean ====
section
/-! DEFINITION. Operations of phasor estimation (chapter 05): profiles and their delays, the tables, restarts, the chain, and
thresholds. -/

namespace Sys2Proof.Machine

def State.setPec (s : State) (f : PecPart → PecPart) : State := { s with pec := f s.pec }

/-- A counter of Table 5-13 by its position. -/
def State.pecCount (s : State) (i n : Nat) : State := s.count (Reg.PEC_CNT i) n

/-! ### Profiles (R157 to R159, Tables 5-4 and 5-5) -/

/-- The reporting rates by code, in the order of Table 1-3. -/
def rateOf : Nat → Nat
  | 0 => 10
  | 1 => 12
  | 2 => 15
  | 3 => 20
  | 4 => 25
  | 5 => 30
  | 6 => 50
  | 7 => 60
  | 8 => 100
  | 9 => 120
  | 10 => 200
  | 11 => 240
  | _ => 0

/-- The window length W in nominal cycles (R154, Table 5-4); 0 where the class does not offer the rate. -/
def windowCycles (is60 mclass : Bool) (fr : Nat) : Nat :=
  if !mclass then 2
  else if is60 then
    (if fr = 10 then 24 else if fr = 12 then 20 else if fr = 15 then 16 else if fr = 20 then 12 else if fr = 30 then 8
     else if fr = 60 then 4 else if fr = 120 then 3 else 0)
  else
    (if fr = 10 then 20 else if fr = 20 then 10 else if fr = 25 then 8 else if fr = 50 then 4 else if fr = 100 then 3 else 0)

/-- A profile as a slot word gives it, with the SV rate of the slot's entry and the number of taps of its FIR. -/
structure Profile where
  is60   : Bool
  mclass : Bool
  fr     : Nat
  d      : Nat
  r      : Nat
  taps   : Nat
deriving DecidableEq, Repr

def Profile.f0 (p : Profile) : Nat := if p.is60 then 60 else 50

def Profile.fd (p : Profile) : Nat := p.r / p.d

/-- The order N of the class filter (R154). -/
def Profile.n (p : Profile) : Nat := windowCycles p.is60 p.mclass p.fr * p.fd / p.f0

/-- Whether a profile is supported (R149, R151, R157). -/
def Profile.supported (p : Profile) : Bool :=
  (if p.is60 then [10, 12, 15, 20, 30, 60, 120, 240] else [10, 20, 25, 50, 100, 200]).contains p.fr &&
  (!p.mclass || decide (p.fr ≤ if p.is60 then 120 else 100)) &&
  decide (2 ≤ p.d) && decide (p.d ≤ 64) && decide (0 < p.taps) &&
  p.r % p.d == 0 && decide (1200 ≤ p.fd) && decide (p.fd ≤ 3200) && p.fd % p.fr == 0 && p.fd % (4 * p.f0) == 0

/-- Twice the front delay F in input samples: 5 × (D − 1) + (T − 1) × D (R159). -/
def Profile.front2 (p : Profile) : Nat := 5 * (p.d - 1) + (p.taps - 1) * p.d

/-- Twice δ in input samples: 0 where the front delay is a whole number of samples, else 1 (R159). -/
def Profile.delta2 (p : Profile) : Nat := p.front2 % 2

/-- The front delay plus δ in input samples, a whole number: how far the end of a decimated sample lies after the instant it stands
for, less δ. -/
def Profile.lag (p : Profile) : Nat := (p.front2 + p.delta2) / 2

/-- q in input samples (R156). -/
def Profile.qSamples (p : Profile) : Nat := p.r / (4 * p.f0)

/-- Half the class filter in input samples: C × r (R159). -/
def Profile.half (p : Profile) : Nat := p.n / 2 * p.d

/-- Input samples from tc to the last sample of its span. -/
def Profile.ahead (p : Profile) : Nat := p.lag + p.half + p.qSamples

/-- Input samples from the first sample of the span of tc to tc: G + q − δ. -/
def Profile.behind (p : Profile) : Nat := p.front2 - p.lag + p.half + p.qSamples

/-- The Drydown length: ceil((G + q − δ) × Fr) (R168). -/
def Profile.drydown (p : Profile) : Nat := ceilDiv (p.behind * p.fr) (max 1 p.r)

/-- The group delay G in ns, rounded down (R159). -/
def Profile.groupNs (p : Profile) : Nat := (p.front2 + 2 * p.half) * 1000000000 / (2 * max 1 p.r)

/-- The default front end of an SV rate (Table 5-5): D and the profile of bank A. -/
def defaultFront (r : Nat) : Nat × Nat :=
  if r = 12800 then (8, 2) else if r = 14400 then (6, 1) else if r = 15360 then (8, 2) else (2, 0)

/-! ### The tables (R183, R184, Table 5-17) -/

/-- Table 5-3: a default profile from its centre tap outward, listed from one end to the other. -/
def mirrored (l : List Int) : List Int := l.reverse ++ l.drop 1

/-- The profiles at power-up (R152). -/
def defaultTaps (key : Nat) : List Int :=
  if key = 0 then mirrored [4689232, -209715, -41943, 4194]
  else if key = 1 then mirrored [5083496, -335544, -146801, 52429, -20972, 8389, -3146, 1049]
  else if key = 2 then mirrored [5972688, -671089, -293601, 104858, -41943, 16777, -6291, 2097]
  else []

/-- The taps of a profile, under key 16 × bank + profile. -/
def State.taps (s : State) (bank : Bool) (prof : Nat) : List Int := fetch defaultTaps s.pec.profiles (16 * bank.toNat + prof)

/-- Entries in each of the four tables (R184). -/
def pecEntries : Nat → Nat
  | 0 => 1024
  | 1 => 8192
  | 2 => 24576
  | 3 => 544
  | _ => 0

def pecKey (t i w : Nat) : Nat := 2 ^ 18 * t + 8 * i + w

/-- What an unwritten table word holds at power-up: hold_max 4 in slot words, Table 5-3 in bank A, zero elsewhere. -/
def pecDflt (key : Nat) : Word :=
  let t := key / 2 ^ 18
  let i := key % 2 ^ 18 / 8
  let w := key % 8
  if t = 0 then (if w = 0 then put 9 4 4 else 0#32)
  else if t = 3 then
    let taps := defaultTaps (i / 17)
    if i % 17 = 0 then (if w = 0 then word taps.length else 0#32)
    else put 23 0 (unsign 24 ((taps[8 * (i % 17 - 1) + w]?).getD 0))
  else 0#32

/-- A table word. -/
def State.pw (s : State) (t i w : Nat) : Word := fetch pecDflt s.pec.table (pecKey t i w)

def State.setPw (s : State) (t i w : Nat) (v : Word) : State :=
  s.setPec (fun p => { p with table := store pecDflt p.table (pecKey t i w) v })

/-- The writable bits of a table word. -/
def pecMask (t i w : Nat) : Word :=
  match t, w with
  | 0, 0 => 0x1FFF7FF0#32 &&& ~~~(0x8000#32)
  | 0, 1 => 0x1FFF#32
  | 1, 0 => 0xFFFFFFFF#32
  | 1, 1 => 0x8000001F#32
  | 2, 0 => 0xFFFFFFFF#32
  | 2, 1 => 0xFFFFFFFF#32
  | 2, 2 => 0xFFFFFFFF#32
  | 2, 3 => 0x0000FF03#32
  | 3, _ => if i % 17 = 0 then (if w = 0 then 0xFF#32 else 0#32) else 0x00FFFFFF#32
  | _, _ => 0#32

/-! ### Slots -/

def State.slot (s : State) (i : Nat) : PecSlot := fetch (fun _ => idleSlot) s.pec.slots i

def State.updSlot (s : State) (i : Nat) (f : PecSlot → PecSlot) : State :=
  s.setPec (fun p => { p with slots := store (fun _ => idleSlot) p.slots i (f (fetch (fun _ => idleSlot) p.slots i)) })

/-- The SV rate of the slot's entry; 0 where no valid entry holds the slot. -/
def State.slotRate (s : State) (i : Nat) : Nat :=
  match s.slotEntry i with
  | some e => svRate (fld (s.sw e 5) 2 0)
  | none => 0

/-- The profile a slot word spells, for an SV rate and a bank. -/
def State.profileOf (s : State) (w0 : Word) (bank : Bool) (r : Nat) : Profile :=
  ⟨bit w0 28, bit w0 27, rateOf (fld w0 26 23), fld w0 22 16, r, (s.taps bank (fld w0 14 11)).length⟩

/-- The profile of the running history of a slot. -/
def State.curProfile (s : State) (i : Nat) : Profile := s.profileOf (s.slot i).cur (s.slot i).curBank (s.slotRate i)

/-- The enabled inputs of a slot, 0 to 7. -/
def State.enabledInputs (s : State) (i : Nat) : List Nat := (upto 8).filter (fun k => bit (s.pw 1 (8 * i + k) 1) 31)

/-- The first whole second at least 10 ms after an instant (Table 5-8). -/
def restartSecond (t : Instant) : Instant := ceilSec (t + ms 10)

/-- A restart added to those that wait, in order of their t0 (Table 5-8). A slot that is IDLE has none. -/
def State.schedRestart (s : State) (i : Nat) (p : PendRestart) : State :=
  if (s.slot i).st = .idle then s
  else s.updSlot i (fun x => { x with pend := sortBy (fun a b => decide (a.t0 ≤ b.t0)) (x.pend ++ [p]) })

/-- The slots that hold a restart, run, dry down or stand in a gap. -/
def State.busySlots (s : State) : List Nat := (s.pec.slots.filter (fun p => p.2.st != .idle)).map (·.1)

/-- Every slot that is not IDLE restarts at an instant. -/
def State.restartAll (s : State) (t0 : Instant) : State := s.busySlots.foldl (fun s i => s.schedRestart i ⟨t0, none, none⟩) s

/-- The threshold counters of a slot's channels cleared; the states stay (R178). -/
def State.clearThrCounters (s : State) (i : Nat) : State :=
  s.setPec (fun p => { p with thr := (upto 24).foldl (fun l n =>
    let c := n / 8 * 8192 + 8 * i + n % 8
    store (fun _ => ⟨0, 0, 0, 0⟩) l c { (fetch (fun _ => ⟨0, 0, 0, 0⟩) l c) with nUp := 0, nDn := 0, nClr := 0 }) p.thr })

/-- The slot word in force: that of a restart whose first sample has not come, else that of the running history, else the table's. -/
def State.wordInForce (s : State) (i : Nat) : Word :=
  let x := s.slot i
  match x.bound with
  | some b => b.w0.getD x.cur
  | none => if x.running || x.st == .gap then x.cur else s.pw 0 i 0

/-- A restart at its t0 (R166, R168, R171): a running cross-fade ends with its target in force, a held swap is taken, and the slot
enters Drydown; its new history begins with the first sample at or after t0. -/
def State.takeRestart (s : State) (i : Nat) (p : PendRestart) : State :=
  let x := s.slot i
  let b0 := if x.xf.isSome then !x.bank else x.bank
  let b1 := if x.held then !b0 else b0
  let b := p.bank.getD b1
  let w0 := p.w0.getD (s.wordInForce i)
  let prof := s.profileOf w0 b (s.slotRate i)
  let s1 := s.updSlot i (fun x => { x with
    st := if prof.drydown = 0 then .run else .drydown
    bank := b, held := false, xf := none, t0 := p.t0, restarts := x.restarts + 1#16, gapEnd := false, wasReset := false, dryLeft := prof.drydown
    xfEnd := if x.xf.isSome then fineOf s.now else x.xfEnd
    bound := some ⟨p.t0, some w0, some b⟩ })
  let s2 := if x.xf.isSome then s1.status Reg.PEC_STAT 2 else s1
  ((s2.clearThrCounters i).pecCount 6 1).status Reg.PEC_STAT 0

/-- Every restart of a slot whose t0 is not after an instant, in order. -/
def State.takeDue (s : State) (i : Nat) (t : Instant) : State :=
  ((s.slot i).pend.filter (fun p => decide (p.t0 ≤ t))).foldl (fun s p => s.takeRestart i p)
    (s.updSlot i (fun x => { x with pend := x.pend.filter (fun p => decide (t < p.t0)) }))

/-- The number of the first sample at or after an instant, at a rate. -/
def firstNum (t : Instant) (r : Nat) : Nat := ceilDiv (t * r) (sec 1)

/-- The first reporting instant, counted from the epoch, at or after sample `num`. -/
def reportAt (num fr r : Nat) : Nat := ceilDiv (num * fr) (max 1 r)

/-- The new history of a slot begins (R166): integrators, combs and histories cleared, f_track at f0, the oscillator at the reference. The last
good sample of an input and its run of missing ones go on (R163). -/
def State.beginHistory (s : State) (i : Nat) (b : PendRestart) (r : Nat) : State :=
  let w0 := b.w0.getD (s.pw 0 i 0)
  let fr := rateOf (fld w0 26 23)
  let f0 : Rat := if bit w0 28 then 60 else 50
  s.updSlot i (fun x => { x with
    bound := none, cur := w0, curBank := b.bank.getD x.bank, running := true, marks := []
    first := firstNum b.t0 r, num := firstNum b.t0 r - 1, nextK := reportAt (firstNum b.t0 r) fr r
    chains := x.chains.map (fun c => { freshChain with fTrack := F32.ofRat f0, good := c.good, miss := c.miss }) })

/-! ### The chain (R149, R153 to R156) -/

/-- One input sample through the integrators, each taking the updated output of the one before it. -/
def integrate : BitVec 64 → List (BitVec 64) → List (BitVec 64)
  | _, [] => []
  | x, a :: rest => (a + x) :: integrate (a + x) rest

/-- One value through the combs: the output and the new registers. -/
def comb : BitVec 64 → List (BitVec 64) → BitVec 64 × List (BitVec 64)
  | y, [] => (y, [])
  | y, a :: rest => ((comb (y - a) rest).1, y :: (comb (y - a) rest).2)

/-! From the scaling stage onwards every operation gives a binary64 value (R148). DESIGN CHOICE (assumption 113): the spec gives the formulas and
not the order of the operations within a stage; they are done in the order written here, on angles in turns, and cosine, sine, square root and
argument are the binary64 values nearest to the exact ones. -/

def cos64 (x : Rat) : Rat := F64.round (Elem.cosSin x).1
def sin64 (x : Rat) : Rat := F64.round (Elem.cosSin x).2
def arg64 (x : Rat × Rat) : Rat := F64.round (Elem.arg x.1 x.2)

/-- The FIR over the newest scaled outputs of the CIC (R150); outputs before the history are zero. -/
def firSum (taps : List Int) (outs : List Rat) : Rat := F64.dot ((taps.map (fun (c : Int) => (c : Rat) / 4194304)).zip outs)

/-- An angle in turns brought to the half turn around zero. -/
def wrapTurn (x : Rat) : Rat := x - ((x + 1 / 2).floor : Rat)

/-- The weight of the class filter at tap offset `n` (R154). -/
def classWeight (p : Profile) (n : Int) : Rat :=
  if p.mclass then F64.add (F64.round (54 / 100)) (F64.mul (F64.round (46 / 100)) (cos64 ((n : Rat) / (p.n : Rat)))) else ((p.n / 2 + 1 : Nat) : Rat) - ((n.natAbs : Nat) : Rat)

/-- The class-filter output centred on the decimated sample that ends at sample `e`: rectangular value and oscillator phase. -/
def classFilter (p : Profile) (base : List BaseSample) (e : Nat) : Rat × Rat × Rat :=
  let half := p.n / 2
  let part := base.filter (fun b => decide (e ≤ b.num + half * p.d) && decide (b.num ≤ e + half * p.d))
  let w (b : BaseSample) : Rat := classWeight p (((b.num : Int) - (e : Int)) / (p.d : Int))
  let gain := F64.sum ((upto (p.n + 1)).map (fun (i : Nat) => classWeight p ((i : Int) - (half : Int))))
  let phase := ((base.find? (fun b => b.num == e)).map (·.phase)).getD 0
  (F64.div (F64.dot (part.map (fun b => (w b, b.re)))) gain, F64.div (F64.dot (part.map (fun b => (w b, b.im)))) gain, phase)

/-- A value turned by an angle in turns. -/
def turnBy (re im a : Rat) : Rat × Rat :=
  (F64.sub (F64.mul re (cos64 a)) (F64.mul im (sin64 a)), F64.add (F64.mul re (sin64 a)) (F64.mul im (cos64 a)))

/-- The reference stage of R155 for reporting instant of sample `nc`, without the rotation by δ. -/
def refer (p : Profile) (base : List BaseSample) (nc : Nat) : Rat × Rat :=
  let y := classFilter p base (nc + p.lag)
  let t : Rat := ((2 * nc + p.delta2 : Nat) : Rat) / ((2 * p.r : Nat) : Rat)
  turnBy y.1 y.2.1 (y.2.2 - Elem.unit ((p.f0 : Rat) * t))

/-- Phasor, frequency and ROCOF of an input at the reporting instant of sample `nc` (R155, R156). -/
def estimateAt (p : Profile) (base : List BaseSample) (nc : Nat) : Rat × Rat × Rat × Rat :=
  let q : Rat := F64.round (1 / ((4 * p.f0 : Nat) : Rat))
  let y0 := refer p base nc
  let ym := refer p base (nc - p.qSamples)
  let yp := refer p base (nc + p.qSamples)
  let a0 := arg64 y0
  let dm := wrapTurn (F64.sub a0 (arg64 ym))
  let dp := wrapTurn (F64.sub (arg64 yp) a0)
  let f := F64.add (p.f0 : Rat) (F64.div (F64.add dp dm) (2 * q))
  let rf := F64.div (F64.sub dp dm) (F64.mul q q)
  let x0 := turnBy y0.1 y0.2 (-(F64.mul f (F64.round ((p.delta2 : Rat) / ((2 * p.r : Nat) : Rat)))))
  (x0.1, x0.2, f, rf)

/-- Marks of Drydown outputs and of the span of an output on input `k` (R163, R165, R168, Table 6-5). -/
def spanFlags (marks : List SpanMark) (lo hi k : Nat) (dry : Bool) : Nat :=
  let inSpan := marks.filter (fun m => decide (lo ≤ m.num) && decide (m.num ≤ hi))
  (if dry || inSpan.any (fun m => m.filled.getLsbD k) then 8 else 0) +
  (if inSpan.any (·.degraded) then 16 else 0) +
  (if inSpan.any (fun m => m.test.getLsbD k) then 64 else 0) +
  (if inSpan.any (fun m => m.quest.getLsbD k) then 256 else 0)

/-- One input sample through a chain; at a decimated sample also through scaling, FIR and demodulation. `fade` is the step and length of
a cross-fade with the taps of its target. -/
def CicChain.push (c : CicChain) (p : Profile) (keep : Bool) (num : Nat) (x : Int) (scale : Word) (taps : List Int)
    (fade : Option (Nat × Nat × List Int)) : CicChain :=
  let integ := integrate (BitVec.ofInt 64 x) c.integ
  if !keep then { c with integ := integ }
  else
    let y := comb ((integ.getLast?).getD 0#64) c.combs
    let outs := (F64.mul (F64.div (F32.toRat scale) ((p.d ^ 5 : Nat) : Rat)) (F64.round (y.1.toInt : Rat)) :: c.outs).take 128
    let old := firSum taps outs
    let v := match fade with
      | some (k, len, target) =>
        let share := F64.div (k : Rat) (len : Rat)
        F64.add (F64.mul (F64.sub 1 share) old) (F64.mul share (firSum target outs))
      | none => old
    let t : Rat := ((2 * (num - p.lag) + p.delta2 : Nat) : Rat) / ((2 * p.r : Nat) : Rat)
    let phase := match c.phase with
      | some a => Elem.unit (F64.add a (F64.div (F32.toRat c.fTrack) (p.fd : Rat)))
      | none => F64.round (Elem.unit ((p.f0 : Rat) * t))
    let u := F64.mul (F64.round (Elem.sqrt 2)) v
    let b : BaseSample := ⟨num, phase, F64.mul u (cos64 phase), -(F64.mul u (sin64 phase)), F32.isFinite scale⟩
    { c with integ := integ, combs := y.2, outs := outs, phase := some phase, base := (b :: c.base).take 2048 }

/-- The reporting instant `k`, counted from the epoch, as an instant. -/
def reportInstant (k fr : Nat) : Instant := k * sec 1 / max 1 fr

/-- A value of the chain as it is delivered: rounded to binary32 (R148). Where the scale was not a number, the spec states no result. -/
def delivered (real : Bool) (scale : Word) (n : Nat) (x : Rat) : Word := if real then F32.ofRat x else Config.nonFinite [scale, word n]

/-- The output that comes next is made ready once the last sample of its span is in (R156, R159). -/
def State.makeReady (s : State) (i : Nat) : State :=
  let x := s.slot i
  let p := s.curProfile i
  let nc := x.nextK * p.r / max 1 p.fr
  if x.num < nc + p.ahead then s
  else
    let dry := decide (nc < x.first + p.behind)
    let ins := (s.enabledInputs i).map (fun k =>
      let c := (x.chains[k]?).getD freshChain
      let e := estimateAt p c.base nc
      let d := delivered (c.base.all (·.real)) (s.pw 1 (8 * i + k) 0)
      ReadyInput.mk k (spanFlags x.marks (nc - p.behind) (nc + p.ahead) k dry) (d 0 e.1) (d 1 e.2.1) (d 2 e.2.2.1) (d 3 e.2.2.2))
    s.updSlot i (fun x => { x with
      nextK := x.nextK + 1, ready := x.ready ++ [ReadyOut.mk (reportInstant x.nextK p.fr) dry ins] })

/-- What a sample is to an input (R162): used, used but questionable, or missing, with the cause invalid or test. -/
inductive SampleUse where
  | good | questionable | invalid | test
deriving DecidableEq, Repr

def sampleUse (q : Word) (acceptTest : Bool) : SampleUse :=
  if fld q 1 0 = 1 then .invalid
  else if bit q 11 && !acceptTest then .test
  else if fld q 1 0 = 3 then .questionable
  else .good

/-- One sample number of a slot put through the chains of its enabled inputs: for each input its value, or none where the sample is
missing and the last good one stands for it (R163). -/
def State.pushSample (s : State) (i num : Nat) (vals : List (Option Word)) (mark : SpanMark) : State :=
  let x := s.slot i
  let p := s.curProfile i
  let keep := (num + p.d - p.lag % p.d) % p.d == x.first % p.d && decide (x.first ≤ num)
  let prof := fld x.cur 14 11
  let taps := s.taps x.curBank prof
  let xf := if keep then x.xf.map (fun f => { f with step := min f.len (f.step + 1), started := true }) else x.xf
  let started := keep && (x.xf.map (fun f => !f.started)).getD false
  let fade := match xf with
    | some f => if f.started then some (f.step, f.len, s.taps (!x.curBank) prof) else none
    | none => none
  let en := s.enabledInputs i
  let fills := (en.filter (fun k => ((vals[k]?).getD none).isNone)).length
  let s1 := s.updSlot i (fun x => { x with
    num := num, xf := xf
    xfStart := if started then fineOf s.now else x.xfStart
    marks := if mark.filled = 0#8 && mark.test = 0#8 && mark.quest = 0#8 && !mark.degraded then x.marks else (mark :: x.marks).take 32768
    chains := (x.chains.zip (upto 8)).map (fun ck =>
      if !en.contains ck.2 then ck.1
      else
        let c := match (vals[ck.2]?).getD none with
          | some w => { ck.1 with good := w, miss := 0 }
          | none => { ck.1 with miss := ck.1.miss + 1 }
        c.push p keep num c.good.toInt (s.pw 1 (8 * i + ck.2) 0) taps fade) })
  let s2 := if started then s1.pecCount 7 1 else s1
  let s3 := if fills = 0 then s2 else s2.pecCount 2 fills
  if keep then s3.makeReady i else s3

/-- The longest run of missing samples an enabled input would have after one more (R163, R164). -/
def State.overHold (s : State) (i : Nat) (missing : List Nat) : Bool :=
  missing.any (fun k => decide (fld (s.slot i).cur 9 4 < (((s.slot i).chains[k]?).getD freshChain).miss + 1))

/-- The slot enters GAP (R164). -/
def State.enterGap (s : State) (i : Nat) : State :=
  ((s.updSlot i (fun x => { x with st := .gap, running := false, gapEnd := false })).pecCount 5 1).status Reg.PEC_STAT 1

/-- Numbers absent from the sequence up to `num`: each filled, until the run is longer than hold_max. -/
def State.fillAbsent (s : State) (i num : Nat) : Nat → State
  | 0 => s
  | fuel + 1 =>
    let x := s.slot i
    if !x.running || decide (num ≤ x.num + 1) then s
    else if s.overHold i (s.enabledInputs i) then s.enterGap i
    else
      let filled := (s.enabledInputs i).foldl (fun (b : BitVec 8) k => b ||| BitVec.ofNat 8 (2 ^ k)) 0#8
      State.fillAbsent (s.pushSample i (x.num + 1) (List.replicate 8 none) ⟨x.num + 1, filled, 0#8, 0#8, false⟩) i num fuel

/-- Numbers absent from the sequence before `num` in a slot whose history does not run: each input's run of missing samples grows (R163). -/
def State.noteAbsent (s : State) (i num : Nat) : State :=
  s.updSlot i (fun x =>
    if x.running || x.num = 0 || num ≤ x.num + 1 then x
    else { x with num := num - 1, chains := x.chains.map (fun c => { c with miss := c.miss + (num - 1 - x.num) }) })

/-- A sample set noted by a slot whose history does not run: the last good sample of each input and its run of missing ones (R163). -/
def State.noteSample (s : State) (i : Nat) (m : SvSample) (missing : List Nat) : State :=
  (s.noteAbsent i m.num).updSlot i (fun x => { x with
    num := m.num
    chains := (x.chains.zip (upto 8)).map (fun ck =>
      if missing.contains ck.2 then { ck.1 with miss := ck.1.miss + 1 }
      else { ck.1 with good := ((m.vals[ck.2]?).getD (0#32, 0#32)).1, miss := 0 }) })

/-- A sample set taken by a slot, absent numbers before it filled (R162 to R164). -/
def State.takeSample (s : State) (i : Nat) (m : SvSample) : State :=
  let x := s.slot i
  let en := s.enabledInputs i
  let use (k : Nat) : SampleUse := sampleUse (((m.vals[k]?).getD (0#32, 0#32)).2) (bit x.cur 10)
  if !x.running then s.noteSample i m (en.filter (fun k => use k == .invalid || use k == .test))
  else
    let missing := en.filter (fun k => use k == .invalid || use k == .test)
    let s1 := s.pecCount 3 (en.filter (fun k => use k == .invalid)).length
    let s2 := s1.pecCount 4 (en.filter (fun k => use k == .questionable)).length
    if s2.overHold i missing then (s2.enterGap i).noteSample i m missing
    else
      let mask (f : Nat → Bool) : BitVec 8 := en.foldl (fun b k => if f k then b ||| BitVec.ofNat 8 (2 ^ k) else b) 0#8
      let mark : SpanMark := ⟨m.num, mask missing.contains,
        mask (fun k => !missing.contains k && bit (((m.vals[k]?).getD (0#32, 0#32)).2) 11), mask (fun k => use k == .questionable), m.degraded⟩
      s2.pushSample i m.num ((upto 8).map (fun k =>
        if missing.contains k then none else some (((m.vals[k]?).getD (0#32, 0#32)).1))) mark

/-- Whether a sample set is good for every enabled input. -/
def State.allGood (s : State) (i : Nat) (m : SvSample) : Bool :=
  (s.enabledInputs i).all (fun k =>
    let u := sampleUse (((m.vals[k]?).getD (0#32, 0#32)).2) (bit (s.slot i).cur 10)
    u == .good || u == .questionable)

/-- The history of a slot begins where the sample is the first at or after a t0 that has been reached. Numbers absent before t0 belong to the
old one (R166). -/
def State.beginIfDue (s : State) (i : Nat) (m : SvSample) : State :=
  let s1 := s.takeDue i m.t
  match (s1.slot i).bound with
  | some b =>
    let n := firstNum b.t0 m.rate
    if n ≤ m.num then ((s1.fillAbsent i n 64).noteAbsent i n).beginHistory i b m.rate else s1
  | none => s1

/-- The t0 of a slot whose entry became ACTIVE (Table 5-8): by its first accepted ASDU, or after a reset of the island by the instant that the
island runs again. -/
def State.firstT0 (s : State) (i : Nat) (m : SvSample) : Instant :=
  match (s.slot i).wasReset, s.pec.resume with
  | true, some t0 => if m.t ≤ t0 then t0 else restartSecond m.arrival
  | _, _ => restartSecond m.arrival

/-- A raw sample set enters estimation (R162 to R167). The first good sample after a gap, which may be the one that shows the gap, gives the
t0 of the restart. -/
def State.sampleIn (s : State) (m : SvSample) : State :=
  let i := m.slot
  let x := s.slot i
  if (s.enabledInputs i).isEmpty then s
  else if x.st = .idle then
    let w0 := s.pw 0 i 0
    if (s.profileOf w0 x.bank m.rate).supported then
      (s.updSlot i (fun x => { x with
        st := .wait, running := false, wasReset := false, num := 0
        pend := [PendRestart.mk (s.firstT0 i m) (some w0) none] })).takeSample i m
    else s
  else
    let s0 := s.beginIfDue i m
    let s1 := s0.fillAbsent i m.num 64
    let x1 := s1.slot i
    if x1.st = .gap && !x1.gapEnd && s1.allGood i m then
      let fr := rateOf (fld x1.cur 26 23)
      let t0 := reportInstant (reportAt m.num fr m.rate) fr
      let s2 := (s1.schedRestart i ⟨t0, none, none⟩).updSlot i (fun x => { x with gapEnd := true })
      (s2.beginIfDue i m).takeSample i m
    else s1.takeSample i m

/-- A slot in IDLE: its bank, the count of its restarts and what its table entry holds stay. -/
def PecSlot.idle (x : PecSlot) : PecSlot :=
  { idleSlot with bank := x.bank, restarts := x.restarts, t0 := x.t0, xfStart := x.xfStart, xfEnd := x.xfEnd }

/-- Slots whose chain may not run: all of them while PEC_CTL.en is 0 (Table 5-14), and those whose entry is no longer ACTIVE. -/
def State.pecSettle (s : State) : State :=
  s.busySlots.foldl (fun s i =>
    let active := match s.slotEntry i with
      | some e => wState (s.sw e 0) == 2
      | none => false
    if s.rb Reg.PEC_CTL 0 && active then s else s.updSlot i PecSlot.idle) s

/-! ### Thresholds (R177, R178) -/

def State.thrOf (s : State) (c : Nat) : ThrState := fetch (fun _ => ⟨0, 0, 0, 0⟩) s.pec.thr c

/-- THRESHOLD of R178 on one settled value: the new threshold state, and whether its state changed. -/
def threshold (high low hyst w3 : Word) (q : Quantity) (x : ThrState) : ThrState × Bool :=
  let deb := max 1 (fld w3 15 8)
  let up := x.st == 0 && bit w3 0 && aboveWord q high
  let dn := x.st == 0 && bit w3 1 && belowWord q low
  let clr := (x.st == 1 && belowDiff q high hyst) || (x.st == 2 && aboveSum q low hyst)
  let nUp := if up then x.nUp + 1 else 0
  let nDn := if dn then x.nDn + 1 else 0
  let nClr := if clr then x.nClr + 1 else 0
  if deb ≤ nUp then (⟨1, 0, nDn, nClr⟩, true)
  else if deb ≤ nDn then (⟨2, nUp, 0, nClr⟩, true)
  else if deb ≤ nClr then (⟨0, nUp, nDn, 0⟩, true)
  else (⟨x.st, nUp, nDn, nClr⟩, false)

/-- One value of estimated channel `c` (counted from the first) delivered to Accord and to the capture units, after its thresholds; degraded too
where module time is degraded at its arrival (Table 6-5). -/
def State.deliverEst (s : State) (c : Nat) (tc : Instant) (w0 w1 : Word) (q : Quantity) (flags : Nat) : State :=
  let settled := flags / 8 % 2 == 0
  let r := if settled && s.rb Reg.PEC_CTL 1 then threshold (s.pw 2 c 0) (s.pw 2 c 1) (s.pw 2 c 2) (s.pw 2 c 3) q (s.thrOf c)
    else (s.thrOf c, false)
  let s1 := s.setPec (fun p => { p with thr := store (fun _ => ⟨0, 0, 0, 0⟩) p.thr c r.1 })
  let s2 := if r.2 then (s1.pecCount 13 1).status Reg.PEC_STAT 5 else s1
  let degraded := if s.degraded && flags / 16 % 2 = 0 then 16 else 0
  let v : ChanValue := ⟨estimatedBase + c, tc, s.now, w0, w1, flags + degraded + 1024 * r.1.st.val + (if r.2 then 4096 else 0), s.time.epoch⟩
  let thr := if r.2 then [CapIn.thr (estimatedBase + c) r.1.st (flags / 32 % 2 == 1) tc] else []
  { s2 with ing := { s2.ing with values := s2.ing.values ++ [v] }, capIn := s2.capIn ++ [CapIn.est v] ++ thr }

/-- One input's three channels delivered (R146, R147). -/
def State.deliverInput (s : State) (i : Nat) (tc : Instant) (r : ReadyInput) : State :=
  let n := 8 * i + r.k
  let s0 := (s.pecCount 0 1).pecCount 1 (r.flags / 8 % 2)
  ((s0.deliverEst n tc r.re r.im (Quantity.ofPhasor r.re r.im) r.flags).deliverEst (8192 + n) tc r.f 0#32 (Quantity.ofWord r.f) r.flags).deliverEst
    (16384 + n) tc r.rf 0#32 (Quantity.ofWord r.rf) r.flags

/-- f_track of every enabled input after a settled output (R153): the frequency of the input its fref names, within f0 ± 5 Hz. -/
def State.track (s : State) (i : Nat) (o : ReadyOut) : State :=
  let f0 : Rat := if bit (s.slot i).cur 28 then 60 else 50
  (s.enabledInputs i).foldl (fun s k =>
    match o.ins.find? (fun r => r.k == fld (s.pw 1 (8 * i + k) 1) 4 2) with
    | none => s
    | some r =>
      if r.flags / 8 % 2 = 1 then s
      else
        let q := Quantity.ofWord r.f
        let set (s : State) (w : Word) : State :=
          s.updSlot i (fun x => { x with chains := updAt x.chains k (fun c => { c with fTrack := w }) })
        if q == .nan then s
        else if q.gt (f0 + 5) then ((set s (F32.ofRat (f0 + 5))).pecCount 12 1).status Reg.PEC_STAT 4
        else if q.lt (f0 - 5) then ((set s (F32.ofRat (f0 - 5))).pecCount 12 1).status Reg.PEC_STAT 4
        else set s r.f) s

/-! ### Coefficient profiles (R150, R151) -/

/-- Whether a profile reads the same from both ends. -/
def symmetric (taps : List Int) : Bool := taps == taps.reverse

/-- Whether a slot uses a profile: its own, the target of a cross-fade, held swap or pending restart, or the one its running history
began with. -/
def State.slotUses (s : State) (i : Nat) (bank : Bool) (prof : Nat) : Bool :=
  let x := s.slot i
  let w0 := s.pw 0 i 0
  (decide (2 ≤ fld w0 22 16) && fld w0 14 11 == prof &&
    (x.bank == bank || x.xf.isSome || x.held || x.pend.any (fun p => p.bank == some bank))) ||
  (x.running && fld x.cur 14 11 == prof && (x.curBank == bank || x.xf.isSome)) ||
  x.pend.any (fun p => match p.w0 with | some w => fld w 14 11 == prof && x.bank == bank | none => false)

/-- Whether any slot uses a profile: a slot counts while a valid entry holds it or it is not IDLE. -/
def State.profInUse (s : State) (bank : Bool) (prof : Nat) : Bool :=
  ((s.validEntries.filter (fun e => wKind (s.sw e 0) != 0)).map (fun e => fld (s.sw e 5) 25 16) ++ s.busySlots).any
    (fun i => s.slotUses i bank prof)

/-- The taps staged in the coefficient table for a profile. -/
def State.stagedTaps (s : State) (bank : Bool) (prof n : Nat) : List Int :=
  (upto n).map (fun j => signed 24 (s.pw 3 (272 * bank.toNat + 17 * prof + 1 + j / 8) (j % 8)).toNat)

/-- A profile committed (R151): 2 in use, 3 not symmetric, 4 more than 128 taps, else 0, as PEC_TBL_CMD.err has them. -/
def State.commitErr (s : State) (bank : Bool) (prof : Nat) (taps : List Int) : Nat :=
  if 128 < taps.length then 4
  else if s.profInUse bank prof then 2
  else if !symmetric taps then 3
  else 0

def State.commitTaps (s : State) (bank : Bool) (prof : Nat) (taps : List Int) : State :=
  s.setPec (fun p => { p with profiles := store defaultTaps p.profiles (16 * bank.toNat + prof) taps })

end Sys2Proof.Machine
end

