-- ==== Sys2Proof/Machine/SnapshotOps.lean ====
section
/-! DEFINITION. Snapshots as data (R197, R198, R490, R492): their counts, their bytes and their digest; and channels: their type, their
quantity and the missing pattern. -/

namespace Sys2Proof.Machine

/-- `n` bytes of a number, least significant first (R6). -/
def le : Nat → Nat → List Byte
  | 0, _ => []
  | n + 1, v => BitVec.ofNat 8 v :: le n (v / 256)

/-! ### Records (Tables 6-3 to 6-5) -/

/-- A bit of a record's quality word. -/
def Rec.has (r : Rec) (n : Nat) : Bool := r.q / 2 ^ n % 2 == 1

def Rec.predicted (r : Rec) : Bool := r.has 0
def Rec.late (r : Rec) : Bool := r.has 1
def Rec.missing (r : Rec) : Bool := r.has 2
def Rec.unsettled (r : Rec) : Bool := r.has 3
def Rec.degraded (r : Rec) : Bool := r.has 4
def Rec.injected (r : Rec) : Bool := r.has 5

/-- THR_STATE of a record. -/
def Rec.thr (r : Rec) : Nat := r.q / 1024 % 4

/-- The record of a channel in a snapshot. -/
def Snapshot.find (x : Snapshot) (c : Nat) : Option Rec := x.recs.find? (fun r => r.chan == c)

def Snapshot.nPresent (x : Snapshot) : Nat := (x.recs.filter (fun r => r.arr != 0xFFFF)).length
def Snapshot.nLate (x : Snapshot) : Nat := (x.recs.filter Rec.late).length
def Snapshot.nMissing (x : Snapshot) : Nat := (x.recs.filter Rec.missing).length
def Snapshot.nPredicted (x : Snapshot) : Nat := (x.recs.filter Rec.predicted).length

/-- The span from an instant to an arrival as Accord compares them (R28): the difference modulo 2^40 ns, read as a two's-complement value. -/
def arrivalDelta (a t : Instant) : Int :=
  let d := ((a : Int) - (t : Int)) % 2 ^ 56
  if 2 ^ 55 ≤ d then d - 2 ^ 56 else d

/-- The arrival field (Table 6-3): units of 100 µs, rounded down, 0 where the value came before the instant, at most 0xFFFE. -/
def arrivalField (a t : Instant) : Nat := min 0xFFFE ((arrivalDelta a t).toNat / us 100)

/-! ### Bytes (Tables 6-2, 6-3, 17-3) -/

/-- An instant as 12 bytes: fraction, nanoseconds, seconds. -/
def instantBytes (t : Instant) : List Byte := le 2 (fracOf t) ++ le 4 (nsecOf t) ++ le 6 (secsOf t)

/-- Header bytes 0 to 43. -/
def Snapshot.head (x : Snapshot) : List Byte :=
  le 2 (x.group + (if x.committed then 0x100 else 0) + (if x.lowFill then 0x200 else 0) + (if x.fillMissing then 0x400 else 0) +
    (if x.recs.any Rec.degraded then 0x800 else 0) + (if x.recs.any Rec.injected || x.withheld then 0x1000 else 0)) ++
  le 2 x.setVer ++ le 4 x.epoch.toNat ++ instantBytes x.t ++ le 4 x.recs.length ++ le 4 x.nPresent ++ le 4 x.nLate ++ le 4 x.nMissing ++
  le 4 x.nPredicted ++ le 4 x.seq.toNat

/-- The 16 bytes of a record. -/
def Rec.bytes (r : Rec) : List Byte := bytesLE r.w0 ++ bytesLE r.w1 ++ le 2 r.q ++ le 2 r.arr ++ bytesLE r.pstate

/-- The words of a late bitmap: bit k of the column set where record k is LATE. -/
def lateWords : Nat → List Rec → List Word
  | 0, _ => []
  | n + 1, recs => ((recs.take 32).zip (upto 32)).foldl (fun w p => w ||| putBit p.2 p.1.late) 0#32 :: lateWords n (recs.drop 32)

/-- The arrival column and the late bitmap of an inclusion list (Table 17-3). -/
def decisionBytes (recs : List Rec) : List Byte :=
  recs.flatMap (fun r => le 2 r.arr) ++ bytesOf (lateWords (ceilDiv recs.length 32) recs)

/-- The digest of a snapshot (R492). -/
def Snapshot.crc (x : Snapshot) : Nat := crc64 (x.head ++ x.recs.flatMap Rec.bytes ++ decisionBytes x.recs)

/-- A snapshot with its digest written. -/
def Snapshot.sealed (x : Snapshot) : Snapshot := { x with digest := x.crc }

/-- The whole of a snapshot as it stands in the history: header with its CRC, then the records. -/
def Snapshot.bytes (x : Snapshot) : List Byte :=
  let h := x.head ++ le 4 x.module ++ le 8 x.digest ++ le 4 x.takenUs
  h ++ bytesLE (crc32c h) ++ x.recs.flatMap Rec.bytes

/-! ### Channels -/

/-- Types of Table 6-4, with the codes of ALN_CHAN_W0.type. -/
inductive ChanType where
  | phasor | frequency | rocof | analog | digital
deriving DecidableEq, Repr

def ChanType.code : ChanType → Nat
  | .phasor => 0
  | .frequency => 1
  | .rocof => 2
  | .analog => 3
  | .digital => 4

/-- The type of a channel (R129, R146), where ingress or the host has set one. -/
def State.chanType (s : State) (c : Nat) : Option ChanType :=
  if 253952 ≤ c then some .rocof
  else if 245760 ≤ c then some .frequency
  else if estimatedBase ≤ c then some .phasor
  else (lookup s.ing.scales c).map (fun x => match x.kind with
    | .freq => .frequency
    | .dfreq => .rocof
    | .phasor => .phasor
    | .analog => .analog
    | .digital => .digital)

/-- The missing pattern of a type (Table 6-4); a channel of no known type takes the numeric one. -/
def missingPattern : Option ChanType → Word × Word
  | some .phasor => (F32.nan, F32.nan)
  | some .digital => (0#32, 0#32)
  | _ => (F32.nan, 0#32)

/-- The quantity of a numeric record (R312). -/
def quantityOf (ty : Option ChanType) (w0 w1 : Word) : Quantity :=
  match ty with
  | some .phasor => Quantity.ofPhasor w0 w1
  | some .digital => .nan
  | _ => Quantity.ofWord w0

/-- The key entry block that holds a received channel: its first channel (chan_base, R221). -/
def State.chanBase (s : State) (c : Nat) : Option Nat :=
  (s.validEntries.find? (fun e => wKind (s.sw e 0) == 0 && decide ((chanRange (s.sw e 4)).1 ≤ c) &&
    decide (c < (chanRange (s.sw e 4)).1 + (chanRange (s.sw e 4)).2))).map (fun e => (chanRange (s.sw e 4)).1)

/-- The frequency reference of a phasor channel and the nominal frequency of its source (R221). -/
def State.freqRef (s : State) (c : Nat) : Option (Nat × Rat) :=
  if estimatedBase ≤ c then
    let i := (c - estimatedBase) % 8192
    some (245760 + i, if bit (s.slot (i / 8)).cur 28 then 60 else 50)
  else (s.chanBase c).map (fun b => (b, match lookup s.ing.scales b with
    | some x => if x.scale = 60#32 then 60 else 50
    | none => 50))

end Sys2Proof.Machine
end

