-- ==== Sys2Proof/Machine/LimitOps.lean ====
section
/-! DEFINITION. The limit engine (R312 to R315): evaluation of entries, its checkpoints, and what is handed to Atomizer. -/

namespace Sys2Proof.Machine

def State.setLim (s : State) (f : LimPart → LimPart) : State := { s with lim := f s.lim }

/-- Word `w` of limit entry `e` (Table 10-14). -/
def State.lw (s : State) (e w : Nat) : Word := fetch (fun _ => 0#32) s.lim.table (4 * e + w)

def idleLim : LimState :=
  { alarm := 0, since := 0, nSet := 0, nClr := 0, prev := none, clrPend := none, qty := 0, degraded := false, injected := false }

def State.limSt (s : State) (e : Nat) : LimState := fetch (fun _ => idleLim) s.lim.st e

def storeLim (l : List (Nat × LimState)) (e : Nat) (x : LimState) : List (Nat × LimState) := store (fun _ => idleLim) l e x

/-! ### Quantities and conditions (Table 10-3) -/

/-- What an entry compares: a number, whether a pattern matches, or a threshold state. -/
inductive LimQ where
  | num (q : Quantity)
  | pattern (hit : Bool)
  | thr (st : Nat)
deriving DecidableEq, Repr

/-- A quantity as the last value of a RATE entry; none where it is not a number. -/
def Quantity.toPrev : Quantity → Option PrevVal
  | .val x => some (.num x)
  | .mag m => some (.num (Elem.sqrt m))
  | .pinf => some (.inf false)
  | .ninf => some (.inf true)
  | .nan => none

/-- The rate between two values. -/
def rateBetween (a b : PrevVal) (d : Rat) : Quantity :=
  match a, b with
  | .num x, .num y => .val (quot (x - y) d)
  | .inf n, .num _ => if n then .ninf else .pinf
  | .num _, .inf n => if n then .pinf else .ninf
  | .inf n, .inf m => if n = m then .nan else (if n then .ninf else .pinf)

/-- The quantity of a record for an entry, and the last value from then on (R312, R313). -/
def limQuantity (kind : Nat) (w1 : Word) (ty : Option ChanType) (est : Bool) (r : Rec) (k : Nat) (t : Instant)
    (prev : Option (PrevVal × Nat × Instant)) : Option LimQ × Option (PrevVal × Nat × Instant) :=
  if kind = 0 then
    (match quantityOf ty r.w0 r.w1 with
     | .nan => (none, prev)
     | q => (some (.num q), prev))
  else if kind = 1 then
    match (quantityOf ty r.w0 r.w1).toPrev with
    | none => (none, prev)
    | some v =>
      match prev with
      | some (p, pk, pt) =>
        if k ≤ pk + 4 then
          (match rateBetween v p (((t : Int) - (pt : Int) : Int) / (sec 1 : Rat)) with
           | .nan => (none, some (v, k, t))
           | q => (some (.num q), some (v, k, t)))
        else (none, some (v, k, t))
      | none => (none, some (v, k, t))
  else if kind = 2 then
    if ty = some .digital && (w1 &&& 0xFFFF#32 &&& ~~~(r.w0 >>> 16)) = 0#32 then
      (some (.pattern ((r.w0 &&& w1 &&& 0xFFFF#32) == (w1 >>> 16))), prev)
    else (none, prev)
  else if est then (some (.thr r.thr), prev) else (none, prev)

/-- Above `low + hyst`: true where the side is disabled; a hysteresis of NaN is zero. -/
def insideLow (q : Quantity) (low hyst : Word) : Bool :=
  if F32.isNaN low then true
  else if F32.isInf low then aboveWord q low
  else if F32.isInf hyst then bit hyst 31
  else q.gt (F32.toRat low + F32.toRat hyst)

/-- Below `high − hyst`: true where the side is disabled. -/
def insideHigh (q : Quantity) (high hyst : Word) : Bool :=
  if F32.isNaN high then true
  else if F32.isInf high then belowWord q high
  else if F32.isInf hyst then bit hyst 31
  else q.lt (F32.toRat high - F32.toRat hyst)

/-- Whether the condition of an entry is HIGH or LOW. -/
def limCond (q : LimQ) (high low : Word) : Bool :=
  match q with
  | .num v => aboveWord v high || belowWord v low
  | .pattern b => b
  | .thr st => st == 1 || st == 2

/-- Whether the quantity lies inside both thresholds by the hysteresis. -/
def limInside (q : LimQ) (high low hyst : Word) : Bool :=
  match q with
  | .num v => insideLow v low hyst && insideHigh v high hyst
  | .pattern b => !b
  | .thr st => st == 0

/-- The quantity recorded at a raise, as an absolute value. -/
def LimQ.size : LimQ → Rat
  | .num (.val x) => if x < 0 then -x else x
  | .num (.mag m) => Elem.sqrt m
  | .num _ => Config.infQuantity
  | .pattern _ => 0
  | .thr _ => 0

/-- LIMIT_EVAL of R313 on one record: the entry's state after it. -/
def limEval (w0 high low hyst : Word) (ty : Option ChanType) (est : Bool) (r : Rec) (k : Nat) (t : Instant) (prov : Bool) (x : LimState) : LimState :=
  if r.missing || r.unsettled then x
  else
    let kind := fld w0 30 28
    let qp := limQuantity kind high ty est r k t x.prev
    let y := { x with prev := qp.2 }
    match qp.1 with
    | none => y
    | some q =>
      let deb := if kind = 3 then 1 else max 1 (fld w0 27 20)
      let nSet := if limCond q high low && x.alarm = 0 then x.nSet + 1 else 0
      let nClr := if x.alarm ≠ 0 && limInside q high low hyst then x.nClr + 1 else 0
      let z := { y with nSet := nSet, nClr := nClr }
      let up := if deb ≤ nSet then
          { z with alarm := if prov then 1 else 2, since := k, qty := q.size, degraded := r.degraded, injected := r.injected }
        else z
      if deb ≤ nClr then
        (if prov then { up with clrPend := match up.clrPend with | some c => some c | none => some k }
         else { up with alarm := 0, clrPend := none })
      else up

/-! ### Evaluation of a snapshot -/

/-- The entries in use on channels of a snapshot. -/
def State.limEntries (s : State) (x : Snapshot) : List (Nat × Rec) :=
  (s.lim.table.filter (fun p => p.1 % 4 == 0 && bit p.2 31 && decide (fld p.2 30 28 < 4))).filterMap (fun p =>
    (x.find (fld p.2 17 0)).map (fun r => (p.1 / 4, r)))

/-- The entries that a snapshot changes, with their states after it. -/
def State.limResults (s : State) (x : Snapshot) (prov : Bool) : List (Nat × LimState) :=
  ((s.limEntries x).map (fun p => (p.1, limEval (s.lw p.1 0) (s.lw p.1 1) (s.lw p.1 2) (s.lw p.1 3) (s.chanType p.2.chan)
    (decide (estimatedBase ≤ p.2.chan)) p.2 x.k x.t prov (s.limSt p.1)))).filter (fun p => p.2 != s.limSt p.1)

/-- The states of entries written. -/
def State.putLim (s : State) (l : List (Nat × LimState)) : State :=
  s.setLim (fun a => { a with st := l.foldl (fun m p => storeLim m p.1 p.2) a.st })

/-- Whether journals of `n` records fit the area of 1 MiB (R314). -/
def limFits (n : Nat) : Bool := n = 0 || decide (n * Config.limRecordBytes ≤ 1048576)

/-- A provisional evaluation with its checkpoint; abandoned where its journal would not fit (R314). -/
def State.limProv (s : State) (x : Snapshot) : State :=
  let l := s.limResults x true
  let used := total (s.lim.ckpts.map (fun c => c.saved.length))
  if limFits (used + l.length) then
    (s.setLim (fun a => { a with ckpts := a.ckpts ++ [⟨x, l.map (fun p => (p.1, s.limSt p.1)), false⟩] })).putLim l
  else
    ((s.setLim (fun a => { a with ckpts := a.ckpts ++ [⟨x, [], true⟩] })).count (Reg.PUB_CNT 6) 1).status Reg.PUB_STAT 3

/-! ### Hand-over (R228, R229, R316, R317) -/

/-- An alarm of which nothing was handed over. -/
def Handed.blank : Handed := ⟨0, 0, 0, 0, false, false⟩

def State.limHanded (s : State) (e : Nat) : Handed := fetch (fun _ => Handed.blank) s.lim.handed e

/-- What is handed over of a limit alarm: one that left keeps the flags it carried. -/
def Handed.ofLimit (k : Nat) (st : Fin 4) (x : LimState) (h : Handed) : Handed :=
  if st = 1 then ⟨1, x.since, 0, 0, x.degraded, x.injected⟩
  else if st = 2 then ⟨2, k, 0, 0, x.degraded, x.injected⟩
  else { h with st := st, k := k }

/-- The published state an alarm passes to: none where it stays. An alarm handed over as PROVISIONAL for an instant after `kmax` is not yet
decided. -/
def nextHanded (alarm : Nat) (h : Handed) (kmax : Nat) : Option (Fin 4) :=
  if alarm = 2 then (if h.st = 2 then none else some 2)
  else if alarm = 1 then (if h.st = 1 then none else some 1)
  else if h.st = 2 then some 0
  else if h.st = 1 && decide (h.k ≤ kmax) then some 3
  else none

/-- The changes of limit alarms since the last hand-over, decided up to instant `kmax`. -/
def State.limChanges (s : State) (kmax : Nat) : List (Nat × Fin 4 × LimState) :=
  ((s.lim.st.map (·.1)) ++ (s.lim.handed.map (·.1)).filter (fun e => !(s.lim.st.map (·.1)).contains e)).filterMap (fun e =>
    (nextHanded (s.limSt e).alarm.val (s.limHanded e) kmax).map (fun st => (e, st, s.limSt e)))

/-- Retractions of an instant counted and recorded (R239, class 6). -/
def State.noteRetractions (s : State) (g : Nat) (t : Instant) (l : List (Nat × Nat)) : State :=
  match l with
  | [] => s
  | (src, key) :: _ =>
    let s1 := (s.count (Reg.SPL_GRP_CNT g 3) l.length).status Reg.SPL_STAT 1
    s1.raise 6 (l.length : Rat) ([word src, word key] ++ instantWords t)

/-- The changes taken as handed over: a batch for the instant, the retractions recorded, and an event for every alarm that became COMMITTED or
CLEARED (class 16). Alarms of the entries `config` clear with cause CONFIG (R330). -/
def State.limHandOver (s : State) (config : List Nat) (g k kmax : Nat) (t : Instant) : List AlarmChange × State :=
  let l := s.limChanges kmax
  let s1 := s.setLim (fun a => { a with handed := l.foldl (fun m p =>
    store (fun _ => Handed.blank) m p.1 (Handed.ofLimit k p.2.1 p.2.2 (s.limHanded p.1))) a.handed })
  let s2 := (l.filter (fun p => p.2.1 == 2 || p.2.1 == 0)).foldl (fun s p =>
    s.raiseAs (s1.limHanded p.1).injected 16 p.2.2.qty ([word p.1, word p.2.1.val] ++ instantWords t)) s1
  let s3 := s2.noteRetractions g t ((l.filter (fun p => p.2.1 == 3)).map (fun p => (0, p.1)))
  (sortBy (fun a b => decide (a.key ≤ b.key)) (l.map (fun p =>
    ⟨0, p.1, p.2.1, (s1.limHanded p.1).degraded, (s1.limHanded p.1).injected,
      if config.contains p.1 && p.2.1 != 1 && p.2.1 != 2 then some .config else none⟩)), s3)

/-! ### Commit (R227, R228, R315, R330) -/

/-- A function on entry states applied to the present states and to those the checkpoints would restore. -/
def State.mapLim (s : State) (f : Nat → LimState → LimState) : State :=
  s.setLim (fun a => { a with
    st := a.st.foldl (fun m p => storeLim m p.1 (f p.1 p.2)) a.st
    ckpts := a.ckpts.map (fun c => { c with saved := c.saved.map (fun p => (p.1, f p.1 p.2)) }) })

/-- The entries rewritten while active whose alarms the next committed snapshot of a group clears (R330). -/
def State.configDue (s : State) (g : Nat) : List Nat := (s.lim.config.filter (fun p => p.2 == g)).map (·.1)

/-- Alarms of entries rewritten while active clear at the next committed snapshot of their group (R330). -/
def State.limConfig (s : State) (g : Nat) : State :=
  let es := s.configDue g
  (s.setLim (fun a => { a with config := a.config.filter (fun p => p.2 != g) })).mapLim (fun e x =>
    if es.contains e then { x with alarm := 0, nSet := 0, nClr := 0, clrPend := none } else x)

/-- What a CONFIRM does to an entry: an alarm raised at the instant is COMMITTED, and a clear found at it takes effect. -/
def confirmLim (k : Nat) (x : LimState) : LimState :=
  let y := if x.alarm = 1 && x.since = k then { x with alarm := 2 } else x
  if y.clrPend = some k then { y with alarm := 0, clrPend := none } else y

/-- Checkpoints of a group, newest first, restored and dropped from instant `k` on; the provisional snapshots they held, oldest first. -/
def State.limRestore (s : State) (g k : Nat) : List Snapshot × State :=
  let l := s.lim.ckpts.filter (fun c => c.snap.group == g && decide (k ≤ c.snap.k))
  let s1 := l.reverse.foldl (fun s c => s.putLim c.saved) s
  (l.map (·.snap), s1.setLim (fun a => { a with ckpts := a.ckpts.filter (fun c => c.snap.group != g || decide (c.snap.k < k)) }))

/-- The committed evaluation of an instant, and the later ones in flight evaluated anew (R228): a batch for each. -/
def State.limCommitEval (s : State) (config : List Nat) (x : Snapshot) : List (Nat × Instant × List AlarmChange) × State :=
  let r := s.limRestore x.group x.k
  let s1 := r.2.putLim (r.2.limResults x false)
  let h := s1.limHandOver config x.group x.k x.k x.t
  (r.1.filter (fun y => decide (x.k < y.k))).foldl (fun acc y =>
    let s2 := acc.2.limProv y
    let hy := s2.limHandOver [] x.group y.k y.k y.t
    (acc.1 ++ [(y.k, y.t, hy.1)], hy.2)) ([(x.k, x.t, h.1)], h.2)

/-- Whether the limit engine runs (Table 10-10). -/
def State.limOn (s : State) : Bool := s.rb Reg.PUB_CTL 2

/-- The limit engine takes a committed snapshot: confirmed where its provisional evaluation stands, else evaluated. -/
def State.limCommit (s0 : State) (x : Snapshot) (confirmed : Bool) : List (Nat × Instant × List AlarmChange) × State :=
  let s := s0.limConfig x.group
  let config := s0.configDue x.group
  match s.lim.ckpts.find? (fun c => c.snap.group == x.group && c.snap.k == x.k) with
  | some c =>
    if confirmed && !c.skipped then
      let s1 := (s.setLim (fun a => { a with ckpts := a.ckpts.filter (fun c => c.snap.group != x.group || c.snap.k != x.k) })).mapLim
        (fun _ y => confirmLim x.k y)
      let h := s1.limHandOver config x.group x.k x.k x.t
      ([(x.k, x.t, h.1)], h.2)
    else s.limCommitEval config x
  | none => if s.limOn then s.limCommitEval config x else (let h := s.limHandOver config x.group x.k x.k x.t; ([(x.k, x.t, h.1)], h.2))

/-- A flush (R239): the checkpoint of the oldest flushed instant restored, the later ones dropped, and every PROVISIONAL alarm of those instants
handed over as RETRACTED. -/
def State.limFlush (s : State) (g k : Nat) (t : Instant) : List AlarmChange × State :=
  let r := s.limRestore g k
  let top := (r.1.map (·.k)).foldl max k
  r.2.limHandOver [] g k top t

/-- A reset of the Nose island (R242, R329): the limit table, its states and its journal are cleared; an alarm handed over as PROVISIONAL is
published as RETRACTED by Atomizer, a COMMITTED one stays. -/
def State.resetLimits (s : State) : State :=
  s.setLim (fun a => { a with
    table := [], st := [], ckpts := [], config := []
    handed := a.handed.filter (fun p => p.2.st != 1) })

end Sys2Proof.Machine
end

