-- ==== Sys2Proof/Machine/IslandOps.lean ====
section
/-! DEFINITION. Operations of the island engine (chapter 09): the model, bus summaries and their packets, views, the evaluation of a view with
components, coherence and alarms, and its checkpoints. -/

namespace Sys2Proof.Machine

def State.setIsl (s : State) (f : IslPart → IslPart) : State := { s with isl := f s.isl }

/-- An island counter of Table 9-14 by its position. -/
def State.islCount (s : State) (i n : Nat) : State := s.count (Reg.ISL_CNT i) n

/-! ### The model (R277, R278) -/

def Model.bw (m : Model) (i w : Nat) : Word := fetch (fun _ => 0#32) m.buses (4 * i + w)
def Model.brw (m : Model) (i w : Nat) : Word := fetch (fun _ => 0#32) m.branches (4 * i + w)

/-- The words of all records, buses first. -/
def Model.words (m : Model) : List Word :=
  (upto (4 * m.nBus)).map (fetch (fun _ => 0#32) m.buses) ++ (upto (4 * m.nBranch)).map (fetch (fun _ => 0#32) m.branches)

/-- The record CRC. -/
def Model.crc (m : Model) : Word := crc32c (bytesOf m.words)

def Model.f0 (m : Model) : Rat := if m.is60 then 60 else 50

/-- The bits of a record word that are not reserved (Tables 9-1 and 9-2, R8). -/
def recordMask (branch : Bool) (w : Nat) : Word :=
  match branch, w with
  | false, 0 => 0x80FFFFFF#32
  | false, 1 => 0x0003FFFF#32
  | false, 2 => 0x0003FFFF#32
  | false, _ => 0xFFFFFFFF#32
  | true, 0 => 0xFFFFFFFF#32
  | true, 1 => 0x80003F33#32
  | true, _ => 0x00FFFFFF#32

/-- The model in force for an instant (R280): instants before an activation keep the model it replaced, even where they are still open. -/
def State.modelAt (s : State) (t : Instant) : Option Model :=
  match s.isl.olds.find? (fun p => decide (t < p.1)) with
  | some p => p.2
  | none => s.isl.active

/-- How many activations an instant lies behind. -/
def State.eraAt (s : State) (t : Instant) : Nat := s.isl.eras - (s.isl.olds.filter (fun p => decide (t < p.1))).length

/-- The staged model activated at an instant (R280). -/
def State.activateModel (s : State) (t : Instant) : State :=
  (s.setIsl (fun a => { a with
    olds := a.olds ++ [(t, a.active)], active := some a.staged, pend := none, eras := a.eras + 1 })).status Reg.ISL_STAT 0

/-- A bus record by its fields (Table 9-1). -/
structure BusRec where
  bus   : Nat
  owner : Nat
  obs   : Bool
  refOk : Bool
  fCh   : Nat
  vCh   : Nat
  vNom  : Word
deriving DecidableEq, Repr

/-- A branch record by its fields (Table 9-2); sources in use by channel, bit and polarity. -/
structure BranchRec where
  index : Nat
  a     : Nat
  b     : Nat
  owner : Nat
  unk   : Nat
  kind  : Nat
  srcs  : List (Nat × Nat × Bool)
deriving DecidableEq, Repr

/-- Buses present, by rising number. -/
def Model.busRecs (m : Model) : List BusRec :=
  sortBy (fun x y => decide (x.bus ≤ y.bus)) (((upto m.nBus).filter (fun i => bit (m.bw i 0) 31)).map (fun i =>
    ⟨fld (m.bw i 0) 15 0, fld (m.bw i 0) 21 16, bit (m.bw i 0) 22, bit (m.bw i 0) 23, fld (m.bw i 1) 17 0, fld (m.bw i 2) 17 0, m.bw i 3⟩))

/-- Branches present, by rising number; kind 3 is taken as 0, and so is unk 3. -/
def Model.branchRecs (m : Model) : List BranchRec :=
  ((upto m.nBranch).filter (fun i => bit (m.brw i 1) 31)).map (fun i =>
    ⟨i, fld (m.brw i 0) 15 0, fld (m.brw i 0) 31 16, fld (m.brw i 1) 13 8, fld (m.brw i 1) 5 4 % 3, fld (m.brw i 1) 1 0 % 3,
      ([m.brw i 2, m.brw i 3].filter (fun w => bit w 23)).map (fun w => (fld w 17 0, fld w 21 18, bit w 22))⟩)

/-- Branches whose status comes from sources. -/
def Model.kind2 (m : Model) : List BranchRec := m.branchRecs.filter (fun b => b.kind == 2)

/-- Owners named by the model, rising. -/
def Model.owners (m : Model) : List Nat :=
  (upto 64).filter (fun o => m.busRecs.any (fun b => b.owner == o) || m.branchRecs.any (fun b => b.owner == o))

/-! ### Summaries (R281, R282) -/

/-- The state code of an entry from the two records of a bus. -/
def entryState (f v : Rec) : Nat :=
  if f.missing || v.missing || !F32.isFinite f.w0 || !F32.isFinite v.w0 || !F32.isFinite v.w1 then 2
  else if f.predicted || v.predicted then 1
  else if f.unsettled || f.degraded || v.unsettled || v.degraded then 3
  else 0

/-- V ≥ live_pct × v_nom, on exact squares. -/
def isLive (v : Rec) (pct : Nat) (vNom : Word) : Bool :=
  if F32.isNaN vNom then false
  else if F32.isInf vNom then bit vNom 31
  else
    let lim : Rat := (pct : Rat) / 100 * F32.toRat vNom
    decide (lim ≤ 0) || decide (lim * lim ≤ F32.toRat v.w0 * F32.toRat v.w0 + F32.toRat v.w1 * F32.toRat v.w1)

/-- The summary entry of a bus (Table 9-3). -/
def busEntry (m : Model) (pct : Nat) (x : Snapshot) (b : BusRec) : Word :=
  match x.find b.fCh, x.find b.vCh with
  | some f, some v =>
    let st := entryState f v
    if st = 2 then put 1 0 2
    else
      let df := clampInt (-4095) 4095 ((F32.toRat f.w0 - m.f0) * 1000 + 1 / 2).floor
      put 31 16 (Elem.angUnits (F32.toRat v.w0) (F32.toRat v.w1)) ||| put 15 3 (unsign 13 df) |||
        putBit 2 (isLive v pct b.vNom) ||| put 1 0 st
  | _, _ => put 1 0 2

/-- What a source of a branch reads from a snapshot: closed, open, or nothing that decides. -/
def sourceReads (x : Snapshot) (src : Nat × Nat × Bool) : Option Bool :=
  match x.find src.1 with
  | some r => if r.missing || !bit r.w0 (16 + src.2.1) then none else some (bit r.w0 src.2.1 == src.2.2)
  | none => none

/-- The status of a kind-2 branch (R281); `held` is its status in the last committed view. -/
def branchClosed (x : Snapshot) (held : Bool) (b : BranchRec) : Bool :=
  let l := b.srcs.filterMap (sourceReads x)
  if l.contains false then false
  else if l.contains true then true
  else if b.unk = 1 then false
  else if b.unk = 2 then true
  else held

/-- The held status of a branch: closed where there is none. -/
def State.heldStatus (s : State) (i : Nat) : Bool := (lookup s.isl.held i).getD true

def State.livePct (s : State) : Nat := max 1 (s.rf Reg.ISL_ALM_CTL 30 24)

/-! ### Packets (R283, Table 9-4) -/

/-- Flags packed 32 a word, from bit 0 of the first. -/
def packBits : Nat → List Bool → List Word
  | 0, _ => []
  | n + 1, l => ((l.take 32).zip (upto 32)).foldl (fun w p => w ||| putBit p.2 p.1) 0#32 :: packBits n (l.drop 32)

def Packet.headBytes (p : Packet) : List Byte :=
  le 2 ((if p.committed then 1 else 0) + 2 * p.owner.val) ++ le 2 p.entries.length ++ le 4 p.epoch.toNat ++ instantBytes p.t ++
  bytesLE p.cfgCrc ++ le 4 p.status.length

def Packet.payBytes (p : Packet) : List Byte := bytesOf (p.entries ++ packBits (ceilDiv p.status.length 32) p.status)

/-- Whether both checks of a packet hold. -/
def Packet.good (p : Packet) : Bool := p.hdrCrc == crc32c p.headBytes && p.payCrc == crc32c p.payBytes

def Packet.sealed (p : Packet) : Packet := { p with hdrCrc := crc32c p.headBytes, payCrc := crc32c p.payBytes }

/-- The code of a reporting rate (Table 6-14). -/
def rateCode (fr : Nat) : Nat := ((upto 12).find? (fun i => rateOf i == fr)).getD 6

/-- cfg_crc: over the record CRC, f0, the rate code, d and W, as one little-endian word each. -/
def Model.cfgCrc (m : Model) (fr dead waitMs : Nat) : Word :=
  crc32c (bytesLE m.crc ++ le 4 (if m.is60 then 1 else 0) ++ le 4 (rateCode fr) ++ le 4 dead ++ le 4 waitMs)

/-- cfg_crc for an instant of which a snapshot is at hand. -/
def cfgFor (m : Model) (x : Snapshot) : Word := m.cfgCrc x.fr x.dead x.waitMs

/-- The packet that an owner forms of a snapshot. -/
def State.packetOf (s : State) (m : Model) (x : Snapshot) : Packet :=
  let o := s.ownerIndex % 64
  Packet.sealed {
    committed := x.committed, owner := Fin.ofNat 64 o, epoch := x.epoch, t := x.t, cfgCrc := cfgFor m x,
    entries := (m.busRecs.filter (fun b => b.obs && b.owner == o)).map (busEntry m s.livePct x),
    status := (m.kind2.filter (fun b => b.owner == o)).map (fun b => branchClosed x (s.heldStatus b.index) b),
    hdrCrc := 0#32, payCrc := 0#32 }

/-- A snapshot of the island group under ring_en: kept for its views, and its summaries sent where the module contributes (R284). -/
def State.sendSummary (s : State) (x : Snapshot) : State :=
  match s.modelAt x.t with
  | none => s
  | some m =>
    if !s.rb Reg.ISL_CTL 0 || !s.rb Reg.ISL_CTL 2 || m.group != x.group || !s.runs Isle.nose then s
    else
      let put (r : RingInst) : RingInst := if x.committed then { r with commit := some x } else { r with prov := some x }
      let ring := if s.isl.ring.any (fun r => r.k == x.k) then s.isl.ring.map (fun r => if r.k == x.k then put r else r)
        else s.isl.ring ++ [put ⟨x.k, x.t, none, none, false⟩]
      let s1 := s.setIsl (fun a => { a with ring := ring })
      if s.contributes then
        let p := s1.packetOf m x
        (s1.setIsl (fun a => { a with packets := a.packets ++ [p], out := a.out ++ [p] })).ringOut none (.summary p)
      else s1

/-! ### Views (R286 to R288) -/

/-- A view from the packets used, one for an owner; buses of an absent owner are MISSING and its branches held. `own` says which buses carry
INJECTED here. -/
def State.viewOf (s : State) (m : Model) (x : Snapshot) (commit : Bool) (pkts : List Packet) : View :=
  let of (o : Nat) : Option Packet := pkts.find? (fun p => p.owner.val == o)
  let inj (b : BusRec) : Bool := ((x.find b.fCh).map Rec.injected).getD false || ((x.find b.vCh).map Rec.injected).getD false
  let entries := m.owners.flatMap (fun o =>
    let bs := m.busRecs.filter (fun b => b.obs && b.owner == o)
    match of o with
    | some p => (bs.zip p.entries).map (fun q => BusView.mk q.1.bus q.2 (decide (o = s.ownerIndex) && inj q.1))
    | none => bs.map (fun b => ⟨b.bus, put 1 0 2, false⟩))
  let status := m.owners.flatMap (fun o =>
    let bs := m.kind2.filter (fun b => b.owner == o)
    match of o with
    | some p => (bs.zip p.status).map (fun q => (q.1.index, q.2))
    | none => bs.map (fun b => (b.index, s.heldStatus b.index)))
  { k := x.k, fr := x.fr, t := x.t, commit := commit, buses := entries, status := status
    present := m.owners.filter (fun o => (of o).isSome), missing := m.owners.filter (fun o => (of o).isNone) }

/-- The view of a module that works without the ring: from its own summaries. -/
def State.ownView (s : State) (m : Model) (x : Snapshot) : View := s.viewOf m x x.committed [s.packetOf m x]

/-- The packets held for an instant that its view uses: committed ones only in a committed view, and preferred in a provisional one (R286,
R287). -/
def State.usedPackets (s : State) (t : Instant) (commit : Bool) : List Packet :=
  let l := s.isl.packets.filter (fun p => p.t == t)
  l.filter Packet.committed ++ (if commit then [] else l.filter (fun p => !p.committed))

/-- Whether packets of every owner are held (R286, R287). -/
def State.holdsAll (s : State) (m : Model) (t : Instant) (commit : Bool) : Bool :=
  m.owners.all (fun o => (s.usedPackets t commit).any (fun p => p.owner.val == o))

/-! ### The graph (R290) -/

/-- The components with two buses joined: each bus carries the lowest number of its component. -/
def joinBuses (l : List (Nat × Nat)) (a b : Nat) : List (Nat × Nat) :=
  match lookup l a, lookup l b with
  | some x, some y => l.map (fun p => if p.2 = max x y then (p.1, min x y) else p)
  | _, _ => l

/-- The component of each bus, by its lowest bus number. -/
def Model.components (m : Model) (status : List (Nat × Bool)) : List (Nat × Nat) :=
  (m.branchRecs.filter (fun b => b.kind == 1 || (b.kind == 2 && (lookup status b.index).getD true))).foldl
    (fun l b => joinBuses l b.a b.b) (m.busRecs.map (fun b => (b.bus, b.bus)))

def liveEntry (w : Word) : Bool := bit w 2 && fld w 1 0 != 2
def entryAng (w : Word) : Int := signed 16 (fld w 31 16)
def entryDf (w : Word) : Int := signed 13 (fld w 15 3)

/-- An island of a view: for an electrical one, `buses` are its live buses. -/
structure Isl where
  key   : Nat
  top   : Nat
  buses : List Nat
  live  : List BusView
deriving DecidableEq, Repr

/-- The island with the most live buses, ties to the lower key. -/
def mainOf (l : List Isl) : Option Nat :=
  (l.foldl (fun (b : Option Isl) i => match b with
    | none => some i
    | some c => if c.live.length < i.live.length || (c.live.length == i.live.length && decide (i.key < c.key)) then some i else some c) none).map (·.key)

/-- The topology islands of a view. -/
def topIslands (labels : List (Nat × Nat)) (v : View) : List Isl :=
  (labels.filter (fun p => p.1 == p.2)).map (fun p =>
    let bs := (labels.filter (fun q => q.2 == p.1)).map (·.1)
    ⟨p.1, p.1, bs, v.buses.filter (fun b => bs.contains b.bus && liveEntry b.entry)⟩)

/-! ### Coherence (R292) -/

/-- The settings of the engine as its registers hold them, each in its range (Table 9-14). -/
structure IslSettings where
  fGap     : Word
  theta    : Word
  nHold    : Nat
  nClear   : Nat
  divisor  : Rat
  minLive  : Nat
  topoPers : Nat
  topoClr  : Nat
deriving DecidableEq, Repr

def State.islSettings (s : State) (fr : Nat) : IslSettings :=
  { fGap := s.reg Reg.ISL_COH_F, theta := s.reg Reg.ISL_COH_ANG
    nHold := ceilDiv (clamp 20 4000 (s.rf Reg.ISL_COH_TIME 11 0) * fr) 1000
    nClear := ceilDiv (s.rf Reg.ISL_COH_TIME 27 16 * fr) 1000
    divisor := max 1 (((clamp 100 5000 (s.rf Reg.ISL_COH_EMA 12 0) * fr : Nat) : Rat) / 1000)
    minLive := max 1 (s.rf Reg.ISL_ALM_CTL 7 0), topoPers := max 1 (s.rf Reg.ISL_ALM_CTL 15 8), topoClr := max 1 (s.rf Reg.ISL_ALM_CTL 23 16) }

/-- Sorted values numbered by cluster: a new one begins wherever neighbours lie further apart than `far` allows. -/
def clusters (far : Rat → Bool) : Nat → Option Rat → List (Nat × Rat) → List (Nat × Nat)
  | _, _, [] => []
  | n, prev, (b, x) :: rest =>
    let m := match prev with
      | some p => if far (x - p) then n + 1 else n
      | none => n
    (b, m) :: clusters far m (some x) rest

def splitBuses (far : Rat → Bool) (l : List (Nat × Rat)) : List (Nat × Nat) :=
  clusters far 0 none (sortBy (fun a b => decide (a.2 ≤ b.2)) l)

/-- The angle of a bus against the reference, unwrapped against the one before. -/
def unwrapAng (prev : Option BusDyn) (d : Int) : Int :=
  match prev with
  | some p => p.psi + signed 16 (unsign 16 (d - p.psi))
  | none => signed 16 (unsign 16 d)

/-- A usable bus in one view: what is kept of it, and its drift. -/
def cohBus (divisor : Rat) (changed : Bool) (prev : Option BusDyn) (d : Int) : BusDyn × Rat :=
  let psi := unwrapAng prev d
  let ema : Rat := match prev with
    | some p => if changed then (psi : Rat) else p.ema
    | none => (psi : Rat)
  (⟨psi, Config.emaStep ema (((psi : Rat) - ema) / divisor)⟩, (psi : Rat) - ema)

/-- COHERENCE on a topology island: what is kept of its buses, its electrical islands, what is kept of it, and whether its reference
changed. -/
def coherence (c : IslSettings) (m : Model) (d : IslDyn) (i : Isl) : List (Nat × BusDyn) × List Isl × TopDyn × Bool :=
  let old := lookup d.tops i.key
  let okRefs := (m.busRecs.filter BusRec.refOk).map (·.bus)
  let lowest (l : List BusView) : Option Nat := l.foldl (fun (r : Option Nat) b => match r with
    | some x => some (min x b.bus)
    | none => some b.bus) none
  let ref := match lowest (i.live.filter (fun b => okRefs.contains b.bus)) with
    | some r => r
    | none => (lowest i.live).getD 0
  let changed := (old.map TopDyn.ref) != some ref
  let ang0 := match i.live.find? (fun b => b.bus == ref) with
    | some b => entryAng b.entry
    | none => 0
  let coh := i.live.map (fun b => (b, cohBus c.divisor changed (lookup d.buses b.bus) (entryAng b.entry - ang0)))
  let fc := splitBuses (fun x => aboveWord (.val (x / 1000)) c.fGap) (i.live.map (fun b => (b.bus, (entryDf b.entry : Rat))))
  let ac := splitBuses (fun x => aboveWord (.val (x * 360 / 65536)) c.theta) (coh.map (fun p => (p.1.bus, p.2.2)))
  let cell (b : BusView) : Option Nat × Option Nat := (lookup fc b.bus, lookup ac b.bus)
  let sorted := sortBy (fun (a b : BusView) => decide (a.bus ≤ b.bus)) i.live
  let heads := sorted.filter (fun b => !sorted.any (fun x => decide (x.bus < b.bus) && cell x == cell b))
  let elec := (heads.map (fun h =>
    let l := sorted.filter (fun b => cell b == cell h)
    Isl.mk h.bus i.key (l.map BusView.bus) l)).filter (fun e => decide (c.minLive ≤ e.live.length))
  let o : TopDyn := old.getD ⟨ref, 0, 0, 0⟩
  let top : TopDyn := if 1 < elec.length then { o with ref := ref, nSplit := o.nSplit + 1, nCoh := 0 }
    else { o with ref := ref, nCoh := o.nCoh + 1, nSplit := 0 }
  (coh.map (fun p => (p.1.bus, p.2.1)), elec, top, changed)

/-! ### Alarms (R294, R295) -/

/-- The mean df of buses, in mHz. -/
def dfMean (l : List BusView) : Rat :=
  if l.isEmpty then 0 else (((l.map (fun b => entryDf b.entry)).foldl (· + ·) (0 : Int) : Int) : Rat) / (l.length : Rat)

/-- An alarm brought up to its island in a view. A provisional view leaves it published under the key it has (R229). -/
def IslAlarm.follow (a : IslAlarm) (v : View) (i : Isl) : IslAlarm :=
  let views := v.buses.filter (fun b => i.buses.contains b.bus)
  { a with
    key := i.key, pub := if v.commit then i.key else a.pub, topKey := i.top, live := i.live.map BusView.bus, nBus := i.buses.length, meanDf := dfMean i.live, t := v.t
    degraded := views.any (fun b => fld b.entry 1 0 == 3), injected := views.any BusView.injected, absent := 0 }

def blankAlarm (kind : IslKind) (v : View) : IslAlarm :=
  { kind := kind, key := 0xFFFF, pub := 0xFFFF, topKey := 0xFFFF, live := [], nBus := 0, meanDf := 0, t := v.t, degraded := false, injected := false,
    commit := v.commit, since := v.k, absent := 0, clrPend := none, trial := none }

/-- Whether an island is the one an alarm follows: it holds more than half of the live buses of the instant before. -/
def IslAlarm.follows (a : IslAlarm) (i : Isl) : Bool :=
  decide (a.live.length < 2 * (a.live.filter i.buses.contains).length)

/-- A new alarm of an island. -/
def newAlarm (kind : IslKind) (v : View) (i : Isl) : IslAlarm := { (blankAlarm kind v).follow v i with pub := i.key }

/-- An alarm that is to clear: at once on a committed view or with cause MODEL (R316), with the CONFIRM on a provisional one (R229, R315). -/
def IslAlarm.clear (a : IslAlarm) (v : View) : Option IslAlarm :=
  if v.commit || a.trial = some .model then none else some { a with clrPend := match a.clrPend with
    | some c => some c
    | none => some v.k }

/-- The alarms of one kind brought up to the islands that can carry them; the islands left over are returned too. Under a trial an alarm
continues with the island of its key and no other (R280, R299). -/
def followAlarms (v : View) (cleared : IslAlarm → Bool) (topoClr : Nat) : List IslAlarm → List Isl → List IslAlarm × List Isl
  | [], cands => ([], cands)
  | a :: rest, cands =>
    let waits := a.trial = some .restart && !v.commit
    let hit := if waits then none
      else if a.trial.isSome then cands.find? (fun i => i.key == a.key)
      else cands.find? a.follows
    match hit with
    | some i =>
      let b := { (a.follow v i) with trial := none }
      let r := followAlarms v cleared topoClr rest (cands.filter (fun c => c.key != i.key))
      ((if cleared b then (b.clear v).toList else [b]) ++ r.1, r.2)
    | none =>
      let b := if a.kind = .topo && !waits then { a with absent := a.absent + 1 } else a
      let out := !waits && (a.trial.isSome || (a.kind = .topo && decide (topoClr ≤ b.absent)) || cleared b)
      let r := followAlarms v cleared topoClr rest cands
      ((if out then (b.clear v).toList else [b]) ++ r.1, r.2)

/-- What the evaluation of a view gives. -/
structure IslOut where
  dyn    : IslDyn
  shown  : IslShow
  refs   : Nat
  raised : Nat
  many   : Bool
  full   : Bool
deriving DecidableEq, Repr

/-- New alarms up to the limit of 64, then ISL_MANY (Table 9-8, R295). -/
def admitAlarms (v : View) (olds news : List IslAlarm) : List IslAlarm × Nat × Bool :=
  let plain := olds.filter (fun a => a.kind != .many)
  let many := olds.filter (fun a => a.kind == .many)
  let taken := news.take (64 - plain.length)
  let extra := decide (64 < plain.length + news.length)
  let rest := if extra then (if many.isEmpty then [blankAlarm .many v] else many.map (fun a => { a with t := v.t, trial := none }))
    else many.flatMap (fun a => if a.trial = some .restart && !v.commit then [a] else (a.clear v).toList)
  (plain ++ taken ++ rest, taken.length, extra && many.isEmpty)

/-- The dynamic state as the first instant of a new model finds it (R280): coherence and persistence start anew, and each alarm is tried. -/
def IslDyn.entering (d : IslDyn) (era : Nat) : IslDyn :=
  if era ≤ d.era then d
  else { freshDyn (d.alarms.map (fun x => { x with trial := some .model, absent := 0 })) with era := era }

/-- The published keys of alarms that a view's trial ended, with the cause (R280, R299). -/
def adminClears (v : View) (old new : List IslAlarm) : List (Nat × ClearCause) :=
  old.filterMap (fun a => match a.trial with
    | none => none
    | some t =>
      if (t == .restart && !v.commit) || new.any (fun b => b.kind == a.kind && b.key == a.key) then none
      else some (a.pub, if t == .model then .model else .restart))

/-- The evaluation of a view on the dynamic state of the instant before (R290 to R295). -/
def islEval (c : IslSettings) (m : Model) (era : Nat) (d0 : IslDyn) (v : View) : IslOut :=
  let d := d0.entering era
  let labels := m.components v.status
  let tops := topIslands labels v
  let main := mainOf tops
  let alive (i : Isl) : Bool := decide (c.minLive ≤ i.live.length)
  let coh := (tops.filter alive).map (fun i => (i, coherence c m d i))
  let liveBuses := (v.buses.filter (fun b => liveEntry b.entry)).map BusView.bus
  let fresh := coh.flatMap (fun p => p.2.1)
  let buses := (d.buses.filter (fun p => liveBuses.contains p.1 && !fresh.any (fun q => q.1 == p.1))) ++ fresh
  let isTopo (i : Isl) : Bool := alive i && main != some i.key
  let topDyn := tops.filterMap (fun i =>
    let seen (t : TopDyn) : TopDyn := { t with seen := if isTopo i then t.seen + 1 else 0 }
    match coh.find? (fun p => p.1.key == i.key) with
    | some p => some (i.key, seen p.2.2.2.1)
    | none => (lookup d.tops i.key).map (fun t => (i.key, seen t)))
  let elecs := coh.flatMap (fun p => let l := p.2.2.1; l.filter (fun e => mainOf l != some e.key))
  let topOf (a : IslAlarm) : Nat := (lookup labels a.key).getD a.topKey
  let cohered (a : IslAlarm) : Bool := match lookup topDyn (topOf a) with
    | some t => decide (c.nClear ≤ t.nCoh)
    | none => false
  let old := d.alarms
  let ft := followAlarms v (fun _ => false) c.topoClr (old.filter (fun a => a.kind == .topo)) (tops.filter isTopo)
  let fe := followAlarms v cohered c.topoClr ((old.filter (fun a => a.kind == .elec)).map (fun a => { a with topKey := topOf a })) elecs
  let newT := ft.2.filter (fun i => match lookup topDyn i.key with
    | some t => decide (c.topoPers ≤ t.seen)
    | none => false)
  let newE := fe.2.filter (fun i => match lookup topDyn i.top with
    | some t => decide (c.nHold ≤ t.nSplit)
    | none => false)
  let news := newT.map (newAlarm .topo v) ++ newE.map (newAlarm .elec v)
  let adm := admitAlarms v (ft.1 ++ fe.1 ++ old.filter (fun a => a.kind == .many)) news
  let row (kind : IslKind) (i : Isl) : IslandRow := ⟨kind, i.key, i.buses.length, i.live.length, dfMean i.live⟩
  { dyn := { buses := sortBy (fun a b => decide (a.1 ≤ b.1)) buses, tops := topDyn, status := v.status, alarms := adm.1, fresh := false,
             era := d.era, admin := adminClears v old adm.1 }
    shown := ⟨tops.map (row .topo) ++ coh.flatMap (fun p => p.2.2.1.map (row .elec)), labels⟩
    refs := (coh.filter (fun p => p.2.2.2.2)).length
    raised := adm.2.1 + (if adm.2.2 then 1 else 0)
    many := adm.2.2
    full := d.fresh || decide (256 < (v.status.filter (fun p => lookup d.status p.1 != some p.2)).length) }

/-! ### Hand-over -/

def State.islHanded (s : State) (key : Nat) : Handed := fetch (fun _ => Handed.blank) s.isl.handed key

/-- The code of a kind in an event. -/
def IslKind.code : IslKind → Nat
  | .topo => 0
  | .elec => 1
  | .many => 2

/-- The alarms published under a key: where a topology and an electrical island share it, the further one shows. -/
def State.alarmOf (s : State) (key : Nat) : Option IslAlarm :=
  let l := s.isl.dyn.alarms.filter (fun a => a.pub == key)
  match l.find? IslAlarm.commit with
  | some a => some a
  | none => l.head?

/-- The alarm of a key as a limit alarm's code: 0 inactive, 1 PROVISIONAL, 2 COMMITTED. -/
def alarmCode : Option IslAlarm → Nat
  | some a => if a.commit then 2 else 1
  | none => 0

/-- An alarm's state taken as handed over: one that left keeps what it carried. -/
def markHanded (k : Nat) (m : List (Nat × Handed)) (key : Nat) (st : Fin 4) (a : Option IslAlarm) : List (Nat × Handed) :=
  let h := fetch (fun _ => Handed.blank) m key
  store (fun _ => Handed.blank) m key (match a with
    | some x => ⟨st, if st = 1 then x.since else k, x.kind.code, x.live.length, x.degraded, x.injected⟩
    | none => { h with st := st, k := k })

/-- The island alarms' changes since the last hand-over, taken as handed over; an event is recorded for each that became COMMITTED or CLEARED
(class 17), and the retractions (R239). An alarm that an evaluation cleared administratively goes with its cause (R316). -/
def State.islHandOver (s : State) (g k kmax : Nat) (t : Instant) : List AlarmChange × State :=
  let keys := (s.isl.dyn.alarms.map IslAlarm.pub) ++ (s.isl.handed.map (·.1))
  let all := (keys.foldl (fun (l : List Nat) x => if l.contains x then l else l ++ [x]) [])
  let ch := all.filterMap (fun key =>
    (nextHanded (alarmCode (s.alarmOf key)) (s.islHanded key) kmax).map (fun st => (key, st, s.alarmOf key)))
  let s1 := s.setIsl (fun a => { a with handed := ch.foldl (fun m p => markHanded k m p.1 p.2.1 p.2.2) a.handed })
  let s2 := (ch.filter (fun p => p.2.1 == 2 || p.2.1 == 0)).foldl (fun s p =>
    s.raiseAs (s1.islHanded p.1).injected 17 (((s1.islHanded p.1).live : Rat)) ([word (s1.islHanded p.1).kind, word p.1, word p.2.1.val] ++ instantWords t)) s1
  let s3 := s2.noteRetractions g t ((ch.filter (fun p => p.2.1 == 3)).map (fun p => (1, p.1)))
  (sortBy (fun a b => decide (a.key ≤ b.key)) (ch.map (fun p =>
    ⟨1, p.1, p.2.1, (s1.islHanded p.1).degraded, (s1.islHanded p.1).injected,
      if p.2.1 = 1 || p.2.1 = 2 then none else lookup s.isl.dyn.admin p.1⟩)), s3)

/-! ### Evaluation with its checkpoints (R293, R296) -/

/-- Whether the engine evaluates views. -/
def State.islOn (s : State) : Bool := s.rb Reg.ISL_CTL 0 && s.isl.active.isSome

/-- The counters and status bits of an evaluation. -/
def State.noteEval (s : State) (v : View) (o : IslOut) : State :=
  let s1 := ((s.islCount (if v.commit then 1 else 0) 1).islCount 10 o.refs).islCount 11 o.raised
  let s2 := if o.many then s1.islCount 12 1 else s1
  let s3 := if o.full then (s2.islCount 2 1).status Reg.ISL_STAT 2 else s2
  let s4 := if v.missing.isEmpty then s3 else (s3.islCount 9 v.missing.length).status Reg.ISL_STAT 4
  if o.raised = 0 then s4 else s4.status Reg.ISL_STAT 1

/-- How many items an evaluation changed. -/
def changedItems (a b : IslDyn) : Nat :=
  (b.buses.filter (fun p => !a.buses.contains p)).length + (b.tops.filter (fun p => !a.tops.contains p)).length +
  (b.status.filter (fun p => !a.status.contains p)).length + (b.alarms.filter (fun p => !a.alarms.contains p)).length +
  (a.alarms.filter (fun p => !b.alarms.contains p)).length

/-- Bytes of the journals in flight. -/
def State.journalBytes (s : State) : Nat := total (s.isl.ckpts.map IslCkpt.bytes)

/-- A provisional view evaluated under its checkpoint, or abandoned where its journal would not fit (R296). -/
def State.islProv (s : State) (m : Model) (v : View) : State :=
  let d := s.isl.dyn
  let o := islEval (s.islSettings v.fr) m (s.eraAt v.t) d v
  let n := changedItems d o.dyn
  let bytes := if n = 0 then 0 else Config.islJournalBytes n
  if s.journalBytes + bytes ≤ 1310720 then
    let s1 := (s.setIsl (fun a => { a with dyn := o.dyn, ckpts := a.ckpts ++ [⟨v, d, o.shown, bytes, false⟩] })).noteEval v o
    s1.setRf Reg.ISL_JOURNAL 26 16 (max (s1.rf Reg.ISL_JOURNAL 26 16) (ceilDiv s1.journalBytes 1024))
  else
    ((s.setIsl (fun a => { a with ckpts := a.ckpts ++ [⟨v, d, o.shown, 0, true⟩] })).islCount 3 1).status Reg.ISL_STAT 3

/-- A committed view in force: its branch status is held from now on, and its islands are shown; models that only earlier instants had are let go. -/
def State.showView (s : State) (v : View) (x : IslShow) : State :=
  s.setIsl (fun a => { a with
    held := v.status, shown := x, present := v.present, missing := v.missing, olds := a.olds.filter (fun p => decide (v.t < p.1)) })

/-- A committed view evaluated. -/
def State.islCommitView (s : State) (m : Model) (v : View) : State :=
  let o := islEval (s.islSettings v.fr) m (s.eraAt v.t) s.isl.dyn v
  ((s.setIsl (fun a => { a with dyn := o.dyn })).noteEval v o).showView v o.shown

/-- The checkpoints from instant `k` on undone and dropped; their views, oldest first. -/
def State.islRestore (s : State) (k : Nat) : List View × State :=
  let l := s.isl.ckpts.filter (fun c => decide (k ≤ c.view.k))
  let d := (l.reverse.foldl (fun d c => if c.skipped then d else c.saved) s.isl.dyn)
  (l.map IslCkpt.view, s.setIsl (fun a => { a with dyn := d, ckpts := a.ckpts.filter (fun c => decide (c.view.k < k)) }))

/-- A committed view evaluated in place of a provisional one, and the later ones in flight evaluated anew (R228, R297): the changes of each. -/
def State.islCommitEval (s : State) (m : Model) (v : View) : List (Nat × Instant × List AlarmChange) × State :=
  let r := s.islRestore v.k
  let s1 := (r.2.islCommitView m v).issueBarrier Isle.nose
  let h := s1.islHandOver m.group v.k v.k v.t
  (r.1.filter (fun y => decide (v.k < y.k))).foldl (fun acc y =>
    let s2 := acc.2.islProv m y
    let hy := s2.islHandOver m.group y.k y.k y.t
    (acc.1 ++ [(y.k, y.t, hy.1)], hy.2)) ([(v.k, v.t, h.1)], h.2)

/-- What a CONFIRM does to the alarms: those raised at the instant are COMMITTED, clears found at it take effect, and alarms are published from now on
under the keys they had in its view, `names`. -/
def confirmAlarms (k : Nat) (names : List (IslKind × Nat × Nat)) (l : List IslAlarm) : List IslAlarm :=
  (l.filter (fun a => a.clrPend != some k)).map (fun a =>
    { a with
      commit := a.commit || a.since == k
      pub := match names.find? (fun p => p.1 == a.kind && p.2.1 == a.pub) with
        | some p => p.2.2
        | none => a.pub })

/-- Kind, published key and key of the alarms as the evaluation of an instant left them. -/
def State.namesAfter (s : State) (k : Nat) : List (IslKind × Nat × Nat) :=
  let d := match s.isl.ckpts.find? (fun c => decide (k < c.view.k)) with
    | some c => c.saved
    | none => s.isl.dyn
  d.alarms.map (fun a => (a.kind, a.pub, a.key))

/-- The provisional view of an instant stands (R227). -/
def State.islConfirm (s : State) (m : Model) (c : IslCkpt) : List (Nat × Instant × List AlarmChange) × State :=
  let v := c.view
  let names := s.namesAfter v.k
  let s1 := (s.setIsl (fun a => { a with
    dyn := { a.dyn with alarms := confirmAlarms v.k names a.dyn.alarms },
    ckpts := (a.ckpts.filter (fun x => x.view.k != v.k)).map (fun x => { x with
      saved := { x.saved with alarms := confirmAlarms v.k names x.saved.alarms } }) })).showView { v with commit := true } c.shown
  let h := s1.islHandOver m.group v.k v.k v.t
  ([(v.k, v.t, h.1)], h.2)

/-- The island engine takes a committed snapshot without the ring: confirmed where its provisional evaluation stands, else evaluated. -/
def State.islCommit (s : State) (m : Model) (x : Snapshot) (confirmed : Bool) : List (Nat × Instant × List AlarmChange) × State :=
  match s.isl.ckpts.find? (fun c => c.view.k == x.k) with
  | some c => if confirmed && !c.skipped then s.islConfirm m c else s.islCommitEval m (s.ownView m x)
  | none => s.islCommitEval m (s.ownView m x)

/-- Whether an instant on its way through the ring exchange belongs to an epoch that has ended. -/
def State.oldRing (s : State) (r : RingInst) : Bool :=
  match r.commit.or r.prov with
  | some x => x.epoch != s.time.epoch
  | none => false

/-- A flush: the state of the oldest flushed instant restored, which after a step is one whose ring commit the old epoch no longer saw, and the old
epoch's packets dropped (Table 9-10). -/
def State.islFlush (s : State) (g k0 : Nat) (t : Instant) : List AlarmChange × State :=
  let k := ((s.isl.ring.filter s.oldRing).map RingInst.k).foldl min k0
  let r := s.islRestore k
  let top := (r.1.map View.k).foldl max k
  let s1 := r.2.setIsl (fun a => { a with
    dyn := { a.dyn with admin := [] }
    ring := a.ring.filter (fun x => decide (x.k < k)), packets := a.packets.filter (fun p => p.epoch == s.time.epoch) })
  s1.islHandOver g k top t

/-- One instant's changes of both engines reach Atomizer as one batch, by source and key (R317). -/
def State.batch (s : State) (g : Nat) (t : Instant) (l : List AlarmChange) : State :=
  if l.isEmpty then s
  else { s with batches := s.batches ++ [⟨g, t, sortBy (fun a b => decide (a.src < b.src) || (a.src == b.src && decide (a.key ≤ b.key))) l⟩] }

/-- The island group stops: the engine is idle and every island alarm clears with cause STOP, as of the stop instant (Table 9-10). -/
def State.islStop (s : State) (g : Nat) (t : Instant) : State :=
  match s.isl.active with
  | some m =>
    if m.group != g then s
    else
      let s1 := s.setIsl (fun a => { a with
        dyn := { freshDyn [] with era := a.eras, admin := a.handed.map (fun p => (p.1, .stop)) }, ckpts := [], ring := [], packets := [] })
      let top := (s.isl.handed.map (fun p => p.2.k)).foldl max 0
      let h := s1.islHandOver g top top t
      h.2.batch g t h.1
  | none => s

/-- A reset of the Nose island (Table 9-10, R301): the models and what they show stay; alarms are tried again at the first committed view, and
a PROVISIONAL one is withdrawn by Atomizer. -/
def State.resetIslands (s : State) : State :=
  s.setIsl (fun a => { a with
    dyn := { freshDyn ((a.dyn.alarms.filter IslAlarm.commit).map (fun x => { x with trial := some .restart, clrPend := none, absent := 0 })) with
      era := a.eras }
    ckpts := [], ring := [], packets := [], held := []
    handed := a.handed.filter (fun p => p.2.st != 1) })

end Sys2Proof.Machine
end

