-- ==== Sys2Proof/Machine/AccordOps.lean ====
section
/-! DEFINITION. Operations of alignment and speculation (chapters 06 and 07): groups and their settings, assemblies, predictors, provisional
issue, commit with its check, the ledger, and flushes. -/

namespace Sys2Proof.Machine

def State.setAln (s : State) (f : AccordPart → AccordPart) : State := { s with aln := f s.aln }

/-! ### Groups and their settings (Tables 6-14 and 6-15) -/

def State.group (s : State) (g : Nat) : Group := (s.aln.groups[g]?).getD idleGroup

def State.updGroup (s : State) (g : Nat) (f : Group → Group) : State :=
  s.setAln (fun a => { a with groups := updAt a.groups g f })

/-- A group counter of Table 6-11 by its position. -/
def State.alnCount (s : State) (g i n : Nat) : State := s.count (Reg.ALN_GRP_CNT g i) n

/-- A group counter of Table 7-10 by its position. -/
def State.splCount (s : State) (g i n : Nat) : State := s.count (Reg.SPL_GRP_CNT g i) n

/-- The settings of a group as its registers hold them. -/
def State.grpWords (s : State) (g : Nat) : GrpWords :=
  ⟨s.reg (Reg.ALN_GRP_CTL g), s.reg (Reg.ALN_GRP_WAIT g), s.reg (Reg.ALN_GRP_TOL g)⟩

/-- The reporting rate: codes 12 to 15 are taken as 6. -/
def GrpWords.fr (w : GrpWords) : Nat := rateOf (if 11 < fld w.ctl 3 0 then 6 else fld w.ctl 3 0)

/-- W in ms: 1 to 10,000. -/
def GrpWords.waitMs (w : GrpWords) : Nat := clamp 1 10000 (fld w.wait 13 0)

/-- d in units of 100 µs: 5 to 10 × wait_ms. -/
def GrpWords.dead (w : GrpWords) : Nat := clamp 5 (10 * w.waitMs) (fld w.wait 30 14)

def GrpWords.wait_ (w : GrpWords) : Nat := ms w.waitMs
def GrpWords.deadline (w : GrpWords) : Nat := us (100 * w.dead)

/-- snap_tol as a span: at most 1,000 µs. -/
def GrpWords.tolSpan (w : GrpWords) : Nat := us (min 1000 (fld w.tol 9 0))

def GrpWords.minFill (w : GrpWords) : Nat := min 100 (fld w.ctl 15 8)
def GrpWords.fillMissing (w : GrpWords) : Bool := bit w.ctl 7
def GrpWords.histEn (w : GrpWords) : Bool := bit w.ctl 6

/-- The ledger depth: 64 with spec_max. -/
def GrpWords.depth (w : GrpWords) : Nat := if bit w.ctl 22 then 64 else fld w.ctl 21 16

/-- The first reporting instant at or after an instant, as its number (R185). -/
def firstK (t : Instant) (fr : Nat) : Nat := ceilDiv (t * fr) (sec 1)

def State.grpFr (s : State) (g : Nat) : Nat := (s.grpWords g).fr

/-- Whether a pending change is in force for instant `k`. -/
def GrpChange.covers (c : GrpChange) (k : Nat) : Bool := decide (c.k ≤ k)

/-- The replaced settings that hold for instant `k`. -/
def Group.wasFor (x : Group) (k : Nat) : Option GrpWas := x.was.find? (fun p => decide (k < p.untilK))

/-- The settings in force for instant `k` (R204). -/
def State.wordsFor (s : State) (g k : Nat) : GrpWords :=
  match (s.group g).wasFor k, (s.group g).pend with
  | some p, _ => p.words
  | none, some c => if c.covers k then c.words else s.grpWords g
  | none, none => s.grpWords g

/-- The channel set in force for instant `k`, with its version (R204, R205). -/
def State.setFor (s : State) (g k : Nat) : List Nat × Nat :=
  let x := s.group g
  match x.wasFor k, x.pend with
  | some p, _ => (p.set, p.setVer)
  | none, some c => match c.set with
    | some l => if c.covers k then (l, (x.setVer + 1) % 65536) else (x.set, x.setVer)
    | none => (x.set, x.setVer)
  | none, none => (x.set, x.setVer)

/-! ### The channel table (R186, Table 6-11) -/

def State.chanWord (s : State) (c : Nat) : Word := fetch (fun _ => 0#32) s.aln.chans c

def State.setChanWord (s : State) (c : Nat) (w : Word) : State :=
  s.setAln (fun a => { a with chans := store (fun _ => 0#32) a.chans c w })

/-- The group that holds a channel. -/
def State.chanGroup (s : State) (c : Nat) : Option Nat := if bit (s.chanWord c) 31 then some (fld (s.chanWord c) 28 24) else none

/-- The predictor class of a channel in force now: a change waits for a deadline of its group (R215). -/
def State.classOf (s : State) (c : Nat) : Nat :=
  match lookup s.aln.cls c with
  | some x => x.cur.val
  | none => fld (s.chanWord c) 19 16

def State.classVals (s : State) (n : Nat) : ClassVals := (s.aln.classes[n]?).getD resetClass

/-! ### Predictors (R219 to R224) -/

def ClassVals.kind (c : ClassVals) : Nat := fld c.ctl 1 0
def ClassVals.maxAge (c : ClassVals) : Nat := max 1 (fld c.ctl 15 8)

/-- mag_floor: the upper half of a binary32; 1.0 where it is zero, negative or not a number, none where it is infinite. -/
def ClassVals.magFloor (c : ClassVals) : Option Rat :=
  let w := c.ctl &&& 0xFFFF0000#32
  if F32.isInf w && !bit w 31 then none
  else if F32.isFinite w && decide (0 < F32.toRat w) then some (F32.toRat w) else some 1

def State.predHist (s : State) (c : Nat) : List PredVal := (lookup s.aln.hist c).getD []

/-- Seconds between two instants. -/
def secondsBetween (a b : Instant) : Rat := ((a : Int) - (b : Int) : Int) / (sec 1 : Rat)

/-- The linear extrapolation of Table 7-2. -/
def linear (v1 v2 : Word) (d h : Rat) : Word :=
  F32.arith [v1, v2] (fun l => match l with
    | [a, b] => a + quot ((a - b) * d) h
    | _ => 0)

/-- The parabola through (0, v1), (−h2, v2) and (−h3, v3), at `d`. -/
def parabola (v1 v2 v3 d h2 h3 : Rat) : Rat :=
  v1 * quot ((d + h2) * (d + h3)) (h2 * h3) + v2 * quot (d * (d + h3)) (h2 * (h2 - h3)) + v3 * quot (d * (d + h2)) (h3 * (h3 - h2))

def magOf (v : PredVal) : Rat := Elem.sqrt (F32.toRat v.w0 * F32.toRat v.w0 + F32.toRat v.w1 * F32.toRat v.w1)
def angOf (v : PredVal) : Rat := Elem.arg (F32.toRat v.w0) (F32.toRat v.w1)

/-- A phasor from magnitude and angle in turns. -/
def fromPolar (ws : List Word) (m a : Rat) : Word × Word :=
  if ws.all F32.isFinite then (F32.conv (m * (Elem.cosSin a).1), F32.conv (m * (Elem.cosSin a).2))
  else (Config.nonFinite ws, Config.nonFinite (0#32 :: ws))

/-- Δ × Fr, in instants (R222). Instants are held rounded toward zero (R185); a number of instants that misses a whole one by that rounding only is
the whole one. -/
def agedBy (t t1 : Instant) (fr : Nat) : Rat :=
  let x := secondsBetween t t1 * (fr : Rat)
  let n : Rat := ((x + 1 / 2).floor : Rat)
  if -(1 / 1000000) < x - n && x - n < 1 / 1000000 then n else x

/-- Which predictor applies (R220, R222): the class's kind, lowered where the history is too short, NONE where it is empty or too old. -/
def kindFor (cls : ClassVals) (ty : Option ChanType) (h : List PredVal) (t : Instant) (fr : Nat) : Nat :=
  match h with
  | [] => 3
  | v :: _ =>
    if (cls.maxAge : Rat) < agedBy t v.t fr then 3
    else if ty = some .digital then (if cls.kind = 3 then 3 else 0)
    else if cls.kind = 3 then 3
    else min cls.kind (h.length - 1)

/-- The frequency offset f − f0 at instant t1 from the frequency reference of a phasor (R221). -/
def State.freqOffset (s : State) (c : Nat) (t1 : Instant) : Option Rat :=
  match s.freqRef c with
  | some (fc, f0) => match (s.predHist fc).find? (fun v => v.t == t1) with
    | some v => if F32.isFinite v.w0 then some (F32.toRat v.w0 - f0) else none
    | none => none
  | none => none

/-- A predicted value of a channel for instant t (Table 7-2): the words and the kind used. -/
def State.predict (s : State) (c : Nat) (cls : ClassVals) (t : Instant) (fr : Nat) : (Word × Word) × Nat :=
  let ty := s.chanType c
  let h := s.predHist c
  let kind := kindFor cls ty h t fr
  match kind, h with
  | 0, v :: _ => ((v.w0, v.w1), 0)
  | 1, v1 :: v2 :: _ =>
    let d := secondsBetween t v1.t
    let h2 := secondsBetween v1.t v2.t
    if ty = some .phasor then
      let m := magOf v1 + quot ((magOf v1 - magOf v2) * d) h2
      let adv := match s.freqOffset c v1.t with
        | some f => f * d
        | none => quot (wrapTurn (angOf v1 - angOf v2) * d) h2
      (fromPolar [v1.w0, v1.w1, v2.w0, v2.w1] m (angOf v1 + adv), 1)
    else ((linear v1.w0 v2.w0 d h2, 0#32), 1)
  | 2, v1 :: v2 :: v3 :: _ =>
    let d := secondsBetween t v1.t
    let h2 := secondsBetween v1.t v2.t
    let h3 := secondsBetween v1.t v3.t
    if ty = some .phasor then
      let a1 := angOf v1
      let a2 := a1 - wrapTurn (a1 - angOf v2)
      let a3 := a2 - wrapTurn (a2 - angOf v3)
      (fromPolar [v1.w0, v1.w1, v2.w0, v2.w1, v3.w0, v3.w1] (parabola (magOf v1) (magOf v2) (magOf v3) d h2 h3)
        (parabola a1 a2 a3 d h2 h3), 2)
    else ((F32.arith [v1.w0, v2.w0, v3.w0] (fun l => match l with
      | [a, b, e] => parabola a b e d h2 h3
      | _ => 0), 0#32), 2)
  | _, _ => (missingPattern ty, 3)

/-- The pstate word of a predicted record (R224). -/
def State.predState (s : State) (c cls kind : Nat) (t : Instant) (fr : Nat) : Word :=
  let age := match s.predHist c with
    | [] => Config.noHistoryAge
    | v :: _ => (secondsBetween t v.t * (fr : Rat) + 1 / 2).floor.toNat
  put 31 24 (min 255 age) ||| put 23 20 cls ||| put 19 18 kind

/-- The THR_STATE bits of the last history value of an estimated channel (R223). -/
def State.lastThr (s : State) (c : Nat) : Nat :=
  if estimatedBase ≤ c then (match s.predHist c with
    | v :: _ => 1024 * v.thr
    | [] => 0)
  else 0

/-- A provisional record of a channel without a value (R218, R223, R224). -/
def State.predictedRec (s : State) (c : Nat) (cls : ClassVals) (n : Nat) (t : Instant) (fr : Nat) : Rec × Nat :=
  let p := s.predict c cls t fr
  (⟨c, p.1.1, p.1.2, 1 + s.lastThr c, 0xFFFF, s.predState c n p.2 t fr⟩, p.2)

/-- The record of a value (R198, R224). -/
def State.valueRec (s : State) (c : Nat) (v : AsmVal) (t : Instant) : Rec :=
  ⟨c, v.w0, v.w1, v.flags + (if v.late then 2 else 0), arrivalField v.arrival t, put 23 20 (s.classOf c)⟩

/-- The committed record of a channel without a value (R196, R199). -/
def State.missingRec (s : State) (c : Nat) (fill : Bool) (t : Instant) (fr : Nat) : Rec :=
  let n := s.classOf c
  if fill then
    let p := s.predict c (s.classVals n) t fr
    ⟨c, p.1.1, p.1.2, 5, 0xFFFF, s.predState c n p.2 t fr⟩
  else
    let m := missingPattern (s.chanType c)
    ⟨c, m.1, m.2, 4, 0xFFFF, put 23 20 n⟩

/-- The value of a channel in an assembly. -/
def Asm.val (a : Asm) (c : Nat) : Option AsmVal := lookup a.vals c

/-! ### Opening assemblies (R187, R189, R202, R206) -/

/-- Whether a group has assemblies: it is STARTING, RUNNING or STOPPING. -/
def Group.active (x : Group) : Bool := x.st != .stopped

/-- The assembly of instant `k`, with the settings and the set in force for it. -/
def State.newAsm (s : State) (g k : Nat) : Asm :=
  let w := s.wordsFor g k
  let l := s.setFor g k
  { k := k, t := reportInstant k w.fr, words := w, setVer := l.2, set := l.1, vals := [], issued := none, closed := false, guardEnd := false,
    trig := false, acked := false }

/-- Whether instant `k` may have an assembly: it lies before the stop instant of a STOPPING group. -/
def Group.mayOpen (x : Group) (k : Nat) : Bool := x.active && (x.st != .stopping || decide (k < x.stopK))

/-- The next assembly of a group opened. -/
def State.openNext (s : State) (g : Nat) : State :=
  let x := s.group g
  if x.mayOpen x.nextOpen then
    s.updGroup g (fun x => { x with asms := x.asms ++ [s.newAsm g x.nextOpen], nextOpen := x.nextOpen + 1 })
  else s

/-- Every assembly opened whose instant, less the tolerance, has come. -/
def State.openDue (s : State) (g : Nat) : State :=
  let x := s.group g
  let fr := s.grpFr g
  let upTo := (s.now + us 1000) * fr / sec 1 + 1
  ((upto (upTo - x.nextOpen)).foldl (fun s _ =>
    let k := (s.group g).nextOpen
    let w := s.wordsFor g k
    if reportInstant k w.fr ≤ s.now + w.tolSpan then s.openNext g else s)) s

/-- The assembly of instant `k`. -/
def Group.asm (x : Group) (k : Nat) : Option Asm := x.asms.find? (fun a => a.k == k)

def State.updAsm (s : State) (g k : Nat) (f : Asm → Asm) : State :=
  s.updGroup g (fun x => { x with asms := x.asms.map (fun a => if a.k == k then f a else a) })

/-! ### The ledger (R233 to R235) -/

/-- The entry of a group's instant that is not FREE. -/
def State.entryOf (s : State) (g k : Nat) : Option (Nat × LedgerEntry) :=
  s.aln.ledger.find? (fun p => p.2.group == g && p.2.k == k && p.2.st != .free)

def State.updEntry (s : State) (i : Nat) (f : LedgerEntry → LedgerEntry) : State :=
  s.setAln (fun a => { a with ledger := a.ledger.map (fun p => if p.1 == i then (p.1, f p.2) else p) })

/-- Entries that are not FREE. -/
def State.ledgerUsed (s : State) : Nat := (s.aln.ledger.filter (fun p => p.2.st != .free)).length

/-- Entries a group holds (R235). -/
def State.held (s : State) (g : Nat) : Nat := (s.aln.ledger.filter (fun p => p.2.group == g && p.2.st != .free)).length

/-- The lowest FREE entry of the 2,048. -/
def State.freeEntry (s : State) : Option Nat :=
  (upto 2048).find? (fun i => match lookup s.aln.ledger i with
    | some e => e.st == .free
    | none => true)

/-- An entry becomes FREE (R234). -/
def State.retire (s : State) (g k : Nat) : State :=
  match s.entryOf g k with
  | some (i, _) => s.updEntry i (fun e => { e with st := .free })
  | none => s

/-! ### Committed snapshots (R193, R196, R200) -/

/-- The reporting instant nearest to a measurement instant, the earlier one half-way between two (R187). -/
def nearestK (t : Instant) (fr : Nat) : Nat :=
  let k := t * fr / sec 1
  let below := t - reportInstant k fr
  let above := reportInstant (k + 1) fr - t
  if above < below then k + 1 else k

/-- Whether a channel of an assembly without a value had it withheld by an injected fault: a mark names the channel and the instant (R577). -/
def State.withheld (s : State) (a : Asm) : Bool :=
  s.flt.marks.any (fun m => a.set.contains m.1 && (lookup a.vals m.1).isNone &&
    nearestK m.2 a.words.fr == a.k)

/-- The committed snapshot of an assembly. -/
def State.commitSnapshot (s : State) (g : Nat) (a : Asm) : Snapshot :=
  Snapshot.sealed {
    group := g, committed := true, lowFill := decide (a.vals.length * 100 < a.words.minFill * a.set.length),
    fillMissing := a.words.fillMissing, setVer := a.setVer, epoch := s.time.epoch, k := a.k, fr := a.words.fr, t := a.t,
    seq := s.reg (Reg.ALN_GRP_SEQ g) + 1#32, module := s.ownIndex, digest := 0, takenUs := min 0xFFFFFFFF ((s.now - a.t) / us 1),
    waitMs := a.words.waitMs, dead := a.words.dead,
    recs := a.set.map (fun c => match a.val c with
      | some v => s.valueRec c v a.t
      | none => s.missingRec c a.words.fillMissing a.t a.words.fr)
    withheld := s.withheld a }

/-! ### Triggers (R192, R194, R490, R491) -/

/-- The inclusion list of an assembly whose commit is triggered (Table 17-3); `forced` after a commit without acknowledgement (R494). -/
def State.inclusionList (s : State) (g : Nat) (a : Asm) : InclusionList :=
  let earlier := ((s.group g).asms.filter (fun b => decide (b.k < a.k))).length
  let x0 := s.commitSnapshot g a
  let x := Snapshot.sealed { x0 with seq := x0.seq + BitVec.ofNat 32 earlier }
  { group := Fin.ofNat 32 g, forced := s.pair.forced.contains g, setVer := a.setVer, epoch := s.time.epoch, t := a.t, seq := x.seq,
    digest := x.digest, mirrorCnt := (s.cmd.flights.filter (fun f => f.st == .mirroring)).length,
    arrivals := x.recs.map (·.arr), lates := x.recs.map (fun r => r.has 1), crcOk := true }

/-- The commit of an instant is triggered: its entry is CHECKING, and in a pair the active sends the inclusion list. -/
def State.trigger (s : State) (g k : Nat) : State :=
  let s1 := s.updAsm g k (fun a => { a with trig := true })
  let s2 := match s1.entryOf g k with
    | some (i, _) => s1.updEntry i (fun e => { e with st := .checking })
    | none => s1
  match (s2.group g).asm k with
  | some a =>
    if s2.sendsLists || (s2.pair.st == .solo && s2.pair.forced.contains g) then
      let s3 := (s2.peerOut (.list (s2.inclusionList g a))).setPair (fun p => { p with forced := p.forced.filter (· != g) })
      if s3.commitsByAck then s3.setAln (fun p => { p with lists := p.lists ++ [⟨g, k, s3.up + us s3.ackUs⟩] }) else s3
    else s2
  | none => s2

/-- A set is complete when every channel of it holds a value; an empty one never is (R192, R195). -/
def Asm.complete (a : Asm) : Bool := !a.set.isEmpty && a.set.length == a.vals.length

/-- Whether the standby holds the list of an instant: values that come after it are dropped as for a committed instant (R491). -/
def State.listed (s : State) (g k : Nat) : Bool := s.pair.work.any (fun w => w.list.group.val == g && w.k == k)

/-- A value placed in an open assembly (R189 to R192, R491, Table 6-1). -/
def State.placeValue (s : State) (g : Nat) (v : ChanValue) (a : Asm) : State :=
  let delta := arrivalDelta v.arrival a.t
  if !a.set.contains v.chan then s.count (Reg.ALN_CNT 1) 1
  else if (a.words.wait_ : Int) < delta || a.t + a.words.wait_ + us 20 < s.now then (s.alnCount g 3 1).status Reg.ALN_STAT 1
  else if (a.val v.chan).isSome then s.alnCount g 4 1
  else if a.trig || s.listed g a.k then (s.alnCount g 3 1).status Reg.ALN_STAT 1
  else
    let late := decide ((a.words.deadline : Int) < delta)
    let s1 := s.updAsm g a.k (fun a => { a with vals := setKey a.vals v.chan ⟨v.w0, v.w1, v.flags, v.arrival, late⟩ })
    let s2 := if late then s1.alnCount g 1 1 else s1
    match (s2.group g).asm a.k with
    | some b => if b.complete && !s2.followsLists then s2.trigger g a.k else s2
    | none => s2

/-- Distance of two instants. -/
def apart (a b : Instant) : Nat := (a - b) + (b - a)

/-- The group a value goes to: one whose set held the channel for its instant before a change, else the one that holds the channel. -/
def State.valueGroup (s : State) (v : ChanValue) : Option Nat :=
  match (upto 32).find? (fun g => (s.group g).active && (match (s.group g).wasFor (nearestK v.t (s.grpFr g)) with
      | some p => p.set.contains v.chan
      | none => false)) with
  | some g => some g
  | none => s.chanGroup v.chan

/-- A value reaches Accord (R186 to R191, R205). -/
def State.acceptValue (s : State) (v : ChanValue) : State :=
  let drop := s.count (Reg.ALN_CNT 1) 1
  match s.valueGroup v with
  | none => drop
  | some g =>
    if !s.rb Reg.ALN_CTL 0 || !(s.group g).active then drop
    else
      let fr := s.grpFr g
      let k := nearestK v.t fr
      let w := s.wordsFor g k
      let t := reportInstant k fr
      if w.tolSpan < apart v.t t then s.alnCount g 6 1
      else if !(s.setFor g k).1.contains v.chan then drop
      else if v.epoch = s.time.epoch && decide (arrivalDelta v.arrival t < -(w.tolSpan : Int)) then s.alnCount g 5 1
      else
        let late := (s.alnCount g 3 1).status Reg.ALN_STAT 1
        let s1 := s.openDue g
        match (s1.group g).asm k with
        | some a => if v.epoch = s.time.epoch then s1.placeValue g v a else late
        | none => late

/-! ### Provisional issue (R216 to R218, R233, R236) -/

/-- The provisional snapshot of an assembly: every channel without a value is predicted. -/
def State.provSnapshot (s : State) (g : Nat) (a : Asm) : Snapshot :=
  let earlier := ((s.group g).asms.filter (fun b => decide (b.k < a.k))).length
  Snapshot.sealed {
    group := g, committed := false, lowFill := decide (a.vals.length * 100 < a.words.minFill * a.set.length),
    fillMissing := a.words.fillMissing, setVer := a.setVer, epoch := s.time.epoch, k := a.k, fr := a.words.fr, t := a.t,
    seq := s.reg (Reg.ALN_GRP_SEQ g) + 1#32 + BitVec.ofNat 32 earlier, module := s.ownIndex, digest := 0,
    takenUs := min 0xFFFFFFFF ((s.now - a.t) / us 1), waitMs := a.words.waitMs, dead := a.words.dead,
    recs := a.set.map (fun c => match a.val c with
      | some v => s.valueRec c v a.t
      | none => (s.predictedRec c (s.classVals (s.classOf c)) (s.classOf c) a.t a.words.fr).1)
    withheld := s.withheld a }

/-- The predicted channels of an assembly with their classes as at the issue. -/
def State.predChans (s : State) (a : Asm) : List PredChan :=
  (a.set.filter (fun c => (a.val c).isNone)).map (fun c =>
    let cls := s.classVals (s.classOf c)
    let r := s.predictedRec c cls (s.classOf c) a.t a.words.fr
    ⟨r.1, cls, r.2⟩)

/-- A pending change of classes takes effect at the first deadline 100 ms after its acceptance (R238). -/
def State.applyClasses (s : State) : State :=
  match s.aln.clsPend with
  | some u =>
    if u ≤ s.up then
      s.setAln (fun a => { a with
        clsPend := none, clsVer := a.clsVer + 1
        classes := (upto 16).map (fun c => ⟨s.reg (Reg.SPL_CLASS_CTL c), s.reg (Reg.SPL_CLASS_TOL_MAG c), s.reg (Reg.SPL_CLASS_TOL_ANG c),
          s.reg (Reg.SPL_CLASS_TOL_ABS c)⟩) })
    else s
  | none => s

/-- Class changes of channels that have taken effect, folded in (R215). -/
def State.foldClasses (s : State) (l : List Nat) : State :=
  l.foldl (fun s c => match lookup s.aln.cls c with
    | some x =>
      let rest := x.next.filter (fun p => decide (s.up < p.1))
      if rest.isEmpty then s.setAln (fun a => { a with cls := dropKey a.cls c })
      else s.setAln (fun a => { a with cls := setKey a.cls c ⟨(x.next.filter (fun p => decide (p.1 ≤ s.up))).foldl (fun _ p => p.2) x.cur, rest⟩ })
    | none => s) s

/-- Resumption of a suspended group (R236): the speculation-stall record. -/
def State.resumeSpec (s : State) (g : Nat) : State :=
  match (s.group g).susp with
  | some x =>
    (s.updGroup g (fun y => { y with susp := none })).raise 7 (x.count : Rat)
      ([word g] ++ instantWords x.first ++ instantWords x.last ++ [word x.count])
  | none => s

/-- An instant not issued while its group is, or becomes, suspended (R236). -/
def State.noteSuspended (s : State) (g : Nat) (t : Instant) : State :=
  (s.splCount g 4 1).updGroup g (fun y => { y with susp := match y.susp with
    | some x => some ⟨x.first, t, x.count + 1⟩
    | none => some ⟨t, t, 1⟩ })

/-- Issue: entry, snapshot and handover (R216, R233). -/
def State.issue (s : State) (g i : Nat) (a : Asm) : State :=
  let x := s.provSnapshot g a
  let e : LedgerEntry := ⟨.issued, g, a.k, a.t, s.time.epoch, a.setVer, fineOf s.now, s.aln.clsVer, s.predChans a, 0, false⟩
  let s1 := (s.setAln (fun p => { p with
    ledger := setKey p.ledger i e, nose := p.nose ++ [.prov x], pub := p.pub ++ [x] })).updAsm g a.k (fun b => { b with issued := some x })
  let s2 := s1.splCount g 0 1
  (s2.setReg Reg.SPL_LEDGER_PEAK (word (max (s2.rf Reg.SPL_LEDGER_PEAK 11 0) s2.ledgerUsed))).sendSummary x

/-- The values whose crossing completes in the present cycle and that the queue has still to give (R190, R217). -/
def State.crossingNow (s : State) : Nat := (s.pending.filter (fun c => match c with
  | .accordValueReceive a => a == s.now
  | _ => false)).length

/-- Whether the commit of an instant is triggered in the present cycle, by its assembly or by a value whose crossing completes in it (R217). -/
def State.triggersNow (s : State) (g : Nat) (a : Asm) : Bool :=
  a.trig || (match ((((s.ing.values.take s.crossingNow).foldl State.acceptValue s).group g).asm a.k) with
    | some b => b.trig
    | none => false)

/-- The deadline of an instant: the conditions of Table 7-1 in order. An instant that has committed counts as triggered. -/
def State.deadline (s0 : State) (g : Nat) (a : Asm) : State :=
  let s1 := (s0.applyClasses.foldClasses a.set).updGroup g (fun x => { x with nextDl := a.k + 1 })
  let depth := a.words.depth
  let room := decide (s1.held g < depth) && s1.freeEntry.isSome
  let s := if room then s1.resumeSpec g else s1
  let note (s : State) : State := if (s.group g).susp.isSome then s.noteSuspended g a.t else s
  let lack := a.set.length - a.vals.length
  if !s.rb Reg.SPL_CTL 0 || depth = 0 then note s
  else if (s.group g).st != .running || s0.triggersNow g a || a.set.isEmpty then note s
  else if a.vals.length * 100 < a.words.minFill * a.set.length then note (s.splCount g 5 1)
  else if 4096 < lack then note (s.splCount g 6 1)
  else
    match room, s.freeEntry with
    | true, some i => s.issue g i a
    | _, _ =>
      let s2 := (s.noteSuspended g a.t).status Reg.SPL_STAT 2
      if s.freeEntry.isNone then s2.status Reg.SPL_STAT 4 else s2

/-! ### The contradiction check (R225, Table 7-3) -/

/-- Whether √p > √c + r, for r ≥ 0, on exact squares. -/
def sqrtAbove (p c r : Rat) : Bool :=
  let d := p - c - r * r
  decide (0 < d) && decide (4 * r * r * c < d * d)

/-- The phasor test of Table 7-3 on finite values. -/
def phasorDiffers (cls : ClassVals) (c p : Rec) : Bool :=
  let sq (r : Rec) : Rat := F32.toRat r.w0 * F32.toRat r.w0 + F32.toRat r.w1 * F32.toRat r.w1
  let tol := F32.toRat cls.tolMag
  let magBad := match cls.magFloor with
    | some fl =>
      if F32.isInf cls.tolMag then false
      else if fl * fl ≤ sq c then
        (decide (tol < 1) && decide (sq p < (1 - tol) * (1 - tol) * sq c)) || decide ((1 + tol) * (1 + tol) * sq c < sq p)
      else sqrtAbove (sq p) (sq c) (tol * fl) || sqrtAbove (sq c) (sq p) (tol * fl)
    | none => false
  let d := wrapTurn (Elem.arg (F32.toRat c.w0) (F32.toRat c.w1) - Elem.arg (F32.toRat p.w0) (F32.toRat p.w1))
  magBad || (F32.isFinite cls.tolAng && decide (F32.toRat cls.tolAng < (if d < 0 then -d else d) * 360))

/-- A scalar test: the difference of finite values beyond a tolerance; a value that is not finite differs from every other word. No difference is
beyond an infinite tolerance. -/
def scalarDiffers (tol c p : Word) : Bool :=
  if F32.isInf tol then false
  else if F32.isFinite c && F32.isFinite p then
    let d := F32.toRat c - F32.toRat p
    decide (F32.toRat tol < if d < 0 then -d else d)
  else !(F32.isNaN c && F32.isNaN p) && c != p

/-- Whether a committed record contradicts the provisional one (Table 7-3). -/
def contradicts (ty : Option ChanType) (est : Bool) (x : PredChan) (c : Rec) (arrived : Bool) : Bool :=
  let p := x.r
  if x.kind = 3 && arrived then true
  else if est && (p.thr != c.thr || c.has 12) then true
  else match ty with
    | some .phasor =>
      if [c.w0, c.w1, p.w0, p.w1].all F32.isFinite then phasorDiffers x.cls c p
      else scalarDiffers 0#32 c.w0 p.w0 || scalarDiffers 0#32 c.w1 p.w1
    | some .digital =>
      fld p.w0 31 16 != fld c.w0 31 16 || ((p.w0 ^^^ c.w0) &&& (c.w0 >>> 16) &&& 0xFFFF#32) != 0#32
    | _ => scalarDiffers x.cls.tolAbs c.w0 p.w0

/-- How many predicted channels of an entry contradict (COMMIT_CHECK): a channel without a value is compared with its prediction computed
now, by the class values of the issue (R238). -/
def State.contradictions (s : State) (e : LedgerEntry) (a : Asm) : Nat :=
  (e.pred.filter (fun x =>
    let c := x.r.chan
    match a.val c with
    | some v => contradicts (s.chanType c) (decide (estimatedBase ≤ c)) x (s.valueRec c v a.t) true
    | none => contradicts (s.chanType c) (decide (estimatedBase ≤ c)) x
        (s.predictedRec c x.cls (s.classOf c) a.t a.words.fr).1 false)).length

/-! ### Commit (R193, R195, R196, R200, R209, R211, R219) -/

/-- Predictor histories take the received values of a committed snapshot (R219). -/
def State.learn (s : State) (x : Snapshot) : State :=
  s.setAln (fun a => { a with hist := (x.recs.filter (fun r => !r.missing && !r.predicted)).foldl (fun h r =>
    setKey h r.chan ((⟨x.t, r.w0, r.w1, r.thr⟩ :: (lookup h r.chan).getD []).take 3)) a.hist })

/-- A committed snapshot written to its group's history, or counted as dropped (R211). DESIGN CHOICE (assumption 115): the spec gives no time for
the write; it cannot be done before the next commit where the bulk memory island does not run, and is done at once else. -/
def State.writeHistory (s : State) (g : Nat) (x : Snapshot) (en : Bool) : State :=
  let y := s.group g
  if !en then s
  else if y.depth = 0 || decide (y.maxChan < x.recs.length) || !s.runs Isle.memory then (s.count (Reg.ALN_CNT 0) 1).status Reg.ALN_STAT 2
  else s.updGroup g (fun y => { y with hist := (y.hist ++ [x]).drop (y.hist.length + 1 - y.depth) })

/-- A pending change put into force (R204). -/
def State.applyChange (s : State) (g : Nat) : State :=
  match (s.group g).pend with
  | some c =>
    let x := s.group g
    let s0 := s.updGroup g (fun y => { y with was := if x.active then y.was ++ [⟨c.k, s.grpWords g, x.set, x.setVer⟩] else [] })
    let s1 := (((s0.setReg (Reg.ALN_GRP_CTL g) c.words.ctl).setReg (Reg.ALN_GRP_WAIT g) c.words.wait).setReg (Reg.ALN_GRP_TOL g) c.words.tol)
    match c.set with
    | some l =>
      let gone := (s1.group g).set.filter (fun x => !l.contains x)
      (gone.foldl (fun s x => s.setChanWord x (setBit (s.chanWord x) 31 false)) s1).updGroup g (fun x => { x with
        pend := none, set := l, setVer := (x.setVer + 1) % 65536 })
    | none => s1.updGroup g (fun x => { x with pend := none })
  | none => s

/-- A group reaches STOPPED, with its stop instant: a change that waited is applied, and stop_done sets; the island engine idles with its group (R201, R204,
Table 9-10). -/
def State.groupStopped (s : State) (g : Nat) (t : Instant) : State :=
  (((s.applyChange g).updGroup g (fun x => { x with st := .stopped, was := [], asms := [], susp := none })).status Reg.ALN_STAT 4).islStop g t

/-- A STOPPING group whose last instant has committed is STOPPED (R201). -/
def State.stopIfDone (s : State) (g : Nat) : State :=
  let x := s.group g
  if x.st = .stopping && x.asms.isEmpty && decide (x.stopK ≤ x.nextOpen) then s.groupStopped g x.stopT else s

/-- The check of a provisionally issued instant at its commit, with what is sent to Nose (R225, R242). -/
def State.commitCheck (s : State) (g : Nat) (a : Asm) (x : Snapshot) : State :=
  let send (s : State) (m : NoseMsg) : State := s.setAln (fun p => { p with nose := p.nose ++ [m] })
  match s.entryOf g a.k with
  | none => send s (.commit x)
  | some (i, e) =>
    if e.void then send (s.updEntry i (fun e => { e with st := .free })) (.commit x)
    else
      let n := s.contradictions e a
      if n = 0 then send ((s.updEntry i (fun e => { e with st := .confirmed, contra := 0 })).splCount g 1 1) (.confirm x)
      else
        let s1 := ((s.updEntry i (fun e => { e with st := .rollback, contra := n })).splCount g 2 1).status Reg.SPL_STAT 0
        send (s1.raise 5 (n : Rat) ([word g] ++ instantWords a.t)) (.rollback x)

/-- The oldest assembly of a group commits as a given snapshot, behind a barrier (R200, R474). -/
def State.commitAs (s : State) (g : Nat) (a : Asm) (x : Snapshot) : State :=
  let s1 := (s.setReg (Reg.ALN_GRP_SEQ g) x.seq).alnCount g 0 1
  let s2 := (s1.alnCount g 2 x.nMissing)
  let s3 := if x.lowFill then (s2.alnCount g 7 1).status Reg.ALN_STAT 0 else s2
  let s4 := (s3.commitCheck g a x).learn x
  let s5 := (s4.writeHistory g x a.words.histEn).updGroup g (fun y => { y with asms := y.asms.filter (fun b => b.k != a.k) })
  let s6 := s5.setAln (fun p => { p with pub := p.pub ++ [x], osc := p.osc ++ [x], lists := p.lists.filter (fun l => l.group != g || l.k != a.k) })
  ((s6.issueBarrier Isle.accord).sendSummary x).stopIfDone g

/-- The oldest assembly of a group commits where it is triggered and, in a pair's ACTIVE, acknowledged (R193, R494). DEDUCED (assumption 116): a
STOPPING group whose stop instant a step has passed over, so that no instant is left to commit, is STOPPED at the moved stop instant. -/
def State.commitHead (s : State) (g : Nat) : State :=
  match (s.group g).asms with
  | a :: _ => if a.trig && (!s.commitsByAck || a.acked) then s.commitAs g a (s.commitSnapshot g a) else s
  | [] => if (s.group g).stopT ≤ s.now then s.stopIfDone g else s

/-! ### Flushes (R202, R206, R239, R240) -/

/-- Every open assembly of a group discarded and its entries FLUSHED; Nose is told, and no frame goes out for those instants. The number of
entries flushed is returned too. -/
def State.flushGroup (s : State) (g : Nat) : Nat × State :=
  let ks := ((s.aln.ledger.filter (fun p => p.2.group == g && (p.2.st == .issued || p.2.st == .checking))).map (fun p => p.2.k))
  let open_ := (s.group g).asms.map (·.k)
  let s1 := s.setAln (fun a => { a with
    ledger := a.ledger.map (fun p => if p.2.group == g && ks.contains p.2.k && p.2.st != .free then (p.1, { p.2 with st := .flushed }) else p)
    nose := if ks.isEmpty then a.nose else a.nose ++ [.flush g ks]
    pub := a.pub.filter (fun x => x.group != g || x.committed || !open_.contains x.k)
    lists := a.lists.filter (fun l => l.group != g) })
  let s2 := s1.updGroup g (fun x => { x with asms := [], susp := none })
  if ks.isEmpty then (0, s2) else (ks.length, ((s2.splCount g 7 ks.length).status Reg.SPL_STAT 3))

/-- A flush recorded (class 8): the cause is 0 for a step, 1 for a stop, 2 for a reset. -/
def State.flushEvent (s : State) (cause n g : Nat) : State :=
  if n = 0 then s else s.raise 8 (n : Rat) [word cause, word (2 ^ g)]

/-- One group flushed, with its record. -/
def State.flushOne (s : State) (cause g : Nat) : State :=
  let r := s.flushGroup g
  r.2.flushEvent cause r.1 g

/-- A stop with the flush option, or with ALN_CTL.en cleared (R202, Table 6-12). -/
def State.flushStop (s : State) (g : Nat) : State :=
  if (s.group g).st = .stopped then s else (s.flushOne 1 g).groupStopped g s.now

/-- A step of module time, seen by one group, whose state stays (R206). -/
def State.stepGroup (s : State) (g : Nat) : State :=
  let x := s.group g
  if !x.active then s
  else
    let fr := s.grpFr g
    let k := firstK s.now fr
    let t := reportInstant k fr
    (s.flushOne 0 g).updGroup g (fun x => { x with
      was := []
      pend := x.pend.map (fun c => if c.t < s.now then { c with k := k, t := t } else c)
      stopK := if x.st = .stopping && decide (x.stopT < s.now) then k else x.stopK
      stopT := if x.st = .stopping && decide (x.stopT < s.now) then t else x.stopT
      startK := if x.st = .starting && decide (s.now ≤ x.startT) then x.startK else k
      startT := if x.st = .starting && decide (s.now ≤ x.startT) then x.startT else t
      nextOpen := if x.st = .starting && decide (s.now ≤ x.startT) then x.startK else k
      nextDl := if x.st = .starting && decide (s.now ≤ x.startT) then x.startK else k })

/-- A step of module time flushes every group (R56, R206, R239). -/
def State.alnTimeStep (s : State) : State := (upto 32).foldl (fun s g => s.stepGroup g) s

/-- A reset of the Accord island (R204, R214, R219, R239, R244): every group flushed and stopped with its pending change applied, then the
registers at reset, set_ver among them; the channel table, the history and every seq stay; predictor histories are lost and the class table returns to its
reset values. -/
def State.resetAccord (s : State) : State :=
  let s1 := (upto 32).foldl (fun s g =>
    if (s.group g).active then
      (((s.flushOne 2 g).applyChange g).updGroup g (fun x => { x with st := .stopped, was := [], asms := [], susp := none })).islStop g s.now
    else s) s
  let seqs := (upto 32).map (fun g => s1.reg (Reg.ALN_GRP_SEQ g))
  let s2 := s1.resetRegs (fun a => blockOf a == 6 || blockOf a == 7)
  let s3 := ((upto 32).zip seqs).foldl (fun s p => s.setReg (Reg.ALN_GRP_SEQ p.1) p.2) s2
  s3.setAln (fun a => { a with
    groups := a.groups.map (fun x => { x with setVer := 0 }), hist := [], cls := [], classes := List.replicate 16 resetClass, clsPend := none })

/-- A step of module time (R206, R280): a t_eff that it passes over moves to the first reporting instant of the new epoch, and the instants of the old
one no longer count. -/
def State.islTimeStep (s : State) : State :=
  let fr := s.grpFr s.isl.staged.group
  s.setIsl (fun a => { a with
    last := none, olds := []
    pend := a.pend.map (fun p => if p.2 < s.now then (firstK s.now fr, reportInstant (firstK s.now fr) fr) else p) })

end Sys2Proof.Machine
end

