-- ==== Sys2Proof/Machine/Accord.lean ====
section
/-! DEFINITION. Alignment (chapter 06): the meanings of its commands, register and table accesses, and events. -/

namespace Sys2Proof.Machine

/-! ### Events -/

/-- Triggers at the end of a close guard that waited for the values of the same cycle (R190). -/
def State.guardTriggers (s : State) : State :=
  if s.crossingNow ≠ 0 || s.followsLists then s
  else (upto 32).foldl (fun s g =>
    (((s.group g).asms.filter (fun a => a.guardEnd && !a.trig)).map (·.k)).foldl (fun s k => s.trigger g k) s) s

/-- What the island behind a channel reports with its crossing: the items that an injected fault lost there (R577). -/
def State.takeReports (s : State) (chan : Nat) : State :=
  let mine : Nat × Instant → Bool := fun m => decide (estimatedBase ≤ m.1) == decide (estimatedBase ≤ chan)
  { s with
    flt := { s.flt with marks := s.flt.marks ++ s.ing.reports.filter mine }
    ing := { s.ing with reports := s.ing.reports.filter (fun m => !mine m) } }

/-- ACCORD_VALUE_RECEIVE (R186 to R191): the oldest value crossing to Accord. -/
def execAccordValueReceive (at_ : Instant) (s : State) : Host.Outcome State Fault Refusal :=
  let s1 := s.advance at_
  match s1.ing.values with
  | [] => .next s1
  | v :: rest =>
    if !s1.runs Isle.accord then .next s1
    else .next (State.acceptValue (State.takeReports { s1 with ing := { s1.ing with values := rest } } v.chan) v).guardTriggers

/-- The first assembly of a group that satisfies a test, with the next one opened where none does. -/
def State.nextAsm (s : State) (g : Nat) (p : Asm → Bool) : State × Option Asm :=
  match (s.group g).asms.find? p with
  | some a => (s, some a)
  | none => let s1 := s.openNext g; (s1, (s1.group g).asms.find? p)

/-- The instant of a group whose deadline comes next: its assembly, opened where it is not yet, or what it was where it has committed (R236). -/
def State.nextDeadline (s : State) (g : Nat) : State × Option Asm :=
  let x := s.group g
  let s1 := if x.nextOpen ≤ x.nextDl then s.openNext g else s
  let k := x.nextDl
  match (s1.group g).asm k with
  | some a => (s1, some a)
  | none => if k < (s1.group g).nextOpen then (s1, some { s1.newAsm g k with trig := true }) else (s1, none)

/-- PROVISIONAL_ISSUE (R216): the next deadline of a group. -/
def execProvisionalIssue (g : Fin 32) (s : State) : Host.Outcome State Fault Refusal :=
  match s.nextDeadline g.val with
  | (s1, some a) => .next ((s1.advance (a.t + a.words.deadline)).deadline g.val a)
  | (_, none) => .next s

/-- WINDOW_CLOSE (R190): the wait window of the next instant of a group closes; the close guard runs. -/
def execWindowClose (g : Fin 32) (s : State) : Host.Outcome State Fault Refusal :=
  match s.nextAsm g.val (fun a => !a.closed) with
  | (s1, some a) => .next ((s1.advance (a.t + a.words.wait_)).updAsm g.val a.k (fun a => { a with closed := true }))
  | (_, none) => .next s

/-- CLOSE_GUARD_END (R190, R192): 20 µs after the window closed, the commit of the instant is triggered, after the values whose crossing completes in
the same cycle; on a standby nothing is (R491). -/
def execCloseGuardEnd (g : Fin 32) (s : State) : Host.Outcome State Fault Refusal :=
  match (s.group g.val).asms.find? (fun a => a.closed && !a.guardEnd && !a.trig) with
  | some a =>
    let s1 := (s.advance (a.t + a.words.wait_ + us 20)).updAsm g.val a.k (fun a => { a with guardEnd := !a.set.isEmpty })
    .next s1.guardTriggers
  | none => .next s

/-- EMPTY_GROUP_TRIGGER (R195): a group with an empty channel set has its commit triggered at the reporting instant. -/
def execEmptyGroupTrigger (g : Fin 32) (s : State) : Host.Outcome State Fault Refusal :=
  match s.nextAsm g.val (fun a => !a.trig) with
  | (s1, some a) =>
    if a.set.isEmpty then
      let s2 := s1.advance a.t
      .next (if s2.followsLists then s2 else s2.trigger g.val a.k)
    else .next s
  | (_, none) => .next s

/-- SNAPSHOT_COMMIT (R193, R209): the oldest instant of a group commits where its commit is triggered. -/
def execSnapshotCommit (at_ : Instant) (g : Fin 32) (s : State) : Host.Outcome State Fault Refusal :=
  .next ((s.advance at_).commitHead g.val)

/-- GROUP_START_REACHED (R201, R202): a STARTING group is RUNNING from its start instant on. -/
def execGroupStartReached (g : Fin 32) (s : State) : Host.Outcome State Fault Refusal :=
  if (s.group g.val).st = .starting then
    .next ((s.advance (s.group g.val).startT).updGroup g.val (fun x => { x with st := .running }))
  else .next s

/-- Assemblies of the instants before `k` keep the old settings: they open first. -/
def State.openUpTo (s : State) (g k : Nat) : State :=
  (upto (k - (s.group g).nextOpen)).foldl (fun s _ => s.openNext g) s

/-- GROUP_CHANGE_EFFECTIVE (R204, R206): a pending change of a group takes effect at t_eff. -/
def execGroupChangeEffective (g : Fin 32) (s : State) : Host.Outcome State Fault Refusal :=
  match (s.group g.val).pend with
  | some c => .next (((s.openUpTo g.val c.k).advance c.t).applyChange g.val)
  | none => .next s

/-- CLASS_CHANGE_EFFECTIVE (R238): at the first deadline 100 ms after acceptance, a pending change of predictor classes takes effect. -/
def execClassChangeEffective (at_ : Instant) (s : State) : Host.Outcome State Fault Refusal := .next (s.advance at_).applyClasses

/-! ### Capacity (R208, R210) -/

/-- The need of a group with N channels, in bytes. -/
def grpNeed (n : Nat) (w : GrpWords) : Nat := 16 * n * (w.waitMs * w.fr / 1000 + 2)

/-- The need and the rate of a group, the larger of old and new while a change is pending. -/
def State.groupLoad (s : State) (g : Nat) : Nat × Nat :=
  let x := s.group g
  let w := s.grpWords g
  let n := x.set.length
  match x.pend with
  | some c =>
    let m := (c.set.getD x.set).length
    (max (grpNeed n w) (grpNeed m c.words), max (n * w.fr) (m * c.words.fr))
  | none => (grpNeed n w, n * w.fr)

/-- The loads of the groups other than `g` that are not STOPPED. -/
def State.otherLoad (s : State) (g : Nat) : Nat × Nat :=
  let l := ((upto 32).filter (fun h => h != g && (s.group h).active)).map s.groupLoad
  (total (l.map (·.1)), total (l.map (·.2)))

/-- The status that refuses a load for a group: 0 where it fits. -/
def State.loadErr (s : State) (g need rate : Nat) : Nat :=
  let o := s.otherLoad g
  if 16777216 < o.1 + need then 0x0611 else if 62914560 < o.2 + rate then 0x0612 else 0

/-- Bytes of a history slot. -/
def histSlot (maxChan : Nat) : Nat := ceilDiv (64 + 16 * maxChan) 64 * 64

/-- Bytes the history allocations take. -/
def State.histBytes (s : State) (without : Option Nat) : Nat :=
  total ((upto 32).map (fun g => if without = some g || (s.group g).depth = 0 then 0 else (s.group g).depth * histSlot (s.group g).maxChan))

/-- The history partition in bytes: values above 20 are taken as 20. -/
def State.histSize (s : State) : Nat := min 20 (s.rf Reg.ALN_HIST_CTL 4 0) * 2 ^ 30

/-! ### Commands (Table 6-9) -/

/-- A span as a register field: a whole multiple of its unit within a range. -/
def spanField (nsPerUnit lo hi : Nat) (v : Option Nat) (old : Nat) : Option Nat :=
  match v with
  | none => some old
  | some x => if x % nsPerUnit = 0 && decide (lo ≤ x / nsPerUnit) && decide (x / nsPerUnit ≤ hi) then some (x / nsPerUnit) else none

/-- New settings of a group, each span given checked by R213; a min_fill above 100 is taken as 100 (Table 6-14). -/
def newWords (w : GrpWords) (rate : Option (Fin 12)) (waitNs deadNs tolNs minFill : Option Nat) (fillMiss histEn : Option Bool) :
    Option GrpWords :=
  match spanField 1000000 1 10000 waitNs w.waitMs, spanField 100000 5 100000 deadNs w.dead, spanField 1000 0 1000 tolNs (min 1000 (fld w.tol 9 0)) with
  | some wt, some d, some tl =>
    if 10 * wt < d then none
    else
      let c0 := match rate with | some r => setFld w.ctl 3 0 r.val | none => w.ctl
      let c1 := match minFill with | some m => setFld c0 15 8 (min 100 m) | none => c0
      let c2 := match fillMiss with | some b => setBit c1 7 b | none => c1
      let c3 := match histEn with | some b => setBit c2 6 b | none => c2
      some ⟨c3, put 30 14 d ||| put 13 0 wt, put 9 0 tl⟩
  | _, _, _ => none

/-- The settings written to a group's registers. -/
def State.setWords (s : State) (g : Nat) (w : GrpWords) : State :=
  ((s.setReg (Reg.ALN_GRP_CTL g) w.ctl).setReg (Reg.ALN_GRP_WAIT g) w.wait).setReg (Reg.ALN_GRP_TOL g) w.tol

/-- The first reporting instant of a group at least 100 ms ahead (R202, R204). -/
def State.leadK (s : State) (fr : Nat) : Nat := firstK (s.now + ms 100) fr

/-- A list of channels in increasing order. -/
def sortChans (l : List Nat) : List Nat := sortBy (fun a b => decide (a ≤ b)) l

/-- Channels taken into a group's hold: their table entries name it (R186). -/
def State.holdChans (s : State) (g : Nat) (l : List Nat) : State :=
  l.foldl (fun s c => s.setChanWord c (setBit (setFld (s.chanWord c) 28 24 g) 31 true)) s

/-- Why channels cannot join a group: out of range, repeated, or held by another group. -/
def State.joinErr (s : State) (g : Nat) (l : List Nat) : Nat :=
  if l.any (fun c => decide (262144 ≤ c)) then St.PARAM_RANGE
  else if !noDup l then St.BAD_PARAM
  else if l.any (fun c => match s.chanGroup c with | some h => h != g | none => false) then 0x0610
  else 0

/-- The channel set of a STOPPED group replaced. -/
def State.replaceSet (s : State) (g : Nat) (l : List Nat) : State :=
  let old := (s.group g).set
  let new := sortChans l
  if new = old then s
  else
    let s1 := (old.filter (fun c => !new.contains c)).foldl (fun s c => s.setChanWord c (setBit (s.chanWord c) 31 false)) s
    (s1.holdChans g new).updGroup g (fun x => { x with set := new, setVer := (x.setVer + 1) % 65536 })

/-- ALN_STATUS: counters, the rate sum and the needs, then per group its state, need and last seq. -/
def bodyAlnStatus (s : State) : Res :=
  let act := (upto 32).filter (fun g => (s.group g).active)
  ok ((upto 3).map (fun i => s.reg (Reg.ALN_CNT i)) ++ [word (total (act.map (fun g => (s.groupLoad g).2))), word (total (act.map (fun g => (s.groupLoad g).1)))] ++
    (upto 32).flatMap (fun g => [word (match (s.group g).st with | .stopped => 0 | .starting => 1 | .running => 2 | .stopping => 3),
      word (s.groupLoad g).1, s.reg (Reg.ALN_GRP_SEQ g)] ++ (upto 8).map (fun i => s.reg (Reg.ALN_GRP_CNT g i)))) s

def execAlnStatus (h : Hdr) (s : State) : Host.Outcome State Fault Refusal := .next (runCmd 0x0600 h bodyAlnStatus s)

/-- ALN_GROUP_START (R202, R203, R208, R210, R213): the reply gives the start instant and K. -/
def bodyAlnGroupStart (a : GroupStartArgs) (s : State) : Res :=
  let g := a.group.val
  if !s.rb Reg.ALN_CTL 0 || (s.group g).active then refuse St.STATE s
  else
    match newWords (s.grpWords g) a.rate a.waitNs a.deadNs a.tolNs a.minFill a.fillMiss a.histEn with
    | none => refuse St.PARAM_RANGE s
    | some w =>
      let chans := a.chans.getD (s.group g).set
      let err := s.joinErr g chans
      if err ≠ 0 then refuse err s
      else if w.histEn && ((s.group g).depth = 0 || decide ((s.group g).maxChan < chans.length)) then refuse 0x0613 s
      else
        let load := s.loadErr g (grpNeed chans.length w) (chans.length * w.fr)
        if load ≠ 0 then refuse load s
        else
          let k := s.leadK w.fr
          let t := reportInstant k w.fr
          let s1 := ((s.setWords g w).replaceSet g chans).updGroup g (fun x => { x with
            st := .starting, was := [], startK := k, startT := t, nextOpen := k, nextDl := k, asms := [], susp := none })
          ok (instantWords t ++ [word (w.waitMs * w.fr / 1000 + 2)]) s1

def execAlnGroupStart (h : Hdr) (a : GroupStartArgs) (s : State) : Host.Outcome State Fault Refusal :=
  .next (runCmd 0x0601 h (bodyAlnGroupStart a) s)

/-- ALN_GROUP_STOP (R202). -/
def bodyAlnGroupStop (g : Fin 32) (flush : Bool) (s : State) : Res :=
  let x := s.group g.val
  match x.st with
  | .stopped => ok [] s
  | .starting => ok [] ((s.updGroup g.val (fun x => { x with asms := [] })).groupStopped g.val s.now)
  | .stopping => if flush then ok [] (s.flushStop g.val) else ok (instantWords x.stopT) s
  | .running =>
    if flush then ok [] (s.flushStop g.val)
    else
      let fr := s.grpFr g.val
      let k := s.leadK fr
      ok (instantWords (reportInstant k fr))
        ((s.updGroup g.val (fun x => { x with st := .stopping, stopK := k, stopT := reportInstant k fr })).stopIfDone g.val)

def execAlnGroupStop (h : Hdr) (g : Fin 32) (flush : Bool) (s : State) : Host.Outcome State Fault Refusal :=
  .next (runCmd 0x0602 h (bodyAlnGroupStop g flush) s)

/-- Channels that a change names taken into the group's hold. -/
def State.holdNew (s : State) (g : Nat) : Option (List Nat) → State
  | some l => s.holdChans g l
  | none => s

/-- A change left pending until the first reporting instant at least 100 ms ahead (R204). -/
def State.pendChange (s : State) (g : Nat) (w : GrpWords) (set : Option (List Nat)) : State :=
  (s.holdNew g set).updGroup g (fun x => { x with pend := some ⟨s.leadK w.fr, reportInstant (s.leadK w.fr) w.fr, w, set⟩ })

/-- The status that the load of a change refuses: the larger of old and new counts until it takes effect (R208). -/
def State.changeLoadErr (s : State) (g : Nat) (w : GrpWords) (chans : List Nat) : Nat :=
  let old := s.grpWords g
  s.loadErr g (max (grpNeed (s.group g).set.length old) (grpNeed chans.length w)) (max ((s.group g).set.length * old.fr) (chans.length * w.fr))

/-- A change of settings or set, by the group's state (R204): at once where STOPPED, refused where STOPPING or while one is pending, else at
t_eff. The reply gives t_eff and the set version. -/
def State.changeGroup (s : State) (g : Nat) (w : GrpWords) (set : Option (List Nat)) : Res :=
  let x := s.group g
  let chans := set.getD x.set
  let ver := if set.isSome then (x.setVer + 1) % 65536 else x.setVer
  match x.st with
  | .stopping => refuse St.STATE s
  | .stopped =>
    if set.isSome && w.histEn && decide (x.maxChan < chans.length) then refuse 0x0613 s
    else
      let s1 := (s.holdNew g set).updGroup g (fun x => { x with pend := some ⟨0, 0, w, set⟩ })
      ok (instantWords s.now ++ [word ver]) (s1.applyChange g)
  | _ =>
    if x.pend.isSome then refuse St.BUSY s
    else if set.isSome && w.histEn && decide (x.maxChan < chans.length) then refuse 0x0613 s
    else
      let load := s.changeLoadErr g w chans
      if load ≠ 0 then refuse load s
      else ok (instantWords (reportInstant (s.leadK w.fr) w.fr) ++ [word ver]) (s.pendChange g w set)

/-- ALN_GROUP_CHANNELS (R186, R204, R205): removing a channel outside the set, or naming one twice, is malformed. -/
def bodyAlnGroupChannels (a : GroupChanArgs) (s : State) : Res :=
  let g := a.group.val
  let x := s.group g
  let err := s.joinErr g a.add
  if err ≠ 0 then refuse err s
  else if !noDup a.remove || a.remove.any (fun c => !x.set.contains c || a.add.contains c) then refuse St.BAD_PARAM s
  else
    let l := sortChans (x.set.filter (fun c => !a.remove.contains c) ++ a.add.filter (fun c => !x.set.contains c))
    s.changeGroup g (s.grpWords g) (some l)

def execAlnGroupChannels (h : Hdr) (a : GroupChanArgs) (s : State) : Host.Outcome State Fault Refusal :=
  .next (runCmd 0x0603 h (bodyAlnGroupChannels a) s)

/-- ALN_GROUP_TIMING (R204, R213). -/
def bodyAlnGroupTiming (a : GroupTimingArgs) (s : State) : Res :=
  match newWords (s.grpWords a.group.val) none a.waitNs a.deadNs none a.minFill a.fillMiss none with
  | none => refuse St.PARAM_RANGE s
  | some w => s.changeGroup a.group.val w none

def execAlnGroupTiming (h : Hdr) (a : GroupTimingArgs) (s : State) : Host.Outcome State Fault Refusal :=
  .next (runCmd 0x0604 h (bodyAlnGroupTiming a) s)

/-- ALN_HIST_ALLOC (R210): a new allocation starts empty, and gives up hist_en where the depth is 0. -/
def bodyAlnHistAlloc (a : HistAllocArgs) (s : State) : Res :=
  let g := a.group.val
  if (s.group g).active then refuse St.STATE s
  else if decide (2 ^ 28 ≤ a.depth) || decide (262144 < a.maxChan) then refuse St.PARAM_RANGE s
  else if s.histSize < s.histBytes (some g) + a.depth * histSlot a.maxChan then refuse 0x0613 s
  else if s.rb (Reg.ALN_GRP_CTL g) 6 && a.depth ≠ 0 && decide (a.maxChan < (s.group g).set.length) then refuse 0x0613 s
  else
    let s1 := s.updGroup g (fun x => { x with depth := a.depth, maxChan := a.maxChan, hist := [] })
    ok [] (if a.depth = 0 then s1.setRb (Reg.ALN_GRP_CTL g) 6 false else s1)

def execAlnHistAlloc (h : Hdr) (a : HistAllocArgs) (s : State) : Host.Outcome State Fault Refusal :=
  .next (runCmd 0x0605 h (bodyAlnHistAlloc a) s)

/-- As many of the snapshots as fit a buffer of `room` bytes. -/
def fitting : Nat → List Snapshot → List Snapshot
  | _, [] => []
  | room, x :: rest =>
    let n := 64 + 16 * x.recs.length
    if room < n then [] else x :: fitting (room - n) rest

/-- ALN_HIST_READ (R212): whole snapshots in seq order from the oldest at or after an instant. The copy is one step here, so none is
overwritten during it (assumption 115); one whose transfer comes poisoned is skipped and counted (R539). -/
def bodyAlnHistRead (via : Via) (buf len : Nat) (a : HistReadArgs) (s : State) : Res :=
  let l := fitting len ((s.group a.group.val).hist.dropWhile (fun x => decide (x.t < a.start)))
  let p := if l.isEmpty then (none, s) else s.takePoison 0
  let l1 := if p.1.isSome then l.drop 1 else l
  match l1.head?, l1.getLast? with
  | some x, some y =>
    ok [word l1.length, x.seq, y.seq, word (l.length - l1.length)] (p.2.hostWrite via buf (wordsLE (l1.flatMap Snapshot.bytes)))
  | _, _ => refuse 0x0614 p.2

def execAlnHistRead (h : Hdr) (a : HistReadArgs) (s : State) : Host.Outcome State Fault Refusal :=
  .next (runCmd 0x0606 h (fun s => (bodyAlnHistRead h.via h.bufAddr h.bufLen a s).carried h.via) s)

/-- The writable fields of ALN_GRP_CTL. -/
def grpCtlMask : Word := 0x007FFFCF#32

/-- ALN_GROUP_RAW (R207, R210, R213): the group registers as given, on a STOPPED group. -/
def bodyAlnGroupRaw (a : GroupRawArgs) (s : State) : Res :=
  let g := a.group.val
  let w := fld a.wait 13 0
  let d := fld a.wait 30 14
  if (s.group g).active then refuse St.STATE s
  else if w = 0 || decide (10000 < w) || decide (d < 5) || decide (10 * w < d) || decide (1000 < fld a.tol 9 0) then refuse St.PARAM_RANGE s
  else if bit a.ctl 6 && ((s.group g).depth = 0 || decide ((s.group g).maxChan < (s.group g).set.length)) then refuse 0x0613 s
  else ok [] (s.setWords g ⟨a.ctl &&& grpCtlMask, a.wait &&& 0x7FFFFFFF#32, a.tol &&& 0x3FF#32⟩)

def execAlnGroupRaw (h : Hdr) (a : GroupRawArgs) (s : State) : Host.Outcome State Fault Refusal :=
  .next (runCmd 0x0680 h (bodyAlnGroupRaw a) s)

/-! ### The channel table (R215) -/

/-- Why a channel-table write is refused: 2 index, 4 member of another group, 1 a group not STOPPED; 0 where it is not. -/
def State.chanErr (s : State) (c : Nat) (w : Word) : Nat :=
  let old := s.chanWord c
  let changed := bit old 31 != bit w 31 || fld old 28 24 != fld w 28 24
  if 262144 ≤ c then 2
  else if bit w 31 && (match s.chanGroup c with | some h => h != fld w 28 24 | none => false) then 4
  else if changed && ((bit old 31 && (s.group (fld old 28 24)).active) || (bit w 31 && (s.group (fld w 28 24)).active)) then 1
  else if changed && bit w 31 && s.rb (Reg.ALN_GRP_CTL (fld w 28 24)) 6 &&
      decide ((s.group (fld w 28 24)).maxChan < (s.group (fld w 28 24)).set.length + 1) then 3
  else 0

/-- A channel-table entry written: membership of a STOPPED group changes at once, a class at the first deadline 100 ms later. -/
def State.writeChan (s : State) (c : Nat) (w : Word) : State :=
  let old := s.chanWord c
  let s1 := s.setChanWord c (w &&& 0x9F0F0000#32)
  let leave (s : State) (g : Nat) : State :=
    s.updGroup g (fun x => { x with set := x.set.filter (· != c), setVer := (x.setVer + 1) % 65536 })
  let join (s : State) (g : Nat) : State :=
    s.updGroup g (fun x => { x with set := sortChans (c :: x.set), setVer := (x.setVer + 1) % 65536 })
  let s2 := if bit old 31 && !bit w 31 then leave s1 (fld old 28 24)
    else if !bit old 31 && bit w 31 then join s1 (fld w 28 24) else s1
  if fld old 19 16 = fld w 19 16 then s2
  else
    let cur : ChanClass := match lookup s.aln.cls c with
      | some x => x
      | none => ⟨Fin.ofNat 16 (fld old 19 16), []⟩
    s2.setAln (fun a => { a with cls := setKey a.cls c { cur with next := cur.next ++ [(s.up + ms 100, Fin.ofNat 16 (fld w 19 16))] } })

/-- The statuses of refused channel-table writes (R215): membership elsewhere, a group not STOPPED, an index out of range. -/
def chanStatus : Nat → Nat
  | 1 => St.STATE
  | 3 => 0x0613
  | 4 => 0x0610
  | _ => St.PARAM_RANGE

/-- The first refusal among several writes, each checked against those before it. -/
def State.chansErr (s : State) : List (Nat × Word) → Nat
  | [] => 0
  | (c, w) :: rest => let e := s.chanErr c w; if e ≠ 0 then e else State.chansErr (s.writeChan c w) rest

/-- ALN_CHAN_RAW (R215): all of the words, or none. -/
def bodyAlnChanRaw (l : List (Nat × Word)) (s : State) : Res :=
  let e := s.chansErr l
  if e ≠ 0 then refuse (chanStatus e) s else ok [] (l.foldl (fun s p => s.writeChan p.1 p.2) s)

def execAlnChanRaw (h : Hdr) (l : List (Nat × Word)) (s : State) : Host.Outcome State Fault Refusal :=
  .next (runCmd 0x0681 h (bodyAlnChanRaw l) s)

/-- A channel-table word as it is read, with its type. -/
def State.readChan (s : State) (c : Nat) : Word :=
  s.chanWord c ||| put 2 0 (match s.chanType c with | some t => t.code | none => 0)

def State.alnChanRead (s : State) : State :=
  let c := s.rf Reg.ALN_CHAN_IDX 17 0
  (s.setReg Reg.ALN_CHAN_W0 (s.readChan c)).setRf Reg.ALN_CHAN_CMD 30 28 0

def State.alnChanWrite (s : State) : State :=
  let c := s.rf Reg.ALN_CHAN_IDX 17 0
  let w := s.reg Reg.ALN_CHAN_W0
  let e := s.chanErr c w
  let s1 := s.setRf Reg.ALN_CHAN_CMD 30 28 e
  if e = 0 then s1.writeChan c w else s1

/-- ALN_CHAN_READ. -/
def execAlnChanRead (at_ : Instant) (s : State) : Host.Outcome State Fault Refusal := .next (s.advance at_).alnChanRead

/-- ALN_CHAN_WRITE (R215). -/
def execAlnChanWrite (at_ : Instant) (s : State) : Host.Outcome State Fault Refusal := .next (s.advance at_).alnChanWrite

/-- ALN_TUNE (R204, R210, R213): snap_tol of a group, in ns, and the partition size, which holds what is allocated; a size above 20 GiB is taken as
20 (Table 6-11). -/
def bodyAlnTune (a : AlnTuneArgs) (s : State) : Res :=
  if (match a.sizeGib with | some n => decide (min 20 n * 2 ^ 30 < s.histBytes none) | none => false) then refuse 0x0613 s
  else
    let size (s : State) : State := match a.sizeGib with
      | some n => s.setRf Reg.ALN_HIST_CTL 4 0 (min 20 n)
      | none => s
    match a.tol with
    | none => ok [] (size s)
    | some (g, tolNs) =>
      match newWords (s.grpWords g.val) none none none (some tolNs) none none none with
      | none => refuse St.PARAM_RANGE s
      | some w => match s.changeGroup g.val w none with
        | .done st words s1 => if st = St.OK then .done st words (size s1) else .done st words s1
        | r => r

def execAlnTune (h : Hdr) (a : AlnTuneArgs) (s : State) : Host.Outcome State Fault Refusal :=
  .next (runCmd 0x0682 h (bodyAlnTune a) s)

/-! ### Direct register writes (R207, R210) -/

/-- A write to a register of a group, by its place: taken by the settings registers 0 to 2 while the group is STOPPED, with hist_en taken as 0 where
it has no allocation; ignored and counted while it is not. The other registers are read-only. -/
def State.grpRegWrite (s : State) (g i : Nat) (v : Word) : State :=
  if (s.group g).active then (s.count (Reg.ALN_CNT 2) 1).status Reg.ALN_STAT 3
  else if i = 0 then
    let v1 := v &&& grpCtlMask
    s.setReg (Reg.ALN_GRP_CTL g) (if (s.group g).depth = 0 then setBit v1 6 false else v1)
  else if i = 1 then s.setReg (Reg.ALN_GRP_WAIT g) (v &&& 0x7FFFFFFF#32)
  else if i = 2 then s.setReg (Reg.ALN_GRP_TOL g) (v &&& 0x3FF#32)
  else s

/-- ALN_GRP_REG_WRITE (R207): register 0 is ALN_GRP_CTL, 1 ALN_GRP_WAIT, 2 ALN_GRP_TOL. -/
def execAlnGrpRegWrite (at_ : Instant) (g : Fin 32) (i : Fin 3) (v : Word) (s : State) : Host.Outcome State Fault Refusal :=
  .next ((s.advance at_).grpRegWrite g.val i.val v)

/-- The fields of the alignment registers that are read from the state (Tables 6-11 and 6-14). -/
def State.alnView (s : State) (a : Nat) : Word :=
  let act := (upto 32).filter (fun g => (s.group g).active)
  if a = Reg.ALN_USE then
    put 14 0 (ceilDiv (total (act.map (fun g => (s.groupLoad g).1))) 1024) |||
      put 21 16 ((upto 32).filter (fun g => (s.group g).st == .running)).length
  else if a = Reg.ALN_RATE then put 15 0 (total (act.map (fun g => (s.groupLoad g).2)) / 1024)
  else if a = Reg.ALN_HIST_USE then put 14 0 (ceilDiv (s.histBytes none) (2 ^ 20))
  else if 0x61000 ≤ a && a < 0x61800 then
    let g := (a - 0x61000) / 64
    let x := s.group g
    let o := (a - 0x61000) % 64
    if o = 0 then put 31 28 (match x.st with | .stopped => 0 | .starting => 1 | .running => 2 | .stopping => 3)
    else if o = 0x0C then put 18 0 x.set.length
    else if o = 0x10 then put 15 0 x.setVer ||| putBit 16 x.pend.isSome
    else if o = 0x14 then
      match x.pend with
      | some c => word (secsOf c.t)
      | none => match x.st with
        | .starting => word (secsOf x.startT)
        | .stopping => word (secsOf x.stopT)
        | _ => 0#32
    else if o = 0x18 then put 27 0 x.depth
    else 0#32
  else 0#32

end Sys2Proof.Machine
end

