-- ==== Sys2Proof/Machine/PortsOps.lean ====
section
/-! DEFINITION. Operations of the port islands (chapter 03): link conditions, the receive stages, PRP, the rings, PAUSE and
the transmit queues. -/

namespace Sys2Proof.Machine

def State.port (s : State) (p : Nat) : Port := (s.ports.ports[p]?).getD freshPort

def State.updPort (s : State) (p : Nat) (f : Port → Port) : State :=
  { s with ports := { s.ports with ports := updAt s.ports.ports p f } }

/-! ### Mode and link (R73 to R75) -/

/-- The port's mode: codes 5 to 7 are taken as 0 (Table 3-11). -/
def State.portMode (s : State) (p : Nat) : Nat := let m := s.rf (Reg.PORT_CTL p) 3 1; if 4 < m then 0 else m

/-- RS-FEC selected: fec codes 2 and 3 are taken as 0. -/
def State.portFec (s : State) (p : Nat) : Bool := s.rf (Reg.PORT_CTL p) 9 8 == 1

/-- Whether a port accepts a mode (Table 3-1). -/
def modeAccepted (p m : Nat) : Bool := m == 0 || m == 3 || (decide (p < 8) && (m == 1 || m == 2)) || (decide (8 ≤ p) && m == 4)

/-- The configuration error of R74. -/
def State.cfgErr (s : State) (p : Nat) : Bool :=
  !modeAccepted p (s.portMode p) || (s.portFec p && s.portMode p != 1) || (s.portMode p == 4 && (s.port p).phySlow)

/-- Whether the cage of a port is monitored (R105). -/
def State.monitored (s : State) (p : Nat) : Bool := s.rb (Reg.PORT_OPT_CTL p) 0

/-- The optics are accepted, or the port is not monitored (R75, R107). -/
def State.opticsOk (s : State) (p : Nat) : Bool :=
  !s.monitored p || (s.port p).optReason == 0 || (s.port p).optReason == 6

/-- Every condition of R75 for link up. -/
def State.linkReady (s : State) (p : Nat) : Bool :=
  let x := s.port p
  s.rb (Reg.PORT_CTL p) 0 && s.portMode p != 0 && !s.cfgErr p && s.runs p && x.signal && x.blockLock &&
  (!(s.rb (Reg.PORT_CTL p) 10 && (s.portMode p == 3 || s.portMode p == 4)) || x.anDone) &&
  (!s.portFec p || x.fecLock) && (decide (8 ≤ p) || x.adapted) && s.opticsOk p

/-- PORT_STAT.speed: by mode while the link is up. -/
def State.portSpeed (s : State) (p : Nat) : Nat :=
  if (s.port p).link then (match s.portMode p with | 1 => 3 | 2 => 2 | 3 => 1 | 4 => 1 | _ => 0) else 0

/-- Whether a port has rings 1: on the module whose PCIe endpoint is active (R96). -/
def State.hostRings (s : State) : Bool := s.isHead && !s.aon.perstLow

/-- Ticks of 512 bit times, times `n`, at the port's present bit rate. -/
def State.pauseTicks (s : State) (p n : Nat) : Nat :=
  match s.portMode p with
  | 1 => n * 512 * 65536 / 25
  | 2 => n * 512 * 65536 / 10
  | _ => n * 512 * 65536

/-! ### Transmit side (R78, R80, R95, R100) -/

/-- The status a ring frame's descriptor gets, and the head of its ring moved past its descriptors (R97, R100). -/
def State.returnTx (s : State) (f : TxFrame) (err : Bool) : State :=
  match f.body with
  | .ring p r i n =>
    let size := max 1 (s.rf (Reg.PORT_TXR_SIZE p r.val) 12 0)
    s.updPort p (fun x => { x with
      txOut := updAt x.txOut r.val (· ++ [(i, err)])
      txHead := updAt x.txHead r.val (fun h => (h + n) % size) })
  | _ => s

/-- A frame offered to a port: dropped and counted while the link is down (R100), else queued. -/
def State.offer (s : State) (p : Nat) (f : TxFrame) : State :=
  if (s.port p).link && s.runs p then s.updPort p (fun x => { x with queue := x.queue ++ [f] })
  else ((s.count (Reg.PORT_CNT p 24) 1).returnTx f true).noteSwapBad f.cls

/-- The PRP pair of a port: pair 0 to 3 of P0–P7, pair 4 of M0 and M1 (Table 3-5). -/
def pairOf (p : Nat) : Nat := p / 2

/-- The LAN A port of a pair. -/
def lanA (k : Nat) : Nat := 2 * k

/-- Whether PRP is enabled on the pair of a port (R90). -/
def State.prpOn (s : State) (p : Nat) : Bool := s.rb (Reg.PORT_PRP_CTL (lanA (pairOf p))) 0

/-- The other LAN's copy of a frame: a ring frame's descriptor is returned once, with the copy on the ring's own port (DESIGN CHOICE,
assumption 110). -/
def TxBody.copied : TxBody → TxBody
  | .ring p r i _ => .ringCopy p r i
  | b => b

/-- A frame sent on a port; on a PRP-enabled pair both ports send it with one sequence number and the six-byte trailer
(R95). DESIGN CHOICE (assumption 110): a timestamp asked for is taken of both copies, each in the queue of the port that sends it. -/
def State.sendPrp (s : State) (p : Nat) (f : TxFrame) : State :=
  if s.prpOn p then
    let k := pairOf p
    let seq := ((s.ports.pairs[k]?).map (·.txSeq)).getD 0#16
    let s1 := { s with ports := { s.ports with pairs := updAt s.ports.pairs k (fun x => { x with txSeq := x.txSeq + 1#16 }) } }
    let g := { f with prpSeq := some seq, len := f.len + 6 }
    let other := { g with body := g.body.copied }
    (s1.offer (lanA k) (if p = lanA k then g else other)).offer (lanA k + 1) (if p = lanA k then other else g)
  else s.offer p f

/-- Every frame waiting on a port dropped and counted (R76, R100). DESIGN CHOICE (assumption 110): the frame on the wire when the link goes
down is lost with them, and counted in tx_drop_down too. -/
def State.dropQueued (s : State) (p : Nat) : State :=
  let x := s.port p
  let gone := x.queue ++ (match x.onWire with | some (f, _) => [f] | none => [])
  gone.foldl (fun s f => ((s.count (Reg.PORT_CNT p 24) 1).returnTx f true).noteSwapBad f.cls)
    (s.updPort p (fun x => { x with queue := [], onWire := none }))

/-- A PAUSE frame of the MAC's own (R84): it is not held. -/
def State.sendPause (s : State) (p quanta : Nat) : State :=
  s.updPort p (fun x => { x with queue := ⟨0, 64, none, none, none, .pause quanta⟩ :: x.queue })

/-! ### Link changes -/

/-- The time a port has spent paused, counted as its pause ends (R82). -/
def State.countPaused (s : State) (p : Nat) : State :=
  match (s.port p).pausedAt with
  | some u => s.count (Reg.PORT_CNT p 27) ((s.up - u) / us 1)
  | none => s

/-- When the initial adaptation of a receiver is due: 20 ms from now on P0 to P7 with signal (R110). -/
def State.adaptFrom (s : State) (p : Nat) (signal : Bool) : Option Nat := if signal && decide (p < 8) then some (s.up + ms 20) else none

/-- The link goes down (R76, R82, R108, R110): frames waiting are dropped, the event and the time spent paused are counted, and adaptation
starts again. -/
def State.linkDown (s : State) (p cause : Nat) : State :=
  let x := s.port p
  let s1 := (s.countPaused p).updPort p (fun x => { x with
    link := false, adapted := false, adaptDue := s.adaptFrom p x.signal, downAt := s.up, downCause := cause
    pauseEnd := none, pauseHeld := none, pausedAt := none })
  if x.link then ((s1.dropQueued p).count (Reg.PORT_CNT p 28) 1).status (Reg.PORT_STAT p) 6 else s1.dropQueued p

/-- The link comes up where every condition of R75 holds; a PORT_LINK event gives the time it was down. -/
def State.tryLink (s : State) (p : Nat) : State :=
  if !(s.port p).link && s.linkReady p then
    let x := s.port p
    ((s.updPort p (fun x => { x with link := true })).status (Reg.PORT_STAT p) 6).raise 28
      (((s.up - x.downAt : Nat) : Rat) / (ms 1 : Rat)) [word p, word x.downCause]
  else s

/-- The link follows its conditions after any of them changed. -/
def State.relink (s : State) (p cause : Nat) : State :=
  if (s.port p).link && !s.linkReady p then s.linkDown p cause else s.tryLink p

/-! ### Receive rings (R96 to R99) -/

/-- A ring is configured: its size lies in the range of R97. -/
def State.rxSize (s : State) (p r : Nat) : Nat := s.rf (Reg.PORT_RXR_SIZE p r) 12 0

/-- Usable receive descriptors: TAIL less HEAD, modulo the ring size. -/
def State.rxUsable (s : State) (p r : Nat) : Nat :=
  let size := s.rxSize p r
  if size = 0 then 0
  else (s.rf (Reg.PORT_RXR_TAIL p r) 11 0 + size - (((s.port p).rxHead[r]?).getD 0) % size) % size

/-- The free descriptors of a receive ring of a port stand below a bound: of ring 0, and of ring 1 where the module has one (R96). DESIGN
CHOICE (assumption 110): a ring that is not configured is none of them. -/
def State.anyBelow (s : State) (p bound : Nat) : Bool :=
  (upto 2).any (fun r => (r == 0 || s.hostRings) && decide (0 < s.rxSize p r) && decide (s.rxUsable p r < bound))

/-- Whether the condition of R84 for a PAUSE lasts: it is enabled on M0 or M1, and free descriptors stand below xoff. -/
def State.wantsPause (s : State) (p : Nat) : Bool :=
  decide (8 ≤ p) && s.rb (Reg.PORT_MAC_CTL p) 11 && s.anyBelow p (s.rf (Reg.PORT_PAUSE_CTL p) 23 16)

/-- A PAUSE with the port's quanta, and the next due in quanta / 2 pause times (R84). -/
def State.pauseNow (s : State) (p : Nat) : State :=
  let quanta := s.rf (Reg.PORT_PAUSE_CTL p) 15 0
  (s.sendPause p quanta).updPort p (fun x => { x with xoffOn := true, xoffDue := some (s.up + s.pauseTicks p quanta / 2) })

/-- M0 and M1 send a PAUSE when free descriptors fall below xoff, repeat it only while they stand there, and send one of zero when both rings
hold xon (R84). -/
def State.checkPause (s : State) (p : Nat) : State :=
  if decide (p < 8) || !s.rb (Reg.PORT_MAC_CTL p) 11 then s.updPort p (fun x => { x with xoffOn := false, xoffDue := none })
  else if s.wantsPause p then (if (s.port p).xoffDue.isSome then s else s.pauseNow p)
  else if (s.port p).xoffOn && !s.anyBelow p (s.rf (Reg.PORT_PAUSE_CTL p) 31 24) then
    (s.sendPause p 0).updPort p (fun x => { x with xoffOn := false, xoffDue := none })
  else s.updPort p (fun x => { x with xoffDue := none })

/-- The descriptors a frame of `len` data bytes fills, from index `h` of a ring of `size`: `n` of them, the first with sop and the
timestamp, the last with eop, all with trunc where the frame was cut (Table 3-6, R99). -/
def rxDescs (size h n len : Nat) (trunc : Bool) (base : Word) (tci : BitVec 16) (ts : Instant) (epoch : Word) : List RxDesc :=
  (upto n).map (fun i =>
    { index := (h + i) % size, len := if i + 1 = n && !trunc then len - 2048 * i else 2048,
      flags := base ||| putBit 0 true ||| putBit 1 (i == 0) ||| putBit 2 (i + 1 == n) ||| putBit 3 trunc, tci := tci,
      ts := if i = 0 then some ts else none, epoch := if i = 0 then some epoch else none })

/-- A frame's data given to a receive ring (R97 to R99): whole, truncated, or dropped for want of a descriptor. -/
def State.toRing (s : State) (p r len : Nat) (flags : Word) (tci : BitVec 16) (ts : Instant) : State :=
  let size := s.rxSize p r
  let usable := s.rxUsable p r
  let need := ceilDiv len 2048
  if usable = 0 then (s.count (Reg.PORT_CNT p 8) 1).checkPause p
  else
    let n := min need usable
    let cut := decide (usable < need)
    let h := ((s.port p).rxHead[r]?).getD 0
    let s1 := s.updPort p (fun x => { x with
      rxHead := updAt x.rxHead r (fun h => (h + n) % size)
      rxOut := updAt x.rxOut r (· ++ rxDescs size h n len cut flags tci ts s.time.epoch) })
    (if cut then s1.count (Reg.PORT_CNT p 9) 1 else s1).checkPause p

/-- The ring a frame goes to: ring 1 where its EtherType matches an enabled host filter on the module whose PCIe endpoint is
active, else ring 0 (R96). -/
def State.ringFor (s : State) (p : Nat) (etherType : BitVec 16) : Nat :=
  if s.hostRings && (upto 4).any (fun f =>
    s.rb (Reg.PORT_HOST_FILT p f) 31 && s.rf (Reg.PORT_HOST_FILT p f) 15 0 == etherType.toNat) then 1 else 0

/-! ### PRP discard (R91 to R94) -/

/-- The forget time of a pair in ticks: 10 ms to 1,000 ms (R93). -/
def State.forgetTicks (s : State) (k : Nat) : Nat := ms (clamp 10 1000 (s.rf (Reg.PORT_PRP_CTL (lanA k)) 25 16))

/-- A PRP frame on the wrong LAN is still accepted, and counted (R91). -/
def State.notePrpLan (s : State) (p : Nat) (t : PrpTrailer) : State :=
  if t.lanB == (p % 2 == 1) then s else s.count (Reg.PORT_CNT (lanA (pairOf p)) 11) 1

/-- A PRP frame's second copy is discarded and frees the entry; its first copy records one, evicting the oldest of a full window (R92, R93).
Whether the frame goes on. `tie` says that the LAN A copy completes stage 3 in the same cycle: then this LAN B copy is the one discarded, and the
entry lets the LAN A copy pass. -/
def State.prpWindow (s : State) (p : Nat) (sa : BitVec 48) (seq : BitVec 16) (tie : Bool) : State × Bool :=
  let k := pairOf p
  let cnt := Reg.PORT_CNT (lanA k)
  let live := (((s.ports.pairs[k]?).map (·.window)).getD []).filter (fun e => decide (s.up < e.due))
  let setWin (s : State) (w : List PrpEntry) : State :=
    { s with ports := { s.ports with pairs := updAt s.ports.pairs k (fun x => { x with window := w }) } }
  match live.find? (fun e => e.sa == sa && e.seq == seq) with
  | some e =>
    let s1 := setWin s (live.filter (fun e => !(e.sa == sa && e.seq == seq)))
    if e.tie then (s1, true) else (s1.count (cnt 10) 1, false)
  | none =>
    let entry : PrpEntry := ⟨sa, seq, s.up + s.forgetTicks k, tie⟩
    let s1 := if live.length < 4096 then setWin s (live ++ [entry]) else (setWin s (live.drop 1 ++ [entry])).count (cnt 12) 1
    if tie then (s1.count (cnt 10) 1, false) else (s1, true)

/-! ### MACsec on reception (R87, Table 3-4) -/

/-- The validation mode of a port: 0 Strict, 1 Check, 2 Disabled (3 as Disabled). -/
def State.validateMode (s : State) (p : Nat) : Nat := min 2 (s.rf (Reg.PORT_MSEC_CTL p) 2 1)

/-- The MACsec stage (R87): whether the frame goes on, and whether it came protected. In Strict mode unprotected frames other than EAPOL are
dropped and counted. A frame of an unknown channel or outside the replay window is dropped and counted, and so is one that fails verification
unless the mode is Check, which counts it and lets it on. DESIGN CHOICES (assumption 109): Check and Disabled mean what IEEE 802.1AE has them
mean; a SecTAG without SCI belongs to the first channel installed; a frame of a known channel whose association number has no association
fails verification (msec_notvalid). -/
def State.macsecStage (s : State) (p : Nat) (f : RxFrame) : State × Bool × Bool :=
  if decide (8 ≤ p) || !s.rb (Reg.PORT_MSEC_CTL p) 0 then (s, true, false)
  else
    let mode := s.validateMode p
    let strict := mode == 0
    match f.sectag with
    | none =>
      if strict && f.body != .eapol then (s.count (Reg.PORT_CNT p 17) 1, false, false) else (s, true, false)
    | some t =>
      if mode = 2 then (s, true, true)
      else
        let m := (s.port p).macsec
        let chan := if t.hasSci then m.rx.find? (fun c => c.2.sci == t.sci) else m.rx.head?
        match chan with
        | none => (s.count (Reg.PORT_CNT p 16) 1, false, true)
        | some (i, c) =>
          match c.assocs.find? (fun a => a.an == t.an), t.icvOk with
          | some a, true =>
            if t.pn + m.replayWin < a.pn then (s.count (Reg.PORT_CNT p 15) 1, false, true)
            else
              (s.updPort p (fun x => { x with macsec := { x.macsec with rx := x.macsec.rx.map (fun c =>
                if c.1 = i then (c.1, { c.2 with assocs := c.2.assocs.map (fun b =>
                  if b.an = t.an then { b with pn := max b.pn (t.pn + 1) } else b) }) else c) } }), true, true)
          | _, _ => (s.count (Reg.PORT_CNT p 14) 1, !strict, true)

/-! ### The ingress buffers (R139 to R141) -/

/-- Bytes of a port's frames on die. -/
def onDie (l : List BufFrame) : Nat := total ((l.filter (fun f => !f.spilled)).map (·.len))

/-- Bytes of every port's frames in the spill area. -/
def State.spillBytes (s : State) : Nat :=
  total (s.ing.buffers.map (fun l => total ((l.filter (·.spilled)).map (·.len))))

/-- The spill area in bytes: values above 256 MiB are taken as 256 (Table 4-8). -/
def State.spillSize (s : State) : Nat := min 256 (s.rf Reg.ING_SPILL_CTL 8 0) * 1048576

/-- A frame claimed for the parser enters the port's ingress buffer, or the spill area where that is full, or is dropped
where both are (R139, R141); while the parser is disabled it is dropped and counted (Table 4-9). -/
def State.toIngress (s : State) (p len : Nat) (arrival : Instant) (body : FrameBody) : State :=
  if !s.runs Isle.ingress then s
  else if !s.rb Reg.ING_CTL 0 then s.count (Reg.ING_CNT 12) 1
  else
    let buf := (s.ing.buffers[p]?).getD []
    let put (s : State) (sp : Bool) : State :=
      { s with ing := { s.ing with buffers := updAt s.ing.buffers p (· ++ [⟨len, arrival, body, sp, s.time.epoch, s.degraded⟩]) } }
    if onDie buf + len ≤ 65536 then put s false
    else if s.spillBytes + len ≤ s.spillSize then
      let s1 := put s true
      s1.setRf Reg.ING_SPILL_PEAK 18 0 (max (s1.rf Reg.ING_SPILL_PEAK 18 0) (ceilDiv s1.spillBytes 1024))
    else ((s.count (Reg.ING_OVF_DROP p) 1).status Reg.ING_STAT 0).raise 29 1 [word p, 15#32]

/-- The type of a C37.118.2 frame by its SYNC word (Table 4-1): 0xAA, then the type and version 1 or 2; none for any other payload. -/
def c37Type (f : C37Frame) : Option Nat :=
  let sync := ((f.bytes[1]?).getD 0#8).toNat
  if f.bytes.head? == some 0xAA#8 && (sync % 16 == 1 || sync % 16 == 2) then some (sync / 16 % 8) else none

/-! ### The receive stages (Table 3-2) -/

/-- The classifier (stage 7, Table 4-1): PTP to its engine, parsed kinds to ingress, what the firmware refuses counted, and
every other frame to a receive ring. -/
def State.classify (s : State) (p : Nat) (f : RxFrame) (len : Nat) (flags : Word) (tci : BitVec 16) (ts : Instant)
    (stacked : Bool) : State :=
  let ring (s : State) : State := s.toRing p (s.ringFor p f.etherType) (len - 4) flags tci ts
  if stacked then s.toRing p 0 (len - 4) flags tci ts
  else
    match f.body with
    | .ptp m => { s with ports := { s.ports with ptpIn := s.ports.ptpIn ++ [(p, m, ts)] } }
    | .c37 c =>
      match c37Type c with
      | some 0 => if c.tcp then s.count (Reg.ING_CNT 14) 1 else s.toIngress p len ts f.body
      | some 1 => (s.keepHeader c).toRing p 0 (len - 4) flags tci ts
      | some 2 => s.count (Reg.ING_CNT 14) 1
      | some 3 | some 4 | some 5 => s.toRing p 0 (len - 4) flags tci ts
      | _ => ring s
    | .sv _ => s.toIngress p len ts f.body
    | .prpSupervision | .session905 | .fragmentOrIpv6 => s.toRing p 0 (len - 4) flags tci ts
    | .eapol => if decide (p < 8) && s.rb (Reg.PORT_MSEC_CTL p) 0 then s.toRing p 0 (len - 4) flags tci ts else ring s
    | _ => ring s

/-- Stages 5 to 7: the VLAN tag, PRP, and the classifier. A supervision frame is a PRP frame that no window takes (R91, R94). -/
def State.rxUpper (s : State) (p : Nat) (f : RxFrame) (macsec : Bool) (ts : Instant) (tie : Bool) : State :=
  let strip := s.rb (Reg.PORT_MAC_CTL p) 9
  let vl := if f.stacked then none else if strip then f.vlan else none
  let len1 := f.len - (if macsec then (match f.sectag with | some t => if t.hasSci then 32 else 24 | none => 0) else 0) -
    (if vl.isSome then 4 else 0)
  let flags := putBit 4 vl.isSome ||| putBit 5 macsec ||| putBit 7 (p % 2 == 1) ||| putBit 8 f.stacked
  let tci := vl.getD 0#16
  if f.body == .hsr then s.count (Reg.PORT_CNT (lanA (pairOf p)) 13) 1
  else
    match s.prpOn p, f.prp with
    | true, some t =>
      if t.sizeOk then
        let s1 := s.notePrpLan p t
        let r := if f.body == .prpSupervision then (s1, true) else s1.prpWindow p f.sa t.seq tie
        if r.2 then r.1.classify p f (len1 - 6) (flags ||| putBit 6 true) tci ts f.stacked else r.1
      else s.classify p f len1 flags tci ts f.stacked
    | _, _ => s.classify p f len1 flags tci ts f.stacked

/-- A received PAUSE (R81, R82): it takes effect after the frame on the wire, replaces the remaining time, and ends the pause where
its time is zero. -/
def State.takePause (s : State) (p quanta : Nat) : State :=
  let x := s.port p
  if x.onWire.isSome && x.pauseEnd.isNone then s.updPort p (fun x => { x with pauseHeld := some quanta })
  else
    let since := x.pausedAt.getD s.up
    if quanta = 0 then
      (s.countPaused p).updPort p (fun x => { x with pauseEnd := none, pausedAt := none })
    else s.updPort p (fun x => { x with pauseEnd := some (s.up + s.pauseTicks p quanta), pausedAt := some since })

/-- The longest frame of a port: max_len, held to 1,518 to 9,600. -/
def State.macLen (s : State) (p : Nat) : Nat := clamp 1518 9600 (s.rf (Reg.PORT_MAC_CTL p) 29 16)

/-- Whether a frame passes the checks of stage 3 (R78). -/
def State.passesMac (s : State) (p : Nat) (f : RxFrame) : Bool := f.fcsOk && decide (64 ≤ f.len) && decide (f.len ≤ s.macLen p)

/-- Every stage of Table 3-2 for a frame that arrives on a port; `tie` as the PRP window takes it. -/
def State.receiveFrame (s : State) (p : Nat) (f : RxFrame) (tie : Bool) : State :=
  let s1 := (s.count (Reg.PORT_CNT p 18) f.fecFixed).count (Reg.PORT_CNT p 19) f.fecBad
  let maxLen := s.macLen p
  if !f.fcsOk then s1.count (Reg.PORT_CNT p 3) 1
  else if f.len < 64 then s1.count (Reg.PORT_CNT p 4) 1
  else if maxLen < f.len then s1.count (Reg.PORT_CNT p 5) 1
  else
    let s2 := (s1.count (Reg.PORT_CNT p 2) 1).updPort p (fun x => { x with rx64 := min (2 ^ 64 - 1) (x.rx64 + f.len) })
    match f.body with
    | .macControl op t =>
      if op = 1 then
        let s3 := s2.count (Reg.PORT_CNT p 6) 1
        if s3.rb (Reg.PORT_MAC_CTL p) 10 then s3.takePause p t else s3
      else s2.count (Reg.PORT_CNT p 7) 1
    | _ =>
      let r := s2.macsecStage p f
      if r.2.1 then r.1.rxUpper p f r.2.2 s.now tie else r.1

/-! ### Transmission (R80, R81, R89) -/

/-- A frame of the MAC's own (R84). -/
def TxFrame.isPause (f : TxFrame) : Bool := match f.body with | .pause _ => true | _ => false

/-- The position of the next frame: a PAUSE of the MAC's own first; none while the port is paused; else the first frame of the
highest class whose gate is open (R80, R81). -/
def State.nextTx (s : State) (p : Nat) : Option TxFrame :=
  let x := s.port p
  match x.queue.find? TxFrame.isPause with
  | some f => some f
  | none =>
    if x.pauseEnd.isSome then none
    else
      (upto 4).foldl (fun acc c => match acc with
        | some f => some f
        | none => if (c = 1 || c = 2) && !s.gateOpen then none else x.queue.find? (fun f => f.cls.val == c)) none

/-- The last packet number of an association: 2^32 − 1, or 2^64 − 1 with extended numbering (Table 3-4). -/
def maxPn : CipherSuite → Nat
  | .xpn128 => 2 ^ 64 - 1
  | .xpn256 => 2 ^ 64 - 1
  | _ => 2 ^ 32 - 1

/-- The packet number that raises the MACsec event (R89). -/
def State.pnWarn (s : State) (p : Nat) : Nat :=
  let m := (s.port p).macsec
  let dflt := if maxPn m.suite = 2 ^ 32 - 1 then 0xC0000000 else 2 ^ 62
  if s.rb (Reg.PORT_MSEC_CTL p) 3 then m.pnWarn.getD dflt else dflt

/-- Whether a port protects a frame: on P0 to P7 with MACsec enabled every one but the MAC's own PAUSE. DESIGN CHOICE (assumption 109): the
EAPOL frames that firmware sends through ring 0 too, since no rule excepts them on transmission. -/
def State.protects (s : State) (p : Nat) (f : TxFrame) : Bool := decide (p < 8) && s.rb (Reg.PORT_MSEC_CTL p) 0 && !f.isPause

/-- A frame dropped for want of a packet number (R89): its descriptor is done without err, which R100 gives for other causes. -/
def State.dropPn (s : State) (p : Nat) (f : TxFrame) : State :=
  ((s.count (Reg.PORT_CNT p 25) 1).returnTx f false).noteSwapBad f.cls

/-- A frame protected on its way out (R86, R89): it takes the next packet number and a SecTAG, 32 bytes with its ICV, or is dropped and counted
where no number is left or no association is in use; the frame that goes out. -/
def State.protect (s : State) (p : Nat) (f : TxFrame) : State × Option TxFrame :=
  if !s.protects p f then (s, some f)
  else
    let m := (s.port p).macsec
    match m.txUse.bind (fun an => m.tx.find? (fun a => a.an == an)) with
    | none => (s.dropPn p f, none)
    | some a =>
      if maxPn m.suite < a.pn then (s.dropPn p f, none)
      else
        (s.updPort p (fun x => { x with
          macsec := { x.macsec with tx := x.macsec.tx.map (fun b => if b.an = a.an then { b with pn := b.pn + 1 } else b) }
          msecEvent := x.msecEvent || a.pn == s.pnWarn p }),
         some { f with len := f.len + 32, sectag := some ⟨m.txSci, a.an, a.pn, false, false, m.offset⟩ })

/-! ### PTP messages at the reference plane (R34) -/

/-- A PTP message as its first symbol leaves: a one-step message takes its time into itself. -/
def State.ptpStamped (s : State) (b : PtpBody) : PtpBody :=
  match b with
  | .sync _ false => .sync s.now false
  | .pdelayResp rx _ false => .pdelayResp rx (s.now - rx) false
  | b => b

/-- What the PTP engine notes of a message that leaves on a port, and the second half of a two-step exchange that follows it. -/
def State.ptpSent (s : State) (p : Nat) (m : PtpMsg) : State :=
  let follow (b : PtpBody) (len : Nat) : State :=
    s.offer p ⟨0, if m.udp then max 64 (len + 28) else len, none, none, none, .ptp { m with body := b }⟩
  match m.body with
  | .sync _ true => follow (.followUp s.now) 64
  | .pdelayResp _ _ true => follow (.pdelayRespFollowUp s.now) 72
  | .pdelayReq => s.updPtp p (fun x => { x with pdelayTx := some (m.seq, s.now), pdelayRx := none })
  | .delayReq => s.updPtp p (fun x => { x with delayTx := some (m.seq, s.now) })
  | _ => s

/-- The frame whose transmission starts: its content as it leaves, its timestamp queued where its descriptor asks for one (R64), and the
switch-over it may end (R497). -/
def State.startTx (s : State) (p : Nat) (f : TxFrame) : State :=
  let g := match f.body with
    | .ptp m => { f with body := TxBody.ptp { m with body := s.ptpStamped m.body } }
    | _ => f
  let s1 := s.updPort p (fun x => { x with onWire := some (g, s.now) })
  let s2 := match f.tsReq with
    | some id => s1.queueTxStamp p id s.now
    | none => s1
  let s3 := match g.body with
    | .ptp m => s2.ptpSent p m
    | _ => s2
  s3.noteSwitch f.cls

/-- The next frame of a port starts on the wire (R80). -/
def State.selectTx (s : State) (p : Nat) : State :=
  let x := s.port p
  if !x.link || x.onWire.isSome || !s.runs p then s
  else
    match s.nextTx p with
    | none => s
    | some f =>
      let s1 := s.updPort p (fun x => { x with queue := eraseFirst f x.queue })
      let r := s1.protect p f
      match r.2 with
      | some g => r.1.startTx p g
      | none => r.1

/-- A PAUSE that waited for the end of the frame on the wire takes effect (R81). -/
def State.applyPause (s : State) (p : Nat) : State :=
  match (s.port p).pauseHeld with
  | some q => (s.updPort p (fun x => { x with pauseHeld := none })).takePause p q
  | none => s

/-- The transmit gate closes (R480, R481): a frame of class 1 or 2 on the wire is cut, and those that wait are dropped. -/
def State.cutPort (s : State) (p : Nat) : State :=
  let gated (f : TxFrame) : Bool := f.cls == 1 || f.cls == 2
  let s1 := s.updPort p (fun x => { x with
    queue := x.queue.filter (fun f => !gated f)
    onWire := match x.onWire with
      | some w => if gated w.1 then none else some w
      | none => none })
  if (s1.port p).onWire.isNone then s1.applyPause p else s1

def State.cutPorts (s : State) : State := (upto 10).foldl State.cutPort s

/-- The frame on the wire ends (R81, R100): counted, its descriptor returned, and a PAUSE that waited takes effect. -/
def State.completeTx (s : State) (p : Nat) : State :=
  match (s.port p).onWire with
  | none => s
  | some (f, _) =>
    let s1 := (s.updPort p (fun x => { x with onWire := none, tx64 := min (2 ^ 64 - 1) (x.tx64 + max 64 f.len) })).count (Reg.PORT_CNT p 22) 1
    let s2 := if f.isPause then s1.count (Reg.PORT_CNT p 23) 1 else s1
    (s2.returnTx f false).applyPause p

/-! ### Optics (R105 to R109) -/

/-- The nominal rate in MBd: byte 12 × 100, or byte 66 × 250 where byte 12 is 0xFF. -/
def nominalRate (b : List Byte) : Nat :=
  let b12 := ((b[12]?).getD 0#8).toNat
  if b12 = 255 then ((b[66]?).getD 0#8).toNat * 250 else b12 * 100

/-- Check 5 of Table 3-8: the nominal rate suits the mode. DESIGN CHOICE (assumption 110): the spec gives no figure for SGMII nor for a disabled
port, and every rate suits them. -/
def rateSuits (mode : Nat) (b : List Byte) : Bool :=
  let n := nominalRate b
  match mode with
  | 1 => decide (25500 ≤ n)
  | 2 => decide (10300 ≤ n)
  | 3 => (decide (1200 ≤ n) && decide (n ≤ 2500)) || ((b[6]?).getD 0#8).toNat % 16 != 0
  | _ => true

/-- The sum of bytes `lo` to `hi − 1`, low 8 bits. -/
def sum8 (b : List Byte) (lo hi : Nat) : Nat := total (((b.take hi).drop lo).map (·.toNat)) % 256

/-- The first failing check of Table 3-8 on the bytes read, or 0. -/
def opticsCheck (mode : Nat) (b : List Byte) : Nat :=
  if sum8 b 0 63 ≠ ((b[63]?).getD 0#8).toNat then 3
  else if (b[0]?).getD 0#8 ≠ 3#8 then 4
  else if !rateSuits mode b then 5
  else 0

/-- The reason after a check: an override admits failures 3 to 5, and each admission is recorded (R109). -/
def State.admitOptics (s : State) (p code : Nat) : State :=
  if decide (3 ≤ code) && decide (code ≤ 5) && s.rb (Reg.PORT_OPT_CTL p) 1 then
    (s.updPort p (fun x => { x with optReason := 6 })).raise 14 0 [word p, word code]
  else s.updPort p (fun x => { x with optReason := code })

/-- The bytes of the A0h copy. -/
def State.opticsCopy (s : State) (p : Nat) : List Byte := bytesOf ((upto 24).map (fun k => s.reg (Reg.PORT_OPT_ID p k)))

/-- The A0h copy written; PORT_STAT.opt_chg is set where it changes (R106). -/
def State.copyOptics (s : State) (p : Nat) (b : List Byte) : State :=
  let words := wordsLE (b.take 96)
  let s1 := (upto 24).foldl (fun s k => s.setReg (Reg.PORT_OPT_ID p k) ((words[k]?).getD 0#32)) s
  if (upto 24).any (fun k => s1.reg (Reg.PORT_OPT_ID p k) != s.reg (Reg.PORT_OPT_ID p k)) then s1.status (Reg.PORT_STAT p) 7 else s1

/-- The optics judged again by the copy held, where they were judged before and no read is under way: with the override, the mode or the
monitoring changed (R107, R109). The link follows. -/
def State.rejudge (s : State) (p : Nat) : State :=
  let x := s.port p
  (if x.optics == .idle && (x.optReason == 0 || (decide (3 ≤ x.optReason) && x.optReason != 7)) && s.monitored p then
    s.admitOptics p (opticsCheck (s.portMode p) (s.opticsCopy p)) else s).relink p 3

/-! ### The I²C masters (R105) -/

/-- The master that reads a port's cage: I2C0 serves P0–P3 and M0, I2C1 the others. -/
def i2cOf (p : Nat) : Nat := if p < 4 || p == 8 then 0 else 1

/-- The channel of the cage switch that a port's cage is on: 0 to 3 for P0–P3 and P4–P7, 4 for M0 and M1. -/
def i2cChannel (p : Nat) : Nat := if p < 8 then p % 4 else 4

def State.setI2c (s : State) (m : Nat) (f : I2cMaster → I2cMaster) : State :=
  { s with ports := { s.ports with i2c := updAt s.ports.i2c m f } }

/-- A port's read takes its master, where no other port's read has it: the switch connects the port's channel. -/
def State.takeI2c (s : State) (p : Fin 10) : Option State :=
  match ((s.ports.i2c[i2cOf p.val]?).map (·.port)).getD none with
  | some q => if q = p then some s else none
  | none => some (s.setI2c (i2cOf p.val) (fun _ =>
      ⟨BitVec.ofNat 7 (s.rf (Reg.PORT_OPT_CTL p.val) 14 8), BitVec.ofNat 8 (2 ^ i2cChannel p.val), some p⟩))

/-- A port's read, ended or abandoned, frees its master. -/
def State.freeI2c (s : State) (p : Fin 10) : State :=
  s.setI2c (i2cOf p.val) (fun m => if m.port = some p then { m with port := none } else m)

/-- Whether the port's transmit-disable land is asserted: forced, or the optics are not accepted on a monitored port (R107,
R108, Table 3-11). -/
def State.txDisabled (s : State) (p : Nat) : Bool :=
  s.rb (Reg.PORT_CTL p) 11 || (s.monitored p && !s.opticsOk p)

/-! ### Reading the port registers -/

/-- The fields of a port's registers that are read from the state (Tables 3-10, 3-12). -/
def State.portView (s : State) (a : Nat) : Word :=
  let p := (a - 0x30000) / 0x1000
  let x := s.port p
  if a = Reg.PORT_STAT p then
    put 23 20 x.optReason ||| putBit 19 (s.cfgErr p) ||| putBit 18 x.pauseEnd.isSome ||| putBit 17 x.fecLock |||
    putBit 5 x.modAbs ||| putBit 4 (!x.signal) ||| putBit 3 (s.opticsOk p) ||| put 2 1 (s.portSpeed p) ||| putBit 0 x.link
  else if a = Reg.PORT_EQ_STAT0 p && decide (8 ≤ p) then put 4 0 (s.rf (Reg.PORT_EQ_CTL p) 28 24)
  else if a = Reg.PORT_OPT_STAT p then put 3 2 x.retries ||| putBit 0 x.extBad
  else if a = Reg.PORT_RXR_HEAD p 0 then word ((x.rxHead[0]?).getD 0)
  else if a = Reg.PORT_RXR_HEAD p 1 then word ((x.rxHead[1]?).getD 0)
  else if a = Reg.PORT_TXR_HEAD p 0 then word ((x.txHead[0]?).getD 0)
  else if a = Reg.PORT_TXR_HEAD p 1 then word ((x.txHead[1]?).getD 0)
  else if a = Reg.PORT_CNT p 0 then word x.rx64
  else if a = Reg.PORT_CNT p 20 then word x.tx64
  else 0#32

/-- A read of the low word of a 64-bit port counter (R113): the low half returned, the high half latched, the counter cleared. -/
def State.readCnt64 (s : State) (p : Nat) (tx : Bool) : Word × State :=
  let x := s.port p
  if tx then (word x.tx64, (s.setReg (Reg.PORT_CNT p 21) (word (x.tx64 / 2 ^ 32))).updPort p (fun x => { x with tx64 := 0 }))
  else (word x.rx64, (s.setReg (Reg.PORT_CNT p 1) (word (x.rx64 / 2 ^ 32))).updPort p (fun x => { x with rx64 := 0 }))

end Sys2Proof.Machine
end

