-- ==== Sys2Proof/Machine/PublicationOps.lean ====
section
/-! DEFINITION. Operations of Atomizer (chapter 10): the alarm table, control blocks and their ladder, lands, and the frames of output streams. -/

namespace Sys2Proof.Machine

def State.setPub (s : State) (f : PubPart → PubPart) : State := { s with pub := f s.pub }

/-- A publication counter of Table 10-9 by its position. -/
def State.pubCount (s : State) (i n : Nat) : State := s.count (Reg.PUB_CNT i) n

/-! ### Sending (R95, R100, R308, R311) -/

/-- Whether frames handed to a port go out. -/
def State.portUp (s : State) (p : Nat) : Bool := (s.port p).link && s.runs p

/-- The ports of a set that a frame is handed to: one of a PRP pair, whose both ports then send it. -/
def State.portsOf (s : State) (set : Nat) : List Nat :=
  (upto 10).filter (fun p => set / 2 ^ p % 2 == 1 && !(s.prpOn p && p % 2 == 1 && set / 2 ^ (p - 1) % 2 == 1))

/-- max_len of a port (Table 3-11). -/
def State.maxLen (s : State) (p : Nat) : Nat := clamp 1518 9600 (s.rf (Reg.PORT_MAC_CTL p) 29 16)

/-- A datagram of `n` bytes of IP payload cut into pieces of at most `size`: offset and length of each. -/
def fragments : Nat → Nat → Nat → Nat → List (Nat × Nat)
  | 0, _, _, _ => []
  | fuel + 1, off, n, size => if n ≤ size then [(off, n)] else (off, size) :: fragments fuel (off + size) (n - size) size

/-- The fragments of a datagram on a port: no frame is larger than max_len. -/
def State.piecesOn (s : State) (p n : Nat) (vlan : Bool) : List (Nat × Nat) :=
  let room := s.maxLen p - 38 - (if vlan then 4 else 0)
  if n ≤ room then [(0, n)] else fragments n 0 n (room / 8 * 8)

/-- A datagram of class 2 handed to the ports of a set: its fragments share one identification (R308), whose value is free. Frames for a port that
is down are dropped and counted. -/
def State.sendDatagram (s : State) (stream : Nat) (t : Instant) (set : Nat) (vlan : Bool) (len : Nat) (cont : List Byte) : State :=
  let ident := Config.ipIdent s.free
  (s.portsOf set).foldl (fun s p =>
    let n := len + 8
    let s1 := (s.piecesOn p n vlan).foldl (fun s f =>
      s.sendPrp p ⟨2, max 64 (f.2 + 38 + (if vlan then 4 else 0)), none, none, none,
        .stream stream t ident f.1 (decide (f.1 + f.2 < n)) (if f.1 = 0 then cont else [])⟩) s
    if s.portUp p then s1 else (s1.pubCount 2 1).status Reg.PUB_STAT 0) s.nextFree

/-! ### Authentication (R322, R323) -/

/-- The 128-bit tag of a message with a slot's key: HMAC-SHA-256 truncated, or AES-GMAC (R322). -/
def State.tagOf (s : State) (slot : Nat) (m : List Byte) : List Byte :=
  (if (s.kslot slot).cls = 2 then Config.hmacSha256 (s.keyBytes slot) m else Config.gmac s.free (s.keyBytes slot) m).take 16

/-- A message's authentication as it is sent, as one use of its slot: the key identifier in a session header, or the length of the extension in
Reserved 1, and the tag; none where the key is unusable. -/
def State.tagWith (s : State) (routed : Bool) (slot : Nat) (m : List Byte) : Option (List Byte) × State :=
  let r := s.useKeySlot slot [1, 2]
  if r.1 = 0 then (some ((if routed then beBytes 4 slot else beBytes 2 (Config.authBytes false)) ++ s.tagOf slot m), r.2.nextFree) else (none, s)

/-- A stream or block stops for its key (R323). -/
def State.noteKeyStop (s : State) : State := (s.pubCount 5 1).status Reg.PUB_STAT 2

/-! ### Alarms (R316 to R318) -/

/-- The published alarms as far as any member sees them: those with a record, and for wildcards those without. -/
def State.alarmsOf (s : State) (src : Nat) (wild : Bool) : List PubAlarm :=
  (s.pub.alarms ++ (if wild then s.pub.extra else [])).filter (fun a => a.src == src)

/-- The rank by which a wildcard takes the highest state: COMMITTED, PROVISIONAL, RETRACTED, CLEARED. -/
def stateRank (st : Fin 4) : Nat := if st = 2 then 3 else if st = 1 then 2 else if st = 3 then 1 else 0

def clearedView : MemberView := ⟨0, 0, false, false⟩

/-- What a selector shows: the state of its alarm, or the highest among those of its source with the latest instant of change. -/
def State.selView (s : State) (w : Word) : MemberView :=
  let src := fld w 17 16
  if !bit w 31 || src = 3 then clearedView
  else
    let l := (s.alarmsOf src (bit w 30)).filter (fun a => bit w 30 || a.key == fld w 15 0)
    l.foldl (fun v a =>
      if stateRank v.st < stateRank a.st || (stateRank v.st = stateRank a.st && v.t < a.t) then ⟨a.st, a.t, a.degraded, a.injected⟩
      else v) clearedView

/-- An alarm's state taken into the table (R317): its own record, a free one, or that of the longest-CLEARED alarm; else, where every record is of
an active alarm, it is published through wildcards only. DEDUCED (assumption 119): where no record is CLEARED, that of the longest-RETRACTED alarm
is reused, which is not active either. -/
def State.setAlarm (s : State) (t : Instant) (c : AlarmChange) : State :=
  let a : PubAlarm := ⟨c.src, c.key, c.st, t, c.degraded, c.injected, c.cause⟩
  let same (x : PubAlarm) : Bool := x.src == c.src && x.key == c.key
  let keep := s.pub.alarms.filter (fun x => !same x)
  let extra := s.pub.extra.filter (fun x => !same x)
  let s1 := if c.st = 3 then (s.pubCount 4 1).status Reg.PUB_STAT 1 else s
  if keep.length < 4096 then s1.setPub (fun p => { p with alarms := keep ++ [a], extra := extra })
  else match (keep.find? (fun x => x.st == 0)).or (keep.find? (fun x => x.st == 3)) with
    | some old => s1.setPub (fun p => { p with alarms := eraseFirst old keep ++ [a], extra := extra })
    | none =>
      ((s1.setPub (fun p => { p with alarms := keep, extra := if c.st = 0 then extra else extra ++ [a] })).pubCount 7 1).status Reg.PUB_STAT 4

/-! ### Control blocks (R318 to R323) -/

def noDest : PubDest := ⟨0, 0, none, [], []⟩

def freshBlock : Gocb :=
  { gocbRef := [], datSet := [], goId := [], appid := 0, dest := noDest, confRev := 0, sent := [], step := 0, due := none, keyStop := false }

def State.block (s : State) (k : Nat) : Gocb := (lookup s.pub.blocks k).getD freshBlock

def State.updBlock (s : State) (k : Nat) (f : Gocb → Gocb) : State :=
  s.setPub (fun p => { p with blocks := setKey p.blocks k (f ((lookup p.blocks k).getD freshBlock)) })

/-- The selector words of a block's members in use, by position. -/
def State.memberWords (s : State) (k : Nat) : List Word :=
  ((upto 64).map (fun m => fetch (fun _ => 0#32) s.pub.members (64 * k + m))).filter (fun w => bit w 31)

/-- What the members of a block show now. -/
def State.memberViews (s : State) (k : Nat) : List MemberView := (s.memberWords k).map s.selView

/-- Whether a block runs: started, with control blocks enabled. -/
def State.blockRuns (s : State) (k : Nat) : Bool := s.rb (Reg.PUB_GOCB_CTL k) 31 && s.rb Reg.PUB_CTL 1

/-- t_min and t0 in ms (R320). -/
def State.tMin (s : State) : Nat := clamp 1 64 (s.rf Reg.PUB_LADDER 6 0)
def State.tZero (s : State) : Nat := clamp 100 60000 (s.rf Reg.PUB_LADDER 31 16)

/-- The number after one: from all ones to 1 (R321). -/
def nextNum (w : Word) : Word := if w = 0xFFFFFFFF#32 then 1#32 else w + 1#32

/-- An instant in UTC (R29): whole seconds, modulo 2^32. -/
def State.utcSeconds (s : State) (t : Instant) : Nat := unsign 32 ((secsOf t : Int) - s.utcOffset)

/-- An instant as a UtcTime: seconds, the fraction in 2^-24 s, and the quality byte, which is free. PRESUMED (assumption 120): the layout of
IEC 61850. -/
def State.utcTime (s : State) (t : Instant) : List Byte :=
  beBytes 4 (s.utcSeconds t) ++ beBytes 3 (t % sec 1 * 2 ^ 24 / sec 1) ++
    [Config.utcQuality (s.time.servo == .locked) (fracTimeCode (s.time.servo == .locked) s.timeError)]

/-- A member as it is sent (R319): the state, a Quality with inaccurate and test at the places of IEC 61850 (PRESUMED, assumption 120), and the
instant of the last change. -/
def State.memberContent (s : State) (v : MemberView) : List Byte :=
  [BitVec.ofNat 8 v.st.val] ++ beBytes 2 ((putBit 6 v.degraded ||| putBit 4 v.injected).toNat) ++ s.utcTime v.t

/-- The fields of a block's message, most significant byte first (R6, R318 to R321): APPID of layer 2, gocbRef, timeAllowedToLive, datSet, goID,
stNum, sqNum, simulation, test, confRev, ndsCom, the number of members and the members. PRESUMED (assumption 120): their order and widths. -/
def State.blockContent (s : State) (k : Nat) : List Byte :=
  let b := s.block k
  (if s.rb (Reg.PUB_GOCB_CTL k) 30 then [] else beBytes 2 b.appid.toNat) ++ b.gocbRef ++ beBytes 4 (2 * b.step) ++ b.datSet ++ b.goId ++
    beBytes 4 (s.reg (Reg.PUB_GOCB_ST k)).toNat ++ beBytes 4 (s.reg (Reg.PUB_GOCB_SQ k)).toNat ++
    [0#8, if b.sent.any MemberView.injected then 1#8 else 0#8] ++ beBytes 4 b.confRev ++ [0#8, BitVec.ofNat 8 b.sent.length] ++
    b.sent.flatMap s.memberContent

/-- The message of a block with its present numbers and states, sent where the module speaks (R319, R320, R322). -/
def State.sendBlock (s : State) (k : Nat) : State :=
  let b := s.block k
  let ctl := s.reg (Reg.PUB_GOCB_CTL k)
  let routed := bit ctl 30
  let cont := s.blockContent k
  let names := b.gocbRef.length + b.datSet.length + b.goId.length
  let len := Config.gooseBytes routed names b.sent.length + (if b.dest.vlan.isSome then 4 else 0)
  let go (s : State) (tag : List Byte) : State :=
    let f : TxFrame := ⟨1, max 64 (len + (if tag.isEmpty then 0 else Config.authBytes routed)), none, none, none, .goose k (cont ++ tag)⟩
    ((s.portsOf (s.rf (Reg.PUB_GOCB_PORTS k) 9 0)).foldl (fun s p => s.sendPrp p f) s).pubCount 3 1
  if !s.speaks then s
  else if bit ctl 29 then
    (match s.tagWith routed (fld ctl 15 8) cont with
     | (some tag, s1) => go (s1.updBlock k (fun b => { b with keyStop := false })) tag
     | (none, s1) => if b.keyStop then s1 else (s1.updBlock k (fun b => { b with keyStop := true })).noteKeyStop)
  else go s []

/-- A new stNum with given member states, sent at once, and the ladder restarted (R320, R321). -/
def State.publishViews (s : State) (k : Nat) (views : List MemberView) : State :=
  let s1 := (s.setReg (Reg.PUB_GOCB_ST k) (nextNum (s.reg (Reg.PUB_GOCB_ST k)))).setReg (Reg.PUB_GOCB_SQ k) 0#32
  (s1.updBlock k (fun b => { b with sent := views, step := s.tMin, due := some (s.up + ms s.tMin) })).sendBlock k

/-- A new stNum with the present member states. -/
def State.publishBlock (s : State) (k : Nat) : State := s.publishViews k (s.memberViews k)

/-- A block whose member states have changed publishes them; a member whose state has not keeps the instant of its last change, and takes on the
flags of its alarms. -/
def State.refreshBlock (s : State) (k : Nat) : State :=
  if !s.blockRuns k then s
  else
    let sent := (s.block k).sent
    let views := ((upto (s.memberWords k).length).zip (s.memberViews k)).map (fun p => match sent[p.1]? with
      | some old => if old.st = p.2.st then { p.2 with t := old.t } else p.2
      | none => p.2)
    if views.map MemberView.st = sent.map MemberView.st then s.updBlock k (fun b => { b with sent := views })
    else s.publishViews k views

/-- A retransmission (R320): sqNum up by one, the interval doubled up to t0. -/
def State.retransmit (s : State) (k : Nat) : State :=
  let next := min (2 * (s.block k).step) s.tZero
  ((s.setReg (Reg.PUB_GOCB_SQ k) (nextNum (s.reg (Reg.PUB_GOCB_SQ k)))).updBlock k (fun b => { b with
    step := next, due := some (s.up + ms next) })).sendBlock k

/-- A block stops: nothing more is due. -/
def State.stopBlock (s : State) (k : Nat) : State := s.updBlock k (fun b => { b with due := none, keyStop := false })

/-- A block started, stopped, or left as it is by a change of its control word or of PUB_CTL.goose_en. -/
def State.settleBlock (s : State) (k : Nat) (was : Bool) : State :=
  if s.blockRuns k && !was then s.publishBlock k else if !s.blockRuns k && was then s.stopBlock k else s

/-! ### Lands (R324, R325) -/

def State.land (s : State) (n : Nat) : AlarmLand := (s.pub.lands[n]?).getD idleLand

def State.updLand (s : State) (n : Nat) (f : AlarmLand → AlarmLand) : State :=
  s.setPub (fun p => { p with lands := updAt p.lands n f })

/-- The enabled selectors of a land. -/
def State.landWords (s : State) (n : Nat) : List Word :=
  ((upto 16).filter (fun i => s.rb (Reg.PUB_AOUT_CTL n) i)).map (fun i => fetch (fun _ => 0#32) s.pub.landSel (16 * n + i))

/-- Whether any selected alarm asserts a land; without its supplies, or outside Run, a land is not driven (R511, R516). -/
def State.landWanted (s : State) (n : Nat) : Bool :=
  s.aon.vinOk && s.aon.vioOk && s.aon.mode == .run && (s.landWords n).any (fun w => let st := (s.selView w).st; st == 2 || (st == 1 && s.rb (Reg.PUB_AOUT_CTL n) 31))

/-- min_on of a land, at most 1,000 ms. -/
def State.minOn (s : State) (n : Nat) : Nat := ms (min 1000 (s.rf (Reg.PUB_AOUT_CTL n) 25 16))

/-- A land follows its selected alarms: a release on CLEARED waits for min_on_ms after the assertion. -/
def State.driveLand (s : State) (n : Nat) (cleared : Bool) : State :=
  let x := s.land n
  if s.landWanted n then s.updLand n (fun x => if x.on then { x with relDue := none } else ⟨true, s.up, none⟩)
  else if !x.on || x.relDue.isSome then s
  else if cleared && s.up < x.since + s.minOn n then s.updLand n (fun x => { x with relDue := some (x.since + s.minOn n) })
  else s.updLand n (fun _ => idleLand)

/-- The level of an ALARM_OUT land at the pin (R324, R480, R557): none where it is high-impedance, which is without its supplies, outside Run and while
the drivers' gate is closed. A reset of the Atomizer island keeps it (R325). -/
def State.landPin (s : State) (n : Nat) : Option Bool :=
  if s.aon.vinOk && s.aon.vioOk && s.aon.mode == .run && s.pair.gate then some ((s.land n).on == s.rb (Reg.PUB_AOUT_CTL n) 30) else none

/-- Whether a change names an alarm that a land selects. -/
def State.landSelects (s : State) (n : Nat) (c : AlarmChange) : Bool :=
  (s.landWords n).any (fun w => bit w 31 && fld w 17 16 == c.src && (bit w 30 || fld w 15 0 == c.key))

/-- A batch of changes taken (R317): the alarm table, capture events for alarms that became COMMITTED (R343), the blocks and the lands. -/
def State.takeBatch (s : State) (b : AlarmBatch) : State :=
  let s1 := b.changes.foldl (fun s c => s.setAlarm b.t c) s
  let s2 := (b.changes.filter (fun c => c.st == 2)).foldl (fun (s : State) c =>
    { s with capIn := s.capIn ++ [.alarm c.src c.key c.injected b.t] }) s1
  let s3 := (upto 128).foldl State.refreshBlock s2
  (upto 8).foldl (fun s n => s.driveLand n (b.changes.any (fun c => c.st == 0 && s.landSelects n c))) s3

/-! ### Streams (R303 to R311) -/

def freshStream : Stream :=
  { layout := none, dest := noDest, confRev := 0, old := none, pend := none, on := true, stopped := none, keyStop := false, last := none }

def State.stream (s : State) (i : Nat) : Stream := (lookup s.pub.streams i).getD freshStream

def State.updStream (s : State) (i : Nat) (f : Stream → Stream) : State :=
  s.setPub (fun p => { p with streams := setKey p.streams i (f ((lookup p.streams i).getD freshStream)) })

/-- What a stream goes by now. -/
def State.strmCfg (s : State) (i : Nat) : StreamCfg :=
  let x := s.stream i
  let c := s.reg (Reg.PUB_STRM_CTL i)
  ⟨x.layout, bit c 29, fld c 9 0, x.dest, x.confRev⟩

/-- What a stream goes by for an instant (R310). -/
def State.strmFor (s : State) (i : Nat) (t : Instant) : StreamCfg :=
  let x := s.stream i
  match x.pend with
  | some (te, c) => if te ≤ t then c else (match x.old with
      | some (u, o) => if t < u then o else s.strmCfg i
      | none => s.strmCfg i)
  | none => match x.old with
    | some (u, o) => if t < u then o else s.strmCfg i
    | none => s.strmCfg i

/-- A configuration put into force for a stream; instants before `t` keep the one it replaces. -/
def State.applyStream (s : State) (i : Nat) (t : Instant) (c : StreamCfg) : State :=
  let o := s.strmCfg i
  ((s.setRb (Reg.PUB_STRM_CTL i) 29 c.prov).setRf (Reg.PUB_STRM_CTL i) 9 0 c.ports).updStream i (fun x => { x with
    layout := c.layout, dest := c.dest, confRev := c.confRev, old := some (t, o), pend := none })

/-- The channels of a layout block: FREQ and DFREQ where they are placed, then the lists. -/
def LayoutBlock.chans (b : LayoutBlock) : List Nat :=
  ([b.fCh, b.dfCh].filter (fun w => w != 0xFFFFFFFF#32)).map BitVec.toNat ++ (b.ph ++ b.an ++ b.dg).map BitVec.toNat

def LayoutBuffer.chans (l : LayoutBuffer) : List Nat := l.blocks.flatMap LayoutBlock.chans

/-- Bytes of a C37.118.2 data frame: 16 around the blocks, and STAT, FREQ and DFREQ with the values of each (Table 10-6). -/
def LayoutBuffer.frameBytes (l : LayoutBuffer) : Nat :=
  16 + total (l.blocks.map (fun b => 10 + 8 * b.ph.length + 4 * b.an.length + 2 * b.dg.length))

/-- The bytes of a buffer after its header. -/
def LayoutBuffer.body (l : LayoutBuffer) : List Byte :=
  l.blocks.flatMap (fun b => b.stn.toList ++ le 2 b.blkId.toNat ++ le 2 b.ph.length ++ le 2 b.an.length ++ le 2 b.dg.length ++
    bytesLE b.fCh ++ bytesLE b.dfCh ++ bytesOf (b.ph ++ b.an ++ b.dg))

/-- The record of a channel in a snapshot; a channel absent from it counts as MISSING. -/
def State.recOr (s : State) (x : Snapshot) (c : Word) : Rec :=
  match (if c = 0xFFFFFFFF#32 then none else x.find c.toNat) with
  | some r => r
  | none => let m := missingPattern (if c = 0xFFFFFFFF#32 then none else s.chanType c.toNat); ⟨c.toNat, m.1, m.2, 4, 0xFFFF, 0#32⟩

/-- The STAT word of a block (Table 10-2). -/
def State.statWord (s : State) (x : Snapshot) (b : LayoutBlock) (first pending : Bool) : Word :=
  let recs := b.chans.map (fun c => s.recOr x (word c))
  put 15 14 (if recs.any (fun r => r.predicted || r.missing) then 1 else if recs.any (fun r => r.has 6 || r.injected) then 2 else 0) |||
  putBit 13 (recs.any Rec.degraded) ||| putBit 11 (recs.any (fun r => r.has 9 || r.has 12)) ||| putBit 10 pending |||
  putBit 9 (if first then !x.committed else recs.any (fun r => r.has 7)) |||
  put 8 6 (statTimeCode s.timeError) ||| put 5 4 s.unlockedCode

/-- The leap-second bits and the time-quality code of FRACSEC (R29, R53). PRESUMED (assumption 71): the places that C37.118.2 gives them. -/
def State.timeByte (s : State) : Nat :=
  (match s.time.leap with
   | some (d, _) => 16 + (if d < 0 then 64 else 0)
   | none => 0) + fracTimeCode (s.time.servo == .locked) s.timeError

/-- SOC and FRACSEC of an instant (R305). -/
def State.socWords (s : State) (t : Instant) : List Word :=
  let frac := min 16777214 ((t % sec 1 * 16777215 + sec 1 / 2) / sec 1)
  [word (s.utcSeconds t), word (s.timeByte * 2 ^ 24 + frac)]

/-- Words as bytes, most significant first. -/
def beWords (l : List Word) : List Byte := l.flatMap (fun w => beBytes 4 w.toNat)

/-- A C37.118.2 data frame, most significant byte first (R6): SYNC, its size, IDCODE and time, per block STAT, phasors, FREQ, DFREQ, analogs and
digital words, and CHK. -/
def State.c37Content (s : State) (x : Snapshot) (l : LayoutBuffer) (pending : Bool) : List Byte :=
  let b := [0xAA#8, if Config.c37Version then 2#8 else 1#8] ++ beBytes 2 l.frameBytes ++ beBytes 2 l.idcode.toNat ++ beWords (s.socWords x.t) ++
    ((upto l.blocks.length).zip l.blocks).flatMap (fun p =>
      beBytes 2 (s.statWord x p.2 (p.1 == 0) pending).toNat ++ beWords (p.2.ph.flatMap (fun c => let r := s.recOr x c; [r.w0, r.w1])) ++
      beWords [(s.recOr x p.2.fCh).w0, (s.recOr x p.2.dfCh).w0] ++ beWords (p.2.an.map (fun c => (s.recOr x c).w0)) ++
      p.2.dg.flatMap (fun c => beBytes 2 (s.recOr x c).w0.toNat))
  b ++ beBytes 2 (crc16 b)

/-- The 32-bit quality of a value in R-SV (R307). PRESUMED (assumption 71): the places IEC 61850 gives validity, inaccurate, source and test. -/
def svQuality (r : Rec) : Word :=
  (if r.predicted || r.missing then put 1 0 3 ||| putBit 10 true else 0#32) ||| putBit 9 r.degraded ||| putBit 11 (r.injected || r.has 6)

/-- The fields of an R-SV message, most significant byte first (R6, R307): its identifier, smpCnt, confRev, SmpSynch, and the values with their
qualities. PRESUMED (assumption 120): their order and widths. -/
def State.rsvContent (s : State) (x : Snapshot) (l : LayoutBuffer) (d : PubDest) (confRev : Nat) : List Byte :=
  (if x.committed then d.svid else d.svidP) ++ beBytes 2 (x.k % max 1 x.fr) ++ beBytes 4 confRev ++ beBytes 1 s.smpSynch ++
  beWords (l.chans.flatMap (fun c =>
    let r := s.recOr x (word c)
    (match s.chanType c with
     | some .phasor => [r.w0, r.w1]
     | some .digital => [F32.conv (fld r.w0 15 0 : Nat)]
     | _ => [r.w0]) ++ [svQuality r]))

/-- Bytes of UDP payload of a stream's frame. -/
def streamBytes (rsv auth : Bool) (c : StreamCfg) (l : LayoutBuffer) : Nat :=
  if rsv then Config.rsvBytes (max c.dest.svid.length c.dest.svidP.length) l.chans.length + (if auth then Config.authBytes true else 0)
  else l.frameBytes

/-- Whether a stream sends for a snapshot: enabled, on, its source group RUNNING, and started, or stopped only after the instant (R311). -/
def State.streamRuns (s : State) (i : Nat) (x : Snapshot) : Bool :=
  s.rb Reg.PUB_CTL 0 && (s.stream i).on && (s.group (s.rf (Reg.PUB_STRM_CTL i) 20 16)).st == .running &&
  (s.rb (Reg.PUB_STRM_CTL i) 26 || (match (s.stream i).stopped with
    | some (t, e) => x.epoch == e && decide (x.t ≤ t)
    | none => false))

/-- Whether a layout change of a stream is pending for an instant (R306, R310): one that waits, or one already in force that the instant precedes. -/
def State.changePending (s : State) (i : Nat) (t : Instant) : Bool :=
  (match (s.stream i).pend with
  | some (te, _) => decide (t < te)
  | none => false) ||
  (match (s.stream i).old with
  | some (u, _) => decide (t < u)
  | none => false)

/-- The frame of a stream for a snapshot (R305 to R309): sent where the module speaks, else prepared where it is committed. -/
def State.sendStream (s : State) (i : Nat) (x : Snapshot) : State :=
  let c := s.strmFor i x.t
  let ctl := s.reg (Reg.PUB_STRM_CTL i)
  match c.layout with
  | none => s
  | some l =>
    if !x.committed && !c.prov then s
    else
      let rsv := bit ctl 28
      let auth := rsv && bit ctl 27
      let cont := if rsv then s.rsvContent x l c.dest c.confRev else s.c37Content x l (s.changePending i x.t)
      let len := streamBytes rsv auth c l
      let note (s : State) : State := if x.committed then s.updStream i (fun y => { y with last := some x.t }) else s
      let go (s : State) (tag : List Byte) : State :=
        note ((s.pubCount (if x.committed then 1 else 0) 1).sendDatagram i x.t c.ports c.dest.vlan.isSome len (cont ++ tag))
      if !s.speaks then
        (if x.committed then note (s.setPub (fun p => { p with prepared := p.prepared ++ [⟨i, x.t, c.ports, c.dest.vlan.isSome, len, cont⟩] }))
         else s)
      else if auth then
        (match s.tagWith true (s.rf (Reg.PUB_STRM_AUTH i) 7 0) cont with
         | (some tag, s1) => go (s1.updStream i (fun y => { y with keyStop := false })) tag
         | (none, s1) => if (s1.stream i).keyStop then s1 else (s1.updStream i (fun y => { y with keyStop := true })).noteKeyStop)
      else go s []

/-- A snapshot published on every stream of its group; a stream whose layout comes poisoned sends no frame for it (R539). -/
def State.publishSnapshot (s : State) (x : Snapshot) : State :=
  ((upto 64).filter (fun i => s.rf (Reg.PUB_STRM_CTL i) 20 16 == x.group && s.streamRuns i x)).foldl (fun (s : State) i =>
    let p := s.takePoison 3
    if p.1.isSome then (p.2.pubCount 2 1).status Reg.PUB_STAT 0 else s.sendStream i x) s

/-- Streams and blocks that authenticate with a slot whose key has become unusable stop at once (R323). -/
def State.pubKeyStops (s : State) : State :=
  let s1 := ((upto 64).filter (fun i => s.rb (Reg.PUB_STRM_CTL i) 26 && s.rb (Reg.PUB_STRM_CTL i) 27 && s.rb (Reg.PUB_STRM_CTL i) 28 &&
      !(s.stream i).keyStop && s.keyErr (s.rf (Reg.PUB_STRM_AUTH i) 7 0) [1, 2] != 0)).foldl
    (fun s i => (s.updStream i (fun y => { y with keyStop := true })).noteKeyStop) s
  ((upto 128).filter (fun k => s.rb (Reg.PUB_GOCB_CTL k) 31 && s.rb (Reg.PUB_GOCB_CTL k) 29 && !(s.block k).keyStop &&
      s.keyErr (s.rf (Reg.PUB_GOCB_CTL k) 15 8) [1, 2] != 0)).foldl
    (fun s k => (s.updBlock k (fun b => { b with keyStop := true })).noteKeyStop) s1

/-! ### Reset (R325, R326, R329) -/

/-- The alarms Nose and the oscillation engine re-report: every one handed over as PROVISIONAL or COMMITTED. -/
def State.reported (s : State) : List AlarmChange :=
  (s.lim.handed.filter (fun p => p.2.st == 1 || p.2.st == 2)).map (fun p =>
    ⟨0, p.1, p.2.st, (s.limSt p.1).degraded, (s.limSt p.1).injected, none⟩) ++
  (s.isl.handed.filter (fun p => p.2.st == 1 || p.2.st == 2)).map (fun p =>
    ⟨1, p.1, p.2.st, ((s.alarmOf p.1).map IslAlarm.degraded).getD false, ((s.alarmOf p.1).map IslAlarm.injected).getD false, none⟩)

/-- A reset of the Atomizer island (R325, R329): the registers are at reset but for those of lands, streams and blocks and the enables, which R325 and
R326 have run on (DEDUCED, assumption 69); no message is due, and the lands hold their levels. -/
def State.resetAtomizer (s : State) : State :=
  let enables := s.rf Reg.PUB_CTL 2 0
  ((s.resetRegs (fun a => blockOf a == 10 && decide (a < 0xA0200))).setRf Reg.PUB_CTL 2 0 enables).setPub (fun p => { p with
    blocks := p.blocks.map (fun b => (b.1, { b.2 with due := none }))
    lands := p.lands.map (fun x => { x with relDue := none }) })

/-- The Atomizer island runs again after a reset (R325, R326): its alarms are those that the engines re-report, with the instants they were published
with; the lands are set from them, and each running block sends its states with a new stNum. -/
def State.resumeAtomizer (s1 : State) (osc : List AlarmChange) : State :=
  let was := s1.pub.alarms ++ s1.pub.extra
  let at_ (c : AlarmChange) : Instant := match was.find? (fun a => a.src == c.src && a.key == c.key) with
    | some a => a.t
    | none => s1.now
  let s2 := s1.setPub (fun p => { p with alarms := [], extra := [] })
  let s3 := (s1.reported ++ osc).foldl (fun s c => s.setAlarm (at_ c) c) s2
  let s4 := (upto 8).foldl (fun s n => s.driveLand n false) s3
  ((upto 128).filter s4.blockRuns).foldl State.publishBlock s4

/-- A batch without the provisional raises and the retractions of the limit and island engines. -/
def AlarmBatch.settled (b : AlarmBatch) : AlarmBatch :=
  { b with changes := b.changes.filter (fun c => !(decide (c.src < 2) && (c.st == 1 || c.st == 3))) }

/-- A reset of the Nose island seen by Atomizer (R242, R316): a provisional raise still on its way is never published, and alarms of its engines that
stand PROVISIONAL, with nothing else on its way for them, are published as RETRACTED at once, or when Atomizer runs again. -/
def State.retractAll (s : State) : State :=
  let left := (s.batches.map AlarmBatch.settled).filter (fun b => !b.changes.isEmpty)
  let l := (s.pub.alarms ++ s.pub.extra).filter (fun a => a.st == 1 && decide (a.src < 2) &&
    !left.any (fun b => b.changes.any (fun c => c.src == a.src && c.key == a.key)))
  let s1 := { s with batches := left }
  let b : AlarmBatch := ⟨32, s.now, l.map (fun a => ⟨a.src, a.key, 3, a.degraded, a.injected, none⟩)⟩
  if l.isEmpty then s1
  else if s.runs Isle.atomizer then s1.takeBatch b else { s1 with batches := b :: left }

end Sys2Proof.Machine
end

