-- ==== Sys2Proof/Machine/CaptureOps.lean ====
section
/-! DEFINITION. Operations of disturbance capture (chapter 11): channels and rows, the partition, arming, the trigger sequencer, and the
end of a record. -/

namespace Sys2Proof.Machine

def State.setCap (s : State) (f : CapPart → CapPart) : State := { s with cap := f s.cap }

/-- A counter of Table 11-7 by its position. -/
def State.capCount (s : State) (i n : Nat) : State := s.count (Reg.CAP_CNT i) n

def State.capUnit (s : State) (u : Nat) : CapUnit := (s.cap.units[u]?).getD idleUnit

def State.updUnit (s : State) (u : Nat) (f : CapUnit → CapUnit) : State :=
  s.setCap (fun c => { c with units := updAt c.units u f })

/-! ### Channels, rates and rows (R331 to R334) -/

/-- EST mode (Table 11-10). -/
def State.capEst (s : State) (u : Nat) : Bool := s.rb (Reg.CAP_U_CTL u) 0

/-- The enabled capture channels of a unit, rising. -/
def State.capChans (s : State) (u : Nat) : List Nat := (upto 64).filter (fun k => s.rb (Reg.CAP_U_CH u k) 31)

/-- The source of a capture channel. -/
def State.capSrc (s : State) (u k : Nat) : Nat := s.rf (Reg.CAP_U_CH u k) 17 0

/-- Bytes of an element (R333). -/
def State.elemBytes (s : State) (u : Nat) : Nat := if s.capEst u then 16 else 8

def State.rowBytes (s : State) (u : Nat) : Nat := s.elemBytes u * (s.capChans u).length

/-- The rate a source is recorded at: the SV rate of a raw input's entry, or the reporting rate of an enabled estimated channel's slot;
none where there is no such source (R331, R332). -/
def State.srcRate (s : State) (est : Bool) (src : Nat) : Option Nat :=
  if est then
    if src < estimatedBase then none
    else
      let n := (src - estimatedBase) % 8192
      let fr := rateOf (fld (s.pw 0 (n / 8) 0) 26 23)
      if bit (s.pw 1 n 1) 31 && decide (0 < fr) then some fr else none
  else if 8192 ≤ src then none
  else match s.slotEntry (src / 8) with
    | some e => some (svRate (fld (s.sw e 5) 2 0))
    | none => none

/-- The one rate of a unit's enabled channels; none where they differ, where one has no source, or where there is none (R332). -/
def State.unitRate (s : State) (u : Nat) : Option Nat :=
  match (s.capChans u).map (fun k => s.srcRate (s.capEst u) (s.capSrc u k)) with
  | some r :: rest => if rest.all (· == some r) then some r else none
  | _ => none

/-- The instant of row `n` at a rate (R131, R147, R333). -/
def rowInstant (n rate : Nat) : Instant := reportInstant n rate

/-- The number of the row whose instant is the latest at or before an instant. -/
def rowAtOrBefore (t : Instant) (rate : Nat) : Nat := ((t + 1) * max 1 rate - 1) / sec 1

/-- row_wait_ms in ticks (R334). -/
def State.rowWait (s : State) : Nat := ms (clamp 1 1000 (s.rf Reg.CAP_ROW_WAIT 9 0))

/-- An element that did not arrive (R334): zero in its value bytes and MISSING. -/
def missingElem (est : Bool) : List Word := if est then [0#32, 0#32, 4#32, 0#32] else [0#32, 0x4000#32]

/-- Whether an element is MISSING, UNSETTLED or INJECTED, by its quality (R333, Table 6-5). -/
def elemMissing (est : Bool) (e : List Word) : Bool := if est then bit ((e[2]?).getD 0#32) 2 else bit ((e[1]?).getD 0#32) 14
def elemUnsettled (est : Bool) (e : List Word) : Bool := est && bit ((e[2]?).getD 0#32) 3
def elemInjected (est : Bool) (e : List Word) : Bool := if est then bit ((e[2]?).getD 0#32) 5 else bit ((e[1]?).getD 0#32) 15

/-- An element delivered to a unit for row `num`: dropped where that row has closed. -/
def CapUnit.deliver (x : CapUnit) (num k : Nat) (e : List Word) (degraded : Bool) : CapUnit :=
  if x.st = .idle || decide (num < x.next) then x
  else match x.open_.find? (fun r => r.num == num) with
    | some _ => { x with open_ := x.open_.map (fun r =>
        if r.num == num then { r with els := setKey r.els k e, degraded := r.degraded || degraded } else r) }
    | none => { x with open_ := insertBy (fun a b => decide (a.num ≤ b.num)) (CapOpen.mk num [(k, e)] degraded) x.open_ }

/-- A sample set of ingress reaches the RAW units (R127, R333). -/
def State.capRaw (s : State) (m : SvSample) : State :=
  (upto 4).foldl (fun (s : State) u =>
    if s.capEst u || (s.capUnit u).rate != m.rate || m.epoch != s.time.epoch then s
    else (s.capChans u).foldl (fun (s : State) k =>
      if s.capSrc u k / 8 != m.slot then s
      else match m.vals[s.capSrc u k % 8]? with
        | some (v, q) => s.updUnit u (fun x => x.deliver m.num k [v, q &&& 0x3FFF#32] m.degraded)
        | none => s) s) s

/-- An estimate reaches the EST units (R147, R333). -/
def State.capEstimate (s : State) (v : ChanValue) : State :=
  (upto 4).foldl (fun (s : State) u =>
    if !s.capEst u || v.epoch != s.time.epoch then s
    else
      let num := (v.t * (s.capUnit u).rate + sec 1 / 2) / sec 1
      (s.capChans u).foldl (fun (s : State) k =>
        if s.capSrc u k != v.chan then s
        else s.updUnit u (fun x => x.deliver num k [v.w0, v.w1, put 15 0 v.flags &&& 0xFFF8#32, 0#32] (v.flags / 16 % 2 == 1))) s) s

/-! ### The partition (R335, R337) -/

/-- The partition in MiB, its directory among them. -/
def State.capMib (s : State) : Nat := 1024 * min 8 (s.rf Reg.CAP_CTL 11 8)

/-- The free runs of the partition, as base and length in MiB, rising. -/
def State.capFree (s : State) : List (Nat × Nat) :=
  let used := sortBy (fun a b => decide (a.1 ≤ b.1)) (s.cap.recs.map (fun r => (r.base, r.size)))
  let r := used.foldl (fun (acc : List (Nat × Nat) × Nat) p =>
    (if acc.2 < p.1 then acc.1 ++ [(acc.2, p.1 - acc.2)] else acc.1, p.1 + p.2)) ([], 1)
  if r.2 < s.capMib then r.1 ++ [(r.2, s.capMib - r.2)] else r.1

/-- The lowest run that holds a number of MiB. -/
def State.capFit (s : State) (n : Nat) : Option Nat := (s.capFree.find? (fun p => decide (n ≤ p.2))).map (·.1)

/-- The longest run, the lowest among equals. -/
def State.capLargest (s : State) : Nat × Nat := s.capFree.foldl (fun b p => if b.2 < p.2 then p else b) (0, 0)

/-- The lowest free record number of the directory. -/
def State.capNumber (s : State) : Option Nat := (upto 256).find? (fun n => s.cap.recs.all (fun r => r.number != n))

/-- The record with a number. -/
def State.capRec (s : State) (n : Nat) : Option CapRec := s.cap.recs.find? (fun r => r.number == n)

def State.updRec (s : State) (n : Nat) (f : CapRec → CapRec) : State :=
  s.setCap (fun c => { c with recs := c.recs.map (fun r => if r.number == n then f r else r) })

def State.dropRec (s : State) (n : Nat) : State := s.setCap (fun c => { c with recs := c.recs.filter (fun r => r.number != n) })

/-- Closed, unlocked records freed, oldest first, until a run holds `n` MiB and a directory entry is free, or none is left (R337). -/
def State.recycle (s : State) (n : Nat) : Nat → State
  | 0 => s
  | fuel + 1 =>
    if (s.capFit n).isSome && s.capNumber.isSome then s
    else match s.cap.recs.find? (fun r => r.closed && !r.locked) with
      | some r => State.recycle (s.dropRec r.number) n fuel
      | none => s

/-! ### Arming (R337, R338, R340, R353) -/

/-- Bytes reserved for a record with `pre` and `post` rows (R337). -/
def recBytes (pre post rb : Nat) : Nat := 512 + (pre + post + 1) * rb

/-- The record that an arming opens, and its unit in FILLING, or in ARMED where no pre-trigger row is asked for. -/
def State.startUnit (s : State) (u rate pre post number base size : Nat) (truncated : Bool) : State :=
  let r : CapRec :=
    { number := number, unit := u, closed := false, locked := false, base := base, size := size, est := s.capEst u, rate := rate,
      flags := if truncated then 2 else 0, epoch := s.time.epoch, preRows := 0, trigIdx := 0, trigFrac := 0, cause := 0, tTrig := 0,
      postReq := (s.reg (Reg.CAP_U_POST u)).toNat
      chans := (upto 64).map (fun k => s.reg (Reg.CAP_U_CH u k)), rows := [] }
  let s1 := (s.setCap (fun c => { c with recs := c.recs ++ [r] })).updUnit u (fun x => { idleUnit with
    st := if pre = 0 then .armed else .filling
    rate := rate, post := post, number := number, next := firstNum s.now rate, start := s.now, lastErr := x.lastErr })
  if truncated then (s1.capCount 2 1).status Reg.CAP_STAT 2 else s1

/-- An arming (R337, R338): the record number and the bytes reserved, or the status it fails with, and the state after it. Records freed by
recycling are gone though the arming fails. -/
def State.arm (s : State) (u : Nat) (trunc : Bool) : Except Nat (Nat × Nat) × State :=
  if !s.rb Reg.CAP_CTL 0 || (s.capUnit u).st != .idle then (.error St.STATE, s)
  else match s.unitRate u with
  | none => (.error 0x0B12, s)
  | some rate =>
    let rb := s.rowBytes u
    let pre := s.rf (Reg.CAP_U_PRE u) 19 0
    let post := (s.reg (Reg.CAP_U_POST u)).toNat
    let mib := ceilDiv (recBytes pre post rb) (2 ^ 20)
    let cut (s : State) (st : Nat) : Except Nat (Nat × Nat) × State :=
      let run := s.capLargest
      let least := recBytes pre 1 rb
      if !trunc then (.error st, s)
      else match s.capNumber with
      | some n =>
        if decide (least ≤ run.2 * 2 ^ 20) then
          (.ok (n, run.2 * 2 ^ 20), s.startUnit u rate pre (min post ((run.2 * 2 ^ 20 - 512) / max 1 rb - pre - 1)) n run.1 run.2 true)
        else (.error 0x0B11, s)
      | none => (.error 0x0B11, s)
    if 3145728 < pre * rb then (.error 0x0B10, s)
    else if s.capMib = 0 then (.error 0x0B11, s)
    else if s.capMib - 1 < mib then cut s St.CAP_TOO_LONG
    else
      let s1 := if s.rb (Reg.CAP_U_CTL u) 3 then s.recycle mib 256 else s
      match s1.capFit mib, s1.capNumber with
      | some base, some n => (.ok (n, mib * 2 ^ 20), s1.startUnit u rate pre post n base mib false)
      | _, _ => cut s1 0x0B11

/-- An arming that no command asked for: its failure is left in last_err. -/
def State.armQuiet (s : State) (u : Nat) : State × Bool :=
  match s.arm u (s.rb (Reg.CAP_U_CTL u) 4) with
  | (.ok _, s1) => (s1, true)
  | (.error st, s1) => (s1.updUnit u (fun x => { x with lastErr := st }), false)

/-- A unit disarmed without a record (R347, R357). -/
def State.disarm (s : State) (u : Nat) : State :=
  (s.dropRec (s.capUnit u).number).updUnit u (fun x => { idleUnit with lastErr := x.lastErr })

/-! ### The end of a record (R339, R354 to R358) -/

/-- Flags of Table 11-1 that a record's rows make. -/
def CapRec.rowFlags (r : CapRec) : Nat :=
  (if r.rows.any (fun x => x.els.any (elemInjected r.est)) then 64 else 0) +
  (if r.rows.any (fun x => x.els.any (elemMissing r.est)) then 256 else 0) +
  (if r.rows.any (·.degraded) then 512 else 0)

/-- A number with the bits of another set. -/
def orNat (a b : Nat) : Nat := a ||| b

/-- The record stops: its unit goes to CLOSING until the drain is complete. -/
def State.beginClose (s : State) (u flags : Nat) : State :=
  (s.updRec (s.capUnit u).number (fun r => { r with flags := orNat r.flags flags })).updUnit u (fun x => { x with st := .closing })

/-- The record of a unit closes (R358): its header is written, cap_rec counts it, and Sillage is told. -/
def State.finishRec (s : State) (u : Nat) : State :=
  match s.capRec (s.capUnit u).number with
  | none => s
  | some r0 =>
    let r := { r0 with closed := true, flags := orNat r0.flags r0.rowFlags }
    let s1 := s.setCap (fun c => { c with recs := c.recs.filter (fun x => x.number != r.number) ++ [r] })
    let s2 := (s1.capCount 0 1).status Reg.CAP_STAT 0
    let detail := [word u, word r.number, word r.flags, word r.cause] ++ instantWords r.tTrig
    if r.flags / 64 % 4 = 0 then s2.raise 12 (r.rows.length : Rat) detail else s2.raiseInjected 12 (r.rows.length : Rat) detail

/-- RECORD_DRAIN_COMPLETE's effect: the record closes; after an overflow the unit is IDLE, else IDLE or armed anew (R340, R354). -/
def State.drained (s : State) (u : Nat) : State :=
  let extra := match s.capRec (s.capUnit u).number with
    | some r => r.flags % 2 == 1
    | none => false
  let s1 := ((s.finishRec u).issueBarrier Isle.capture).updUnit u (fun x => { idleUnit with lastErr := x.lastErr })
  if extra || !s.rb (Reg.CAP_U_CTL u) 2 then s1
  else
    let r := s1.armQuiet u
    if r.2 then r.1 else r.1.status Reg.CAP_STAT 5

/-! ### The trigger sequencer (R341 to R348) -/

/-- The quantity of an element (R341): in RAW mode the value times the input's scale, in EST mode a phasor's magnitude or the value. -/
def State.elemQty (s : State) (u k : Nat) (e : List Word) : Quantity :=
  let src := s.capSrc u k
  if s.capEst u then
    (if src < estimatedBase + 8192 then Quantity.ofPhasor ((e[0]?).getD 0#32) ((e[1]?).getD 0#32) else Quantity.ofWord ((e[0]?).getD 0#32))
  else
    let v := signed 32 ((e[0]?).getD 0#32).toNat
    match Quantity.ofWord (s.pw 1 src 0) with
    | .val x => .val ((v : Rat) * x)
    | .pinf => if v = 0 then .nan else if 0 < v then .pinf else .ninf
    | .ninf => if v = 0 then .nan else if 0 < v then .ninf else .pinf
    | q => q

/-- A quantity as a number, where it is one. -/
def Quantity.num : Quantity → Option Rat
  | .val x => some x
  | .mag sq => some (Elem.sqrt sq)
  | _ => none

/-- The element of a capture channel in a row. -/
def State.elemOf (s : State) (u k : Nat) (r : CapRow) : Option (List Word) :=
  ((s.capChans u).zip r.els).find? (fun p => p.1 == k) |>.map (·.2)

/-- A row's usable quantity of a capture channel: none where the channel is not enabled, or the element is MISSING or UNSETTLED. -/
def State.rowQty (s : State) (u k : Nat) (r : CapRow) : Option Quantity :=
  match s.elemOf u k r with
  | some e => if elemMissing (s.capEst u) e || elemUnsettled (s.capEst u) e then none else some (s.elemQty u k e)
  | none => none

/-- A comparison with a binary32 threshold: above it, or below it with dir 1. -/
def beyond (thr : Word) (below : Bool) (q : Quantity) : Bool :=
  if below then belowWord q thr else aboveWord q thr

/-- The slope between two rows in units per second, where both elements are usable numbers. -/
def State.slope (s : State) (u k : Nat) (r p : CapRow) : Option Rat :=
  match (s.rowQty u k r).bind Quantity.num, (s.rowQty u k p).bind Quantity.num with
  | some a, some b => if r.t ≤ p.t then none else some ((a - b) / ratSeconds (r.t - p.t))
  | _, _ => none

/-- The instant between two rows at which a quantity passes a threshold (R348), rounded down to a tick. -/
def crossing (t0 t1 : Instant) (q0 q1 thr : Rat) : Instant :=
  if q1 = q0 then t1 else t0 + (((thr - q0) / (q1 - q0)) * ((t1 - t0 : Nat) : Rat)).floor.toNat

/-- The status word of PATTERN (R342), as the row is evaluated. -/
def State.patternWord (s : State) : Nat :=
  total ((upto 8).map (fun n => if (s.land n).on then 2 ^ n else 0)) +
  total ((upto 4).map (fun u => if (s.capUnit u).st = .triggered then 2 ^ (8 + u) else 0)) + 4096 * s.cap.trigIn.toNat

/-- A sequencer word of a unit's state: its place as in CapSeqWord. -/
def seqReg (u st slot : Nat) : Nat :=
  match slot with
  | 0 => Reg.CAP_U_S_COND u st
  | 1 => Reg.CAP_U_S_THR u st
  | 2 => Reg.CAP_U_S_SEL u st
  | 3 => Reg.CAP_U_S_N u st
  | 4 => Reg.CAP_U_S_TMR u st
  | _ => Reg.CAP_U_S_EXIT u st

def State.seqWord (s : State) (u slot : Nat) : Word := s.reg (seqReg u (s.capUnit u).seq slot)

/-- The condition kind of a unit's present state (Table 11-3). -/
def State.condKind (s : State) (u : Nat) : Nat := let k := fld (s.seqWord u 0) 3 0; if k < 8 then k else 0

/-- Whether a unit's present condition selects an event. -/
def State.selects (s : State) (u : Nat) (e : CapEvt) : Bool :=
  let c := s.seqWord u 0
  let sel := s.seqWord u 2
  match s.condKind u, e.kind with
  | 4, .alarm src key => bit sel 31 && fld sel 17 16 == src && (bit sel 30 || fld sel 15 0 == key)
  | 5, .ext i => fld c 13 12 == i
  | 6, .cmp n => fld sel 2 0 == n
  | 7, .thr ch st => s.capEst u && s.rb (Reg.CAP_U_CH u (fld c 9 4)) 31 && s.capSrc u (fld c 9 4) == ch &&
      (if bit c 10 then st == 2 else st == 1)
  | _, _ => false

/-- What a condition comes to at a row: its truth, the trigger point where COND triggers there, and whether an event that carries INJECTED
made it true. -/
structure CondOut where
  truth    : Bool
  point    : Instant
  injected : Bool

/-- The condition of a unit's present state at its newest row (R341, R342, R348). `evts` are the events that count at this row. -/
def State.condition (s : State) (u : Nat) (evts : List CapEvt) : CondOut :=
  let x := s.capUnit u
  let c := s.seqWord u 0
  let k := fld c 9 4
  let thr := s.seqWord u 1
  match x.rows with
  | [] => ⟨false, s.now, false⟩
  | r :: older =>
    match s.condKind u with
    | 1 => match s.rowQty u k r with
      | none => ⟨x.truth, r.t, false⟩
      | some q =>
        let on := beyond thr (bit c 10) q
        let at_ := match older.head? with
          | some p => match s.rowQty u k p with
            | some q0 => (match q0.num, q.num with
              | some a, some b => if beyond thr (bit c 10) q0 || !F32.isFinite thr then r.t else crossing p.t r.t a b (F32.toRat thr)
              | _, _ => r.t)
            | none => r.t
          | none => r.t
        ⟨on, at_, false⟩
    | 2 => match s.rowQty u k r with
      | none => ⟨x.truth, r.t, false⟩
      | some _ => match older with
        | p :: rest => match s.slope u k r p with
          | some d =>
            let on := beyond thr (bit c 10) (.val d)
            let at_ := match rest.head? with
              | some p2 => (match s.slope u k p p2 with
                | some d0 => if beyond thr (bit c 10) (.val d0) || !F32.isFinite thr then r.t else crossing p.t r.t d0 d (F32.toRat thr)
                | none => r.t)
              | none => r.t
            ⟨on, at_, false⟩
          | none => ⟨false, r.t, false⟩
        | [] => ⟨false, r.t, false⟩
    | 3 => ⟨decide (s.patternWord &&& fld (s.seqWord u 2) 15 0 = fld (s.seqWord u 2) 31 16), r.t, false⟩
    | _ => match evts.find? (s.selects u) with
      | some e => ⟨true, e.t, e.injected⟩
      | none => ⟨false, r.t, false⟩

/-- Entry into a state at a row (R345). -/
def State.enterSeq (s : State) (u st : Nat) (t : Instant) : State :=
  s.updUnit u (fun x => { x with seq := st, c0 := 0, c1 := 0, start := t, truth := false, cross := t })

/-- Whether the timer of the present state has expired at an instant (R345). -/
def State.timerDone (s : State) (u : Nat) (t : Instant) : Bool :=
  let w := s.seqWord u 4
  let dur := if bit w 31 then ms (fld w 23 0) else us (fld w 23 0)
  fld w 23 0 != 0 && decide ((s.capUnit u).start + dur ≤ t)

/-- Whether an exit's cause holds (R346). -/
def State.causeHolds (s : State) (u cause : Nat) (truth : Bool) (t : Instant) : Bool :=
  let n := s.seqWord u 3
  match cause with
  | 1 => decide (max 1 (fld n 15 0) ≤ (s.capUnit u).c0)
  | 2 => decide (max 1 (fld n 31 16) ≤ (s.capUnit u).c1)
  | 3 => s.timerDone u t
  | 4 => !truth
  | 5 => true
  | _ => false

/-- The trig_cause field (Table 11-1): state, condition kind, and the capture channel or input the condition names. -/
def State.causeWord (s : State) (u : Nat) : Nat :=
  let c := s.seqWord u 0
  let k := s.condKind u
  (s.capUnit u).seq + 16 * k +
    256 * (if k = 1 || k = 2 || k = 7 then fld c 9 4 else if k = 5 then fld c 13 12 else 0)

/-! ### Triggering (R348 to R350) -/

/-- The unit is TRIGGERED at a trigger point: the record begins with the pre-trigger rows that the ring holds, and takes post rows after
the preceding sample. -/
def State.capTrigger (s : State) (u : Nat) (point : Instant) (cause flags : Nat) : State :=
  let x := s.capUnit u
  let p := rowAtOrBefore point x.rate
  let tp := rowInstant p x.rate
  let gap := rowInstant (p + 1) x.rate - tp
  let pre := s.rf (Reg.CAP_U_PRE u) 19 0
  let held := (x.rows.filter (fun r => decide (p ≤ r.num + pre) && decide (r.num ≤ p + x.post))).reverse
  let before := (held.filter (fun r => decide (r.num < p))).length
  let s1 := (s.updRec x.number (fun r => { r with
    epoch := s.time.epoch, preRows := before, trigIdx := before, trigFrac := min 65535 ((point - tp) * 65536 / max 1 gap)
    cause := cause, tTrig := point, flags := orNat r.flags flags, rows := held })).updUnit u (fun x => { x with
      st := .triggered, endNum := p + x.post, undrained := held.length * s.rowBytes u })
  if x.next ≤ p + x.post then s1 else s1.beginClose u 0

/-- An exit taken at a row (R346, R347): TRIGGER acts as GOTO in a unit that is TRIGGERED or CLOSING, and STOP ends what the unit does. -/
def State.takeExit (s : State) (u act target cause : Nat) (o : CondOut) (rowInj : Bool) (t : Instant) : State :=
  let x := s.capUnit u
  let waiting := x.st == .filling || x.st == .armed
  match act with
  | 1 =>
    let kind := s.condKind u
    let point := if cause = 1 then (if kind = 1 || kind = 2 then x.cross else if kind = 3 then t else o.point) else t
    let inj := o.injected || rowInj
    let s1 := if waiting then s.capTrigger u point (s.causeWord u) (if inj then 128 else 0)
      else if x.st = .triggered then s.capCount 3 1 else s
    s1.enterSeq u target t
  | 2 => if waiting then s.disarm u else if x.st = .triggered then s.beginClose u 4 else s
  | _ => s.enterSeq u target t

/-- The sequencer evaluates a unit's newest row (R341 to R347). -/
def State.evaluate (s : State) (u : Nat) (r : CapRow) : State :=
  let x := s.capUnit u
  let evts := x.queue.filter (fun e => decide (e.t ≤ r.t))
  let rowInj := r.els.any (elemInjected (s.capEst u))
  let s0 := s.updUnit u (fun x => { x with queue := x.queue.filter (fun e => decide (r.t < e.t)), force := false })
  let s1 := if x.force && (x.st == .filling || x.st == .armed)
    then s0.capTrigger u r.t (s0.capUnit u).seq (1024 + if rowInj then 128 else 0) else s0
  let o := s1.condition u evts
  let s2 := s1.updUnit u (fun x => { x with
    truth := o.truth
    cross := if o.truth && x.c0 == 0 then o.point else x.cross
    c0 := if o.truth then x.c0 + 1 else 0
    c1 := if o.truth then x.c1 + 1 else x.c1 })
  let w := s2.seqWord u 5
  if s2.causeHolds u (fld w 2 0) o.truth r.t then s2.takeExit u (fld w 5 4) (fld w 10 8) (fld w 2 0) o rowInj r.t
  else if s2.causeHolds u (fld w 18 16) o.truth r.t then s2.takeExit u (fld w 21 20) (fld w 26 24) (fld w 18 16) o rowInj r.t
  else s2

/-! ### Closing rows (R334, R339, R354) -/

/-- Rows that the ring of 4 MiB holds. -/
def State.ringRows (s : State) (u : Nat) : Nat := 4194304 / max 1 (s.rowBytes u)

/-- A closed row enters the ring, and in TRIGGERED the record (R339, R354); the sequencer then evaluates it. -/
def State.takeRow (s : State) (u : Nat) (r : CapRow) : State :=
  let x := s.capUnit u
  let rb := s.rowBytes u
  let pre := s.rf (Reg.CAP_U_PRE u) 19 0
  if x.st = .triggered && decide (4194304 < x.undrained + rb) then
    ((s.beginClose u 1).capCount 1 1).status Reg.CAP_STAT 1
  else
    let s1 := s.updUnit u (fun x => { x with rows := (r :: x.rows).take (s.ringRows u) })
    let s2 := match x.st with
      | .filling => if pre ≤ (s1.capUnit u).rows.length then s1.updUnit u (fun x => { x with st := .armed }) else s1
      | .triggered =>
        let s3 := (s1.updRec x.number (fun c => { c with rows := c.rows ++ [r] })).updUnit u (fun x => { x with undrained := x.undrained + rb })
        if x.endNum ≤ r.num then s3.beginClose u 0 else s3
      | _ => s1
    s2.evaluate u r

/-- The next row of a unit closes with the elements it has (R334). -/
def State.closeRow (s : State) (u : Nat) : State :=
  let x := s.capUnit u
  let o := (x.open_.find? (fun r => r.num == x.next)).getD ⟨x.next, [], false⟩
  let ks := s.capChans u
  let els := ks.map (fun k => (lookup o.els k).getD (missingElem (s.capEst u)))
  let miss := (ks.filter (fun k => (lookup o.els k).isNone)).length
  ((s.capCount 5 miss).updUnit u (fun x => { x with next := x.next + 1, open_ := x.open_.filter (fun r => r.num != o.num) })).takeRow u
    ⟨o.num, rowInstant o.num x.rate, els, o.degraded⟩

/-- Whether the next row of a unit has every element. -/
def State.rowComplete (s : State) (u : Nat) : Bool :=
  let x := s.capUnit u
  x.st != .idle && x.open_.any (fun r => r.num == x.next && (s.capChans u).all (fun k => (lookup r.els k).isSome))

/-- Rows of a unit close as long as the next is complete (R334: in increasing instant order). -/
def State.closeReady (s : State) (u : Nat) : Nat → State
  | 0 => s
  | n + 1 => if s.rowComplete u then State.closeReady (s.closeRow u) u n else s

/-- Every complete row of every unit closes. -/
def State.closeAll (s : State) : State := (upto 4).foldl (fun (s : State) u => s.closeReady u ((s.capUnit u).open_.length)) s

/-! ### Events (R343, R344, R353) -/

/-- An event joins the queue of every unit that is not IDLE, or is dropped where a queue holds 16 (R343). -/
def State.queueEvt (s : State) (e : CapEvt) : State :=
  (upto 4).foldl (fun (s : State) u =>
    let x := s.capUnit u
    if x.st = .idle then s
    else if 16 ≤ x.queue.length then (s.capCount 4 1).status Reg.CAP_STAT 3
    else s.updUnit u (fun x => { x with queue := x.queue ++ [e] })) s

/-! ### Steps, resets and disabling (R355, R356, Table 11-8) -/

/-- A step of module time at the capture units (R355). -/
def State.capStep (s : State) : State :=
  (upto 4).foldl (fun (s : State) u =>
    let x := s.capUnit u
    let s1 := s.updUnit u (fun x => { x with open_ := [], next := firstNum s.now x.rate })
    match x.st with
    | .triggered => ((s1.beginClose u 8).capCount 6 1).status Reg.CAP_STAT 4
    | .filling | .armed => s1.updUnit u (fun x => { x with
        st := if s.rf (Reg.CAP_U_PRE u) 19 0 = 0 then .armed else .filling
        rows := [], queue := [], seq := 0, c0 := 0, c1 := 0, start := s.now, truth := false, cross := s.now, force := false })
    | _ => s1) s

/-- A record whose recording is cut short ends, with a flag, at the last row already in bulk memory. -/
def State.cutRecord (s : State) (u flags : Nat) : State :=
  let x := s.capUnit u
  let rb := max 1 (s.rowBytes u)
  s.updRec x.number (fun r => { r with
    flags := orNat r.flags flags, rows := r.rows.take ((r.rows.length * rb - x.undrained) / rb) })

/-- Registers of the capture block whose contents a reset keeps: channels and sequencer settings (R361). -/
def capKept (a : Nat) : Bool := decide (0xB1000 ≤ a) && decide (a < 0xB2000) && decide (0x100 ≤ a % 0x400)

/-- A unit over a reset of the capture island: one that was recording keeps its number and waits to close its record. -/
def heldUnit (x : CapUnit) : CapUnit :=
  match x.st with
  | .triggered | .closing => { idleUnit with st := .closing, number := x.number }
  | _ => idleUnit

/-- A reset of the capture island (R356, R361): the rings are lost, and what was being recorded ends at the last row in bulk memory. -/
def State.resetCapture (s : State) : State :=
  let s1 := (upto 4).foldl (fun (s : State) u =>
    match (s.capUnit u).st with
    | .triggered | .closing => s.cutRecord u 16
    | .filling | .armed => s.dropRec (s.capUnit u).number
    | .idle => s) s
  let s2 := { s1 with capIn := [], cap := { s1.cap with units := s1.cap.units.map heldUnit } }
  s2.resetRegs (fun a => blockOf a == 11 && !capKept a)

/-- The capture island runs again after a reset (R356): the records that were cut close, and every unit is IDLE. -/
def State.resumeCapture (s : State) : State :=
  let s1 := (upto 4).foldl (fun (s : State) u => if (s.capUnit u).st == .closing then s.finishRec u else s) s
  { s1 with cap := { s1.cap with units := List.replicate 4 idleUnit } }

/-- Every unit IDLE once CAP_CTL.en is 0 (Table 11-8): what is recorded closes with STOPPED. -/
def State.capDisable (s : State) : State :=
  (upto 4).foldl (fun (s : State) u =>
    match (s.capUnit u).st with
    | .triggered => ((s.beginClose u 4).finishRec u).updUnit u (fun x => { idleUnit with lastErr := x.lastErr })
    | .closing => (s.finishRec u).updUnit u (fun x => { idleUnit with lastErr := x.lastErr })
    | .filling | .armed => s.disarm u
    | .idle => s) s

/-- A write of part_gib (R335): ignored, with part_ro set, unless every unit is IDLE and no record is held. -/
def State.writePart (s : State) (gib : Nat) : State :=
  if gib = s.rf Reg.CAP_CTL 11 8 then s
  else if s.cap.recs.isEmpty && (upto 4).all (fun u => (s.capUnit u).st == .idle) then s.setRf Reg.CAP_CTL 11 8 gib
  else s.status Reg.CAP_STAT 6

/-! ### TRIG_OUT (R351) -/

/-- The level at a TRIG_OUT land, none where it is high-impedance. -/
def State.trigOut (s : State) (j : Nat) : Option Bool :=
  let src := s.rf Reg.CAP_TRIGIN_CTL (19 + 4 * j) (16 + 4 * j)
  let on := s.cmpPulsing j || s.runs Isle.capture && (upto 4).any (fun u => (src / 2 ^ u) % 2 == 1 && (s.capUnit u).st != .idle && bit (s.seqWord u 0) (16 + j))
  if s.drivesLogic Isle.fixative then some (on == s.rb Reg.CAP_TRIGIN_CTL (24 + j)) else none

/-- The level at PPS_OUT (R61, R557): none where it is high-impedance or its drivers are not enabled (Table 2-12). -/
def State.ppsLand (s : State) : Option Bool :=
  if s.drivesLogic Isle.fixative && s.rb Reg.TB_CTL 2 then some s.time.ppsOutEnd.isSome else none

end Sys2Proof.Machine
end

