-- ==== Sys2Proof/Machine/Capture.lean ====
section
/-! DEFINITION. Disturbance capture (chapter 11): the meanings of its commands and its events. -/

namespace Sys2Proof.Machine

/-! ### Events -/

/-- Whether a message to the capture units carries an element. -/
def CapIn.isElem : CapIn → Bool
  | .raw _ | .est _ => true
  | _ => false

/-- The first message of a list that passes a test, and the rest. -/
def takeFirst {α : Type} (f : α → Bool) : List α → Option (α × List α)
  | [] => none
  | x :: rest => if f x then some (x, rest) else (takeFirst f rest).map (fun p => (p.1, x :: p.2))

/-- CAPTURE_ROW_CLOSE (R334): the oldest sample set or estimate on its way is delivered, and every row that it completes closes. -/
def execCaptureRowClose (at_ : Instant) (s0 : State) : Host.Outcome State Fault Refusal :=
  let s := s0.advance at_
  if !s.runs Isle.capture then .next s
  else match takeFirst CapIn.isElem s.capIn with
  | some (.raw m, rest) => .next (({ s with capIn := rest }).capRaw m).closeAll
  | some (.est v, rest) => .next (({ s with capIn := rest }).capEstimate v).closeAll
  | _ => .next s.closeAll

/-- CAPTURE_ROW_WAIT_EXPIRY (R334): row_wait_ms after its instant the next row of a unit closes. -/
def execCaptureRowWaitExpiry (u : Fin 4) (s : State) : Host.Outcome State Fault Refusal :=
  let x := s.capUnit u.val
  if x.st = .idle then .next s
  else
    let s1 := s.advance (rowInstant x.next x.rate + s.rowWait)
    .next (if s1.runs Isle.capture then (s1.closeRow u.val).closeAll else s1)

/-- The event that a message stands for (R343). -/
def CapIn.evt : CapIn → Option CapEvt
  | .alarm src key inj t => some ⟨.alarm src key, t, inj⟩
  | .ext i _ t => some ⟨.ext i, t, false⟩
  | .cmp n t => some ⟨.cmp n, t, false⟩
  | .thr c st inj t => some ⟨.thr c st, t, inj⟩
  | _ => none

/-- CAPTURE_EVENT_QUEUE (R343): the oldest event on its way joins the queues. -/
def execCaptureEventQueue (at_ : Instant) (s0 : State) : Host.Outcome State Fault Refusal :=
  let s := s0.advance at_
  if !s.runs Isle.capture then .next s
  else match takeFirst (fun m => !m.isElem) s.capIn with
  | some (m, rest) => match m.evt with
    | some e => .next (({ s with capIn := rest }).queueEvt e)
    | none => .next { s with capIn := rest }
  | none => .next s

/-- RECORD_DRAIN_COMPLETE (R339, R340). -/
def execRecordDrainComplete (at_ : Instant) (u : Fin 4) (s0 : State) : Host.Outcome State Fault Refusal :=
  let s := s0.advance at_
  .next (if (s.capUnit u.val).st = .closing && s.runs Isle.capture then s.drained u.val else s)

/-- A register write of CAP_CTL (R7, R335, Table 11-8). -/
def State.writeCapCtl (s : State) (v : Word) : State :=
  if s.rb Reg.CAP_CTL 31 then s
  else
    let s1 := (s.writePart (fld v 11 8)).setRb Reg.CAP_CTL 0 (bit v 0)
    let s2 := if bit v 0 then s1 else s1.capDisable
    s2.setRb Reg.CAP_CTL 31 (bit v 31)

/-- CAP_PART_WRITE (R335). -/
def execCapPartWrite (at_ : Instant) (gib : Fin 16) (s : State) : Host.Outcome State Fault Refusal :=
  .next ((s.advance at_).writeCapCtl (setFld (s.reg Reg.CAP_CTL) 11 8 gib.val))

/-! ### Commands (R360, Table 11-5) -/

/-- CAP_U_STAT (Table 11-7). -/
def CapUnit.stat (x : CapUnit) : Word := put 2 0 x.st.code ||| put 6 4 x.seq ||| put 15 8 x.number ||| put 31 16 x.lastErr

/-- MiB of the partition in use, and records held. -/
def State.capUse (s : State) : Word := put 13 0 (total (s.cap.recs.map (·.size))) ||| put 24 16 s.cap.recs.length

/-- CAP_STATUS. -/
def bodyCapStatus (s : State) : Res :=
  ok ([s.reg Reg.CAP_STAT, s.capUse] ++ (upto 4).map (fun u => (s.capUnit u).stat) ++ (upto 8).map (fun i => s.reg (Reg.CAP_CNT i))) s

def execCapStatus (h : Hdr) (s : State) : Host.Outcome State Fault Refusal := .next (runCmd 0x0B00 h bodyCapStatus s)

/-- Whether a unit is IDLE, as its settings ask (R360). -/
def State.unitIdle (s : State) (u : Nat) : Bool := (s.capUnit u).st == .idle

/-- Words of a unit's sequencer cleared. -/
def State.clearSeq (s : State) (u : Nat) : State :=
  s.resetRegs (fun a => decide (Reg.CAP_U_S_COND u 0 ≤ a) && decide (a < Reg.CAP_U_S_COND u 8))

/-- A unit's mode, its row counts and a sequencer of two states: S0 waits for the trigger, S1 does nothing. -/
def State.setCapProfile (s : State) (a : CapProfileArgs) : State :=
  let u := a.unit.val
  let s1 := (((s.setRb (Reg.CAP_U_CTL u) 0 a.est).setReg (Reg.CAP_U_PRE u) (word a.pre)).setReg (Reg.CAP_U_POST u) (word a.post)).clearSeq u
  let exit : Word := put 2 0 1 ||| put 5 4 1 ||| put 10 8 1
  let s2 := match a.trig with
    | .level ch below thr =>
      (s1.setReg (Reg.CAP_U_S_COND u 0) (put 3 0 1 ||| put 9 4 ch.val ||| putBit 10 below)).setReg (Reg.CAP_U_S_THR u 0) thr
    | .ext tin => s1.setReg (Reg.CAP_U_S_COND u 0) (put 3 0 5 ||| put 13 12 tin.val)
  (s2.setReg (Reg.CAP_U_S_N u 0) (put 15 0 1)).setReg (Reg.CAP_U_S_EXIT u 0) exit

/-- CAP_UNIT_PROFILE. -/
def bodyCapUnitProfile (a : CapProfileArgs) (s : State) : Res :=
  if !s.unitIdle a.unit.val then refuse St.STATE s
  else if decide (2 ^ 20 ≤ a.pre) || decide (2 ^ 32 ≤ a.post) then refuse St.PARAM_RANGE s
  else ok [] (s.setCapProfile a)

def execCapUnitProfile (h : Hdr) (a : CapProfileArgs) (s : State) : Host.Outcome State Fault Refusal :=
  .next (runCmd 0x0B01 h (bodyCapUnitProfile a) s)

/-- CAP_CHANNELS (R331). -/
def bodyCapChannels (u : Fin 4) (l : List CapChannel) (s : State) : Res :=
  if !s.unitIdle u.val then refuse St.STATE s
  else ok [] (l.foldl (fun (s : State) c => s.setReg (Reg.CAP_U_CH u.val c.k.val) (putBit 31 c.en ||| put 17 0 c.src.toNat)) s)

def execCapChannels (h : Hdr) (u : Fin 4) (l : List CapChannel) (s : State) : Host.Outcome State Fault Refusal :=
  .next (runCmd 0x0B02 h (bodyCapChannels u l) s)

/-- CAP_ARM and CAP_ARM_X: the record number and the bytes reserved. -/
def bodyCapArm (u : Fin 4) (trunc : Bool) (s : State) : Res :=
  match s.arm u.val trunc with
  | (.ok (n, bytes), s1) => ok [word n, word bytes, word (bytes / 2 ^ 32)] s1
  | (.error st, s1) => refuse st s1

def execCapArm (h : Hdr) (u : Fin 4) (s : State) : Host.Outcome State Fault Refusal := .next (runCmd 0x0B03 h (bodyCapArm u false) s)

def execCapArmX (h : Hdr) (u : Fin 4) (trunc : Bool) (s : State) : Host.Outcome State Fault Refusal :=
  .next (runCmd 0x0B81 h (bodyCapArm u trunc) s)

/-- The rows in the ring made a record without a trigger (R357): the newest that its reservation holds. -/
def State.keepRing (s : State) (u : Nat) : State :=
  let x := s.capUnit u
  let rb := s.rowBytes u
  let size := ((s.capRec x.number).map (·.size)).getD 0
  let held := (x.rows.take ((size * 2 ^ 20 - 512) / max 1 rb)).reverse
  let free := Config.noTrigger s.free
  let s1 := s.nextFree.updRec x.number (fun r => { r with
    epoch := s.time.epoch, preRows := held.length - 1, trigIdx := held.length - 1, trigFrac := free.2.1, cause := free.2.2, tTrig := free.1
    rows := held })
  (s1.updUnit u (fun x => { x with undrained := held.length * rb })).beginClose u 32

/-- CAP_STOP (R357). -/
def bodyCapStop (u : Fin 4) (keep : Bool) (s : State) : Res :=
  match (s.capUnit u.val).st with
  | .triggered => ok [] (s.beginClose u.val 4)
  | .filling | .armed => ok [] (if keep then s.keepRing u.val else s.disarm u.val)
  | .idle | .closing => refuse St.STATE s

def execCapStop (h : Hdr) (u : Fin 4) (keep : Bool) (s : State) : Host.Outcome State Fault Refusal :=
  .next (runCmd 0x0B04 h (bodyCapStop u keep) s)

/-- CAP_FORCE (R348): the first row evaluated from now on triggers. -/
def bodyCapForce (u : Fin 4) (s : State) : Res :=
  match (s.capUnit u.val).st with
  | .filling | .armed => ok [] (s.updUnit u.val (fun x => { x with force := true }))
  | _ => refuse St.STATE s

def execCapForce (h : Hdr) (u : Fin 4) (s : State) : Host.Outcome State Fault Refusal := .next (runCmd 0x0B05 h (bodyCapForce u) s)

/-- An entry of CAP_LIST: number, unit, state and lock; flags; t_trig; size in MiB. -/
def CapRec.entry (r : CapRec) : List Word :=
  [put 7 0 r.number ||| put 9 8 r.unit ||| put 17 16 (if r.closed then 2 else 1) ||| putBit 24 r.locked, word r.flags] ++
    instantWords r.tTrig ++ [word r.size]

/-- CAP_LIST (R359): the entries of the directory from a record number on; a free one shows its number and state 0. -/
def bodyCapList (first : Fin 256) (s : State) : Res :=
  ok (((upto 256).drop first.val).flatMap (fun n => match s.capRec n with
    | some r => r.entry
    | none => [put 7 0 n, 0#32, 0#32, 0#32, 0#32, 0#32])) s

def execCapList (h : Hdr) (first : Fin 256) (s : State) : Host.Outcome State Fault Refusal :=
  .next (runCmd 0x0B06 h (bodyCapList first) s)

/-- The first 508 bytes of a record's header (Table 11-1). -/
def CapRec.head (r : CapRec) : List Byte :=
  let t0 : Instant := match r.rows.head? with
    | some x => x.t
    | none => r.tTrig
  le 2 r.number ++ le 1 r.unit ++ le 1 r.est.toNat ++ le 2 (r.chans.filter (fun w => bit w 31)).length ++ le 2 r.rate ++
    le 4 r.flags ++ le 4 r.epoch.toNat ++ instantBytes t0 ++ le 4 r.rows.length ++ le 4 r.preRows ++ le 4 r.trigIdx ++
    le 2 r.trigFrac ++ le 2 r.cause ++ instantBytes r.tTrig ++ le 4 (r.rows.length + 0xFFFFFFFF) ++ le 4 r.postReq ++
    bytesOf (r.chans.map (fun w => w &&& 0x8003FFFF#32)) ++ le 188 0

/-- The header of a record with its CRC-32C (R336). -/
def CapRec.header (r : CapRec) : List Byte := r.head ++ bytesLE (crc32c r.head)

/-- The base address of the capture partition (Table 16-2). -/
def captureBase : Nat := 0x5A0000000

/-- A row as CAP_READ delivers it: the elements that a poisoned transfer touches are marked MISSING (Table 19-4). `off` is the row's place in
the record. -/
def CapRow.read (r : CapRow) (est : Bool) (off : Nat) (poison : List Nat) : List (List Word) :=
  let n := if est then 16 else 8
  ((upto r.els.length).zip r.els).map (fun p =>
    if poison.contains ((off + p.1 * n) / 64) || poison.contains ((off + p.1 * n + n - 1) / 64) then missingElem est else p.2)

/-- The header and a range of rows of a record copied to the host's buffer, as many rows as it holds. The words say how many, and how many a
poisoned transfer marked. -/
def State.copyRecord (s : State) (via : Via) (buf len : Nat) (r : CapRec) (a : CapReadArgs) : List Word × State :=
  let rb := (if r.est then 16 else 8) * (r.chans.filter (fun w => bit w 31)).length
  let rows := ((r.rows.drop a.first).take a.count).take ((len - 512) / max 1 rb)
  let off := 512 + a.first * rb
  let rd := s.readBulk 2 (captureBase + r.base * 2 ^ 20 + off) (rows.length * rb)
  let poison := rd.1.map (fun i => i + off / 64)
  let got := ((upto rows.length).zip rows).map (fun p => p.2.read r.est (off + p.1 * rb) poison)
  let hit := (((upto rows.length).zip rows).filter (fun p => p.2.read r.est (off + p.1 * rb) poison != p.2.els)).length
  let out := wordsLE r.header ++ got.flatMap (fun x => x.flatMap id)
  ([word rows.length, word hit], rd.2.hostWrite via buf out)

/-- CAP_READ (R354, R359): the header and a range of rows of a closed record, as many rows as the buffer holds. -/
def bodyCapRead (via : Via) (buf len : Nat) (a : CapReadArgs) (s : State) : Res :=
  match s.capRec a.number.val with
  | none => refuse 0x0B13 s
  | some r =>
    if !r.closed then refuse St.STATE s
    else if len < 512 || r.rows.length < a.first then refuse St.PARAM_RANGE s
    else
      let x := s.copyRecord via buf len r a
      .done (if r.flags % 2 == 1 then St.CAP_OVERFLOW else St.OK) x.1 x.2

def execCapRead (h : Hdr) (a : CapReadArgs) (s : State) : Host.Outcome State Fault Refusal :=
  .next (runCmd 0x0B07 h (fun s => (bodyCapRead h.via h.bufAddr h.bufLen a s).carried h.via) s)

/-- CAP_FREE (R359). -/
def bodyCapFree (n : Fin 256) (s : State) : Res :=
  match s.capRec n.val with
  | none => refuse 0x0B13 s
  | some r => if !r.closed then refuse St.STATE s else if r.locked then refuse St.LOCK_HELD s else ok [] (s.dropRec n.val)

def execCapFree (h : Hdr) (n : Fin 256) (s : State) : Host.Outcome State Fault Refusal := .next (runCmd 0x0B08 h (bodyCapFree n) s)

/-- CAP_LOCK (R359). -/
def bodyCapLock (n : Fin 256) (lock : Bool) (s : State) : Res :=
  match s.capRec n.val with
  | none => refuse 0x0B13 s
  | some _ => ok [] (s.updRec n.val (fun r => { r with locked := lock }))

def execCapLock (h : Hdr) (n : Fin 256) (lock : Bool) (s : State) : Host.Outcome State Fault Refusal :=
  .next (runCmd 0x0B09 h (bodyCapLock n lock) s)

/-- The fields of a sequencer word (Tables 11-7 and 11-11). -/
def seqMask : Nat → Word
  | 0 => 0x000337FF#32
  | 4 => 0x80FFFFFF#32
  | 5 => 0x07370737#32
  | _ => 0xFFFFFFFF#32

/-- CAP_SEQ_RAW. -/
def bodyCapSeqRaw (u : Fin 4) (l : List CapSeqWord) (s : State) : Res :=
  if !s.unitIdle u.val then refuse St.STATE s
  else ok [] (l.foldl (fun (s : State) w => s.setReg (seqReg u.val w.st.val w.slot.val) (w.val &&& seqMask w.slot.val)) s)

def execCapSeqRaw (h : Hdr) (u : Fin 4) (l : List CapSeqWord) (s : State) : Host.Outcome State Fault Refusal :=
  .next (runCmd 0x0B80 h (bodyCapSeqRaw u l) s)

/-- Capture settings as given: row_wait_ms, part_gib, edges and out_src. -/
def State.setCapTune (s : State) (a : CapTuneArgs) : State :=
  let s1 := s.setSome Reg.CAP_ROW_WAIT 9 0 a.rowWait
  let s2 := match a.partGib with
    | some n => s1.writePart n
    | none => s1
  let s3 := match a.edges with
    | some e => (upto 4).foldl (fun (s : State) n => s.setRf Reg.CAP_TRIGIN_CTL (2 * n + 1) (2 * n) ((e.toList[n]?).getD 0).val) s2
    | none => s2
  ((s3.setSome Reg.CAP_TRIGIN_CTL 19 16 (a.src0.map Fin.val)).setSome Reg.CAP_TRIGIN_CTL 23 20 (a.src1.map Fin.val)).setSome
    Reg.CAP_TRIGIN_CTL 25 24 (a.pol.map Fin.val)

/-- CAP_TUNE (R360). -/
def bodyCapTune (a : CapTuneArgs) (s : State) : Res :=
  if outside 1 1000 a.rowWait || outside 0 8 a.partGib then refuse St.PARAM_RANGE s else ok [] (s.setCapTune a)

def execCapTune (h : Hdr) (a : CapTuneArgs) (s : State) : Host.Outcome State Fault Refusal := .next (runCmd 0x0B82 h (bodyCapTune a) s)

/-! ### Registers -/

/-- The fields of the capture registers that are read from the state (Table 11-7). -/
def State.capView (s : State) (a : Nat) : Word :=
  if a = Reg.CAP_PART_USE then s.capUse
  else if 0xB1000 ≤ a && a < 0xB2000 && a % 0x400 == 4 then (s.capUnit ((a - 0xB1000) / 0x400)).stat
  else 0#32

/-- A write to a register of a unit (R361): ignored, with ro_write set, while the unit is not IDLE, but for rearm. -/
def State.unitWrite (s : State) (a : Nat) (v : Word) : State :=
  let u := (a - 0xB1000) / 0x400
  if s.unitIdle u then s.plainWrite a v
  else if a = Reg.CAP_U_CTL u then
    let s1 := s.setRb a 2 (bit v 2)
    if (v ^^^ s.reg a) &&& 0x39#32 = 0#32 then s1 else s1.status Reg.CAP_STAT 7
  else s.status Reg.CAP_STAT 7

end Sys2Proof.Machine
end

