-- ==== Sys2Proof/Machine/Island.lean ====
section
/-! DEFINITION. Island detection (chapter 09): the meanings of its commands, its table accesses, and its rows of the ring exchange. -/

namespace Sys2Proof.Machine

/-! ### Loading and activating a model (R278 to R280, R302) -/

/-- ISL_MODEL_PEND of Table 9-13 is 0x0911, ISL_MODEL_BAD 0x0910 and ISL_GROUP 0x0912. -/
def islModelBad : Nat := 0x0910
def islModelPend : Nat := 0x0911
def islGroupErr : Nat := 0x0912

/-- Whether a model breaks R278: its counts, a bus number repeated, or a branch to an absent bus; an owner with more than the 16,384 observed buses
that a packet carries (R18); without the ring, a record of another owner (R289). -/
def State.modelBad (s : State) (m : Model) : Bool :=
  let nums := m.busRecs.map BusRec.bus
  decide (65536 < m.nBus) || decide (131072 < m.nBranch) || !noDup nums ||
    m.branchRecs.any (fun b => !nums.contains b.a || !nums.contains b.b) ||
    m.owners.any (fun o => decide (16384 < (m.busRecs.filter (fun b => b.obs && b.owner == o)).length)) ||
    (!s.rb Reg.ISL_CTL 2 && m.owners.any (fun o => o != s.ownerIndex))

/-- Whether a channel is of a group and of a type. -/
def State.fitsGroup (s : State) (g c : Nat) (ty : ChanType) : Bool := s.chanGroup c == some g && s.chanType c == some ty

/-- Whether the module's own records of a model name channels of the island group of the right types (R279): every bus, observed or not, and every
source in use of every branch. DEDUCED (assumption 118): a source that is not in use names no channel. -/
def State.modelFits (s : State) (m : Model) : Bool :=
  (m.busRecs.filter (fun b => b.owner == s.ownerIndex)).all (fun b =>
    s.fitsGroup m.group b.fCh .frequency && s.fitsGroup m.group b.vCh .phasor) &&
  (m.branchRecs.filter (fun b => b.owner == s.ownerIndex)).all (fun b => b.srcs.all (fun x => s.fitsGroup m.group x.1 .digital))

/-- A model staged for t_eff: the first reporting instant of its group at least 100 ms after acceptance, 500 ms with the cascade-route flag
(R280). On a STOPPED group the change takes effect at once, on a STOPPING one it fails (R204); every member of a cascade waits for the common t_eff.
The reply gives t_eff and the record CRC. -/
def State.stageModel (s : State) (m : Model) (casc : Bool) : Res :=
  if s.isl.pend.isSome then refuse islModelPend s
  else if s.modelBad m then refuse islModelBad s
  else if !s.modelFits m then refuse islGroupErr s
  else if (s.group m.group).st == .stopping then refuse St.STATE s
  else if (s.group m.group).st == .stopped && !casc then
    ok (instantWords s.now ++ [m.crc]) ((s.setIsl (fun a => { a with staged := m })).activateModel s.now)
  else
    let fr := s.grpFr m.group
    let k := firstK (s.now + ms (if casc then 500 else 100)) fr
    let t := reportInstant k fr
    ok (instantWords t ++ [m.crc]) (s.setIsl (fun a => { a with staged := m, pend := some (k, t) }))

/-- Record words listed under their positions without their reserved bits (R8), zeros left out. -/
def listWords (branch : Bool) (l : List Word) : List (Nat × Word) :=
  (((upto l.length).zip l).map (fun p => (p.1, p.2 &&& recordMask branch (p.1 % 4)))).filter (fun p => p.2 != 0#32)

/-- The model of a buffer. -/
def ModelBuffer.model (b : ModelBuffer) : Model :=
  { version := b.version, group := b.group.val, is60 := b.is60, nBus := b.nBus, nBranch := b.nBranch
    buses := listWords false (b.words.take (4 * b.nBus)), branches := listWords true (b.words.drop (4 * b.nBus)) }

/-- ISL_MODEL_LOAD (R278, R279, R280). -/
def bodyIslModelLoad (b : ModelBuffer) (casc : Bool) (s : State) : Res :=
  if s.isl.pend.isSome then refuse islModelPend s
  else if decide (65536 < b.nBus) || decide (131072 < b.nBranch) || b.words.length != 4 * (b.nBus + b.nBranch) ||
      b.crc != crc32c (bytesOf b.words) then refuse islModelBad s
  else s.stageModel b.model casc

def execIslModelLoad (h : Hdr) (b : ModelBuffer) (s : State) : Host.Outcome State Fault Refusal :=
  .next (runCmd 0x0902 h (bodyIslModelLoad b h.casc) s)

/-- ISL_MODEL_ACTIVATE (R280, R302): the staged records with their header. -/
def bodyIslModelActivate (a : IslActivateArgs) (casc : Bool) (s : State) : Res :=
  s.stageModel { s.isl.staged with version := a.version, group := a.group.val, is60 := a.is60 } casc

def execIslModelActivate (h : Hdr) (a : IslActivateArgs) (s : State) : Host.Outcome State Fault Refusal :=
  .next (runCmd 0x0982 h (bodyIslModelActivate a h.casc) s)

/-- ISL_MODEL_EFFECTIVE (R280): the staged model is active from its t_eff on; the first view of it starts coherence and persistence anew and tries
each alarm. -/
def execIslModelEffective (s : State) : Host.Outcome State Fault Refusal :=
  match s.isl.pend with
  | none => .next s
  | some (_, t) => .next ((s.advance t).activateModel t)

/-! ### Staged records (Tables 9-1, 9-2, 9-14) -/

/-- Records of a table written to the staged model: a bus or a branch by its index and four words. -/
def Model.write (m : Model) (branch : Bool) (i : Nat) (ws : List Word) : Model :=
  let put (l : List (Nat × Word)) : List (Nat × Word) :=
    ((upto 4).zip ws).foldl (fun l p => store (fun _ => 0#32) l (4 * i + p.1) (p.2 &&& recordMask branch p.1)) l
  if branch then { m with branches := put m.branches, nBranch := max m.nBranch (i + 1) }
  else { m with buses := put m.buses, nBus := max m.nBus (i + 1) }

/-- How many records a table has. -/
def islEntries (branch : Bool) : Nat := if branch then 131072 else 65536

/-- Whether a record is invalid by R278: a bus that repeats the number of another one present, or a branch to an absent bus. -/
def Model.invalid (m : Model) (branch : Bool) (i : Nat) (w0 w1 : Word) : Bool :=
  let present (n : Nat) : Bool := (upto m.nBus).any (fun j => bit (m.bw j 0) 31 && fld (m.bw j 0) 15 0 == n)
  if branch then bit w1 31 && (!present (fld w0 15 0) || !present (fld w0 31 16))
  else bit w0 31 && (upto m.nBus).any (fun j => j != i && bit (m.bw j 0) 31 && fld (m.bw j 0) 15 0 == fld w0 15 0)

/-- ISL_TBL_RAW: records as given; refused while the staged model waits for activation. -/
def bodyIslTblRaw (l : List IslRawRec) (s : State) : Res :=
  if s.isl.pend.isSome then refuse islModelPend s
  else if l.any (fun r => decide (islEntries r.branch ≤ r.index)) then refuse St.PARAM_RANGE s
  else ok [] (l.foldl (fun s r => s.setIsl (fun a => { a with staged := a.staged.write r.branch r.index r.words.toList })) s)

def execIslTblRaw (h : Hdr) (l : List IslRawRec) (s : State) : Host.Outcome State Fault Refusal :=
  .next (runCmd 0x0981 h (bodyIslTblRaw l) s)

/-- The record that ISL_TBL_IDX names. -/
def State.islIdx (s : State) : Bool × Nat := (s.rb Reg.ISL_TBL_IDX 18, s.rf Reg.ISL_TBL_IDX 16 0)

/-- A record of a model read into ISL_TBL_W0 to W3. -/
def State.islTblRead (s : State) (m : Option Model) : State :=
  let x := s.islIdx
  if islEntries x.1 ≤ x.2 then s.setRf Reg.ISL_TBL_CMD 30 28 2
  else
    ((upto 4).foldl (fun s w => s.setReg (Reg.ISL_TBL_W w) (match m with
      | some m => if x.1 then m.brw x.2 w else m.bw x.2 w
      | none => 0#32)) s).setRf Reg.ISL_TBL_CMD 30 28 0

/-- ISL_TBL_READ_ACTIVE (R302). -/
def execIslTblReadActive (at_ : Instant) (s : State) : Host.Outcome State Fault Refusal :=
  .next (let s1 := s.advance at_; s1.islTblRead s1.isl.active)

/-- ISL_TBL_READ_STAGED (R302). -/
def execIslTblReadStaged (at_ : Instant) (s : State) : Host.Outcome State Fault Refusal :=
  .next (let s1 := s.advance at_; s1.islTblRead (some s1.isl.staged))

/-- A record of the staged model written from ISL_TBL_W0 to W3. -/
def State.islTblWrite (s : State) : State :=
  let x := s.islIdx
  let ws := (upto 4).map (fun w => s.reg (Reg.ISL_TBL_W w))
  if s.isl.pend.isSome then s.setRf Reg.ISL_TBL_CMD 30 28 1
  else if islEntries x.1 ≤ x.2 then s.setRf Reg.ISL_TBL_CMD 30 28 2
  else if s.isl.staged.invalid x.1 x.2 (ws.headD 0#32) ((ws.drop 1).headD 0#32) then s.setRf Reg.ISL_TBL_CMD 30 28 3
  else (s.setIsl (fun a => { a with staged := a.staged.write x.1 x.2 ws })).setRf Reg.ISL_TBL_CMD 30 28 0

/-- ISL_TBL_WRITE_STAGED (R302). -/
def execIslTblWriteStaged (at_ : Instant) (s : State) : Host.Outcome State Fault Refusal := .next (s.advance at_).islTblWrite

/-! ### Settings and readings (Table 9-12) -/

/-- ISL_PROFILE. -/
def bodyIslProfile (a : IslProfileArgs) (s : State) : Res :=
  if decide (a.tHoldMs < 20) || decide (4000 < a.tHoldMs) || decide (4095 < a.clrHoldMs) ||
      decide (a.taMs < 100) || decide (5000 < a.taMs) || a.minLive = 0 || decide (255 < a.minLive) || decide (127 < a.livePct) then
    refuse St.PARAM_RANGE s
  else
    ok [] (((((s.setReg Reg.ISL_COH_F a.fGap).setReg Reg.ISL_COH_ANG a.thetaLim).setReg Reg.ISL_COH_TIME
      (put 11 0 a.tHoldMs ||| put 27 16 a.clrHoldMs)).setRf Reg.ISL_COH_EMA 12 0 a.taMs).setReg Reg.ISL_ALM_CTL
      (setFld (setFld (s.reg Reg.ISL_ALM_CTL) 7 0 a.minLive) 30 24 a.livePct))

def execIslProfile (h : Hdr) (a : IslProfileArgs) (s : State) : Host.Outcome State Fault Refusal :=
  .next (runCmd 0x0901 h (bodyIslProfile a) s)

/-- ISL_TUNE. -/
def bodyIslTune (a : IslTuneArgs) (s : State) : Res :=
  if outside 100 600 a.ringWait || outside 500 5000 a.ringClose || outside 0 255 a.topoPers || outside 0 255 a.topoClr then
    refuse St.PARAM_RANGE s
  else
    ok [] ((((s.setSome Reg.ISL_RING_CTL 9 0 a.ringWait).setSome Reg.ISL_RING_CTL 28 16 a.ringClose).setSome Reg.ISL_ALM_CTL 15 8
      a.topoPers).setSome Reg.ISL_ALM_CTL 23 16 a.topoClr)

def execIslTune (h : Hdr) (a : IslTuneArgs) (s : State) : Host.Outcome State Fault Refusal :=
  .next (runCmd 0x0980 h (bodyIslTune a) s)

/-- Members of a list below and from 32 on, as bits. -/
def memberBits (lo : Nat) (l : List Nat) : Word :=
  l.foldl (fun w o => if lo ≤ o && decide (o < lo + 32) then w ||| putBit (o - lo) true else w) 0#32

/-- The fields of the island registers that are read from the state (Tables 9-14 and 9-16). -/
def State.islView (s : State) (a : Nat) : Word :=
  if a = Reg.ISL_STAT then
    putBit 7 s.isl.pend.isSome ||| (match s.isl.active with
      | some m => putBit 13 m.is60 ||| put 12 8 m.group
      | none => 0#32)
  else if a = Reg.ISL_MODEL_CRC then (match s.isl.active with
    | some m => m.crc
    | none => 0#32)
  else if a = Reg.ISL_MODEL_USE then word ((s.isl.active.map (fun m => m.busRecs.length)).getD 0)
  else if a = Reg.ISL_MODEL_USE2 then word ((s.isl.active.map (fun m => m.branchRecs.length)).getD 0)
  else if a = Reg.ISL_MODEL_EFF_SEC then word ((s.isl.pend.map (fun p => secsOf p.2)).getD 0)
  else if a = Reg.ISL_RING_STAT then
    put 6 0 s.isl.present.length ||| put 14 8 ((s.isl.active.map (fun m => m.owners.length)).getD 0)
  else if a = Reg.ISL_RING_MISS_LO then memberBits 0 s.isl.missing
  else if a = Reg.ISL_RING_MISS_HI then memberBits 32 s.isl.missing
  else if a = Reg.ISL_JOURNAL then put 10 0 (ceilDiv s.journalBytes 1024)
  else 0#32

/-- ISL_STATUS: version, record CRC, the pending t_eff, members missing, counters. -/
def bodyIslStatus (s : State) : Res :=
  ok ([(s.isl.active.map Model.version).getD 0#32, s.islView Reg.ISL_MODEL_CRC, putBit 0 s.isl.pend.isSome] ++
    instantWords ((s.isl.pend.map (·.2)).getD 0) ++ [memberBits 0 s.isl.missing, memberBits 32 s.isl.missing] ++
    (upto 13).map (fun i => s.reg (Reg.ISL_CNT i))) s

def execIslStatus (h : Hdr) (s : State) : Host.Outcome State Fault Refusal := .next (runCmd 0x0900 h bodyIslStatus s)

/-- A mean df in mHz as a word: its binary32 value. -/
def islandWords (s : State) (r : IslandRow) : List Word :=
  [word r.kind.code, word r.key, word r.nBus, word r.nLive, F32.conv r.meanDf, word (alarmCode (s.alarmOf r.key))]

/-- ISL_ISLANDS_READ: the islands of the last committed view; bus labels on request. -/
def bodyIslIslandsRead (labels : Bool) (s : State) : Res :=
  ok (s.isl.shown.rows.flatMap (islandWords s) ++
    (if labels then s.isl.shown.labels.flatMap (fun p => [word p.1, word p.2]) else [])) s

def execIslIslandsRead (h : Hdr) (labels : Bool) (s : State) : Host.Outcome State Fault Refusal :=
  .next (runCmd 0x0903 h (bodyIslIslandsRead labels) s)

/-! ### The ring exchange (R284 to R288, R297) -/

/-- Whether the counts of a packet are those the model gives its owner. -/
def Model.matches (m : Model) (p : Packet) : Bool :=
  p.entries.length == (m.busRecs.filter (fun b => b.obs && b.owner == p.owner.val)).length &&
  p.status.length == (m.kind2.filter (fun b => b.owner == p.owner.val)).length

/-- cfg_crc as the receiver has it for the instant of a packet. -/
def State.ownCfg (s : State) (m : Model) (t : Instant) : Word :=
  match s.isl.ring.find? (fun r => r.t == t) with
  | some r => match r.commit, r.prov with
    | some x, _ => cfgFor m x
    | none, some x => cfgFor m x
    | none, none => 0#32
  | none =>
    let w := s.wordsFor m.group (nearestK t (s.grpFr m.group))
    m.cfgCrc w.fr w.dead w.waitMs

/-- A received packet disposed of as in Table 9-5, in the order of its rows; one that fits no model of this module fails its checks. -/
def State.takePacket (s : State) (p : Packet) : State :=
  if !s.rb Reg.ISL_CTL 0 || !s.rb Reg.ISL_CTL 2 then s
  else if !p.good || (match s.modelAt p.t with
      | some m => p.cfgCrc == s.ownCfg m p.t && !m.matches p
      | none => false) then s.islCount 4 1
  else if p.epoch != s.time.epoch then s.islCount 5 1
  else if (match s.modelAt p.t with
      | some m => p.cfgCrc != s.ownCfg m p.t
      | none => true) then (s.islCount 6 1).status Reg.ISL_STAT 5
  else if (match s.isl.last with
      | some t => decide (p.t ≤ t) && !s.isl.ring.any (fun r => r.t == p.t)
      | none => false) then s.islCount 7 1
  else if s.isl.packets.any (fun q => q.owner == p.owner && q.t == p.t && (q.committed == p.committed || q.committed)) then s.islCount 8 1
  else s.setIsl (fun a => { a with packets := a.packets ++ [p] })

/-- SUMMARY_PACKET_RECEIVE (R285). -/
def execSummaryPacketReceive (at_ : Instant) (p : Packet) (s : State) : Host.Outcome State Fault Refusal :=
  .next (if (s.advance at_).runs Isle.nose then (s.advance at_).takePacket p else s.advance at_)

/-- ring_wait and ring_close in force (Table 9-14). -/
def State.ringWait (s : State) : Nat := us (clamp 100 600 (s.rf Reg.ISL_RING_CTL 9 0))
def State.ringClose (s : State) : Nat := us (clamp 500 5000 (s.rf Reg.ISL_RING_CTL 28 16))

/-- The batches of an evaluation handed to Atomizer. -/
def State.batchAll (s : State) (g : Nat) (l : List (Nat × Instant × List AlarmChange)) : State :=
  l.foldl (fun s x => s.batch g x.2.1 x.2.2) s

/-- The provisional view of an instant formed from the packets held (R286), and evaluated where prov_en is set. -/
def State.formView (s : State) (m : Model) (r : RingInst) (x : Snapshot) : State :=
  let s1 := s.setIsl (fun a => { a with ring := a.ring.map (fun q => if q.k == r.k then { q with formed := true } else q) })
  if s1.rb Reg.ISL_CTL 0 && s1.rb Reg.ISL_CTL 1 then
    let s2 := (s1.islProv m (s1.viewOf m x false (s1.usedPackets x.t false))).issueBarrier Isle.nose
    let h := s2.islHandOver m.group x.k x.k x.t
    h.2.batch m.group x.t h.1
  else s1

/-- The instants of the present epoch on their way through the ring exchange. -/
def State.ringNow (s : State) : List RingInst := s.isl.ring.filter (fun r => !s.oldRing r)

/-- The oldest instant issued whose provisional view is still to form. -/
def State.unformed (s : State) : Option (RingInst × Snapshot) :=
  (s.ringNow.filterMap (fun r => if r.formed then none else r.prov.map (fun x => (r, x)))).head?

/-- PROVISIONAL_VIEW_FORM (R286): a packet of every owner is held for an instant issued. -/
def execProvisionalViewForm (at_ : Instant) (s0 : State) : Host.Outcome State Fault Refusal :=
  let s := s0.advance at_
  match s.ringNow.findSome? (fun r => (s.modelAt r.t).bind (fun m =>
      if r.formed || !s.holdsAll m r.t false then none else r.prov.map (fun x => (m, r, x)))) with
  | some (m, r, x) => .next (s.formView m r x)
  | none => .next s

/-- RING_WAIT_EXPIRY (R286): the view of the oldest instant forms at t + d + ring_wait. -/
def execRingWaitExpiry (s : State) : Host.Outcome State Fault Refusal :=
  match s.unformed with
  | some (r, x) =>
    let s1 := s.advance (x.t + us (100 * x.dead) + s.ringWait)
    .next (match s1.modelAt r.t with
      | some m => s1.formView m r x
      | none => s1)
  | none => .next s

/-- The ring commit of an instant (R287, R297): its checkpoint restored, the committed view evaluated, the later ones evaluated anew. -/
def State.ringCommit (s : State) (m : Model) (r : RingInst) (x : Snapshot) : State :=
  let v := s.viewOf m x true (s.usedPackets r.t true)
  let s1 := if s.rb Reg.ISL_CTL 0 then (let e := s.islCommitEval m v; e.2.batchAll m.group e.1) else s
  s1.setIsl (fun a => { a with
    ring := a.ring.filter (fun q => q.k != r.k), packets := a.packets.filter (fun p => p.t != r.t)
    last := some (match a.last with
      | some t => max t r.t
      | none => r.t) })

/-- RING_COMMIT (R287): the module has committed an instant and holds the committed packet of every owner. -/
def execRingCommit (at_ : Instant) (s0 : State) : Host.Outcome State Fault Refusal :=
  let s := s0.advance at_
  match s.ringNow.findSome? (fun r => (s.modelAt r.t).bind (fun m =>
      if s.holdsAll m r.t true then r.commit.map (fun x => (m, r, x)) else none)) with
  | some (m, r, x) => .next (s.ringCommit m r x)
  | none => .next s

/-- RING_CLOSE_EXPIRY (R287): at t + W + ring_close the oldest instant has its ring commit with owners missing. -/
def execRingCloseExpiry (s : State) : Host.Outcome State Fault Refusal :=
  match s.ringNow.findSome? (fun r => (r.commit.or r.prov).map (fun x => (r, x))) with
  | some (r, x) =>
    let s1 := s.advance (x.t + ms x.waitMs + s.ringClose)
    .next (match s1.modelAt r.t with
      | some m => s1.ringCommit m r x
      | none => s1)
  | none => .next s

end Sys2Proof.Machine
end

