-- ==== Sys2Proof/Machine/MbxOps.lean ====
section
/-! DEFINITION. Operations of the mailboxes (chapter 15): identities and generations, claims, filling and emptying a channel, and the binding
table. -/

namespace Sys2Proof.Machine

/-! ### Identities and generations (R441, R442) -/

/-- The identity of one of the module's own command cores. -/
def State.coreIdent (s : State) (k : Nat) : MasterId := BitVec.ofNat 12 (64 * s.ownIndex + k % 4)

/-- A reset of one of the module's own agents: from 15 to 0. -/
def State.raiseGen (s : State) (i : MasterId) : State := s.learnGen i (s.genOf i + 1#4)

/-! ### Channels (R443 to R446) -/

def State.mchan (s : State) (n : Nat) : MbxChan := (s.mbx.chans[n]?).getD emptyChan

def State.updMchan (s : State) (n : Nat) (f : MbxChan → MbxChan) : State := s.setMbx (fun m => { m with chans := updAt m.chans n f })

/-- The words of a channel. -/
def State.mboxWords (s : State) (n : Nat) : List Word := (upto 16).map (fun j => s.reg (Reg.MBX_CH_W n j))

/-- The mailbox block cleared, storage, binding table and generations with it, at power-up and on entry to Dormant (R443, R511). -/
def State.clearMailboxes (s : State) : State :=
  (({ s with cmd := { s.cmd with gens := [] } } : State).setMbx (fun m => { m with chans := List.replicate 64 emptyChan })).resetRegs
    (fun a => blockOf a == 15)

/-- Members in the map, absent ones included. -/
def State.ringMembers (s : State) : Nat := ((upto 64).filter (fun i => s.cas.present.getLsbD i || s.cas.absent.getLsbD i)).length

/-- Whether the binding table lets an identity write a channel (R451): one of the two of a bound channel; anyone on an unbound one while the
ring has 16 members or fewer. -/
def State.mayWrite (s : State) (n : Nat) (i : MasterId) : Bool :=
  let w := s.reg (Reg.MBX_BIND n)
  if bit w 31 then fld w 11 0 == i.toNat || fld w 23 12 == i.toNat else decide (s.ringMembers ≤ 16)

/-- A write dropped by binding: counted and recorded (R451, class 30). -/
def State.bindDrop (s : State) (n : Nat) (i : MasterId) : State :=
  ((s.count (Reg.MBX_CNT 3) 1).status Reg.MBX_STAT 1).raise 30 1 [word n, word i.toNat]

/-- Whether another identity's claim stands on a channel (R444). -/
def State.claimedByOther (s : State) (n : Nat) (i : MasterId) : Bool :=
  match (s.mchan n).claim with
  | some c => c.ident != i
  | none => false

/-- Full set over the words that are given by position: the stamps, the count, and MBX_STAT.full_evt where the channel is enabled (R444, R449). -/
def State.fillChan (s : State) (n : Nat) (i : MasterId) (g : BitVec 4) (ws : List (Nat × Word)) : State :=
  let s1 := ws.foldl (fun (s : State) p => s.setReg (Reg.MBX_CH_W n p.1) p.2) s
  let s2 := s1.updMchan n (fun c => { full := true, claim := none, sender := i, gen := g, count := c.count + 1#8, time := word (fineOf s.now / 256) })
  if s2.rb (Reg.MBX_INT_EN (n / 32)) (n % 32) then s2.status Reg.MBX_STAT 0 else s2

/-- A channel emptied (R445). -/
def State.emptyMbox (s : State) (n : Nat) : State := s.updMchan n (fun c => { c with full := false })

/-- Words by position. -/
def byPosition (ws : List Word) : List (Nat × Word) := (upto ws.length).zip ws

/-- A message as MBX_RECV and MBX_PEEK return it: its words, then the stamps of Table 15-5 and the time. -/
def State.mboxReply (s : State) (n : Nat) : List Word :=
  let c := s.mchan n
  s.mboxWords n ++ [put 27 24 c.gen.toNat ||| put 23 16 c.count.toNat ||| put 11 0 c.sender.toNat, c.time]

/-- Commands that wait on a channel, and are still in flight, go on in the order in which they came: a receiver takes a message, and a sender
fills an empty channel (R448). -/
def State.serveChan (s : State) (n : Nat) : Nat → State
  | 0 => s
  | fuel + 1 =>
    let mine := s.mbx.waiters.filter (fun w => w.chan == n && (s.flight? w.session w.seq).isSome)
    let drop (s : State) (w : MbxWaiter) : State := s.setMbx (fun m => { m with waiters := m.waiters.filter (fun x => x != w) })
    if (s.mchan n).full then
      match mine.find? (fun w => w.words.isNone) with
      | some w => State.serveChan (((drop s w).complete w.session w.seq St.OK (s.mboxReply n)).emptyMbox n) n fuel
      | none => s
    else if (s.mchan n).claim.isSome then s
    else match mine.find? (fun w => w.words.isSome) with
      | some w =>
        (match w.words with
         | some (ws, i) => State.serveChan (((drop s w).fillChan n i (s.genOf i) (byPosition ws)).complete w.session w.seq St.OK []) n fuel
         | none => s)
      | none => s

/-- What follows a change of a channel. -/
def State.settleChan (s : State) (n : Nat) : State := s.serveChan n (2 * s.mbx.waiters.length + 2)

/-- A word written to a channel by an identity (R444, R451). -/
def State.writeMbox (s : State) (n j : Nat) (i : MasterId) (v : Word) : State :=
  if !s.mayWrite n i then s.bindDrop n i
  else if (s.mchan n).full then s.count (Reg.MBX_CNT 0) 1
  else if s.claimedByOther n i then s.count (Reg.MBX_CNT 1) 1
  else
    let staged := match (s.mchan n).claim with
      | some c => setKey c.staged j v
      | none => [(j, v)]
    if j = 15 then (s.fillChan n i (s.genOf i) staged).settleChan n
    else s.updMchan n (fun c => { c with claim := some ⟨i, s.up + us 100, staged⟩ })

/-- A message of 16 words arrives as one transfer (R444, R451). -/
def State.arriveMbox (s : State) (n : Nat) (i : MasterId) (g : BitVec 4) (ws : List Word) : State :=
  let s1 := s.learnGen i g
  if !s1.mayWrite n i then s1.bindDrop n i
  else if (s1.mchan n).full then s1.count (Reg.MBX_CNT 0) 1
  else if s1.claimedByOther n i then s1.count (Reg.MBX_CNT 1) 1
  else (s1.fillChan n i g (byPosition ws)).settleChan n

/-- A read of W15 (R445): its value, and the channel emptied where it was full. -/
def State.readW15 (s : State) (n : Nat) : Word × State :=
  (s.reg (Reg.MBX_CH_W n 15), if (s.mchan n).full then (s.emptyMbox n).settleChan n else s)

/-- A binding entry written: read-only once en is 1 (R451). -/
def State.writeBind (s : State) (n : Nat) (w : Word) : State :=
  if s.rb (Reg.MBX_BIND n) 31 then s else s.plainWrite (Reg.MBX_BIND n) w

/-- The fields of the mailbox registers that are read from the state (Tables 15-4 and 15-5). -/
def State.mbxView (s : State) (a : Nat) : Word :=
  if a = Reg.MBX_GEN then
    (upto 4).foldl (fun w k => w ||| put (4 * k + 3) (4 * k) (s.genOf (s.coreIdent k)).toNat) 0#32 ||| put 19 16 (s.genOf hostIdent).toNat
  else if a < 0xF1000 then 0#32
  else
    let c := s.mchan ((a - 0xF1000) / 0x80)
    if a % 0x80 = 0x40 then
      putBit 31 c.full ||| putBit 30 c.claim.isSome ||| put 27 24 c.gen.toNat ||| put 23 16 c.count.toNat ||| put 11 0 c.sender.toNat
    else if a % 0x80 = 0x44 then c.time else 0#32

end Sys2Proof.Machine
end

