-- ==== Sys2Proof/Machine/CascadeOps.lean ====
section
/-! DEFINITION. Operations of the cascade ring (chapter 15): the map, formation, closure, rejoining, and what each body of a ring frame does. -/

namespace Sys2Proof.Machine

/-! ### Status and map (R453, Table 15-7) -/

/-- A status bit of the cascade, which raises its vector while int_en is 1 (Table 15-6). -/
def State.casNote (s : State) (n : Nat) : State :=
  let s1 := s.setRb Reg.CAS_STAT n true
  if s1.rb Reg.CAS_CTL 2 then s1.vector 12 else s1

/-- A 64-bit set as two words. -/
def wordsOf64 (v : BitVec 64) : List Word := [word v.toNat, word (v.toNat / 2 ^ 32)]

/-- The ring map as replies and registers give it: present, then absent. -/
def State.mapWords (s : State) : List Word := wordsOf64 s.cas.present ++ wordsOf64 s.cas.absent

/-- The fields of the cascade registers that are read from the state (Tables 15-4 and 15-7). -/
def State.casView (s : State) (a : Nat) : Word :=
  if a = Reg.CAS_STAT then
    put 31 29 s.cas.st.code ||| putBit 28 s.isHead ||| put 27 22 s.ownIndex ||| put 21 15 s.ringMembers ||| putBit 4 s.cas.skipping
  else match (upto 4).find? (fun i => a == Reg.CAS_MAP i) with
    | some i => (s.mapWords[i]?).getD 0#32
    | none => 0#32

/-- One bit of a member set. -/
def setMember (v : BitVec 64) (i : Nat) (b : Bool) : BitVec 64 := if b then v ||| BitVec.ofNat 64 (2 ^ i) else v &&& ~~~(BitVec.ofNat 64 (2 ^ i))

/-- A new map: a member newly absent closes the ring, one present again has rejoined, with the time it was absent (class 11). -/
def State.setMap (s : State) (present absent : BitVec 64) : State :=
  let lost := (upto 64).filter (fun i => absent.getLsbD i && !s.cas.absent.getLsbD i)
  let back := (upto 64).filter (fun i => present.getLsbD i && s.cas.absent.getLsbD i)
  let s1 := s.setCas (fun c => { c with
    present := present, absent := absent
    gone := (lost.foldl (fun l i => setKey l i s.up) c.gone).filter (fun p => !back.contains p.1) })
  let s2 := if lost.isEmpty then s1 else (s1.count (Reg.CAS_CNT 0) lost.length).casNote 0
  if back.isEmpty then s2
  else (back.foldl (fun (s : State) i => s.raise 11 (((s.up - (lookup s2.cas.gone i).getD ((lookup s1.cas.gone i).getD s.up)) : Nat) / (us 1 : Rat))
    [word i]) s2).casNote 2

/-- The ring's state by its map. -/
def State.settleRing (s : State) : State := s.setCas (fun c => { c with st := if c.absent = 0#64 then .formed else .closed })

/-! ### Formation (R452, R454) -/

/-- The head sends a formation token; it must be back within 10 ms. -/
def State.startFormation (s : State) (reform : Option (Fin 4 × Word)) : State :=
  s.setCas (fun c => { c with
    sent := c.sent ++ [⟨0, none, true, .token 1 [Config.uid]⟩], formDue := some (s.up + ms 10), reform := reform, index := some 0 })

/-- A formation ends with a map of `n` members. -/
def State.endFormation (s : State) (st : RingState) (n : Nat) (uids : List (List Byte)) : State :=
  let s1 := s.setCas (fun c => { c with
    st := st, formDue := none, reform := none, present := BitVec.ofNat 64 (2 ^ min 64 n - 1), absent := 0#64, gone := []
    uids := (upto (min 64 n)).zip uids, skipping := false, mine := [] })
  let s2 := if 64 < n then s1.casNote 3 else s1
  match s.cas.reform with
  | some (session, seq) => s2.complete session seq St.OK s2.mapWords
  | none => s2

/-- A formation token at a member: it takes the count as its index, up to 64 members, adds its uid and forwards the token. -/
def State.takeToken (s : State) (count : Nat) (uids : List (List Byte)) : State :=
  if s.isHead then s
  else
    let s1 := if count < 64 then s.setCas (fun c => { c with index := some (Fin.ofNat 64 count), stored := some (Fin.ofNat 64 count), st := .formed })
      else s.setCas (fun c => { c with index := none, st := .unformed })
    s1.setCas (fun c => { c with sent := c.sent ++ [⟨0, none, true, .token (count + 1) (uids ++ [Config.uid])⟩] })

/-- The token back at the head. -/
def State.returnToken (s : State) (count : Nat) (uids : List (List Byte)) : State :=
  if s.isHead && s.cas.formDue.isSome then s.endFormation .formed count uids else s

/-- The map at a member; one outside the ring keeps none. -/
def State.takeMap (s : State) (present absent : BitVec 64) : State :=
  if s.isHead || s.cas.index.isNone then s else (s.setMap present absent).settleRing

/-! ### Closure (R457, R458) -/

/-- The present member before or after an index in ring order. -/
def State.neighbour (s : State) (i : Nat) (up : Bool) : Nat :=
  ((upto 64).foldl (fun (r : Option Nat) d =>
    let j := if up then (i + 127 - d) % 64 else (i + 1 + d) % 64
    match r with
    | some x => some x
    | none => if s.cas.present.getLsbD j || s.cas.absent.getLsbD j then some j else none) none).getD i

/-- The next member in ring order that is present. -/
def State.downstream (s : State) (i : Nat) : Nat :=
  ((upto 64).foldl (fun (r : Option Nat) d => match r with
    | some x => some x
    | none => if s.cas.present.getLsbD ((i + 1 + d) % 64) then some ((i + 1 + d) % 64) else none) none).getD i

/-- Own frames still on the ring when it breaks are lost. -/
def State.loseFrames (s : State) : State := (s.count (Reg.CAS_CNT 1) s.cas.mine.length).setCas (fun c => { c with mine := [] })

/-- The ring is BROKEN here. -/
def State.breakRing (s : State) : State := ((s.setCas (fun c => { c with st := .broken })).loseFrames).casNote 1

/-- The head marks a silent member absent. -/
def State.closeAround (s : State) (i : Fin 64) : State :=
  if s.isHead && s.cas.present.getLsbD i.val then
    ((s.setMap (setMember s.cas.present i.val false) (setMember s.cas.absent i.val true)).loseFrames).settleRing
  else s

/-! ### Rejoining (R459, R460) -/

/-- A module that starts while its ring may be formed: its stored index is a claim only, and it offers its join record. -/
def State.startOutside (s : State) : State :=
  s.setCas (fun c => { c with
    index := none, st := .unformed, present := 0#64, absent := 0#64, skipping := false, mine := []
    sent := c.sent ++ [⟨c.stored.getD 0, none, true, .joinRecord Config.uid (c.stored.getD 0)⟩] })

/-- The cascade starts: the head forms the ring, and any other module waits outside it. -/
def State.startRing (s : State) : State :=
  if s.isHead then (s.setCas (fun c => { c with index := some 0, st := .unformed, present := 1#64, absent := 0#64 })).startFormation none
  else s.startOutside

/-- A rejoin ends with a failure: the neighbour asserts CR_SKIP_N again. -/
def State.failRejoin (s : State) (status : Nat) : State :=
  let s1 := match s.cas.rejoin with
    | some r => (((s.setCas (fun c => { c with rejoin := none })).count (Reg.CAS_CNT 2) 1).complete r.session r.seq status [])
    | none => s
  match s.cas.trial with
  | some _ => s1.setCas (fun c => { c with trial := none, skipping := true })
  | none => s1

/-- A join record: the head marks the member of the trial present where its uid held the index at the last formation; the neighbour keeps its
own lane; and a member that finds its own uid takes the index. -/
def State.takeJoin (s : State) (uid : List Byte) (index : Fin 64) : State :=
  if s.isHead then
    match s.cas.rejoin with
    | some r =>
      if r.trial.isNone then s
      else if lookup s.cas.uids r.index.val != some uid then s.failRejoin 0x1012
      else
        let s1 := ((s.setMap (setMember s.cas.present r.index.val true) (setMember s.cas.absent r.index.val false)).settleRing).setCas
          (fun c => { c with rejoin := none, trial := none })
        (s1.ringOut none (.joinRecord uid r.index)).complete r.session r.seq St.OK []
    | none => s
  else
    let s1 := s.setCas (fun c => { c with trial := none })
    if s.cas.index.isNone && uid == Config.uid then
      s1.setCas (fun c => { c with index := some index, stored := some index, st := .formed })
    else s1

/-- The neighbour of a rejoin is told when to release CR_SKIP_N. -/
def State.takeRelease (s : State) (member : Fin 64) (t : Instant) : State :=
  if member == s.ownFin then s.setCas (fun c => { c with release := some t }) else s

/-! ### Frames (R430, R431, R455) -/

/-- A reply that came over the ring: a status of a cascade-route command, or the reply of the command that was routed to that member. -/
def State.takeReply (s : State) (origin : Fin 64) (session : Fin 4) (seq : Word) (status : Nat) (words : List Word) : State :=
  if s.cmd.aggs.any (fun a => a.session == session && a.seq == seq) then
    { s with cmd := { s.cmd with aggs := s.cmd.aggs.map (fun a =>
        if a.session == session && a.seq == seq && !(status == St.ACCEPTED) then { a with statuses := setKey a.statuses origin.val status } else a) } }
  else match s.flight? session seq with
    | some f =>
      let g := { f with module := origin.val }
      if status = St.ACCEPTED && repliesAccepted f.opcode && f.st == .admitted then s.postAccepted g else s.postFinal g status words
    | none => s

/-- What a frame's body does at a member that it is for. -/
def State.takeBody (s : State) (origin : Fin 64) : RingBody → State
  | .summary p => if s.runs Isle.nose then s.takePacket p else s
  | .command op h => s.fetchCmd op { h with via := .ring }
  | .reply session seq status words => if s.isHead then s.takeReply origin session seq status words else s
  | .chunk addr data => if s.isHead then s.dmaOut addr data else s
  | .mailbox chan sender gen words => s.arriveMbox chan.val sender gen words.toList
  | .token count uids => if s.isHead then s.returnToken count uids else s.takeToken count uids
  | .map present absent => s.takeMap present absent
  | .closedToken silent => s.closeAround silent
  | .releaseOrder member t => s.takeRelease member t
  | .joinRecord uid index => s.takeJoin uid index

/-- Tokens are not forwarded as they came: a member sends its own on. -/
def RingBody.isToken : RingBody → Bool
  | .token _ _ => true
  | _ => false

/-- A frame on CR_IN (R455, detector 17): one whose CRC fails is dropped; the module's own is removed; every other one goes on round the ring, and
is taken where it is for this module. A module that has no index only forwards, but for tokens and join records. -/
def State.receiveRing (s : State) (f : RingFrame) : State :=
  let r := s.occasion 17 0 (!f.crcOk)
  match r.1 with
  | some inj => (r.2.count (Reg.CAS_CNT 3) 1).detect 17 inj 0 [0#32]
  | none =>
    let s1 := r.2
    let inside := s1.cas.index.isSome
    if f.body.isToken then s1.takeBody f.origin f.body
    else if inside && f.origin == s1.ownFin then s1.setCas (fun c => { c with mine := eraseFirst f c.mine })
    else
      let s2 := s1.setCas (fun c => { c with sent := c.sent ++ [f] })
      match f.body with
      | .joinRecord _ _ => s2.takeBody f.origin f.body
      | _ => if inside && (f.dest.isNone || f.dest == some s2.ownFin) then s2.takeBody f.origin f.body else s2

/-! ### Reset (R452, R462) -/

/-- A reset of the cascade island: the registers are at reset; the head, released from reset, forms the ring anew, and a member keeps its index
and awaits the next map. -/
def State.resetCascade (s : State) : State :=
  let s1 := ((s.failRejoin 0x1010).resetRegs (fun a => blockOf a == 16)).setCas (fun c => { c with
    skipping := false, release := none, trial := none, mine := [] })
  if s1.isHead then s1.startFormation s1.cas.reform else s1.setCas (fun c => { c with present := 0#64, absent := 0#64, gone := [] })

end Sys2Proof.Machine
end

