-- ==== Sys2Proof/Machine/Cascade.lean ====
section
/-! DEFINITION. The cascade ring (chapter 15): the meanings of its commands and events. -/

namespace Sys2Proof.Machine

/-! ### Events -/

/-- RING_FORMATION_TOKEN (R452). -/
def execRingFormationToken (at_ : Instant) (count : Nat) (uids : List (List Byte)) (s : State) : Host.Outcome State Fault Refusal :=
  .next ((s.advance at_).takeToken count uids)

/-- RING_FORMATION_RETURN (R452). -/
def execRingFormationReturn (at_ : Instant) (count : Nat) (uids : List (List Byte)) (s : State) : Host.Outcome State Fault Refusal :=
  .next ((s.advance at_).returnToken count uids)

/-- RING_FORMATION_TIMEOUT (R452): without its token back in 10 ms the head is ALONE. -/
def execRingFormationTimeout (s : State) : Host.Outcome State Fault Refusal :=
  match s.cas.formDue with
  | some u => .next ((s.advanceUp u).endFormation .alone 1 [Config.uid])
  | none => .next s

/-- RING_MAP_BROADCAST (R453). -/
def execRingMapBroadcast (at_ : Instant) (s0 : State) : Host.Outcome State Fault Refusal :=
  let s := s0.advance at_
  .next (if s.isHead then s.ringOut none (.map s.cas.present s.cas.absent) else s)

/-- RING_MAP_RECEIVE (R453). -/
def execRingMapReceive (at_ : Instant) (present absent : BitVec 64) (s : State) : Host.Outcome State Fault Refusal :=
  .next ((s.advance at_).takeMap present absent)

/-- RING_FRAME_RECEIVE (R455). -/
def execRingFrameReceive (at_ : Instant) (f : RingFrame) (s : State) : Host.Outcome State Fault Refusal :=
  .next ((s.advance at_).receiveRing f)

/-- CR_IN_SILENCE (R457, Table 15-6): CR_SKIP_N is asserted where skip_en allows it; else, or where it is asserted already, the ring is BROKEN. -/
def execCrInSilence (at_ : Instant) (s0 : State) : Host.Outcome State Fault Refusal :=
  let s := s0.advance at_
  .next (if !s.inRing then s
    else if s.rb Reg.CAS_CTL 1 && !s.cas.skipping then s.setCas (fun c => { c with skipping := true })
    else s.breakRing)

/-- RING_RELOCK (R457, R458): the member relocks on the skip lane and tells the head which member is silent, or the ring is BROKEN. -/
def execRingRelock (at_ : Instant) (locked : Bool) (s0 : State) : Host.Outcome State Fault Refusal :=
  let s := s0.advance at_
  .next (if !s.cas.skipping then s
    else if !locked then s.breakRing
    else
      let silent := Fin.ofNat 64 (s.neighbour s.ownIndex true)
      if s.isHead then s.closeAround silent else s.loseFrames.ringOut (some 0) (.closedToken silent))

/-- RING_CLOSED_TOKEN (R457). -/
def execRingClosedToken (at_ : Instant) (silent : Fin 64) (s : State) : Host.Outcome State Fault Refusal :=
  .next ((s.advance at_).closeAround silent)

/-- REJOIN_RELEASE (R459): at the chosen millisecond the neighbour releases CR_SKIP_N, and the head awaits the member's join record for 200 µs. -/
def execRejoinRelease (s : State) : Host.Outcome State Fault Refusal :=
  match s.cas.release, s.cas.rejoin with
  | none, none => .next s
  | rel, rej =>
    let t := match rel, rej with
      | some t, _ => t
      | none, some r => r.at_
      | none, none => s.now
    let s1 := s.advance t
    let s2 := match rel with
      | some _ => s1.setCas (fun c => { c with release := none, skipping := false, trial := some (s1.up + us 200) })
      | none => s1
    .next (match rej with
      | some r => if r.trial.isNone && decide (r.at_ ≤ s2.now) then s2.setCas (fun c => { c with rejoin := some { r with trial := some (s2.up + us 200) } }) else s2
      | none => s2)

/-- JOIN_RECORD_RECEIVE (R459, R460). -/
def execJoinRecordReceive (at_ : Instant) (uid : List Byte) (index : Fin 64) (s : State) : Host.Outcome State Fault Refusal :=
  .next ((s.advance at_).takeJoin uid index)

/-- REJOIN_TRIAL_TIMEOUT (R459). -/
def execRejoinTrialTimeout (s : State) : Host.Outcome State Fault Refusal :=
  match s.cas.trial, s.cas.rejoin.bind (·.trial) with
  | some u, _ => .next ((s.advanceUp u).failRejoin 0x1010)
  | none, some u => .next ((s.advanceUp u).failRejoin 0x1010)
  | none, none => .next s

/-! ### Commands (Table 15-2) -/

/-- CAS_STATUS: state, members and index as CAS_STAT gives them, the map and the counters. -/
def bodyCasStatus (s : State) : Res :=
  ok ([s.reg Reg.CAS_STAT ||| s.casView Reg.CAS_STAT] ++ s.mapWords ++ (upto 4).map (fun i => s.reg (Reg.CAS_CNT i))) s

def execCasStatus (h : Hdr) (s : State) : Host.Outcome State Fault Refusal := .next (runCmd 0x1000 h bodyCasStatus s)

/-- A rejoin ordered of the member downstream of the absent one, for the first whole millisecond at least 10 ms ahead. -/
def State.orderRejoin (s : State) (h : Hdr) (m : Fin 64) : State :=
  let t := ms (ceilDiv (s.now + ms 10) (ms 1))
  let n := Fin.ofNat 64 (s.downstream m.val)
  let s1 := s.setCas (fun c => { c with rejoin := some ⟨m, h.session, h.seq, t, none⟩ })
  if n == s1.ownFin then s1.takeRelease n t else s1.ringOut (some n) (.releaseOrder n t)

/-- CAS_REJOIN (R459 to R461): the release is at a whole millisecond at least 10 ms ahead. -/
def bodyCasRejoin (h : Hdr) (m : Fin 64) (s : State) : Res :=
  if !s.isHead then refuse 0x1011 s
  else if s.cas.rejoin.isSome || s.cas.formDue.isSome then refuse St.BUSY s
  else if !s.cas.absent.getLsbD m.val then refuse 0x1012 s
  else .accepted (s.orderRejoin h m)

def execCasRejoin (h : Hdr) (m : Fin 64) (s : State) : Host.Outcome State Fault Refusal := .next (runCmd 0x1001 h (bodyCasRejoin h m) s)

/-- CAS_REFORM (R454). -/
def bodyCasReform (h : Hdr) (s : State) : Res :=
  if !s.isHead then refuse 0x1011 s
  else if s.cas.rejoin.isSome || s.cas.formDue.isSome then refuse St.BUSY s
  else .accepted (s.startFormation (some (h.session, h.seq)))

def execCasReform (h : Hdr) (s : State) : Host.Outcome State Fault Refusal := .next (runCmd 0x1002 h (bodyCasReform h) s)

/-- CAS_TUNE. -/
def bodyCasTune (skipEn intEn : Option Bool) (s : State) : Res :=
  let s1 := match skipEn with
    | some b => s.setRb Reg.CAS_CTL 1 b
    | none => s
  ok [] (match intEn with
    | some b => s1.setRb Reg.CAS_CTL 2 b
    | none => s1)

def execCasTune (h : Hdr) (skipEn intEn : Option Bool) (s : State) : Host.Outcome State Fault Refusal :=
  .next (runCmd 0x1080 h (bodyCasTune skipEn intEn) s)

end Sys2Proof.Machine
end

