-- ==== Sys2Proof/Machine/Estimation.lean ====
section
/-! DEFINITION. Phasor estimation (chapter 05): the meanings of its commands, table accesses and events. -/

namespace Sys2Proof.Machine

/-! ### Events -/

/-- Whether the chain runs: the island runs and PEC_CTL.en is set (Table 5-14). -/
def State.pecOn (s : State) : Bool := s.runs Isle.estimation && s.rb Reg.PEC_CTL 0

/-- SV_SAMPLE_IN (R162 to R164, R127): the oldest sample set that ingress passed on enters estimation and goes to the capture units. The standby of
a copy holds it until its image is installed (R489). -/
def execSvSampleIn (at_ : Instant) (s : State) : Host.Outcome State Fault Refusal :=
  let s1 := s.advance at_
  match s1.ing.samples with
  | [] => .next s1
  | m :: rest =>
    let s2 := { s1 with ing := { s1.ing with samples := rest }, capIn := s1.capIn ++ [CapIn.raw m] }
    .next (if !s2.pecOn then s2
      else if s2.awaitsImage then s2.setPair (fun p => { p with copy := { p.copy with raw := p.copy.raw ++ [m] } })
      else s2.sampleIn m)

/-- ESTIMATE_OUTPUT (R156, R160, R168, R178): the oldest complete output of a slot leaves for Accord, the capture units and the
thresholds; a Drydown output counts towards the end of Drydown, a settled one sets f_track. -/
def execEstimateOutput (at_ : Instant) (i : Fin 1024) (s : State) : Host.Outcome State Fault Refusal :=
  let s1 := s.advance at_
  match (s1.slot i.val).ready with
  | [] => .next s1
  | o :: rest =>
    if !s1.pecOn then .next s1
    else
      let s2 := s1.updSlot i.val (fun x => { x with ready := rest })
      let s3 := o.ins.foldl (fun s r => s.deliverInput i.val o.tc r) s2
      let s4 := if o.dry && decide ((s3.slot i.val).t0 ≤ o.tc) then
          s3.updSlot i.val (fun x => { x with
            dryLeft := x.dryLeft - 1
            st := if x.st = .drydown && decide (x.dryLeft ≤ 1) then .run else x.st })
        else s3
      .next (s4.track i.val o)

/-- SLOT_RESTART (R166 to R168): the earliest restart of a slot takes effect at its t0. -/
def execSlotRestart (i : Fin 1024) (s : State) : Host.Outcome State Fault Refusal :=
  match (s.slot i.val).pend with
  | [] => .next s
  | p :: _ => let s1 := s.advance p.t0; .next (s1.takeDue i.val p.t0)

/-- A synchronised restart of all slots (R170): scheduled, or merged with the one that waits. The flag says whether it was merged. -/
def State.syncRestart (s : State) : State × Bool :=
  match s.pec.sync with
  | some t0 =>
    if s.now < t0 then (s.pecCount 11 1, true)
    else
      let t := restartSecond s.now
      (((s.setPec (fun p => { p with sync := some t, syncSec := secsOf t })).restartAll t).pecCount 10 1, false)
  | none =>
    let t := restartSecond s.now
    (((s.setPec (fun p => { p with sync := some t, syncSec := secsOf t })).restartAll t).pecCount 10 1, false)

/-- DSYNC_EDGE (R170): an edge on the DSYNC land, active where the land is enabled and the edge is the one selected; a pulse shorter
than 100 ns is ignored. -/
def execDsyncEdge (at_ : Instant) (rising : Bool) (widthNs : Nat) (s : State) : Host.Outcome State Fault Refusal :=
  let s1 := s.advance at_
  if s1.pecOn && s1.rb Reg.PEC_SYNC_CTL 0 && rising != s1.rb Reg.PEC_SYNC_CTL 1 && decide (100 ≤ widthNs) then .next s1.syncRestart.1
  else .next s1

/-- CROSSFADE_END (R172, R174): after L FIR outputs the new profile alone is in force, and xf_done sets. -/
def execCrossfadeEnd (at_ : Instant) (i : Fin 1024) (s : State) : Host.Outcome State Fault Refusal :=
  let s1 := s.advance at_
  match (s1.slot i.val).xf with
  | some f =>
    if f.started && decide (f.len ≤ f.step) then
      .next ((s1.updSlot i.val (fun x => { x with
        xf := none, bank := !x.bank, curBank := !x.curBank, xfEnd := fineOf s1.now })).status Reg.PEC_STAT 2)
    else .next s1
  | none => .next s1

/-- A cross-fade of a slot set up: it starts at its next FIR output (R172). -/
def State.startFade (s : State) (i : Nat) : State :=
  s.updSlot i (fun x => { x with xf := some ⟨0, max 1 (fld (s.pw 0 i 1) 12 0), false⟩ })

/-- HELD_SWAP_START (R175): once the running cross-fade has ended, the held swap starts. -/
def execHeldSwapStart (at_ : Instant) (i : Fin 1024) (s : State) : Host.Outcome State Fault Refusal :=
  let s1 := s.advance at_
  let x := s1.slot i.val
  if x.held && x.xf.isNone then .next ((s1.updSlot i.val (fun x => { x with held := false })).startFade i.val) else .next s1

/-! ### Table accesses (R184, Tables 5-16 and 5-17) -/

/-- The read-only fields of a table word, as the state has them. -/
def State.pecEntryView (s : State) (t i w : Nat) : Word :=
  let x := s.slot i
  match t, w with
  | 0, 0 => put 31 29 (match x.st with | .idle => 0 | .wait => 1 | .run => 2 | .drydown => 3 | .gap => 4) ||| putBit 15 x.bank
  | 0, 1 => putBit 31 x.held ||| put 28 16 (match x.xf with | some f => f.len - f.step | none => 0)
  | 0, 2 => put 31 16 x.restarts.toNat ||| put 7 0 x.dryLeft
  | 0, 3 => word (secsOf x.t0)
  | 0, 4 => word (x.xfStart / 256)
  | 0, 5 => word (x.xfEnd / 256)
  | 1, 2 => (((s.slot (i / 8)).chains[i % 8]?).getD freshChain).fTrack
  | 2, 3 => let r := s.thrOf i; put 31 24 (max r.nUp (max r.nDn r.nClr)) ||| put 17 16 r.st.val
  | 3, 0 => if i % 17 = 0 then
      let bank := decide (272 ≤ i)
      let prof := i % 272 / 17
      putBit 31 (symmetric (s.taps bank prof)) ||| putBit 30 (s.profInUse bank prof)
    else 0#32
  | _, _ => 0#32

/-- A table word as it is read. -/
def State.pecRead (s : State) (t i w : Nat) : Word :=
  let v := (s.pw t i w &&& pecMask t i w) ||| s.pecEntryView t i w
  if t = 3 && i % 17 != 0 then word (unsign 32 (signed 24 v.toNat)) else v

/-- The words of an entry stored, writable bits only. -/
def State.storeEntry (s : State) (t i : Nat) (ws : List Word) : State :=
  (upto 8).foldl (fun s w =>
    s.setPw t i w ((s.pw t i w &&& ~~~(pecMask t i w)) ||| ((ws[w]?).getD 0#32 &&& pecMask t i w))) s

/-- Why a slot word is refused (R157, R184): 5 no entry, 1 unsupported. -/
def State.slotWordErr (s : State) (i : Nat) (w0 : Word) : Nat :=
  if (s.slotEntry i).isNone then 5
  else if (s.profileOf w0 (s.slot i).bank (s.slotRate i)).supported then 0 else 1

/-- A slot's words written and its restart scheduled (Table 5-8). -/
def State.writeSlot (s : State) (i : Nat) (ws : List Word) : State :=
  let s1 := s.storeEntry 0 i ws
  s1.schedRestart i ⟨restartSecond s1.now, some (s1.pw 0 i 0), none⟩

/-- Whether a threshold entry is refused (R177): both enabled, and the high threshold not greater than the low one. -/
def thrRefused (ws : List Word) : Bool :=
  let w (n : Nat) : Word := (ws[n]?).getD 0#32
  bit (w 3) 0 && bit (w 3) 1 && !F32.lt (w 1) (w 0)

/-- An entry written; the err of PEC_TBL_CMD and the state after. A refused threshold entry reports err 1. -/
def State.pecWrite (s : State) (t i : Nat) (ws : List Word) : Nat × State :=
  if pecEntries t ≤ i then (4, s)
  else if t = 0 then
    let err := s.slotWordErr i (((ws[0]?).getD 0#32) &&& pecMask 0 i 0)
    if err = 0 then (0, s.writeSlot i ws) else (err, s)
  else if t = 2 then (if thrRefused ws then (1, s) else (0, s.storeEntry 2 i ws))
  else if t = 3 && i % 17 = 0 then
    let bank := decide (272 ≤ i)
    let prof := i % 272 / 17
    let n := fld ((ws[0]?).getD 0#32) 7 0
    let taps := s.stagedTaps bank prof n
    let err := s.commitErr bank prof taps
    if err = 0 then (0, (s.storeEntry 3 i ws).commitTaps bank prof taps) else (err, s)
  else (0, s.storeEntry t i ws)

/-- The table and index of PEC_TBL_IDX. -/
def State.pecIdx (s : State) : Nat × Nat := (s.rf Reg.PEC_TBL_IDX 17 16, s.rf Reg.PEC_TBL_IDX 14 0)

def State.pecTblRead (s : State) : State :=
  let k := s.pecIdx
  if pecEntries k.1 ≤ k.2 then s.setRf Reg.PEC_TBL_CMD 30 28 4
  else ((upto 8).foldl (fun s w => s.setReg (Reg.PEC_TBL_W w) (s.pecRead k.1 k.2 w)) s).setRf Reg.PEC_TBL_CMD 30 28 0

def State.pecTblWrite (s : State) : State :=
  let k := s.pecIdx
  let r := s.pecWrite k.1 k.2 ((upto 8).map (fun w => s.reg (Reg.PEC_TBL_W w)))
  r.2.setRf Reg.PEC_TBL_CMD 30 28 r.1

/-- PEC_TBL_READ (R184). -/
def execPecTblRead (at_ : Instant) (s : State) : Host.Outcome State Fault Refusal := .next (s.advance at_).pecTblRead

/-- PEC_TBL_WRITE (R184). -/
def execPecTblWrite (at_ : Instant) (s : State) : Host.Outcome State Fault Refusal := .next (s.advance at_).pecTblWrite

/-- The fields of the estimation registers that are read from the state (Tables 5-13 and 5-15). -/
def State.pecView (s : State) (a : Nat) : Word :=
  if a = Reg.PEC_STAT then putBit 3 (match s.pec.sync with | some t => decide (s.now < t) | none => false)
  else if a = Reg.PEC_SYNC_SEC then word s.pec.syncSec
  else if a = Reg.PEC_USE then
    put 10 0 (s.pec.slots.filter (fun p => p.2.st == .run)).length ||| put 26 16 (s.pec.slots.filter (fun p => p.2.st == .drydown)).length
  else 0#32

/-! ### Commands (Table 5-11) -/

/-- PEC_STATUS: counters, the synchronised t0 and whether it waits, then per slot with a valid entry its state words. -/
def bodyPecStatus (s : State) : Res :=
  let slots := (upto 1024).filter (fun i => (s.slotEntry i).isSome || (s.slot i).st != .idle)
  ok ((upto 14).map (fun i => s.reg (Reg.PEC_CNT i)) ++ [s.pecView Reg.PEC_STAT, s.pecView Reg.PEC_SYNC_SEC] ++
    slots.flatMap (fun i => [word i, s.pecRead 0 i 0, s.pecRead 0 i 1, s.pecRead 0 i 2, s.pecRead 0 i 3])) s

def execPecStatus (h : Hdr) (s : State) : Host.Outcome State Fault Refusal := .next (runCmd 0x0500 h bodyPecStatus s)

/-- What the reply to a profile command says of a slot: G in ns and the Drydown length (R161). -/
def State.slotDelay (s : State) (i : Nat) (w0 : Word) : List Word :=
  let p := s.profileOf w0 (s.slot i).bank (s.slotRate i)
  [word i, word p.groupNs, word p.drydown]

/-- The slot word a named profile makes, on the slot's present word (R158). -/
def State.namedSlotWord (s : State) (i : Nat) (a : PecProfileArgs) : Word :=
  let front := defaultFront (s.slotRate i)
  setFld (setFld (setFld (setBit (setBit (s.pw 0 i 0) 28 a.is60) 27 a.mclass) 26 23 a.rate.val) 22 16 front.1) 14 11 front.2

/-- PEC_PROFILE (R157, R158, R161): every named slot is checked before any is written; the reply gives t0, G and the Drydown length. -/
def bodyPecProfile (a : PecProfileArgs) (s : State) : Res :=
  let words := a.slots.map (fun i => (i.val, s.namedSlotWord i.val a))
  if a.slots.isEmpty then refuse St.BAD_PARAM s
  else if words.any (fun p => s.slotWordErr p.1 p.2 == 5) then refuse 0x0513 s
  else if words.any (fun p => s.slotWordErr p.1 p.2 != 0) then refuse 0x0510 s
  else ok (word (secsOf (restartSecond s.now)) :: words.flatMap (fun p => s.slotDelay p.1 p.2))
    (words.foldl (fun s p => s.writeSlot p.1 [p.2, s.pw 0 p.1 1]) s)

def execPecProfile (h : Hdr) (a : PecProfileArgs) (s : State) : Host.Outcome State Fault Refusal :=
  .next (runCmd 0x0501 h (bodyPecProfile a) s)

/-- PEC_INPUTS: enable, scale, type and fref of inputs. -/
def bodyPecInputs (l : List PecInput) (s : State) : Res :=
  ok [] (l.foldl (fun s x =>
    s.storeEntry 1 x.index.val [x.scale, putBit 31 x.enable ||| put 4 2 x.fref.val ||| put 1 0 x.kind.val]) s)

def execPecInputs (h : Hdr) (l : List PecInput) (s : State) : Host.Outcome State Fault Refusal :=
  .next (runCmd 0x0502 h (bodyPecInputs l) s)

/-- The words of a threshold entry. -/
def PecThreshold.words (x : PecThreshold) : List Word :=
  [x.high, x.low, x.hyst, put 15 8 x.debounce ||| putBit 1 x.enLow ||| putBit 0 x.enHigh]

/-- PEC_THRESHOLDS (R177): refused whole where an entry's thresholds cross, or a debounce count does not fit. -/
def bodyPecThresholds (l : List PecThreshold) (s : State) : Res :=
  if l.any (fun x => decide (255 < x.debounce)) then refuse St.PARAM_RANGE s
  else if l.any (fun x => thrRefused x.words) then refuse St.BAD_PARAM s
  else ok [] (l.foldl (fun s x => s.storeEntry 2 x.index.val x.words) s)

def execPecThresholds (h : Hdr) (l : List PecThreshold) (s : State) : Host.Outcome State Fault Refusal :=
  .next (runCmd 0x0503 h (bodyPecThresholds l) s)

/-- SYNC_DECIM (R170): replies OK with t0 in seconds of module time. -/
def bodySyncDecim (s : State) : Res :=
  let r := s.syncRestart.1
  ok [word r.pec.syncSec, word (r.pec.syncSec / 2 ^ 32)] r

def execSyncDecim (h : Hdr) (s : State) : Host.Outcome State Fault Refusal := .next (runCmd 0x0504 h bodySyncDecim s)

/-- One slot swapped (R172, R173, R175, R176): at once where no history runs, as a restart between profiles of unequal T, held behind a
running cross-fade, else as a cross-fade. The words say which: 0 at once, 1 cross-fade, 2 held, 3 restart. -/
def State.swapSlot (s : State) (i : Nat) : Nat × State :=
  let x := s.slot i
  let prof := fld (s.pw 0 i 0) 14 11
  if x.st = .idle || x.st = .wait || x.st = .gap then (0, s.updSlot i (fun x => { x with bank := !x.bank }))
  else if x.xf.isSome then (2, (s.updSlot i (fun x => { x with held := true })).pecCount 9 1)
  else if (s.taps x.bank prof).length ≠ (s.taps (!x.bank) prof).length then
    (3, s.schedRestart i ⟨restartSecond s.now, none, some (!x.bank)⟩)
  else (1, s.startFade i)

/-- Every named slot swapped, with what each came to. -/
def State.swapSlots (s : State) : List Nat → List Word × State
  | [] => ([], s)
  | i :: rest =>
    let r := s.swapSlot i
    let t := State.swapSlots r.2 rest
    (word i :: word r.1 :: t.1, t.2)

/-- A bank swap (R172 to R176): refused whole with BUSY_XFADE where a named slot is in a cross-fade, or with the queue option holds a swap
already, and with BAD_PARAM where a target is empty. -/
def bankSwap (a : PecSwapArgs) (queue : Bool) (s : State) : Res :=
  let slots := a.slots.map (·.val)
  let busy (i : Nat) : Bool := (s.slot i).held || ((s.slot i).xf.isSome && !queue)
  if slots.isEmpty || !noDup slots then refuse St.BAD_PARAM s
  else if (match a.len with | some n => decide (4096 < n) | none => false) then refuse St.PARAM_RANGE s
  else if slots.any busy then refuse St.BUSY_XFADE (s.pecCount 8 1)
  else if slots.any (fun i => (s.taps (!(s.slot i).bank) (fld (s.pw 0 i 0) 14 11)).isEmpty) then refuse St.BAD_PARAM s
  else
    let s1 := match a.len with
      | some n => slots.foldl (fun (s : State) i => s.setPw 0 i 1 (put 12 0 n)) s
      | none => s
    let r := s1.swapSlots slots
    ok (word (secsOf (restartSecond s.now)) :: r.1) r.2

/-- PEC_BANK_SWAP. -/
def execPecBankSwap (h : Hdr) (a : PecSwapArgs) (s : State) : Host.Outcome State Fault Refusal :=
  .next (runCmd 0x0505 h (bankSwap a false) s)

/-- PEC_SLOT_RAW (R157): D, FIR profile, hold_max, accept_test and xf_len of a slot. -/
def bodyPecSlotRaw (a : PecSlotRawArgs) (s : State) : Res :=
  let i := a.slot.val
  let w0 := setBit (setFld (setFld (setFld (s.pw 0 i 0) 22 16 a.decim) 14 11 a.firProf) 9 4 a.holdMax) 10 a.acceptTest
  if decide (127 < a.decim) || decide (15 < a.firProf) || decide (63 < a.holdMax) || decide (4096 < a.xfLen) then refuse St.PARAM_RANGE s
  else if s.slotWordErr i w0 = 5 then refuse 0x0513 s
  else if s.slotWordErr i w0 ≠ 0 then refuse 0x0510 s
  else ok (word (secsOf (restartSecond s.now)) :: s.slotDelay i w0) (s.writeSlot i [w0, put 12 0 a.xfLen])

def execPecSlotRaw (h : Hdr) (a : PecSlotRawArgs) (s : State) : Host.Outcome State Fault Refusal :=
  .next (runCmd 0x0580 h (bodyPecSlotRaw a) s)

/-- The staged words of a profile's taps. -/
def State.stageTaps (s : State) (bank : Bool) (prof : Nat) (taps : List Int) : State :=
  let base := 272 * bank.toNat + 17 * prof
  ((upto taps.length).zip taps).foldl (fun s p => s.setPw 3 (base + 1 + p.1 / 8) (p.1 % 8) (put 23 0 (unsign 24 p.2)))
    (s.setPw 3 base 0 (put 7 0 taps.length))

/-- PEC_COEF_LOAD (R150, R151). -/
def bodyPecCoefLoad (a : PecCoefArgs) (s : State) : Res :=
  if decide (128 < a.taps.length) || a.taps.any (fun c => decide (c < -8388608) || decide (8388607 < c)) then refuse St.PARAM_RANGE s
  else match s.commitErr a.bank a.profile.val a.taps with
    | 2 => refuse 0x0511 s
    | 3 => refuse 0x0512 s
    | _ => ok [] ((s.stageTaps a.bank a.profile.val a.taps).commitTaps a.bank a.profile.val a.taps)

def execPecCoefLoad (h : Hdr) (a : PecCoefArgs) (s : State) : Host.Outcome State Fault Refusal :=
  .next (runCmd 0x0581 h (bodyPecCoefLoad a) s)

/-- PEC_BANK_SWAP_X (R175). -/
def execPecBankSwapX (h : Hdr) (a : PecSwapArgs) (s : State) : Host.Outcome State Fault Refusal :=
  .next (runCmd 0x0582 h (bankSwap a a.queue) s)

/-- PEC_DSYNC_CFG. -/
def bodyPecDsyncCfg (enable falling : Bool) (s : State) : Res :=
  ok [] ((s.setRb Reg.PEC_SYNC_CTL 0 enable).setRb Reg.PEC_SYNC_CTL 1 falling)

def execPecDsyncCfg (h : Hdr) (enable falling : Bool) (s : State) : Host.Outcome State Fault Refusal :=
  .next (runCmd 0x0583 h (bodyPecDsyncCfg enable falling) s)

/-! ### Consequences of other blocks -/

/-- The restarts that wait for a slot made one at another t0, with the last profile write and swap among them. -/
def PecSlot.mergePend (x : PecSlot) (t0 : Instant) : PecSlot :=
  let w0 := x.pend.foldl (fun a p => if p.w0.isSome then p.w0 else a) none
  let bank := x.pend.foldl (fun a p => if p.bank.isSome then p.bank else a) none
  { x with pend := [PendRestart.mk t0 w0 bank] }

/-- A step of module time restarts every slot (R56, Table 5-8): at the step where it falls on a whole second, else at the first one after
it. DEDUCED (assumption 114): a restart that waited, whose t0 the old time gave, is merged with it, and so is a synchronised restart. -/
def State.pecTimeStep (s : State) : State :=
  let t0 := ceilSec s.now
  let s1 := s.setPec (fun p => match p.sync with
    | some _ => { p with sync := some t0, syncSec := secsOf t0 }
    | none => p)
  s1.busySlots.foldl (fun s i => s.updSlot i (·.mergePend t0)) s1

/-- A synchronised restart whose t0 has passed no longer waits; judged in the old time before a step. -/
def State.pecBeforeStep (s : State) : State :=
  s.setPec (fun p => { p with sync := p.sync.filter (fun t => decide (s.now < t)) })

/-- A reset of the estimation island (R183, Table 5-8): registers at reset, tables kept, and every slot that was not IDLE restarts once
the island runs and is enabled again. -/
def State.resetEstimation (s : State) : State :=
  let s1 := (s.resetRegs (fun a => blockOf a == 5)).setPec (fun p => { p with sync := none, syncSec := 0, resume := none })
  s1.busySlots.foldl (fun s i => s.updSlot i (fun x => { x.idle with wasReset := true }))
    { s1 with ing := { s1.ing with reports := s1.ing.reports.filter (fun m => decide (m.1 < estimatedBase)) } }

/-- The estimation island runs again after a reset (Table 5-8). -/
def State.resumeEstimation (s : State) : State := s.setPec (fun p => { p with resume := some (restartSecond s.now) })

end Sys2Proof.Machine
end

