-- ==== Sys2Proof/Machine/SillageOps.lean ====
section
/-! DEFINITION. Operations of Sillage (chapter 12): accumulations, records and their bytes, the areas, the chain, signature blocks, and failure
of the log memory. -/

namespace Sys2Proof.Machine

def State.setEvr (s : State) (f : EvrPart → EvrPart) : State := { s with evr := f s.evr }

/-- A counter of Table 12-7 by its position. -/
def State.evrCount (s : State) (i n : Nat) : State := s.count (Reg.EVR_CNT i) n

/-! ### Classes (R362, Table 12-7) -/

/-- The immediate bit of a class (Table 12-1). -/
def classImm (c : Nat) : Bool :=
  if [0, 1, 2, 4, 7, 9, 10, 12, 13, 14, 15, 16, 17, 18, 21, 23, 24, 25, 26, 27].contains c then true
  else if c < 31 then false
  else Config.classImmediate c

/-- The interval of a class in ticks. -/
def State.classInterval (s : State) (c : Nat) : Nat := sec (clamp 1 3600 (s.rf (Reg.EVR_CLASS_CTL c) 11 0))

/-- Whether a class accumulates: en is ignored for classes 0 to 4. -/
def State.classOn (s : State) (c : Nat) : Bool := s.rb Reg.EVR_CTL 0 && (decide (c ≤ 4) || s.rb (Reg.EVR_CLASS_CTL c) 31)

/-! ### Records (R369, Table 12-2) -/

/-- Bytes 0 to 251 of a record. -/
def EvrRecord.body (r : EvrRecord) : List Byte :=
  le 1 r.kind ++ le 1 r.cls ++ le 2 r.flags ++ le 4 r.epoch.toNat ++ le 8 r.seq ++ instantBytes r.tOpen ++ instantBytes r.tClose ++
    le 4 r.count ++ le 4 r.base.toNat ++ r.hist.flatMap (le 4) ++ le 4 r.min.toNat ++ instantBytes r.tMin ++ le 4 r.max.toNat ++
    instantBytes r.tMax ++ instantBytes r.first ++ instantBytes r.last ++ le 4 r.nInj ++
    (bytesOf ((r.detail ++ List.replicate 16 0#32).take 16)) ++ le 1 r.utc ++ le 15 0

/-- The 256 bytes of a record. -/
def EvrRecord.bytes (r : EvrRecord) : List Byte := r.body ++ bytesLE (crc32c r.body)

/-- TAI − UTC at the present, as the record holds it. -/
def State.utcByte (s : State) : Nat := s.rf Reg.TB_UTC_CTL 7 0

/-- A record without events: of a kind, with a detail. -/
def State.bareRecord (s : State) (kind cls flags : Nat) (detail : List Word) : EvrRecord :=
  { kind := kind, cls := cls, flags := flags + (if s.degraded then 2 else 0), epoch := s.time.epoch, seq := s.evr.nextSeq, tOpen := s.now
    tClose := s.now, count := 1, base := s.reg (Reg.EVR_CLASS_BASE cls), hist := 1 :: List.replicate 15 0, min := 0#32, tMin := s.now
    max := 0#32, tMax := s.now, first := s.now, last := s.now, nInj := 0, detail := detail, utc := s.utcByte }

/-- A record takes its sequence number and joins the queue (R367). -/
def State.pushRecord (s : State) (r : EvrRecord) : State :=
  (s.setEvr (fun e => { e with queue := e.queue ++ [{ r with seq := e.nextSeq }], nextSeq := e.nextSeq + 1 })).evrCount 0 1

/-! ### Closing (R363, R365 to R367) -/

/-- The record of an accumulation that closes. -/
def State.recordOf (s : State) (c : Nat) (a : Accum) (early : Bool) : EvrRecord :=
  { kind := 0, cls := c, flags := (if 0 < a.nInj then 1 else 0) + (if a.degraded || s.degraded then 2 else 0) + (if early || a.early then 4 else 0) +
      (if a.late then 8 else 0) + (if a.saturated then 16 else 0)
    epoch := a.epoch, seq := s.evr.nextSeq, tOpen := if early || a.early then a.opened else a.start, tClose := a.stop.getD s.now, count := a.count
    base := s.reg (Reg.EVR_CLASS_BASE c), hist := a.hist, min := F32.conv a.min, tMin := a.tMin, max := F32.conv a.max, tMax := a.tMax
    first := a.first, last := a.last, nInj := a.nInj, detail := a.detail, utc := s.utcByte }

/-- The accumulation of a class closes, or stays open while the queue is full (R367). -/
def State.closeClass (s : State) (c : Nat) (early : Bool) : State :=
  match lookup s.evr.open_ c with
  | none => s
  | some a =>
    if 256 ≤ s.evr.queue.length then
      (let s1 := s.setEvr (fun e => { e with open_ := setKey e.open_ c { a with late := true, early := a.early || early } })
       if a.late then s1 else s1.evrCount 2 1)
    else
      (s.pushRecord (s.recordOf c a early)).setEvr (fun e => { e with
        open_ := dropKey e.open_ c, lastClose := setKey e.lastClose c (s.up, s.now) })

/-- Every open accumulation closes early, in the order of the classes (R366, R367). -/
def State.closeEarly (s : State) : State := (s.evr.open_.map (·.1)).foldl (fun (s : State) c => s.closeClass c true) s

/-- Accumulations that should have closed close as room appears, those of an ended epoch first (R367). -/
def State.closeLate (s : State) : State :=
  let s1 := s.evr.stuck.foldl (fun (s : State) p =>
    if s.evr.queue.length < 256 then (s.pushRecord (s.recordOf p.1 p.2 true)).setEvr (fun e => { e with stuck := e.stuck.drop 1 }) else s) s
  (s1.evr.open_.filter (fun p => p.2.late)).foldl (fun (s : State) p =>
    if s.evr.queue.length < 256 then s.closeClass p.1 false else s) s1

/-- What is still open of a class when its epoch has ended is set aside, so that no record spans two epochs (R366). -/
def State.shelve (s : State) (c : Nat) : State :=
  match lookup s.evr.open_ c with
  | none => s
  | some a => s.setEvr (fun e => { e with open_ := dropKey e.open_ c, stuck := e.stuck ++ [(c, { a with stop := some s.now })] })

/-! ### Accumulating (R364, R365) -/

/-- The histogram bin of a quantity for a base b (R364); for a base that is no number the spec states none, and the bin is that of a free one. -/
def histBin (b : Word) (q : Rat) : Nat :=
  let base := if F32.isNaN b then Config.nonNumber b else F32.toRat b
  if F32.isInf b then (if bit b 31 then 15 else 0)
  else if q < base then 0
  else match (upto 15).find? (fun k => decide (0 < k) && decide (q < base * ((2 ^ k : Nat) : Rat))) with
    | some k => k
    | none => 15

/-- A count raised by one, and whether it was saturated. -/
def satInc (n : Nat) : Nat := min 0xFFFFFFFF (n + 1)

def freshAccum (start opened : Instant) (m : EventMsg) : Accum :=
  { start := start, opened := opened, count := 0, hist := List.replicate 16 0, min := 0, tMin := m.at_, max := 0, tMax := m.at_, first := m.at_
    last := m.at_, nInj := 0, degraded := false, saturated := false, detail := m.detail, epoch := m.epoch, late := false, early := false
    stop := none }

/-- An accumulation with one event more. -/
def Accum.add (a : Accum) (base : Word) (m : EventMsg) : Accum :=
  let q : Rat := if m.qty < 0 then -m.qty else m.qty
  { a with
    count := satInc a.count
    hist := updAt a.hist (histBin base q) satInc
    min := if a.count = 0 || q < a.min then q else a.min
    tMin := if a.count = 0 || q < a.min then m.at_ else a.tMin
    max := if a.count = 0 || a.max < q then q else a.max
    tMax := if a.count = 0 || a.max < q then m.at_ else a.tMax
    last := m.at_
    nInj := if m.injected then satInc a.nInj else a.nInj
    degraded := a.degraded || m.degraded
    saturated := a.saturated || a.count == 0xFFFFFFFF }

/-- The uptime at which a class that closed a record less than 10 ms ago may close again (R365). -/
def State.holdoffEnd (s : State) (c : Nat) : Option Nat :=
  match lookup s.evr.lastClose c with
  | some (u, _) => if s.up < u + ms 10 then some (u + ms 10) else none
  | none => none

/-- The open accumulation of a class that an event no longer belongs to closes first: its epoch or its interval has ended (R363, R366). -/
def State.ageOut (s : State) (m : EventMsg) : State :=
  match lookup s.evr.open_ m.cls with
  | none => s
  | some a =>
    if a.epoch != m.epoch then (s.closeClass m.cls true).shelve m.cls
    else if !a.late && decide (a.start + s.classInterval m.cls ≤ m.at_) then s.closeClass m.cls false
    else s

/-- An event reaches its class (R364, R365): counted, and accumulated where the class accumulates; an immediate class closes at once, unless it
closed a record less than 10 ms before. -/
def State.accumulate (s : State) (m : EventMsg) : State :=
  let s0 := s.count (Reg.EVR_CLASS_CNT m.cls) 1
  if !s0.classOn m.cls then s0
  else
    let s1 := s0.ageOut m
    let i := s1.classInterval m.cls
    let start := m.at_ / i * i
    let opened := match lookup s1.evr.lastClose m.cls with
      | some (_, t) => if start < t && t ≤ m.at_ then t else start
      | none => start
    let a := ((lookup s1.evr.open_ m.cls).getD (freshAccum start opened m)).add (s1.reg (Reg.EVR_CLASS_BASE m.cls)) m
    let s2 := s1.setEvr (fun e => { e with open_ := setKey e.open_ m.cls a })
    if classImm m.cls && (s2.holdoffEnd m.cls).isNone then s2.closeClass m.cls false else s2

/-- The epoch ends (R366): every event on its way is accumulated, and every accumulation closes early or is set aside. -/
def State.closeEpoch (s : State) : State :=
  let s1 := (s.events.foldl State.accumulate { s with events := [] }).closeEarly
  (s1.evr.open_.map (·.1)).foldl State.shelve s1

/-! ### Areas and blocks (R371 to R376) -/

/-- The area and the slot of a record by its seq (Table 12-3). -/
def State.placeOf (s : State) (seq : Nat) : Nat × Nat :=
  let n := seq - s.evr.s0
  if n < 16384 then (0, n) else (1, (n - 16384) % 131072)

/-- Bank 0 has failed: records go to the refuge (R377). -/
def State.refugeMode (s : State) : Bool := s.evr.bank0.isSome

/-- Both banks have failed (R378). -/
def State.logLost (s : State) : Bool := s.evr.bank0.isSome && s.evr.bank1.isSome

/-- A record written to a slot of an area: the chain goes on, and a block whose last slot it is comes due (R373, R374). -/
def State.putRecord (s : State) (area slot : Nat) (r : EvrRecord) : State :=
  let h := Config.sha256 (s.evr.chain ++ r.bytes)
  let x : EvrStored := ⟨r, s.evr.chain, h⟩
  let s1 := s.setEvr (fun e => { e with
    chain := h, written := r.seq + 1
    pinned := if area = 0 then setKey e.pinned slot x else e.pinned
    circ := if area = 1 then setKey e.circ slot x else e.circ
    refuge := if area = 2 then setKey e.refuge slot x else e.refuge
    nRefuge := if area = 2 then e.nRefuge + 1 else e.nRefuge })
  let s2 := if slot % 64 = 63 then s1.setEvr (fun e => { e with due := e.due ++ [(area, slot / 64, false, false)] }) else s1
  if area = 1 && (lookup s.evr.circ slot).isSome && !s.evr.wrapped then
    (s2.setEvr (fun e => { e with wrapped := true })).status Reg.EVR_STAT 1 else s2

/-- The byte address of a slot of bank 0, the areas one after the other as Table 12-3 lists them. -/
def slotAddress (area slot : Nat) : Nat :=
  match area with
  | 0 => 256 * slot
  | _ => 256 * (16384 + 256 + slot)

/-- One write to an MRAM bank with its read-back and one rewrite (R377): whether it failed, whether every mismatch was injected, and the
detections. `real1` and `real2` say whether the write and the rewrite really differ. -/
def State.mramWrite (s : State) (bank : Nat) (real1 real2 : Bool) : Bool × Bool × State :=
  let r1 := s.occasion 9 bank real1
  match r1.1 with
  | none => (false, false, r1.2)
  | some i1 =>
    let s1 := r1.2.detect 9 i1 0 [word bank]
    let r2 := s1.occasion 9 bank real2
    match r2.1 with
    | none => (false, false, r2.2)
    | some i2 => (true, i1 || i2, r2.2.detect 9 i2 0 [word bank])

/-- FAULT_N cause 2 set, where both banks have failed (R378, Table 18-4). -/
def State.noteLost (s : State) : State :=
  if s.logLost && !s.aon.causes.contains 2 then { s with aon := { s.aon with causes := s.aon.causes ++ [2] } } else s

/-- Bank 1 fails (R378): a LOG record where bank 0 still works. -/
def State.bank1Fails (s : State) (inj : Bool) : State :=
  let s1 := (s.setEvr (fun e => { e with bank1 := some inj })).noteLost
  if s.evr.bank0.isNone then (if inj then s1.raiseInjected 0 0 [3#32] else s1.raise 0 0 [3#32]) else s1

/-- Bank 0 fails at a slot (R377): the failed record goes to the refuge first, the FAILURE record follows it; the
entry into the refuge is a LOG event. -/
def State.bank0Fails (s : State) (addr seq : Nat) (inj : Bool) : State :=
  let s0 := (s.setEvr (fun e => { e with bank0 := some (addr, inj) })).noteLost
  let s1 := if inj then s0.raiseInjected 0 0 [1#32, word addr] else s0.raise 0 0 [1#32, word addr]
  s1.pushRecord (s1.bareRecord 2 0 (64 + inj.toNat) [0#32, word addr, word seq, word (seq / 2 ^ 32)])

/-- A record is written (R367, R372, R377, R378): to its area, or to the refuge once bank 0 has failed; counted in evr_lost when both banks
have. -/
def State.writeRecord (s : State) (r : EvrRecord) (real1 real2 : Bool) : State :=
  if s.logLost then (s.setEvr (fun e => { e with written := r.seq + 1 })).evrCount 3 1
  else if s.refugeMode then
    let w := s.mramWrite 1 real1 real2
    if w.1 then ((w.2.2.bank1Fails w.2.1).setEvr (fun e => { e with written := r.seq + 1 })).evrCount 3 1
    else w.2.2.putRecord 2 (s.evr.nRefuge % 256) { r with flags := if r.flags / 64 % 2 = 1 then r.flags else r.flags + 64 }
  else
    let p := s.placeOf r.seq
    let w := s.mramWrite 0 real1 real2
    if w.1 then
      let s1 := w.2.2.bank0Fails (slotAddress p.1 p.2) r.seq w.2.1
      if s1.logLost then (s1.setEvr (fun e => { e with written := r.seq + 1 })).evrCount 3 1
      else s1.putRecord 2 (s1.evr.nRefuge % 256) { r with flags := r.flags + 64 }
    else w.2.2.putRecord p.1 p.2 r

/-- The oldest record of the queue is written, and what waited for room closes. -/
def State.writeNext (s : State) (real1 real2 : Bool) : State :=
  match s.evr.queue with
  | [] => s
  | r :: rest => ((s.setEvr (fun e => { e with queue := rest })).writeRecord r real1 real2).closeLate

/-- Every queued record is written. -/
def State.writeAll (s : State) : Nat → State
  | 0 => s
  | n + 1 => State.writeAll (s.writeNext false false) n

/-- The records of an area by slot. -/
def State.areaOf (s : State) (area : Nat) : List (Nat × EvrStored) :=
  if area = 0 then s.evr.pinned else if area = 1 then s.evr.circ else s.evr.refuge

/-- Records of consecutive seqs from the first of a list on. -/
def runOf : List EvrStored → List EvrStored
  | [] => []
  | x :: rest => match runOf rest with
    | [] => [x]
    | y :: more => if y.item.seq = x.item.seq + 1 then x :: y :: more else [x]

/-- The records that block `k` of an area covers. -/
def State.covered (s : State) (area k : Nat) : List EvrStored :=
  runOf ((upto 64).filterMap (fun i => lookup (s.areaOf area) (64 * k + i)))

/-- Sillage's signing key (R375): the slot's key where it can be used and fits the curve, with the use counted. -/
def State.signingKey (s : State) : Option (List Byte) × State :=
  let slot := s.rf Reg.EVR_CTL 23 16
  if s.key.lc == .retired || (s.kslot slot).len != (if s.rb Reg.EVR_CTL 24 then 48 else 32) then (none, s)
  else
    let key := s.keyBytes slot
    let r := s.useKeySlot slot [3]
    if r.1 = 0 then (some key, r.2) else (none, r.2)

/-- key_id of a public key (Table 12-4). -/
def keyId (key : List Byte) : List Byte := (Config.sha256 (publicKey key)).take 8

/-- The byte address of a signature slot of bank 0. -/
def blockAddress (area k : Nat) : Nat :=
  match area with
  | 0 => 256 * (16384 + k)
  | _ => 256 * (16384 + 256 + 131072 + k)

/-- A signature block written to its slot, or to the refuge once bank 0 has failed (R374, R377, R378); a later block of the same slots replaces it. -/
def State.storeBlock (s : State) (b : EvrBlock) (real1 real2 : Bool) : State :=
  let keep (s : State) : State := ((s.setEvr (fun e => { e with
    blocks := e.blocks.filter (fun y => y.area != b.area || y.k != b.k) ++ [b] })).evrCount 1 1).status Reg.EVR_STAT 0
  if s.logLost then s
  else if s.refugeMode then
    let w := s.mramWrite 1 real1 real2
    if w.1 then w.2.2.bank1Fails w.2.1 else keep w.2.2
  else
    let w := s.mramWrite 0 real1 real2
    if w.1 then
      let s1 := w.2.2.bank0Fails (blockAddress b.area b.k) b.first w.2.1
      if s1.logLost then s1 else keep s1
    else keep w.2.2

/-- A signature block is written over the records of its slots (R374 to R376). -/
def State.writeBlock (s : State) (area k : Nat) (partial_ power real1 real2 : Bool) : State :=
  match s.covered area k with
  | [] => s
  | x :: rest =>
    let all := x :: rest
    let last := (all.getLast?).getD x
    let p384 := s.rb Reg.EVR_CTL 24
    let sk := s.signingKey
    let s1 := sk.2
    let key := sk.1.getD []
    let flags := partial_.toNat + (if sk.1.isNone then 2 else 0) + (if power then 4 else 0) +
      (if all.any (fun y => y.item.flags % 2 == 1) then 8 else 0)
    let head := le 1 3 ++ le 1 area ++ le 2 flags ++ le 4 k ++ le 8 x.item.seq ++ le 2 all.length ++ le 2 p384.toNat ++ padTo 16 Config.uid ++
      (if sk.1.isSome then padTo 8 (keyId key) else List.replicate 8 0#8) ++ padTo 32 x.prev ++ padTo 32 last.hash ++
      bytesLE (s1.reg Reg.CMD_FW) ++ le 16 0
    let sig := if sk.1.isSome then padTo 96 (Config.ecdsaSign p384 key head) else List.replicate 96 0#8
    let body := head ++ sig ++ le 28 0
    let b : EvrBlock := ⟨area, k, x.item.seq, all.length, body ++ bytesLE (crc32c body)⟩
    let s2 := s1.storeBlock b real1 real2
    if sk.1.isNone then s2.status Reg.EVR_STAT 3 else s2

/-- The oldest block that is due is written. -/
def State.writeDue (s : State) (real1 real2 : Bool) : State :=
  match s.evr.due with
  | [] => s
  | (a, k, p, z) :: rest => (s.setEvr (fun e => { e with due := rest })).writeBlock a k p z real1 real2

/-- Every block that is due is written. -/
def State.writeDues (s : State) : Nat → State
  | 0 => s
  | n + 1 => State.writeDues (s.writeDue false false) n

/-- The block of an area that holds its newest record, where that block is not full. -/
def State.openBlock (s : State) (area : Nat) : Option Nat :=
  let newest := (s.areaOf area).foldl (fun (b : Option (Nat × Nat)) p => match b with
    | some (q, _) => if q < p.2.item.seq then some (p.2.item.seq, p.1) else b
    | none => some (p.2.item.seq, p.1)) none
  match newest with
  | some (_, slot) => if slot % 64 = 63 then none else some (slot / 64)
  | none => none

/-- Partial blocks over the slots written so far (R374). -/
def State.partialBlocks (s : State) (power : Bool) : State :=
  (upto 3).foldl (fun (s : State) a => match s.openBlock a with
    | some k => s.writeBlock a k true power false false
    | none => s) s

/-- Every accumulation closed early, every record written, and every block with the partial ones (R366, R374). -/
def State.sealLog (s : State) (power : Bool) : State :=
  let s1 := s.closeEarly
  let s2 := s1.writeAll (s1.evr.queue.length + 256)
  (s2.writeDues s2.evr.due.length).partialBlocks power

/-! ### Start and reset (R368) -/

/-- What a loss of the on-die state leaves of Sillage (R368): open accumulations and the queue are lost, and the next seq follows the last record
found in MRAM. Which blocks have no signature yet can be read from MRAM. -/
def State.loseLog (s : State) : State :=
  s.setEvr (fun e => { e with
    open_ := [], stuck := [], lastClose := [], queue := [], nextSeq := e.written, nonce := none, seqHi := 0#32, restart := true })

/-- The newest record in MRAM. -/
def State.lastStored (s : State) : Option EvrRecord :=
  ((s.evr.pinned ++ s.evr.circ ++ s.evr.refuge).foldl (fun (b : Option EvrRecord) p => match b with
    | some r => if r.seq < p.2.item.seq then some p.2.item else b
    | none => some p.2.item) none)

/-- The start after a loss (R368): a LOG record gives the seq and module time of the last record found, power_lost sets, and records left
unsigned are signed by partial blocks. -/
def State.startLog (s : State) : State :=
  let detail := match s.lastStored with
    | some r => [word r.seq, word (r.seq / 2 ^ 32)] ++ instantWords r.tClose
    | none => []
  let s1 := ((s.setEvr (fun e => { e with restart := false })).pushRecord (s.bareRecord 0 0 32 detail)).status Reg.EVR_STAT 2
  (s1.writeDues s1.evr.due.length).partialBlocks false

/-- A reset of the Sillage island (R368, R383). -/
def State.resetSillage (s : State) : State := (s.resetRegs (fun a => blockOf a == 12)).loseLog

/-- The Sillage island runs: after a loss it writes its LOG record (R368). -/
def State.resumeSillage (s : State) : State := if s.evr.restart then s.startLog else s

end Sys2Proof.Machine
end

