-- ==== Sys2Proof/Machine/CmdOps.lean ====
section
/-! DEFINITION. Operations of the command block (chapter 14): the lock service, sessions, what ends a command before its time, and the rings. -/

namespace Sys2Proof.Machine

def State.setCmd (s : State) (f : CmdPart → CmdPart) : State := { s with cmd := f s.cmd }

/-! ### The lock service (R433 to R435) -/

def State.lock (s : State) (n : Nat) : Lock := (s.cmd.locks[n]?).getD freeLock

def State.updLock (s : State) (n : Nat) (f : Lock → Lock) : State := s.setCmd (fun c => { c with locks := updAt c.locks n f })

/-- Whether a lease lies from 10 ms to 60,000 ms. -/
def leaseOk (leaseMs : Nat) : Bool := decide (10 ≤ leaseMs) && decide (leaseMs ≤ 60000)

/-- A lock given to a session: LOCK_BROKEN where its previous owner lost it. -/
def State.grant (s : State) (n : Nat) (session : Fin 4) (leaseMs : Nat) : Nat × State :=
  (if (s.lock n).broken then St.LOCK_BROKEN else St.OK,
   s.updLock n (fun l => { l with owner := some session, due := s.up + ms leaseMs, broken := false }))

/-- A free lock goes to the first command that waits for it. -/
def State.passLock (s : State) (n : Nat) : State :=
  match (s.lock n).queue.find? (fun w => (s.flight? w.session w.seq).isSome) with
  | some w =>
    let r := (s.updLock n (fun l => { l with queue := (l.queue.dropWhile (· != w)).drop 1 })).grant n w.session w.leaseMs
    r.2.complete w.session w.seq r.1 []
  | none => s.updLock n (fun l => { l with queue := [] })

/-- A held lock is broken (R435): its owner's next command will not run, unless the session reopens or closes (R422). -/
def State.breakLock (s : State) (n : Nat) (reopening : Bool) : State :=
  match (s.lock n).owner with
  | none => s
  | some o =>
    let extra := (s.up - (s.lock n).due) / ms 1
    let s1 := s.updLock n (fun l => { l with owner := none, broken := true })
    let s2 := if reopening then s1 else s1.updSession o (fun x => { x with lost := x.lost ++ [n] })
    ((((s2.count (Reg.CMD_CNT 4) 1).vector 5).raise 23 (extra : Rat) [word n, word o.val])).passLock n

/-- The locks a session holds, in increasing order. -/
def State.locksOf (s : State) (session : Fin 4) : List Nat := (upto 32).filter (fun n => (s.lock n).owner == some session)

/-- Every lock broken: at the heartbeat's expiry and at a reset of the control island. -/
def State.breakAll (s : State) : State := (upto 32).foldl (fun (s : State) n => s.breakLock n false) s

/-! ### Sessions (R422) -/

/-- A session's locks broken without LEASE_EXPIRED, and what it had lost forgotten. -/
def State.dropLocks (s : State) (session : Fin 4) : State :=
  ((s.locksOf session).foldl (fun (s : State) n => s.breakLock n true) s).updSession session (fun x => { x with lost := [] })

/-- Every session closed. -/
def State.closeSessions (s : State) : State := s.setCmd (fun c => { c with sessions := c.sessions.map (fun _ => closedSession) })

/-! ### Commands that end before their time (R428, R429, R431) -/

/-- A command that has not passed its commit point is abandoned: out of every queue it waits in, a replacement of it discarded, with a status. -/
def State.abandon (s : State) (f : Flight) (status : Nat) : State :=
  let s1 := s.setCmd (fun c => { c with locks := c.locks.map (fun l => { l with
    queue := l.queue.filter (fun w => !(w.session == f.session && w.seq == f.seq)) }) })
  let s2 := s1.setKeys (fun k => { k with shadows := k.shadows.filter (fun x => x.staged.isSome || x.session != f.session || x.seq != f.seq) })
  (s2.setMbx (fun m => { m with waiters := m.waiters.filter (fun w => !(w.session == f.session && w.seq == f.seq)) })).postFinal f status []

/-- Whether a command has not passed its commit point. That of PWR_STATE is its acceptance: the reply follows once the state is left. -/
def Flight.uncommitted (f : Flight) : Bool :=
  match f.st with
  | .admitted => true
  | .mirroring => true
  | .waiting => f.opcode != 0x0101
  | _ => false

/-- A command core is reset (R429): its generation rises, and each of its commands that had not passed its commit point replies TIMEOUT. -/
def State.resetCore (s : State) (core : Fin 4) (cmds : List (Fin 4 × Word)) : State :=
  cmds.foldl (fun (s : State) c =>
    match s.flight? c.1 c.2 with
    | some f => if f.occupies && f.uncommitted then s.abandon f St.TIMEOUT else s
    | none => s) (s.raiseGen (s.coreIdent core.val))

/-- The head's own wait for the members of a cascade-route command is over: one reply with 64 statuses (R431). -/
def State.closeAggregate (s : State) (f : Flight) (a : Aggregate) (timedOut : Bool) : State :=
  let sts := (upto 64).map (fun i => lookup a.statuses i)
  let first := sts.find? (fun x => match x with
    | some st => st != St.OK
    | none => false)
  let status := match first with
    | some (some st) => st
    | _ => if timedOut then St.TIMEOUT else St.OK
  let halves := sts.map (fun x => x.getD 0xFFFF)
  let words := (upto 32).map (fun i => put 15 0 ((halves[2 * i]?).getD 0) ||| put 31 16 ((halves[2 * i + 1]?).getD 0))
  (s.setCmd (fun c => { c with aggs := c.aggs.filter (fun x => !(x.session == f.session && x.seq == f.seq)) })).postFinal
    { f with casc := false } status words

/-! ### The rings (R410 to R412, R438, R518) -/

/-- Ring positions back at zero, the replies the host has not read discarded, and the commands in flight left to complete without a reply. -/
def State.clearRings (s : State) : State :=
  let s1 := ((s.setReg Reg.CMD_SQ_TAIL 0#32).setReg Reg.CMD_RQ_HEAD 0#32).setRb Reg.CMD_CTL 0 false
  s1.setCmd (fun c => { c with
    sqHead := 0
    rqTail := 0
    parity := true
    stalled := false
    replies := []
    aggs := []
    coal := c.coal.map (fun _ => ⟨0, none⟩)
    flights := (c.flights.filter (fun f => match f.st with
      | .replied _ => false
      | _ => true)).map (fun f => { f with muted := true, slots := 0 }) })

/-- The host frees reply slots by moving CMD_RQ_HEAD on (R412): the flights of their commands end. -/
def State.freeReplies (s : State) (head : Nat) : State :=
  let old := s.rf Reg.CMD_RQ_HEAD 7 0
  let n := (head % 256 + 256 - old) % 256
  let freed := s.cmd.replies.take n
  let s1 := (s.setRf Reg.CMD_RQ_HEAD 7 0 head).setCmd (fun c => { c with
    replies := c.replies.drop n
    flights := c.flights.filter (fun f => match f.st with
      | .replied k => !freed.any (fun r => r.final && r.slot == k)
      | _ => true) })
  s1.setCmd (fun c => { c with stalled := c.stalled && !(decide (2 ≤ s1.freeSlots) && decide (c.flights.length < 256)) })

/-- CMD_CTL.en written. -/
def State.enableFetch (s : State) (on : Bool) : State := s.setRb Reg.CMD_CTL 0 on

/-- CMD_SQ_TAIL written (R411, R426): taken modulo the ring size, and counted while fetching is stopped for want of room. -/
def State.writeTail (s : State) (tail : Nat) : State :=
  let s1 := s.setRf Reg.CMD_SQ_TAIL 9 0 (tail % s.sqSize)
  if s1.cmd.stalled then s1.countFld Reg.CMD_DB_STAT 15 0 1 else s1

/-- CMD_HEARTBEAT written (R438). -/
def State.feedHeartbeat (s : State) : State := if s.rb Reg.CMD_CTL 2 then s.setCmd (fun c => { c with hbDue := some (s.up + sec 1) }) else s

/-- hb_en written (R438): the second runs from the moment the heartbeat is enforced. -/
def State.settleHeartbeat (s : State) : State :=
  s.setCmd (fun c => { c with hbDue := if s.rb Reg.CMD_CTL 2 then some (c.hbDue.getD (s.up + sec 1)) else none })

/-- Fields of the command registers that are read from the state (Tables 14-9 and 14-11). -/
def State.cmdView (s : State) (a : Nat) : Word :=
  if a = Reg.CMD_STAT then
    putBit 31 s.cmd.ready ||| putBit 30 s.isHead ||| put 29 24 s.ownIndex ||| put 23 21 s.key.lc.code |||
      put 20 19 (if s.pair.st = .unpaired then 0 else if s.pair.st.holds then 1 else if s.pair.st = .standby then 2 else 3) |||
      putBit 18 s.refugeMode ||| putBit 17 (!s.aon.causes.isEmpty) |||
      (upto 4).foldl (fun w n => w ||| putBit n ((s.cmd.sessions[n]?).getD closedSession).opened) 0#32
  else if a = Reg.CMD_EPOCH then s.time.epoch
  else if a = Reg.CMD_SQ_HEAD then word s.cmd.sqHead
  else if a = Reg.CMD_RQ_TAIL then put 7 0 s.cmd.rqTail ||| putBit 8 s.cmd.parity
  else if a = Reg.CMD_DB_STAT then putBit 31 s.cmd.stalled ||| put 24 16 s.cmd.flights.length
  else 0#32

end Sys2Proof.Machine
end

