-- ==== Sys2Proof/Machine/Spectrum.lean ====
section
/-! DEFINITION. The spectral quantities of the forced detector and the slope of the dissipating-energy unit (R269, R270), and the accuracy that
Table 8-3 gives mode results (R263). -/

namespace Sys2Proof.Machine

def sumRat (l : List Rat) : Rat := l.foldl (· + ·) 0

/-- The mean of values, 0 of none. -/
def meanOf (l : List Rat) : Rat := if l.isEmpty then 0 else sumRat l / (l.length : Rat)

/-- The rms of values. -/
def rmsOf (l : List Rat) : Rat := Elem.sqrt (meanOf (l.map (fun x => x * x)))

/-! ### Spectral power and coherence (R269) -/

/-- The Hann weight at sample `i` of a window of `n`. -/
def hann (n i : Nat) : Rat := (1 - (Elem.cosSin ((i : Rat) / (n : Rat))).1) / 2

/-- The Hann-windowed spectral component of samples at `f` turns a sample. -/
def component (l : List Rat) (f : Rat) : Rat × Rat :=
  ((upto l.length).zip l).foldl (fun (a : Rat × Rat) p =>
    let w := hann l.length p.1 * p.2
    let cs := Elem.cosSin (f * (p.1 : Rat))
    (a.1 + w * cs.1, a.2 - w * cs.2)) (0, 0)

def powerOf (c : Rat × Rat) : Rat := c.1 * c.1 + c.2 * c.2

/-- The bin of a window of `n` samples nearest to a frequency, at `fo` samples/s. -/
def binOf (n fo : Nat) (f : Rat) : Nat := (f * (n : Rat) / (fo : Rat) + 1 / 2).floor.toNat

/-- The component of samples in the bin of a frequency. -/
def binAt (fo : Nat) (f : Rat) (l : List Rat) : Rat × Rat := component l ((binOf l.length fo f : Rat) / (l.length : Rat))

/-- The middle of sorted values, or the mean of the middle two. -/
def medianOf (l : List Rat) : Rat :=
  let x := sortBy (fun a b => decide (a ≤ b)) l
  if x.length % 2 = 1 then (x[x.length / 2]?).getD 0
  else (((x[x.length / 2 - 1]?).getD 0) + ((x[x.length / 2]?).getD 0)) / 2

/-- The frequency range of a band in Hz (Table 8-1). -/
def bandEdges (b : Nat) : Rat × Rat := if b = 0 then (1 / 100, 1 / 10) else if b = 1 then (1 / 10, 1) else (1, 5)

/-- The peak-to-floor ratio at a frequency: the power in its bin over the median power of the band's bins. -/
def peakToFloor (fo band : Nat) (f : Rat) (l : List Rat) : Rat :=
  let n := l.length
  let e := bandEdges band
  let bins := (upto (n / 2 + 1)).filter (fun (k : Nat) => let g : Rat := (k : Rat) * (fo : Rat) / (n : Rat); decide (e.1 ≤ g) && decide (g ≤ e.2))
  quot (powerOf (binAt fo f l)) (medianOf (bins.map (fun (k : Nat) => powerOf (component l ((k : Rat) / (n : Rat))))))

/-- Whether a power ratio is at least so many dB. -/
def atLeastDb (ratio : Rat) (db : Nat) : Bool := decide (0 ≤ ratio) && decide ((10 : Rat) ^ db ≤ ratio ^ 10)

/-- The four half-overlapping segments of a window. -/
def segments (l : List Rat) : List (List Rat) :=
  let h := l.length / 5
  (upto 4).map (fun j => (l.drop (j * h)).take (2 * h))

/-- The magnitude-squared coherence of two signals at the bin of a frequency. -/
def coherenceAt (fo : Nat) (f : Rat) (x y : List Rat) : Rat :=
  let xs := (segments x).map (binAt fo f)
  let ys := (segments y).map (binAt fo f)
  let re := sumRat ((xs.zip ys).map (fun p => p.1.1 * p.2.1 + p.1.2 * p.2.2))
  let im := sumRat ((xs.zip ys).map (fun p => p.1.2 * p.2.1 - p.1.1 * p.2.2))
  quot (re * re + im * im) (sumRat (xs.map powerOf) * sumRat (ys.map powerOf))

/-- The band about a track frequency: ±max(0.02 Hz, 10 % of it). -/
def nearBand (f : Rat) : Rat × Rat := let w := max (1 / 50) (f / 10); (f - w, f + w)

/-- The square of the coefficient of variation of the envelope of a signal's component about a frequency. -/
def envelopeCv2 (n fo : Nat) (f : Rat) (l : List Rat) : Rat :=
  let e := (upto l.length).map (Config.envelope n fo (nearBand f).1 (nearBand f).2 l)
  let m := meanOf e
  quot (meanOf (e.map (fun x => (x - m) * (x - m)))) (m * m)

/-- Samples after the band-pass filter of a band. -/
def bandPassed (n fo : Nat) (e : Rat × Rat) (l : List Rat) : List Rat := (upto l.length).map (Config.bandPass n fo e.1 e.2 l)

/-! ### Dissipating energy (R270) -/

/-- The least-squares slope of values taken at `fo` a second, per second. -/
def slopeOf (fo : Nat) (l : List Rat) : Rat :=
  let mid : Rat := ((l.length - 1 : Nat) : Rat) / 2
  let idx := (upto l.length).map (fun (k : Nat) => (k : Rat) - mid)
  quot (sumRat ((idx.zip l).map (fun p => p.1 * p.2))) (sumRat (idx.map (fun k => k * k))) * (fo : Rat)

/-- The energy W of DEF_UPDATE at each instant but the first: P and Q with the steps of the angle and of ln|V|. -/
def energies : Rat → List (Rat × Rat × Rat × Rat) → List Rat
  | w, a :: b :: rest =>
    let w1 := w + b.1 * (b.2.2.1 - a.2.2.1) + b.2.1 * (b.2.2.2 - a.2.2.2)
    w1 :: energies w1 (b :: rest)
  | _, _ => []

/-! ### Accuracy of modes (R263) -/

/-- A value brought within `err` of the true one. -/
def within (truth err x : Rat) : Rat := max (truth - err) (if truth + err < x then truth + err else x)

/-- A candidate held to Table 8-3 where its conditions hold: exact inputs and a signal-to-noise ratio of at least 10 dB (by `truth`), no held
samples, and a window of enough cycles, or for the damping of a ringing mode an amplitude of at least four times the noise floor. -/
def holdMode (winS : Rat) (exact : Bool) (noise : Rat) (truth : Option (Config.Mode × Bool × Rat)) (m : Config.Mode) : Config.Mode :=
  match truth with
  | none => m
  | some (t, ambient, snr) =>
    if !exact || decide (snr < 10) then m
    else
      let cycles := winS * t.f
      let okF := if ambient then decide (60 ≤ cycles) else decide (20 ≤ cycles)
      let okZ := if ambient then decide (60 ≤ cycles) else decide (4 * noise ≤ t.aRef)
      let top := (t.shape.map (fun e => e.2.1)).foldl max 0
      let entry (e : Nat × Rat × Rat) : Nat × Rat × Rat := match t.shape.find? (fun x => x.1 == e.1) with
        | some x =>
          if top / 10 ≤ x.2.1 then (e.1, within x.2.1 (x.2.1 / 20) e.2.1, within x.2.2 (2 / 360) (x.2.2 + (Elem.unit (e.2.2 - x.2.2 + 1 / 2) - 1 / 2)))
          else e
        | none => e
      { f := if okF then within t.f (if ambient then max (5 / 1000) (t.f / 50) else max (2 / 1000) (t.f / 200)) m.f else m.f
        zeta := if okZ then within t.zeta (if ambient then 15 / 1000 else 5 / 1000) m.zeta else m.zeta
        aRef := if okF || okZ then within t.aRef (t.aRef / 20) m.aRef else m.aRef
        shape := if okF || okZ then m.shape.map entry else m.shape }

end Sys2Proof.Machine
end

