-- ==== Sys2Proof/Machine/OscillationOps.lean ====
section
/-! DEFINITION. Operations of the oscillation engine (chapter 08): sets and their signals, window samples, tracks, alarms and forced records. -/

namespace Sys2Proof.Machine

def State.setOsc (s : State) (f : OscPart → OscPart) : State := { s with osc := f s.osc }

/-- An oscillation counter of Table 8-9 by its position. -/
def State.oscCount (s : State) (i n : Nat) : State := s.count (Reg.OSC_CNT i) n

/-! ### Sets (R245, R246) -/

def State.oset (s : State) (i : Nat) : OscSet := (s.osc.sets[i]?).getD stoppedSet

def State.updSet (s : State) (i : Nat) (f : OscSet → OscSet) : State := s.setOsc (fun a => { a with sets := updAt a.sets i f })

/-- Fo in samples/s: codes 5 to 7 are taken as 1. -/
def foOf (code : Nat) : Nat :=
  match code with
  | 0 => 20
  | 2 => 30
  | 3 => 40
  | 4 => 50
  | _ => 25

/-- The words of a set, at offsets 0x00 to 0x7C. -/
def State.oscWords (s : State) (i : Nat) : List Word := (upto 32).map (fun w => s.reg (Reg.OSC_SET_CTL i + 4 * w))

/-- A word of an update's set by its offset. -/
def OscUpdate.w (u : OscUpdate) (off : Nat) : Word := (u.words[off / 4]?).getD 0#32

def OscUpdate.fo (u : OscUpdate) : Nat := foOf (fld (u.w 0) 14 12)
def OscUpdate.win (u : OscUpdate) : Nat := clamp 10 600 (fld (u.w 4) 9 0)
def OscUpdate.minValid (u : OscUpdate) : Nat := clamp 50 100 (fld (u.w 4) 22 16)
def OscUpdate.band (u : OscUpdate) (b : Nat) : Bool := bit (u.w 0) (24 + b)

/-- The model order: an odd order is the next lower even one; 2 to 24 (R246). -/
def OscUpdate.order (u : OscUpdate) : Nat := let n := fld (u.w 0) 20 16; clamp 2 24 (n - n % 2)

/-- The cores of a set: the first and how many. -/
def State.cores (s : State) (i : Nat) : Nat × Nat := (s.rf (Reg.OSC_SET_CORES i) 7 0, min 256 (s.rf (Reg.OSC_SET_CORES i) 16 8))

/-- Whether a core lies in a set's range. -/
def State.hasCore (s : State) (i c : Nat) : Bool := let r := s.cores i; decide (r.1 ≤ c) && decide (c < r.1 + r.2)

/-! ### Signals (R247, R249) -/

/-- The power-up value of a signal word: scale 1.0. -/
def sigDefault (key : Nat) : Word := if key % 4 = 2 then 0x3F800000#32 else 0#32

/-- The power-up value of a branch word: scale 3.0. -/
def branchDefault (key : Nat) : Word := if key % 4 = 3 then 0x40400000#32 else 0#32

/-- Word `w` of signal slot `i` (core × 64 + slot). -/
def State.sig (s : State) (i w : Nat) : Word := fetch sigDefault s.osc.signals (4 * i + w)

/-- Word `w` of a branch entry. -/
def branchWord (l : List (Nat × Word)) (i w : Nat) : Word := fetch branchDefault l (4 * i + w)

/-- Whether a signal word describes a signal in use: enabled, and of a kind that is not reserved. -/
def sigOn (w0 : Word) : Bool := bit w0 31 && decide (fld w0 30 28 < 5)

/-- Whether a kind takes a second channel. -/
def twoChans (kind : Nat) : Bool := kind == 1 || kind == 3 || kind == 4

/-- The channels of a signal. -/
def sigChans (w0 w1 : Word) : List Nat := fld w0 17 0 :: (if twoChans (fld w0 30 28) then [fld w1 17 0] else [])

/-- The slots in use of a set, the reference first; a later core's slot 0 is a copy of it. -/
def State.setSlots (s : State) (i : Nat) : List Nat :=
  let r := s.cores i
  (upto (64 * r.2)).map (fun n => 64 * r.1 + n) |>.filter (fun n => sigOn (s.sig n 0))

/-- The distinct signals of a set: the reference in slot 0 of its first core, and every other slot; slot 0 of a later core is a copy (R247). -/
def State.ownSlots (s : State) (i : Nat) : List Nat := (s.setSlots i).filter (fun n => n % 64 != 0 || n == 64 * (s.cores i).1)

/-- The channels that a set uses for its signals. -/
def State.setChans (s : State) (i : Nat) : List Nat := (s.setSlots i).flatMap (fun n => sigChans (s.sig n 0) (s.sig n 1))

/-- The groups that feed a set (R250). -/
def State.feeding (s : State) (i : Nat) : List Nat :=
  ((s.setChans i).filterMap s.chanGroup).foldl (fun l g => if l.contains g then l else l ++ [g]) []

/-- Whether a phasor channel is of a voltage (0) or of a current (1): by the type of its estimation input (Table 5-17), or, for a channel of a PMU,
by the top byte of its PHUNIT word (PRESUMED, assumption 117: C37.118.2). -/
def State.isPhasorOf (s : State) (ty c : Nat) : Bool :=
  s.chanType c == some .phasor &&
  (if estimatedBase ≤ c then fld (s.pw 1 ((c - estimatedBase) % 8192) 1) 1 0 == ty
   else match lookup s.ing.scales c with
     | some x => fld x.scale 31 24 == ty
     | none => false)

/-- Whether the channel at place `j` of a signal is of the type Table 8-2 asks of its kind. -/
def State.sigFits (s : State) (kind j c : Nat) : Bool :=
  match kind with
  | 2 => (match s.chanType c with
    | some t => t != .phasor && t != .digital
    | none => false)
  | 0 => s.chanType c == some .phasor
  | 1 => s.chanType c == some .phasor
  | _ => s.isPhasorOf j c

/-- Whether a signal names a channel of the wrong type, or one of no group (R249, OSC_CHAN). -/
def State.sigBad (s : State) (w0 w1 : Word) : Bool :=
  sigOn w0 && ((upto 2).zip (sigChans w0 w1)).any (fun p => (s.chanGroup p.2).isNone || !s.sigFits (fld w0 30 28) p.1 p.2)

/-! ### Input samples (R252, R253) -/

/-- The input of a signal at an instant: its value before scaling where it is usable, with its flags. -/
structure SigIn where
  val      : Rat
  held     : Bool
  degraded : Bool
  injected : Bool
deriving DecidableEq, Repr

/-- The record of a channel at instant number `k` of rate `fr`. -/
def State.oscRec (s : State) (c fr k : Nat) : Option OscIn :=
  match s.chanGroup c with
  | some g =>
    let f := s.grpFr g
    if (k * f) % max 1 fr = 0 then ((lookup s.osc.hist c).getD []).find? (fun r => r.k == k * f / max 1 fr) else none
  | none => none

/-- A value formed from two channels' records, by the kinds of Table 8-2 and, for a branch, 5 for the angle of a voltage in rad and 6 for ln |V|
(R270); an angle difference is in degrees. None where it is not finite. -/
def sigValue (kind : Nat) (a b : OscIn) : Option Rat :=
  let ar := F32.toRat a.w0
  let ai := F32.toRat a.w1
  let br := F32.toRat b.w0
  let bi := F32.toRat b.w1
  let ok := (if kind = 2 then [a.w0] else if twoChans kind then [a.w0, a.w1, b.w0, b.w1] else [a.w0, a.w1]).all F32.isFinite
  if !ok then none
  else match kind with
    | 0 => some (Elem.sqrt (ar * ar + ai * ai))
    | 1 => some (360 * wrapTurn (Elem.arg ar ai - Elem.arg br bi))
    | 2 => some ar
    | 3 => some (ar * br + ai * bi)
    | 4 => some (ai * br - ar * bi)
    | 5 => some (Elem.rad (Elem.arg ar ai))
    | _ => if ar = 0 && ai = 0 then none else some (Elem.ln (ar * ar + ai * ai) / 2)

/-- What a kind of value is unwrapped by from sample to sample: a turn, for angles. -/
def sigTurn (kind : Nat) : Option Rat := if kind = 1 then some 360 else if kind = 5 then some (Elem.rad 1) else none

/-- The inputs of a signal over instants `ks` of rate `fr`, oldest first: an unusable input is held at the last usable value, zero before
there is one; angles are unwrapped from sample to sample. -/
def State.sigInputs (s : State) (kind chA chB fr : Nat) : Rat → List Nat → List SigIn
  | _, [] => []
  | last, k :: ks =>
    let a := s.oscRec chA fr k
    let b := if twoChans kind then s.oscRec chB fr k else a
    let v := match a, b with
      | some x, some y => if x.usable && y.usable then sigValue kind x y else none
      | _, _ => none
    let val := match v, sigTurn kind with
      | some x, some t => last + t * wrapTurn ((x - last) / t)
      | some x, none => x
      | none, _ => last
    let flag (f : OscIn → Bool) : Bool := (a.map f).getD false || (b.map f).getD false
    ⟨val, v.isNone, flag OscIn.degraded, flag OscIn.injected⟩ :: State.sigInputs s kind chA chB fr val ks

/-- A tap of the decimation filter of rate ratio `r`: symmetric about its centre, which is what a linear phase asks, and with a gain of one at zero
frequency, so that it passes the low frequencies (R253). The other taps are not given. -/
def decimTap (r i : Nat) : Rat :=
  if i = 4 * r then 1 - 2 * sumRat ((upto (4 * r)).map (Config.decimTap r)) else Config.decimTap r (min i (8 * r - i))

/-- A decimated sample: the filter over its span of inputs, held where any of them is (R253). -/
def decimate (r : Nat) (scale : Rat) (span : List SigIn) : SigIn :=
  ⟨F32.toRat (F32.conv (scale * (if r = 1 then (span.map SigIn.val).foldl (· + ·) 0
      else ((upto span.length).zip span).foldl (fun x p => x + decimTap r p.1 * p.2.val) 0))),
    span.any SigIn.held, span.any SigIn.degraded, span.any SigIn.injected⟩

/-- The rate at which a signal's inputs are taken: that of its channels' group, or for channels of two groups the largest rate whose instants both
have. -/
def State.sigRate (s : State) (kind chA chB fo : Nat) : Nat :=
  let rate (c : Nat) : Nat := match s.chanGroup c with
    | some g => s.grpFr g
    | none => fo
  if twoChans kind then Nat.gcd (rate chA) (rate chB) else rate chA

/-- The number that a scale word stands for. -/
def scaleOf (w : Word) : Rat := if F32.isFinite w then F32.toRat w else Config.nonNumber w

/-- The decimated samples of a signal for instants `lo` to `hi` of rate `fo`, with nothing before the restart. -/
def State.samplesOf (s : State) (kind chA chB : Nat) (scale : Rat) (fo lo hi k0 : Nat) : List SigIn :=
  let fr := s.sigRate kind chA chB fo
  let r := max 1 (fr / fo)
  let half := if r = 1 then 0 else 4 * r
  let first := k0 * r
  let ins := s.sigInputs kind chA chB fr 0 ((upto (hi * r + half + 1 - first)).map (fun n => first + n))
  (upto (hi + 1 - lo)).map (fun n =>
    decimate r scale ((upto (2 * half + 1)).map (fun j =>
      let at_ := (lo + n) * r + j
      if at_ < first + half then ⟨0, true, false, false⟩ else (ins[at_ - half - first]?).getD ⟨0, true, false, false⟩)))

/-- The decimated samples of a slot. -/
def State.sigSamples (s : State) (slot fo lo hi k0 : Nat) : List SigIn :=
  s.samplesOf (fld (s.sig slot 0) 30 28) (fld (s.sig slot 0) 17 0) (fld (s.sig slot 1) 17 0) (scaleOf (s.sig slot 2)) fo lo hi k0

/-! ### Modes and tracks (R260 to R262) -/

/-- A mode merged from the cores' candidates. -/
structure OscMode where
  f     : Rat
  zeta  : Rat
  aRef  : Rat
  shape : List ShapeEntry
deriving DecidableEq, Repr

/-- The band of a frequency in Hz: a boundary belongs to the higher band. -/
def bandOf (f : Rat) : Option Nat :=
  if f < 1 / 100 then none else if f < 1 / 10 then some 0 else if f < 1 then some 1 else if f ≤ 5 then some 2 else none

/-- The tolerance of R261 for two frequencies. -/
def freqTol (a b : Rat) : Rat := max (2 / 1000) (3 / 100 * (if a < b then a else b))

def rabs (x : Rat) : Rat := if x < 0 then -x else x

/-- Candidates merged into one mode: frequency and damping weighted by reference amplitude, the amplitude a mean, the shapes joined, the
reference 1 at 0° and its copies in later cores left out. -/
def mergeModes (ref : Nat) (l : List OscMode) : OscMode :=
  let mean (f : OscMode → Rat) : Rat := match l with
    | [m] => f m
    | _ => quot (sumRat (l.map (fun m => f m * m.aRef))) (sumRat (l.map OscMode.aRef))
  ⟨mean OscMode.f, mean OscMode.zeta, meanOf (l.map OscMode.aRef),
    ⟨ref, 1, 0, true⟩ :: (l.flatMap OscMode.shape).filter (fun e => e.slot % 64 != 0)⟩

/-- Candidates sorted by frequency, gathered while they lie within the tolerance of the lowest of their run. -/
def gather (ref : Nat) : List OscMode → List OscMode → List OscMode
  | run, [] => if run.isEmpty then [] else [mergeModes ref run.reverse]
  | run, m :: rest =>
    match run.getLast? with
    | none => gather ref [m] rest
    | some lo => if m.f - lo.f ≤ freqTol m.f lo.f then gather ref (m :: run) rest else mergeModes ref run.reverse :: gather ref [m] rest

/-- The track of a band nearest to a frequency within the tolerance. -/
def nearestTrack (l : List (Nat × OscTrack)) (band : Nat) (f : Rat) : Option Nat :=
  (l.foldl (fun (b : Option (Nat × Rat)) p =>
    let d := rabs (p.2.f - f)
    if p.2.band == band && decide (d ≤ freqTol p.2.f f) then (match b with
      | some (_, e) => if d < e then some (p.1, d) else b
      | none => some (p.1, d)) else b) none).map (·.1)

/-- A track continued by a mode. -/
def OscTrack.continue (t : OscTrack) (m : OscMode) : OscTrack :=
  { t with f := m.f, zeta := m.zeta, aRef := m.aRef, shape := m.shape, missed := 0 }

def newTrack (band : Nat) (m : OscMode) : OscTrack :=
  { band := band, f := m.f, zeta := m.zeta, aRef := m.aRef, shape := m.shape, missed := 0, nDamp := 0, nAmp := 0, forced := false, run := 0,
    since := 0, source := none }

/-- Each mode continues the nearest track not yet continued; those that match none are returned. -/
def continueTracks : List OscMode → List (Nat × OscTrack) → List (Nat × OscTrack) → List (Nat × OscTrack) × List (Nat × OscTrack) × List OscMode
  | [], idle, done => (idle, done, [])
  | m :: ms, idle, done =>
    match (bandOf m.f).bind (fun b => nearestTrack idle b m.f) with
    | some n => match lookup idle n with
      | some t => continueTracks ms (idle.filter (fun p => p.1 != n)) (done ++ [(n, t.continue m)])
      | none => continueTracks ms idle done
    | none => let r := continueTracks ms idle done; (r.1, r.2.1, m :: r.2.2)

/-- New tracks with the lowest free numbers, up to 32. -/
def openTracks : List OscMode → List (Nat × OscTrack) → List (Nat × OscTrack)
  | [], l => l
  | m :: ms, l =>
    match (upto 32).find? (fun n => !l.any (fun p => p.1 == n)), bandOf m.f with
    | some n, some b => openTracks ms (l ++ [(n, newTrack b m)])
    | _, _ => openTracks ms l

/-! ### Alarms (R264 to R268, R273) -/

/-- The thresholds of a band in an update (R265). -/
structure OscThr where
  noise : Rat
  zTh   : Word
  hyst  : Word
  aTh   : Quantity
  gate  : Rat
  nDamp : Nat
  nAmp  : Nat
  nClr  : Nat
deriving DecidableEq, Repr

/-- The smaller and the larger of an amplitude and a limit word; a limit that is not a number does not bound. -/
def capWord (q : Quantity) (w : Word) (low : Bool) : Quantity :=
  if F32.isNaN w then q
  else match q with
    | .val x =>
      if F32.isInf w then (if bit w 31 = low then q else if low then .pinf else .ninf)
      else if low then .val (max x (F32.toRat w)) else .val (if F32.toRat w < x then F32.toRat w else x)
    | .pinf => if low then q else if F32.isInf w then (if bit w 31 then .ninf else q) else .val (F32.toRat w)
    | q => q

def OscUpdate.thr (u : OscUpdate) (b : Nat) (noise : Rat) : OscThr :=
  let o := 0x20 * b
  let k := u.w (0x28 + o)
  let pers := u.w (0x20 + o)
  let a := capWord (capWord (.val ((fld k 7 0 : Rat) / 4 * noise)) (u.w (0x18 + o)) true) (u.w (0x1C + o)) false
  ⟨noise, u.w (0x10 + o), u.w (0x14 + o), a, (fld k 15 8 : Rat) / 4 * noise, max 1 (fld pers 9 0), max 1 (fld pers 19 10), max 1 (fld pers 29 20)⟩

/-- Whether an amplitude exceeds a threshold, and whether it lies below a share of it. -/
def exceeds (x : Rat) : Quantity → Bool
  | .val v => decide (v < x)
  | .ninf => true
  | _ => false

def belowShare (x share : Rat) : Quantity → Bool
  | .val v => decide (x < share * v)
  | .pinf => true
  | _ => false

/-- The raise condition of Table 8-4. -/
def OscThr.raise (c : OscThr) (k : OscKind) (t : OscTrack) : Bool :=
  match k with
  | .damping => !t.forced && belowWord (.val t.zeta) c.zTh && decide (c.gate < t.aRef)
  | .amplitude => exceeds t.aRef c.aTh
  | .forced => t.forced

/-- Whether a number is at least the sum of two words: of two opposite infinities, or with one that is not a number, there is none. -/
def reachesSum (x : Rat) (a b : Word) : Bool :=
  if F32.isNaN a || F32.isNaN b then false
  else if F32.isInf a && F32.isInf b then bit a 31 && bit b 31
  else if F32.isInf a then bit a 31
  else if F32.isInf b then bit b 31
  else decide (F32.toRat a + F32.toRat b ≤ x)

/-- The clear condition of Table 8-4. -/
def OscThr.clear (c : OscThr) (k : OscKind) (t : OscTrack) : Bool :=
  match k with
  | .damping => reachesSum t.zeta c.zTh c.hyst
  | .amplitude => belowShare t.aRef (8 / 10) c.aTh
  | .forced => !t.forced

/-- Atomizer's key of an oscillation alarm. -/
def oscKey (set band track : Nat) : Nat := set * 2048 + band * 32 + track

/-- The keys with an active alarm of a set, with the flags of the first. -/
def State.oscKeys (s : State) (i : Nat) : List (Nat × Bool × Bool) :=
  (s.oset i).alarms.foldl (fun l a =>
    let k := oscKey i a.band a.key
    if l.any (fun p => p.1 == k) then l else l ++ [(k, a.degraded, a.injected)]) []

/-- The alarms of every set as Atomizer is told of them anew after its reset. -/
def State.oscReported (s : State) : List AlarmChange :=
  (upto 32).flatMap (fun i => (s.oscKeys i).map (fun p => ⟨2, p.1, 2, p.2.1, p.2.2, none⟩))

/-- An alarm's raise or clear: counted, shown, and an event of class 18, marked INJECTED where the alarm is. -/
def State.noteOsc (s : State) (i : Nat) (a : OscAlarm) (raised : Bool) : State :=
  let s1 := (if raised then s.oscCount 6 1 else s).status Reg.OSC_STAT 0
  s1.raiseAs a.injected 18 (rabs a.aRef) [word i, word a.band, word a.track, F32.conv a.f, F32.conv a.zeta, if raised then 2#32 else 0#32]

/-- The alarms of a set replaced by those kept and those raised: what was raised, and what has gone with its cause where it has one, is noted, and
the published states that change reach Atomizer as one batch of instant `t`. -/
def State.setOscAlarms (s : State) (i : Nat) (t : Instant) (kept raised : List OscAlarm) (gone : List (OscAlarm × Option ClearCause)) : State :=
  let before := s.oscKeys i
  let s1 := s.updSet i (fun x => { x with alarms := kept ++ raised })
  let after := s1.oscKeys i
  let s2 := gone.foldl (fun s p => s.noteOsc i p.1 false) s1
  let s3 := raised.foldl (fun s a => s.noteOsc i a true) s2
  let cause (k : Nat) : Option ClearCause := (gone.find? (fun p => oscKey i p.1.band p.1.key == k)).bind (·.2)
  s3.batch 32 t ((before.filter (fun p => !after.any (fun q => q.1 == p.1))).map (fun p => ⟨2, p.1, 0, p.2.1, p.2.2, cause p.1⟩) ++
    (after.filter (fun p => !before.any (fun q => q.1 == p.1))).map (fun p => ⟨2, p.1, 2, p.2.1, p.2.2, none⟩))

/-! ### One update (R254 to R271) -/

/-- A window with its mean removed, and for an angle difference its least-squares linear trend too (R256). -/
def centred (trend : Bool) (l : List Rat) : List Rat :=
  let n : Rat := l.length
  let mean := meanOf l
  if !trend || l.length < 2 then l.map (fun x => x - mean)
  else
    let mid := (n - 1) / 2
    let idx := (upto l.length).map (fun (k : Nat) => (k : Rat) - mid)
    let slope := sumRat ((idx.zip l).map (fun p => p.1 * (p.2 - mean))) / sumRat (idx.map (fun k => k * k))
    (idx.zip l).map (fun p => p.2 - mean - slope * p.1)

/-- The forced test of R269 on a track: how many distinct signals pass, and the envelope of the reference. -/
def forcedTest (n : Nat) (u : OscUpdate) (t : OscTrack) (ref : List Rat) (sigs : List (List Rat)) : Bool :=
  let w := u.w 0x74
  let seg := clamp 10 240 (fld w 31 24) * u.fo
  let cut (l : List Rat) : List Rat := l.drop (l.length - seg)
  let hits := (sigs.filter (fun x =>
    atLeastDb (peakToFloor u.fo t.band t.f (cut x)) (fld w 5 0) &&
    decide ((fld w 14 8 : Rat) ≤ 100 * coherenceAt u.fo t.f (cut ref) (cut x)))).length
  decide (t.zeta < 5 / 100) && decide (max 1 (fld (u.w 0x78) 19 16) ≤ hits) &&
    decide (10000 * envelopeCv2 n u.fo t.f (cut ref) ≤ (fld w 22 16 : Rat) * (fld w 22 16 : Rat))

/-- The class of a continued track after update `u` (R269). -/
def classTrack (u pers : Nat) (pass : Bool) (t : OscTrack) : OscTrack :=
  if 5 / 100 ≤ t.zeta then { t with forced := false, run := 0 }
  else if pass = t.forced then { t with run := 0 }
  else if pers ≤ t.run + 1 then { t with forced := pass, run := 0, since := u }
  else { t with run := t.run + 1 }

/-- The persistence counters of a continued track. -/
def countTrack (c : OscThr) (t : OscTrack) : OscTrack :=
  { t with nDamp := if c.raise .damping t then t.nDamp + 1 else 0, nAmp := if c.raise .amplitude t then t.nAmp + 1 else 0 }

/-- What an update makes of an active alarm: it stays, or it clears, with the cause of an administrative clear. -/
inductive OscFate where
  | stays (a : OscAlarm)
  | clears (cause : Option ClearCause)
deriving DecidableEq, Repr

/-- The alarms of a set after an update: those of tracks that are still there are brought up, cleared where their condition has held, or for
DAMPING where the track is FORCED; one whose track has closed clears, even where a new track has its number (`held` says which numbers have gone
on); a STALE one is taken over where its band has results (R268, R273). -/
def stepAlarm (thr : Nat → OscThr) (results held fresh : Nat → Bool) (tracks : List (Nat × OscTrack)) (deg inj : Bool) (a : OscAlarm) : OscFate :=
  if a.stale then
    if !results a.band then .stays a
    else match (nearestTrack tracks a.band a.f).bind (fun n => (lookup tracks n).map (fun t => (n, t))) with
      | some (n, t) =>
        if (thr a.band).raise a.kind t then
          .stays { a with track := n, f := t.f, zeta := t.zeta, aRef := t.aRef, degraded := deg, injected := inj, stale := false, nClr := 0 }
        else .clears (some .restart)
      | none => .clears (some .restart)
  else
    match (if held a.track then lookup tracks a.track else none) with
    | none => .clears (some .trackClosed)
    | some t =>
      if !fresh a.track then .stays { a with nClr := 0 }
      else
        let n := if (thr a.band).clear a.kind t then a.nClr + 1 else 0
        if (a.kind = .damping && t.forced) || (a.kind = .forced && !t.forced) || (thr a.band).nClr ≤ n then .clears none
        else .stays { a with f := t.f, zeta := t.zeta, aRef := t.aRef, degraded := deg, injected := inj, nClr := n }

/-- The alarms that stay, and those that clear with their causes. -/
def keptAlarms (f : OscAlarm → OscFate) (l : List OscAlarm) : List OscAlarm :=
  l.filterMap (fun a => match f a with
    | .stays b => some b
    | .clears _ => none)

def goneAlarms (f : OscAlarm → OscFate) (l : List OscAlarm) : List (OscAlarm × Option ClearCause) :=
  l.filterMap (fun a => match f a with
    | .stays _ => none
    | .clears c => some (a, c))

/-- The alarms that the tracks of an update raise. -/
def raisedBy (thr : Nat → OscThr) (fresh : Nat → Bool) (active : List OscAlarm) (tracks : List (Nat × OscTrack)) (deg inj : Bool) : List OscAlarm :=
  tracks.flatMap (fun p =>
    let t := p.2
    let c := thr t.band
    let due (k : OscKind) : Bool := match k with
      | .damping => decide (c.nDamp ≤ t.nDamp) && !t.forced
      | .amplitude => decide (c.nAmp ≤ t.nAmp)
      | .forced => t.forced
    ([OscKind.damping, .amplitude, .forced].filter (fun k => fresh p.1 && due k &&
      !active.any (fun a => a.kind == k && a.band == t.band && a.track == p.1))).map (fun k =>
        ⟨k, t.band, p.1, p.1, t.f, t.zeta, t.aRef, deg, inj, 0, false⟩))

/-- DEF_UPDATE for one track (R270) from its branches' flows. -/
def forcedRecOf (flows : List (Nat × Rat)) (br : Nat → Nat → Word) : ForcedRec :=
  let buses := (flows.flatMap (fun p => [fld (br p.1 2) 15 0, fld (br p.1 2) 31 16])).foldl (fun (l : List Nat) b => if l.contains b then l else l ++ [b]) []
  let out (k : Nat) : Rat := sumRat ((flows.filter (fun p => fld (br p.1 2) 15 0 == k)).map (·.2)) - sumRat ((flows.filter (fun p => fld (br p.1 2) 31 16 == k)).map (·.2))
  let cross := flows.filter (fun p => fld (br p.1 1) 23 20 != fld (br p.1 1) 27 24)
  let outA (a : Nat) : Rat := sumRat ((cross.filter (fun p => fld (br p.1 1) 23 20 == a)).map (·.2)) - sumRat ((cross.filter (fun p => fld (br p.1 1) 27 24 == a)).map (·.2))
  let best (l : List Nat) (f : Nat → Rat) : Nat := (l.foldl (fun (b : Option Nat) k => match b with
    | some x => if f x < f k then some k else b
    | none => some k) none).getD 0
  let bus := best buses out
  let pos := sumRat ((buses.map out).filter (fun x => decide (0 < x)))
  ⟨bus, best (upto 16) outA, quot (out bus) pos, flows, 0⟩

/-- The flow of a branch about a frequency (DEF_UPDATE) over decimated instants `lo` to `hi`: the slope of W, from the band-passed P, Q, angle and
ln |V| of the branch. The instant before `lo` is the first of W's differences where the set has it. -/
def State.branchFlow (s : State) (n : Nat) (u : OscUpdate) (f : Rat) (b lo hi k0 : Nat) : Rat :=
  let v := fld (branchWord u.branches b 0) 17 0
  let i := fld (branchWord u.branches b 1) 17 0
  let from_ := max k0 (lo - 1)
  let col (kind : Nat) (scale : Rat) : List Rat :=
    bandPassed n u.fo (nearBand f) ((s.samplesOf kind v i scale u.fo from_ hi k0).map SigIn.val)
  let sc := scaleOf (branchWord u.branches b 3)
  let rows := (col 3 sc).zip ((col 4 sc).zip ((col 5 1).zip (col 6 1)))
  let rows1 := if from_ = lo then rows.take 1 ++ rows else rows
  slopeOf u.fo (energies 0 rows1)

/-- The forced records of a set's FORCED tracks, served in turn within 4,096 pairs of branch and track (R271). -/
def State.defUpdate (s : State) (i : Nat) (u : OscUpdate) (hi k0 : Nat) (tracks : List (Nat × OscTrack)) : List (Nat × OscTrack) × State :=
  let mine := (upto 4096).filter (fun b => bit (branchWord u.branches b 0) 31 && fld (branchWord u.branches b 0) 28 24 == i)
  let forced := (tracks.filter (fun p => p.2.forced)).map (·.1)
  if !s.rb Reg.OSC_CTL 1 || forced.isEmpty then (tracks, s)
  else
    let room := if mine.isEmpty then forced.length else 4096 / mine.length
    let start := (s.oset i).defNext % forced.length
    let turn := forced.drop start ++ forced.take start
    let served := turn.take room
    let upd (p : Nat × OscTrack) : Nat × OscTrack :=
      if served.contains p.1 then
        let span := min (clamp 5 120 (fld (u.w 0x78) 14 8) * u.fo) ((u.u - p.2.since) * u.fo / 10 + 1)
        let flows := mine.map (fun b => (b, s.branchFlow s.free u p.2.f b (max k0 (hi + 1 - span)) hi k0))
        (p.1, { p.2 with source := some (forcedRecOf flows (branchWord u.branches)) })
      else p
    (tracks.map upd, ((s.nextFree).oscCount 7 (forced.length - served.length)).updSet i (fun x => { x with defNext := start + served.length }))

/-- The minimum window of a band in s (Table 8-1). -/
def bandMin (b : Nat) : Nat := if b = 0 then 500 else if b = 1 then 50 else 10

/-- The window of an update by its first and last decimated instant, and the first since the set's restart (R257, R272). -/
structure OscWindow where
  lo : Nat
  hi : Nat
  k0 : Nat
deriving DecidableEq, Repr

def OscWindow.size (w : OscWindow) : Nat := w.hi + 1 - w.lo

def State.oscWindow (s : State) (i : Nat) (u : OscUpdate) : OscWindow :=
  let k0 := (s.oset i).since * u.fo / sec 1 + 1
  let hi := u.u * ms 100 * u.fo / sec 1 - 4
  ⟨max k0 (hi + 1 - u.win * u.fo), hi, k0⟩

/-- Whether band `b` produces results: enabled, with the minimum window of the band and a quarter of the set's window filled (R272). -/
def OscUpdate.has (u : OscUpdate) (n b : Nat) : Bool :=
  u.band b && decide (bandMin b * u.fo ≤ n) && decide (u.win * u.fo ≤ 4 * n)

/-- The share of a signal's samples that are not held, in percent, and whether it is below min_valid (R254); of no samples there is no share. -/
def validPct (l : List SigIn) : Nat := 100 * (l.filter (fun y => !y.held)).length / max 1 l.length

def OscUpdate.short (u : OscUpdate) (l : List SigIn) : Bool := decide (100 * (l.filter (fun y => !y.held)).length < u.minValid * l.length)

/-- The slots that an update excludes. -/
def OscUpdate.excluded (u : OscUpdate) (data : List (Nat × List SigIn)) : List Nat := (data.filter (fun p => u.short p.2)).map (·.1)

/-- An update counted, with what it finds of its signals (R254): validity and exclusions, of which the reference's copies count once, the shape
entries of an excluded signal invalid, and every forced record one update older (R271). -/
def State.noteSignals (s : State) (i : Nat) (u : OscUpdate) (data : List (Nat × List SigIn)) : State :=
  let excl := u.excluded data
  let own := excl.filter (fun n => (s.ownSlots i).contains n)
  let aged (t : OscTrack) : OscTrack := { t with
    source := t.source.map (fun r => { r with age := r.age + 1 })
    shape := t.shape.map (fun e => if excl.contains e.slot then { e with valid := false } else e) }
  let s1 := ((s.oscCount 0 1).oscCount 3 own.length).updSet i (fun y => { y with
    lastU := u.u, excl := excl, valid := data.map (fun p => (p.1, validPct p.2)), tracks := y.tracks.map (fun p => (p.1, aged p.2)) })
  if own.isEmpty then s1 else s1.status Reg.OSC_STAT 2

/-- The noise floors after an update with results (R264): the first rms after a restart initialises a floor, and an active alarm of the band
freezes it. -/
def OscSet.floors (x : OscSet) (n : Nat) (u : OscUpdate) (size : Nat) (ref : List Rat) : List (Option Word) :=
  let tau : Rat := clamp 60 3600 (fld (u.w 0x70) 11 0)
  (upto 3).map (fun b =>
    let old := (x.noise[b]?).getD none
    if !u.has size b then old
    else
      let xb := rmsOf (bandPassed n u.fo (bandEdges b) (ref.drop (ref.length - 10 * u.fo)))
      match old with
      | none => some (F32.conv xb)
      | some w => if x.alarms.any (fun a => a.band == b) then old
          else some (F32.conv (F32.toRat w + (xb - F32.toRat w) * (1 / 10) / tau)))

/-- The candidate modes of a core, held to Table 8-3 (R260, R263). -/
def coreModes (n : Nat) (u : OscUpdate) (noise : Nat → Rat) (mine : List (Nat × List SigIn × List Rat)) : List OscMode :=
  if mine.isEmpty then []
  else
    let wins := mine.map (fun p => p.2.2)
    let size := (wins.headD []).length
    let exact := mine.all (fun p => p.2.1.all (fun y => !y.held))
    let l := Config.oscModes n u.order u.fo wins
    ((upto l.length).zip l).map (fun p =>
      let truth := Config.oscTruth n u.order u.fo wins p.1
      let nb := match truth.bind (fun t => bandOf t.1.f) with
        | some b => noise b
        | none => 0
      let m := holdMode ((size : Rat) / (u.fo : Rat)) exact nb truth p.2
      ⟨m.f, m.zeta, m.aRef, m.shape.filterMap (fun e => (mine[e.1]?).map (fun q =>
        let cs := Elem.cosSin e.2.2
        ⟨q.1, e.2.1 * cs.1, e.2.1 * cs.2, true⟩))⟩)

/-- The tracks after an update's modes: those continued, those not, and new ones with the lowest free numbers, of which the largest amplitudes
have room (R262). -/
structure TrackStep where
  idle : List (Nat × OscTrack)
  done : List (Nat × OscTrack)
  live : List (Nat × OscTrack)
  lost : Nat
deriving DecidableEq, Repr

/-- The shape of a continued track with the entries of signals excluded at this update, which are invalid (R254). -/
def OscTrack.withExcluded (t : OscTrack) (excl : List Nat) : OscTrack :=
  { t with shape := t.shape ++ (excl.filter (fun n => !t.shape.any (fun e => e.slot == n))).map (fun n => ⟨n, 0, 0, false⟩) }

def stepTracks (modes : List OscMode) (excl : List Nat) (tracks : List (Nat × OscTrack)) : TrackStep :=
  let ct := continueTracks modes tracks []
  let idle := (ct.1.map (fun p => (p.1, { p.2 with missed := p.2.missed + 1, nDamp := 0, nAmp := 0, run := 0 }))).filter (fun p => decide (p.2.missed < 50))
  let done := ct.2.1.map (fun p => (p.1, p.2.withExcluded excl))
  let news := sortBy (fun a b => decide (b.aRef ≤ a.aRef)) ct.2.2
  let room := 32 - (idle.length + done.length)
  let opened := openTracks (news.take room) (idle ++ done)
  let live := sortBy (fun a b => decide (a.1 ≤ b.1)) (opened.map (fun p =>
    if idle.any (fun q => q.1 == p.1) || done.any (fun q => q.1 == p.1) then p else (p.1, p.2.withExcluded excl)))
  ⟨idle, done, live, news.length - room⟩

/-- An update that produces results (R256, R260 to R271): floors, modes, tracks, classes, forced records and alarms. -/
def State.oscResults (s : State) (i : Nat) (u : OscUpdate) (w : OscWindow) (data : List (Nat × List SigIn)) : State :=
  let x := s.oset i
  let ref := 64 * (s.cores i).1
  let has := u.has w.size
  let excl := u.excluded data
  let wins := (data.filter (fun p => !excl.contains p.1)).map (fun p => (p.1, p.2, centred (fld (s.sig p.1 0) 30 28 == 1) (p.2.map SigIn.val)))
  let deg := wins.any (fun p => p.2.1.any SigIn.degraded)
  let inj := wins.any (fun p => p.2.1.any SigIn.injected)
  let rv := ((wins.find? (fun p => p.1 == ref)).map (fun p => p.2.2)).getD []
  let noise := x.floors s.free u w.size rv
  let nb (b : Nat) : Rat := (((noise[b]?).getD none).map F32.toRat).getD 0
  let thr (b : Nat) : OscThr := u.thr b (nb b)
  let cores := (upto (s.cores i).2).map (fun c => (s.cores i).1 + c)
  let cands := cores.flatMap (fun c => coreModes s.free u nb (wins.filter (fun p => p.1 / 64 == c)))
  let kept := cands.filter (fun m => decide (m.zeta < (30 / 100 : Rat)) && (match bandOf m.f with
    | some b => has b
    | none => false))
  let st := stepTracks (gather ref [] (sortBy (fun a b => decide (a.f ≤ b.f)) kept)) excl x.tracks
  let fresh (m : Nat) : Bool := !st.idle.any (fun p => p.1 == m)
  let held (m : Nat) : Bool := st.idle.any (fun p => p.1 == m) || st.done.any (fun p => p.1 == m)
  let pers := max 1 (fld (u.w 0x78) 7 0) * 10
  let sigs := (wins.filter (fun p => (s.ownSlots i).contains p.1)).map (fun p => p.2.2)
  let tracks := st.live.map (fun p =>
    if fresh p.1 then (p.1, countTrack (thr p.2.band) (classTrack u.u pers (forcedTest s.free u p.2 rv sigs) p.2)) else p)
  let turned := (tracks.filter (fun p => p.2.forced && !(held p.1 && (match lookup x.tracks p.1 with
    | some t => t.forced
    | none => false)))).length
  let s3 := s.nextFree.oscCount 5 st.lost
  let s4 := if turned = 0 then s3 else s3.status Reg.OSC_STAT 3
  let d := s4.defUpdate i u w.hi w.k0 tracks
  let s5 := d.2.updSet i (fun y => { y with noise := noise, tracks := d.1, ready := true, degraded := deg, injected := inj })
  let fate := stepAlarm thr has held fresh d.1 deg inj
  let keep := keptAlarms fate x.alarms
  s5.setOscAlarms i (u.u * ms 100) keep (raisedBy thr fresh keep d.1 deg inj) (goneAlarms fate x.alarms)

/-- An update's effect on its set (R254 to R271): none but on its signals' validity while its window is empty, and no results where the reference is
excluded or no band has its window. -/
def State.oscUpdate (s : State) (i : Nat) (u : OscUpdate) : State :=
  let w := s.oscWindow i u
  let ref := 64 * (s.cores i).1
  let data := (s.setSlots i).map (fun n => (n, s.sigSamples n u.fo w.lo w.hi w.k0))
  let s1 := s.noteSignals i u data
  if w.size = 0 then s1
  else if (u.excluded data).contains ref || !(s.setSlots i).contains ref then s1.oscCount 4 1
  else if !([0, 1, 2].any (u.has w.size)) then s1
  else s1.oscResults i u w data

/-! ### Restarts (R272, R273) -/

/-- A set restarts at a module time: windows, filters, floors and tracks are cleared, and its alarms are STALE. -/
def State.restartSet (s : State) (at_ : Instant) (i : Nat) : State :=
  if !(s.oset i).run then s
  else (s.updSet i (fun x => { x with
    first := false, since := at_, nextU := at_ / ms 100 + 1, current := none, waiting := none, tracks := [], noise := [none, none, none], ready := false
    alarms := x.alarms.map (fun a => { a with stale := true, nClr := 0 }) })).status Reg.OSC_STAT 4

/-- A step of module time restarts every running set (R272); what the engine has taken belongs to the old epoch. -/
def State.oscTimeStep (s : State) : State :=
  (upto 32).foldl (State.restartSet · s.now) (s.setOsc (fun a => { a with hist := [], last := [] }))

/-- A set stops: its active alarms clear with cause STOP. -/
def State.stopSet (s : State) (i : Nat) : State :=
  if !(s.oset i).run then s
  else (s.setOscAlarms i s.now [] [] ((s.oset i).alarms.map (fun a => (a, some .stop)))).updSet i (fun _ => stoppedSet)

/-- OSC_CTL.en cleared: every set is STOPPED (Table 8-10). -/
def State.stopSets (s : State) : State := (upto 32).foldl State.stopSet s

/-- A reset of the Nose island as the oscillation engine sees it (R272, R275): it stops no set, so the enable and the running sets' own words
stand; what the engine has taken and the updates under way are lost. -/
def State.resetOsc (s : State) : State :=
  let en := s.rb Reg.OSC_CTL 0
  let keep := (upto 32).filter (fun i => (s.oset i).run)
  let words := keep.map (fun i => (i, s.reg (Reg.OSC_SET_CTL i), s.reg (Reg.OSC_SET_WIN i), s.reg (Reg.OSC_SET_CORES i)))
  let s1 := (s.resetRegs (fun a => blockOf a == 8)).setRb Reg.OSC_CTL 0 en
  let s2 := words.foldl (fun s p => ((s.setReg (Reg.OSC_SET_CTL p.1) p.2.1).setReg (Reg.OSC_SET_WIN p.1) p.2.2.1).setReg (Reg.OSC_SET_CORES p.1) p.2.2.2) s1
  s2.setOsc (fun a => { a with hist := [], last := [], sets := a.sets.map (fun x => { x with current := none, waiting := none }) })

/-- The Nose island runs again after a reset: every running set restarts (Table 8-5). -/
def State.resumeOsc (s : State) : State := (upto 32).foldl (State.restartSet · s.now) s

end Sys2Proof.Machine
end

