-- ==== Sys2Proof/Machine/StepOps.lean ====
section
/-! DEFINITION. What the time base does to the other blocks: the consequences of a step of module time (Table 2-6), and the edges and compare
firings that the capture units take from it (R344, R353). -/

namespace Sys2Proof.Machine

/-- What a step finishes in the old epoch: Sillage takes every event on its way and closes every accumulation early (R366). -/
def State.beforeStep (s : State) : State := (if s.runs Isle.sillage then s.closeEpoch else s).pecBeforeStep

/-- The consequences of a step in the new epoch: groups flushed with the ledger, a model's t_eff moved, the estimation chain and the oscillation sets restarted,
captures in progress closed. -/
def State.afterStep (s : State) : State := s.alnTimeStep.islTimeStep.pecTimeStep.oscTimeStep.capStep

/-- The instant of a compare unit's target, by the present time. -/
def State.cmpInstant (s : State) (n : Nat) : Instant :=
  ((s.now / 65536 : Nat) - fineDiff (fineOf s.now) ((s.time.cmpTgt[n]?).getD 0)).toNat * 65536

/-- A firing of a compare unit reaches the capture units: always as an event, and with action 3 as an arming (R353). -/
def State.compareToCapture (s : State) (n : Nat) : State :=
  if !s.runs Isle.capture then s
  else
    let s1 := { s with capIn := s.capIn ++ [.cmp n (s.cmpInstant n)] }
    if s1.rf (Reg.TB_CMP_CTL n) 2 1 != 3 then s1
    else
      let u := n % 4
      if (s1.capUnit u).st == .idle && s1.rb (Reg.CAP_U_CTL u) 5 then (s1.armQuiet u).1 else s1.capCount 7 1

/-- Whether CAP_TRIGIN_CTL selects an edge of a TRIG_IN input (R344): 1 rising, 2 falling, 3 both. -/
def State.edgeSelected (s : State) (n : Nat) (rising : Bool) : Bool := s.rb Reg.CAP_TRIGIN_CTL (if rising then 2 * n else 2 * n + 1)

/-- The level of a TRIG_IN input after an edge (R342). -/
def State.trigLevel (s : State) (n : Nat) (rising : Bool) : State :=
  let b := BitVec.ofNat 4 (2 ^ n)
  { s with cap := { s.cap with trigIn := if rising then s.cap.trigIn ||| b else s.cap.trigIn &&& ~~~b } }

/-- A stamp of a TRIG_IN edge taken by the capture units (R344). -/
def State.trigEdge (s : State) (n : Nat) (rising : Bool) (t : Instant) : State :=
  if s.runs Isle.capture then { s with capIn := s.capIn ++ [.ext n rising t] } else s

end Sys2Proof.Machine
end

