-- ==== Sys2Proof/Machine/Time.lean ====
section
/-! DEFINITION. The meanings of the time base's commands and events (chapter 02). -/

namespace Sys2Proof.Machine

/-! ### Shared by several meanings -/

/-- A pending TIME_RESTEP ends without a step, and its completion reply reports STATE (R55). -/
def State.abandonRestep (s : State) : State :=
  match s.time.restep with
  | some r => (s.setTime (fun t => { t with restep := none })).complete r.session r.seq St.STATE []
  | none => s

/-- Every armed compare unit disarmed with its cancelled flag set (Table 2-6, R71). -/
def State.disarmCompares (s : State) : State :=
  (upto 8).foldl (fun s n =>
    if s.rb (Reg.TB_CMP_CTL n) 0 then (s.setRb (Reg.TB_CMP_CTL n) 0 false).setRb (Reg.TB_CMP_STAT n) 2 true else s) s

/-- A step of module time to `t`, with every consequence of Table 2-6, in epoch order (R46, R48, R56). A suspect run ends as outliers (R50),
and what was stamped in the old module time is measured no more. -/
def State.stepTo (s : State) (t : Instant) : State :=
  let old := s.time.epoch
  let step : Int := (t : Int) - (s.now : Int)
  let s1 := s.beforeStep.endSuspectRun.dropSamples
  let s2 := s1.setTime (fun x => { x with now := t, epoch := x.epoch + 1#32, lead := 0, ppsOutLast := none, todSent := none })
  let s3 := (s2.disarmCompares.afterStep).status Reg.TB_STAT 5
  s3.raise 2 ((step.natAbs : Rat) / 65536) ([old, s3.time.epoch] ++ int64Words (step / 65536) ++ [word s3.time.current])

/-- The source in use is chosen anew (R30, R31); where it changes, a pending TIME_RESTEP ends (R55). Without a qualified phase
source the servo falls to FREERUN before the first-lock step, and to HOLDOVER after it (Table 2-5). -/
def State.reselect (s : State) : State :=
  let old := s.time.current
  let new := s.pickSource
  if new = old then s
  else
    let s1 := (s.abandonRestep).setTime (fun t => { t with current := new, lockRun := 0 })
    if new = 15 then
      match s1.time.servo with
      | .acquire => if s1.time.stepped then s1.enterHoldover old else s1.setServo .freerun
      | .locked => s1.enterHoldover old
      | .discont => s1.enterHoldover old
      | _ => s1
    else
      match s1.time.servo with
      | .freerun => s1.setServo .acquire
      | .holdover => s1.noteHoldover.setServo .acquire
      | _ => s1

/-- A source becomes unqualified (R30). -/
def State.unqualify (s : State) (c : Nat) : State :=
  (s.updSrc c (fun q => { q with run := 0, qualified := false, due := none })).reselect

/-- Valid time delivered by a source (R30): four intervals in a row qualify it, and it stays qualified until three seconds, or three Announce
receipt timeouts of its port, have passed without more. -/
def State.creditSource (s : State) (c : Nat) : State :=
  let q := s.srcQual c
  let follows := decide (s.up ≤ q.last + ms (2 * s.srcIntervalMs c)) && decide (0 < q.run)
  let run := if follows then q.run + 1 else 1
  (s.updSrc c (fun q => { q with
    run := run, qualified := q.qualified || decide (4 ≤ run), last := s.up,
    due := some (s.up + (match s.time.ptp[c]? with
      | some p => 3 * ms (max 1 (p.ds.announceMs * p.ds.receipt))
      | none => sec 3)) })).setTime
    (fun t => { t with ptp := updAt t.ptp c (fun p => { p with missed := 0 }) })

/-! ### Events -/

/-- The deviation of REF_IN from its nominal frequency in ppb, for a count in mHz (R45, TB_SRC_CTL.ref_freq). -/
def State.refPpb (s : State) (milliHz : Nat) : Rat :=
  let nominal : Int := if s.rb Reg.TB_SRC_CTL 28 then 100000000000 else 10000000000
  (((milliHz : Int) - nominal : Int) : Rat) * 1000000000 / (nominal : Rat)

/-- A measurement of REF_IN (R45): within 50 ppm it is valid, and where the servo has no phase to follow it steers the rate. -/
def State.refMeasure (s : State) (milliHz : Nat) : State :=
  let ppb := s.refPpb milliHz
  if -50000 ≤ ppb ∧ ppb ≤ 50000 then
    let s1 := s.creditSource 12
    if (s1.srcQual 12).qualified && s1.refSteers then
      let r := clampInt (-maxRate) maxRate (Config.refRate s1.free ppb.floor s1.time.rate)
      s1.nextFree.setTime (fun t => { t with rate := r })
    else s1
  else s.updSrc 12 (fun q => { q with run := 0, qualified := false, due := none })

/-- The offset of module time from the current phase source, measured (R46, R49 to R53). A measurement that made the source current or
qualified it moves the servo only. -/
def State.takeOffset (s : State) (c : Nat) (wasReady : Bool) (stamp : Instant) (source : Int) (jumped : Bool) : State :=
  let offset : Int := (stamp : Int) - source
  let s3 := s.setTime (fun t => { t with offset := offset, lead := offset, error := some offset.natAbs })
  if !wasReady then s3
  else if s3.time.servo == .acquire && !s3.time.stepped then
    (s3.stepTo ((s3.now : Int) - offset).toNat).setTime (fun t => { t with stepped := true })
  else
    let slot := s3.firing 20 0
    let plus : Int := match slot with
      | some i => signed 32 (s3.inj i).param.toNat * 65536
      | none => 0
    let o := s3.occasion 20 0 (jumped || decide (s3.stepThresh * ticksPerNs < offset.natAbs))
    let s4 := o.2.setTime (fun t => { t with error := some (offset + plus).natAbs })
    match s4.time.servo with
    | .discont => s4.measureDiscont (offset + plus) jumped slot.isSome
    | _ => s4.measureTracking (offset + plus) c jumped slot.isSome (o.1 == some true)

/-- SERVO_MEASUREMENT (R30, R45, R46, R49 to R53): an offset of module time from the time a source gave, once for each it gave. -/
def State.servoMeasure (s : State) (m : Measurement) : State :=
  let c := m.src.val
  if c = 12 then s.refMeasure m.milliHz
  else if !s.phaseCode c || (decide (c < 10) && !s.rb Reg.TB_CTL 1) || (c == 11 && !s.time.utcWritten) then s
  else match s.srcSample c with
    | none => s
    | some (stamp, source, jumped) =>
      let wasReady := s.time.current == c && s.time.servo != .freerun && s.time.servo != .holdover
      let s1 := ((s.usedSample c).creditSource c).reselect
      if s1.time.current ≠ c then s1 else s1.takeOffset c wasReady stamp source jumped

def execServoMeasurement (at_ : Instant) (m : Measurement) (s : State) : Host.Outcome State Fault Refusal :=
  let s1 := s.advance at_
  .next (if s1.runs Isle.fixative then s1.servoMeasure m else s1)

/-- SOURCE_UNQUALIFY_TIMEOUT (R30): three seconds, or three Announce receipt timeouts of a PTP port, without valid time from a source. -/
def execSourceUnqualifyTimeout (src : Fin 13) (s : State) : Host.Outcome State Fault Refusal :=
  match (s.srcQual src.val).due with
  | some u => .next ((s.advanceUp u).unqualify src.val)
  | none => .next s

/-- RESTEP_TAKE (R55): the pending TIME_RESTEP takes effect at its whole second of source time. -/
def execRestepTake (s : State) : Host.Outcome State Fault Refusal :=
  match s.time.restep with
  | some r =>
    let s1 := s.advance ((r.second : Int) + s.time.lead).toNat
    let step : Int := (r.second : Int) - (s1.now : Int)
    let s2 := (s1.setTime (fun t => { t with restep := none })).stepTo r.second
    let s3 := s2.setServo .acquire
    .next (s3.complete r.session r.seq St.OK
      ([s3.time.epoch] ++ int64Words (step / 65536) ++ [word (unsign 16 step)] ++ instantWords r.second))
  | none => .next s

/-- LEAP_SECOND_END (R29): an announced leap second ends, and utc_offset changes by one in its direction. -/
def execLeapSecondEnd (s : State) : Host.Outcome State Fault Refusal :=
  match s.time.leap with
  | some (dir, t) =>
    let s1 := s.advance t
    .next ((s1.setRf Reg.TB_UTC_CTL 7 0 (unsign 8 (s1.utcOffset + dir))).setTime (fun t => { t with leap := none }))
  | none => .next s

/-- An edge of PPS_IN with the length of its pulse (R38): the active one, of at least 100 ns and not within 900 ms of the last accepted one,
is stamped by TDC4 while the converters are enabled. -/
def State.ppsEdge (s : State) (rising : Bool) (widthNs : Nat) : State :=
  if rising == s.rb Reg.TB_TOD_CTL 2 || decide (widthNs < 100) || !s.rb Reg.TB_CTL 3 then s
  else if (match s.time.ppsIn with
    | some u => decide (s.up < u + ms 900)
    | none => false) then s.countFld Reg.TB_SRC_STAT 23 16 1
  else
    let r := s.stampEdge 4
    match r.2 with
    | some t => r.1.setTime (fun x => { x with ppsIn := some x.up, ppsStamp := some t })
    | none => r.1

/-- PPS_IN_EDGE (R38): an edge of PPS_IN and the length of the pulse that follows it. -/
def execPpsInEdge (at_ : Instant) (rising : Bool) (widthNs : Nat) (s : State) : Host.Outcome State Fault Refusal :=
  let s1 := s.advance at_
  .next (if s1.runs Isle.fixative then s1.ppsEdge rising widthNs else s1)

/-- A sentence accepted (R40): it gives the seconds of the edge before it, out of sequence where they are not one above the last accepted
ones; while it is the current source it gives the TAI − UTC offset and the leap second too (R29). -/
def State.takeSentence (s : State) (sc : Nat) (utc leap : Int) (tq : BitVec 8) : State :=
  let jumped := match s.time.todLast with
    | some n => sc != n + 1
    | none => false
  let s1 := s.setTime (fun t => { t with
    todLast := some sc, todQual := some tq, todRef := t.ppsStamp.map (fun e => (e, sc, jumped)) })
  if s1.time.current = 10 then (s1.takeUtc (BitVec.ofNat 8 (unsign 8 utc))).takeLeap sc utc leap else s1

/-- TOD_SENTENCE_RECEIVE (R39, R40): accepted 10 ms to 900 ms after its edge with a good checksum, else counted. -/
def execTodSentenceReceive (at_ : Instant) (m : TodSentence) (s : State) : Host.Outcome State Fault Refusal :=
  let s1 := s.advance at_
  if !s1.runs Isle.fixative || s1.todMode != 1 then .next s1
  else
    let inWindow := match s1.time.ppsIn with
      | some u => decide (u + ms 10 ≤ s1.up) && decide (s1.up ≤ u + ms 900)
      | none => false
    match readTod m.chars, inWindow with
    | some (sc, utc, leap, tq), true => .next (s1.takeSentence sc utc leap tq)
    | _, _ => .next (s1.countFld Reg.TB_SRC_STAT 15 8 1)

/-- Days from 1970 to the start of a year. -/
def daysToYear (y : Nat) : Nat := 365 * (y - 1970) + (y - 1969) / 4 - (y - 1901) / 100 + (y - 1601) / 400

/-- The year of a frame (R43): from the IEEE 1344 extensions, from the BCD field of B004 to B007, or from year_base. -/
def State.irigYear (s : State) (f : IrigFrame) : Nat :=
  if f.ieee1344 then 2000 + f.year1344 % 100 else if 4 ≤ f.format.val then 2000 + f.bcdYear % 100 else s.rf Reg.TB_UTC_CTL 27 16

/-- A frame decoded (R42 to R44): its time, at the leading edge of its reference marker as TDC5 stamped it, becomes module time by the local
offset and the TAI − UTC offset. -/
def State.takeIrig (s : State) (f : IrigFrame) : State :=
  let off : Int := if f.ieee1344 then f.localHalfH * 1800 else 0
  let tai : Nat := ((daysToYear (s.irigYear f) * 86400 + f.daySecs : Nat) - off + s.utcOffset).toNat
  let s1 := s.setTime (fun t => { t with
    irigLast := (t.irigEdges[f.edgesAgo.val]?).map (fun e => (e, tai))
    irigQual := if f.ieee1344 then some f.timeQual else none })
  if s1.time.current = 11 && f.ieee1344 then
    s1.takeLeap tai s1.utcOffset (if f.leapPend then (if f.leapMinus then -1 else 1) else 0)
  else s1

/-- IRIG_FRAME_RECEIVE (R42 to R44): decoded, its parity checked, and converted to module time. -/
def execIrigFrameReceive (at_ : Instant) (f : IrigFrame) (s : State) : Host.Outcome State Fault Refusal :=
  let s1 := s.advance at_
  if !s1.runs Isle.fixative || s1.todMode != 2 then .next s1
  else if f.ieee1344 && !f.parityOk then .next (s1.countFld Reg.TB_SRC_STAT 15 8 1)
  else .next (s1.takeIrig f)

/-- PPS_OUT_PULSE (R61): at a second of module time a pulse starts, where PPS_OUT is driven. -/
def execPpsOutPulse (s : State) : Host.Outcome State Fault Refusal :=
  let s1 := s.advance s.nextSecond
  let s2 := s1.setTime (fun t => { t with ppsOutLast := some t.now })
  if s2.runs Isle.fixative && s2.ppsAllowed then
    .next (s2.setTime (fun t => { t with ppsOutEnd := some (t.up + ms s2.ppsWidth) }))
  else .next s2

/-- TOD_SENTENCE_SEND (R41): 20 ms after the PPS_OUT edge it describes, one sentence. -/
def execTodSentenceSend (s : State) : Host.Outcome State Fault Refusal :=
  match s.time.ppsOutLast with
  | some edge =>
    if s.time.todSent == some edge || !s.rb Reg.TB_OUT_CTL 10 || !s.rb Reg.TB_CTL 2 || !s.runs Isle.fixative then .next s
    else
      let s1 := s.advance (edge + ms 20)
      .next (s1.setTime (fun t => { t with todSent := some edge, todOut := t.todOut ++ [s1.todSentence edge] }))
  | none => .next s

/-- The stamp of a leading edge of IRIG-B kept, the newest 128 (R42). -/
def State.keepIrigEdge (s : State) (rising : Bool) (t : Instant) : State :=
  if rising && s.todMode == 2 then s.setTime (fun x => { x with irigEdges := (t :: x.irigEdges).take 128 }) else s

/-- TDC_EDGE_STAMP (R38, R42, R62, R63, R344): an edge at the input of a converter: of TRIG_IN, of PPS_IN with a pulse long enough, or of
TOD_IN. -/
def execTdcEdgeStamp (at_ : Instant) (n : Fin 6) (rising : Bool) (s : State) : Host.Outcome State Fault Refusal :=
  let s0 := s.advance at_
  let s1 := if n.val < 4 then s0.trigLevel n.val rising else s0
  if !s1.runs Isle.fixative then .next s1
  else if n.val = 4 then .next (s1.ppsEdge rising 100)
  else if s1.rb Reg.TB_CTL 3 && (n.val == 5 || s1.edgeSelected n.val rising) then
    let r := s1.stampEdge n.val
    match r.2 with
    | some t => .next (if n.val < 4 then r.1.trigEdge n.val rising t else r.1.keepIrigEdge rising t)
    | none => .next r.1
  else .next s1

/-- The firing of a compare unit (R71, Table 2-16): arm clears, fired sets, and the action follows. -/
def State.fireCompare (s : State) (n : Nat) (late : Bool) : State :=
  let ctl := Reg.TB_CMP_CTL n
  let s1 := ((s.setRb ctl 0 false).setRb (Reg.TB_CMP_STAT n) 0 true)
  let s2 := if late then s1.setRb (Reg.TB_CMP_STAT n) 1 true else s1
  let s3 := (if s2.rb ctl 3 then s2.vector 6 else s2).compareToCapture n
  match s3.rf ctl 2 1 with
  | 1 => s3.pulseCompare n 0
  | 2 => s3.pulseCompare n 1
  | _ => s3

/-- A compare unit armed with the target in its registers; a target already reached fires at once, late (R71). -/
def State.armCompare (s : State) (n : Nat) : State :=
  let tgt := s.cmpRegTarget n
  let s1 := (s.setRb (Reg.TB_CMP_CTL n) 0 true).setTime (fun t => { t with cmpTgt := updAt t.cmpTgt n (fun _ => tgt) })
  if s1.cmpReached tgt then s1.fireCompare n true else s1

/-- COMPARE_FIRE (R71): an armed unit's target is reached. -/
def execCompareFire (n : Fin 8) (s : State) : Host.Outcome State Fault Refusal :=
  if s.rb (Reg.TB_CMP_CTL n.val) 0 then
    .next ((s.advance (s.cmpDue n.val)).fireCompare n.val false)
  else .next s

/-- TRIG_OUT_PULSE_END (R71): the earlier pulse of a compare unit ends 1 µs after its firing. -/
def execTrigOutPulseEnd (n : Fin 8) (s : State) : Host.Outcome State Fault Refusal :=
  match (s.time.cmpPulse[n.val]?).getD [] with
  | x :: _ => .next ((s.advanceUp x.2).setTime (fun t => { t with cmpPulse := updAt t.cmpPulse n.val (fun l => l.drop 1) }))
  | [] => .next s

/-! ### Register-level accesses -/

/-- The value a register-level read returned. -/
def State.returning (r : Word × State) : State := { r.2 with rdata := [r.1] }

/-- TIME_NOW_LATCH_READ (R70). -/
def execTimeNowLatchRead (at_ : Instant) (s : State) : Host.Outcome State Fault Refusal :=
  .next (State.returning (s.advance at_).readNow)

/-- FINE_TIME_LATCH_READ (R70). -/
def execFineTimeLatchRead (at_ : Instant) (s : State) : Host.Outcome State Fault Refusal :=
  .next (State.returning (s.advance at_).readFine)

/-- TXTS_ID_READ (R66). -/
def execTxtsIdRead (at_ : Instant) (p : Fin 10) (s : State) : Host.Outcome State Fault Refusal :=
  .next (State.returning ((s.advance at_).readTxts p.val))

/-- TDC_STAMP_READ (R576). -/
def execTdcStampRead (at_ : Instant) (n : Fin 6) (s : State) : Host.Outcome State Fault Refusal :=
  .next (State.returning ((s.advance at_).readTdc n.val))

/-- COMPARE_ARM (R71): TB_CMPn_CTL written with arm as 1, its irq and action with it. -/
def execCompareArm (at_ : Instant) (n : Fin 8) (irq : Bool) (action : Fin 4) (s : State) : Host.Outcome State Fault Refusal :=
  let s1 := s.advance at_
  .next (((s1.setRb (Reg.TB_CMP_CTL n.val) 3 irq).setRf (Reg.TB_CMP_CTL n.val) 2 1 action.val).armCompare n.val)

/-! ### Commands (Table 2-10) -/

/-- The words TIME_STATUS returns: servo state, source, offset in ns, epoch, time-quality codes, holdover time in s, and the
confirmed offset and source of R51. -/
def State.timeStatusWords (s : State) : List Word :=
  let t := s.time
  let conf := t.confirmed.getD (0, 15)
  [word (servoCode t.servo), word t.current] ++ int64Words (t.offset / 65536) ++
  [t.epoch, put 2 0 (statTimeCode s.timeError) ||| put 5 4 s.unlockedCode ||| put 11 8 (fracTimeCode (t.servo == .locked) s.timeError),
   word (if t.servo == .holdover then (s.up - t.holdSince) / sec 1 else 0)] ++
  int64Words (conf.1 / 65536) ++ [word conf.2]

def bodyTimeStatus (s : State) : Res := ok s.timeStatusWords s

def execTimeStatus (h : Hdr) (s : State) : Host.Outcome State Fault Refusal :=
  .next (runCmd 0x0200 h bodyTimeStatus s)

/-- TIME_PROFILE (R33, R69): role, profile, domain, transport and ports; module time is never stepped. Every port the profile uses starts in
LISTENING, and one it does not use gives no more time, so that its source falls to R30 and the change of source follows R31. -/
def bodyTimeProfile (p : TimeProfileArgs) (s : State) : Res :=
  ok [] (s.setTime (fun t => { t with
    role := p.role, profile := p.profile, domain := p.domain, twoStep := p.twoStep, udp := p.udp,
    ptp := (upto 10).map (fun i => freshPtpPort (p.ports.getLsbD i) (profileDS p.profile) t.up) })).reselect

def execTimeProfile (h : Hdr) (p : TimeProfileArgs) (s : State) : Host.Outcome State Fault Refusal :=
  .next (runCmd 0x0201 h (bodyTimeProfile p) s)

/-- TIME_RESTEP (R54, R55): accepted in ACQUIRE after the first-lock step, in LOCKED and in DISCONT, for the first whole second
of source time at least 10 ms ahead, or for the second that the head or the ACTIVE chose (R57, R485). -/
def bodyTimeRestep (h : Hdr) (s : State) : Res :=
  let allowed := match s.time.servo with
    | .acquire => s.time.stepped
    | .locked => true
    | .discont => true
    | _ => false
  if s.time.restep.isSome then refuse St.BUSY s
  else if !allowed then refuse St.STATE s
  else
    let second := ((s.flight? h.session h.seq).bind (·.chosen)).getD s.restepSecond
    .accepted (s.setTime (fun t => { t with restep := some ⟨h.session, h.seq, second⟩ }))

def execTimeRestep (h : Hdr) (s : State) : Host.Outcome State Fault Refusal :=
  .next (runCmd 0x0202 h (bodyTimeRestep h) s)

/-- TIME_SOURCES (R30, R31, R69): the priority list, and REF_IN's frequency where given. Codes 0xD and 0xE name no source. -/
def bodyTimeSources (p : TimeSourcesArgs) (s : State) : Res :=
  if (upto 6).any (fun i => let c := p.prio.toNat / 16 ^ i % 16; c == 13 || c == 14) then refuse St.PARAM_RANGE s
  else
    let s1 := s.setRf Reg.TB_SRC_CTL 23 0 p.prio.toNat
    let s2 := match p.refFreq with
      | some b => s1.setRb Reg.TB_SRC_CTL 28 b
      | none => s1
    ok [] s2.reselect

def execTimeSources (h : Hdr) (p : TimeSourcesArgs) (s : State) : Host.Outcome State Fault Refusal :=
  .next (runCmd 0x0203 h (bodyTimeSources p) s)

/-- TIME_OUTPUTS (Table 2-10, Table 2-20): out_en is behind the lock (R579). A width of 0 is taken as 1 ms and one above 500 as 500. -/
def bodyTimeOutputs (p : TimeOutputsArgs) (s : State) : Res :=
  if s.rb Reg.TB_CTL 31 && p.outEn != s.rb Reg.TB_CTL 2 then refuse St.STATE s
  else
    let w := put 8 0 (min 500 p.ppsWidth) ||| putBit 9 p.ppsFree ||| putBit 10 p.todEn ||| put 13 12 p.todBaud.val
    ok [] ((s.setReg Reg.TB_OUT_CTL w).setRb Reg.TB_CTL 2 p.outEn)

def execTimeOutputs (h : Hdr) (p : TimeOutputsArgs) (s : State) : Host.Outcome State Fault Refusal :=
  .next (runCmd 0x0204 h (bodyTimeOutputs p) s)

/-- TIME_SERVO (R578, R59): bandwidth, lock threshold and holdover drift. A bandwidth of 0 is taken as 1 mHz and one above 500 as 500. -/
def bodyTimeServo (p : TimeServoArgs) (s : State) : Res :=
  if decide (255 < p.lockNs) || decide (2 ^ 24 ≤ p.driftPs) then refuse St.PARAM_RANGE s
  else ok [] (((s.setRf Reg.TB_SERVO_CTL 8 0 (min 500 p.bwMhz)).setRf Reg.TB_DISC_CTL 27 20 p.lockNs).setRf Reg.TB_HOLD_CTL 23 0 p.driftPs)

def execTimeServo (h : Hdr) (p : TimeServoArgs) (s : State) : Host.Outcome State Fault Refusal :=
  .next (runCmd 0x0280 h (bodyTimeServo p) s)

/-- TIME_DISCONT_CFG (Table 2-15): a threshold outside 100 to 1,000,000 ns is taken as the bound, and confirm 0 as 1. -/
def bodyTimeDiscontCfg (p : TimeDiscontArgs) (s : State) : Res :=
  if 7 < p.confirm then refuse St.PARAM_RANGE s
  else ok [] (((s.setRf Reg.TB_DISC_CTL 19 0 (min 1000000 p.stepThresh)).setRf Reg.TB_DISC_CTL 30 28 p.confirm).setRb Reg.TB_DISC_CTL 31 p.hold)

def execTimeDiscontCfg (h : Hdr) (p : TimeDiscontArgs) (s : State) : Host.Outcome State Fault Refusal :=
  .next (runCmd 0x0281 h (bodyTimeDiscontCfg p) s)

/-- The words of a data set that an Announce message carries: sender, grandmaster identity, class, accuracy, variance and priorities. -/
def Announce.words (a : Announce) : List Word :=
  [word a.sender, word (a.sender / 2 ^ 32), word a.gmIdentity, word (a.gmIdentity / 2 ^ 32), word a.gmClass, word a.gmAccuracy,
   word a.gmVariance, word a.priority1, word a.priority2]

/-- The words TIME_PTP_DS returns: the clock's data set, then a port's, its state and its asymmetry, the current data set (steps removed,
offset and mean path delay in ns), the port's parent data set, and the time properties. -/
def State.ptpWords (s : State) (p : Nat) : List Word :=
  let c := s.time.clockDS
  let port := s.ptpPort p
  let d := s.time.timesDS
  [word c.identity, word (c.identity / 2 ^ 32), word c.priority1, word c.priority2, word c.accuracy, word c.variance, word s.time.domain.toNat,
   word (match port.st with | .disabled => 0 | .listening => 1 | .master => 2 | .passive => 3 | .slave => 4),
   word port.ds.announceMs, word port.ds.syncMs, word port.ds.delayMs, word port.ds.receipt,
   word (s.rf (Reg.TB_PORT_ASYM p) 15 0),
   word (match port.best with | some a => a.stepsRemoved + 1 | none => 0)] ++
  int64Words (s.time.offset / 65536) ++ [word (port.pathDelay / 65536)] ++
  (match port.best with | some a => a.words | none => List.replicate 9 0#32) ++
  [put 7 0 (s.rf Reg.TB_UTC_CTL 7 0) ||| putBit 8 s.time.utcWritten ||| putBit 9 (decide (0 < (s.time.leap.map (·.1)).getD 0)) |||
   putBit 10 (decide ((s.time.leap.map (·.1)).getD 0 < 0)) ||| putBit 11 d.timeTrace ||| putBit 12 d.freqTrace ||| put 23 16 d.timeSource]

/-- TIME_PTP_DS (Table 2-10): the data sets and a port's asymmetry written where given, and read back. The current and the parent sets come
from the exchange with the master. -/
def bodyTimePtpDs (p : TimePtpDsArgs) (s : State) : Res :=
  let s1 := s.setTime (fun t => { t with
    clockDS := p.clock.getD t.clockDS, timesDS := p.times.getD t.timesDS
    ptp := updAt t.ptp p.port.val (fun x => { x with ds := p.ds.getD x.ds }) })
  let s3 := match p.asym with
    | some a => s1.setRf (Reg.TB_PORT_ASYM p.port.val) 15 0 a.toNat
    | none => s1
  ok (s3.ptpWords p.port.val) s3

def execTimePtpDs (h : Hdr) (p : TimePtpDsArgs) (s : State) : Host.Outcome State Fault Refusal :=
  .next (runCmdAs (p.clock.isSome || p.times.isSome || p.ds.isSome || p.asym.isSome) 0x0282 h (bodyTimePtpDs p) s)

end Sys2Proof.Machine
end

