-- ==== Sys2Proof/Machine/Ports.lean ====
section
/-! DEFINITION. The meanings of the port and wake commands and of the port islands' events (chapter 03). -/

namespace Sys2Proof.Machine

/-! ### Frames -/

/-- Whether a waiting row gives, at the same instant, the LAN A copy of a frame just received on LAN B: both copies complete stage 3 in the same
cycle, and the LAN A copy is the one forwarded (R92). -/
def State.lanATies (s : State) (at_ : Instant) (p : Nat) (f : RxFrame) : Bool :=
  p % 2 == 1 && (match f.prp with
    | some t => s.pending.any (fun i => match i with
      | .frameReceive a q g => a == at_ && q.val + 1 == p && g.sa == f.sa && s.passesMac q.val g && (s.port q.val).link && (match g.prp with
        | some u => u.sizeOk && u.seq == t.seq
        | none => false)
      | _ => false)
    | none => false)

/-- FRAME_RECEIVE (R77): a frame on the wire of a port whose link is up passes the stages of Table 3-2. -/
def execFrameReceive (at_ : Instant) (p : Fin 10) (f : RxFrame) (s : State) : Host.Outcome State Fault Refusal :=
  let s1 := s.advance at_
  .next (if (s1.port p.val).link && s1.runs p.val then s1.receiveFrame p.val f (s1.lanATies at_ p.val f) else s1)

/-- PAUSE_EXPIRY (R81, R82): the pause time of a port runs out. -/
def execPauseExpiry (p : Fin 10) (s : State) : Host.Outcome State Fault Refusal :=
  match (s.port p.val).pauseEnd with
  | some u =>
    let s1 := s.advanceUp u
    .next ((s1.countPaused p.val).updPort p.val (fun x => { x with pauseEnd := none, pausedAt := none }))
  | none => .next s

/-- PAUSE_REPEAT (R84): every quanta / 2 pause times while PAUSE is enabled and free descriptors stay below xoff. -/
def execPauseRepeat (p : Fin 10) (s : State) : Host.Outcome State Fault Refusal :=
  match (s.port p.val).xoffDue with
  | some u =>
    let s1 := s.advanceUp u
    .next (if s1.wantsPause p.val then s1.pauseNow p.val else s1.updPort p.val (fun x => { x with xoffDue := none }))
  | none => .next s

/-- PRP_FORGET_EXPIRY (R93): the oldest entry of a pair's window whose second copy did not arrive is freed. -/
def execPrpForgetExpiry (k : Fin 5) (s : State) : Host.Outcome State Fault Refusal :=
  match ((s.ports.pairs[k.val]?).map (·.window)).getD [] with
  | e :: _ =>
    let s1 := s.advanceUp e.due
    .next { s1 with ports := { s1.ports with pairs := updAt s1.ports.pairs k.val (fun x => { x with window := x.window.drop 1 }) } }
  | [] => .next s

/-- TRANSMIT_SELECT (R80): between frames the port picks the next one. -/
def execTransmitSelect (at_ : Instant) (p : Fin 10) (s : State) : Host.Outcome State Fault Refusal :=
  .next ((s.advance at_).selectTx p.val)

/-- FRAME_TRANSMIT_COMPLETE (R100): the frame on the wire has been sent. -/
def execFrameTransmitComplete (at_ : Instant) (p : Fin 10) (s : State) : Host.Outcome State Fault Refusal :=
  .next ((s.advance at_).completeTx p.val)

/-! ### Link and receiver (R75, R76, R110) -/

/-- LINK_UP (R75): the PCS reports its conditions; a signal that appears starts the initial adaptation, and the port declares link
up once every condition holds. -/
def execLinkUp (at_ : Instant) (p : Fin 10) (c : PcsState) (s : State) : Host.Outcome State Fault Refusal :=
  let s1 := s.advance at_
  let fresh := c.signal && !(s1.port p.val).signal
  let s2 := s1.updPort p.val (fun x => { x with
    signal := c.signal, blockLock := c.blockLock, fecLock := c.fecLock, anDone := c.anDone, phySlow := c.phySlow
    adapted := x.adapted && !fresh, adaptDue := if fresh then s1.adaptFrom p.val true else x.adaptDue })
  .next (s2.relink p.val 0)

/-- LINK_DOWN (R75): the port loses its signal and with it the link; frames offered to it are dropped. -/
def execLinkDown (at_ : Instant) (p : Fin 10) (s : State) : Host.Outcome State Fault Refusal :=
  let s1 := s.advance at_
  .next ((s1.updPort p.val (fun x => { x with
    signal := false, blockLock := false, fecLock := false, anDone := false, adapted := false, adaptDue := none })).linkDown p.val 1)

/-- What a receiver's adaptation reached: the values held where freeze is set (R110). -/
def State.takeEq (s : State) (p : Nat) (e : EqResult) : State :=
  if s.rb (Reg.PORT_EQ_CTL p) 31 then s else
    (s.setReg (Reg.PORT_EQ_STAT0 p) (put 4 0 e.ctle.toNat ||| put 13 8 e.dfe1.toNat ||| put 21 16 e.dfe2.toNat ||| put 29 24 e.dfe3.toNat)).setReg
      (Reg.PORT_EQ_STAT1 p) (put 5 0 e.dfe4.toNat ||| put 13 8 e.dfe5.toNat)

/-- EQ_ADAPT_COMPLETE (R110): the initial adaptation of a receiver with signal completes, within 20 ms. A receiver of P0 to P7 goes on adapting
while it has signal, and a row given then brings the values it reached. -/
def execEqAdaptComplete (at_ : Instant) (p : Fin 10) (e : EqResult) (s : State) : Host.Outcome State Fault Refusal :=
  match (s.port p.val).adaptDue with
  | some u =>
    let s1 := s.advance at_
    let s2 := if u < s1.up then s.advanceUp u else s1
    .next (((s2.takeEq p.val e).updPort p.val (fun x => { x with adaptDue := none, adapted := true })).tryLink p.val)
  | none => .next (if p.val < 8 ∧ (s.port p.val).signal then (s.advance at_).takeEq p.val e else s)

/-- A port's mode and FEC change (R76): an enabled port takes its link down at once, drops what waits and restarts, its PCS without lock. -/
def State.changeMode (s : State) (p mode fec : Nat) : State :=
  let s1 := (s.setRf (Reg.PORT_CTL p) 3 1 mode).setRf (Reg.PORT_CTL p) 9 8 fec
  if s.rb (Reg.PORT_CTL p) 0 && (s.rf (Reg.PORT_CTL p) 3 1 != mode || s.rf (Reg.PORT_CTL p) 9 8 != fec) then
    ((s1.linkDown p 2).updPort p (fun x => { x with blockLock := false, fecLock := false, anDone := false })).rejudge p
  else s1.rejudge p

/-- PORT_MODE_CHANGE (R76): a write of PORT_CTL.mode and fec; ignored behind the port's lock (R7). -/
def execPortModeChange (at_ : Instant) (p : Fin 10) (mode : Fin 8) (fec : Fin 4) (s : State) : Host.Outcome State Fault Refusal :=
  let s1 := s.advance at_
  .next (if s1.rb (Reg.PORT_CTL p.val) 31 then s1 else s1.changeMode p.val mode.val fec.val)

/-! ### Rings -/

/-- RX_TAIL_WRITE (R97, R84): descriptors passed to the module; a PAUSE may end. -/
def State.writeRxTail (s : State) (p r tail : Nat) : State :=
  (s.setRf (Reg.PORT_RXR_TAIL p r) 11 0 tail).checkPause p

def execRxTailWrite (at_ : Instant) (p : Fin 10) (r : Fin 2) (tail : BitVec 12) (s : State) : Host.Outcome State Fault Refusal :=
  .next ((s.advance at_).writeRxTail p.val r.val tail.toNat)

/-- A frame in a run of transmit descriptors: the index and content of its sop descriptor, its descriptors and its bytes. -/
structure TxRun where
  index : Nat
  desc  : TxDesc
  descs : Nat
  bytes : Nat

/-- The frames that a run of transmit descriptors from index `i` holds, each from its sop to its eop, and the descriptors of a frame whose eop is
still to come. `cur` holds those of the frame under way. -/
def txFrames : List TxDesc → Nat → Nat → List TxDesc → List TxRun × List TxDesc
  | [], _, _, cur => ([], cur)
  | d :: rest, i, size, cur =>
    let run := cur ++ [d]
    if d.eop then
      let r := txFrames rest ((i + run.length) % size) size []
      (⟨i, (run[0]?).getD d, run.length, total (run.map (·.len))⟩ :: r.1, r.2)
    else txFrames rest i size run

/-- A ring frame offered to its port (R78, R95, R100): class 1 or 2 is taken as 3; a frame whose length, with its VLAN tag, trailer, SecTAG and
ICV, is over max_len is dropped with err. -/
def State.offerRing (s : State) (p : Nat) (r : Fin 2) (g : TxRun) : State :=
  let d := g.desc
  let cls : Fin 4 := if d.cls = 0 then 0 else 3
  let len := max 64 (g.bytes + (if d.vlanIns then 4 else 0) + 4)
  let f : TxFrame := ⟨cls, len, none, if d.tsReq then some d.frameId else none, none, .ring p r g.index g.descs⟩
  let full := len + (if d.prp && s.prpOn p then 6 else 0) + (if s.protects p f then 32 else 0)
  if s.macLen p < full then (s.count (Reg.PORT_CNT p 26) 1).returnTx f true
  else if d.prp then s.sendPrp p f
  else s.offer p f

/-- A transmit descriptor that no row gives, as the ring's memory holds it. -/
def State.ringDesc (s : State) (p r i : Nat) : TxDesc :=
  let x := Config.ringDesc s.free p r i
  ⟨max 1 (min 2048 x.1), bit x.2.1 1, bit x.2.1 2, bit x.2.1 3, ⟨fld x.2.1 5 4, Nat.mod_lt _ (by decide)⟩, bit x.2.1 6, bit x.2.1 7,
   BitVec.ofNat 16 x.2.2.1, BitVec.ofNat 16 x.2.2.2⟩

/-- TX_TAIL_WRITE (R96, R97): transmit descriptors passed to the module, with the content software gave them, and beyond those the row gives
what the ring's memory holds. Descriptors without their eop yet wait for the next advance. Ring 1 exists only where the PCIe endpoint is
active. -/
def State.writeTxTail (s : State) (p : Nat) (r : Fin 2) (tail : Nat) (descs : List TxDesc) : State :=
  let size := s.rf (Reg.PORT_TXR_SIZE p r.val) 12 0
  let old := s.rf (Reg.PORT_TXR_TAIL p r.val) 11 0
  let s1 := (s.setRf (Reg.PORT_TXR_TAIL p r.val) 11 0 tail).nextFree
  if size = 0 || (r == 1 && !s.hostRings) then s1
  else
    let n := (tail + size - old % size) % size
    let kept := ((s.port p).txPend[r.val]?).getD []
    let given := (upto n).map (fun i => (descs[i]?).getD (s.ringDesc p r.val ((old + i) % size)))
    let cut := txFrames (kept ++ given) ((old + size - kept.length % size) % size) size []
    cut.1.foldl (fun s g => s.offerRing p r g) (s1.updPort p (fun x => { x with txPend := updAt x.txPend r.val (fun _ => cut.2) }))

def execTxTailWrite (at_ : Instant) (p : Fin 10) (r : Fin 2) (tail : BitVec 12) (descs : List TxDesc) (s : State) :
    Host.Outcome State Fault Refusal :=
  .next ((s.advance at_).writeTxTail p.val r tail.toNat descs)

/-- COUNTER64_LO_READ (R113). -/
def execCounter64LoRead (at_ : Instant) (p : Fin 10) (tx : Bool) (s : State) : Host.Outcome State Fault Refusal :=
  .next (State.returning ((s.advance at_).readCnt64 p.val tx))

/-! ### Optics (R105 to R109) -/

/-- MOD_ABS_CHANGE (R106): a change of MOD_ABS on a monitored port starts the 50 ms debounce and abandons a read; the optics are not accepted
meanwhile, so the link is down (R75, R107). -/
def execModAbsChange (at_ : Instant) (p : Fin 10) (absent : Bool) (s : State) : Host.Outcome State Fault Refusal :=
  let s1 := s.advance at_
  let s2 := s1.updPort p.val (fun x => { x with modAbsPin := absent })
  .next (if s2.monitored p.val && s2.runs p.val then
    ((s2.freeI2c p).updPort p.val (fun x => { x with optics := .debounce (s2.up + ms 50), optReason := 7, retries := 0 })).relink p.val 3
  else s2)

/-- MOD_ABS_DEBOUNCE_END (R106, R108): removal takes the link down and clears the copy; insertion waits 300 ms. -/
def execModAbsDebounceEnd (p : Fin 10) (s : State) : Host.Outcome State Fault Refusal :=
  match (s.port p.val).optics with
  | .debounce u =>
    let s1 := s.advanceUp u
    if (s1.port p.val).modAbsPin then
      let s2 := (s1.updPort p.val (fun x => { x with modAbs := true, optics := .idle, optReason := 1 })).copyOptics p.val []
      .next (s2.linkDown p.val 3)
    else .next ((s1.updPort p.val (fun x => { x with modAbs := false, optics := .settle (s1.up + ms 300) })).relink p.val 3)
  | _ => .next s

/-- A read of page A0h starts on a monitored port, once its I²C master is free (R105). -/
def State.startRead (s : State) (p : Fin 10) : State :=
  if s.monitored p.val then
    match s.takeI2c p with
    | some t => t.updPort p.val (fun x => { x with optics := .reading })
    | none => s
  else s

/-- OPTICS_READ_START (R105, R106): 300 ms after insertion, or at power-up, the read of page A0h of a monitored port starts. -/
def execOpticsReadStart (p : Fin 10) (s : State) : Host.Outcome State Fault Refusal :=
  match (s.port p.val).optics with
  | .settle u => .next ((s.advanceUp u).startRead p)
  | _ => .next s

/-- OPTICS_READ_COMPLETE (R107): a read without acknowledge or with a bad checksum is retried twice; then the checks of Table 3-8
accept or reject the optics. -/
def execOpticsReadComplete (at_ : Instant) (p : Fin 10) (r : OpticsRead) (s : State) : Host.Outcome State Fault Refusal :=
  match (s.port p.val).optics with
  | .reading =>
    let s1 := (s.advance at_).freeI2c p
    let x := s1.port p.val
    if x.modAbsPin then .next ((s1.updPort p.val (fun x => { x with optics := .idle, optReason := 1, modAbs := true })).relink p.val 3)
    else
      let bad := !r.ack || sum8 r.bytes 0 63 != ((r.bytes[63]?).getD 0#8).toNat
      if bad && decide (x.retries < 2) then
        .next (s1.updPort p.val (fun x => { x with optics := .retry (s1.up + ms 100), retries := x.retries + 1 }))
      else if !r.ack then
        .next ((s1.updPort p.val (fun x => { x with optics := .idle, optReason := 2, modAbs := false })).relink p.val 3)
      else
        let s2 := (s1.updPort p.val (fun x => { x with
          optics := .idle, modAbs := false
          extBad := sum8 r.bytes 64 95 != ((r.bytes[95]?).getD 0#8).toNat })).copyOptics p.val r.bytes
        .next ((s2.admitOptics p.val (opticsCheck (s2.portMode p.val) r.bytes)).relink p.val 3)
  | _ => .next s

/-- OPTICS_READ_RETRY (R107): 100 ms after a failed read. -/
def execOpticsReadRetry (p : Fin 10) (s : State) : Host.Outcome State Fault Refusal :=
  match (s.port p.val).optics with
  | .retry u => .next ((s.advanceUp u).startRead p)
  | _ => .next s

/-! ### Commands (Table 3-9) -/

/-- The words PORT_STATUS returns: the status register, the mode, and the counters, the 64-bit ones by both halves. DESIGN CHOICE (assumption
110): the command clears none of them. -/
def State.portStatusWords (s : State) (p : Nat) : List Word :=
  let x := s.port p
  [s.reg (Reg.PORT_STAT p) ||| s.portView (Reg.PORT_STAT p), word (s.portMode p), word x.optReason] ++
  (upto 29).map (fun i =>
    if i = 1 then word (x.rx64 / 2 ^ 32) else if i = 21 then word (x.tx64 / 2 ^ 32)
    else s.reg (Reg.PORT_CNT p i) ||| s.portView (Reg.PORT_CNT p i))

def bodyPortStatus (p : Fin 10) (s : State) : Res := ok (s.portStatusWords p.val) s

def execPortStatus (h : Hdr) (p : Fin 10) (s : State) : Host.Outcome State Fault Refusal :=
  .next (runCmd 0x0300 h (bodyPortStatus p) s)

/-- PORT_PROFILE on one port: mode, FEC and auto-negotiation, and the port enabled where the profile has a mode. -/
def State.portProfile (s : State) (p : Nat) (a : PortProfileArgs) : State :=
  let s1 := (s.changeMode p a.mode a.fec).setRb (Reg.PORT_CTL p) 10 a.an
  (s1.setRb (Reg.PORT_CTL p) 0 (s1.portMode p != 0)).relink p 2

/-- PORT_PROFILE (Table 3-9, R579). -/
def bodyPortProfile (a : PortProfileArgs) (s : State) : Res :=
  let ps := (upto 10).filter (fun p => a.ports.getLsbD p)
  if decide (7 < a.mode) || decide (3 < a.fec) then refuse St.PARAM_RANGE s
  else if ps.any (fun p => s.rb (Reg.PORT_CTL p) 31 &&
      (s.rf (Reg.PORT_CTL p) 3 1 != a.mode || s.rf (Reg.PORT_CTL p) 9 8 != a.fec || s.rb (Reg.PORT_CTL p) 10 != a.an)) then refuse St.STATE s
  else ok [] (ps.foldl (fun s p => s.portProfile p a) s)

def execPortProfile (h : Hdr) (a : PortProfileArgs) (s : State) : Host.Outcome State Fault Refusal :=
  .next (runCmd 0x0301 h (bodyPortProfile a) s)

/-- A ring's base and size written. DESIGN CHOICE (assumption 110): its positions are at zero then. -/
def State.setupRing (s : State) (p : Nat) (g : RingSetup) : State :=
  let r := g.ring.val
  if g.transmit then
    ((((s.setReg (Reg.PORT_TXR_BASE_LO p r) (word g.base.toNat)).setReg (Reg.PORT_TXR_BASE_HI p r) (word (g.base.toNat / 2 ^ 32))).setReg
      (Reg.PORT_TXR_SIZE p r) (word g.size)).setReg (Reg.PORT_TXR_TAIL p r) 0#32).updPort p
      (fun x => { x with txHead := updAt x.txHead r (fun _ => 0), txPend := updAt x.txPend r (fun _ => []) })
  else
    ((((s.setReg (Reg.PORT_RXR_BASE_LO p r) (word g.base.toNat)).setReg (Reg.PORT_RXR_BASE_HI p r) (word (g.base.toNat / 2 ^ 32))).setReg
      (Reg.PORT_RXR_SIZE p r) (word g.size)).setReg (Reg.PORT_RXR_TAIL p r) 0#32).updPort p
      (fun x => { x with rxHead := updAt x.rxHead r (fun _ => 0) })

/-- A power of two in a range. -/
def powerIn (lo hi n : Nat) : Bool := decide (lo ≤ n) && decide (n ≤ hi) && (upto 16).any (fun k => n == 2 ^ k)

/-- PORT_RINGS (Table 3-9, R97). -/
def bodyPortRings (a : PortRingsArgs) (s : State) : Res :=
  if a.rings.any (fun g => g.base.toNat % 64 != 0) then refuse St.BAD_PARAM s
  else if a.rings.any (fun g => !powerIn 64 4096 g.size) then refuse St.PARAM_RANGE s
  else
    let s1 := a.rings.foldl (fun s g => s.setupRing a.port.val g) s
    ok [] ((a.filters.foldl (fun s f =>
      s.setReg (Reg.PORT_HOST_FILT a.port.val f.index.val) (putBit 31 f.enabled ||| put 15 0 f.etherType.toNat)) s1).checkPause a.port.val)

def execPortRings (h : Hdr) (a : PortRingsArgs) (s : State) : Host.Outcome State Fault Refusal :=
  .next (runCmd 0x0302 h (bodyPortRings a) s)

/-- PORT_PRP (R90, R93). -/
def bodyPortPrp (a : PortPrpArgs) (s : State) : Res :=
  if decide (a.forgetMs < 10) || decide (1000 < a.forgetMs) then refuse St.PARAM_RANGE s
  else ok [] (s.setReg (Reg.PORT_PRP_CTL (lanA a.pair.val)) (put 25 16 a.forgetMs ||| putBit 0 a.enable))

def execPortPrp (h : Hdr) (a : PortPrpArgs) (s : State) : Host.Outcome State Fault Refusal :=
  .next (runCmd 0x0303 h (bodyPortPrp a) s)

/-- An association installed in or retired from a MACsec engine, and its cipher suite set; a transmit association installed is put in use with
the transmit SCI. -/
def Macsec.change (m0 : Macsec) (a : PortMacsecArgs) (shareA shareB : List Byte) : Macsec :=
  let m := { m0 with suite := a.suite }
  let sa : SecAssoc := ⟨a.an, a.slot, 1, shareA, shareB⟩
  match a.receive with
  | none =>
    let others := m.tx.filter (fun b => b.an != a.an)
    if a.install then { m with txSci := a.sci, tx := others ++ [sa], txUse := some a.an }
    else { m with tx := others, txUse := if m.txUse == some a.an then none else m.txUse }
  | some c =>
    let chan := (lookup m.rx c.val).getD ⟨a.sci, []⟩
    let others := chan.assocs.filter (fun b => b.an != a.an)
    if a.install then { m with rx := setKey m.rx c.val ⟨a.sci, others ++ [sa]⟩ }
    else { m with rx := setKey m.rx c.val { chan with assocs := others } }

/-- PORT_MACSEC (R86, R88, R392): installing counts as one use of a Flacon slot of class MACsec, whose key the engine takes in two shares of its
own; P0 to P7 only. -/
def bodyPortMacsec (a : PortMacsecArgs) (s : State) : Res :=
  if 8 ≤ a.port.val then refuse St.PARAM_RANGE s
  else
    let apply (m k : List Byte) (s : State) : State :=
      (s.updPort a.port.val (fun x => { x with macsec := x.macsec.change a m (xorBytes k m) })).setRf (Reg.PORT_MSEC_CTL a.port.val) 2 1 a.validate.val
    if a.install then
      let r := s.useKeySlot a.slot [0]
      let k := s.keyBytes a.slot
      let m := r.2.random k.length
      if r.1 = St.OK then ok [] (apply (padTo k.length m.1) k m.2) else refuse r.1 r.2
    else ok [] (apply [] [] s)

def execPortMacsec (h : Hdr) (a : PortMacsecArgs) (s : State) : Host.Outcome State Fault Refusal :=
  .next (runCmd 0x0304 h (bodyPortMacsec a) s)

/-- PORT_OPTICS (R109): the A0h copy, and page A2h as just read where asked for and declared by byte 92 bit 6. -/
def bodyPortOptics (p : Fin 10) (a2h : Option (List Byte)) (s : State) : Res :=
  let copy := (upto 24).map (fun k => s.reg (Reg.PORT_OPT_ID p.val k))
  let diag := bit ((copy[23]?).getD 0#32) 6
  ok (copy ++ (match a2h, diag with
    | some b, true => wordsLE (b.take 256)
    | _, _ => [])) s

def execPortOptics (h : Hdr) (p : Fin 10) (a2h : Option (List Byte)) (s : State) : Host.Outcome State Fault Refusal :=
  .next (runCmd 0x0305 h (bodyPortOptics p a2h) s)

/-- PORT_EQ (R110). -/
def bodyPortEq (a : PortEqArgs) (s : State) : Res :=
  ok [] (s.setReg (Reg.PORT_EQ_CTL a.port.val) (put 5 0 a.pre.toNat ||| put 13 8 a.main.toNat ||| put 21 16 a.post.toNat |||
    put 28 24 a.ctle.toNat ||| putBit 31 a.freeze))

def execPortEq (h : Hdr) (a : PortEqArgs) (s : State) : Host.Outcome State Fault Refusal :=
  .next (runCmd 0x0380 h (bodyPortEq a) s)

/-- PORT_MAC_RAW (Table 3-9, Table 3-4): frame length, PAUSE thresholds, the packet-number warning, the replay window, and integrity only or the
confidentiality offset. A max_len below 1,518 is taken as 1,518 and one above 9,600 as 9,600. -/
def bodyPortMacRaw (a : PortMacRawArgs) (s : State) : Res :=
  if decide (2 ^ 30 ≤ a.replayWin) || decide (2 ^ 64 ≤ a.pnWarn) || !(a.offset.all (fun o => o == 0 || o == 30 || o == 50)) then
    refuse St.PARAM_RANGE s
  else
    let p := a.port.val
    let s1 := (s.setRf (Reg.PORT_MAC_CTL p) 29 16 (min 9600 a.maxLen)).setReg (Reg.PORT_PAUSE_CTL p)
      (put 15 0 a.quanta.toNat ||| put 23 16 a.xoff.toNat ||| put 31 24 a.xon.toNat)
    let s2 := s1.setRb (Reg.PORT_MSEC_CTL p) 3 true
    ok [] ((s2.updPort p (fun x => { x with
      macsec := { x.macsec with pnWarn := some a.pnWarn, replayWin := a.replayWin, offset := a.offset } })).checkPause p)

def execPortMacRaw (h : Hdr) (a : PortMacRawArgs) (s : State) : Host.Outcome State Fault Refusal :=
  .next (runCmd 0x0381 h (bodyPortMacRaw a) s)

/-- PORT_OPT_OVERRIDE (R109): the override set or cleared, and the optics judged again by the copy held. -/
def bodyPortOptOverride (p : Fin 10) (on : Bool) (s : State) : Res :=
  ok [] ((s.setRb (Reg.PORT_OPT_CTL p.val) 1 on).rejudge p.val)

def execPortOptOverride (h : Hdr) (p : Fin 10) (on : Bool) (s : State) : Host.Outcome State Fault Refusal :=
  .next (runCmd 0x0382 h (bodyPortOptOverride p on) s)

/-! ### Wake patterns (R102, R103) -/

def wakeMaskReg (m k w : Nat) : Nat := if m = 0 then Reg.AON_WAKE_MASK_M0 k w else Reg.AON_WAKE_MASK_M1 k w
def wakeCrcReg (m k : Nat) : Nat := if m = 0 then Reg.AON_WAKE_CRC_M0 k else Reg.AON_WAKE_CRC_M1 k

/-- The four mask words that select a set of byte offsets (R102). -/
def maskWord (offs : List Nat) (w : Nat) : Word :=
  offs.foldl (fun acc o => if o / 32 = w then acc ||| putBit (o % 32) true else acc) 0#32

/-- WAKE_PATTERN: byte offsets and values; the mask and the check value over the selected bytes in increasing order are
computed and written. -/
def bodyWakePattern (a : WakePatternArgs) (s : State) : Res :=
  let offs := a.bytes.map (·.1)
  if offs.any (fun o => decide (128 ≤ o)) then refuse St.PARAM_RANGE s
  else if !noDup offs then refuse St.BAD_PARAM s
  else
    let sorted := sortBy (fun x y => decide (x.1 ≤ y.1)) a.bytes
    let s1 := (upto 4).foldl (fun s w => s.setReg (wakeMaskReg a.m.val a.k.val w) (maskWord offs w)) s
    ok [] (s1.setReg (wakeCrcReg a.m.val a.k.val) (put 15 0 (crc16 (sorted.map (·.2))) ||| putBit 31 a.enable))

def execWakePattern (h : Hdr) (a : WakePatternArgs) (s : State) : Host.Outcome State Fault Refusal :=
  .next (runCmd 0x0110 h (bodyWakePattern a) s)

/-- WAKE_PATTERN_RAW: the mask and check value as given; reserved bits of the check word are ignored (R8). -/
def bodyWakePatternRaw (a : WakePatternRawArgs) (s : State) : Res :=
  let s1 := (upto 4).foldl (fun s w => s.setReg (wakeMaskReg a.m.val a.k.val w) ((a.mask.toList[w]?).getD 0#32)) s
  ok [] (s1.setReg (wakeCrcReg a.m.val a.k.val) (a.crc &&& 0x8000FFFF#32))

def execWakePatternRaw (h : Hdr) (a : WakePatternRawArgs) (s : State) : Host.Outcome State Fault Refusal :=
  .next (runCmd 0x0190 h (bodyWakePatternRaw a) s)

end Sys2Proof.Machine
end

