-- ==== Sys2Proof/Machine/Ingress.lean ====
section
/-! DEFINITION. Ingress (chapter 04): parsing, configuration changes, and the meanings of its commands, table accesses and
events. -/

namespace Sys2Proof.Machine

/-- A counter of Table 4-8 by its position. -/
def State.ingCount (s : State) (i n : Nat) : State := s.count (Reg.ING_CNT i) n

/-- A frame dropped whole under a row of Table 4-5: counted, and an event of class 29. -/
def State.ingDrop (s : State) (port counter : Nat) : State := (s.ingCount counter 1).raise 29 1 [word port, word counter]

/-! ### States of a stream's entries (R121, R134, R135) -/

/-- The state field of every entry of a stream set. -/
def State.setStates (s : State) (e st : Nat) : State :=
  (s.streamEntries e).foldl (fun s j => s.setSw j 0 (setFld (s.sw j 0) 30 28 st)) s

/-- The entries of a stream become SUSPENDED: cfg_evt, and a Sillage record with the first entry and a cause. -/
def State.suspend (s : State) (e cause : Nat) : State :=
  let n := (s.streamEntries e).length
  (((s.setStates e 4).setFw e (fun x => { x with fetch := none, held := none, applyDue := none, staleSize := none, pollDue := none })).status
    Reg.ING_STAT 1).raise 15 (n : Rat) [word e, word cause]

/-- The TCP sessions the firmware holds as a configuration client, of streams other than one (R115). -/
def State.sessionsBut (s : State) (e : Nat) : Nat :=
  (s.ing.fw.filter (fun x => x.1 != e && (x.2.fetch.map (·.session)) == some true)).length

/-- The firmware asks the source for its configuration: the command for CFG-3 or CFG-2 (R134). A source reached over TCP takes one of
the 64 sessions (R115); DESIGN CHOICE (assumption 112): with none free the fetch sends nothing and ends by its timeout. -/
def State.startFetch (s : State) (e tries : Nat) (size : Option Nat) : State :=
  let x := s.fw e
  let session := x.tcp && decide (s.sessionsBut e < 64)
  let s1 := s.setFw e (fun x => { x with fetch := some ⟨s.up + sec 5, tries, size, session⟩ })
  if x.tcp && !session then s1
  else s1.setIng (fun g => { g with cmdOut := g.cmdOut ++ [(e, if x.cfg3 then 6 else 5)] })

/-- The fetch interval in s: 0 is taken as 1 (Table 4-9). -/
def State.cfgPoll (s : State) : Nat := max 1 (s.rf Reg.ING_CTL 15 8)

/-- When the firmware fetches next: every cfg_poll seconds, or 10 s while a block shows STAT bit 10. -/
def State.nextPoll (s : State) (e : Nat) : Nat := s.up + (if (s.fw e).bit10 then sec 10 else sec s.cfgPoll)

/-! ### Configurations (R125, R134) -/

/-- The offsets an_off and dg_off a block takes: those set, or those the firmware spreads the spare channels with; none where the
configuration does not fit. -/
def blockOffsets (span : Nat) (w7 : Word) (ph an dg : Nat) : Option (Nat × Nat) :=
  let a := fld w7 9 0
  let d := fld w7 19 10
  if a = 0 && d = 0 then
    let used := 2 + ph + an + dg
    if span < used then none
    else
      let e := (span - used) / 3
      some (2 + ph + e, 2 + ph + e + an + e)
  else if 2 + ph ≤ a && a + an ≤ d && d + dg ≤ span then some (a, d) else none

/-- Whether a configuration fits the channel map of a stream: as many blocks as entries, and each fits its span. -/
def State.cfgFits (s : State) (e : Nat) (c : CfgFrame) : Bool :=
  let es := s.streamEntries e
  es.length == c.blocks.length && (es.zip c.blocks).all (fun p =>
    (blockOffsets (chanRange (s.sw p.1 4)).2 (s.sw p.1 7) p.2.phasors.length p.2.analogs.length p.2.digitals.length).isSome)

/-- The word 3 that a block's layout makes. -/
def layoutWord (b : CfgBlock) : Word :=
  put 3 0 b.fmt.toNat ||| put 11 4 b.phasors.length ||| put 19 12 b.analogs.length ||| put 25 20 b.digitals.length

/-- The scales a block gives its channels (R125, R129). -/
def blockScales (base : Nat) (offs : Nat × Nat) (b : CfgBlock) : List (Nat × ChanScale) :=
  [(base, ⟨.freq, word (if b.is60 then 60 else 50), 0#16⟩), (base + 1, ⟨.dfreq, 0#32, 0#16⟩)] ++
  ((upto b.phasors.length).zip b.phasors).map (fun p => (base + 2 + p.1, ⟨.phasor, p.2, 0#16⟩)) ++
  ((upto b.analogs.length).zip b.analogs).map (fun p => (base + offs.1 + p.1, ⟨.analog, p.2, 0#16⟩)) ++
  ((upto b.digitals.length).zip b.digitals).map (fun p => (base + offs.2 + p.1, ⟨.digital, 0#32, p.2⟩))

/-- One entry written from its block of a configuration. -/
def State.writeCfgBlock (s : State) (j i : Nat) (c : CfgFrame) (b : CfgBlock) : State :=
  let r := chanRange (s.sw j 4)
  match blockOffsets r.2 (s.sw j 7) b.phasors.length b.analogs.length b.digitals.length with
  | none => s
  | some offs =>
    let s1 := (((s.setSw j 3 (layoutWord b)).setSw j 5 (put 15 0 c.frameSize ||| put 25 16 i)).setSw j 6 (put 23 0 c.timeBase)).setSw j 7
      (put 9 0 offs.1 ||| put 19 10 offs.2)
    s1.setIng (fun g => { g with scales := (blockScales r.1 offs b).foldl (fun l p => setKey l p.1 p.2) g.scales })

/-- A configuration written to a stream's entries, which are ACTIVE from then on (R134). -/
def State.writeCfg (s : State) (e : Nat) (c : CfgFrame) : State :=
  let es := s.streamEntries e
  let s1 := ((es.zip c.blocks).zip (upto es.length)).foldl (fun s p => s.writeCfgBlock p.1.1 p.2 c p.1.2) s
  let s2 := (s1.setStates e 2).setFw e (fun x => { x with
    fetch := none, held := none, applyDue := none, staleSize := none, pollDue := some (s1.nextPoll e) })
  if (s2.fw e).startData && wState (s.sw e 0) = 1 then s2.setIng (fun g => { g with cmdOut := g.cmdOut ++ [(e, 2)] }) else s2

/-- Whether a configuration is the layout in force: writing it would change no entry word and no scale. -/
def State.cfgMatches (s : State) (e : Nat) (c : CfgFrame) : Bool :=
  let w := s.writeCfg e c
  s.cfgFits e c && (s.streamEntries e).all (fun j => w.entryWords j == s.entryWords j) && w.ing.scales == s.ing.scales

/-- A configuration held until the first frame of its size (R134). -/
def State.holdCfg (s : State) (e : Nat) (c : CfgFrame) : State := s.setFw e (fun x => { x with held := some c })

/-- A failed fetch for CFG_STALE entries: repeated twice, then the entries are SUSPENDED (R135). -/
def State.fetchFailed (s : State) (e : Nat) : State :=
  match (s.fw e).fetch with
  | some f => if 3 ≤ f.tries then s.suspend e 2 else s.startFetch e (f.tries + 1) f.size
  | none => s

/-- A configuration received for a stream, handled by R134 and R135. -/
def State.takeCfg (s0 : State) (e : Nat) (c : CfgFrame) : State :=
  let st := wState (s0.sw e 0)
  if st = 4 || st = 0 then s0
  else if st = 3 then
    if (s0.fw e).staleSize ≠ some c.frameSize then s0.fetchFailed e
    else if s0.cfgFits e c then s0.writeCfg e c else s0.suspend e 1
  else
    let s := s0.setFw e (fun x => { x with fetch := none, held := none })
    let fits := s.cfgFits e c
    if st = 1 then (if fits then s.writeCfg e c else s.suspend e 1)
    else if s.cfgMatches e c then s
    else
      let same := c.frameSize == fld (s.sw e 5) 15 0
      match fits, same with
      | true, true => s.writeCfg e c
      | true, false => s.holdCfg e c
      | false, false => ((s.holdCfg e c).status Reg.ING_STAT 1).raise 15 0 [word e, 1#32]
      | false, true => s.suspend e 1

/-! ### Values of a C37.118.2 block (R125, R129, R132) -/

/-- A signed 16-bit number from two bytes. -/
def be16s (b : List Byte) : Int := signed 16 (beNat b)

/-- How a block's values are laid out. -/
structure Layout where
  polar   : Bool
  phFloat : Bool
  anFloat : Bool
  fqFloat : Bool
  ph      : Nat
  an      : Nat
  dg      : Nat
  base    : Nat
  anOff   : Nat
  dgOff   : Nat
deriving DecidableEq, Repr

def State.layoutOf (s : State) (j : Nat) : Layout :=
  let w3 := s.sw j 3
  let w7 := s.sw j 7
  ⟨bit w3 0, bit w3 1, bit w3 2, bit w3 3, fld w3 11 4, fld w3 19 12, fld w3 25 20, (chanRange (s.sw j 4)).1, fld w7 9 0, fld w7 19 10⟩

/-- The bytes of a block in the frame: STAT, phasors, FREQ, DFREQ, analogs, digital words. -/
def Layout.size (l : Layout) : Nat :=
  2 + l.ph * (if l.phFloat then 8 else 4) + (if l.fqFloat then 8 else 4) + l.an * (if l.anFloat then 4 else 2) + l.dg * 2

def State.scaleOf (s : State) (c : Nat) : Option ChanScale := lookup s.ing.scales c

/-- A polar phasor in rectangular form, its angle in rad (R129, which gives no rounding). -/
def rectangular (m a : Rat) : Word × Word :=
  let c := Elem.cosSin (Elem.turns a)
  (F32.conv (m * c.1), F32.conv (m * c.2))

/-- A phasor in rectangular binary32 form from its bytes. A polar float whose magnitude or angle is not finite has no stated result. -/
def phasorValue (l : Layout) (scale : Word) (b : List Byte) : Word × Word :=
  if l.phFloat then
    let w0 := word (beNat (b.take 4))
    let w1 := word (beNat (b.drop 4))
    if !l.polar then (w0, w1)
    else if F32.isFinite w0 && F32.isFinite w1 then rectangular (F32.toRat w0) (F32.toRat w1)
    else (Config.nonFinite [w0, w1, 0#32], Config.nonFinite [w0, w1, 1#32])
  else
    let k : Rat := (fld scale 23 0 : Rat) / 100000
    if l.polar then rectangular ((beNat (b.take 2) : Rat) * k) ((be16s (b.drop 2) : Rat) / 10000)
    else (F32.conv ((be16s (b.take 2) : Rat) * k), F32.conv ((be16s (b.drop 2) : Rat) * k))

/-- Pieces of `n` bytes each, `k` of them. -/
def pieces (n : Nat) : Nat → List Byte → List (List Byte)
  | 0, _ => []
  | k + 1, b => b.take n :: pieces n k (b.drop n)

/-- The channel values of a block: channel, words 0 and 1. -/
def State.blockValues (s : State) (l : Layout) (b : List Byte) : List (Nat × Word × Word) :=
  let pw := if l.phFloat then 8 else 4
  let fw := if l.fqFloat then 4 else 2
  let aw := if l.anFloat then 4 else 2
  let b1 := b.drop 2
  let b2 := b1.drop (l.ph * pw)
  let b3 := b2.drop (2 * fw)
  let b4 := b3.drop (l.an * aw)
  let nominal : Rat := match s.scaleOf l.base with
    | some c => (c.scale.toNat : Rat)
    | none => 50
  let sc (c : Nat) : Word := ((s.scaleOf c).map (·.scale)).getD 1#32
  let fq := if l.fqFloat then (word (beNat (b2.take 4)), word (beNat ((b2.drop 4).take 4)))
    else (F32.conv (nominal + (be16s (b2.take 2) : Rat) / 1000), F32.conv ((be16s ((b2.drop 2).take 2) : Rat) / 100))
  [(l.base, fq.1, 0#32), (l.base + 1, fq.2, 0#32)] ++
  ((upto l.ph).zip (pieces pw l.ph b1)).map (fun p =>
    let c := l.base + 2 + p.1
    let v := phasorValue l (sc c) p.2
    (c, v.1, v.2)) ++
  ((upto l.an).zip (pieces aw l.an b3)).map (fun p =>
    let c := l.base + l.anOff + p.1
    (c, (if l.anFloat then word (beNat p.2) else F32.conv ((be16s p.2 : Rat) * ((signed 24 (sc c).toNat) : Rat))), 0#32)) ++
  ((upto l.dg).zip (pieces 2 l.dg b4)).map (fun p =>
    let c := l.base + l.dgOff + p.1
    let mask := ((s.scaleOf c).map (·.mask)).getD 0#16
    (c, put 15 0 (beNat p.2) ||| put 31 16 mask.toNat, 0#32))

/-- The quality bits a STAT word gives (Table 6-5): TEST where the block is test data, MODIFIED, TRIGGER. -/
def statFlags (stat : Nat) : Nat :=
  (if stat / 2 ^ 14 = 2 then 64 else 0) + (if stat / 2 ^ 9 % 2 = 1 then 128 else 0) + (if stat / 2 ^ 11 % 2 = 1 then 512 else 0)

/-- Whether the STAT word of a block refuses it (R132). -/
def State.statRefused (s : State) (j : Nat) (b : List Byte) : Bool :=
  let top := beNat (b.take 2) / 2 ^ 14
  top == 3 || (top == 2 && !bit (s.sw j 0) 14)

/-- One block delivered or refused by its STAT (R132). -/
def State.takeBlock (s : State) (j : Nat) (b : List Byte) (t : Instant) (f : BufFrame) (tqBad : Bool) : State :=
  let stat := beNat (b.take 2)
  if s.statRefused j b then s.ingCount 9 1
  else
    let degraded := tqBad || stat / 2 ^ 13 % 2 = 1 || f.degraded
    let flags := statFlags stat + (if degraded then 16 else 0)
    let vals := (s.blockValues (s.layoutOf j) b).map (fun v => (⟨v.1, t, f.arrival, v.2.1, v.2.2, flags, f.epoch⟩ : ChanValue))
    s.setIng (fun g => { g with values := g.values ++ vals })

/-- The blocks of a frame, each with its entry and its bytes. -/
def State.frameBlocks (s : State) : List Nat → List Byte → List (Nat × List Byte)
  | [], _ => []
  | j :: rest, b => let n := (s.layoutOf j).size; (j, b.take n) :: State.frameBlocks s rest (b.drop n)

/-- An instant remembered for a stream, the last `n` of them kept (R133). -/
def State.remember (s : State) (e n : Nat) (t : Instant) : State :=
  s.setIng (fun g => { g with recent := setKey g.recent e ((t :: (lookup g.recent e).getD []).take n) })

def State.remembered (s : State) (e : Nat) (t : Instant) : Bool := ((lookup s.ing.recent e).getD []).contains t

/-! ### Unknown sources (R138) -/

/-- A key seen that matches no entry: listed among the 64 most recently seen. -/
def State.listUnknown (s : State) (k : StreamKey) (port : Nat) : State :=
  match s.ing.unknown.find? (fun u => u.key == k) with
  | some u => s.setIng (fun g => { g with
      unknown := { u with count := u.count + 1, last := s.now, port := port } :: g.unknown.filter (fun v => v.key != k) })
  | none => (s.setIng (fun g => { g with unknown := (⟨k, port, 1, s.now, s.now⟩ :: g.unknown).take 64 })).status Reg.ING_STAT 2

/-- A frame of a parsed kind that matches no entry (R138): dropped, and copied to ring 0 at most 1,000 times a second. -/
def State.unknownFrame (s : State) (port : Nat) (k : StreamKey) (f : BufFrame) : State :=
  let s1 := (s.ingDrop port 1).listUnknown k port
  if !s1.rb Reg.ING_CTL 1 then s1
  else
    let second := s1.up / sec 1
    let n := if s1.ing.copied.1 = second then s1.ing.copied.2 else 0
    if n < 1000 then (s1.setIng (fun g => { g with copied := (second, n + 1) })).toRing port 0 (f.len - 4) 0#32 0#16 f.arrival
    else s1

/-! ### The parser (R116 to R118, R130, R131, R137) -/

/-- The measurement instant of a C37.118.2 frame (R130). -/
def c37Instant (soc : Nat) (utc : Int) (frac base : Nat) : Instant :=
  sec ((soc : Int) + utc).toNat + frac * sec 1 / base

/-- A frame of another size than its entry's (R135): the entries become CFG_STALE, and the firmware applies a configuration it holds of
that size, or fetches one. -/
def State.sizeMismatch (s : State) (e size : Nat) : State :=
  let s1 := (s.setStates e 3).setFw e (fun x => { x with staleSize := some size })
  if ((s1.fw e).held.map (·.frameSize)) = some size then s1.setFw e (fun x => { x with applyDue := some (s1.up + ms 1) })
  else s1.startFetch e 1 (some size)

/-- STAT bit 10 of a stream's blocks: while it is set the firmware fetches every 10 s, and at once when it appears (R134). -/
def State.noteBit10 (s : State) (e : Nat) (on : Bool) : State :=
  let was := (s.fw e).bit10
  let s1 := s.setFw e (fun x => { x with bit10 := on })
  if on && !was then (s1.startFetch e 1 none).setFw e (fun x => { x with pollDue := some (s1.up + sec 10) }) else s1

/-- The key of a C37.118.2 frame (R122). -/
def c37Key (c : C37Frame) : StreamKey :=
  ⟨0, BitVec.ofNat 48 c.srcIp.toNat, c.dstPort, BitVec.ofNat 16 (beNat ((c.bytes.drop 4).take 2)), 0#32⟩

/-- Parsing of a C37.118.2 data frame, past the checks of R116, by those of Table 4-5 in order. A frame matches every entry of its stream
(R120), so one of them that is not ACTIVE drops it (R121); a frame whose blocks are all refused has delivered nothing, so its instant is not
remembered (R133). -/
def State.parseC37 (s : State) (port : Nat) (f : BufFrame) (c : C37Frame) : State :=
  let b := c.bytes
  let size := beNat ((b.drop 2).take 2)
  let key := c37Key c
  match s.findKey key with
  | none => s.unknownFrame port key f
  | some e =>
    let es := s.streamEntries e
    if es.any (fun j => wState (s.sw j 0) != 2) then s.ingDrop port 12
    else if !bit (s.sw e 0) (16 + port) then s.ingDrop port 13
    else if size ≠ fld (s.sw e 5) 15 0 then (s.ingDrop port 5).sizeMismatch e size
    else
      let base := fld (s.sw e 6) 23 0
      let frac := beNat ((b.drop 11).take 3)
      let tq := ((b[10]?).getD 0#8).toNat % 16
      if decide (size < 16 + total (es.map (fun j => (s.layoutOf j).size))) || base = 0 || decide (base ≤ frac) then s.ingDrop port 4
      else
        let t := c37Instant (beNat ((b.drop 6).take 4)) s.utcOffset frac base
        if s.remembered e t then s.ingDrop port 10
        else
          let blocks := s.frameBlocks es (b.drop 14)
          let tqBad := decide (s.rf Reg.ING_CTL 7 4 < tq)
          let s0 := s.ingCount 0 1
          let s1 := if blocks.all (fun p => s.statRefused p.1 p.2) then s0 else s0.remember e 16 t
          let s2 := blocks.foldl (fun s p => s.takeBlock p.1 p.2 t f tqBad) s1
          s2.noteBit10 e (blocks.any (fun p => beNat (p.2.take 2) / 2 ^ 10 % 2 == 1))

/-- One ASDU by the checks of rows 11 to 13 of Table 4-5, delivered to estimation and capture where it passes. -/
def State.takeAsdu (s : State) (e : Nat) (f : BufFrame) (a : Asdu) : State :=
  let rate := svRate (fld (s.sw e 5) 2 0)
  if a.confRev ≠ s.sw e 7 then
    let s1 := s.ingCount 6 1
    if s1.ing.confBad.contains e then s1 else (s1.setIng (fun g => { g with confBad := e :: g.confBad })).status Reg.ING_STAT 1
  else if a.smpSynch < fld (s.sw e 0) 12 11 then s.ingCount 11 1
  else
    let off := a.smpCnt * sec 1 / rate
    let second := (f.arrival - off) / sec 1
    let t := sec second + off
    let s0 := s.setIng (fun g => { g with confBad := g.confBad.filter (· != e) })
    if s0.remembered e t then s0.ingCount 10 1
    else
      let smp : SvSample := ⟨fld (s.sw e 5) 25 16, rate, second * rate + a.smpCnt, t, f.arrival, f.epoch, a.data,
        decide (a.smpSynch ≤ 1) || f.degraded⟩
      (s0.remember e 64 t).setIng (fun g => { g with samples := g.samples ++ [smp] })

/-- The key of a sampled-value frame (R122), by the svID of its first ASDU. -/
def svKey (v : SvFrame) : StreamKey :=
  ⟨if v.routed then 2 else 1, v.src, if v.routed then v.dstPort else 0#16, v.appid, ((v.asdus.head?).map (·.svIdCrc)).getD 0#32⟩

/-- What a sampled-value frame carries beside its authentication value, as numbers. -/
def SvFrame.content (v : SvFrame) : List Nat :=
  [v.src.toNat, v.dstPort.toNat, v.appid.toNat, v.noAsdu] ++ v.asdus.flatMap (fun a =>
    [a.svIdCrc.toNat, a.smpCnt, a.confRev.toNat, a.smpSynch, a.smpRate.getD 0] ++ a.data.flatMap (fun d => [d.1.toNat, d.2.toNat]))

/-- Whether the authentication of a frame passes (R118): any value where auth_en is 0; else a value that verifies under a usable
slot of class HMAC or GMAC, each verification one use of it. -/
def State.svAuth (s : State) (e : Nat) (v : SvFrame) : Bool × State :=
  if !bit (s.sw e 0) 13 then (true, s)
  else
    let slot := fld (s.sw e 6) 31 24
    match v.auth with
    | some a =>
      let r := s.useKeySlot slot [1, 2]
      if r.1 = 0 then (Config.authVerifies (s.keyBytes slot) v.content a, r.2) else (false, s)
    | none => (false, s)

/-- Parsing of a sampled-value frame, past the checks of R116, by those of Table 4-5 in order. -/
def State.parseSv (s : State) (port : Nat) (f : BufFrame) (v : SvFrame) : State :=
  let key := svKey v
  if decide (v.appid.toNat < 0x4000) || decide (0x7FFF < v.appid.toNat) || v.noAsdu = 0 || decide (8 < v.noAsdu) ||
      v.asdus.length != v.noAsdu || !v.asdus.all (fun a => a.complete && a.data.length == 8) then s.ingDrop port 4
  else if v.routed && v.encrypted then s.ingDrop port 8
  else
    match s.findKey key with
    | none => s.unknownFrame port key f
    | some e =>
      let rate := svRate (fld (s.sw e 5) 2 0)
      if wState (s.sw e 0) ≠ 2 then s.ingDrop port 12
      else if !bit (s.sw e 0) (16 + port) then s.ingDrop port 13
      else
        let r := s.svAuth e v
        if !r.1 then r.2.ingDrop port 7
        else if v.asdus.any (fun a => decide (rate ≤ a.smpCnt) || (a.smpRate.isSome && a.smpRate != some rate)) then r.2.ingDrop port 4
        else v.asdus.foldl (fun s a => s.takeAsdu e f a) (r.2.ingCount 0 1)

/-- A buffered frame whose checks of R116 have passed. -/
def State.parseChecked (s : State) (port : Nat) (f : BufFrame) : State :=
  match f.body with
  | .c37 c => s.parseC37 port f c
  | .sv v => s.parseSv port f v
  | _ => s

/-- The counter of the first check of R116 that a frame fails (Table 4-5). -/
def checkFail : FrameBody → Option Nat
  | .c37 c =>
    let b := c.bytes
    if !c.csumOk then some 3
    else if crc16 (b.take (b.length - 2)) ≠ beNat (b.drop (b.length - 2)) then some 2
    else if beNat ((b.drop 2).take 2) ≠ b.length || decide (b.length < 16) then some 4
    else none
  | .sv v => if v.routed && !v.csumOk then some 3 else none
  | _ => none

/-- The entry of a frame, and the counter of the check that an injected fault makes it fail: CHK, or the checksum of a routed frame. -/
def State.checkTarget (s : State) : FrameBody → Option (Nat × Nat)
  | .c37 c => (s.findKey (c37Key c)).map (fun e => (e, 2))
  | .sv v => if v.routed then (s.findKey (svKey v)).map (fun e => (e, 3)) else none
  | _ => none

/-- The channels and instants that a frame would have carried are looked up, and reported with the next crossing (R577). -/
def State.markFrame (s : State) (port : Nat) (f : BufFrame) : State :=
  let vs := (s.parseChecked port f).ing.values.drop s.ing.values.length
  s.setIng (fun g => { g with reports := g.reports ++ vs.map (fun v => (v.chan, v.t)) })

/-- A frame that fails a check of R116 is dropped, and detector 21 fires with the drop's event (R137, R529, R577). -/
def State.parseFrame (s : State) (port : Nat) (f : BufFrame) : State :=
  let real := checkFail f.body
  match s.checkTarget f.body, real with
  | none, none => s.parseChecked port f
  | none, some n => (s.ingDrop port n).detected 21
  | some (e, n), _ =>
    let r := s.occasion 21 e real.isSome
    match r.1 with
    | none => r.2.parseChecked port f
    | some true => ((r.2.markFrame port f).ingCount n 1).raiseInjected 29 1 [word port, word n] |>.detected 21
    | some false => (r.2.ingDrop port (real.getD n)).detected 21

/-- The port whose frame is parsed next: round-robin over the ports whose buffers hold one (R140). -/
def State.nextParse (s : State) : Option (Nat × BufFrame) :=
  ((upto 10).map (fun i => (s.ing.next + i) % 10)).foldl (fun acc p => match acc with
    | some x => some x
    | none => (((s.ing.buffers[p]?).getD []).head?).map (fun f => (p, f))) none

/-- PARSE_FRAME (R137, R140): the oldest frame of the next port, wholly under the table's present contents (R124). A spilled frame that
comes poisoned is dropped and counted in ing_ovf_drop (R539). -/
def execParseFrame (at_ : Instant) (s : State) : Host.Outcome State Fault Refusal :=
  let s1 := s.advance at_
  if !s1.runs Isle.ingress then .next s1
  else
    match s1.nextParse with
    | some (p, f) =>
      let s2 := s1.setIng (fun g => { g with buffers := updAt g.buffers p (fun l => l.drop 1), next := (p + 1) % 10 })
      let x := if f.spilled then s2.takePoison 6 else (none, s2)
      .next (match x.1 with
        | none => x.2.parseFrame p f
        | some inj => (((if inj then x.2.markFrame p f else x.2).count (Reg.ING_OVF_DROP p) 1).status Reg.ING_STAT 0).raise 29 1 [word p, 15#32])
    | none => .next s1

/-! ### Configuration events -/

/-- HELD_CONFIG_APPLY (R135): within 1 ms of the first frame of its size, the held configuration is written, or its entries are
SUSPENDED. -/
def execHeldConfigApply (at_ : Instant) (e : Fin 16384) (s : State) : Host.Outcome State Fault Refusal :=
  match (s.fw e.val).applyDue, (s.fw e.val).held with
  | some u, some c =>
    let s0 := s.advance at_
    let s1 := if u < s0.up then s.advanceUp u else s0
    .next (if s1.cfgFits e.val c then s1.writeCfg e.val c else s1.suspend e.val 1)
  | _, _ => .next s

/-- CONFIG_FRAME_RECEIVE (R134, R135): a fetched or unsolicited configuration of the source of a valid stream. -/
def execConfigFrameReceive (at_ : Instant) (c : CfgFrame) (s : State) : Host.Outcome State Fault Refusal :=
  let s1 := s.advance at_
  match s1.findKey ⟨0, BitVec.ofNat 48 c.srcIp.toNat, c.dstPort, c.idcode, 0#32⟩ with
  | some e => .next (if s1.runs Isle.control then s1.takeCfg e c else s1)
  | none => .next s1

/-- CFG_POLL_TIMER (R134): the firmware fetches a stream's configuration at its interval. -/
def execCfgPollTimer (e : Fin 16384) (s : State) : Host.Outcome State Fault Refusal :=
  match (s.fw e.val).pollDue with
  | some u =>
    let s1 := s.advanceUp u
    let s2 := s1.setFw e.val (fun x => { x with pollDue := some (s1.nextPoll e.val) })
    .next (if (s2.fw e.val).fetch.isSome then s2 else s2.startFetch e.val 1 none)
  | none => .next s

/-- CFG_FETCH_TIMEOUT (R135): a fetch without reply within 5 s; for CFG_STALE entries it is repeated twice before they are
SUSPENDED, for others it changes no entry state. -/
def execCfgFetchTimeout (e : Fin 16384) (s : State) : Host.Outcome State Fault Refusal :=
  match (s.fw e.val).fetch with
  | some f =>
    let s1 := s.advanceUp f.due
    .next (if f.size.isSome then s1.fetchFailed e.val else s1.setFw e.val (fun x => { x with fetch := none }))
  | none => .next s

/-! ### Table accesses (R143, R144, Table 4-11) -/

/-- The words W0 to W7 of the table window. -/
def State.ingWindow (s : State) : List Word := (upto 8).map (fun i => s.reg (Reg.ING_TBL_W i))

def State.ingTblRead (s : State) : State :=
  let e := s.rf Reg.ING_TBL_IDX 13 0
  ((upto 8).foldl (fun s i => s.setReg (Reg.ING_TBL_W i) (s.sw e i)) s).setRf Reg.ING_TBL_CMD 30 28 0

/-- An entry written, with what the firmware keeps for it started anew where it becomes a key entry in LEARNING, and dropped where it
becomes FREE. A configuration that the firmware holds for the same source stays held (R134: only a later configuration discards it), and an
estimation slot whose entry is no longer ACTIVE is IDLE. -/
def State.writeEntry (s : State) (e : Nat) (ws : List Word) : State :=
  let w0 := (ws[0]?).getD 0#32
  let same := wValid (s.sw e 0) && isKeyEntry (s.sw e 0) && keyOf (s.entryWords e) == keyOf ws
  let s1 := (s.setEntry e ws).setIng (fun g => { g with confBad := g.confBad.filter (· != e), recent := dropKey g.recent e })
  if !wValid w0 || !isKeyEntry w0 || wKind w0 != 0 then (s1.setIng (fun g => { g with fw := dropKey g.fw e })).pecSettle
  else
    let s2 := s1.setFw e (fun x => { x with
      fetch := none, held := if same then x.held else none, applyDue := none, staleSize := none
      pollDue := if wState w0 = 4 then none else some (s1.nextPoll e) })
    (if wState w0 = 1 then s2.startFetch e 1 none else s2).pecSettle

def State.ingTblWrite (s : State) : State :=
  let e := s.rf Reg.ING_TBL_IDX 13 0
  let err := s.entryErr e s.ingWindow
  let s1 := s.setRf Reg.ING_TBL_CMD 30 28 err
  if err = 0 then s1.writeEntry e s.ingWindow else s1

/-- ING_TBL_READ (R143). -/
def execIngTblRead (at_ : Instant) (s : State) : Host.Outcome State Fault Refusal := .next (s.advance at_).ingTblRead

/-- ING_TBL_WRITE (R144). -/
def execIngTblWrite (at_ : Instant) (s : State) : Host.Outcome State Fault Refusal := .next (s.advance at_).ingTblWrite

/-! ### Commands (Table 4-6) -/

/-- The words of a key. -/
def StreamKey.words (k : StreamKey) : List Word :=
  [word k.kind.val, word k.src.toNat, word (k.src.toNat / 2 ^ 32), put 31 16 k.port.toNat ||| put 15 0 k.id.toNat, k.svId]

/-- ING_STATUS: the counters, the table's use and the spill level. -/
def bodyIngStatus (s : State) : Res :=
  ok ((upto 15).map (fun i => s.reg (Reg.ING_CNT i)) ++
    [word s.validEntries.length, word (s.validEntries.filter (fun j => wKind (s.sw j 0) != 0)).length, word (ceilDiv s.spillBytes 1024)] ++
    (upto 10).map (fun p => s.reg (Reg.ING_OVF_DROP p))) s

def execIngStatus (h : Hdr) (s : State) : Host.Outcome State Fault Refusal := .next (runCmd 0x0400 h bodyIngStatus s)

/-- The rate code of a rate. -/
def dsRateCode (r : Nat) : Option Nat := (upto 5).find? (fun c => svRate c == r)

/-- The entries that ING_STREAM_ADD makes for a stream. -/
def addWords (a : StreamAddArgs) (i : Nat) (b : AddBlock) : List Word :=
  let kw := keyWords a.key
  let mask := (a.ports.getD 0x3FF#10).toNat
  let base := putBit 31 true ||| put 25 16 mask
  if a.key.kind = 0 then
    [base ||| put 30 28 1 ||| putBit 15 (i != 0) ||| putBit 14 a.acceptTest, if i = 0 then kw.1 else 0#32,
     if i = 0 then kw.2.1 else 0#32, 0#32, put 17 0 b.chanBase ||| put 27 18 b.chanSpan, put 25 16 i, 0#32,
     match b.offsets with
     | some (an, dg) => put 9 0 an ||| put 19 10 dg
     | none => 0#32]
  else
    [base ||| put 30 28 2 ||| put 27 26 a.key.kind.val ||| putBit 13 a.auth.isSome ||| put 12 11 a.synchReq, kw.1, kw.2.1, kw.2.2, 0#32,
     put 2 0 ((dsRateCode a.rate).getD 5) ||| put 25 16 a.svSlot, put 31 24 (a.auth.getD 0), a.confRev]

/-- The lowest run of `n` consecutive FREE entries (R120). -/
def State.freeRun (s : State) (n : Nat) : Option Nat :=
  let used := s.validEntries ++ [16384]
  let r := used.foldl (fun (acc : Nat × Option Nat) e =>
    match acc.2 with
    | some x => (acc.1, some x)
    | none => if acc.1 + n ≤ e then (acc.1, some acc.1) else (e + 1, none)) (0, none)
  r.2

/-- The first status that refuses one of the new entries, each checked against those before it. -/
def State.addRefused (s : State) (e : Nat) : List (Nat × List Word) → Nat
  | [] => 0
  | (i, ws) :: rest =>
    let err := s.entryErr (e + i) ws
    if err ≠ 0 then entryStatus err else State.addRefused (s.setEntry (e + i) ws) e rest

/-- ING_STREAM_ADD (R120, R122, R126, R127): the entries placed in the lowest run of FREE ones; C37.118.2 entries start in LEARNING. -/
def bodyIngStreamAdd (a : StreamAddArgs) (s : State) : Res :=
  let blocks := if a.key.kind = 0 then a.blocks else [⟨0, 0, none⟩]
  let n := blocks.length
  if n = 0 || decide (1024 < n) then refuse St.BAD_PARAM s
  else if a.key.kind ≠ 0 && (decide (3 ≤ a.synchReq) || decide (1024 ≤ a.svSlot) || (dsRateCode a.rate).isNone ||
      decide (256 ≤ a.auth.getD 0)) then refuse St.PARAM_RANGE s
  else if blocks.any (fun b => b.offsets.any (fun o => decide (1024 ≤ o.1) || decide (1024 ≤ o.2))) then refuse St.PARAM_RANGE s
  else if blocks.any (fun b => decide (262144 ≤ b.chanBase) || decide (1024 ≤ b.chanSpan)) then refuse 0x0411 s
  else if (s.findKey a.key).isSome then refuse 0x0410 s
  else
    match s.freeRun n with
    | none => refuse 0x0412 s
    | some e =>
      let words := ((upto n).zip blocks).map (fun p => (p.1, addWords a p.1 p.2))
      let err := s.addRefused e words
      if err ≠ 0 then refuse err s
      else
        let s1 := words.foldl (fun s p => s.setEntry (e + p.1) p.2) s
        let s2 := if a.key.kind = 0 then
            (s1.setFw e (fun _ => { freshFw with tcp := a.tcp, cfg3 := a.cfg3, startData := a.startData, pollDue := some (s1.up + sec s1.cfgPoll) })).startFetch e 1 none
          else s1
        ok [word e] s2

def execIngStreamAdd (h : Hdr) (a : StreamAddArgs) (s : State) : Host.Outcome State Fault Refusal :=
  .next (runCmd 0x0401 h (bodyIngStreamAdd a) s)

/-- The key entry that a command names, where a valid stream matches (R142). -/
def State.findStream (s : State) : StreamRef → Option Nat
  | .key k => s.findKey k
  | .index i => if wValid (s.sw i 0) && isKeyEntry (s.sw i 0) then some i else none

/-- The stream's entries FREE, and nothing kept for it. -/
def State.freeStream (s : State) (e : Nat) : State :=
  (((s.streamEntries e).foldl (fun s j => s.setEntry j []) s).setIng (fun g => { g with
    fw := dropKey g.fw e, recent := dropKey g.recent e, confBad := g.confBad.filter (· != e) })).pecSettle

def bodyIngStreamRemove (r : StreamRef) (s : State) : Res :=
  match s.findStream r with
  | some e => ok [] (s.freeStream e)
  | none => refuse 0x0415 s

def execIngStreamRemove (h : Hdr) (r : StreamRef) (s : State) : Host.Outcome State Fault Refusal :=
  .next (runCmd 0x0402 h (bodyIngStreamRemove r) s)

/-- ING_STREAM_LIST: every valid entry with its first word and its channel word. -/
def bodyIngStreamList (s : State) : Res :=
  ok (s.validEntries.flatMap (fun e => [word e, s.sw e 0, s.sw e 4])) s

def execIngStreamList (h : Hdr) (s : State) : Host.Outcome State Fault Refusal := .next (runCmd 0x0403 h bodyIngStreamList s)

/-- ING_UNKNOWN (R138): the keys with their port, count, and first and last instant. -/
def bodyIngUnknown (s : State) : Res :=
  ok (s.ing.unknown.flatMap (fun u => u.key.words ++ [word u.port, word u.count] ++ instantWords u.first ++ instantWords u.last)) s

def execIngUnknown (h : Hdr) (s : State) : Host.Outcome State Fault Refusal := .next (runCmd 0x0404 h bodyIngUnknown s)

/-- ING_CFG_FETCH (R134, R142). -/
def bodyIngCfgFetch (r : StreamRef) (s : State) : Res :=
  match s.findStream r with
  | some e => ok [] (if wKind (s.sw e 0) = 0 then s.startFetch e 1 (s.fw e).staleSize else s)
  | none => refuse 0x0415 s

def execIngCfgFetch (h : Hdr) (r : StreamRef) (s : State) : Host.Outcome State Fault Refusal :=
  .next (runCmd 0x0405 h (bodyIngCfgFetch r) s)

/-- ING_HEADER (R142): the last header frame of a stream. -/
def bodyIngHeader (r : StreamRef) (s : State) : Res :=
  match s.findStream r with
  | some e => ok (wordsLE (s.fw e).header) s
  | none => refuse 0x0415 s

def execIngHeader (h : Hdr) (r : StreamRef) (s : State) : Host.Outcome State Fault Refusal :=
  .next (runCmd 0x0406 h (bodyIngHeader r) s)

/-- ING_STREAM_RAW: entry words as given, under the checks of a table write. -/
def bodyIngStreamRaw (a : StreamRawArgs) (s : State) : Res :=
  if 16384 ≤ a.index then refuse St.PARAM_RANGE s
  else
    let err := s.entryErr a.index a.words.toList
    if err ≠ 0 then refuse (entryStatus err) s else ok [] (s.writeEntry a.index a.words.toList)

def execIngStreamRaw (h : Hdr) (a : StreamRawArgs) (s : State) : Host.Outcome State Fault Refusal :=
  .next (runCmd 0x0480 h (bodyIngStreamRaw a) s)

/-- ING_CHAN_SCALE (R129): types, scale factors and masks of channels. -/
def bodyIngChanScale (a : ChanScaleArgs) (s : State) : Res :=
  if a.chans.any (fun c => decide (estimatedBase ≤ c.1)) then refuse St.PARAM_RANGE s
  else ok [] (s.setIng (fun g => { g with scales := a.chans.foldl (fun l c => setKey l c.1 c.2) g.scales }))

def execIngChanScale (h : Hdr) (a : ChanScaleArgs) (s : State) : Host.Outcome State Fault Refusal :=
  .next (runCmd 0x0481 h (bodyIngChanScale a) s)

/-- ING_TUNE (R579 on size_mib). A size above 256 MiB is taken as 256 (Table 4-8), a cfg_poll of 0 as 1 (Table 4-9). -/
def bodyIngTune (a : IngTuneArgs) (s : State) : Res :=
  let size := a.sizeMib.map (min 256)
  if decide (15 < a.tqMax.getD 0) || decide (255 < a.cfgPoll.getD 1) then refuse St.PARAM_RANGE s
  else if s.rb Reg.ING_CTL 31 && size.isSome && size != some (s.rf Reg.ING_SPILL_CTL 8 0) then refuse St.STATE s
  else
    let s1 := match size with | some v => s.setRf Reg.ING_SPILL_CTL 8 0 v | none => s
    let s2 := match a.tqMax with | some v => s1.setRf Reg.ING_CTL 7 4 v | none => s1
    let s3 := match a.cfgPoll with | some v => s2.setRf Reg.ING_CTL 15 8 v | none => s2
    ok [] (match a.unkToFw with | some b => s3.setRb Reg.ING_CTL 1 b | none => s3)

def execIngTune (h : Hdr) (a : IngTuneArgs) (s : State) : Host.Outcome State Fault Refusal :=
  .next (runCmd 0x0482 h (bodyIngTune a) s)

/-! ### Registers and reset (R143) -/

/-- The ingress fields read from the state. -/
def State.ingView (s : State) (a : Nat) : Word :=
  if a = Reg.ING_STAT then putBit 3 (decide (0 < s.spillBytes))
  else if a = Reg.ING_USE then
    put 14 0 s.validEntries.length ||| put 26 16 (s.validEntries.filter (fun j => wKind (s.sw j 0) != 0)).length
  else if a = Reg.ING_SPILL_STAT then put 18 0 (ceilDiv s.spillBytes 1024)
  else 0#32

/-- A reset of the ingress island: its registers, and every frame held, discarded without count; the stream table stays. -/
def State.resetIngress (s : State) : State :=
  (s.resetRegs (fun a => blockOf a == 4)).setIng (fun g => { g with
    buffers := g.buffers.map (fun _ => []), recent := [], confBad := [], reports := g.reports.filter (fun m => decide (estimatedBase ≤ m.1)) })

end Sys2Proof.Machine
end

