-- ==== Sys2Proof/Machine/KeyStore.lean ====
section
/-! DEFINITION. Operations of the key store (chapter 13): creating, destroying and replacing keys, invalidating a parent, and the life cycle. -/

namespace Sys2Proof.Machine

/-! ### Slots (R384, R387, R392) -/

/-- A key put into a slot as two shares, one of them random (R392). -/
def State.setShares (s : State) (n : Nat) (key : List Byte) : State :=
  let r := s.random key.length
  let m := padTo key.length r.1
  r.2.updKslot n (fun x => { x with shareA := m, shareB := xorBytes key m })

/-- What a creation gives a slot. -/
structure KeyNew where
  cls         : Nat
  key         : List Byte
  uses        : Word
  expire      : Bool
  cascade     : Bool
  exportNever : Bool
  origin      : Nat
  parent      : Option Nat
deriving DecidableEq, Repr

/-- A key created in a slot (R384, R389): a signing key is never exported. -/
def State.createKey (s : State) (n : Nat) (k : KeyNew) : State :=
  (s.updKslot n (fun _ => { emptySlot with
    st := .active, cls := k.cls, len := k.key.length, parent := k.parent, uses := k.uses, expire := k.expire, cascade := k.cascade
    exportNever := k.exportNever || k.cls == 3, origin := k.origin, svc := s.key.lc == .service })).setShares n k.key

/-- A KEY event (Table 12-1): the slot, what happened and how it ended. What happened: 0 destroyed, 1 orphaned, 2 lost at power-up, 3
replacement resolved after a loss of power. -/
def State.keyEvent (s : State) (slot what outcome : Nat) : State := s.raise 25 0 [word slot, word what, word outcome]

/-- The shadow of a slot. -/
def State.shadow (s : State) (n : Nat) : Option KeyShadow := s.key.shadows.find? (fun x => x.slot == n)

def State.dropShadow (s : State) (n : Nat) : State := s.setKeys (fun k => { k with shadows := k.shadows.filter (fun x => x.slot != n) })

/-- A pending replacement discarded (Table 13-3): one that was being committed fails with STATE. -/
def State.discardShadow (s : State) (n : Nat) : State :=
  match s.shadow n with
  | some x =>
    let s1 := s.dropShadow n
    if x.staged.isNone then s1.complete x.session x.seq St.STATE [] else s1
  | none => s

/-- Associations installed from a slot are retired (R401). -/
def State.retireAssocs (s : State) (n : Nat) : State :=
  (upto 8).foldl (fun (s : State) p => s.updPort p (fun x =>
    let m := x.macsec
    let gone := (m.tx.filter (fun b => b.slot == n)).map (·.an)
    { x with macsec := { m with
        tx := m.tx.filter (fun b => b.slot != n)
        txUse := match m.txUse with
          | some an => if gone.contains an then none else some an
          | none => none
        rx := m.rx.map (fun c => (c.1, { c.2 with assocs := c.2.assocs.filter (fun b => b.slot != n) })) } })) s

/-- The contents of a slot destroyed, and the engines that used it (R401); a pending replacement of it goes on (Table 13-3). -/
def State.wipeSlot (s : State) (n : Nat) : State :=
  let x := s.kslot n
  let s1 := (s.setKeys (fun k => { k with shadows := k.shadows.map (fun y => if y.slot == n then { y with old := x } else y) })).updKslot n
    (fun _ => emptySlot)
  ((s1.retireAssocs n).pubKeyStops).keyEvent n 0 0

/-- A slot destroyed and a pending replacement of it discarded (Table 13-3). -/
def State.wipeKey (s : State) (n : Nat) : State := (s.discardShadow n).wipeSlot n

/-- The slot whose key a replacement follows: the slot itself, or as it was where it has been destroyed since. -/
def KeyShadow.base (x : KeyShadow) (now : KeySlot) : KeySlot := if now.st == .empty then x.old else now

/-- The children of a parent: the slots that hold it as their parent and have not been orphaned. -/
def State.childrenOf (s : State) (n : Nat) : List Nat :=
  (s.key.slots.filter (fun p => p.2.parent == some n && p.2.st != .empty && p.2.st != .orphaned && !p.2.dying)).map (·.1)

/-- A parent invalidated (R400): a child without cascade is ORPHANED; one with cascade is destroyed, at once or at the end of its current use,
and its own children are treated in turn. -/
def State.invalidate (s : State) (n : Nat) : Nat → State
  | 0 => s
  | fuel + 1 => (s.childrenOf n).foldl (fun (s : State) c =>
      let x := s.kslot c
      if !x.cascade then
        (((s.updKslot c (fun x => { x with st := .orphaned })).keyCount 2).status Reg.KEY_STAT 3).keyEvent c 1 0
      else if s.up < x.usedUntil then s.updKslot c (fun x => { x with dying := true })
      else State.invalidate ((s.wipeSlot c).keyCount 3) c fuel) s

/-- A slot destroyed, with R400 applied to its children. -/
def State.destroyKey (s : State) (n : Nat) : State := (s.wipeKey n).invalidate n 256

/-- A committed replacement (R395, R398): the new key in force, gen one higher, and R400 applied to the children of the old. -/
def State.installKey (s : State) (x : KeyShadow) : State :=
  let s1 := s.dropShadow x.slot
  let s2 := (s1.updKslot x.slot (fun now => let k := x.base now; { k with
    st := .active, uses := x.uses, origin := x.origin, parent := x.parent, svc := x.svc, gen := k.gen + 1#16, dying := false })).setShares
      x.slot x.key
  s2.invalidate x.slot 256

/-! ### Wrapped keys (R391) -/

/-- The 16-byte attribute block. -/
def attrBlock (cls len flags : Nat) (uses : Word) (kcv : List Byte) : List Byte :=
  le 1 cls ++ le 1 len ++ le 1 flags ++ le 1 0 ++ bytesLE uses ++ padTo 3 kcv ++ le 5 0

def KeySlot.flags (x : KeySlot) : Nat := x.cascade.toNat + 2 * x.exportNever.toNat + 4 * x.expire.toNat

/-- What a wrapped key spells: class, flags, uses, check value and key. -/
structure Unwrapped where
  cls   : Nat
  len   : Nat
  flags : Nat
  uses  : Word
  kcv   : List Byte
  key   : List Byte
deriving DecidableEq, Repr

def parseWrapped (b : List Byte) : Unwrapped :=
  ⟨leNat (b.take 1), leNat ((b.drop 1).take 1), leNat ((b.drop 2).take 1), word (leNat ((b.drop 4).take 4)), (b.drop 8).take 3, b.drop 16⟩

/-- Whether a class allows a key length in bits. -/
def lengthFits (cls bits : Nat) : Bool := (classBits cls).contains bits

/-- A wrapped key taken apart under a key-encryption slot (R391): the key, or the status it is refused with. -/
def State.unwrap (s : State) (kek : Nat) (data : List Byte) : Except Nat Unwrapped × State :=
  let key := s.keyBytes kek
  let r := s.useKeySlot kek [4]
  if r.1 ≠ 0 then (.error r.1, r.2)
  else match Config.kwpUnwrap key data with
  | none => (.error 0x0D12, r.2.keyCount 5)
  | some b =>
    let w := parseWrapped b
    if !lengthFits w.cls (8 * w.len) || w.key.length != w.len || w.cls == 3 then (.error St.KEY_ATTR, r.2)
    else if checkValue w.cls w.key != w.kcv then (.error 0x0D10, r.2.keyCount 4)
    else (.ok w, r.2)

/-! ### The life cycle (R402 to R405) -/

/-- Whether a transition is listed in Table 13-4, and whether it needs a tag. -/
def transition (authEn : Bool) : Lifecycle → Lifecycle → Option Bool
  | .blank, .provisioned => some false
  | .provisioned, .deployed => if authEn then some true else none
  | .deployed, .service => some true
  | .service, .deployed => some true
  | .retired, .retired => none
  | _, .retired => some authEn
  | _, _ => none

/-- The slots that a transition destroys (Table 13-4). -/
def State.lostSlots (s : State) (from_ goal : Lifecycle) : List Nat :=
  match from_, goal with
  | .deployed, .service => (s.key.slots.filter (fun p => p.2.st != .empty && (p.2.cls == 0 || p.2.cls == 1 || p.2.cls == 2) &&
      !(s.rb Reg.KEY_CTL 16 && p.1 == s.rf Reg.KEY_CTL 15 8) && p.1 != s.rf Reg.EVR_CTL 15 8)).map (·.1)
  | .service, .deployed => (s.key.slots.filter (fun p => p.2.st != .empty && p.2.svc)).map (·.1)
  | _, .retired => (s.key.slots.filter (fun p => p.2.st != .empty)).map (·.1)
  | _, _ => []

/-- An accepted transition (R404, R535). -/
def State.changeLifecycle (s : State) (goal : Lifecycle) : State :=
  let from_ := s.key.lc
  let s0 := if goal == .deployed || goal == .retired then s.disarmAll else s
  let s1 := (s0.key.shadows.map (·.slot)).foldl (fun (s : State) n => s.discardShadow n) s0
  let s2 := (s1.lostSlots from_ goal).foldl (fun (s : State) n => if (s.kslot n).st == .empty then s else s.destroyKey n) s1
  let s3 := s2.setKeys (fun k => { k with lc := goal, changes := k.changes + 1 })
  (s3.status Reg.KEY_STAT 1).raise 26 0 [word from_.code, word goal.code]

/-! ### Reset and power (R393, R394, R399) -/

/-- Slots that expire are destroyed (R394). -/
def State.expireKeys (s : State) : State :=
  ((s.key.slots.filter (fun p => p.2.expire && p.2.st != .empty)).map (·.1)).foldl (fun (s : State) n =>
    if (s.kslot n).st == .empty then s else s.destroyKey n) s

/-- A reset of the Flacon island (R394, R409): pending replacements are discarded. -/
def State.resetFlacon (s : State) : State :=
  let s1 := (s.key.shadows.map (·.slot)).foldl (fun (s : State) n => s.discardShadow n) s
  (s1.expireKeys.setKeys (fun k => { k with nonce := none })).resetRegs (fun a => blockOf a == 13)

/-- The outcome of a replacement: transaction, slot, and NEW or OLD (R399), reported at once or at the next power-up. -/
def State.keepOutcome (s : State) (x : KeyShadow) (new atPowerUp : Bool) : State :=
  let o := if new then 1 else 2
  let s1 := s.setKeys (fun k => { k with txn := (x.txn, x.slot, o), txnDue := atPowerUp })
  if atPowerUp then s1 else (s1.status Reg.KEY_STAT 4).keyEvent x.slot 3 o

/-- Loss of power in the key store (R394, R398, R399): a replacement that was being committed ends as OLD or NEW, by whether its pointer was
being written; staged keys are gone. -/
def State.keysLosePower (s : State) : State :=
  let s1 := s.key.shadows.foldl (fun (s : State) x =>
    if x.staged.isSome then s.dropShadow x.slot
    else
      let new := Config.pointerWritten s.free
      let s2 := s.nextFree
      let s3 := if new then s2.installKey x else s2.dropShadow x.slot
      s3.keepOutcome x new true) s
  s1.expireKeys.setKeys (fun k => { k with nonce := none })

/-- Power-up in the key store (R393, R399): records that fail authentication leave their slots EMPTY, and an outcome is reported. -/
def State.keysPowerUp (s : State) (bad : List Nat) : State :=
  let s1 := (bad.filter (fun n => (s.kslot n).st != .empty)).foldl (fun (s : State) n =>
    ((s.destroyKey n).status Reg.KEY_STAT 5).keyEvent n 2 0) s
  if !s1.key.txnDue then s1
  else ((s1.setKeys (fun k => { k with txnDue := false })).status Reg.KEY_STAT 4).keyEvent s1.key.txn.2.1 3 s1.key.txn.2.2

end Sys2Proof.Machine
end

