-- ==== Sys2Proof/Machine/Keys.lean ====
section
/-! DEFINITION. Flacon, the key store (chapter 13): the meanings of its commands and its events. -/

namespace Sys2Proof.Machine

/-! ### Events -/

/-- A slot at its remasking (R392): never during a use. One that uses have deferred for a whole period is counted, and is remasked when its
current use has ended. -/
def State.remaskTurn (s : State) (n : Nat) : State :=
  let x := s.kslot n
  if x.st == .empty then s
  else if x.usedUntil ≤ s.up then s.remaskSlot n
  else if x.late then s
  else if x.deferred then ((s.updKslot n (fun x => { x with late := true })).keyCount 7).status Reg.KEY_STAT 0
  else s.updKslot n (fun x => { x with deferred := true })

/-- An association's key remasked (R392). -/
def SecAssoc.remask (a : SecAssoc) (m : List Byte) : SecAssoc :=
  let n := padTo a.shareA.length m
  { a with shareA := xorBytes a.shareA n, shareB := xorBytes a.shareB n }

/-- The association keys of a port's MACsec engine remasked with one fresh random value (R392). -/
def State.remaskPort (s : State) (p : Nat) : State :=
  let r := s.random 32
  r.2.updPort p (fun x => { x with macsec := { x.macsec with
    tx := x.macsec.tx.map (fun a => a.remask r.1)
    rx := x.macsec.rx.map (fun c => (c.1, { c.2 with assocs := c.2.assocs.map (fun a => a.remask r.1) })) } })

/-- KEY_REMASK (R392). -/
def execKeyRemask (at_ : Instant) (s0 : State) : Host.Outcome State Fault Refusal :=
  let s := s0.advance at_
  if !s.runs Isle.flacon then .next s
  else .next ((upto 8).foldl State.remaskPort ((s.key.slots.map (·.1)).foldl (fun (s : State) n => s.remaskTurn n) s))

/-- The outcome of a replacement whose reply cannot be delivered, its command gone or muted, is kept for KEY_TXN_RESULT (R399). -/
def State.noteOutcome (s : State) (x : KeyShadow) : State :=
  match s.flight? x.session x.seq with
  | some f => if f.muted then s.keepOutcome x true false else s
  | none => s.keepOutcome x true false

/-- KEY_COMMIT_COMPLETE (R398): phase 2 of the replacement of a slot is complete. -/
def execKeyCommitComplete (at_ : Instant) (slot : Fin 256) (s0 : State) : Host.Outcome State Fault Refusal :=
  let s := s0.advance at_
  match s.shadow slot.val with
  | some x => .next (if x.staged.isNone && s.runs Isle.flacon then ((s.installKey x).noteOutcome x).complete x.session x.seq St.OK [] else s)
  | none => .next s

/-- STAGED_KEY_DISCARD (R396): a staged key is discarded 60 s after it was staged. -/
def execStagedKeyDiscard (slot : Fin 256) (s : State) : Host.Outcome State Fault Refusal :=
  match s.shadow slot.val with
  | some x => match x.staged with
    | some u => .next ((s.advanceUp u).dropShadow slot.val)
    | none => .next s
  | none => .next s

/-- CHILD_CASCADE_DESTROY (R400): the current use of a slot that is to be destroyed ends. -/
def execChildCascadeDestroy (slot : Fin 256) (s : State) : Host.Outcome State Fault Refusal :=
  let x := s.kslot slot.val
  .next (if x.dying then (((s.advanceUp x.usedUntil).wipeSlot slot.val).keyCount 3).invalidate slot.val 256 else s)

/-- LC_NONCE_EXPIRY (R403). -/
def execLcNonceExpiry (s : State) : Host.Outcome State Fault Refusal :=
  match s.key.nonce with
  | some n => .next ((s.advanceUp n.due).setKeys (fun k => { k with nonce := none }))
  | none => .next s

/-- KAT_RUN (R529): the known-answer tests; bit `e` of `real` says that engine `e` really fails. -/
def execKatRun (at_ : Instant) (real : BitVec 4) (s0 : State) : Host.Outcome State Fault Refusal :=
  .next ((upto 4).foldl (fun (s : State) e =>
    let r := s.occasion 16 e (real.getLsbD e)
    let others := s.key.katFail.filter (· != e)
    match r.1 with
    | some inj => ((r.2.detect 16 inj 0 [word e]).setKeys (fun k => { k with katFail := others ++ [e] })).pubKeyStops
    | none => r.2.setKeys (fun k => { k with katFail := others })) (s0.advance at_))

/-- RNG_HEALTH_TEST (R529): a test fails and halts the DRBG, or 1,024 consecutive passing samples bring it back. -/
def execRngHealthTest (at_ : Instant) (fails : Bool) (s0 : State) : Host.Outcome State Fault Refusal :=
  let r := (s0.advance at_).occasion 15 0 fails
  match r.1 with
  | some inj => .next ((r.2.detect 15 inj 0 []).setKeys (fun k => { k with rngOk := false }))
  | none => .next (r.2.setKeys (fun k => { k with rngOk := true }))

/-! ### Commands (R408) -/

/-- The attribute word of a slot (Table 13-12). -/
def KeySlot.attr (x : KeySlot) : Word :=
  put 31 30 x.st.code ||| put 29 27 x.cls ||| put 26 24 x.origin ||| putBit 23 x.parent.isSome ||| putBit 22 x.expire |||
    putBit 21 x.cascade ||| putBit 20 x.exportNever ||| putBit 19 x.svc ||| put 14 8 x.len ||| put 7 0 (x.parent.getD 0)

/-- Slots in a state. -/
def State.slotsIn (s : State) (st : KeyState) : Nat := (s.key.slots.filter (fun p => p.2.st == st)).length

/-- KEY_STATUS. -/
def bodyKeyStatus (s : State) : Res :=
  ok ([word s.key.lc.code, word (s.slotsIn .active), word (s.slotsIn .orphaned), word (s.slotsIn .exhausted)] ++
    (upto 8).map (fun i => s.reg (Reg.KEY_CNT i))) s

def execKeyStatus (h : Hdr) (s : State) : Host.Outcome State Fault Refusal := .next (runCmd 0x0D00 h bodyKeyStatus s)

/-- Every key command but KEY_STATUS fails in RETIRED (R405). -/
def unlessRetired (body : State → Res) (s : State) : Res := if s.key.lc == .retired then refuse St.LIFECYCLE s else body s

/-- KEY_INFO (R400): attributes, uses, gen and check value; an ORPHANED slot's come with KEY_ORPHANED. -/
def bodyKeyInfo (slot : Fin 256) (s : State) : Res :=
  let x := s.kslot slot.val
  .done (if x.st == .orphaned then St.KEY_ORPHANED else St.OK)
    ([x.attr, x.uses, word x.gen.toNat] ++ (if x.st == .empty then [] else wordsLE (checkValue x.cls x.key))) s

def execKeyInfo (h : Hdr) (slot : Fin 256) (s : State) : Host.Outcome State Fault Refusal :=
  .next (runCmd 0x0D01 h (unlessRetired (bodyKeyInfo slot)) s)

/-- Why a slot cannot take a new key: 0 where it can (R388, R389). DESIGN CHOICE (assumption 129): BUSY while a replacement of the slot is pending,
which an EMPTY slot has where its key was destroyed with its parent (Table 13-3). -/
def State.createErr (s : State) (n : Nat) : Nat :=
  if n = 0 then 0x0D11 else if (s.kslot n).st != .empty then St.STATE else if (s.shadow n).isSome then St.BUSY else 0

/-- KEY_GENERATE (R389, R529). -/
def bodyKeyGenerate (a : KeyGenArgs) (s : State) : Res :=
  let e := s.createErr a.slot.val
  if e ≠ 0 then refuse e s
  else if !lengthFits a.cls.val a.bits then refuse St.PARAM_RANGE s
  else if !s.key.rngOk then refuse St.STATE s
  else
    let r := s.random (a.bits / 8)
    let key := padTo (a.bits / 8) r.1
    ok (wordsLE (checkValue a.cls.val key)) (r.2.createKey a.slot.val ⟨a.cls.val, key, a.uses, a.expire, a.cascade, a.exportNever, 1, none⟩)

def execKeyGenerate (h : Hdr) (a : KeyGenArgs) (s : State) : Host.Outcome State Fault Refusal :=
  .next (runCmd 0x0D02 h (unlessRetired (bodyKeyGenerate a)) s)

/-- KEY_IMPORT (R391). -/
def bodyKeyImport (a : KeyImportArgs) (s : State) : Res :=
  let e := s.createErr a.slot.val
  if e ≠ 0 then refuse e s
  else
    let r := s.unwrap a.kek.val a.wrapped
    match r.1 with
    | .error st => refuse st r.2
    | .ok w => ok [] (r.2.createKey a.slot.val ⟨w.cls, w.key, w.uses, decide (w.flags / 4 % 2 = 1), decide (w.flags % 2 = 1),
        decide (w.flags / 2 % 2 = 1), 3, some a.kek.val⟩)

def execKeyImport (h : Hdr) (a : KeyImportArgs) (s : State) : Host.Outcome State Fault Refusal :=
  .next (runCmd 0x0D03 h (unlessRetired (bodyKeyImport a)) s)

/-- KEY_DERIVE (R390): a signing key is never derived (R387). -/
def bodyKeyDerive (a : KeyDeriveArgs) (s : State) : Res :=
  let e := s.createErr a.slot.val
  if e ≠ 0 then refuse e s
  else if decide (64 < a.label.length) || decide (64 < a.context.length) || !lengthFits a.cls.val a.bits then refuse St.PARAM_RANGE s
  else if a.cls.val = 3 then refuse St.KEY_ATTR s
  else
    let parent := s.keyBytes a.parent.val
    let r := s.useKeySlot a.parent.val [5]
    if r.1 ≠ 0 then refuse r.1 r.2
    else ok [] (r.2.createKey a.slot.val ⟨a.cls.val, deriveKey parent a.label a.context a.bits, a.uses, a.expire, a.cascade, a.exportNever, 2,
      some a.parent.val⟩)

def execKeyDerive (h : Hdr) (a : KeyDeriveArgs) (s : State) : Host.Outcome State Fault Refusal :=
  .next (runCmd 0x0D04 h (unlessRetired (bodyKeyDerive a)) s)

/-- Whether clear import is accepted (R389). -/
def State.clearAllowed (s : State) : Bool := s.key.lc == .provisioned || s.key.lc == .service

/-- KEY_IMPORT_CLEAR (R389): replies with the check value. -/
def bodyKeyImportClear (a : KeyClearArgs) (s : State) : Res :=
  if !s.clearAllowed then refuse St.LIFECYCLE s
  else
    let e := s.createErr a.slot.val
    if e ≠ 0 then refuse e s
    else if a.cls.val = 3 then refuse St.KEY_ATTR s
    else if !lengthFits a.cls.val (8 * a.key.length) then refuse St.PARAM_RANGE s
    else ok (wordsLE (checkValue a.cls.val a.key))
      (s.createKey a.slot.val ⟨a.cls.val, a.key, a.uses, a.expire, a.cascade, a.exportNever, 4, none⟩)

def execKeyImportClear (h : Hdr) (a : KeyClearArgs) (s : State) : Host.Outcome State Fault Refusal :=
  .next (runCmd 0x0D80 h (unlessRetired (bodyKeyImportClear a)) s)

/-- The new key of a replacement (R395): its bytes, its origin and its parent, or a status. -/
def State.newKey (s : State) (x : KeySlot) : KeySource → Except Nat (List Byte × Nat × Option Nat) × State
  | .generate =>
    if !s.key.rngOk then (.error St.STATE, s)
    else
      let r := s.random x.len
      (.ok (padTo x.len r.1, 1, none), r.2)
  | .derive parent label context =>
    if decide (64 < label.length) || decide (64 < context.length) then (.error St.PARAM_RANGE, s)
    else
      let key := s.keyBytes parent.val
      let r := s.useKeySlot parent.val [5]
      if r.1 ≠ 0 then (.error r.1, r.2) else (.ok (deriveKey key label context (8 * x.len), 2, some parent.val), r.2)
  | .wrapped kek data =>
    let r := s.unwrap kek.val data
    match r.1 with
    | .error st => (.error st, r.2)
    | .ok w => if w.cls = x.cls && w.len = x.len then (.ok (w.key, 3, some kek.val), r.2) else (.error St.KEY_ATTR, r.2)
  | .clear key =>
    if !s.clearAllowed then (.error St.LIFECYCLE, s)
    else if key.length = x.len then (.ok (key, 4, none), s) else (.error St.KEY_ATTR, s)

/-- KEY_REPLACE (R395, R396, Table 13-3): a generated key is staged; another goes to its commit, whose end brings the reply. -/
def bodyKeyReplace (h : Hdr) (a : KeyReplaceArgs) (s : State) : Res :=
  let x := s.kslot a.slot.val
  if a.slot.val = 0 then refuse 0x0D11 s
  else if x.st == .empty then refuse St.STATE s
  else if (s.shadow a.slot.val).isSome || decide (8 ≤ s.key.shadows.length) then refuse St.BUSY s
  else if x.cls = 3 && a.source != .generate then refuse St.KEY_ATTR s
  else
    let r := s.newKey x a.source
    match r.1 with
    | .error st => refuse st r.2
    | .ok (key, origin, parent) =>
      let sh : KeyShadow := ⟨a.slot.val, a.txn, key, a.uses, origin, parent, s.key.lc == .service, none, h.session, h.seq, x⟩
      if a.source = .generate then
        ok (wordsLE (checkValue x.cls key) ++ (if x.cls = 3 then wordsLE (publicKey key) else []))
          (r.2.setKeys (fun k => { k with shadows := k.shadows ++ [{ sh with staged := some (s.up + sec 60) }] }))
      else if checkValue x.cls key != a.kcv then refuse 0x0D10 (r.2.keyCount 4)
      else .waiting (r.2.setKeys (fun k => { k with shadows := k.shadows ++ [sh] }))

def execKeyReplace (h : Hdr) (a : KeyReplaceArgs) (s : State) : Host.Outcome State Fault Refusal :=
  .next (runCmd 0x0D05 h (unlessRetired (bodyKeyReplace h a)) s)

/-- KEY_REPLACE_COMMIT (R396). -/
def bodyKeyReplaceCommit (h : Hdr) (slot : Fin 256) (kcv : List Byte) (s : State) : Res :=
  match s.shadow slot.val with
  | none => refuse 0x0D15 s
  | some x =>
    match x.staged with
    | none => refuse St.BUSY s
    | some u =>
      if u ≤ s.up then refuse 0x0D15 (s.dropShadow slot.val)
      else if checkValue (x.base (s.kslot slot.val)).cls x.key != kcv then refuse 0x0D10 ((s.dropShadow slot.val).keyCount 4)
      else .waiting ((s.dropShadow slot.val).setKeys (fun k => { k with
        shadows := k.shadows ++ [{ x with staged := none, session := h.session, seq := h.seq }] }))

def execKeyReplaceCommit (h : Hdr) (slot : Fin 256) (kcv : List Byte) (s : State) : Host.Outcome State Fault Refusal :=
  .next (runCmd 0x0D06 h (unlessRetired (bodyKeyReplaceCommit h slot kcv)) s)

/-- KEY_DESTROY (R388, R400). -/
def bodyKeyDestroy (slot : Fin 256) (s : State) : Res :=
  if slot.val = 0 then refuse 0x0D11 s
  else if (s.kslot slot.val).st == .empty then refuse St.STATE s
  else ok [] (s.destroyKey slot.val)

def execKeyDestroy (h : Hdr) (slot : Fin 256) (s : State) : Host.Outcome State Fault Refusal :=
  .next (runCmd 0x0D07 h (unlessRetired (bodyKeyDestroy slot)) s)

/-- KEY_EXPORT (R387, R391). -/
def bodyKeyExport (slot kek : Fin 256) (s : State) : Res :=
  let x := s.kslot slot.val
  if x.st == .empty then refuse St.STATE s
  else if x.exportNever then refuse St.KEY_ATTR s
  else
    let key := s.keyBytes kek.val
    let r := s.useKeySlot kek.val [4]
    if r.1 ≠ 0 then refuse r.1 r.2
    else ok (wordsLE (Config.kwpWrap key (attrBlock x.cls x.len x.flags x.uses (checkValue x.cls x.key) ++ x.key))) r.2

def execKeyExport (h : Hdr) (slot kek : Fin 256) (s : State) : Host.Outcome State Fault Refusal :=
  .next (runCmd 0x0D08 h (unlessRetired (bodyKeyExport slot kek)) s)

/-- KEY_LC_NONCE (R403). -/
def bodyKeyLcNonce (s : State) : Res :=
  let r := s.random 16
  ok (wordsLE (padTo 16 r.1)) (r.2.setKeys (fun k => { k with nonce := some ⟨padTo 16 r.1, s.up + sec 60⟩ }))

def execKeyLcNonce (h : Hdr) (s : State) : Host.Outcome State Fault Refusal := .next (runCmd 0x0D09 h (unlessRetired bodyKeyLcNonce) s)

/-- KEY_LIFECYCLE (R402 to R404): any attempt with a valid nonce uses it up. -/
def bodyKeyLifecycle (goal : Lifecycle) (nonce tag : List Byte) (s : State) : Res :=
  let slot := s.rf Reg.KEY_CTL 15 8
  match transition (s.rb Reg.KEY_CTL 16) s.key.lc goal with
  | none => refuse St.LIFECYCLE s
  | some false => ok [] (s.changeLifecycle goal)
  | some true =>
    if !s.rb Reg.KEY_CTL 16 then refuse St.KEY_ATTR s
    else match s.key.nonce with
    | none => refuse 0x0D14 (s.keyCount 6)
    | some n =>
      if n.bytes != nonce || decide (n.due ≤ s.up) then refuse 0x0D14 (s.keyCount 6)
      else
        let key := s.keyBytes slot
        let r := s.useKeySlot slot [2]
        if r.1 ≠ 0 then refuse r.1 r.2
        else
          let s1 := r.2.setKeys (fun k => { k with nonce := none })
          if tag != (Config.hmacSha256 key (nonce ++ padTo 16 Config.uid ++ le 1 goal.code)).take 16 then refuse 0x0D13 (s1.keyCount 6)
          else ok [] (s1.changeLifecycle goal)

def execKeyLifecycle (h : Hdr) (goal : Lifecycle) (nonce tag : List Byte) (s : State) : Host.Outcome State Fault Refusal :=
  .next (runCmd 0x0D0A h (unlessRetired (bodyKeyLifecycle goal nonce tag)) s)

/-- KEY_ATTEST (R406). -/
def bodyKeyAttest (slot : Fin 256) (nonce : List Byte) (s : State) : Res :=
  let x := s.kslot slot.val
  if x.st == .empty then refuse St.STATE s
  else
    let attKey := s.keyBytes 0
    let r := s.useKeySlot 0 [3]
    if r.1 ≠ 0 then refuse r.1 r.2
    else
      let stmt := [0x4B#8, 0x41#8, 0x54#8, 0x54#8] ++ padTo 16 Config.uid ++ le 1 slot.val ++ le 1 x.cls ++ le 1 x.origin ++
        le 1 s.key.lc.code ++ le 4 x.flags ++ le 2 x.gen.toNat ++ padTo 98 (if x.cls = 3 then publicKey x.key else checkValue x.cls x.key) ++
        padTo 64 nonce
      ok (wordsLE (stmt ++ padTo 96 (Config.ecdsaSign true attKey stmt) ++ Config.certificate.take 2048)) r.2

def execKeyAttest (h : Hdr) (slot : Fin 256) (nonce : List Byte) (s : State) : Host.Outcome State Fault Refusal :=
  .next (runCmd 0x0D0B h (unlessRetired (bodyKeyAttest slot nonce)) s)

/-- KEY_TXN_RESULT (R399). -/
def bodyKeyTxnResult (s : State) : Res := ok [s.key.txn.1, word s.key.txn.2.1, word s.key.txn.2.2] s

def execKeyTxnResult (h : Hdr) (s : State) : Host.Outcome State Fault Refusal := .next (runCmd 0x0D0C h (unlessRetired bodyKeyTxnResult) s)

/-- KEY_ATTR_RAW (Table 13-1): uses lowered, or export_never set. -/
def bodyKeyAttrRaw (a : KeyAttrArgs) (s : State) : Res :=
  let x := s.kslot a.slot.val
  if a.slot.val = 0 && a.uses.isSome then refuse 0x0D11 s
  else if x.st == .empty then refuse St.STATE s
  else if (match a.uses with | some u => decide (x.uses.toNat < u.toNat) | none => false) then refuse St.PARAM_RANGE s
  else ok [] (s.updKslot a.slot.val (fun x => { x with uses := a.uses.getD x.uses, exportNever := x.exportNever || a.setExport }))

def execKeyAttrRaw (h : Hdr) (a : KeyAttrArgs) (s : State) : Host.Outcome State Fault Refusal :=
  .next (runCmd 0x0D81 h (unlessRetired (bodyKeyAttrRaw a)) s)

/-- Key-store settings as given. -/
def State.setKeyTune (s : State) (a : KeyTuneArgs) : State :=
  let s2 := (s.setSome Reg.KEY_REMASK 9 0 a.periodDs).setSome Reg.KEY_CTL 15 8 (a.authSlot.map Fin.val)
  match a.authEn with
  | some b => s2.setRb Reg.KEY_CTL 16 b
  | none => s2

/-- KEY_TUNE (R385, R403): an authority slot that comes into force must be of class HMAC. -/
def bodyKeyTune (a : KeyTuneArgs) (s : State) : Res :=
  let t := s.setKeyTune a
  if outside 1 600 a.periodDs then refuse St.PARAM_RANGE s
  else if (a.authSlot.isSome || a.authEn.isSome) && t.rb Reg.KEY_CTL 16 &&
      ((s.kslot (t.rf Reg.KEY_CTL 15 8)).st == .empty || (s.kslot (t.rf Reg.KEY_CTL 15 8)).cls != 2) then refuse St.KEY_ATTR s
  else ok [] t

def execKeyTune (h : Hdr) (a : KeyTuneArgs) (s : State) : Host.Outcome State Fault Refusal :=
  .next (runCmd 0x0D82 h (unlessRetired (bodyKeyTune a)) s)

/-! ### Registers -/

/-- The fields of the key store's registers that are read from the state (Table 13-9). -/
def State.keyView (s : State) (a : Nat) : Word :=
  let x := s.kslot (s.rf Reg.KEY_SLOT_IDX 7 0)
  if a = Reg.KEY_LC then put 2 0 s.key.lc.code ||| put 31 16 s.key.changes
  else if a = Reg.KEY_USE then put 8 0 (s.slotsIn .active) ||| put 24 16 (s.slotsIn .orphaned)
  else if a = Reg.KEY_TXN_ID then s.key.txn.1
  else if a = Reg.KEY_TXN_STAT then put 1 0 s.key.txn.2.2 ||| put 15 8 s.key.txn.2.1
  else if a = Reg.KEY_SLOT_ATTR then x.attr
  else if a = Reg.KEY_SLOT_USES then x.uses
  else if a = Reg.KEY_SLOT_GEN then word x.gen.toNat
  else 0#32

end Sys2Proof.Machine
end

