-- ==== Sys2Proof/Machine/MemoryOps.lean ====
section
/-! DEFINITION. Operations of bulk memory (chapter 16): the host area, the lottery of a memory channel, and barriers. -/

namespace Sys2Proof.Machine

def State.setMem (s : State) (f : MemPart → MemPart) : State := { s with mem := f s.mem }

/-! ### The division of memory (R463, R464, R466) -/

/-- The areas of on-die SRAM in MiB, in the order of Table 16-1: fixed, and not written by any command. -/
def sramAreas : List Nat := [16, 16, 8, 32, 16, 8, 16, 8, 72]

/-- The partitions of bulk memory in the order of Table 16-2: base and greatest size in bytes. -/
def partitions : List (Nat × Nat) :=
  [(0, 2 ^ 29), (0x20000000, 2 ^ 31), (0xA0000000, 20 * 2 ^ 30), (0x5A0000000, 2 ^ 33), (0x7A0000000, 2 ^ 28), (0x7B0000000, 1280 * 2 ^ 20)]

/-- The partition whose window holds an address of bulk memory. -/
def partitionOf (a : Nat) : Option Nat := (upto 6).find? (fun i => match partitions[i]? with
  | some p => decide (p.1 ≤ a) && decide (a < p.1 + p.2)
  | none => false)

/-- The present size of a partition in bytes, as its owner's rules set it; the rest of its window is unused. -/
def State.partitionSize (s : State) : Nat → Nat
  | 0 => 2 ^ 29
  | 1 => 2 ^ 31
  | 2 => min 20 (s.rf Reg.ALN_HIST_CTL 4 0) * 2 ^ 30
  | 3 => min 8 (s.rf Reg.CAP_CTL 11 8) * 2 ^ 30
  | 4 => min 256 (s.rf Reg.ING_SPILL_CTL 8 0) * 2 ^ 20
  | 5 => 1280 * 2 ^ 20
  | _ => 0

/-! ### The host area (R464, R465) -/

/-- Bytes of the host area: 1,280 MiB. -/
def hostSize : Nat := 1342177280

/-- Its base in bulk memory (Table 16-2). -/
def hostBase : Nat := 0x7B0000000

/-- A byte of the host area. -/
def hostByte (m : MemPart) (off : Nat) : Byte := (lookup m.host off).getD (Config.undefinedByte m.fill off)

/-- The canonical form of the host area: offsets rise strictly, and lie in the area. -/
def MemPart.wf (m : MemPart) : Bool := risingFrom 0 m.host && m.host.all (fun c => decide (c.1 < hostSize))

/-- The host area with a byte written. -/
def MemPart.writeByte (m : MemPart) (off : Nat) (b : Byte) : MemPart :=
  if off < hostSize then { m with host := setKey m.host off b } else m

/-- The host area with bytes written from an offset on. -/
def MemPart.writeBytes (m : MemPart) (off : Nat) : List Byte → MemPart
  | [] => m
  | b :: rest => (m.writeByte off b).writeBytes (off + 1) rest

/-- The contents of bulk memory are lost (R465). -/
def MemPart.lose (m : MemPart) : MemPart := { m with host := [], fill := m.fill + 1 }

/-- Bytes of the host area from an offset on, zero in every 64-byte transfer that came poisoned (R539). -/
def hostRange (m : MemPart) (off len : Nat) (poison : List Nat) : List Byte :=
  (upto len).map (fun i => if poison.contains ((off + i) / 64 - off / 64) then 0#8 else hostByte m (off + i))

/-! ### The lottery (R469 to R472) -/

def State.memChan (s : State) (c : Nat) : MemChan := (s.mem.chans[c]?).getD (freshChan c)

def State.updMemChan (s : State) (c : Nat) (f : MemChan → MemChan) : State := s.setMem (fun m => { m with chans := updAt m.chans c f })

/-- One step of the LFSR: taps 32, 22, 2 and 1. -/
def lfsrStep (w : Word) : Word := (w <<< 1) ||| putBit 0 (bit w 31 != (bit w 21 != (bit w 1 != bit w 0)))

/-- Sixteen steps. -/
def lfsr16 (w : Word) : Word := (upto 16).foldl (fun w _ => lfsrStep w) w

/-- The tickets of a port (Table 16-8). -/
def State.tickets (s : State) (p : Nat) : Nat :=
  s.rf (if p < 4 then Reg.MEM_TKT0 else Reg.MEM_TKT1) (8 * (p % 4) + 7) (8 * (p % 4))

/-- A poisoned transfer on its way to its requester (R539). One of the command cores that was code resets the core; any other waits for its requester to
take it. -/
def State.poisonTransfer (s : State) (c p : Nat) (inj : Bool) : State :=
  match (if p = 4 then Config.codeRead s.free else none) with
  | some core =>
    let cmds := (s.cmd.flights.filter (fun f => Config.coreRuns s.free core f.session f.seq)).map (fun f => (f.session, f.seq))
    s.nextFree.resetCore core cmds
  | none => (if p = 4 then s.nextFree else s).setMem (fun m => { m with poison := m.poison ++ [(p, c, inj)] })

/-- The port in whose run of tickets a number falls. -/
def pickPort (tickets : Nat → Nat) : List Nat → Nat → Option Nat
  | [], _ => none
  | p :: rest, r => if r < tickets p then some p else pickPort tickets rest (r - tickets p)

/-- The first port of those asking after the last zero-ticket winner, in port order. -/
def nextZero (asking : List Nat) (last : Nat) : Option Nat :=
  match asking.find? (fun p => decide (last < p)) with
  | some p => some p
  | none => asking.head?

/-- DRAW: the winner among the asking ports, and the LFSR after the draw (R470). -/
def drawPort (tickets : Nat → Nat) (asking : List Nat) (lfsr : Word) (lastZero : Nat) : Option Nat × Word :=
  let sum := total (asking.map tickets)
  if asking.isEmpty then (none, lfsr)
  else if sum = 0 then (nextZero asking lastZero, lfsr)
  else
    let w := lfsr16 lfsr
    (pickPort tickets asking (fld w 15 0 * sum / 65536), w)

/-- The share of the preceding millisecond in which a channel moved transfers, in percent (Table 16-6). -/
def State.utilPct (s : State) (c : Nat) : Nat :=
  let x := s.memChan c
  let w := s.up / ms 1
  let n := if w = x.window then x.prev else if w = x.window + 1 then x.busy else 0
  min 100 (n * 100 / 800000)

/-- A transfer counted in its millisecond. -/
def MemChan.move (x : MemChan) (w : Nat) : MemChan :=
  if w = x.window then { x with busy := x.busy + 1 }
  else { x with prev := if w = x.window + 1 then x.busy else 0, window := w, busy := 1 }

/-- Ports that asked and did not win wait one draw longer. -/
def MemChan.wait (x : MemChan) (asking : List Nat) (won : Option Nat) : MemChan :=
  let waits := (upto 8).map (fun p => if asking.contains p && won != some p then ((x.waits[p]?).getD 0) + 1 else 0)
  { x with waits := waits, maxWait := waits.foldl max x.maxWait }

/-- The transfer of a port that won (R466, R467): the capture port drains 64 bytes of the rows that wait; one that comes poisoned waits for its
requester (R539). -/
def State.moveTransfer (s : State) (c p : Nat) (ecc : EccOutcome) : State :=
  let s1 := (s.count (Reg.MEM_GRANT p) 1).updMemChan c (fun x => x.move (s.up / ms 1))
  let s2 := if p = 2 then
      (match (upto 4).find? (fun u => decide (0 < (s1.capUnit u).undrained)) with
       | some u => s1.updUnit u (fun x => { x with undrained := x.undrained - 64 })
       | none => s1)
    else s1
  let a := s2.occasion 7 c (ecc == .corrected)
  let s3 := match a.1 with
    | some inj => (((a.2.count (Reg.MEM_CNT 2) 1).status Reg.MEM_STAT 0).detect 7 inj 0 [word c])
    | none => a.2
  let b := s3.occasion 8 c (ecc == .uncorrectable)
  match b.1 with
  | some inj => (((b.2.count (Reg.MEM_CNT 3) 1).status Reg.MEM_STAT 1).detect 8 inj 0 [word c]).poisonTransfer c p inj
  | none => b.2

/-- One arbitration cycle of a channel (R470 to R472): a draw among the ports asking; a winner that withdraws leaves the cycle idle. -/
def State.arbitrate (s : State) (c : Nat) (asking : List Nat) (withdraw : Bool) (ecc : EccOutcome) : State :=
  let x := s.memChan c
  let d := drawPort s.tickets asking x.lfsr x.lastZero
  match d.1 with
  | none => s
  | some p =>
    let zero := total (asking.map s.tickets) == 0
    let s1 := s.updMemChan c (fun x => { x.wait asking (some p) with lfsr := d.2, lastZero := if zero then p else x.lastZero })
    if withdraw then s1.count (Reg.MEM_CNT 0) 1
    else (if zero then s1.count (Reg.MEM_CNT 1) 1 else s1).moveTransfer c p ecc

/-! ### Barriers (R474, R475) -/

/-- A barrier is complete: every write before it has been acknowledged. -/
def State.completeBarrier (s : State) (isl : Nat) : State := s.setMem (fun m => { m with barriers := eraseFirst isl m.barriers })

/-! ### Registers and reset (R477) -/

/-- The partitions' sizes (MEM_PART): the history in GiB, capture in GiB and the spill area in MiB. -/
def State.memPart (s : State) : Word :=
  put 4 0 (s.partitionSize 2 / 2 ^ 30) ||| put 11 8 (s.partitionSize 3 / 2 ^ 30) ||| put 24 16 (s.partitionSize 4 / 2 ^ 20)

/-- The fields of the bulk-memory registers that are read from the state (Table 16-6). -/
def State.memView (s : State) (a : Nat) : Word :=
  let c := s.rf Reg.MEM_CH_IDX 4 0
  if a = Reg.MEM_PART then s.memPart
  else if a = Reg.MEM_CH_STAT then put 6 0 (s.utilPct c) ||| put 31 16 (min 0xFFFF (s.memChan c).maxWait)
  else if a = Reg.MEM_CH_LFSR then (s.memChan c).lfsr
  else 0#32

/-- The longest wait of the indexed channel cleared by a read of MEM_CH_STAT. -/
def State.clearMaxWait (s : State) : State := s.updMemChan (s.rf Reg.MEM_CH_IDX 4 0) (fun x => { x with maxWait := 0 })

/-- A reset of the bulk memory island: registers and arbiters at reset, contents kept (R465, R470, R477). -/
def State.resetMemory (s : State) : State :=
  (s.resetRegs (fun a => blockOf a == 17)).setMem (fun m => { m with chans := (upto 32).map freshChan, barriers := [], poison := [] })

end Sys2Proof.Machine
end

