-- ==== Sys2Proof/Machine/Memory.lean ====
section
/-! DEFINITION. Bulk memory (chapter 16): the meanings of its commands and events. -/

namespace Sys2Proof.Machine

/-! ### Events -/

/-- ARBITRATION_DRAW (R470, R472): while bulk memory runs, one cycle of a channel, with the ports that ask, whether the winner withdraws, and what the ECC finds. -/
def execArbitrationDraw (at_ : Instant) (c : Fin 32) (asking : BitVec 8) (withdraw : Bool) (ecc : EccOutcome) (s : State) :
    Host.Outcome State Fault Refusal :=
  .next (if !(s.advance at_).runs Isle.memory then s.advance at_ else (s.advance at_).arbitrate c.val ((upto 8).filter (fun p => asking.getLsbD p)) withdraw ecc)

/-- BARRIER_COMPLETE (R474). -/
def execBarrierComplete (at_ : Instant) (isl : Fin 23) (s : State) : Host.Outcome State Fault Refusal :=
  .next ((s.advance at_).completeBarrier isl.val)

/-! ### Commands (Table 16-5) -/

/-- MEM_STATUS: partition sizes, the utilisation of every channel, and the counters. -/
def bodyMemStatus (s : State) : Res :=
  ok ([s.memPart] ++ (upto 32).map (fun c => word (s.utilPct c)) ++ (upto 8).map (fun p => s.reg (Reg.MEM_GRANT p)) ++
    (upto 4).map (fun i => s.reg (Reg.MEM_CNT i))) s

def execMemStatus (h : Hdr) (s : State) : Host.Outcome State Fault Refusal := .next (runCmd 0x1100 h bodyMemStatus s)

/-- The words of a ticket profile (Tables 16-3 and 16-5). -/
def TicketProfile.words : TicketProfile → Word × Word
  | .default => (0x20203060#32, 0x08100810#32)
  | .captureFirst => (0x10602040#32, 0x10101010#32)

/-- MEM_TICKETS (R469). -/
def bodyMemTickets (p : TicketProfile) (s : State) : Res := ok [] ((s.setReg Reg.MEM_TKT0 p.words.1).setReg Reg.MEM_TKT1 p.words.2)

def execMemTickets (h : Hdr) (p : TicketProfile) (s : State) : Host.Outcome State Fault Refusal :=
  .next (runCmd 0x1101 h (bodyMemTickets p) s)

/-- MEM_HOST_READ (R476, R539): a range of the host area to the host buffer; the reply counts the poisoned 64 bytes copied as zero. -/
def bodyMemHostRead (via : Via) (buf bufLen off len : Nat) (s : State) : Res :=
  if hostSize < off + len then refuse 0x1110 s
  else if bufLen < len then refuse St.BAD_PARAM s
  else
    let r := s.readBulk 4 (hostBase + off) len
    let out := wordsLE (hostRange s.mem off len r.1)
    ok [word r.1.length] (r.2.hostWrite via buf out)

def execMemHostRead (h : Hdr) (off len : Nat) (s : State) : Host.Outcome State Fault Refusal :=
  .next (runCmd 0x1102 h (fun s => (bodyMemHostRead h.via h.bufAddr h.bufLen off len s).carried h.via) s)

/-- MEM_HOST_WRITE (R476): the bytes of the host buffer to a range of the host area. -/
def bodyMemHostWrite (off : Nat) (data : List Byte) (s : State) : Res :=
  if hostSize < off + data.length then refuse 0x1110 s else ok [] (s.setMem (fun m => m.writeBytes off data))

def execMemHostWrite (h : Hdr) (off : Nat) (data : List Byte) (s : State) : Host.Outcome State Fault Refusal :=
  .next (runCmd 0x1103 h (bodyMemHostWrite off data) s)

/-- MEM_TICKETS_RAW (R469). -/
def bodyMemTicketsRaw (t0 t1 : Word) (s : State) : Res := ok [] ((s.setReg Reg.MEM_TKT0 t0).setReg Reg.MEM_TKT1 t1)

def execMemTicketsRaw (h : Hdr) (t0 t1 : Word) (s : State) : Host.Outcome State Fault Refusal :=
  .next (runCmd 0x1180 h (bodyMemTicketsRaw t0 t1) s)

/-- MEM_LFSR (R470): the LFSR of a channel read, or seeded; a seed of zero is taken as 1. -/
def bodyMemLfsr (c : Fin 32) (seed : Option Word) (s : State) : Res :=
  match seed with
  | none => ok [(s.memChan c.val).lfsr] s
  | some w =>
    let v := if w = 0#32 then 1#32 else w
    ok [v] (s.updMemChan c.val (fun x => { x with lfsr := v }))

def execMemLfsr (h : Hdr) (c : Fin 32) (seed : Option Word) (s : State) : Host.Outcome State Fault Refusal :=
  .next (runCmdAs seed.isSome 0x1181 h (bodyMemLfsr c seed) s)

end Sys2Proof.Machine
end

