-- ==== Sys2Proof/Machine/PairStep.lean ====
section
/-! DEFINITION. What alignment and Nose meet of the pair: commits that wait for a list or for nobody (R491, R496, R497), result records (R493) and
the alarms a take-over leaves to resolve (R497). -/

namespace Sys2Proof.Machine

/-- Assemblies whose close guard has ended, or that are complete, and whose commit nothing has triggered, on a module that no longer waits for
lists (R496, R497). -/
def State.triggerDue (s : State) : State :=
  (upto 32).foldl (fun (s : State) g =>
    ((s.group g).asms.filter (fun a => !a.trig && (a.complete || (a.closed && decide (a.t + a.words.wait_ + us 20 ≤ s.now))))).foldl
      (fun (s : State) a => s.trigger g a.k) s) s

/-- A standby becomes UNVERIFIED and from then on commits from its own arrival times (R496). -/
def State.unverify (s : State) (cause : Nat) (inj : Bool) : State := (s.enterPair .unverified cause inj).triggerDue

/-- A check of the standby's results against its peer's fails: UNVERIFIED, or in phase C of a copy the end of it (R489, R492, R493). -/
def State.failCheck (s : State) (cause : Nat) : State :=
  match s.pair.st with
  | .standby => s.unverify cause false
  | .copyDst => (s.enterPair .listen 9 false).setPair (fun p => { p with copy := { noCopy with phaseA := p.copy.phaseA } })
  | _ => s

/-! ### Result records (R493) -/

/-- The CRC of a batch: source, key and new state of each change. A change to a state that only provisional evaluation reaches is not of the
committed batch. -/
def resultCrc (l : List AlarmChange) : Nat :=
  crc64 ((l.filter (fun c => c.st == 2 || c.st == 0)).flatMap (fun c =>
    [BitVec.ofNat 8 c.src, BitVec.ofNat 8 c.key, BitVec.ofNat 8 (c.key / 256), BitVec.ofNat 8 c.st.val]))

/-- A result that differs from the peer's (R493). -/
def State.resultError (s : State) : State := (s.count (Reg.PAIR_CNT 5) 1).failCheck 4

/-- The result of a committed instant or of an update: the active sends it, and the standby compares it with its peer's or keeps it. -/
def State.noteResult (s : State) (source item : Nat) (l : List AlarmChange) : State :=
  let r : ResultRecord := ⟨source, item, resultCrc l⟩
  if s.sendsLists then s.peerOut (.result r)
  else if s.followsLists then
    match s.pair.theirs.find? (fun x => x.source == source && x.item == item) with
    | some x =>
      let s1 := s.setPair (fun p => { p with theirs := eraseFirst x p.theirs })
      if x.crc = r.crc then s1 else s1.resultError
    | none => s.setPair (fun p => { p with results := p.results ++ [r] })
  else s

/-- The result record of the peer (R493). -/
def State.takeResult (s : State) (r : ResultRecord) : State :=
  if !s.followsLists then s
  else match s.pair.results.find? (fun x => x.source == r.source && x.item == r.item) with
    | some x =>
      let s1 := s.setPair (fun p => { p with results := eraseFirst x p.results })
      if x.crc = r.crc then s1 else s1.resultError
    | none => s.setPair (fun p => { p with theirs := p.theirs ++ [r] })

/-! ### Alarms left PROVISIONAL by the old active (R497) -/

/-- The group at whose commit an alarm is resolved: that of a limit entry's channel, or the island group. -/
def State.alarmGroup (s : State) (a : PubAlarm) : Option Nat :=
  if a.src = 0 then s.chanGroup (fld (s.lw a.key 0) 17 0) else s.isl.active.map Model.group

/-- Whether the module itself holds an alarm as PROVISIONAL or COMMITTED. -/
def State.holdsAlarm (s : State) (a : PubAlarm) : Bool :=
  let st := if a.src = 0 then (s.limHanded a.key).st else (s.islHanded a.key).st
  a.src == 2 || st == 1 || st == 2

/-- At the commit of its instant an alarm that the old active published PROVISIONAL and that the module does not hold is RETRACTED. -/
def State.resolveAlarms (s : State) (g : Nat) (t : Instant) : State :=
  let due := s.pair.resolve.filter (fun a => s.alarmGroup a == some g && decide (a.t ≤ t))
  if due.isEmpty then s
  else
    let s1 := s.setPair (fun p => { p with resolve := p.resolve.filter (fun a => !due.contains a) })
    let gone := due.filter (fun a => !s.holdsAlarm a)
    match gone with
    | [] => s1
    | a :: _ =>
      let s2 := (s1.splCount g 3 gone.length).status Reg.SPL_STAT 1
      (s2.raiseAs s.peerInj 6 (gone.length : Rat) ([word a.src, word a.key] ++ instantWords t)).batch g t
        (gone.map (fun a => ⟨a.src, a.key, 3, a.degraded, a.injected || s.peerInj, none⟩))

end Sys2Proof.Machine
end

