-- ==== Sys2Proof/Machine/Nose.lean ====
section
/-! DEFINITION. Nose as Accord drives it (chapters 07, 09 and 10): evaluation of provisional and committed snapshots, CONFIRM, ROLLBACK and
flush. Each message is taken in order; the changes of both engines for one instant reach Atomizer as one batch, and the ledger entry
becomes FREE with it (R227, R228, R234, R239). -/

namespace Sys2Proof.Machine

/-- The oldest message to Nose taken. A committed snapshot is told only once Accord's barrier has completed (R474). -/
def State.popNose (s : State) : State := s.setAln (fun a => { a with nose := a.nose.drop 1 })

/-- The model by which the island engine evaluates a group's snapshot of an instant itself: the group is the island group and is not stopped, and
the ring does not form the views. -/
def State.islModel (s : State) (g : Nat) (t : Instant) : Option Model :=
  match s.modelAt t with
  | some m =>
    if s.rb Reg.ISL_CTL 0 && !s.rb Reg.ISL_CTL 2 && m.group == g && (s.group g).active then some m else none
  | none => none

/-- The changes of both engines by instant. -/
def mergeBatches (a b : List (Nat × Instant × List AlarmChange)) : List (Nat × Instant × List AlarmChange) :=
  sortBy (fun x y => decide (x.1 ≤ y.1)) (a.map (fun x => (x.1, x.2.1, x.2.2 ++ (b.filter (fun y => y.1 == x.1)).flatMap (fun y => y.2.2))) ++
    b.filter (fun y => !a.any (fun x => x.1 == y.1)))

/-- A provisional snapshot evaluated by both engines (R293, R296, R314). -/
def State.noseProv (s : State) (x : Snapshot) : State :=
  let s1 := if s.limOn then s.limProv x else s
  let hl := s1.limHandOver [] x.group x.k x.k x.t
  match hl.2.islModel x.group x.t with
  | some m =>
    if hl.2.rb Reg.ISL_CTL 1 then
      let s2 := (hl.2.islProv m (hl.2.ownView m x)).issueBarrier Isle.nose
      let hi := s2.islHandOver x.group x.k x.k x.t
      hi.2.batch x.group x.t (hl.1 ++ hi.1)
    else hl.2.batch x.group x.t hl.1
  | none => hl.2.batch x.group x.t hl.1

/-- The changes of a committed instant itself. -/
def changesAt (k : Nat) (l : List (Nat × Instant × List AlarmChange)) : List AlarmChange :=
  (l.filter (fun x => x.1 == k)).flatMap (fun x => x.2.2)

/-- A committed snapshot taken by both engines: as it stands where it was confirmed, else evaluated with the later instants evaluated anew. Its
result record is sent or compared (R493), and alarms that wait for it are resolved (R497). -/
def State.noseCommit (s : State) (x : Snapshot) (confirmed : Bool) : State :=
  let l := s.limCommit x confirmed
  let r : List (Nat × Instant × List AlarmChange) × State := match l.2.islModel x.group x.t with
    | some m => let i := l.2.islCommit m x confirmed; (mergeBatches l.1 i.1, i.2)
    | none => l
  ((r.2.batchAll x.group r.1).noteResult x.group x.t (changesAt x.k r.1)).resolveAlarms x.group x.t

/-- PROVISIONAL_SNAPSHOT_EVALUATE (R296). -/
def execProvisionalSnapshotEvaluate (at_ : Instant) (s0 : State) : Host.Outcome State Fault Refusal :=
  let s := s0.advance at_
  match s.aln.nose with
  | .prov x :: _ => .next (if s.runs Isle.nose then s.popNose.noseProv x else s)
  | _ => .next s

/-- COMMITTED_SNAPSHOT_EVALUATE (R227): an instant that was not issued provisionally, or whose entry a reset of Nose left unchecked. -/
def execCommittedSnapshotEvaluate (at_ : Instant) (s0 : State) : Host.Outcome State Fault Refusal :=
  let s := s0.advance at_
  match s.aln.nose with
  | .commit x :: _ => .next (if s.runs Isle.nose && !s.barred Isle.accord then s.popNose.noseCommit x false else s)
  | _ => .next s

/-- CONFIRM_RECEIVE (R227): the checkpoint is dropped, alarms raised at the instant are COMMITTED, and the entry becomes FREE. -/
def execConfirmReceive (at_ : Instant) (s0 : State) : Host.Outcome State Fault Refusal :=
  let s := s0.advance at_
  match s.aln.nose with
  | .confirm x :: _ => .next (if s.runs Isle.nose && !s.barred Isle.accord then (s.popNose.noseCommit x true).retire x.group x.k else s)
  | _ => .next s

/-- ROLLBACK_RECEIVE (R228): the checkpoint is restored, the committed snapshot evaluated, and the later instants evaluated anew. -/
def execRollbackReceive (at_ : Instant) (s0 : State) : Host.Outcome State Fault Refusal :=
  let s := s0.advance at_
  match s.aln.nose with
  | .rollback x :: _ => .next (if s.runs Isle.nose && !s.barred Isle.accord then (s.popNose.noseCommit x false).retire x.group x.k else s)
  | _ => .next s

/-- FLUSH_RECEIVE (R239): the checkpoint of the oldest flushed instant restored, the PROVISIONAL alarms of the flushed instants RETRACTED, and
their entries FREE. -/
def State.noseFlush (s : State) (g : Nat) (ks : List Nat) : State :=
  match ks with
  | [] => s
  | k0 :: rest =>
    let k := rest.foldl min k0
    let t := match s.entryOf g k with
      | some (_, e) => e.t
      | none => s.now
    let l := s.limFlush g k t
    let i := match l.2.modelAt t with
      | some m => if m.group == g then l.2.islFlush g k t else ([], l.2)
      | none => ([], l.2)
    ks.foldl (fun s k => s.retire g k) (i.2.batch g t (l.1 ++ i.1))

def execFlushReceive (at_ : Instant) (s0 : State) : Host.Outcome State Fault Refusal :=
  let s := s0.advance at_
  match s.aln.nose with
  | .flush g ks :: _ => .next (if s.runs Isle.nose then s.popNose.noseFlush g ks else s)
  | _ => .next s

/-- A reset of the Nose island (R242, R299, R301, R329): entries awaiting it are FREE, those of instants in flight are not checked, and the
messages on their way are lost. -/
def State.resetNose (s : State) : State :=
  let s1 := (s.setAln (fun a => { a with
    nose := []
    ledger := a.ledger.map (fun p => (p.1, if p.2.st == .issued || p.2.st == .checking then { p.2 with void := true }
      else { p.2 with st := .free })) })).resetRegs (fun a => blockOf a == 9)
  s1.resetLimits.resetIslands

end Sys2Proof.Machine
end

