-- ==== Sys2Proof/Machine/Oscillation.lean ====
section
/-! DEFINITION. Oscillation analysis (chapter 08): the meanings of its commands, its table accesses and its events. -/

namespace Sys2Proof.Machine

/-! ### From snapshots to updates (R252, R257 to R259) -/

/-- Whether a channel is used by a running set: by a signal, or by a branch of it. -/
def State.oscUses (s : State) (c : Nat) : Bool :=
  (upto 32).any (fun i => (s.oset i).run && ((s.setChans i).contains c ||
    (upto 4096).any (fun b => bit (branchWord s.osc.branches b 0) 31 && fld (branchWord s.osc.branches b 0) 28 24 == i &&
      (fld (branchWord s.osc.branches b 0) 17 0 == c || fld (branchWord s.osc.branches b 1) 17 0 == c))))

/-- The inputs of running sets' signals that a snapshot leaves held. -/
def State.heldInputs (s : State) (x : Snapshot) : Nat :=
  let bad (c : Nat) : Bool := match x.find c with
    | some r => r.missing || r.unsettled
    | none => false
  total ((upto 32).map (fun i => if (s.oset i).run then ((s.setSlots i).filter (fun n => (sigChans (s.sig n 0) (s.sig n 1)).any bad)).length else 0))

/-- A committed snapshot taken: the records of the channels in use, kept for as long as a set may hold a signal at one of them (R252). A
poisoned transfer leaves one sample held (R539). -/
def State.oscTake (s0 : State) (x : Snapshot) : State :=
  let p := s0.takePoison 1
  let s := p.2
  let all := x.recs.filter (fun r => s.oscUses r.chan)
  let recs := if p.1.isSome then all.drop 1 else all
  (s.setOsc (fun a => { a with
    last := setKey a.last x.group x.t
    hist := recs.foldl (fun h r =>
      setKey h r.chan (⟨x.k, r.w0, r.w1, !r.missing && !r.unsettled, r.degraded, r.injected⟩ :: (lookup h r.chan).getD [])) a.hist })).oscCount
    2 (s.heldInputs x + (all.length - recs.length))

/-- OSC_SNAPSHOT_INTAKE (R252): the oldest committed snapshot on its way to the engine, once Accord's barrier has completed (R474). -/
def execOscSnapshotIntake (at_ : Instant) (s0 : State) : Host.Outcome State Fault Refusal :=
  let s := s0.advance at_
  match s.aln.osc with
  | x :: rest =>
    let s1 := s.setAln (fun a => { a with osc := rest })
    .next (if s.barred Isle.accord then s else if s1.runs Isle.nose && s1.rb Reg.OSC_CTL 0 then s1.oscTake x else s1)
  | [] => .next s

/-- Whether the next update of a set is ready (R257): its instant has come, and every feeding group that is RUNNING has committed its last
instant at or before it. -/
def State.oscReady (s : State) (i : Nat) : Bool :=
  let x := s.oset i
  let u := x.nextU * ms 100
  x.run && decide (u ≤ s.now) && (s.feeding i).all (fun g =>
    (s.group g).st != .running || (match lookup s.osc.last g with
      | some t => decide (reportInstant (u * s.grpFr g / sec 1) (s.grpFr g) ≤ t)
      | none => false))

/-- The inputs held since the update before `u` for want of a group that is RUNNING: those of a signal at its group's instants, where no channel of it
has a record that was counted when it came (R252, R257). -/
def State.idleInputs (s : State) (i u : Nat) : Nat :=
  total ((s.setSlots i).map (fun n =>
    let kind := fld (s.sig n 0) 30 28
    let chans := sigChans (s.sig n 0) (s.sig n 1)
    let fr := s.sigRate kind (fld (s.sig n 0) 17 0) (fld (s.sig n 1) 17 0) 0
    let stands (c : Nat) : Bool := match s.chanGroup c with
      | some g => (s.group g).st != .running
      | none => true
    let first := (u - 1) * fr / 10 + 1
    ((upto (u * fr / 10 + 1 - first)).filter (fun j =>
      chans.any (fun c => stands c && (s.oscRec c fr (first + j)).isNone) &&
      !chans.any (fun c => match s.oscRec c fr (first + j) with
        | some r => !r.usable
        | none => false))).length))

/-- An update that became ready starts, or waits in place of one that waited (R258, R259). The first after a start restarts the set (Table 8-5). -/
def State.oscQueue (s0 : State) (i : Nat) : State :=
  let a := if (s0.oset i).first then s0.restartSet ((s0.oset i).nextU * ms 100) i else s0
  let s := (a.updSet i (fun y => { y with nextU := (s0.oset i).nextU })).oscCount 2 (a.idleInputs i (s0.oset i).nextU)
  let x := s.oset i
  let u : OscUpdate := ⟨x.nextU, s.oscWords i, s.osc.branches⟩
  let s1 := s.updSet i (fun x => { x with nextU := x.nextU + 1 })
  if x.current.isNone then s1.updSet i (fun x => { x with current := some u })
  else
    let s2 := s1.updSet i (fun x => { x with waiting := some u })
    if x.waiting.isSome then (s2.oscCount 1 1).status Reg.OSC_STAT 1 else s2

/-- OSC_UPDATE_READY (R257, R259). -/
def execOscUpdateReady (at_ : Instant) (i : Fin 32) (s : State) : Host.Outcome State Fault Refusal :=
  .next (let s1 := s.advance at_; if s1.oscReady i.val && s1.runs Isle.nose then s1.oscQueue i.val else s1)

/-- An update with its result record, which names the set with bit 5 set and the update (R493). -/
def State.oscResult (s : State) (i : Nat) (u : OscUpdate) : State :=
  let s1 := s.oscUpdate i u
  s1.noteResult (32 + i) u.u ((s1.batches.drop s.batches.length).flatMap AlarmBatch.changes)

/-- OSC_UPDATE_COMPLETE (R258): the update under way has its effect, and the one that waits starts. -/
def execOscUpdateComplete (at_ : Instant) (i : Fin 32) (s : State) : Host.Outcome State Fault Refusal :=
  let s1 := s.advance at_
  match (s1.oset i.val).current with
  | some u => .next (if s1.runs Isle.nose then
      ((s1.oscResult i.val u).updSet i.val (fun x => { x with current := x.waiting, waiting := none })).issueBarrier Isle.nose else s1)
  | none => .next s1

/-! ### Sets (R245 to R251, R272) -/

/-- A set's bands, order, window and cores as given, its thresholds at their defaults. -/
def State.setOscProfile (s : State) (a : OscProfileArgs) : State :=
  let i := a.set.val
  let s1 := s.resetRegs (fun r => decide (Reg.OSC_SET_CTL i + 0x10 ≤ r) && decide (r < Reg.OSC_SET_CTL i + 0x70))
  ((s1.setReg (Reg.OSC_SET_CTL i) (put 26 24 a.bands.val ||| put 20 16 a.order ||| put 14 12 a.fo.val)).setRf (Reg.OSC_SET_WIN i) 9 0
    a.winS).setReg (Reg.OSC_SET_CORES i) (put 7 0 a.first ||| put 16 8 a.count)

/-- Whether a set enables a band whose minimum window its own is shorter than (R248). -/
def State.bandBad (s : State) (i : Nat) : Bool :=
  (upto 3).any (fun b => s.rb (Reg.OSC_SET_CTL i) (24 + b) && decide (clamp 10 600 (s.rf (Reg.OSC_SET_WIN i) 9 0) < bandMin b))

/-- Whether a group that feeds a set has a rate that is no whole multiple of its Fo (R250). -/
def State.rateBad (s : State) (i : Nat) : Bool :=
  (s.feeding i).any (fun g => s.grpFr g % foOf (s.rf (Reg.OSC_SET_CTL i) 14 12) != 0 || s.grpFr g = 0)

/-- Why a change of a set's words is refused: the status of OSC_BAND_WIN where it breaks R248 (or, on a running set, of OSC_RATE where it breaks
R250); 0 where it is not. `off` says which words it writes. -/
def State.changeErr (s : State) (i : Nat) (off : List Nat) : Nat :=
  if (off.contains 0 || off.contains 4) && s.bandBad i then 0x0812
  else if off.contains 0 && (s.oset i).run && s.rateBad i then 0x0810
  else 0

/-- OSC_SET_PROFILE: a STOPPED set with its default thresholds. -/
def bodyOscSetProfile (a : OscProfileArgs) (s : State) : Res :=
  let i := a.set.val
  if (s.oset i).run then refuse St.STATE s
  else if decide (a.winS < 10) || decide (600 < a.winS) || a.count = 0 || decide (256 < a.count) || decide (256 < a.first + a.count) ||
      decide (25 < a.order) then refuse St.PARAM_RANGE s
  else if (s.setOscProfile a).bandBad i then refuse 0x0812 s
  else ok [] (s.setOscProfile a)

def execOscSetProfile (h : Hdr) (a : OscProfileArgs) (s : State) : Host.Outcome State Fault Refusal :=
  .next (runCmd 0x0801 h (bodyOscSetProfile a) s)

/-- The set whose range holds a core, among those that satisfy a test. -/
def State.setOfCore (s : State) (c : Nat) (f : Nat → Bool) : Option Nat := (upto 32).find? (fun i => s.hasCore i c && f i)

/-- Why a signal entry may not be written: 0, or the err code of OSC_TBL_CMD. -/
def State.sigErr (s : State) (n : Nat) (w0 w1 : Word) : Nat :=
  if 16384 ≤ n then 2
  else if (s.setOfCore (n / 64) (fun i => (s.oset i).run)).isSome then 1
  else if n % 64 = 0 && (s.setOfCore (n / 64) (fun i => (s.cores i).1 != n / 64)).isSome then 4
  else if s.sigBad w0 w1 then 3
  else 0

/-- The status of an err code of OSC_TBL_CMD. -/
def oscStatus : Nat → Nat
  | 1 => St.STATE
  | 2 => St.PARAM_RANGE
  | 3 => 0x0813
  | 4 => 0x0814
  | _ => St.OK

/-- Words of a signal entry written; word 3 is read only. -/
def State.putSig (s : State) (n : Nat) (w0 w1 w2 : Word) : State :=
  let put (l : List (Nat × Word)) (k : Nat) (w : Word) : List (Nat × Word) := store sigDefault l (4 * n + k) w
  s.setOsc (fun a => { a with signals := put (put (put a.signals 0 (w0 &&& 0xF003FFFF#32)) 1 (w1 &&& 0x3FFFF#32)) 2 w2 })

def OscSignal.index (a : OscSignal) : Nat := 64 * a.core.val + a.slot.val
def OscSignal.w0 (a : OscSignal) : Word := putBit 31 a.en ||| put 30 28 a.kind.val ||| put 17 0 a.chA.toNat
def OscSignal.w1 (a : OscSignal) : Word := put 17 0 a.chB.toNat

/-- OSC_SIGNALS (R247, R249, R251): all of them, or none where one may not be written. -/
def bodyOscSignals (set : Fin 32) (l : List OscSignal) (s : State) : Res :=
  if (s.oset set.val).run then refuse St.STATE s
  else if l.any (fun a => !s.hasCore set.val a.core.val) then refuse St.PARAM_RANGE s
  else match l.find? (fun a => s.sigErr a.index a.w0 a.w1 != 0) with
    | some a => refuse (oscStatus (s.sigErr a.index a.w0 a.w1)) s
    | none => ok [] (l.foldl (fun s a => s.putSig a.index a.w0 a.w1 a.scale) s)

def execOscSignals (h : Hdr) (set : Fin 32) (l : List OscSignal) (s : State) : Host.Outcome State Fault Refusal :=
  .next (runCmd 0x0802 h (bodyOscSignals set l) s)

/-- A register set where a word is given. -/
def State.setRegSome (s : State) (a : Nat) : Option Word → State
  | some w => s.setReg a w
  | none => s

/-- OSC_THRESHOLDS (R251, R265, R266). -/
def bodyOscThresholds (a : OscThresholdArgs) (s : State) : Res :=
  let i := a.set.val
  let b := a.band.val
  if outside 1 1023 a.dampPers || outside 1 1023 a.ampPers || outside 1 1023 a.clrPers then refuse St.PARAM_RANGE s
  else
    ok [] (((((((s.setRegSome (Reg.OSC_SET_B_DAMP i b) a.zeta).setRegSome (Reg.OSC_SET_B_HYST i b) a.hyst).setRegSome
      (Reg.OSC_SET_B_AMIN i b) a.aMin).setRegSome (Reg.OSC_SET_B_AMAX i b) a.aMax).setSome (Reg.OSC_SET_B_PERS i b) 9 0 a.dampPers).setSome
      (Reg.OSC_SET_B_PERS i b) 19 10 a.ampPers).setSome (Reg.OSC_SET_B_PERS i b) 29 20 a.clrPers)

def execOscThresholds (h : Hdr) (a : OscThresholdArgs) (s : State) : Host.Outcome State Fault Refusal :=
  .next (runCmd 0x0803 h (bodyOscThresholds a) s)

/-- Why a set may not start (R245, R248 to R250): 0, or a status. -/
def State.startErr (s : State) (i : Nat) : Nat :=
  let r := s.cores i
  if (s.oset i).run || !s.rb Reg.OSC_CTL 0 then St.STATE
  else if r.2 = 0 || decide (256 < r.1 + r.2) then St.PARAM_RANGE
  else if (upto 32).any (fun j => (s.oset j).run && (upto r.2).any (fun c => s.hasCore j (r.1 + c))) then 0x0811
  else if s.bandBad i then 0x0812
  else if (s.setSlots i).any (fun n => s.sigBad (s.sig n 0) (s.sig n 1)) then 0x0813
  else if s.rateBad i then 0x0810
  else 0

/-- The reference signal copied into slot 0 of every other core (R247). -/
def State.copyRef (s : State) (i : Nat) : State :=
  let r := s.cores i
  (upto (r.2 - 1)).foldl (fun s c => s.putSig (64 * (r.1 + c + 1)) (s.sig (64 * r.1) 0) (s.sig (64 * r.1) 1) (s.sig (64 * r.1) 2)) s

/-- OSC_SET_START (R245 to R250, R272): judged with the reference copied; the set restarts at its first update. -/
def bodyOscSetStart (set : Fin 32) (s : State) : Res :=
  let s1 := s.copyRef set.val
  if s1.startErr set.val ≠ 0 then refuse (s1.startErr set.val) s
  else ok [] (s1.updSet set.val (fun _ => { stoppedSet with run := true, first := true, since := s.now, nextU := s.now / ms 100 + 1 }))

def execOscSetStart (h : Hdr) (set : Fin 32) (s : State) : Host.Outcome State Fault Refusal :=
  .next (runCmd 0x0804 h (bodyOscSetStart set) s)

/-- OSC_SET_STOP. -/
def bodyOscSetStop (set : Fin 32) (s : State) : Res := ok [] (s.stopSet set.val)

def execOscSetStop (h : Hdr) (set : Fin 32) (s : State) : Host.Outcome State Fault Refusal :=
  .next (runCmd 0x0805 h (bodyOscSetStop set) s)

/-- Whether a register of a set is written only while it is STOPPED (R251): its core range. -/
def State.oscHeldReg (s : State) (i off : Nat) : Bool := (s.oset i).run && off == 8

/-- Whether a word of a set, by its offset, has a field outside its stated range (Tables 8-9 and 8-12, R246). -/
def oscWordBad (off : Nat) (w : Word) : Bool :=
  let out (lo hi v : Nat) : Bool := decide (v < lo) || decide (hi < v)
  match off with
  | 0 => decide (25 < fld w 20 16)
  | 4 => out 10 600 (fld w 9 0) || out 50 100 (fld w 22 16)
  | 8 => out 1 256 (fld w 16 8)
  | 0x70 => out 60 3600 (fld w 11 0)
  | 0x74 => out 10 240 (fld w 31 24)
  | 0x78 => fld w 7 0 == 0 || out 5 120 (fld w 14 8) || fld w 19 16 == 0
  | _ => false

/-- OSC_SET_RAW: words of a set by their position in its registers. -/
def bodyOscSetRaw (set : Fin 32) (l : List (Fin 32 × Word)) (s : State) : Res :=
  let t := l.foldl (fun s p => s.plainWrite (Reg.OSC_SET_CTL set.val + 4 * p.1.val) p.2) s
  let e := t.changeErr set.val (l.map (fun p => 4 * p.1.val))
  if l.any (fun p => s.oscHeldReg set.val (4 * p.1.val)) then refuse St.STATE s
  else if l.any (fun p => oscWordBad (4 * p.1.val) p.2) then refuse St.PARAM_RANGE s
  else if e ≠ 0 then refuse e s
  else ok [] t

def execOscSetRaw (h : Hdr) (set : Fin 32) (l : List (Fin 32 × Word)) (s : State) : Host.Outcome State Fault Refusal :=
  .next (runCmd 0x0880 h (bodyOscSetRaw set l) s)

/-- Whether a tuning value that is given lies outside its range. -/
def OscTuneArgs.bad (a : OscTuneArgs) : Bool :=
  (match a.k with
    | some (_, ka, kd) => decide (255 < ka) || decide (255 < kd)
    | none => false) ||
  outside 60 3600 a.tauS || outside 50 100 a.minValid || outside 0 63 a.pfrDb || outside 0 127 a.cohPct || outside 0 127 a.cvPct ||
  outside 10 240 a.segS || outside 1 255 a.persistS || outside 5 120 a.defWinS || outside 1 15 a.minSig

/-- The tuning values of a set that are given. -/
def State.setOscTune (s : State) (a : OscTuneArgs) : State :=
  let i := a.set.val
  let s1 := (s.setSome (Reg.OSC_SET_NOISE i) 11 0 a.tauS).setSome (Reg.OSC_SET_WIN i) 22 16 a.minValid
  let s2 := match a.k with
    | some (b, ka, kd) => (s1.setRf (Reg.OSC_SET_B_K i b.val) 7 0 ka).setRf (Reg.OSC_SET_B_K i b.val) 15 8 kd
    | none => s1
  ((((((s2.setSome (Reg.OSC_SET_FORCED i) 5 0 a.pfrDb).setSome (Reg.OSC_SET_FORCED i) 14 8 a.cohPct).setSome (Reg.OSC_SET_FORCED i) 22 16
    a.cvPct).setSome (Reg.OSC_SET_FORCED i) 31 24 a.segS).setSome (Reg.OSC_SET_FORCED2 i) 7 0 a.persistS).setSome (Reg.OSC_SET_FORCED2 i) 14 8
    a.defWinS).setSome (Reg.OSC_SET_FORCED2 i) 19 16 a.minSig

/-- OSC_TUNE. -/
def bodyOscTune (a : OscTuneArgs) (s : State) : Res := if a.bad then refuse St.PARAM_RANGE s else ok [] (s.setOscTune a)

def execOscTune (h : Hdr) (a : OscTuneArgs) (s : State) : Host.Outcome State Fault Refusal := .next (runCmd 0x0882 h (bodyOscTune a) s)

/-! ### Branches and table accesses (R270, R276) -/

/-- Why a branch entry may not be written: its index, or a channel that is no phasor. -/
def State.branchErr (s : State) (b : Nat) (w0 w1 : Word) : Nat :=
  let bad (c : Nat) : Bool := match s.chanType c with
    | some t => t != .phasor
    | none => false
  if 4096 ≤ b then 2 else if bit w0 31 && (bad (fld w0 17 0) || bad (fld w1 17 0)) then 3 else 0

/-- The bits of a branch word that are not reserved (Table 8-13, R8). -/
def branchMask : Nat → Word
  | 0 => 0x9F03FFFF#32
  | 1 => 0x0FF3FFFF#32
  | _ => 0xFFFFFFFF#32

def State.putBranch (s : State) (b : Nat) (ws : List Word) : State :=
  s.setOsc (fun a => { a with branches := ((upto 4).zip ws).foldl (fun l p => store branchDefault l (4 * b + p.1) (p.2 &&& branchMask p.1)) a.branches })

def OscBranch.words (a : OscBranch) : List Word :=
  [putBit 31 a.en ||| put 28 24 a.set.val ||| put 17 0 a.vCh.toNat, put 27 24 a.toArea.val ||| put 23 20 a.fromArea.val ||| put 17 0 a.iCh.toNat,
    put 31 16 a.toBus.toNat ||| put 15 0 a.fromBus.toNat, a.scale]

/-- OSC_DEF_BRANCHES (R276): in force at the next update that becomes ready. -/
def bodyOscDefBranches (l : List OscBranch) (s : State) : Res :=
  match l.find? (fun a => s.branchErr a.index.val (a.words.headD 0#32) ((a.words.drop 1).headD 0#32) != 0) with
  | some _ => refuse 0x0813 s
  | none => ok [] (l.foldl (fun s a => s.putBranch a.index.val a.words) s)

def execOscDefBranches (h : Hdr) (l : List OscBranch) (s : State) : Host.Outcome State Fault Refusal :=
  .next (runCmd 0x0807 h (bodyOscDefBranches l) s)

/-- A table entry written: 0, or the err code of OSC_TBL_CMD. -/
def State.oscWrite (s : State) (branch : Bool) (n : Nat) (ws : List Word) : Nat × State :=
  let w (k : Nat) : Word := (ws[k]?).getD 0#32
  if branch then
    let e := s.branchErr n (w 0) (w 1)
    if e = 0 then (0, s.putBranch n ws) else (e, s)
  else
    let e := s.sigErr n (w 0) (w 1)
    if e = 0 then (0, s.putSig n (w 0) (w 1) (w 2)) else (e, s)

/-- OSC_SIG_RAW: entries as given; the first that may not be written refuses them all. -/
def bodyOscSigRaw (l : List OscTblEntry) (s : State) : Res :=
  match l.find? (fun e => (s.oscWrite e.branch e.index e.words.toList).1 != 0) with
  | some e => refuse (oscStatus (s.oscWrite e.branch e.index e.words.toList).1) s
  | none => ok [] (l.foldl (fun s e => (s.oscWrite e.branch e.index e.words.toList).2) s)

def execOscSigRaw (h : Hdr) (l : List OscTblEntry) (s : State) : Host.Outcome State Fault Refusal := .next (runCmd 0x0881 h (bodyOscSigRaw l) s)

/-- The table and entry that OSC_TBL_IDX names. -/
def State.oscIdx (s : State) : Bool × Nat := (s.rb Reg.OSC_TBL_IDX 16, s.rf Reg.OSC_TBL_IDX 13 0)

/-- A word of a signal as it reads: exclusion and validity at the last update of its set. -/
def State.sigRead (s : State) (n w : Nat) : Word :=
  match s.setOfCore (n / 64) (fun i => (s.oset i).run) with
  | some i =>
    if w = 0 then s.sig n 0 ||| putBit 27 ((s.oset i).excl.contains n)
    else if w = 3 then put 6 0 ((lookup (s.oset i).valid n).getD 0)
    else s.sig n w
  | none => s.sig n w

def State.oscTblRead (s : State) : State :=
  let x := s.oscIdx
  if x.1 && decide (4096 ≤ x.2) then s.setRf Reg.OSC_TBL_CMD 30 28 2
  else ((upto 4).foldl (fun s w => s.setReg (Reg.OSC_TBL_W w) (if x.1 then branchWord s.osc.branches x.2 w else s.sigRead x.2 w)) s).setRf
    Reg.OSC_TBL_CMD 30 28 0

/-- OSC_TBL_READ (R276). -/
def execOscTblRead (at_ : Instant) (s : State) : Host.Outcome State Fault Refusal := .next (s.advance at_).oscTblRead

def State.oscTblWrite (s : State) : State :=
  let x := s.oscIdx
  let r := s.oscWrite x.1 x.2 ((upto 4).map (fun w => s.reg (Reg.OSC_TBL_W w)))
  r.2.setRf Reg.OSC_TBL_CMD 30 28 r.1

/-- OSC_TBL_WRITE (R276). -/
def execOscTblWrite (at_ : Instant) (s : State) : Host.Outcome State Fault Refusal := .next (s.advance at_).oscTblWrite

/-! ### Readings -/

/-- The state of a set (Table 8-12): 0 STOPPED, 1 FILLING, 2 RUNNING. -/
def OscSet.state (x : OscSet) : Nat := if !x.run then 0 else if x.ready then 2 else 1

/-- The fields of the oscillation registers that are read from the state (Tables 8-9 and 8-12). -/
def State.oscView (s : State) (a : Nat) : Word :=
  if a = Reg.OSC_USE then
    let l := (upto 32).filter (fun i => (s.oset i).run)
    put 8 0 (total (l.map (fun i => (s.cores i).2))) ||| put 21 16 l.length |||
      put 29 24 (total (l.map (fun i => ((s.oset i).tracks.filter (fun p => p.2.forced)).length)))
  else if 0x81000 ≤ a && a < 0x82000 then
    let i := (a - 0x81000) / 0x80
    let off := (a - 0x81000) % 0x80
    let x := s.oset i
    if off = 0 then put 31 30 x.state
    else if off = 0x7C then put 5 0 x.tracks.length ||| put 13 8 x.alarms.length ||| put 31 16 (x.lastU / 10)
    else if off % 0x20 = 4 && decide (0x24 ≤ off) && decide (off < 0x70) then (((x.noise[(off - 0x24) / 0x20]?).getD none).getD 0#32)
    else 0#32
  else 0#32

/-- OSC_STATUS: each set's state, the instant of its last update and its cores, then the counters. -/
def bodyOscStatus (s : State) : Res :=
  ok ((upto 32).flatMap (fun i => let x := s.oset i; [word x.state, word x.lastU, word (s.cores i).1, word (s.cores i).2]) ++
    (upto 8).map (fun i => s.reg (Reg.OSC_CNT i))) s

def execOscStatus (h : Hdr) (s : State) : Host.Outcome State Fault Refusal := .next (runCmd 0x0800 h bodyOscStatus s)

/-- A track as OSC_MODES_READ returns it; bit 31 of a shape entry's first word says that it is valid (R254). -/
def trackWords (x : OscSet) (shapes : Bool) (p : Nat × OscTrack) : List Word :=
  let t := p.2
  [word p.1, word t.band, F32.conv t.f, F32.conv t.zeta, F32.conv t.aRef,
    putBit 0 t.forced ||| putBit 1 x.degraded ||| putBit 2 x.injected] ++
  (if shapes then t.shape.flatMap (fun e => [word e.slot ||| putBit 31 e.valid, F32.conv e.re, F32.conv e.im]) else [])

/-- OSC_MODES_READ. -/
def bodyOscModesRead (set : Fin 32) (shapes : Bool) (s : State) : Res :=
  ok ((s.oset set.val).tracks.flatMap (trackWords (s.oset set.val) shapes)) s

def execOscModesRead (h : Hdr) (set : Fin 32) (shapes : Bool) (s : State) : Host.Outcome State Fault Refusal :=
  .next (runCmd 0x0806 h (bodyOscModesRead set shapes) s)

/-- A forced record as OSC_FORCED_READ returns it. -/
def forcedWords (flows : Bool) (p : Nat × OscTrack) : List Word :=
  match p.2.source with
  | some r => [word p.1, word r.srcBus, word r.srcArea, F32.conv r.conf, word r.age] ++
      (if flows then r.flows.flatMap (fun x => [word x.1, F32.conv x.2]) else [])
  | none => []

/-- OSC_FORCED_READ. -/
def bodyOscForcedRead (set : Fin 32) (flows : Bool) (s : State) : Res :=
  ok (((s.oset set.val).tracks.filter (fun p => p.2.forced)).flatMap (forcedWords flows)) s

def execOscForcedRead (h : Hdr) (set : Fin 32) (flows : Bool) (s : State) : Host.Outcome State Fault Refusal :=
  .next (runCmd 0x0808 h (bodyOscForcedRead set flows) s)

end Sys2Proof.Machine
end

