-- ==== Sys2Proof/Machine/Publication.lean ====
section
/-! DEFINITION. Atomizer (chapter 10): the meanings of its commands, its table accesses and its events. -/

namespace Sys2Proof.Machine

/-! ### Streams -/

/-- t_eff of a stream's change: the first instant of its group at least lead_s ahead (R310). -/
def State.streamEff (s : State) (i : Nat) : Instant :=
  let fr := s.grpFr (s.rf (Reg.PUB_STRM_CTL i) 20 16)
  reportInstant (firstK (s.now + sec 1 * clamp 1 6000 (s.rf (Reg.PUB_STRM_LEAD i) 12 0) / 10) fr) fr

/-- A change of a stream's layout, mode, ports or destination (R310): at once while it is stopped, else at the first instant of its group at
least lead_s after acceptance. The reply gives t_eff and the frame size. -/
def State.changeStream (s : State) (i : Nat) (c : StreamCfg) : Res :=
  let ctl := s.reg (Reg.PUB_STRM_CTL i)
  let size := match c.layout with
    | some l => streamBytes (bit ctl 28) (bit ctl 28 && bit ctl 27) c l
    | none => 0
  if !bit ctl 26 then ok (instantWords s.now ++ [word size]) ((s.applyStream i 0 c).updStream i (fun x => { x with old := none }))
  else if (s.stream i).pend.isSome then refuse St.BUSY s
  else
    ok (instantWords (s.streamEff i) ++ [word size]) (s.updStream i (fun x => { x with pend := some (s.streamEff i, c) }))

/-- Whether an authentication setting names a slot of another class (R322). -/
def State.authRefused (s : State) (en : Bool) (slot : Nat) : Bool := en && s.keyErr slot [1, 2] == St.KEY_ATTR

/-- A stream's kind, source group and authentication set. -/
def State.setStream (s : State) (a : StreamProfileArgs) : State :=
  let i := a.stream.val
  (((s.setRb (Reg.PUB_STRM_CTL i) 28 a.rsv).setRf (Reg.PUB_STRM_CTL i) 20 16 a.group.val).setRb (Reg.PUB_STRM_CTL i) 27 a.authEn).setRf
    (Reg.PUB_STRM_AUTH i) 7 0 a.authSlot.toNat

/-- PUB_STREAM_PROFILE (R303, R309, R310, R322): the kind and the source group change only on a stopped stream. -/
def bodyPubStreamProfile (a : StreamProfileArgs) (s : State) : Res :=
  let i := a.stream.val
  let ctl := s.reg (Reg.PUB_STRM_CTL i)
  if s.authRefused (a.rsv && a.authEn) a.authSlot.toNat then refuse St.KEY_ATTR s
  else if bit ctl 26 && (bit ctl 28 != a.rsv || fld ctl 20 16 != a.group.val) then refuse St.STATE s
  else
    let new : StreamCfg := ⟨(s.stream i).layout, a.prov, a.ports.toNat, a.dest, (s.stream i).confRev⟩
    let s1 := s.setStream a
    if new = s.strmCfg i then ok [] s1
    else match s1.changeStream i new with
      | .done st words s2 => if st = St.OK then .done st words s2 else .done st words s
      | r => r

def execPubStreamProfile (h : Hdr) (a : StreamProfileArgs) (s : State) : Host.Outcome State Fault Refusal :=
  .next (runCmd 0x0A01 h (bodyPubStreamProfile a) s)

/-- Whether a listed channel is of a type other than its list's. -/
def State.wrongType (s : State) (ty : ChanType → Bool) (c : Word) : Bool :=
  match s.chanType c.toNat with
  | some x => !ty x
  | none => false

/-- Whether a block lists a channel of the wrong type. -/
def State.badBlock (s : State) (b : LayoutBlock) : Bool :=
  b.ph.any (s.wrongType (· == .phasor)) || b.an.any (s.wrongType (fun t => t != .phasor && t != .digital)) ||
  b.dg.any (s.wrongType (· == .digital)) || (b.fCh != 0xFFFFFFFF#32 && s.wrongType (· == .frequency) b.fCh) ||
  (b.dfCh != 0xFFFFFFFF#32 && s.wrongType (· == .rocof) b.dfCh)

/-- PUB_STREAM_LAYOUT (R304, R310): the refusals in the order of R304. -/
def bodyPubStreamLayout (stream : Fin 64) (l : LayoutBuffer) (s : State) : Res :=
  let i := stream.val
  let ctl := s.reg (Reg.PUB_STRM_CTL i)
  let c := { s.strmCfg i with layout := some l, confRev := (s.stream i).confRev + 1 }
  if l.blocks.isEmpty || decide (1024 < l.blocks.length) then refuse St.PARAM_RANGE s
  else if l.chans.any (fun x => s.chanGroup x != some (fld ctl 20 16)) then refuse 0x0A12 s
  else if 8000 < l.chans.length then refuse 0x0A11 s
  else if 65507 < streamBytes (bit ctl 28) (bit ctl 28 && bit ctl 27) c l then refuse 0x0A10 s
  else if l.crc != crc32c l.body || l.blocks.any s.badBlock then refuse St.BAD_PARAM s
  else s.changeStream i c

def execPubStreamLayout (h : Hdr) (stream : Fin 64) (l : LayoutBuffer) (s : State) : Host.Outcome State Fault Refusal :=
  .next (runCmd 0x0A02 h (bodyPubStreamLayout stream l) s)

/-- A stream started or stopped; a change that waits is applied at a stop. -/
def State.runStream (s : State) (i : Nat) (run : Bool) : State :=
  let s1 := s.setRb (Reg.PUB_STRM_CTL i) 26 run
  if run then s1.updStream i (fun x => { x with on := true, stopped := none, keyStop := false })
  else
    let s2 := if s.rb (Reg.PUB_STRM_CTL i) 26 then s1.updStream i (fun x => { x with stopped := some (s.now, s.time.epoch) }) else s1
    match (s2.stream i).pend with
    | some (_, c) => s2.applyStream i s2.now c
    | none => s2

/-- PUB_STREAM_CTL (R311): a stream without a layout does not start. -/
def bodyPubStreamCtl (stream : Fin 64) (run : Bool) (s : State) : Res :=
  if run && (s.stream stream.val).layout.isNone then refuse St.STATE s
  else ok [] (s.runStream stream.val run)

def execPubStreamCtl (h : Hdr) (stream : Fin 64) (run : Bool) (s : State) : Host.Outcome State Fault Refusal :=
  .next (runCmd 0x0A03 h (bodyPubStreamCtl stream run) s)

/-- A control word of a stream as it is written: a running stream's ports and mode change under R310, its group and kind do not change. -/
def State.writeStreamCtl (s : State) (i : Nat) (w : Word) : Res :=
  let ctl := s.reg (Reg.PUB_STRM_CTL i)
  if bit ctl 26 && (bit ctl 28 != bit w 28 || fld ctl 20 16 != fld w 20 16) then refuse St.STATE s
  else if bit w 26 && (s.stream i).layout.isNone then refuse St.STATE s
  else
    let new := { s.strmCfg i with prov := bit w 29, ports := fld w 9 0 }
    let s1 := ((s.setRb (Reg.PUB_STRM_CTL i) 28 (bit w 28)).setRf (Reg.PUB_STRM_CTL i) 20 16 (fld w 20 16)).setRb (Reg.PUB_STRM_CTL i) 27 (bit w 27)
    let run (s : State) : State := if bit w 26 != bit ctl 26 then s.runStream i (bit w 26) else s
    if !bit ctl 26 || !bit w 26 then ok [] (run (s1.applyStream i 0 new))
    else if new = s.strmCfg i then ok [] s1
    else match s1.changeStream i new with
      | .done st words s2 => if st = St.OK then .done st words s2 else .done st words s
      | r => r

/-- PUB_STREAM_RAW. -/
def bodyPubStreamRaw (a : PubStreamRawArgs) (s : State) : Res :=
  let i := a.stream.val
  if (match a.leadDs with
      | some d => decide (d < 1) || decide (6000 < d)
      | none => false) then refuse St.PARAM_RANGE s
  else
    let slot := (a.authSlot.map BitVec.toNat).getD (s.rf (Reg.PUB_STRM_AUTH i) 7 0)
    let ctl := a.ctl.getD (s.reg (Reg.PUB_STRM_CTL i))
    if s.authRefused (bit ctl 27 && bit ctl 28) slot then refuse St.KEY_ATTR s
    else
      let s1 := (match a.leadDs with
        | some d => s.setRf (Reg.PUB_STRM_LEAD i) 12 0 d
        | none => s).setRf (Reg.PUB_STRM_AUTH i) 7 0 slot
      match a.ctl with
      | none => ok [] s1
      | some w => match s1.writeStreamCtl i w with
        | .done st words s2 => if st = St.OK then .done st words s2 else .done st words s
        | r => r

def execPubStreamRaw (h : Hdr) (a : PubStreamRawArgs) (s : State) : Host.Outcome State Fault Refusal :=
  .next (runCmd 0x0A80 h (bodyPubStreamRaw a) s)

/-- STREAM_CHANGE_EFFECTIVE (R310): the change that waits is in force from t_eff on; instants before it keep the old one. -/
def execStreamChangeEffective (i : Fin 64) (s : State) : Host.Outcome State Fault Refusal :=
  match (s.stream i.val).pend with
  | some (t, c) => .next ((s.advance t).applyStream i.val t c)
  | none => .next s

/-- The configuration frame that answers a command frame (R305, R310): CFG-3 already describes a layout that waits; scale factors are 1. -/
def State.cfgAnswer (s : State) (i : Nat) (cfg3 : Bool) : Option CfgAnswer :=
  let c := match (s.stream i).pend with
    | some (_, c) => if cfg3 then c else s.strmCfg i
    | none => s.strmCfg i
  c.layout.map (fun l => ⟨i, cfg3, l, 1, s.grpFr (s.rf (Reg.PUB_STRM_CTL i) 20 16)⟩)

/-- C37_COMMAND_FRAME_RECEIVE (R305): transmission turned on or off, or a configuration answered from the layout. -/
def execC37CommandFrameReceive (at_ : Instant) (i : Fin 64) (c : C37Command) (s0 : State) : Host.Outcome State Fault Refusal :=
  let s := s0.advance at_
  .next (if s.rb (Reg.PUB_STRM_CTL i.val) 28 || !s.rb (Reg.PUB_STRM_CTL i.val) 26 || (s.stream i.val).layout.isNone then s
    else match c with
      | .dataOn => s.updStream i.val (fun x => { x with on := true })
      | .dataOff => s.updStream i.val (fun x => { x with on := false })
      | .sendCfg2 => if s.speaks then s.setPub (fun p => { p with answers := p.answers ++ (s.cfgAnswer i.val false).toList }) else s
      | .sendCfg3 => if s.speaks then s.setPub (fun p => { p with answers := p.answers ++ (s.cfgAnswer i.val true).toList }) else s)

/-! ### Snapshots and alarms -/

/-- Whether an instant of a group waits for its ring commit (R287). -/
def State.ringWaits (s : State) (x : Snapshot) : Bool :=
  s.runs Isle.nose && s.rb Reg.ISL_CTL 0 && s.rb Reg.ISL_CTL 2 && s.ringNow.any (fun r => r.k == x.k) &&
  (match s.modelAt x.t with
  | some m => m.group == x.group
  | none => false)

/-- Whether a snapshot may be published: of a committed instant, every change that Nose decides comes first (R232), those of the ring commit
among them, and Accord's barrier has completed (R474). -/
def State.publishable (s : State) (x : Snapshot) : Bool :=
  !x.committed || (!s.barred Isle.accord &&
    (!(s.runs Isle.nose && s.aln.nose.any (fun m => match m with
        | .commit y => y.group == x.group && y.k == x.k
        | .confirm y => y.group == x.group && y.k == x.k
        | .rollback y => y.group == x.group && y.k == x.k
        | _ => false)) &&
     !s.ringWaits x &&
     !s.batches.any (fun b => b.group == x.group && b.t == x.t)))

/-- SNAPSHOT_PUBLISH (R303, R309): the oldest snapshot on its way to Atomizer goes out on every stream of its group. -/
def execSnapshotPublish (at_ : Instant) (s0 : State) : Host.Outcome State Fault Refusal :=
  let s := s0.advance at_
  match s.aln.pub with
  | x :: rest =>
    .next (if s.runs Isle.atomizer then
        (if s.publishable x then (s.setAln (fun a => { a with pub := rest })).publishSnapshot x else s)
      else s.setAln (fun a => { a with pub := rest }))
  | [] => .next s

/-- ALARM_BATCH_RECEIVE (R317): the oldest batch on its way to Atomizer, once Nose's barrier has completed (R474). -/
def execAlarmBatchReceive (at_ : Instant) (s0 : State) : Host.Outcome State Fault Refusal :=
  let s := s0.advance at_
  match s.batches with
  | b :: rest => .next (if s.runs Isle.atomizer && !s.barred Isle.nose then State.takeBatch { s with batches := rest } b else s)
  | [] => .next s

/-- GOOSE_RETRANSMIT (R320). -/
def execGooseRetransmit (k : Fin 128) (s : State) : Host.Outcome State Fault Refusal :=
  match (s.block k.val).due with
  | some u => .next (let s1 := s.advanceUp u; if s1.blockRuns k.val && s1.runs Isle.atomizer then s1.retransmit k.val else s1)
  | none => .next s

/-- ALARM_OUT_MIN_ON_EXPIRY (R324): a land that stayed asserted for min_on_ms is released. -/
def execAlarmOutMinOnExpiry (n : Fin 8) (s : State) : Host.Outcome State Fault Refusal :=
  match (s.land n.val).relDue with
  | some u => .next (let s1 := s.advanceUp u; if s1.landWanted n.val || !s1.runs Isle.atomizer then s1 else s1.updLand n.val (fun _ => idleLand))
  | none => .next s

/-! ### Control blocks and lands -/

/-- The word of a selector (Table 10-14). -/
def AlarmSel.word (a : AlarmSel) : Word :=
  putBit 31 a.en ||| putBit 30 a.wild ||| put 17 16 a.source.val ||| put 15 0 a.key.toNat

/-- Selectors written at a place of a table, and the rest of it, up to `n`, unused. -/
def putSels (l : List (Nat × Word)) (base n : Nat) (sels : List AlarmSel) : List (Nat × Word) :=
  (upto n).foldl (fun l m => store (fun _ => 0#32) l (base + m) (((sels[m]?).map AlarmSel.word).getD 0#32)) l

/-- A control block's kind: routed or not. -/
def State.gocbKind (s : State) (a : GocbArgs) : Bool := a.routed.getD (s.rb (Reg.PUB_GOCB_CTL a.cb.val) 30)

/-- A control block set as given (R318, R321): a change of members or strings takes effect with confRev raised and the ladder restarted. -/
def State.setGocb (s : State) (a : GocbArgs) : State :=
  let k := a.cb.val
  let was := s.blockRuns k
  let s1 := s.setRb (Reg.PUB_GOCB_CTL k) 30 (s.gocbKind a)
  let s2 := match a.auth with
    | some (en, slot) => (s1.setRb (Reg.PUB_GOCB_CTL k) 29 en).setRf (Reg.PUB_GOCB_CTL k) 15 8 slot.toNat
    | none => s1
  let s3 := match a.ports with
    | some p => s2.setRf (Reg.PUB_GOCB_PORTS k) 9 0 p.toNat
    | none => s2
  let s4 := match a.members with
    | some l => s3.setPub (fun p => { p with members := putSels p.members (64 * k) 64 l })
    | none => s3
  let changed := a.members.isSome || a.strings.isSome
  let s5 := s4.updBlock k (fun b => { b with
    gocbRef := (a.strings.map (·.1)).getD b.gocbRef, datSet := (a.strings.map (·.2.1)).getD b.datSet, goId := (a.strings.map (·.2.2)).getD b.goId
    appid := a.appid.getD b.appid, dest := a.dest.getD b.dest, confRev := if changed then b.confRev + 1 else b.confRev })
  let s6 := match a.run with
    | some r => s5.setRb (Reg.PUB_GOCB_CTL k) 31 r
    | none => s5
  if changed && was && s6.blockRuns k then s6.publishBlock k else s6.settleBlock k was

/-- PUB_GOCB (R318, R321, R322). -/
def bodyPubGocb (a : GocbArgs) (s : State) : Res :=
  let long := match a.strings with
    | some (x, y, z) => decide (64 < x.length) || decide (64 < y.length) || decide (64 < z.length)
    | none => false
  if long || decide (64 < (a.members.getD []).length) || (!s.gocbKind a && decide (0x3FFF < (a.appid.getD 0).toNat)) then refuse St.PARAM_RANGE s
  else if (match a.auth with
      | some (en, slot) => s.authRefused en slot.toNat
      | none => false) then refuse St.KEY_ATTR s
  else ok [] (s.setGocb a)

def execPubGocb (h : Hdr) (a : GocbArgs) (s : State) : Host.Outcome State Fault Refusal := .next (runCmd 0x0A04 h (bodyPubGocb a) s)

/-- The control word that PUB_GOCB_RAW leaves a block with. -/
def State.rawGocbCtl (s : State) (a : GocbRawArgs) : Word := a.ctl.getD (s.reg (Reg.PUB_GOCB_CTL a.cb.val))

/-- A block's words, and t_min and t0, as given. -/
def State.setGocbRaw (s : State) (a : GocbRawArgs) : State :=
  let k := a.cb.val
  let ctl := s.rawGocbCtl a
  let s1 := ((((s.setSome Reg.PUB_LADDER 6 0 a.tMin).setSome Reg.PUB_LADDER 31 16 a.t0).setSome (Reg.PUB_GOCB_PORTS k) 9 0
    (a.ports.map BitVec.toNat)).setRf (Reg.PUB_GOCB_CTL k) 31 29 (fld ctl 31 29)).setRf (Reg.PUB_GOCB_CTL k) 15 8 (fld ctl 15 8)
  s1.settleBlock k (s.blockRuns k)

/-- PUB_GOCB_RAW: the block's words, and t_min and t0. -/
def bodyPubGocbRaw (a : GocbRawArgs) (s : State) : Res :=
  if outside 1 64 a.tMin || outside 100 60000 a.t0 then refuse St.PARAM_RANGE s
  else if s.authRefused (bit (s.rawGocbCtl a) 29) (fld (s.rawGocbCtl a) 15 8) then refuse St.KEY_ATTR s
  else ok [] (s.setGocbRaw a)

def execPubGocbRaw (h : Hdr) (a : GocbRawArgs) (s : State) : Host.Outcome State Fault Refusal :=
  .next (runCmd 0x0A81 h (bodyPubGocbRaw a) s)

/-- An alarm land set as given (R324): selectors given are enabled from selector 0 on, and the land follows at once. -/
def State.setAlarmOut (s : State) (a : AlarmOutArgs) : State :=
  let n := a.land.val
  let s1 := match a.sels with
    | some l => (s.setPub (fun p => { p with landSel := putSels p.landSel (16 * n) 16 l })).setRf (Reg.PUB_AOUT_CTL n) 15 0 (2 ^ l.length - 1)
    | none => s
  let s2 := match a.provEn with
    | some b => s1.setRb (Reg.PUB_AOUT_CTL n) 31 b
    | none => s1
  let s3 := match a.pol with
    | some b => s2.setRb (Reg.PUB_AOUT_CTL n) 30 b
    | none => s2
  (s3.setSome (Reg.PUB_AOUT_CTL n) 25 16 a.minOnMs).driveLand n false

/-- PUB_ALARM_OUT (R324). -/
def bodyPubAlarmOut (a : AlarmOutArgs) (s : State) : Res :=
  if decide (16 < (a.sels.getD []).length) || outside 0 1000 a.minOnMs then refuse St.PARAM_RANGE s
  else ok [] (s.setAlarmOut a)

def execPubAlarmOut (h : Hdr) (a : AlarmOutArgs) (s : State) : Host.Outcome State Fault Refusal :=
  .next (runCmd 0x0A05 h (bodyPubAlarmOut a) s)

/-! ### Limit entries and tables (R312, R330) -/

/-- Whether a limit entry watches a channel of the wrong type: LEVEL and RATE a numeric one, PATTERN a digital one, THR an estimated one. -/
def State.limitType (s : State) (w0 : Word) : Bool :=
  let c := fld w0 17 0
  bit w0 31 && (match fld w0 30 28 with
    | 0 => s.wrongType (· != .digital) (word c)
    | 1 => s.wrongType (· != .digital) (word c)
    | 2 => s.wrongType (· == .digital) (word c)
    | 3 => decide (c < estimatedBase)
    | _ => false)

/-- A limit entry written (R330): one whose alarm is active clears it at the next committed snapshot of its group, another starts anew. -/
def State.writeLimit (s : State) (e : Nat) (ws : List Word) : State :=
  let old := s.lw e 0
  let new := ws.headD 0#32 &&& 0xFFF3FFFF#32
  let active := (s.limSt e).alarm != 0
  let g := match (if bit old 31 then s.chanGroup (fld old 17 0) else none) with
    | some g => g
    | none => (s.chanGroup (fld new 17 0)).getD 0
  let s1 := s.setLim (fun a => { a with
    table := ((upto 4).zip (new :: ws.drop 1)).foldl (fun t p => store (fun _ => 0#32) t (4 * e + p.1) p.2) a.table
    config := if active then (a.config.filter (fun p => p.1 != e)) ++ [(e, g)] else a.config })
  if active then s1 else s1.mapLim (fun x y => if x = e then idleLim else y)

/-- The words of a limit as PUB_LIMITS gives it. -/
def LimitArgs.words (a : LimitArgs) : List Word :=
  [putBit 31 true ||| put 30 28 a.kind.val ||| put 27 20 a.debounce ||| put 17 0 a.chan, a.high, a.low, a.hyst]

/-- PUB_LIMITS: a channel of the wrong type is malformed. -/
def bodyPubLimits (l : List LimitArgs) (s : State) : Res :=
  if l.any (fun a => decide (262144 ≤ a.chan) || decide (255 < a.debounce)) then refuse St.PARAM_RANGE s
  else if l.any (fun a => s.limitType (a.words.headD 0#32)) then refuse St.BAD_PARAM s
  else ok [] (l.foldl (fun s a => s.writeLimit a.entry.val a.words) s)

def execPubLimits (h : Hdr) (l : List LimitArgs) (s : State) : Host.Outcome State Fault Refusal := .next (runCmd 0x0A06 h (bodyPubLimits l) s)

/-- How many entries a table has: limits, land selectors, members. -/
def pubEntries : Nat → Nat
  | 0 => 32768
  | 1 => 128
  | 2 => 8192
  | _ => 0

/-- The words of an entry; a limit's word 0 shows whether its alarm is active. -/
def State.pubRead (s : State) (table i w : Nat) : Word :=
  if table = 0 then (if w = 0 then s.lw i 0 ||| putBit 19 ((s.limSt i).alarm != 0) else s.lw i w)
  else if w ≠ 0 then 0#32
  else if table = 1 then fetch (fun _ => 0#32) s.pub.landSel i
  else fetch (fun _ => 0#32) s.pub.members i

/-- A table entry written: 0, or the err code of PUB_TBL_CMD. A selector's land and a member's block follow at once. -/
def State.pubWrite (s : State) (table i : Nat) (ws : List Word) : Nat × State :=
  let w := ws.headD 0#32 &&& 0xC003FFFF#32
  if pubEntries table ≤ i then (1, s)
  else if table = 0 then (if s.limitType (ws.headD 0#32) then (2, s) else (0, s.writeLimit i ws))
  else if table = 1 then
    (0, (s.setPub (fun p => { p with landSel := store (fun _ => 0#32) p.landSel i w })).driveLand (i / 16) false)
  else
    let k := i / 64
    let s1 := (s.setPub (fun p => { p with members := store (fun _ => 0#32) p.members i w })).updBlock k (fun b => { b with confRev := b.confRev + 1 })
    (0, if s1.blockRuns k then s1.publishBlock k else s1)

/-- PUB_TBL_RAW. -/
def bodyPubTblRaw (l : List PubTblEntry) (s : State) : Res :=
  if l.any (fun e => decide (pubEntries e.table.val ≤ e.index)) then refuse St.PARAM_RANGE s
  else if l.any (fun e => e.table == 0 && s.limitType (e.words.toList.headD 0#32)) then refuse St.BAD_PARAM s
  else ok [] (l.foldl (fun s e => (s.pubWrite e.table.val e.index e.words.toList).2) s)

def execPubTblRaw (h : Hdr) (l : List PubTblEntry) (s : State) : Host.Outcome State Fault Refusal := .next (runCmd 0x0A82 h (bodyPubTblRaw l) s)

/-- The table and entry that PUB_TBL_IDX names. -/
def State.pubIdx (s : State) : Nat × Nat := (s.rf Reg.PUB_TBL_IDX 21 20, s.rf Reg.PUB_TBL_IDX 14 0)

def State.pubTblRead (s : State) : State :=
  let x := s.pubIdx
  if pubEntries x.1 ≤ x.2 then s.setRf Reg.PUB_TBL_CMD 30 28 1
  else ((upto 4).foldl (fun s w => s.setReg (Reg.PUB_TBL_W w) (s.pubRead x.1 x.2 w)) s).setRf Reg.PUB_TBL_CMD 30 28 0

/-- PUB_TBL_READ (R330). -/
def execPubTblRead (at_ : Instant) (s : State) : Host.Outcome State Fault Refusal := .next (s.advance at_).pubTblRead

def State.pubTblWrite (s : State) : State :=
  let x := s.pubIdx
  let r := s.pubWrite x.1 x.2 ((upto 4).map (fun w => s.reg (Reg.PUB_TBL_W w)))
  r.2.setRf Reg.PUB_TBL_CMD 30 28 r.1

/-- PUB_TBL_WRITE (R330). -/
def execPubTblWrite (at_ : Instant) (s : State) : Host.Outcome State Fault Refusal := .next (s.advance at_).pubTblWrite

/-! ### Readings -/

/-- The state of a stream (Table 10-12): 0 STOPPED, 1 RUNNING, 2 CHANGE_PENDING. -/
def State.streamState (s : State) (i : Nat) : Nat :=
  if !s.rb (Reg.PUB_STRM_CTL i) 26 then 0 else if (s.stream i).pend.isSome then 2 else 1

/-- The fields of the publication registers that are read from the state (Tables 10-9, 10-12 and 10-13). -/
def State.pubView (s : State) (a : Nat) : Word :=
  if a = Reg.PUB_USE then
    put 6 0 ((upto 64).filter (fun i => s.rb (Reg.PUB_STRM_CTL i) 26)).length |||
    put 15 8 ((upto 128).filter (fun k => s.rb (Reg.PUB_GOCB_CTL k) 31)).length ||| put 28 16 s.pub.alarms.length
  else if 0xA0200 ≤ a && a < 0xA0220 then putBit 29 (s.land ((a - 0xA0200) / 4)).on
  else if 0xA1000 ≤ a && a < 0xA1800 then
    let i := (a - 0xA1000) / 32
    if a % 32 = 0 then put 31 30 (s.streamState i)
    else if a % 32 = 8 then word ((((s.stream i).pend).map (fun p => secsOf p.1)).getD 0)
    else 0#32
  else if 0xA3000 ≤ a && a < 0xA4000 && a % 32 = 0 then
    let k := (a - 0xA3000) / 32
    putBit 28 ((s.block k).sent.any MemberView.injected) ||| put 22 16 (s.memberWords k).length
  else 0#32

/-- PUB_STATUS: streams and blocks with their states, the use of the alarm table, counters. -/
def bodyPubStatus (s : State) : Res :=
  ok ((upto 64).map (fun i => word (s.streamState i)) ++ (upto 128).map (fun k => putBit 0 (s.blockRuns k) ||| putBit 1 (s.block k).keyStop) ++
    [word s.pub.alarms.length] ++ (upto 8).map (fun i => s.reg (Reg.PUB_CNT i))) s

def execPubStatus (h : Hdr) (s : State) : Host.Outcome State Fault Refusal := .next (runCmd 0x0A00 h bodyPubStatus s)

/-- The cause of an administrative clear as PUB_ALARMS_READ returns it (DESIGN CHOICE, assumption 121: R316 names the causes and gives no codes). -/
def ClearCause.code : ClearCause → Nat
  | .config => 1
  | .model => 2
  | .stop => 3
  | .restart => 4
  | .trackClosed => 5

/-- An alarm as PUB_ALARMS_READ returns it. -/
def alarmWords (a : PubAlarm) : List Word :=
  [word a.src, word a.key, word a.st.val] ++ instantWords a.t ++ [putBit 0 a.degraded ||| putBit 1 a.injected,
    word ((a.cause.map ClearCause.code).getD 0)]

/-- PUB_ALARMS_READ: active and recently changed alarms, of one source or of all. -/
def bodyPubAlarmsRead (src : Option (Fin 3)) (s : State) : Res :=
  ok (((s.pub.alarms ++ s.pub.extra).filter (fun a => match src with
    | some x => a.src == x.val
    | none => true)).flatMap alarmWords) s

def execPubAlarmsRead (h : Hdr) (src : Option (Fin 3)) (s : State) : Host.Outcome State Fault Refusal :=
  .next (runCmd 0x0A07 h (bodyPubAlarmsRead src) s)

end Sys2Proof.Machine
end

