-- ==== Sys2Proof/Machine/PairOps.lean ====
section
/-! DEFINITION. Operations of a redundant pair (chapter 17): the interlock, the transmit cursor, the state copy, inclusion lists, take-over and
swaps. -/

namespace Sys2Proof.Machine

/-- A pair counter of Table 17-9 by its position. -/
def State.pairCount (s : State) (i n : Nat) : State := s.count (Reg.PAIR_CNT i) n

/-- Side B (Table 17-10). -/
def State.sideB (s : State) : Bool := s.rb Reg.PAIR_CTL 1

/-- swap_check_ms: 10 to 10,000 (R501). -/
def State.checkTicks (s : State) : Nat := ms (clamp 10 10000 (s.rf Reg.PAIR_SWAP_CTL 29 16))

/-- A command of the pair that waits for its completion is completed. -/
def State.endCommand (s : State) (c : Option (Fin 4 × Word)) (status : Nat) : State :=
  match c with
  | some (session, seq) => s.complete session seq status []
  | none => s

/-! ### The transmit cursor (R496) -/

/-- Whether a port still holds, or sends, a frame of a kind. -/
def State.inFlight (s : State) (f : TxBody → Bool) : Bool :=
  s.ports.ports.any (fun x => x.queue.any (fun g => f g.body) || (match x.onWire with
    | some w => f w.1.body
    | none => false))

def ofStream (i : Nat) : TxBody → Bool
  | .stream j _ _ _ _ _ => i == j
  | _ => false

def ofBlock (k : Nat) : TxBody → Bool
  | .goose j _ => k == j
  | _ => false

/-- What has been confirmed on the wire: the last committed frame of each stream and the last message of each block, while none is in flight, and
the published alarms. -/
def State.cursor (s : State) : Cursor :=
  { streams := s.pub.streams.filterMap (fun p =>
      if s.inFlight (ofStream p.1) then (lookup s.pair.shown.streams p.1).map (fun t => (p.1, t))
      else p.2.last.map (fun t => (p.1, t)))
    blocks := s.pub.blocks.filterMap (fun p =>
      if s.inFlight (ofBlock p.1) then (lookup s.pair.shown.blocks p.1).map (fun x => (p.1, x))
      else some (p.1, (s.reg (Reg.PUB_GOCB_ST p.1), s.reg (Reg.PUB_GOCB_SQ p.1), p.2.sent)))
    alarms := s.pub.alarms ++ s.pub.extra }

/-- The changes of a cursor since another. -/
def Cursor.since (c old : Cursor) : Cursor :=
  ⟨c.streams.filter (fun p => !old.streams.contains p), c.blocks.filter (fun p => !old.blocks.contains p), c.alarms.filter (fun a => !old.alarms.contains a)⟩

/-- A cursor with changes taken in. -/
def Cursor.with (c d : Cursor) : Cursor :=
  ⟨d.streams.foldl (fun l p => setKey l p.1 p.2) c.streams, d.blocks.foldl (fun l p => setKey l p.1 p.2) c.blocks,
   c.alarms.filter (fun a => !d.alarms.any (fun b => b.src == a.src && b.key == a.key)) ++ d.alarms⟩

/-- The heartbeat the module sends now; only a holder reports its cursor. -/
def State.heartbeat (s : State) (c : Cursor) : Heartbeat :=
  ⟨s.pair.st, s.pair.cause, s.sideB, s.pair.st.holds && s.pair.driving, s.ownFin, s.pair.hbCount, s.injBit, c, true⟩

def State.sendHeartbeat (s : State) : State :=
  let now := if s.pair.st.holds then s.cursor else s.pair.shown
  let h := s.heartbeat (now.since s.pair.shown)
  (s.peerOut (.heartbeat h)).setPair (fun p => { p with hbCount := p.hbCount + 1#32, shown := now })

/-- The cursor adopted, and every prepared frame that it confirms discarded. -/
def State.adopt (s : State) (c : Cursor) : State :=
  let s1 := s.setPair (fun p => { p with adopted := p.adopted.with c })
  s1.setPub (fun p => { p with prepared := p.prepared.filter (fun f => match lookup s1.pair.adopted.streams f.stream with
    | some t => decide (t < f.t)
    | none => true) })

/-! ### The state copy (R488, Table 17-2) -/

/-- What the source sends. -/
def State.image (s : State) : PairImage :=
  { up := s.up, regs := s.regs, role := s.time.role, profile := s.time.profile, domain := s.time.domain, twoStep := s.time.twoStep,
    macsec := s.ports.ports.map Port.macsec, table := s.ing.table, scales := s.ing.scales, pec := s.pec, aln := s.aln, lim := s.lim, isl := s.isl,
    osc := s.osc, pub := s.pub }

/-- A register word that takes over another's settings. -/
def settingsOf (d : RegDesc) (own w : Word) : Word :=
  let m := word d.rw ||| word d.rwl
  (own &&& ~~~m) ||| (w &&& m)

/-- The settings in the registers of the mirrored blocks. -/
def State.installRegs (s : State) (regs : List (Nat × Word)) : State :=
  ((s.regs.map (·.1) ++ regs.map (·.1)).filter (fun a => mirroredBlock (blockOf a))).foldl (fun (s : State) a => match descAt a with
    | some d => s.setReg a (settingsOf d (s.reg a) (fetch resetWord regs a))
    | none => s) s

/-- An association taken over: it keeps its own packet number and key where it is already there; else its key is that of the module's own slot,
since no key crosses the lane (R387). -/
def takeAssoc (key : Nat → KeySlot) (own : List SecAssoc) (pn : Nat) (a : SecAssoc) : SecAssoc :=
  match own.find? (fun b => b.an == a.an && b.slot == a.slot) with
  | some b => { a with pn := b.pn, shareA := b.shareA, shareB := b.shareB }
  | none => { a with pn := pn, shareA := (key a.slot).shareA, shareB := (key a.slot).shareB }

/-- MACsec settings. DESIGN CHOICE (assumption 109): an association that a copy installs counts no use of the slot. -/
def takeMacsec (key : Nat → KeySlot) (own src : Macsec) : Macsec :=
  { src with
    tx := src.tx.map (takeAssoc key own.tx 1)
    rx := src.rx.map (fun c => (c.1, { c.2 with assocs := c.2.assocs.map (fun a =>
      takeAssoc key ((lookup own.rx c.1).getD ⟨c.2.sci, []⟩).assocs a.pn a) })) }

/-- A group's settings; its history is its own. -/
def takeGroup (own src : Group) : Group :=
  { src with
    asms := [], susp := none
    hist := if own.depth = src.depth && own.maxChan = src.maxChan then own.hist else [] }

/-- An uptime of the source as an uptime here. -/
def State.rebase (s : State) (x : PairImage) (u : Nat) : Nat := u + s.up - x.up

/-- Phase A: every setting and table that mirrored opcodes reach. -/
def State.installSettings (s0 : State) (x : PairImage) : State :=
  let s := s0.installRegs x.regs
  let ports := (s.ports.ports.zip x.macsec).map (fun p => { p.1 with macsec := takeMacsec s.kslot p.1.macsec p.2 }) ++ s.ports.ports.drop x.macsec.length
  let oset (own src : OscSet) : OscSet :=
    if own.run = src.run then own else { stoppedSet with run := src.run, since := s.now, nextU := s.now / ms 100 + 1 }
  { s with
    time := { s.time with role := x.role, profile := x.profile, domain := x.domain, twoStep := x.twoStep }
    ports := { s.ports with ports := ports }
    ing := { s.ing with table := x.table, scales := x.scales }
    pec := { s.pec with table := x.pec.table, profiles := x.pec.profiles }
    aln := { s.aln with
      chans := x.aln.chans, classes := x.aln.classes, clsVer := x.aln.clsVer
      cls := x.aln.cls.map (fun p => (p.1, { p.2 with next := p.2.next.map (fun q => (s.rebase x q.1, q.2)) }))
      clsPend := x.aln.clsPend.map (s.rebase x)
      groups := (s.aln.groups.zip x.aln.groups).map (fun p => takeGroup p.1 p.2) }
    lim := { s.lim with table := x.lim.table, config := x.lim.config }
    isl := { s.isl with active := x.isl.active, eras := x.isl.eras, olds := x.isl.olds, staged := x.isl.staged, pend := x.isl.pend }
    osc := { s.osc with signals := x.osc.signals, branches := x.osc.branches, sets := (s.osc.sets.zip x.osc.sets).map (fun p => oset p.1 p.2) }
    pub := { s.pub with streams := x.pub.streams, blocks := x.pub.blocks, landSel := x.pub.landSel, members := x.pub.members } }

/-- The first instant of a group that the image leaves to the standby. -/
def Group.firstOpen (g : Group) : Nat := match g.asms with
  | a :: _ => a.k
  | [] => g.nextOpen

/-- Phase B: the image of dynamic state at t_cut. -/
def State.installImage (s0 : State) (x : PairImage) : State :=
  let s1 := (upto 32).foldl (fun (s : State) g => s.setReg (Reg.ALN_GRP_SEQ g) (fetch resetWord x.regs (Reg.ALN_GRP_SEQ g))) s0
  let s := (upto 128).foldl (fun (s : State) k => (s.setReg (Reg.PUB_GOCB_ST k) (fetch resetWord x.regs (Reg.PUB_GOCB_ST k))).setReg (Reg.PUB_GOCB_SQ k)
    (fetch resetWord x.regs (Reg.PUB_GOCB_SQ k))) s1
  let group (own src : Group) : Group :=
    let k := src.firstOpen
    { takeGroup own src with asms := own.asms.filter (fun a => decide (k ≤ a.k)), nextOpen := max k own.nextOpen, nextDl := max k own.nextDl }
  let t := { s with
    pec := { s.pec with slots := x.pec.slots, thr := x.pec.thr, sync := x.pec.sync, syncSec := x.pec.syncSec, resume := x.pec.resume }
    aln := { s.aln with hist := x.aln.hist, groups := (s.aln.groups.zip x.aln.groups).map (fun p => group p.1 p.2) }
    lim := x.lim
    isl := { x.isl with packets := s.isl.packets, ring := s.isl.ring, present := s.isl.present, missing := s.isl.missing, out := s.isl.out }
    osc := x.osc
    pub := { x.pub with
      lands := s.pub.lands, prepared := [], answers := s.pub.answers
      blocks := x.pub.blocks.map (fun p => (p.1, { p.2 with due := p.2.due.map (s.rebase x) })) } }
  let c : Cursor :=
    { streams := x.pub.streams.filterMap (fun p => p.2.last.map (fun u => (p.1, u)))
      blocks := x.pub.blocks.map (fun p => (p.1, (fetch resetWord x.regs (Reg.PUB_GOCB_ST p.1), fetch resetWord x.regs (Reg.PUB_GOCB_SQ p.1), p.2.sent)))
      alarms := x.pub.alarms ++ x.pub.extra }
  (upto 8).foldl (fun (s : State) n => s.driveLand n false) (State.setPair t (fun p => { p with adopted := c }))

/-- The raw samples that the standby held go through the image's filter states, each that its slot has not had (R489). -/
def State.replayRaw (s : State) : State :=
  s.pair.copy.raw.foldl (fun (s : State) m => if (s.slot m.slot).num ≤ m.num then s.sampleIn m else s)
    (s.setPair (fun p => { p with copy := { p.copy with raw := [] } }))

/-- Whether an instant of every running group has been committed live with matching digests. -/
def State.allLive (s : State) : Bool := (upto 32).all (fun g => (s.group g).st != .running || s.pair.copy.live.contains g)

def State.noteLive (s : State) (g : Nat) : State :=
  if s.pair.copy.phase = 3 then s.setPair (fun p => { p with copy := { p.copy with live := g :: p.copy.live.filter (· != g) } }) else s

/-- A copy fails at the source (R489). -/
def State.failCopy (s : State) (st : PairState) (cause : Nat) (inj : Bool) : State :=
  ((s.enterPair st cause inj).setPair (fun p => { p with copy := noCopy })).endCommand s.pair.copy.command 0x1211

/-! ### Inclusion lists at the standby (R490 to R492) -/

/-- An inclusion list as it goes over the lane (Table 17-3). -/
def InclusionList.bytes (l : InclusionList) : List Byte :=
  let n := l.arrivals.length
  let late (w : Nat) : Nat := total ((upto 32).map (fun i => ((l.lates[32 * w + i]?).getD false).toNat * 2 ^ i))
  let body := le 2 (l.group.val + 256 * l.forced.toNat) ++ le 2 l.setVer ++ bytesLE l.epoch ++ instantBytes l.t ++
    bytesLE l.seq ++ le 4 n ++ le 8 l.digest ++ le 4 l.mirrorCnt ++ List.replicate 24 0#8 ++
    l.arrivals.flatMap (le 2) ++ (upto (ceilDiv n 32)).flatMap (fun w => le 4 (late w))
  body ++ bytesLE (crc32c body)

/-- An assembly as a list has it: the channels that the active included, with its arrival fields and late bits. -/
def listAsm (a : Asm) (l : InclusionList) : Asm :=
  { a with vals := (a.set.zip (l.arrivals.zip l.lates)).filterMap (fun p =>
      if p.2.1 = 0xFFFF then none else (a.val p.1).map (fun v => (p.1, { v with arrival := a.t + us (100 * p.2.1), late := p.2.2 }))) }

/-- The channels that a list includes, and those of them without a value. -/
def InclusionList.included (l : InclusionList) (a : Asm) : List Nat := ((a.set.zip l.arrivals).filter (fun p => p.2 != 0xFFFF)).map (·.1)

/-- Records are asked for (R491, R492). -/
def State.askRecords (s : State) (w : ListWork) (chans : List Nat) : State :=
  (s.setPair (fun p => { p with work := { w with asked := true } :: p.work })).peerOut (.fetch w.list.group.val w.list.t chans)

/-- The snapshot of a list formed, its digest compared, and a match acknowledged and committed; a first mismatch fetches every record, a second
ends verification (R492). -/
def State.tryList (s : State) (w : ListWork) : State :=
  let g := w.list.group.val
  match (s.group g).asm w.k with
  | none => s.failCheck 3
  | some a =>
    let b := listAsm a w.list
    let x := Snapshot.sealed { s.commitSnapshot g b with seq := w.list.seq }
    if x.digest = w.list.digest then
      let s1 := if w.whole then s.pairCount 4 1 else s
      let s2 := (s1.updGroup g (fun y => { y with asms := y.asms.filter (fun c => decide (w.k ≤ c.k)) })).updAsm g w.k (fun _ => b)
      ((s2.peerOut (.ack g w.list.t)).noteLive g).commitAs g b x
    else
      let s1 := (s.pairCount 3 1).status Reg.PAIR_STAT 3
      if w.whole then s1.failCheck 3 else s1.askRecords { w with whole := true } (w.list.included a)

/-- Work on a list begins: values it includes and the standby does not hold are fetched first; a result not matched by now ends verification
(R491, R493). DEDUCED (assumption 94): the result of an oscillation update, which names no group, is due by the next commit of any group. -/
def State.beginList (s : State) (w : ListWork) : State :=
  let g := w.list.group.val
  if !s.followsLists then s
  else if w.list.forced then s.failCheck 5
  else if s.pair.results.any (fun r => r.source == g || decide (32 ≤ r.source)) then s.resultError
  else match (s.group g).asm w.k with
    | none => s.failCheck 3
    | some a =>
      let lack := (w.list.included a).filter (fun c => (a.val c).isNone)
      if lack.isEmpty then s.tryList w else (s.pairCount 6 lack.length).askRecords w lack

/-- Lists are worked on in their order, as far as no records are on their way. -/
def State.serveLists : Nat → State → State
  | 0, s => s
  | n + 1, s => match s.pair.work with
    | w :: rest => if w.asked then s else State.serveLists n ((s.setPair (fun p => { p with work := rest })).beginList w)
    | [] => s

def State.takeList (s0 : State) (l : InclusionList) : State :=
  let g := l.group.val
  let k := nearestK l.t (s0.grpFr g)
  if !s0.followsLists then s0
  else
    let s := (s0.openUpTo g (k + 1)).setPair (fun p => { p with work := p.work ++ [⟨l, k, false, false⟩] })
    if s.awaitsImage then s else State.serveLists s.pair.work.length s

/-- Fetched records take the place of the standby's own. -/
def State.takeRecords (s : State) (recs : List Rec) : State :=
  match s.pair.work with
  | w :: rest =>
    if !w.asked then s
    else
      let s1 := s.setPair (fun p => { p with work := rest })
      let s2 := s1.updAsm w.list.group.val w.k (fun a => { a with vals := recs.foldl (fun l r =>
        setKey l r.chan ⟨r.w0, r.w1, if r.late then r.q - 2 else r.q, a.t, r.late⟩) a.vals })
      State.serveLists (rest.length + 1) (s2.tryList { w with asked := false })
  | [] => s

/-- The acknowledgement of a list at the active: the instant commits with it (R20, R494). -/
def State.takeAck (s : State) (g : Nat) (t : Instant) : State :=
  match (s.group g).asms.find? (fun a => a.t == t && a.trig) with
  | some a => (((s.updAsm g a.k (fun a => { a with acked := true })).setAln (fun p => { p with
      lists := p.lists.filter (fun l => l.group != g || l.k != a.k) })).commitHead g).noteLive g
  | none => s.noteLive g

/-! ### The interlock (R479 to R482) -/

/-- The driver starts. -/
def State.startClaim (s : State) : State :=
  s.setPair (fun p => { p with driving := true, claim := some (s.up + us 1), fed := s.up, wdTrip := none, lineBusy := true })

/-- The driver stops, and with the module's own wave the transmit gate and the land drivers close. -/
def State.releaseIlk (s : State) : State :=
  (s.setPair (fun p => { p with driving := false, ownSeen := false, gate := false, claim := none, lineBusy := false })).cutPorts

/-- A holder loses the interlock other than by a swap (Table 17-1). -/
def State.loseInterlock (s : State) (inj : Bool) : State :=
  let s1 := s.releaseIlk
  if !s1.pair.st.holds then s1
  else
    let s2 := ((s1.failCopy .listen 1 inj).endCommand s1.pair.swapCmd 0x1213).endCommand s1.pair.restart St.STATE
    s2.setPair (fun p => { p with swap := none, swapCmd := none, restart := none, switchPend := none })

/-! ### Take-over (R497) -/

/-- Frames the old active had not confirmed are sent in the order of their instants. -/
def State.sendPrepared (s : State) : State :=
  let l := sortBy (fun (a b : Prepared) => decide (a.t ≤ b.t)) s.pub.prepared
  l.foldl (fun (s : State) f =>
    let ctl := s.reg (Reg.PUB_STRM_CTL f.stream)
    if bit ctl 28 && bit ctl 27 then
      (match s.tagWith true (s.rf (Reg.PUB_STRM_AUTH f.stream) 7 0) f.cont with
       | (some tag, s1) => (s1.pubCount 1 1).sendDatagram f.stream f.t f.ports f.vlan f.len (f.cont ++ tag)
       | (none, s1) => s1)
    else (s.pubCount 1 1).sendDatagram f.stream f.t f.ports f.vlan f.len f.cont) (s.setPub (fun p => { p with prepared := [] }))

/-- A running block compares the published state with its own: it publishes anew, sends its last message again, or goes on. -/
def State.resumeBlock (s : State) (k : Nat) : State :=
  if !s.blockRuns k then s
  else match lookup s.pair.adopted.blocks k with
    | none => s.sendBlock k
    | some (st, sq, views) =>
      let own := s.reg (Reg.PUB_GOCB_ST k)
      if views.map MemberView.st != (s.memberViews k).map MemberView.st then
        ((if own = nextNum st then s else s.setReg (Reg.PUB_GOCB_ST k) st)).publishBlock k
      else if st != own || sq != s.reg (Reg.PUB_GOCB_SQ k) then s.sendBlock k
      else s

/-- Whether a group has committed every instant up to one. -/
def State.committedTo (s : State) (g : Nat) (t : Instant) : Bool :=
  !(s.group g).asms.any (fun a => decide (a.t ≤ t)) && decide (t < reportInstant (s.group g).nextOpen (s.grpFr g))

/-- Alarms that the old active published PROVISIONAL and that the module does not hold stay so until the commit of their instant. -/
def State.adoptAlarms (s : State) : State :=
  let l := s.pair.adopted.alarms.filter (fun a => a.st == 1 && !s.holdsAlarm a)
  let s1 := l.foldl (fun (s : State) a => s.setAlarm a.t ⟨a.src, a.key, 1, a.degraded, a.injected, none⟩) (s.setPair (fun p => { p with resolve := l }))
  l.foldl (fun (s : State) a => match s.alarmGroup a with
    | some g => if s.committedTo g a.t then s.resolveAlarms g a.t else s
    | none => s) s1

/-- The outputs resume (R497). -/
def State.resumeOutputs (s0 : State) (cause : Nat) : State :=
  let s := (s0.setPair (fun p => { p with switchPend := some (cause, s0.peerInj), lastSwap := some s0.now, shown := p.adopted })).adoptAlarms
  let s1 := (upto 128).foldl State.resumeBlock (s.triggerDue.sendPrepared)
  (upto 8).foldl (fun (s : State) n => s.driveLand n false) s1

/-- A failed swap check as it is counted (R501). -/
def State.noteSwapFail (s : State) : State := (s.pairCount 2 1).status Reg.PAIR_STAT 4

/-- The module sees its own wave for the first time: it holds the interlock, its gate opens, and it takes over (R481, R487, R497, R500, R503). -/
def State.takeOver (s0 : State) : State :=
  let s := s0.setPair (fun p => { p with ownSeen := true, gate := true, claim := none })
  match s.pair.st with
  | .unpaired => (s.enterPair .solo 0 false).setPair (fun p => { p with wants := false })
  | .solo =>
    let s1 := (s.endCommand s.pair.restart St.OK).setPair (fun p => { p with restart := none })
    ((upto 128).filter s1.blockRuns).foldl State.sendBlock s1
  | _ =>
    let bySwap := s.pair.st == .standby && (match s.pair.peer with
      | some h => h.st == .standby && h.cause == 7
      | none => false)
    match s.pair.swap with
    | some _ =>
      let s1 := ((s.enterPair .solo 1 s.peerInj).noteSwapFail).endCommand s.pair.swapCmd 0x1213
      (((s1.setPair (fun p => { p with swap := none, swapCmd := none })).pairCount 0 1).status Reg.PAIR_STAT 2).resumeOutputs 1
    | none =>
      if bySwap then
        ((((s.enterPair .active 7 s.peerInj).setPair (fun p => { p with swap := some (.checking (s.up + s.checkTicks)), swapBad := false })).pairCount 1 1)).resumeOutputs 7
      else (((s.enterPair .solo 1 s.peerInj).pairCount 0 1).status Reg.PAIR_STAT 2).resumeOutputs 1

/-! ### Swaps (R500 to R502) -/

/-- A swap starts: no more frames of classes 1 and 2 are handed to the ports. -/
def State.startSwap (s : State) (c : Option (Fin 4 × Word)) : State := s.setPair (fun p => { p with swap := some .draining, swapCmd := c })

/-- The ports of running streams and control blocks. -/
def State.usedPorts (s : State) : List Nat :=
  (upto 10).filter (fun p =>
    (upto 64).any (fun i => s.rb (Reg.PUB_STRM_CTL i) 26 && s.rb (Reg.PUB_STRM_CTL i) p) ||
    (upto 128).any (fun k => s.blockRuns k && s.rb (Reg.PUB_GOCB_PORTS k) p))

/-- Whether a check of R501 fails now or has failed since the take-over. -/
def State.swapFails (s : State) : Bool := s.pair.swapBad || s.usedPorts.any (fun p => !(s.port p).link)

/-- Whether the pair can swap. -/
def State.peerStandby (s : State) : Bool := s.pair.lane && (match s.pair.peer with
  | some h => h.st == .standby
  | none => false)

/-- The second of the next scheduled swap, while it is known (R502): from the last swap or switch-over on, or from when the interval was set. -/
def State.nextSwap (s : State) : Option Instant :=
  let h := min 720 (s.rf Reg.PAIR_SWAP_CTL 9 0)
  if h = 0 then none else s.pair.lastSwap.map (fun t => ceilSec (t + sec (3600 * h)))

/-! ### Heartbeats at their receiver (R478, R487, R488, R496, R501) -/

/-- The peer's state is taken note of, and the module's own follows from it. -/
def State.followPeer (s : State) (was : Option PairState) (h : Heartbeat) : State :=
  match s.pair.st with
  | .listen =>
    if h.st = .copySrc then (s.enterPair .copyDst 0 h.inj).setPair (fun p => { p with copy := { noCopy with phase := 1 } })
    else if h.st = .listen && was != some .listen then s.vector 11 else s
  | .unverified =>
    if h.st = .copySrc then (s.enterPair .copyDst 0 h.inj).setPair (fun p => { p with copy := { noCopy with phase := 1 } }) else s
  | .standby =>
    (match s.pair.swap with
     | some (.released _) => if h.holds then s.setPair (fun p => { p with swap := some (.checking (s.up + s.checkTicks)) }) else s
     | some _ => if h.st = .unverified then (s.status Reg.PAIR_STAT 1) else s
     | none => if h.st = .solo then s.unverify h.cause h.inj else s)
  | .active =>
    if h.st = .standby || s.pair.swap == some .draining || (h.st = .copyDst && was == some .copyDst) then s
    else
      let s1 := if h.st = .unverified then s.status Reg.PAIR_STAT 1 else s
      (s1.enterPair .solo h.cause h.inj).setPair (fun p => { p with swap := none })
  | .solo => if h.st = .unverified && was != some .unverified then s.status Reg.PAIR_STAT 1 else s
  | .copySrc => if was = some .copyDst && h.st != .copyDst && h.st != .standby then s.failCopy .solo 9 h.inj else s
  | .copyDst => if h.st = .solo then (s.enterPair .listen 9 h.inj).setPair (fun p => { p with copy := noCopy }) else s
  | _ => s

/-- A valid heartbeat. -/
def State.takeHeartbeat (s : State) (h : Heartbeat) : State :=
  let was := s.pair.peer.map Heartbeat.st
  let s1 := s.setPair (fun p => { p with
    peer := some h, lane := true
    lastHold := if h.holds then some s.up else p.lastHold
    lineBusy := p.lineBusy || h.holds })
  let s2 := if s1.pair.st.holds then s1 else s1.adopt h.cursor
  s2.followPeer was h

/-- The peer lane is lost (R489, R496). -/
def State.loseLane (s0 : State) : State :=
  let s := s0.setPair (fun p => { p with lane := false })
  match s.pair.st with
  | .standby =>
    let s1 := match s.pair.swap with
      | some _ => (s.noteSwapFail.endCommand s.pair.swapCmd 0x1213).setPair (fun p => { p with swap := none, swapCmd := none })
      | none => s
    s1.unverify 2 false
  | .active =>
    let s1 := match s.pair.swap with
      | some .draining => (s.endCommand s.pair.swapCmd 0x1213).setPair (fun p => { p with swapCmd := none })
      | _ => s
    (s1.enterPair .solo 2 false).setPair (fun p => { p with swap := none })
  | .copySrc => s.failCopy .solo 9 false
  | .copyDst => (s.enterPair .listen 9 false).setPair (fun p => { p with copy := noCopy })
  | _ => s

/-! ### Restart and split (R482, R503, Table 17-7) -/

/-- Every running group, slot, set and the island engine restart, every alarm starts CLEARED, and every running block publishes (R503). -/
def State.restartAllOf (s : State) : State :=
  let s1 := (upto 32).foldl (fun (s : State) g =>
    if !(s.group g).active then s
    else
      let fr := s.grpFr g
      let k := s.leadK fr
      s.updGroup g (fun x => { x with
        st := .starting, was := [], startK := k, startT := reportInstant k fr, nextOpen := k, nextDl := k, asms := [], susp := none })) s
  let s2 := (upto 32).foldl (State.restartSet · s1.now) (s1.restartAll (restartSecond s1.now))
  let s3 := (s2.resetIslands.setIsl (fun a => { a with dyn := { freshDyn [] with era := a.eras }, handed := [] })).setLim (fun a => { a with st := [], handed := [], ckpts := [] })
  let s4 := (s3.setOsc (fun a => { a with sets := a.sets.map (fun x => { x with alarms := [] }) })).setPub (fun p => { p with alarms := [], extra := [], prepared := [] })
  let s5 := ((upto 128).filter s4.blockRuns).foldl State.publishBlock s4
  (upto 8).foldl (fun (s : State) n => s.driveLand n false) s5

/-- Commands of the pair that can no longer end well. -/
def State.dropCommands (s : State) : State :=
  (((s.endCommand s.pair.copy.command 0x1211).endCommand s.pair.swapCmd 0x1213).endCommand s.pair.restart St.STATE).setPair (fun p => { p with
    copy := noCopy, swap := none, swapCmd := none, restart := none, switchPend := none, wants := false, backoff := none, resolve := [] })

/-- The module becomes UNPAIRED: it releases the interlock, and its gate opens where the peer does not hold it. -/
def State.unpair (s : State) : State :=
  let s1 := (s.dropCommands.releaseIlk).enterPair .unpaired 0 false
  s1.setPair (fun p => { p with gate := match p.peer with
    | some h => !h.holds
    | none => true })

/-- What PAIR_CTL.en set makes of an UNPAIRED module (R480, R486, R487): outside UNPAIRED its gate is closed until it sees its own wave. -/
def State.formPair (s : State) (prefer : Bool) : State :=
  if prefer then s.setPair (fun p => { p with wants := true })
  else ((s.enterPair .listen 0 false).setPair (fun p => { p with gate := false })).cutPorts

/-- A reset of the pair island (R482, R507). -/
def State.resetPair (s : State) : State :=
  ((s.dropCommands.releaseIlk.enterPair .unpaired 0 false).resetRegs (fun a => blockOf a == 18)).setPair (fun p => { p with
    gate := true, peer := none, lane := false, lastHold := none, hbCount := 0#32, shown := noCursor, adopted := noCursor, forced := [], fed := 0,
    wdTrip := none, swapBad := false, lastSwap := none, lastSw := (0, 0) })

/-! ### Registers (Tables 17-9, 17-11 and 17-12) -/

/-- Both modules are in LISTEN (R487). -/
def State.noActive (s : State) : Bool := s.pair.st == .listen && s.pair.lane && (match s.pair.peer with
  | some h => h.st == .listen
  | none => false)

/-- The watchdog has been fed within 2 µs. -/
def State.wdOk (s : State) : Bool := s.pair.driving && decide (s.up < s.pair.fed + us 2)

def State.pairView (s : State) (a : Nat) : Word :=
  let p := s.pair
  if a = Reg.PAIR_STAT then
    put 31 28 p.st.code ||| put 27 24 p.cause ||| putBit 15 p.lane ||| putBit 14 (p.st.holds && p.ownSeen) ||| putBit 13 p.gate ||| putBit 5 s.noActive
  else if a = Reg.PAIR_ILK then putBit 31 (p.lineBusy || p.driving) ||| putBit 30 p.ownSeen ||| putBit 29 p.driving ||| putBit 28 s.wdOk
  else if a = Reg.PAIR_SWAP_NEXT then (match s.nextSwap with
    | some t => word (secsOf t)
    | none => 0#32)
  else if a = Reg.PAIR_COPY_STAT then
    put 1 0 p.copy.phase ||| putBit 2 p.copy.phaseA ||| (if p.copy.phase < 2 then 0#32 else put 27 16 (Config.copyImageMib s.free))
  else if a = Reg.PAIR_LAST_SW then put 23 0 p.lastSw.1 ||| put 27 24 p.lastSw.2
  else 0#32

end Sys2Proof.Machine
end

