-- ==== Sys2Proof/Machine/Pair.lean ====
section
/-! DEFINITION. Redundant pairs (chapter 17): the meanings of their commands and events. -/

namespace Sys2Proof.Machine

/-! ### The interlock -/

/-- INTERLOCK_WATCHDOG_FEED (R479). -/
def execInterlockWatchdogFeed (at_ : Instant) (s0 : State) : Host.Outcome State Fault Refusal :=
  let s := s0.advance at_
  .next (if s.pair.st.holds && s.runs Isle.pair && s.pair.wdTrip.isNone && s.aon.causes.isEmpty then s.setPair (fun p => { p with fed := s.up })
    else s)

/-- INTERLOCK_WATCHDOG_EXPIRY (R479, R480, R482): 2 µs after the last feed the driver stops, and the gate closes. -/
def execInterlockWatchdogExpiry (s : State) : Host.Outcome State Fault Refusal :=
  if s.pair.driving then .next ((s.advanceUp (s.pair.fed + us 2)).loseInterlock (s.pair.wdTrip.getD false)) else .next s

/-- OWN_WAVE_LOST (R480, detector 19): the wave is lost while the module drives it. -/
def execOwnWaveLost (at_ : Instant) (real : Bool) (s0 : State) : Host.Outcome State Fault Refusal :=
  let s := s0.advance at_
  if s.pair.driving && s.pair.ownSeen then
    (match s.occasion 19 0 real with
     | (some inj, s1) => .next ((s1.detect 19 inj 0 []).loseInterlock inj)
     | (none, s1) => .next s1)
  else .next s

/-- INTERLOCK_QUIET (R481, R503): no transition for ilk_quiet. An eligible module starts its claim; a copy's target is an ORPHAN. A module that gave
the interlock up in a swap leaves it to its peer first. -/
def execInterlockQuiet (at_ : Instant) (s0 : State) : Host.Outcome State Fault Refusal :=
  let s1 := s0.advance at_
  let s := if s1.pair.driving then s1 else s1.setPair (fun p => { p with lineBusy := false })
  let may := !s.pair.driving && s.pair.backoff.isNone && s.runs Isle.pair
  match s.pair.st with
  | .copyDst => .next (s.enterPair .orphan 10 s.peerInj)
  | .standby =>
    let waits := match s.pair.swap with
      | some (.released due) => decide (s.up < due)
      | _ => false
    .next (if may && !waits then s.startClaim else s)
  | .unverified => .next (if may then s.startClaim else s)
  | .unpaired => .next (if may && s.pair.wants then s.startClaim else s)
  | _ => .next s

/-- CLAIM_CONFIRM (R481): the claimant sees its own wave, or stops, counts the contention and backs off. An injected loss of sight (detector 19)
keeps it from seeing. -/
def execClaimConfirm (at_ : Instant) (seen : Bool) (s0 : State) : Host.Outcome State Fault Refusal :=
  let s := s0.advance at_
  if s.pair.claim.isNone then .next s
  else if seen && (s.firing 19 0).isNone then .next s.takeOver
  else
    let s1 := (s.pairCount 9 1).setPair (fun p => { p with
      driving := false, claim := none, backoff := some (s.up + us (if s.sideB then 4 else 2)) })
    .next (if s1.pair.restart.isSome then s1.loseInterlock false else s1)

/-- CLAIM_BACKOFF_END (R481). -/
def execClaimBackoffEnd (s : State) : Host.Outcome State Fault Refusal :=
  match s.pair.backoff with
  | some u => .next ((s.advanceUp u).setPair (fun p => { p with backoff := none }))
  | none => .next s

/-- PREFER_ACTIVE_CONTEND_TIMEOUT (R487). -/
def execPreferActiveContendTimeout (at_ : Instant) (s0 : State) : Host.Outcome State Fault Refusal :=
  let s := s0.advance at_
  .next (if s.pair.wants && s.pair.st == .unpaired then
    (((s.pairCount 9 1).enterPair .listen 0 false).setPair (fun p => { p with
      wants := false, gate := false, driving := false, claim := none, backoff := none })).cutPorts
  else s)

/-! ### Heartbeats -/

/-- PAIR_HEARTBEAT_SEND (R496, R537). -/
def execPairHeartbeatSend (at_ : Instant) (s0 : State) : Host.Outcome State Fault Refusal :=
  let s := s0.advance at_
  .next (if s.runs Isle.pair then s.sendHeartbeat else s)

/-- A frame of the peer lane whose CRC fails, or is corrupted by an injection, is dropped (detector 17). -/
def State.laneFrame (s : State) (crcOk : Bool) (take : State → State) : State :=
  match s.occasion 17 1 (!crcOk) with
  | (some inj, s1) => (s1.pairCount 8 1).detect 17 inj 0 [1#32]
  | (none, s1) => if s1.runs Isle.pair then take s1 else s1

/-- PAIR_HEARTBEAT_RECEIVE (R496). -/
def execPairHeartbeatReceive (at_ : Instant) (h : Heartbeat) (s : State) : Host.Outcome State Fault Refusal :=
  .next ((s.advance at_).laneFrame h.crcOk (fun s => s.takeHeartbeat h))

/-- hb_miss: 4 to 255. -/
def State.hbMiss (s : State) : Nat := clamp 4 255 (s.rf Reg.PAIR_TMO 15 8)

/-- PEER_LANE_LOSS (R496): hb_miss intervals without a valid heartbeat. -/
def execPeerLaneLoss (at_ : Instant) (s0 : State) : Host.Outcome State Fault Refusal :=
  let s := s0.advance at_
  .next (if s.pair.lane then (s.pairCount 8 s.hbMiss).loseLane else s)

/-! ### Snapshots in step -/

/-- INCLUSION_LIST_RECEIVE (R490 to R494). -/
def execInclusionListReceive (at_ : Instant) (l : InclusionList) (s : State) : Host.Outcome State Fault Refusal :=
  .next ((s.advance at_).laneFrame l.crcOk (fun s => s.takeList l))

/-- PAIR_RECORD_FETCH_COMPLETE (R491, R492). -/
def execPairRecordFetchComplete (at_ : Instant) (recs : List Rec) (s : State) : Host.Outcome State Fault Refusal :=
  .next ((s.advance at_).laneFrame true (fun s => s.takeRecords recs))

/-- PAIR_ACK_RECEIVE (R20, R494). -/
def execPairAckReceive (at_ : Instant) (g : Fin 32) (t : Instant) (s : State) : Host.Outcome State Fault Refusal :=
  .next ((s.advance at_).laneFrame true (fun s => s.takeAck g.val t))

/-- The list whose acknowledgement is overdue first. -/
def State.firstOverdue (s : State) : Option SentList :=
  s.aln.lists.foldl (fun (b : Option SentList) l => match b with
    | some x => if l.due < x.due then some l else b
    | none => some l) none

/-- PAIR_ACK_TIMEOUT (R494): the active commits, counts, sends forced on the next list and works alone. -/
def execPairAckTimeout (s : State) : Host.Outcome State Fault Refusal :=
  match s.firstOverdue with
  | some l =>
    let s1 := (s.advanceUp l.due).pairCount 7 1
    let s2 := (s1.setPair (fun p => { p with forced := l.group :: p.forced.filter (· != l.group) })).enterPair .solo 5 s1.peerInj
    .next ((s2.setPair (fun p => { p with swap := none })).commitHead l.group)
  | none => .next s

/-- RESULT_RECORD_RECEIVE (R493). -/
def execResultRecordReceive (at_ : Instant) (r : ResultRecord) (s : State) : Host.Outcome State Fault Refusal :=
  .next ((s.advance at_).laneFrame true (fun s => s.takeResult r))

/-! ### The state copy -/

def State.setCopy (s : State) (f : Copy → Copy) : State := s.setPair (fun p => { p with copy := f p.copy })

/-- COPY_PHASE_A_COMPLETE (R488): the standby holds every setting, and t_cut is fixed. At the standby the settings are those that came. -/
def execCopyPhaseAComplete (at_ : Instant) (x : Option PairImage) (s0 : State) : Host.Outcome State Fault Refusal :=
  let s := s0.advance at_
  if s.pair.copy.phase ≠ 1 then .next s
  else match s.pair.st with
    | .copySrc => .next (s.setCopy (fun c => { c with
        phase := 2, phaseA := true, tCut := some (ceilSec (s.now + ms 100)), due := some (s.up + sec 5) }))
    | .copyDst =>
      let s1 := match x with
        | some x => s.installSettings x
        | none => s
      .next (s1.setCopy (fun c => { c with phase := 2, phaseA := true }))
    | _ => .next s

/-- COPY_T_CUT (R488): the image of the dynamic state goes out. -/
def execCopyTCut (s : State) : Host.Outcome State Fault Refusal :=
  match s.pair.st, s.pair.copy.tCut with
  | .copySrc, some t => .next (let s1 := s.advance t; s1.peerOut (.image t s1.image))
  | _, _ => .next s

/-- COPY_IMAGE_INSTALLED (R488, R489): phase C starts; the standby goes on from its image with the samples and the lists that it has held. -/
def execCopyImageInstalled (at_ : Instant) (x : Option PairImage) (s0 : State) : Host.Outcome State Fault Refusal :=
  let s := s0.advance at_
  if s.pair.copy.phase ≠ 2 then .next s
  else match s.pair.st with
    | .copySrc => .next (if (match s.pair.copy.tCut with
        | some t => decide (t ≤ s.now)
        | none => false) then s.setCopy (fun c => { c with phase := 3 }) else s)
    | .copyDst =>
      let s1 := match x with
        | some x => s.installImage x
        | none => s
      let s2 := (s1.setCopy (fun c => { c with phase := 3 })).replayRaw
      .next (State.serveLists s2.pair.work.length s2)
    | _ => .next s

/-- COPY_COMPLETE (R488, R489): an instant of every running group has been committed live with matching digests. -/
def execCopyComplete (at_ : Instant) (s0 : State) : Host.Outcome State Fault Refusal :=
  let s := s0.advance at_
  if s.pair.copy.phase ≠ 3 || !s.allLive then .next s
  else match s.pair.st with
    | .copySrc =>
      .next (((s.enterPair .active 0 false).setPair (fun p => { p with copy := noCopy })).endCommand s.pair.copy.command St.OK)
    | .copyDst => .next ((s.enterPair .standby 0 false).setPair (fun p => { p with copy := noCopy }))
    | _ => .next s

/-- COPY_TIMEOUT (R489). -/
def execCopyTimeout (s : State) : Host.Outcome State Fault Refusal :=
  match s.pair.st, s.pair.copy.due with
  | .copySrc, some u => .next ((s.advanceUp u).failCopy .solo 9 false)
  | _, _ => .next s

/-! ### Swaps -/

/-- Whether a frame of classes 1 and 2 is still in flight. -/
def State.speakingFrames (s : State) : Bool :=
  s.ports.ports.any (fun x => x.queue.any (fun f => f.cls == 1 || f.cls == 2) || (match x.onWire with
    | some w => w.1.cls == 1 || w.1.cls == 2
    | none => false))

/-- The final cursor goes out, the interlock is released, and the module is STANDBY (R500). -/
def State.passSwap (s : State) : State :=
  let c := s.cursor
  let d := c.since s.pair.shown
  let s1 := (s.releaseIlk.enterPair .standby 7 false).setPair (fun p => { p with
    swap := some (.released (s.up + us 100)), shown := c, adopted := c })
  (s1.peerOut (.heartbeat (s1.heartbeat d))).setPair (fun p => { p with hbCount := p.hbCount + 1#32 })

/-- SWAP_FRAMES_DRAINED (R500). -/
def execSwapFramesDrained (at_ : Instant) (s0 : State) : Host.Outcome State Fault Refusal :=
  let s := s0.advance at_
  .next (if s.pair.st != .active || s.pair.swap != some .draining || s.speakingFrames then s else s.passSwap)

/-- SWAP_CHECK_EXPIRY (R501): swap_check_ms after the take-over with every check passed. -/
def execSwapCheckExpiry (s : State) : Host.Outcome State Fault Refusal :=
  match s.pair.swap with
  | some (.checking u) =>
    let s1 := s.advanceUp u
    if s1.pair.st == .active && s1.swapFails then .next s1
    else .next ((s1.setPair (fun p => { p with swap := none, swapCmd := none, lastSwap := some s1.now })).endCommand s.pair.swapCmd St.OK)
  | _ => .next s

/-- SWAP_CHECK_FAIL (R501): a check fails at the new active, which releases the interlock and becomes UNVERIFIED. -/
def execSwapCheckFail (at_ : Instant) (s0 : State) : Host.Outcome State Fault Refusal :=
  let s := s0.advance at_
  match s.pair.swap with
  | some (.checking _) =>
    .next (if s.pair.st == .active && s.swapFails then
      (((s.noteSwapFail.releaseIlk).setPair (fun p => { p with swap := none, swapBad := false, switchPend := none })).unverify 8 false) else s)
  | _ => .next s

/-- SCHEDULED_SWAP (R502): at the first whole second that lies the interval after the last swap or switch-over. -/
def execScheduledSwap (s : State) : Host.Outcome State Fault Refusal :=
  match s.nextSwap with
  | some t =>
    let s1 := s.advance (max t (ceilSec s.now))
    .next (if s1.pair.st == .active && s1.peerStandby && s1.pair.swap.isNone then s1.startSwap none else s1)
  | none => .next s

/-! ### Commands (Table 17-7) -/

def peerState (s : State) : Nat := match s.pair.peer with
  | some h => h.st.code
  | none => 0

/-- PAIR_STATUS. -/
def bodyPairStatus (s : State) : Res :=
  let v (a : Nat) : Word := s.reg a ||| s.pairView a
  ok ([v Reg.PAIR_STAT, word (peerState s), v Reg.PAIR_ILK, v Reg.PAIR_COPY_STAT, v Reg.PAIR_LAST_SW, v Reg.PAIR_SWAP_NEXT] ++
    (upto 10).map (fun i => s.reg (Reg.PAIR_CNT i))) s

def execPairStatus (h : Hdr) (s : State) : Host.Outcome State Fault Refusal := .next (runCmd 0x1200 h bodyPairStatus s)

/-- PAIR_FORM (R486, R487). -/
def bodyPairForm (sideB prefer : Bool) (s : State) : Res :=
  if s.pair.st != .unpaired || s.pair.wants then refuse St.STATE s
  else ok [] (((((s.setRb Reg.PAIR_CTL 1 sideB).setRb Reg.PAIR_CTL 2 prefer).setRb Reg.PAIR_CTL 0 true)).formPair prefer)

def execPairForm (h : Hdr) (sideB prefer : Bool) (s : State) : Host.Outcome State Fault Refusal :=
  .next (runCmd 0x1201 h (bodyPairForm sideB prefer) s)

/-- PAIR_JOIN (R486, R488). -/
def bodyPairJoin (h : Hdr) (s : State) : Res :=
  if s.pair.st != .solo then refuse St.STATE s
  else match s.pair.peer with
    | none => refuse 0x1210 s
    | some p =>
      if !s.pair.lane then refuse 0x1210 s
      else if p.sideB == s.sideB then refuse 0x1212 s
      else if p.st != .listen && p.st != .unverified then refuse 0x1210 s
      else
        let s1 := (s.enterPair .copySrc 0 false).setPair (fun q => { q with copy := { noCopy with phase := 1, command := some (h.session, h.seq) } })
        .accepted ((s1.peerOut .join).peerOut (.settings s1.image))

def execPairJoin (h : Hdr) (s : State) : Host.Outcome State Fault Refusal := .next (runCmd 0x1202 h (bodyPairJoin h) s)

/-- Whether the peer reports itself UNVERIFIED. -/
def State.peerUnverified (s : State) : Bool := match s.pair.peer with
  | some p => p.st == .unverified
  | none => false

/-- PAIR_SWAP (R500). -/
def bodyPairSwap (h : Hdr) (s : State) : Res :=
  if s.peerUnverified then refuse St.PEER_UNVERIFIED s
  else if s.pair.st == .active && s.peerStandby && s.pair.swap.isNone then .accepted (s.startSwap (some (h.session, h.seq)))
  else refuse St.STATE s

def execPairSwap (h : Hdr) (s : State) : Host.Outcome State Fault Refusal := .next (runCmd 0x1203 h (bodyPairSwap h) s)

/-- PAIR_SWAP_SCHED (R502): 0, or 1 to 720 hours. -/
def bodyPairSwapSched (hours : Nat) (s : State) : Res :=
  if 720 < hours then refuse St.PARAM_RANGE s
  else ok [] ((s.setRf Reg.PAIR_SWAP_CTL 9 0 hours).setPair (fun p => { p with lastSwap := some (p.lastSwap.getD s.now) }))

def execPairSwapSched (h : Hdr) (hours : Nat) (s : State) : Host.Outcome State Fault Refusal := .next (runCmd 0x1204 h (bodyPairSwapSched hours) s)

/-- PAIR_RESTART (R503): the module works alone from its acceptance on, and speaks once it sees its own wave. -/
def bodyPairRestart (h : Hdr) (s : State) : Res :=
  if s.pair.st != .orphan || !s.pair.copy.phaseA then refuse St.STATE s
  else
    let s1 := (s.enterPair .solo 0 false).setPair (fun p => { p with copy := noCopy, restart := some (h.session, h.seq) })
    .accepted (s1.startClaim.restartAllOf)

def execPairRestart (h : Hdr) (s : State) : Host.Outcome State Fault Refusal := .next (runCmd 0x1205 h (bodyPairRestart h) s)

/-- PAIR_SPLIT (R482). -/
def bodyPairSplit (s : State) : Res := ok [] ((s.setRb Reg.PAIR_CTL 0 false).unpair)

def execPairSplit (h : Hdr) (s : State) : Host.Outcome State Fault Refusal := .next (runCmd 0x1206 h bodyPairSplit s)

/-- PAIR_TUNE (R506). -/
def bodyPairTune (a : PairTuneArgs) (s : State) : Res :=
  if outside 5 40 a.quiet || outside 4 255 a.hbMiss || outside 100 10000 a.ackUs || outside 10 10000 a.checkMs then refuse St.PARAM_RANGE s
  else ok [] ((((s.setSome Reg.PAIR_TMO 5 0 a.quiet).setSome Reg.PAIR_TMO 15 8 a.hbMiss).setSome Reg.PAIR_TMO 29 16 a.ackUs).setSome
    Reg.PAIR_SWAP_CTL 29 16 a.checkMs)

def execPairTune (h : Hdr) (a : PairTuneArgs) (s : State) : Host.Outcome State Fault Refusal := .next (runCmd 0x1280 h (bodyPairTune a) s)

end Sys2Proof.Machine
end

