-- ==== Sys2Proof/Machine/Sillage.lean ====
section
/-! DEFINITION. Sillage, the event record (chapter 12): the meanings of its commands and its events. -/

namespace Sys2Proof.Machine

/-! ### Events -/

/-- EVENT_ACCUMULATE (R364, R365): the oldest event on its way. -/
def execEventAccumulate (at_ : Instant) (s0 : State) : Host.Outcome State Fault Refusal :=
  let s := s0.advance at_
  match s.events with
  | m :: rest => .next (if s.runs Isle.sillage then ({ s with events := rest }).accumulate m else s)
  | [] => .next s

/-- ACCUMULATION_INTERVAL_END (R363): the end of the interval of a class's open accumulation. -/
def execAccumulationIntervalEnd (c : Fin 64) (s : State) : Host.Outcome State Fault Refusal :=
  match lookup s.evr.open_ c.val with
  | some a =>
    let s1 := s.advance (a.start + s.classInterval c.val)
    .next (if s1.runs Isle.sillage then s1.closeClass c.val false else s1)
  | none => .next s

/-- IMMEDIATE_HOLDOFF_END (R365): 10 ms after an immediate class closed, what it held meanwhile closes. -/
def execImmediateHoldoffEnd (c : Fin 64) (s : State) : Host.Outcome State Fault Refusal :=
  match s.holdoffEnd c.val with
  | some u =>
    let s1 := s.advanceUp u
    .next (if s1.runs Isle.sillage && classImm c.val then s1.closeClass c.val false else s1)
  | none => .next (if s.runs Isle.sillage && classImm c.val then s.closeClass c.val false else s)

/-- RECORD_MRAM_WRITE (R367, R377): the operands say whether the write and the rewrite really read back differently. -/
def execRecordMramWrite (at_ : Instant) (real1 real2 : Bool) (s0 : State) : Host.Outcome State Fault Refusal :=
  let s := s0.advance at_
  .next (if s.runs Isle.sillage then s.writeNext real1 real2 else s)

/-- SIGNATURE_BLOCK_WRITE (R374, R377): the oldest block that is due. -/
def execSignatureBlockWrite (w : BlockWrite) (s0 : State) : Host.Outcome State Fault Refusal :=
  let s := s0.advance w.at_
  .next (if s.runs Isle.sillage then s.writeDue w.real1 w.real2 else s)

/-- EVR_NONCE_EXPIRY (R379). -/
def execEvrNonceExpiry (s : State) : Host.Outcome State Fault Refusal :=
  match s.evr.nonce with
  | some n => .next ((s.advanceUp n.due).setEvr (fun e => { e with nonce := none }))
  | none => .next s

/-- EVR_SEQ_LATCH_READ (R383): the low word of the next seq, and the high word latched. -/
def State.readSeqLo (s : State) : Word × State :=
  (word s.evr.nextSeq, s.setEvr (fun e => { e with seqHi := word (e.nextSeq / 2 ^ 32) }))

def execEvrSeqLatchRead (at_ : Instant) (s : State) : Host.Outcome State Fault Refusal :=
  let r := (s.advance at_).readSeqLo
  .next { r.2 with rdata := [r.1] }

/-! ### Registers (R383) -/

/-- The fields of the event recorder's registers that are read from the state. -/
def State.evrView (s : State) (a : Nat) : Word :=
  if a = Reg.EVR_STAT then putBit 5 s.logLost ||| putBit 4 s.refugeMode
  else if a = Reg.EVR_SEQ_LO then word s.evr.nextSeq
  else if a = Reg.EVR_SEQ_HI then s.evr.seqHi
  else if a = Reg.EVR_USE then put 14 0 s.evr.pinned.length ||| put 24 16 s.evr.queue.length
  else if a = Reg.EVR_FAIL then
    putBit 31 s.evr.bank0.isSome ||| putBit 30 s.evr.bank1.isSome ||| put 25 0 ((s.evr.bank0.map (·.1)).getD 0)
  else if 0xC1000 ≤ a && a < 0xC1400 && a % 16 == 0 then putBit 30 (classImm ((a - 0xC1000) / 16))
  else 0#32

/-- The settings of a class written, its accumulation closed early where its interval changes (R366), and the configuration store with
them (R383). -/
def State.setClass (s : State) (c : Nat) (ctl base : Word) : State :=
  let s1 := if fld ctl 11 0 = s.rf (Reg.EVR_CLASS_CTL c) 11 0 then s else s.closeClass c true
  let w := ctl &&& 0x80000FFF#32
  ((s1.setReg (Reg.EVR_CLASS_CTL c) w).setReg (Reg.EVR_CLASS_BASE c) base).setEvr (fun e => { e with
    saved := setKey (setKey e.saved (2 * c) w) (2 * c + 1) base })

/-! ### Commands (R382) -/

/-- EVR_STATUS: status, next seq, area use, counters. -/
def bodyEvrStatus (s : State) : Res :=
  ok ([s.reg Reg.EVR_STAT ||| s.evrView Reg.EVR_STAT, word s.evr.nextSeq, word (s.evr.nextSeq / 2 ^ 32), word s.evr.pinned.length,
    word s.evr.circ.length, word s.evr.refuge.length, word s.evr.queue.length] ++ (upto 5).map (fun i => s.reg (Reg.EVR_CNT i))) s

def execEvrStatus (h : Hdr) (s : State) : Host.Outcome State Fault Refusal := .next (runCmd 0x0C00 h bodyEvrStatus s)

/-- EVR_CLASS_PROFILE (R363, R366, R382). -/
def bodyEvrClassProfile (p : EvrProfile) (s : State) : Res :=
  if p.interval = 0 || decide (3600 < p.interval) then refuse St.PARAM_RANGE s
  else ok [] (p.classes.foldl (fun (s : State) c =>
    s.setClass c.val (setFld (s.reg (Reg.EVR_CLASS_CTL c.val)) 11 0 p.interval) p.base) s)

def execEvrClassProfile (h : Hdr) (p : EvrProfile) (s : State) : Host.Outcome State Fault Refusal :=
  .next (runCmd 0x0C01 h (bodyEvrClassProfile p) s)

/-- EVR_CLASS_RAW: the words as given. -/
def bodyEvrClassRaw (l : List EvrClassRaw) (s : State) : Res :=
  if l.any (fun a => decide (3600 < fld a.ctl 11 0)) then refuse St.PARAM_RANGE s
  else ok [] (l.foldl (fun (s : State) a => s.setClass a.cls.val a.ctl a.base) s)

def execEvrClassRaw (h : Hdr) (l : List EvrClassRaw) (s : State) : Host.Outcome State Fault Refusal :=
  .next (runCmd 0x0C80 h (bodyEvrClassRaw l) s)

/-- EVR_READ: the records of a range of seqs, and the blocks over them, as far as the buffer holds them; the reply gives the numbers of each. -/
def bodyEvrRead (via : Via) (buf len : Nat) (a : EvrReadArgs) (s : State) : Res :=
  let all := (s.evr.pinned ++ s.evr.circ ++ s.evr.refuge).map (·.2)
  let recs := (sortBy (fun x y => decide (x.item.seq ≤ y.item.seq))
    (all.filter (fun x => decide (a.first ≤ x.item.seq) && decide (x.item.seq ≤ a.last)))).take (len / 256)
  let blks := (s.evr.blocks.filter (fun b => decide (b.first ≤ a.last) && decide (a.first < b.first + b.n))).take (len / 256 - recs.length)
  if recs.isEmpty then refuse 0x0C12 s
  else
    let out := wordsLE (recs.flatMap (fun x => x.item.bytes) ++ blks.flatMap (·.bytes))
    ok [word recs.length, word blks.length] ((s.takePoison 5).2.hostWrite via buf out)

def execEvrRead (h : Hdr) (a : EvrReadArgs) (s : State) : Host.Outcome State Fault Refusal :=
  .next (runCmd 0x0C02 h (fun s => (bodyEvrRead h.via h.bufAddr h.bufLen a s).carried h.via) s)

/-- EVR_PUBKEY: uid, curve, key_id and the public key of the signing slot. -/
def bodyEvrPubkey (s : State) : Res :=
  let slot := s.rf Reg.EVR_CTL 23 16
  if (s.kslot slot).st = .empty || (s.kslot slot).cls != 3 then refuse St.KEY_ATTR s
  else
    let key := s.keyBytes slot
    ok (wordsLE (padTo 16 Config.uid) ++ [word (s.rf Reg.EVR_CTL 24 24)] ++ wordsLE (padTo 8 (keyId key)) ++ wordsLE (publicKey key)) s

def execEvrPubkey (h : Hdr) (s : State) : Host.Outcome State Fault Refusal := .next (runCmd 0x0C03 h bodyEvrPubkey s)

/-- EVR_SEAL (R366, R374): a LOG event records it. -/
def bodyEvrSeal (s : State) : Res := ok [] ((s.sealLog false).raise 0 0 [2#32])

def execEvrSeal (h : Hdr) (s : State) : Host.Outcome State Fault Refusal := .next (runCmd 0x0C04 h bodyEvrSeal s)

/-- EVR_CLEAR_NONCE (R379). -/
def bodyEvrClearNonce (s : State) : Res :=
  let r := s.random 16
  ok (wordsLE (padTo 16 r.1)) (r.2.setEvr (fun e => { e with nonce := some ⟨padTo 16 r.1, s.up + sec 60⟩ }))

def execEvrClearNonce (h : Hdr) (s : State) : Host.Outcome State Fault Refusal := .next (runCmd 0x0C05 h bodyEvrClearNonce s)

/-- The seq of the last record written, as 8 bytes (R379). -/
def State.seqLast (s : State) : List Byte := le 8 (s.evr.written + (2 ^ 64 - 1))

/-- An accepted clear (R380). -/
def State.clearLog (s : State) (nonce : List Byte) : State :=
  let s1 := s.sealLog false
  let detail := wordsLE (s1.seqLast ++ padTo 32 s1.evr.chain ++ le 8 (s1.evr.clears + 1) ++ padTo 16 nonce)
  let s2 := s1.setEvr (fun e => { e with
    pinned := [], circ := [], blocks := e.blocks.filter (fun b => b.area == 2), due := e.due.filter (fun d => d.1 == 2)
    s0 := e.nextSeq, clears := e.clears + 1, wrapped := false })
  (s2.pushRecord (s2.bareRecord 1 0 0 detail)).writeNext false false

/-- A failed clear is counted and recorded in class 0 (R379). -/
def State.clearFailed (s : State) (code : Nat) : State := (s.evrCount 4 1).raise 0 0 [word code]

/-- EVR_CLEAR (R379, R380): any attempt with a valid nonce uses it up. -/
def bodyEvrClear (nonce tag : List Byte) (s : State) : Res :=
  let slot := s.rf Reg.EVR_CTL 15 8
  if s.refugeMode || s.logLost then refuse St.STATE s
  else match s.evr.nonce with
  | none => refuse 0x0C11 (s.clearFailed 5)
  | some n =>
    if n.bytes != nonce || decide (n.due ≤ s.up) then refuse 0x0C11 (s.clearFailed 5)
    else
      let key := s.keyBytes slot
      let r := s.useKeySlot slot [2]
      if r.1 ≠ 0 then refuse r.1 r.2
      else
        let s1 := r.2.setEvr (fun e => { e with nonce := none })
        if tag != (Config.hmacSha256 key (nonce ++ s.seqLast)).take 16 then refuse 0x0C10 (s1.clearFailed 4)
        else ok [] (s1.clearLog nonce)

def execEvrClear (h : Hdr) (nonce tag : List Byte) (s : State) : Host.Outcome State Fault Refusal :=
  .next (runCmd 0x0C06 h (bodyEvrClear nonce tag) s)

/-- EVR_HOST_EVENT (R381). -/
def bodyEvrHostEvent (a : EvrHostArgs) (s : State) : Res :=
  if a.cls.val < 48 then refuse St.BAD_PARAM s
  else
    let q := if F32.isFinite a.qty then F32.toRat a.qty else Config.infQuantity
    ok [] (s.accumulate ⟨a.cls.val, q, s.now, s.time.epoch, false, s.degraded, a.detail.toList⟩)

def execEvrHostEvent (h : Hdr) (a : EvrHostArgs) (s : State) : Host.Outcome State Fault Refusal :=
  .next (runCmd 0x0C07 h (bodyEvrHostEvent a) s)

end Sys2Proof.Machine
end

