-- ==== Sys2Proof/Machine/IslandReset.lean ====
section
/-! DEFINITION. The reset of every island (R517, R520, R527): its registers at reset, and what its own chapter says of its reset. -/

namespace Sys2Proof.Machine

/-! ### The companion's identity (R525, R526) -/

/-- A little-endian field of the companion's identity memory (Table 18-7). -/
def identityField (bytes : List Byte) (off n : Nat) : Nat := leNat ((bytes.drop off).take n)

/-- The reason code of an identity read (R526): 0 where it is accepted. -/
def identityReason (r : CompanionRead) : Nat :=
  let b := r.bytes
  if !r.ack then 2
  else if b.length != 256 || (crc32c (b.take 252)).toNat != identityField b 252 4 then 3
  else if identityField b 0 4 != 0x30314354 || identityField b 4 1 != 1 || identityField b 28 4 != 10000000 ||
      identityField b 32 2 < 1 || 1000 < identityField b 32 2 then 4
  else 0

/-- The holdover drift of the companion in ps/s. -/
def State.driftOf (s : State) : Nat := identityField s.aon.comp.bytes 32 2

/-! ### The islands -/

/-- A reset of a port island (R112): its link goes down, its registers and rings are at reset, and what its pins show stands. DESIGN CHOICE
(assumption 110): the reset of a LAN A port, which holds the pair's PRP registers and counters, empties the pair's window and takes its sequence
counter back to zero. -/
def State.resetPort (s : State) (p : Nat) : State :=
  let x := s.port p
  let s1 := (s.linkDown p 4).resetRegs (fun a => a / 0x1000 == 0x30 + p)
  let s2 := if p = lanA (pairOf p) then
      { s1 with ports := { s1.ports with pairs := updAt s1.ports.pairs (pairOf p) (fun _ => ⟨[], 0#16⟩) } } else s1
  (s2.setI2c (i2cOf p) (fun m => if m.port.map (·.val) = some p then { m with port := none } else m)).updPort p (fun y => { freshPort with
    modAbsPin := x.modAbsPin, modAbs := x.modAbsPin, optics := .settle (s.up + ms 300), downAt := y.downAt, downCause := y.downCause })

/-- A reset of the Fixative island (R47, R48, R56): module time restarts at zero in the next epoch with the consequences of a step, and a pending
TIME_RESTEP fails. Transmit timestamps already queued stay. The cause is 0 for an island reset, 1 for a reset of every island and 2 for a power-up
(DESIGN CHOICE, assumption 111: the spec gives the record a cause and no codes). -/
def State.resetFixative (s : State) (cause : Nat) : State :=
  let old := s.time.epoch
  let s1 := s.abandonRestep.beforeStep
  let armed := (upto 8).filter (fun n => s1.rb (Reg.TB_CMP_CTL n) 0)
  let s2 := (s1.resetRegs (fun a => blockOf a == 2)).setTime (fun t => { freshTime (old + 1#32) t.up with txts := t.txts })
  let s3 := armed.foldl (fun (s : State) n => s.setRb (Reg.TB_CMP_STAT n) 2 true) s2
  let s4 := if s3.aon.comp.reason = 0 || s3.aon.comp.reason = 5 then s3.setRf Reg.TB_HOLD_CTL 23 0 s3.driftOf else s3
  s4.afterStep.raise 2 0 [old, s4.time.epoch, word cause]

/-- A reset of the Nose island (R242, R272, R299, R316). -/
def State.resetNoseIsland (s : State) : State := s.resetNose.resetOsc.retractAll

/-- A reset of the control island (R435, R440, R442, R535, R541): the command and fault registers at reset, every lock broken, every session
closed, what the cores were executing lost, and the injection slots disarmed. -/
def State.resetControl (s : State) : State :=
  let s1 := s.disarmAll.breakAll.closeSessions.clearRings
  let s2 := (s1.resetRegs (fun a => blockOf a == 14 || blockOf a == 19)).setCmd (fun c => { c with flights := [], hbDue := none, defTimeout := 1000 })
  let s3 := s2.setFlt (fun f => { f with slots := List.replicate 8 idleInj, lastDet := [] })
  let s4 := s3.setMbx (fun m => { m with waiters := [] })
  (upto 4).foldl (fun (s : State) k => s.raiseGen (s.coreIdent k)) s4

/-- The reset of an island by its code (R528). -/
def State.resetIsland (s : State) (isl cause : Nat) : State :=
  if isl < 10 then s.resetPort isl
  else if isl = Isle.ingress then s.resetIngress
  else if isl = Isle.estimation then s.resetEstimation
  else if isl = Isle.accord then s.resetAccord
  else if isl = Isle.nose then s.resetNoseIsland
  else if isl = Isle.atomizer then s.resetAtomizer
  else if isl = Isle.capture then s.resetCapture
  else if isl = Isle.sillage then s.resetSillage
  else if isl = Isle.flacon then s.resetFlacon
  else if isl = Isle.fixative then s.resetFixative cause
  else if isl = Isle.control then s.resetControl
  else if isl = Isle.cascade then s.resetCascade
  else if isl = Isle.pair then s.resetPair
  else if isl = Isle.memory then s.resetMemory
  else s

/-- The order in which the islands are reset together: what tells Nose, Atomizer or Sillage of it comes before them. -/
def resetOrder : List Nat :=
  upto 10 ++ [Isle.ingress, Isle.estimation, Isle.accord, Isle.nose, Isle.capture, Isle.fixative, Isle.pair, Isle.atomizer, Isle.flacon,
    Isle.cascade, Isle.memory, Isle.control, Isle.sillage]

/-- What an island does when it runs again after a reset (Table 5-8, Table 8-5, R325, R326, R356, R368). -/
def State.runAgain (s : State) (isl : Nat) : State :=
  if !s.runs isl then s
  else if isl = Isle.estimation then s.resumeEstimation
  else if isl = Isle.nose then s.resumeOsc
  else if isl = Isle.atomizer then s.resumeAtomizer s.oscReported
  else if isl = Isle.capture then s.resumeCapture
  else if isl = Isle.sillage then s.resumeSillage
  else s

/-- An island's watchdog expires: what others hold for it is held no longer (R12). -/
def State.dropHeld (s : State) (isl : Nat) : State :=
  if isl = Isle.atomizer then { s.setAln (fun a => { a with pub := [] }) with batches := [] }
  else if isl = Isle.nose then s.setAln (fun a => { a with nose := [], osc := [] })
  else s

/-- Every island but the always-on one reset (R514, R517). -/
def State.resetAll (s : State) : State := resetOrder.foldl (fun (s : State) i => s.resetIsland i 1) s

end Sys2Proof.Machine
end

