-- ==== Sys2Proof/Machine/PowerOps.lean ====
section
/-! DEFINITION. Operations of the always-on island (chapter 18): leaving and reaching the operating states, losing power, the companion, and the
registers of the island. -/

namespace Sys2Proof.Machine

def State.setAon (s : State) (f : AonPart → AonPart) : State := { s with aon := f s.aon }

def PwrMode.code : PwrMode → Nat
  | .off => 0
  | .dormant => 1
  | .ready => 2
  | .run => 3

/-! ### Fault causes (R519, Table 18-4) -/

def State.addCause (s : State) (c : Nat) : State :=
  if s.aon.causes.contains c then s else s.setAon (fun a => { a with causes := a.causes ++ [c] })

def State.dropCause (s : State) (c : Nat) : State := s.setAon (fun a => { a with causes := a.causes.filter (· != c) })

/-! ### The companion (R60, R525, R526) -/

/-- The companion is not used (R60): the internal oscillator takes over without a step, its drift with it, and the event is recorded. -/
def State.fallBack (s : State) (reason : Nat) : State :=
  ((s.setAon (fun a => { a with comp := { a.comp with reason := reason, inUse := false, warmDue := none, readDue := none } })).setRf
    Reg.TB_HOLD_CTL 23 0 100000).raise 4 0 [word reason]

/-- A read of the companion's identity begins, where the companion is fitted and AON_CTL.tc_en is set. -/
def State.startIdentity (s : State) : State :=
  if s.aon.comp.present && s.rb Reg.AON_CTL 1 then
    s.setAon (fun a => { a with comp := { a.comp with readDue := some s.up, retries := 0, warmDue := none } })
  else s

/-- TC_PRES_N changes. -/
def State.companionChange (s : State) (present : Bool) : State :=
  if present = s.aon.comp.present then s
  else
    let s1 := s.setAon (fun a => { a with comp := { a.comp with present := present } })
    if present then (s1.setAon (fun a => { a with comp := { a.comp with applied := s.up } })).startIdentity
    else if s.aon.comp.inUse || s.aon.comp.warmDue.isSome then s1.fallBack 1
    else s1.setAon (fun a => { a with comp := { a.comp with reason := 1, readDue := none } })

/-- A read of the identity memory ends (R526): without acknowledge it is tried twice more, 100 ms apart. -/
def State.takeIdentity (s : State) (r : CompanionRead) : State :=
  let c := s.aon.comp
  if !r.ack && c.retries < 2 then
    s.setAon (fun a => { a with comp := { a.comp with retries := a.comp.retries + 1, readDue := some (s.up + ms 100) } })
  else
    let s1 := if r.ack then s.setAon (fun a => { a with comp := { a.comp with bytes := r.bytes.take 256 } }) else s
    match identityReason r with
    | 0 =>
      let warm := c.applied + sec (identityField r.bytes 34 2)
      let s2 := s1.setRf Reg.TB_HOLD_CTL 23 0 (identityField r.bytes 32 2)
      s2.setAon (fun a => { a with comp := { a.comp with
        readDue := none
        reason := if warm ≤ s.up then 0 else 5
        inUse := decide (warm ≤ s.up)
        warmDue := if warm ≤ s.up then none else some warm } })
    | e => s1.fallBack e

/-! ### Leaving Run (R511) and losing power (R515) -/

/-- Every ALARM_OUT land released. -/
def State.releaseLands (s : State) : State := (upto 8).foldl (fun (s : State) n => s.updLand n (fun _ => idleLand)) s

/-- What is stopped at once when the module begins to leave Run: groups with the flush option, streams, blocks, sets and capture units, with the
lands released and the injection slots disarmed (R511, R535). -/
def State.leaveRun (s : State) : State :=
  let s1 := (upto 32).foldl (fun (s : State) g => s.flushStop g) s.releaseLands
  let s2 := ((upto 64).filter (fun i => s1.rb (Reg.PUB_STRM_CTL i) 26)).foldl (fun (s : State) i => s.runStream i false) s1
  let s3 := (upto 128).foldl (fun (s : State) k =>
    if s.rb (Reg.PUB_GOCB_CTL k) 31 then (s.setRb (Reg.PUB_GOCB_CTL k) 31 false).stopBlock k else s) s2
  s3.stopSets.capDisable.disarmAll

/-- Whether a port can be watched in Dormant (R101): it is up in SGMII or 1000BASE-X. -/
def State.watchable (s : State) (p : Nat) : Bool := (s.port p).link && (s.portMode p == 3 || s.portMode p == 4)

/-- What Dormant and Off lose: the slots that expire, the mailboxes, and everything that bulk memory held (R443, R465, R511). -/
def State.loseVolatile (s : State) : State :=
  let s1 := s.expireKeys.clearMailboxes
  { s1 with
    mem := { s1.mem.lose with barriers := [], poison := [] }
    cap := { s1.cap with recs := [], units := List.replicate 4 idleUnit }
    cmd := { s1.cmd with ready := false } }

/-- The module is Off after a loss of supply, or by R520 (R515): the gate and the lands close, the write in progress completes, and what only
power held is gone. -/
def State.powerDown (s : State) : State :=
  let s1 := s.releaseLands.releaseIlk.keysLosePower.loseLog.loseVolatile
  s1.setAon (fun a => { a with mode := .off, trans := none, dormantAt := none, wakeFrame := none })

/-- The commands of the host in flight and not yet ended, other than one. -/
def State.othersInFlight (s : State) (but : Fin 4 × Word) : List (Fin 4 × Word) :=
  (s.cmd.flights.filter (fun f => f.is f.session f.seq && (f.session, f.seq) != but)).map (fun f => (f.session, f.seq))

/-- Whether the commands a transition waits for have all ended (R511). -/
def State.waitsOver (s : State) (t : Transition) : Bool := t.waits.all (fun w => (s.flight? w.1 w.2).isNone)

/-- Entry into the state a transition goes to, from Run or Ready (R511 to R513). -/
def State.enterState (s : State) (t : Transition) : State :=
  match t.goal with
  | .run =>
    let s1 := s.setAon (fun a => { a with mode := .run, trans := none, wake := t.cause })
    let s2 := if t.command.isSome && !s.aon.imageFail then s1.dropCause 4 else s1
    s2.restartAll (restartSecond s2.now)
  | .ready =>
    let s1 := if s.aon.mode = .run then s.sealLog true else s
    s1.setAon (fun a => { a with mode := .ready, trans := none })
  | .dormant =>
    let s1 := (if s.aon.mode = .run then s.sealLog true else s).loseVolatile.loseLog
    let s2 := (upto 10).foldl (fun (s : State) p => s.updPort p (fun x => { x with wakeable := decide (8 ≤ p) && s1.watchable p })) s1
    s2.setAon (fun a => { a with mode := .dormant, trans := none, dormantAt := some s.up })
  | .off => (if s.aon.mode = .run then s.sealLog true else s).powerDown.setAon (fun a => { a with offHeld := true })

/-- A transition begins. -/
def State.begin (s : State) (t : Transition) : State := s.setAon (fun a => { a with trans := some t })

/-- A wake from Dormant or Ready, where no transition is under way (Table 18-2). A module that both firmware images failed stays in Ready (R516). -/
def State.wakeUp (s : State) (cause : Nat) : State :=
  if s.aon.trans.isSome then s
  else match s.aon.mode with
    | .dormant => s.begin ⟨.run, cause, true, none, []⟩
    | .ready => if s.aon.imageFail then s else s.begin ⟨.run, cause, false, none, []⟩
    | _ => s

/-- Whether the module has an enabled wake source (R510). -/
def State.canWake (s : State) : Bool :=
  s.rb Reg.AON_CTL 0 || s.isHead || (upto 2).any (fun m => s.watchable (8 + m) && (upto 8).any (fun k =>
    s.rb (wakeCrcReg m k) 31 && (upto 4).any (fun w => s.reg (wakeMaskReg m k w) != 0#32)))

/-! ### Starting from reset (R513, R514, R516, R517, R518) -/

/-- The firmware image loaded (R516, detector 14): whether a copy passes. A copy fails where it is bad, or where an injection fails its check. -/
def State.loadImage (s : State) (copy : Nat) (bad : Bool) : Bool × State :=
  let r := s.occasion 14 copy bad
  match r.1 with
  | some inj => (false, r.2.detect 14 inj 0 [word copy])
  | none => (true, r.2)

/-- The islands are released from reset: the cascade starts, the companion is read anew and a wake is recorded. -/
def State.released (s : State) (cause : Nat) : State :=
  let s1 := (s.setAon (fun a => { a with mode := .run, trans := none, resetLow := false, wake := cause, dormantAt := none, wakeFrame := none })).startRing
  let s2 := (upto 23).foldl State.runAgain (s1.setCmd (fun c => { c with ready := true }))
  match s.aon.wakeFrame with
  | some (port, bits) =>
    (s2.raise 13 ((s.reg Reg.AON_WAKE_TIME).toNat : Rat) [word port, word bits]).vector 14
  | none => s2

/-- The stream table as the firmware rewrites it after a power-up (R143): the entries and scales as they stood, every stream polled anew.
DEDUCED (assumption 43). -/
def State.rewriteStreams (s : State) : IngressPart :=
  { freshIng with
    table := s.ing.table
    scales := s.ing.scales
    fw := s.ing.fw.map (fun p => (p.1, { freshFw with
      tcp := p.2.tcp, cfg3 := p.2.cfg3, startData := p.2.startData
      pollDue := if wState (s.sw p.1 0) = 4 then none else some (s.up + sec 60) })) }

/-- A power-up from Off ends (R516, R393, R368, R383): every island starts from reset, module time among
them in its next epoch (R56, cause 2); what MRAM keeps stands. -/
def State.coldStart (s : State) (a : StartArgs) : State :=
  let kept : State := { State.reset with
    pending := s.pending
    free := s.free
    time := freshTime (s.time.epoch + 1#32) s.up
    aon := { freshAon with
      cascHead := a.head, comp := { noCompanion with present := s.aon.comp.present, applied := s.up }
      perstLow := s.aon.perstLow, capW := s.aon.capW, causes := s.aon.causes.filter (· == 2), mode := .off, trans := s.aon.trans }
    key := { s.key with katFail := [], rngOk := true }
    ing := s.rewriteStreams
    evr := { s.evr with
      bank0 := if a.bank0Ok then none else s.evr.bank0
      bank1 := if a.bank1Ok then none else s.evr.bank1 }
    mem := { freshMem with fill := s.mem.fill }
    mbx := ⟨List.replicate 64 emptyChan, []⟩
    cas := { freshCas with stored := s.cas.stored, index := none, st := .unformed, present := 0#64, uids := s.cas.uids }
    ports := { s.ports with ptpIn := [] } }
  let s1 := (upto 10).foldl (fun (s : State) p => s.resetPort p) kept
  let s2 := s.evr.saved.foldl (fun (s : State) p =>
    s.setReg (if p.1 % 2 = 0 then Reg.EVR_CLASS_CTL (p.1 / 2) else Reg.EVR_CLASS_BASE (p.1 / 2)) p.2) s1
  let s3 := if s2.evr.bank0.isSome && s2.evr.bank1.isSome then s2.addCause 2 else s2.dropCause 2
  (s3.raise 2 0 [s.time.epoch, s3.time.epoch, word 2]).keysPowerUp a.badKeys

/-- The two copies of the firmware image loaded in turn: whether one of them passes. -/
def State.loadImages (s : State) (a : StartArgs) : Bool × State :=
  let c1 := s.loadImage 1 a.bad1
  if c1.1 then (true, c1.2) else c1.2.loadImage 2 a.bad2

/-- The module stays in Ready with no firmware image (R516). -/
def State.withoutImage (s : State) : State :=
  ((s.addCause 4).setAon (fun x => { x with mode := .ready, trans := none, imageFail := true, resetLow := false })).setCmd (fun c => { c with ready := true })

/-- CASC_HEAD sampled: at power-up and at each release of RESET_N (R548). -/
def State.sampleHead (s : State) (head : Bool) : State := s.setAon (fun x => { x with cascHead := head })

/-- Every island reset at a wake from Dormant: the command block starts from its reset values, and bulk memory holds undefined data (R514). -/
def State.resetFromDormant (s : State) : State :=
  (s.resetAll.setCmd (fun c => { freshCmd with dma := c.dma, msix := c.msix, gens := c.gens })).setMem (fun m => { m with host := [] })

/-- A start from reset ends (POWER_UP_COMPLETE): from Off, from Dormant or after RESET_N. DEDUCED (assumption 98): where no image stands in the
firmware partition, a start after RESET_N loads the copies again. -/
def State.completeStart (s : State) (t : Transition) (a : StartArgs) : State :=
  match s.aon.mode with
  | .off =>
    let r := s.loadImages a
    let s1 := r.2.coldStart a
    if r.1 then (s1.released t.cause).startIdentity else s1.withoutImage
  | .dormant =>
    let r := s.loadImages a
    let s1 := r.2.resetFromDormant
    let s2 := (if t.cause = 4 then s1.sampleHead a.head else s1).setAon (fun x => { x with pllHeld := [] })
    if r.1 then (s2.released t.cause).startIdentity else s2.withoutImage
  | .ready =>
    let s1 := s.sampleHead a.head
    if s.aon.imageFail then
      let r := s1.loadImages a
      if r.1 then (r.2.setAon (fun x => { x with imageFail := false })).released t.cause else r.2.withoutImage
    else s1.released t.cause
  | .run => (s.sampleHead a.head).released s.aon.wake

/-- An island reset as on its watchdog (R479, R520, R521). -/
def State.watchdogReset (s : State) (isl : Nat) (inj : Bool) : State := ((s.tripInterlock isl inj).resetIsland isl 0).dropHeld isl

/-! ### Errors of on-die SRAM (detectors 5 and 6) -/

/-- The island that owns an area of on-die SRAM (Table 16-1). DEDUCED (assumption 124): the island that computes what the area holds. -/
def sramOwner : Nat → Nat
  | 0 => Isle.accord
  | 1 => Isle.accord
  | 2 => Isle.accord
  | 3 => Isle.accord
  | 4 => Isle.estimation
  | 5 => Isle.nose
  | 6 => Isle.capture
  | 7 => Isle.atomizer
  | _ => Isle.control

/-- The next word read from an area of on-die SRAM comes with one bit flipped, which is corrected, or with two, for which the owning island is reset
as on its watchdog (Table 19-1). -/
def State.sramRead (s : State) (double : Bool) (area : Nat) : State :=
  let r := s.occasion (if double then 6 else 5) area false
  match r.1 with
  | none => r.2
  | some inj =>
    let s1 := r.2.detect (if double then 6 else 5) inj 0 [word area]
    if double then (s1.watchdogReset (sramOwner area) inj).runAgain (sramOwner area) else s1

/-! ### Frequencies (R522 to R524) -/

/-- The islands of the fabric rails (Table 18-6). -/
def isFabric (isl : Nat) : Bool := decide (10 ≤ isl) && decide (isl < 22) && isl != Isle.fixative

/-- The floor of an island in MHz (R523, R498): what its configuration needs or AVFS_RAW has set above it, and 1,600 for the pair island of a pair. -/
def State.floorMhz (s : State) (isl : Nat) : Nat :=
  if isl = Isle.pair && s.pair.st != .unpaired then 1600
  else max (max 800 ((s.aon.floors[isl]?).getD 800)) (min 1600 (Config.neededMhz isl s.regs))

/-- The frequency of an island in MHz: never below its floor, and never above 1,600 (R523). -/
def State.freqMhz (s : State) (isl : Nat) : Nat := max (s.floorMhz isl) (min 1600 ((s.aon.freq[isl]?).getD 1600))

/-- The profile of R524: under “efficient” an idle island may fall to its floor; under “fixed” every fabric island runs at 1.6 GHz. An island whose
clock is stretched takes its frequency when that ends. -/
def State.setProfile (s : State) (efficient : Bool) : State :=
  let f : Nat → Nat := fun i => if efficient && isFabric i then Config.efficientMhz s.free i else 1600
  s.nextFree.setAon (fun a => { a with
    freq := (upto 23).map (fun i => match (a.stretch[i]?).getD none with
      | some _ => (a.freq[i]?).getD 1600
      | none => f i)
    stretch := ((upto 23).zip a.stretch).map (fun p => p.2.map (fun x => (x.1, f p.1))) })

/-! ### The test port (R550) -/

/-- An instruction shifted into the test port: with TRST_N low the port is held in reset; one that drives lands is accepted only while RESET_N is
held low, and else only BYPASS and IDCODE are. -/
def TestPort.load (p : TestPort) (resetNLow : Bool) (i : TestInstr) : TestPort :=
  if p.held then ⟨true, .idcode⟩
  else match i with
    | .bypass => { p with instr := i }
    | .idcode => { p with instr := i }
    | .extest => if resetNLow then { p with instr := i } else p
    | .drive _ => if resetNLow then { p with instr := i } else p

/-- TRST_N followed: low or unconnected it holds the port in reset. -/
def TestPort.trst (p : TestPort) (low : Bool) : TestPort := if low then ⟨true, .idcode⟩ else { p with held := false }

/-- The lands that the test port's boundary cells cover, as far as R550 tells them apart. -/
inductive TestLand where
  | ilk | alarmOut (n : Fin 8) | other
deriving DecidableEq, Repr

/-- Whether the test port drives a land: ILK_P, ILK_N and ALARM_OUT0–7 are observe-only in every instruction. -/
def TestPort.drives (p : TestPort) (l : TestLand) : Bool :=
  match l with
  | .ilk => false
  | .alarmOut _ => false
  | .other => (match p.instr with
    | .bypass => false
    | .idcode => false
    | .extest => true
    | .drive _ => true)

/-! ### Registers (Tables 18-10 and 18-11) -/

/-- The fields of the always-on registers that are read from the state. -/
def State.aonView (s : State) (a : Nat) : Word :=
  let x := s.aon
  if a = Reg.AON_STAT then put 6 4 x.comp.reason ||| put 23 16 (unsign 8 x.temp)
  else if a = Reg.AON_PWR then put 1 0 x.mode.code ||| put 6 4 x.wake
  else if a = Reg.AON_FAULT then x.causes.foldl (fun w c => w ||| putBit c true) 0#32 ||| put 28 24 x.lastHeld
  else if 0x10100 ≤ a && a < 0x1015C then
    let n := (a - 0x10100) / 4
    put 11 0 (s.freqMhz n) ||| put 27 16 (s.floorMhz n) ||| putBit 31 (x.held.contains n)
  else if 0x10200 ≤ a && a < 0x10300 then
    word (identityField x.comp.bytes (a - 0x10200) 4)
  else 0#32

/-- AON_CTL written: a companion that tc_en no longer lets the module use is not used, and one that it lets it use is read. -/
def State.settleCompanion (s : State) (was : Bool) : State :=
  let now := s.rb Reg.AON_CTL 1
  if was = now then s
  else if now then s.startIdentity
  else if s.aon.comp.inUse || s.aon.comp.warmDue.isSome then s.fallBack s.aon.comp.reason
  else s.setAon (fun a => { a with comp := { a.comp with readDue := none } })

end Sys2Proof.Machine
end

