-- ==== Sys2Proof/Machine/Power.lean ====
section
/-! DEFINITION. The always-on island (chapter 18): the meanings of its commands and events. -/

namespace Sys2Proof.Machine

/-! ### Supplies, reset lands and states -/

/-- SUPPLY_IN_RANGE (R509, R516, R519, R554): VIN and VIO are both in range after one was not; FAULT_N cause 0 ends and power-up begins. A module
that went Off by command leaves Off only after VIN has fallen, and so does one whose junction passed 115 °C, then below 95 °C. -/
def execSupplyInRange (at_ : Instant) (tempC : Int) (s0 : State) : Host.Outcome State Fault Refusal :=
  let s := s0.advance at_
  .next (if s.aon.vinOk && s.aon.vioOk then s
    else
      let s1 := ((if s.aon.mode = .off then s else s.powerDown).setAon (fun a => { a with vinOk := true, vioOk := true, temp := tempC })).dropCause 0
      if s1.aon.offHeld then s1
      else if s1.aon.hotOff && 95 ≤ tempC then s1.setAon (fun a => { a with offHeld := true })
      else (((s1.dropCause 3).dropCause 5).setAon (fun a => { a with hotOff := false })).begin ⟨.run, 0, true, none, []⟩)

/-- POWER_UP_COMPLETE (R514, R516, R517): a start from reset ends with CMD_STAT.ready and Run, or with both firmware images failed. -/
def execPowerUpComplete (at_ : Instant) (a : StartArgs) (s0 : State) : Host.Outcome State Fault Refusal :=
  let s := s0.advance at_
  .next (match s.aon.trans with
    | some t => if t.cold && s.aon.vinOk && s.aon.vioOk then s.completeStart t a else s
    | none => s)

/-- VIN_LOSS (R515): FAULT_N, the gate and the lands at once; the write in progress completes, and the module is Off. -/
def execVinLoss (at_ : Instant) (s0 : State) : Host.Outcome State Fault Refusal :=
  let s := ((s0.advance at_).setAon (fun a => { a with vinOk := false, offHeld := false })).addCause 0
  .next (if s.aon.mode = .off then s.setAon (fun a => { a with trans := none }) else s.powerDown)

/-- VIO_OUT_OF_RANGE (R547): FAULT_N cause 0, and every logic-group output is high-impedance. -/
def execVioOutOfRange (at_ : Instant) (s0 : State) : Host.Outcome State Fault Refusal :=
  .next ((((s0.advance at_).setAon (fun a => { a with vioOk := false })).addCause 0).releaseLands)

/-- VIN_ABOVE_RANGE (R553): VIN is judged out of range, for which R519 gives FAULT_N cause 0; only VIN below its range takes the module to Off
(R509). -/
def execVinAboveRange (at_ : Instant) (s0 : State) : Host.Outcome State Fault Refusal :=
  .next (((s0.advance at_).setAon (fun a => { a with vinOk := false })).addCause 0)

/-- RESET_N_PULSE (R517, R548): low for at least 10 µs, every island but the always-on one is reset; below 1 µs it is ignored. The instant is
that of the release. An island that the supervisor holds in reset stays held, until ISLAND_RESET (R520). -/
def execResetNPulse (at_ : Instant) (widthNs : Nat) (s0 : State) : Host.Outcome State Fault Refusal :=
  let s := s0.advance at_
  let resets := decide (10000 ≤ widthNs) || (decide (1000 ≤ widthNs) && Config.midPulseResets s.free widthNs)
  let s1 := if 1000 ≤ widthNs && widthNs < 10000 then s.nextFree else s
  .next (if !resets then s1
    else match s1.aon.mode with
      | .off => s1
      | .dormant => s1.wakeUp 4
      | .ready | .run =>
        ((s1.resetAll.setCmd (fun c => { c with ready := false })).setAon (fun a => { a with resetLow := true })).begin ⟨.run, 4, true, none, []⟩)

/-- PERST_N_ASSERT (R518, R440): on the head the command registers are reset, every session closes, every lock breaks, and commands in flight
complete without a reply. -/
def execPerstNAssert (at_ : Instant) (s0 : State) : Host.Outcome State Fault Refusal :=
  let s := s0.advance at_
  .next (if !s.isHead || s.aon.perstLow then s
    else
      let s1 := s.setAon (fun a => { a with perstLow := true })
      if s1.aon.mode = .off || s1.aon.mode = .dormant then s1
      else
        let s2 := s1.breakAll.closeSessions.clearRings
        ((s2.resetRegs (fun a => blockOf a == 14)).setCmd (fun c => { c with hbDue := none })).raiseGen hostIdent)

/-- PERST_N_RELEASE (R518): the registers, held in reset till then, leave it; on the head it wakes the module from Dormant. -/
def execPerstNRelease (at_ : Instant) (s0 : State) : Host.Outcome State Fault Refusal :=
  let s := s0.advance at_
  .next (if !s.isHead || !s.aon.perstLow then s
    else
      let s1 := (s.setAon (fun a => { a with perstLow := false })).resetRegs (fun a => blockOf a == 14)
      if s1.aon.mode = .dormant then s1.wakeUp 3 else s1)

/-- WAKE_N_EDGE (R509, R510): a falling edge wakes the module from Ready or Dormant where AON_CTL.wake_n_en is set. -/
def execWakeNEdge (at_ : Instant) (s0 : State) : Host.Outcome State Fault Refusal :=
  let s := s0.advance at_
  .next (if s.rb Reg.AON_CTL 0 then s.wakeUp 2 else s)

/-- Whether a frame matches a wake pattern (R102 to R104). -/
def State.wakeMatches (s : State) (m k : Nat) (f : WakeFrame) : Bool :=
  let offs := (upto 128).filter (fun b => s.rb (wakeMaskReg m k (b / 32)) (b % 32))
  let w := s.reg (wakeCrcReg m k)
  bit w 31 && !offs.isEmpty && f.fcsOk && offs.all (fun b => decide (b < f.len)) &&
    crc16 (offs.map (fun b => (f.bytes[b]?).getD 0#8)) == fld w 15 0

/-- WAKE_PATTERN_MATCH (R101, R104): a frame at the detector of M0 or M1 in Dormant; one that matches a pattern wakes the module. -/
def execWakePatternMatch (at_ : Instant) (m : Fin 2) (f : WakeFrame) (s0 : State) : Host.Outcome State Fault Refusal :=
  let s := s0.advance at_
  let hits := (upto 8).filter (fun k => s.wakeMatches m.val k f)
  .next (match s.aon.dormantAt with
    | some u =>
      if s.aon.mode != .dormant || s.aon.trans.isSome || !(s.port (8 + m.val)).wakeable || hits.isEmpty then s
      else
        let bits := total (hits.map (2 ^ ·))
        let s1 := (s.setReg Reg.AON_WAKE_STAT (putBit 31 true ||| putBit 16 (m.val == 1) ||| put 7 0 bits)).setReg Reg.AON_WAKE_TIME
          (word ((s.up - u) / ms 1))
        (s1.setAon (fun a => { a with wakeFrame := some (8 + m.val, bits) })).wakeUp 1
    | none => s)

/-- STATE_TRANSITION_COMPLETE (R511, R513): a transition without a start from reset ends, and the command that asked for it replies.
Commands that were in flight at its acceptance end first. -/
def execStateTransitionComplete (at_ : Instant) (s0 : State) : Host.Outcome State Fault Refusal :=
  let s := s0.advance at_
  .next (match s.aon.trans with
    | some t =>
      if t.cold || !s.waitsOver t then s
      else (match t.command with
        | some (session, seq) => s.complete session seq St.OK []
        | none => s).enterState t
    | none => s)

/-! ### Temperature, clocks and rails -/

/-- TEMPERATURE_SAMPLE (R520, detector 12): the reading of the junction in °C. A firing injection raises it, to at most 114. -/
def execTemperatureSample (at_ : Instant) (tempC : Int) (s0 : State) : Host.Outcome State Fault Refusal :=
  let s := s0.advance at_
  let shot := s.firing 12 0
  let added : Int := match shot with
    | some i => signed 32 (s.inj i).param.toNat
    | none => 0
  let reading := if tempC < 114 then min 114 (tempC + added) else tempC
  let o := s.occasion 12 0 (decide (103 < tempC))
  let s1 := (if s.aon.mode = .off then s else o.2).setAon (fun a => { a with temp := reading })
  .next (if s.aon.mode = .off then s
    else if reading ≤ 103 then s1
    else
      let s2 := (((s1.setRb Reg.AON_STAT 0 true).count Reg.AON_HOT 1).vector 22).detect 12 (decide (tempC ≤ 103)) (reading : Rat) [word reading.toNat]
      if 115 < reading then (s2.setAon (fun a => { a with hotOff := true, offHeld := true })).addCause 3 |>.powerDown else s2.vector 15)

/-- ISLAND_WATCHDOG_EXPIRY (R520, R521, R479, detector 2): the island is reset, and at the third expiry within 10 s it is held in reset. -/
def execIslandWatchdogExpiry (at_ : Instant) (isl : Fin 23) (real : Bool) (s0 : State) : Host.Outcome State Fault Refusal :=
  let s := s0.advance at_
  .next (if !s.runs isl.val then s
    else
      let o := s.occasion 2 isl.val real
      match o.1 with
      | none => o.2
      | some inj =>
        let times := ((lookup s.aon.wdTimes isl.val).getD []).filter (fun u => decide (s.up < u + sec 10)) ++ [s.up]
        let s1 := (o.2.watchdogReset isl.val inj).setAon (fun a => { a with wdTimes := setKey a.wdTimes isl.val times })
        let s2 := (s1.count Reg.AON_WD_EXPIRE 1).detect 2 inj 0 [word isl.val]
        if times.length < 3 then s2.runAgain isl.val
        else (s2.setAon (fun a => { a with held := a.held ++ [isl.val], lastHeld := isl.val, wdTimes := setKey a.wdTimes isl.val [] })).addCause 1)

/-- RAIL_WINDOW_FAULT (detector 11): a rail outside its window for 10 ms sets FAULT_N cause 5. -/
def execRailWindowFault (at_ : Instant) (rail : Fin 6) (real : Bool) (s0 : State) : Host.Outcome State Fault Refusal :=
  let s := s0.advance at_
  .next (if s.aon.mode = .off then s
    else
      let o := s.occasion 11 rail.val real
      match o.1 with
      | none => o.2
      | some inj =>
        let s1 := o.2.setFlt (fun f => { f with
          injCauses := if inj then (if s.aon.causes.contains 5 then f.injCauses else f.injCauses ++ [5]) else f.injCauses.filter (· != 5) })
        (s1.addCause 5).detect 11 inj 0 [word rail.val])

/-- PLL_LOCK_LOSS (detector 13): the island is held in reset until its PLL locks again. -/
def execPllLockLoss (at_ : Instant) (isl : Fin 23) (real : Bool) (s0 : State) : Host.Outcome State Fault Refusal :=
  let s := s0.advance at_
  .next (if !s.runs isl.val then s
    else
      let o := s.occasion 13 isl.val real
      match o.1 with
      | none => o.2
      | some inj =>
        ((o.2.resetIsland isl.val 0).detect 13 inj 0 [word isl.val]).setAon (fun a => { a with pllHeld := a.pllHeld ++ [isl.val] }))

/-- PLL_RELOCK (R529). -/
def execPllRelock (at_ : Instant) (isl : Fin 23) (s0 : State) : Host.Outcome State Fault Refusal :=
  .next (((s0.advance at_).setAon (fun a => { a with pllHeld := a.pllHeld.filter (· != isl.val) })).runAgain isl.val)

/-- CPM_MARGIN_LOSS (R522, detector 10): the island's clock is stretched, and the lowered frequency held for 10 µs. -/
def execCpmMarginLoss (at_ : Instant) (isl : Fin 23) (real : Bool) (s0 : State) : Host.Outcome State Fault Refusal :=
  let s := s0.advance at_
  .next (if !s.runs isl.val then s
    else
      let o := s.occasion 10 isl.val real
      match o.1 with
      | none => o.2
      | some inj =>
        let s1 := o.2.detect 10 inj 0 [word isl.val]
        let had := match (s1.aon.stretch[isl.val]?).getD none with
          | some (_, f) => f
          | none => (s1.aon.freq[isl.val]?).getD 0
        s1.nextFree.setAon (fun a => { a with
          stretch := updAt a.stretch isl.val (fun _ => some (s1.up + us 10, had))
          freq := updAt a.freq isl.val (fun _ => Config.stretchedMhz s1.free isl.val) }))

/-- CLOCK_STRETCH_END (R522). -/
def execClockStretchEnd (isl : Fin 23) (s : State) : Host.Outcome State Fault Refusal :=
  match (s.aon.stretch[isl.val]?).getD none with
  | some (due, had) =>
    .next ((s.advanceUp due).setAon (fun a => { a with
      stretch := updAt a.stretch isl.val (fun _ => none)
      freq := updAt a.freq isl.val (fun _ => had) }))
  | none => .next s

/-! ### The timing companion (R525, R526) -/

/-- TC_PRES_CHANGE. -/
def execTcPresChange (at_ : Instant) (present : Bool) (s0 : State) : Host.Outcome State Fault Refusal :=
  let s := s0.advance at_
  .next (if s.aon.mode = .off then s.setAon (fun a => { a with comp := { a.comp with present := present } }) else s.companionChange present)

/-- TC10_IDENTITY_READ_COMPLETE. -/
def execTc10IdentityReadComplete (at_ : Instant) (r : CompanionRead) (s0 : State) : Host.Outcome State Fault Refusal :=
  let s := s0.advance at_
  .next (if s.aon.comp.readDue.isSome && s.aon.comp.present then s.takeIdentity r else s)

/-- TC10_WARMUP_END: the accepted companion is used for holdover, and TB_STAT.tc10 sets. -/
def execTc10WarmupEnd (s : State) : Host.Outcome State Fault Refusal :=
  match s.aon.comp.warmDue with
  | some u => .next ((s.advanceUp u).setAon (fun a => { a with comp := { a.comp with warmDue := none, inUse := true, reason := 0 } }))
  | none => .next s

/-! ### Commands (Table 18-9) -/

/-- AON_STATUS: state, causes, temperature, rails, island frequencies, companion reason. -/
def bodyAonStatus (s : State) : Res :=
  ok ([s.aonView Reg.AON_PWR, s.aonView Reg.AON_FAULT, s.reg Reg.AON_STAT ||| s.aonView Reg.AON_STAT] ++
    (upto 6).map (fun r => word (Config.railMv s.free r)) ++ (upto 23).map (fun n => s.aonView (Reg.AON_ISL n)) ++ [word s.aon.comp.reason]) s.nextFree

def execAonStatus (h : Hdr) (s : State) : Host.Outcome State Fault Refusal := .next (runCmd 0x0100 h bodyAonStatus s)

/-- Whether Table 18-2 lists a transition that a command asks for. -/
def commandable : PwrMode → PwrMode → Bool
  | .run, .ready => true
  | .run, .dormant => true
  | .run, .off => true
  | .ready, .run => true
  | .ready, .dormant => true
  | .ready, .off => true
  | _, _ => false

/-- PWR_STATE (R509 to R511): the reply comes when the module leaves its state. -/
def bodyPwrState (h : Hdr) (goal : PwrMode) (s : State) : Res :=
  if s.aon.trans.isSome then refuse St.BUSY s
  else if !commandable s.aon.mode goal then refuse St.STATE s
  else if goal != .run && !(s.pair.st == .unpaired || s.pair.st == .listen || s.pair.st == .orphan) then refuse St.STATE s
  else if goal = .dormant && !s.canWake then refuse 0x0111 s
  else .waiting ((if s.aon.mode = .run then s.leaveRun else s).begin ⟨goal, 5, false, some (h.session, h.seq), s.othersInFlight (h.session, h.seq)⟩)

def execPwrState (h : Hdr) (goal : PwrMode) (s : State) : Host.Outcome State Fault Refusal := .next (runCmd 0x0101 h (bodyPwrState h goal) s)

/-- PWR_PROFILE (R524). -/
def bodyPwrProfile (efficient : Bool) (s : State) : Res := ok [] ((s.setRb Reg.AON_CTL 2 efficient).setProfile efficient)

def execPwrProfile (h : Hdr) (efficient : Bool) (s : State) : Host.Outcome State Fault Refusal :=
  .next (runCmd 0x0102 h (bodyPwrProfile efficient) s)

/-- TC10_IDENTITY: the 256-byte copy and the reason. -/
def bodyTc10Identity (s : State) : Res :=
  ok ((upto 64).map (fun k => s.aonView (Reg.AON_TC_ID k)) ++ [word s.aon.comp.reason]) s

def execTc10Identity (h : Hdr) (s : State) : Host.Outcome State Fault Refusal := .next (runCmd 0x0103 h bodyTc10Identity s)

/-- AVFS_RAW (R523, R524): floors from 800 to 1,600 MHz, which act above the floor the configuration needs, and a cap from 30 W to 65 W unless the floors would break it. -/
def bodyAvfsRaw (a : AvfsArgs) (s : State) : Res :=
  if (match a.capW with
      | some c => decide (c < 30) || decide (65 < c)
      | none => false) || a.floors.any (fun p => decide (p.2 < 800) || decide (1600 < p.2)) then refuse St.PARAM_RANGE s
  else
    let s1 := s.setAon (fun x => { x with floors := a.floors.foldl (fun l p => updAt l p.1.val (fun _ => p.2)) x.floors })
    match a.capW with
    | some c => if Config.capBroken c ((upto 23).map s1.floorMhz) then ok [] (s1.status Reg.AON_STAT 1) else ok [] (s1.setAon (fun x => { x with capW := c }))
    | none => ok [] s1

def execAvfsRaw (h : Hdr) (a : AvfsArgs) (s : State) : Host.Outcome State Fault Refusal := .next (runCmd 0x0180 h (bodyAvfsRaw a) s)

/-- ISLAND_RESET (R519, R520): resets an island, and releases one that is held. -/
def bodyIslandReset (isl : Fin 23) (s : State) : Res :=
  let s1 := (s.resetIsland isl.val 0).setAon (fun a => { a with held := a.held.filter (· != isl.val) })
  ok [] ((if s1.aon.held.isEmpty then s1.dropCause 1 else s1).runAgain isl.val)

def execIslandReset (h : Hdr) (isl : Fin 23) (s : State) : Host.Outcome State Fault Refusal := .next (runCmd 0x0181 h (bodyIslandReset isl) s)

end Sys2Proof.Machine
end

