-- ==== Sys2Proof/Machine/Faults.lean ====
section
/-! DEFINITION. Fault detectors and injection (chapter 19): the meanings of the commands, of the slots' events and of the detectors that belong to no
other block. -/

namespace Sys2Proof.Machine

/-! ### Arming (R531, R532, Table 19-2) -/

/-- Whether a target lies in Table 19-2. -/
def targetOk (det target : Nat) : Bool :=
  match det with
  | 0 | 1 | 2 | 10 => decide (target < 23)
  | 3 => decide (target < 4)
  | 5 | 6 => decide (target < 9)
  | 7 | 8 => decide (target < 32)
  | 9 | 17 => decide (target < 2)
  | 11 => decide (target < 6)
  | 13 => decide (target < 23) && target != Isle.fixative
  | 14 => target == 1 || target == 2
  | 16 => decide (target < 4)
  | 18 => decide (target < 8)
  | 21 => decide (target < 16384)
  | _ => decide (det < 22)

/-- Whether a parameter lies in Table 19-2. -/
def paramOk (det : Nat) (param : Word) : Bool :=
  let v := signed 32 param.toNat
  match det with
  | 12 => decide (1 ≤ v) && decide (v ≤ 60)
  | 20 => decide (1000 ≤ v.natAbs) && decide (v.natAbs ≤ 1000000)
  | _ => true

/-- An injection refused: counted (R531). -/
def State.denyInjection (s : State) : State := (s.count (Reg.FLT_CNT 0) 1).status Reg.FLT_STAT 2

/-- Whether a slot can be armed: it is IDLE or DONE. -/
def InjSlot.free (x : InjSlot) : Bool := x.st == .idle || x.st == .done

/-- A slot armed with what its words say (R532), and the INJECT event (class 27). -/
def State.armSlot (s : State) (i : Nat) (session : Fin 4) : State :=
  let sel := s.reg (Reg.FLT_INJ_SEL i)
  let ctl := s.reg (Reg.FLT_INJ_CTL i)
  let tm := s.reg (Reg.FLT_INJ_TIME i)
  let mode : InjMode := match fld ctl 29 28 with
    | 1 => .count
    | 2 => .span
    | _ => .once
  let s1 := (s.setRb (Reg.FLT_INJ_CTL i) 31 true).updInj i (fun _ =>
    { st := .armed, det := fld sel 4 0, target := fld sel 23 8, param := s.reg (Reg.FLT_INJ_PARAM i), mode := mode, fired := 0
      left := match mode with
        | .count => max 1 (fld ctl 15 0)
        | _ => 1
      due := s.up + us (fld tm 15 0), dur := us (fld tm 31 16), session := session.val })
  s1.raise 27 0 [word (fld sel 4 0), word session.val]

/-- The words of a slot written. -/
def State.writeInjWords (s : State) (i : Nat) (sel ctl tm param : Word) : State :=
  (((s.setReg (Reg.FLT_INJ_SEL i) (sel &&& 0x00FFFF1F#32)).setReg (Reg.FLT_INJ_CTL i) (ctl &&& 0x3000FFFF#32)).setReg (Reg.FLT_INJ_TIME i) tm).setReg
    (Reg.FLT_INJ_PARAM i) param

/-- Whether what a slot's words name lies in Table 19-2. -/
def selOk (sel param : Word) : Bool := decide (fld sel 4 0 < 22) && targetOk (fld sel 4 0) (fld sel 23 8) && paramOk (fld sel 4 0) param

/-- A slot disarmed by its words or by command. -/
def State.disarmSlot (s : State) (i : Nat) : State := s.disarmInj i

/-! ### Commands (Table 19-6) -/

/-- FLT_STATUS: detection counts, slot states, and the uptime of the last detection of each detector in ms. -/
def bodyFltStatus (s : State) : Res :=
  ok ((upto 22).map (fun d => s.reg (Reg.FLT_DET d)) ++ (upto 8).map (fun i => put 1 0 (s.inj i).st.code ||| put 23 8 (s.inj i).fired) ++
    (upto 22).map (fun d => match lookup s.flt.lastDet d with
      | some u => word (u / ms 1)
      | none => 0xFFFFFFFF#32)) s

def execFltStatus (h : Hdr) (s : State) : Host.Outcome State Fault Refusal := .next (runCmd 0x1300 h bodyFltStatus s)

def modeCode : InjMode → Nat
  | .once => 0
  | .count => 1
  | .span => 2

/-- INJECT: arms the lowest slot that is IDLE or DONE, or disarms one; the reply gives the slot. -/
def bodyInject (h : Hdr) (a : InjectArgs) (s : State) : Res :=
  if !s.injAllowed then .done St.INJECT_DENIED [] s.denyInjection
  else match a with
    | .disarm i => ok [word i.val] (s.disarmSlot i.val)
    | .arm det target param mode shots delayUs durUs =>
      let sel := put 4 0 det.val ||| put 23 8 target.val
      if 0xFFFF < shots || 0xFFFF < delayUs || 0xFFFF < durUs then refuse St.PARAM_RANGE s
      else if !selOk sel param then refuse 0x1311 s
      else match (upto 8).find? (fun i => (s.inj i).free) with
        | none => refuse 0x1310 s
        | some i => ok [word i] ((s.writeInjWords i sel (put 29 28 (modeCode mode) ||| put 15 0 shots) (put 15 0 delayUs ||| put 31 16 durUs) param).armSlot i h.session)

def execInject (h : Hdr) (a : InjectArgs) (s : State) : Host.Outcome State Fault Refusal := .next (runCmd 0x1301 h (bodyInject h a) s)

/-- FLT_INJ_RAW: the words of a slot as given, which arms or disarms it. -/
def bodyFltInjRaw (h : Hdr) (a : InjRawArgs) (s : State) : Res :=
  let i := a.slot.val
  if !s.injAllowed then .done St.INJECT_DENIED [] s.denyInjection
  else if !bit a.ctl 31 then ok [] ((s.disarmSlot i).writeInjWords i a.sel a.ctl a.time a.param)
  else if !selOk a.sel a.param then refuse 0x1311 s
  else if !(s.inj i).free then refuse 0x1310 s
  else ok [] ((s.writeInjWords i a.sel a.ctl a.time a.param).armSlot i h.session)

def execFltInjRaw (h : Hdr) (a : InjRawArgs) (s : State) : Host.Outcome State Fault Refusal := .next (runCmd 0x1380 h (bodyFltInjRaw h a) s)

/-! ### Slots -/

/-- FLT_INJ_CTL written (R531, R532, R535): arm as 1 arms a free slot whose words lie in Table 19-2, arm as 0 disarms. -/
def State.writeInjCtl (s : State) (i : Nat) (v : Word) (session : Fin 4) : State :=
  let s1 := s.setReg (Reg.FLT_INJ_CTL i) (v &&& 0x3000FFFF#32)
  if !bit v 31 then s1.disarmSlot i
  else if selOk (s.reg (Reg.FLT_INJ_SEL i)) (s.reg (Reg.FLT_INJ_PARAM i)) && (s.inj i).free then s1.armSlot i session
  else s

/-- INJ_SLOT_ARM. -/
def execInjSlotArm (at_ : Instant) (slot : Fin 8) (session : Fin 4) (s0 : State) : Host.Outcome State Fault Refusal :=
  let s := s0.advance at_
  .next (if s.injAllowed then s.writeInjCtl slot.val (setBit (s.reg (Reg.FLT_INJ_CTL slot.val)) 31 true) session else s.denyInjection)

/-- INJ_SLOT_DISARM. -/
def execInjSlotDisarm (at_ : Instant) (slot : Fin 8) (s0 : State) : Host.Outcome State Fault Refusal :=
  let s := s0.advance at_
  .next (if s.injAllowed then s.disarmSlot slot.val else s.denyInjection)

/-- The supervisor heartbeat expires (R438, detector 4): sessions close, locks break, fetching stops with the rings at zero, and the host's
generation rises. -/
def State.expireHeartbeat (s : State) (real : Bool) : State :=
  let o := s.occasion 4 0 real
  match o.1 with
  | none => o.2
  | some inj =>
    let s1 := (o.2.breakAll.closeSessions.clearRings.setCmd (fun c => { c with hbDue := none })).setRb Reg.CMD_STAT 16 true
    (s1.raiseGen hostIdent).detect 4 inj 0 [word s.aon.mode.code]

/-- INJECTION_FIRE (R532): the delay is over. The heartbeat expires, and an engine's known-answer test runs, at once. DEDUCED (assumption 124): so do
the words of an on-die area come, which its island reads all the time. -/
def execInjectionFire (slot : Fin 8) (s : State) : Host.Outcome State Fault Refusal :=
  let x := s.inj slot.val
  if x.st != .armed then .next s
  else
    let s1 := (s.advanceUp x.due).updInj slot.val (fun y => { y with st := .firing, due := y.due + y.dur })
    if x.det = 4 then .next (s1.expireHeartbeat false)
    else if x.det = 16 then execKatRun s1.now 0#4 s1
    else if x.det = 5 || x.det = 6 then .next (if !s1.runs (sramOwner x.target) then s1
      else (upto x.left).foldl (fun (s : State) _ => s.sramRead (x.det == 6) x.target) s1)
    else .next s1

/-- INJECTION_SPAN_END. -/
def execInjectionSpanEnd (slot : Fin 8) (s : State) : Host.Outcome State Fault Refusal :=
  let x := s.inj slot.val
  if x.st == .firing && x.mode == .span then .next ((s.advanceUp x.due).updInj slot.val (fun y => { y with st := .done })) else .next s

/-- INJ_BIT_CLEAR (R537). -/
def execInjBitClear (s : State) : Host.Outcome State Fault Refusal :=
  match s.flt.lastFire with
  | some u => .next ((s.advanceUp (u + sec 1)).setFlt (fun f => { f with lastFire := none }))
  | none => .next s

/-! ### Detectors -/

/-- The channel value at the head of the crossing from an island to Accord. -/
def State.crossingValue (s : State) (isl : Nat) : Option ChanValue :=
  s.ing.values.find? (fun v => if isl = Isle.estimation then decide (estimatedBase ≤ v.chan) else decide (v.chan < estimatedBase))

/-- The value that an island has at the head of its crossing to Accord is lost (R12); one that an injection withheld is reported (R577). -/
def State.abandonValue (s : State) (isl : Nat) (inj : Bool) : State :=
  if isl != Isle.ingress && isl != Isle.estimation then s
  else match s.crossingValue isl with
    | none => s
    | some v => s.setIng (fun g => { g with values := eraseFirst v g.values, reports := if inj then g.reports ++ [(v.chan, v.t)] else g.reports })

/-- FABRIC_TIMEOUT (R521, R577, detector 0): the transaction is abandoned with an error response, and the requester's interface is reset. DEDUCED
(assumption 100): a transaction of ingress or estimation carried the value at the head of its crossing. -/
def execFabricTimeout (at_ : Instant) (isl : Fin 23) (real : Bool) (s0 : State) : Host.Outcome State Fault Refusal :=
  let s := s0.advance at_
  let o := s.occasion 0 isl.val real
  .next (if !s.runs isl.val then s
    else match o.1 with
      | some inj => ((o.2.count Reg.AON_FAB_TIMEOUT 1).detect 0 inj 0 [word isl.val]).abandonValue isl.val inj
      | none => o.2)

/-- HANDSHAKE_TIMEOUT (R11, R12, R577, detector 1): a crossing is not acknowledged. A channel value is not offered again, and one that an injection
withheld is marked; every other item is held and offered again. -/
def execHandshakeTimeout (at_ : Instant) (snd rcv : Fin 23) (real : Bool) (s0 : State) : Host.Outcome State Fault Refusal :=
  let s := s0.advance at_
  let o := s.occasion 1 snd.val real
  .next (if !s.runs snd.val then s
    else match o.1 with
      | none => o.2
      | some inj =>
        let s1 := o.2.detect 1 inj 0 [word snd.val, word rcv.val]
        if rcv.val != Isle.accord then s1 else s1.abandonValue snd.val inj)

/-- ALARM_OUT_READBACK_CHECK (R557, R501, detector 18): the land is compared with its drive; `real` says that it differs. -/
def execAlarmOutReadbackCheck (at_ : Instant) (land : Fin 8) (real : Bool) (s0 : State) : Host.Outcome State Fault Refusal :=
  let s := s0.advance at_
  let o := s.occasion 18 land.val real
  .next (if !s.runs Isle.atomizer then s
    else match o.1 with
      | some inj =>
        let s1 := o.2.detect 18 inj 0 [word land.val]
        (match s1.pair.swap with
         | some (.checking _) => s1.setPair (fun p => { p with swapBad := true })
         | _ => s1)
      | none => o.2)

/-! ### Registers -/

/-- The fields of the fault registers that are read from the state (Table 19-8). -/
def State.fltView (s : State) (a : Nat) : Word :=
  match (upto 8).find? (fun i => a == Reg.FLT_INJ_STAT i) with
  | some i => put 1 0 (s.inj i).st.code ||| put 23 8 (s.inj i).fired
  | none => 0#32

end Sys2Proof.Machine
end

