-- ==== Sys2Proof/Machine/Speculation.lean ====
section
/-! DEFINITION. Speculation (chapter 07): the meanings of its commands and register writes. -/

namespace Sys2Proof.Machine

/-- The state of a group's speculation (Table 7-10): 0 OFF, 1 ACTIVE, 2 SUSPENDED. -/
def State.specState (s : State) (g : Nat) : Nat :=
  if !s.rb Reg.SPL_CTL 0 || (s.grpWords g).depth = 0 then 0 else if (s.group g).susp.isSome then 2 else 1

/-- The fields of the speculation registers that are read from the state. -/
def State.splView (s : State) (a : Nat) : Word :=
  if a = Reg.SPL_LEDGER_STAT then
    put 11 0 s.ledgerUsed ||| put 27 16 (s.aln.ledger.filter (fun p => p.2.st == .flushed)).length
  else if 0x70800 ≤ a && a < 0x70880 then
    let g := (a - 0x70800) / 4
    put 6 0 (s.held g) ||| put 9 8 (s.specState g)
  else 0#32

/-- SPL_STATUS: the ledger's use and peak, then each group's state, entries held and counters. -/
def bodySplStatus (s : State) : Res :=
  ok ([word s.ledgerUsed, s.reg Reg.SPL_LEDGER_PEAK] ++
    (upto 32).flatMap (fun g => [word (s.specState g), word (s.held g)] ++ (upto 8).map (fun i => s.reg (Reg.SPL_GRP_CNT g i)))) s

def execSplStatus (h : Hdr) (s : State) : Host.Outcome State Fault Refusal := .next (runCmd 0x0700 h bodySplStatus s)

/-- The depth a group needs never to be suspended, at most 64 (R235). -/
def autoDepth (w : GrpWords) : Nat :=
  min 64 (max 1 (ceilDiv ((10 * w.waitMs - w.dead + 6) * w.fr) 10000))

/-- A depth as the fields of ALN_GRP_CTL. -/
def depthWord (ctl : Word) (n : Nat) : Word := if 64 ≤ n then setBit ctl 22 true else setFld (setBit ctl 22 false) 21 16 n

/-- A change of depth under R237; the reply gives t_eff and the depth. -/
def State.changeDepth (s : State) (g : Nat) (ctl : Word) : Res :=
  match s.changeGroup g { (s.grpWords g) with ctl := ctl } none with
  | .done st words s1 =>
    if st = St.OK then .done st (words.take 4 ++ [word (GrpWords.depth { (s.grpWords g) with ctl := ctl })]) s1 else .done st words s1
  | r => r

/-- SPL_GROUP (R235, R237). -/
def bodySplGroup (g : Fin 32) (p : DepthProfile) (s : State) : Res :=
  let w := s.grpWords g.val
  match p with
  | .off => s.changeDepth g.val (depthWord w.ctl 0)
  | .depth n => if 64 < n then refuse St.PARAM_RANGE s else s.changeDepth g.val (depthWord w.ctl n)
  | .auto => s.changeDepth g.val (depthWord w.ctl (autoDepth w))

def execSplGroup (h : Hdr) (g : Fin 32) (p : DepthProfile) (s : State) : Host.Outcome State Fault Refusal :=
  .next (runCmd 0x0701 h (bodySplGroup g p) s)

/-- Class words written and their change scheduled (R238, R244): the registers read back the pending values from now on. -/
def State.writeClass (s : State) (n : Nat) (v : ClassVals) : State :=
  ((((s.setReg (Reg.SPL_CLASS_CTL n) (v.ctl &&& 0xFFFFFF03#32)).setReg (Reg.SPL_CLASS_TOL_MAG n) v.tolMag).setReg
    (Reg.SPL_CLASS_TOL_ANG n) v.tolAng).setReg (Reg.SPL_CLASS_TOL_ABS n) v.tolAbs).setAln (fun a => { a with clsPend := some (s.up + ms 100) })

/-- Whether a change of classes is pending (R238). -/
def State.classPending (s : State) : Bool := s.aln.clsPend.isSome

/-- A named class profile: the kind, with the tolerances and the maximum age at their defaults. -/
def bodySplClass (n : Fin 16) (kind : Fin 4) (s : State) : Res :=
  if s.classPending then refuse 0x0710 s
  else ok [] (s.writeClass n.val { resetClass with ctl := setFld resetClass.ctl 1 0 kind.val })

/-- SPL_CLASS (R238). -/
def execSplClass (h : Hdr) (n : Fin 16) (kind : Fin 4) (s : State) : Host.Outcome State Fault Refusal :=
  .next (runCmd 0x0702 h (bodySplClass n kind) s)

def ledgerCode : LedgerState → Nat
  | .free => 0
  | .issued => 1
  | .checking => 2
  | .confirmed => 3
  | .rollback => 4
  | .flushed => 5

/-- SPL_LEDGER_READ (R226, R233, R234): every entry with its state, group, instant, epoch and count; on request the index list and the
number of contradicting channels. -/
def bodySplLedgerRead (lists contra : Bool) (s : State) : Res :=
  ok (s.aln.ledger.flatMap (fun p =>
    [word p.1, word (ledgerCode p.2.st), word p.2.group] ++ instantWords p.2.t ++ [p.2.epoch, word p.2.pred.length] ++
    (if contra then [word p.2.contra] else []) ++ (if lists then p.2.pred.map (fun x => word x.r.chan) else []))) s

def execSplLedgerRead (h : Hdr) (lists contra : Bool) (s : State) : Host.Outcome State Fault Refusal :=
  .next (runCmd 0x0703 h (bodySplLedgerRead lists contra) s)

/-- Whether a tolerance is negative or not a number (R243). -/
def badTol (w : Word) : Bool := F32.isNaN w || (bit w 31 && w != 0x80000000#32)

/-- SPL_CLASS_RAW (R238, R243, Table 7-13). -/
def bodySplClassRaw (a : ClassRawArgs) (s : State) : Res :=
  if badTol a.tolMag || badTol a.tolAng || badTol a.tolAbs || a.maxAge = 0 || decide (255 < a.maxAge) then refuse St.PARAM_RANGE s
  else if s.classPending then refuse 0x0710 s
  else ok [] (s.writeClass a.cls.val ⟨(a.magFloor &&& 0xFFFF0000#32) ||| put 15 8 a.maxAge ||| put 1 0 a.kind.val, a.tolMag, a.tolAng, a.tolAbs⟩)

def execSplClassRaw (h : Hdr) (a : ClassRawArgs) (s : State) : Host.Outcome State Fault Refusal :=
  .next (runCmd 0x0780 h (bodySplClassRaw a) s)

/-- SPL_GROUP_RAW (R237). -/
def bodySplGroupRaw (g : Fin 32) (depth : Fin 64) (max64 : Bool) (s : State) : Res :=
  s.changeDepth g.val (setFld (setBit (s.reg (Reg.ALN_GRP_CTL g.val)) 22 max64) 21 16 depth.val)

def execSplGroupRaw (h : Hdr) (g : Fin 32) (depth : Fin 64) (max64 : Bool) (s : State) : Host.Outcome State Fault Refusal :=
  .next (runCmd 0x0781 h (bodySplGroupRaw g depth max64) s)

/-! ### Direct writes of class words (R244) -/

/-- Whether an address is that of a class word. -/
def isClassWord (a : Nat) : Bool := decide (0x70100 ≤ a) && decide (a < 0x70200)

/-- One class word stored. -/
def State.storeClassWord (s : State) (a : Nat) (v : Word) : State :=
  s.setReg a (if a % 16 = 0 then v &&& 0xFFFFFF03#32 else v)

/-- Class words of one REG_WRITE form one pending change; while another is pending nothing is written, and the flag says so (R244). -/
def State.classWrite (s : State) (l : List (Nat × Word)) : Bool × State :=
  if s.classPending then (false, s)
  else (true, (l.foldl (fun s p => s.storeClassWord p.1 p.2) s).setAln (fun a => { a with clsPend := some (s.up + ms 100) }))

/-- SPL_CLASS_REG_WRITE (R238, R244): words of classes, each named by class and word. -/
def execSplClassRegWrite (at_ : Instant) (l : List (Fin 16 × Fin 4 × Word)) (s : State) : Host.Outcome State Fault Refusal :=
  .next (((s.advance at_).classWrite (l.map (fun p => (0x70100 + 16 * p.1.val + 4 * p.2.1.val, p.2.2)))).2)

end Sys2Proof.Machine
end

