-- ==== Sys2Proof/Machine/Registers.lean ====
section
/-! DEFINITION. Every register access (R7 to R9, R572): what a read returns and does, and what a write does, by the rules of the block that owns
the address. -/

namespace Sys2Proof.Machine

/-- A word with the bits of another cleared. -/
def clearBits (w m : Word) : Word := w &&& ~~~m

/-! ### Reads -/

/-- The fields of a register that are read from the rest of the state. -/
def State.liveFields (s : State) (a : Nat) : Word :=
  match blockOf a with
  | 1 => s.aonView a
  | 2 => s.timeView a
  | 3 => s.portView a
  | 4 => s.ingView a
  | 5 => s.pecView a
  | 6 => s.alnView a
  | 7 => s.splView a
  | 8 => s.oscView a
  | 9 => s.islView a
  | 10 => s.pubView a
  | 11 => s.capView a
  | 12 => s.evrView a
  | 13 => s.keyView a
  | 14 => s.cmdView a
  | 15 => s.mbxView a
  | 16 => s.casView a
  | 17 => s.memView a
  | 18 => s.pairView a
  | 19 => s.fltView a
  | _ => 0#32

/-- The word an address shows. An unmapped address reads as zero (R9), and so does a field that is only written (R7); a command register that PERST_N
holds in reset shows its reset value (R518). -/
def State.shown (s : State) (a : Nat) : Word :=
  match descAt a with
  | none => 0#32
  | some d => if blockOf a = 14 && s.aon.perstLow then resetWord a else clearBits (s.reg a ||| s.liveFields a) (word d.wo)

/-- Whether an address holds the latched high half of a 64-bit port counter. DESIGN CHOICE (assumption 110): a read leaves the latch, since R113
has the read of the _LO word clear the counter. -/
def isLatchedHigh (a : Nat) : Bool :=
  (upto 10).any (fun p => a == Reg.PORT_CNT p 1 || a == Reg.PORT_CNT p 21)

/-- A read of a register with no behaviour of its own: its RC fields clear (R7). -/
def State.plainRead (s : State) (a : Nat) : Word × State :=
  match descAt a with
  | none => (0#32, s)
  | some d => (s.shown a, if d.rc = 0 || isLatchedHigh a then s else s.setReg a (clearBits (s.reg a) (word d.rc)))

/-- A register read, with what the read does. -/
def State.readReg (s : State) (a : Nat) : Word × State :=
  if a = Reg.TB_NOW_FRAC then s.readNow
  else if a = Reg.TB_FINE_LO then s.readFine
  else if a = Reg.EVR_SEQ_LO then s.readSeqLo
  else if a = Reg.MEM_CH_STAT then (s.shown a, s.clearMaxWait)
  else if a = Reg.SPL_LEDGER_PEAK then (s.shown a, s.setReg a (word s.ledgerUsed))
  else match blockOf a with
    | 2 =>
      match (upto 10).find? (fun p => a == Reg.TB_TXTS_ID p), (upto 6).find? (fun n => a == Reg.TB_TDC_STAMP0 n) with
      | some p, _ => s.readTxts p
      | none, some n => s.readTdc n
      | none, none => s.plainRead a
    | 3 =>
      let p := (a - 0x30000) / 0x1000
      if a = Reg.PORT_CNT p 0 && decide (p < 10) then s.readCnt64 p false
      else if a = Reg.PORT_CNT p 20 && decide (p < 10) then s.readCnt64 p true
      else s.plainRead a
    | 15 =>
      match (upto 64).find? (fun n => a == Reg.MBX_CH_W n 15) with
      | some n => s.readW15 n
      | none => s.plainRead a
    | _ => s.plainRead a

/-! ### Writes -/

/-- Whether the island behind an address can take a write: a block in reset or without power cannot, nor the command registers while PERST_N holds
them in reset (R518). -/
def State.takesWrites (s : State) (a : Nat) : Bool :=
  match blockOf a with
  | 1 => s.aon.mode != .off
  | 14 => s.runs Isle.control && !s.aon.perstLow
  | 3 => s.runs ((a - 0x30000) / 0x1000)
  | b => match islandOf b with
    | some i => s.runs i
    | none => s.runs Isle.control

/-- AON_CTL and the wake words (chapters 03 and 18): a change of the profile acts as PWR_PROFILE does. -/
def State.writeAon (s : State) (a : Nat) (v : Word) : State :=
  if a = Reg.AON_CTL then
    let s1 := (s.plainWrite a v).settleCompanion (s.rb Reg.AON_CTL 1)
    if s1.rb a 2 = s.rb a 2 then s1 else s1.setProfile (s1.rb a 2)
  else s.plainWrite a v

/-- The time-base registers: the source in use follows its settings (R30, R31), and a compare unit arms or disarms (R71). -/
def State.writeTime (s : State) (a : Nat) (v : Word) : State :=
  if a = Reg.TB_SRC_CTL || a = Reg.TB_TOD_CTL then (s.plainWrite a v).reselect
  else if a = Reg.TB_UTC_CTL then (s.plainWrite a v).setTime (fun t => { t with utcWritten := true })
  else match (upto 8).find? (fun n => a == Reg.TB_CMP_CTL n) with
    | some n =>
      let s1 := s.plainWrite a v
      if s1.rb a 0 then s1.armCompare n else s1
    | none => s.plainWrite a v

/-- The registers of a port (R76, R84, R97, R109). -/
def State.writePort (s : State) (a : Nat) (v : Word) : State :=
  let p := (a - 0x30000) / 0x1000
  if a = Reg.PORT_CTL p then
    let w := match descAt a with
      | some d => writeMerge d (s.isLocked a) (s.reg a) v
      | none => s.reg a
    ((s.changeMode p (fld w 3 1) (fld w 9 8)).setReg a w).relink p 2
  else if a = Reg.PORT_MAC_CTL p then (s.plainWrite a (if p < 8 then setBit v 11 false else v)).checkPause p
  else if a = Reg.PORT_PAUSE_CTL p then (s.plainWrite a v).checkPause p
  else if a = Reg.PORT_RXR_TAIL p 0 then s.writeRxTail p 0 (fld v 11 0)
  else if a = Reg.PORT_RXR_TAIL p 1 then s.writeRxTail p 1 (fld v 11 0)
  else if a = Reg.PORT_TXR_TAIL p 0 then s.writeTxTail p 0 (fld v 11 0) []
  else if a = Reg.PORT_TXR_TAIL p 1 then s.writeTxTail p 1 (fld v 11 0) []
  else if a = Reg.PORT_OPT_CTL p then (s.plainWrite a v).rejudge p
  else s.plainWrite a v

/-- A table command written: 1 reads the indexed entry into the words, 2 writes it from them. -/
def State.tblCommand (s : State) (v : Word) (read write : State → State) : State :=
  match fld v 1 0 with
  | 1 => read s
  | 2 => write s
  | _ => s

def State.writeIng (s : State) (a : Nat) (v : Word) : State :=
  if a = Reg.ING_TBL_CMD then s.tblCommand v State.ingTblRead State.ingTblWrite else s.plainWrite a v

/-- The estimation registers: clearing PEC_CTL.en puts every slot in IDLE (Table 5-13). -/
def State.writePec (s : State) (a : Nat) (v : Word) : State :=
  if a = Reg.PEC_TBL_CMD then s.tblCommand v State.pecTblRead State.pecTblWrite
  else if a = Reg.PEC_CTL then (s.plainWrite a v).pecSettle
  else s.plainWrite a v

/-- The Accord registers: clearing ALN_CTL.en stops every group (Table 6-11), and a group's settings take a write only while it is STOPPED. -/
def State.writeAln (s : State) (a : Nat) (v : Word) : State :=
  if a = Reg.ALN_CHAN_CMD then s.tblCommand v State.alnChanRead State.alnChanWrite
  else if a = Reg.ALN_CTL then
    let s1 := s.plainWrite a v
    if s.rb a 0 && !s1.rb a 0 then (upto 32).foldl (fun (s : State) g => s.flushStop g) s1 else s1
  else if 0x61000 ≤ a && a < 0x61800 && (a - 0x61000) % 64 < 0x20 then s.grpRegWrite ((a - 0x61000) / 64) ((a - 0x61000) % 64 / 4) v
  else s.plainWrite a v

/-- The oscillation registers: clearing OSC_CTL.en stops every set (Table 8-9); the core range of a running set is not written (R251), nor a change
that R248 or R250 refuses. -/
def State.writeOsc (s : State) (a : Nat) (v : Word) : State :=
  if a = Reg.OSC_TBL_CMD then s.tblCommand v State.oscTblRead State.oscTblWrite
  else if a = Reg.OSC_CTL then
    let s1 := s.plainWrite a v
    if s1.rb a 0 then s1 else s1.stopSets
  else if 0x81000 ≤ a && (s.oscHeldReg ((a - 0x81000) / 0x80) (a % 0x80) || (s.plainWrite a v).changeErr ((a - 0x81000) / 0x80) [a % 0x80] != 0) then s
  else s.plainWrite a v

/-- Why a write to the oscillation registers through a command is refused (R248, R250, R251): a status, or 0. -/
def State.oscWriteErr (s : State) (a : Nat) (v : Word) : Nat :=
  if a < 0x81000 || 0x82000 ≤ a then 0
  else if s.oscHeldReg ((a - 0x81000) / 0x80) (a % 0x80) then St.STATE
  else (s.plainWrite a v).changeErr ((a - 0x81000) / 0x80) [a % 0x80]

/-- The island-detection registers: command 1 reads the active model, 2 writes the staged one and 3 reads it. -/
def State.writeIsl (s : State) (a : Nat) (v : Word) : State :=
  if a = Reg.ISL_TBL_CMD then
    match fld v 1 0 with
    | 1 => s.islTblRead s.isl.active
    | 2 => s.islTblWrite
    | 3 => s.islTblRead (some s.isl.staged)
    | _ => s
  else s.plainWrite a v

/-- The Atomizer registers: a stream's control word acts as PUB_STREAM_CTL does (R310), blocks start and stop with theirs, and lands follow their
selection. -/
def State.writePub (s : State) (a : Nat) (v : Word) : State :=
  if a = Reg.PUB_TBL_CMD then s.tblCommand v State.pubTblRead State.pubTblWrite
  else if a = Reg.PUB_CTL then
    let was := (upto 128).filter (fun k => s.blockRuns k)
    (upto 128).foldl (fun (s : State) k => s.settleBlock k (was.contains k)) (s.plainWrite a v)
  else match (upto 8).find? (fun n => a == Reg.PUB_AOUT_CTL n), (upto 64).find? (fun i => a == Reg.PUB_STRM_CTL i),
      (upto 128).find? (fun k => a == Reg.PUB_GOCB_CTL k) with
    | some n, _, _ => (s.plainWrite a v).driveLand n false
    | none, some i, _ =>
      (match s.writeStreamCtl i v with
       | .done st _ t => if st = St.OK then t else s
       | _ => s)
    | none, none, some k => (s.plainWrite a v).settleBlock k (s.blockRuns k)
    | none, none, none => s.plainWrite a v

def State.writeCap (s : State) (a : Nat) (v : Word) : State :=
  if a = Reg.CAP_CTL then s.writeCapCtl v
  else if 0xB1000 ≤ a && a < 0xB2000 then s.unitWrite a v
  else s.plainWrite a v

/-- The Sillage registers: a class's settings act as EVR_CLASS_PROFILE does (R366, R383). -/
def State.writeEvr (s : State) (a : Nat) (v : Word) : State :=
  match (upto 64).find? (fun c => a == Reg.EVR_CLASS_CTL c || a == Reg.EVR_CLASS_BASE c) with
  | some c =>
    if a = Reg.EVR_CLASS_CTL c then s.setClass c v (s.reg (Reg.EVR_CLASS_BASE c)) else s.setClass c (s.reg (Reg.EVR_CLASS_CTL c)) v
  | none => s.plainWrite a v

/-- The command registers (R410 to R412, R436 to R438). -/
def State.writeCmd (s : State) (a : Nat) (v : Word) : State :=
  if a = Reg.CMD_SQ_BASE_LO || a = Reg.CMD_SQ_BASE_HI || a = Reg.CMD_SQ_SIZE || a = Reg.CMD_RQ_BASE_LO || a = Reg.CMD_RQ_BASE_HI then
    if s.rb Reg.CMD_CTL 0 then s else s.plainWrite a v
  else if a = Reg.CMD_SQ_TAIL then s.writeTail (fld v 9 0)
  else if a = Reg.CMD_RQ_HEAD then s.freeReplies (fld v 7 0)
  else if a = Reg.CMD_HEARTBEAT then s.feedHeartbeat
  else if a = Reg.CMD_CTL then (s.plainWrite a v).settleHeartbeat
  else if a = Reg.CMD_INT_STAT then
    (s.plainWrite a v).setCmd (fun c => { c with
      coal := ((upto 4).zip c.coal).map (fun p => if bit v p.1 then Coalesce.mk 0 none else p.2) })
  else s.plainWrite a v

/-- The mailbox registers, written by the host's identity (R444, R451). -/
def State.writeMbx (s : State) (a : Nat) (v : Word) : State :=
  if 0xF0800 ≤ a && a < 0xF0900 then s.writeBind ((a - 0xF0800) / 4) v
  else if 0xF1000 ≤ a && a < 0xF3000 && a % 0x80 < 0x40 then s.writeMbox ((a - 0xF1000) / 0x80) (a % 0x80 / 4) hostIdent v
  else s.plainWrite a v

/-- PAIR_CTL: setting en forms the pair as PAIR_FORM does, clearing it leaves the module UNPAIRED (Table 17-1). PAIR_SWAP_CTL sets the swap interval as
PAIR_SWAP_SCHED does. -/
def State.writePair (s : State) (a : Nat) (v : Word) : State :=
  if a = Reg.PAIR_CTL then
    let s1 := s.plainWrite a v
    if s.rb a 0 && !s1.rb a 0 then s1.unpair
    else if !s.rb a 0 && s1.rb a 0 then s1.formPair (s1.rb a 2)
    else s1
  else if a = Reg.PAIR_SWAP_CTL then (s.plainWrite a v).setPair (fun p => { p with lastSwap := some (p.lastSwap.getD s.now) })
  else s.plainWrite a v

def State.writeFlt (s : State) (a : Nat) (v : Word) (session : Fin 4) : State :=
  match (upto 8).find? (fun i => a == Reg.FLT_INJ_CTL i) with
  | some i => s.writeInjCtl i v session
  | none => s.plainWrite a v

/-- Why a write that arms an injection slot through a command is refused (R532): a status, or 0. -/
def State.fltWriteErr (s : State) (a : Nat) (v : Word) : Nat :=
  match (upto 8).find? (fun i => a == Reg.FLT_INJ_CTL i) with
  | some i =>
    if !bit v 31 then 0
    else if !selOk (s.reg (Reg.FLT_INJ_SEL i)) (s.reg (Reg.FLT_INJ_PARAM i)) then 0x1311
    else if !(s.inj i).free then 0x1310 else 0
  | none => 0

/-- One class word of a direct write (R244). -/
def State.writeClassWord (s : State) (a : Nat) (v : Word) : State :=
  (s.storeClassWord a v).setAln (fun x => { x with clsPend := some (s.up + ms 100) })

/-- A register write, by the rules of its block. An address that is not mapped, or not a multiple of four, ignores it (R9). -/
def State.writeReg (s : State) (session : Fin 4) (a : Nat) (v : Word) : State :=
  if (descAt a).isNone || !s.takesWrites a then s
  else match blockOf a with
    | 1 => s.writeAon a v
    | 2 => s.writeTime a v
    | 3 => s.writePort a v
    | 4 => s.writeIng a v
    | 5 => s.writePec a v
    | 6 => s.writeAln a v
    | 7 => if isClassWord a then s.writeClassWord a v else s.plainWrite a v
    | 8 => s.writeOsc a v
    | 9 => s.writeIsl a v
    | 10 => s.writePub a v
    | 11 => s.writeCap a v
    | 12 => s.writeEvr a v
    | 14 => s.writeCmd a v
    | 15 => s.writeMbx a v
    | 18 => s.writePair a v
    | 19 => s.writeFlt a v session
    | _ => s.plainWrite a v

/-- Register writes in order, with the status of the first that is refused, or 0. -/
def State.writeRun (s : State) (session : Fin 4) (l : List (Word × Word)) : Nat × State :=
  l.foldl (fun (r : Nat × State) p =>
    (if r.1 ≠ 0 then r.1 else if r.2.oscWriteErr p.1.toNat p.2 ≠ 0 then r.2.oscWriteErr p.1.toNat p.2 else r.2.fltWriteErr p.1.toNat p.2, r.2.writeReg session p.1.toNat p.2)) (0, s)

/-- Whether an address is that of an FLT_INJ_* register (R531), not of a gap between them (R9). -/
def isInjReg (a : Nat) : Bool := decide (0x130100 ≤ a) && decide (a < 0x130200) && (descAt a).isSome

/-- A run of registers read, each in turn. -/
def State.readRun (s : State) (a n : Nat) : List Word × State :=
  (upto n).foldl (fun (p : List Word × State) i =>
    let r := p.2.readReg (a + 4 * i)
    (p.1 ++ [r.1], r.2)) ([], s)

end Sys2Proof.Machine
end

