-- ==== Sys2Proof/Machine/Global.lean ====
section
/-! DEFINITION. The commands of the global block (R439, R575), and the register accesses that software makes without a command (R7, R413). -/

namespace Sys2Proof.Machine

/-! ### IDENTITY and GLB_STATUS -/

/-- The code of the pair role: 0 alone, 1 active, 2 standby, 3 any other state of a pair (Table 14-11). -/
def State.pairRole (s : State) : Nat :=
  if s.pair.st = .unpaired then 0 else if s.pair.st.holds then 1 else if s.pair.st = .standby then 2 else 3

/-- IDENTITY: product, stepping and ordering code; firmware; uid; index, head flag, lifecycle and pair role; ring members. -/
def bodyIdentity (s : State) : Res :=
  ok ([put 31 16 0x0064 ||| put 15 8 0x02 ||| putBit 0 Config.orderedCA, s.reg Reg.CMD_FW] ++ wordsLE (padTo 16 Config.uid) ++
    [put 5 0 s.ownIndex ||| putBit 8 s.isHead ||| put 18 16 s.key.lc.code ||| put 25 24 s.pairRole,
     word s.cas.present.toNat, word (s.cas.present.toNat / 2 ^ 32)]) s

def execIdentity (h : Hdr) (s : State) : Host.Outcome State Fault Refusal := .next (runCmd 0x0000 h bodyIdentity s)

/-- GLB_STATUS: the state of every island, then the supervisor's. -/
def bodyGlbStatus (s : State) : Res :=
  ok ((upto 23).map (fun i => putBit 0 (s.runs i) ||| putBit 1 (s.aon.held.contains i) ||| putBit 2 (s.aon.pllHeld.contains i)) ++
    [putBit 0 s.refugeMode ||| put 5 4 s.aon.mode.code ||| putBit 8 s.aon.trans.isSome ||| putBit 9 (!s.aon.causes.isEmpty) |||
      putBit 10 (s.rb Reg.CMD_STAT 16)]) s

def execGlbStatus (h : Hdr) (s : State) : Host.Outcome State Fault Refusal := .next (runCmd 0x0001 h bodyGlbStatus s)

/-! ### GLB_ENABLE and GLB_LOCK -/

/-- The control register of a block: that at offset 0 of its window or port, and CMD_CTL of the command block (R572). -/
def ctlReg (b : Fin 20) (port : Fin 10) : Nat :=
  if b.val = 3 then Reg.PORT_CTL port.val else if b.val = 14 then Reg.CMD_CTL else b.val * 0x10000

/-- The enable fields of a block's control register, its en field among them. -/
def enableMask : Nat → Nat
  | 0x01 => 0x3
  | 0x02 => 0xF
  | 0x03 => 0x401
  | 0x04 => 0x1
  | 0x05 => 0x3
  | 0x06 => 0x1
  | 0x07 => 0x1
  | 0x08 => 0x3
  | 0x09 => 0x7
  | 0x0A => 0x7
  | 0x0B => 0x1
  | 0x0C => 0x1
  | 0x0D => 0x10000
  | 0x0E => 0x7
  | 0x10 => 0x6
  | 0x12 => 0x1
  | 0x13 => 0x3
  | _ => 0

/-- One enable item's new control word. -/
def State.enabledWord (s : State) (x : EnableItem) : Word :=
  let a := ctlReg x.block x.port
  if x.on then s.reg a ||| x.fields else clearBits (s.reg a) x.fields

/-- GLB_ENABLE: the enables named are set or cleared, in order. A field that the block has not is refused, and so is a change behind a lock
(R579). -/
def bodyGlbEnable (l : List EnableItem) (session : Fin 4) (s : State) : Res :=
  if l.any (fun x => x.fields = 0#32 || clearBits x.fields (word (enableMask x.block.val)) != 0#32) then refuse St.BAD_PARAM s
  else if l.any (fun x => !s.takesWrites (ctlReg x.block x.port)) then refuse St.STATE s
  else if l.any (fun x => s.lockRefuses (ctlReg x.block x.port) (s.enabledWord x)) then refuse St.STATE s
  else ok [] (l.foldl (fun (s : State) x => s.writeReg session (ctlReg x.block x.port) (s.enabledWord x)) s)

def execGlbEnable (h : Hdr) (l : List EnableItem) (s : State) : Host.Outcome State Fault Refusal :=
  .next (runCmd 0x0002 h (bodyGlbEnable l h.session) s)

/-- Whether a control register has a lock field. -/
def hasLock (a : Nat) : Bool :=
  match descAt a with
  | some d => bit (word d.rwl) 31
  | none => false

/-- A block locked (R7). -/
def State.lockBlock (s : State) (b : Fin 20) (port : Fin 10) : State :=
  if hasLock (ctlReg b port) && s.takesWrites (ctlReg b port) then s.setRb (ctlReg b port) 31 true else s

/-- GLB_LOCK: the blocks named are locked; STATE where the island of one does not run. -/
def bodyGlbLock (l : List (Fin 20 × Fin 10)) (s : State) : Res :=
  if l.any (fun x => !hasLock (ctlReg x.1 x.2)) then refuse St.BAD_PARAM s
  else if l.any (fun x => !s.takesWrites (ctlReg x.1 x.2)) then refuse St.STATE s
  else ok [] (l.foldl (fun (s : State) x => s.lockBlock x.1 x.2) s)

def execGlbLock (h : Hdr) (l : List (Fin 20 × Fin 10)) (s : State) : Host.Outcome State Fault Refusal :=
  .next (runCmd 0x0003 h (bodyGlbLock l) s)

/-! ### REG_READ and REG_WRITE -/

/-- REG_READ: up to 1,016 consecutive words. -/
def bodyRegRead (addr : Word) (n : Nat) (s : State) : Res :=
  if n = 0 || maxResult < n then refuse St.PARAM_RANGE s
  else
    let r := s.readRun addr.toNat n
    ok r.1 r.2

def execRegRead (h : Hdr) (addr : Word) (n : Nat) (s : State) : Host.Outcome State Fault Refusal :=
  .next (runCmd 0x0080 h (bodyRegRead addr n) s)

/-- Whether an address lies in a window that a pair mirrors (R483). -/
def inMirrored (a : Word) : Bool := mirroredBlock (blockOf a.toNat)

/-- REG_WRITE (R439, R575): up to 503 pairs in order. None is written where one names an FLT_INJ_* address while injection is not allowed (R531),
where pairs of a pair of modules mix mirrored and unmirrored windows, where class words meet a change of classes that is pending (R244), or where the
oscillation engine (R248, R251) or the arming of a slot (R532) refuses one. -/
def bodyRegWrite (l : List (Word × Word)) (session : Fin 4) (s : State) : Res :=
  if 503 < l.length then refuse St.BAD_PARAM s
  else if l.any (fun p => isInjReg p.1.toNat) && !s.injAllowed then refuse St.INJECT_DENIED s.denyInjection
  else if s.pair.st != .unpaired && l.any (fun p => inMirrored p.1) && l.any (fun p => !inMirrored p.1) then refuse St.BAD_PARAM s
  else if l.any (fun p => isClassWord p.1.toNat) && s.classPending then refuse 0x0710 s
  else if (s.writeRun session l).1 ≠ 0 then refuse (s.writeRun session l).1 s
  else ok [] (s.writeRun session l).2

def execRegWrite (h : Hdr) (l : List (Word × Word)) (s : State) : Host.Outcome State Fault Refusal :=
  .next (runCmdAs (!l.isEmpty && l.all (fun p => inMirrored p.1)) 0x0081 h (bodyRegWrite l h.session) s)

/-! ### Accesses without a command (R7, R413) -/

/-- Whether the command registers can be reached through BAR0: on the head, whose PCIe endpoint alone is active, while the control island runs and
PERST_N is not asserted (R17, R413, R440, R518). -/
def State.barOpen (s : State) : Bool := s.isHead && s.runs Isle.control && !s.aon.perstLow

/-- BLOCK_LOCK_SET: 1 written to the lock bit of a block. -/
def execBlockLockSet (at_ : Instant) (b : Fin 20) (port : Fin 10) (s : State) : Host.Outcome State Fault Refusal :=
  .next ((s.advance at_).lockBlock b port)

/-- REG_WRITE_PLAIN: a write to a register without a command, by the rules of its block. -/
def execRegWritePlain (at_ : Instant) (addr v : Word) (s0 : State) : Host.Outcome State Fault Refusal :=
  let s := s0.advance at_
  .next (if isInjReg addr.toNat && !s.injAllowed then s.denyInjection
    else s.writeReg 0 addr.toNat v)

/-- RC_COUNTER_READ: a read of a register, its counters cleared as they are read; the value is what software gets. -/
def execRcCounterRead (at_ : Instant) (addr : Word) (s0 : State) : Host.Outcome State Fault Refusal :=
  let r := (s0.advance at_).readReg addr.toNat
  .next { r.2 with rdata := [r.1] }

/-- SQ_DOORBELL (R411). -/
def execSqDoorbell (at_ : Instant) (tail : Nat) (s0 : State) : Host.Outcome State Fault Refusal :=
  let s := s0.advance at_
  .next (if s.barOpen then s.writeTail tail else s)

/-- RQ_HEAD_FREE (R412). -/
def execRqHeadFree (at_ : Instant) (head : BitVec 8) (s0 : State) : Host.Outcome State Fault Refusal :=
  let s := s0.advance at_
  .next (if s.barOpen then s.freeReplies head.toNat else s)

/-- HEARTBEAT_FEED (R438). -/
def execHeartbeatFeed (at_ : Instant) (s0 : State) : Host.Outcome State Fault Refusal :=
  let s := s0.advance at_
  .next (if s.barOpen then s.feedHeartbeat else s)

/-- FETCH_ENABLE (R412). -/
def execFetchEnable (at_ : Instant) (s0 : State) : Host.Outcome State Fault Refusal :=
  let s := s0.advance at_
  .next (if s.barOpen then s.enableFetch true else s)

/-- FETCH_DISABLE: fetching stops after the command in progress. -/
def execFetchDisable (at_ : Instant) (s0 : State) : Host.Outcome State Fault Refusal :=
  let s := s0.advance at_
  .next (if s.barOpen then s.enableFetch false else s)

end Sys2Proof.Machine
end

