-- ==== Sys2Proof/Machine/Mailbox.lean ====
section
/-! DEFINITION. The mailboxes (chapter 15): the meanings of their commands, register accesses and events. -/

namespace Sys2Proof.Machine

/-! ### Register accesses and events -/

/-- MBX_WORD_WRITE (R444): a word of a channel written by an agent. -/
def execMbxWordWrite (at_ : Instant) (ident : MasterId) (n : Fin 64) (j : Fin 16) (v : Word) (s : State) : Host.Outcome State Fault Refusal :=
  .next ((s.advance at_).writeMbox n.val j.val ident v)

/-- MBX_W15_READ (R445). -/
def execMbxW15Read (at_ : Instant) (n : Fin 64) (s : State) : Host.Outcome State Fault Refusal :=
  let r := (s.advance at_).readW15 n.val
  .next { r.2 with rdata := [r.1] }

/-- MBX_BIND_WRITE (R451). -/
def execMbxBindWrite (at_ : Instant) (n : Fin 64) (w : Word) (s : State) : Host.Outcome State Fault Refusal :=
  .next ((s.advance at_).writeBind n.val w)

/-- MBX_CLAIM_LAPSE (R444): a claim without a write for 100 µs is dropped with its staged words. -/
def execMbxClaimLapse (n : Fin 64) (s : State) : Host.Outcome State Fault Refusal :=
  match (s.mchan n.val).claim with
  | some c =>
    .next ((((s.advanceUp c.due).updMchan n.val (fun x => { x with claim := none })).count (Reg.MBX_CNT 2) 1).settleChan n.val)
  | none => .next s

/-- MBX_RING_MESSAGE_ARRIVE (R444): a message that crossed the ring, with its sender's identity and generation. -/
def execMbxRingMessageArrive (at_ : Instant) (n : Fin 64) (sender : MasterId) (gen : BitVec 4) (words : Vector Word 16) (s : State) :
    Host.Outcome State Fault Refusal :=
  .next ((s.advance at_).arriveMbox n.val sender gen words.toList)

/-! ### Commands (Table 15-2) -/

/-- MBX_STATUS: every channel's status word, the counters and the generation of the identity named. -/
def bodyMbxStatus (ident : MasterId) (s : State) : Res :=
  ok ((upto 64).map (fun n => s.mbxView (Reg.MBX_CH_STAT n)) ++ (upto 4).map (fun i => s.reg (Reg.MBX_CNT i)) ++ [word (s.genOf ident).toNat]) s

def execMbxStatus (h : Hdr) (ident : MasterId) (s : State) : Host.Outcome State Fault Refusal :=
  .next (runCmd 0x0F00 h (bodyMbxStatus ident) s)

/-- MBX_SEND (R448, R451): 16 words by the host's identity. A channel that is full, or that another identity claims, waits or fails. -/
def bodyMbxSend (h : Hdr) (n : Fin 64) (words : Vector Word 16) (wait : Bool) (s : State) : Res :=
  if !s.mayWrite n.val hostIdent then .done 0x0F13 [] (s.bindDrop n.val hostIdent)
  else if (s.mchan n.val).full || s.claimedByOther n.val hostIdent then
    (if wait then .waiting (s.setMbx (fun m => { m with waiters := m.waiters ++ [⟨n.val, some (words.toList, hostIdent), h.session, h.seq⟩] }))
     else refuse 0x0F10 s)
  else ok [] ((s.fillChan n.val hostIdent (s.genOf hostIdent) (byPosition words.toList)).settleChan n.val)

def execMbxSend (h : Hdr) (n : Fin 64) (words : Vector Word 16) (wait : Bool) (s : State) : Host.Outcome State Fault Refusal :=
  .next (runCmd 0x0F01 h (bodyMbxSend h n words wait) s)

/-- MBX_RECV (Table 15-2): the message with its stamps, and the channel emptied; on an empty channel it fails, or waits. -/
def bodyMbxRecv (h : Hdr) (n : Fin 64) (wait : Bool) (s : State) : Res :=
  if (s.mchan n.val).full then ok (s.mboxReply n.val) ((s.emptyMbox n.val).settleChan n.val)
  else if wait then .waiting (s.setMbx (fun m => { m with waiters := m.waiters ++ [⟨n.val, none, h.session, h.seq⟩] }))
  else refuse 0x0F11 s

def execMbxRecv (h : Hdr) (n : Fin 64) (wait : Bool) (s : State) : Host.Outcome State Fault Refusal :=
  .next (runCmd 0x0F02 h (bodyMbxRecv h n wait) s)

/-- MBX_PEEK. -/
def bodyMbxPeek (n : Fin 64) (s : State) : Res :=
  if (s.mchan n.val).full then ok (s.mboxReply n.val) s else refuse 0x0F11 s

def execMbxPeek (h : Hdr) (n : Fin 64) (s : State) : Host.Outcome State Fault Refusal := .next (runCmd 0x0F03 h (bodyMbxPeek n) s)

/-- MBX_BIND (R451). -/
def bodyMbxBind (n : Fin 64) (en : Bool) (a b : MasterId) (s : State) : Res :=
  if s.rb (Reg.MBX_BIND n.val) 31 then refuse 0x0F12 s
  else ok [] (s.writeBind n.val (putBit 31 en ||| put 23 12 b.toNat ||| put 11 0 a.toNat))

def execMbxBind (h : Hdr) (n : Fin 64) (en : Bool) (a b : MasterId) (s : State) : Host.Outcome State Fault Refusal :=
  .next (runCmd 0x0F04 h (bodyMbxBind n en a b) s)

/-- MBX_CLEAR (R446): the channel emptied and any claim ended. -/
def bodyMbxClear (n : Fin 64) (s : State) : Res :=
  ok [] ((s.updMchan n.val (fun c => { c with full := false, claim := none })).settleChan n.val)

def execMbxClear (h : Hdr) (n : Fin 64) (s : State) : Host.Outcome State Fault Refusal := .next (runCmd 0x0F80 h (bodyMbxClear n) s)

end Sys2Proof.Machine
end

