-- ==== Sys2Proof/Machine/Ptp.lean ====
section
/-! DEFINITION. The PTP engine (chapter 02, R33 to R37): best master choice, port states, and the messages it answers and
sends. Where R33 leaves the engine to IEEE 1588-2019, the order of the data-set comparison and the delay arithmetic are that
standard's. -/

namespace Sys2Proof.Machine

/-- Whether holdover lies within the specification of Table 2-9: 10 s on the internal oscillator, 4 h with the companion. -/
def State.holdoverWithin (s : State) : Bool :=
  decide (s.up - s.time.holdSince ≤ (if s.aon.comp.inUse then sec 14400 else sec 10))

/-- The clockClass of the module's own clock (Table 2-3). -/
def State.clockClass (s : State) : Nat :=
  match s.time.servo with
  | .locked => 6
  | .holdover => if s.holdoverWithin then 7 else 187
  | .discont => 187
  | _ => 248

/-- The module's own clock as an Announce data set. -/
def State.ownClock (s : State) : Announce :=
  let c := s.time.clockDS
  let d := s.time.timesDS
  { gmIdentity := c.identity, gmClass := s.clockClass, gmAccuracy := c.accuracy, gmVariance := c.variance,
    priority1 := c.priority1, priority2 := c.priority2, stepsRemoved := 0, sender := c.identity,
    utcOffset := BitVec.ofNat 8 (s.rf Reg.TB_UTC_CTL 7 0), utcValid := s.time.utcWritten,
    leap := (s.time.leap.map (·.1)).getD 0, timeTrace := d.timeTrace, freqTrace := d.freqTrace, timeSource := d.timeSource, tlv := none }

/-- The order of the data-set comparison: priority1, class, accuracy, variance, priority2, identity, steps removed. -/
def Announce.rank (a : Announce) : List Nat :=
  [a.priority1, a.gmClass, a.gmAccuracy, a.gmVariance, a.priority2, a.gmIdentity, a.stepsRemoved, a.sender]

/-- Whether one rank comes strictly before another. -/
def rankBefore : List Nat → List Nat → Bool
  | a :: as, b :: bs => decide (a < b) || (decide (a = b) && rankBefore as bs)
  | _, _ => false

def Announce.better (a b : Announce) : Bool := rankBefore a.rank b.rank

/-- The best foreign master over every port, with its port. -/
def State.bestMaster (s : State) : Option (Nat × Announce) :=
  (upto 10).foldl (fun acc p => match (s.ptpPort p).best, acc with
    | some a, some (q, b) => if a.better b then some (p, a) else some (q, b)
    | some a, none => some (p, a)
    | none, acc => acc) none

/-- The state the best master choice gives a port that the profile uses (R36): at most one SLAVE. -/
def State.decidePort (s : State) (p : Nat) : PtpPortState :=
  let own := s.ownClock
  match s.time.role, s.bestMaster with
  | .grandmaster, some (q, b) => if q = p && b.better own then .passive else .master
  | .grandmaster, none => .master
  | .ordinary, some (q, _) => if q = p then .slave else .listening
  | .ordinary, none => .listening
  | .boundary, some (q, b) =>
    if q = p then .slave
    else match (s.ptpPort p).best with
      | some a => if a.better { b with stepsRemoved := b.stepsRemoved + 1, sender := own.gmIdentity } then .passive else .master
      | none => .master
  | .boundary, none => .master

/-- Whether one half of a two-step exchange of a port has come and the other has not. -/
def PtpPort.midExchange (x : PtpPort) : Bool := x.pendSync.isSome || x.pdelayRx.isSome

/-- Port states decided anew: at Announce receipt or a timeout only, and not while a port whose state would change is between the two halves of a
two-step exchange; the next Announce or timeout decides then (R36). -/
def State.decidePtp (s : State) : State :=
  let used := (upto 10).filter (fun p => (s.ptpPort p).st != .disabled)
  if used.any (fun p => (s.ptpPort p).midExchange && s.decidePort p != (s.ptpPort p).st) then s
  else used.foldl (fun t p => t.updPtp p (fun x => { x with st := s.decidePort p })) s

/-- Whether the profile measures delay peer to peer (Table 2-2). -/
def State.peerDelay (s : State) : Bool := s.time.profile != .default1588

/-- Whether event messages on a port go two-step: as the profile asks, and always where MACsec is enabled (R35). -/
def State.ptpTwoStep (s : State) (p : Nat) : Bool :=
  s.time.twoStep || (decide (p < 8) && s.rb (Reg.PORT_MSEC_CTL p) 0)

/-- The bytes of a PTP message in a frame, from destination address to FCS: 28 more over UDP and IPv4. -/
def ptpLen (udp : Bool) (b : PtpBody) : Nat :=
  let body := match b with
    | .announce a => if a.tlv.isSome then 86 else 64
    | .sync _ _ => 44
    | .followUp _ => 44
    | .delayReq => 44
    | _ => 54
  max 64 (body + 18 + (if udp then 28 else 0))

/-- A PTP message sent in class 0 of a port (Table 3-3), over the transport of the profile; never duplicated under PRP (R95). -/
def State.sendPtp (s : State) (p : Nat) (seq : BitVec 16) (b : PtpBody) : State :=
  s.offer p ⟨0, ptpLen s.time.udp b, none, none, none, .ptp ⟨s.time.udp, s.time.domain, seq, b⟩⟩

/-- The module's own time error in ns as a total time inaccuracy: all ones where it is unbounded. -/
def State.inaccuracyNs (s : State) : Nat := match s.timeError with
  | some e => min 0xFFFFFFFF (e / 65536).ceil.toNat
  | none => 0xFFFFFFFF

/-- The Announce data set a port sends: a grandmaster's own; a boundary clock's parent's with its own class in every state but
LOCKED (R37). Under C37.238 it carries the TLV with the grandmaster's identity and the total time inaccuracy, which a boundary clock adds its own
to (Table 2-2). -/
def State.announced (s : State) : Announce :=
  let base : Announce := match s.time.role, s.bestMaster with
    | .boundary, some (_, a) =>
      { a with
        gmClass := if s.time.servo = .locked then a.gmClass else s.clockClass
        stepsRemoved := a.stepsRemoved + 1
        sender := s.time.clockDS.identity }
    | _, _ => s.ownClock
  let up := match base.tlv with
    | some t => t.inaccuracyNs
    | none => 0
  { base with tlv := if s.time.profile = .c37_238 then some ⟨base.gmIdentity, min 0xFFFFFFFF (up + s.inaccuracyNs)⟩ else none }

/-- Whether an Announce message passes the check of its TLV: under C37.238 it is present and names the same grandmaster (Table 2-2). -/
def State.tlvPasses (s : State) (a : Announce) : Bool :=
  s.time.profile != .c37_238 || (match a.tlv with
    | some t => t.gmIdentity == a.gmIdentity
    | none => false)

/-- An Announce message that qualifies is kept where it is the sender's next or a better one, its timeout starts anew, and the port states are
decided; from the master of the current source come the TAI − UTC offset and the leap second (R29). -/
def State.takeAnnounce (s : State) (p : Nat) (a : Announce) : State :=
  let s1 := (s.updPtp p (fun x => { x with
    best := match x.best with
      | some b => if b.sender = a.sender || a.better b then some a else some b
      | none => some a
    announceBy := some (s.up + ms (max 1 (x.ds.announceMs * x.ds.receipt))) })).decidePtp
  if s1.time.current = p && (s1.ptpPort p).st == .slave && (s1.ptpPort p).best == some a && a.utcValid then
    (s1.takeUtc a.utcOffset).takeLeap (secsOf s1.now) (signed 8 a.utcOffset.toNat) a.leap
  else s1

/-- What the engine does with a message received on a port at an instant (R33, R36). -/
def State.ptpHandle (s : State) (p : Nat) (m : PtpMsg) (ts : Instant) : State :=
  let x := s.ptpPort p
  if m.domain ≠ s.time.domain || x.st = .disabled || !s.rb Reg.TB_CTL 1 then s
  else
    match m.body with
    | .announce a => if s.tlvPasses a then s.takeAnnounce p a else s
    | .sync origin two =>
      if x.st ≠ .slave then s
      else if two then s.updPtp p (fun x => { x with pendSync := some (m.seq, ts) })
      else s.updPtp p (fun x => { x with lastSync := some (origin, ts), syncNew := true, pendSync := none })
    | .followUp origin =>
      match x.pendSync with
      | some (q, rx) => if q = m.seq then s.updPtp p (fun x => { x with lastSync := some (origin, rx), syncNew := true, pendSync := none }) else s
      | none => s
    | .delayReq => if x.st = .master && !s.peerDelay then s.sendPtp p m.seq (.delayResp ts) else s
    | .delayResp rx =>
      match x.delayTx, x.lastSync with
      | some (q, t3), some (t1, t2) =>
        if q = m.seq then s.updPtp p (fun x => { x with pathDelay := ((t2 + rx) - (t1 + t3)) / 2, delayTx := none }) else s
      | _, _ => s
    | .pdelayReq => if s.peerDelay then s.sendPtp p m.seq (.pdelayResp ts 0 (s.ptpTwoStep p)) else s
    | .pdelayResp rx turnaround two =>
      match x.pdelayTx with
      | some (q, t1) =>
        if q = m.seq then
          if two then s.updPtp p (fun x => { x with pdelayRx := some (m.seq, rx, ts) })
          else s.updPtp p (fun x => { x with pathDelay := (ts - t1 - turnaround) / 2, pdelayTx := none })
        else s
      | none => s
    | .pdelayRespFollowUp tx =>
      match x.pdelayTx, x.pdelayRx with
      | some (q, t1), some (q2, rx, t4) =>
        if q = m.seq && q2 = m.seq then
          s.updPtp p (fun x => { x with pathDelay := ((t4 + rx) - (t1 + tx)) / 2, pdelayTx := none, pdelayRx := none })
        else s
      | _, _ => s
    | .management => s

/-- PTP_MESSAGE_RECEIVE (R36): the engine takes the oldest message the classifier gave it. -/
def execPtpMessageReceive (at_ : Instant) (s : State) : Host.Outcome State Fault Refusal :=
  let s1 := s.advance at_
  match s1.ports.ptpIn with
  | (p, m, ts) :: rest =>
    let s2 := { s1 with ports := { s1.ports with ptpIn := rest } }
    .next (if s2.runs Isle.fixative then s2.ptpHandle p m ts else s2)
  | [] => .next s1

/-- ANNOUNCE_RECEIPT_TIMEOUT (R30, R36): a port's Announce receipt timeout, which ends an exchange left half open; the third without valid time
unqualifies its source. -/
def execAnnounceReceiptTimeout (p : Fin 10) (s : State) : Host.Outcome State Fault Refusal :=
  match (s.ptpPort p.val).announceBy with
  | some u =>
    let s1 := s.advanceUp u
    let s2 := (s1.updPtp p.val (fun x => { x with
      best := none, pendSync := none, pdelayRx := none, missed := x.missed + 1, announceBy := some (s1.up + ms (max 1 (x.ds.announceMs * x.ds.receipt))) })).decidePtp
    .next (if 3 ≤ (s2.ptpPort p.val).missed && (s2.srcQual p.val).qualified then s2.unqualify p.val else s2)
  | none => .next s

/-- A message sent under a port's next sequence number. -/
def State.sendNext (s : State) (p : Nat) (b : PtpBody) : State :=
  (s.sendPtp p (s.ptpPort p).txSeq b).updPtp p (fun x => { x with txSeq := x.txSeq + 1#16 })

/-- What a port sends at its intervals (R33, R37): a master its Announce and its Sync, a peer-delay port its Pdelay_Req, and a slave of the
default profile its Delay_Req. -/
def State.ptpSend (s : State) (p : Nat) (ann sync delay : Bool) : State :=
  let st := (s.ptpPort p).st
  let s1 := if ann && st == .master then s.sendNext p (.announce s.announced) else s
  let s2 := if sync && st == .master then s1.sendNext p (.sync s1.now (s1.ptpTwoStep p)) else s1
  if !delay then s2
  else if s2.peerDelay then s2.sendNext p .pdelayReq
  else if st == .slave then s2.sendNext p .delayReq
  else s2

/-- The earlier of two times, where there is one. -/
def sooner : Option Nat → Option Nat → Option Nat
  | some a, some b => some (min a b)
  | some a, none => some a
  | none, b => b

/-- PTP_MESSAGE_INTERVAL (R37): the engine sends what a port sends at the interval that ends first, and at any other that ends with it, while the
engine is enabled. -/
def execPtpMessageInterval (p : Fin 10) (s : State) : Host.Outcome State Fault Refusal :=
  let x := s.ptpPort p.val
  match sooner x.annDue (sooner x.syncDue x.delayDue) with
  | some u =>
    let s1 := s.advanceUp u
    let due (d : Option Nat) : Bool := d.any (fun v => decide (v ≤ s1.up))
    let next (d : Option Nat) (msec : Nat) : Option Nat := if due d then some (s1.up + ms (max 1 msec)) else d
    let s2 := s1.updPtp p.val (fun y => { y with
      annDue := next y.annDue y.ds.announceMs, syncDue := next y.syncDue y.ds.syncMs, delayDue := next y.delayDue y.ds.delayMs })
    if !s2.rb Reg.TB_CTL 1 || x.st == .disabled || !s2.runs Isle.fixative then .next s2
    else .next (s2.ptpSend p.val (due x.annDue) (due x.syncDue) (due x.delayDue))
  | none => .next s

end Sys2Proof.Machine
end

