-- ==== Sys2Proof/Machine/Sessions.lean ====
section
/-! DEFINITION. The commands of the command block (R422, R433 to R437, R439), and what happens to commands from their fetch to their reply
(R426 to R432, R438, R484). -/

namespace Sys2Proof.Machine

/-! ### Sessions (R422) -/

/-- CMD_SESSION_OPEN: the session opens, or reopens, with the command's own seq as the start of its window; the reply lists the locks it held. -/
def bodyCmdSessionOpen (h : Hdr) (expert : Bool) (s : State) : Res :=
  ok ((s.locksOf h.session).map word) ((s.dropLocks h.session).updSession h.session (fun _ =>
    ⟨true, expert, h.seq, [⟨h.seq, h.noReply, none⟩], []⟩))

def execCmdSessionOpen (h : Hdr) (expert : Bool) (s : State) : Host.Outcome State Fault Refusal :=
  .next (runCmd 0x0E00 h (bodyCmdSessionOpen h expert) s)

/-- CMD_SESSION_CLOSE: the session closes and its locks break. -/
def bodyCmdSessionClose (session : Fin 4) (s : State) : Res := ok [] ((s.dropLocks session).updSession session (fun _ => closedSession))

def execCmdSessionClose (h : Hdr) (s : State) : Host.Outcome State Fault Refusal :=
  .next (runCmd 0x0E01 h (bodyCmdSessionClose h.session) s)

/-! ### The lock service (R433, R434) -/

/-- LOCK_ACQUIRE: in increasing order, at once or by waiting in the lock's queue. -/
def bodyLockAcquire (h : Hdr) (n : Fin 32) (leaseMs : Nat) (wait : Bool) (s : State) : Res :=
  if !leaseOk leaseMs then refuse St.PARAM_RANGE s
  else if (s.locksOf h.session).any (fun m => decide (n.val ≤ m)) then refuse St.LOCK_ORDER s
  else if (s.lock n.val).owner.isSome then
    (if wait then .waiting (s.updLock n.val (fun l => { l with queue := l.queue ++ [⟨h.session, h.seq, leaseMs⟩] })) else refuse St.LOCK_HELD s)
  else
    let r := s.grant n.val h.session leaseMs
    .done r.1 [] r.2

def execLockAcquire (h : Hdr) (n : Fin 32) (leaseMs : Nat) (wait : Bool) (s : State) : Host.Outcome State Fault Refusal :=
  .next (runCmd 0x0E02 h (bodyLockAcquire h n leaseMs wait) s)

/-- LOCK_RENEW: a held lease starts again with a new length. -/
def bodyLockRenew (session : Fin 4) (n : Fin 32) (leaseMs : Nat) (s : State) : Res :=
  if !leaseOk leaseMs then refuse St.PARAM_RANGE s
  else if (s.lock n.val).owner != some session then refuse St.STATE s
  else ok [] (s.updLock n.val (fun l => { l with due := s.up + ms leaseMs }))

def execLockRenew (h : Hdr) (n : Fin 32) (leaseMs : Nat) (s : State) : Host.Outcome State Fault Refusal :=
  .next (runCmd 0x0E03 h (bodyLockRenew h.session n leaseMs) s)

/-- LOCK_RELEASE: a held lock goes free, and to its first waiter. -/
def bodyLockRelease (session : Fin 4) (n : Fin 32) (s : State) : Res :=
  if (s.lock n.val).owner != some session then refuse St.STATE s
  else ok [] ((s.updLock n.val (fun l => { l with owner := none, broken := false })).passLock n.val)

def execLockRelease (h : Hdr) (n : Fin 32) (s : State) : Host.Outcome State Fault Refusal :=
  .next (runCmd 0x0E04 h (bodyLockRelease h.session n) s)

/-- The status word of a lock: held, owner, waiters, and the lease left in ms. -/
def State.lockWord (s : State) (n : Nat) : Word :=
  let l := s.lock n
  match l.owner with
  | some o => putBit 31 true ||| put 29 28 o.val ||| put 27 20 l.queue.length ||| put 16 0 ((l.due - s.up) / ms 1)
  | none => put 27 20 l.queue.length

/-- LOCK_STATUS: owner, remaining lease and waiters of each lock. -/
def bodyLockStatus (s : State) : Res := ok ((upto 32).map s.lockWord) s

def execLockStatus (h : Hdr) (s : State) : Host.Outcome State Fault Refusal := .next (runCmd 0x0E05 h bodyLockStatus s)

/-- CMD_ECHO returns its payload. -/
def bodyCmdEcho (payload : List Word) (s : State) : Res := ok payload s

def execCmdEcho (h : Hdr) (payload : List Word) (s : State) : Host.Outcome State Fault Refusal :=
  .next (runCmd 0x0E06 h (bodyCmdEcho payload) s)

/-- Whether an optional value lies in a range. -/
def someIn (lo hi : Nat) : Option Nat → Bool
  | some v => decide (lo ≤ v) && decide (v ≤ hi)
  | none => true

/-- CMD_TUNE (R428, R437). -/
def bodyCmdTune (a : CmdTuneArgs) (s : State) : Res :=
  if !someIn 1 600000 a.defTimeoutMs || !someIn 1 255 a.coalCnt || !someIn 0 1000 a.coalUs then refuse St.PARAM_RANGE s
  else
    let s1 := match a.defTimeoutMs with
      | some v => s.setCmd (fun c => { c with defTimeout := v })
      | none => s
    let s2 := match a.coalCnt with
      | some v => s1.setRf Reg.CMD_INT_COAL 7 0 v
      | none => s1
    ok [] (match a.coalUs with
      | some v => s2.setRf Reg.CMD_INT_COAL 25 16 v
      | none => s2)

def execCmdTune (h : Hdr) (a : CmdTuneArgs) (s : State) : Host.Outcome State Fault Refusal :=
  .next (runCmd 0x0E80 h (bodyCmdTune a) s)

/-! ### From fetch to reply -/

/-- COMMAND_FETCH (R411, R426): the command at the submission head, given by its opcode and header, is copied where there is room, and checked. -/
def execCommandFetch (op : BitVec 16) (h : Hdr) (s : State) : Host.Outcome State Fault Refusal :=
  .next ((s.advance h.at_).fetchCmd op.toNat { h with via := .host })

/-- ROUTED_COMMAND_RECEIVE (R430): a member takes a command that the head routed to it. -/
def execRoutedCommandReceive (op : BitVec 16) (h : Hdr) (s0 : State) : Host.Outcome State Fault Refusal :=
  let s := s0.advance h.at_
  .next (if s.runs Isle.control && s.inRing then s.fetchCmd op.toNat { h with via := .ring } else s)

/-- MIRRORED_COMMAND_RECEIVE (R484): the standby takes a command of the active. -/
def execMirroredCommandReceive (at_ : Instant) (op : BitVec 16) (h : Hdr) (s0 : State) : Host.Outcome State Fault Refusal :=
  let s := s0.advance at_
  .next (if s.runs Isle.control && s.pair.st != .unpaired then s.fetchCmd op.toNat { h with via := .peer } else s)

/-- MIRROR_ACK_RECEIVE (R484): the commit point of a mirrored command where the standby's check passed; else its end. -/
def execMirrorAckReceive (at_ : Instant) (session : Fin 4) (seq : Word) (status : BitVec 16) (s0 : State) : Host.Outcome State Fault Refusal :=
  let s := s0.advance at_
  .next (match s.flight? session seq with
    | some f =>
      if f.st != .mirroring then s
      else if tookEffect status.toNat then
        s.updFlights (List.map (fun g => if g.is session seq then { g with st := .mirrored } else g))
      else s.postFinal f status.toNat []
    | none => s)

/-- What a command that its timeout ends replies: TIMEOUT, and LOCK_HELD from a wait for a lock (R428). -/
def timeoutStatus (f : Flight) : Nat := if f.opcode == 0x0E02 && f.st == .waiting then St.LOCK_HELD else St.TIMEOUT

/-- COMMAND_TIMEOUT (R428, R484): a command that has not passed its commit point is abandoned. Where the standby owed its acknowledgement, the
pair parts. -/
def execCommandTimeout (session : Fin 4) (seq : Word) (s : State) : Host.Outcome State Fault Refusal :=
  .next (match s.flight? session seq with
    | some f =>
      if !f.uncommitted then s
      else
        let s1 := s.advanceUp f.due
        let s2 := (s1.abandon f (timeoutStatus f)).count (Reg.CMD_CNT 2) 1
        let s3 := s2.raise 22 (f.limit : Rat) [word session.val, word f.opcode, word f.tag]
        if f.st == .mirroring && s3.pair.st == .active then s3.enterPair .solo 6 false else s3
    | none => s)

/-- CORE_WATCHDOG_EXPIRY (R429, detector 3): the core is reset, and each of its commands that had not passed its commit point replies TIMEOUT. The
commit point of a mirrored command is the standby's acknowledgement (R484). -/
def execCoreWatchdogExpiry (at_ : Instant) (core : Fin 4) (real : Bool) (cmds : List (Fin 4 × Word)) (s0 : State) :
    Host.Outcome State Fault Refusal :=
  let s := s0.advance at_
  let o := s.occasion 3 core.val real
  .next (if !s.runs Isle.control then s
    else match o.1 with
      | none => o.2
      | some inj =>
        (o.2.detect 3 inj 0 [word core.val]).resetCore core cmds)

/-- LOCK_LEASE_EXPIRY (R435). -/
def execLockLeaseExpiry (n : Fin 32) (s : State) : Host.Outcome State Fault Refusal :=
  .next (if (s.lock n.val).owner.isSome then (s.advanceUp (s.lock n.val).due).breakLock n.val false else s)

/-- HEARTBEAT_EXPIRY (R438). -/
def execHeartbeatExpiry (s : State) : Host.Outcome State Fault Refusal :=
  .next (match s.cmd.hbDue with
    | some u => (s.advanceUp u).expireHeartbeat true
    | none => s)

/-- REPLY_COALESCE_EXPIRY (R437). -/
def execReplyCoalesceExpiry (n : Fin 4) (s : State) : Host.Outcome State Fault Refusal :=
  .next (match ((s.cmd.coal[n.val]?).getD ⟨0, none⟩).due with
    | some u => ((s.advanceUp u).setCmd (fun c => { c with coal := updAt c.coal n.val (fun x => { x with due := none }) })).vector n.val
    | none => s)

/-- Whether every member of the ring has replied. -/
def State.allReplied (s : State) (a : Aggregate) : Bool :=
  (upto 64).all (fun i => !s.memberPresent i || (lookup a.statuses i).isSome)

/-- CASCADE_REPLY_AGGREGATE (R431): the head's one reply, after every member's or after the timeout. -/
def execCascadeReplyAggregate (at_ : Instant) (session : Fin 4) (seq : Word) (s0 : State) : Host.Outcome State Fault Refusal :=
  let s := s0.advance at_
  .next (match s.cmd.aggs.find? (fun a => a.session == session && a.seq == seq), s.flight? session seq with
    | some a, some f =>
      if s.allReplied a then s.closeAggregate f a false
      else if f.due ≤ s.up then s.closeAggregate f a true
      else s
    | _, _ => s)

end Sys2Proof.Machine
end

