-- ==== Sys2Proof/Machine/Dispatch.lean ====
section
/-! DEFINITION. One arm for each command or event: the meaning that runs it. -/

namespace Sys2Proof.Machine

open Sys2Proof

def exec (i : Instr) (s : State) : Host.Outcome State Fault Refusal :=
  match i with
  | .identity h => Sys2Proof.Machine.execIdentity h s
  | .glbStatus h => Sys2Proof.Machine.execGlbStatus h s
  | .glbEnable h l => Sys2Proof.Machine.execGlbEnable h l s
  | .glbLock h l => Sys2Proof.Machine.execGlbLock h l s
  | .regRead h addr n => Sys2Proof.Machine.execRegRead h addr n s
  | .regWrite h l => Sys2Proof.Machine.execRegWrite h l s
  | .aonStatus h => Sys2Proof.Machine.execAonStatus h s
  | .pwrState h goal => Sys2Proof.Machine.execPwrState h goal s
  | .pwrProfile h efficient => Sys2Proof.Machine.execPwrProfile h efficient s
  | .tc10Identity h => Sys2Proof.Machine.execTc10Identity h s
  | .avfsRaw h a => Sys2Proof.Machine.execAvfsRaw h a s
  | .islandReset h isl => Sys2Proof.Machine.execIslandReset h isl s
  | .wakePattern h a => Sys2Proof.Machine.execWakePattern h a s
  | .wakePatternRaw h a => Sys2Proof.Machine.execWakePatternRaw h a s
  | .timeStatus h => Sys2Proof.Machine.execTimeStatus h s
  | .timeProfile h p => Sys2Proof.Machine.execTimeProfile h p s
  | .timeRestep h => Sys2Proof.Machine.execTimeRestep h s
  | .timeSources h p => Sys2Proof.Machine.execTimeSources h p s
  | .timeOutputs h p => Sys2Proof.Machine.execTimeOutputs h p s
  | .timeServo h p => Sys2Proof.Machine.execTimeServo h p s
  | .timeDiscontCfg h p => Sys2Proof.Machine.execTimeDiscontCfg h p s
  | .timePtpDs h p => Sys2Proof.Machine.execTimePtpDs h p s
  | .portStatus h p => Sys2Proof.Machine.execPortStatus h p s
  | .portProfile h a => Sys2Proof.Machine.execPortProfile h a s
  | .portRings h a => Sys2Proof.Machine.execPortRings h a s
  | .portPrp h a => Sys2Proof.Machine.execPortPrp h a s
  | .portMacsec h a => Sys2Proof.Machine.execPortMacsec h a s
  | .portOptics h p a2h => Sys2Proof.Machine.execPortOptics h p a2h s
  | .portEq h a => Sys2Proof.Machine.execPortEq h a s
  | .portMacRaw h a => Sys2Proof.Machine.execPortMacRaw h a s
  | .portOptOverride h p on => Sys2Proof.Machine.execPortOptOverride h p on s
  | .ingStatus h => Sys2Proof.Machine.execIngStatus h s
  | .ingStreamAdd h a => Sys2Proof.Machine.execIngStreamAdd h a s
  | .ingStreamRemove h r => Sys2Proof.Machine.execIngStreamRemove h r s
  | .ingStreamList h => Sys2Proof.Machine.execIngStreamList h s
  | .ingUnknown h => Sys2Proof.Machine.execIngUnknown h s
  | .ingCfgFetch h r => Sys2Proof.Machine.execIngCfgFetch h r s
  | .ingHeader h r => Sys2Proof.Machine.execIngHeader h r s
  | .ingStreamRaw h a => Sys2Proof.Machine.execIngStreamRaw h a s
  | .ingChanScale h a => Sys2Proof.Machine.execIngChanScale h a s
  | .ingTune h a => Sys2Proof.Machine.execIngTune h a s
  | .pecStatus h => Sys2Proof.Machine.execPecStatus h s
  | .pecProfile h a => Sys2Proof.Machine.execPecProfile h a s
  | .pecInputs h l => Sys2Proof.Machine.execPecInputs h l s
  | .pecThresholds h l => Sys2Proof.Machine.execPecThresholds h l s
  | .syncDecim h => Sys2Proof.Machine.execSyncDecim h s
  | .pecBankSwap h a => Sys2Proof.Machine.execPecBankSwap h a s
  | .pecSlotRaw h a => Sys2Proof.Machine.execPecSlotRaw h a s
  | .pecCoefLoad h a => Sys2Proof.Machine.execPecCoefLoad h a s
  | .pecBankSwapX h a => Sys2Proof.Machine.execPecBankSwapX h a s
  | .pecDsyncCfg h enable falling => Sys2Proof.Machine.execPecDsyncCfg h enable falling s
  | .alnStatus h => Sys2Proof.Machine.execAlnStatus h s
  | .alnGroupStart h a => Sys2Proof.Machine.execAlnGroupStart h a s
  | .alnGroupStop h g flush => Sys2Proof.Machine.execAlnGroupStop h g flush s
  | .alnGroupChannels h a => Sys2Proof.Machine.execAlnGroupChannels h a s
  | .alnGroupTiming h a => Sys2Proof.Machine.execAlnGroupTiming h a s
  | .alnHistAlloc h a => Sys2Proof.Machine.execAlnHistAlloc h a s
  | .alnHistRead h a => Sys2Proof.Machine.execAlnHistRead h a s
  | .alnGroupRaw h a => Sys2Proof.Machine.execAlnGroupRaw h a s
  | .alnChanRaw h l => Sys2Proof.Machine.execAlnChanRaw h l s
  | .alnTune h a => Sys2Proof.Machine.execAlnTune h a s
  | .splStatus h => Sys2Proof.Machine.execSplStatus h s
  | .splGroup h g p => Sys2Proof.Machine.execSplGroup h g p s
  | .splClass h n kind => Sys2Proof.Machine.execSplClass h n kind s
  | .splLedgerRead h lists contra => Sys2Proof.Machine.execSplLedgerRead h lists contra s
  | .splClassRaw h a => Sys2Proof.Machine.execSplClassRaw h a s
  | .splGroupRaw h g depth max64 => Sys2Proof.Machine.execSplGroupRaw h g depth max64 s
  | .oscStatus h => Sys2Proof.Machine.execOscStatus h s
  | .oscSetProfile h a => Sys2Proof.Machine.execOscSetProfile h a s
  | .oscSignals h set l => Sys2Proof.Machine.execOscSignals h set l s
  | .oscThresholds h a => Sys2Proof.Machine.execOscThresholds h a s
  | .oscSetStart h set => Sys2Proof.Machine.execOscSetStart h set s
  | .oscSetStop h set => Sys2Proof.Machine.execOscSetStop h set s
  | .oscModesRead h set shapes => Sys2Proof.Machine.execOscModesRead h set shapes s
  | .oscDefBranches h l => Sys2Proof.Machine.execOscDefBranches h l s
  | .oscForcedRead h set flows => Sys2Proof.Machine.execOscForcedRead h set flows s
  | .oscSetRaw h set l => Sys2Proof.Machine.execOscSetRaw h set l s
  | .oscSigRaw h l => Sys2Proof.Machine.execOscSigRaw h l s
  | .oscTune h a => Sys2Proof.Machine.execOscTune h a s
  | .islStatus h => Sys2Proof.Machine.execIslStatus h s
  | .islProfile h a => Sys2Proof.Machine.execIslProfile h a s
  | .islModelLoad h b => Sys2Proof.Machine.execIslModelLoad h b s
  | .islIslandsRead h labels => Sys2Proof.Machine.execIslIslandsRead h labels s
  | .islTune h a => Sys2Proof.Machine.execIslTune h a s
  | .islTblRaw h l => Sys2Proof.Machine.execIslTblRaw h l s
  | .islModelActivate h a => Sys2Proof.Machine.execIslModelActivate h a s
  | .pubStatus h => Sys2Proof.Machine.execPubStatus h s
  | .pubStreamProfile h a => Sys2Proof.Machine.execPubStreamProfile h a s
  | .pubStreamLayout h stream l => Sys2Proof.Machine.execPubStreamLayout h stream l s
  | .pubStreamCtl h stream run => Sys2Proof.Machine.execPubStreamCtl h stream run s
  | .pubGocb h a => Sys2Proof.Machine.execPubGocb h a s
  | .pubAlarmOut h a => Sys2Proof.Machine.execPubAlarmOut h a s
  | .pubLimits h l => Sys2Proof.Machine.execPubLimits h l s
  | .pubAlarmsRead h src => Sys2Proof.Machine.execPubAlarmsRead h src s
  | .pubStreamRaw h a => Sys2Proof.Machine.execPubStreamRaw h a s
  | .pubGocbRaw h a => Sys2Proof.Machine.execPubGocbRaw h a s
  | .pubTblRaw h l => Sys2Proof.Machine.execPubTblRaw h l s
  | .capStatus h => Sys2Proof.Machine.execCapStatus h s
  | .capUnitProfile h a => Sys2Proof.Machine.execCapUnitProfile h a s
  | .capChannels h u l => Sys2Proof.Machine.execCapChannels h u l s
  | .capArm h u => Sys2Proof.Machine.execCapArm h u s
  | .capStop h u keep => Sys2Proof.Machine.execCapStop h u keep s
  | .capForce h u => Sys2Proof.Machine.execCapForce h u s
  | .capList h first => Sys2Proof.Machine.execCapList h first s
  | .capRead h a => Sys2Proof.Machine.execCapRead h a s
  | .capFree h n => Sys2Proof.Machine.execCapFree h n s
  | .capLock h n lock => Sys2Proof.Machine.execCapLock h n lock s
  | .capSeqRaw h u l => Sys2Proof.Machine.execCapSeqRaw h u l s
  | .capArmX h u trunc => Sys2Proof.Machine.execCapArmX h u trunc s
  | .capTune h a => Sys2Proof.Machine.execCapTune h a s
  | .evrStatus h => Sys2Proof.Machine.execEvrStatus h s
  | .evrClassProfile h p => Sys2Proof.Machine.execEvrClassProfile h p s
  | .evrRead h a => Sys2Proof.Machine.execEvrRead h a s
  | .evrPubkey h => Sys2Proof.Machine.execEvrPubkey h s
  | .evrSeal h => Sys2Proof.Machine.execEvrSeal h s
  | .evrClearNonce h => Sys2Proof.Machine.execEvrClearNonce h s
  | .evrClear h nonce tag => Sys2Proof.Machine.execEvrClear h nonce tag s
  | .evrHostEvent h a => Sys2Proof.Machine.execEvrHostEvent h a s
  | .evrClassRaw h l => Sys2Proof.Machine.execEvrClassRaw h l s
  | .keyStatus h => Sys2Proof.Machine.execKeyStatus h s
  | .keyInfo h slot => Sys2Proof.Machine.execKeyInfo h slot s
  | .keyGenerate h a => Sys2Proof.Machine.execKeyGenerate h a s
  | .keyImport h a => Sys2Proof.Machine.execKeyImport h a s
  | .keyDerive h a => Sys2Proof.Machine.execKeyDerive h a s
  | .keyReplace h a => Sys2Proof.Machine.execKeyReplace h a s
  | .keyReplaceCommit h slot kcv => Sys2Proof.Machine.execKeyReplaceCommit h slot kcv s
  | .keyDestroy h slot => Sys2Proof.Machine.execKeyDestroy h slot s
  | .keyExport h slot kek => Sys2Proof.Machine.execKeyExport h slot kek s
  | .keyLcNonce h => Sys2Proof.Machine.execKeyLcNonce h s
  | .keyLifecycle h goal nonce tag => Sys2Proof.Machine.execKeyLifecycle h goal nonce tag s
  | .keyAttest h slot nonce => Sys2Proof.Machine.execKeyAttest h slot nonce s
  | .keyTxnResult h => Sys2Proof.Machine.execKeyTxnResult h s
  | .keyImportClear h a => Sys2Proof.Machine.execKeyImportClear h a s
  | .keyAttrRaw h a => Sys2Proof.Machine.execKeyAttrRaw h a s
  | .keyTune h a => Sys2Proof.Machine.execKeyTune h a s
  | .cmdSessionOpen h expert => Sys2Proof.Machine.execCmdSessionOpen h expert s
  | .cmdSessionClose h => Sys2Proof.Machine.execCmdSessionClose h s
  | .lockAcquire h n leaseMs wait => Sys2Proof.Machine.execLockAcquire h n leaseMs wait s
  | .lockRenew h n leaseMs => Sys2Proof.Machine.execLockRenew h n leaseMs s
  | .lockRelease h n => Sys2Proof.Machine.execLockRelease h n s
  | .lockStatus h => Sys2Proof.Machine.execLockStatus h s
  | .cmdEcho h payload => Sys2Proof.Machine.execCmdEcho h payload s
  | .cmdTune h a => Sys2Proof.Machine.execCmdTune h a s
  | .mbxStatus h ident => Sys2Proof.Machine.execMbxStatus h ident s
  | .mbxSend h n words wait => Sys2Proof.Machine.execMbxSend h n words wait s
  | .mbxRecv h n wait => Sys2Proof.Machine.execMbxRecv h n wait s
  | .mbxPeek h n => Sys2Proof.Machine.execMbxPeek h n s
  | .mbxBind h n en a b => Sys2Proof.Machine.execMbxBind h n en a b s
  | .mbxClear h n => Sys2Proof.Machine.execMbxClear h n s
  | .casStatus h => Sys2Proof.Machine.execCasStatus h s
  | .casRejoin h m => Sys2Proof.Machine.execCasRejoin h m s
  | .casReform h => Sys2Proof.Machine.execCasReform h s
  | .casTune h skipEn intEn => Sys2Proof.Machine.execCasTune h skipEn intEn s
  | .memStatus h => Sys2Proof.Machine.execMemStatus h s
  | .memTickets h p => Sys2Proof.Machine.execMemTickets h p s
  | .memHostRead h off len => Sys2Proof.Machine.execMemHostRead h off len s
  | .memHostWrite h off data => Sys2Proof.Machine.execMemHostWrite h off data s
  | .memTicketsRaw h t0 t1 => Sys2Proof.Machine.execMemTicketsRaw h t0 t1 s
  | .memLfsr h c seed => Sys2Proof.Machine.execMemLfsr h c seed s
  | .pairStatus h => Sys2Proof.Machine.execPairStatus h s
  | .pairForm h sideB prefer => Sys2Proof.Machine.execPairForm h sideB prefer s
  | .pairJoin h => Sys2Proof.Machine.execPairJoin h s
  | .pairSwap h => Sys2Proof.Machine.execPairSwap h s
  | .pairSwapSched h hours => Sys2Proof.Machine.execPairSwapSched h hours s
  | .pairRestart h => Sys2Proof.Machine.execPairRestart h s
  | .pairSplit h => Sys2Proof.Machine.execPairSplit h s
  | .pairTune h a => Sys2Proof.Machine.execPairTune h a s
  | .fltStatus h => Sys2Proof.Machine.execFltStatus h s
  | .inject h a => Sys2Proof.Machine.execInject h a s
  | .fltInjRaw h a => Sys2Proof.Machine.execFltInjRaw h a s
  | .sqDoorbell at_ tail => Sys2Proof.Machine.execSqDoorbell at_ tail s
  | .rqHeadFree at_ head => Sys2Proof.Machine.execRqHeadFree at_ head s
  | .heartbeatFeed at_ => Sys2Proof.Machine.execHeartbeatFeed at_ s
  | .fetchEnable at_ => Sys2Proof.Machine.execFetchEnable at_ s
  | .fetchDisable at_ => Sys2Proof.Machine.execFetchDisable at_ s
  | .blockLockSet at_ b port => Sys2Proof.Machine.execBlockLockSet at_ b port s
  | .regWritePlain at_ addr v => Sys2Proof.Machine.execRegWritePlain at_ addr v s
  | .rcCounterRead at_ addr => Sys2Proof.Machine.execRcCounterRead at_ addr s
  | .counter64LoRead at_ p tx => Sys2Proof.Machine.execCounter64LoRead at_ p tx s
  | .timeNowLatchRead at_ => Sys2Proof.Machine.execTimeNowLatchRead at_ s
  | .fineTimeLatchRead at_ => Sys2Proof.Machine.execFineTimeLatchRead at_ s
  | .evrSeqLatchRead at_ => Sys2Proof.Machine.execEvrSeqLatchRead at_ s
  | .txtsIdRead at_ p => Sys2Proof.Machine.execTxtsIdRead at_ p s
  | .tdcStampRead at_ n => Sys2Proof.Machine.execTdcStampRead at_ n s
  | .compareArm at_ n irq action => Sys2Proof.Machine.execCompareArm at_ n irq action s
  | .portModeChange at_ p mode fec => Sys2Proof.Machine.execPortModeChange at_ p mode fec s
  | .rxTailWrite at_ p r tail => Sys2Proof.Machine.execRxTailWrite at_ p r tail s
  | .txTailWrite at_ p r tail descs => Sys2Proof.Machine.execTxTailWrite at_ p r tail descs s
  | .ingTblRead at_ => Sys2Proof.Machine.execIngTblRead at_ s
  | .ingTblWrite at_ => Sys2Proof.Machine.execIngTblWrite at_ s
  | .pecTblRead at_ => Sys2Proof.Machine.execPecTblRead at_ s
  | .pecTblWrite at_ => Sys2Proof.Machine.execPecTblWrite at_ s
  | .alnChanRead at_ => Sys2Proof.Machine.execAlnChanRead at_ s
  | .alnChanWrite at_ => Sys2Proof.Machine.execAlnChanWrite at_ s
  | .oscTblRead at_ => Sys2Proof.Machine.execOscTblRead at_ s
  | .oscTblWrite at_ => Sys2Proof.Machine.execOscTblWrite at_ s
  | .islTblReadActive at_ => Sys2Proof.Machine.execIslTblReadActive at_ s
  | .islTblWriteStaged at_ => Sys2Proof.Machine.execIslTblWriteStaged at_ s
  | .islTblReadStaged at_ => Sys2Proof.Machine.execIslTblReadStaged at_ s
  | .pubTblRead at_ => Sys2Proof.Machine.execPubTblRead at_ s
  | .pubTblWrite at_ => Sys2Proof.Machine.execPubTblWrite at_ s
  | .alnGrpRegWrite at_ g idx v => Sys2Proof.Machine.execAlnGrpRegWrite at_ g idx v s
  | .splClassRegWrite at_ l => Sys2Proof.Machine.execSplClassRegWrite at_ l s
  | .capPartWrite at_ gib => Sys2Proof.Machine.execCapPartWrite at_ gib s
  | .mbxWordWrite at_ ident n j v => Sys2Proof.Machine.execMbxWordWrite at_ ident n j v s
  | .mbxW15Read at_ n => Sys2Proof.Machine.execMbxW15Read at_ n s
  | .mbxBindWrite at_ n w => Sys2Proof.Machine.execMbxBindWrite at_ n w s
  | .injSlotArm at_ slot session => Sys2Proof.Machine.execInjSlotArm at_ slot session s
  | .injSlotDisarm at_ slot => Sys2Proof.Machine.execInjSlotDisarm at_ slot s
  | .commandFetch op h => Sys2Proof.Machine.execCommandFetch op h s
  | .commandTimeout session seq => Sys2Proof.Machine.execCommandTimeout session seq s
  | .coreWatchdogExpiry at_ core real cmds => Sys2Proof.Machine.execCoreWatchdogExpiry at_ core real cmds s
  | .lockLeaseExpiry n => Sys2Proof.Machine.execLockLeaseExpiry n s
  | .heartbeatExpiry => Sys2Proof.Machine.execHeartbeatExpiry s
  | .replyCoalesceExpiry n => Sys2Proof.Machine.execReplyCoalesceExpiry n s
  | .cascadeReplyAggregate at_ session seq => Sys2Proof.Machine.execCascadeReplyAggregate at_ session seq s
  | .routedCommandReceive op h => Sys2Proof.Machine.execRoutedCommandReceive op h s
  | .mirroredCommandReceive at_ op h => Sys2Proof.Machine.execMirroredCommandReceive at_ op h s
  | .mirrorAckReceive at_ session seq status => Sys2Proof.Machine.execMirrorAckReceive at_ session seq status s
  | .ptpMessageReceive at_ => Sys2Proof.Machine.execPtpMessageReceive at_ s
  | .announceReceiptTimeout p => Sys2Proof.Machine.execAnnounceReceiptTimeout p s
  | .servoMeasurement at_ m => Sys2Proof.Machine.execServoMeasurement at_ m s
  | .sourceUnqualifyTimeout src => Sys2Proof.Machine.execSourceUnqualifyTimeout src s
  | .restepTake => Sys2Proof.Machine.execRestepTake s
  | .leapSecondEnd => Sys2Proof.Machine.execLeapSecondEnd s
  | .ppsInEdge at_ rising widthNs => Sys2Proof.Machine.execPpsInEdge at_ rising widthNs s
  | .todSentenceReceive at_ m => Sys2Proof.Machine.execTodSentenceReceive at_ m s
  | .irigFrameReceive at_ f => Sys2Proof.Machine.execIrigFrameReceive at_ f s
  | .ppsOutPulse => Sys2Proof.Machine.execPpsOutPulse s
  | .todSentenceSend => Sys2Proof.Machine.execTodSentenceSend s
  | .tdcEdgeStamp at_ n rising => Sys2Proof.Machine.execTdcEdgeStamp at_ n rising s
  | .compareFire n => Sys2Proof.Machine.execCompareFire n s
  | .trigOutPulseEnd n => Sys2Proof.Machine.execTrigOutPulseEnd n s
  | .tcPresChange at_ present => Sys2Proof.Machine.execTcPresChange at_ present s
  | .tc10IdentityReadComplete at_ r => Sys2Proof.Machine.execTc10IdentityReadComplete at_ r s
  | .tc10WarmupEnd => Sys2Proof.Machine.execTc10WarmupEnd s
  | .frameReceive at_ p f => Sys2Proof.Machine.execFrameReceive at_ p f s
  | .pauseExpiry p => Sys2Proof.Machine.execPauseExpiry p s
  | .pauseRepeat p => Sys2Proof.Machine.execPauseRepeat p s
  | .prpForgetExpiry k => Sys2Proof.Machine.execPrpForgetExpiry k s
  | .transmitSelect at_ p => Sys2Proof.Machine.execTransmitSelect at_ p s
  | .frameTransmitComplete at_ p => Sys2Proof.Machine.execFrameTransmitComplete at_ p s
  | .linkUp at_ p c => Sys2Proof.Machine.execLinkUp at_ p c s
  | .linkDown at_ p => Sys2Proof.Machine.execLinkDown at_ p s
  | .eqAdaptComplete at_ p e => Sys2Proof.Machine.execEqAdaptComplete at_ p e s
  | .modAbsChange at_ p absent => Sys2Proof.Machine.execModAbsChange at_ p absent s
  | .modAbsDebounceEnd p => Sys2Proof.Machine.execModAbsDebounceEnd p s
  | .opticsReadStart p => Sys2Proof.Machine.execOpticsReadStart p s
  | .opticsReadComplete at_ p r => Sys2Proof.Machine.execOpticsReadComplete at_ p r s
  | .opticsReadRetry p => Sys2Proof.Machine.execOpticsReadRetry p s
  | .wakePatternMatch at_ m f => Sys2Proof.Machine.execWakePatternMatch at_ m f s
  | .parseFrame at_ => Sys2Proof.Machine.execParseFrame at_ s
  | .heldConfigApply at_ e => Sys2Proof.Machine.execHeldConfigApply at_ e s
  | .configFrameReceive at_ c => Sys2Proof.Machine.execConfigFrameReceive at_ c s
  | .cfgPollTimer e => Sys2Proof.Machine.execCfgPollTimer e s
  | .cfgFetchTimeout e => Sys2Proof.Machine.execCfgFetchTimeout e s
  | .c37CommandFrameReceive at_ idx c => Sys2Proof.Machine.execC37CommandFrameReceive at_ idx c s
  | .svSampleIn at_ => Sys2Proof.Machine.execSvSampleIn at_ s
  | .estimateOutput at_ idx => Sys2Proof.Machine.execEstimateOutput at_ idx s
  | .slotRestart idx => Sys2Proof.Machine.execSlotRestart idx s
  | .dsyncEdge at_ rising widthNs => Sys2Proof.Machine.execDsyncEdge at_ rising widthNs s
  | .crossfadeEnd at_ idx => Sys2Proof.Machine.execCrossfadeEnd at_ idx s
  | .heldSwapStart at_ idx => Sys2Proof.Machine.execHeldSwapStart at_ idx s
  | .accordValueReceive at_ => Sys2Proof.Machine.execAccordValueReceive at_ s
  | .provisionalIssue g => Sys2Proof.Machine.execProvisionalIssue g s
  | .windowClose g => Sys2Proof.Machine.execWindowClose g s
  | .closeGuardEnd g => Sys2Proof.Machine.execCloseGuardEnd g s
  | .emptyGroupTrigger g => Sys2Proof.Machine.execEmptyGroupTrigger g s
  | .snapshotCommit at_ g => Sys2Proof.Machine.execSnapshotCommit at_ g s
  | .groupStartReached g => Sys2Proof.Machine.execGroupStartReached g s
  | .groupChangeEffective g => Sys2Proof.Machine.execGroupChangeEffective g s
  | .classChangeEffective at_ => Sys2Proof.Machine.execClassChangeEffective at_ s
  | .provisionalSnapshotEvaluate at_ => Sys2Proof.Machine.execProvisionalSnapshotEvaluate at_ s
  | .committedSnapshotEvaluate at_ => Sys2Proof.Machine.execCommittedSnapshotEvaluate at_ s
  | .confirmReceive at_ => Sys2Proof.Machine.execConfirmReceive at_ s
  | .rollbackReceive at_ => Sys2Proof.Machine.execRollbackReceive at_ s
  | .flushReceive at_ => Sys2Proof.Machine.execFlushReceive at_ s
  | .summaryPacketReceive at_ p => Sys2Proof.Machine.execSummaryPacketReceive at_ p s
  | .provisionalViewForm at_ => Sys2Proof.Machine.execProvisionalViewForm at_ s
  | .ringWaitExpiry => Sys2Proof.Machine.execRingWaitExpiry s
  | .ringCommit at_ => Sys2Proof.Machine.execRingCommit at_ s
  | .ringCloseExpiry => Sys2Proof.Machine.execRingCloseExpiry s
  | .islModelEffective => Sys2Proof.Machine.execIslModelEffective s
  | .oscSnapshotIntake at_ => Sys2Proof.Machine.execOscSnapshotIntake at_ s
  | .oscUpdateReady at_ idx => Sys2Proof.Machine.execOscUpdateReady at_ idx s
  | .oscUpdateComplete at_ idx => Sys2Proof.Machine.execOscUpdateComplete at_ idx s
  | .alarmBatchReceive at_ => Sys2Proof.Machine.execAlarmBatchReceive at_ s
  | .gooseRetransmit k => Sys2Proof.Machine.execGooseRetransmit k s
  | .alarmOutMinOnExpiry n => Sys2Proof.Machine.execAlarmOutMinOnExpiry n s
  | .snapshotPublish at_ => Sys2Proof.Machine.execSnapshotPublish at_ s
  | .streamChangeEffective idx => Sys2Proof.Machine.execStreamChangeEffective idx s
  | .captureRowClose at_ => Sys2Proof.Machine.execCaptureRowClose at_ s
  | .captureRowWaitExpiry u => Sys2Proof.Machine.execCaptureRowWaitExpiry u s
  | .captureEventQueue at_ => Sys2Proof.Machine.execCaptureEventQueue at_ s
  | .recordDrainComplete at_ u => Sys2Proof.Machine.execRecordDrainComplete at_ u s
  | .eventAccumulate at_ => Sys2Proof.Machine.execEventAccumulate at_ s
  | .accumulationIntervalEnd c => Sys2Proof.Machine.execAccumulationIntervalEnd c s
  | .immediateHoldoffEnd c => Sys2Proof.Machine.execImmediateHoldoffEnd c s
  | .recordMramWrite at_ real1 real2 => Sys2Proof.Machine.execRecordMramWrite at_ real1 real2 s
  | .signatureBlockWrite w => Sys2Proof.Machine.execSignatureBlockWrite w s
  | .evrNonceExpiry => Sys2Proof.Machine.execEvrNonceExpiry s
  | .keyRemask at_ => Sys2Proof.Machine.execKeyRemask at_ s
  | .keyCommitComplete at_ slot => Sys2Proof.Machine.execKeyCommitComplete at_ slot s
  | .stagedKeyDiscard slot => Sys2Proof.Machine.execStagedKeyDiscard slot s
  | .childCascadeDestroy slot => Sys2Proof.Machine.execChildCascadeDestroy slot s
  | .lcNonceExpiry => Sys2Proof.Machine.execLcNonceExpiry s
  | .katRun at_ real => Sys2Proof.Machine.execKatRun at_ real s
  | .mbxClaimLapse n => Sys2Proof.Machine.execMbxClaimLapse n s
  | .mbxRingMessageArrive at_ n sender gen words => Sys2Proof.Machine.execMbxRingMessageArrive at_ n sender gen words s
  | .ringFormationToken at_ count uids => Sys2Proof.Machine.execRingFormationToken at_ count uids s
  | .ringFormationReturn at_ count uids => Sys2Proof.Machine.execRingFormationReturn at_ count uids s
  | .ringFormationTimeout => Sys2Proof.Machine.execRingFormationTimeout s
  | .ringMapBroadcast at_ => Sys2Proof.Machine.execRingMapBroadcast at_ s
  | .ringMapReceive at_ present absent => Sys2Proof.Machine.execRingMapReceive at_ present absent s
  | .ringFrameReceive at_ f => Sys2Proof.Machine.execRingFrameReceive at_ f s
  | .crInSilence at_ => Sys2Proof.Machine.execCrInSilence at_ s
  | .ringRelock at_ locked => Sys2Proof.Machine.execRingRelock at_ locked s
  | .ringClosedToken at_ silent => Sys2Proof.Machine.execRingClosedToken at_ silent s
  | .rejoinRelease => Sys2Proof.Machine.execRejoinRelease s
  | .joinRecordReceive at_ uid index => Sys2Proof.Machine.execJoinRecordReceive at_ uid index s
  | .rejoinTrialTimeout => Sys2Proof.Machine.execRejoinTrialTimeout s
  | .arbitrationDraw at_ c asking withdraw ecc => Sys2Proof.Machine.execArbitrationDraw at_ c asking withdraw ecc s
  | .barrierComplete at_ isl => Sys2Proof.Machine.execBarrierComplete at_ isl s
  | .fabricTimeout at_ isl real => Sys2Proof.Machine.execFabricTimeout at_ isl real s
  | .handshakeTimeout at_ snd rcv real => Sys2Proof.Machine.execHandshakeTimeout at_ snd rcv real s
  | .interlockWatchdogFeed at_ => Sys2Proof.Machine.execInterlockWatchdogFeed at_ s
  | .interlockWatchdogExpiry => Sys2Proof.Machine.execInterlockWatchdogExpiry s
  | .ownWaveLost at_ real => Sys2Proof.Machine.execOwnWaveLost at_ real s
  | .interlockQuiet at_ => Sys2Proof.Machine.execInterlockQuiet at_ s
  | .claimConfirm at_ seen => Sys2Proof.Machine.execClaimConfirm at_ seen s
  | .claimBackoffEnd => Sys2Proof.Machine.execClaimBackoffEnd s
  | .preferActiveContendTimeout at_ => Sys2Proof.Machine.execPreferActiveContendTimeout at_ s
  | .pairHeartbeatSend at_ => Sys2Proof.Machine.execPairHeartbeatSend at_ s
  | .pairHeartbeatReceive at_ h => Sys2Proof.Machine.execPairHeartbeatReceive at_ h s
  | .peerLaneLoss at_ => Sys2Proof.Machine.execPeerLaneLoss at_ s
  | .inclusionListReceive at_ l => Sys2Proof.Machine.execInclusionListReceive at_ l s
  | .pairRecordFetchComplete at_ recs => Sys2Proof.Machine.execPairRecordFetchComplete at_ recs s
  | .pairAckReceive at_ g t => Sys2Proof.Machine.execPairAckReceive at_ g t s
  | .pairAckTimeout => Sys2Proof.Machine.execPairAckTimeout s
  | .resultRecordReceive at_ r => Sys2Proof.Machine.execResultRecordReceive at_ r s
  | .copyPhaseAComplete at_ x => Sys2Proof.Machine.execCopyPhaseAComplete at_ x s
  | .copyTCut => Sys2Proof.Machine.execCopyTCut s
  | .copyImageInstalled at_ x => Sys2Proof.Machine.execCopyImageInstalled at_ x s
  | .copyComplete at_ => Sys2Proof.Machine.execCopyComplete at_ s
  | .copyTimeout => Sys2Proof.Machine.execCopyTimeout s
  | .swapFramesDrained at_ => Sys2Proof.Machine.execSwapFramesDrained at_ s
  | .swapCheckExpiry => Sys2Proof.Machine.execSwapCheckExpiry s
  | .swapCheckFail at_ => Sys2Proof.Machine.execSwapCheckFail at_ s
  | .scheduledSwap => Sys2Proof.Machine.execScheduledSwap s
  | .supplyInRange at_ tempC => Sys2Proof.Machine.execSupplyInRange at_ tempC s
  | .powerUpComplete at_ a => Sys2Proof.Machine.execPowerUpComplete at_ a s
  | .vinLoss at_ => Sys2Proof.Machine.execVinLoss at_ s
  | .resetNPulse at_ widthNs => Sys2Proof.Machine.execResetNPulse at_ widthNs s
  | .perstNAssert at_ => Sys2Proof.Machine.execPerstNAssert at_ s
  | .perstNRelease at_ => Sys2Proof.Machine.execPerstNRelease at_ s
  | .wakeNEdge at_ => Sys2Proof.Machine.execWakeNEdge at_ s
  | .stateTransitionComplete at_ => Sys2Proof.Machine.execStateTransitionComplete at_ s
  | .temperatureSample at_ tempC => Sys2Proof.Machine.execTemperatureSample at_ tempC s
  | .islandWatchdogExpiry at_ isl real => Sys2Proof.Machine.execIslandWatchdogExpiry at_ isl real s
  | .railWindowFault at_ rail real => Sys2Proof.Machine.execRailWindowFault at_ rail real s
  | .pllLockLoss at_ isl real => Sys2Proof.Machine.execPllLockLoss at_ isl real s
  | .cpmMarginLoss at_ isl real => Sys2Proof.Machine.execCpmMarginLoss at_ isl real s
  | .clockStretchEnd isl => Sys2Proof.Machine.execClockStretchEnd isl s
  | .injectionFire slot => Sys2Proof.Machine.execInjectionFire slot s
  | .injectionSpanEnd slot => Sys2Proof.Machine.execInjectionSpanEnd slot s
  | .injBitClear => Sys2Proof.Machine.execInjBitClear s
  | .ptpMessageInterval p => Sys2Proof.Machine.execPtpMessageInterval p s
  | .vioOutOfRange at_ => Sys2Proof.Machine.execVioOutOfRange at_ s
  | .vinAboveRange at_ => Sys2Proof.Machine.execVinAboveRange at_ s
  | .pllRelock at_ isl => Sys2Proof.Machine.execPllRelock at_ isl s
  | .alarmOutReadbackCheck at_ land real => Sys2Proof.Machine.execAlarmOutReadbackCheck at_ land real s
  | .rngHealthTest at_ fails => Sys2Proof.Machine.execRngHealthTest at_ fails s

end Sys2Proof.Machine
end

