-- ==== Sys2Proof/Safety.lean ====
section
/-! DEFINITION. What a safe run is, in the terms the statements use. -/

namespace Sys2Proof.Machine

/-- A step that ends in a next state: neither a fault nor a refusal. -/
def Completes (s : State) : Prop := ∃ t, step s = .next t

/-- A list of commands and events run from a state, each to completion. -/
def runs : List Sys2Proof.Instr → State → State → Prop
  | [], s, t => s = t
  | c :: rest, s, t => ∃ u, exec c s = .next u ∧ runs rest u t

/-! ### What each command and event may change -/

/-- The parts of the state that a footprint speaks of. The clock moves on at every step; the command block, the ring's and the peer lane's queues
carry every command and its replies; the registers and bulk memory have statements of their own. -/
inductive Part where
  /-- what the last register read outside a command returned -/
  | rdata
  /-- the model's counter of free values -/
  | free
  /-- events on their way to Sillage -/
  | events
  /-- the always-on island -/
  | aon
  /-- the ten ports -/
  | ports
  /-- ingress and the stream table -/
  | ing
  /-- estimation -/
  | pec
  /-- rows on their way to capture -/
  | capIn
  /-- Accord and speculation -/
  | aln
  /-- the limit engine -/
  | lim
  /-- island detection -/
  | isl
  /-- alarm batches on their way to Atomizer -/
  | batches
  /-- Atomizer -/
  | pub
  /-- oscillation analysis -/
  | osc
  /-- disturbance capture -/
  | cap
  /-- detectors and injection -/
  | flt
  /-- the key store -/
  | key
  /-- Sillage -/
  | evr
  /-- the mailboxes -/
  | mbx
deriving DecidableEq, Repr

/-- The part of two states is the same. -/
def Part.same (a b : State) : Part → Prop
  | .rdata => a.rdata = b.rdata
  | .free => a.free = b.free
  | .events => a.events = b.events
  | .aon => a.aon = b.aon
  | .ports => a.ports = b.ports
  | .ing => a.ing = b.ing
  | .pec => a.pec = b.pec
  | .capIn => a.capIn = b.capIn
  | .aln => a.aln = b.aln
  | .lim => a.lim = b.lim
  | .isl => a.isl = b.isl
  | .batches => a.batches = b.batches
  | .pub => a.pub = b.pub
  | .osc => a.osc = b.osc
  | .cap => a.cap = b.cap
  | .flt => a.flt = b.flt
  | .key => a.key = b.key
  | .evr => a.evr = b.evr
  | .mbx => a.mbx = b.mbx

/-- The parts that a command or event may change; every other part it leaves as it is. -/
def footprint : Sys2Proof.Instr → List Part
  | .identity .. | .glbStatus .. | .glbLock .. | .tc10Identity .. | .wakePattern .. | .wakePatternRaw .. | .timeStatus .. | .timeRestep ..
  | .timeOutputs .. | .timeServo .. | .timeDiscontCfg .. | .timePtpDs .. | .portStatus .. | .portPrp .. | .portOptics .. | .portEq ..
  | .ingStatus .. | .ingStreamList .. | .ingUnknown .. | .ingHeader .. | .ingTune .. | .pecStatus .. | .pecDsyncCfg .. | .alnStatus ..
  | .alnHistRead .. | .alnGroupRaw .. | .splStatus .. | .splLedgerRead .. | .oscStatus .. | .oscSetProfile .. | .oscThresholds ..
  | .oscModesRead .. | .oscForcedRead .. | .oscSetRaw .. | .oscTune .. | .islStatus .. | .islProfile .. | .islIslandsRead .. | .islTune ..
  | .pubStatus .. | .pubAlarmsRead .. | .capStatus .. | .capUnitProfile .. | .capChannels .. | .capList .. | .capSeqRaw .. | .capTune ..
  | .evrStatus .. | .evrRead .. | .evrPubkey .. | .keyStatus .. | .keyInfo .. | .keyTxnResult .. | .keyTune .. | .lockAcquire ..
  | .lockRenew .. | .lockRelease .. | .lockStatus .. | .cmdEcho .. | .cmdTune .. | .mbxStatus .. | .mbxPeek .. | .mbxBind ..
  | .casStatus .. | .casRejoin .. | .casReform .. | .casTune .. | .memStatus .. | .memTickets .. | .memHostWrite .. | .memTicketsRaw ..
  | .memLfsr .. | .pairStatus .. | .pairSwap .. | .pairSwapSched .. | .pairTune .. | .fltStatus .. | .sqDoorbell .. | .rqHeadFree ..
  | .heartbeatFeed .. | .fetchEnable .. | .fetchDisable .. | .blockLockSet .. | .ingTblRead .. | .pecTblRead .. | .alnChanRead ..
  | .oscTblRead .. | .islTblReadActive .. | .islTblReadStaged .. | .pubTblRead .. | .alnGrpRegWrite .. | .mbxBindWrite ..
  | .commandFetch .. | .replyCoalesceExpiry .. | .cascadeReplyAggregate .. | .routedCommandReceive .. | .mirroredCommandReceive ..
  | .mirrorAckReceive .. | .leapSecondEnd .. | .ppsInEdge .. | .todSentenceReceive .. | .irigFrameReceive .. | .ppsOutPulse ..
  | .todSentenceSend .. | .trigOutPulseEnd .. | .ringFormationToken .. | .ringFormationReturn .. | .ringFormationTimeout ..
  | .ringMapBroadcast .. | .crInSilence .. | .rejoinRelease .. | .rejoinTrialTimeout .. | .barrierComplete .. | .interlockWatchdogFeed ..
  | .claimBackoffEnd .. | .pairHeartbeatSend .. | .copyTCut .. | .swapCheckExpiry .. | .scheduledSwap .. => []
  | .alnGroupStart .. | .alnGroupChannels .. | .alnGroupTiming .. | .alnHistAlloc .. | .alnChanRaw .. | .alnTune .. | .splGroup ..
  | .splClass .. | .splClassRaw .. | .splGroupRaw .. | .alnChanWrite .. | .splClassRegWrite .. | .windowClose .. | .closeGuardEnd ..
  | .emptyGroupTrigger .. | .groupStartReached .. | .groupChangeEffective .. | .classChangeEffective .. => [.aln]
  | .avfsRaw .. | .tc10WarmupEnd .. | .wakePatternMatch .. | .perstNRelease .. | .wakeNEdge .. | .clockStretchEnd .. | .vinAboveRange ..
    => [.aon]
  | .capArm .. | .capForce .. | .capFree .. | .capLock .. | .capArmX .. | .captureRowWaitExpiry .. => [.cap]
  | .timeProfile .. | .timeSources .. | .cmdSessionOpen .. | .cmdSessionClose .. | .lockLeaseExpiry .. | .announceReceiptTimeout ..
  | .sourceUnqualifyTimeout .. | .ringMapReceive .. | .ringRelock .. | .ringClosedToken .. | .joinRecordReceive .. => [.events]
  | .evrClassProfile .. | .evrHostEvent .. | .evrClassRaw .. | .accumulationIntervalEnd .. | .immediateHoldoffEnd .. | .evrNonceExpiry ..
    => [.evr]
  | .injectionSpanEnd .. | .injBitClear .. => [.flt]
  | .aonStatus .. => [.free]
  | .ingStreamAdd .. | .ingCfgFetch .. | .ingChanScale .. | .cfgPollTimer .. => [.ing]
  | .islModelLoad .. | .islTblRaw .. | .islModelActivate .. | .islTblWriteStaged .. | .summaryPacketReceive .. | .islModelEffective .. => [.isl]
  | .keyReplaceCommit .. | .keyAttrRaw .. | .stagedKeyDiscard .. | .lcNonceExpiry .. => [.key]
  | .pubLimits .. => [.lim]
  | .mbxRecv .. | .mbxClear .. | .mbxClaimLapse .. => [.mbx]
  | .oscSignals .. | .oscSetStart .. | .oscDefBranches .. | .oscSigRaw .. | .oscTblWrite .. | .oscUpdateReady .. => [.osc]
  | .pecProfile .. | .pecInputs .. | .pecThresholds .. | .syncDecim .. | .pecBankSwap .. | .pecSlotRaw .. | .pecCoefLoad ..
  | .pecBankSwapX .. | .pecTblWrite .. | .slotRestart .. | .dsyncEdge .. | .crossfadeEnd .. | .heldSwapStart .. => [.pec]
  | .portRings .. | .portMacRaw .. | .rxTailWrite .. | .ptpMessageReceive .. | .pauseExpiry .. | .pauseRepeat .. | .prpForgetExpiry ..
  | .frameTransmitComplete .. | .linkDown .. | .opticsReadStart .. | .opticsReadRetry .. | .ptpMessageInterval .. => [.ports]
  | .pubStreamProfile .. | .pubStreamLayout .. | .pubStreamCtl .. | .pubAlarmOut .. | .pubStreamRaw .. | .c37CommandFrameReceive ..
  | .alarmOutMinOnExpiry .. | .streamChangeEffective .. => [.pub]
  | .timeNowLatchRead .. | .fineTimeLatchRead .. | .txtsIdRead .. | .tdcStampRead .. => [.rdata]
  | .oscSnapshotIntake .. => [.aln, .osc]
  | .vioOutOfRange .. => [.aon, .pub]
  | .compareArm .. | .tdcEdgeStamp .. | .compareFire .. | .captureRowClose .. | .captureEventQueue .. => [.capIn, .cap]
  | .pairJoin .. | .peerLaneLoss .. | .copyComplete .. | .copyTimeout .. => [.events, .aln]
  | .tcPresChange .. | .tc10IdentityReadComplete .. | .perstNAssert .. => [.events, .aon]
  | .capPartWrite .. | .recordDrainComplete .. => [.events, .cap]
  | .eventAccumulate .. => [.events, .evr]
  | .capRead .. | .memHostRead .. | .heartbeatExpiry .. | .alarmOutReadbackCheck .. => [.events, .flt]
  | .heldConfigApply .. | .configFrameReceive .. | .cfgFetchTimeout .. => [.events, .ing]
  | .mbxSend .. | .mbxWordWrite .. | .mbxRingMessageArrive .. => [.events, .mbx]
  | .portProfile .. | .portOptOverride .. | .portModeChange .. | .transmitSelect .. | .linkUp .. | .eqAdaptComplete .. | .modAbsChange ..
  | .modAbsDebounceEnd .. | .opticsReadComplete .. => [.events, .ports]
  | .pwrProfile .. => [.free, .aon]
  | .capStop .. => [.free, .cap]
  | .evrClearNonce .. => [.free, .evr]
  | .keyGenerate .. | .keyImport .. | .keyDerive .. | .keyReplace .. | .keyExport .. | .keyLcNonce .. | .keyAttest .. | .keyImportClear ..
    => [.free, .key]
  | .txTailWrite .. => [.free, .ports]
  | .ingStreamRemove .. | .ingStreamRaw .. | .ingTblWrite .. => [.ing, .pec]
  | .evrSeqLatchRead .. => [.rdata, .evr]
  | .mbxW15Read .. => [.rdata, .mbx]
  | .counter64LoRead .. => [.rdata, .ports]
  | .injSlotDisarm .. => [.aon, .flt, .evr]
  | .resultRecordReceive .. => [.events, .aln, .flt]
  | .provisionalIssue .. => [.events, .aln, .isl]
  | .railWindowFault .. => [.events, .aon, .flt]
  | .oscSetStop .. => [.events, .batches, .osc]
  | .rngHealthTest .. => [.events, .flt, .key]
  | .fabricTimeout .. | .handshakeTimeout .. => [.events, .ing, .flt]
  | .provisionalViewForm .. | .ringWaitExpiry .. | .ringCommit .. | .ringCloseExpiry .. => [.events, .isl, .batches]
  | .pairForm .. | .pairSplit .. | .interlockWatchdogExpiry .. | .preferActiveContendTimeout .. | .swapCheckFail .. => [.events, .ports, .aln]
  | .frameReceive .. => [.events, .ports, .ing]
  | .portMacsec .. | .keyRemask .. => [.free, .ports, .key]
  | .accordValueReceive .. => [.ing, .aln, .flt]
  | .svSampleIn .. | .estimateOutput .. => [.ing, .pec, .capIn]
  | .regRead .. => [.ports, .evr, .mbx]
  | .alnGroupStop .. | .snapshotCommit .. | .pairAckTimeout .. => [.events, .aln, .isl, .batches]
  | .commandTimeout .. => [.events, .aln, .key, .mbx]
  | .inject .. | .fltInjRaw .. | .injSlotArm .. | .recordMramWrite .. => [.events, .aon, .flt, .evr]
  | .coreWatchdogExpiry .. => [.events, .flt, .key, .mbx]
  | .ringFrameReceive .. => [.events, .isl, .flt, .mbx]
  | .ownWaveLost .. => [.events, .ports, .aln, .flt]
  | .keyDestroy .. | .childCascadeDestroy .. => [.events, .ports, .pub, .key]
  | .katRun .. => [.events, .pub, .flt, .key]
  | .cpmMarginLoss .. => [.free, .events, .aon, .flt]
  | .pubGocb .. | .pubGocbRaw .. | .gooseRetransmit .. => [.free, .ports, .pub, .key]
  | .rcCounterRead .. => [.rdata, .ports, .evr, .mbx]
  | .inclusionListReceive .. | .pairRecordFetchComplete .. | .pairAckReceive .. => [.events, .aln, .isl, .batches, .flt]
  | .provisionalSnapshotEvaluate .. | .committedSnapshotEvaluate .. | .confirmReceive .. | .rollbackReceive .. | .flushReceive ..
    => [.events, .aln, .lim, .isl, .batches]
  | .oscUpdateComplete .. => [.free, .events, .aln, .batches, .osc]
  | .keyCommitComplete .. => [.free, .events, .ports, .pub, .key]
  | .snapshotPublish .. => [.free, .ports, .aln, .pub, .key]
  | .pubTblRaw .. | .pubTblWrite .. => [.free, .ports, .lim, .pub, .key]
  | .evrSeal .. | .evrClear .. | .signatureBlockWrite .. => [.free, .events, .aon, .flt, .key, .evr]
  | .arbitrationDraw .. => [.free, .events, .cap, .flt, .key, .mbx]
  | .parseFrame .. => [.free, .events, .ports, .ing, .flt, .key]
  | .alarmBatchReceive .. => [.free, .ports, .capIn, .batches, .pub, .key]
  | .restepTake .. => [.events, .pec, .aln, .isl, .osc, .cap, .evr]
  | .claimConfirm .. => [.free, .events, .ports, .aln, .batches, .pub, .key]
  | .copyImageInstalled .. => [.events, .pec, .aln, .lim, .isl, .batches, .pub, .osc]
  | .keyLifecycle .. => [.free, .events, .aon, .ports, .pub, .flt, .key, .evr]
  | .copyPhaseAComplete .. => [.ports, .ing, .pec, .aln, .lim, .isl, .pub, .osc]
  | .supplyInRange .. | .vinLoss .. => [.free, .events, .aon, .ports, .pub, .cap, .key, .evr, .mbx]
  | .servoMeasurement .. => [.free, .events, .pec, .aln, .isl, .osc, .cap, .flt, .evr]
  | .pwrState .. => [.events, .aon, .aln, .isl, .batches, .pub, .osc, .cap, .flt, .evr]
  | .temperatureSample .. => [.free, .events, .aon, .ports, .pub, .cap, .flt, .key, .evr, .mbx]
  | .pairRestart .. => [.free, .events, .ports, .pec, .aln, .lim, .isl, .pub, .osc, .key]
  | .stateTransitionComplete .. => [.free, .events, .aon, .ports, .pec, .pub, .cap, .flt, .key, .evr, .mbx]
  | .pllRelock .. => [.free, .events, .aon, .ports, .pec, .pub, .osc, .cap, .flt, .key, .evr]
  | .interlockQuiet .. | .pairHeartbeatReceive .. | .swapFramesDrained ..
    => [.free, .events, .ports, .pec, .aln, .pub, .osc, .cap, .flt, .key, .evr]
  | .glbEnable .. | .regWrite .. | .islandReset .. | .regWritePlain .. | .resetNPulse .. | .islandWatchdogExpiry .. | .pllLockLoss ..
  | .injectionFire .. => [.free, .events, .aon, .ports, .ing, .pec, .capIn, .aln, .lim, .isl, .batches, .pub, .osc, .cap, .flt, .key, .evr, .mbx]
  | .powerUpComplete ..
    => [.rdata, .free, .events, .aon, .ports, .ing, .pec, .capIn, .aln, .lim, .isl, .batches, .pub, .osc, .cap, .flt, .key, .evr, .mbx]

/-- The events in which bulk memory loses its contents: the loss of a supply, a state that removes it, and the starts that follow (R465). -/
def mayLose : Sys2Proof.Instr → Bool
  | .supplyInRange .. | .powerUpComplete .. | .vinLoss .. | .stateTransitionComplete .. | .temperatureSample .. => true
  | _ => false

/-- The offsets of the host area that a command may write: the bytes of MEM_HOST_WRITE (R464). -/
def writesAt : Sys2Proof.Instr → Nat → Bool
  | .memHostWrite _ off data, i => decide (off ≤ i) && decide (i < off + data.length)
  | _, _ => false

/-- The opcode and the header of a command; none for an event. -/
def commandOf : Sys2Proof.Instr → Option (Nat × Hdr)
  | .identity h => some (0x0000, h)
  | .glbStatus h => some (0x0001, h)
  | .glbEnable h _ => some (0x0002, h)
  | .glbLock h _ => some (0x0003, h)
  | .regRead h _ _ => some (0x0080, h)
  | .regWrite h _ => some (0x0081, h)
  | .aonStatus h => some (0x0100, h)
  | .pwrState h _ => some (0x0101, h)
  | .pwrProfile h _ => some (0x0102, h)
  | .tc10Identity h => some (0x0103, h)
  | .avfsRaw h _ => some (0x0180, h)
  | .islandReset h _ => some (0x0181, h)
  | .wakePattern h _ => some (0x0110, h)
  | .wakePatternRaw h _ => some (0x0190, h)
  | .timeStatus h => some (0x0200, h)
  | .timeProfile h _ => some (0x0201, h)
  | .timeRestep h => some (0x0202, h)
  | .timeSources h _ => some (0x0203, h)
  | .timeOutputs h _ => some (0x0204, h)
  | .timeServo h _ => some (0x0280, h)
  | .timeDiscontCfg h _ => some (0x0281, h)
  | .timePtpDs h _ => some (0x0282, h)
  | .portStatus h _ => some (0x0300, h)
  | .portProfile h _ => some (0x0301, h)
  | .portRings h _ => some (0x0302, h)
  | .portPrp h _ => some (0x0303, h)
  | .portMacsec h _ => some (0x0304, h)
  | .portOptics h _ _ => some (0x0305, h)
  | .portEq h _ => some (0x0380, h)
  | .portMacRaw h _ => some (0x0381, h)
  | .portOptOverride h _ _ => some (0x0382, h)
  | .ingStatus h => some (0x0400, h)
  | .ingStreamAdd h _ => some (0x0401, h)
  | .ingStreamRemove h _ => some (0x0402, h)
  | .ingStreamList h => some (0x0403, h)
  | .ingUnknown h => some (0x0404, h)
  | .ingCfgFetch h _ => some (0x0405, h)
  | .ingHeader h _ => some (0x0406, h)
  | .ingStreamRaw h _ => some (0x0480, h)
  | .ingChanScale h _ => some (0x0481, h)
  | .ingTune h _ => some (0x0482, h)
  | .pecStatus h => some (0x0500, h)
  | .pecProfile h _ => some (0x0501, h)
  | .pecInputs h _ => some (0x0502, h)
  | .pecThresholds h _ => some (0x0503, h)
  | .syncDecim h => some (0x0504, h)
  | .pecBankSwap h _ => some (0x0505, h)
  | .pecSlotRaw h _ => some (0x0580, h)
  | .pecCoefLoad h _ => some (0x0581, h)
  | .pecBankSwapX h _ => some (0x0582, h)
  | .pecDsyncCfg h _ _ => some (0x0583, h)
  | .alnStatus h => some (0x0600, h)
  | .alnGroupStart h _ => some (0x0601, h)
  | .alnGroupStop h _ _ => some (0x0602, h)
  | .alnGroupChannels h _ => some (0x0603, h)
  | .alnGroupTiming h _ => some (0x0604, h)
  | .alnHistAlloc h _ => some (0x0605, h)
  | .alnHistRead h _ => some (0x0606, h)
  | .alnGroupRaw h _ => some (0x0680, h)
  | .alnChanRaw h _ => some (0x0681, h)
  | .alnTune h _ => some (0x0682, h)
  | .splStatus h => some (0x0700, h)
  | .splGroup h _ _ => some (0x0701, h)
  | .splClass h _ _ => some (0x0702, h)
  | .splLedgerRead h _ _ => some (0x0703, h)
  | .splClassRaw h _ => some (0x0780, h)
  | .splGroupRaw h _ _ _ => some (0x0781, h)
  | .oscStatus h => some (0x0800, h)
  | .oscSetProfile h _ => some (0x0801, h)
  | .oscSignals h _ _ => some (0x0802, h)
  | .oscThresholds h _ => some (0x0803, h)
  | .oscSetStart h _ => some (0x0804, h)
  | .oscSetStop h _ => some (0x0805, h)
  | .oscModesRead h _ _ => some (0x0806, h)
  | .oscDefBranches h _ => some (0x0807, h)
  | .oscForcedRead h _ _ => some (0x0808, h)
  | .oscSetRaw h _ _ => some (0x0880, h)
  | .oscSigRaw h _ => some (0x0881, h)
  | .oscTune h _ => some (0x0882, h)
  | .islStatus h => some (0x0900, h)
  | .islProfile h _ => some (0x0901, h)
  | .islModelLoad h _ => some (0x0902, h)
  | .islIslandsRead h _ => some (0x0903, h)
  | .islTune h _ => some (0x0980, h)
  | .islTblRaw h _ => some (0x0981, h)
  | .islModelActivate h _ => some (0x0982, h)
  | .pubStatus h => some (0x0A00, h)
  | .pubStreamProfile h _ => some (0x0A01, h)
  | .pubStreamLayout h _ _ => some (0x0A02, h)
  | .pubStreamCtl h _ _ => some (0x0A03, h)
  | .pubGocb h _ => some (0x0A04, h)
  | .pubAlarmOut h _ => some (0x0A05, h)
  | .pubLimits h _ => some (0x0A06, h)
  | .pubAlarmsRead h _ => some (0x0A07, h)
  | .pubStreamRaw h _ => some (0x0A80, h)
  | .pubGocbRaw h _ => some (0x0A81, h)
  | .pubTblRaw h _ => some (0x0A82, h)
  | .capStatus h => some (0x0B00, h)
  | .capUnitProfile h _ => some (0x0B01, h)
  | .capChannels h _ _ => some (0x0B02, h)
  | .capArm h _ => some (0x0B03, h)
  | .capStop h _ _ => some (0x0B04, h)
  | .capForce h _ => some (0x0B05, h)
  | .capList h _ => some (0x0B06, h)
  | .capRead h _ => some (0x0B07, h)
  | .capFree h _ => some (0x0B08, h)
  | .capLock h _ _ => some (0x0B09, h)
  | .capSeqRaw h _ _ => some (0x0B80, h)
  | .capArmX h _ _ => some (0x0B81, h)
  | .capTune h _ => some (0x0B82, h)
  | .evrStatus h => some (0x0C00, h)
  | .evrClassProfile h _ => some (0x0C01, h)
  | .evrRead h _ => some (0x0C02, h)
  | .evrPubkey h => some (0x0C03, h)
  | .evrSeal h => some (0x0C04, h)
  | .evrClearNonce h => some (0x0C05, h)
  | .evrClear h _ _ => some (0x0C06, h)
  | .evrHostEvent h _ => some (0x0C07, h)
  | .evrClassRaw h _ => some (0x0C80, h)
  | .keyStatus h => some (0x0D00, h)
  | .keyInfo h _ => some (0x0D01, h)
  | .keyGenerate h _ => some (0x0D02, h)
  | .keyImport h _ => some (0x0D03, h)
  | .keyDerive h _ => some (0x0D04, h)
  | .keyReplace h _ => some (0x0D05, h)
  | .keyReplaceCommit h _ _ => some (0x0D06, h)
  | .keyDestroy h _ => some (0x0D07, h)
  | .keyExport h _ _ => some (0x0D08, h)
  | .keyLcNonce h => some (0x0D09, h)
  | .keyLifecycle h _ _ _ => some (0x0D0A, h)
  | .keyAttest h _ _ => some (0x0D0B, h)
  | .keyTxnResult h => some (0x0D0C, h)
  | .keyImportClear h _ => some (0x0D80, h)
  | .keyAttrRaw h _ => some (0x0D81, h)
  | .keyTune h _ => some (0x0D82, h)
  | .cmdSessionOpen h _ => some (0x0E00, h)
  | .cmdSessionClose h => some (0x0E01, h)
  | .lockAcquire h _ _ _ => some (0x0E02, h)
  | .lockRenew h _ _ => some (0x0E03, h)
  | .lockRelease h _ => some (0x0E04, h)
  | .lockStatus h => some (0x0E05, h)
  | .cmdEcho h _ => some (0x0E06, h)
  | .cmdTune h _ => some (0x0E80, h)
  | .mbxStatus h _ => some (0x0F00, h)
  | .mbxSend h _ _ _ => some (0x0F01, h)
  | .mbxRecv h _ _ => some (0x0F02, h)
  | .mbxPeek h _ => some (0x0F03, h)
  | .mbxBind h _ _ _ _ => some (0x0F04, h)
  | .mbxClear h _ => some (0x0F80, h)
  | .casStatus h => some (0x1000, h)
  | .casRejoin h _ => some (0x1001, h)
  | .casReform h => some (0x1002, h)
  | .casTune h _ _ => some (0x1080, h)
  | .memStatus h => some (0x1100, h)
  | .memTickets h _ => some (0x1101, h)
  | .memHostRead h _ _ => some (0x1102, h)
  | .memHostWrite h _ _ => some (0x1103, h)
  | .memTicketsRaw h _ _ => some (0x1180, h)
  | .memLfsr h _ _ => some (0x1181, h)
  | .pairStatus h => some (0x1200, h)
  | .pairForm h _ _ => some (0x1201, h)
  | .pairJoin h => some (0x1202, h)
  | .pairSwap h => some (0x1203, h)
  | .pairSwapSched h _ => some (0x1204, h)
  | .pairRestart h => some (0x1205, h)
  | .pairSplit h => some (0x1206, h)
  | .pairTune h _ => some (0x1280, h)
  | .fltStatus h => some (0x1300, h)
  | .inject h _ => some (0x1301, h)
  | .fltInjRaw h _ => some (0x1380, h)
  | .sqDoorbell .. | .rqHeadFree .. | .heartbeatFeed .. | .fetchEnable .. | .fetchDisable .. | .blockLockSet .. | .regWritePlain ..
  | .rcCounterRead .. | .counter64LoRead .. | .timeNowLatchRead .. | .fineTimeLatchRead .. | .evrSeqLatchRead .. | .txtsIdRead ..
  | .tdcStampRead .. | .compareArm .. | .portModeChange .. | .rxTailWrite .. | .txTailWrite .. | .ingTblRead .. | .ingTblWrite ..
  | .pecTblRead .. | .pecTblWrite .. | .alnChanRead .. | .alnChanWrite .. | .oscTblRead .. | .oscTblWrite .. | .islTblReadActive ..
  | .islTblWriteStaged .. | .islTblReadStaged .. | .pubTblRead .. | .pubTblWrite .. | .alnGrpRegWrite .. | .splClassRegWrite ..
  | .capPartWrite .. | .mbxWordWrite .. | .mbxW15Read .. | .mbxBindWrite .. | .injSlotArm .. | .injSlotDisarm .. | .commandFetch ..
  | .commandTimeout .. | .coreWatchdogExpiry .. | .lockLeaseExpiry .. | .heartbeatExpiry .. | .replyCoalesceExpiry ..
  | .cascadeReplyAggregate .. | .routedCommandReceive .. | .mirroredCommandReceive .. | .mirrorAckReceive .. | .ptpMessageReceive ..
  | .announceReceiptTimeout .. | .servoMeasurement .. | .sourceUnqualifyTimeout .. | .restepTake .. | .leapSecondEnd .. | .ppsInEdge ..
  | .todSentenceReceive .. | .irigFrameReceive .. | .ppsOutPulse .. | .todSentenceSend .. | .tdcEdgeStamp .. | .compareFire ..
  | .trigOutPulseEnd .. | .tcPresChange .. | .tc10IdentityReadComplete .. | .tc10WarmupEnd .. | .frameReceive .. | .pauseExpiry ..
  | .pauseRepeat .. | .prpForgetExpiry .. | .transmitSelect .. | .frameTransmitComplete .. | .linkUp .. | .linkDown ..
  | .eqAdaptComplete .. | .modAbsChange .. | .modAbsDebounceEnd .. | .opticsReadStart .. | .opticsReadComplete .. | .opticsReadRetry ..
  | .wakePatternMatch .. | .parseFrame .. | .heldConfigApply .. | .configFrameReceive .. | .cfgPollTimer .. | .cfgFetchTimeout ..
  | .c37CommandFrameReceive .. | .svSampleIn .. | .estimateOutput .. | .slotRestart .. | .dsyncEdge .. | .crossfadeEnd ..
  | .heldSwapStart .. | .accordValueReceive .. | .provisionalIssue .. | .windowClose .. | .closeGuardEnd .. | .emptyGroupTrigger ..
  | .snapshotCommit .. | .groupStartReached .. | .groupChangeEffective .. | .classChangeEffective .. | .provisionalSnapshotEvaluate ..
  | .committedSnapshotEvaluate .. | .confirmReceive .. | .rollbackReceive .. | .flushReceive .. | .summaryPacketReceive ..
  | .provisionalViewForm .. | .ringWaitExpiry .. | .ringCommit .. | .ringCloseExpiry .. | .islModelEffective .. | .oscSnapshotIntake ..
  | .oscUpdateReady .. | .oscUpdateComplete .. | .alarmBatchReceive .. | .gooseRetransmit .. | .alarmOutMinOnExpiry ..
  | .snapshotPublish .. | .streamChangeEffective .. | .captureRowClose .. | .captureRowWaitExpiry .. | .captureEventQueue ..
  | .recordDrainComplete .. | .eventAccumulate .. | .accumulationIntervalEnd .. | .immediateHoldoffEnd .. | .recordMramWrite ..
  | .signatureBlockWrite .. | .evrNonceExpiry .. | .keyRemask .. | .keyCommitComplete .. | .stagedKeyDiscard .. | .childCascadeDestroy ..
  | .lcNonceExpiry .. | .katRun .. | .mbxClaimLapse .. | .mbxRingMessageArrive .. | .ringFormationToken .. | .ringFormationReturn ..
  | .ringFormationTimeout .. | .ringMapBroadcast .. | .ringMapReceive .. | .ringFrameReceive .. | .crInSilence .. | .ringRelock ..
  | .ringClosedToken .. | .rejoinRelease .. | .joinRecordReceive .. | .rejoinTrialTimeout .. | .arbitrationDraw .. | .barrierComplete ..
  | .fabricTimeout .. | .handshakeTimeout .. | .interlockWatchdogFeed .. | .interlockWatchdogExpiry .. | .ownWaveLost ..
  | .interlockQuiet .. | .claimConfirm .. | .claimBackoffEnd .. | .preferActiveContendTimeout .. | .pairHeartbeatSend ..
  | .pairHeartbeatReceive .. | .peerLaneLoss .. | .inclusionListReceive .. | .pairRecordFetchComplete .. | .pairAckReceive ..
  | .pairAckTimeout .. | .resultRecordReceive .. | .copyPhaseAComplete .. | .copyTCut .. | .copyImageInstalled .. | .copyComplete ..
  | .copyTimeout .. | .swapFramesDrained .. | .swapCheckExpiry .. | .swapCheckFail .. | .scheduledSwap .. | .supplyInRange ..
  | .powerUpComplete .. | .vinLoss .. | .resetNPulse .. | .perstNAssert .. | .perstNRelease .. | .wakeNEdge ..
  | .stateTransitionComplete .. | .temperatureSample .. | .islandWatchdogExpiry .. | .railWindowFault .. | .pllLockLoss ..
  | .cpmMarginLoss .. | .clockStretchEnd .. | .injectionFire .. | .injectionSpanEnd .. | .injBitClear .. | .ptpMessageInterval ..
  | .vioOutOfRange .. | .vinAboveRange .. | .pllRelock .. | .alarmOutReadbackCheck .. | .rngHealthTest .. => none

/-- The canonical forms: the register bank lists only registers away from their reset values, in rising order, and the host area of bulk memory
lists its bytes in rising order and inside the area. Equal banks and areas are then equal data. And the six time-to-digital converters are there. -/
def State.Canonical (s : State) : Prop := canon resetWord s.regs = true ∧ s.mem.wf = true ∧ s.time.tdc.length = 6

/-! ### Commands at their turn -/

/-- The instant that the head or the ACTIVE chose for the command at its turn, where one has (R57, R280, R485); TIME_RESTEP takes its second from the
command in flight. -/
def State.chosenFor (s : State) (op : Nat) (h : Hdr) : Option Instant :=
  if op = 0x0202 then none else ((s.advance h.at_).executable op h).bind (·.chosen)

/-- The state reckoned from a chosen instant. -/
def State.reckoned (s : State) : Option Instant → State
  | some c => { s with time := { s.time with now := c } }
  | none => s

/-- A state with the module time of another, where an effect was reckoned from a chosen instant. -/
def State.putBack (s t : State) : Option Instant → State
  | some _ => { t with time := { t.time with now := s.time.now } }
  | none => t

/-- The state that a command works on: the module at the command's instant, reckoned from the instant chosen for it. -/
def State.turn (s : State) (op : Nat) (h : Hdr) : State := (s.advance h.at_).reckoned (s.chosenFor op h)

/-- What a command leaves, with module time as it was. -/
def State.returned (s : State) (op : Nat) (h : Hdr) (t : State) : State := (s.advance h.at_).putBack t (s.chosenFor op h)

/-- A command is at its turn when the module takes its row (R427, R428): it is in flight here with its header checks passed and nothing of its
block ahead, it did not come over the peer lane, and no acknowledgement of a standby is owed for it (R484); the operating state and the islands
accept its opcode (R512, R529); its payload is well formed and names the present time epoch if it names one (Table 14-4). -/
def Ready (op : Nat) (h : Hdr) (s : State) : Prop :=
  (∃ f, (s.advance h.at_).executable op h = some f ∧ f.via ≠ .peer ∧ (f.st = .mirrored ∨ (s.advance h.at_).pairGate = .pass)) ∧
  (s.advance h.at_).opcodeRuns op = true ∧ h.form = .good ∧ (h.epoch = none ∨ h.epoch = some s.time.epoch)

/-- The command `i`, of opcode `op` and header `h`, performs its own effect `f` wherever `cond` holds of the module at the command's instant: at
its turn, and where `f` changes no field behind a lock (R579), the step answers a next state, in which the effect is complete and the command
has its outcome OK (R420, R421). -/
def Performs (i : Sys2Proof.Instr) (op : Nat) (h : Hdr) (cond : State → Prop) (f : State → State) : Prop :=
  ∀ s, Ready op h s → cond (s.turn op h) → (s.turn op h).breaksLock (f (s.turn op h)) = false →
    ∃ words, exec i s = .next ((s.returned op h (f (s.turn op h))).complete h.session h.seq St.OK words)

/-- The command reads: wherever it is at its turn, the step answers a next state that changes nothing but the command's own outcome OK. -/
def Reads (i : Sys2Proof.Instr) (op : Nat) (h : Hdr) : Prop :=
  ∀ s, Ready op h s → ∃ words, exec i s = .next ((s.advance h.at_).complete h.session h.seq St.OK words)

/-- The command `i` is accepted wherever `cond` holds of the module at its turn: the step answers a next state, in which `f` has begun the work
that ends later and the host has its ACCEPTED reply (R419, R420). -/
def Accepts (i : Sys2Proof.Instr) (op : Nat) (h : Hdr) (cond : State → Prop) (f : State → State) : Prop :=
  ∀ s, Ready op h s → cond (s.turn op h) → (s.turn op h).breaksLock (f (s.turn op h)) = false →
    ∃ g, (s.advance h.at_).flight? h.session h.seq = some g ∧ exec i s = .next ((s.returned op h (f (s.turn op h))).postAccepted g)

/-- The command `i` joins a queue wherever `cond` holds of the module at its turn: the step answers a next state, in which `f` has queued it and
the command waits for its turn. -/
def Queues (i : Sys2Proof.Instr) (op : Nat) (h : Hdr) (cond : State → Prop) (f : State → State) : Prop :=
  ∀ s, Ready op h s → cond (s.turn op h) →
    exec i s = .next ((s.returned op h (f (s.turn op h))).updFlights (List.map (fun g => if g.is h.session h.seq then { g with st := .waiting } else g)))

/-- What a command sends to its host buffer comes there: over the ring, not twice poisoned (R539). -/
def State.chunksPass (s : State) (via : Via) : Prop :=
  via ≠ .ring ∨ (s.takePoison 7).1 = none ∨ ((s.takePoison 7).2.takePoison 7).1 = none

/-- The state once what a command sends to its host buffer is there: a chunk that came poisoned once has been sent again. -/
def State.chunksGone (s : State) (via : Via) : State := if via == .ring then (s.takePoison 7).2 else s

/-- The command `i` performs its own effect `f` and sends what it reads to its host buffer. -/
def Sends (i : Sys2Proof.Instr) (op : Nat) (h : Hdr) (cond : State → Prop) (f : State → State) : Prop :=
  Performs i op h (fun n => cond n ∧ (f n).chunksPass h.via) (fun n => (f n).chunksGone h.via)

/-! ### Changes of a group's settings -/

/-- A STARTING or RUNNING group with no change pending accepts a change (R204, R208, R210): a set kept in history fits its allocation, and the load
fits. -/
def State.acceptsChange (s : State) (g : Nat) (w : GrpWords) (set : Option (List Nat)) : Prop :=
  ((s.group g).st = .starting ∨ (s.group g).st = .running) ∧ (s.group g).pend = none ∧
  (set ≠ none → w.histEn = true → (set.getD []).length ≤ (s.group g).maxChan) ∧ s.changeLoadErr g w (set.getD (s.group g).set) = 0

/-- A STOPPED group takes a change at once (R204). -/
def State.takesChange (s : State) (g : Nat) (w : GrpWords) (set : Option (List Nat)) : Prop :=
  (s.group g).st = .stopped ∧ (set ≠ none → w.histEn = true → (set.getD []).length ≤ (s.group g).maxChan)

/-- The change made at once. -/
def State.changeNow (s : State) (g : Nat) (w : GrpWords) (set : Option (List Nat)) : State :=
  State.applyChange ((s.holdNew g set).updGroup g (fun x => { x with pend := some ⟨0, 0, w, set⟩ })) g

end Sys2Proof.Machine
end

