-- ==== Sys2Proof/Certificates/Slice0/Obligations.lean ====
section
/-! DEFINITION. The statements of this model: what its commands and events do, rule by rule, where each completes, what it leaves unchanged, and what
every step keeps. -/

section
open Sys2Proof Sys2Proof.Machine

/-! ### Steps -/

/-- A step with a command or event at the front of the queue is that command or event run on the module with the rest of the queue. With an empty
queue the module stays as it is: idling is the model's own choice (DESIGN CHOICE, log entry 2). -/
def Obligations.StepRunsTheFront : Prop :=
  (∀ (c : Instr) (s : State) (rest : List Instr), step { s with pending := c :: rest } = exec c { s with pending := rest }) ∧
  (∀ s : State, s.pending = [] → step s = .next s)

/-! ### Global commands and the command block (chapters 14 and 21) -/

/-- IDENTITY and GLB_STATUS read; GLB_ENABLE writes the enables named, GLB_LOCK locks the blocks named, REG_READ reads a run of registers and
REG_WRITE writes its pairs in order. -/
def Obligations.GlobalCommandsComplete : Prop :=
  (∀ h, Reads (.identity h) 0x0000 h) ∧
  (∀ h, Reads (.glbStatus h) 0x0001 h) ∧
  (∀ h l, Performs (.glbEnable h l) 0x0002 h
    (fun n => ∀ x ∈ l, x.fields ≠ 0#32 ∧ clearBits x.fields (word (enableMask x.block.val)) = 0#32 ∧
      n.takesWrites (ctlReg x.block x.port) = true ∧ n.lockRefuses (ctlReg x.block x.port) (n.enabledWord x) = false)
    (fun n => l.foldl (fun (t : State) x => t.writeReg h.session (ctlReg x.block x.port) (t.enabledWord x)) n)) ∧
  (∀ h l, Performs (.glbLock h l) 0x0003 h (fun n => ∀ x ∈ l, hasLock (ctlReg x.1 x.2) = true ∧ n.takesWrites (ctlReg x.1 x.2) = true)
    (fun n => l.foldl (fun (t : State) x => t.lockBlock x.1 x.2) n)) ∧
  (∀ h addr k, Performs (.regRead h addr k) 0x0080 h (fun _ => 0 < k ∧ k ≤ 1016) (fun n => (n.readRun addr.toNat k).2)) ∧
  (∀ h l s, Ready 0x0081 h s → l.length ≤ 503 →
    ((∃ p ∈ l, isInjReg p.1.toNat = true) → (s.turn 0x0081 h).injAllowed = true) →
    (s.pair.st = .unpaired ∨ (∀ p ∈ l, inMirrored p.1 = true) ∨ (∀ p ∈ l, inMirrored p.1 = false)) →
    ((∃ p ∈ l, isClassWord p.1.toNat = true) → (s.turn 0x0081 h).classPending = false) →
    ((s.turn 0x0081 h).writeRun h.session l).1 = 0 →
    exec (.regWrite h l) s =
      .next ((s.returned 0x0081 h ((s.turn 0x0081 h).writeRun h.session l).2).complete h.session h.seq St.OK []))

/-- The commands of the command block: sessions open and close, locks are granted, renewed and released, LOCK_STATUS and CMD_ECHO answer, and
CMD_TUNE sets what it names. And the 16 words of a header (Table 14-1) spell the command that they were laid out from: its opcode and every field
that a header carries. -/
def Obligations.CommandBlockCompletes : Prop :=
  (∀ h e, Performs (.cmdSessionOpen h e) 0x0E00 h (fun _ => True)
    (fun n => (n.dropLocks h.session).updSession h.session (fun _ => ⟨true, e, h.seq, [⟨h.seq, h.noReply, none⟩], []⟩))) ∧
  (∀ h, Performs (.cmdSessionClose h) 0x0E01 h (fun _ => True)
    (fun n => (n.dropLocks h.session).updSession h.session (fun _ => closedSession))) ∧
  (∀ h n d w s, Ready 0x0E02 h s → 10 ≤ d → d ≤ 60000 → (∀ m ∈ (s.turn 0x0E02 h).locksOf h.session, m < n.val) →
    ((s.turn 0x0E02 h).lock n.val).owner = none →
    (s.turn 0x0E02 h).breaksLock ((s.turn 0x0E02 h).grant n.val h.session d).2 = false →
    exec (.lockAcquire h n d w) s = .next ((s.returned 0x0E02 h ((s.turn 0x0E02 h).grant n.val h.session d).2).complete h.session h.seq
      (if ((s.turn 0x0E02 h).lock n.val).broken then St.LOCK_BROKEN else St.OK) [])) ∧
  (∀ h n d, Queues (.lockAcquire h n d true) 0x0E02 h
    (fun m => 10 ≤ d ∧ d ≤ 60000 ∧ (∀ k ∈ m.locksOf h.session, k < n.val) ∧ (m.lock n.val).owner ≠ none)
    (fun m => m.updLock n.val (fun l => { l with queue := l.queue ++ [⟨h.session, h.seq, d⟩] }))) ∧
  (∀ h n d, Performs (.lockRenew h n d) 0x0E03 h (fun m => 10 ≤ d ∧ d ≤ 60000 ∧ (m.lock n.val).owner = some h.session)
    (fun m => m.updLock n.val (fun l => { l with due := m.up + ms d }))) ∧
  (∀ h n, Performs (.lockRelease h n) 0x0E04 h (fun m => (m.lock n.val).owner = some h.session)
    (fun m => (m.updLock n.val (fun l => { l with owner := none, broken := false })).passLock n.val)) ∧
  (∀ h, Reads (.lockStatus h) 0x0E05 h) ∧
  (∀ h p s, Ready 0x0E06 h s → exec (.cmdEcho h p) s = .next ((s.advance h.at_).complete h.session h.seq St.OK p)) ∧
  (∀ h a, Performs (.cmdTune h a) 0x0E80 h
    (fun _ => (∀ v, a.defTimeoutMs = some v → 1 ≤ v ∧ v ≤ 600000) ∧ (∀ v, a.coalCnt = some v → 1 ≤ v ∧ v ≤ 255) ∧ (∀ v, a.coalUs = some v → v ≤ 1000))
    (fun n =>
      let t := n.setCmd (fun c => { c with defTimeout := a.defTimeoutMs.getD c.defTimeout })
      let t := (a.coalCnt.map (t.setRf Reg.CMD_INT_COAL 7 0)).getD t
      (a.coalUs.map (t.setRf Reg.CMD_INT_COAL 25 16)).getD t)) ∧
  (∀ (h k : Hdr) (op : Nat), op < 2 ^ 16 → h.tag < 2 ^ 16 → h.payLen < 2 ^ 32 → h.timeoutMs < 2 ^ 32 → h.bufAddr < 2 ^ 64 → h.bufLen < 2 ^ 32 →
    (h.words op).length = 16 ∧ k.read (h.words op) =
      (op, { h with at_ := k.at_, via := k.via, epoch := k.epoch, chosen := k.chosen, form := k.form, hostGen := k.hostGen }))

/-- What happens to the command registers and to commands on their way, outside a command's own effect: a lock bit, a plain write, a counter read,
the doorbell, freed replies, the heartbeat and the fetch enable through BAR0; fetching, routing, mirroring, timeouts, watchdogs, leases and
coalescing. -/
def Obligations.CommandEventsComplete : Prop :=
  (∀ a b p s, hasLock (ctlReg b p) = true → (s.advance a).takesWrites (ctlReg b p) = true →
    exec (.blockLockSet a b p) s = .next ((s.advance a).setRb (ctlReg b p) 31 true)) ∧
  (∀ a addr v s, (isInjReg addr.toNat = true → (s.advance a).injAllowed = true) →
    exec (.regWritePlain a addr v) s = .next ((s.advance a).writeReg 0 addr.toNat v)) ∧
  (∀ a addr s, exec (.rcCounterRead a addr) s =
    .next { ((s.advance a).readReg addr.toNat).2 with rdata := [((s.advance a).readReg addr.toNat).1] }) ∧
  (∀ a k s, (s.advance a).barOpen = true → exec (.sqDoorbell a k) s = .next ((s.advance a).writeTail k)) ∧
  (∀ a k s, (s.advance a).barOpen = true → exec (.rqHeadFree a k) s = .next ((s.advance a).freeReplies k.toNat)) ∧
  (∀ a s, (s.advance a).barOpen = true → exec (.heartbeatFeed a) s = .next (s.advance a).feedHeartbeat) ∧
  (∀ a s, (s.advance a).barOpen = true → exec (.fetchEnable a) s = .next ((s.advance a).enableFetch true)) ∧
  (∀ a s, (s.advance a).barOpen = true → exec (.fetchDisable a) s = .next ((s.advance a).enableFetch false)) ∧
  (∀ op h s, (s.advance h.at_).fetchable = true → (s.advance h.at_).roomFor op.toNat h = true →
    exec (.commandFetch op h) s = .next ((s.advance h.at_).takeSlot.checkAndAdmit op.toNat { h with via := .host })) ∧
  (∀ op h s, (s.advance h.at_).runs Isle.control = true → (s.advance h.at_).inRing = true →
    exec (.routedCommandReceive op h) s =
      .next (((s.advance h.at_).learnGen hostIdent h.hostGen).addFlight
        ((s.advance h.at_).newFlight op.toNat { h with via := .ring } .admitted 0))) ∧
  (∀ a op h s, (s.advance a).runs Isle.control = true → s.pair.st ≠ .unpaired →
    exec (.mirroredCommandReceive a op h) s =
      .next ((s.advance a).addFlight ((s.advance a).newFlight op.toNat { h with via := .peer } .admitted 0))) ∧
  (∀ a n q st f s, (s.advance a).flight? n q = some f → f.st = .mirroring →
    exec (.mirrorAckReceive a n q st) s = .next (if tookEffect st.toNat = true
      then (s.advance a).updFlights (List.map (fun g => if g.is n q then { g with st := .mirrored } else g))
      else (s.advance a).postFinal f st.toNat [])) ∧
  (∀ n q f s, s.flight? n q = some f → f.uncommitted = true →
    exec (.commandTimeout n q) s = .next (
      let t := ((((s.advanceUp f.due).abandon f (timeoutStatus f)).count (Reg.CMD_CNT 2) 1)).raise 22 (f.limit : Rat)
        [word n.val, word f.opcode, word f.tag]
      if f.st == .mirroring && t.pair.st == .active then t.enterPair .solo 6 false else t)) ∧
  (∀ a c l s, (s.advance a).runs Isle.control = true → (∀ i, ((s.advance a).occasion 3 c.val true).1 = some i →
    exec (.coreWatchdogExpiry a c true l) s =
      .next ((((s.advance a).occasion 3 c.val true).2.detect 3 i 0 [word c.val]).resetCore c l))) ∧
  (∀ n o s, (s.lock n.val).owner = some o → exec (.lockLeaseExpiry n) s = .next ((s.advanceUp (s.lock n.val).due).breakLock n.val false)) ∧
  (∀ u s, s.cmd.hbDue = some u → exec .heartbeatExpiry s = .next ((s.advanceUp u).expireHeartbeat true)) ∧
  (∀ n u s, ((s.cmd.coal[n.val]?).getD ⟨0, none⟩).due = some u →
    exec (.replyCoalesceExpiry n) s = .next (((s.advanceUp u).setCmd (fun c =>
      { c with coal := updAt c.coal n.val (fun x => { x with due := none }) })).vector n.val)) ∧
  (∀ a n q g f s, s.cmd.aggs.find? (fun x => x.session == n && x.seq == q) = some g → (s.advance a).flight? n q = some f →
    (s.advance a).allReplied g = true → exec (.cascadeReplyAggregate a n q) s = .next ((s.advance a).closeAggregate f g false))

/-! ### The time base (chapter 02) -/

/-- The time-base commands: TIME_STATUS reads; TIME_PROFILE, TIME_SOURCES, TIME_OUTPUTS, TIME_SERVO, TIME_DISCONT_CFG and TIME_PTP_DS set what they
name; TIME_RESTEP is accepted for the first whole second of source time at least 10 ms ahead, or for the second that the head or the ACTIVE chose. -/
def Obligations.TimeCommandsComplete : Prop :=
  (∀ h, Reads (.timeStatus h) 0x0200 h) ∧
  (∀ h p, Performs (.timeProfile h p) 0x0201 h (fun _ => True) (fun n => (n.setTime (fun t => { t with
    role := p.role, profile := p.profile, domain := p.domain, twoStep := p.twoStep, udp := p.udp
    ptp := (upto 10).map (fun i => freshPtpPort (p.ports.getLsbD i) (profileDS p.profile) t.up) })).reselect)) ∧
  (∀ h, Accepts (.timeRestep h) 0x0202 h
    (fun n => n.time.restep = none ∧ ((n.time.servo = .acquire ∧ n.time.stepped = true) ∨ n.time.servo = .locked ∨ n.time.servo = .discont))
    (fun n => n.setTime (fun t => { t with
      restep := some ⟨h.session, h.seq, ((n.flight? h.session h.seq).bind (·.chosen)).getD
        (ceilSec ((n.now : Int) - n.time.lead + (ms 10 : Nat)).toNat)⟩ }))) ∧
  (∀ h p, Performs (.timeSources h p) 0x0203 h
    (fun _ => ∀ i < 6, p.prio.toNat / 16 ^ i % 16 ≠ 13 ∧ p.prio.toNat / 16 ^ i % 16 ≠ 14)
    (fun n => (match p.refFreq with
      | some b => (n.setRf Reg.TB_SRC_CTL 23 0 p.prio.toNat).setRb Reg.TB_SRC_CTL 28 b
      | none => n.setRf Reg.TB_SRC_CTL 23 0 p.prio.toNat).reselect)) ∧
  (∀ h p, Performs (.timeOutputs h p) 0x0204 h
    (fun n => n.rb Reg.TB_CTL 31 = false ∨ p.outEn = n.rb Reg.TB_CTL 2)
    (fun n => (n.setReg Reg.TB_OUT_CTL (put 8 0 (min 500 p.ppsWidth) ||| putBit 9 p.ppsFree ||| putBit 10 p.todEn ||| put 13 12 p.todBaud.val)).setRb
      Reg.TB_CTL 2 p.outEn)) ∧
  (∀ h p, Performs (.timeServo h p) 0x0280 h (fun _ => p.lockNs ≤ 255 ∧ p.driftPs < 2 ^ 24)
    (fun n => ((n.setRf Reg.TB_SERVO_CTL 8 0 (min 500 p.bwMhz)).setRf Reg.TB_DISC_CTL 27 20 p.lockNs).setRf Reg.TB_HOLD_CTL 23 0 p.driftPs)) ∧
  (∀ h p, Performs (.timeDiscontCfg h p) 0x0281 h (fun _ => p.confirm ≤ 7)
    (fun n => ((n.setRf Reg.TB_DISC_CTL 19 0 (min 1000000 p.stepThresh)).setRf Reg.TB_DISC_CTL 30 28 p.confirm).setRb Reg.TB_DISC_CTL 31 p.hold)) ∧
  (∀ h p, Performs (.timePtpDs h p) 0x0282 h (fun _ => True) (fun n =>
    let a := n.setTime (fun t => { t with
      clockDS := p.clock.getD t.clockDS, timesDS := p.times.getD t.timesDS
      ptp := updAt t.ptp p.port.val (fun x => { x with ds := p.ds.getD x.ds }) })
    (p.asym.map (fun v => a.setRf (Reg.TB_PORT_ASYM p.port.val) 15 0 v.toNat)).getD a))

/-- The time base's sources and outputs: measurements, time-outs, steps, leap seconds, edges, sentences and frames. -/
def Obligations.TimeSourceEventsComplete : Prop :=
  (∀ a m s, (s.advance a).runs Isle.fixative = true → exec (.servoMeasurement a m) s = .next ((s.advance a).servoMeasure m)) ∧
  (∀ c u s, (s.srcQual c.val).due = some u → exec (.sourceUnqualifyTimeout c) s = .next ((s.advanceUp u).unqualify c.val)) ∧
  (∀ r s, s.time.restep = some r →
    let n := s.advance ((r.second : Int) + s.time.lead).toNat
    let step : Int := (r.second : Int) - (n.now : Int)
    let t := ((n.setTime (fun t => { t with restep := none })).stepTo r.second).setServo .acquire
    exec .restepTake s = .next (t.complete r.session r.seq St.OK
      ([t.time.epoch] ++ int64Words (step / 65536) ++ [word (unsign 16 step)] ++ instantWords r.second))) ∧
  (∀ dir l s, s.time.leap = some (dir, l) → exec .leapSecondEnd s =
    .next (((s.advance l).setRf Reg.TB_UTC_CTL 7 0 (unsign 8 (s.utcOffset + dir))).setTime (fun t => { t with leap := none }))) ∧
  (∀ a r w s, (s.advance a).runs Isle.fixative = true → r ≠ (s.advance a).rb Reg.TB_TOD_CTL 2 → 100 ≤ w → (s.advance a).rb Reg.TB_CTL 3 = true →
    (∀ u, s.time.ppsIn = some u → u + ms 900 ≤ (s.advance a).up) →
    exec (.ppsInEdge a r w) s = .next (match ((s.advance a).stampEdge 4).2 with
      | some t => ((s.advance a).stampEdge 4).1.setTime (fun x => { x with ppsIn := some x.up, ppsStamp := some t })
      | none => ((s.advance a).stampEdge 4).1)) ∧
  (∀ a r w u s, (s.advance a).runs Isle.fixative = true → r ≠ (s.advance a).rb Reg.TB_TOD_CTL 2 → 100 ≤ w → (s.advance a).rb Reg.TB_CTL 3 = true →
    s.time.ppsIn = some u → (s.advance a).up < u + ms 900 → exec (.ppsInEdge a r w) s = .next ((s.advance a).countFld Reg.TB_SRC_STAT 23 16 1)) ∧
  (∀ a m u sc utc leap tq s, (s.advance a).runs Isle.fixative = true → (s.advance a).todMode = 1 → s.time.ppsIn = some u →
    u + ms 10 ≤ (s.advance a).up → (s.advance a).up ≤ u + ms 900 → readTod m.chars = some (sc, utc, leap, tq) →
    exec (.todSentenceReceive a m) s = .next ((s.advance a).takeSentence sc utc leap tq)) ∧
  (∀ a f s, (s.advance a).runs Isle.fixative = true → (s.advance a).todMode = 2 → (f.ieee1344 = true → f.parityOk = true) →
    exec (.irigFrameReceive a f) s = .next ((s.advance a).takeIrig f)) ∧
  (∀ s, s.runs Isle.fixative = true → (s.advance s.nextSecond).ppsAllowed = true → exec .ppsOutPulse s =
    .next ((s.advance s.nextSecond).setTime (fun t => { t with
      ppsOutLast := some t.now, ppsOutEnd := some (t.up + ms (s.advance s.nextSecond).ppsWidth) }))) ∧
  (∀ e s, s.time.ppsOutLast = some e → s.time.todSent ≠ some e → s.rb Reg.TB_OUT_CTL 10 = true → s.rb Reg.TB_CTL 2 = true →
    s.runs Isle.fixative = true → exec .todSentenceSend s = .next ((s.advance (e + ms 20)).setTime (fun t => { t with
      todSent := some e, todOut := t.todOut ++ [(s.advance (e + ms 20)).todSentence e] })))

/-- Edges and compares: an edge is stamped, an armed unit fires when its target is reached, its pulse ends, and the latched registers read. -/
def Obligations.StampAndCompareEventsComplete : Prop :=
  (∀ a r s, (s.advance a).runs Isle.fixative = true → exec (.tdcEdgeStamp a 4 r) s = .next ((s.advance a).ppsEdge r 100)) ∧
  (∀ a r t s, (s.advance a).runs Isle.fixative = true → (s.advance a).rb Reg.TB_CTL 3 = true → ((s.advance a).stampEdge 5).2 = some t →
    exec (.tdcEdgeStamp a 5 r) s = .next (((s.advance a).stampEdge 5).1.keepIrigEdge r t)) ∧
  (∀ a (n : Fin 6) r t s, n.val < 4 → ((s.advance a).trigLevel n.val r).runs Isle.fixative = true →
    ((s.advance a).trigLevel n.val r).rb Reg.TB_CTL 3 = true → ((s.advance a).trigLevel n.val r).edgeSelected n.val r = true →
    (((s.advance a).trigLevel n.val r).stampEdge n.val).2 = some t →
    exec (.tdcEdgeStamp a n r) s = .next ((((s.advance a).trigLevel n.val r).stampEdge n.val).1.trigEdge n.val r t)) ∧
  (∀ n s, s.rb (Reg.TB_CMP_CTL n.val) 0 = true → exec (.compareFire n) s = .next ((s.advance (s.cmpDue n.val)).fireCompare n.val false)) ∧
  (∀ n x l s, (s.time.cmpPulse[n.val]?).getD [] = x :: l → exec (.trigOutPulseEnd n) s =
    .next ((s.advanceUp x.2).setTime (fun t => { t with cmpPulse := updAt t.cmpPulse n.val (fun l => l.drop 1) }))) ∧
  (∀ a s, exec (.timeNowLatchRead a) s = .next { (s.advance a).readNow.2 with rdata := [(s.advance a).readNow.1] }) ∧
  (∀ a s, exec (.fineTimeLatchRead a) s = .next { (s.advance a).readFine.2 with rdata := [(s.advance a).readFine.1] }) ∧
  (∀ a p s, exec (.txtsIdRead a p) s = .next { ((s.advance a).readTxts p.val).2 with rdata := [((s.advance a).readTxts p.val).1] }) ∧
  (∀ a n s, exec (.tdcStampRead a n) s = .next { ((s.advance a).readTdc n.val).2 with rdata := [((s.advance a).readTdc n.val).1] }) ∧
  (∀ a n irq act s, exec (.compareArm a n irq act) s =
    .next ((((s.advance a).setRb (Reg.TB_CMP_CTL n.val) 3 irq).setRf (Reg.TB_CMP_CTL n.val) 2 1 act.val).armCompare n.val))

/-- The PTP engine takes the oldest message given to it, and acts at its time-outs and intervals. -/
def Obligations.PtpEventsComplete : Prop :=
  (∀ a p m ts rest s, s.ports.ptpIn = (p, m, ts) :: rest → s.runs Isle.fixative = true → exec (.ptpMessageReceive a) s =
    .next (({ (s.advance a) with ports := { s.ports with ptpIn := rest } } : State).ptpHandle p m ts)) ∧
  (∀ p u s, (s.ptpPort p.val).announceBy = some u → exec (.announceReceiptTimeout p) s =
    .next (let t := ((s.advanceUp u).updPtp p.val (fun x => { x with
      best := none, pendSync := none, pdelayRx := none, missed := x.missed + 1
      announceBy := some ((s.advanceUp u).up + ms (max 1 (x.ds.announceMs * x.ds.receipt))) })).decidePtp
      if 3 ≤ (t.ptpPort p.val).missed && (t.srcQual p.val).qualified then t.unqualify p.val else t)) ∧
  (∀ p u s, sooner (s.ptpPort p.val).annDue (sooner (s.ptpPort p.val).syncDue (s.ptpPort p.val).delayDue) = some u →
    s.rb Reg.TB_CTL 1 = true → s.runs Isle.fixative = true → (s.ptpPort p.val).st ≠ .disabled →
    let n := s.advanceUp u
    let due (d : Option Nat) : Bool := d.any (fun v => decide (v ≤ n.up))
    let next (d : Option Nat) (msec : Nat) : Option Nat := if due d then some (n.up + ms (max 1 msec)) else d
    exec (.ptpMessageInterval p) s = .next ((n.updPtp p.val (fun y => { y with
      annDue := next y.annDue y.ds.announceMs, syncDue := next y.syncDue y.ds.syncMs, delayDue := next y.delayDue y.ds.delayMs })).ptpSend p.val
        (due (s.ptpPort p.val).annDue) (due (s.ptpPort p.val).syncDue) (due (s.ptpPort p.val).delayDue)))

/-! ### The ports (chapter 03) -/

/-- The port and wake commands: status and optics read; profile, rings, PRP, MACsec, equalizer, MAC settings, the optics override and the wake
patterns set what they name. -/
def Obligations.PortCommandsComplete : Prop :=
  (∀ h p, Reads (.portStatus h p) 0x0300 h) ∧
  (∀ h a, Performs (.portProfile h a) 0x0301 h
    (fun n => a.mode ≤ 7 ∧ a.fec ≤ 3 ∧ ∀ p < 10, a.ports.getLsbD p = true → n.rb (Reg.PORT_CTL p) 31 = false ∨
      (n.rf (Reg.PORT_CTL p) 3 1 = a.mode ∧ n.rf (Reg.PORT_CTL p) 9 8 = a.fec ∧ n.rb (Reg.PORT_CTL p) 10 = a.an))
    (fun n => ((upto 10).filter (fun p => a.ports.getLsbD p)).foldl (fun (t : State) p => t.portProfile p a) n)) ∧
  (∀ h a, Performs (.portRings h a) 0x0302 h
    (fun _ => ∀ g ∈ a.rings, g.base.toNat % 64 = 0 ∧ powerIn 64 4096 g.size = true)
    (fun n => (a.filters.foldl (fun (t : State) f =>
      t.setReg (Reg.PORT_HOST_FILT a.port.val f.index.val) (putBit 31 f.enabled ||| put 15 0 f.etherType.toNat))
      (a.rings.foldl (fun (t : State) g => t.setupRing a.port.val g) n)).checkPause a.port.val)) ∧
  (∀ h a, Performs (.portPrp h a) 0x0303 h (fun _ => 10 ≤ a.forgetMs ∧ a.forgetMs ≤ 1000)
    (fun n => n.setReg (Reg.PORT_PRP_CTL (lanA a.pair.val)) (put 25 16 a.forgetMs ||| putBit 0 a.enable))) ∧
  (∀ h a, Performs (.portMacsec h a) 0x0304 h (fun _ => a.port.val < 8 ∧ a.install = false)
    (fun n => (n.updPort a.port.val (fun x => { x with macsec := x.macsec.change a [] [] })).setRf (Reg.PORT_MSEC_CTL a.port.val) 2 1 a.validate.val)) ∧
  (∀ h a, Performs (.portMacsec h a) 0x0304 h
    (fun n => a.port.val < 8 ∧ a.install = true ∧ (n.useKeySlot a.slot [0]).1 = St.OK)
    (fun n =>
      let k := n.keyBytes a.slot
      let m := padTo k.length ((n.useKeySlot a.slot [0]).2.random k.length).1
      (((n.useKeySlot a.slot [0]).2.random k.length).2.updPort a.port.val
        (fun x => { x with macsec := x.macsec.change a m (xorBytes k m) })).setRf (Reg.PORT_MSEC_CTL a.port.val) 2 1 a.validate.val)) ∧
  (∀ h p b, Reads (.portOptics h p b) 0x0305 h) ∧
  (∀ h a, Performs (.portEq h a) 0x0380 h (fun _ => True)
    (fun n => n.setReg (Reg.PORT_EQ_CTL a.port.val) (put 5 0 a.pre.toNat ||| put 13 8 a.main.toNat ||| put 21 16 a.post.toNat |||
      put 28 24 a.ctle.toNat ||| putBit 31 a.freeze))) ∧
  (∀ h a, Performs (.portMacRaw h a) 0x0381 h
    (fun _ => a.replayWin < 2 ^ 30 ∧ a.pnWarn < 2 ^ 64 ∧ (a.offset = none ∨ a.offset = some 0 ∨ a.offset = some 30 ∨ a.offset = some 50))
    (fun n => (((((n.setRf (Reg.PORT_MAC_CTL a.port.val) 29 16 (min 9600 a.maxLen)).setReg (Reg.PORT_PAUSE_CTL a.port.val)
      (put 15 0 a.quanta.toNat ||| put 23 16 a.xoff.toNat ||| put 31 24 a.xon.toNat)).setRb (Reg.PORT_MSEC_CTL a.port.val) 3 true).updPort
      a.port.val (fun x => { x with
        macsec := { x.macsec with pnWarn := some a.pnWarn, replayWin := a.replayWin, offset := a.offset } })).checkPause a.port.val))) ∧
  (∀ h p on, Performs (.portOptOverride h p on) 0x0382 h (fun _ => True)
    (fun n => (n.setRb (Reg.PORT_OPT_CTL p.val) 1 on).rejudge p.val)) ∧
  (∀ h a, Performs (.wakePattern h a) 0x0110 h (fun _ => (∀ x ∈ a.bytes, x.1 < 128) ∧ noDup (a.bytes.map (·.1)) = true)
    (fun n => ((upto 4).foldl (fun (t : State) w => t.setReg (wakeMaskReg a.m.val a.k.val w) (maskWord (a.bytes.map (·.1)) w)) n).setReg
      (wakeCrcReg a.m.val a.k.val)
      (put 15 0 (crc16 ((sortBy (fun x y => decide (x.1 ≤ y.1)) a.bytes).map (·.2))) ||| putBit 31 a.enable))) ∧
  (∀ h a, Performs (.wakePatternRaw h a) 0x0190 h (fun _ => True)
    (fun n => ((upto 4).foldl (fun (t : State) w => t.setReg (wakeMaskReg a.m.val a.k.val w) ((a.mask.toList[w]?).getD 0#32)) n).setReg
      (wakeCrcReg a.m.val a.k.val) (a.crc &&& 0x8000FFFF#32)))

/-- Frames, links, rings and PAUSE: what a port does with a frame on its wire, when its PAUSE and PRP timers run out, when it is between
frames, when its link conditions change, and when its rings and counters are accessed. -/
def Obligations.PortEventsComplete : Prop :=
  (∀ a p f s, (s.port p.val).link = true → s.runs p.val = true → exec (.frameReceive a p f) s = 
    .next ((s.advance a).receiveFrame p.val f ((s.advance a).lanATies a p.val f))) ∧
  (∀ p u s, (s.port p.val).pauseEnd = some u → exec (.pauseExpiry p) s =
    .next (((s.advanceUp u).countPaused p.val).updPort p.val (fun x => { x with pauseEnd := none, pausedAt := none }))) ∧
  (∀ p u s, (s.port p.val).xoffDue = some u → (s.advanceUp u).wantsPause p.val = true →
    exec (.pauseRepeat p) s = .next ((s.advanceUp u).pauseNow p.val)) ∧
  (∀ p u s, (s.port p.val).xoffDue = some u → (s.advanceUp u).wantsPause p.val = false →
    exec (.pauseRepeat p) s = .next ((s.advanceUp u).updPort p.val (fun x => { x with xoffDue := none }))) ∧
  (∀ k x e rest s, s.ports.pairs[Fin.val k]? = some x → x.window = e :: rest → exec (.prpForgetExpiry k) s =
    .next { (s.advanceUp e.due) with ports := { s.ports with
      pairs := updAt s.ports.pairs k.val (fun x => { x with window := x.window.drop 1 }) } }) ∧
  (∀ a p s, exec (.transmitSelect a p) s = .next ((s.advance a).selectTx p.val)) ∧
  (∀ a p s, exec (.frameTransmitComplete a p) s = .next ((s.advance a).completeTx p.val)) ∧
  (∀ a p c s, exec (.linkUp a p c) s = .next (((s.advance a).updPort p.val (fun x => { x with
    signal := c.signal, blockLock := c.blockLock, fecLock := c.fecLock, anDone := c.anDone, phySlow := c.phySlow
    adapted := x.adapted && !(c.signal && !(s.port p.val).signal)
    adaptDue := if c.signal && !(s.port p.val).signal then (s.advance a).adaptFrom p.val true else x.adaptDue })).relink p.val 0)) ∧
  (∀ a p s, exec (.linkDown a p) s = .next (((s.advance a).updPort p.val (fun x => { x with
    signal := false, blockLock := false, fecLock := false, anDone := false, adapted := false, adaptDue := none })).linkDown p.val 1)) ∧
  (∀ a p e u s, (s.port p.val).adaptDue = some u → (s.advance a).up ≤ u → exec (.eqAdaptComplete a p e) s =
    .next ((((s.advance a).takeEq p.val e).updPort p.val (fun x => { x with adaptDue := none, adapted := true })).tryLink p.val)) ∧
  (∀ a p e s, (s.port p.val).adaptDue = none → p.val < 8 → (s.port p.val).signal = true →
    exec (.eqAdaptComplete a p e) s = .next ((s.advance a).takeEq p.val e)) ∧
  (∀ a p m f s, s.rb (Reg.PORT_CTL p.val) 31 = false →
    exec (.portModeChange a p m f) s = .next ((s.advance a).changeMode p.val m.val f.val)) ∧
  (∀ a p r t s, exec (.rxTailWrite a p r t) s = .next ((s.advance a).writeRxTail p.val r.val t.toNat)) ∧
  (∀ a p r t l s, exec (.txTailWrite a p r t l) s = .next ((s.advance a).writeTxTail p.val r t.toNat l)) ∧
  (∀ a p b s, exec (.counter64LoRead a p b) s =
    .next { ((s.advance a).readCnt64 p.val b).2 with rdata := [((s.advance a).readCnt64 p.val b).1] })

/-- The optics of a port: a change of MOD_ABS, its debounce, and the read of page A0h with its retries and its checks. -/
def Obligations.OpticsEventsComplete : Prop :=
  (∀ a p b s, ((s.advance a).updPort p.val (fun x => { x with modAbsPin := b })).monitored p.val = true → s.runs p.val = true →
    let t := (s.advance a).updPort p.val (fun x => { x with modAbsPin := b })
    exec (.modAbsChange a p b) s = .next (((t.freeI2c p).updPort p.val
      (fun x => { x with optics := .debounce (t.up + ms 50), optReason := 7, retries := 0 })).relink p.val 3)) ∧
  (∀ p u s, (s.port p.val).optics = .debounce u → (s.port p.val).modAbsPin = true → exec (.modAbsDebounceEnd p) s =
    .next ((((s.advanceUp u).updPort p.val (fun x => { x with modAbs := true, optics := .idle, optReason := 1 })).copyOptics p.val []).linkDown
      p.val 3)) ∧
  (∀ p u s, (s.port p.val).optics = .debounce u → (s.port p.val).modAbsPin = false → exec (.modAbsDebounceEnd p) s =
    .next (((s.advanceUp u).updPort p.val (fun x => { x with
      modAbs := false, optics := .settle ((s.advanceUp u).up + ms 300) })).relink p.val 3)) ∧
  (∀ p u s, (s.port p.val).optics = .settle u → exec (.opticsReadStart p) s = .next ((s.advanceUp u).startRead p)) ∧
  (∀ a p r s, (s.port p.val).optics = .reading → (s.port p.val).modAbsPin = false → r.ack = true →
    sum8 r.bytes 0 63 = ((r.bytes[63]?).getD 0#8).toNat → exec (.opticsReadComplete a p r) s =
    .next (let t := (((s.advance a).freeI2c p).updPort p.val (fun x => { x with
        optics := .idle, modAbs := false, extBad := sum8 r.bytes 64 95 != ((r.bytes[95]?).getD 0#8).toNat })).copyOptics p.val r.bytes
      (t.admitOptics p.val (opticsCheck (t.portMode p.val) r.bytes)).relink p.val 3)) ∧
  (∀ a p r s, (s.port p.val).optics = .reading → (s.port p.val).modAbsPin = false → r.ack = false → (s.port p.val).retries < 2 →
    exec (.opticsReadComplete a p r) s = .next (((s.advance a).freeI2c p).updPort p.val (fun x => { x with
      optics := .retry (((s.advance a).freeI2c p).up + ms 100), retries := x.retries + 1 }))) ∧
  (∀ p u s, (s.port p.val).optics = .retry u → exec (.opticsReadRetry p) s = .next ((s.advanceUp u).startRead p))

/-! ### Ingress (chapter 04) -/

/-- The ingress commands: the lists read; streams are added in the lowest run of free entries, removed, fetched and written raw; channel scales and
tuning are set. -/
def Obligations.IngressCommandsComplete : Prop :=
  (∀ h, Reads (.ingStatus h) 0x0400 h) ∧
  (∀ h a e, Performs (.ingStreamAdd h a) 0x0401 h
    (fun n => a.key.kind = 0 ∧ a.blocks ≠ [] ∧ a.blocks.length ≤ 1024 ∧ (∀ b ∈ a.blocks, b.chanBase < 262144 ∧ b.chanSpan < 1024) ∧
      (∀ b ∈ a.blocks, ∀ o, b.offsets = some o → o.1 < 1024 ∧ o.2 < 1024) ∧ n.findKey a.key = none ∧ n.freeRun a.blocks.length = some e ∧
      n.addRefused e (((upto a.blocks.length).zip a.blocks).map (fun p => (p.1, addWords a p.1 p.2))) = 0)
    (fun n =>
      let t := (((upto a.blocks.length).zip a.blocks).map (fun p => (p.1, addWords a p.1 p.2))).foldl
        (fun (t : State) p => t.setEntry (e + p.1) p.2) n
      (t.setFw e (fun _ => { freshFw with tcp := a.tcp, cfg3 := a.cfg3, startData := a.startData, pollDue := some (t.up + sec t.cfgPoll) })).startFetch e 1 none)) ∧
  (∀ h a e, Performs (.ingStreamAdd h a) 0x0401 h
    (fun n => a.key.kind ≠ 0 ∧ a.synchReq < 3 ∧ a.svSlot < 1024 ∧ dsRateCode a.rate ≠ none ∧ (∀ v, a.auth = some v → v < 256) ∧ n.findKey a.key = none ∧ n.freeRun 1 = some e ∧
      n.addRefused e [(0, addWords a 0 ⟨0, 0, none⟩)] = 0)
    (fun n => n.setEntry (e + 0) (addWords a 0 ⟨0, 0, none⟩))) ∧
  (∀ h r e, Performs (.ingStreamRemove h r) 0x0402 h (fun n => n.findStream r = some e) (fun n => n.freeStream e)) ∧
  (∀ h, Reads (.ingStreamList h) 0x0403 h) ∧
  (∀ h, Reads (.ingUnknown h) 0x0404 h) ∧
  (∀ h r e, Performs (.ingCfgFetch h r) 0x0405 h (fun n => n.findStream r = some e)
    (fun n => if wKind (n.sw e 0) = 0 then n.startFetch e 1 (n.fw e).staleSize else n)) ∧
  (∀ h r e, Performs (.ingHeader h r) 0x0406 h (fun n => n.findStream r = some e) (fun n => n)) ∧
  (∀ h a, Performs (.ingStreamRaw h a) 0x0480 h (fun n => a.index < 16384 ∧ n.entryErr a.index a.words.toList = 0)
    (fun n => n.writeEntry a.index a.words.toList)) ∧
  (∀ h a, Performs (.ingChanScale h a) 0x0481 h (fun _ => ∀ c ∈ a.chans, c.1 < estimatedBase)
    (fun n => n.setIng (fun g => { g with scales := a.chans.foldl (fun l c => setKey l c.1 c.2) g.scales }))) ∧
  (∀ h a, Performs (.ingTune h a) 0x0482 h
    (fun n => (∀ v, a.tqMax = some v → v ≤ 15) ∧ (∀ v, a.cfgPoll = some v → v ≤ 255) ∧
      (n.rb Reg.ING_CTL 31 = false ∨ ∀ v, a.sizeMib = some v → min 256 v = n.rf Reg.ING_SPILL_CTL 8 0))
    (fun n =>
      let t := (a.sizeMib.map (fun v => n.setRf Reg.ING_SPILL_CTL 8 0 (min 256 v))).getD n
      let t := (a.tqMax.map (t.setRf Reg.ING_CTL 7 4)).getD t
      let t := (a.cfgPoll.map (t.setRf Reg.ING_CTL 15 8)).getD t
      (a.unkToFw.map (t.setRb Reg.ING_CTL 1)).getD t))

/-- What ingress does by itself: it parses the frames in its buffers, applies a held configuration, takes configurations as they arrive, polls for
them and gives up, and its table window reads and writes entries. -/
def Obligations.IngressEventsComplete : Prop :=
  (∀ a p f s, (s.advance a).runs Isle.ingress = true → (s.advance a).nextParse = some (p, f) → f.spilled = false →
    exec (.parseFrame a) s = .next (((s.advance a).setIng (fun g => { g with
      buffers := updAt g.buffers p (fun l => l.drop 1), next := (p + 1) % 10 })).parseFrame p f)) ∧
  (∀ a e u c s, (s.fw (Fin.val e)).applyDue = some u → (s.fw e.val).held = some c → (s.advance a).up ≤ u → exec (.heldConfigApply a e) s =
    .next (if (s.advance a).cfgFits e.val c then (s.advance a).writeCfg e.val c else (s.advance a).suspend e.val 1)) ∧
  (∀ a c e s, (s.advance a).findKey ⟨0, BitVec.ofNat 48 c.srcIp.toNat, c.dstPort, c.idcode, 0#32⟩ = some e → s.runs Isle.control = true →
    exec (.configFrameReceive a c) s = .next ((s.advance a).takeCfg e c)) ∧
  (∀ e u s, (s.fw (Fin.val e)).pollDue = some u →
    (((s.advanceUp u).setFw e.val (fun x => { x with pollDue := some ((s.advanceUp u).nextPoll e.val) })).fw e.val).fetch = none →
    exec (.cfgPollTimer e) s =
      .next (((s.advanceUp u).setFw e.val (fun x => { x with pollDue := some ((s.advanceUp u).nextPoll e.val) })).startFetch e.val 1 none)) ∧
  (∀ e f s, (s.fw (Fin.val e)).fetch = some f → exec (.cfgFetchTimeout e) s = .next (if f.size.isSome then (s.advanceUp f.due).fetchFailed e.val
    else (s.advanceUp f.due).setFw e.val (fun x => { x with fetch := none }))) ∧
  (∀ a s, exec (.ingTblRead a) s = .next (((upto 8).foldl (fun (t : State) i =>
    t.setReg (Reg.ING_TBL_W i) (t.sw (s.rf Reg.ING_TBL_IDX 13 0) i)) (s.advance a)).setRf Reg.ING_TBL_CMD 30 28 0)) ∧
  (∀ a s, (s.advance a).entryErr (s.rf Reg.ING_TBL_IDX 13 0) s.ingWindow = 0 → exec (.ingTblWrite a) s =
    .next (((s.advance a).setRf Reg.ING_TBL_CMD 30 28 0).writeEntry (s.rf Reg.ING_TBL_IDX 13 0) s.ingWindow)) ∧
  (∀ a s, (s.advance a).entryErr (s.rf Reg.ING_TBL_IDX 13 0) s.ingWindow ≠ 0 → exec (.ingTblWrite a) s =
    .next ((s.advance a).setRf Reg.ING_TBL_CMD 30 28 ((s.advance a).entryErr (s.rf Reg.ING_TBL_IDX 13 0) s.ingWindow)))

/-! ### Phasor estimation (chapter 05) -/

/-- The estimation commands: status reads; slots take profiles and raw settings, inputs and thresholds are written, the synchronised restart is
scheduled, banks are swapped and taps committed. -/
def Obligations.EstimationCommandsComplete : Prop :=
  (∀ h, Reads (.pecStatus h) 0x0500 h) ∧
  (∀ h a, Performs (.pecProfile h a) 0x0501 h
    (fun n => a.slots ≠ [] ∧ ∀ i ∈ a.slots, n.slotWordErr i.val (n.namedSlotWord i.val a) = 0)
    (fun n => (a.slots.map (fun i => (i.val, n.namedSlotWord i.val a))).foldl
      (fun (t : State) p => t.writeSlot p.1 [p.2, t.pw 0 p.1 1]) n)) ∧
  (∀ h l, Performs (.pecInputs h l) 0x0502 h (fun _ => True)
    (fun n => l.foldl (fun (t : State) x =>
      t.storeEntry 1 x.index.val [x.scale, putBit 31 x.enable ||| put 4 2 x.fref.val ||| put 1 0 x.kind.val]) n)) ∧
  (∀ h l, Performs (.pecThresholds h l) 0x0503 h (fun _ => ∀ x ∈ l, x.debounce ≤ 255 ∧ thrRefused x.words = false)
    (fun n => l.foldl (fun (t : State) x => t.storeEntry 2 x.index.val x.words) n)) ∧
  (∀ h, Performs (.syncDecim h) 0x0504 h (fun _ => True) (fun n => n.syncRestart.1)) ∧
  (∀ h a, Performs (.pecBankSwap h a) 0x0505 h
    (fun n => a.slots ≠ [] ∧ noDup (a.slots.map (·.val)) = true ∧ (∀ l, a.len = some l → l ≤ 4096) ∧ ∀ i ∈ a.slots, (n.slot i.val).held = false ∧
      (n.slot i.val).xf = none ∧ n.taps (!(n.slot i.val).bank) (fld (n.pw 0 i.val 0) 14 11) ≠ [])
    (fun n => (((a.len.map (fun l => (a.slots.map (·.val)).foldl (fun (t : State) i => t.setPw 0 i 1 (put 12 0 l)) n)).getD n).swapSlots
      (a.slots.map (·.val))).2)) ∧
  (∀ h a, Performs (.pecBankSwapX h a) 0x0582 h
    (fun n => a.slots ≠ [] ∧ noDup (a.slots.map (·.val)) = true ∧ (∀ l, a.len = some l → l ≤ 4096) ∧ ∀ i ∈ a.slots, (n.slot i.val).held = false ∧
      (a.queue = false → (n.slot i.val).xf = none) ∧ n.taps (!(n.slot i.val).bank) (fld (n.pw 0 i.val 0) 14 11) ≠ [])
    (fun n => (((a.len.map (fun l => (a.slots.map (·.val)).foldl (fun (t : State) i => t.setPw 0 i 1 (put 12 0 l)) n)).getD n).swapSlots
      (a.slots.map (·.val))).2)) ∧
  (∀ h a, Performs (.pecSlotRaw h a) 0x0580 h
    (fun n => a.decim ≤ 127 ∧ a.firProf ≤ 15 ∧ a.holdMax ≤ 63 ∧ a.xfLen ≤ 4096 ∧
      n.slotWordErr a.slot.val (setBit (setFld (setFld (setFld (n.pw 0 a.slot.val 0) 22 16 a.decim) 14 11 a.firProf) 9 4 a.holdMax) 10
        a.acceptTest) = 0)
    (fun n => n.writeSlot a.slot.val
      [setBit (setFld (setFld (setFld (n.pw 0 a.slot.val 0) 22 16 a.decim) 14 11 a.firProf) 9 4 a.holdMax) 10 a.acceptTest, put 12 0 a.xfLen])) ∧
  (∀ h a, Performs (.pecCoefLoad h a) 0x0581 h
    (fun n => a.taps.length ≤ 128 ∧ (∀ c ∈ a.taps, -8388608 ≤ c ∧ c ≤ 8388607) ∧ n.commitErr a.bank a.profile.val a.taps = 0)
    (fun n => (n.stageTaps a.bank a.profile.val a.taps).commitTaps a.bank a.profile.val a.taps)) ∧
  (∀ h e f, Performs (.pecDsyncCfg h e f) 0x0583 h (fun _ => True)
    (fun n => (n.setRb Reg.PEC_SYNC_CTL 0 e).setRb Reg.PEC_SYNC_CTL 1 f))

/-- What estimation does by itself: samples enter, outputs leave, slots restart, a DSYNC edge restarts all of them, cross-fades end and held
swaps start, and its table window reads and writes entries. -/
def Obligations.EstimationEventsComplete : Prop :=
  (∀ a m rest s, s.ing.samples = m :: rest → s.pecOn = true → s.awaitsImage = false → exec (.svSampleIn a) s =
    .next (({ (s.advance a) with ing := { s.ing with samples := rest }, capIn := s.capIn ++ [CapIn.raw m] } : State).sampleIn m)) ∧
  (∀ a m rest s, s.ing.samples = m :: rest → s.pecOn = true → s.awaitsImage = true → exec (.svSampleIn a) s =
    .next (({ (s.advance a) with ing := { s.ing with samples := rest }, capIn := s.capIn ++ [CapIn.raw m] } : State).setPair
      (fun p => { p with copy := { p.copy with raw := p.copy.raw ++ [m] } }))) ∧
  (∀ a i o rest s, (s.slot (Fin.val i)).ready = o :: rest → s.pecOn = true → exec (.estimateOutput a i) s =
    .next (
      let t := o.ins.foldl (fun (t : State) r => t.deliverInput i.val o.tc r) ((s.advance a).updSlot i.val (fun x => { x with ready := rest }))
      let u := if o.dry && decide ((t.slot i.val).t0 ≤ o.tc) then t.updSlot i.val (fun x => { x with
          dryLeft := x.dryLeft - 1, st := if x.st = .drydown && decide (x.dryLeft ≤ 1) then .run else x.st })
        else t
      u.track i.val o)) ∧
  (∀ i p rest s, (s.slot (Fin.val i)).pend = p :: rest → exec (.slotRestart i) s = .next ((s.advance p.t0).takeDue i.val p.t0)) ∧
  (∀ a r w s, s.pecOn = true → s.rb Reg.PEC_SYNC_CTL 0 = true → r ≠ s.rb Reg.PEC_SYNC_CTL 1 → 100 ≤ w →
    exec (.dsyncEdge a r w) s = .next (s.advance a).syncRestart.1) ∧
  (∀ a i f s, (s.slot (Fin.val i)).xf = some f → f.started = true → f.len ≤ f.step → exec (.crossfadeEnd a i) s =
    .next (((s.advance a).updSlot i.val (fun x => { x with
      xf := none, bank := !x.bank, curBank := !x.curBank, xfEnd := fineOf (s.advance a).now })).status Reg.PEC_STAT 2)) ∧
  (∀ a i s, (s.slot (Fin.val i)).held = true → (s.slot i.val).xf = none → exec (.heldSwapStart a i) s =
    .next (((s.advance a).updSlot i.val (fun x => { x with held := false })).startFade i.val)) ∧
  (∀ a s, exec (.pecTblRead a) s = .next (s.advance a).pecTblRead) ∧
  (∀ a s, exec (.pecTblWrite a) s = .next (((s.advance a).pecWrite s.pecIdx.1 s.pecIdx.2 ((upto 8).map (fun w => s.reg (Reg.PEC_TBL_W w)))).2.setRf
    Reg.PEC_TBL_CMD 30 28 ((s.advance a).pecWrite s.pecIdx.1 s.pecIdx.2 ((upto 8).map (fun w => s.reg (Reg.PEC_TBL_W w)))).1))

/-! ### Alignment (chapter 06) -/

/-- The alignment commands: status reads; a STOPPED group starts, is allocated history and written raw; a RUNNING one stops, and its changes of
channels, timing and tolerance wait for t_eff; history is copied to the host and channel-table entries written. -/
def Obligations.AccordCommandsComplete : Prop :=
  (∀ h, Reads (.alnStatus h) 0x0600 h) ∧
  (∀ h a w, Performs (.alnGroupStart h a) 0x0601 h
    (fun n => n.rb Reg.ALN_CTL 0 = true ∧ (n.group a.group.val).active = false ∧
      newWords (n.grpWords a.group.val) a.rate a.waitNs a.deadNs a.tolNs a.minFill a.fillMiss a.histEn = some w ∧
      n.joinErr a.group.val (a.chans.getD (n.group a.group.val).set) = 0 ∧
      (w.histEn = true → (n.group a.group.val).depth ≠ 0 ∧
        (a.chans.getD (n.group a.group.val).set).length ≤ (n.group a.group.val).maxChan) ∧
      n.loadErr a.group.val (grpNeed (a.chans.getD (n.group a.group.val).set).length w)
        ((a.chans.getD (n.group a.group.val).set).length * w.fr) = 0)
    (fun n => ((n.setWords a.group.val w).replaceSet a.group.val (a.chans.getD (n.group a.group.val).set)).updGroup a.group.val (fun x => { x with
      st := .starting, was := [], startK := n.leadK w.fr, startT := reportInstant (n.leadK w.fr) w.fr, nextOpen := n.leadK w.fr
      nextDl := n.leadK w.fr, asms := [], susp := none }))) ∧
  (∀ h g, Performs (.alnGroupStop h g false) 0x0602 h (fun n => (n.group g.val).st = .running)
    (fun n => (n.updGroup g.val (fun x => { x with
      st := .stopping, stopK := n.leadK (n.grpFr g.val), stopT := reportInstant (n.leadK (n.grpFr g.val)) (n.grpFr g.val) })).stopIfDone g.val)) ∧
  (∀ h g, Performs (.alnGroupStop h g true) 0x0602 h (fun n => (n.group g.val).st = .running ∨ (n.group g.val).st = .stopping)
    (fun n => n.flushStop g.val)) ∧
  (∀ h g b, Performs (.alnGroupStop h g b) 0x0602 h (fun n => (n.group g.val).st = .starting)
    (fun n => (n.updGroup g.val (fun x => { x with asms := [] })).groupStopped g.val n.now)) ∧
  (∀ h g b, Performs (.alnGroupStop h g b) 0x0602 h (fun n => (n.group g.val).st = .stopped ∨ ((n.group g.val).st = .stopping ∧ b = false))
    (fun n => n)) ∧
  (∀ h a l, Performs (.alnGroupChannels h a) 0x0603 h
    (fun n => n.joinErr a.group.val a.add = 0 ∧ noDup a.remove = true ∧
      (∀ c ∈ a.remove, (n.group a.group.val).set.contains c = true ∧ a.add.contains c = false) ∧
      l = sortChans ((n.group a.group.val).set.filter (fun c => !a.remove.contains c) ++
        a.add.filter (fun c => !(n.group a.group.val).set.contains c)) ∧
      n.acceptsChange a.group.val (n.grpWords a.group.val) (some l))
    (fun n => n.pendChange a.group.val (n.grpWords a.group.val) (some l))) ∧
  (∀ h a l, Performs (.alnGroupChannels h a) 0x0603 h
    (fun n => n.joinErr a.group.val a.add = 0 ∧ noDup a.remove = true ∧
      (∀ c ∈ a.remove, (n.group a.group.val).set.contains c = true ∧ a.add.contains c = false) ∧
      l = sortChans ((n.group a.group.val).set.filter (fun c => !a.remove.contains c) ++
        a.add.filter (fun c => !(n.group a.group.val).set.contains c)) ∧
      n.takesChange a.group.val (n.grpWords a.group.val) (some l))
    (fun n => n.changeNow a.group.val (n.grpWords a.group.val) (some l))) ∧
  (∀ h a w, Performs (.alnGroupTiming h a) 0x0604 h
    (fun n => newWords (n.grpWords a.group.val) none a.waitNs a.deadNs none a.minFill a.fillMiss none = some w ∧
      n.acceptsChange a.group.val w none)
    (fun n => n.pendChange a.group.val w none)) ∧
  (∀ h a w, Performs (.alnGroupTiming h a) 0x0604 h
    (fun n => newWords (n.grpWords a.group.val) none a.waitNs a.deadNs none a.minFill a.fillMiss none = some w ∧
      n.takesChange a.group.val w none)
    (fun n => n.changeNow a.group.val w none)) ∧
  (∀ h a, Performs (.alnHistAlloc h a) 0x0605 h
    (fun n => (n.group a.group.val).active = false ∧ a.depth < 2 ^ 28 ∧ a.maxChan ≤ 262144 ∧
      n.histBytes (some a.group.val) + a.depth * histSlot a.maxChan ≤ n.histSize ∧
      (n.rb (Reg.ALN_GRP_CTL a.group.val) 6 = true → a.depth ≠ 0 → (n.group a.group.val).set.length ≤ a.maxChan))
    (fun n =>
      let t := n.updGroup a.group.val (fun x => { x with depth := a.depth, maxChan := a.maxChan, hist := [] })
      if a.depth = 0 then t.setRb (Reg.ALN_GRP_CTL a.group.val) 6 false else t)) ∧
  (∀ h a l, Sends (.alnHistRead h a) 0x0606 h
    (fun n => (n.takePoison 0).1 = none ∧ l ≠ [] ∧
      l = fitting h.bufLen ((n.group a.group.val).hist.dropWhile (fun x => decide (x.t < a.start))))
    (fun n => n.hostWrite h.via h.bufAddr (wordsLE (l.flatMap Snapshot.bytes)))) ∧
  (∀ h a x l, Sends (.alnHistRead h a) 0x0606 h
    (fun n => (n.takePoison 0).1 ≠ none ∧ l ≠ [] ∧
      x :: l = fitting h.bufLen ((n.group a.group.val).hist.dropWhile (fun x => decide (x.t < a.start))))
    (fun n => (n.takePoison 0).2.hostWrite h.via h.bufAddr (wordsLE (l.flatMap Snapshot.bytes)))) ∧
  (∀ h a, Performs (.alnGroupRaw h a) 0x0680 h
    (fun n => (n.group a.group.val).active = false ∧ 1 ≤ fld a.wait 13 0 ∧ fld a.wait 13 0 ≤ 10000 ∧ 5 ≤ fld a.wait 30 14 ∧
      fld a.wait 30 14 ≤ 10 * fld a.wait 13 0 ∧ fld a.tol 9 0 ≤ 1000 ∧
      (bit a.ctl 6 = true → (n.group a.group.val).depth ≠ 0 ∧ (n.group a.group.val).set.length ≤ (n.group a.group.val).maxChan))
    (fun n => n.setWords a.group.val ⟨a.ctl &&& grpCtlMask, a.wait &&& 0x7FFFFFFF#32, a.tol &&& 0x3FF#32⟩)) ∧
  (∀ h l, Performs (.alnChanRaw h l) 0x0681 h (fun n => n.chansErr l = 0)
    (fun n => l.foldl (fun (t : State) p => t.writeChan p.1 p.2) n)) ∧
  (∀ h z, Performs (.alnTune h ⟨none, z⟩) 0x0682 h (fun n => ∀ k, z = some k → n.histBytes none ≤ min 20 k * 2 ^ 30)
    (fun n => (z.map (fun k => n.setRf Reg.ALN_HIST_CTL 4 0 (min 20 k))).getD n)) ∧
  (∀ h g v z w, Performs (.alnTune h ⟨some (g, v), z⟩) 0x0682 h
    (fun n => (∀ k, z = some k → n.histBytes none ≤ min 20 k * 2 ^ 30) ∧
      newWords (n.grpWords g.val) none none none (some v) none none none = some w ∧ n.acceptsChange g.val w none)
    (fun n => let t := n.pendChange g.val w none; (z.map (fun k => t.setRf Reg.ALN_HIST_CTL 4 0 (min 20 k))).getD t))

/-- What alignment does by itself: values are taken, deadlines reached, windows closed and guarded, commits triggered and made, groups start,
changes of settings and classes take effect, and the channel window and the group registers take what is written. -/
def Obligations.AccordEventsComplete : Prop :=
  (∀ a v rest s, s.ing.values = v :: rest → s.runs Isle.accord = true → exec (.accordValueReceive a) s =
    .next (State.acceptValue (State.takeReports { (s.advance a) with ing := { s.ing with values := rest } } v.chan) v).guardTriggers) ∧
  (∀ g s1 a s, s.nextDeadline (Fin.val g) = (s1, some a) → exec (.provisionalIssue g) s =
    .next ((s1.advance (a.t + a.words.deadline)).deadline g.val a)) ∧
  (∀ g s1 a s, s.nextAsm (Fin.val g) (fun a => !a.closed) = (s1, some a) → exec (.windowClose g) s =
    .next ((s1.advance (a.t + a.words.wait_)).updAsm g.val a.k (fun a => { a with closed := true }))) ∧
  (∀ g a s, (s.group (Fin.val g)).asms.find? (fun a => a.closed && !a.guardEnd && !a.trig) = some a →
    exec (.closeGuardEnd g) s = .next ((s.advance (a.t + a.words.wait_ + us 20)).updAsm g.val a.k
      (fun a => { a with guardEnd := !a.set.isEmpty })).guardTriggers) ∧
  (∀ g s1 a s, s.nextAsm (Fin.val g) (fun a => !a.trig) = (s1, some a) → a.set = [] → s1.followsLists = false →
    exec (.emptyGroupTrigger g) s = .next ((s1.advance a.t).trigger g.val a.k)) ∧
  (∀ a g s, exec (.snapshotCommit a g) s = .next ((s.advance a).commitHead g.val)) ∧
  (∀ g s, (s.group (Fin.val g)).st = .starting → exec (.groupStartReached g) s =
    .next ((s.advance (s.group g.val).startT).updGroup g.val (fun x => { x with st := .running }))) ∧
  (∀ g c s, (s.group (Fin.val g)).pend = some c → exec (.groupChangeEffective g) s =
    .next (((s.openUpTo g.val c.k).advance c.t).applyChange g.val)) ∧
  (∀ a s, exec (.classChangeEffective a) s = .next (s.advance a).applyClasses) ∧
  (∀ a s, exec (.alnChanRead a) s = .next (((s.advance a).setReg Reg.ALN_CHAN_W0 (s.readChan (s.rf Reg.ALN_CHAN_IDX 17 0))).setRf
    Reg.ALN_CHAN_CMD 30 28 0)) ∧
  (∀ a s, s.chanErr (s.rf Reg.ALN_CHAN_IDX 17 0) (s.reg Reg.ALN_CHAN_W0) = 0 → exec (.alnChanWrite a) s =
    .next (((s.advance a).setRf Reg.ALN_CHAN_CMD 30 28 0).writeChan (s.rf Reg.ALN_CHAN_IDX 17 0) (s.reg Reg.ALN_CHAN_W0))) ∧
  (∀ a s, s.chanErr (s.rf Reg.ALN_CHAN_IDX 17 0) (s.reg Reg.ALN_CHAN_W0) ≠ 0 → exec (.alnChanWrite a) s =
    .next ((s.advance a).setRf Reg.ALN_CHAN_CMD 30 28 (s.chanErr (s.rf Reg.ALN_CHAN_IDX 17 0) (s.reg Reg.ALN_CHAN_W0)))) ∧
  (∀ a g i v s, exec (.alnGrpRegWrite a g i v) s = .next (if (s.group g.val).active
    then ((s.advance a).count (Reg.ALN_CNT 2) 1).status Reg.ALN_STAT 3
    else if i = 0 then (s.advance a).setReg (Reg.ALN_GRP_CTL g.val)
      (if (s.group g.val).depth = 0 then setBit (v &&& grpCtlMask) 6 false else v &&& grpCtlMask)
    else if i = 1 then (s.advance a).setReg (Reg.ALN_GRP_WAIT g.val) (v &&& 0x7FFFFFFF#32)
    else (s.advance a).setReg (Reg.ALN_GRP_TOL g.val) (v &&& 0x3FF#32)))

/-! ### Speculation (chapter 07) -/

/-- The speculation commands and the direct write of class words: the ledger and status read, a group's depth changes as its other settings do,
and a class changes once no other change of classes is pending. -/
def Obligations.SpeculationCompletes : Prop :=
  (∀ h, Reads (.splStatus h) 0x0700 h) ∧
  (∀ h g, Performs (.splGroup h g .auto) 0x0701 h
    (fun n => n.acceptsChange g.val { (n.grpWords g.val) with ctl := depthWord (n.grpWords g.val).ctl (autoDepth (n.grpWords g.val)) } none)
    (fun n => n.pendChange g.val { (n.grpWords g.val) with ctl := depthWord (n.grpWords g.val).ctl (autoDepth (n.grpWords g.val)) } none)) ∧
  (∀ h g d, Performs (.splGroup h g (.depth d)) 0x0701 h
    (fun n => d ≤ 64 ∧ n.acceptsChange g.val { (n.grpWords g.val) with ctl := depthWord (n.grpWords g.val).ctl d } none)
    (fun n => n.pendChange g.val { (n.grpWords g.val) with ctl := depthWord (n.grpWords g.val).ctl d } none)) ∧
  (∀ h g, Performs (.splGroup h g .off) 0x0701 h
    (fun n => n.acceptsChange g.val { (n.grpWords g.val) with ctl := depthWord (n.grpWords g.val).ctl 0 } none)
    (fun n => n.pendChange g.val { (n.grpWords g.val) with ctl := depthWord (n.grpWords g.val).ctl 0 } none)) ∧
  (∀ h c k, Performs (.splClass h c k) 0x0702 h (fun n => n.classPending = false)
    (fun n => n.writeClass c.val { resetClass with ctl := setFld resetClass.ctl 1 0 k.val })) ∧
  (∀ h l c, Reads (.splLedgerRead h l c) 0x0703 h) ∧
  (∀ h a, Performs (.splClassRaw h a) 0x0780 h
    (fun n => badTol a.tolMag = false ∧ badTol a.tolAng = false ∧ badTol a.tolAbs = false ∧ 1 ≤ a.maxAge ∧ a.maxAge ≤ 255 ∧
      n.classPending = false)
    (fun n => n.writeClass a.cls.val
      ⟨(a.magFloor &&& 0xFFFF0000#32) ||| put 15 8 a.maxAge ||| put 1 0 a.kind.val, a.tolMag, a.tolAng, a.tolAbs⟩)) ∧
  (∀ h g d m, Performs (.splGroupRaw h g d m) 0x0781 h
    (fun n => n.acceptsChange g.val
      { (n.grpWords g.val) with ctl := setFld (setBit (n.reg (Reg.ALN_GRP_CTL g.val)) 22 m) 21 16 d.val } none)
    (fun n => n.pendChange g.val
      { (n.grpWords g.val) with ctl := setFld (setBit (n.reg (Reg.ALN_GRP_CTL g.val)) 22 m) 21 16 d.val } none)) ∧
  (∀ a l s, s.classPending = false → exec (.splClassRegWrite a l) s = .next
    (((l.map (fun p => (0x70100 + 16 * p.1.val + 4 * p.2.1.val, p.2.2))).foldl (fun (t : State) p => t.storeClassWord p.1 p.2)
      (s.advance a)).setAln (fun x => { x with clsPend := some ((s.advance a).up + ms 100) }))) ∧
  (∀ a l s, s.classPending = true → exec (.splClassRegWrite a l) s = .next (s.advance a))

/-! ### Islands and Nose (chapters 07 to 10) -/

/-- The island commands: status and islands read; the profile and tuning are set; a model is loaded or activated from the staged records, and
staged records are written while no model waits. -/
def Obligations.IslandCommandsComplete : Prop :=
  (∀ h, Reads (.islStatus h) 0x0900 h) ∧
  (∀ h a, Performs (.islProfile h a) 0x0901 h
    (fun _ => 20 ≤ a.tHoldMs ∧ a.tHoldMs ≤ 4000 ∧ a.clrHoldMs ≤ 4095 ∧ 100 ≤ a.taMs ∧ a.taMs ≤ 5000 ∧
      1 ≤ a.minLive ∧ a.minLive ≤ 255 ∧ a.livePct ≤ 127)
    (fun n => ((((n.setReg Reg.ISL_COH_F a.fGap).setReg Reg.ISL_COH_ANG a.thetaLim).setReg Reg.ISL_COH_TIME
      (put 11 0 a.tHoldMs ||| put 27 16 a.clrHoldMs)).setRf Reg.ISL_COH_EMA 12 0 a.taMs).setReg Reg.ISL_ALM_CTL
      (setFld (setFld (n.reg Reg.ISL_ALM_CTL) 7 0 a.minLive) 30 24 a.livePct))) ∧
  (∀ h b, Performs (.islModelLoad h b) 0x0902 h
    (fun n => n.isl.pend = none ∧ b.nBus ≤ 65536 ∧ b.nBranch ≤ 131072 ∧ b.words.length = 4 * (b.nBus + b.nBranch) ∧
      b.crc = crc32c (bytesOf b.words) ∧ n.modelBad b.model = false ∧ n.modelFits b.model = true ∧
      (n.group b.model.group).st ≠ .stopping ∧ ((n.group b.model.group).st = .stopped → h.casc = true))
    (fun n => n.setIsl (fun a => { a with
      staged := b.model
      pend := some (firstK (n.now + ms (if h.casc then 500 else 100)) (n.grpFr b.model.group),
        reportInstant (firstK (n.now + ms (if h.casc then 500 else 100)) (n.grpFr b.model.group)) (n.grpFr b.model.group)) }))) ∧
  (∀ h b, Performs (.islModelLoad h b) 0x0902 h
    (fun n => n.isl.pend = none ∧ b.nBus ≤ 65536 ∧ b.nBranch ≤ 131072 ∧ b.words.length = 4 * (b.nBus + b.nBranch) ∧
      b.crc = crc32c (bytesOf b.words) ∧ n.modelBad b.model = false ∧ n.modelFits b.model = true ∧
      (n.group b.model.group).st = .stopped ∧ h.casc = false)
    (fun n => (n.setIsl (fun a => { a with staged := b.model })).activateModel n.now)) ∧
  (∀ h b, Reads (.islIslandsRead h b) 0x0903 h) ∧
  (∀ h a, Performs (.islTune h a) 0x0980 h
    (fun _ => outside 100 600 a.ringWait = false ∧ outside 500 5000 a.ringClose = false ∧ outside 0 255 a.topoPers = false ∧
      outside 0 255 a.topoClr = false)
    (fun n => (((n.setSome Reg.ISL_RING_CTL 9 0 a.ringWait).setSome Reg.ISL_RING_CTL 28 16 a.ringClose).setSome Reg.ISL_ALM_CTL 15 8
      a.topoPers).setSome Reg.ISL_ALM_CTL 23 16 a.topoClr)) ∧
  (∀ h l, Performs (.islTblRaw h l) 0x0981 h (fun n => n.isl.pend = none ∧ ∀ r ∈ l, r.index < islEntries r.branch)
    (fun n => l.foldl (fun (t : State) r => t.setIsl (fun a => { a with staged := a.staged.write r.branch r.index r.words.toList })) n)) ∧
  (∀ h a m, Performs (.islModelActivate h a) 0x0982 h
    (fun n => m = { n.isl.staged with version := a.version, group := a.group.val, is60 := a.is60 } ∧
      n.isl.pend = none ∧ n.modelBad m = false ∧ n.modelFits m = true ∧
      (n.group m.group).st ≠ .stopping ∧ ((n.group m.group).st = .stopped → h.casc = true))
    (fun n => n.setIsl (fun a => { a with
      staged := m
      pend := some (firstK (n.now + ms (if h.casc then 500 else 100)) (n.grpFr m.group),
        reportInstant (firstK (n.now + ms (if h.casc then 500 else 100)) (n.grpFr m.group)) (n.grpFr m.group)) }))) ∧
  (∀ h a m, Performs (.islModelActivate h a) 0x0982 h
    (fun n => m = { n.isl.staged with version := a.version, group := a.group.val, is60 := a.is60 } ∧
      n.isl.pend = none ∧ n.modelBad m = false ∧ n.modelFits m = true ∧
      (n.group m.group).st = .stopped ∧ h.casc = false)
    (fun n => (n.setIsl (fun a => { a with staged := m })).activateModel n.now))

/-- What the island engine does by itself, and its table window: packets arrive, views form, instants commit on the ring, and a staged model takes
effect. -/
def Obligations.IslandEventsComplete : Prop :=
  (∀ a s, exec (.islTblReadActive a) s = .next ((s.advance a).islTblRead s.isl.active)) ∧
  (∀ a s, exec (.islTblReadStaged a) s = .next ((s.advance a).islTblRead (some s.isl.staged))) ∧
  (∀ a s, s.isl.pend = none → s.islIdx.2 < islEntries s.islIdx.1 →
    s.isl.staged.invalid s.islIdx.1 s.islIdx.2 (s.reg (Reg.ISL_TBL_W 0)) (s.reg (Reg.ISL_TBL_W 1)) = false →
    exec (.islTblWriteStaged a) s = .next (((s.advance a).setIsl (fun x => { x with
      staged := x.staged.write s.islIdx.1 s.islIdx.2 ((upto 4).map (fun w => s.reg (Reg.ISL_TBL_W w))) })).setRf Reg.ISL_TBL_CMD 30 28 0)) ∧
  (∀ a p s, s.runs Isle.nose = true → exec (.summaryPacketReceive a p) s = .next ((s.advance a).takePacket p)) ∧
  (∀ a m r x s, (s.advance a).ringNow.findSome? (fun r => ((s.advance a).modelAt r.t).bind (fun m =>
      if r.formed || !(s.advance a).holdsAll m r.t false then none else r.prov.map (fun x => (m, r, x)))) = some (m, r, x) →
    exec (.provisionalViewForm a) s = .next ((s.advance a).formView m r x)) ∧
  (∀ m r x s, s.unformed = some (r, x) → (s.advance (x.t + us (100 * x.dead) + s.ringWait)).modelAt r.t = some m →
    exec .ringWaitExpiry s = .next ((s.advance (x.t + us (100 * x.dead) + s.ringWait)).formView m r x)) ∧
  (∀ a m r x s, (s.advance a).ringNow.findSome? (fun r => ((s.advance a).modelAt r.t).bind (fun m =>
      if (s.advance a).holdsAll m r.t true then r.commit.map (fun x => (m, r, x)) else none)) = some (m, r, x) →
    exec (.ringCommit a) s = .next ((s.advance a).ringCommit m r x)) ∧
  (∀ m r x s, s.ringNow.findSome? (fun r => (r.commit.or r.prov).map (fun x => (r, x))) = some (r, x) →
    (s.advance (x.t + ms x.waitMs + s.ringClose)).modelAt r.t = some m →
    exec .ringCloseExpiry s = .next ((s.advance (x.t + ms x.waitMs + s.ringClose)).ringCommit m r x)) ∧
  (∀ k t s, s.isl.pend = some (k, t) → exec .islModelEffective s = .next ((s.advance t).activateModel t))

/-- Nose takes the messages of Accord in order: provisional and committed snapshots, CONFIRM, ROLLBACK and flush. -/
def Obligations.NoseEventsComplete : Prop :=
  (∀ a x rest s, s.aln.nose = .prov x :: rest → s.runs Isle.nose = true →
    exec (.provisionalSnapshotEvaluate a) s = .next ((s.advance a).popNose.noseProv x)) ∧
  (∀ a x rest s, s.aln.nose = .commit x :: rest → s.runs Isle.nose = true → s.barred Isle.accord = false →
    exec (.committedSnapshotEvaluate a) s = .next ((s.advance a).popNose.noseCommit x false)) ∧
  (∀ a x rest s, s.aln.nose = .confirm x :: rest → s.runs Isle.nose = true → s.barred Isle.accord = false →
    exec (.confirmReceive a) s = .next (((s.advance a).popNose.noseCommit x true).retire x.group x.k)) ∧
  (∀ a x rest s, s.aln.nose = .rollback x :: rest → s.runs Isle.nose = true → s.barred Isle.accord = false →
    exec (.rollbackReceive a) s = .next (((s.advance a).popNose.noseCommit x false).retire x.group x.k)) ∧
  (∀ a g ks rest s, s.aln.nose = .flush g ks :: rest → s.runs Isle.nose = true →
    exec (.flushReceive a) s = .next ((s.advance a).popNose.noseFlush g ks))

/-! ### Publication (chapter 10) -/

/-- The publication commands: status and alarms read; streams take a profile, a layout and their control word, at once while stopped and at t_eff
while they run; control blocks, alarm lands, limits and table entries take what is given. -/
def Obligations.PublicationCommandsComplete : Prop :=
  (∀ h, Reads (.pubStatus h) 0x0A00 h) ∧
  (∀ h a c, Performs (.pubStreamProfile h a) 0x0A01 h
    (fun n => c = ⟨(n.stream a.stream.val).layout, a.prov, a.ports.toNat, a.dest, (n.stream a.stream.val).confRev⟩ ∧
      n.authRefused (a.rsv && a.authEn) a.authSlot.toNat = false ∧ n.rb (Reg.PUB_STRM_CTL a.stream.val) 26 = false ∧
      (n.setStream a).rb (Reg.PUB_STRM_CTL a.stream.val) 26 = false)
    (fun n => if c = n.strmCfg a.stream.val then n.setStream a
      else ((n.setStream a).applyStream a.stream.val 0 c).updStream a.stream.val (fun x => { x with old := none }))) ∧
  (∀ h a c, Performs (.pubStreamProfile h a) 0x0A01 h
    (fun n => c = ⟨(n.stream a.stream.val).layout, a.prov, a.ports.toNat, a.dest, (n.stream a.stream.val).confRev⟩ ∧
      n.authRefused (a.rsv && a.authEn) a.authSlot.toNat = false ∧ n.rb (Reg.PUB_STRM_CTL a.stream.val) 28 = a.rsv ∧
      n.rf (Reg.PUB_STRM_CTL a.stream.val) 20 16 = a.group.val ∧ (n.setStream a).rb (Reg.PUB_STRM_CTL a.stream.val) 26 = true ∧
      ((n.setStream a).stream a.stream.val).pend = none)
    (fun n => if c = n.strmCfg a.stream.val then n.setStream a
      else (n.setStream a).updStream a.stream.val (fun x => { x with pend := some ((n.setStream a).streamEff a.stream.val, c) }))) ∧
  (∀ h i l c, Performs (.pubStreamLayout h i l) 0x0A02 h
    (fun n => c = { n.strmCfg i.val with layout := some l, confRev := (n.stream i.val).confRev + 1 } ∧ l.blocks ≠ [] ∧ l.blocks.length ≤ 1024 ∧
      (∀ x ∈ l.chans, n.chanGroup x = some (n.rf (Reg.PUB_STRM_CTL i.val) 20 16)) ∧ l.chans.length ≤ 8000 ∧
      streamBytes (n.rb (Reg.PUB_STRM_CTL i.val) 28) (n.rb (Reg.PUB_STRM_CTL i.val) 28 && n.rb (Reg.PUB_STRM_CTL i.val) 27) c l ≤ 65507 ∧
      l.crc = crc32c l.body ∧ (∀ b ∈ l.blocks, n.badBlock b = false) ∧
      n.rb (Reg.PUB_STRM_CTL i.val) 26 = true ∧ (n.stream i.val).pend = none)
    (fun n => n.updStream i.val (fun x => { x with pend := some (n.streamEff i.val, c) }))) ∧
  (∀ h i l c, Performs (.pubStreamLayout h i l) 0x0A02 h
    (fun n => c = { n.strmCfg i.val with layout := some l, confRev := (n.stream i.val).confRev + 1 } ∧ l.blocks ≠ [] ∧ l.blocks.length ≤ 1024 ∧
      (∀ x ∈ l.chans, n.chanGroup x = some (n.rf (Reg.PUB_STRM_CTL i.val) 20 16)) ∧ l.chans.length ≤ 8000 ∧
      streamBytes (n.rb (Reg.PUB_STRM_CTL i.val) 28) (n.rb (Reg.PUB_STRM_CTL i.val) 28 && n.rb (Reg.PUB_STRM_CTL i.val) 27) c l ≤ 65507 ∧
      l.crc = crc32c l.body ∧ (∀ b ∈ l.blocks, n.badBlock b = false) ∧
      n.rb (Reg.PUB_STRM_CTL i.val) 26 = false)
    (fun n => (n.applyStream i.val 0 c).updStream i.val (fun x => { x with old := none }))) ∧
  (∀ h i r, Performs (.pubStreamCtl h i r) 0x0A03 h (fun n => r = true → (n.stream (Fin.val i)).layout ≠ none)
    (fun n => n.runStream i.val r)) ∧
  (∀ h a, Performs (.pubGocb h a) 0x0A04 h
    (fun n => (∀ x y z, a.strings = some (x, y, z) → x.length ≤ 64 ∧ y.length ≤ 64 ∧ z.length ≤ 64) ∧ (a.members.getD []).length ≤ 64 ∧
      (n.gocbKind a = false → (a.appid.getD 0).toNat ≤ 0x3FFF) ∧ (∀ e k, a.auth = some (e, k) → n.authRefused e k.toNat = false))
    (fun n => n.setGocb a)) ∧
  (∀ h a, Performs (.pubAlarmOut h a) 0x0A05 h (fun _ => (a.sels.getD []).length ≤ 16 ∧ outside 0 1000 a.minOnMs = false)
    (fun n => n.setAlarmOut a)) ∧
  (∀ h l, Performs (.pubLimits h l) 0x0A06 h
    (fun n => ∀ a ∈ l, a.chan < 262144 ∧ a.debounce ≤ 255 ∧ n.limitType (a.words.headD 0#32) = false)
    (fun n => l.foldl (fun (t : State) a => t.writeLimit a.entry.val a.words) n)) ∧
  (∀ h x, Reads (.pubAlarmsRead h x) 0x0A07 h) ∧
  (∀ h i z k, Performs (.pubStreamRaw h ⟨i, none, z, k⟩) 0x0A80 h
    (fun n => (∀ d, z = some d → 1 ≤ d ∧ d ≤ 6000) ∧ n.authRefused (n.rb (Reg.PUB_STRM_CTL i.val) 27 && n.rb (Reg.PUB_STRM_CTL i.val) 28)
      ((k.map BitVec.toNat).getD (n.rf (Reg.PUB_STRM_AUTH i.val) 7 0)) = false)
    (fun n => ((z.map (n.setRf (Reg.PUB_STRM_LEAD i.val) 12 0)).getD n).setRf (Reg.PUB_STRM_AUTH i.val) 7 0
      ((k.map BitVec.toNat).getD (n.rf (Reg.PUB_STRM_AUTH i.val) 7 0)))) ∧
  (∀ h i w z k words u, Performs (.pubStreamRaw h ⟨i, some w, z, k⟩) 0x0A80 h
    (fun n => (∀ d, z = some d → 1 ≤ d ∧ d ≤ 6000) ∧
      n.authRefused (bit w 27 && bit w 28) ((k.map BitVec.toNat).getD (n.rf (Reg.PUB_STRM_AUTH i.val) 7 0)) = false ∧
      (((z.map (n.setRf (Reg.PUB_STRM_LEAD i.val) 12 0)).getD n).setRf (Reg.PUB_STRM_AUTH i.val) 7 0
        ((k.map BitVec.toNat).getD (n.rf (Reg.PUB_STRM_AUTH i.val) 7 0))).writeStreamCtl i.val w = .done St.OK words u)
    (fun _ => u)) ∧
  (∀ h a, Performs (.pubGocbRaw h a) 0x0A81 h
    (fun n => outside 1 64 a.tMin = false ∧ outside 100 60000 a.t0 = false ∧
      n.authRefused (bit (n.rawGocbCtl a) 29) (fld (n.rawGocbCtl a) 15 8) = false)
    (fun n => n.setGocbRaw a)) ∧
  (∀ h l, Performs (.pubTblRaw h l) 0x0A82 h
    (fun n => ∀ e ∈ l, e.index < pubEntries e.table.val ∧ (e.table = 0 → n.limitType (e.words.toList.headD 0#32) = false))
    (fun n => l.foldl (fun (t : State) e => (t.pubWrite e.table.val e.index e.words.toList).2) n))

/-- What Atomizer does by itself, and its table window: command frames of clients, alarm batches, retransmissions, releases of lands, snapshots,
and changes of streams. -/
def Obligations.PublicationEventsComplete : Prop :=
  (∀ a s, exec (.pubTblRead a) s = .next (s.advance a).pubTblRead) ∧
  (∀ a s, exec (.pubTblWrite a) s = .next (((s.advance a).pubWrite s.pubIdx.1 s.pubIdx.2 ((upto 4).map (fun w => s.reg (Reg.PUB_TBL_W w)))).2.setRf
    Reg.PUB_TBL_CMD 30 28 ((s.advance a).pubWrite s.pubIdx.1 s.pubIdx.2 ((upto 4).map (fun w => s.reg (Reg.PUB_TBL_W w)))).1)) ∧
  (∀ a i s, s.rb (Reg.PUB_STRM_CTL (Fin.val i)) 28 = false → s.rb (Reg.PUB_STRM_CTL i.val) 26 = true → (s.stream i.val).layout ≠ none →
    exec (.c37CommandFrameReceive a i .dataOn) s = .next ((s.advance a).updStream i.val (fun x => { x with on := true }))) ∧
  (∀ a i s, s.rb (Reg.PUB_STRM_CTL (Fin.val i)) 28 = false → s.rb (Reg.PUB_STRM_CTL i.val) 26 = true → (s.stream i.val).layout ≠ none →
    exec (.c37CommandFrameReceive a i .dataOff) s = .next ((s.advance a).updStream i.val (fun x => { x with on := false }))) ∧
  (∀ a i b s, s.rb (Reg.PUB_STRM_CTL (Fin.val i)) 28 = false → s.rb (Reg.PUB_STRM_CTL i.val) 26 = true → (s.stream i.val).layout ≠ none →
    s.speaks = true → exec (.c37CommandFrameReceive a i (if b then .sendCfg3 else .sendCfg2)) s =
      .next ((s.advance a).setPub (fun p => { p with answers := p.answers ++ ((s.advance a).cfgAnswer i.val b).toList }))) ∧
  (∀ a b rest s, s.batches = b :: rest → s.runs Isle.atomizer = true → s.barred Isle.nose = false → exec (.alarmBatchReceive a) s =
    .next (State.takeBatch { (s.advance a) with batches := rest } b)) ∧
  (∀ k u s, (s.block (Fin.val k)).due = some u → s.blockRuns k.val = true → s.runs Isle.atomizer = true → exec (.gooseRetransmit k) s =
    .next ((s.advanceUp u).retransmit k.val)) ∧
  (∀ n u s, (s.land (Fin.val n)).relDue = some u → s.landWanted n.val = false → s.runs Isle.atomizer = true → exec (.alarmOutMinOnExpiry n) s =
    .next ((s.advanceUp u).updLand n.val (fun _ => idleLand))) ∧
  (∀ a x rest s, s.aln.pub = x :: rest → s.runs Isle.atomizer = true → s.publishable x = true → exec (.snapshotPublish a) s =
    .next (((s.advance a).setAln (fun y => { y with pub := rest })).publishSnapshot x)) ∧
  (∀ i t c s, (s.stream (Fin.val i)).pend = some (t, c) → exec (.streamChangeEffective i) s = .next ((s.advance t).applyStream i.val t c))

/-! ### Oscillation analysis (chapter 08) -/

/-- The oscillation commands: status, modes and forced records read; a STOPPED set takes its profile, signals and raw words and starts; thresholds,
tuning and branches are set; a set stops. -/
def Obligations.OscillationCommandsComplete : Prop :=
  (∀ h, Reads (.oscStatus h) 0x0800 h) ∧
  (∀ h a, Performs (.oscSetProfile h a) 0x0801 h
    (fun n => (n.oset a.set.val).run = false ∧ 10 ≤ a.winS ∧ a.winS ≤ 600 ∧ 1 ≤ a.count ∧ a.first + a.count ≤ 256 ∧ a.order ≤ 25 ∧
      (n.setOscProfile a).bandBad a.set.val = false)
    (fun n => n.setOscProfile a)) ∧
  (∀ h i l, Performs (.oscSignals h i l) 0x0802 h
    (fun n => (n.oset (Fin.val i)).run = false ∧ ∀ a ∈ l, n.hasCore i.val a.core.val = true ∧ n.sigErr a.index a.w0 a.w1 = 0)
    (fun n => l.foldl (fun (t : State) a => t.putSig a.index a.w0 a.w1 a.scale) n)) ∧
  (∀ h a, Performs (.oscThresholds h a) 0x0803 h
    (fun _ => outside 1 1023 a.dampPers = false ∧ outside 1 1023 a.ampPers = false ∧ outside 1 1023 a.clrPers = false)
    (fun n => ((((((n.setRegSome (Reg.OSC_SET_B_DAMP a.set.val a.band.val) a.zeta).setRegSome (Reg.OSC_SET_B_HYST a.set.val a.band.val)
      a.hyst).setRegSome (Reg.OSC_SET_B_AMIN a.set.val a.band.val) a.aMin).setRegSome (Reg.OSC_SET_B_AMAX a.set.val a.band.val) a.aMax).setSome
      (Reg.OSC_SET_B_PERS a.set.val a.band.val) 9 0 a.dampPers).setSome (Reg.OSC_SET_B_PERS a.set.val a.band.val) 19 10 a.ampPers).setSome
      (Reg.OSC_SET_B_PERS a.set.val a.band.val) 29 20 a.clrPers)) ∧
  (∀ h i, Performs (.oscSetStart h i) 0x0804 h (fun n => (n.copyRef i.val).startErr i.val = 0)
    (fun n => (n.copyRef i.val).updSet i.val (fun _ => { stoppedSet with run := true, first := true, since := n.now, nextU := n.now / ms 100 + 1 }))) ∧
  (∀ h i, Performs (.oscSetStop h i) 0x0805 h (fun _ => True) (fun n => n.stopSet (Fin.val i))) ∧
  (∀ h i b, Reads (.oscModesRead h i b) 0x0806 h) ∧
  (∀ h l, Performs (.oscDefBranches h l) 0x0807 h
    (fun n => ∀ a ∈ l, n.branchErr a.index.val (a.words.headD 0#32) ((a.words.drop 1).headD 0#32) = 0)
    (fun n => l.foldl (fun (t : State) a => t.putBranch a.index.val a.words) n)) ∧
  (∀ h i b, Reads (.oscForcedRead h i b) 0x0808 h) ∧
  (∀ h i l, Performs (.oscSetRaw h i l) 0x0880 h
    (fun n => (∀ p ∈ l, n.oscHeldReg (Fin.val i) (4 * p.1.val) = false) ∧ (∀ p ∈ l, oscWordBad (4 * p.1.val) p.2 = false) ∧
      (l.foldl (fun (t : State) p => t.plainWrite (Reg.OSC_SET_CTL i.val + 4 * p.1.val) p.2) n).changeErr i.val (l.map (fun p => 4 * p.1.val)) = 0)
    (fun n => l.foldl (fun (t : State) p => t.plainWrite (Reg.OSC_SET_CTL i.val + 4 * p.1.val) p.2) n)) ∧
  (∀ h l, Performs (.oscSigRaw h l) 0x0881 h (fun n => ∀ e ∈ l, (n.oscWrite e.branch e.index e.words.toList).1 = 0)
    (fun n => l.foldl (fun (t : State) e => (t.oscWrite e.branch e.index e.words.toList).2) n)) ∧
  (∀ h a, Performs (.oscTune h a) 0x0882 h (fun _ => a.bad = false) (fun n => n.setOscTune a))

/-- What the oscillation engine does by itself, and its table window: snapshots are taken in, and updates become ready and complete. -/
def Obligations.OscillationEventsComplete : Prop :=
  (∀ a s, exec (.oscTblRead a) s = .next (s.advance a).oscTblRead) ∧
  (∀ a s, exec (.oscTblWrite a) s = .next (((s.advance a).oscWrite s.oscIdx.1 s.oscIdx.2 ((upto 4).map (fun w => s.reg (Reg.OSC_TBL_W w)))).2.setRf
    Reg.OSC_TBL_CMD 30 28 ((s.advance a).oscWrite s.oscIdx.1 s.oscIdx.2 ((upto 4).map (fun w => s.reg (Reg.OSC_TBL_W w)))).1)) ∧
  (∀ a x rest s, s.aln.osc = x :: rest → s.barred Isle.accord = false → s.runs Isle.nose = true → s.rb Reg.OSC_CTL 0 = true →
    exec (.oscSnapshotIntake a) s = .next (((s.advance a).setAln (fun y => { y with osc := rest })).oscTake x)) ∧
  (∀ a i s, (s.advance a).oscReady (Fin.val i) = true → s.runs Isle.nose = true → exec (.oscUpdateReady a i) s =
    .next ((s.advance a).oscQueue i.val)) ∧
  (∀ a i u s, (s.oset (Fin.val i)).current = some u → s.runs Isle.nose = true → exec (.oscUpdateComplete a i) s =
    .next ((((s.advance a).oscResult i.val u).updSet i.val (fun x => { x with current := x.waiting, waiting := none })).issueBarrier Isle.nose))

/-! ### Disturbance capture (chapter 11) -/

/-- The capture commands: status and the list read; an IDLE unit takes its profile, channels and sequencer words and arms; a unit is stopped or
forced; a closed record is copied to the host, freed, locked or unlocked; capture is tuned. -/
def Obligations.CaptureCommandsComplete : Prop :=
  (∀ h, Reads (.capStatus h) 0x0B00 h) ∧
  (∀ h a, Performs (.capUnitProfile h a) 0x0B01 h (fun n => n.unitIdle a.unit.val = true ∧ a.pre < 2 ^ 20 ∧ a.post < 2 ^ 32)
    (fun n => n.setCapProfile a)) ∧
  (∀ h u l, Performs (.capChannels h u l) 0x0B02 h (fun n => n.unitIdle (Fin.val u) = true)
    (fun n => l.foldl (fun (t : State) c => t.setReg (Reg.CAP_U_CH u.val c.k.val) (putBit 31 c.en ||| put 17 0 c.src.toNat)) n)) ∧
  (∀ h u t k b, Performs (.capArm h u) 0x0B03 h (fun n => n.arm (Fin.val u) false = (.ok (k, b), t)) (fun _ => t)) ∧
  (∀ h u keep, Performs (.capStop h u keep) 0x0B04 h (fun n => (n.capUnit (Fin.val u)).st = .triggered) (fun n => n.beginClose u.val 4)) ∧
  (∀ h u keep, Performs (.capStop h u keep) 0x0B04 h (fun n => (n.capUnit (Fin.val u)).st = .filling ∨ (n.capUnit u.val).st = .armed)
    (fun n => if keep then n.keepRing u.val else n.disarm u.val)) ∧
  (∀ h u, Performs (.capForce h u) 0x0B05 h (fun n => (n.capUnit (Fin.val u)).st = .filling ∨ (n.capUnit u.val).st = .armed)
    (fun n => n.updUnit u.val (fun x => { x with force := true }))) ∧
  (∀ h f, Reads (.capList h f) 0x0B06 h) ∧
  (∀ h a r n s, Ready 0x0B07 h s → n = s.turn 0x0B07 h → n.capRec a.number.val = some r → r.closed = true → 512 ≤ h.bufLen →
    a.first ≤ r.rows.length → (n.copyRecord h.via h.bufAddr h.bufLen r a).2.chunksPass h.via →
    n.breaksLock ((n.copyRecord h.via h.bufAddr h.bufLen r a).2.chunksGone h.via) = false →
    exec (.capRead h a) s = .next ((s.returned 0x0B07 h ((n.copyRecord h.via h.bufAddr h.bufLen r a).2.chunksGone h.via)).complete h.session h.seq
      (if r.flags % 2 = 1 then St.CAP_OVERFLOW else St.OK) (n.copyRecord h.via h.bufAddr h.bufLen r a).1)) ∧
  (∀ h k r, Performs (.capFree h k) 0x0B08 h
    (fun n => n.capRec (Fin.val k) = some r ∧ r.closed = true ∧ r.locked = false)
    (fun n => n.dropRec k.val)) ∧
  (∀ h k b r, Performs (.capLock h k b) 0x0B09 h (fun n => n.capRec (Fin.val k) = some r)
    (fun n => n.updRec k.val (fun r => { r with locked := b }))) ∧
  (∀ h u l, Performs (.capSeqRaw h u l) 0x0B80 h (fun n => n.unitIdle (Fin.val u) = true)
    (fun n => l.foldl (fun (t : State) w => t.setReg (seqReg u.val w.st.val w.slot.val) (w.val &&& seqMask w.slot.val)) n)) ∧
  (∀ h u tr t k b, Performs (.capArmX h u tr) 0x0B81 h (fun n => n.arm (Fin.val u) tr = (.ok (k, b), t)) (fun _ => t)) ∧
  (∀ h a, Performs (.capTune h a) 0x0B82 h (fun _ => outside 1 1000 a.rowWait = false ∧ outside 0 8 a.partGib = false)
    (fun n => n.setCapTune a))

/-- What capture does by itself, and the write of its partition size: rows close, events queue, records drain. -/
def Obligations.CaptureEventsComplete : Prop :=
  (∀ a g s, exec (.capPartWrite a g) s = .next ((s.advance a).writeCapCtl (setFld (s.reg Reg.CAP_CTL) 11 8 (Fin.val g)))) ∧
  (∀ a m rest s, s.runs Isle.capture = true → takeFirst CapIn.isElem s.capIn = some (.raw m, rest) → exec (.captureRowClose a) s =
    .next (({ (s.advance a) with capIn := rest }).capRaw m).closeAll) ∧
  (∀ a v rest s, s.runs Isle.capture = true → takeFirst CapIn.isElem s.capIn = some (.est v, rest) → exec (.captureRowClose a) s =
    .next (({ (s.advance a) with capIn := rest }).capEstimate v).closeAll) ∧
  (∀ u s, (s.capUnit (Fin.val u)).st ≠ .idle → s.runs Isle.capture = true → exec (.captureRowWaitExpiry u) s =
    .next (((s.advance (rowInstant (s.capUnit u.val).next (s.capUnit u.val).rate + s.rowWait)).closeRow u.val).closeAll)) ∧
  (∀ a m e rest s, s.runs Isle.capture = true → takeFirst (fun m => !m.isElem) s.capIn = some (m, rest) → m.evt = some e →
    exec (.captureEventQueue a) s =
      .next (({ (s.advance a) with capIn := rest }).queueEvt e)) ∧
  (∀ a u s, (s.capUnit (Fin.val u)).st = .closing → s.runs Isle.capture = true → exec (.recordDrainComplete a u) s =
    .next ((s.advance a).drained u.val))

/-! ### Sillage, the event record (chapter 12) -/

/-- The commands of the event record: status and the public key read; class settings are written, records and blocks copied to the host, the log
sealed, a nonce given, the log cleared under it, and a host event taken. -/
def Obligations.SillageCommandsComplete : Prop :=
  (∀ h, Reads (.evrStatus h) 0x0C00 h) ∧
  (∀ h p, Performs (.evrClassProfile h p) 0x0C01 h (fun _ => 1 ≤ p.interval ∧ p.interval ≤ 3600)
    (fun n => p.classes.foldl (fun (t : State) c =>
      t.setClass c.val (setFld (t.reg (Reg.EVR_CLASS_CTL c.val)) 11 0 p.interval) p.base) n)) ∧
  (∀ h a recs blks, Sends (.evrRead h a) 0x0C02 h
    (fun n => recs = (sortBy (fun x y => decide (x.item.seq ≤ y.item.seq)) (((n.evr.pinned ++ n.evr.circ ++ n.evr.refuge).map (·.2)).filter
        (fun x => decide (a.first ≤ x.item.seq) && decide (x.item.seq ≤ a.last)))).take (h.bufLen / 256) ∧
      blks = (n.evr.blocks.filter (fun b => decide (b.first ≤ a.last) && decide (a.first < b.first + b.n))).take
        (h.bufLen / 256 - recs.length) ∧ recs ≠ [])
    (fun n => (n.takePoison 5).2.hostWrite h.via h.bufAddr (wordsLE (recs.flatMap (fun x => x.item.bytes) ++ blks.flatMap (·.bytes))))) ∧
  (∀ h, Performs (.evrPubkey h) 0x0C03 h
    (fun n => (n.kslot (n.rf Reg.EVR_CTL 23 16)).st ≠ .empty ∧ (n.kslot (n.rf Reg.EVR_CTL 23 16)).cls = 3) (fun n => n)) ∧
  (∀ h, Performs (.evrSeal h) 0x0C04 h (fun _ => True) (fun n => (n.sealLog false).raise 0 0 [2#32])) ∧
  (∀ h, Performs (.evrClearNonce h) 0x0C05 h (fun _ => True)
    (fun n => (n.random 16).2.setEvr (fun e => { e with nonce := some ⟨padTo 16 (n.random 16).1, n.up + sec 60⟩ }))) ∧
  (∀ h k tag e, Performs (.evrClear h k tag) 0x0C06 h
    (fun n => n.refugeMode = false ∧ n.logLost = false ∧ n.evr.nonce = some e ∧ e.bytes = k ∧ n.up < e.due ∧
      (n.useKeySlot (n.rf Reg.EVR_CTL 15 8) [2]).1 = 0 ∧
      tag = (Config.hmacSha256 (n.keyBytes (n.rf Reg.EVR_CTL 15 8)) (k ++ n.seqLast)).take 16)
    (fun n => ((n.useKeySlot (n.rf Reg.EVR_CTL 15 8) [2]).2.setEvr (fun e => { e with nonce := none })).clearLog k)) ∧
  (∀ h a, Performs (.evrHostEvent h a) 0x0C07 h (fun _ => 48 ≤ a.cls.val)
    (fun n => n.accumulate ⟨a.cls.val, if F32.isFinite a.qty then F32.toRat a.qty else Config.infQuantity, n.now, n.time.epoch, false,
      n.degraded, a.detail.toList⟩)) ∧
  (∀ h l, Performs (.evrClassRaw h l) 0x0C80 h (fun _ => ∀ a ∈ l, fld a.ctl 11 0 ≤ 3600)
    (fun n => l.foldl (fun (t : State) a => t.setClass a.cls.val a.ctl a.base) n))

/-- What the event record does by itself: it takes events, closes accumulations, writes records and signature blocks, and drops an old nonce; a
read of EVR_SEQ_LO latches the high word. -/
def Obligations.SillageEventsComplete : Prop :=
  (∀ a m rest s, s.events = m :: rest → s.runs Isle.sillage = true → exec (.eventAccumulate a) s =
    .next (({ (s.advance a) with events := rest } : State).accumulate m)) ∧
  (∀ c x s, lookup s.evr.open_ (Fin.val c) = some x → s.runs Isle.sillage = true → exec (.accumulationIntervalEnd c) s =
    .next ((s.advance (x.start + s.classInterval c.val)).closeClass c.val false)) ∧
  (∀ c u s, s.holdoffEnd (Fin.val c) = some u → s.runs Isle.sillage = true → classImm c.val = true → exec (.immediateHoldoffEnd c) s =
    .next ((s.advanceUp u).closeClass c.val false)) ∧
  (∀ a r1 r2 s, s.runs Isle.sillage = true → exec (.recordMramWrite a r1 r2) s = .next ((s.advance a).writeNext r1 r2)) ∧
  (∀ w s, s.runs Isle.sillage = true → exec (.signatureBlockWrite w) s = .next ((s.advance w.at_).writeDue w.real1 w.real2)) ∧
  (∀ e s, s.evr.nonce = some e → exec .evrNonceExpiry s = .next ((s.advanceUp e.due).setEvr (fun x => { x with nonce := none }))) ∧
  (∀ a s, exec (.evrSeqLatchRead a) s = .next { ((s.advance a).setEvr (fun e => { e with seqHi := word (e.nextSeq / 2 ^ 32) })) with
    rdata := [word s.evr.nextSeq] })

/-! ### Flacon, the key store (chapter 13) -/

/-- The key commands outside RETIRED: slots are read, generated, derived, imported, replaced, destroyed and exported; the life cycle moves; the
device attests; attributes and settings change. -/
def Obligations.KeyCommandsComplete : Prop :=
  (∀ h, Reads (.keyStatus h) 0x0D00 h) ∧
  (∀ h k s, Ready 0x0D01 h s → s.key.lc ≠ .retired → ∃ words, exec (.keyInfo h k) s = .next ((s.advance h.at_).complete h.session h.seq
    (if (s.kslot (Fin.val k)).st = .orphaned then St.KEY_ORPHANED else St.OK) words)) ∧
  (∀ h a, Performs (.keyGenerate h a) 0x0D02 h
    (fun n => n.key.lc ≠ .retired ∧ n.createErr a.slot.val = 0 ∧ lengthFits a.cls.val a.bits = true ∧ n.key.rngOk = true)
    (fun n => (n.random (a.bits / 8)).2.createKey a.slot.val
      ⟨a.cls.val, padTo (a.bits / 8) (n.random (a.bits / 8)).1, a.uses, a.expire, a.cascade, a.exportNever, 1, none⟩)) ∧
  (∀ h a w, Performs (.keyImport h a) 0x0D03 h
    (fun n => n.key.lc ≠ .retired ∧ n.createErr a.slot.val = 0 ∧ (n.unwrap a.kek.val a.wrapped).1 = .ok w)
    (fun n => (n.unwrap a.kek.val a.wrapped).2.createKey a.slot.val ⟨w.cls, w.key, w.uses, decide (w.flags / 4 % 2 = 1),
      decide (w.flags % 2 = 1), decide (w.flags / 2 % 2 = 1), 3, some a.kek.val⟩)) ∧
  (∀ h a, Performs (.keyDerive h a) 0x0D04 h
    (fun n => n.key.lc ≠ .retired ∧ n.createErr a.slot.val = 0 ∧ a.label.length ≤ 64 ∧ a.context.length ≤ 64 ∧
      lengthFits a.cls.val a.bits = true ∧ a.cls.val ≠ 3 ∧ (n.useKeySlot a.parent.val [5]).1 = 0)
    (fun n => (n.useKeySlot a.parent.val [5]).2.createKey a.slot.val ⟨a.cls.val, deriveKey (n.keyBytes a.parent.val) a.label a.context a.bits,
      a.uses, a.expire, a.cascade, a.exportNever, 2, some a.parent.val⟩)) ∧
  (∀ h a key o p, a.source = .generate → Performs (.keyReplace h a) 0x0D05 h
    (fun n => n.key.lc ≠ .retired ∧ a.slot.val ≠ 0 ∧ (n.kslot a.slot.val).st ≠ .empty ∧ n.shadow a.slot.val = none ∧ n.key.shadows.length < 8 ∧
      (n.newKey (n.kslot a.slot.val) a.source).1 = .ok (key, o, p))
    (fun n => (n.newKey (n.kslot a.slot.val) a.source).2.setKeys (fun k => { k with
      shadows := k.shadows ++ [⟨a.slot.val, a.txn, key, a.uses, o, p, n.key.lc == .service, some (n.up + sec 60), h.session, h.seq,
        n.kslot a.slot.val⟩] }))) ∧
  (∀ h a key o p, a.source ≠ .generate → Queues (.keyReplace h a) 0x0D05 h
    (fun n => n.key.lc ≠ .retired ∧ a.slot.val ≠ 0 ∧ (n.kslot a.slot.val).st ≠ .empty ∧ n.shadow a.slot.val = none ∧ n.key.shadows.length < 8 ∧
      (n.kslot a.slot.val).cls ≠ 3 ∧ (n.newKey (n.kslot a.slot.val) a.source).1 = .ok (key, o, p) ∧
      checkValue (n.kslot a.slot.val).cls key = a.kcv)
    (fun n => (n.newKey (n.kslot a.slot.val) a.source).2.setKeys (fun k => { k with
      shadows := k.shadows ++ [⟨a.slot.val, a.txn, key, a.uses, o, p, n.key.lc == .service, none, h.session, h.seq, n.kslot a.slot.val⟩] }))) ∧
  (∀ h k c x u, Queues (.keyReplaceCommit h k c) 0x0D06 h
    (fun n => n.key.lc ≠ .retired ∧ n.shadow (Fin.val k) = some x ∧ x.staged = some u ∧ n.up < u ∧
      checkValue (x.base (n.kslot k.val)).cls x.key = c)
    (fun n => (n.dropShadow k.val).setKeys (fun y => { y with
      shadows := y.shadows ++ [{ x with staged := none, session := h.session, seq := h.seq }] }))) ∧
  (∀ h k, Performs (.keyDestroy h k) 0x0D07 h (fun n => n.key.lc ≠ .retired ∧ Fin.val k ≠ 0 ∧ (n.kslot k.val).st ≠ .empty)
    (fun n => n.destroyKey k.val)) ∧
  (∀ h k e, Performs (.keyExport h k e) 0x0D08 h
    (fun n => n.key.lc ≠ .retired ∧ (n.kslot (Fin.val k)).st ≠ .empty ∧ (n.kslot k.val).exportNever = false ∧
      (n.useKeySlot (Fin.val e) [4]).1 = 0)
    (fun n => (n.useKeySlot e.val [4]).2)) ∧
  (∀ h, Performs (.keyLcNonce h) 0x0D09 h (fun n => n.key.lc ≠ .retired)
    (fun n => (n.random 16).2.setKeys (fun k => { k with nonce := some ⟨padTo 16 (n.random 16).1, n.up + sec 60⟩ }))) ∧
  (∀ h goal k tag, Performs (.keyLifecycle h goal k tag) 0x0D0A h
    (fun n => n.key.lc ≠ .retired ∧ transition (n.rb Reg.KEY_CTL 16) n.key.lc goal = some false) (fun n => n.changeLifecycle goal)) ∧
  (∀ h goal k tag e, Performs (.keyLifecycle h goal k tag) 0x0D0A h
    (fun n => n.key.lc ≠ .retired ∧ transition (n.rb Reg.KEY_CTL 16) n.key.lc goal = some true ∧ n.rb Reg.KEY_CTL 16 = true ∧
      n.key.nonce = some e ∧ e.bytes = k ∧ n.up < e.due ∧ (n.useKeySlot (n.rf Reg.KEY_CTL 15 8) [2]).1 = 0 ∧
      tag = (Config.hmacSha256 (n.keyBytes (n.rf Reg.KEY_CTL 15 8)) (k ++ padTo 16 Config.uid ++ le 1 goal.code)).take 16)
    (fun n => ((n.useKeySlot (n.rf Reg.KEY_CTL 15 8) [2]).2.setKeys (fun x => { x with nonce := none })).changeLifecycle goal)) ∧
  (∀ h k c, Performs (.keyAttest h k c) 0x0D0B h
    (fun n => n.key.lc ≠ .retired ∧ (n.kslot (Fin.val k)).st ≠ .empty ∧ (n.useKeySlot 0 [3]).1 = 0) (fun n => (n.useKeySlot 0 [3]).2)) ∧
  (∀ h, Performs (.keyTxnResult h) 0x0D0C h (fun n => n.key.lc ≠ .retired) (fun n => n)) ∧
  (∀ h a, Performs (.keyImportClear h a) 0x0D80 h
    (fun n => n.key.lc ≠ .retired ∧ n.clearAllowed = true ∧ n.createErr a.slot.val = 0 ∧ a.cls.val ≠ 3 ∧
      lengthFits a.cls.val (8 * a.key.length) = true)
    (fun n => n.createKey a.slot.val ⟨a.cls.val, a.key, a.uses, a.expire, a.cascade, a.exportNever, 4, none⟩)) ∧
  (∀ h a, Performs (.keyAttrRaw h a) 0x0D81 h
    (fun n => n.key.lc ≠ .retired ∧ (a.slot.val = 0 → a.uses = none) ∧ (n.kslot a.slot.val).st ≠ .empty ∧
      ∀ u, a.uses = some u → u.toNat ≤ (n.kslot a.slot.val).uses.toNat)
    (fun n => n.updKslot a.slot.val (fun x => { x with uses := a.uses.getD x.uses, exportNever := x.exportNever || a.setExport }))) ∧
  (∀ h a, Performs (.keyTune h a) 0x0D82 h 
    (fun n => n.key.lc ≠ .retired ∧ outside 1 600 a.periodDs = false ∧
      (a.authSlot ≠ none ∨ a.authEn ≠ none → (n.setKeyTune a).rb Reg.KEY_CTL 16 = true →
        (n.kslot ((n.setKeyTune a).rf Reg.KEY_CTL 15 8)).st ≠ .empty ∧ (n.kslot ((n.setKeyTune a).rf Reg.KEY_CTL 15 8)).cls = 2))
    (fun n => n.setKeyTune a))

/-- What the key store does by itself: it remasks, completes commits, discards staged keys, destroys a child at the end of its use, drops an old
nonce, and tests its engines and its random source. -/
def Obligations.KeyEventsComplete : Prop :=
  (∀ a s, s.runs Isle.flacon = true → exec (.keyRemask a) s =
    .next ((upto 8).foldl State.remaskPort ((s.key.slots.map (·.1)).foldl (fun (t : State) n => t.remaskTurn n) (s.advance a)))) ∧
  (∀ a k x s, s.shadow (Fin.val k) = some x → x.staged = none → s.runs Isle.flacon = true → exec (.keyCommitComplete a k) s =
    .next ((((s.advance a).installKey x).noteOutcome x).complete x.session x.seq St.OK [])) ∧
  (∀ k x u s, s.shadow (Fin.val k) = some x → x.staged = some u → exec (.stagedKeyDiscard k) s = .next ((s.advanceUp u).dropShadow k.val)) ∧
  (∀ k s, (s.kslot (Fin.val k)).dying = true → exec (.childCascadeDestroy k) s =
    .next ((((s.advanceUp (s.kslot k.val).usedUntil).wipeSlot k.val).keyCount 3).invalidate k.val 256)) ∧
  (∀ e s, s.key.nonce = some e → exec .lcNonceExpiry s = .next ((s.advanceUp e.due).setKeys (fun k => { k with nonce := none }))) ∧
  (∀ a r s, exec (.katRun a r) s = .next ((upto 4).foldl (fun (t : State) e =>
    match (t.occasion 16 e (r.getLsbD e)).1 with
    | some inj => (((t.occasion 16 e (r.getLsbD e)).2.detect 16 inj 0 [word e]).setKeys (fun k => { k with
        katFail := (t.key.katFail.filter (· != e)) ++ [e] })).pubKeyStops
    | none => (t.occasion 16 e (r.getLsbD e)).2.setKeys (fun k => { k with katFail := t.key.katFail.filter (· != e) })) (s.advance a))) ∧
  (∀ a f i s, ((s.advance a).occasion 15 0 f).1 = some i → exec (.rngHealthTest a f) s =
    .next ((((s.advance a).occasion 15 0 f).2.detect 15 i 0 []).setKeys (fun k => { k with rngOk := false }))) ∧
  (∀ a f s, ((s.advance a).occasion 15 0 f).1 = none → exec (.rngHealthTest a f) s =
    .next (((s.advance a).occasion 15 0 f).2.setKeys (fun k => { k with rngOk := true })))

/-! ### Mailboxes, the cascade ring and bulk memory (chapters 15 and 16) -/

/-- Mailboxes: messages are sent, received, peeked at and cleared, wait where they are asked to, and channels are bound; words written and
read through the registers, lapsed claims and messages off the ring do what Table 15-1 says of them. -/
def Obligations.MailboxCompletes : Prop :=
  (∀ h i, Reads (.mbxStatus h i) 0x0F00 h) ∧
  (∀ h k w b, Performs (.mbxSend h k w b) 0x0F01 h
    (fun n => n.mayWrite (Fin.val k) hostIdent = true ∧ (n.mchan k.val).full = false ∧ n.claimedByOther k.val hostIdent = false)
    (fun n => (n.fillChan k.val hostIdent (n.genOf hostIdent) (byPosition w.toList)).settleChan k.val)) ∧
  (∀ h k w, Queues (.mbxSend h k w true) 0x0F01 h
    (fun n => n.mayWrite (Fin.val k) hostIdent = true ∧ ((n.mchan k.val).full = true ∨ n.claimedByOther k.val hostIdent = true))
    (fun n => n.setMbx (fun m => { m with waiters := m.waiters ++ [⟨k.val, some (w.toList, hostIdent), h.session, h.seq⟩] }))) ∧
  (∀ h k b, Performs (.mbxRecv h k b) 0x0F02 h (fun n => (n.mchan (Fin.val k)).full = true)
    (fun n => (n.emptyMbox k.val).settleChan k.val)) ∧
  (∀ h k, Queues (.mbxRecv h k true) 0x0F02 h (fun n => (n.mchan (Fin.val k)).full = false)
    (fun n => n.setMbx (fun m => { m with waiters := m.waiters ++ [⟨k.val, none, h.session, h.seq⟩] }))) ∧
  (∀ h k, Performs (.mbxPeek h k) 0x0F03 h (fun n => (n.mchan (Fin.val k)).full = true) (fun n => n)) ∧
  (∀ h k e x y, Performs (.mbxBind h k e x y) 0x0F04 h (fun n => n.rb (Reg.MBX_BIND (Fin.val k)) 31 = false)
    (fun n => n.writeBind k.val (putBit 31 e ||| put 23 12 (BitVec.toNat y) ||| put 11 0 (BitVec.toNat x)))) ∧
  (∀ h k, Performs (.mbxClear h k) 0x0F80 h (fun _ => True)
    (fun n => (n.updMchan (Fin.val k) (fun c => { c with full := false, claim := none })).settleChan k.val)) ∧
  (∀ a i k j v s, exec (.mbxWordWrite a i k j v) s = .next ((s.advance a).writeMbox k.val j.val i v)) ∧
  (∀ a k s, exec (.mbxW15Read a k) s = .next { ((s.advance a).readW15 (Fin.val k)).2 with rdata := [((s.advance a).readW15 k.val).1] }) ∧
  (∀ a k w s, exec (.mbxBindWrite a k w) s = .next ((s.advance a).writeBind (Fin.val k) w)) ∧
  (∀ k c s, (s.mchan (Fin.val k)).claim = some c → exec (.mbxClaimLapse k) s =
    .next ((((s.advanceUp c.due).updMchan k.val (fun x => { x with claim := none })).count (Reg.MBX_CNT 2) 1).settleChan k.val)) ∧
  (∀ a k i g w s, exec (.mbxRingMessageArrive a k i g w) s = .next ((s.advance a).arriveMbox (Fin.val k) i g w.toList))

/-- The cascade commands: status reads; on the head a rejoin of an absent member and a new formation are accepted; the tuning is set. -/
def Obligations.CascadeCommandsComplete : Prop :=
  (∀ h, Reads (.casStatus h) 0x1000 h) ∧
  (∀ h m, Accepts (.casRejoin h m) 0x1001 h
    (fun n => n.isHead = true ∧ n.cas.rejoin = none ∧ n.cas.formDue = none ∧ n.cas.absent.getLsbD (Fin.val m) = true)
    (fun n => n.orderRejoin h m)) ∧
  (∀ h, Accepts (.casReform h) 0x1002 h (fun n => n.isHead = true ∧ n.cas.rejoin = none ∧ n.cas.formDue = none)
    (fun n => n.startFormation (some (h.session, h.seq)))) ∧
  (∀ h x y, Performs (.casTune h x y) 0x1080 h (fun _ => True)
    (fun n => let t := (x.map (n.setRb Reg.CAS_CTL 1)).getD n; (y.map (t.setRb Reg.CAS_CTL 2)).getD t))

/-- The cascade ring by itself: its formation, its map, its frames, and a member that is bypassed and rejoins. -/
def Obligations.CascadeEventsComplete : Prop :=
  (∀ a c u s, exec (.ringFormationToken a c u) s = .next ((s.advance a).takeToken c u)) ∧
  (∀ a c u s, exec (.ringFormationReturn a c u) s = .next ((s.advance a).returnToken c u)) ∧
  (∀ u s, s.cas.formDue = some u → exec .ringFormationTimeout s = .next ((s.advanceUp u).endFormation .alone 1 [Config.uid])) ∧
  (∀ a s, s.isHead = true → exec (.ringMapBroadcast a) s = .next ((s.advance a).ringOut none (.map s.cas.present s.cas.absent))) ∧
  (∀ a x y s, exec (.ringMapReceive a x y) s = .next ((s.advance a).takeMap x y)) ∧
  (∀ a f s, exec (.ringFrameReceive a f) s = .next ((s.advance a).receiveRing f)) ∧
  (∀ a s, s.inRing = true → s.rb Reg.CAS_CTL 1 = true → s.cas.skipping = false → exec (.crInSilence a) s =
    .next ((s.advance a).setCas (fun c => { c with skipping := true }))) ∧
  (∀ a s, s.inRing = true → (s.rb Reg.CAS_CTL 1 = false ∨ s.cas.skipping = true) → exec (.crInSilence a) s =
    .next (s.advance a).breakRing) ∧
  (∀ a s, s.cas.skipping = true → s.isHead = true → exec (.ringRelock a true) s =
    .next ((s.advance a).closeAround (Fin.ofNat 64 (s.neighbour s.ownIndex true)))) ∧
  (∀ a s, s.cas.skipping = true → s.isHead = false → exec (.ringRelock a true) s =
    .next ((s.advance a).loseFrames.ringOut (some 0) (.closedToken (Fin.ofNat 64 (s.neighbour s.ownIndex true))))) ∧
  (∀ a s, s.cas.skipping = true → exec (.ringRelock a false) s = .next (s.advance a).breakRing) ∧
  (∀ a m s, exec (.ringClosedToken a m) s = .next ((s.advance a).closeAround m)) ∧
  (∀ t s, s.cas.release = some t → s.cas.rejoin = none → exec .rejoinRelease s =
    .next ((s.advance t).setCas (fun c => { c with release := none, skipping := false, trial := some ((s.advance t).up + us 200) }))) ∧
  (∀ r s, s.cas.release = none → s.cas.rejoin = some r → r.trial = none → exec .rejoinRelease s =
    .next ((s.advance r.at_).setCas (fun c => { c with rejoin := some { r with trial := some ((s.advance r.at_).up + us 200) } }))) ∧
  (∀ a u i s, exec (.joinRecordReceive a u i) s = .next ((s.advance a).takeJoin u i)) ∧
  (∀ u s, s.cas.trial = some u → exec .rejoinTrialTimeout s = .next ((s.advanceUp u).failRejoin 0x1010))

/-- Bulk memory: status reads, tickets and the LFSRs are set, the host's area is read and written; a channel draws, and a barrier completes. -/
def Obligations.MemoryCompletes : Prop :=
  (∀ h, Reads (.memStatus h) 0x1100 h) ∧
  (∀ h p, Performs (.memTickets h p) 0x1101 h (fun _ => True)
    (fun n => (n.setReg Reg.MEM_TKT0 (TicketProfile.words p).1).setReg Reg.MEM_TKT1 p.words.2)) ∧
  (∀ h o l, Sends (.memHostRead h o l) 0x1102 h (fun _ => o + l ≤ hostSize ∧ l ≤ h.bufLen)
    (fun n => (n.readBulk 4 (hostBase + o) l).2.hostWrite h.via h.bufAddr (wordsLE (hostRange n.mem o l (n.readBulk 4 (hostBase + o) l).1)))) ∧
  (∀ h o d, Performs (.memHostWrite h o d) 0x1103 h (fun _ => o + d.length ≤ hostSize) (fun n => n.setMem (fun m => m.writeBytes o d))) ∧
  (∀ h x y, Performs (.memTicketsRaw h x y) 0x1180 h (fun _ => True) (fun n => (n.setReg Reg.MEM_TKT0 x).setReg Reg.MEM_TKT1 y)) ∧
  (∀ h c, Reads (.memLfsr h c none) 0x1181 h) ∧
  (∀ h c w, Performs (.memLfsr h c (some w)) 0x1181 h (fun _ => True)
    (fun n => n.updMemChan (Fin.val c) (fun x => { x with lfsr := if w = 0#32 then 1#32 else w }))) ∧
  (∀ a c p w e s, s.runs Isle.memory = true → exec (.arbitrationDraw a c p w e) s =
    .next ((s.advance a).arbitrate (Fin.val c) ((upto 8).filter (fun i => BitVec.getLsbD p i)) w e)) ∧
  (∀ a i s, exec (.barrierComplete a i) s = .next ((s.advance a).completeBarrier (Fin.val i)))

/-! ### Faults and injection (chapter 19) -/

/-- Fault commands where injection is allowed: status reads, a slot is armed or disarmed, by INJECT or by its words. -/
def Obligations.FaultCommandsComplete : Prop :=
  (∀ h, Reads (.fltStatus h) 0x1300 h) ∧
  (∀ h i, Performs (.inject h (.disarm i)) 0x1301 h (fun n => n.injAllowed = true) (fun n => n.disarmSlot (Fin.val i))) ∧
  (∀ h det tgt par mode sh de du i, Performs (.inject h (.arm det tgt par mode sh de du)) 0x1301 h
    (fun n => n.injAllowed = true ∧ sh ≤ 0xFFFF ∧ de ≤ 0xFFFF ∧ du ≤ 0xFFFF ∧
      selOk (put 4 0 (Fin.val det) ||| put 23 8 (Fin.val tgt)) par = true ∧ (upto 8).find? (fun i => (n.inj i).free) = some i)
    (fun n => (n.writeInjWords i (put 4 0 det.val ||| put 23 8 tgt.val) (put 29 28 (modeCode mode) ||| put 15 0 sh)
      (put 15 0 de ||| put 31 16 du) par).armSlot i h.session)) ∧
  (∀ h a, Performs (.fltInjRaw h a) 0x1380 h (fun n => n.injAllowed = true ∧ bit a.ctl 31 = false)
    (fun n => (n.disarmSlot a.slot.val).writeInjWords a.slot.val a.sel a.ctl a.time a.param)) ∧
  (∀ h a, Performs (.fltInjRaw h a) 0x1380 h
    (fun n => n.injAllowed = true ∧ bit a.ctl 31 = true ∧ selOk a.sel a.param = true ∧ (n.inj a.slot.val).free = true)
    (fun n => (n.writeInjWords a.slot.val a.sel a.ctl a.time a.param).armSlot a.slot.val h.session))

/-- Slots and detectors: slots armed and disarmed by their words, fired and ended; an abandoned fabric transaction, a crossing not
acknowledged, a land that reads back wrong. -/
def Obligations.FaultEventsComplete : Prop :=
  (∀ a i n s, s.injAllowed = true → exec (.injSlotArm a i n) s =
    .next ((s.advance a).writeInjCtl (Fin.val i) (setBit (s.reg (Reg.FLT_INJ_CTL i.val)) 31 true) n)) ∧
  (∀ a i s, s.injAllowed = true → exec (.injSlotDisarm a i) s = .next ((s.advance a).disarmSlot (Fin.val i))) ∧
  (∀ i s, (s.inj (Fin.val i)).st = .armed → (s.inj i.val).det ∉ [4, 5, 6, 16] → exec (.injectionFire i) s =
    .next ((s.advanceUp (s.inj i.val).due).updInj i.val (fun y => { y with st := .firing, due := y.due + y.dur }))) ∧
  (∀ i s, (s.inj (Fin.val i)).st = .armed → (s.inj i.val).det = 4 → exec (.injectionFire i) s =
    .next (((s.advanceUp (s.inj i.val).due).updInj i.val (fun y => { y with st := .firing, due := y.due + y.dur })).expireHeartbeat false)) ∧
  (∀ i s, (s.inj (Fin.val i)).st = .armed → (s.inj i.val).det = 16 → exec (.injectionFire i) s =
    exec (.katRun (s.advanceUp (s.inj i.val).due).now 0#4)
      ((s.advanceUp (s.inj i.val).due).updInj i.val (fun y => { y with st := .firing, due := y.due + y.dur }))) ∧
  (∀ i s, (s.inj (Fin.val i)).st = .armed → ((s.inj i.val).det = 5 ∨ (s.inj i.val).det = 6) → s.runs (sramOwner (s.inj i.val).target) = true →
    exec (.injectionFire i) s = .next ((upto (s.inj i.val).left).foldl (fun (t : State) _ => t.sramRead ((s.inj i.val).det == 6) (s.inj i.val).target)
      ((s.advanceUp (s.inj i.val).due).updInj i.val (fun y => { y with st := .firing, due := y.due + y.dur })))) ∧
  (∀ i s, (s.inj (Fin.val i)).st = .firing → (s.inj i.val).mode = .span → exec (.injectionSpanEnd i) s =
    .next ((s.advanceUp (s.inj i.val).due).updInj i.val (fun y => { y with st := .done }))) ∧
  (∀ u s, s.flt.lastFire = some u → exec .injBitClear s = .next ((s.advanceUp (u + sec 1)).setFlt (fun f => { f with lastFire := none }))) ∧
  (∀ a i r b s, s.runs (Fin.val i) = true → ((s.advance a).occasion 0 i.val r).1 = some b → exec (.fabricTimeout a i r) s =
    .next (((((s.advance a).occasion 0 i.val r).2.count Reg.AON_FAB_TIMEOUT 1).detect 0 b 0 [word i.val]).abandonValue i.val b)) ∧
  (∀ a x y r b s, s.runs (Fin.val x) = true → (Fin.val y) ≠ Isle.accord → ((s.advance a).occasion 1 x.val r).1 = some b →
    exec (.handshakeTimeout a x y r) s = .next (((s.advance a).occasion 1 x.val r).2.detect 1 b 0 [word x.val, word y.val])) ∧
  (∀ a x y r b s, s.runs (Fin.val x) = true → (Fin.val y) = Isle.accord → ((s.advance a).occasion 1 x.val r).1 = some b →
    exec (.handshakeTimeout a x y r) s =
      .next ((((s.advance a).occasion 1 x.val r).2.detect 1 b 0 [word x.val, word y.val]).abandonValue x.val b)) ∧
  (∀ a n r b s, s.runs Isle.atomizer = true → ((s.advance a).occasion 18 (Fin.val n) r).1 = some b →
    exec (.alarmOutReadbackCheck a n r) s = .next (
      let t := ((s.advance a).occasion 18 n.val r).2.detect 18 b 0 [word n.val]
      match t.pair.swap with
      | some (.checking _) => t.setPair (fun p => { p with swapBad := true })
      | _ => t))

/-! ### Redundant pairs (chapter 17) -/

/-- The pair commands: status reads; a pair is formed, joined, swapped, scheduled, restarted, split and tuned. -/
def Obligations.PairCommandsComplete : Prop :=
  (∀ h, Reads (.pairStatus h) 0x1200 h) ∧
  (∀ h b p, Performs (.pairForm h b p) 0x1201 h (fun n => n.pair.st = .unpaired ∧ n.pair.wants = false)
    (fun n => (((n.setRb Reg.PAIR_CTL 1 b).setRb Reg.PAIR_CTL 2 p).setRb Reg.PAIR_CTL 0 true).formPair p)) ∧
  (∀ h x, Accepts (.pairJoin h) 0x1202 h
    (fun n => n.pair.st = .solo ∧ n.pair.peer = some x ∧ n.pair.lane = true ∧ x.sideB ≠ n.sideB ∧ (x.st = .listen ∨ x.st = .unverified))
    (fun n => let t := (n.enterPair .copySrc 0 false).setPair (fun q => { q with copy := { noCopy with
        phase := 1, command := some (h.session, h.seq) } })
      (t.peerOut .join).peerOut (.settings t.image))) ∧
  (∀ h, Accepts (.pairSwap h) 0x1203 h
    (fun n => n.pair.st = .active ∧ n.peerStandby = true ∧ n.pair.swap = none ∧ (∀ x, n.pair.peer = some x → x.st ≠ .unverified))
    (fun n => n.startSwap (some (h.session, h.seq)))) ∧
  (∀ h k, Performs (.pairSwapSched h k) 0x1204 h (fun _ => k ≤ 720)
    (fun n => (n.setRf Reg.PAIR_SWAP_CTL 9 0 k).setPair (fun p => { p with lastSwap := some (p.lastSwap.getD n.now) }))) ∧
  (∀ h g t s, Ready 0x1205 h s → s.pair.st = .orphan → s.pair.copy.phaseA = true →
    t = (((s.turn 0x1205 h).enterPair .solo 0 false).setPair (fun p => { p with
      copy := noCopy, restart := some (h.session, h.seq) })).startClaim.restartAllOf →
    (s.turn 0x1205 h).breaksLock t = false → t.flight? h.session h.seq = some g →
    exec (.pairRestart h) s = .next ((s.returned 0x1205 h t).postAccepted g)) ∧
  (∀ h, Performs (.pairSplit h) 0x1206 h (fun _ => True) (fun n => (n.setRb Reg.PAIR_CTL 0 false).unpair)) ∧
  (∀ h a, Performs (.pairTune h a) 0x1280 h
    (fun _ => outside 5 40 a.quiet = false ∧ outside 4 255 a.hbMiss = false ∧ outside 100 10000 a.ackUs = false ∧
      outside 10 10000 a.checkMs = false)
    (fun n => (((n.setSome Reg.PAIR_TMO 5 0 a.quiet).setSome Reg.PAIR_TMO 15 8 a.hbMiss).setSome Reg.PAIR_TMO 29 16 a.ackUs).setSome
      Reg.PAIR_SWAP_CTL 29 16 a.checkMs))

/-- The interlock: its watchdog is fed and expires, the own wave is lost, the line falls quiet, a claim is confirmed or backs off. -/
def Obligations.InterlockEventsComplete : Prop :=
  (∀ a s, s.pair.st.holds = true → s.runs Isle.pair = true → s.pair.wdTrip = none → s.aon.causes = [] → exec (.interlockWatchdogFeed a) s =
    .next ((s.advance a).setPair (fun p => { p with fed := (s.advance a).up }))) ∧
  (∀ s, s.pair.driving = true → exec .interlockWatchdogExpiry s =
    .next ((s.advanceUp (s.pair.fed + us 2)).loseInterlock (s.pair.wdTrip.getD false))) ∧
  (∀ a r b s, s.pair.driving = true → s.pair.ownSeen = true → ((s.advance a).occasion 19 0 r).1 = some b → exec (.ownWaveLost a r) s =
    .next ((((s.advance a).occasion 19 0 r).2.detect 19 b 0 []).loseInterlock b)) ∧
  (∀ a n s, n = (s.advance a).setPair (fun p => { p with lineBusy := false }) → s.pair.driving = false → s.pair.backoff = none →
    s.runs Isle.pair = true → s.pair.st = .unverified ∨ (s.pair.st = .unpaired ∧ s.pair.wants = true) ∨
      (s.pair.st = .standby ∧ ∀ u, s.pair.swap = some (.released u) → u ≤ n.up) →
    exec (.interlockQuiet a) s = .next n.startClaim) ∧
  (∀ a n s, n = (s.advance a).setPair (fun p => { p with lineBusy := false }) → s.pair.driving = false → s.pair.st = .copyDst →
    exec (.interlockQuiet a) s = .next (n.enterPair .orphan 10 n.peerInj)) ∧
  (∀ a c s, s.pair.claim = some c → (s.advance a).firing 19 0 = none → exec (.claimConfirm a true) s = .next (s.advance a).takeOver) ∧
  (∀ a c b n s, s.pair.claim = some c → b = false ∨ (s.advance a).firing 19 0 ≠ none → n = ((s.advance a).pairCount 9 1).setPair (fun p => { p with
      driving := false, claim := none, backoff := some ((s.advance a).up + us (if s.sideB then 4 else 2)) }) →
    exec (.claimConfirm a b) s = .next (if s.pair.restart = none then n else n.loseInterlock false)) ∧
  (∀ u s, s.pair.backoff = some u → exec .claimBackoffEnd s = .next ((s.advanceUp u).setPair (fun p => { p with backoff := none }))) ∧
  (∀ a s, s.pair.wants = true → s.pair.st = .unpaired → exec (.preferActiveContendTimeout a) s =
    .next ((((s.advance a).pairCount 9 1).enterPair .listen 0 false).setPair (fun p => { p with
      wants := false, gate := false, driving := false, claim := none, backoff := none })).cutPorts)

/-- The peer lane: heartbeats, inclusion lists, records, acknowledgements and results, and the loss of the lane or of an acknowledgement. -/
def Obligations.PeerLaneEventsComplete : Prop :=
  (∀ a s, s.runs Isle.pair = true → exec (.pairHeartbeatSend a) s = .next (s.advance a).sendHeartbeat) ∧
  (∀ a b t s, (s.advance a).occasion 17 1 (!b.crcOk) = (none, t) → t.runs Isle.pair = true → exec (.pairHeartbeatReceive a b) s =
    .next (t.takeHeartbeat b)) ∧
  (∀ a b i t s, (s.advance a).occasion 17 1 (!b.crcOk) = (some i, t) → exec (.pairHeartbeatReceive a b) s =
    .next ((t.pairCount 8 1).detect 17 i 0 [1#32])) ∧
  (∀ a s, s.pair.lane = true → exec (.peerLaneLoss a) s = .next ((s.advance a).pairCount 8 s.hbMiss).loseLane) ∧
  (∀ a l t s, (s.advance a).occasion 17 1 (!l.crcOk) = (none, t) → t.runs Isle.pair = true → exec (.inclusionListReceive a l) s =
    .next (t.takeList l)) ∧
  (∀ a l t s, (s.advance a).occasion 17 1 false = (none, t) → t.runs Isle.pair = true → exec (.pairRecordFetchComplete a l) s =
    .next (t.takeRecords l)) ∧
  (∀ a g x t s, (s.advance a).occasion 17 1 false = (none, t) → t.runs Isle.pair = true → exec (.pairAckReceive a g x) s =
    .next (t.takeAck (Fin.val g) x)) ∧
  (∀ l s, s.firstOverdue = some l → exec .pairAckTimeout s =
    .next ((((((s.advanceUp l.due).pairCount 7 1).setPair (fun p => { p with forced := l.group :: p.forced.filter (· != l.group) })).enterPair .solo 5
      ((s.advanceUp l.due).pairCount 7 1).peerInj).setPair (fun p => { p with swap := none })).commitHead l.group)) ∧
  (∀ a r t s, (s.advance a).occasion 17 1 false = (none, t) → t.runs Isle.pair = true → exec (.resultRecordReceive a r) s =
    .next (t.takeResult r))

/-- The state copy and swaps: the copy's phases and its time-out; a swap drained, checked, failed, and started by the schedule. -/
def Obligations.CopyAndSwapEventsComplete : Prop :=
  (∀ a x s, s.pair.copy.phase = 1 → s.pair.st = .copySrc → exec (.copyPhaseAComplete a x) s = .next ((s.advance a).setCopy (fun c => { c with
    phase := 2, phaseA := true, tCut := some (ceilSec ((s.advance a).now + ms 100)), due := some ((s.advance a).up + sec 5) }))) ∧
  (∀ a x s, s.pair.copy.phase = 1 → s.pair.st = .copyDst → exec (.copyPhaseAComplete a (some x)) s =
    .next (((s.advance a).installSettings x).setCopy (fun c => { c with phase := 2, phaseA := true }))) ∧
  (∀ t s, s.pair.st = .copySrc → s.pair.copy.tCut = some t → exec .copyTCut s = .next ((s.advance t).peerOut (.image t (s.advance t).image))) ∧
  (∀ a x s, s.pair.copy.phase = 2 → s.pair.st = .copyDst → exec (.copyImageInstalled a (some x)) s =
    .next (let n := (((s.advance a).installImage x).setCopy (fun c => { c with phase := 3 })).replayRaw
      State.serveLists n.pair.work.length n)) ∧
  (∀ a x t s, s.pair.copy.phase = 2 → s.pair.st = .copySrc → s.pair.copy.tCut = some t → t ≤ (s.advance a).now →
    exec (.copyImageInstalled a x) s = .next ((s.advance a).setCopy (fun c => { c with phase := 3 }))) ∧
  (∀ a s, s.pair.copy.phase = 3 → (s.advance a).allLive = true → s.pair.st = .copySrc → exec (.copyComplete a) s =
    .next ((((s.advance a).enterPair .active 0 false).setPair (fun p => { p with copy := noCopy })).endCommand s.pair.copy.command St.OK)) ∧
  (∀ a s, s.pair.copy.phase = 3 → (s.advance a).allLive = true → s.pair.st = .copyDst → exec (.copyComplete a) s =
    .next (((s.advance a).enterPair .standby 0 false).setPair (fun p => { p with copy := noCopy }))) ∧
  (∀ u s, s.pair.st = .copySrc → s.pair.copy.due = some u → exec .copyTimeout s = .next ((s.advanceUp u).failCopy .solo 9 false)) ∧
  (∀ a s, s.pair.st = .active → s.pair.swap = some .draining → s.speakingFrames = false → exec (.swapFramesDrained a) s =
    .next (s.advance a).passSwap) ∧
  (∀ u s, s.pair.swap = some (.checking u) → s.pair.st = .active → (s.advanceUp u).swapFails = false → exec .swapCheckExpiry s =
    .next (((s.advanceUp u).setPair (fun p => { p with swap := none, swapCmd := none, lastSwap := some (s.advanceUp u).now })).endCommand
      s.pair.swapCmd St.OK)) ∧
  (∀ a u s, s.pair.swap = some (.checking u) → s.pair.st = .active → (s.advance a).swapFails = true → exec (.swapCheckFail a) s =
    .next ((((s.advance a).noteSwapFail.releaseIlk).setPair (fun p => { p with swap := none, swapBad := false, switchPend := none })).unverify
      8 false)) ∧
  (∀ t s, s.nextSwap = some t → s.pair.st = .active → s.peerStandby = true → s.pair.swap = none → exec .scheduledSwap s =
    .next ((s.advance (max t (ceilSec s.now))).startSwap none))

/-! ### Power, reset and the timing companion (chapter 18) -/

/-- The power commands: status and the companion's identity read; a state is left for another, frequencies and floors are set, an island is
reset. -/
def Obligations.PowerCommandsComplete : Prop :=
  (∀ h, Performs (.aonStatus h) 0x0100 h (fun _ => True) (fun n => n.nextFree)) ∧
  (∀ h m, Queues (.pwrState h m) 0x0101 h
    (fun n => n.aon.trans = none ∧ commandable n.aon.mode m = true ∧
      (m = .run ∨ n.pair.st = .unpaired ∨ n.pair.st = .listen ∨ n.pair.st = .orphan) ∧ (m = .dormant → n.canWake = true))
    (fun n => (if n.aon.mode = .run then n.leaveRun else n).begin
      ⟨m, 5, false, some (h.session, h.seq), n.othersInFlight (h.session, h.seq)⟩)) ∧
  (∀ h e, Performs (.pwrProfile h e) 0x0102 h (fun _ => True)
    (fun n => (n.setRb Reg.AON_CTL 2 e).setProfile e)) ∧
  (∀ h, Reads (.tc10Identity h) 0x0103 h) ∧
  (∀ h c f, Performs (.avfsRaw h ⟨c, f⟩) 0x0180 h (fun _ => (∀ w, c = some w → 30 ≤ w ∧ w ≤ 65) ∧ ∀ p ∈ f, 800 ≤ p.2 ∧ p.2 ≤ 1600)
    (fun n => let t := n.setAon (fun x => { x with floors := f.foldl (fun l p => updAt l p.1.val (fun _ => p.2)) x.floors })
      match c with
      | some w => if Config.capBroken w ((upto 23).map t.floorMhz) then t.status Reg.AON_STAT 1 else t.setAon (fun x => { x with capW := w })
      | none => t)) ∧
  (∀ h i, Performs (.islandReset h i) 0x0181 h (fun _ => True)
    (fun n => let t := (n.resetIsland (Fin.val i) 0).setAon (fun a => { a with held := a.held.filter (· != i.val) })
      (if t.aon.held.isEmpty then t.dropCause 1 else t).runAgain i.val))

/-- Supplies, resets and power states: what the module does when supplies come and go, at its reset lands, at wake events and when a transition
ends; and what its test port accepts and drives. -/
def Obligations.PowerStateEventsComplete : Prop :=
  (∀ a c t s, (s.aon.vinOk && s.aon.vioOk) = false →
    t = ((if s.aon.mode = .off then s.advance a else (s.advance a).powerDown).setAon (fun x => { x with
      vinOk := true, vioOk := true, temp := c })).dropCause 0 →
    t.aon.offHeld = false → t.aon.hotOff = false ∨ c < 95 → exec (.supplyInRange a c) s =
    .next ((((t.dropCause 3).dropCause 5).setAon (fun x => { x with hotOff := false })).begin ⟨.run, 0, true, none, []⟩)) ∧
  (∀ a x t s, s.aon.trans = some t → t.cold = true → s.aon.vinOk = true → s.aon.vioOk = true →
    exec (.powerUpComplete a x) s = .next ((s.advance a).completeStart t x)) ∧
  (∀ a s, s.aon.mode ≠ .off → exec (.vinLoss a) s =
    .next (((s.advance a).setAon (fun x => { x with vinOk := false, offHeld := false })).addCause 0).powerDown) ∧
  (∀ a s, exec (.vioOutOfRange a) s = .next ((((s.advance a).setAon (fun x => { x with vioOk := false })).addCause 0).releaseLands)) ∧
  (∀ a s, exec (.vinAboveRange a) s = .next (((s.advance a).setAon (fun x => { x with vinOk := false })).addCause 0)) ∧
  (∀ a w s, 10000 ≤ w → s.aon.mode = .run ∨ s.aon.mode = .ready → exec (.resetNPulse a w) s =
    .next ((((s.advance a).resetAll.setCmd (fun c => { c with ready := false })).setAon (fun x => { x with resetLow := true })).begin
      ⟨.run, 4, true, none, []⟩)) ∧
  (∀ a w s, 10000 ≤ w → s.aon.mode = .dormant → exec (.resetNPulse a w) s = .next ((s.advance a).wakeUp 4)) ∧
  (∀ a w s, w < 1000 → exec (.resetNPulse a w) s = .next (s.advance a)) ∧
  (∀ a s, s.isHead = true → s.aon.perstLow = false → s.aon.mode = .run ∨ s.aon.mode = .ready → exec (.perstNAssert a) s =
    .next ((((((s.advance a).setAon (fun x => { x with perstLow := true })).breakAll.closeSessions.clearRings).resetRegs
      (fun r => blockOf r == 14)).setCmd (fun c => { c with hbDue := none })).raiseGen hostIdent)) ∧
  (∀ a t s, s.isHead = true → s.aon.perstLow = true →
    t = ((s.advance a).setAon (fun x => { x with perstLow := false })).resetRegs (fun r => blockOf r == 14) →
    exec (.perstNRelease a) s = .next (if t.aon.mode = .dormant then t.wakeUp 3 else t)) ∧
  (∀ a s, s.rb Reg.AON_CTL 0 = true → exec (.wakeNEdge a) s = .next ((s.advance a).wakeUp 2)) ∧
  (∀ a m f u s, s.aon.dormantAt = some u → s.aon.mode = .dormant → s.aon.trans = none → (s.port (8 + Fin.val m)).wakeable = true →
    (upto 8).filter (fun k => s.wakeMatches m.val k f) ≠ [] →
    exec (.wakePatternMatch a m f) s = .next (((((s.advance a).setReg Reg.AON_WAKE_STAT (putBit 31 true ||| putBit 16 (m.val == 1) |||
      put 7 0 (total (((upto 8).filter (fun k => s.wakeMatches m.val k f)).map (2 ^ ·))))).setReg Reg.AON_WAKE_TIME
      (word (((s.advance a).up - u) / ms 1))).setAon (fun x => { x with
        wakeFrame := some (8 + m.val, total (((upto 8).filter (fun k => s.wakeMatches m.val k f)).map (2 ^ ·))) })).wakeUp 1)) ∧
  (∀ a t s, s.aon.trans = some t → t.cold = false → (s.advance a).waitsOver t = true → exec (.stateTransitionComplete a) s =
    .next ((match t.command with
      | some (n, q) => (s.advance a).complete n q St.OK []
      | none => s.advance a).enterState t)) ∧
  (∀ (p : TestPort) (resetLow : Bool) (i : TestInstr), p.held = false →
    (p.load resetLow i).instr = (if resetLow = true ∨ i = .bypass ∨ i = .idcode then i else p.instr)) ∧
  (∀ (p : TestPort) (resetLow : Bool) (i : TestInstr) (l : TestLand), p.held = true → (p.load resetLow i).held = true ∧
    (p.load resetLow i).drives l = false) ∧
  (∀ (p : TestPort) (l : TestLand), p.drives l = true → l ≠ .ilk ∧ ∀ n, l ≠ .alarmOut n)

/-- Islands, clocks, rails, temperature and the companion. -/
def Obligations.IslandHealthEventsComplete : Prop :=
  (∀ a c s, s.aon.mode ≠ .off → c ≤ 103 → (s.advance a).firing 12 0 = none → exec (.temperatureSample a c) s =
    .next (((s.advance a).occasion 12 0 false).2.setAon (fun x => { x with temp := c }))) ∧
  (∀ a c t s, s.aon.mode ≠ .off → 103 < c → (s.advance a).firing 12 0 = none →
    t = ((((((s.advance a).occasion 12 0 true).2.setAon (fun x => { x with temp := c })).setRb Reg.AON_STAT 0 true).count Reg.AON_HOT 1).vector 22).detect
      12 false (c : Rat) [word c.toNat] →
    exec (.temperatureSample a c) s = .next (if 115 < c then
      ((t.setAon (fun x => { x with hotOff := true, offHeld := true })).addCause 3).powerDown else t.vector 15)) ∧
  (∀ a i r b l t s, s.runs (Fin.val i) = true → ((s.advance a).occasion 2 i.val r).1 = some b →
    l = ((lookup s.aon.wdTimes i.val).getD []).filter (fun u => decide ((s.advance a).up < u + sec 10)) ++ [(s.advance a).up] →
    t = (((((s.advance a).occasion 2 i.val r).2.watchdogReset i.val b).setAon (fun x => { x with wdTimes := setKey x.wdTimes i.val l })).count
      Reg.AON_WD_EXPIRE 1).detect 2 b 0 [word i.val] →
    exec (.islandWatchdogExpiry a i r) s = .next (if l.length < 3 then t.runAgain i.val
      else (t.setAon (fun x => { x with held := x.held ++ [i.val], lastHeld := i.val, wdTimes := setKey x.wdTimes i.val [] })).addCause 1)) ∧
  (∀ a i r b s, s.aon.mode ≠ .off → ((s.advance a).occasion 11 (Fin.val i) r).1 = some b → exec (.railWindowFault a i r) s =
    .next (((((s.advance a).occasion 11 i.val r).2.setFlt (fun f => { f with injCauses :=
      if b then (if s.aon.causes.contains 5 then f.injCauses else f.injCauses ++ [5]) else f.injCauses.filter (· != 5) })).addCause 5).detect
        11 b 0 [word i.val])) ∧
  (∀ a i r b s, s.runs (Fin.val i) = true → ((s.advance a).occasion 13 i.val r).1 = some b → exec (.pllLockLoss a i r) s =
    .next (((((s.advance a).occasion 13 i.val r).2.resetIsland i.val 0).detect 13 b 0 [word i.val]).setAon (fun x => { x with
      pllHeld := x.pllHeld ++ [i.val] }))) ∧
  (∀ a i s, exec (.pllRelock a i) s =
    .next (((s.advance a).setAon (fun x => { x with pllHeld := x.pllHeld.filter (· != Fin.val i) })).runAgain i.val)) ∧
  (∀ a i r b t s, s.runs (Fin.val i) = true → ((s.advance a).occasion 10 i.val r).1 = some b →
    t = ((s.advance a).occasion 10 i.val r).2.detect 10 b 0 [word i.val] →
    exec (.cpmMarginLoss a i r) s = .next (t.nextFree.setAon (fun x => { x with
      stretch := updAt x.stretch i.val (fun _ => some (t.up + us 10, match (t.aon.stretch[i.val]?).getD none with
        | some (_, f) => f
        | none => (t.aon.freq[i.val]?).getD 0))
      freq := updAt x.freq i.val (fun _ => Config.stretchedMhz t.free i.val) }))) ∧
  (∀ i u f s, (s.aon.stretch[Fin.val i]?).getD none = some (u, f) → exec (.clockStretchEnd i) s =
    .next ((s.advanceUp u).setAon (fun x => { x with
      stretch := updAt x.stretch i.val (fun _ => none), freq := updAt x.freq i.val (fun _ => f) }))) ∧
  (∀ a b s, s.aon.mode ≠ .off → exec (.tcPresChange a b) s = .next ((s.advance a).companionChange b)) ∧
  (∀ a r u s, s.aon.comp.readDue = some u → s.aon.comp.present = true → exec (.tc10IdentityReadComplete a r) s =
    .next ((s.advance a).takeIdentity r)) ∧
  (∀ u s, s.aon.comp.warmDue = some u → exec .tc10WarmupEnd s =
    .next ((s.advanceUp u).setAon (fun a => { a with comp := { a.comp with warmDue := none, inUse := true, reason := 0 } })))

/-! ### What every step keeps, and what each command and event leaves unchanged -/

/-- Every command and event, from every state, ends in a next state: none faults and none is refused, since the manual gives each an effect. -/
def Obligations.EveryCommandEndsInANextState : Prop := ∀ (c : Instr) (s : State), ∃ t, exec c s = .next t

/-- Whatever runs, a step keeps the canonical forms of the register bank, of the host area and of the converters. -/
def Obligations.StepKeepsCanonicalForms : Prop := ∀ s t : State, s.Canonical → step s = .next t → t.Canonical

/-- The module right after reset has them. -/
def Obligations.ResetIsCanonical : Prop := State.reset.Canonical

/-- A step takes exactly one command from the queue: the rest stays, in its order, and nothing joins it. -/
def Obligations.StepTakesOneCommand : Prop :=
  ∀ (c : Instr) (rest : List Instr) (s t : State), s.pending = c :: rest → step s = .next t → t.pending = rest

/-- Each command and event leaves unchanged every part of the state outside its footprint. -/
def Obligations.PartsOutsideTheFootprintStay : Prop :=
  ∀ (c : Instr) (s t : State) (P : Part), exec c s = .next t → P ∉ footprint c → P.same s t

/-- Every byte of the host area reads after a command or event as it read before, but for the bytes that MEM_HOST_WRITE names and for the events in
which bulk memory loses its contents whole. -/
def Obligations.HostAreaStaysElsewhere : Prop :=
  ∀ (c : Instr) (s t : State) (off : Nat), exec c s = .next t → mayLose c = false → writesAt c off = false → hostByte t.mem off = hostByte s.mem off

/-! ### Rules of the manual -/

/-- A command whose seq its session has recorded is not executed again (R423, R424): where the row of any opcode stands for a fetch of such a
command, every part of the module but the command block, the ring and the peer lane stays as it was, and so does every register outside the
command block's window; the session's window stays too. Where the fetch has room and both commands ask for a reply, one reply with status
DUPLICATE is written: in progress and empty while the original is in flight, and otherwise with the original's status and result, or empty in
Ready and where the kept reply comes back poisoned. -/
def Obligations.DuplicateIsNotExecutedAgain : Prop :=
  ∀ (c : Instr) (op : Nat) (h : Hdr) (s : State) (x : Cached), commandOf c = some (op, h) → h.via = .host → h.tag ≤ 255 →
    (s.advance h.at_).executable op h = none → (s.session h.session).opened = true → (s.session h.session).find h.seq = some x →
    ∃ t, exec c s = .next t ∧
      (∀ P : Part, P.same s t) ∧ (∀ a, blockOf a ≠ 14 → t.reg a = s.reg a) ∧ (∀ off, hostByte t.mem off = hostByte s.mem off) ∧
      t.pair = s.pair ∧ t.cas = s.cas ∧ t.cmd.sessions = s.cmd.sessions ∧ t.cmd.locks = s.cmd.locks ∧
      (s.fetchable = true → s.roomFor op h = true → h.noReply = false → x.noReply = false →
        ∃ r, t.cmd.replies = s.cmd.replies ++ [r] ∧ r.status = St.DUPLICATE ∧ r.seq = h.seq ∧ r.final = true ∧ r.inProgress = x.reply.isNone ∧
          r.result = (match x.reply with
            | some (st, words) => if s.aon.mode = .ready ∨ (s.takePoison 4).1.isSome = true then [] else word st :: words
            | none => [])) ∧
      (x.noReply = true → t.cmd.replies = s.cmd.replies)

/-- A command that fails changes nothing (R420, R421). The row of every opcode runs one effect of its own. Where that ends in a status that took
no effect, the module is as it was, but for the opcodes whose failures or whose uses of a key the manual counts: those leave every part but the
key store, the event record, the events on their way to it and the count of free values, every register outside the windows of their counters and the command block's, all
of bulk memory, the ring and the pair. An arming that fails may have freed records (R337), and changes nothing else. The four opcodes that send what they read from bulk memory to the host buffer may fail once transfers came
poisoned (R539): they leave every part but the detectors and the events on their way, every register outside the windows of bulk memory, the
detectors and the command block, every byte of the host area, module time and the pair. At its turn the command has that status for its outcome,
and the posting of an outcome leaves every part, and every register outside the command block's window. -/
def Obligations.FailedCommandsChangeNothing : Prop :=
  (∀ (c : Instr) (op : Nat) (h : Hdr), commandOf c = some (op, h) → ∃ (mir : Bool) (body : State → Res),
    (∀ u, exec c u = .next (runCmdAs mir op h body u)) ∧
    (∀ u st words t, body u = .done st words t → tookEffect st = false →
      (op ∉ [0x0081, 0x0304, 0x0505, 0x0582, 0x0606, 0x0B03, 0x0B07, 0x0B81, 0x0C02, 0x0C06, 0x0D03, 0x0D04, 0x0D05, 0x0D06, 0x0D08, 0x0D0A, 0x0D0B,
        0x0F01, 0x1102, 0x1301, 0x1380] → t = u) ∧
      (op ∈ [0x0B03, 0x0B81] → ∃ c, t = { u with cap := c }) ∧
      (op ∉ [0x0606, 0x0B03, 0x0B07, 0x0B81, 0x0C02, 0x1102] → (∀ P : Part, P ≠ .key → P ≠ .evr → P ≠ .events → P ≠ .free → P.same u t) ∧
        (∀ a, blockOf a ∉ [5, 12, 13, 14, 15, 19] → t.reg a = u.reg a) ∧ t.mem = u.mem ∧ t.time = u.time ∧ t.pair = u.pair ∧ t.cas = u.cas) ∧
      (op ∈ [0x0606, 0x0B07, 0x0C02, 0x1102] → (∀ P : Part, P ≠ .flt → P ≠ .events → P.same u t) ∧
        (∀ a, blockOf a ∉ [14, 17, 19] → t.reg a = u.reg a) ∧ (∀ off, hostByte t.mem off = hostByte u.mem off) ∧ t.time = u.time ∧ t.pair = u.pair)) ∧
    (∀ s st words t, Ready op h s → body (s.turn op h) = .done st words t → tookEffect st = false →
      exec c s = .next ((s.returned op h t).complete h.session h.seq st words))) ∧
  (∀ (s : State) (session : Fin 4) (seq : Word) (st : Nat) (words : List Word),
    (∀ P : Part, P.same s (s.complete session seq st words)) ∧
    (∀ a, blockOf a ≠ 14 → (s.complete session seq st words).reg a = s.reg a) ∧
    (s.complete session seq st words).mem = s.mem ∧ (s.complete session seq st words).time = s.time ∧
    (s.complete session seq st words).cmd.locks = s.cmd.locks)

/-- An effect that a lock forbids (R579): a command at its turn, but REG_WRITE and ISLAND_RESET, whose effect would change an RWL field behind a
set lock gets STATE, and nothing else changes. -/
def Obligations.LockedEffectFails : Prop :=
  ∀ (c : Instr) (op : Nat) (h : Hdr) (mir : Bool) (body : State → Res) (s t : State) (st : Nat) (words : List Word),
    (∀ u, exec c u = .next (runCmdAs mir op h body u)) → op ≠ 0x0081 → op ≠ 0x0181 → Ready op h s →
    body (s.turn op h) = .done st words t → tookEffect st = true → (s.turn op h).breaksLock t = true →
    exec c s = .next ((s.advance h.at_).complete h.session h.seq St.STATE [])

/-- In Ready the module executes the commands of the islands that run there and those of the command block, and every other command at its turn
gets STATE (R512). -/
def Obligations.ReadyExecutesItsOwnOpcodes : Prop :=
  (∀ (s : State) (op : Nat), s.aon.mode = .ready → s.aon.imageFail = false →
    (s.opcodeRuns op = true ↔ op ∈ [0x0000, 0x0001, 0x0100, 0x0103, 0x0101, 0x0102, 0x0200, 0x0300, 0x1000] ∨ op / 256 = 0x0E)) ∧
  (∀ (c : Instr) (op : Nat) (h : Hdr) (s : State) (f : Flight), commandOf c = some (op, h) → s.aon.mode = .ready → s.aon.imageFail = false →
    op ∉ [0x0000, 0x0001, 0x0100, 0x0103, 0x0101, 0x0102, 0x0200, 0x0300, 0x1000] → op / 256 ≠ 0x0E →
    (s.advance h.at_).executable op h = some f → f.via ≠ .peer → (f.st = .mirrored ∨ (s.advance h.at_).pairGate = .pass) →
    exec c s = .next ((s.advance h.at_).complete h.session h.seq St.STATE []))

/-- Fine time is the 40-bit count of nanoseconds of module time, seconds and nanoseconds together; it wraps every 2^40 ns, and the fraction is no
part of it (R27). The signed difference of two fine times, read as a 40-bit two's-complement value, is the true difference of two instants less
than 2^39 ns apart (R28). -/
def Obligations.FineTimeIsTheNanosecondCount : Prop :=
  (∀ t : Instant, fineOf t = (secsOf t * 1000000000 + nsecOf t) % 2 ^ 40 ∧ fineOf t < 2 ^ 40 ∧ fineOf (t + ns (2 ^ 40)) = fineOf t ∧
    (∀ f : Nat, f < 65536 → fineOf (t - fracOf t + f : Nat) = fineOf t)) ∧
  (∀ a b : Nat, (a : Int) - b < 2 ^ 39 → (b : Int) - a < 2 ^ 39 → fineDiff (fineOf (ns a)) (fineOf (ns b)) = (a : Int) - b)

/-- An edge at a time-to-digital converter that runs and takes it (R62, R63; R344 selects the edges of TDC0 to TDC3, and R38 the pulses of
TDC4): within 20 ns of the last accepted edge it is lost and counted; otherwise it is stamped at the last 1/128 ns of module time, the converter
is blind for 20 ns, and TDC0 to TDC3 hold the stamp behind those they hold, up to 16, where a further stamp is dropped and counted and ovf sets.
That TB_TDCn_STAT.lost is the counter of the stamps dropped is the model's own choice (DESIGN CHOICE, log entry 110). -/
def Obligations.ConvertersStampEdges : Prop :=
  ∀ (a : Instant) (n : Fin 6) (rising : Bool) (s u : State), s.Canonical →
    u = (if n.val < 4 then (s.advance a).trigLevel n.val rising else s.advance a) → u.runs Isle.fixative = true → u.rb Reg.TB_CTL 3 = true →
    (n.val < 4 → u.edgeSelected n.val rising = true) →
    (n.val = 4 → rising ≠ u.rb Reg.TB_TOD_CTL 2 ∧ ∀ w, u.time.ppsIn = some w → w + ms 900 ≤ u.up) →
    ∃ t, exec (.tdcEdgeStamp a n rising) s = .next t ∧
      (u.up < (u.tdcOf n.val).blind → t.tdcOf n.val = u.tdcOf n.val ∧
        t.rf (Reg.TB_TDC_STAT n.val) 15 0 = min 65535 (u.rf (Reg.TB_TDC_STAT n.val) 15 0 + 1)) ∧
      ((u.tdcOf n.val).blind ≤ u.up → ∃ x, (t.tdcOf n.val).last = some x ∧ x % 512 = 0 ∧ x ≤ u.now ∧ u.now < x + 512 ∧
        (t.tdcOf n.val).blind = u.up + ns 20 ∧
        (n.val < 4 → (u.tdcOf n.val).queue.length < 16 → (t.tdcOf n.val).queue = (u.tdcOf n.val).queue ++ [x]) ∧
        (n.val < 4 → 16 ≤ (u.tdcOf n.val).queue.length → (t.tdcOf n.val).queue = (u.tdcOf n.val).queue ∧
          t.rb (Reg.TB_TDC_STAT n.val) 31 = true ∧
          t.rf (Reg.TB_TDC_STAT n.val) 15 0 = min 65535 (u.rf (Reg.TB_TDC_STAT n.val) 15 0 + 1)))

/-- A read of TB_TXTS_ID (R66): with entries in the port's queue it removes the oldest, copies its time into the three registers beside, and
returns its identifier with valid 1; with none, valid reads 0 and nothing changes. -/
def Obligations.TxtsReadTakesTheOldest : Prop :=
  ∀ (a : Instant) (p : Fin 10) (s : State), s.Canonical →
    ((s.time.txts[p.val]?).getD [] = [] → ∃ w, bit w 31 = false ∧ exec (.txtsIdRead a p) s = .next { s.advance a with rdata := [w] }) ∧
    (∀ e rest, s.time.txts[p.val]? = some (e :: rest) → ∃ t w, exec (.txtsIdRead a p) s = .next t ∧ t.rdata = [w] ∧ bit w 31 = true ∧
      fld w 15 0 = e.frameId.toNat ∧ t.time.txts[p.val]? = some rest ∧
      t.reg (Reg.TB_TXTS_NS p.val) = word (nsecOf e.at_) ∧ t.reg (Reg.TB_TXTS_SEC_LO p.val) = word (secsOf e.at_) ∧
      t.reg (Reg.TB_TXTS_SEC_HI p.val) = word (secsOf e.at_ / 2 ^ 32))

/-- A read of W15 of a mailbox (R445): while the channel is not full it changes nothing, and while it is full it clears full, the words staying, so
that where no sender waits a second reader finds full clear. -/
def Obligations.MailboxW15ReadEmptiesTheChannel : Prop :=
  (∀ (a : Instant) (k : Fin 64) (s : State), (s.mchan k.val).full = false → exec (.mbxW15Read a k) s =
    .next { s.advance a with rdata := [s.reg (Reg.MBX_CH_W k.val 15)] }) ∧
  (∀ (a : Instant) (k : Fin 64) (s : State), (s.mchan k.val).full = true → s.mbx.waiters = [] → ∃ t, exec (.mbxW15Read a k) s = .next t ∧
    (t.mchan k.val).full = false ∧ t.regs = s.regs ∧ t.rdata = [s.reg (Reg.MBX_CH_W k.val 15)])

/-- Injection is allowed only while the lifecycle state is PROVISIONED or SERVICE and FLT_CTL.inj_en is 1 (R531). In every other case INJECT,
FLT_INJ_RAW and a REG_WRITE that names an FLT_INJ address get INJECT_DENIED at their turn, are counted, and do nothing else. -/
def Obligations.InjectionNeedsItsEnable : Prop :=
  (∀ s : State, s.injAllowed = true ↔ (s.key.lc = .provisioned ∨ s.key.lc = .service) ∧ s.rb Reg.FLT_CTL 1 = true) ∧
  (∀ h a s, Ready 0x1301 h s → (s.advance h.at_).injAllowed = false →
    exec (.inject h a) s = .next ((s.advance h.at_).denyInjection.complete h.session h.seq St.INJECT_DENIED [])) ∧
  (∀ h a s, Ready 0x1380 h s → (s.advance h.at_).injAllowed = false →
    exec (.fltInjRaw h a) s = .next ((s.advance h.at_).denyInjection.complete h.session h.seq St.INJECT_DENIED [])) ∧
  (∀ h l s, Ready 0x0081 h s → (s.advance h.at_).injAllowed = false → l.length ≤ 503 →
    (∃ p ∈ l, isInjReg (Prod.fst p : Word).toNat = true) →
    exec (.regWrite h l) s = .next ((s.advance h.at_).denyInjection.complete h.session h.seq St.INJECT_DENIED []))

/-- Module time starts at zero seconds, with the servo in FREERUN, at each reset of the Fixative island and at power-up, and timestamps are
degraded in every servo state but LOCKED (R47). -/
def Obligations.FixativeResetStartsTimeAtZero : Prop :=
  (∀ (s : State) (cause : Nat), (s.resetIsland Isle.fixative cause).time.now = 0 ∧
    (s.resetIsland Isle.fixative cause).time.servo = .freerun ∧ (s.resetIsland Isle.fixative cause).degraded = true) ∧
  State.reset.time.now = 0 ∧ State.reset.time.servo = .freerun ∧ (∀ s : State, s.time.servo ≠ .locked → s.degraded = true)

end
end

