-- ==== Sys2Proof/Laws/Command.lean ====
section
/-! SUPPORT. What the runner of the opcodes can do: a command at its turn whose effect is done gets its outcome. -/

namespace Sys2Proof.Machine

theorem Flight.is_session {f : Flight} {n : Fin 4} {q : Word} (h : f.is n q = true) : f.session = n := by
  unfold Flight.is at h; simp at h; exact h.1.1

theorem Flight.is_seq {f : Flight} {n : Fin 4} {q : Word} (h : f.is n q = true) : f.seq = q := by
  unfold Flight.is at h; simp at h; exact h.1.2

/-- Nothing breaks a lock where no register changes. -/
theorem State.breaksLock_same {s t : State} (h : t.regs = s.regs) : s.breaksLock t = false := by
  unfold State.breaksLock
  rw [List.any_eq_false]
  intro p _
  have : t.reg p.1 = s.reg p.1 := by unfold State.reg; rw [h]
  rw [this]
  unfold State.lockRefuses
  cases descAt p.1 <;> simp

theorem epochCheck_pass {h : Hdr} {body : State → Res} {s : State} (e : h.epoch = none ∨ h.epoch = some s.time.epoch) :
    epochCheck h body s = body s := by
  unfold epochCheck
  rcases e with e | e <;> simp [e]

theorem State.executable_find {s : State} {op : Nat} {h : Hdr} {f : Flight} (e : s.executable op h = some f) :
    f.session = h.session ∧ f.seq = h.seq ∧ f.is h.session h.seq = true ∧ f ∈ s.cmd.flights := by
  have q := List.find?_some e
  have m := List.mem_of_find?_eq_some e
  simp only [Bool.and_eq_true] at q
  exact ⟨Flight.is_session q.1.1.1.1, Flight.is_seq q.1.1.1.1, q.1.1.1.1, m⟩

theorem State.executable_is {s : State} {op : Nat} {h : Hdr} {f : Flight} (e : s.executable op h = some f) :
    f.session = h.session ∧ f.seq = h.seq := ⟨(State.executable_find e).1, (State.executable_find e).2.1⟩

/-- A command's effect with module time put back, as its flight's chosen instant asks. -/
def Res.put (g : State → State) : Res → Res
  | .done st words t => .done st words (g t)
  | .accepted t => .accepted (g t)
  | .waiting t => .waiting (g t)

theorem State.turn_same {s : State} {op : Nat} {h : Hdr} :
    (s.turn op h).regs = (s.advance h.at_).regs ∧ (s.turn op h).aon = (s.advance h.at_).aon ∧ (s.turn op h).cmd = (s.advance h.at_).cmd ∧
      (s.turn op h).time.epoch = s.time.epoch := by
  unfold State.turn
  cases s.chosenFor op h <;> exact ⟨rfl, rfl, rfl, rfl⟩

theorem State.turn_opcodeRuns {s : State} {op : Nat} {h : Hdr} : (s.turn op h).opcodeRuns op = (s.advance h.at_).opcodeRuns op := by
  unfold State.opcodeRuns State.runs
  rw [State.turn_same.2.1]

theorem State.turn_flight {s : State} {op : Nat} {h : Hdr} {n : Fin 4} {q : Word} :
    (s.turn op h).flight? n q = (s.advance h.at_).flight? n q := by
  unfold State.flight?
  rw [State.turn_same.2.2.1]

/-- Putting the module time back after no effect leaves the module at the command's instant. -/
theorem State.returned_turn {s : State} {op : Nat} {h : Hdr} : s.returned op h (s.turn op h) = s.advance h.at_ := by
  unfold State.returned State.turn
  cases s.chosenFor op h <;> rfl

/-- The outcome of the flight at its turn is that of its opcode from the state it works on, with the module time put back. -/
theorem State.outcomeFrom_eq {s : State} {op : Nat} {h : Hdr} {body : State → Res} {f : Flight}
    (hx : (s.advance h.at_).executable op h = some f) :
    (s.advance h.at_).outcomeFrom op h body f = ((s.turn op h).outcome op h body).put (s.returned op h) := by
  have e : s.chosenFor op h = if op = 0x0202 then none else f.chosen := by
    unfold State.chosenFor
    rw [hx]
    rfl
  unfold State.outcomeFrom State.turn State.returned
  rw [e]
  by_cases ho : op = 0x0202
  · simp only [ho, if_true, State.reckoned]
    cases f.chosen <;> dsimp only <;> cases (s.advance h.at_).outcome 0x0202 h body <;> rfl
  · simp only [ho, if_false]
    cases f.chosen with
    | none => simp only [State.reckoned]; cases (s.advance h.at_).outcome op h body <;> rfl
    | some c =>
      simp only [State.reckoned]
      cases State.outcome { s.advance h.at_ with time := { (s.advance h.at_).time with now := c } } op h body <;> rfl

/-- The outcome of a command at its turn whose effect is done and breaks no lock. -/
theorem State.outcome_done {s t : State} {op : Nat} {h : Hdr} {body : State → Res} {st : Nat} {words : List Word}
    (ho : s.opcodeRuns op = true) (hf : h.form = .good) (he : h.epoch = none ∨ h.epoch = some s.time.epoch)
    (hb : body s = .done st words t) (hl : tookEffect st = false ∨ op = 0x0081 ∨ op = 0x0181 ∨ s.breaksLock t = false) :
    s.outcome op h body = .done st words t := by
  unfold State.outcome
  simp only [ho, hf, epochCheck_pass he, hb, guardLocks]
  rcases hl with h | h | h | h <;> simp [h]

/-- A command at its turn executes, and its outcome ends it. -/
theorem runCmdAs_finish {mir : Bool} {op : Nat} {h : Hdr} {body : State → Res} {s : State} {f : Flight}
    (hx : (s.advance h.at_).executable op h = some f) (hv : f.via ≠ .peer)
    (hg : f.st = .mirrored ∨ (s.advance h.at_).pairGate = .pass) :
    runCmdAs mir op h body s = State.finish f (((s.turn op h).outcome op h body).put (s.returned op h)) := by
  unfold runCmdAs
  simp only [hx]
  unfold State.execute
  have hp : (f.via == Via.peer) = false := by simpa using hv
  simp only [hp, State.outcomeFrom_eq hx]
  rcases hg with hg | hg
  · simp [hg]
  · cases hm : (!mir || f.st == FlightState.mirrored) <;> simp [hg]

/-- A command at its turn whose effect is done gets its outcome, and the module is as the effect leaves it (R420, R428). -/
theorem runCmdAs_done {mir : Bool} {op : Nat} {h : Hdr} {body : State → Res} {s t : State} {st : Nat} {words : List Word}
    (r : Ready op h s) (hb : body (s.turn op h) = .done st words t)
    (hl : tookEffect st = false ∨ op = 0x0081 ∨ op = 0x0181 ∨ (s.turn op h).breaksLock t = false) :
    runCmdAs mir op h body s = (s.returned op h t).complete h.session h.seq st words := by
  obtain ⟨⟨f, hx, hv, hg⟩, ho, hf, he⟩ := r
  obtain ⟨h1, h2⟩ := State.executable_is hx
  rw [runCmdAs_finish hx hv hg, State.outcome_done (State.turn_opcodeRuns.trans ho) hf (by rw [State.turn_same.2.2.2]; exact he) hb hl]
  simp only [Res.put, State.finish, h1, h2]

/-- A command that replies ACCEPTED, at its turn (R419). -/
theorem runCmdAs_accepted {mir : Bool} {op : Nat} {h : Hdr} {body : State → Res} {s t : State} {g : Flight}
    (r : Ready op h s) (hb : body (s.turn op h) = .accepted t) (hl : (s.turn op h).breaksLock t = false)
    (hg : (s.returned op h t).flight? h.session h.seq = some g) :
    runCmdAs mir op h body s = (s.returned op h t).postAccepted g := by
  obtain ⟨⟨f, hx, hv, hgt⟩, ho, hf, he⟩ := r
  obtain ⟨h1, h2⟩ := State.executable_is hx
  have hout : (s.turn op h).outcome op h body = .accepted t := by
    unfold State.outcome
    rw [State.turn_opcodeRuns, ho, hf, epochCheck_pass (by rw [State.turn_same.2.2.2]; exact he), hb]
    simp [guardLocks, hl]
  rw [runCmdAs_finish hx hv hgt, hout]
  simp only [Res.put, State.finish, h1, h2, hg]

/-- Putting module time back leaves the commands in flight. -/
theorem State.returned_flight {s t : State} {op : Nat} {h : Hdr} {n : Fin 4} {q : Word} : (s.returned op h t).flight? n q = t.flight? n q := by
  unfold State.returned
  cases s.chosenFor op h <;> rfl

/-- A command that reads performs nothing but its reply. -/
theorem reads_of {i : Instr} {op : Nat} {h : Hdr} {mir : Bool} {body : State → Res}
    (he : ∀ s, exec i s = .next (runCmdAs mir op h body s)) (hb : ∀ s, ∃ words, body s = .done St.OK words s) : Reads i op h := by
  intro s r
  obtain ⟨words, hw⟩ := hb (s.turn op h)
  exact ⟨words, by rw [he, runCmdAs_done r hw (Or.inr (Or.inr (Or.inr (State.breaksLock_same rfl)))), State.returned_turn]⟩

/-- A command whose effect is done performs it. -/
theorem performs_of {i : Instr} {op : Nat} {h : Hdr} {mir : Bool} {body : State → Res} {cond : State → Prop} {f : State → State}
    (he : ∀ s, exec i s = .next (runCmdAs mir op h body s)) (hb : ∀ s, cond s → ∃ words, body s = .done St.OK words (f s)) :
    Performs i op h cond f := by
  intro s r hc hl
  obtain ⟨words, hw⟩ := hb (s.turn op h) hc
  exact ⟨words, by rw [he, runCmdAs_done r hw (Or.inr (Or.inr (Or.inr hl)))]⟩

/-- A command at its turn is in flight. -/
theorem Ready.flight {op : Nat} {h : Hdr} {s : State} (r : Ready op h s) : ∃ g, (s.advance h.at_).flight? h.session h.seq = some g := by
  obtain ⟨⟨f, hx, -⟩, -⟩ := r
  obtain ⟨-, -, hi, m⟩ := State.executable_find hx
  unfold State.flight?
  cases e : List.find? (fun f => f.is h.session h.seq) (s.advance h.at_).cmd.flights with
  | some g => exact ⟨g, rfl⟩
  | none =>
    rw [List.find?_eq_none] at e
    exact absurd hi (e f m)

/-- A command that is accepted begins its work. -/
theorem accepts_of {i : Instr} {op : Nat} {h : Hdr} {mir : Bool} {body : State → Res} {cond : State → Prop} {f : State → State}
    (he : ∀ s, exec i s = .next (runCmdAs mir op h body s)) (hb : ∀ s, cond s → body s = .accepted (f s))
    (hk : ∀ s, (f s).flight? h.session h.seq = s.flight? h.session h.seq) : Accepts i op h cond f := by
  intro s r hc hl
  obtain ⟨g, hg⟩ := r.flight
  exact ⟨g, hg, by rw [he, runCmdAs_accepted r (hb _ hc) hl (State.returned_flight.trans ((hk _).trans (State.turn_flight.trans hg)))]⟩

/-- A command that joins a queue, at its turn. -/
theorem queues_of {i : Instr} {op : Nat} {h : Hdr} {mir : Bool} {body : State → Res} {cond : State → Prop} {f : State → State}
    (he : ∀ s, exec i s = .next (runCmdAs mir op h body s)) (hb : ∀ s, cond s → body s = .waiting (f s)) : Queues i op h cond f := by
  intro s r hc
  rw [he]
  have hw := hb _ hc
  obtain ⟨⟨g, hx, hv, hgt⟩, ho, hf, hep⟩ := r
  obtain ⟨h1, h2⟩ := State.executable_is hx
  have hout : (s.turn op h).outcome op h body = .waiting (f (s.turn op h)) := by
    unfold State.outcome
    rw [State.turn_opcodeRuns, ho, hf, epochCheck_pass (by rw [State.turn_same.2.2.2]; exact hep), hw]
    simp [guardLocks]
  rw [runCmdAs_finish hx hv hgt, hout]
  simp only [Res.put, State.finish, h1, h2]

/-- What a command sends to its host buffer, where not twice poisoned, comes there with the command's outcome. -/
theorem Res.carried_done {via : Via} {st : Nat} {words : List Word} {t : State} (hp : t.chunksPass via) (ht : tookEffect st = true) :
    (Res.done st words t).carried via = .done st words (t.chunksGone via) := by
  unfold Res.carried State.chunksGone
  rcases hp with h | h | h
  · simp [h]
  · cases e : via == Via.ring <;> simp [h, ht]
  · cases e : via == Via.ring <;> simp [h, ht]

/-- A command whose effect is done and sent performs it. -/
theorem sends_of {i : Instr} {op : Nat} {h : Hdr} {mir : Bool} {body : State → Res} {cond : State → Prop} {f : State → State}
    (he : ∀ s, exec i s = .next (runCmdAs mir op h (fun s => (body s).carried h.via) s))
    (hb : ∀ s, cond s → ∃ words, body s = .done St.OK words (f s)) : Sends i op h cond f :=
  performs_of he (fun s hc => by
    obtain ⟨words, hw⟩ := hb s hc.1
    exact ⟨words, by rw [hw, Res.carried_done hc.2 rfl]⟩)

end Sys2Proof.Machine
end

