-- ==== Sys2Proof/Laws/State.lean ====
section
/-! SUPPORT. What each update of the state leaves of each of its fields: one lemma per field per update. -/

namespace Sys2Proof.Machine

variable (s : State)

/-! ### State.setAln -/

@[simp] theorem State.setAln_aln (g : AccordPart → AccordPart) : (s.setAln g).aln = g s.aln := rfl
@[simp] theorem State.setAln_pending (g : AccordPart → AccordPart) : (s.setAln g).pending = s.pending := rfl
@[simp] theorem State.setAln_regs (g : AccordPart → AccordPart) : (s.setAln g).regs = s.regs := rfl
@[simp] theorem State.setAln_rdata (g : AccordPart → AccordPart) : (s.setAln g).rdata = s.rdata := rfl
@[simp] theorem State.setAln_free (g : AccordPart → AccordPart) : (s.setAln g).free = s.free := rfl
@[simp] theorem State.setAln_events (g : AccordPart → AccordPart) : (s.setAln g).events = s.events := rfl
@[simp] theorem State.setAln_cmd (g : AccordPart → AccordPart) : (s.setAln g).cmd = s.cmd := rfl
@[simp] theorem State.setAln_aon (g : AccordPart → AccordPart) : (s.setAln g).aon = s.aon := rfl
@[simp] theorem State.setAln_time (g : AccordPart → AccordPart) : (s.setAln g).time = s.time := rfl
@[simp] theorem State.setAln_ports (g : AccordPart → AccordPart) : (s.setAln g).ports = s.ports := rfl
@[simp] theorem State.setAln_ing (g : AccordPart → AccordPart) : (s.setAln g).ing = s.ing := rfl
@[simp] theorem State.setAln_pec (g : AccordPart → AccordPart) : (s.setAln g).pec = s.pec := rfl
@[simp] theorem State.setAln_capIn (g : AccordPart → AccordPart) : (s.setAln g).capIn = s.capIn := rfl
@[simp] theorem State.setAln_lim (g : AccordPart → AccordPart) : (s.setAln g).lim = s.lim := rfl
@[simp] theorem State.setAln_isl (g : AccordPart → AccordPart) : (s.setAln g).isl = s.isl := rfl
@[simp] theorem State.setAln_batches (g : AccordPart → AccordPart) : (s.setAln g).batches = s.batches := rfl
@[simp] theorem State.setAln_pub (g : AccordPart → AccordPart) : (s.setAln g).pub = s.pub := rfl
@[simp] theorem State.setAln_osc (g : AccordPart → AccordPart) : (s.setAln g).osc = s.osc := rfl
@[simp] theorem State.setAln_cap (g : AccordPart → AccordPart) : (s.setAln g).cap = s.cap := rfl
@[simp] theorem State.setAln_flt (g : AccordPart → AccordPart) : (s.setAln g).flt = s.flt := rfl
@[simp] theorem State.setAln_key (g : AccordPart → AccordPart) : (s.setAln g).key = s.key := rfl
@[simp] theorem State.setAln_evr (g : AccordPart → AccordPart) : (s.setAln g).evr = s.evr := rfl
@[simp] theorem State.setAln_mbx (g : AccordPart → AccordPart) : (s.setAln g).mbx = s.mbx := rfl
@[simp] theorem State.setAln_cas (g : AccordPart → AccordPart) : (s.setAln g).cas = s.cas := rfl
@[simp] theorem State.setAln_pair (g : AccordPart → AccordPart) : (s.setAln g).pair = s.pair := rfl
@[simp] theorem State.setAln_mem (g : AccordPart → AccordPart) : (s.setAln g).mem = s.mem := rfl

/-! ### State.setCap -/

@[simp] theorem State.setCap_cap (g : CapPart → CapPart) : (s.setCap g).cap = g s.cap := rfl
@[simp] theorem State.setCap_pending (g : CapPart → CapPart) : (s.setCap g).pending = s.pending := rfl
@[simp] theorem State.setCap_regs (g : CapPart → CapPart) : (s.setCap g).regs = s.regs := rfl
@[simp] theorem State.setCap_rdata (g : CapPart → CapPart) : (s.setCap g).rdata = s.rdata := rfl
@[simp] theorem State.setCap_free (g : CapPart → CapPart) : (s.setCap g).free = s.free := rfl
@[simp] theorem State.setCap_events (g : CapPart → CapPart) : (s.setCap g).events = s.events := rfl
@[simp] theorem State.setCap_cmd (g : CapPart → CapPart) : (s.setCap g).cmd = s.cmd := rfl
@[simp] theorem State.setCap_aon (g : CapPart → CapPart) : (s.setCap g).aon = s.aon := rfl
@[simp] theorem State.setCap_time (g : CapPart → CapPart) : (s.setCap g).time = s.time := rfl
@[simp] theorem State.setCap_ports (g : CapPart → CapPart) : (s.setCap g).ports = s.ports := rfl
@[simp] theorem State.setCap_ing (g : CapPart → CapPart) : (s.setCap g).ing = s.ing := rfl
@[simp] theorem State.setCap_pec (g : CapPart → CapPart) : (s.setCap g).pec = s.pec := rfl
@[simp] theorem State.setCap_capIn (g : CapPart → CapPart) : (s.setCap g).capIn = s.capIn := rfl
@[simp] theorem State.setCap_aln (g : CapPart → CapPart) : (s.setCap g).aln = s.aln := rfl
@[simp] theorem State.setCap_lim (g : CapPart → CapPart) : (s.setCap g).lim = s.lim := rfl
@[simp] theorem State.setCap_isl (g : CapPart → CapPart) : (s.setCap g).isl = s.isl := rfl
@[simp] theorem State.setCap_batches (g : CapPart → CapPart) : (s.setCap g).batches = s.batches := rfl
@[simp] theorem State.setCap_pub (g : CapPart → CapPart) : (s.setCap g).pub = s.pub := rfl
@[simp] theorem State.setCap_osc (g : CapPart → CapPart) : (s.setCap g).osc = s.osc := rfl
@[simp] theorem State.setCap_flt (g : CapPart → CapPart) : (s.setCap g).flt = s.flt := rfl
@[simp] theorem State.setCap_key (g : CapPart → CapPart) : (s.setCap g).key = s.key := rfl
@[simp] theorem State.setCap_evr (g : CapPart → CapPart) : (s.setCap g).evr = s.evr := rfl
@[simp] theorem State.setCap_mbx (g : CapPart → CapPart) : (s.setCap g).mbx = s.mbx := rfl
@[simp] theorem State.setCap_cas (g : CapPart → CapPart) : (s.setCap g).cas = s.cas := rfl
@[simp] theorem State.setCap_pair (g : CapPart → CapPart) : (s.setCap g).pair = s.pair := rfl
@[simp] theorem State.setCap_mem (g : CapPart → CapPart) : (s.setCap g).mem = s.mem := rfl

/-! ### State.setCmd -/

@[simp] theorem State.setCmd_cmd (g : CmdPart → CmdPart) : (s.setCmd g).cmd = g s.cmd := rfl
@[simp] theorem State.setCmd_pending (g : CmdPart → CmdPart) : (s.setCmd g).pending = s.pending := rfl
@[simp] theorem State.setCmd_regs (g : CmdPart → CmdPart) : (s.setCmd g).regs = s.regs := rfl
@[simp] theorem State.setCmd_rdata (g : CmdPart → CmdPart) : (s.setCmd g).rdata = s.rdata := rfl
@[simp] theorem State.setCmd_free (g : CmdPart → CmdPart) : (s.setCmd g).free = s.free := rfl
@[simp] theorem State.setCmd_events (g : CmdPart → CmdPart) : (s.setCmd g).events = s.events := rfl
@[simp] theorem State.setCmd_aon (g : CmdPart → CmdPart) : (s.setCmd g).aon = s.aon := rfl
@[simp] theorem State.setCmd_time (g : CmdPart → CmdPart) : (s.setCmd g).time = s.time := rfl
@[simp] theorem State.setCmd_ports (g : CmdPart → CmdPart) : (s.setCmd g).ports = s.ports := rfl
@[simp] theorem State.setCmd_ing (g : CmdPart → CmdPart) : (s.setCmd g).ing = s.ing := rfl
@[simp] theorem State.setCmd_pec (g : CmdPart → CmdPart) : (s.setCmd g).pec = s.pec := rfl
@[simp] theorem State.setCmd_capIn (g : CmdPart → CmdPart) : (s.setCmd g).capIn = s.capIn := rfl
@[simp] theorem State.setCmd_aln (g : CmdPart → CmdPart) : (s.setCmd g).aln = s.aln := rfl
@[simp] theorem State.setCmd_lim (g : CmdPart → CmdPart) : (s.setCmd g).lim = s.lim := rfl
@[simp] theorem State.setCmd_isl (g : CmdPart → CmdPart) : (s.setCmd g).isl = s.isl := rfl
@[simp] theorem State.setCmd_batches (g : CmdPart → CmdPart) : (s.setCmd g).batches = s.batches := rfl
@[simp] theorem State.setCmd_pub (g : CmdPart → CmdPart) : (s.setCmd g).pub = s.pub := rfl
@[simp] theorem State.setCmd_osc (g : CmdPart → CmdPart) : (s.setCmd g).osc = s.osc := rfl
@[simp] theorem State.setCmd_cap (g : CmdPart → CmdPart) : (s.setCmd g).cap = s.cap := rfl
@[simp] theorem State.setCmd_flt (g : CmdPart → CmdPart) : (s.setCmd g).flt = s.flt := rfl
@[simp] theorem State.setCmd_key (g : CmdPart → CmdPart) : (s.setCmd g).key = s.key := rfl
@[simp] theorem State.setCmd_evr (g : CmdPart → CmdPart) : (s.setCmd g).evr = s.evr := rfl
@[simp] theorem State.setCmd_mbx (g : CmdPart → CmdPart) : (s.setCmd g).mbx = s.mbx := rfl
@[simp] theorem State.setCmd_cas (g : CmdPart → CmdPart) : (s.setCmd g).cas = s.cas := rfl
@[simp] theorem State.setCmd_pair (g : CmdPart → CmdPart) : (s.setCmd g).pair = s.pair := rfl
@[simp] theorem State.setCmd_mem (g : CmdPart → CmdPart) : (s.setCmd g).mem = s.mem := rfl

/-! ### State.setPec -/

@[simp] theorem State.setPec_pec (g : PecPart → PecPart) : (s.setPec g).pec = g s.pec := rfl
@[simp] theorem State.setPec_pending (g : PecPart → PecPart) : (s.setPec g).pending = s.pending := rfl
@[simp] theorem State.setPec_regs (g : PecPart → PecPart) : (s.setPec g).regs = s.regs := rfl
@[simp] theorem State.setPec_rdata (g : PecPart → PecPart) : (s.setPec g).rdata = s.rdata := rfl
@[simp] theorem State.setPec_free (g : PecPart → PecPart) : (s.setPec g).free = s.free := rfl
@[simp] theorem State.setPec_events (g : PecPart → PecPart) : (s.setPec g).events = s.events := rfl
@[simp] theorem State.setPec_cmd (g : PecPart → PecPart) : (s.setPec g).cmd = s.cmd := rfl
@[simp] theorem State.setPec_aon (g : PecPart → PecPart) : (s.setPec g).aon = s.aon := rfl
@[simp] theorem State.setPec_time (g : PecPart → PecPart) : (s.setPec g).time = s.time := rfl
@[simp] theorem State.setPec_ports (g : PecPart → PecPart) : (s.setPec g).ports = s.ports := rfl
@[simp] theorem State.setPec_ing (g : PecPart → PecPart) : (s.setPec g).ing = s.ing := rfl
@[simp] theorem State.setPec_capIn (g : PecPart → PecPart) : (s.setPec g).capIn = s.capIn := rfl
@[simp] theorem State.setPec_aln (g : PecPart → PecPart) : (s.setPec g).aln = s.aln := rfl
@[simp] theorem State.setPec_lim (g : PecPart → PecPart) : (s.setPec g).lim = s.lim := rfl
@[simp] theorem State.setPec_isl (g : PecPart → PecPart) : (s.setPec g).isl = s.isl := rfl
@[simp] theorem State.setPec_batches (g : PecPart → PecPart) : (s.setPec g).batches = s.batches := rfl
@[simp] theorem State.setPec_pub (g : PecPart → PecPart) : (s.setPec g).pub = s.pub := rfl
@[simp] theorem State.setPec_osc (g : PecPart → PecPart) : (s.setPec g).osc = s.osc := rfl
@[simp] theorem State.setPec_cap (g : PecPart → PecPart) : (s.setPec g).cap = s.cap := rfl
@[simp] theorem State.setPec_flt (g : PecPart → PecPart) : (s.setPec g).flt = s.flt := rfl
@[simp] theorem State.setPec_key (g : PecPart → PecPart) : (s.setPec g).key = s.key := rfl
@[simp] theorem State.setPec_evr (g : PecPart → PecPart) : (s.setPec g).evr = s.evr := rfl
@[simp] theorem State.setPec_mbx (g : PecPart → PecPart) : (s.setPec g).mbx = s.mbx := rfl
@[simp] theorem State.setPec_cas (g : PecPart → PecPart) : (s.setPec g).cas = s.cas := rfl
@[simp] theorem State.setPec_pair (g : PecPart → PecPart) : (s.setPec g).pair = s.pair := rfl
@[simp] theorem State.setPec_mem (g : PecPart → PecPart) : (s.setPec g).mem = s.mem := rfl

/-! ### State.setFlt -/

@[simp] theorem State.setFlt_flt (g : FltPart → FltPart) : (s.setFlt g).flt = g s.flt := rfl
@[simp] theorem State.setFlt_pending (g : FltPart → FltPart) : (s.setFlt g).pending = s.pending := rfl
@[simp] theorem State.setFlt_regs (g : FltPart → FltPart) : (s.setFlt g).regs = s.regs := rfl
@[simp] theorem State.setFlt_rdata (g : FltPart → FltPart) : (s.setFlt g).rdata = s.rdata := rfl
@[simp] theorem State.setFlt_free (g : FltPart → FltPart) : (s.setFlt g).free = s.free := rfl
@[simp] theorem State.setFlt_events (g : FltPart → FltPart) : (s.setFlt g).events = s.events := rfl
@[simp] theorem State.setFlt_cmd (g : FltPart → FltPart) : (s.setFlt g).cmd = s.cmd := rfl
@[simp] theorem State.setFlt_aon (g : FltPart → FltPart) : (s.setFlt g).aon = s.aon := rfl
@[simp] theorem State.setFlt_time (g : FltPart → FltPart) : (s.setFlt g).time = s.time := rfl
@[simp] theorem State.setFlt_ports (g : FltPart → FltPart) : (s.setFlt g).ports = s.ports := rfl
@[simp] theorem State.setFlt_ing (g : FltPart → FltPart) : (s.setFlt g).ing = s.ing := rfl
@[simp] theorem State.setFlt_pec (g : FltPart → FltPart) : (s.setFlt g).pec = s.pec := rfl
@[simp] theorem State.setFlt_capIn (g : FltPart → FltPart) : (s.setFlt g).capIn = s.capIn := rfl
@[simp] theorem State.setFlt_aln (g : FltPart → FltPart) : (s.setFlt g).aln = s.aln := rfl
@[simp] theorem State.setFlt_lim (g : FltPart → FltPart) : (s.setFlt g).lim = s.lim := rfl
@[simp] theorem State.setFlt_isl (g : FltPart → FltPart) : (s.setFlt g).isl = s.isl := rfl
@[simp] theorem State.setFlt_batches (g : FltPart → FltPart) : (s.setFlt g).batches = s.batches := rfl
@[simp] theorem State.setFlt_pub (g : FltPart → FltPart) : (s.setFlt g).pub = s.pub := rfl
@[simp] theorem State.setFlt_osc (g : FltPart → FltPart) : (s.setFlt g).osc = s.osc := rfl
@[simp] theorem State.setFlt_cap (g : FltPart → FltPart) : (s.setFlt g).cap = s.cap := rfl
@[simp] theorem State.setFlt_key (g : FltPart → FltPart) : (s.setFlt g).key = s.key := rfl
@[simp] theorem State.setFlt_evr (g : FltPart → FltPart) : (s.setFlt g).evr = s.evr := rfl
@[simp] theorem State.setFlt_mbx (g : FltPart → FltPart) : (s.setFlt g).mbx = s.mbx := rfl
@[simp] theorem State.setFlt_cas (g : FltPart → FltPart) : (s.setFlt g).cas = s.cas := rfl
@[simp] theorem State.setFlt_pair (g : FltPart → FltPart) : (s.setFlt g).pair = s.pair := rfl
@[simp] theorem State.setFlt_mem (g : FltPart → FltPart) : (s.setFlt g).mem = s.mem := rfl

/-! ### State.setCas -/

@[simp] theorem State.setCas_cas (g : CasPart → CasPart) : (s.setCas g).cas = g s.cas := rfl
@[simp] theorem State.setCas_pending (g : CasPart → CasPart) : (s.setCas g).pending = s.pending := rfl
@[simp] theorem State.setCas_regs (g : CasPart → CasPart) : (s.setCas g).regs = s.regs := rfl
@[simp] theorem State.setCas_rdata (g : CasPart → CasPart) : (s.setCas g).rdata = s.rdata := rfl
@[simp] theorem State.setCas_free (g : CasPart → CasPart) : (s.setCas g).free = s.free := rfl
@[simp] theorem State.setCas_events (g : CasPart → CasPart) : (s.setCas g).events = s.events := rfl
@[simp] theorem State.setCas_cmd (g : CasPart → CasPart) : (s.setCas g).cmd = s.cmd := rfl
@[simp] theorem State.setCas_aon (g : CasPart → CasPart) : (s.setCas g).aon = s.aon := rfl
@[simp] theorem State.setCas_time (g : CasPart → CasPart) : (s.setCas g).time = s.time := rfl
@[simp] theorem State.setCas_ports (g : CasPart → CasPart) : (s.setCas g).ports = s.ports := rfl
@[simp] theorem State.setCas_ing (g : CasPart → CasPart) : (s.setCas g).ing = s.ing := rfl
@[simp] theorem State.setCas_pec (g : CasPart → CasPart) : (s.setCas g).pec = s.pec := rfl
@[simp] theorem State.setCas_capIn (g : CasPart → CasPart) : (s.setCas g).capIn = s.capIn := rfl
@[simp] theorem State.setCas_aln (g : CasPart → CasPart) : (s.setCas g).aln = s.aln := rfl
@[simp] theorem State.setCas_lim (g : CasPart → CasPart) : (s.setCas g).lim = s.lim := rfl
@[simp] theorem State.setCas_isl (g : CasPart → CasPart) : (s.setCas g).isl = s.isl := rfl
@[simp] theorem State.setCas_batches (g : CasPart → CasPart) : (s.setCas g).batches = s.batches := rfl
@[simp] theorem State.setCas_pub (g : CasPart → CasPart) : (s.setCas g).pub = s.pub := rfl
@[simp] theorem State.setCas_osc (g : CasPart → CasPart) : (s.setCas g).osc = s.osc := rfl
@[simp] theorem State.setCas_cap (g : CasPart → CasPart) : (s.setCas g).cap = s.cap := rfl
@[simp] theorem State.setCas_flt (g : CasPart → CasPart) : (s.setCas g).flt = s.flt := rfl
@[simp] theorem State.setCas_key (g : CasPart → CasPart) : (s.setCas g).key = s.key := rfl
@[simp] theorem State.setCas_evr (g : CasPart → CasPart) : (s.setCas g).evr = s.evr := rfl
@[simp] theorem State.setCas_mbx (g : CasPart → CasPart) : (s.setCas g).mbx = s.mbx := rfl
@[simp] theorem State.setCas_pair (g : CasPart → CasPart) : (s.setCas g).pair = s.pair := rfl
@[simp] theorem State.setCas_mem (g : CasPart → CasPart) : (s.setCas g).mem = s.mem := rfl

/-! ### State.setPair -/

@[simp] theorem State.setPair_pair (g : PairPart → PairPart) : (s.setPair g).pair = g s.pair := rfl
@[simp] theorem State.setPair_pending (g : PairPart → PairPart) : (s.setPair g).pending = s.pending := rfl
@[simp] theorem State.setPair_regs (g : PairPart → PairPart) : (s.setPair g).regs = s.regs := rfl
@[simp] theorem State.setPair_rdata (g : PairPart → PairPart) : (s.setPair g).rdata = s.rdata := rfl
@[simp] theorem State.setPair_free (g : PairPart → PairPart) : (s.setPair g).free = s.free := rfl
@[simp] theorem State.setPair_events (g : PairPart → PairPart) : (s.setPair g).events = s.events := rfl
@[simp] theorem State.setPair_cmd (g : PairPart → PairPart) : (s.setPair g).cmd = s.cmd := rfl
@[simp] theorem State.setPair_aon (g : PairPart → PairPart) : (s.setPair g).aon = s.aon := rfl
@[simp] theorem State.setPair_time (g : PairPart → PairPart) : (s.setPair g).time = s.time := rfl
@[simp] theorem State.setPair_ports (g : PairPart → PairPart) : (s.setPair g).ports = s.ports := rfl
@[simp] theorem State.setPair_ing (g : PairPart → PairPart) : (s.setPair g).ing = s.ing := rfl
@[simp] theorem State.setPair_pec (g : PairPart → PairPart) : (s.setPair g).pec = s.pec := rfl
@[simp] theorem State.setPair_capIn (g : PairPart → PairPart) : (s.setPair g).capIn = s.capIn := rfl
@[simp] theorem State.setPair_aln (g : PairPart → PairPart) : (s.setPair g).aln = s.aln := rfl
@[simp] theorem State.setPair_lim (g : PairPart → PairPart) : (s.setPair g).lim = s.lim := rfl
@[simp] theorem State.setPair_isl (g : PairPart → PairPart) : (s.setPair g).isl = s.isl := rfl
@[simp] theorem State.setPair_batches (g : PairPart → PairPart) : (s.setPair g).batches = s.batches := rfl
@[simp] theorem State.setPair_pub (g : PairPart → PairPart) : (s.setPair g).pub = s.pub := rfl
@[simp] theorem State.setPair_osc (g : PairPart → PairPart) : (s.setPair g).osc = s.osc := rfl
@[simp] theorem State.setPair_cap (g : PairPart → PairPart) : (s.setPair g).cap = s.cap := rfl
@[simp] theorem State.setPair_flt (g : PairPart → PairPart) : (s.setPair g).flt = s.flt := rfl
@[simp] theorem State.setPair_key (g : PairPart → PairPart) : (s.setPair g).key = s.key := rfl
@[simp] theorem State.setPair_evr (g : PairPart → PairPart) : (s.setPair g).evr = s.evr := rfl
@[simp] theorem State.setPair_mbx (g : PairPart → PairPart) : (s.setPair g).mbx = s.mbx := rfl
@[simp] theorem State.setPair_cas (g : PairPart → PairPart) : (s.setPair g).cas = s.cas := rfl
@[simp] theorem State.setPair_mem (g : PairPart → PairPart) : (s.setPair g).mem = s.mem := rfl

/-! ### State.setIsl -/

@[simp] theorem State.setIsl_isl (g : IslPart → IslPart) : (s.setIsl g).isl = g s.isl := rfl
@[simp] theorem State.setIsl_pending (g : IslPart → IslPart) : (s.setIsl g).pending = s.pending := rfl
@[simp] theorem State.setIsl_regs (g : IslPart → IslPart) : (s.setIsl g).regs = s.regs := rfl
@[simp] theorem State.setIsl_rdata (g : IslPart → IslPart) : (s.setIsl g).rdata = s.rdata := rfl
@[simp] theorem State.setIsl_free (g : IslPart → IslPart) : (s.setIsl g).free = s.free := rfl
@[simp] theorem State.setIsl_events (g : IslPart → IslPart) : (s.setIsl g).events = s.events := rfl
@[simp] theorem State.setIsl_cmd (g : IslPart → IslPart) : (s.setIsl g).cmd = s.cmd := rfl
@[simp] theorem State.setIsl_aon (g : IslPart → IslPart) : (s.setIsl g).aon = s.aon := rfl
@[simp] theorem State.setIsl_time (g : IslPart → IslPart) : (s.setIsl g).time = s.time := rfl
@[simp] theorem State.setIsl_ports (g : IslPart → IslPart) : (s.setIsl g).ports = s.ports := rfl
@[simp] theorem State.setIsl_ing (g : IslPart → IslPart) : (s.setIsl g).ing = s.ing := rfl
@[simp] theorem State.setIsl_pec (g : IslPart → IslPart) : (s.setIsl g).pec = s.pec := rfl
@[simp] theorem State.setIsl_capIn (g : IslPart → IslPart) : (s.setIsl g).capIn = s.capIn := rfl
@[simp] theorem State.setIsl_aln (g : IslPart → IslPart) : (s.setIsl g).aln = s.aln := rfl
@[simp] theorem State.setIsl_lim (g : IslPart → IslPart) : (s.setIsl g).lim = s.lim := rfl
@[simp] theorem State.setIsl_batches (g : IslPart → IslPart) : (s.setIsl g).batches = s.batches := rfl
@[simp] theorem State.setIsl_pub (g : IslPart → IslPart) : (s.setIsl g).pub = s.pub := rfl
@[simp] theorem State.setIsl_osc (g : IslPart → IslPart) : (s.setIsl g).osc = s.osc := rfl
@[simp] theorem State.setIsl_cap (g : IslPart → IslPart) : (s.setIsl g).cap = s.cap := rfl
@[simp] theorem State.setIsl_flt (g : IslPart → IslPart) : (s.setIsl g).flt = s.flt := rfl
@[simp] theorem State.setIsl_key (g : IslPart → IslPart) : (s.setIsl g).key = s.key := rfl
@[simp] theorem State.setIsl_evr (g : IslPart → IslPart) : (s.setIsl g).evr = s.evr := rfl
@[simp] theorem State.setIsl_mbx (g : IslPart → IslPart) : (s.setIsl g).mbx = s.mbx := rfl
@[simp] theorem State.setIsl_cas (g : IslPart → IslPart) : (s.setIsl g).cas = s.cas := rfl
@[simp] theorem State.setIsl_pair (g : IslPart → IslPart) : (s.setIsl g).pair = s.pair := rfl
@[simp] theorem State.setIsl_mem (g : IslPart → IslPart) : (s.setIsl g).mem = s.mem := rfl

/-! ### State.setKeys -/

@[simp] theorem State.setKeys_key (g : KeyPart → KeyPart) : (s.setKeys g).key = g s.key := rfl
@[simp] theorem State.setKeys_pending (g : KeyPart → KeyPart) : (s.setKeys g).pending = s.pending := rfl
@[simp] theorem State.setKeys_regs (g : KeyPart → KeyPart) : (s.setKeys g).regs = s.regs := rfl
@[simp] theorem State.setKeys_rdata (g : KeyPart → KeyPart) : (s.setKeys g).rdata = s.rdata := rfl
@[simp] theorem State.setKeys_free (g : KeyPart → KeyPart) : (s.setKeys g).free = s.free := rfl
@[simp] theorem State.setKeys_events (g : KeyPart → KeyPart) : (s.setKeys g).events = s.events := rfl
@[simp] theorem State.setKeys_cmd (g : KeyPart → KeyPart) : (s.setKeys g).cmd = s.cmd := rfl
@[simp] theorem State.setKeys_aon (g : KeyPart → KeyPart) : (s.setKeys g).aon = s.aon := rfl
@[simp] theorem State.setKeys_time (g : KeyPart → KeyPart) : (s.setKeys g).time = s.time := rfl
@[simp] theorem State.setKeys_ports (g : KeyPart → KeyPart) : (s.setKeys g).ports = s.ports := rfl
@[simp] theorem State.setKeys_ing (g : KeyPart → KeyPart) : (s.setKeys g).ing = s.ing := rfl
@[simp] theorem State.setKeys_pec (g : KeyPart → KeyPart) : (s.setKeys g).pec = s.pec := rfl
@[simp] theorem State.setKeys_capIn (g : KeyPart → KeyPart) : (s.setKeys g).capIn = s.capIn := rfl
@[simp] theorem State.setKeys_aln (g : KeyPart → KeyPart) : (s.setKeys g).aln = s.aln := rfl
@[simp] theorem State.setKeys_lim (g : KeyPart → KeyPart) : (s.setKeys g).lim = s.lim := rfl
@[simp] theorem State.setKeys_isl (g : KeyPart → KeyPart) : (s.setKeys g).isl = s.isl := rfl
@[simp] theorem State.setKeys_batches (g : KeyPart → KeyPart) : (s.setKeys g).batches = s.batches := rfl
@[simp] theorem State.setKeys_pub (g : KeyPart → KeyPart) : (s.setKeys g).pub = s.pub := rfl
@[simp] theorem State.setKeys_osc (g : KeyPart → KeyPart) : (s.setKeys g).osc = s.osc := rfl
@[simp] theorem State.setKeys_cap (g : KeyPart → KeyPart) : (s.setKeys g).cap = s.cap := rfl
@[simp] theorem State.setKeys_flt (g : KeyPart → KeyPart) : (s.setKeys g).flt = s.flt := rfl
@[simp] theorem State.setKeys_evr (g : KeyPart → KeyPart) : (s.setKeys g).evr = s.evr := rfl
@[simp] theorem State.setKeys_mbx (g : KeyPart → KeyPart) : (s.setKeys g).mbx = s.mbx := rfl
@[simp] theorem State.setKeys_cas (g : KeyPart → KeyPart) : (s.setKeys g).cas = s.cas := rfl
@[simp] theorem State.setKeys_pair (g : KeyPart → KeyPart) : (s.setKeys g).pair = s.pair := rfl
@[simp] theorem State.setKeys_mem (g : KeyPart → KeyPart) : (s.setKeys g).mem = s.mem := rfl

/-! ### State.setLim -/

@[simp] theorem State.setLim_lim (g : LimPart → LimPart) : (s.setLim g).lim = g s.lim := rfl
@[simp] theorem State.setLim_pending (g : LimPart → LimPart) : (s.setLim g).pending = s.pending := rfl
@[simp] theorem State.setLim_regs (g : LimPart → LimPart) : (s.setLim g).regs = s.regs := rfl
@[simp] theorem State.setLim_rdata (g : LimPart → LimPart) : (s.setLim g).rdata = s.rdata := rfl
@[simp] theorem State.setLim_free (g : LimPart → LimPart) : (s.setLim g).free = s.free := rfl
@[simp] theorem State.setLim_events (g : LimPart → LimPart) : (s.setLim g).events = s.events := rfl
@[simp] theorem State.setLim_cmd (g : LimPart → LimPart) : (s.setLim g).cmd = s.cmd := rfl
@[simp] theorem State.setLim_aon (g : LimPart → LimPart) : (s.setLim g).aon = s.aon := rfl
@[simp] theorem State.setLim_time (g : LimPart → LimPart) : (s.setLim g).time = s.time := rfl
@[simp] theorem State.setLim_ports (g : LimPart → LimPart) : (s.setLim g).ports = s.ports := rfl
@[simp] theorem State.setLim_ing (g : LimPart → LimPart) : (s.setLim g).ing = s.ing := rfl
@[simp] theorem State.setLim_pec (g : LimPart → LimPart) : (s.setLim g).pec = s.pec := rfl
@[simp] theorem State.setLim_capIn (g : LimPart → LimPart) : (s.setLim g).capIn = s.capIn := rfl
@[simp] theorem State.setLim_aln (g : LimPart → LimPart) : (s.setLim g).aln = s.aln := rfl
@[simp] theorem State.setLim_isl (g : LimPart → LimPart) : (s.setLim g).isl = s.isl := rfl
@[simp] theorem State.setLim_batches (g : LimPart → LimPart) : (s.setLim g).batches = s.batches := rfl
@[simp] theorem State.setLim_pub (g : LimPart → LimPart) : (s.setLim g).pub = s.pub := rfl
@[simp] theorem State.setLim_osc (g : LimPart → LimPart) : (s.setLim g).osc = s.osc := rfl
@[simp] theorem State.setLim_cap (g : LimPart → LimPart) : (s.setLim g).cap = s.cap := rfl
@[simp] theorem State.setLim_flt (g : LimPart → LimPart) : (s.setLim g).flt = s.flt := rfl
@[simp] theorem State.setLim_key (g : LimPart → LimPart) : (s.setLim g).key = s.key := rfl
@[simp] theorem State.setLim_evr (g : LimPart → LimPart) : (s.setLim g).evr = s.evr := rfl
@[simp] theorem State.setLim_mbx (g : LimPart → LimPart) : (s.setLim g).mbx = s.mbx := rfl
@[simp] theorem State.setLim_cas (g : LimPart → LimPart) : (s.setLim g).cas = s.cas := rfl
@[simp] theorem State.setLim_pair (g : LimPart → LimPart) : (s.setLim g).pair = s.pair := rfl
@[simp] theorem State.setLim_mem (g : LimPart → LimPart) : (s.setLim g).mem = s.mem := rfl

/-! ### State.setMbx -/

@[simp] theorem State.setMbx_mbx (g : MbxPart → MbxPart) : (s.setMbx g).mbx = g s.mbx := rfl
@[simp] theorem State.setMbx_pending (g : MbxPart → MbxPart) : (s.setMbx g).pending = s.pending := rfl
@[simp] theorem State.setMbx_regs (g : MbxPart → MbxPart) : (s.setMbx g).regs = s.regs := rfl
@[simp] theorem State.setMbx_rdata (g : MbxPart → MbxPart) : (s.setMbx g).rdata = s.rdata := rfl
@[simp] theorem State.setMbx_free (g : MbxPart → MbxPart) : (s.setMbx g).free = s.free := rfl
@[simp] theorem State.setMbx_events (g : MbxPart → MbxPart) : (s.setMbx g).events = s.events := rfl
@[simp] theorem State.setMbx_cmd (g : MbxPart → MbxPart) : (s.setMbx g).cmd = s.cmd := rfl
@[simp] theorem State.setMbx_aon (g : MbxPart → MbxPart) : (s.setMbx g).aon = s.aon := rfl
@[simp] theorem State.setMbx_time (g : MbxPart → MbxPart) : (s.setMbx g).time = s.time := rfl
@[simp] theorem State.setMbx_ports (g : MbxPart → MbxPart) : (s.setMbx g).ports = s.ports := rfl
@[simp] theorem State.setMbx_ing (g : MbxPart → MbxPart) : (s.setMbx g).ing = s.ing := rfl
@[simp] theorem State.setMbx_pec (g : MbxPart → MbxPart) : (s.setMbx g).pec = s.pec := rfl
@[simp] theorem State.setMbx_capIn (g : MbxPart → MbxPart) : (s.setMbx g).capIn = s.capIn := rfl
@[simp] theorem State.setMbx_aln (g : MbxPart → MbxPart) : (s.setMbx g).aln = s.aln := rfl
@[simp] theorem State.setMbx_lim (g : MbxPart → MbxPart) : (s.setMbx g).lim = s.lim := rfl
@[simp] theorem State.setMbx_isl (g : MbxPart → MbxPart) : (s.setMbx g).isl = s.isl := rfl
@[simp] theorem State.setMbx_batches (g : MbxPart → MbxPart) : (s.setMbx g).batches = s.batches := rfl
@[simp] theorem State.setMbx_pub (g : MbxPart → MbxPart) : (s.setMbx g).pub = s.pub := rfl
@[simp] theorem State.setMbx_osc (g : MbxPart → MbxPart) : (s.setMbx g).osc = s.osc := rfl
@[simp] theorem State.setMbx_cap (g : MbxPart → MbxPart) : (s.setMbx g).cap = s.cap := rfl
@[simp] theorem State.setMbx_flt (g : MbxPart → MbxPart) : (s.setMbx g).flt = s.flt := rfl
@[simp] theorem State.setMbx_key (g : MbxPart → MbxPart) : (s.setMbx g).key = s.key := rfl
@[simp] theorem State.setMbx_evr (g : MbxPart → MbxPart) : (s.setMbx g).evr = s.evr := rfl
@[simp] theorem State.setMbx_cas (g : MbxPart → MbxPart) : (s.setMbx g).cas = s.cas := rfl
@[simp] theorem State.setMbx_pair (g : MbxPart → MbxPart) : (s.setMbx g).pair = s.pair := rfl
@[simp] theorem State.setMbx_mem (g : MbxPart → MbxPart) : (s.setMbx g).mem = s.mem := rfl

/-! ### State.setMem -/

@[simp] theorem State.setMem_mem (g : MemPart → MemPart) : (s.setMem g).mem = g s.mem := rfl
@[simp] theorem State.setMem_pending (g : MemPart → MemPart) : (s.setMem g).pending = s.pending := rfl
@[simp] theorem State.setMem_regs (g : MemPart → MemPart) : (s.setMem g).regs = s.regs := rfl
@[simp] theorem State.setMem_rdata (g : MemPart → MemPart) : (s.setMem g).rdata = s.rdata := rfl
@[simp] theorem State.setMem_free (g : MemPart → MemPart) : (s.setMem g).free = s.free := rfl
@[simp] theorem State.setMem_events (g : MemPart → MemPart) : (s.setMem g).events = s.events := rfl
@[simp] theorem State.setMem_cmd (g : MemPart → MemPart) : (s.setMem g).cmd = s.cmd := rfl
@[simp] theorem State.setMem_aon (g : MemPart → MemPart) : (s.setMem g).aon = s.aon := rfl
@[simp] theorem State.setMem_time (g : MemPart → MemPart) : (s.setMem g).time = s.time := rfl
@[simp] theorem State.setMem_ports (g : MemPart → MemPart) : (s.setMem g).ports = s.ports := rfl
@[simp] theorem State.setMem_ing (g : MemPart → MemPart) : (s.setMem g).ing = s.ing := rfl
@[simp] theorem State.setMem_pec (g : MemPart → MemPart) : (s.setMem g).pec = s.pec := rfl
@[simp] theorem State.setMem_capIn (g : MemPart → MemPart) : (s.setMem g).capIn = s.capIn := rfl
@[simp] theorem State.setMem_aln (g : MemPart → MemPart) : (s.setMem g).aln = s.aln := rfl
@[simp] theorem State.setMem_lim (g : MemPart → MemPart) : (s.setMem g).lim = s.lim := rfl
@[simp] theorem State.setMem_isl (g : MemPart → MemPart) : (s.setMem g).isl = s.isl := rfl
@[simp] theorem State.setMem_batches (g : MemPart → MemPart) : (s.setMem g).batches = s.batches := rfl
@[simp] theorem State.setMem_pub (g : MemPart → MemPart) : (s.setMem g).pub = s.pub := rfl
@[simp] theorem State.setMem_osc (g : MemPart → MemPart) : (s.setMem g).osc = s.osc := rfl
@[simp] theorem State.setMem_cap (g : MemPart → MemPart) : (s.setMem g).cap = s.cap := rfl
@[simp] theorem State.setMem_flt (g : MemPart → MemPart) : (s.setMem g).flt = s.flt := rfl
@[simp] theorem State.setMem_key (g : MemPart → MemPart) : (s.setMem g).key = s.key := rfl
@[simp] theorem State.setMem_evr (g : MemPart → MemPart) : (s.setMem g).evr = s.evr := rfl
@[simp] theorem State.setMem_mbx (g : MemPart → MemPart) : (s.setMem g).mbx = s.mbx := rfl
@[simp] theorem State.setMem_cas (g : MemPart → MemPart) : (s.setMem g).cas = s.cas := rfl
@[simp] theorem State.setMem_pair (g : MemPart → MemPart) : (s.setMem g).pair = s.pair := rfl

/-! ### State.setOsc -/

@[simp] theorem State.setOsc_osc (g : OscPart → OscPart) : (s.setOsc g).osc = g s.osc := rfl
@[simp] theorem State.setOsc_pending (g : OscPart → OscPart) : (s.setOsc g).pending = s.pending := rfl
@[simp] theorem State.setOsc_regs (g : OscPart → OscPart) : (s.setOsc g).regs = s.regs := rfl
@[simp] theorem State.setOsc_rdata (g : OscPart → OscPart) : (s.setOsc g).rdata = s.rdata := rfl
@[simp] theorem State.setOsc_free (g : OscPart → OscPart) : (s.setOsc g).free = s.free := rfl
@[simp] theorem State.setOsc_events (g : OscPart → OscPart) : (s.setOsc g).events = s.events := rfl
@[simp] theorem State.setOsc_cmd (g : OscPart → OscPart) : (s.setOsc g).cmd = s.cmd := rfl
@[simp] theorem State.setOsc_aon (g : OscPart → OscPart) : (s.setOsc g).aon = s.aon := rfl
@[simp] theorem State.setOsc_time (g : OscPart → OscPart) : (s.setOsc g).time = s.time := rfl
@[simp] theorem State.setOsc_ports (g : OscPart → OscPart) : (s.setOsc g).ports = s.ports := rfl
@[simp] theorem State.setOsc_ing (g : OscPart → OscPart) : (s.setOsc g).ing = s.ing := rfl
@[simp] theorem State.setOsc_pec (g : OscPart → OscPart) : (s.setOsc g).pec = s.pec := rfl
@[simp] theorem State.setOsc_capIn (g : OscPart → OscPart) : (s.setOsc g).capIn = s.capIn := rfl
@[simp] theorem State.setOsc_aln (g : OscPart → OscPart) : (s.setOsc g).aln = s.aln := rfl
@[simp] theorem State.setOsc_lim (g : OscPart → OscPart) : (s.setOsc g).lim = s.lim := rfl
@[simp] theorem State.setOsc_isl (g : OscPart → OscPart) : (s.setOsc g).isl = s.isl := rfl
@[simp] theorem State.setOsc_batches (g : OscPart → OscPart) : (s.setOsc g).batches = s.batches := rfl
@[simp] theorem State.setOsc_pub (g : OscPart → OscPart) : (s.setOsc g).pub = s.pub := rfl
@[simp] theorem State.setOsc_cap (g : OscPart → OscPart) : (s.setOsc g).cap = s.cap := rfl
@[simp] theorem State.setOsc_flt (g : OscPart → OscPart) : (s.setOsc g).flt = s.flt := rfl
@[simp] theorem State.setOsc_key (g : OscPart → OscPart) : (s.setOsc g).key = s.key := rfl
@[simp] theorem State.setOsc_evr (g : OscPart → OscPart) : (s.setOsc g).evr = s.evr := rfl
@[simp] theorem State.setOsc_mbx (g : OscPart → OscPart) : (s.setOsc g).mbx = s.mbx := rfl
@[simp] theorem State.setOsc_cas (g : OscPart → OscPart) : (s.setOsc g).cas = s.cas := rfl
@[simp] theorem State.setOsc_pair (g : OscPart → OscPart) : (s.setOsc g).pair = s.pair := rfl
@[simp] theorem State.setOsc_mem (g : OscPart → OscPart) : (s.setOsc g).mem = s.mem := rfl

/-! ### State.setAon -/

@[simp] theorem State.setAon_aon (g : AonPart → AonPart) : (s.setAon g).aon = g s.aon := rfl
@[simp] theorem State.setAon_pending (g : AonPart → AonPart) : (s.setAon g).pending = s.pending := rfl
@[simp] theorem State.setAon_regs (g : AonPart → AonPart) : (s.setAon g).regs = s.regs := rfl
@[simp] theorem State.setAon_rdata (g : AonPart → AonPart) : (s.setAon g).rdata = s.rdata := rfl
@[simp] theorem State.setAon_free (g : AonPart → AonPart) : (s.setAon g).free = s.free := rfl
@[simp] theorem State.setAon_events (g : AonPart → AonPart) : (s.setAon g).events = s.events := rfl
@[simp] theorem State.setAon_cmd (g : AonPart → AonPart) : (s.setAon g).cmd = s.cmd := rfl
@[simp] theorem State.setAon_time (g : AonPart → AonPart) : (s.setAon g).time = s.time := rfl
@[simp] theorem State.setAon_ports (g : AonPart → AonPart) : (s.setAon g).ports = s.ports := rfl
@[simp] theorem State.setAon_ing (g : AonPart → AonPart) : (s.setAon g).ing = s.ing := rfl
@[simp] theorem State.setAon_pec (g : AonPart → AonPart) : (s.setAon g).pec = s.pec := rfl
@[simp] theorem State.setAon_capIn (g : AonPart → AonPart) : (s.setAon g).capIn = s.capIn := rfl
@[simp] theorem State.setAon_aln (g : AonPart → AonPart) : (s.setAon g).aln = s.aln := rfl
@[simp] theorem State.setAon_lim (g : AonPart → AonPart) : (s.setAon g).lim = s.lim := rfl
@[simp] theorem State.setAon_isl (g : AonPart → AonPart) : (s.setAon g).isl = s.isl := rfl
@[simp] theorem State.setAon_batches (g : AonPart → AonPart) : (s.setAon g).batches = s.batches := rfl
@[simp] theorem State.setAon_pub (g : AonPart → AonPart) : (s.setAon g).pub = s.pub := rfl
@[simp] theorem State.setAon_osc (g : AonPart → AonPart) : (s.setAon g).osc = s.osc := rfl
@[simp] theorem State.setAon_cap (g : AonPart → AonPart) : (s.setAon g).cap = s.cap := rfl
@[simp] theorem State.setAon_flt (g : AonPart → AonPart) : (s.setAon g).flt = s.flt := rfl
@[simp] theorem State.setAon_key (g : AonPart → AonPart) : (s.setAon g).key = s.key := rfl
@[simp] theorem State.setAon_evr (g : AonPart → AonPart) : (s.setAon g).evr = s.evr := rfl
@[simp] theorem State.setAon_mbx (g : AonPart → AonPart) : (s.setAon g).mbx = s.mbx := rfl
@[simp] theorem State.setAon_cas (g : AonPart → AonPart) : (s.setAon g).cas = s.cas := rfl
@[simp] theorem State.setAon_pair (g : AonPart → AonPart) : (s.setAon g).pair = s.pair := rfl
@[simp] theorem State.setAon_mem (g : AonPart → AonPart) : (s.setAon g).mem = s.mem := rfl

/-! ### State.setPub -/

@[simp] theorem State.setPub_pub (g : PubPart → PubPart) : (s.setPub g).pub = g s.pub := rfl
@[simp] theorem State.setPub_pending (g : PubPart → PubPart) : (s.setPub g).pending = s.pending := rfl
@[simp] theorem State.setPub_regs (g : PubPart → PubPart) : (s.setPub g).regs = s.regs := rfl
@[simp] theorem State.setPub_rdata (g : PubPart → PubPart) : (s.setPub g).rdata = s.rdata := rfl
@[simp] theorem State.setPub_free (g : PubPart → PubPart) : (s.setPub g).free = s.free := rfl
@[simp] theorem State.setPub_events (g : PubPart → PubPart) : (s.setPub g).events = s.events := rfl
@[simp] theorem State.setPub_cmd (g : PubPart → PubPart) : (s.setPub g).cmd = s.cmd := rfl
@[simp] theorem State.setPub_aon (g : PubPart → PubPart) : (s.setPub g).aon = s.aon := rfl
@[simp] theorem State.setPub_time (g : PubPart → PubPart) : (s.setPub g).time = s.time := rfl
@[simp] theorem State.setPub_ports (g : PubPart → PubPart) : (s.setPub g).ports = s.ports := rfl
@[simp] theorem State.setPub_ing (g : PubPart → PubPart) : (s.setPub g).ing = s.ing := rfl
@[simp] theorem State.setPub_pec (g : PubPart → PubPart) : (s.setPub g).pec = s.pec := rfl
@[simp] theorem State.setPub_capIn (g : PubPart → PubPart) : (s.setPub g).capIn = s.capIn := rfl
@[simp] theorem State.setPub_aln (g : PubPart → PubPart) : (s.setPub g).aln = s.aln := rfl
@[simp] theorem State.setPub_lim (g : PubPart → PubPart) : (s.setPub g).lim = s.lim := rfl
@[simp] theorem State.setPub_isl (g : PubPart → PubPart) : (s.setPub g).isl = s.isl := rfl
@[simp] theorem State.setPub_batches (g : PubPart → PubPart) : (s.setPub g).batches = s.batches := rfl
@[simp] theorem State.setPub_osc (g : PubPart → PubPart) : (s.setPub g).osc = s.osc := rfl
@[simp] theorem State.setPub_cap (g : PubPart → PubPart) : (s.setPub g).cap = s.cap := rfl
@[simp] theorem State.setPub_flt (g : PubPart → PubPart) : (s.setPub g).flt = s.flt := rfl
@[simp] theorem State.setPub_key (g : PubPart → PubPart) : (s.setPub g).key = s.key := rfl
@[simp] theorem State.setPub_evr (g : PubPart → PubPart) : (s.setPub g).evr = s.evr := rfl
@[simp] theorem State.setPub_mbx (g : PubPart → PubPart) : (s.setPub g).mbx = s.mbx := rfl
@[simp] theorem State.setPub_cas (g : PubPart → PubPart) : (s.setPub g).cas = s.cas := rfl
@[simp] theorem State.setPub_pair (g : PubPart → PubPart) : (s.setPub g).pair = s.pair := rfl
@[simp] theorem State.setPub_mem (g : PubPart → PubPart) : (s.setPub g).mem = s.mem := rfl

/-! ### State.setEvr -/

@[simp] theorem State.setEvr_evr (g : EvrPart → EvrPart) : (s.setEvr g).evr = g s.evr := rfl
@[simp] theorem State.setEvr_pending (g : EvrPart → EvrPart) : (s.setEvr g).pending = s.pending := rfl
@[simp] theorem State.setEvr_regs (g : EvrPart → EvrPart) : (s.setEvr g).regs = s.regs := rfl
@[simp] theorem State.setEvr_rdata (g : EvrPart → EvrPart) : (s.setEvr g).rdata = s.rdata := rfl
@[simp] theorem State.setEvr_free (g : EvrPart → EvrPart) : (s.setEvr g).free = s.free := rfl
@[simp] theorem State.setEvr_events (g : EvrPart → EvrPart) : (s.setEvr g).events = s.events := rfl
@[simp] theorem State.setEvr_cmd (g : EvrPart → EvrPart) : (s.setEvr g).cmd = s.cmd := rfl
@[simp] theorem State.setEvr_aon (g : EvrPart → EvrPart) : (s.setEvr g).aon = s.aon := rfl
@[simp] theorem State.setEvr_time (g : EvrPart → EvrPart) : (s.setEvr g).time = s.time := rfl
@[simp] theorem State.setEvr_ports (g : EvrPart → EvrPart) : (s.setEvr g).ports = s.ports := rfl
@[simp] theorem State.setEvr_ing (g : EvrPart → EvrPart) : (s.setEvr g).ing = s.ing := rfl
@[simp] theorem State.setEvr_pec (g : EvrPart → EvrPart) : (s.setEvr g).pec = s.pec := rfl
@[simp] theorem State.setEvr_capIn (g : EvrPart → EvrPart) : (s.setEvr g).capIn = s.capIn := rfl
@[simp] theorem State.setEvr_aln (g : EvrPart → EvrPart) : (s.setEvr g).aln = s.aln := rfl
@[simp] theorem State.setEvr_lim (g : EvrPart → EvrPart) : (s.setEvr g).lim = s.lim := rfl
@[simp] theorem State.setEvr_isl (g : EvrPart → EvrPart) : (s.setEvr g).isl = s.isl := rfl
@[simp] theorem State.setEvr_batches (g : EvrPart → EvrPart) : (s.setEvr g).batches = s.batches := rfl
@[simp] theorem State.setEvr_pub (g : EvrPart → EvrPart) : (s.setEvr g).pub = s.pub := rfl
@[simp] theorem State.setEvr_osc (g : EvrPart → EvrPart) : (s.setEvr g).osc = s.osc := rfl
@[simp] theorem State.setEvr_cap (g : EvrPart → EvrPart) : (s.setEvr g).cap = s.cap := rfl
@[simp] theorem State.setEvr_flt (g : EvrPart → EvrPart) : (s.setEvr g).flt = s.flt := rfl
@[simp] theorem State.setEvr_key (g : EvrPart → EvrPart) : (s.setEvr g).key = s.key := rfl
@[simp] theorem State.setEvr_mbx (g : EvrPart → EvrPart) : (s.setEvr g).mbx = s.mbx := rfl
@[simp] theorem State.setEvr_cas (g : EvrPart → EvrPart) : (s.setEvr g).cas = s.cas := rfl
@[simp] theorem State.setEvr_pair (g : EvrPart → EvrPart) : (s.setEvr g).pair = s.pair := rfl
@[simp] theorem State.setEvr_mem (g : EvrPart → EvrPart) : (s.setEvr g).mem = s.mem := rfl

/-! ### State.setIng -/

@[simp] theorem State.setIng_ing (g : IngressPart → IngressPart) : (s.setIng g).ing = g s.ing := rfl
@[simp] theorem State.setIng_pending (g : IngressPart → IngressPart) : (s.setIng g).pending = s.pending := rfl
@[simp] theorem State.setIng_regs (g : IngressPart → IngressPart) : (s.setIng g).regs = s.regs := rfl
@[simp] theorem State.setIng_rdata (g : IngressPart → IngressPart) : (s.setIng g).rdata = s.rdata := rfl
@[simp] theorem State.setIng_free (g : IngressPart → IngressPart) : (s.setIng g).free = s.free := rfl
@[simp] theorem State.setIng_events (g : IngressPart → IngressPart) : (s.setIng g).events = s.events := rfl
@[simp] theorem State.setIng_cmd (g : IngressPart → IngressPart) : (s.setIng g).cmd = s.cmd := rfl
@[simp] theorem State.setIng_aon (g : IngressPart → IngressPart) : (s.setIng g).aon = s.aon := rfl
@[simp] theorem State.setIng_time (g : IngressPart → IngressPart) : (s.setIng g).time = s.time := rfl
@[simp] theorem State.setIng_ports (g : IngressPart → IngressPart) : (s.setIng g).ports = s.ports := rfl
@[simp] theorem State.setIng_pec (g : IngressPart → IngressPart) : (s.setIng g).pec = s.pec := rfl
@[simp] theorem State.setIng_capIn (g : IngressPart → IngressPart) : (s.setIng g).capIn = s.capIn := rfl
@[simp] theorem State.setIng_aln (g : IngressPart → IngressPart) : (s.setIng g).aln = s.aln := rfl
@[simp] theorem State.setIng_lim (g : IngressPart → IngressPart) : (s.setIng g).lim = s.lim := rfl
@[simp] theorem State.setIng_isl (g : IngressPart → IngressPart) : (s.setIng g).isl = s.isl := rfl
@[simp] theorem State.setIng_batches (g : IngressPart → IngressPart) : (s.setIng g).batches = s.batches := rfl
@[simp] theorem State.setIng_pub (g : IngressPart → IngressPart) : (s.setIng g).pub = s.pub := rfl
@[simp] theorem State.setIng_osc (g : IngressPart → IngressPart) : (s.setIng g).osc = s.osc := rfl
@[simp] theorem State.setIng_cap (g : IngressPart → IngressPart) : (s.setIng g).cap = s.cap := rfl
@[simp] theorem State.setIng_flt (g : IngressPart → IngressPart) : (s.setIng g).flt = s.flt := rfl
@[simp] theorem State.setIng_key (g : IngressPart → IngressPart) : (s.setIng g).key = s.key := rfl
@[simp] theorem State.setIng_evr (g : IngressPart → IngressPart) : (s.setIng g).evr = s.evr := rfl
@[simp] theorem State.setIng_mbx (g : IngressPart → IngressPart) : (s.setIng g).mbx = s.mbx := rfl
@[simp] theorem State.setIng_cas (g : IngressPart → IngressPart) : (s.setIng g).cas = s.cas := rfl
@[simp] theorem State.setIng_pair (g : IngressPart → IngressPart) : (s.setIng g).pair = s.pair := rfl
@[simp] theorem State.setIng_mem (g : IngressPart → IngressPart) : (s.setIng g).mem = s.mem := rfl

/-! ### State.setTime -/

@[simp] theorem State.setTime_time (g : TimePart → TimePart) : (s.setTime g).time = g s.time := rfl
@[simp] theorem State.setTime_pending (g : TimePart → TimePart) : (s.setTime g).pending = s.pending := rfl
@[simp] theorem State.setTime_regs (g : TimePart → TimePart) : (s.setTime g).regs = s.regs := rfl
@[simp] theorem State.setTime_rdata (g : TimePart → TimePart) : (s.setTime g).rdata = s.rdata := rfl
@[simp] theorem State.setTime_free (g : TimePart → TimePart) : (s.setTime g).free = s.free := rfl
@[simp] theorem State.setTime_events (g : TimePart → TimePart) : (s.setTime g).events = s.events := rfl
@[simp] theorem State.setTime_cmd (g : TimePart → TimePart) : (s.setTime g).cmd = s.cmd := rfl
@[simp] theorem State.setTime_aon (g : TimePart → TimePart) : (s.setTime g).aon = s.aon := rfl
@[simp] theorem State.setTime_ports (g : TimePart → TimePart) : (s.setTime g).ports = s.ports := rfl
@[simp] theorem State.setTime_ing (g : TimePart → TimePart) : (s.setTime g).ing = s.ing := rfl
@[simp] theorem State.setTime_pec (g : TimePart → TimePart) : (s.setTime g).pec = s.pec := rfl
@[simp] theorem State.setTime_capIn (g : TimePart → TimePart) : (s.setTime g).capIn = s.capIn := rfl
@[simp] theorem State.setTime_aln (g : TimePart → TimePart) : (s.setTime g).aln = s.aln := rfl
@[simp] theorem State.setTime_lim (g : TimePart → TimePart) : (s.setTime g).lim = s.lim := rfl
@[simp] theorem State.setTime_isl (g : TimePart → TimePart) : (s.setTime g).isl = s.isl := rfl
@[simp] theorem State.setTime_batches (g : TimePart → TimePart) : (s.setTime g).batches = s.batches := rfl
@[simp] theorem State.setTime_pub (g : TimePart → TimePart) : (s.setTime g).pub = s.pub := rfl
@[simp] theorem State.setTime_osc (g : TimePart → TimePart) : (s.setTime g).osc = s.osc := rfl
@[simp] theorem State.setTime_cap (g : TimePart → TimePart) : (s.setTime g).cap = s.cap := rfl
@[simp] theorem State.setTime_flt (g : TimePart → TimePart) : (s.setTime g).flt = s.flt := rfl
@[simp] theorem State.setTime_key (g : TimePart → TimePart) : (s.setTime g).key = s.key := rfl
@[simp] theorem State.setTime_evr (g : TimePart → TimePart) : (s.setTime g).evr = s.evr := rfl
@[simp] theorem State.setTime_mbx (g : TimePart → TimePart) : (s.setTime g).mbx = s.mbx := rfl
@[simp] theorem State.setTime_cas (g : TimePart → TimePart) : (s.setTime g).cas = s.cas := rfl
@[simp] theorem State.setTime_pair (g : TimePart → TimePart) : (s.setTime g).pair = s.pair := rfl
@[simp] theorem State.setTime_mem (g : TimePart → TimePart) : (s.setTime g).mem = s.mem := rfl

/-! ### State.setReg -/

@[simp] theorem State.setReg_pending (a : Nat) (w : Word) : (s.setReg a w).pending = s.pending := rfl
@[simp] theorem State.setReg_rdata (a : Nat) (w : Word) : (s.setReg a w).rdata = s.rdata := rfl
@[simp] theorem State.setReg_free (a : Nat) (w : Word) : (s.setReg a w).free = s.free := rfl
@[simp] theorem State.setReg_events (a : Nat) (w : Word) : (s.setReg a w).events = s.events := rfl
@[simp] theorem State.setReg_cmd (a : Nat) (w : Word) : (s.setReg a w).cmd = s.cmd := rfl
@[simp] theorem State.setReg_aon (a : Nat) (w : Word) : (s.setReg a w).aon = s.aon := rfl
@[simp] theorem State.setReg_time (a : Nat) (w : Word) : (s.setReg a w).time = s.time := rfl
@[simp] theorem State.setReg_ports (a : Nat) (w : Word) : (s.setReg a w).ports = s.ports := rfl
@[simp] theorem State.setReg_ing (a : Nat) (w : Word) : (s.setReg a w).ing = s.ing := rfl
@[simp] theorem State.setReg_pec (a : Nat) (w : Word) : (s.setReg a w).pec = s.pec := rfl
@[simp] theorem State.setReg_capIn (a : Nat) (w : Word) : (s.setReg a w).capIn = s.capIn := rfl
@[simp] theorem State.setReg_aln (a : Nat) (w : Word) : (s.setReg a w).aln = s.aln := rfl
@[simp] theorem State.setReg_lim (a : Nat) (w : Word) : (s.setReg a w).lim = s.lim := rfl
@[simp] theorem State.setReg_isl (a : Nat) (w : Word) : (s.setReg a w).isl = s.isl := rfl
@[simp] theorem State.setReg_batches (a : Nat) (w : Word) : (s.setReg a w).batches = s.batches := rfl
@[simp] theorem State.setReg_pub (a : Nat) (w : Word) : (s.setReg a w).pub = s.pub := rfl
@[simp] theorem State.setReg_osc (a : Nat) (w : Word) : (s.setReg a w).osc = s.osc := rfl
@[simp] theorem State.setReg_cap (a : Nat) (w : Word) : (s.setReg a w).cap = s.cap := rfl
@[simp] theorem State.setReg_flt (a : Nat) (w : Word) : (s.setReg a w).flt = s.flt := rfl
@[simp] theorem State.setReg_key (a : Nat) (w : Word) : (s.setReg a w).key = s.key := rfl
@[simp] theorem State.setReg_evr (a : Nat) (w : Word) : (s.setReg a w).evr = s.evr := rfl
@[simp] theorem State.setReg_mbx (a : Nat) (w : Word) : (s.setReg a w).mbx = s.mbx := rfl
@[simp] theorem State.setReg_cas (a : Nat) (w : Word) : (s.setReg a w).cas = s.cas := rfl
@[simp] theorem State.setReg_pair (a : Nat) (w : Word) : (s.setReg a w).pair = s.pair := rfl
@[simp] theorem State.setReg_mem (a : Nat) (w : Word) : (s.setReg a w).mem = s.mem := rfl
@[simp] theorem State.setReg_regs (a : Nat) (w : Word) : (s.setReg a w).regs = store resetWord s.regs a w := rfl

/-! ### State.setRf -/

@[simp] theorem State.setRf_pending (a hi lo v : Nat) : (s.setRf a hi lo v).pending = s.pending := rfl
@[simp] theorem State.setRf_rdata (a hi lo v : Nat) : (s.setRf a hi lo v).rdata = s.rdata := rfl
@[simp] theorem State.setRf_free (a hi lo v : Nat) : (s.setRf a hi lo v).free = s.free := rfl
@[simp] theorem State.setRf_events (a hi lo v : Nat) : (s.setRf a hi lo v).events = s.events := rfl
@[simp] theorem State.setRf_cmd (a hi lo v : Nat) : (s.setRf a hi lo v).cmd = s.cmd := rfl
@[simp] theorem State.setRf_aon (a hi lo v : Nat) : (s.setRf a hi lo v).aon = s.aon := rfl
@[simp] theorem State.setRf_time (a hi lo v : Nat) : (s.setRf a hi lo v).time = s.time := rfl
@[simp] theorem State.setRf_ports (a hi lo v : Nat) : (s.setRf a hi lo v).ports = s.ports := rfl
@[simp] theorem State.setRf_ing (a hi lo v : Nat) : (s.setRf a hi lo v).ing = s.ing := rfl
@[simp] theorem State.setRf_pec (a hi lo v : Nat) : (s.setRf a hi lo v).pec = s.pec := rfl
@[simp] theorem State.setRf_capIn (a hi lo v : Nat) : (s.setRf a hi lo v).capIn = s.capIn := rfl
@[simp] theorem State.setRf_aln (a hi lo v : Nat) : (s.setRf a hi lo v).aln = s.aln := rfl
@[simp] theorem State.setRf_lim (a hi lo v : Nat) : (s.setRf a hi lo v).lim = s.lim := rfl
@[simp] theorem State.setRf_isl (a hi lo v : Nat) : (s.setRf a hi lo v).isl = s.isl := rfl
@[simp] theorem State.setRf_batches (a hi lo v : Nat) : (s.setRf a hi lo v).batches = s.batches := rfl
@[simp] theorem State.setRf_pub (a hi lo v : Nat) : (s.setRf a hi lo v).pub = s.pub := rfl
@[simp] theorem State.setRf_osc (a hi lo v : Nat) : (s.setRf a hi lo v).osc = s.osc := rfl
@[simp] theorem State.setRf_cap (a hi lo v : Nat) : (s.setRf a hi lo v).cap = s.cap := rfl
@[simp] theorem State.setRf_flt (a hi lo v : Nat) : (s.setRf a hi lo v).flt = s.flt := rfl
@[simp] theorem State.setRf_key (a hi lo v : Nat) : (s.setRf a hi lo v).key = s.key := rfl
@[simp] theorem State.setRf_evr (a hi lo v : Nat) : (s.setRf a hi lo v).evr = s.evr := rfl
@[simp] theorem State.setRf_mbx (a hi lo v : Nat) : (s.setRf a hi lo v).mbx = s.mbx := rfl
@[simp] theorem State.setRf_cas (a hi lo v : Nat) : (s.setRf a hi lo v).cas = s.cas := rfl
@[simp] theorem State.setRf_pair (a hi lo v : Nat) : (s.setRf a hi lo v).pair = s.pair := rfl
@[simp] theorem State.setRf_mem (a hi lo v : Nat) : (s.setRf a hi lo v).mem = s.mem := rfl

/-! ### State.setRb -/

@[simp] theorem State.setRb_pending (a n : Nat) (b : Bool) : (s.setRb a n b).pending = s.pending := rfl
@[simp] theorem State.setRb_rdata (a n : Nat) (b : Bool) : (s.setRb a n b).rdata = s.rdata := rfl
@[simp] theorem State.setRb_free (a n : Nat) (b : Bool) : (s.setRb a n b).free = s.free := rfl
@[simp] theorem State.setRb_events (a n : Nat) (b : Bool) : (s.setRb a n b).events = s.events := rfl
@[simp] theorem State.setRb_cmd (a n : Nat) (b : Bool) : (s.setRb a n b).cmd = s.cmd := rfl
@[simp] theorem State.setRb_aon (a n : Nat) (b : Bool) : (s.setRb a n b).aon = s.aon := rfl
@[simp] theorem State.setRb_time (a n : Nat) (b : Bool) : (s.setRb a n b).time = s.time := rfl
@[simp] theorem State.setRb_ports (a n : Nat) (b : Bool) : (s.setRb a n b).ports = s.ports := rfl
@[simp] theorem State.setRb_ing (a n : Nat) (b : Bool) : (s.setRb a n b).ing = s.ing := rfl
@[simp] theorem State.setRb_pec (a n : Nat) (b : Bool) : (s.setRb a n b).pec = s.pec := rfl
@[simp] theorem State.setRb_capIn (a n : Nat) (b : Bool) : (s.setRb a n b).capIn = s.capIn := rfl
@[simp] theorem State.setRb_aln (a n : Nat) (b : Bool) : (s.setRb a n b).aln = s.aln := rfl
@[simp] theorem State.setRb_lim (a n : Nat) (b : Bool) : (s.setRb a n b).lim = s.lim := rfl
@[simp] theorem State.setRb_isl (a n : Nat) (b : Bool) : (s.setRb a n b).isl = s.isl := rfl
@[simp] theorem State.setRb_batches (a n : Nat) (b : Bool) : (s.setRb a n b).batches = s.batches := rfl
@[simp] theorem State.setRb_pub (a n : Nat) (b : Bool) : (s.setRb a n b).pub = s.pub := rfl
@[simp] theorem State.setRb_osc (a n : Nat) (b : Bool) : (s.setRb a n b).osc = s.osc := rfl
@[simp] theorem State.setRb_cap (a n : Nat) (b : Bool) : (s.setRb a n b).cap = s.cap := rfl
@[simp] theorem State.setRb_flt (a n : Nat) (b : Bool) : (s.setRb a n b).flt = s.flt := rfl
@[simp] theorem State.setRb_key (a n : Nat) (b : Bool) : (s.setRb a n b).key = s.key := rfl
@[simp] theorem State.setRb_evr (a n : Nat) (b : Bool) : (s.setRb a n b).evr = s.evr := rfl
@[simp] theorem State.setRb_mbx (a n : Nat) (b : Bool) : (s.setRb a n b).mbx = s.mbx := rfl
@[simp] theorem State.setRb_cas (a n : Nat) (b : Bool) : (s.setRb a n b).cas = s.cas := rfl
@[simp] theorem State.setRb_pair (a n : Nat) (b : Bool) : (s.setRb a n b).pair = s.pair := rfl
@[simp] theorem State.setRb_mem (a n : Nat) (b : Bool) : (s.setRb a n b).mem = s.mem := rfl

/-! ### State.resetRegs -/

@[simp] theorem State.resetRegs_pending (f : Nat → Bool) : (s.resetRegs f).pending = s.pending := rfl
@[simp] theorem State.resetRegs_rdata (f : Nat → Bool) : (s.resetRegs f).rdata = s.rdata := rfl
@[simp] theorem State.resetRegs_free (f : Nat → Bool) : (s.resetRegs f).free = s.free := rfl
@[simp] theorem State.resetRegs_events (f : Nat → Bool) : (s.resetRegs f).events = s.events := rfl
@[simp] theorem State.resetRegs_cmd (f : Nat → Bool) : (s.resetRegs f).cmd = s.cmd := rfl
@[simp] theorem State.resetRegs_aon (f : Nat → Bool) : (s.resetRegs f).aon = s.aon := rfl
@[simp] theorem State.resetRegs_time (f : Nat → Bool) : (s.resetRegs f).time = s.time := rfl
@[simp] theorem State.resetRegs_ports (f : Nat → Bool) : (s.resetRegs f).ports = s.ports := rfl
@[simp] theorem State.resetRegs_ing (f : Nat → Bool) : (s.resetRegs f).ing = s.ing := rfl
@[simp] theorem State.resetRegs_pec (f : Nat → Bool) : (s.resetRegs f).pec = s.pec := rfl
@[simp] theorem State.resetRegs_capIn (f : Nat → Bool) : (s.resetRegs f).capIn = s.capIn := rfl
@[simp] theorem State.resetRegs_aln (f : Nat → Bool) : (s.resetRegs f).aln = s.aln := rfl
@[simp] theorem State.resetRegs_lim (f : Nat → Bool) : (s.resetRegs f).lim = s.lim := rfl
@[simp] theorem State.resetRegs_isl (f : Nat → Bool) : (s.resetRegs f).isl = s.isl := rfl
@[simp] theorem State.resetRegs_batches (f : Nat → Bool) : (s.resetRegs f).batches = s.batches := rfl
@[simp] theorem State.resetRegs_pub (f : Nat → Bool) : (s.resetRegs f).pub = s.pub := rfl
@[simp] theorem State.resetRegs_osc (f : Nat → Bool) : (s.resetRegs f).osc = s.osc := rfl
@[simp] theorem State.resetRegs_cap (f : Nat → Bool) : (s.resetRegs f).cap = s.cap := rfl
@[simp] theorem State.resetRegs_flt (f : Nat → Bool) : (s.resetRegs f).flt = s.flt := rfl
@[simp] theorem State.resetRegs_key (f : Nat → Bool) : (s.resetRegs f).key = s.key := rfl
@[simp] theorem State.resetRegs_evr (f : Nat → Bool) : (s.resetRegs f).evr = s.evr := rfl
@[simp] theorem State.resetRegs_mbx (f : Nat → Bool) : (s.resetRegs f).mbx = s.mbx := rfl
@[simp] theorem State.resetRegs_cas (f : Nat → Bool) : (s.resetRegs f).cas = s.cas := rfl
@[simp] theorem State.resetRegs_pair (f : Nat → Bool) : (s.resetRegs f).pair = s.pair := rfl
@[simp] theorem State.resetRegs_mem (f : Nat → Bool) : (s.resetRegs f).mem = s.mem := rfl

/-! ### State.count -/

@[simp] theorem State.count_pending (a n : Nat) : (s.count a n).pending = s.pending := rfl
@[simp] theorem State.count_rdata (a n : Nat) : (s.count a n).rdata = s.rdata := rfl
@[simp] theorem State.count_free (a n : Nat) : (s.count a n).free = s.free := rfl
@[simp] theorem State.count_events (a n : Nat) : (s.count a n).events = s.events := rfl
@[simp] theorem State.count_cmd (a n : Nat) : (s.count a n).cmd = s.cmd := rfl
@[simp] theorem State.count_aon (a n : Nat) : (s.count a n).aon = s.aon := rfl
@[simp] theorem State.count_time (a n : Nat) : (s.count a n).time = s.time := rfl
@[simp] theorem State.count_ports (a n : Nat) : (s.count a n).ports = s.ports := rfl
@[simp] theorem State.count_ing (a n : Nat) : (s.count a n).ing = s.ing := rfl
@[simp] theorem State.count_pec (a n : Nat) : (s.count a n).pec = s.pec := rfl
@[simp] theorem State.count_capIn (a n : Nat) : (s.count a n).capIn = s.capIn := rfl
@[simp] theorem State.count_aln (a n : Nat) : (s.count a n).aln = s.aln := rfl
@[simp] theorem State.count_lim (a n : Nat) : (s.count a n).lim = s.lim := rfl
@[simp] theorem State.count_isl (a n : Nat) : (s.count a n).isl = s.isl := rfl
@[simp] theorem State.count_batches (a n : Nat) : (s.count a n).batches = s.batches := rfl
@[simp] theorem State.count_pub (a n : Nat) : (s.count a n).pub = s.pub := rfl
@[simp] theorem State.count_osc (a n : Nat) : (s.count a n).osc = s.osc := rfl
@[simp] theorem State.count_cap (a n : Nat) : (s.count a n).cap = s.cap := rfl
@[simp] theorem State.count_flt (a n : Nat) : (s.count a n).flt = s.flt := rfl
@[simp] theorem State.count_key (a n : Nat) : (s.count a n).key = s.key := rfl
@[simp] theorem State.count_evr (a n : Nat) : (s.count a n).evr = s.evr := rfl
@[simp] theorem State.count_mbx (a n : Nat) : (s.count a n).mbx = s.mbx := rfl
@[simp] theorem State.count_cas (a n : Nat) : (s.count a n).cas = s.cas := rfl
@[simp] theorem State.count_pair (a n : Nat) : (s.count a n).pair = s.pair := rfl
@[simp] theorem State.count_mem (a n : Nat) : (s.count a n).mem = s.mem := rfl

/-! ### State.countFld -/

@[simp] theorem State.countFld_pending (a hi lo n : Nat) : (s.countFld a hi lo n).pending = s.pending := rfl
@[simp] theorem State.countFld_rdata (a hi lo n : Nat) : (s.countFld a hi lo n).rdata = s.rdata := rfl
@[simp] theorem State.countFld_free (a hi lo n : Nat) : (s.countFld a hi lo n).free = s.free := rfl
@[simp] theorem State.countFld_events (a hi lo n : Nat) : (s.countFld a hi lo n).events = s.events := rfl
@[simp] theorem State.countFld_cmd (a hi lo n : Nat) : (s.countFld a hi lo n).cmd = s.cmd := rfl
@[simp] theorem State.countFld_aon (a hi lo n : Nat) : (s.countFld a hi lo n).aon = s.aon := rfl
@[simp] theorem State.countFld_time (a hi lo n : Nat) : (s.countFld a hi lo n).time = s.time := rfl
@[simp] theorem State.countFld_ports (a hi lo n : Nat) : (s.countFld a hi lo n).ports = s.ports := rfl
@[simp] theorem State.countFld_ing (a hi lo n : Nat) : (s.countFld a hi lo n).ing = s.ing := rfl
@[simp] theorem State.countFld_pec (a hi lo n : Nat) : (s.countFld a hi lo n).pec = s.pec := rfl
@[simp] theorem State.countFld_capIn (a hi lo n : Nat) : (s.countFld a hi lo n).capIn = s.capIn := rfl
@[simp] theorem State.countFld_aln (a hi lo n : Nat) : (s.countFld a hi lo n).aln = s.aln := rfl
@[simp] theorem State.countFld_lim (a hi lo n : Nat) : (s.countFld a hi lo n).lim = s.lim := rfl
@[simp] theorem State.countFld_isl (a hi lo n : Nat) : (s.countFld a hi lo n).isl = s.isl := rfl
@[simp] theorem State.countFld_batches (a hi lo n : Nat) : (s.countFld a hi lo n).batches = s.batches := rfl
@[simp] theorem State.countFld_pub (a hi lo n : Nat) : (s.countFld a hi lo n).pub = s.pub := rfl
@[simp] theorem State.countFld_osc (a hi lo n : Nat) : (s.countFld a hi lo n).osc = s.osc := rfl
@[simp] theorem State.countFld_cap (a hi lo n : Nat) : (s.countFld a hi lo n).cap = s.cap := rfl
@[simp] theorem State.countFld_flt (a hi lo n : Nat) : (s.countFld a hi lo n).flt = s.flt := rfl
@[simp] theorem State.countFld_key (a hi lo n : Nat) : (s.countFld a hi lo n).key = s.key := rfl
@[simp] theorem State.countFld_evr (a hi lo n : Nat) : (s.countFld a hi lo n).evr = s.evr := rfl
@[simp] theorem State.countFld_mbx (a hi lo n : Nat) : (s.countFld a hi lo n).mbx = s.mbx := rfl
@[simp] theorem State.countFld_cas (a hi lo n : Nat) : (s.countFld a hi lo n).cas = s.cas := rfl
@[simp] theorem State.countFld_pair (a hi lo n : Nat) : (s.countFld a hi lo n).pair = s.pair := rfl
@[simp] theorem State.countFld_mem (a hi lo n : Nat) : (s.countFld a hi lo n).mem = s.mem := rfl

/-! ### State.setSome -/

@[simp] theorem State.setSome_pending (a hi lo : Nat) (v : Option Nat) : (s.setSome a hi lo v).pending = s.pending := by cases v <;> rfl
@[simp] theorem State.setSome_rdata (a hi lo : Nat) (v : Option Nat) : (s.setSome a hi lo v).rdata = s.rdata := by cases v <;> rfl
@[simp] theorem State.setSome_free (a hi lo : Nat) (v : Option Nat) : (s.setSome a hi lo v).free = s.free := by cases v <;> rfl
@[simp] theorem State.setSome_events (a hi lo : Nat) (v : Option Nat) : (s.setSome a hi lo v).events = s.events := by cases v <;> rfl
@[simp] theorem State.setSome_cmd (a hi lo : Nat) (v : Option Nat) : (s.setSome a hi lo v).cmd = s.cmd := by cases v <;> rfl
@[simp] theorem State.setSome_aon (a hi lo : Nat) (v : Option Nat) : (s.setSome a hi lo v).aon = s.aon := by cases v <;> rfl
@[simp] theorem State.setSome_time (a hi lo : Nat) (v : Option Nat) : (s.setSome a hi lo v).time = s.time := by cases v <;> rfl
@[simp] theorem State.setSome_ports (a hi lo : Nat) (v : Option Nat) : (s.setSome a hi lo v).ports = s.ports := by cases v <;> rfl
@[simp] theorem State.setSome_ing (a hi lo : Nat) (v : Option Nat) : (s.setSome a hi lo v).ing = s.ing := by cases v <;> rfl
@[simp] theorem State.setSome_pec (a hi lo : Nat) (v : Option Nat) : (s.setSome a hi lo v).pec = s.pec := by cases v <;> rfl
@[simp] theorem State.setSome_capIn (a hi lo : Nat) (v : Option Nat) : (s.setSome a hi lo v).capIn = s.capIn := by cases v <;> rfl
@[simp] theorem State.setSome_aln (a hi lo : Nat) (v : Option Nat) : (s.setSome a hi lo v).aln = s.aln := by cases v <;> rfl
@[simp] theorem State.setSome_lim (a hi lo : Nat) (v : Option Nat) : (s.setSome a hi lo v).lim = s.lim := by cases v <;> rfl
@[simp] theorem State.setSome_isl (a hi lo : Nat) (v : Option Nat) : (s.setSome a hi lo v).isl = s.isl := by cases v <;> rfl
@[simp] theorem State.setSome_batches (a hi lo : Nat) (v : Option Nat) : (s.setSome a hi lo v).batches = s.batches := by cases v <;> rfl
@[simp] theorem State.setSome_pub (a hi lo : Nat) (v : Option Nat) : (s.setSome a hi lo v).pub = s.pub := by cases v <;> rfl
@[simp] theorem State.setSome_osc (a hi lo : Nat) (v : Option Nat) : (s.setSome a hi lo v).osc = s.osc := by cases v <;> rfl
@[simp] theorem State.setSome_cap (a hi lo : Nat) (v : Option Nat) : (s.setSome a hi lo v).cap = s.cap := by cases v <;> rfl
@[simp] theorem State.setSome_flt (a hi lo : Nat) (v : Option Nat) : (s.setSome a hi lo v).flt = s.flt := by cases v <;> rfl
@[simp] theorem State.setSome_key (a hi lo : Nat) (v : Option Nat) : (s.setSome a hi lo v).key = s.key := by cases v <;> rfl
@[simp] theorem State.setSome_evr (a hi lo : Nat) (v : Option Nat) : (s.setSome a hi lo v).evr = s.evr := by cases v <;> rfl
@[simp] theorem State.setSome_mbx (a hi lo : Nat) (v : Option Nat) : (s.setSome a hi lo v).mbx = s.mbx := by cases v <;> rfl
@[simp] theorem State.setSome_cas (a hi lo : Nat) (v : Option Nat) : (s.setSome a hi lo v).cas = s.cas := by cases v <;> rfl
@[simp] theorem State.setSome_pair (a hi lo : Nat) (v : Option Nat) : (s.setSome a hi lo v).pair = s.pair := by cases v <;> rfl
@[simp] theorem State.setSome_mem (a hi lo : Nat) (v : Option Nat) : (s.setSome a hi lo v).mem = s.mem := by cases v <;> rfl

/-! ### State.vector -/

@[simp] theorem State.vector_pending (v : Nat) : (s.vector v).pending = s.pending := by unfold State.vector; dsimp only; split <;> rfl
@[simp] theorem State.vector_rdata (v : Nat) : (s.vector v).rdata = s.rdata := by unfold State.vector; dsimp only; split <;> rfl
@[simp] theorem State.vector_free (v : Nat) : (s.vector v).free = s.free := by unfold State.vector; dsimp only; split <;> rfl
@[simp] theorem State.vector_events (v : Nat) : (s.vector v).events = s.events := by unfold State.vector; dsimp only; split <;> rfl
@[simp] theorem State.vector_aon (v : Nat) : (s.vector v).aon = s.aon := by unfold State.vector; dsimp only; split <;> rfl
@[simp] theorem State.vector_time (v : Nat) : (s.vector v).time = s.time := by unfold State.vector; dsimp only; split <;> rfl
@[simp] theorem State.vector_ports (v : Nat) : (s.vector v).ports = s.ports := by unfold State.vector; dsimp only; split <;> rfl
@[simp] theorem State.vector_ing (v : Nat) : (s.vector v).ing = s.ing := by unfold State.vector; dsimp only; split <;> rfl
@[simp] theorem State.vector_pec (v : Nat) : (s.vector v).pec = s.pec := by unfold State.vector; dsimp only; split <;> rfl
@[simp] theorem State.vector_capIn (v : Nat) : (s.vector v).capIn = s.capIn := by unfold State.vector; dsimp only; split <;> rfl
@[simp] theorem State.vector_aln (v : Nat) : (s.vector v).aln = s.aln := by unfold State.vector; dsimp only; split <;> rfl
@[simp] theorem State.vector_lim (v : Nat) : (s.vector v).lim = s.lim := by unfold State.vector; dsimp only; split <;> rfl
@[simp] theorem State.vector_isl (v : Nat) : (s.vector v).isl = s.isl := by unfold State.vector; dsimp only; split <;> rfl
@[simp] theorem State.vector_batches (v : Nat) : (s.vector v).batches = s.batches := by unfold State.vector; dsimp only; split <;> rfl
@[simp] theorem State.vector_pub (v : Nat) : (s.vector v).pub = s.pub := by unfold State.vector; dsimp only; split <;> rfl
@[simp] theorem State.vector_osc (v : Nat) : (s.vector v).osc = s.osc := by unfold State.vector; dsimp only; split <;> rfl
@[simp] theorem State.vector_cap (v : Nat) : (s.vector v).cap = s.cap := by unfold State.vector; dsimp only; split <;> rfl
@[simp] theorem State.vector_flt (v : Nat) : (s.vector v).flt = s.flt := by unfold State.vector; dsimp only; split <;> rfl
@[simp] theorem State.vector_key (v : Nat) : (s.vector v).key = s.key := by unfold State.vector; dsimp only; split <;> rfl
@[simp] theorem State.vector_evr (v : Nat) : (s.vector v).evr = s.evr := by unfold State.vector; dsimp only; split <;> rfl
@[simp] theorem State.vector_mbx (v : Nat) : (s.vector v).mbx = s.mbx := by unfold State.vector; dsimp only; split <;> rfl
@[simp] theorem State.vector_cas (v : Nat) : (s.vector v).cas = s.cas := by unfold State.vector; dsimp only; split <;> rfl
@[simp] theorem State.vector_pair (v : Nat) : (s.vector v).pair = s.pair := by unfold State.vector; dsimp only; split <;> rfl
@[simp] theorem State.vector_mem (v : Nat) : (s.vector v).mem = s.mem := by unfold State.vector; dsimp only; split <;> rfl
@[simp] theorem State.vector_flights (v : Nat) : (s.vector v).cmd.flights = s.cmd.flights := by
  unfold State.vector; dsimp only; split <;> rfl

/-! ### State.status -/

@[simp] theorem State.status_pending (a n : Nat) : (s.status a n).pending = s.pending := by unfold State.status; simp
@[simp] theorem State.status_rdata (a n : Nat) : (s.status a n).rdata = s.rdata := by unfold State.status; simp
@[simp] theorem State.status_free (a n : Nat) : (s.status a n).free = s.free := by unfold State.status; simp
@[simp] theorem State.status_events (a n : Nat) : (s.status a n).events = s.events := by unfold State.status; simp
@[simp] theorem State.status_aon (a n : Nat) : (s.status a n).aon = s.aon := by unfold State.status; simp
@[simp] theorem State.status_time (a n : Nat) : (s.status a n).time = s.time := by unfold State.status; simp
@[simp] theorem State.status_ports (a n : Nat) : (s.status a n).ports = s.ports := by unfold State.status; simp
@[simp] theorem State.status_ing (a n : Nat) : (s.status a n).ing = s.ing := by unfold State.status; simp
@[simp] theorem State.status_pec (a n : Nat) : (s.status a n).pec = s.pec := by unfold State.status; simp
@[simp] theorem State.status_capIn (a n : Nat) : (s.status a n).capIn = s.capIn := by unfold State.status; simp
@[simp] theorem State.status_aln (a n : Nat) : (s.status a n).aln = s.aln := by unfold State.status; simp
@[simp] theorem State.status_lim (a n : Nat) : (s.status a n).lim = s.lim := by unfold State.status; simp
@[simp] theorem State.status_isl (a n : Nat) : (s.status a n).isl = s.isl := by unfold State.status; simp
@[simp] theorem State.status_batches (a n : Nat) : (s.status a n).batches = s.batches := by unfold State.status; simp
@[simp] theorem State.status_pub (a n : Nat) : (s.status a n).pub = s.pub := by unfold State.status; simp
@[simp] theorem State.status_osc (a n : Nat) : (s.status a n).osc = s.osc := by unfold State.status; simp
@[simp] theorem State.status_cap (a n : Nat) : (s.status a n).cap = s.cap := by unfold State.status; simp
@[simp] theorem State.status_flt (a n : Nat) : (s.status a n).flt = s.flt := by unfold State.status; simp
@[simp] theorem State.status_key (a n : Nat) : (s.status a n).key = s.key := by unfold State.status; simp
@[simp] theorem State.status_evr (a n : Nat) : (s.status a n).evr = s.evr := by unfold State.status; simp
@[simp] theorem State.status_mbx (a n : Nat) : (s.status a n).mbx = s.mbx := by unfold State.status; simp
@[simp] theorem State.status_cas (a n : Nat) : (s.status a n).cas = s.cas := by unfold State.status; simp
@[simp] theorem State.status_pair (a n : Nat) : (s.status a n).pair = s.pair := by unfold State.status; simp
@[simp] theorem State.status_mem (a n : Nat) : (s.status a n).mem = s.mem := by unfold State.status; simp
@[simp] theorem State.status_flights (a n : Nat) : (s.status a n).cmd.flights = s.cmd.flights := by unfold State.status; simp

/-! ### State.advance -/

@[simp] theorem State.advance_pending (t : Instant) : (s.advance t).pending = s.pending := rfl
@[simp] theorem State.advance_regs (t : Instant) : (s.advance t).regs = s.regs := rfl
@[simp] theorem State.advance_rdata (t : Instant) : (s.advance t).rdata = s.rdata := rfl
@[simp] theorem State.advance_free (t : Instant) : (s.advance t).free = s.free := rfl
@[simp] theorem State.advance_events (t : Instant) : (s.advance t).events = s.events := rfl
@[simp] theorem State.advance_cmd (t : Instant) : (s.advance t).cmd = s.cmd := rfl
@[simp] theorem State.advance_aon (t : Instant) : (s.advance t).aon = s.aon := rfl
@[simp] theorem State.advance_ports (t : Instant) : (s.advance t).ports = s.ports := rfl
@[simp] theorem State.advance_ing (t : Instant) : (s.advance t).ing = s.ing := rfl
@[simp] theorem State.advance_pec (t : Instant) : (s.advance t).pec = s.pec := rfl
@[simp] theorem State.advance_capIn (t : Instant) : (s.advance t).capIn = s.capIn := rfl
@[simp] theorem State.advance_aln (t : Instant) : (s.advance t).aln = s.aln := rfl
@[simp] theorem State.advance_lim (t : Instant) : (s.advance t).lim = s.lim := rfl
@[simp] theorem State.advance_isl (t : Instant) : (s.advance t).isl = s.isl := rfl
@[simp] theorem State.advance_batches (t : Instant) : (s.advance t).batches = s.batches := rfl
@[simp] theorem State.advance_pub (t : Instant) : (s.advance t).pub = s.pub := rfl
@[simp] theorem State.advance_osc (t : Instant) : (s.advance t).osc = s.osc := rfl
@[simp] theorem State.advance_cap (t : Instant) : (s.advance t).cap = s.cap := rfl
@[simp] theorem State.advance_flt (t : Instant) : (s.advance t).flt = s.flt := rfl
@[simp] theorem State.advance_key (t : Instant) : (s.advance t).key = s.key := rfl
@[simp] theorem State.advance_evr (t : Instant) : (s.advance t).evr = s.evr := rfl
@[simp] theorem State.advance_mbx (t : Instant) : (s.advance t).mbx = s.mbx := rfl
@[simp] theorem State.advance_cas (t : Instant) : (s.advance t).cas = s.cas := rfl
@[simp] theorem State.advance_pair (t : Instant) : (s.advance t).pair = s.pair := rfl
@[simp] theorem State.advance_mem (t : Instant) : (s.advance t).mem = s.mem := rfl

/-! ### State.advanceUp -/

@[simp] theorem State.advanceUp_pending (u : Nat) : (s.advanceUp u).pending = s.pending := rfl
@[simp] theorem State.advanceUp_regs (u : Nat) : (s.advanceUp u).regs = s.regs := rfl
@[simp] theorem State.advanceUp_rdata (u : Nat) : (s.advanceUp u).rdata = s.rdata := rfl
@[simp] theorem State.advanceUp_free (u : Nat) : (s.advanceUp u).free = s.free := rfl
@[simp] theorem State.advanceUp_events (u : Nat) : (s.advanceUp u).events = s.events := rfl
@[simp] theorem State.advanceUp_cmd (u : Nat) : (s.advanceUp u).cmd = s.cmd := rfl
@[simp] theorem State.advanceUp_aon (u : Nat) : (s.advanceUp u).aon = s.aon := rfl
@[simp] theorem State.advanceUp_ports (u : Nat) : (s.advanceUp u).ports = s.ports := rfl
@[simp] theorem State.advanceUp_ing (u : Nat) : (s.advanceUp u).ing = s.ing := rfl
@[simp] theorem State.advanceUp_pec (u : Nat) : (s.advanceUp u).pec = s.pec := rfl
@[simp] theorem State.advanceUp_capIn (u : Nat) : (s.advanceUp u).capIn = s.capIn := rfl
@[simp] theorem State.advanceUp_aln (u : Nat) : (s.advanceUp u).aln = s.aln := rfl
@[simp] theorem State.advanceUp_lim (u : Nat) : (s.advanceUp u).lim = s.lim := rfl
@[simp] theorem State.advanceUp_isl (u : Nat) : (s.advanceUp u).isl = s.isl := rfl
@[simp] theorem State.advanceUp_batches (u : Nat) : (s.advanceUp u).batches = s.batches := rfl
@[simp] theorem State.advanceUp_pub (u : Nat) : (s.advanceUp u).pub = s.pub := rfl
@[simp] theorem State.advanceUp_osc (u : Nat) : (s.advanceUp u).osc = s.osc := rfl
@[simp] theorem State.advanceUp_cap (u : Nat) : (s.advanceUp u).cap = s.cap := rfl
@[simp] theorem State.advanceUp_flt (u : Nat) : (s.advanceUp u).flt = s.flt := rfl
@[simp] theorem State.advanceUp_key (u : Nat) : (s.advanceUp u).key = s.key := rfl
@[simp] theorem State.advanceUp_evr (u : Nat) : (s.advanceUp u).evr = s.evr := rfl
@[simp] theorem State.advanceUp_mbx (u : Nat) : (s.advanceUp u).mbx = s.mbx := rfl
@[simp] theorem State.advanceUp_cas (u : Nat) : (s.advanceUp u).cas = s.cas := rfl
@[simp] theorem State.advanceUp_pair (u : Nat) : (s.advanceUp u).pair = s.pair := rfl
@[simp] theorem State.advanceUp_mem (u : Nat) : (s.advanceUp u).mem = s.mem := rfl

/-! ### State.nextFree -/

@[simp] theorem State.nextFree_pending : (s.nextFree).pending = s.pending := rfl
@[simp] theorem State.nextFree_regs : (s.nextFree).regs = s.regs := rfl
@[simp] theorem State.nextFree_rdata : (s.nextFree).rdata = s.rdata := rfl
@[simp] theorem State.nextFree_events : (s.nextFree).events = s.events := rfl
@[simp] theorem State.nextFree_cmd : (s.nextFree).cmd = s.cmd := rfl
@[simp] theorem State.nextFree_aon : (s.nextFree).aon = s.aon := rfl
@[simp] theorem State.nextFree_time : (s.nextFree).time = s.time := rfl
@[simp] theorem State.nextFree_ports : (s.nextFree).ports = s.ports := rfl
@[simp] theorem State.nextFree_ing : (s.nextFree).ing = s.ing := rfl
@[simp] theorem State.nextFree_pec : (s.nextFree).pec = s.pec := rfl
@[simp] theorem State.nextFree_capIn : (s.nextFree).capIn = s.capIn := rfl
@[simp] theorem State.nextFree_aln : (s.nextFree).aln = s.aln := rfl
@[simp] theorem State.nextFree_lim : (s.nextFree).lim = s.lim := rfl
@[simp] theorem State.nextFree_isl : (s.nextFree).isl = s.isl := rfl
@[simp] theorem State.nextFree_batches : (s.nextFree).batches = s.batches := rfl
@[simp] theorem State.nextFree_pub : (s.nextFree).pub = s.pub := rfl
@[simp] theorem State.nextFree_osc : (s.nextFree).osc = s.osc := rfl
@[simp] theorem State.nextFree_cap : (s.nextFree).cap = s.cap := rfl
@[simp] theorem State.nextFree_flt : (s.nextFree).flt = s.flt := rfl
@[simp] theorem State.nextFree_key : (s.nextFree).key = s.key := rfl
@[simp] theorem State.nextFree_evr : (s.nextFree).evr = s.evr := rfl
@[simp] theorem State.nextFree_mbx : (s.nextFree).mbx = s.mbx := rfl
@[simp] theorem State.nextFree_cas : (s.nextFree).cas = s.cas := rfl
@[simp] theorem State.nextFree_pair : (s.nextFree).pair = s.pair := rfl
@[simp] theorem State.nextFree_mem : (s.nextFree).mem = s.mem := rfl
@[simp] theorem State.nextFree_free : s.nextFree.free = s.free + 1 := rfl

/-! ### State.raise -/

@[simp] theorem State.raise_pending (c : Nat) (q : Rat) (d : List Word) : (s.raise c q d).pending = s.pending := rfl
@[simp] theorem State.raise_regs (c : Nat) (q : Rat) (d : List Word) : (s.raise c q d).regs = s.regs := rfl
@[simp] theorem State.raise_rdata (c : Nat) (q : Rat) (d : List Word) : (s.raise c q d).rdata = s.rdata := rfl
@[simp] theorem State.raise_free (c : Nat) (q : Rat) (d : List Word) : (s.raise c q d).free = s.free := rfl
@[simp] theorem State.raise_cmd (c : Nat) (q : Rat) (d : List Word) : (s.raise c q d).cmd = s.cmd := rfl
@[simp] theorem State.raise_aon (c : Nat) (q : Rat) (d : List Word) : (s.raise c q d).aon = s.aon := rfl
@[simp] theorem State.raise_time (c : Nat) (q : Rat) (d : List Word) : (s.raise c q d).time = s.time := rfl
@[simp] theorem State.raise_ports (c : Nat) (q : Rat) (d : List Word) : (s.raise c q d).ports = s.ports := rfl
@[simp] theorem State.raise_ing (c : Nat) (q : Rat) (d : List Word) : (s.raise c q d).ing = s.ing := rfl
@[simp] theorem State.raise_pec (c : Nat) (q : Rat) (d : List Word) : (s.raise c q d).pec = s.pec := rfl
@[simp] theorem State.raise_capIn (c : Nat) (q : Rat) (d : List Word) : (s.raise c q d).capIn = s.capIn := rfl
@[simp] theorem State.raise_aln (c : Nat) (q : Rat) (d : List Word) : (s.raise c q d).aln = s.aln := rfl
@[simp] theorem State.raise_lim (c : Nat) (q : Rat) (d : List Word) : (s.raise c q d).lim = s.lim := rfl
@[simp] theorem State.raise_isl (c : Nat) (q : Rat) (d : List Word) : (s.raise c q d).isl = s.isl := rfl
@[simp] theorem State.raise_batches (c : Nat) (q : Rat) (d : List Word) : (s.raise c q d).batches = s.batches := rfl
@[simp] theorem State.raise_pub (c : Nat) (q : Rat) (d : List Word) : (s.raise c q d).pub = s.pub := rfl
@[simp] theorem State.raise_osc (c : Nat) (q : Rat) (d : List Word) : (s.raise c q d).osc = s.osc := rfl
@[simp] theorem State.raise_cap (c : Nat) (q : Rat) (d : List Word) : (s.raise c q d).cap = s.cap := rfl
@[simp] theorem State.raise_flt (c : Nat) (q : Rat) (d : List Word) : (s.raise c q d).flt = s.flt := rfl
@[simp] theorem State.raise_key (c : Nat) (q : Rat) (d : List Word) : (s.raise c q d).key = s.key := rfl
@[simp] theorem State.raise_evr (c : Nat) (q : Rat) (d : List Word) : (s.raise c q d).evr = s.evr := rfl
@[simp] theorem State.raise_mbx (c : Nat) (q : Rat) (d : List Word) : (s.raise c q d).mbx = s.mbx := rfl
@[simp] theorem State.raise_cas (c : Nat) (q : Rat) (d : List Word) : (s.raise c q d).cas = s.cas := rfl
@[simp] theorem State.raise_pair (c : Nat) (q : Rat) (d : List Word) : (s.raise c q d).pair = s.pair := rfl
@[simp] theorem State.raise_mem (c : Nat) (q : Rat) (d : List Word) : (s.raise c q d).mem = s.mem := rfl

/-! ### State.raiseInjected -/

@[simp] theorem State.raiseInjected_pending (c : Nat) (q : Rat) (d : List Word) : (s.raiseInjected c q d).pending = s.pending := rfl
@[simp] theorem State.raiseInjected_regs (c : Nat) (q : Rat) (d : List Word) : (s.raiseInjected c q d).regs = s.regs := rfl
@[simp] theorem State.raiseInjected_rdata (c : Nat) (q : Rat) (d : List Word) : (s.raiseInjected c q d).rdata = s.rdata := rfl
@[simp] theorem State.raiseInjected_free (c : Nat) (q : Rat) (d : List Word) : (s.raiseInjected c q d).free = s.free := rfl
@[simp] theorem State.raiseInjected_cmd (c : Nat) (q : Rat) (d : List Word) : (s.raiseInjected c q d).cmd = s.cmd := rfl
@[simp] theorem State.raiseInjected_aon (c : Nat) (q : Rat) (d : List Word) : (s.raiseInjected c q d).aon = s.aon := rfl
@[simp] theorem State.raiseInjected_time (c : Nat) (q : Rat) (d : List Word) : (s.raiseInjected c q d).time = s.time := rfl
@[simp] theorem State.raiseInjected_ports (c : Nat) (q : Rat) (d : List Word) : (s.raiseInjected c q d).ports = s.ports := rfl
@[simp] theorem State.raiseInjected_ing (c : Nat) (q : Rat) (d : List Word) : (s.raiseInjected c q d).ing = s.ing := rfl
@[simp] theorem State.raiseInjected_pec (c : Nat) (q : Rat) (d : List Word) : (s.raiseInjected c q d).pec = s.pec := rfl
@[simp] theorem State.raiseInjected_capIn (c : Nat) (q : Rat) (d : List Word) : (s.raiseInjected c q d).capIn = s.capIn := rfl
@[simp] theorem State.raiseInjected_aln (c : Nat) (q : Rat) (d : List Word) : (s.raiseInjected c q d).aln = s.aln := rfl
@[simp] theorem State.raiseInjected_lim (c : Nat) (q : Rat) (d : List Word) : (s.raiseInjected c q d).lim = s.lim := rfl
@[simp] theorem State.raiseInjected_isl (c : Nat) (q : Rat) (d : List Word) : (s.raiseInjected c q d).isl = s.isl := rfl
@[simp] theorem State.raiseInjected_batches (c : Nat) (q : Rat) (d : List Word) : (s.raiseInjected c q d).batches = s.batches := rfl
@[simp] theorem State.raiseInjected_pub (c : Nat) (q : Rat) (d : List Word) : (s.raiseInjected c q d).pub = s.pub := rfl
@[simp] theorem State.raiseInjected_osc (c : Nat) (q : Rat) (d : List Word) : (s.raiseInjected c q d).osc = s.osc := rfl
@[simp] theorem State.raiseInjected_cap (c : Nat) (q : Rat) (d : List Word) : (s.raiseInjected c q d).cap = s.cap := rfl
@[simp] theorem State.raiseInjected_flt (c : Nat) (q : Rat) (d : List Word) : (s.raiseInjected c q d).flt = s.flt := rfl
@[simp] theorem State.raiseInjected_key (c : Nat) (q : Rat) (d : List Word) : (s.raiseInjected c q d).key = s.key := rfl
@[simp] theorem State.raiseInjected_evr (c : Nat) (q : Rat) (d : List Word) : (s.raiseInjected c q d).evr = s.evr := rfl
@[simp] theorem State.raiseInjected_mbx (c : Nat) (q : Rat) (d : List Word) : (s.raiseInjected c q d).mbx = s.mbx := rfl
@[simp] theorem State.raiseInjected_cas (c : Nat) (q : Rat) (d : List Word) : (s.raiseInjected c q d).cas = s.cas := rfl
@[simp] theorem State.raiseInjected_pair (c : Nat) (q : Rat) (d : List Word) : (s.raiseInjected c q d).pair = s.pair := rfl
@[simp] theorem State.raiseInjected_mem (c : Nat) (q : Rat) (d : List Word) : (s.raiseInjected c q d).mem = s.mem := rfl

/-! ### State.raiseAs -/

@[simp] theorem State.raiseAs_pending (i : Bool) (c : Nat) (q : Rat) (d : List Word) : (s.raiseAs i c q d).pending = s.pending := by unfold State.raiseAs; split <;> rfl
@[simp] theorem State.raiseAs_regs (i : Bool) (c : Nat) (q : Rat) (d : List Word) : (s.raiseAs i c q d).regs = s.regs := by unfold State.raiseAs; split <;> rfl
@[simp] theorem State.raiseAs_rdata (i : Bool) (c : Nat) (q : Rat) (d : List Word) : (s.raiseAs i c q d).rdata = s.rdata := by unfold State.raiseAs; split <;> rfl
@[simp] theorem State.raiseAs_free (i : Bool) (c : Nat) (q : Rat) (d : List Word) : (s.raiseAs i c q d).free = s.free := by unfold State.raiseAs; split <;> rfl
@[simp] theorem State.raiseAs_cmd (i : Bool) (c : Nat) (q : Rat) (d : List Word) : (s.raiseAs i c q d).cmd = s.cmd := by unfold State.raiseAs; split <;> rfl
@[simp] theorem State.raiseAs_aon (i : Bool) (c : Nat) (q : Rat) (d : List Word) : (s.raiseAs i c q d).aon = s.aon := by unfold State.raiseAs; split <;> rfl
@[simp] theorem State.raiseAs_time (i : Bool) (c : Nat) (q : Rat) (d : List Word) : (s.raiseAs i c q d).time = s.time := by unfold State.raiseAs; split <;> rfl
@[simp] theorem State.raiseAs_ports (i : Bool) (c : Nat) (q : Rat) (d : List Word) : (s.raiseAs i c q d).ports = s.ports := by unfold State.raiseAs; split <;> rfl
@[simp] theorem State.raiseAs_ing (i : Bool) (c : Nat) (q : Rat) (d : List Word) : (s.raiseAs i c q d).ing = s.ing := by unfold State.raiseAs; split <;> rfl
@[simp] theorem State.raiseAs_pec (i : Bool) (c : Nat) (q : Rat) (d : List Word) : (s.raiseAs i c q d).pec = s.pec := by unfold State.raiseAs; split <;> rfl
@[simp] theorem State.raiseAs_capIn (i : Bool) (c : Nat) (q : Rat) (d : List Word) : (s.raiseAs i c q d).capIn = s.capIn := by unfold State.raiseAs; split <;> rfl
@[simp] theorem State.raiseAs_aln (i : Bool) (c : Nat) (q : Rat) (d : List Word) : (s.raiseAs i c q d).aln = s.aln := by unfold State.raiseAs; split <;> rfl
@[simp] theorem State.raiseAs_lim (i : Bool) (c : Nat) (q : Rat) (d : List Word) : (s.raiseAs i c q d).lim = s.lim := by unfold State.raiseAs; split <;> rfl
@[simp] theorem State.raiseAs_isl (i : Bool) (c : Nat) (q : Rat) (d : List Word) : (s.raiseAs i c q d).isl = s.isl := by unfold State.raiseAs; split <;> rfl
@[simp] theorem State.raiseAs_batches (i : Bool) (c : Nat) (q : Rat) (d : List Word) : (s.raiseAs i c q d).batches = s.batches := by unfold State.raiseAs; split <;> rfl
@[simp] theorem State.raiseAs_pub (i : Bool) (c : Nat) (q : Rat) (d : List Word) : (s.raiseAs i c q d).pub = s.pub := by unfold State.raiseAs; split <;> rfl
@[simp] theorem State.raiseAs_osc (i : Bool) (c : Nat) (q : Rat) (d : List Word) : (s.raiseAs i c q d).osc = s.osc := by unfold State.raiseAs; split <;> rfl
@[simp] theorem State.raiseAs_cap (i : Bool) (c : Nat) (q : Rat) (d : List Word) : (s.raiseAs i c q d).cap = s.cap := by unfold State.raiseAs; split <;> rfl
@[simp] theorem State.raiseAs_flt (i : Bool) (c : Nat) (q : Rat) (d : List Word) : (s.raiseAs i c q d).flt = s.flt := by unfold State.raiseAs; split <;> rfl
@[simp] theorem State.raiseAs_key (i : Bool) (c : Nat) (q : Rat) (d : List Word) : (s.raiseAs i c q d).key = s.key := by unfold State.raiseAs; split <;> rfl
@[simp] theorem State.raiseAs_evr (i : Bool) (c : Nat) (q : Rat) (d : List Word) : (s.raiseAs i c q d).evr = s.evr := by unfold State.raiseAs; split <;> rfl
@[simp] theorem State.raiseAs_mbx (i : Bool) (c : Nat) (q : Rat) (d : List Word) : (s.raiseAs i c q d).mbx = s.mbx := by unfold State.raiseAs; split <;> rfl
@[simp] theorem State.raiseAs_cas (i : Bool) (c : Nat) (q : Rat) (d : List Word) : (s.raiseAs i c q d).cas = s.cas := by unfold State.raiseAs; split <;> rfl
@[simp] theorem State.raiseAs_pair (i : Bool) (c : Nat) (q : Rat) (d : List Word) : (s.raiseAs i c q d).pair = s.pair := by unfold State.raiseAs; split <;> rfl
@[simp] theorem State.raiseAs_mem (i : Bool) (c : Nat) (q : Rat) (d : List Word) : (s.raiseAs i c q d).mem = s.mem := by unfold State.raiseAs; split <;> rfl

/-! ### State.updFlights -/

@[simp] theorem State.updFlights_pending (f : List Flight → List Flight) : (s.updFlights f).pending = s.pending := rfl
@[simp] theorem State.updFlights_regs (f : List Flight → List Flight) : (s.updFlights f).regs = s.regs := rfl
@[simp] theorem State.updFlights_rdata (f : List Flight → List Flight) : (s.updFlights f).rdata = s.rdata := rfl
@[simp] theorem State.updFlights_free (f : List Flight → List Flight) : (s.updFlights f).free = s.free := rfl
@[simp] theorem State.updFlights_events (f : List Flight → List Flight) : (s.updFlights f).events = s.events := rfl
@[simp] theorem State.updFlights_aon (f : List Flight → List Flight) : (s.updFlights f).aon = s.aon := rfl
@[simp] theorem State.updFlights_time (f : List Flight → List Flight) : (s.updFlights f).time = s.time := rfl
@[simp] theorem State.updFlights_ports (f : List Flight → List Flight) : (s.updFlights f).ports = s.ports := rfl
@[simp] theorem State.updFlights_ing (f : List Flight → List Flight) : (s.updFlights f).ing = s.ing := rfl
@[simp] theorem State.updFlights_pec (f : List Flight → List Flight) : (s.updFlights f).pec = s.pec := rfl
@[simp] theorem State.updFlights_capIn (f : List Flight → List Flight) : (s.updFlights f).capIn = s.capIn := rfl
@[simp] theorem State.updFlights_aln (f : List Flight → List Flight) : (s.updFlights f).aln = s.aln := rfl
@[simp] theorem State.updFlights_lim (f : List Flight → List Flight) : (s.updFlights f).lim = s.lim := rfl
@[simp] theorem State.updFlights_isl (f : List Flight → List Flight) : (s.updFlights f).isl = s.isl := rfl
@[simp] theorem State.updFlights_batches (f : List Flight → List Flight) : (s.updFlights f).batches = s.batches := rfl
@[simp] theorem State.updFlights_pub (f : List Flight → List Flight) : (s.updFlights f).pub = s.pub := rfl
@[simp] theorem State.updFlights_osc (f : List Flight → List Flight) : (s.updFlights f).osc = s.osc := rfl
@[simp] theorem State.updFlights_cap (f : List Flight → List Flight) : (s.updFlights f).cap = s.cap := rfl
@[simp] theorem State.updFlights_flt (f : List Flight → List Flight) : (s.updFlights f).flt = s.flt := rfl
@[simp] theorem State.updFlights_key (f : List Flight → List Flight) : (s.updFlights f).key = s.key := rfl
@[simp] theorem State.updFlights_evr (f : List Flight → List Flight) : (s.updFlights f).evr = s.evr := rfl
@[simp] theorem State.updFlights_mbx (f : List Flight → List Flight) : (s.updFlights f).mbx = s.mbx := rfl
@[simp] theorem State.updFlights_cas (f : List Flight → List Flight) : (s.updFlights f).cas = s.cas := rfl
@[simp] theorem State.updFlights_pair (f : List Flight → List Flight) : (s.updFlights f).pair = s.pair := rfl
@[simp] theorem State.updFlights_mem (f : List Flight → List Flight) : (s.updFlights f).mem = s.mem := rfl

/-! ### Register reads -/

theorem State.reg_of_regs {s t : State} (h : t.regs = s.regs) (a : Nat) : t.reg a = s.reg a := by unfold State.reg; rw [h]

end Sys2Proof.Machine
end

