-- ==== Sys2Proof/Laws/Keeps.lean ====
section
/-! SUPPORT. What every operation keeps: the queue of commands that wait, the canonical form of the register bank and that of the host area of
bulk memory. -/

set_option linter.all false

namespace Sys2Proof.Machine

/-- What a command may do: the offsets of the host area of bulk memory that it may write, whether the area's contents may be lost whole, and the
parts of the state that it may change, the time part among them. -/
structure Allow where
  write : Nat → Bool
  lose  : Bool
  may   : Part → Bool
  clock : Bool

/-- What is said of the parts of a state and another: each that may not change is the same. -/
def KeepsParts (p : Allow) (z : State) (rdata : List Word) (free : Nat) (events : List EventMsg) (aon : AonPart) (ports : PortsPart) (ing : IngressPart) (pec : PecPart) (capIn : List CapIn) (aln : AccordPart) (lim : LimPart) (isl : IslPart) (batches : List AlarmBatch) (pub : PubPart) (osc : OscPart) (cap : CapPart) (flt : FltPart) (key : KeyPart) (evr : EvrPart) (mbx : MbxPart) : Prop :=
  (p.may .rdata = true ∨ rdata = z.rdata) ∧ (p.may .free = true ∨ free = z.free) ∧ (p.may .events = true ∨ events = z.events) ∧ (p.may .aon = true ∨ aon = z.aon) ∧ (p.may .ports = true ∨ ports = z.ports) ∧ (p.may .ing = true ∨ ing = z.ing) ∧ (p.may .pec = true ∨ pec = z.pec) ∧ (p.may .capIn = true ∨ capIn = z.capIn) ∧ (p.may .aln = true ∨ aln = z.aln) ∧ (p.may .lim = true ∨ lim = z.lim) ∧ (p.may .isl = true ∨ isl = z.isl) ∧ (p.may .batches = true ∨ batches = z.batches) ∧ (p.may .pub = true ∨ pub = z.pub) ∧ (p.may .osc = true ∨ osc = z.osc) ∧ (p.may .cap = true ∨ cap = z.cap) ∧ (p.may .flt = true ∨ flt = z.flt) ∧ (p.may .key = true ∨ key = z.key) ∧ (p.may .evr = true ∨ evr = z.evr) ∧ (p.may .mbx = true ∨ mbx = z.mbx)

/-- From one state to another the queue stays, the register bank and the host area stay in their canonical form, and the host area and the parts
of the state change only as is allowed. -/
structure Keeps (p : Allow) (z t : State) : Prop where
  queue : t.pending = z.pending
  bank : canon resetWord z.regs = true → canon resetWord t.regs = true
  host : z.mem.wf = true → t.mem.wf = true
  area : ∀ i, p.write i = false → lookup t.mem.host i = lookup z.mem.host i ∨ (p.lose = true ∧ lookup t.mem.host i = none)
  fill : p.lose = true ∨ t.mem.fill = z.mem.fill
  conv : z.time.tdc.length = 6 → t.time.tdc.length = 6
  same : p.clock = true ∨ t.time = z.time
  parts : KeepsParts p z t.rdata t.free t.events t.aon t.ports t.ing t.pec t.capIn t.aln t.lim t.isl t.batches t.pub t.osc t.cap t.flt t.key t.evr t.mbx

theorem KeepsParts.refl (p : Allow) (z : State) : KeepsParts p z z.rdata z.free z.events z.aon z.ports z.ing z.pec z.capIn z.aln z.lim z.isl z.batches z.pub z.osc z.cap z.flt z.key z.evr z.mbx :=
  ⟨Or.inr rfl, Or.inr rfl, Or.inr rfl, Or.inr rfl, Or.inr rfl, Or.inr rfl, Or.inr rfl, Or.inr rfl, Or.inr rfl, Or.inr rfl, Or.inr rfl, Or.inr rfl, Or.inr rfl, Or.inr rfl, Or.inr rfl, Or.inr rfl, Or.inr rfl, Or.inr rfl, Or.inr rfl⟩

theorem Keeps.refl (p : Allow) (z : State) : Keeps p z z := ⟨rfl, id, id, fun _ _ => Or.inl rfl, Or.inr rfl, id, Or.inr rfl, KeepsParts.refl p z⟩

/-- Two steps of what may change. -/
theorem may_trans {α : Type} {m : Bool} {a b c : α} (h : m = true ∨ b = a) (k : m = true ∨ c = b) : m = true ∨ c = a :=
  h.elim Or.inl (fun e => k.imp id (fun d => d.trans e))

/-! ### Stores -/

theorem risingFrom_mono {α : Type} : ∀ {l : List (Nat × α)} {a b : Nat}, a ≤ b → risingFrom b l = true → risingFrom a l = true
  | [], _, _, _, _ => rfl
  | (k, v) :: rest, a, b, h, r => by
    simp only [risingFrom, Bool.and_eq_true, decide_eq_true_eq] at *
    exact ⟨Nat.le_trans h r.1, r.2⟩

theorem risingFrom_dropKey {α : Type} : ∀ (l : List (Nat × α)) (lo key : Nat), risingFrom lo l = true → risingFrom lo (dropKey l key) = true
  | [], _, _, _ => rfl
  | (k, v) :: rest, lo, key, r => by
    simp only [risingFrom, Bool.and_eq_true, decide_eq_true_eq] at r
    simp only [dropKey]
    split
    · exact risingFrom_mono (Nat.le_succ_of_le r.1) r.2
    · simp only [risingFrom, Bool.and_eq_true, decide_eq_true_eq]
      exact ⟨r.1, risingFrom_dropKey rest _ _ r.2⟩

theorem risingFrom_setKey {α : Type} : ∀ (l : List (Nat × α)) (lo key : Nat) (v : α), lo ≤ key → risingFrom lo l = true →
    risingFrom lo (setKey l key v) = true
  | [], _, _, _, h, _ => by simpa [setKey, risingFrom] using h
  | (k, w) :: rest, lo, key, v, h, r => by
    simp only [risingFrom, Bool.and_eq_true, decide_eq_true_eq] at r
    simp only [setKey]
    split
    · simp only [risingFrom, Bool.and_eq_true, decide_eq_true_eq]
      exact ⟨h, by omega, r.2⟩
    · split
      · simp only [risingFrom, Bool.and_eq_true, decide_eq_true_eq]
        exact ⟨by omega, by rename_i e; exact e ▸ r.2⟩
      · simp only [risingFrom, Bool.and_eq_true, decide_eq_true_eq]
        exact ⟨r.1, risingFrom_setKey rest _ _ _ (by omega) r.2⟩

theorem mem_dropKey {α : Type} {p : Nat × α} {key : Nat} : ∀ {l : List (Nat × α)}, p ∈ dropKey l key → p ∈ l
  | (k, v) :: rest, h => by
    simp only [dropKey] at h
    split at h
    · exact List.mem_cons_of_mem _ h
    · rcases List.mem_cons.mp h with h | h
      · exact h ▸ List.mem_cons_self ..
      · exact List.mem_cons_of_mem _ (mem_dropKey h)

theorem mem_setKey {α : Type} {p : Nat × α} {key : Nat} {v : α} : ∀ {l : List (Nat × α)}, p ∈ setKey l key v → p = (key, v) ∨ p ∈ l
  | [], h => Or.inl (List.mem_singleton.mp h)
  | (k, w) :: rest, h => by
    simp only [setKey] at h
    split at h
    · rcases List.mem_cons.mp h with h | h
      · exact Or.inl h
      · exact Or.inr h
    · split at h
      · rcases List.mem_cons.mp h with h | h
        · exact Or.inl h
        · exact Or.inr (List.mem_cons_of_mem _ h)
      · rcases List.mem_cons.mp h with h | h
        · exact Or.inr (h ▸ List.mem_cons_self ..)
        · exact (mem_setKey h).imp id (List.mem_cons_of_mem _)

/-- A write keeps the canonical form. -/
theorem canon_store {α : Type} [DecidableEq α] {dflt : Nat → α} {l : List (Nat × α)} (key : Nat) (v : α) (h : canon dflt l = true) :
    canon dflt (store dflt l key v) = true := by
  simp only [canon, Bool.and_eq_true, List.all_eq_true, decide_eq_true_eq] at h ⊢
  unfold store
  split
  · exact ⟨risingFrom_dropKey l 0 key h.1, fun p hp => h.2 p (mem_dropKey hp)⟩
  · refine ⟨risingFrom_setKey l 0 key v (Nat.zero_le _) h.1, fun p hp => ?_⟩
    rcases mem_setKey hp with e | e
    · subst e; assumption
    · exact h.2 p e

theorem risingFrom_filter {α : Type} (f : Nat × α → Bool) : ∀ (l : List (Nat × α)) (lo : Nat), risingFrom lo l = true →
    risingFrom lo (l.filter f) = true
  | [], _, _ => rfl
  | (k, v) :: rest, lo, r => by
    simp only [risingFrom, Bool.and_eq_true, decide_eq_true_eq] at r
    simp only [List.filter_cons]
    split
    · simp only [risingFrom, Bool.and_eq_true, decide_eq_true_eq]
      exact ⟨r.1, risingFrom_filter f rest _ r.2⟩
    · exact risingFrom_mono (Nat.le_succ_of_le r.1) (risingFrom_filter f rest _ r.2)

/-- Entries taken out keep the canonical form. -/
theorem canon_filter {α : Type} [DecidableEq α] {dflt : Nat → α} {l : List (Nat × α)} (f : Nat × α → Bool) (h : canon dflt l = true) :
    canon dflt (l.filter f) = true := by
  simp only [canon, Bool.and_eq_true, List.all_eq_true, decide_eq_true_eq] at h ⊢
  exact ⟨risingFrom_filter f l 0 h.1, fun p hp => h.2 p (List.mem_filter.mp hp).1⟩

/-- A byte written keeps the form of the host area. -/
theorem MemPart.writeByte_wf {m : MemPart} (off : Nat) (b : Byte) (h : m.wf = true) : (m.writeByte off b).wf = true := by
  unfold MemPart.writeByte
  split
  · simp only [MemPart.wf, Bool.and_eq_true, List.all_eq_true, decide_eq_true_eq] at h ⊢
    refine ⟨risingFrom_setKey _ _ _ _ (Nat.zero_le _) h.1, fun p hp => ?_⟩
    rcases mem_setKey hp with e | e
    · subst e; assumption
    · exact h.2 p e
  · exact h

theorem MemPart.writeBytes_wf : ∀ (l : List Byte) {m : MemPart} (off : Nat), m.wf = true → (m.writeBytes off l).wf = true
  | [], _, _, h => h
  | b :: rest, _, off, h => MemPart.writeBytes_wf rest (off + 1) (MemPart.writeByte_wf off b h)

theorem MemPart.lose_wf (m : MemPart) : m.lose.wf = true := rfl

theorem lookup_setKey_ne {α : Type} {key i : Nat} {v : α} (h : i ≠ key) : ∀ (l : List (Nat × α)), lookup (setKey l key v) i = lookup l i
  | [] => by simp [setKey, lookup, Ne.symm h]
  | (k, w) :: rest => by
    simp only [setKey]
    split
    · simp [lookup, Ne.symm h]
    · split
      · rename_i e; subst e; simp [lookup, Ne.symm h]
      · simp only [lookup, lookup_setKey_ne h rest]

theorem MemPart.writeByte_fill (m : MemPart) (off : Nat) (b : Byte) : (m.writeByte off b).fill = m.fill := by
  unfold MemPart.writeByte; split <;> rfl

theorem MemPart.writeBytes_fill : ∀ (l : List Byte) (m : MemPart) (off : Nat), (m.writeBytes off l).fill = m.fill
  | [], _, _ => rfl
  | b :: rest, m, off => (MemPart.writeBytes_fill rest (m.writeByte off b) (off + 1)).trans (m.writeByte_fill off b)

theorem MemPart.writeByte_other {m : MemPart} {off i : Nat} (b : Byte) (h : i ≠ off) :
    lookup (m.writeByte off b).host i = lookup m.host i := by
  unfold MemPart.writeByte
  split
  · exact lookup_setKey_ne h _
  · rfl

/-- A write of bytes leaves every byte outside them. -/
theorem MemPart.writeBytes_other : ∀ (l : List Byte) {m : MemPart} {off i : Nat}, i < off ∨ off + l.length ≤ i →
    lookup (m.writeBytes off l).host i = lookup m.host i
  | [], _, _, _, _ => rfl
  | b :: rest, m, off, i, h => by
    have h' : i < off + 1 ∨ off + 1 + rest.length ≤ i := by simp only [List.length_cons] at h; omega
    have ne : i ≠ off := by simp only [List.length_cons] at h; omega
    exact (MemPart.writeBytes_other rest h').trans (MemPart.writeByte_other b ne)

/-- A change of one element leaves the length. -/
theorem updAt_length {α : Type} (f : α → α) : ∀ (l : List α) (n : Nat), (updAt l n f).length = l.length
  | [], _ => rfl
  | _ :: _, 0 => rfl
  | _ :: rest, n + 1 => congrArg (· + 1) (updAt_length f rest n)

/-! ### The shared operations -/

variable {p : Allow} {z s : State}

theorem State.setReg_keeps (a : Nat) (w : Word) (h : Keeps p z s) : Keeps p z (s.setReg a w) :=
  ⟨h.queue, fun x => canon_store a w (h.bank x), h.host, h.area, h.fill, h.conv, h.same, h.parts⟩

theorem State.resetRegs_keeps (f : Nat → Bool) (h : Keeps p z s) : Keeps p z (s.resetRegs f) :=
  ⟨h.queue, fun x => canon_filter _ (h.bank x), h.host, h.area, h.fill, h.conv, h.same, h.parts⟩

theorem State.setMem_keeps (f : MemPart → MemPart) (hf : (f s.mem).host = s.mem.host ∧ (f s.mem).fill = s.mem.fill) (h : Keeps p z s) :
    Keeps p z (s.setMem f) :=
  ⟨h.queue, h.bank, fun x => by
      have := h.host x
      show MemPart.wf (f s.mem) = true
      unfold MemPart.wf at *
      rw [hf.1]; exact this,
    fun i k => by
      show lookup (f s.mem).host i = _ ∨ _ ∧ lookup (f s.mem).host i = _
      rw [hf.1]; exact h.area i k,
    h.fill.imp id (fun x => hf.2.trans x), h.conv, h.same, h.parts⟩

theorem State.setTime_keeps (f : TimePart → TimePart) (hf : s.time.tdc.length = 6 → (f s.time).tdc.length = 6)
    (hc : p.clock = true) (h : Keeps p z s) : Keeps p z (s.setTime f) :=
  ⟨h.queue, h.bank, h.host, h.area, h.fill, fun x => hf (h.conv x), Or.inl hc, h.parts⟩

theorem State.setCmd_keeps (f : CmdPart → CmdPart) (h : Keeps p z s) : Keeps p z (s.setCmd f) :=
  ⟨h.queue, h.bank, h.host, h.area, h.fill, h.conv, h.same, h.parts⟩

theorem State.setCas_keeps (f : CasPart → CasPart) (h : Keeps p z s) : Keeps p z (s.setCas f) :=
  ⟨h.queue, h.bank, h.host, h.area, h.fill, h.conv, h.same, h.parts⟩

theorem State.setPair_keeps (f : PairPart → PairPart) (h : Keeps p z s) : Keeps p z (s.setPair f) :=
  ⟨h.queue, h.bank, h.host, h.area, h.fill, h.conv, h.same, h.parts⟩

/-- Bytes written where writing is allowed. -/
theorem State.write_keeps (off : Nat) (l : List Byte) (hw : ∀ i, p.write i = false → i < off ∨ off + l.length ≤ i) (h : Keeps p z s) :
    Keeps p z (s.setMem (fun m => m.writeBytes off l)) :=
  ⟨h.queue, h.bank, fun x => MemPart.writeBytes_wf l off (h.host x),
    fun i k => by
      show lookup (s.mem.writeBytes off l).host i = _ ∨ _ ∧ lookup (s.mem.writeBytes off l).host i = _
      rw [MemPart.writeBytes_other l (hw i k)]; exact h.area i k,
    h.fill.imp id (fun x => (MemPart.writeBytes_fill l s.mem off).trans x), h.conv, h.same, h.parts⟩

/-- What a state built field by field keeps. -/
structure KeepsMk (p : Allow) (z : State) (q : List Instr) (r : List (Nat × Word)) (m : MemPart) (time : TimePart) (rdata : List Word) (free : Nat) (events : List EventMsg) (aon : AonPart) (ports : PortsPart) (ing : IngressPart) (pec : PecPart) (capIn : List CapIn) (aln : AccordPart) (lim : LimPart) (isl : IslPart) (batches : List AlarmBatch) (pub : PubPart) (osc : OscPart) (cap : CapPart) (flt : FltPart) (key : KeyPart) (evr : EvrPart) (mbx : MbxPart) : Prop where
  queue : q = z.pending
  bank : canon resetWord z.regs = true → canon resetWord r = true
  host : z.mem.wf = true → m.wf = true
  area : ∀ i, p.write i = false → lookup m.host i = lookup z.mem.host i ∨ (p.lose = true ∧ lookup m.host i = none)
  fill : p.lose = true ∨ m.fill = z.mem.fill
  conv : z.time.tdc.length = 6 → time.tdc.length = 6
  same : p.clock = true ∨ time = z.time
  parts : KeepsParts p z rdata free events aon ports ing pec capIn aln lim isl batches pub osc cap flt key evr mbx

theorem keeps_mk {q : List Instr} {r : List (Nat × Word)} {rdata : List Word} {free : Nat} {events : List EventMsg} {cmd : CmdPart} {aon : AonPart} {time : TimePart} {ports : PortsPart} {ing : IngressPart} {pec : PecPart} {capIn : List CapIn} {aln : AccordPart} {lim : LimPart} {isl : IslPart} {batches : List AlarmBatch} {pub : PubPart} {osc : OscPart} {cap : CapPart} {flt : FltPart} {key : KeyPart} {evr : EvrPart} {mbx : MbxPart} {cas : CasPart} {pair : PairPart} {mem : MemPart} :
    Keeps p z (State.mk q r rdata free events cmd aon time ports ing pec capIn aln lim isl batches pub osc cap flt key evr mbx cas pair mem) ↔ KeepsMk p z q r mem time rdata free events aon ports ing pec capIn aln lim isl batches pub osc cap flt key evr mbx :=
  ⟨fun h => ⟨h.queue, h.bank, h.host, h.area, h.fill, h.conv, h.same, h.parts⟩, fun h => ⟨h.queue, h.bank, h.host, h.area, h.fill, h.conv, h.same, h.parts⟩⟩

theorem keepsParts_intro {rdata : List Word} {free : Nat} {events : List EventMsg} {aon : AonPart} {ports : PortsPart} {ing : IngressPart} {pec : PecPart} {capIn : List CapIn} {aln : AccordPart} {lim : LimPart} {isl : IslPart} {batches : List AlarmBatch} {pub : PubPart} {osc : OscPart} {cap : CapPart} {flt : FltPart} {key : KeyPart} {evr : EvrPart} {mbx : MbxPart}
    (h_rdata : p.may .rdata = true ∨ rdata = s.rdata) (h_free : p.may .free = true ∨ free = s.free) (h_events : p.may .events = true ∨ events = s.events) (h_aon : p.may .aon = true ∨ aon = s.aon) (h_ports : p.may .ports = true ∨ ports = s.ports) (h_ing : p.may .ing = true ∨ ing = s.ing) (h_pec : p.may .pec = true ∨ pec = s.pec) (h_capIn : p.may .capIn = true ∨ capIn = s.capIn) (h_aln : p.may .aln = true ∨ aln = s.aln) (h_lim : p.may .lim = true ∨ lim = s.lim) (h_isl : p.may .isl = true ∨ isl = s.isl) (h_batches : p.may .batches = true ∨ batches = s.batches) (h_pub : p.may .pub = true ∨ pub = s.pub) (h_osc : p.may .osc = true ∨ osc = s.osc) (h_cap : p.may .cap = true ∨ cap = s.cap) (h_flt : p.may .flt = true ∨ flt = s.flt) (h_key : p.may .key = true ∨ key = s.key) (h_evr : p.may .evr = true ∨ evr = s.evr) (h_mbx : p.may .mbx = true ∨ mbx = s.mbx) :
    KeepsParts p s rdata free events aon ports ing pec capIn aln lim isl batches pub osc cap flt key evr mbx := ⟨h_rdata, h_free, h_events, h_aon, h_ports, h_ing, h_pec, h_capIn, h_aln, h_lim, h_isl, h_batches, h_pub, h_osc, h_cap, h_flt, h_key, h_evr, h_mbx⟩

theorem keepsParts_of {rdata : List Word} {free : Nat} {events : List EventMsg} {aon : AonPart} {ports : PortsPart} {ing : IngressPart} {pec : PecPart} {capIn : List CapIn} {aln : AccordPart} {lim : LimPart} {isl : IslPart} {batches : List AlarmBatch} {pub : PubPart} {osc : OscPart} {cap : CapPart} {flt : FltPart} {key : KeyPart} {evr : EvrPart} {mbx : MbxPart} (h : KeepsParts p z s.rdata s.free s.events s.aon s.ports s.ing s.pec s.capIn s.aln s.lim s.isl s.batches s.pub s.osc s.cap s.flt s.key s.evr s.mbx)
    (hp : KeepsParts p s rdata free events aon ports ing pec capIn aln lim isl batches pub osc cap flt key evr mbx) : KeepsParts p z rdata free events aon ports ing pec capIn aln lim isl batches pub osc cap flt key evr mbx := by
  obtain ⟨h0, h1, h2, h3, h4, h5, h6, h7, h8, h9, h10, h11, h12, h13, h14, h15, h16, h17, h18⟩ := h
  obtain ⟨k0, k1, k2, k3, k4, k5, k6, k7, k8, k9, k10, k11, k12, k13, k14, k15, k16, k17, k18⟩ := hp
  exact ⟨may_trans h0 k0, may_trans h1 k1, may_trans h2 k2, may_trans h3 k3, may_trans h4 k4, may_trans h5 k5, may_trans h6 k6, may_trans h7 k7, may_trans h8 k8, may_trans h9 k9, may_trans h10 k10, may_trans h11 k11, may_trans h12 k12, may_trans h13 k13, may_trans h14 k14, may_trans h15 k15, may_trans h16 k16, may_trans h17 k17, may_trans h18 k18⟩

/-- A state built from another, its queue, its bank and its host area the other's. -/
theorem keepsMk_of {m : MemPart} {time : TimePart} {rdata : List Word} {free : Nat} {events : List EventMsg} {aon : AonPart} {ports : PortsPart} {ing : IngressPart} {pec : PecPart} {capIn : List CapIn} {aln : AccordPart} {lim : LimPart} {isl : IslPart} {batches : List AlarmBatch} {pub : PubPart} {osc : OscPart} {cap : CapPart} {flt : FltPart} {key : KeyPart} {evr : EvrPart} {mbx : MbxPart} (h : Keeps p z s) (hm : m.host = s.mem.host ∧ m.fill = s.mem.fill)
    (ht : s.time.tdc.length = 6 → time.tdc.length = 6) (hc : p.clock = true ∨ time = s.time) (hp : KeepsParts p s rdata free events aon ports ing pec capIn aln lim isl batches pub osc cap flt key evr mbx) : KeepsMk p z s.pending s.regs m time rdata free events aon ports ing pec capIn aln lim isl batches pub osc cap flt key evr mbx :=
  have k : Keeps p z (s.setMem (fun _ => m)) := State.setMem_keeps _ hm h
  ⟨k.queue, k.bank, k.host, k.area, k.fill, fun x => ht (h.conv x), may_trans h.same hc, keepsParts_of h.parts hp⟩

/-- The same with the host area lost. -/
theorem keepsMk_clear {m : MemPart} {time : TimePart} {rdata : List Word} {free : Nat} {events : List EventMsg} {aon : AonPart} {ports : PortsPart} {ing : IngressPart} {pec : PecPart} {capIn : List CapIn} {aln : AccordPart} {lim : LimPart} {isl : IslPart} {batches : List AlarmBatch} {pub : PubPart} {osc : OscPart} {cap : CapPart} {flt : FltPart} {key : KeyPart} {evr : EvrPart} {mbx : MbxPart} (h : Keeps p z s) (hl : p.lose = true) (hm : m.host = [])
    (ht : s.time.tdc.length = 6 → time.tdc.length = 6) (hc : p.clock = true ∨ time = s.time) (hp : KeepsParts p s rdata free events aon ports ing pec capIn aln lim isl batches pub osc cap flt key evr mbx) : KeepsMk p z s.pending s.regs m time rdata free events aon ports ing pec capIn aln lim isl batches pub osc cap flt key evr mbx :=
  ⟨h.queue, h.bank, fun _ => by unfold MemPart.wf; rw [hm]; rfl, fun _ _ => Or.inr ⟨hl, by rw [hm]; rfl⟩, Or.inl hl, fun x => ht (h.conv x), may_trans h.same hc, keepsParts_of h.parts hp⟩

/-- The same with every register at its reset value too. -/
theorem keepsMk_reset {m : MemPart} {time : TimePart} {rdata : List Word} {free : Nat} {events : List EventMsg} {aon : AonPart} {ports : PortsPart} {ing : IngressPart} {pec : PecPart} {capIn : List CapIn} {aln : AccordPart} {lim : LimPart} {isl : IslPart} {batches : List AlarmBatch} {pub : PubPart} {osc : OscPart} {cap : CapPart} {flt : FltPart} {key : KeyPart} {evr : EvrPart} {mbx : MbxPart} (h : Keeps p z s) (hl : p.lose = true) (hm : m.host = [])
    (ht : s.time.tdc.length = 6 → time.tdc.length = 6) (hc : p.clock = true ∨ time = s.time) (hp : KeepsParts p s rdata free events aon ports ing pec capIn aln lim isl batches pub osc cap flt key evr mbx) : KeepsMk p z s.pending State.reset.regs m time rdata free events aon ports ing pec capIn aln lim isl batches pub osc cap flt key evr mbx :=
  ⟨h.queue, fun _ => rfl, fun _ => by unfold MemPart.wf; rw [hm]; rfl, fun _ _ => Or.inr ⟨hl, by rw [hm]; rfl⟩, Or.inl hl,
    fun x => ht (h.conv x), may_trans h.same hc, keepsParts_of h.parts hp⟩

/-- Bulk memory with its host area lost. -/
theorem State.setMem_clear (f : MemPart → MemPart) (hl : p.lose = true) (hf : (f s.mem).host = []) (h : Keeps p z s) : Keeps p z (s.setMem f) :=
  (keeps_mk).2 (keepsMk_clear h hl hf id (Or.inr rfl) (KeepsParts.refl p s))

theorem State.setAln_keeps (f : AccordPart → AccordPart) (hp : p.may .aln = true) (h : Keeps p z s) : Keeps p z (s.setAln f) :=
  (keeps_mk).2 (keepsMk_of h ⟨rfl, rfl⟩ id (Or.inr rfl) ⟨Or.inr rfl, Or.inr rfl, Or.inr rfl, Or.inr rfl, Or.inr rfl, Or.inr rfl, Or.inr rfl, Or.inr rfl, Or.inl hp, Or.inr rfl, Or.inr rfl, Or.inr rfl, Or.inr rfl, Or.inr rfl, Or.inr rfl, Or.inr rfl, Or.inr rfl, Or.inr rfl, Or.inr rfl⟩)

theorem State.setCap_keeps (f : CapPart → CapPart) (hp : p.may .cap = true) (h : Keeps p z s) : Keeps p z (s.setCap f) :=
  (keeps_mk).2 (keepsMk_of h ⟨rfl, rfl⟩ id (Or.inr rfl) ⟨Or.inr rfl, Or.inr rfl, Or.inr rfl, Or.inr rfl, Or.inr rfl, Or.inr rfl, Or.inr rfl, Or.inr rfl, Or.inr rfl, Or.inr rfl, Or.inr rfl, Or.inr rfl, Or.inr rfl, Or.inr rfl, Or.inl hp, Or.inr rfl, Or.inr rfl, Or.inr rfl, Or.inr rfl⟩)

theorem State.setPec_keeps (f : PecPart → PecPart) (hp : p.may .pec = true) (h : Keeps p z s) : Keeps p z (s.setPec f) :=
  (keeps_mk).2 (keepsMk_of h ⟨rfl, rfl⟩ id (Or.inr rfl) ⟨Or.inr rfl, Or.inr rfl, Or.inr rfl, Or.inr rfl, Or.inr rfl, Or.inr rfl, Or.inl hp, Or.inr rfl, Or.inr rfl, Or.inr rfl, Or.inr rfl, Or.inr rfl, Or.inr rfl, Or.inr rfl, Or.inr rfl, Or.inr rfl, Or.inr rfl, Or.inr rfl, Or.inr rfl⟩)

theorem State.setFlt_keeps (f : FltPart → FltPart) (hp : p.may .flt = true) (h : Keeps p z s) : Keeps p z (s.setFlt f) :=
  (keeps_mk).2 (keepsMk_of h ⟨rfl, rfl⟩ id (Or.inr rfl) ⟨Or.inr rfl, Or.inr rfl, Or.inr rfl, Or.inr rfl, Or.inr rfl, Or.inr rfl, Or.inr rfl, Or.inr rfl, Or.inr rfl, Or.inr rfl, Or.inr rfl, Or.inr rfl, Or.inr rfl, Or.inr rfl, Or.inr rfl, Or.inl hp, Or.inr rfl, Or.inr rfl, Or.inr rfl⟩)

theorem State.setIsl_keeps (f : IslPart → IslPart) (hp : p.may .isl = true) (h : Keeps p z s) : Keeps p z (s.setIsl f) :=
  (keeps_mk).2 (keepsMk_of h ⟨rfl, rfl⟩ id (Or.inr rfl) ⟨Or.inr rfl, Or.inr rfl, Or.inr rfl, Or.inr rfl, Or.inr rfl, Or.inr rfl, Or.inr rfl, Or.inr rfl, Or.inr rfl, Or.inr rfl, Or.inl hp, Or.inr rfl, Or.inr rfl, Or.inr rfl, Or.inr rfl, Or.inr rfl, Or.inr rfl, Or.inr rfl, Or.inr rfl⟩)

theorem State.setKeys_keeps (f : KeyPart → KeyPart) (hp : p.may .key = true) (h : Keeps p z s) : Keeps p z (s.setKeys f) :=
  (keeps_mk).2 (keepsMk_of h ⟨rfl, rfl⟩ id (Or.inr rfl) ⟨Or.inr rfl, Or.inr rfl, Or.inr rfl, Or.inr rfl, Or.inr rfl, Or.inr rfl, Or.inr rfl, Or.inr rfl, Or.inr rfl, Or.inr rfl, Or.inr rfl, Or.inr rfl, Or.inr rfl, Or.inr rfl, Or.inr rfl, Or.inr rfl, Or.inl hp, Or.inr rfl, Or.inr rfl⟩)

theorem State.setLim_keeps (f : LimPart → LimPart) (hp : p.may .lim = true) (h : Keeps p z s) : Keeps p z (s.setLim f) :=
  (keeps_mk).2 (keepsMk_of h ⟨rfl, rfl⟩ id (Or.inr rfl) ⟨Or.inr rfl, Or.inr rfl, Or.inr rfl, Or.inr rfl, Or.inr rfl, Or.inr rfl, Or.inr rfl, Or.inr rfl, Or.inr rfl, Or.inl hp, Or.inr rfl, Or.inr rfl, Or.inr rfl, Or.inr rfl, Or.inr rfl, Or.inr rfl, Or.inr rfl, Or.inr rfl, Or.inr rfl⟩)

theorem State.setMbx_keeps (f : MbxPart → MbxPart) (hp : p.may .mbx = true) (h : Keeps p z s) : Keeps p z (s.setMbx f) :=
  (keeps_mk).2 (keepsMk_of h ⟨rfl, rfl⟩ id (Or.inr rfl) ⟨Or.inr rfl, Or.inr rfl, Or.inr rfl, Or.inr rfl, Or.inr rfl, Or.inr rfl, Or.inr rfl, Or.inr rfl, Or.inr rfl, Or.inr rfl, Or.inr rfl, Or.inr rfl, Or.inr rfl, Or.inr rfl, Or.inr rfl, Or.inr rfl, Or.inr rfl, Or.inr rfl, Or.inl hp⟩)

theorem State.setOsc_keeps (f : OscPart → OscPart) (hp : p.may .osc = true) (h : Keeps p z s) : Keeps p z (s.setOsc f) :=
  (keeps_mk).2 (keepsMk_of h ⟨rfl, rfl⟩ id (Or.inr rfl) ⟨Or.inr rfl, Or.inr rfl, Or.inr rfl, Or.inr rfl, Or.inr rfl, Or.inr rfl, Or.inr rfl, Or.inr rfl, Or.inr rfl, Or.inr rfl, Or.inr rfl, Or.inr rfl, Or.inr rfl, Or.inl hp, Or.inr rfl, Or.inr rfl, Or.inr rfl, Or.inr rfl, Or.inr rfl⟩)

theorem State.setAon_keeps (f : AonPart → AonPart) (hp : p.may .aon = true) (h : Keeps p z s) : Keeps p z (s.setAon f) :=
  (keeps_mk).2 (keepsMk_of h ⟨rfl, rfl⟩ id (Or.inr rfl) ⟨Or.inr rfl, Or.inr rfl, Or.inr rfl, Or.inl hp, Or.inr rfl, Or.inr rfl, Or.inr rfl, Or.inr rfl, Or.inr rfl, Or.inr rfl, Or.inr rfl, Or.inr rfl, Or.inr rfl, Or.inr rfl, Or.inr rfl, Or.inr rfl, Or.inr rfl, Or.inr rfl, Or.inr rfl⟩)

theorem State.setPub_keeps (f : PubPart → PubPart) (hp : p.may .pub = true) (h : Keeps p z s) : Keeps p z (s.setPub f) :=
  (keeps_mk).2 (keepsMk_of h ⟨rfl, rfl⟩ id (Or.inr rfl) ⟨Or.inr rfl, Or.inr rfl, Or.inr rfl, Or.inr rfl, Or.inr rfl, Or.inr rfl, Or.inr rfl, Or.inr rfl, Or.inr rfl, Or.inr rfl, Or.inr rfl, Or.inr rfl, Or.inl hp, Or.inr rfl, Or.inr rfl, Or.inr rfl, Or.inr rfl, Or.inr rfl, Or.inr rfl⟩)

theorem State.setEvr_keeps (f : EvrPart → EvrPart) (hp : p.may .evr = true) (h : Keeps p z s) : Keeps p z (s.setEvr f) :=
  (keeps_mk).2 (keepsMk_of h ⟨rfl, rfl⟩ id (Or.inr rfl) ⟨Or.inr rfl, Or.inr rfl, Or.inr rfl, Or.inr rfl, Or.inr rfl, Or.inr rfl, Or.inr rfl, Or.inr rfl, Or.inr rfl, Or.inr rfl, Or.inr rfl, Or.inr rfl, Or.inr rfl, Or.inr rfl, Or.inr rfl, Or.inr rfl, Or.inr rfl, Or.inl hp, Or.inr rfl⟩)

theorem State.setIng_keeps (f : IngressPart → IngressPart) (hp : p.may .ing = true) (h : Keeps p z s) : Keeps p z (s.setIng f) :=
  (keeps_mk).2 (keepsMk_of h ⟨rfl, rfl⟩ id (Or.inr rfl) ⟨Or.inr rfl, Or.inr rfl, Or.inr rfl, Or.inr rfl, Or.inr rfl, Or.inl hp, Or.inr rfl, Or.inr rfl, Or.inr rfl, Or.inr rfl, Or.inr rfl, Or.inr rfl, Or.inr rfl, Or.inr rfl, Or.inr rfl, Or.inr rfl, Or.inr rfl, Or.inr rfl, Or.inr rfl⟩)

/-! ### Results and outcomes -/

/-- What an opcode comes to keeps, whichever way it ends. -/
def KeepsRes (p : Allow) (z : State) : Res → Prop
  | .done _ _ t => Keeps p z t
  | .accepted t => Keeps p z t
  | .waiting t => Keeps p z t

theorem KeepsRes.done {st : Nat} {w : List Word} (h : Keeps p z s) : KeepsRes p z (.done st w s) := h

theorem KeepsRes.accepted (h : Keeps p z s) : KeepsRes p z (.accepted s) := h

theorem KeepsRes.waiting (h : Keeps p z s) : KeepsRes p z (.waiting s) := h

/-- The next state, where there is one, keeps. -/
def KeepsOut (p : Allow) (z : State) (o : Host.Outcome State Fault Refusal) : Prop := ∀ t, o = .next t → Keeps p z t

theorem KeepsOut.next (h : Keeps p z s) : KeepsOut p z (.next s) := fun _ e => Host.Outcome.next.inj e ▸ h

theorem keeps_ite {c : Prop} [Decidable c] {a b : State} (ha : Keeps p z a) (hb : Keeps p z b) : Keeps p z (if c then a else b) := by
  split <;> assumption

theorem keepsRes_ite {c : Prop} [Decidable c] {a b : Res} (ha : KeepsRes p z a) (hb : KeepsRes p z b) : KeepsRes p z (if c then a else b) := by
  split <;> assumption

theorem keepsOut_ite {c : Prop} [Decidable c] {a b : Host.Outcome State Fault Refusal} (ha : KeepsOut p z a) (hb : KeepsOut p z b) :
    KeepsOut p z (if c then a else b) := by
  split <;> assumption

/-- A fold of operations that keep. -/
theorem keeps_foldl {α : Type} {f : State → α → State} (hf : ∀ t a, Keeps p z t → Keeps p z (f t a)) :
    ∀ (l : List α) {s : State}, Keeps p z s → Keeps p z (l.foldl f s)
  | [], _, h => h
  | a :: rest, _, h => keeps_foldl hf rest (hf _ a h)

theorem keeps_foldl_fst {α β : Type} {f : State × β → α → State × β} (hf : ∀ t a, Keeps p z t.1 → Keeps p z (f t a).1) :
    ∀ (l : List α) {s : State × β}, Keeps p z s.1 → Keeps p z (l.foldl f s).1
  | [], _, h => h
  | a :: rest, _, h => keeps_foldl_fst hf rest (hf _ a h)

theorem keeps_foldl_snd {α β : Type} {f : β × State → α → β × State} (hf : ∀ t a, Keeps p z t.2 → Keeps p z (f t a).2) :
    ∀ (l : List α) {s : β × State}, Keeps p z s.2 → Keeps p z (l.foldl f s).2
  | [], _, h => h
  | a :: rest, _, h => keeps_foldl_snd hf rest (hf _ a h)

end Sys2Proof.Machine
end

