-- ==== Sys2Proof/Laws/KeepsShared.lean ====
section
/-! SUPPORT. What the shared operations, gates, commands and streams keep (Laws/Keeps.lean): one lemma per operation. -/

namespace Sys2Proof.Machine

/-! ### Machine/Ops.lean -/

theorem State.setRf_keeps {p_ : Allow} {z : State} {s : State} (a hi lo v : Nat)  (h_ : Keeps p_ z s) : Keeps p_ z (State.setRf s a hi lo v) := by
  unfold State.setRf
  repeat' (first | with_reducible assumption | with_reducible exact Keeps.refl _ _ | with_reducible apply State.setReg_keeps | dsimp only | intro _ _ | intro _)

theorem State.setRb_keeps {p_ : Allow} {z : State} {s : State} (a n : Nat) (b : Bool)  (h_ : Keeps p_ z s) : Keeps p_ z (State.setRb s a n b) := by
  unfold State.setRb
  repeat' (first | with_reducible assumption | with_reducible exact Keeps.refl _ _ | with_reducible apply State.setReg_keeps | dsimp only | intro _ _ | intro _)

theorem State.setSome_keeps {p_ : Allow} {z : State} {s : State} (a hi lo : Nat) (x0 : Option Nat)  (h_ : Keeps p_ z s) : Keeps p_ z (State.setSome s a hi lo x0) := by
  unfold State.setSome
  repeat' (first | with_reducible assumption | with_reducible exact Keeps.refl _ _ | with_reducible apply State.setRf_keeps | split | dsimp only | intro _ _ | intro _)

theorem State.plainWrite_keeps {p_ : Allow} {z : State} {s : State} (a : Nat) (v : Word) (h_ : Keeps p_ z s) : Keeps p_ z (State.plainWrite s a v) := by
  unfold State.plainWrite
  cases descAt a
  · exact h_
  · exact State.setReg_keeps _ _ h_

theorem State.countFld_keeps {p_ : Allow} {z : State} {s : State} (a hi lo n : Nat)  (h_ : Keeps p_ z s) : Keeps p_ z (State.countFld s a hi lo n) := by
  unfold State.countFld
  repeat' (first | with_reducible assumption | with_reducible exact Keeps.refl _ _ | with_reducible apply State.setRf_keeps | dsimp only | intro _ _ | intro _)

theorem State.count_keeps {p_ : Allow} {z : State} {s : State} (a n : Nat)  (h_ : Keeps p_ z s) : Keeps p_ z (State.count s a n) := by
  unfold State.count
  repeat' (first | with_reducible assumption | with_reducible exact Keeps.refl _ _ | with_reducible apply State.setReg_keeps | dsimp only | intro _ _ | intro _)

theorem State.vector_keeps {p_ : Allow} {z : State} {s : State} (v : Nat)  (h_ : Keeps p_ z s) : Keeps p_ z (State.vector s v) := by
  unfold State.vector
  repeat' (first | with_reducible assumption | with_reducible exact Keeps.refl _ _ | with_reducible apply State.setRb_keeps | with_reducible apply keepsParts_intro | with_reducible exact Or.inl (by with_reducible assumption) | with_reducible exact Or.inr rfl | simp only [keeps_mk] | with_reducible refine keepsMk_of ?_ ⟨rfl, rfl⟩ (fun h_ => by first | exact h_ | simpa only [updAt_length] using h_ | with_unfolding_all rfl) ?_ ?_ | with_reducible apply keeps_ite | split | dsimp only | intro _ _ | intro _)

theorem State.status_keeps {p_ : Allow} {z : State} {s : State} (a n : Nat)  (h_ : Keeps p_ z s) : Keeps p_ z (State.status s a n) := by
  unfold State.status
  repeat' (first | with_reducible assumption | with_reducible exact Keeps.refl _ _ | with_reducible apply State.setRb_keeps | with_reducible apply State.vector_keeps | dsimp only | intro _ _ | intro _)

theorem State.advance_keeps {p_ : Allow} {z : State} {s : State} (t : Instant)  (htime_ : p_.clock = true) (h_ : Keeps p_ z s) : Keeps p_ z (State.advance s t) := by
  unfold State.advance
  repeat' (first | with_reducible assumption | with_reducible exact Keeps.refl _ _ | with_reducible apply keepsParts_intro | with_reducible exact Or.inl (by with_reducible assumption) | with_reducible exact Or.inr rfl | simp only [keeps_mk] | with_reducible refine keepsMk_of ?_ ⟨rfl, rfl⟩ (fun h_ => by first | exact h_ | simpa only [updAt_length] using h_ | with_unfolding_all rfl) ?_ ?_ | dsimp only | intro _ _ | intro _)

theorem State.advanceUp_keeps {p_ : Allow} {z : State} {s : State} (u : Nat)  (htime_ : p_.clock = true) (h_ : Keeps p_ z s) : Keeps p_ z (State.advanceUp s u) := by
  unfold State.advanceUp
  repeat' (first | with_reducible assumption | with_reducible exact Keeps.refl _ _ | with_reducible apply keepsParts_intro | with_reducible exact Or.inl (by with_reducible assumption) | with_reducible exact Or.inr rfl | simp only [keeps_mk] | with_reducible refine keepsMk_of ?_ ⟨rfl, rfl⟩ (fun h_ => by first | exact h_ | simpa only [updAt_length] using h_ | with_unfolding_all rfl) ?_ ?_ | dsimp only | intro _ _ | intro _)

theorem State.nextFree_keeps {p_ : Allow} {z : State} {s : State}  (hfree_ : p_.may .free = true) (h_ : Keeps p_ z s) : Keeps p_ z (State.nextFree s) := by
  unfold State.nextFree
  repeat' (first | with_reducible assumption | with_reducible exact Keeps.refl _ _ | with_reducible apply keepsParts_intro | with_reducible exact Or.inl (by with_reducible assumption) | with_reducible exact Or.inr rfl | simp only [keeps_mk] | with_reducible refine keepsMk_of ?_ ⟨rfl, rfl⟩ (fun h_ => by first | exact h_ | simpa only [updAt_length] using h_ | with_unfolding_all rfl) ?_ ?_ | dsimp only | intro _ _ | intro _)

theorem State.raise_keeps {p_ : Allow} {z : State} {s : State} (cls : Nat) (qty : Rat) (detail : List Word)  (hevents_ : p_.may .events = true) (h_ : Keeps p_ z s) : Keeps p_ z (State.raise s cls qty detail) := by
  unfold State.raise
  repeat' (first | with_reducible assumption | with_reducible exact Keeps.refl _ _ | with_reducible apply keepsParts_intro | with_reducible exact Or.inl (by with_reducible assumption) | with_reducible exact Or.inr rfl | simp only [keeps_mk] | with_reducible refine keepsMk_of ?_ ⟨rfl, rfl⟩ (fun h_ => by first | exact h_ | simpa only [updAt_length] using h_ | with_unfolding_all rfl) ?_ ?_ | dsimp only | intro _ _ | intro _)

theorem State.raiseInjected_keeps {p_ : Allow} {z : State} {s : State} (cls : Nat) (qty : Rat) (detail : List Word)  (hevents_ : p_.may .events = true) (h_ : Keeps p_ z s) : Keeps p_ z (State.raiseInjected s cls qty detail) := by
  unfold State.raiseInjected
  repeat' (first | with_reducible assumption | with_reducible exact Keeps.refl _ _ | with_reducible apply keepsParts_intro | with_reducible exact Or.inl (by with_reducible assumption) | with_reducible exact Or.inr rfl | simp only [keeps_mk] | with_reducible refine keepsMk_of ?_ ⟨rfl, rfl⟩ (fun h_ => by first | exact h_ | simpa only [updAt_length] using h_ | with_unfolding_all rfl) ?_ ?_ | dsimp only | intro _ _ | intro _)

/-! ### Machine/FaultOps.lean -/

theorem State.updInj_keeps {p_ : Allow} {z : State} {s : State} (i : Nat) (f : InjSlot → InjSlot)  (hflt_ : p_.may .flt = true) (h_ : Keeps p_ z s) : Keeps p_ z (State.updInj s i f) := by
  unfold State.updInj
  repeat' (first | with_reducible assumption | with_reducible exact Keeps.refl _ _ | with_reducible apply State.setFlt_keeps | with_reducible apply keepsParts_intro | with_reducible exact Or.inl (by with_reducible assumption) | with_reducible exact Or.inr rfl | simp only [keeps_mk] | with_reducible refine keepsMk_of ?_ ⟨rfl, rfl⟩ (fun h_ => by first | exact h_ | simpa only [updAt_length] using h_ | with_unfolding_all rfl) ?_ ?_ | dsimp only | intro _ _ | intro _)

theorem State.detected_keeps {p_ : Allow} {z : State} {s : State} (d : Nat)  (hflt_ : p_.may .flt = true) (h_ : Keeps p_ z s) : Keeps p_ z (State.detected s d) := by
  unfold State.detected
  repeat' (first | with_reducible assumption | with_reducible exact Keeps.refl _ _ | with_reducible apply State.count_keeps | with_reducible apply State.setRb_keeps | with_reducible apply State.setFlt_keeps | with_reducible apply State.vector_keeps | with_reducible apply keepsParts_intro | with_reducible exact Or.inl (by with_reducible assumption) | with_reducible exact Or.inr rfl | simp only [keeps_mk] | with_reducible refine keepsMk_of ?_ ⟨rfl, rfl⟩ (fun h_ => by first | exact h_ | simpa only [updAt_length] using h_ | with_unfolding_all rfl) ?_ ?_ | with_reducible apply keeps_ite | split | dsimp only | intro _ _ | intro _)

theorem State.detect_keeps {p_ : Allow} {z : State} {s : State} (d : Nat) (inj : Bool) (qty : Rat) (detail : List Word)  (hevents_ : p_.may .events = true) (hflt_ : p_.may .flt = true) (h_ : Keeps p_ z s) : Keeps p_ z (State.detect s d inj qty detail) := by
  unfold State.detect
  repeat' (first | with_reducible assumption | with_reducible exact Keeps.refl _ _ | with_reducible apply State.detected_keeps | with_reducible apply State.raiseInjected_keeps | with_reducible apply State.raise_keeps | with_reducible apply keeps_ite | split | dsimp only | intro _ _ | intro _)

theorem State.spendShot_keeps {p_ : Allow} {z : State} {s : State} (i : Nat)  (hflt_ : p_.may .flt = true) (h_ : Keeps p_ z s) : Keeps p_ z (State.spendShot s i) := by
  unfold State.spendShot
  repeat' (first | with_reducible assumption | with_reducible exact Keeps.refl _ _ | with_reducible apply State.updInj_keeps | with_reducible apply State.count_keeps | with_reducible apply State.status_keeps | with_reducible apply State.setFlt_keeps | with_reducible apply keepsParts_intro | with_reducible exact Or.inl (by with_reducible assumption) | with_reducible exact Or.inr rfl | simp only [keeps_mk] | with_reducible refine keepsMk_of ?_ ⟨rfl, rfl⟩ (fun h_ => by first | exact h_ | simpa only [updAt_length] using h_ | with_unfolding_all rfl) ?_ ?_ | with_reducible apply keeps_ite | split | dsimp only | intro _ _ | intro _)

theorem State.shot_keeps {p_ : Allow} {z : State} {s : State} (d t : Nat)  (hflt_ : p_.may .flt = true) (h_ : Keeps p_ z s) : Keeps p_ z (State.shot s d t).2 := by
  unfold State.shot
  repeat' (first | with_reducible assumption | with_reducible exact Keeps.refl _ _ | with_reducible apply State.spendShot_keeps | with_reducible apply keepsParts_intro | with_reducible exact Or.inl (by with_reducible assumption) | with_reducible exact Or.inr rfl | simp only [keeps_mk] | with_reducible refine keepsMk_of ?_ ⟨rfl, rfl⟩ (fun h_ => by first | exact h_ | simpa only [updAt_length] using h_ | with_unfolding_all rfl) ?_ ?_ | split | intro _ _ | dsimp only | intro _ _ | intro _)
theorem State.shot_keeps_of {p_ : Allow} {z : State} {s : State} {d t : Nat} {a_ : _} {t_ : State} (e_ : State.shot s d t = (a_, t_)) (hflt_ : p_.may .flt = true) (h_ : Keeps p_ z s) : Keeps p_ z t_ := by
  have k_ := State.shot_keeps (z := z) d t hflt_ h_
  rw [e_] at k_; exact k_

theorem State.occasion_keeps {p_ : Allow} {z : State} {s : State} (d t : Nat) (real : Bool)  (hflt_ : p_.may .flt = true) (h_ : Keeps p_ z s) : Keeps p_ z (State.occasion s d t real).2 := by
  unfold State.occasion
  repeat' (first | with_reducible assumption | with_reducible exact Keeps.refl _ _ | with_reducible apply State.shot_keeps | with_reducible apply State.count_keeps | with_reducible apply State.status_keeps | with_reducible refine State.shot_keeps_of (by with_reducible assumption) ?_ ?_ | with_reducible apply keeps_ite | split | dsimp only | intro _ _ | intro _)
theorem State.occasion_keeps_of {p_ : Allow} {z : State} {s : State} {d t : Nat} {real : Bool} {a_ : _} {t_ : State} (e_ : State.occasion s d t real = (a_, t_)) (hflt_ : p_.may .flt = true) (h_ : Keeps p_ z s) : Keeps p_ z t_ := by
  have k_ := State.occasion_keeps (z := z) d t real hflt_ h_
  rw [e_] at k_; exact k_

theorem State.disarmInj_keeps {p_ : Allow} {z : State} {s : State} (i : Nat)  (haon_ : p_.may .aon = true) (hflt_ : p_.may .flt = true) (hevr_ : p_.may .evr = true) (h_ : Keeps p_ z s) : Keeps p_ z (State.disarmInj s i) := by
  unfold State.disarmInj
  repeat' (first | with_reducible assumption | with_reducible exact Keeps.refl _ _ | with_reducible apply State.updInj_keeps | with_reducible apply State.setRb_keeps | with_reducible apply keepsParts_intro | with_reducible exact Or.inl (by with_reducible assumption) | with_reducible exact Or.inr rfl | simp only [keeps_mk] | with_reducible refine keepsMk_of ?_ ⟨rfl, rfl⟩ (fun h_ => by first | exact h_ | simpa only [updAt_length] using h_ | with_unfolding_all rfl) ?_ ?_ | with_reducible apply keeps_ite | split | intro _ _ | dsimp only | intro _ _ | intro _)

theorem State.disarmAll_keeps {p_ : Allow} {z : State} {s : State}  (haon_ : p_.may .aon = true) (hflt_ : p_.may .flt = true) (hevr_ : p_.may .evr = true) (h_ : Keeps p_ z s) : Keeps p_ z (State.disarmAll s) := by
  unfold State.disarmAll
  repeat' (first | with_reducible assumption | with_reducible exact Keeps.refl _ _ | with_reducible apply State.disarmInj_keeps | with_reducible apply keeps_foldl | with_reducible apply keeps_foldl_fst | with_reducible apply keeps_foldl_snd | intro _ _ _ | with_reducible apply keeps_ite | split | dsimp only | intro _ _ | intro _)

/-! ### Machine/KeyOps.lean -/

theorem State.keyCount_keeps {p_ : Allow} {z : State} {s : State} (i : Nat)  (h_ : Keeps p_ z s) : Keeps p_ z (State.keyCount s i) := by
  unfold State.keyCount
  repeat' (first | with_reducible assumption | with_reducible exact Keeps.refl _ _ | with_reducible apply State.count_keeps | dsimp only | intro _ _ | intro _)

theorem State.updKslot_keeps {p_ : Allow} {z : State} {s : State} (n : Nat) (f : KeySlot → KeySlot)  (hkey_ : p_.may .key = true) (h_ : Keeps p_ z s) : Keeps p_ z (State.updKslot s n f) := by
  unfold State.updKslot
  repeat' (first | with_reducible assumption | with_reducible exact Keeps.refl _ _ | with_reducible apply State.setKeys_keeps | with_reducible apply keepsParts_intro | with_reducible exact Or.inl (by with_reducible assumption) | with_reducible exact Or.inr rfl | simp only [keeps_mk] | with_reducible refine keepsMk_of ?_ ⟨rfl, rfl⟩ (fun h_ => by first | exact h_ | simpa only [updAt_length] using h_ | with_unfolding_all rfl) ?_ ?_ | dsimp only | intro _ _ | intro _)

theorem State.random_keeps {p_ : Allow} {z : State} {s : State} (n : Nat)  (hfree_ : p_.may .free = true) (h_ : Keeps p_ z s) : Keeps p_ z (State.random s n).2 := by
  unfold State.random
  repeat' (first | with_reducible assumption | with_reducible exact Keeps.refl _ _ | with_reducible apply State.nextFree_keeps | dsimp only | intro _ _ | intro _)
theorem State.random_keeps_of {p_ : Allow} {z : State} {s : State} {n : Nat} {a_ : _} {t_ : State} (e_ : State.random s n = (a_, t_)) (hfree_ : p_.may .free = true) (h_ : Keeps p_ z s) : Keeps p_ z t_ := by
  have k_ := State.random_keeps (z := z) n hfree_ h_
  rw [e_] at k_; exact k_

theorem State.remaskSlot_keeps {p_ : Allow} {z : State} {s : State} (n : Nat)  (hfree_ : p_.may .free = true) (hkey_ : p_.may .key = true) (h_ : Keeps p_ z s) : Keeps p_ z (State.remaskSlot s n) := by
  unfold State.remaskSlot
  repeat' (first | with_reducible assumption | with_reducible exact Keeps.refl _ _ | with_reducible apply State.random_keeps | with_reducible apply State.updKslot_keeps | with_reducible refine State.random_keeps_of (by with_reducible assumption) ?_ ?_ | with_reducible apply keepsParts_intro | with_reducible exact Or.inl (by with_reducible assumption) | with_reducible exact Or.inr rfl | simp only [keeps_mk] | with_reducible refine keepsMk_of ?_ ⟨rfl, rfl⟩ (fun h_ => by first | exact h_ | simpa only [updAt_length] using h_ | with_unfolding_all rfl) ?_ ?_ | dsimp only | intro _ _ | intro _)

theorem State.remaskLate_keeps {p_ : Allow} {z : State} {s : State} (n : Nat)  (hfree_ : p_.may .free = true) (hkey_ : p_.may .key = true) (h_ : Keeps p_ z s) : Keeps p_ z (State.remaskLate s n) := by
  unfold State.remaskLate
  repeat' (first | with_reducible assumption | with_reducible exact Keeps.refl _ _ | with_reducible apply State.remaskSlot_keeps | with_reducible apply keeps_ite | split | dsimp only | intro _ _ | intro _)

theorem State.useKeySlot_keeps {p_ : Allow} {z : State} {s : State} (n : Nat) (classes : List Nat)  (hfree_ : p_.may .free = true) (hkey_ : p_.may .key = true) (h_ : Keeps p_ z s) : Keeps p_ z (State.useKeySlot s n classes).2 := by
  unfold State.useKeySlot
  repeat' (first | with_reducible assumption | with_reducible exact Keeps.refl _ _ | with_reducible apply State.remaskLate_keeps | with_reducible apply State.keyCount_keeps | with_reducible apply State.updKslot_keeps | with_reducible apply State.status_keeps | with_reducible apply keepsParts_intro | with_reducible exact Or.inl (by with_reducible assumption) | with_reducible exact Or.inr rfl | simp only [keeps_mk] | with_reducible refine keepsMk_of ?_ ⟨rfl, rfl⟩ (fun h_ => by first | exact h_ | simpa only [updAt_length] using h_ | with_unfolding_all rfl) ?_ ?_ | with_reducible apply keeps_ite | split | intro _ _ | dsimp only | intro _ _ | intro _)
theorem State.useKeySlot_keeps_of {p_ : Allow} {z : State} {s : State} {n : Nat} {classes : List Nat} {a_ : _} {t_ : State} (e_ : State.useKeySlot s n classes = (a_, t_)) (hfree_ : p_.may .free = true) (hkey_ : p_.may .key = true) (h_ : Keeps p_ z s) : Keeps p_ z t_ := by
  have k_ := State.useKeySlot_keeps (z := z) n classes hfree_ hkey_ h_
  rw [e_] at k_; exact k_

/-! ### Machine/Gates.lean -/

theorem State.ringOut_keeps {p_ : Allow} {z : State} {s : State} (dest : Option (Fin 64)) (b : RingBody)  (h_ : Keeps p_ z s) : Keeps p_ z (State.ringOut s dest b) := by
  unfold State.ringOut
  repeat' (first | with_reducible assumption | with_reducible exact Keeps.refl _ _ | with_reducible apply State.setCas_keeps | with_reducible apply keepsParts_intro | with_reducible exact Or.inl (by with_reducible assumption) | with_reducible exact Or.inr rfl | simp only [keeps_mk] | with_reducible refine keepsMk_of ?_ ⟨rfl, rfl⟩ (fun h_ => by first | exact h_ | simpa only [updAt_length] using h_ | with_unfolding_all rfl) ?_ ?_ | with_reducible apply keeps_ite | split | dsimp only | intro _ _ | intro _)

theorem State.learnGen_keeps {p_ : Allow} {z : State} {s : State} (i : MasterId) (g : BitVec 4)  (h_ : Keeps p_ z s) : Keeps p_ z (State.learnGen s i g) := by
  unfold State.learnGen
  repeat' (first | with_reducible assumption | with_reducible exact Keeps.refl _ _ | with_reducible apply keepsParts_intro | with_reducible exact Or.inl (by with_reducible assumption) | with_reducible exact Or.inr rfl | simp only [keeps_mk] | with_reducible refine keepsMk_of ?_ ⟨rfl, rfl⟩ (fun h_ => by first | exact h_ | simpa only [updAt_length] using h_ | with_unfolding_all rfl) ?_ ?_ | dsimp only | intro _ _ | intro _)

theorem State.routeOut_keeps {p_ : Allow} {z : State} {s : State} (op : Nat) (h : Hdr)  (h_ : Keeps p_ z s) : Keeps p_ z (State.routeOut s op h) := by
  unfold State.routeOut
  repeat' (first | with_reducible assumption | with_reducible exact Keeps.refl _ _ | with_reducible apply State.ringOut_keeps | with_reducible apply keepsParts_intro | with_reducible exact Or.inl (by with_reducible assumption) | with_reducible exact Or.inr rfl | simp only [keeps_mk] | with_reducible refine keepsMk_of ?_ ⟨rfl, rfl⟩ (fun h_ => by first | exact h_ | simpa only [updAt_length] using h_ | with_unfolding_all rfl) ?_ ?_ | with_reducible apply keeps_ite | split | dsimp only | intro _ _ | intro _)

theorem State.dmaOut_keeps {p_ : Allow} {z : State} {s : State} (addr : Nat) (data : List Word)  (h_ : Keeps p_ z s) : Keeps p_ z (State.dmaOut s addr data) := by
  unfold State.dmaOut
  repeat' (first | with_reducible assumption | with_reducible exact Keeps.refl _ _ | with_reducible apply keepsParts_intro | with_reducible exact Or.inl (by with_reducible assumption) | with_reducible exact Or.inr rfl | simp only [keeps_mk] | with_reducible refine keepsMk_of ?_ ⟨rfl, rfl⟩ (fun h_ => by first | exact h_ | simpa only [updAt_length] using h_ | with_unfolding_all rfl) ?_ ?_ | dsimp only | intro _ _ | intro _)

theorem State.hostWrite_keeps {p_ : Allow} {z : State} {s : State} (via : Via) (addr : Nat) (data : List Word)  (h_ : Keeps p_ z s) : Keeps p_ z (State.hostWrite s via addr data) := by
  unfold State.hostWrite
  repeat' (first | with_reducible assumption | with_reducible exact Keeps.refl _ _ | with_reducible apply State.ringOut_keeps | with_reducible apply State.dmaOut_keeps | with_reducible apply keeps_foldl | with_reducible apply keeps_foldl_fst | with_reducible apply keeps_foldl_snd | intro _ _ _ | with_reducible apply keepsParts_intro | with_reducible exact Or.inl (by with_reducible assumption) | with_reducible exact Or.inr rfl | simp only [keeps_mk] | with_reducible refine keepsMk_of ?_ ⟨rfl, rfl⟩ (fun h_ => by first | exact h_ | simpa only [updAt_length] using h_ | with_unfolding_all rfl) ?_ ?_ | split | intro _ _ | dsimp only | intro _ _ | intro _)

theorem State.ringReplyOut_keeps {p_ : Allow} {z : State} {s : State} (f : Flight) (status : Nat) (words : List Word)  (h_ : Keeps p_ z s) : Keeps p_ z (State.ringReplyOut s f status words) := by
  unfold State.ringReplyOut
  repeat' (first | with_reducible assumption | with_reducible exact Keeps.refl _ _ | with_reducible apply State.ringOut_keeps | with_reducible apply State.status_keeps | dsimp only | intro _ _ | intro _)

theorem State.peerOut_keeps {p_ : Allow} {z : State} {s : State} (m : PeerMsg)  (h_ : Keeps p_ z s) : Keeps p_ z (State.peerOut s m) := by
  unfold State.peerOut
  repeat' (first | with_reducible assumption | with_reducible exact Keeps.refl _ _ | with_reducible apply State.setPair_keeps | with_reducible apply keepsParts_intro | with_reducible exact Or.inl (by with_reducible assumption) | with_reducible exact Or.inr rfl | simp only [keeps_mk] | with_reducible refine keepsMk_of ?_ ⟨rfl, rfl⟩ (fun h_ => by first | exact h_ | simpa only [updAt_length] using h_ | with_unfolding_all rfl) ?_ ?_ | dsimp only | intro _ _ | intro _)

theorem State.readTransfer_keeps {p_ : Allow} {z : State} {s : State} (p n : Nat)  (hevents_ : p_.may .events = true) (hflt_ : p_.may .flt = true) (h_ : Keeps p_ z s) : Keeps p_ z (State.readTransfer s p n).2 := by
  unfold State.readTransfer
  repeat' (first | with_reducible assumption | with_reducible exact Keeps.refl _ _ | with_reducible apply State.occasion_keeps | with_reducible apply State.count_keeps | with_reducible apply State.status_keeps | with_reducible apply State.detect_keeps | with_reducible refine State.occasion_keeps_of (by with_reducible assumption) ?_ ?_ | with_reducible apply keepsParts_intro | with_reducible exact Or.inl (by with_reducible assumption) | with_reducible exact Or.inr rfl | simp only [keeps_mk] | with_reducible refine keepsMk_of ?_ ⟨rfl, rfl⟩ (fun h_ => by first | exact h_ | simpa only [updAt_length] using h_ | with_unfolding_all rfl) ?_ ?_ | split | intro _ _ | dsimp only | intro _ _ | intro _)
theorem State.readTransfer_keeps_of {p_ : Allow} {z : State} {s : State} {p n : Nat} {a_ : _} {t_ : State} (e_ : State.readTransfer s p n = (a_, t_)) (hevents_ : p_.may .events = true) (hflt_ : p_.may .flt = true) (h_ : Keeps p_ z s) : Keeps p_ z t_ := by
  have k_ := State.readTransfer_keeps (z := z) p n hevents_ hflt_ h_
  rw [e_] at k_; exact k_

theorem State.takePoison_keeps {p_ : Allow} {z : State} {s : State} (p : Nat)  (h_ : Keeps p_ z s) : Keeps p_ z (State.takePoison s p).2 := by
  unfold State.takePoison
  repeat' (first | with_reducible assumption | with_reducible exact Keeps.refl _ _ | with_reducible apply keepsParts_intro | with_reducible exact Or.inl (by with_reducible assumption) | with_reducible exact Or.inr rfl | simp only [keeps_mk] | with_reducible refine keepsMk_of ?_ ⟨rfl, rfl⟩ (fun h_ => by first | exact h_ | simpa only [updAt_length] using h_ | with_unfolding_all rfl) ?_ ?_ | split | intro _ _ | dsimp only | intro _ _ | intro _)
theorem State.takePoison_keeps_of {p_ : Allow} {z : State} {s : State} {p : Nat} {a_ : _} {t_ : State} (e_ : State.takePoison s p = (a_, t_)) (h_ : Keeps p_ z s) : Keeps p_ z t_ := by
  have k_ := State.takePoison_keeps (z := z) p h_
  rw [e_] at k_; exact k_

theorem State.issueBarrier_keeps {p_ : Allow} {z : State} {s : State} (isl : Nat)  (h_ : Keeps p_ z s) : Keeps p_ z (State.issueBarrier s isl) := by
  unfold State.issueBarrier
  repeat' (first | with_reducible assumption | with_reducible exact Keeps.refl _ _ | with_reducible apply keepsParts_intro | with_reducible exact Or.inl (by with_reducible assumption) | with_reducible exact Or.inr rfl | simp only [keeps_mk] | with_reducible refine keepsMk_of ?_ ⟨rfl, rfl⟩ (fun h_ => by first | exact h_ | simpa only [updAt_length] using h_ | with_unfolding_all rfl) ?_ ?_ | dsimp only | intro _ _ | intro _)

theorem State.readBulk_keeps {p_ : Allow} {z : State} {s : State} (p addr len : Nat)  (hevents_ : p_.may .events = true) (hflt_ : p_.may .flt = true) (h_ : Keeps p_ z s) : Keeps p_ z (State.readBulk s p addr len).2 := by
  unfold State.readBulk
  repeat' (first | with_reducible assumption | with_reducible exact Keeps.refl _ _ | with_reducible apply State.readTransfer_keeps | with_reducible refine State.readTransfer_keeps_of (by with_reducible assumption) ?_ ?_ ?_ | with_reducible apply keeps_foldl | with_reducible apply keeps_foldl_fst | with_reducible apply keeps_foldl_snd | intro _ _ _ | with_reducible apply keeps_ite | split | dsimp only | intro _ _ | intro _)
theorem State.readBulk_keeps_of {p_ : Allow} {z : State} {s : State} {p addr len : Nat} {a_ : _} {t_ : State} (e_ : State.readBulk s p addr len = (a_, t_)) (hevents_ : p_.may .events = true) (hflt_ : p_.may .flt = true) (h_ : Keeps p_ z s) : Keeps p_ z t_ := by
  have k_ := State.readBulk_keeps (z := z) p addr len hevents_ hflt_ h_
  rw [e_] at k_; exact k_

/-! ### Machine/Command.lean -/

theorem State.updSession_keeps {p_ : Allow} {z : State} {s : State} (n : Fin 4) (f : Session → Session)  (h_ : Keeps p_ z s) : Keeps p_ z (State.updSession s n f) := by
  unfold State.updSession
  repeat' (first | with_reducible assumption | with_reducible exact Keeps.refl _ _ | with_reducible apply keepsParts_intro | with_reducible exact Or.inl (by with_reducible assumption) | with_reducible exact Or.inr rfl | simp only [keeps_mk] | with_reducible refine keepsMk_of ?_ ⟨rfl, rfl⟩ (fun h_ => by first | exact h_ | simpa only [updAt_length] using h_ | with_unfolding_all rfl) ?_ ?_ | dsimp only | intro _ _ | intro _)

theorem State.updFlights_keeps {p_ : Allow} {z : State} {s : State} (f : List Flight → List Flight)  (h_ : Keeps p_ z s) : Keeps p_ z (State.updFlights s f) := by
  unfold State.updFlights
  repeat' (first | with_reducible assumption | with_reducible exact Keeps.refl _ _ | with_reducible apply keepsParts_intro | with_reducible exact Or.inl (by with_reducible assumption) | with_reducible exact Or.inr rfl | simp only [keeps_mk] | with_reducible refine keepsMk_of ?_ ⟨rfl, rfl⟩ (fun h_ => by first | exact h_ | simpa only [updAt_length] using h_ | with_unfolding_all rfl) ?_ ?_ | dsimp only | intro _ _ | intro _)

theorem State.setAggs_keeps {p_ : Allow} {z : State} {s : State} (f : List Aggregate → List Aggregate)  (h_ : Keeps p_ z s) : Keeps p_ z (State.setAggs s f) := by
  unfold State.setAggs
  repeat' (first | with_reducible assumption | with_reducible exact Keeps.refl _ _ | with_reducible apply keepsParts_intro | with_reducible exact Or.inl (by with_reducible assumption) | with_reducible exact Or.inr rfl | simp only [keeps_mk] | with_reducible refine keepsMk_of ?_ ⟨rfl, rfl⟩ (fun h_ => by first | exact h_ | simpa only [updAt_length] using h_ | with_unfolding_all rfl) ?_ ?_ | dsimp only | intro _ _ | intro _)

theorem State.coalesce_keeps {p_ : Allow} {z : State} {s : State} (n : Fin 4)  (h_ : Keeps p_ z s) : Keeps p_ z (State.coalesce s n) := by
  unfold State.coalesce
  repeat' (first | with_reducible assumption | with_reducible exact Keeps.refl _ _ | with_reducible apply State.vector_keeps | with_reducible apply keepsParts_intro | with_reducible exact Or.inl (by with_reducible assumption) | with_reducible exact Or.inr rfl | simp only [keeps_mk] | with_reducible refine keepsMk_of ?_ ⟨rfl, rfl⟩ (fun h_ => by first | exact h_ | simpa only [updAt_length] using h_ | with_unfolding_all rfl) ?_ ?_ | with_reducible apply keeps_ite | split | intro _ _ | dsimp only | intro _ _ | intro _)

theorem State.writeReply_keeps {p_ : Allow} {z : State} {s : State} (f : Flight) (status : Nat) (words : List Word) (final inProgress : Bool)  (h_ : Keeps p_ z s) : Keeps p_ z (State.writeReply s f status words final inProgress) := by
  unfold State.writeReply
  repeat' (first | with_reducible assumption | with_reducible exact Keeps.refl _ _ | with_reducible apply State.status_keeps | with_reducible apply State.dmaOut_keeps | with_reducible apply State.coalesce_keeps | with_reducible apply keepsParts_intro | with_reducible exact Or.inl (by with_reducible assumption) | with_reducible exact Or.inr rfl | simp only [keeps_mk] | with_reducible refine keepsMk_of ?_ ⟨rfl, rfl⟩ (fun h_ => by first | exact h_ | simpa only [updAt_length] using h_ | with_unfolding_all rfl) ?_ ?_ | with_reducible apply keeps_ite | split | dsimp only | intro _ _ | intro _)

theorem State.cacheReply_keeps {p_ : Allow} {z : State} {s : State} (f : Flight) (status : Nat) (words : List Word)  (h_ : Keeps p_ z s) : Keeps p_ z (State.cacheReply s f status words) := by
  unfold State.cacheReply
  repeat' (first | with_reducible assumption | with_reducible exact Keeps.refl _ _ | with_reducible apply State.updSession_keeps | with_reducible apply State.status_keeps | with_reducible apply keepsParts_intro | with_reducible exact Or.inl (by with_reducible assumption) | with_reducible exact Or.inr rfl | simp only [keeps_mk] | with_reducible refine keepsMk_of ?_ ⟨rfl, rfl⟩ (fun h_ => by first | exact h_ | simpa only [updAt_length] using h_ | with_unfolding_all rfl) ?_ ?_ | with_reducible apply keeps_ite | split | dsimp only | intro _ _ | intro _)

theorem State.noteNoReply_keeps {p_ : Allow} {z : State} {s : State} (f : Flight) (status : Nat)  (h_ : Keeps p_ z s) : Keeps p_ z (State.noteNoReply s f status) := by
  unfold State.noteNoReply
  repeat' (first | with_reducible assumption | with_reducible exact Keeps.refl _ _ | with_reducible apply State.status_keeps | with_reducible apply State.count_keeps | with_reducible apply State.setReg_keeps | with_reducible apply keeps_ite | split | dsimp only | intro _ _ | intro _)

theorem State.postFinal_keeps {p_ : Allow} {z : State} {s : State} (f : Flight) (status : Nat) (result : List Word)  (h_ : Keeps p_ z s) : Keeps p_ z (State.postFinal s f status result) := by
  unfold State.postFinal
  repeat' (first | with_reducible assumption | with_reducible exact Keeps.refl _ _ | with_reducible apply State.updFlights_keeps | with_reducible apply State.ringReplyOut_keeps | with_reducible apply State.status_keeps | with_reducible apply State.peerOut_keeps | with_reducible apply State.setAggs_keeps | with_reducible apply State.cacheReply_keeps | with_reducible apply State.noteNoReply_keeps | with_reducible apply State.writeReply_keeps | with_reducible apply keepsParts_intro | with_reducible exact Or.inl (by with_reducible assumption) | with_reducible exact Or.inr rfl | simp only [keeps_mk] | with_reducible refine keepsMk_of ?_ ⟨rfl, rfl⟩ (fun h_ => by first | exact h_ | simpa only [updAt_length] using h_ | with_unfolding_all rfl) ?_ ?_ | with_reducible apply keeps_ite | split | intro _ _ | dsimp only | intro _ _ | intro _)

theorem State.postAccepted_keeps {p_ : Allow} {z : State} {s : State} (f : Flight)  (h_ : Keeps p_ z s) : Keeps p_ z (State.postAccepted s f) := by
  unfold State.postAccepted
  repeat' (first | with_reducible assumption | with_reducible exact Keeps.refl _ _ | with_reducible apply State.updFlights_keeps | with_reducible apply State.writeReply_keeps | with_reducible apply State.peerOut_keeps | with_reducible apply keepsParts_intro | with_reducible exact Or.inl (by with_reducible assumption) | with_reducible exact Or.inr rfl | simp only [keeps_mk] | with_reducible refine keepsMk_of ?_ ⟨rfl, rfl⟩ (fun h_ => by first | exact h_ | simpa only [updAt_length] using h_ | with_unfolding_all rfl) ?_ ?_ | with_reducible apply keeps_ite | split | intro _ _ | dsimp only | intro _ _ | intro _)

theorem State.complete_keeps {p_ : Allow} {z : State} {s : State} (session : Fin 4) (seq : Word) (status : Nat) (words : List Word)  (h_ : Keeps p_ z s) : Keeps p_ z (State.complete s session seq status words) := by
  unfold State.complete
  repeat' (first | with_reducible assumption | with_reducible exact Keeps.refl _ _ | with_reducible apply State.postFinal_keeps | with_reducible apply State.status_keeps | with_reducible apply keepsParts_intro | with_reducible exact Or.inl (by with_reducible assumption) | with_reducible exact Or.inr rfl | simp only [keeps_mk] | with_reducible refine keepsMk_of ?_ ⟨rfl, rfl⟩ (fun h_ => by first | exact h_ | simpa only [updAt_length] using h_ | with_unfolding_all rfl) ?_ ?_ | split | intro _ _ | dsimp only | intro _ _ | intro _)

theorem State.addFlight_keeps {p_ : Allow} {z : State} {s : State} (f : Flight)  (h_ : Keeps p_ z s) : Keeps p_ z (State.addFlight s f) := by
  unfold State.addFlight
  repeat' (first | with_reducible assumption | with_reducible exact Keeps.refl _ _ | with_reducible apply State.updFlights_keeps | dsimp only | intro _ _ | intro _)

theorem State.replyAtOnce_keeps {p_ : Allow} {z : State} {s : State} (op : Nat) (h : Hdr) (status : Nat) (words : List Word) (inProgress : Bool)  (h_ : Keeps p_ z s) : Keeps p_ z (State.replyAtOnce s op h status words inProgress) := by
  unfold State.replyAtOnce
  repeat' (first | with_reducible assumption | with_reducible exact Keeps.refl _ _ | with_reducible apply State.noteNoReply_keeps | with_reducible apply State.status_keeps | with_reducible apply State.addFlight_keeps | with_reducible apply State.writeReply_keeps | with_reducible apply keeps_ite | split | dsimp only | intro _ _ | intro _)

theorem State.replyDuplicate_keeps {p_ : Allow} {z : State} {s : State} (op : Nat) (h : Hdr) (c : Cached)  (h_ : Keeps p_ z s) : Keeps p_ z (State.replyDuplicate s op h c) := by
  unfold State.replyDuplicate
  repeat' (first | with_reducible assumption | with_reducible exact Keeps.refl _ _ | with_reducible apply State.count_keeps | with_reducible apply State.takePoison_keeps | with_reducible apply State.replyAtOnce_keeps | with_reducible refine State.takePoison_keeps_of (by with_reducible assumption) ?_ | with_reducible apply keepsParts_intro | with_reducible exact Or.inl (by with_reducible assumption) | with_reducible exact Or.inr rfl | simp only [keeps_mk] | with_reducible refine keepsMk_of ?_ ⟨rfl, rfl⟩ (fun h_ => by first | exact h_ | simpa only [updAt_length] using h_ | with_unfolding_all rfl) ?_ ?_ | with_reducible apply keeps_ite | split | intro _ _ | dsimp only | intro _ _ | intro _)

theorem State.stall_keeps {p_ : Allow} {z : State} {s : State}  (h_ : Keeps p_ z s) : Keeps p_ z (State.stall s) := by
  unfold State.stall
  repeat' (first | with_reducible assumption | with_reducible exact Keeps.refl _ _ | with_reducible apply State.vector_keeps | with_reducible apply keepsParts_intro | with_reducible exact Or.inl (by with_reducible assumption) | with_reducible exact Or.inr rfl | simp only [keeps_mk] | with_reducible refine keepsMk_of ?_ ⟨rfl, rfl⟩ (fun h_ => by first | exact h_ | simpa only [updAt_length] using h_ | with_unfolding_all rfl) ?_ ?_ | with_reducible apply keeps_ite | split | dsimp only | intro _ _ | intro _)

theorem State.takeSlot_keeps {p_ : Allow} {z : State} {s : State}  (h_ : Keeps p_ z s) : Keeps p_ z (State.takeSlot s) := by
  unfold State.takeSlot
  repeat' (first | with_reducible assumption | with_reducible exact Keeps.refl _ _ | with_reducible apply State.count_keeps | with_reducible apply keepsParts_intro | with_reducible exact Or.inl (by with_reducible assumption) | with_reducible exact Or.inr rfl | simp only [keeps_mk] | with_reducible refine keepsMk_of ?_ ⟨rfl, rfl⟩ (fun h_ => by first | exact h_ | simpa only [updAt_length] using h_ | with_unfolding_all rfl) ?_ ?_ | dsimp only | intro _ _ | intro _)

theorem State.takeIn_keeps {p_ : Allow} {z : State} {s : State} (op : Nat) (h0 : Hdr)  (h_ : Keeps p_ z s) : Keeps p_ z (State.takeIn s op h0) := by
  unfold State.takeIn
  repeat' (first | with_reducible assumption | with_reducible exact Keeps.refl _ _ | with_reducible apply State.addFlight_keeps | with_reducible apply State.postFinal_keeps | with_reducible apply State.routeOut_keeps | with_reducible apply keepsParts_intro | with_reducible exact Or.inl (by with_reducible assumption) | with_reducible exact Or.inr rfl | simp only [keeps_mk] | with_reducible refine keepsMk_of ?_ ⟨rfl, rfl⟩ (fun h_ => by first | exact h_ | simpa only [updAt_length] using h_ | with_unfolding_all rfl) ?_ ?_ | with_reducible apply keeps_ite | split | dsimp only | intro _ _ | intro _)

theorem State.recordSeq_keeps {p_ : Allow} {z : State} {s : State} (h : Hdr)  (h_ : Keeps p_ z s) : Keeps p_ z (State.recordSeq s h) := by
  unfold State.recordSeq
  repeat' (first | with_reducible assumption | with_reducible exact Keeps.refl _ _ | with_reducible apply State.updSession_keeps | with_reducible apply keeps_ite | split | dsimp only | intro _ _ | intro _)

theorem State.checkAndAdmit_keeps {p_ : Allow} {z : State} {s : State} (op : Nat) (h : Hdr)  (h_ : Keeps p_ z s) : Keeps p_ z (State.checkAndAdmit s op h) := by
  unfold State.checkAndAdmit
  repeat' (first | with_reducible assumption | with_reducible exact Keeps.refl _ _ | with_reducible apply refuse_keeps | with_reducible apply State.replyAtOnce_keeps | with_reducible apply State.replyDuplicate_keeps | with_reducible apply State.recordSeq_keeps | with_reducible apply State.updSession_keeps | with_reducible apply State.addFlight_keeps | with_reducible apply State.postFinal_keeps | with_reducible apply State.takeIn_keeps | with_reducible apply keepsParts_intro | with_reducible exact Or.inl (by with_reducible assumption) | with_reducible exact Or.inr rfl | simp only [keeps_mk] | with_reducible refine keepsMk_of ?_ ⟨rfl, rfl⟩ (fun h_ => by first | exact h_ | simpa only [updAt_length] using h_ | with_unfolding_all rfl) ?_ ?_ | with_reducible apply keeps_ite | split | intro _ _ | dsimp only | intro _ _ | intro _)

theorem State.fetchCmd_keeps {p_ : Allow} {z : State} {s : State} (op : Nat) (h : Hdr)  (h_ : Keeps p_ z s) : Keeps p_ z (State.fetchCmd s op h) := by
  unfold State.fetchCmd
  repeat' (first | with_reducible assumption | with_reducible exact Keeps.refl _ _ | with_reducible apply State.stall_keeps | with_reducible apply State.takeSlot_keeps | with_reducible apply State.checkAndAdmit_keeps | with_reducible apply State.learnGen_keeps | with_reducible apply State.addFlight_keeps | with_reducible apply keepsParts_intro | with_reducible exact Or.inl (by with_reducible assumption) | with_reducible exact Or.inr rfl | simp only [keeps_mk] | with_reducible refine keepsMk_of ?_ ⟨rfl, rfl⟩ (fun h_ => by first | exact h_ | simpa only [updAt_length] using h_ | with_unfolding_all rfl) ?_ ?_ | with_reducible apply keeps_ite | split | intro _ _ | dsimp only | intro _ _ | intro _)

theorem refuse_keeps {p_ : Allow} {z : State} (status : Nat) {s : State}  (h_ : Keeps p_ z s) : KeepsRes p_ z (refuse status s) := by
  unfold refuse
  repeat' (first | with_reducible assumption | with_reducible exact Keeps.refl _ _ | with_reducible apply State.status_keeps | with_reducible apply KeepsRes.done | with_reducible apply KeepsRes.accepted | with_reducible apply KeepsRes.waiting | with_reducible apply KeepsOut.next | dsimp only | intro _ _ | intro _)

theorem ok_keeps {p_ : Allow} {z : State} (words : List Word) {s : State}  (h_ : Keeps p_ z s) : KeepsRes p_ z (ok words s) := by
  unfold ok
  repeat' (first | with_reducible assumption | with_reducible exact Keeps.refl _ _ | with_reducible apply KeepsRes.done | with_reducible apply KeepsRes.accepted | with_reducible apply KeepsRes.waiting | with_reducible apply KeepsOut.next | dsimp only | intro _ _ | intro _)

theorem Res.carried_keeps {p_ : Allow} {z : State} (via : Via) (r : Res) (h_ : KeepsRes p_ z r) : KeepsRes p_ z (r.carried via) := by
  cases r with
  | done st w t =>
    have k : Keeps p_ z t := h_
    unfold Res.carried
    dsimp only
    split
    · split
      · exact KeepsRes.done (State.takePoison_keeps _ (State.takePoison_keeps _ k))
      · exact KeepsRes.done (State.takePoison_keeps _ k)
    · exact KeepsRes.done k
  | accepted t => exact h_
  | waiting t => exact h_

theorem State.finish_keeps {p_ : Allow} {z : State} (f : Flight) (r : Res) (h_ : KeepsRes p_ z r) : Keeps p_ z (State.finish f r) := by
  cases r with
  | done st w s => exact State.complete_keeps _ _ _ _ h_
  | accepted s =>
    unfold State.finish
    dsimp only
    split
    · exact State.postAccepted_keeps _ h_
    · exact h_
  | waiting s => exact State.updFlights_keeps _ h_

theorem epochCheck_keeps {p_ : Allow} {z s : State} (h : Hdr) (body : State → Res) (hb : ∀ t, Keeps p_ z t → KeepsRes p_ z (body t)) (h_ : Keeps p_ z s) :
    KeepsRes p_ z (epochCheck h body s) := by
  unfold epochCheck
  split
  · split
    · exact hb _ h_
    · exact h_
  · exact hb _ h_

theorem guardLocks_keeps {p_ : Allow} {z s : State} (op : Nat) (r : Res) (hr : KeepsRes p_ z r) (h_ : Keeps p_ z s) : KeepsRes p_ z (guardLocks op s r) := by
  cases r with
  | done st w t => unfold guardLocks; dsimp only; split <;> assumption
  | accepted t => unfold guardLocks; dsimp only; split <;> assumption
  | waiting t => exact hr

theorem State.outcome_keeps {p_ : Allow} {z s : State} (op : Nat) (h : Hdr) (body : State → Res) (hb : ∀ t, Keeps p_ z t → KeepsRes p_ z (body t))
    (h_ : Keeps p_ z s) : KeepsRes p_ z (s.outcome op h body) := by
  unfold State.outcome
  split
  · exact h_
  · split
    · exact h_
    · exact h_
    · exact guardLocks_keeps _ _ (epochCheck_keeps _ _ hb h_) h_

theorem State.mirrorOut_keeps {p_ : Allow} {z : State} {s : State} (op : Nat) (h : Hdr) (f : Flight)  (h_ : Keeps p_ z s) : Keeps p_ z (State.mirrorOut s op h f) := by
  unfold State.mirrorOut
  repeat' (first | with_reducible assumption | with_reducible exact Keeps.refl _ _ | with_reducible apply State.updFlights_keeps | with_reducible apply State.peerOut_keeps | with_reducible apply keepsParts_intro | with_reducible exact Or.inl (by with_reducible assumption) | with_reducible exact Or.inr rfl | simp only [keeps_mk] | with_reducible refine keepsMk_of ?_ ⟨rfl, rfl⟩ (fun h_ => by first | exact h_ | simpa only [updAt_length] using h_ | with_unfolding_all rfl) ?_ ?_ | with_reducible apply keeps_ite | split | dsimp only | intro _ _ | intro _)

theorem State.outcomeFrom_keeps {p_ : Allow} {z s : State} (op : Nat) (h : Hdr) (body : State → Res) (f : Flight) (hb : ∀ t, Keeps p_ z t → KeepsRes p_ z (body t))
    (htime_ : p_.clock = true) (h_ : Keeps p_ z s) : KeepsRes p_ z (s.outcomeFrom op h body f) := by
  unfold State.outcomeFrom
  split
  · exact State.outcome_keeps _ _ _ hb h_
  · split
    · exact State.outcome_keeps _ _ _ hb h_
    · rename_i c _ _
      have k := State.outcome_keeps op h body hb (s := { s with time := { s.time with now := c } }) (State.setTime_keeps (fun _ => _) id htime_ h_)
      dsimp only
      split
      all_goals
        rename_i e
        rw [e] at k
        exact State.setTime_keeps (fun _ => _) id htime_ k

theorem State.peerOutcome_keeps {p_ : Allow} {z s : State} (op : Nat) (h : Hdr) (body : State → Res) (f : Flight) (hb : ∀ t, Keeps p_ z t → KeepsRes p_ z (body t))
    (htime_ : p_.clock = true) (h_ : Keeps p_ z s) : KeepsRes p_ z (s.peerOutcome op h body f) := by
  unfold State.peerOutcome
  split
  · exact h_
  · exact State.outcomeFrom_keeps _ _ _ _ hb htime_ h_

theorem State.execute_keeps {p_ : Allow} {z s : State} (mir : Bool) (op : Nat) (h : Hdr) (body : State → Res) (f : Flight)
    (hb : ∀ t, Keeps p_ z t → KeepsRes p_ z (body t)) (htime_ : p_.clock = true) (h_ : Keeps p_ z s) : Keeps p_ z (s.execute mir op h body f) := by
  have k := State.outcomeFrom_keeps op h body f hb htime_ h_
  unfold State.execute
  split
  · exact State.finish_keeps _ _ (State.peerOutcome_keeps _ _ _ _ hb htime_ h_)
  · dsimp only
    split
    · exact State.finish_keeps _ _ k
    · split
      · exact State.finish_keeps _ _ k
      · exact State.finish_keeps _ _ h_
      · split
        · split
          · exact State.mirrorOut_keeps _ _ _ h_
          · exact State.finish_keeps _ _ h_
        · exact State.mirrorOut_keeps _ _ _ h_

theorem runCmdAs_keeps {p_ : Allow} {z s : State} (mir : Bool) (op : Nat) (h : Hdr) (body : State → Res) (hb : ∀ t, Keeps p_ z t → KeepsRes p_ z (body t))
    (htime_ : p_.clock = true) (h_ : Keeps p_ z s) : Keeps p_ z (runCmdAs mir op h body s) := by
  have k := State.advance_keeps h.at_ htime_ h_
  have k2 := State.fetchCmd_keeps op h k
  unfold runCmdAs
  dsimp only
  split
  · exact State.execute_keeps _ _ _ _ _ hb htime_ k
  · split
    · exact State.execute_keeps _ _ _ _ _ hb htime_ k2
    · exact k2

theorem runCmd_keeps {p_ : Allow} {z s : State} (op : Nat) (h : Hdr) (body : State → Res) (hb : ∀ t, Keeps p_ z t → KeepsRes p_ z (body t))
    (htime_ : p_.clock = true) (h_ : Keeps p_ z s) : Keeps p_ z (runCmd op h body s) := runCmdAs_keeps _ _ _ _ hb htime_ h_

/-! ### Machine/PairLink.lean -/

theorem State.raiseAs_keeps {p_ : Allow} {z : State} {s : State} (inj : Bool) (cls : Nat) (qty : Rat) (detail : List Word)  (hevents_ : p_.may .events = true) (h_ : Keeps p_ z s) : Keeps p_ z (State.raiseAs s inj cls qty detail) := by
  unfold State.raiseAs
  repeat' (first | with_reducible assumption | with_reducible exact Keeps.refl _ _ | with_reducible apply State.raiseInjected_keeps | with_reducible apply State.raise_keeps | with_reducible apply keeps_ite | split | dsimp only | intro _ _ | intro _)

theorem State.enterPair_keeps {p_ : Allow} {z : State} {s : State} (st : PairState) (cause : Nat) (inj : Bool)  (hevents_ : p_.may .events = true) (haln_ : p_.may .aln = true) (h_ : Keeps p_ z s) : Keeps p_ z (State.enterPair s st cause inj) := by
  unfold State.enterPair
  repeat' (first | with_reducible assumption | with_reducible exact Keeps.refl _ _ | with_reducible apply State.setPair_keeps | with_reducible apply State.status_keeps | with_reducible apply State.raiseAs_keeps | with_reducible apply keepsParts_intro | with_reducible exact Or.inl (by with_reducible assumption) | with_reducible exact Or.inr rfl | simp only [keeps_mk] | with_reducible refine keepsMk_of ?_ ⟨rfl, rfl⟩ (fun h_ => by first | exact h_ | simpa only [updAt_length] using h_ | with_unfolding_all rfl) ?_ ?_ | with_reducible apply keeps_ite | split | dsimp only | intro _ _ | intro _)

theorem State.noteSwitch_keeps {p_ : Allow} {z : State} {s : State} (cls : Fin 4)  (hevents_ : p_.may .events = true) (h_ : Keeps p_ z s) : Keeps p_ z (State.noteSwitch s cls) := by
  unfold State.noteSwitch
  repeat' (first | with_reducible assumption | with_reducible exact Keeps.refl _ _ | with_reducible apply State.setPair_keeps | with_reducible apply State.raiseAs_keeps | with_reducible apply keepsParts_intro | with_reducible exact Or.inl (by with_reducible assumption) | with_reducible exact Or.inr rfl | simp only [keeps_mk] | with_reducible refine keepsMk_of ?_ ⟨rfl, rfl⟩ (fun h_ => by first | exact h_ | simpa only [updAt_length] using h_ | with_unfolding_all rfl) ?_ ?_ | with_reducible apply keeps_ite | split | intro _ _ | dsimp only | intro _ _ | intro _)

theorem State.noteSwapBad_keeps {p_ : Allow} {z : State} {s : State} (cls : Fin 4)  (h_ : Keeps p_ z s) : Keeps p_ z (State.noteSwapBad s cls) := by
  unfold State.noteSwapBad
  repeat' (first | with_reducible assumption | with_reducible exact Keeps.refl _ _ | with_reducible apply State.setPair_keeps | with_reducible apply keepsParts_intro | with_reducible exact Or.inl (by with_reducible assumption) | with_reducible exact Or.inr rfl | simp only [keeps_mk] | with_reducible refine keepsMk_of ?_ ⟨rfl, rfl⟩ (fun h_ => by first | exact h_ | simpa only [updAt_length] using h_ | with_unfolding_all rfl) ?_ ?_ | with_reducible apply keeps_ite | split | intro _ _ | dsimp only | intro _ _ | intro _)

theorem State.tripInterlock_keeps {p_ : Allow} {z : State} {s : State} (isl : Nat) (inj : Bool)  (h_ : Keeps p_ z s) : Keeps p_ z (State.tripInterlock s isl inj) := by
  unfold State.tripInterlock
  repeat' (first | with_reducible assumption | with_reducible exact Keeps.refl _ _ | with_reducible apply State.setPair_keeps | with_reducible apply keepsParts_intro | with_reducible exact Or.inl (by with_reducible assumption) | with_reducible exact Or.inr rfl | simp only [keeps_mk] | with_reducible refine keepsMk_of ?_ ⟨rfl, rfl⟩ (fun h_ => by first | exact h_ | simpa only [updAt_length] using h_ | with_unfolding_all rfl) ?_ ?_ | with_reducible apply keeps_ite | split | dsimp only | intro _ _ | intro _)

/-! ### Machine/TimeOps.lean -/

theorem State.updSrc_keeps {p_ : Allow} {z : State} {s : State} (c : Nat) (f : SrcQual → SrcQual)  (htime_ : p_.clock = true) (h_ : Keeps p_ z s) : Keeps p_ z (State.updSrc s c f) := by
  unfold State.updSrc
  repeat' (first | with_reducible assumption | with_reducible exact Keeps.refl _ _ | refine State.setTime_keeps _ (fun h_ => by first | exact h_ | simpa only [updAt_length] using h_ | with_unfolding_all rfl) ?_ ?_ | with_reducible apply keepsParts_intro | with_reducible exact Or.inl (by with_reducible assumption) | with_reducible exact Or.inr rfl | simp only [keeps_mk] | with_reducible refine keepsMk_of ?_ ⟨rfl, rfl⟩ (fun h_ => by first | exact h_ | simpa only [updAt_length] using h_ | with_unfolding_all rfl) ?_ ?_ | dsimp only | intro _ _ | intro _)

theorem State.setServo_keeps {p_ : Allow} {z : State} {s : State} (st : ServoState)  (htime_ : p_.clock = true) (h_ : Keeps p_ z s) : Keeps p_ z (State.setServo s st) := by
  unfold State.setServo
  repeat' (first | with_reducible assumption | with_reducible exact Keeps.refl _ _ | refine State.setTime_keeps _ (fun h_ => by first | exact h_ | simpa only [updAt_length] using h_ | with_unfolding_all rfl) ?_ ?_ | with_reducible apply keepsParts_intro | with_reducible exact Or.inl (by with_reducible assumption) | with_reducible exact Or.inr rfl | simp only [keeps_mk] | with_reducible refine keepsMk_of ?_ ⟨rfl, rfl⟩ (fun h_ => by first | exact h_ | simpa only [updAt_length] using h_ | with_unfolding_all rfl) ?_ ?_ | with_reducible apply keeps_ite | split | dsimp only | intro _ _ | intro _)

theorem State.endSuspectRun_keeps {p_ : Allow} {z : State} {s : State}  (htime_ : p_.clock = true) (h_ : Keeps p_ z s) : Keeps p_ z (State.endSuspectRun s) := by
  unfold State.endSuspectRun
  repeat' (first | with_reducible assumption | with_reducible exact Keeps.refl _ _ | with_reducible apply State.countFld_keeps | refine State.setTime_keeps _ (fun h_ => by first | exact h_ | simpa only [updAt_length] using h_ | with_unfolding_all rfl) ?_ ?_ | with_reducible apply keepsParts_intro | with_reducible exact Or.inl (by with_reducible assumption) | with_reducible exact Or.inr rfl | simp only [keeps_mk] | with_reducible refine keepsMk_of ?_ ⟨rfl, rfl⟩ (fun h_ => by first | exact h_ | simpa only [updAt_length] using h_ | with_unfolding_all rfl) ?_ ?_ | dsimp only | intro _ _ | intro _)

theorem State.servoLoop_keeps {p_ : Allow} {z : State} {s : State} (offset : Int)  (hfree_ : p_.may .free = true) (htime_ : p_.clock = true) (h_ : Keeps p_ z s) : Keeps p_ z (State.servoLoop s offset) := by
  unfold State.servoLoop
  repeat' (first | with_reducible assumption | with_reducible exact Keeps.refl _ _ | with_reducible apply State.nextFree_keeps | refine State.setTime_keeps _ (fun h_ => by first | exact h_ | simpa only [updAt_length] using h_ | with_unfolding_all rfl) ?_ ?_ | with_reducible apply keepsParts_intro | with_reducible exact Or.inl (by with_reducible assumption) | with_reducible exact Or.inr rfl | simp only [keeps_mk] | with_reducible refine keepsMk_of ?_ ⟨rfl, rfl⟩ (fun h_ => by first | exact h_ | simpa only [updAt_length] using h_ | with_unfolding_all rfl) ?_ ?_ | with_reducible apply keeps_ite | split | dsimp only | intro _ _ | intro _)

theorem State.servoSlew_keeps {p_ : Allow} {z : State} {s : State} (offset : Int)  (hfree_ : p_.may .free = true) (htime_ : p_.clock = true) (h_ : Keeps p_ z s) : Keeps p_ z (State.servoSlew s offset) := by
  unfold State.servoSlew
  repeat' (first | with_reducible assumption | with_reducible exact Keeps.refl _ _ | with_reducible apply State.nextFree_keeps | refine State.setTime_keeps _ (fun h_ => by first | exact h_ | simpa only [updAt_length] using h_ | with_unfolding_all rfl) ?_ ?_ | with_reducible apply keepsParts_intro | with_reducible exact Or.inl (by with_reducible assumption) | with_reducible exact Or.inr rfl | simp only [keeps_mk] | with_reducible refine keepsMk_of ?_ ⟨rfl, rfl⟩ (fun h_ => by first | exact h_ | simpa only [updAt_length] using h_ | with_unfolding_all rfl) ?_ ?_ | with_reducible apply keeps_ite | split | dsimp only | intro _ _ | intro _)

theorem State.enterHoldover_keeps {p_ : Allow} {z : State} {s : State} (lost : Nat)  (htime_ : p_.clock = true) (h_ : Keeps p_ z s) : Keeps p_ z (State.enterHoldover s lost) := by
  unfold State.enterHoldover
  repeat' (first | with_reducible assumption | with_reducible exact Keeps.refl _ _ | with_reducible apply State.endSuspectRun_keeps | with_reducible apply State.setServo_keeps | refine State.setTime_keeps _ (fun h_ => by first | exact h_ | simpa only [updAt_length] using h_ | with_unfolding_all rfl) ?_ ?_ | with_reducible apply keepsParts_intro | with_reducible exact Or.inl (by with_reducible assumption) | with_reducible exact Or.inr rfl | simp only [keeps_mk] | with_reducible refine keepsMk_of ?_ ⟨rfl, rfl⟩ (fun h_ => by first | exact h_ | simpa only [updAt_length] using h_ | with_unfolding_all rfl) ?_ ?_ | split | intro _ _ | dsimp only | intro _ _ | intro _)

theorem State.noteHoldover_keeps {p_ : Allow} {z : State} {s : State}  (hevents_ : p_.may .events = true) (h_ : Keeps p_ z s) : Keeps p_ z (State.noteHoldover s) := by
  unfold State.noteHoldover
  repeat' (first | with_reducible assumption | with_reducible exact Keeps.refl _ _ | with_reducible apply State.raise_keeps | with_reducible apply keeps_ite | split | dsimp only | intro _ _ | intro _)

theorem State.confirmDiscont_keeps {p_ : Allow} {z : State} {s : State} (offset : Int) (src : Nat)  (hevents_ : p_.may .events = true) (hflt_ : p_.may .flt = true) (htime_ : p_.clock = true) (h_ : Keeps p_ z s) : Keeps p_ z (State.confirmDiscont s offset src) := by
  unfold State.confirmDiscont
  repeat' (first | with_reducible assumption | with_reducible exact Keeps.refl _ _ | with_reducible apply State.setServo_keeps | with_reducible apply State.status_keeps | with_reducible apply State.detect_keeps | refine State.setTime_keeps _ (fun h_ => by first | exact h_ | simpa only [updAt_length] using h_ | with_unfolding_all rfl) ?_ ?_ | with_reducible apply keepsParts_intro | with_reducible exact Or.inl (by with_reducible assumption) | with_reducible exact Or.inr rfl | simp only [keeps_mk] | with_reducible refine keepsMk_of ?_ ⟨rfl, rfl⟩ (fun h_ => by first | exact h_ | simpa only [updAt_length] using h_ | with_unfolding_all rfl) ?_ ?_ | dsimp only | intro _ _ | intro _)

theorem State.measureTracking_keeps {p_ : Allow} {z : State} {s : State} (offset : Int) (src : Nat) (jumped added inj : Bool)  (hfree_ : p_.may .free = true) (hevents_ : p_.may .events = true) (hflt_ : p_.may .flt = true) (htime_ : p_.clock = true) (h_ : Keeps p_ z s) : Keeps p_ z (State.measureTracking s offset src jumped added inj) := by
  unfold State.measureTracking
  repeat' (first | with_reducible assumption | with_reducible exact Keeps.refl _ _ | with_reducible apply State.endSuspectRun_keeps | with_reducible apply State.confirmDiscont_keeps | with_reducible apply State.servoLoop_keeps | with_reducible apply State.setServo_keeps | refine State.setTime_keeps _ (fun h_ => by first | exact h_ | simpa only [updAt_length] using h_ | with_unfolding_all rfl) ?_ ?_ | with_reducible apply keepsParts_intro | with_reducible exact Or.inl (by with_reducible assumption) | with_reducible exact Or.inr rfl | simp only [keeps_mk] | with_reducible refine keepsMk_of ?_ ⟨rfl, rfl⟩ (fun h_ => by first | exact h_ | simpa only [updAt_length] using h_ | with_unfolding_all rfl) ?_ ?_ | with_reducible apply keeps_ite | split | dsimp only | intro _ _ | intro _)

theorem State.measureDiscont_keeps {p_ : Allow} {z : State} {s : State} (offset : Int) (jumped added : Bool)  (hfree_ : p_.may .free = true) (htime_ : p_.clock = true) (h_ : Keeps p_ z s) : Keeps p_ z (State.measureDiscont s offset jumped added) := by
  unfold State.measureDiscont
  repeat' (first | with_reducible assumption | with_reducible exact Keeps.refl _ _ | with_reducible apply State.servoSlew_keeps | with_reducible apply State.setServo_keeps | refine State.setTime_keeps _ (fun h_ => by first | exact h_ | simpa only [updAt_length] using h_ | with_unfolding_all rfl) ?_ ?_ | with_reducible apply keepsParts_intro | with_reducible exact Or.inl (by with_reducible assumption) | with_reducible exact Or.inr rfl | simp only [keeps_mk] | with_reducible refine keepsMk_of ?_ ⟨rfl, rfl⟩ (fun h_ => by first | exact h_ | simpa only [updAt_length] using h_ | with_unfolding_all rfl) ?_ ?_ | with_reducible apply keeps_ite | split | dsimp only | intro _ _ | intro _)

theorem State.takeUtc_keeps {p_ : Allow} {z : State} {s : State} (off : BitVec 8)  (htime_ : p_.clock = true) (h_ : Keeps p_ z s) : Keeps p_ z (State.takeUtc s off) := by
  unfold State.takeUtc
  repeat' (first | with_reducible assumption | with_reducible exact Keeps.refl _ _ | with_reducible apply State.setRf_keeps | refine State.setTime_keeps _ (fun h_ => by first | exact h_ | simpa only [updAt_length] using h_ | with_unfolding_all rfl) ?_ ?_ | with_reducible apply keepsParts_intro | with_reducible exact Or.inl (by with_reducible assumption) | with_reducible exact Or.inr rfl | simp only [keeps_mk] | with_reducible refine keepsMk_of ?_ ⟨rfl, rfl⟩ (fun h_ => by first | exact h_ | simpa only [updAt_length] using h_ | with_unfolding_all rfl) ?_ ?_ | dsimp only | intro _ _ | intro _)

theorem State.takeLeap_keeps {p_ : Allow} {z : State} {s : State} (tai : Nat) (off dir : Int)  (htime_ : p_.clock = true) (h_ : Keeps p_ z s) : Keeps p_ z (State.takeLeap s tai off dir) := by
  unfold State.takeLeap
  repeat' (first | with_reducible assumption | with_reducible exact Keeps.refl _ _ | refine State.setTime_keeps _ (fun h_ => by first | exact h_ | simpa only [updAt_length] using h_ | with_unfolding_all rfl) ?_ ?_ | with_reducible apply keepsParts_intro | with_reducible exact Or.inl (by with_reducible assumption) | with_reducible exact Or.inr rfl | simp only [keeps_mk] | with_reducible refine keepsMk_of ?_ ⟨rfl, rfl⟩ (fun h_ => by first | exact h_ | simpa only [updAt_length] using h_ | with_unfolding_all rfl) ?_ ?_ | with_reducible apply keeps_ite | split | intro _ _ | dsimp only | intro _ _ | intro _)

theorem State.updPtp_keeps {p_ : Allow} {z : State} {s : State} (p : Nat) (f : PtpPort → PtpPort)  (htime_ : p_.clock = true) (h_ : Keeps p_ z s) : Keeps p_ z (State.updPtp s p f) := by
  unfold State.updPtp
  repeat' (first | with_reducible assumption | with_reducible exact Keeps.refl _ _ | refine State.setTime_keeps _ (fun h_ => by first | exact h_ | simpa only [updAt_length] using h_ | with_unfolding_all rfl) ?_ ?_ | with_reducible apply keepsParts_intro | with_reducible exact Or.inl (by with_reducible assumption) | with_reducible exact Or.inr rfl | simp only [keeps_mk] | with_reducible refine keepsMk_of ?_ ⟨rfl, rfl⟩ (fun h_ => by first | exact h_ | simpa only [updAt_length] using h_ | with_unfolding_all rfl) ?_ ?_ | dsimp only | intro _ _ | intro _)

theorem State.usedSample_keeps {p_ : Allow} {z : State} {s : State} (c : Nat)  (htime_ : p_.clock = true) (h_ : Keeps p_ z s) : Keeps p_ z (State.usedSample s c) := by
  unfold State.usedSample
  repeat' (first | with_reducible assumption | with_reducible exact Keeps.refl _ _ | refine State.setTime_keeps _ (fun h_ => by first | exact h_ | simpa only [updAt_length] using h_ | with_unfolding_all rfl) ?_ ?_ | with_reducible apply keepsParts_intro | with_reducible exact Or.inl (by with_reducible assumption) | with_reducible exact Or.inr rfl | simp only [keeps_mk] | with_reducible refine keepsMk_of ?_ ⟨rfl, rfl⟩ (fun h_ => by first | exact h_ | simpa only [updAt_length] using h_ | with_unfolding_all rfl) ?_ ?_ | with_reducible apply keeps_ite | split | dsimp only | intro _ _ | intro _)

theorem State.dropSamples_keeps {p_ : Allow} {z : State} {s : State}  (htime_ : p_.clock = true) (h_ : Keeps p_ z s) : Keeps p_ z (State.dropSamples s) := by
  unfold State.dropSamples
  repeat' (first | with_reducible assumption | with_reducible exact Keeps.refl _ _ | refine State.setTime_keeps _ (fun h_ => by first | exact h_ | simpa only [updAt_length] using h_ | with_unfolding_all rfl) ?_ ?_ | with_reducible apply keepsParts_intro | with_reducible exact Or.inl (by with_reducible assumption) | with_reducible exact Or.inr rfl | simp only [keeps_mk] | with_reducible refine keepsMk_of ?_ ⟨rfl, rfl⟩ (fun h_ => by first | exact h_ | simpa only [updAt_length] using h_ | with_unfolding_all rfl) ?_ ?_ | dsimp only | intro _ _ | intro _)

theorem State.pulseCompare_keeps {p_ : Allow} {z : State} {s : State} (n land : Nat)  (htime_ : p_.clock = true) (h_ : Keeps p_ z s) : Keeps p_ z (State.pulseCompare s n land) := by
  unfold State.pulseCompare
  repeat' (first | with_reducible assumption | with_reducible exact Keeps.refl _ _ | refine State.setTime_keeps _ (fun h_ => by first | exact h_ | simpa only [updAt_length] using h_ | with_unfolding_all rfl) ?_ ?_ | with_reducible apply keepsParts_intro | with_reducible exact Or.inl (by with_reducible assumption) | with_reducible exact Or.inr rfl | simp only [keeps_mk] | with_reducible refine keepsMk_of ?_ ⟨rfl, rfl⟩ (fun h_ => by first | exact h_ | simpa only [updAt_length] using h_ | with_unfolding_all rfl) ?_ ?_ | dsimp only | intro _ _ | intro _)

theorem State.updTdc_keeps {p_ : Allow} {z : State} {s : State} (n : Nat) (f : Tdc → Tdc)  (htime_ : p_.clock = true) (h_ : Keeps p_ z s) : Keeps p_ z (State.updTdc s n f) := by
  unfold State.updTdc
  repeat' (first | with_reducible assumption | with_reducible exact Keeps.refl _ _ | refine State.setTime_keeps _ (fun h_ => by first | exact h_ | simpa only [updAt_length] using h_ | with_unfolding_all rfl) ?_ ?_ | with_reducible apply keepsParts_intro | with_reducible exact Or.inl (by with_reducible assumption) | with_reducible exact Or.inr rfl | simp only [keeps_mk] | with_reducible refine keepsMk_of ?_ ⟨rfl, rfl⟩ (fun h_ => by first | exact h_ | simpa only [updAt_length] using h_ | with_unfolding_all rfl) ?_ ?_ | dsimp only | intro _ _ | intro _)

theorem State.stampEdge_keeps {p_ : Allow} {z : State} {s : State} (n : Nat)  (htime_ : p_.clock = true) (h_ : Keeps p_ z s) : Keeps p_ z (State.stampEdge s n).1 := by
  unfold State.stampEdge
  repeat' (first | with_reducible assumption | with_reducible exact Keeps.refl _ _ | with_reducible apply State.countFld_keeps | with_reducible apply State.updTdc_keeps | with_reducible apply State.setRb_keeps | with_reducible apply State.status_keeps | with_reducible apply keepsParts_intro | with_reducible exact Or.inl (by with_reducible assumption) | with_reducible exact Or.inr rfl | simp only [keeps_mk] | with_reducible refine keepsMk_of ?_ ⟨rfl, rfl⟩ (fun h_ => by first | exact h_ | simpa only [updAt_length] using h_ | with_unfolding_all rfl) ?_ ?_ | with_reducible apply keeps_ite | split | dsimp only | intro _ _ | intro _)
theorem State.stampEdge_keeps_of {p_ : Allow} {z : State} {s : State} {n : Nat} {t_ : State} {a_ : _} (e_ : State.stampEdge s n = (t_, a_)) (htime_ : p_.clock = true) (h_ : Keeps p_ z s) : Keeps p_ z t_ := by
  have k_ := State.stampEdge_keeps (z := z) n htime_ h_
  rw [e_] at k_; exact k_

theorem State.copyStamp_keeps {p_ : Allow} {z : State} {s : State} (n : Nat) (t : Instant)  (h_ : Keeps p_ z s) : Keeps p_ z (State.copyStamp s n t) := by
  unfold State.copyStamp
  repeat' (first | with_reducible assumption | with_reducible exact Keeps.refl _ _ | with_reducible apply State.setReg_keeps | dsimp only | intro _ _ | intro _)

theorem State.readTdc_keeps {p_ : Allow} {z : State} {s : State} (n : Nat)  (htime_ : p_.clock = true) (h_ : Keeps p_ z s) : Keeps p_ z (State.readTdc s n).2 := by
  unfold State.readTdc
  repeat' (first | with_reducible assumption | with_reducible exact Keeps.refl _ _ | with_reducible apply State.copyStamp_keeps | with_reducible apply State.updTdc_keeps | with_reducible apply keepsParts_intro | with_reducible exact Or.inl (by with_reducible assumption) | with_reducible exact Or.inr rfl | simp only [keeps_mk] | with_reducible refine keepsMk_of ?_ ⟨rfl, rfl⟩ (fun h_ => by first | exact h_ | simpa only [updAt_length] using h_ | with_unfolding_all rfl) ?_ ?_ | with_reducible apply keeps_ite | split | intro _ _ | dsimp only | intro _ _ | intro _)
theorem State.readTdc_keeps_of {p_ : Allow} {z : State} {s : State} {n : Nat} {a_ : _} {t_ : State} (e_ : State.readTdc s n = (a_, t_)) (htime_ : p_.clock = true) (h_ : Keeps p_ z s) : Keeps p_ z t_ := by
  have k_ := State.readTdc_keeps (z := z) n htime_ h_
  rw [e_] at k_; exact k_

theorem State.queueTxStamp_keeps {p_ : Allow} {z : State} {s : State} (p : Nat) (frameId : BitVec 16) (at_ : Instant)  (htime_ : p_.clock = true) (h_ : Keeps p_ z s) : Keeps p_ z (State.queueTxStamp s p frameId at_) := by
  unfold State.queueTxStamp
  repeat' (first | with_reducible assumption | with_reducible exact Keeps.refl _ _ | with_reducible apply State.countFld_keeps | with_reducible apply State.setRb_keeps | refine State.setTime_keeps _ (fun h_ => by first | exact h_ | simpa only [updAt_length] using h_ | with_unfolding_all rfl) ?_ ?_ | with_reducible apply keepsParts_intro | with_reducible exact Or.inl (by with_reducible assumption) | with_reducible exact Or.inr rfl | simp only [keeps_mk] | with_reducible refine keepsMk_of ?_ ⟨rfl, rfl⟩ (fun h_ => by first | exact h_ | simpa only [updAt_length] using h_ | with_unfolding_all rfl) ?_ ?_ | with_reducible apply keeps_ite | split | dsimp only | intro _ _ | intro _)

theorem State.readTxts_keeps {p_ : Allow} {z : State} {s : State} (p : Nat)  (htime_ : p_.clock = true) (h_ : Keeps p_ z s) : Keeps p_ z (State.readTxts s p).2 := by
  unfold State.readTxts
  repeat' (first | with_reducible assumption | with_reducible exact Keeps.refl _ _ | with_reducible apply State.setReg_keeps | refine State.setTime_keeps _ (fun h_ => by first | exact h_ | simpa only [updAt_length] using h_ | with_unfolding_all rfl) ?_ ?_ | with_reducible apply keepsParts_intro | with_reducible exact Or.inl (by with_reducible assumption) | with_reducible exact Or.inr rfl | simp only [keeps_mk] | with_reducible refine keepsMk_of ?_ ⟨rfl, rfl⟩ (fun h_ => by first | exact h_ | simpa only [updAt_length] using h_ | with_unfolding_all rfl) ?_ ?_ | split | intro _ _ | dsimp only | intro _ _ | intro _)
theorem State.readTxts_keeps_of {p_ : Allow} {z : State} {s : State} {p : Nat} {a_ : _} {t_ : State} (e_ : State.readTxts s p = (a_, t_)) (htime_ : p_.clock = true) (h_ : Keeps p_ z s) : Keeps p_ z t_ := by
  have k_ := State.readTxts_keeps (z := z) p htime_ h_
  rw [e_] at k_; exact k_

theorem State.readNow_keeps {p_ : Allow} {z : State} {s : State}  (h_ : Keeps p_ z s) : Keeps p_ z (State.readNow s).2 := by
  unfold State.readNow
  repeat' (first | with_reducible assumption | with_reducible exact Keeps.refl _ _ | with_reducible apply State.setReg_keeps | dsimp only | intro _ _ | intro _)
theorem State.readNow_keeps_of {p_ : Allow} {z : State} {s : State} {a_ : _} {t_ : State} (e_ : State.readNow s = (a_, t_)) (h_ : Keeps p_ z s) : Keeps p_ z t_ := by
  have k_ := State.readNow_keeps (z := z) h_
  rw [e_] at k_; exact k_

theorem State.readFine_keeps {p_ : Allow} {z : State} {s : State}  (h_ : Keeps p_ z s) : Keeps p_ z (State.readFine s).2 := by
  unfold State.readFine
  repeat' (first | with_reducible assumption | with_reducible exact Keeps.refl _ _ | with_reducible apply State.setReg_keeps | dsimp only | intro _ _ | intro _)
theorem State.readFine_keeps_of {p_ : Allow} {z : State} {s : State} {a_ : _} {t_ : State} (e_ : State.readFine s = (a_, t_)) (h_ : Keeps p_ z s) : Keeps p_ z t_ := by
  have k_ := State.readFine_keeps (z := z) h_
  rw [e_] at k_; exact k_

/-! ### Machine/StreamOps.lean -/

theorem State.setSw_keeps {p_ : Allow} {z : State} {s : State} (e w : Nat) (v : Word)  (hing_ : p_.may .ing = true) (h_ : Keeps p_ z s) : Keeps p_ z (State.setSw s e w v) := by
  unfold State.setSw
  repeat' (first | with_reducible assumption | with_reducible exact Keeps.refl _ _ | with_reducible apply State.setIng_keeps | with_reducible apply keepsParts_intro | with_reducible exact Or.inl (by with_reducible assumption) | with_reducible exact Or.inr rfl | simp only [keeps_mk] | with_reducible refine keepsMk_of ?_ ⟨rfl, rfl⟩ (fun h_ => by first | exact h_ | simpa only [updAt_length] using h_ | with_unfolding_all rfl) ?_ ?_ | dsimp only | intro _ _ | intro _)

theorem State.setEntry_keeps {p_ : Allow} {z : State} {s : State} (e : Nat) (words : List Word)  (hing_ : p_.may .ing = true) (h_ : Keeps p_ z s) : Keeps p_ z (State.setEntry s e words) := by
  unfold State.setEntry
  repeat' (first | with_reducible assumption | with_reducible exact Keeps.refl _ _ | with_reducible apply State.setSw_keeps | with_reducible apply keeps_foldl | with_reducible apply keeps_foldl_fst | with_reducible apply keeps_foldl_snd | intro _ _ _ | dsimp only | intro _ _ | intro _)

theorem State.setFw_keeps {p_ : Allow} {z : State} {s : State} (e : Nat) (f : StreamFw → StreamFw)  (hing_ : p_.may .ing = true) (h_ : Keeps p_ z s) : Keeps p_ z (State.setFw s e f) := by
  unfold State.setFw
  repeat' (first | with_reducible assumption | with_reducible exact Keeps.refl _ _ | with_reducible apply State.setIng_keeps | with_reducible apply keepsParts_intro | with_reducible exact Or.inl (by with_reducible assumption) | with_reducible exact Or.inr rfl | simp only [keeps_mk] | with_reducible refine keepsMk_of ?_ ⟨rfl, rfl⟩ (fun h_ => by first | exact h_ | simpa only [updAt_length] using h_ | with_unfolding_all rfl) ?_ ?_ | dsimp only | intro _ _ | intro _)

theorem State.keepHeader_keeps {p_ : Allow} {z : State} {s : State} (f : C37Frame)  (hing_ : p_.may .ing = true) (h_ : Keeps p_ z s) : Keeps p_ z (State.keepHeader s f) := by
  unfold State.keepHeader
  repeat' (first | with_reducible assumption | with_reducible exact Keeps.refl _ _ | with_reducible apply State.setFw_keeps | with_reducible apply keepsParts_intro | with_reducible exact Or.inl (by with_reducible assumption) | with_reducible exact Or.inr rfl | simp only [keeps_mk] | with_reducible refine keepsMk_of ?_ ⟨rfl, rfl⟩ (fun h_ => by first | exact h_ | simpa only [updAt_length] using h_ | with_unfolding_all rfl) ?_ ?_ | split | intro _ _ | dsimp only | intro _ _ | intro _)

end Sys2Proof.Machine
end

