-- ==== Sys2Proof/Laws/KeepsChain.lean ====
section
/-! SUPPORT. What the operations of estimation, limits, islands and alignment keep (Laws/Keeps.lean): one lemma per operation. -/

namespace Sys2Proof.Machine

/-! ### Machine/EstimationOps.lean -/

theorem State.pecCount_keeps {p_ : Allow} {z : State} {s : State} (i n : Nat)  (h_ : Keeps p_ z s) : Keeps p_ z (State.pecCount s i n) := by
  unfold State.pecCount
  repeat' (first | with_reducible assumption | with_reducible exact Keeps.refl _ _ | with_reducible apply State.count_keeps | dsimp only | intro _ _ | intro _)

theorem State.setPw_keeps {p_ : Allow} {z : State} {s : State} (t i w : Nat) (v : Word)  (hpec_ : p_.may .pec = true) (h_ : Keeps p_ z s) : Keeps p_ z (State.setPw s t i w v) := by
  unfold State.setPw
  repeat' (first | with_reducible assumption | with_reducible exact Keeps.refl _ _ | with_reducible apply State.setPec_keeps | with_reducible apply keepsParts_intro | with_reducible exact Or.inl (by with_reducible assumption) | with_reducible exact Or.inr rfl | simp only [keeps_mk] | with_reducible refine keepsMk_of ?_ ⟨rfl, rfl⟩ (fun h_ => by first | exact h_ | simpa only [updAt_length] using h_ | with_unfolding_all rfl) ?_ ?_ | dsimp only | intro _ _ | intro _)

theorem State.updSlot_keeps {p_ : Allow} {z : State} {s : State} (i : Nat) (f : PecSlot → PecSlot)  (hpec_ : p_.may .pec = true) (h_ : Keeps p_ z s) : Keeps p_ z (State.updSlot s i f) := by
  unfold State.updSlot
  repeat' (first | with_reducible assumption | with_reducible exact Keeps.refl _ _ | with_reducible apply State.setPec_keeps | with_reducible apply keepsParts_intro | with_reducible exact Or.inl (by with_reducible assumption) | with_reducible exact Or.inr rfl | simp only [keeps_mk] | with_reducible refine keepsMk_of ?_ ⟨rfl, rfl⟩ (fun h_ => by first | exact h_ | simpa only [updAt_length] using h_ | with_unfolding_all rfl) ?_ ?_ | dsimp only | intro _ _ | intro _)

theorem State.schedRestart_keeps {p_ : Allow} {z : State} {s : State} (i : Nat) (p : PendRestart)  (hpec_ : p_.may .pec = true) (h_ : Keeps p_ z s) : Keeps p_ z (State.schedRestart s i p) := by
  unfold State.schedRestart
  repeat' (first | with_reducible assumption | with_reducible exact Keeps.refl _ _ | with_reducible apply State.updSlot_keeps | with_reducible apply keepsParts_intro | with_reducible exact Or.inl (by with_reducible assumption) | with_reducible exact Or.inr rfl | simp only [keeps_mk] | with_reducible refine keepsMk_of ?_ ⟨rfl, rfl⟩ (fun h_ => by first | exact h_ | simpa only [updAt_length] using h_ | with_unfolding_all rfl) ?_ ?_ | with_reducible apply keeps_ite | split | dsimp only | intro _ _ | intro _)

theorem State.restartAll_keeps {p_ : Allow} {z : State} {s : State} (t0 : Instant)  (hpec_ : p_.may .pec = true) (h_ : Keeps p_ z s) : Keeps p_ z (State.restartAll s t0) := by
  unfold State.restartAll
  repeat' (first | with_reducible assumption | with_reducible exact Keeps.refl _ _ | with_reducible apply State.schedRestart_keeps | with_reducible apply keeps_foldl | with_reducible apply keeps_foldl_fst | with_reducible apply keeps_foldl_snd | intro _ _ _ | dsimp only | intro _ _ | intro _)

theorem State.clearThrCounters_keeps {p_ : Allow} {z : State} {s : State} (i : Nat)  (hpec_ : p_.may .pec = true) (h_ : Keeps p_ z s) : Keeps p_ z (State.clearThrCounters s i) := by
  unfold State.clearThrCounters
  repeat' (first | with_reducible assumption | with_reducible exact Keeps.refl _ _ | with_reducible apply State.setPec_keeps | with_reducible apply keeps_foldl | with_reducible apply keeps_foldl_fst | with_reducible apply keeps_foldl_snd | intro _ _ _ | with_reducible apply keepsParts_intro | with_reducible exact Or.inl (by with_reducible assumption) | with_reducible exact Or.inr rfl | simp only [keeps_mk] | with_reducible refine keepsMk_of ?_ ⟨rfl, rfl⟩ (fun h_ => by first | exact h_ | simpa only [updAt_length] using h_ | with_unfolding_all rfl) ?_ ?_ | dsimp only | intro _ _ | intro _)

theorem State.takeRestart_keeps {p_ : Allow} {z : State} {s : State} (i : Nat) (p : PendRestart)  (hpec_ : p_.may .pec = true) (h_ : Keeps p_ z s) : Keeps p_ z (State.takeRestart s i p) := by
  unfold State.takeRestart
  repeat' (first | with_reducible assumption | with_reducible exact Keeps.refl _ _ | with_reducible apply State.updSlot_keeps | with_reducible apply State.status_keeps | with_reducible apply State.clearThrCounters_keeps | with_reducible apply State.pecCount_keeps | with_reducible apply keepsParts_intro | with_reducible exact Or.inl (by with_reducible assumption) | with_reducible exact Or.inr rfl | simp only [keeps_mk] | with_reducible refine keepsMk_of ?_ ⟨rfl, rfl⟩ (fun h_ => by first | exact h_ | simpa only [updAt_length] using h_ | with_unfolding_all rfl) ?_ ?_ | with_reducible apply keeps_ite | split | dsimp only | intro _ _ | intro _)

theorem State.takeDue_keeps {p_ : Allow} {z : State} {s : State} (i : Nat) (t : Instant)  (hpec_ : p_.may .pec = true) (h_ : Keeps p_ z s) : Keeps p_ z (State.takeDue s i t) := by
  unfold State.takeDue
  repeat' (first | with_reducible assumption | with_reducible exact Keeps.refl _ _ | with_reducible apply State.takeRestart_keeps | with_reducible apply State.updSlot_keeps | with_reducible apply keeps_foldl | with_reducible apply keeps_foldl_fst | with_reducible apply keeps_foldl_snd | intro _ _ _ | with_reducible apply keepsParts_intro | with_reducible exact Or.inl (by with_reducible assumption) | with_reducible exact Or.inr rfl | simp only [keeps_mk] | with_reducible refine keepsMk_of ?_ ⟨rfl, rfl⟩ (fun h_ => by first | exact h_ | simpa only [updAt_length] using h_ | with_unfolding_all rfl) ?_ ?_ | dsimp only | intro _ _ | intro _)

theorem State.beginHistory_keeps {p_ : Allow} {z : State} {s : State} (i : Nat) (b : PendRestart) (r : Nat)  (hpec_ : p_.may .pec = true) (h_ : Keeps p_ z s) : Keeps p_ z (State.beginHistory s i b r) := by
  unfold State.beginHistory
  repeat' (first | with_reducible assumption | with_reducible exact Keeps.refl _ _ | with_reducible apply State.updSlot_keeps | with_reducible apply keepsParts_intro | with_reducible exact Or.inl (by with_reducible assumption) | with_reducible exact Or.inr rfl | simp only [keeps_mk] | with_reducible refine keepsMk_of ?_ ⟨rfl, rfl⟩ (fun h_ => by first | exact h_ | simpa only [updAt_length] using h_ | with_unfolding_all rfl) ?_ ?_ | with_reducible apply keeps_ite | split | dsimp only | intro _ _ | intro _)

theorem State.makeReady_keeps {p_ : Allow} {z : State} {s : State} (i : Nat)  (hpec_ : p_.may .pec = true) (h_ : Keeps p_ z s) : Keeps p_ z (State.makeReady s i) := by
  unfold State.makeReady
  repeat' (first | with_reducible assumption | with_reducible exact Keeps.refl _ _ | with_reducible apply State.updSlot_keeps | with_reducible apply keepsParts_intro | with_reducible exact Or.inl (by with_reducible assumption) | with_reducible exact Or.inr rfl | simp only [keeps_mk] | with_reducible refine keepsMk_of ?_ ⟨rfl, rfl⟩ (fun h_ => by first | exact h_ | simpa only [updAt_length] using h_ | with_unfolding_all rfl) ?_ ?_ | with_reducible apply keeps_ite | split | dsimp only | intro _ _ | intro _)

theorem State.pushSample_keeps {p_ : Allow} {z : State} {s : State} (i num : Nat) (vals : List (Option Word)) (mark : SpanMark)  (hpec_ : p_.may .pec = true) (h_ : Keeps p_ z s) : Keeps p_ z (State.pushSample s i num vals mark) := by
  unfold State.pushSample
  repeat' (first | with_reducible assumption | with_reducible exact Keeps.refl _ _ | with_reducible apply State.updSlot_keeps | with_reducible apply State.pecCount_keeps | with_reducible apply State.makeReady_keeps | with_reducible apply keepsParts_intro | with_reducible exact Or.inl (by with_reducible assumption) | with_reducible exact Or.inr rfl | simp only [keeps_mk] | with_reducible refine keepsMk_of ?_ ⟨rfl, rfl⟩ (fun h_ => by first | exact h_ | simpa only [updAt_length] using h_ | with_unfolding_all rfl) ?_ ?_ | with_reducible apply keeps_ite | split | intro _ _ | dsimp only | intro _ _ | intro _)

theorem State.enterGap_keeps {p_ : Allow} {z : State} {s : State} (i : Nat)  (hpec_ : p_.may .pec = true) (h_ : Keeps p_ z s) : Keeps p_ z (State.enterGap s i) := by
  unfold State.enterGap
  repeat' (first | with_reducible assumption | with_reducible exact Keeps.refl _ _ | with_reducible apply State.updSlot_keeps | with_reducible apply State.pecCount_keeps | with_reducible apply State.status_keeps | with_reducible apply keepsParts_intro | with_reducible exact Or.inl (by with_reducible assumption) | with_reducible exact Or.inr rfl | simp only [keeps_mk] | with_reducible refine keepsMk_of ?_ ⟨rfl, rfl⟩ (fun h_ => by first | exact h_ | simpa only [updAt_length] using h_ | with_unfolding_all rfl) ?_ ?_ | dsimp only | intro _ _ | intro _)

theorem State.fillAbsent_keeps {p_ : Allow} {z : State} {s : State} (i num : Nat) (x0 : Nat)  (hpec_ : p_.may .pec = true) (h_ : Keeps p_ z s) : Keeps p_ z (State.fillAbsent s i num x0) := by
  induction x0 generalizing s i num with
  | zero =>
    unfold State.fillAbsent
    repeat' (first | with_reducible assumption | with_reducible exact Keeps.refl _ _ | with_reducible apply ih_ | with_reducible apply State.enterGap_keeps | with_reducible apply State.pushSample_keeps | with_reducible apply keeps_foldl | with_reducible apply keeps_foldl_fst | with_reducible apply keeps_foldl_snd | intro _ _ _ | with_reducible apply keeps_ite | split | dsimp only | intro _ _ | intro _)
  | succ n_ ih_ =>
    unfold State.fillAbsent
    repeat' (first | with_reducible assumption | with_reducible exact Keeps.refl _ _ | with_reducible apply ih_ | with_reducible apply State.enterGap_keeps | with_reducible apply State.pushSample_keeps | with_reducible apply keeps_foldl | with_reducible apply keeps_foldl_fst | with_reducible apply keeps_foldl_snd | intro _ _ _ | with_reducible apply keeps_ite | split | dsimp only | intro _ _ | intro _)

theorem State.noteAbsent_keeps {p_ : Allow} {z : State} {s : State} (i num : Nat)  (hpec_ : p_.may .pec = true) (h_ : Keeps p_ z s) : Keeps p_ z (State.noteAbsent s i num) := by
  unfold State.noteAbsent
  repeat' (first | with_reducible assumption | with_reducible exact Keeps.refl _ _ | with_reducible apply State.updSlot_keeps | with_reducible apply keepsParts_intro | with_reducible exact Or.inl (by with_reducible assumption) | with_reducible exact Or.inr rfl | simp only [keeps_mk] | with_reducible refine keepsMk_of ?_ ⟨rfl, rfl⟩ (fun h_ => by first | exact h_ | simpa only [updAt_length] using h_ | with_unfolding_all rfl) ?_ ?_ | with_reducible apply keeps_ite | split | dsimp only | intro _ _ | intro _)

theorem State.noteSample_keeps {p_ : Allow} {z : State} {s : State} (i : Nat) (m : SvSample) (missing : List Nat)  (hpec_ : p_.may .pec = true) (h_ : Keeps p_ z s) : Keeps p_ z (State.noteSample s i m missing) := by
  unfold State.noteSample
  repeat' (first | with_reducible assumption | with_reducible exact Keeps.refl _ _ | with_reducible apply State.noteAbsent_keeps | with_reducible apply State.updSlot_keeps | with_reducible apply keepsParts_intro | with_reducible exact Or.inl (by with_reducible assumption) | with_reducible exact Or.inr rfl | simp only [keeps_mk] | with_reducible refine keepsMk_of ?_ ⟨rfl, rfl⟩ (fun h_ => by first | exact h_ | simpa only [updAt_length] using h_ | with_unfolding_all rfl) ?_ ?_ | with_reducible apply keeps_ite | split | dsimp only | intro _ _ | intro _)

theorem State.takeSample_keeps {p_ : Allow} {z : State} {s : State} (i : Nat) (m : SvSample)  (hpec_ : p_.may .pec = true) (h_ : Keeps p_ z s) : Keeps p_ z (State.takeSample s i m) := by
  unfold State.takeSample
  repeat' (first | with_reducible assumption | with_reducible exact Keeps.refl _ _ | with_reducible apply State.noteSample_keeps | with_reducible apply State.pecCount_keeps | with_reducible apply State.enterGap_keeps | with_reducible apply State.pushSample_keeps | with_reducible apply keeps_foldl | with_reducible apply keeps_foldl_fst | with_reducible apply keeps_foldl_snd | intro _ _ _ | with_reducible apply keeps_ite | split | dsimp only | intro _ _ | intro _)

theorem State.beginIfDue_keeps {p_ : Allow} {z : State} {s : State} (i : Nat) (m : SvSample)  (hpec_ : p_.may .pec = true) (h_ : Keeps p_ z s) : Keeps p_ z (State.beginIfDue s i m) := by
  unfold State.beginIfDue
  repeat' (first | with_reducible assumption | with_reducible exact Keeps.refl _ _ | with_reducible apply State.takeDue_keeps | with_reducible apply State.fillAbsent_keeps | with_reducible apply State.noteAbsent_keeps | with_reducible apply State.beginHistory_keeps | with_reducible apply keepsParts_intro | with_reducible exact Or.inl (by with_reducible assumption) | with_reducible exact Or.inr rfl | simp only [keeps_mk] | with_reducible refine keepsMk_of ?_ ⟨rfl, rfl⟩ (fun h_ => by first | exact h_ | simpa only [updAt_length] using h_ | with_unfolding_all rfl) ?_ ?_ | with_reducible apply keeps_ite | split | intro _ _ | dsimp only | intro _ _ | intro _)

theorem State.sampleIn_keeps {p_ : Allow} {z : State} {s : State} (m : SvSample)  (hpec_ : p_.may .pec = true) (h_ : Keeps p_ z s) : Keeps p_ z (State.sampleIn s m) := by
  unfold State.sampleIn
  repeat' (first | with_reducible assumption | with_reducible exact Keeps.refl _ _ | with_reducible apply State.updSlot_keeps | with_reducible apply State.takeSample_keeps | with_reducible apply State.beginIfDue_keeps | with_reducible apply State.fillAbsent_keeps | with_reducible apply State.schedRestart_keeps | with_reducible apply keepsParts_intro | with_reducible exact Or.inl (by with_reducible assumption) | with_reducible exact Or.inr rfl | simp only [keeps_mk] | with_reducible refine keepsMk_of ?_ ⟨rfl, rfl⟩ (fun h_ => by first | exact h_ | simpa only [updAt_length] using h_ | with_unfolding_all rfl) ?_ ?_ | with_reducible apply keeps_ite | split | dsimp only | intro _ _ | intro _)

theorem State.pecSettle_keeps {p_ : Allow} {z : State} {s : State}  (hpec_ : p_.may .pec = true) (h_ : Keeps p_ z s) : Keeps p_ z (State.pecSettle s) := by
  unfold State.pecSettle
  repeat' (first | with_reducible assumption | with_reducible exact Keeps.refl _ _ | with_reducible apply State.updSlot_keeps | with_reducible apply keeps_foldl | with_reducible apply keeps_foldl_fst | with_reducible apply keeps_foldl_snd | intro _ _ _ | with_reducible apply keepsParts_intro | with_reducible exact Or.inl (by with_reducible assumption) | with_reducible exact Or.inr rfl | simp only [keeps_mk] | with_reducible refine keepsMk_of ?_ ⟨rfl, rfl⟩ (fun h_ => by first | exact h_ | simpa only [updAt_length] using h_ | with_unfolding_all rfl) ?_ ?_ | with_reducible apply keeps_ite | split | intro _ _ | dsimp only | intro _ _ | intro _)

theorem State.deliverEst_keeps {p_ : Allow} {z : State} {s : State} (c : Nat) (tc : Instant) (w0 w1 : Word) (q : Quantity) (flags : Nat)  (hing_ : p_.may .ing = true) (hpec_ : p_.may .pec = true) (hcapIn_ : p_.may .capIn = true) (h_ : Keeps p_ z s) : Keeps p_ z (State.deliverEst s c tc w0 w1 q flags) := by
  unfold State.deliverEst
  repeat' (first | with_reducible assumption | with_reducible exact Keeps.refl _ _ | with_reducible apply State.setPec_keeps | with_reducible apply State.pecCount_keeps | with_reducible apply State.status_keeps | with_reducible apply keepsParts_intro | with_reducible exact Or.inl (by with_reducible assumption) | with_reducible exact Or.inr rfl | simp only [keeps_mk] | with_reducible refine keepsMk_of ?_ ⟨rfl, rfl⟩ (fun h_ => by first | exact h_ | simpa only [updAt_length] using h_ | with_unfolding_all rfl) ?_ ?_ | with_reducible apply keeps_ite | split | dsimp only | intro _ _ | intro _)

theorem State.deliverInput_keeps {p_ : Allow} {z : State} {s : State} (i : Nat) (tc : Instant) (r : ReadyInput)  (hing_ : p_.may .ing = true) (hpec_ : p_.may .pec = true) (hcapIn_ : p_.may .capIn = true) (h_ : Keeps p_ z s) : Keeps p_ z (State.deliverInput s i tc r) := by
  unfold State.deliverInput
  repeat' (first | with_reducible assumption | with_reducible exact Keeps.refl _ _ | with_reducible apply State.pecCount_keeps | with_reducible apply State.deliverEst_keeps | dsimp only | intro _ _ | intro _)

theorem State.track_keeps {p_ : Allow} {z : State} {s : State} (i : Nat) (o : ReadyOut)  (hpec_ : p_.may .pec = true) (h_ : Keeps p_ z s) : Keeps p_ z (State.track s i o) := by
  unfold State.track
  repeat' (first | with_reducible assumption | with_reducible exact Keeps.refl _ _ | with_reducible apply State.updSlot_keeps | with_reducible apply State.pecCount_keeps | with_reducible apply State.status_keeps | with_reducible apply keeps_foldl | with_reducible apply keeps_foldl_fst | with_reducible apply keeps_foldl_snd | intro _ _ _ | with_reducible apply keepsParts_intro | with_reducible exact Or.inl (by with_reducible assumption) | with_reducible exact Or.inr rfl | simp only [keeps_mk] | with_reducible refine keepsMk_of ?_ ⟨rfl, rfl⟩ (fun h_ => by first | exact h_ | simpa only [updAt_length] using h_ | with_unfolding_all rfl) ?_ ?_ | with_reducible apply keeps_ite | split | intro _ _ | dsimp only | intro _ _ | intro _)

theorem State.commitTaps_keeps {p_ : Allow} {z : State} {s : State} (bank : Bool) (prof : Nat) (taps : List Int)  (hpec_ : p_.may .pec = true) (h_ : Keeps p_ z s) : Keeps p_ z (State.commitTaps s bank prof taps) := by
  unfold State.commitTaps
  repeat' (first | with_reducible assumption | with_reducible exact Keeps.refl _ _ | with_reducible apply State.setPec_keeps | with_reducible apply keepsParts_intro | with_reducible exact Or.inl (by with_reducible assumption) | with_reducible exact Or.inr rfl | simp only [keeps_mk] | with_reducible refine keepsMk_of ?_ ⟨rfl, rfl⟩ (fun h_ => by first | exact h_ | simpa only [updAt_length] using h_ | with_unfolding_all rfl) ?_ ?_ | dsimp only | intro _ _ | intro _)

/-! ### Machine/Estimation.lean -/

theorem execSvSampleIn_keeps {p_ : Allow} {z : State} (at_ : Instant) {s : State}  (hing_ : p_.may .ing = true) (hpec_ : p_.may .pec = true) (hcapIn_ : p_.may .capIn = true) (htime_ : p_.clock = true) (h_ : Keeps p_ z s) : KeepsOut p_ z (execSvSampleIn at_ s) := by
  unfold execSvSampleIn
  repeat' (first | with_reducible assumption | with_reducible exact Keeps.refl _ _ | with_reducible apply State.advance_keeps | with_reducible apply State.setPair_keeps | with_reducible apply State.sampleIn_keeps | with_reducible apply KeepsRes.done | with_reducible apply KeepsRes.accepted | with_reducible apply KeepsRes.waiting | with_reducible apply KeepsOut.next | with_reducible apply keepsParts_intro | with_reducible exact Or.inl (by with_reducible assumption) | with_reducible exact Or.inr rfl | simp only [keeps_mk] | with_reducible refine keepsMk_of ?_ ⟨rfl, rfl⟩ (fun h_ => by first | exact h_ | simpa only [updAt_length] using h_ | with_unfolding_all rfl) ?_ ?_ | with_reducible apply keeps_ite | with_reducible apply keepsOut_ite | split | intro _ _ | dsimp only | intro _ _ | intro _)

theorem execEstimateOutput_keeps {p_ : Allow} {z : State} (at_ : Instant) (i : Fin 1024) {s : State}  (hing_ : p_.may .ing = true) (hpec_ : p_.may .pec = true) (hcapIn_ : p_.may .capIn = true) (htime_ : p_.clock = true) (h_ : Keeps p_ z s) : KeepsOut p_ z (execEstimateOutput at_ i s) := by
  unfold execEstimateOutput
  repeat' (first | with_reducible assumption | with_reducible exact Keeps.refl _ _ | with_reducible apply State.advance_keeps | with_reducible apply State.updSlot_keeps | with_reducible apply State.deliverInput_keeps | with_reducible apply State.track_keeps | with_reducible apply KeepsRes.done | with_reducible apply KeepsRes.accepted | with_reducible apply KeepsRes.waiting | with_reducible apply KeepsOut.next | with_reducible apply keeps_foldl | with_reducible apply keeps_foldl_fst | with_reducible apply keeps_foldl_snd | intro _ _ _ | with_reducible apply keepsParts_intro | with_reducible exact Or.inl (by with_reducible assumption) | with_reducible exact Or.inr rfl | simp only [keeps_mk] | with_reducible refine keepsMk_of ?_ ⟨rfl, rfl⟩ (fun h_ => by first | exact h_ | simpa only [updAt_length] using h_ | with_unfolding_all rfl) ?_ ?_ | with_reducible apply keeps_ite | with_reducible apply keepsOut_ite | split | intro _ _ | dsimp only | intro _ _ | intro _)

theorem execSlotRestart_keeps {p_ : Allow} {z : State} (i : Fin 1024) {s : State}  (hpec_ : p_.may .pec = true) (htime_ : p_.clock = true) (h_ : Keeps p_ z s) : KeepsOut p_ z (execSlotRestart i s) := by
  unfold execSlotRestart
  repeat' (first | with_reducible assumption | with_reducible exact Keeps.refl _ _ | with_reducible apply State.advance_keeps | with_reducible apply State.takeDue_keeps | with_reducible apply KeepsRes.done | with_reducible apply KeepsRes.accepted | with_reducible apply KeepsRes.waiting | with_reducible apply KeepsOut.next | with_reducible apply keepsParts_intro | with_reducible exact Or.inl (by with_reducible assumption) | with_reducible exact Or.inr rfl | simp only [keeps_mk] | with_reducible refine keepsMk_of ?_ ⟨rfl, rfl⟩ (fun h_ => by first | exact h_ | simpa only [updAt_length] using h_ | with_unfolding_all rfl) ?_ ?_ | split | intro _ _ | dsimp only | intro _ _ | intro _)

theorem State.syncRestart_keeps {p_ : Allow} {z : State} {s : State}  (hpec_ : p_.may .pec = true) (h_ : Keeps p_ z s) : Keeps p_ z (State.syncRestart s).1 := by
  unfold State.syncRestart
  repeat' (first | with_reducible assumption | with_reducible exact Keeps.refl _ _ | with_reducible apply State.pecCount_keeps | with_reducible apply State.setPec_keeps | with_reducible apply State.restartAll_keeps | with_reducible apply keepsParts_intro | with_reducible exact Or.inl (by with_reducible assumption) | with_reducible exact Or.inr rfl | simp only [keeps_mk] | with_reducible refine keepsMk_of ?_ ⟨rfl, rfl⟩ (fun h_ => by first | exact h_ | simpa only [updAt_length] using h_ | with_unfolding_all rfl) ?_ ?_ | with_reducible apply keeps_ite | split | intro _ _ | dsimp only | intro _ _ | intro _)
theorem State.syncRestart_keeps_of {p_ : Allow} {z : State} {s : State} {t_ : State} {a_ : _} (e_ : State.syncRestart s = (t_, a_)) (hpec_ : p_.may .pec = true) (h_ : Keeps p_ z s) : Keeps p_ z t_ := by
  have k_ := State.syncRestart_keeps (z := z) hpec_ h_
  rw [e_] at k_; exact k_

theorem execDsyncEdge_keeps {p_ : Allow} {z : State} (at_ : Instant) (rising : Bool) (widthNs : Nat) {s : State}  (hpec_ : p_.may .pec = true) (htime_ : p_.clock = true) (h_ : Keeps p_ z s) : KeepsOut p_ z (execDsyncEdge at_ rising widthNs s) := by
  unfold execDsyncEdge
  repeat' (first | with_reducible assumption | with_reducible exact Keeps.refl _ _ | with_reducible apply State.advance_keeps | with_reducible apply State.syncRestart_keeps | with_reducible refine State.syncRestart_keeps_of (by with_reducible assumption) ?_ ?_ | with_reducible apply KeepsRes.done | with_reducible apply KeepsRes.accepted | with_reducible apply KeepsRes.waiting | with_reducible apply KeepsOut.next | with_reducible apply keeps_ite | with_reducible apply keepsOut_ite | split | dsimp only | intro _ _ | intro _)

theorem execCrossfadeEnd_keeps {p_ : Allow} {z : State} (at_ : Instant) (i : Fin 1024) {s : State}  (hpec_ : p_.may .pec = true) (htime_ : p_.clock = true) (h_ : Keeps p_ z s) : KeepsOut p_ z (execCrossfadeEnd at_ i s) := by
  unfold execCrossfadeEnd
  repeat' (first | with_reducible assumption | with_reducible exact Keeps.refl _ _ | with_reducible apply State.advance_keeps | with_reducible apply State.updSlot_keeps | with_reducible apply State.status_keeps | with_reducible apply KeepsRes.done | with_reducible apply KeepsRes.accepted | with_reducible apply KeepsRes.waiting | with_reducible apply KeepsOut.next | with_reducible apply keepsParts_intro | with_reducible exact Or.inl (by with_reducible assumption) | with_reducible exact Or.inr rfl | simp only [keeps_mk] | with_reducible refine keepsMk_of ?_ ⟨rfl, rfl⟩ (fun h_ => by first | exact h_ | simpa only [updAt_length] using h_ | with_unfolding_all rfl) ?_ ?_ | with_reducible apply keeps_ite | with_reducible apply keepsOut_ite | split | intro _ _ | dsimp only | intro _ _ | intro _)

theorem State.startFade_keeps {p_ : Allow} {z : State} {s : State} (i : Nat)  (hpec_ : p_.may .pec = true) (h_ : Keeps p_ z s) : Keeps p_ z (State.startFade s i) := by
  unfold State.startFade
  repeat' (first | with_reducible assumption | with_reducible exact Keeps.refl _ _ | with_reducible apply State.updSlot_keeps | with_reducible apply keepsParts_intro | with_reducible exact Or.inl (by with_reducible assumption) | with_reducible exact Or.inr rfl | simp only [keeps_mk] | with_reducible refine keepsMk_of ?_ ⟨rfl, rfl⟩ (fun h_ => by first | exact h_ | simpa only [updAt_length] using h_ | with_unfolding_all rfl) ?_ ?_ | dsimp only | intro _ _ | intro _)

theorem execHeldSwapStart_keeps {p_ : Allow} {z : State} (at_ : Instant) (i : Fin 1024) {s : State}  (hpec_ : p_.may .pec = true) (htime_ : p_.clock = true) (h_ : Keeps p_ z s) : KeepsOut p_ z (execHeldSwapStart at_ i s) := by
  unfold execHeldSwapStart
  repeat' (first | with_reducible assumption | with_reducible exact Keeps.refl _ _ | with_reducible apply State.advance_keeps | with_reducible apply State.updSlot_keeps | with_reducible apply State.startFade_keeps | with_reducible apply KeepsRes.done | with_reducible apply KeepsRes.accepted | with_reducible apply KeepsRes.waiting | with_reducible apply KeepsOut.next | with_reducible apply keepsParts_intro | with_reducible exact Or.inl (by with_reducible assumption) | with_reducible exact Or.inr rfl | simp only [keeps_mk] | with_reducible refine keepsMk_of ?_ ⟨rfl, rfl⟩ (fun h_ => by first | exact h_ | simpa only [updAt_length] using h_ | with_unfolding_all rfl) ?_ ?_ | with_reducible apply keeps_ite | with_reducible apply keepsOut_ite | split | dsimp only | intro _ _ | intro _)

theorem State.storeEntry_keeps {p_ : Allow} {z : State} {s : State} (t i : Nat) (ws : List Word)  (hpec_ : p_.may .pec = true) (h_ : Keeps p_ z s) : Keeps p_ z (State.storeEntry s t i ws) := by
  unfold State.storeEntry
  repeat' (first | with_reducible assumption | with_reducible exact Keeps.refl _ _ | with_reducible apply State.setPw_keeps | with_reducible apply keeps_foldl | with_reducible apply keeps_foldl_fst | with_reducible apply keeps_foldl_snd | intro _ _ _ | split | dsimp only | intro _ _ | intro _)

theorem State.writeSlot_keeps {p_ : Allow} {z : State} {s : State} (i : Nat) (ws : List Word)  (hpec_ : p_.may .pec = true) (h_ : Keeps p_ z s) : Keeps p_ z (State.writeSlot s i ws) := by
  unfold State.writeSlot
  repeat' (first | with_reducible assumption | with_reducible exact Keeps.refl _ _ | with_reducible apply State.storeEntry_keeps | with_reducible apply State.schedRestart_keeps | dsimp only | intro _ _ | intro _)

theorem State.pecWrite_keeps {p_ : Allow} {z : State} {s : State} (t i : Nat) (ws : List Word)  (hpec_ : p_.may .pec = true) (h_ : Keeps p_ z s) : Keeps p_ z (State.pecWrite s t i ws).2 := by
  unfold State.pecWrite
  repeat' (first | with_reducible assumption | with_reducible exact Keeps.refl _ _ | with_reducible apply State.writeSlot_keeps | with_reducible apply State.storeEntry_keeps | with_reducible apply State.commitTaps_keeps | with_reducible apply keeps_ite | split | dsimp only | intro _ _ | intro _)
theorem State.pecWrite_keeps_of {p_ : Allow} {z : State} {s : State} {t i : Nat} {ws : List Word} {a_ : _} {t_ : State} (e_ : State.pecWrite s t i ws = (a_, t_)) (hpec_ : p_.may .pec = true) (h_ : Keeps p_ z s) : Keeps p_ z t_ := by
  have k_ := State.pecWrite_keeps (z := z) t i ws hpec_ h_
  rw [e_] at k_; exact k_

theorem State.pecTblRead_keeps {p_ : Allow} {z : State} {s : State}  (h_ : Keeps p_ z s) : Keeps p_ z (State.pecTblRead s) := by
  unfold State.pecTblRead
  repeat' (first | with_reducible assumption | with_reducible exact Keeps.refl _ _ | with_reducible apply State.setRf_keeps | with_reducible apply State.setReg_keeps | with_reducible apply keeps_foldl | with_reducible apply keeps_foldl_fst | with_reducible apply keeps_foldl_snd | intro _ _ _ | with_reducible apply keeps_ite | split | dsimp only | intro _ _ | intro _)

theorem State.pecTblWrite_keeps {p_ : Allow} {z : State} {s : State}  (hpec_ : p_.may .pec = true) (h_ : Keeps p_ z s) : Keeps p_ z (State.pecTblWrite s) := by
  unfold State.pecTblWrite
  repeat' (first | with_reducible assumption | with_reducible exact Keeps.refl _ _ | with_reducible apply State.pecWrite_keeps | with_reducible apply State.setRf_keeps | with_reducible refine State.pecWrite_keeps_of (by with_reducible assumption) ?_ ?_ | dsimp only | intro _ _ | intro _)

theorem execPecTblRead_keeps {p_ : Allow} {z : State} (at_ : Instant) {s : State}  (htime_ : p_.clock = true) (h_ : Keeps p_ z s) : KeepsOut p_ z (execPecTblRead at_ s) := by
  unfold execPecTblRead
  repeat' (first | with_reducible assumption | with_reducible exact Keeps.refl _ _ | with_reducible apply State.advance_keeps | with_reducible apply State.pecTblRead_keeps | with_reducible apply KeepsRes.done | with_reducible apply KeepsRes.accepted | with_reducible apply KeepsRes.waiting | with_reducible apply KeepsOut.next | dsimp only | intro _ _ | intro _)

theorem execPecTblWrite_keeps {p_ : Allow} {z : State} (at_ : Instant) {s : State}  (hpec_ : p_.may .pec = true) (htime_ : p_.clock = true) (h_ : Keeps p_ z s) : KeepsOut p_ z (execPecTblWrite at_ s) := by
  unfold execPecTblWrite
  repeat' (first | with_reducible assumption | with_reducible exact Keeps.refl _ _ | with_reducible apply State.advance_keeps | with_reducible apply State.pecTblWrite_keeps | with_reducible apply KeepsRes.done | with_reducible apply KeepsRes.accepted | with_reducible apply KeepsRes.waiting | with_reducible apply KeepsOut.next | dsimp only | intro _ _ | intro _)

theorem bodyPecStatus_keeps {p_ : Allow} {z : State} {s : State}  (h_ : Keeps p_ z s) : KeepsRes p_ z (bodyPecStatus s) := by
  unfold bodyPecStatus
  repeat' (first | with_reducible assumption | with_reducible exact Keeps.refl _ _ | with_reducible apply ok_keeps | with_reducible apply KeepsRes.done | with_reducible apply KeepsRes.accepted | with_reducible apply KeepsRes.waiting | with_reducible apply KeepsOut.next | split | dsimp only | intro _ _ | intro _)

theorem execPecStatus_keeps {p_ : Allow} {z : State} (h : Hdr) {s : State}  (htime_ : p_.clock = true) (h_ : Keeps p_ z s) : KeepsOut p_ z (execPecStatus h s) := by
  unfold execPecStatus
  repeat' (first | with_reducible assumption | with_reducible exact Keeps.refl _ _ | with_reducible apply runCmd_keeps | with_reducible apply bodyPecStatus_keeps | with_reducible apply KeepsRes.done | with_reducible apply KeepsRes.accepted | with_reducible apply KeepsRes.waiting | with_reducible apply KeepsOut.next | dsimp only | intro _ _ | intro _)

theorem bodyPecProfile_keeps {p_ : Allow} {z : State} (a : PecProfileArgs) {s : State}  (hpec_ : p_.may .pec = true) (h_ : Keeps p_ z s) : KeepsRes p_ z (bodyPecProfile a s) := by
  unfold bodyPecProfile
  repeat' (first | with_reducible assumption | with_reducible exact Keeps.refl _ _ | with_reducible apply refuse_keeps | with_reducible apply ok_keeps | with_reducible apply State.writeSlot_keeps | with_reducible apply KeepsRes.done | with_reducible apply KeepsRes.accepted | with_reducible apply KeepsRes.waiting | with_reducible apply KeepsOut.next | with_reducible apply keeps_foldl | with_reducible apply keeps_foldl_fst | with_reducible apply keeps_foldl_snd | intro _ _ _ | with_reducible apply keeps_ite | with_reducible apply keepsRes_ite | split | dsimp only | intro _ _ | intro _)

theorem execPecProfile_keeps {p_ : Allow} {z : State} (h : Hdr) (a : PecProfileArgs) {s : State}  (hpec_ : p_.may .pec = true) (htime_ : p_.clock = true) (h_ : Keeps p_ z s) : KeepsOut p_ z (execPecProfile h a s) := by
  unfold execPecProfile
  repeat' (first | with_reducible assumption | with_reducible exact Keeps.refl _ _ | with_reducible apply runCmd_keeps | with_reducible apply bodyPecProfile_keeps | with_reducible apply KeepsRes.done | with_reducible apply KeepsRes.accepted | with_reducible apply KeepsRes.waiting | with_reducible apply KeepsOut.next | dsimp only | intro _ _ | intro _)

theorem bodyPecInputs_keeps {p_ : Allow} {z : State} (l : List PecInput) {s : State}  (hpec_ : p_.may .pec = true) (h_ : Keeps p_ z s) : KeepsRes p_ z (bodyPecInputs l s) := by
  unfold bodyPecInputs
  repeat' (first | with_reducible assumption | with_reducible exact Keeps.refl _ _ | with_reducible apply ok_keeps | with_reducible apply State.storeEntry_keeps | with_reducible apply KeepsRes.done | with_reducible apply KeepsRes.accepted | with_reducible apply KeepsRes.waiting | with_reducible apply KeepsOut.next | with_reducible apply keeps_foldl | with_reducible apply keeps_foldl_fst | with_reducible apply keeps_foldl_snd | intro _ _ _ | split | dsimp only | intro _ _ | intro _)

theorem execPecInputs_keeps {p_ : Allow} {z : State} (h : Hdr) (l : List PecInput) {s : State}  (hpec_ : p_.may .pec = true) (htime_ : p_.clock = true) (h_ : Keeps p_ z s) : KeepsOut p_ z (execPecInputs h l s) := by
  unfold execPecInputs
  repeat' (first | with_reducible assumption | with_reducible exact Keeps.refl _ _ | with_reducible apply runCmd_keeps | with_reducible apply bodyPecInputs_keeps | with_reducible apply KeepsRes.done | with_reducible apply KeepsRes.accepted | with_reducible apply KeepsRes.waiting | with_reducible apply KeepsOut.next | dsimp only | intro _ _ | intro _)

theorem bodyPecThresholds_keeps {p_ : Allow} {z : State} (l : List PecThreshold) {s : State}  (hpec_ : p_.may .pec = true) (h_ : Keeps p_ z s) : KeepsRes p_ z (bodyPecThresholds l s) := by
  unfold bodyPecThresholds
  repeat' (first | with_reducible assumption | with_reducible exact Keeps.refl _ _ | with_reducible apply refuse_keeps | with_reducible apply ok_keeps | with_reducible apply State.storeEntry_keeps | with_reducible apply KeepsRes.done | with_reducible apply KeepsRes.accepted | with_reducible apply KeepsRes.waiting | with_reducible apply KeepsOut.next | with_reducible apply keeps_foldl | with_reducible apply keeps_foldl_fst | with_reducible apply keeps_foldl_snd | intro _ _ _ | with_reducible apply keeps_ite | with_reducible apply keepsRes_ite | split | dsimp only | intro _ _ | intro _)

theorem execPecThresholds_keeps {p_ : Allow} {z : State} (h : Hdr) (l : List PecThreshold) {s : State}  (hpec_ : p_.may .pec = true) (htime_ : p_.clock = true) (h_ : Keeps p_ z s) : KeepsOut p_ z (execPecThresholds h l s) := by
  unfold execPecThresholds
  repeat' (first | with_reducible assumption | with_reducible exact Keeps.refl _ _ | with_reducible apply runCmd_keeps | with_reducible apply bodyPecThresholds_keeps | with_reducible apply KeepsRes.done | with_reducible apply KeepsRes.accepted | with_reducible apply KeepsRes.waiting | with_reducible apply KeepsOut.next | dsimp only | intro _ _ | intro _)

theorem bodySyncDecim_keeps {p_ : Allow} {z : State} {s : State}  (hpec_ : p_.may .pec = true) (h_ : Keeps p_ z s) : KeepsRes p_ z (bodySyncDecim s) := by
  unfold bodySyncDecim
  repeat' (first | with_reducible assumption | with_reducible exact Keeps.refl _ _ | with_reducible apply State.syncRestart_keeps | with_reducible apply ok_keeps | with_reducible refine State.syncRestart_keeps_of (by with_reducible assumption) ?_ ?_ | with_reducible apply KeepsRes.done | with_reducible apply KeepsRes.accepted | with_reducible apply KeepsRes.waiting | with_reducible apply KeepsOut.next | dsimp only | intro _ _ | intro _)

theorem execSyncDecim_keeps {p_ : Allow} {z : State} (h : Hdr) {s : State}  (hpec_ : p_.may .pec = true) (htime_ : p_.clock = true) (h_ : Keeps p_ z s) : KeepsOut p_ z (execSyncDecim h s) := by
  unfold execSyncDecim
  repeat' (first | with_reducible assumption | with_reducible exact Keeps.refl _ _ | with_reducible apply runCmd_keeps | with_reducible apply bodySyncDecim_keeps | with_reducible apply KeepsRes.done | with_reducible apply KeepsRes.accepted | with_reducible apply KeepsRes.waiting | with_reducible apply KeepsOut.next | dsimp only | intro _ _ | intro _)

theorem State.swapSlot_keeps {p_ : Allow} {z : State} {s : State} (i : Nat)  (hpec_ : p_.may .pec = true) (h_ : Keeps p_ z s) : Keeps p_ z (State.swapSlot s i).2 := by
  unfold State.swapSlot
  repeat' (first | with_reducible assumption | with_reducible exact Keeps.refl _ _ | with_reducible apply State.updSlot_keeps | with_reducible apply State.pecCount_keeps | with_reducible apply State.schedRestart_keeps | with_reducible apply State.startFade_keeps | with_reducible apply keepsParts_intro | with_reducible exact Or.inl (by with_reducible assumption) | with_reducible exact Or.inr rfl | simp only [keeps_mk] | with_reducible refine keepsMk_of ?_ ⟨rfl, rfl⟩ (fun h_ => by first | exact h_ | simpa only [updAt_length] using h_ | with_unfolding_all rfl) ?_ ?_ | with_reducible apply keeps_ite | split | dsimp only | intro _ _ | intro _)
theorem State.swapSlot_keeps_of {p_ : Allow} {z : State} {s : State} {i : Nat} {a_ : _} {t_ : State} (e_ : State.swapSlot s i = (a_, t_)) (hpec_ : p_.may .pec = true) (h_ : Keeps p_ z s) : Keeps p_ z t_ := by
  have k_ := State.swapSlot_keeps (z := z) i hpec_ h_
  rw [e_] at k_; exact k_

theorem State.swapSlots_keeps {p_ : Allow} {z : State} {s : State} (x0 : List Nat)  (hpec_ : p_.may .pec = true) (h_ : Keeps p_ z s) : Keeps p_ z (State.swapSlots s x0).2 := by
  induction x0 generalizing s with
  | nil =>
    unfold State.swapSlots
    repeat' (first | with_reducible assumption | with_reducible exact Keeps.refl _ _ | with_reducible apply ih_ | with_reducible apply State.swapSlot_keeps | with_reducible refine State.swapSlot_keeps_of (by with_reducible assumption) ?_ ?_ | split | dsimp only | intro _ _ | intro _)
  | cons a_ l_ ih_ =>
    unfold State.swapSlots
    repeat' (first | with_reducible assumption | with_reducible exact Keeps.refl _ _ | with_reducible apply ih_ | with_reducible apply State.swapSlot_keeps | with_reducible refine State.swapSlot_keeps_of (by with_reducible assumption) ?_ ?_ | split | dsimp only | intro _ _ | intro _)
theorem State.swapSlots_keeps_of {p_ : Allow} {z : State} {s : State} {x0 : List Nat} {a_ : _} {t_ : State} (e_ : State.swapSlots s x0 = (a_, t_)) (hpec_ : p_.may .pec = true) (h_ : Keeps p_ z s) : Keeps p_ z t_ := by
  have k_ := State.swapSlots_keeps (z := z) x0 hpec_ h_
  rw [e_] at k_; exact k_

theorem bankSwap_keeps {p_ : Allow} {z : State} (a : PecSwapArgs) (queue : Bool) {s : State}  (hpec_ : p_.may .pec = true) (h_ : Keeps p_ z s) : KeepsRes p_ z (bankSwap a queue s) := by
  unfold bankSwap
  repeat' (first | with_reducible assumption | with_reducible exact Keeps.refl _ _ | with_reducible apply refuse_keeps | with_reducible apply State.pecCount_keeps | with_reducible apply State.setPw_keeps | with_reducible apply State.swapSlots_keeps | with_reducible apply ok_keeps | with_reducible refine State.swapSlots_keeps_of (by with_reducible assumption) ?_ ?_ | with_reducible apply KeepsRes.done | with_reducible apply KeepsRes.accepted | with_reducible apply KeepsRes.waiting | with_reducible apply KeepsOut.next | with_reducible apply keeps_foldl | with_reducible apply keeps_foldl_fst | with_reducible apply keeps_foldl_snd | intro _ _ _ | with_reducible apply keepsParts_intro | with_reducible exact Or.inl (by with_reducible assumption) | with_reducible exact Or.inr rfl | simp only [keeps_mk] | with_reducible refine keepsMk_of ?_ ⟨rfl, rfl⟩ (fun h_ => by first | exact h_ | simpa only [updAt_length] using h_ | with_unfolding_all rfl) ?_ ?_ | with_reducible apply keeps_ite | with_reducible apply keepsRes_ite | split | intro _ _ | dsimp only | intro _ _ | intro _)

theorem execPecBankSwap_keeps {p_ : Allow} {z : State} (h : Hdr) (a : PecSwapArgs) {s : State}  (hpec_ : p_.may .pec = true) (htime_ : p_.clock = true) (h_ : Keeps p_ z s) : KeepsOut p_ z (execPecBankSwap h a s) := by
  unfold execPecBankSwap
  repeat' (first | with_reducible assumption | with_reducible exact Keeps.refl _ _ | with_reducible apply runCmd_keeps | with_reducible apply bankSwap_keeps | with_reducible apply KeepsRes.done | with_reducible apply KeepsRes.accepted | with_reducible apply KeepsRes.waiting | with_reducible apply KeepsOut.next | dsimp only | intro _ _ | intro _)

theorem bodyPecSlotRaw_keeps {p_ : Allow} {z : State} (a : PecSlotRawArgs) {s : State}  (hpec_ : p_.may .pec = true) (h_ : Keeps p_ z s) : KeepsRes p_ z (bodyPecSlotRaw a s) := by
  unfold bodyPecSlotRaw
  repeat' (first | with_reducible assumption | with_reducible exact Keeps.refl _ _ | with_reducible apply refuse_keeps | with_reducible apply ok_keeps | with_reducible apply State.writeSlot_keeps | with_reducible apply KeepsRes.done | with_reducible apply KeepsRes.accepted | with_reducible apply KeepsRes.waiting | with_reducible apply KeepsOut.next | with_reducible apply keeps_ite | with_reducible apply keepsRes_ite | split | dsimp only | intro _ _ | intro _)

theorem execPecSlotRaw_keeps {p_ : Allow} {z : State} (h : Hdr) (a : PecSlotRawArgs) {s : State}  (hpec_ : p_.may .pec = true) (htime_ : p_.clock = true) (h_ : Keeps p_ z s) : KeepsOut p_ z (execPecSlotRaw h a s) := by
  unfold execPecSlotRaw
  repeat' (first | with_reducible assumption | with_reducible exact Keeps.refl _ _ | with_reducible apply runCmd_keeps | with_reducible apply bodyPecSlotRaw_keeps | with_reducible apply KeepsRes.done | with_reducible apply KeepsRes.accepted | with_reducible apply KeepsRes.waiting | with_reducible apply KeepsOut.next | dsimp only | intro _ _ | intro _)

theorem State.stageTaps_keeps {p_ : Allow} {z : State} {s : State} (bank : Bool) (prof : Nat) (taps : List Int)  (hpec_ : p_.may .pec = true) (h_ : Keeps p_ z s) : Keeps p_ z (State.stageTaps s bank prof taps) := by
  unfold State.stageTaps
  repeat' (first | with_reducible assumption | with_reducible exact Keeps.refl _ _ | with_reducible apply State.setPw_keeps | with_reducible apply keeps_foldl | with_reducible apply keeps_foldl_fst | with_reducible apply keeps_foldl_snd | intro _ _ _ | dsimp only | intro _ _ | intro _)

theorem bodyPecCoefLoad_keeps {p_ : Allow} {z : State} (a : PecCoefArgs) {s : State}  (hpec_ : p_.may .pec = true) (h_ : Keeps p_ z s) : KeepsRes p_ z (bodyPecCoefLoad a s) := by
  unfold bodyPecCoefLoad
  repeat' (first | with_reducible assumption | with_reducible exact Keeps.refl _ _ | with_reducible apply refuse_keeps | with_reducible apply ok_keeps | with_reducible apply State.stageTaps_keeps | with_reducible apply State.commitTaps_keeps | with_reducible apply KeepsRes.done | with_reducible apply KeepsRes.accepted | with_reducible apply KeepsRes.waiting | with_reducible apply KeepsOut.next | with_reducible apply keepsParts_intro | with_reducible exact Or.inl (by with_reducible assumption) | with_reducible exact Or.inr rfl | simp only [keeps_mk] | with_reducible refine keepsMk_of ?_ ⟨rfl, rfl⟩ (fun h_ => by first | exact h_ | simpa only [updAt_length] using h_ | with_unfolding_all rfl) ?_ ?_ | with_reducible apply keeps_ite | with_reducible apply keepsRes_ite | split | intro _ _ | dsimp only | intro _ _ | intro _)

theorem execPecCoefLoad_keeps {p_ : Allow} {z : State} (h : Hdr) (a : PecCoefArgs) {s : State}  (hpec_ : p_.may .pec = true) (htime_ : p_.clock = true) (h_ : Keeps p_ z s) : KeepsOut p_ z (execPecCoefLoad h a s) := by
  unfold execPecCoefLoad
  repeat' (first | with_reducible assumption | with_reducible exact Keeps.refl _ _ | with_reducible apply runCmd_keeps | with_reducible apply bodyPecCoefLoad_keeps | with_reducible apply KeepsRes.done | with_reducible apply KeepsRes.accepted | with_reducible apply KeepsRes.waiting | with_reducible apply KeepsOut.next | dsimp only | intro _ _ | intro _)

theorem execPecBankSwapX_keeps {p_ : Allow} {z : State} (h : Hdr) (a : PecSwapArgs) {s : State}  (hpec_ : p_.may .pec = true) (htime_ : p_.clock = true) (h_ : Keeps p_ z s) : KeepsOut p_ z (execPecBankSwapX h a s) := by
  unfold execPecBankSwapX
  repeat' (first | with_reducible assumption | with_reducible exact Keeps.refl _ _ | with_reducible apply runCmd_keeps | with_reducible apply bankSwap_keeps | with_reducible apply KeepsRes.done | with_reducible apply KeepsRes.accepted | with_reducible apply KeepsRes.waiting | with_reducible apply KeepsOut.next | dsimp only | intro _ _ | intro _)

theorem bodyPecDsyncCfg_keeps {p_ : Allow} {z : State} (enable falling : Bool) {s : State}  (h_ : Keeps p_ z s) : KeepsRes p_ z (bodyPecDsyncCfg enable falling s) := by
  unfold bodyPecDsyncCfg
  repeat' (first | with_reducible assumption | with_reducible exact Keeps.refl _ _ | with_reducible apply ok_keeps | with_reducible apply State.setRb_keeps | with_reducible apply KeepsRes.done | with_reducible apply KeepsRes.accepted | with_reducible apply KeepsRes.waiting | with_reducible apply KeepsOut.next | dsimp only | intro _ _ | intro _)

theorem execPecDsyncCfg_keeps {p_ : Allow} {z : State} (h : Hdr) (enable falling : Bool) {s : State}  (htime_ : p_.clock = true) (h_ : Keeps p_ z s) : KeepsOut p_ z (execPecDsyncCfg h enable falling s) := by
  unfold execPecDsyncCfg
  repeat' (first | with_reducible assumption | with_reducible exact Keeps.refl _ _ | with_reducible apply runCmd_keeps | with_reducible apply bodyPecDsyncCfg_keeps | with_reducible apply KeepsRes.done | with_reducible apply KeepsRes.accepted | with_reducible apply KeepsRes.waiting | with_reducible apply KeepsOut.next | dsimp only | intro _ _ | intro _)

theorem State.pecTimeStep_keeps {p_ : Allow} {z : State} {s : State}  (hpec_ : p_.may .pec = true) (h_ : Keeps p_ z s) : Keeps p_ z (State.pecTimeStep s) := by
  unfold State.pecTimeStep
  repeat' (first | with_reducible assumption | with_reducible exact Keeps.refl _ _ | with_reducible apply State.setPec_keeps | with_reducible apply State.updSlot_keeps | with_reducible apply keeps_foldl | with_reducible apply keeps_foldl_fst | with_reducible apply keeps_foldl_snd | intro _ _ _ | with_reducible apply keepsParts_intro | with_reducible exact Or.inl (by with_reducible assumption) | with_reducible exact Or.inr rfl | simp only [keeps_mk] | with_reducible refine keepsMk_of ?_ ⟨rfl, rfl⟩ (fun h_ => by first | exact h_ | simpa only [updAt_length] using h_ | with_unfolding_all rfl) ?_ ?_ | split | intro _ _ | dsimp only | intro _ _ | intro _)

theorem State.pecBeforeStep_keeps {p_ : Allow} {z : State} {s : State}  (hpec_ : p_.may .pec = true) (h_ : Keeps p_ z s) : Keeps p_ z (State.pecBeforeStep s) := by
  unfold State.pecBeforeStep
  repeat' (first | with_reducible assumption | with_reducible exact Keeps.refl _ _ | with_reducible apply State.setPec_keeps | with_reducible apply keepsParts_intro | with_reducible exact Or.inl (by with_reducible assumption) | with_reducible exact Or.inr rfl | simp only [keeps_mk] | with_reducible refine keepsMk_of ?_ ⟨rfl, rfl⟩ (fun h_ => by first | exact h_ | simpa only [updAt_length] using h_ | with_unfolding_all rfl) ?_ ?_ | dsimp only | intro _ _ | intro _)

theorem State.resetEstimation_keeps {p_ : Allow} {z : State} {s : State}  (hing_ : p_.may .ing = true) (hpec_ : p_.may .pec = true) (h_ : Keeps p_ z s) : Keeps p_ z (State.resetEstimation s) := by
  unfold State.resetEstimation
  repeat' (first | with_reducible assumption | with_reducible exact Keeps.refl _ _ | with_reducible apply State.resetRegs_keeps | with_reducible apply State.setPec_keeps | with_reducible apply State.updSlot_keeps | with_reducible apply keeps_foldl | with_reducible apply keeps_foldl_fst | with_reducible apply keeps_foldl_snd | intro _ _ _ | with_reducible apply keepsParts_intro | with_reducible exact Or.inl (by with_reducible assumption) | with_reducible exact Or.inr rfl | simp only [keeps_mk] | with_reducible refine keepsMk_of ?_ ⟨rfl, rfl⟩ (fun h_ => by first | exact h_ | simpa only [updAt_length] using h_ | with_unfolding_all rfl) ?_ ?_ | dsimp only | intro _ _ | intro _)

theorem State.resumeEstimation_keeps {p_ : Allow} {z : State} {s : State}  (hpec_ : p_.may .pec = true) (h_ : Keeps p_ z s) : Keeps p_ z (State.resumeEstimation s) := by
  unfold State.resumeEstimation
  repeat' (first | with_reducible assumption | with_reducible exact Keeps.refl _ _ | with_reducible apply State.setPec_keeps | with_reducible apply keepsParts_intro | with_reducible exact Or.inl (by with_reducible assumption) | with_reducible exact Or.inr rfl | simp only [keeps_mk] | with_reducible refine keepsMk_of ?_ ⟨rfl, rfl⟩ (fun h_ => by first | exact h_ | simpa only [updAt_length] using h_ | with_unfolding_all rfl) ?_ ?_ | dsimp only | intro _ _ | intro _)

/-! ### Machine/LimitOps.lean -/

theorem State.putLim_keeps {p_ : Allow} {z : State} {s : State} (l : List (Nat × LimState))  (hlim_ : p_.may .lim = true) (h_ : Keeps p_ z s) : Keeps p_ z (State.putLim s l) := by
  unfold State.putLim
  repeat' (first | with_reducible assumption | with_reducible exact Keeps.refl _ _ | with_reducible apply State.setLim_keeps | with_reducible apply keeps_foldl | with_reducible apply keeps_foldl_fst | with_reducible apply keeps_foldl_snd | intro _ _ _ | with_reducible apply keepsParts_intro | with_reducible exact Or.inl (by with_reducible assumption) | with_reducible exact Or.inr rfl | simp only [keeps_mk] | with_reducible refine keepsMk_of ?_ ⟨rfl, rfl⟩ (fun h_ => by first | exact h_ | simpa only [updAt_length] using h_ | with_unfolding_all rfl) ?_ ?_ | dsimp only | intro _ _ | intro _)

theorem State.limProv_keeps {p_ : Allow} {z : State} {s : State} (x : Snapshot)  (hlim_ : p_.may .lim = true) (h_ : Keeps p_ z s) : Keeps p_ z (State.limProv s x) := by
  unfold State.limProv
  repeat' (first | with_reducible assumption | with_reducible exact Keeps.refl _ _ | with_reducible apply State.setLim_keeps | with_reducible apply State.putLim_keeps | with_reducible apply State.count_keeps | with_reducible apply State.status_keeps | with_reducible apply keepsParts_intro | with_reducible exact Or.inl (by with_reducible assumption) | with_reducible exact Or.inr rfl | simp only [keeps_mk] | with_reducible refine keepsMk_of ?_ ⟨rfl, rfl⟩ (fun h_ => by first | exact h_ | simpa only [updAt_length] using h_ | with_unfolding_all rfl) ?_ ?_ | with_reducible apply keeps_ite | split | dsimp only | intro _ _ | intro _)

theorem State.noteRetractions_keeps {p_ : Allow} {z : State} {s : State} (g : Nat) (t : Instant) (l : List (Nat × Nat))  (hevents_ : p_.may .events = true) (h_ : Keeps p_ z s) : Keeps p_ z (State.noteRetractions s g t l) := by
  unfold State.noteRetractions
  repeat' (first | with_reducible assumption | with_reducible exact Keeps.refl _ _ | with_reducible apply State.count_keeps | with_reducible apply State.status_keeps | with_reducible apply State.raise_keeps | with_reducible apply keepsParts_intro | with_reducible exact Or.inl (by with_reducible assumption) | with_reducible exact Or.inr rfl | simp only [keeps_mk] | with_reducible refine keepsMk_of ?_ ⟨rfl, rfl⟩ (fun h_ => by first | exact h_ | simpa only [updAt_length] using h_ | with_unfolding_all rfl) ?_ ?_ | split | intro _ _ | dsimp only | intro _ _ | intro _)

theorem State.limHandOver_keeps {p_ : Allow} {z : State} {s : State} (config : List Nat) (g k kmax : Nat) (t : Instant)  (hevents_ : p_.may .events = true) (hlim_ : p_.may .lim = true) (h_ : Keeps p_ z s) : Keeps p_ z (State.limHandOver s config g k kmax t).2 := by
  unfold State.limHandOver
  repeat' (first | with_reducible assumption | with_reducible exact Keeps.refl _ _ | with_reducible apply State.setLim_keeps | with_reducible apply State.raiseAs_keeps | with_reducible apply State.noteRetractions_keeps | with_reducible apply keeps_foldl | with_reducible apply keeps_foldl_fst | with_reducible apply keeps_foldl_snd | intro _ _ _ | with_reducible apply keepsParts_intro | with_reducible exact Or.inl (by with_reducible assumption) | with_reducible exact Or.inr rfl | simp only [keeps_mk] | with_reducible refine keepsMk_of ?_ ⟨rfl, rfl⟩ (fun h_ => by first | exact h_ | simpa only [updAt_length] using h_ | with_unfolding_all rfl) ?_ ?_ | with_reducible apply keeps_ite | split | dsimp only | intro _ _ | intro _)
theorem State.limHandOver_keeps_of {p_ : Allow} {z : State} {s : State} {config : List Nat} {g k kmax : Nat} {t : Instant} {a_ : _} {t_ : State} (e_ : State.limHandOver s config g k kmax t = (a_, t_)) (hevents_ : p_.may .events = true) (hlim_ : p_.may .lim = true) (h_ : Keeps p_ z s) : Keeps p_ z t_ := by
  have k_ := State.limHandOver_keeps (z := z) config g k kmax t hevents_ hlim_ h_
  rw [e_] at k_; exact k_

theorem State.mapLim_keeps {p_ : Allow} {z : State} {s : State} (f : Nat → LimState → LimState)  (hlim_ : p_.may .lim = true) (h_ : Keeps p_ z s) : Keeps p_ z (State.mapLim s f) := by
  unfold State.mapLim
  repeat' (first | with_reducible assumption | with_reducible exact Keeps.refl _ _ | with_reducible apply State.setLim_keeps | with_reducible apply keeps_foldl | with_reducible apply keeps_foldl_fst | with_reducible apply keeps_foldl_snd | intro _ _ _ | with_reducible apply keepsParts_intro | with_reducible exact Or.inl (by with_reducible assumption) | with_reducible exact Or.inr rfl | simp only [keeps_mk] | with_reducible refine keepsMk_of ?_ ⟨rfl, rfl⟩ (fun h_ => by first | exact h_ | simpa only [updAt_length] using h_ | with_unfolding_all rfl) ?_ ?_ | dsimp only | intro _ _ | intro _)

theorem State.limConfig_keeps {p_ : Allow} {z : State} {s : State} (g : Nat)  (hlim_ : p_.may .lim = true) (h_ : Keeps p_ z s) : Keeps p_ z (State.limConfig s g) := by
  unfold State.limConfig
  repeat' (first | with_reducible assumption | with_reducible exact Keeps.refl _ _ | with_reducible apply State.setLim_keeps | with_reducible apply State.mapLim_keeps | with_reducible apply keepsParts_intro | with_reducible exact Or.inl (by with_reducible assumption) | with_reducible exact Or.inr rfl | simp only [keeps_mk] | with_reducible refine keepsMk_of ?_ ⟨rfl, rfl⟩ (fun h_ => by first | exact h_ | simpa only [updAt_length] using h_ | with_unfolding_all rfl) ?_ ?_ | with_reducible apply keeps_ite | split | dsimp only | intro _ _ | intro _)

theorem State.limRestore_keeps {p_ : Allow} {z : State} {s : State} (g k : Nat)  (hlim_ : p_.may .lim = true) (h_ : Keeps p_ z s) : Keeps p_ z (State.limRestore s g k).2 := by
  unfold State.limRestore
  repeat' (first | with_reducible assumption | with_reducible exact Keeps.refl _ _ | with_reducible apply State.putLim_keeps | with_reducible apply State.setLim_keeps | with_reducible apply keeps_foldl | with_reducible apply keeps_foldl_fst | with_reducible apply keeps_foldl_snd | intro _ _ _ | with_reducible apply keepsParts_intro | with_reducible exact Or.inl (by with_reducible assumption) | with_reducible exact Or.inr rfl | simp only [keeps_mk] | with_reducible refine keepsMk_of ?_ ⟨rfl, rfl⟩ (fun h_ => by first | exact h_ | simpa only [updAt_length] using h_ | with_unfolding_all rfl) ?_ ?_ | split | dsimp only | intro _ _ | intro _)
theorem State.limRestore_keeps_of {p_ : Allow} {z : State} {s : State} {g k : Nat} {a_ : _} {t_ : State} (e_ : State.limRestore s g k = (a_, t_)) (hlim_ : p_.may .lim = true) (h_ : Keeps p_ z s) : Keeps p_ z t_ := by
  have k_ := State.limRestore_keeps (z := z) g k hlim_ h_
  rw [e_] at k_; exact k_

theorem State.limCommitEval_keeps {p_ : Allow} {z : State} {s : State} (config : List Nat) (x : Snapshot)  (hevents_ : p_.may .events = true) (hlim_ : p_.may .lim = true) (h_ : Keeps p_ z s) : Keeps p_ z (State.limCommitEval s config x).2 := by
  unfold State.limCommitEval
  repeat' (first | with_reducible assumption | with_reducible exact Keeps.refl _ _ | with_reducible apply State.limRestore_keeps | with_reducible apply State.putLim_keeps | with_reducible apply State.limHandOver_keeps | with_reducible apply State.limProv_keeps | with_reducible refine State.limRestore_keeps_of (by with_reducible assumption) ?_ ?_ | with_reducible refine State.limHandOver_keeps_of (by with_reducible assumption) ?_ ?_ ?_ | with_reducible apply keeps_foldl | with_reducible apply keeps_foldl_fst | with_reducible apply keeps_foldl_snd | intro _ _ _ | dsimp only | intro _ _ | intro _)
theorem State.limCommitEval_keeps_of {p_ : Allow} {z : State} {s : State} {config : List Nat} {x : Snapshot} {a_ : _} {t_ : State} (e_ : State.limCommitEval s config x = (a_, t_)) (hevents_ : p_.may .events = true) (hlim_ : p_.may .lim = true) (h_ : Keeps p_ z s) : Keeps p_ z t_ := by
  have k_ := State.limCommitEval_keeps (z := z) config x hevents_ hlim_ h_
  rw [e_] at k_; exact k_

theorem State.limCommit_keeps {p_ : Allow} {z : State} {s0 : State} (x : Snapshot) (confirmed : Bool)  (hevents_ : p_.may .events = true) (hlim_ : p_.may .lim = true) (h_ : Keeps p_ z s0) : Keeps p_ z (State.limCommit s0 x confirmed).2 := by
  unfold State.limCommit
  repeat' (first | with_reducible assumption | with_reducible exact Keeps.refl _ _ | with_reducible apply State.limConfig_keeps | with_reducible apply State.setLim_keeps | with_reducible apply State.mapLim_keeps | with_reducible apply State.limHandOver_keeps | with_reducible apply State.limCommitEval_keeps | with_reducible refine State.limHandOver_keeps_of (by with_reducible assumption) ?_ ?_ ?_ | with_reducible refine State.limCommitEval_keeps_of (by with_reducible assumption) ?_ ?_ ?_ | with_reducible apply keepsParts_intro | with_reducible exact Or.inl (by with_reducible assumption) | with_reducible exact Or.inr rfl | simp only [keeps_mk] | with_reducible refine keepsMk_of ?_ ⟨rfl, rfl⟩ (fun h_ => by first | exact h_ | simpa only [updAt_length] using h_ | with_unfolding_all rfl) ?_ ?_ | with_reducible apply keeps_ite | split | intro _ _ | dsimp only | intro _ _ | intro _)
theorem State.limCommit_keeps_of {p_ : Allow} {z : State} {s0 : State} {x : Snapshot} {confirmed : Bool} {a_ : _} {t_ : State} (e_ : State.limCommit s0 x confirmed = (a_, t_)) (hevents_ : p_.may .events = true) (hlim_ : p_.may .lim = true) (h_ : Keeps p_ z s0) : Keeps p_ z t_ := by
  have k_ := State.limCommit_keeps (z := z) x confirmed hevents_ hlim_ h_
  rw [e_] at k_; exact k_

theorem State.limFlush_keeps {p_ : Allow} {z : State} {s : State} (g k : Nat) (t : Instant)  (hevents_ : p_.may .events = true) (hlim_ : p_.may .lim = true) (h_ : Keeps p_ z s) : Keeps p_ z (State.limFlush s g k t).2 := by
  unfold State.limFlush
  repeat' (first | with_reducible assumption | with_reducible exact Keeps.refl _ _ | with_reducible apply State.limRestore_keeps | with_reducible apply State.limHandOver_keeps | with_reducible refine State.limRestore_keeps_of (by with_reducible assumption) ?_ ?_ | with_reducible refine State.limHandOver_keeps_of (by with_reducible assumption) ?_ ?_ ?_ | with_reducible apply keeps_foldl | with_reducible apply keeps_foldl_fst | with_reducible apply keeps_foldl_snd | intro _ _ _ | dsimp only | intro _ _ | intro _)
theorem State.limFlush_keeps_of {p_ : Allow} {z : State} {s : State} {g k : Nat} {t : Instant} {a_ : _} {t_ : State} (e_ : State.limFlush s g k t = (a_, t_)) (hevents_ : p_.may .events = true) (hlim_ : p_.may .lim = true) (h_ : Keeps p_ z s) : Keeps p_ z t_ := by
  have k_ := State.limFlush_keeps (z := z) g k t hevents_ hlim_ h_
  rw [e_] at k_; exact k_

theorem State.resetLimits_keeps {p_ : Allow} {z : State} {s : State}  (hlim_ : p_.may .lim = true) (h_ : Keeps p_ z s) : Keeps p_ z (State.resetLimits s) := by
  unfold State.resetLimits
  repeat' (first | with_reducible assumption | with_reducible exact Keeps.refl _ _ | with_reducible apply State.setLim_keeps | with_reducible apply keepsParts_intro | with_reducible exact Or.inl (by with_reducible assumption) | with_reducible exact Or.inr rfl | simp only [keeps_mk] | with_reducible refine keepsMk_of ?_ ⟨rfl, rfl⟩ (fun h_ => by first | exact h_ | simpa only [updAt_length] using h_ | with_unfolding_all rfl) ?_ ?_ | dsimp only | intro _ _ | intro _)

/-! ### Machine/IslandOps.lean -/

theorem State.islCount_keeps {p_ : Allow} {z : State} {s : State} (i n : Nat)  (h_ : Keeps p_ z s) : Keeps p_ z (State.islCount s i n) := by
  unfold State.islCount
  repeat' (first | with_reducible assumption | with_reducible exact Keeps.refl _ _ | with_reducible apply State.count_keeps | dsimp only | intro _ _ | intro _)

theorem State.activateModel_keeps {p_ : Allow} {z : State} {s : State} (t : Instant)  (hisl_ : p_.may .isl = true) (h_ : Keeps p_ z s) : Keeps p_ z (State.activateModel s t) := by
  unfold State.activateModel
  repeat' (first | with_reducible assumption | with_reducible exact Keeps.refl _ _ | with_reducible apply State.setIsl_keeps | with_reducible apply State.status_keeps | with_reducible apply keepsParts_intro | with_reducible exact Or.inl (by with_reducible assumption) | with_reducible exact Or.inr rfl | simp only [keeps_mk] | with_reducible refine keepsMk_of ?_ ⟨rfl, rfl⟩ (fun h_ => by first | exact h_ | simpa only [updAt_length] using h_ | with_unfolding_all rfl) ?_ ?_ | dsimp only | intro _ _ | intro _)

theorem State.sendSummary_keeps {p_ : Allow} {z : State} {s : State} (x : Snapshot)  (hisl_ : p_.may .isl = true) (h_ : Keeps p_ z s) : Keeps p_ z (State.sendSummary s x) := by
  unfold State.sendSummary
  repeat' (first | with_reducible assumption | with_reducible exact Keeps.refl _ _ | with_reducible apply State.setIsl_keeps | with_reducible apply State.ringOut_keeps | with_reducible apply keepsParts_intro | with_reducible exact Or.inl (by with_reducible assumption) | with_reducible exact Or.inr rfl | simp only [keeps_mk] | with_reducible refine keepsMk_of ?_ ⟨rfl, rfl⟩ (fun h_ => by first | exact h_ | simpa only [updAt_length] using h_ | with_unfolding_all rfl) ?_ ?_ | with_reducible apply keeps_ite | split | intro _ _ | dsimp only | intro _ _ | intro _)

theorem State.islHandOver_keeps {p_ : Allow} {z : State} {s : State} (g k kmax : Nat) (t : Instant)  (hevents_ : p_.may .events = true) (hisl_ : p_.may .isl = true) (h_ : Keeps p_ z s) : Keeps p_ z (State.islHandOver s g k kmax t).2 := by
  unfold State.islHandOver
  repeat' (first | with_reducible assumption | with_reducible exact Keeps.refl _ _ | with_reducible apply State.setIsl_keeps | with_reducible apply State.raiseAs_keeps | with_reducible apply State.noteRetractions_keeps | with_reducible apply keeps_foldl | with_reducible apply keeps_foldl_fst | with_reducible apply keeps_foldl_snd | intro _ _ _ | with_reducible apply keepsParts_intro | with_reducible exact Or.inl (by with_reducible assumption) | with_reducible exact Or.inr rfl | simp only [keeps_mk] | with_reducible refine keepsMk_of ?_ ⟨rfl, rfl⟩ (fun h_ => by first | exact h_ | simpa only [updAt_length] using h_ | with_unfolding_all rfl) ?_ ?_ | with_reducible apply keeps_ite | split | dsimp only | intro _ _ | intro _)
theorem State.islHandOver_keeps_of {p_ : Allow} {z : State} {s : State} {g k kmax : Nat} {t : Instant} {a_ : _} {t_ : State} (e_ : State.islHandOver s g k kmax t = (a_, t_)) (hevents_ : p_.may .events = true) (hisl_ : p_.may .isl = true) (h_ : Keeps p_ z s) : Keeps p_ z t_ := by
  have k_ := State.islHandOver_keeps (z := z) g k kmax t hevents_ hisl_ h_
  rw [e_] at k_; exact k_

theorem State.noteEval_keeps {p_ : Allow} {z : State} {s : State} (v : View) (o : IslOut)  (h_ : Keeps p_ z s) : Keeps p_ z (State.noteEval s v o) := by
  unfold State.noteEval
  repeat' (first | with_reducible assumption | with_reducible exact Keeps.refl _ _ | with_reducible apply State.islCount_keeps | with_reducible apply State.status_keeps | with_reducible apply keeps_ite | split | dsimp only | intro _ _ | intro _)

theorem State.islProv_keeps {p_ : Allow} {z : State} {s : State} (m : Model) (v : View)  (hisl_ : p_.may .isl = true) (h_ : Keeps p_ z s) : Keeps p_ z (State.islProv s m v) := by
  unfold State.islProv
  repeat' (first | with_reducible assumption | with_reducible exact Keeps.refl _ _ | with_reducible apply State.setIsl_keeps | with_reducible apply State.noteEval_keeps | with_reducible apply State.setRf_keeps | with_reducible apply State.islCount_keeps | with_reducible apply State.status_keeps | with_reducible apply keepsParts_intro | with_reducible exact Or.inl (by with_reducible assumption) | with_reducible exact Or.inr rfl | simp only [keeps_mk] | with_reducible refine keepsMk_of ?_ ⟨rfl, rfl⟩ (fun h_ => by first | exact h_ | simpa only [updAt_length] using h_ | with_unfolding_all rfl) ?_ ?_ | with_reducible apply keeps_ite | split | dsimp only | intro _ _ | intro _)

theorem State.showView_keeps {p_ : Allow} {z : State} {s : State} (v : View) (x : IslShow)  (hisl_ : p_.may .isl = true) (h_ : Keeps p_ z s) : Keeps p_ z (State.showView s v x) := by
  unfold State.showView
  repeat' (first | with_reducible assumption | with_reducible exact Keeps.refl _ _ | with_reducible apply State.setIsl_keeps | with_reducible apply State.status_keeps | with_reducible apply keepsParts_intro | with_reducible exact Or.inl (by with_reducible assumption) | with_reducible exact Or.inr rfl | simp only [keeps_mk] | with_reducible refine keepsMk_of ?_ ⟨rfl, rfl⟩ (fun h_ => by first | exact h_ | simpa only [updAt_length] using h_ | with_unfolding_all rfl) ?_ ?_ | dsimp only | intro _ _ | intro _)

theorem State.islCommitView_keeps {p_ : Allow} {z : State} {s : State} (m : Model) (v : View)  (hisl_ : p_.may .isl = true) (h_ : Keeps p_ z s) : Keeps p_ z (State.islCommitView s m v) := by
  unfold State.islCommitView
  repeat' (first | with_reducible assumption | with_reducible exact Keeps.refl _ _ | with_reducible apply State.setIsl_keeps | with_reducible apply State.noteEval_keeps | with_reducible apply State.showView_keeps | with_reducible apply keepsParts_intro | with_reducible exact Or.inl (by with_reducible assumption) | with_reducible exact Or.inr rfl | simp only [keeps_mk] | with_reducible refine keepsMk_of ?_ ⟨rfl, rfl⟩ (fun h_ => by first | exact h_ | simpa only [updAt_length] using h_ | with_unfolding_all rfl) ?_ ?_ | dsimp only | intro _ _ | intro _)

theorem State.islRestore_keeps {p_ : Allow} {z : State} {s : State} (k : Nat)  (hisl_ : p_.may .isl = true) (h_ : Keeps p_ z s) : Keeps p_ z (State.islRestore s k).2 := by
  unfold State.islRestore
  repeat' (first | with_reducible assumption | with_reducible exact Keeps.refl _ _ | with_reducible apply State.setIsl_keeps | with_reducible apply keeps_foldl | with_reducible apply keeps_foldl_fst | with_reducible apply keeps_foldl_snd | intro _ _ _ | with_reducible apply keepsParts_intro | with_reducible exact Or.inl (by with_reducible assumption) | with_reducible exact Or.inr rfl | simp only [keeps_mk] | with_reducible refine keepsMk_of ?_ ⟨rfl, rfl⟩ (fun h_ => by first | exact h_ | simpa only [updAt_length] using h_ | with_unfolding_all rfl) ?_ ?_ | with_reducible apply keeps_ite | split | dsimp only | intro _ _ | intro _)
theorem State.islRestore_keeps_of {p_ : Allow} {z : State} {s : State} {k : Nat} {a_ : _} {t_ : State} (e_ : State.islRestore s k = (a_, t_)) (hisl_ : p_.may .isl = true) (h_ : Keeps p_ z s) : Keeps p_ z t_ := by
  have k_ := State.islRestore_keeps (z := z) k hisl_ h_
  rw [e_] at k_; exact k_

theorem State.islCommitEval_keeps {p_ : Allow} {z : State} {s : State} (m : Model) (v : View)  (hevents_ : p_.may .events = true) (hisl_ : p_.may .isl = true) (h_ : Keeps p_ z s) : Keeps p_ z (State.islCommitEval s m v).2 := by
  unfold State.islCommitEval
  repeat' (first | with_reducible assumption | with_reducible exact Keeps.refl _ _ | with_reducible apply State.islRestore_keeps | with_reducible apply State.islCommitView_keeps | with_reducible apply State.issueBarrier_keeps | with_reducible apply State.islHandOver_keeps | with_reducible apply State.islProv_keeps | with_reducible refine State.islRestore_keeps_of (by with_reducible assumption) ?_ ?_ | with_reducible refine State.islHandOver_keeps_of (by with_reducible assumption) ?_ ?_ ?_ | with_reducible apply keeps_foldl | with_reducible apply keeps_foldl_fst | with_reducible apply keeps_foldl_snd | intro _ _ _ | dsimp only | intro _ _ | intro _)
theorem State.islCommitEval_keeps_of {p_ : Allow} {z : State} {s : State} {m : Model} {v : View} {a_ : _} {t_ : State} (e_ : State.islCommitEval s m v = (a_, t_)) (hevents_ : p_.may .events = true) (hisl_ : p_.may .isl = true) (h_ : Keeps p_ z s) : Keeps p_ z t_ := by
  have k_ := State.islCommitEval_keeps (z := z) m v hevents_ hisl_ h_
  rw [e_] at k_; exact k_

theorem State.islConfirm_keeps {p_ : Allow} {z : State} {s : State} (m : Model) (c : IslCkpt)  (hevents_ : p_.may .events = true) (hisl_ : p_.may .isl = true) (h_ : Keeps p_ z s) : Keeps p_ z (State.islConfirm s m c).2 := by
  unfold State.islConfirm
  repeat' (first | with_reducible assumption | with_reducible exact Keeps.refl _ _ | with_reducible apply State.setIsl_keeps | with_reducible apply State.showView_keeps | with_reducible apply State.islHandOver_keeps | with_reducible refine State.islHandOver_keeps_of (by with_reducible assumption) ?_ ?_ ?_ | with_reducible apply keepsParts_intro | with_reducible exact Or.inl (by with_reducible assumption) | with_reducible exact Or.inr rfl | simp only [keeps_mk] | with_reducible refine keepsMk_of ?_ ⟨rfl, rfl⟩ (fun h_ => by first | exact h_ | simpa only [updAt_length] using h_ | with_unfolding_all rfl) ?_ ?_ | dsimp only | intro _ _ | intro _)
theorem State.islConfirm_keeps_of {p_ : Allow} {z : State} {s : State} {m : Model} {c : IslCkpt} {a_ : _} {t_ : State} (e_ : State.islConfirm s m c = (a_, t_)) (hevents_ : p_.may .events = true) (hisl_ : p_.may .isl = true) (h_ : Keeps p_ z s) : Keeps p_ z t_ := by
  have k_ := State.islConfirm_keeps (z := z) m c hevents_ hisl_ h_
  rw [e_] at k_; exact k_

theorem State.islCommit_keeps {p_ : Allow} {z : State} {s : State} (m : Model) (x : Snapshot) (confirmed : Bool)  (hevents_ : p_.may .events = true) (hisl_ : p_.may .isl = true) (h_ : Keeps p_ z s) : Keeps p_ z (State.islCommit s m x confirmed).2 := by
  unfold State.islCommit
  repeat' (first | with_reducible assumption | with_reducible exact Keeps.refl _ _ | with_reducible apply State.islConfirm_keeps | with_reducible apply State.islCommitEval_keeps | with_reducible refine State.islConfirm_keeps_of (by with_reducible assumption) ?_ ?_ ?_ | with_reducible refine State.islCommitEval_keeps_of (by with_reducible assumption) ?_ ?_ ?_ | with_reducible apply keepsParts_intro | with_reducible exact Or.inl (by with_reducible assumption) | with_reducible exact Or.inr rfl | simp only [keeps_mk] | with_reducible refine keepsMk_of ?_ ⟨rfl, rfl⟩ (fun h_ => by first | exact h_ | simpa only [updAt_length] using h_ | with_unfolding_all rfl) ?_ ?_ | with_reducible apply keeps_ite | split | intro _ _ | dsimp only | intro _ _ | intro _)
theorem State.islCommit_keeps_of {p_ : Allow} {z : State} {s : State} {m : Model} {x : Snapshot} {confirmed : Bool} {a_ : _} {t_ : State} (e_ : State.islCommit s m x confirmed = (a_, t_)) (hevents_ : p_.may .events = true) (hisl_ : p_.may .isl = true) (h_ : Keeps p_ z s) : Keeps p_ z t_ := by
  have k_ := State.islCommit_keeps (z := z) m x confirmed hevents_ hisl_ h_
  rw [e_] at k_; exact k_

theorem State.islFlush_keeps {p_ : Allow} {z : State} {s : State} (g k0 : Nat) (t : Instant)  (hevents_ : p_.may .events = true) (hisl_ : p_.may .isl = true) (h_ : Keeps p_ z s) : Keeps p_ z (State.islFlush s g k0 t).2 := by
  unfold State.islFlush
  repeat' (first | with_reducible assumption | with_reducible exact Keeps.refl _ _ | with_reducible apply State.islRestore_keeps | with_reducible apply State.setIsl_keeps | with_reducible apply State.islHandOver_keeps | with_reducible refine State.islRestore_keeps_of (by with_reducible assumption) ?_ ?_ | with_reducible refine State.islHandOver_keeps_of (by with_reducible assumption) ?_ ?_ ?_ | with_reducible apply keeps_foldl | with_reducible apply keeps_foldl_fst | with_reducible apply keeps_foldl_snd | intro _ _ _ | with_reducible apply keepsParts_intro | with_reducible exact Or.inl (by with_reducible assumption) | with_reducible exact Or.inr rfl | simp only [keeps_mk] | with_reducible refine keepsMk_of ?_ ⟨rfl, rfl⟩ (fun h_ => by first | exact h_ | simpa only [updAt_length] using h_ | with_unfolding_all rfl) ?_ ?_ | dsimp only | intro _ _ | intro _)
theorem State.islFlush_keeps_of {p_ : Allow} {z : State} {s : State} {g k0 : Nat} {t : Instant} {a_ : _} {t_ : State} (e_ : State.islFlush s g k0 t = (a_, t_)) (hevents_ : p_.may .events = true) (hisl_ : p_.may .isl = true) (h_ : Keeps p_ z s) : Keeps p_ z t_ := by
  have k_ := State.islFlush_keeps (z := z) g k0 t hevents_ hisl_ h_
  rw [e_] at k_; exact k_

theorem State.batch_keeps {p_ : Allow} {z : State} {s : State} (g : Nat) (t : Instant) (l : List AlarmChange)  (hbatches_ : p_.may .batches = true) (h_ : Keeps p_ z s) : Keeps p_ z (State.batch s g t l) := by
  unfold State.batch
  repeat' (first | with_reducible assumption | with_reducible exact Keeps.refl _ _ | with_reducible apply keepsParts_intro | with_reducible exact Or.inl (by with_reducible assumption) | with_reducible exact Or.inr rfl | simp only [keeps_mk] | with_reducible refine keepsMk_of ?_ ⟨rfl, rfl⟩ (fun h_ => by first | exact h_ | simpa only [updAt_length] using h_ | with_unfolding_all rfl) ?_ ?_ | with_reducible apply keeps_ite | split | dsimp only | intro _ _ | intro _)

theorem State.islStop_keeps {p_ : Allow} {z : State} {s : State} (g : Nat) (t : Instant)  (hevents_ : p_.may .events = true) (hisl_ : p_.may .isl = true) (hbatches_ : p_.may .batches = true) (h_ : Keeps p_ z s) : Keeps p_ z (State.islStop s g t) := by
  unfold State.islStop
  repeat' (first | with_reducible assumption | with_reducible exact Keeps.refl _ _ | with_reducible apply State.setIsl_keeps | with_reducible apply State.islHandOver_keeps | with_reducible apply State.batch_keeps | with_reducible refine State.islHandOver_keeps_of (by with_reducible assumption) ?_ ?_ ?_ | with_reducible apply keeps_foldl | with_reducible apply keeps_foldl_fst | with_reducible apply keeps_foldl_snd | intro _ _ _ | with_reducible apply keepsParts_intro | with_reducible exact Or.inl (by with_reducible assumption) | with_reducible exact Or.inr rfl | simp only [keeps_mk] | with_reducible refine keepsMk_of ?_ ⟨rfl, rfl⟩ (fun h_ => by first | exact h_ | simpa only [updAt_length] using h_ | with_unfolding_all rfl) ?_ ?_ | with_reducible apply keeps_ite | split | intro _ _ | dsimp only | intro _ _ | intro _)

theorem State.resetIslands_keeps {p_ : Allow} {z : State} {s : State}  (hisl_ : p_.may .isl = true) (h_ : Keeps p_ z s) : Keeps p_ z (State.resetIslands s) := by
  unfold State.resetIslands
  repeat' (first | with_reducible assumption | with_reducible exact Keeps.refl _ _ | with_reducible apply State.setIsl_keeps | with_reducible apply keepsParts_intro | with_reducible exact Or.inl (by with_reducible assumption) | with_reducible exact Or.inr rfl | simp only [keeps_mk] | with_reducible refine keepsMk_of ?_ ⟨rfl, rfl⟩ (fun h_ => by first | exact h_ | simpa only [updAt_length] using h_ | with_unfolding_all rfl) ?_ ?_ | dsimp only | intro _ _ | intro _)

/-! ### Machine/AccordOps.lean -/

theorem State.updGroup_keeps {p_ : Allow} {z : State} {s : State} (g : Nat) (f : Group → Group)  (haln_ : p_.may .aln = true) (h_ : Keeps p_ z s) : Keeps p_ z (State.updGroup s g f) := by
  unfold State.updGroup
  repeat' (first | with_reducible assumption | with_reducible exact Keeps.refl _ _ | with_reducible apply State.setAln_keeps | with_reducible apply keepsParts_intro | with_reducible exact Or.inl (by with_reducible assumption) | with_reducible exact Or.inr rfl | simp only [keeps_mk] | with_reducible refine keepsMk_of ?_ ⟨rfl, rfl⟩ (fun h_ => by first | exact h_ | simpa only [updAt_length] using h_ | with_unfolding_all rfl) ?_ ?_ | dsimp only | intro _ _ | intro _)

theorem State.alnCount_keeps {p_ : Allow} {z : State} {s : State} (g i n : Nat)  (h_ : Keeps p_ z s) : Keeps p_ z (State.alnCount s g i n) := by
  unfold State.alnCount
  repeat' (first | with_reducible assumption | with_reducible exact Keeps.refl _ _ | with_reducible apply State.count_keeps | dsimp only | intro _ _ | intro _)

theorem State.splCount_keeps {p_ : Allow} {z : State} {s : State} (g i n : Nat)  (h_ : Keeps p_ z s) : Keeps p_ z (State.splCount s g i n) := by
  unfold State.splCount
  repeat' (first | with_reducible assumption | with_reducible exact Keeps.refl _ _ | with_reducible apply State.count_keeps | dsimp only | intro _ _ | intro _)

theorem State.setChanWord_keeps {p_ : Allow} {z : State} {s : State} (c : Nat) (w : Word)  (haln_ : p_.may .aln = true) (h_ : Keeps p_ z s) : Keeps p_ z (State.setChanWord s c w) := by
  unfold State.setChanWord
  repeat' (first | with_reducible assumption | with_reducible exact Keeps.refl _ _ | with_reducible apply State.setAln_keeps | with_reducible apply keepsParts_intro | with_reducible exact Or.inl (by with_reducible assumption) | with_reducible exact Or.inr rfl | simp only [keeps_mk] | with_reducible refine keepsMk_of ?_ ⟨rfl, rfl⟩ (fun h_ => by first | exact h_ | simpa only [updAt_length] using h_ | with_unfolding_all rfl) ?_ ?_ | dsimp only | intro _ _ | intro _)

theorem State.openNext_keeps {p_ : Allow} {z : State} {s : State} (g : Nat)  (haln_ : p_.may .aln = true) (h_ : Keeps p_ z s) : Keeps p_ z (State.openNext s g) := by
  unfold State.openNext
  repeat' (first | with_reducible assumption | with_reducible exact Keeps.refl _ _ | with_reducible apply State.updGroup_keeps | with_reducible apply keepsParts_intro | with_reducible exact Or.inl (by with_reducible assumption) | with_reducible exact Or.inr rfl | simp only [keeps_mk] | with_reducible refine keepsMk_of ?_ ⟨rfl, rfl⟩ (fun h_ => by first | exact h_ | simpa only [updAt_length] using h_ | with_unfolding_all rfl) ?_ ?_ | with_reducible apply keeps_ite | split | dsimp only | intro _ _ | intro _)

theorem State.openDue_keeps {p_ : Allow} {z : State} {s : State} (g : Nat)  (haln_ : p_.may .aln = true) (h_ : Keeps p_ z s) : Keeps p_ z (State.openDue s g) := by
  unfold State.openDue
  repeat' (first | with_reducible assumption | with_reducible exact Keeps.refl _ _ | with_reducible apply State.openNext_keeps | with_reducible apply keeps_foldl | with_reducible apply keeps_foldl_fst | with_reducible apply keeps_foldl_snd | intro _ _ _ | with_reducible apply keeps_ite | split | dsimp only | intro _ _ | intro _)

theorem State.updAsm_keeps {p_ : Allow} {z : State} {s : State} (g k : Nat) (f : Asm → Asm)  (haln_ : p_.may .aln = true) (h_ : Keeps p_ z s) : Keeps p_ z (State.updAsm s g k f) := by
  unfold State.updAsm
  repeat' (first | with_reducible assumption | with_reducible exact Keeps.refl _ _ | with_reducible apply State.updGroup_keeps | with_reducible apply keepsParts_intro | with_reducible exact Or.inl (by with_reducible assumption) | with_reducible exact Or.inr rfl | simp only [keeps_mk] | with_reducible refine keepsMk_of ?_ ⟨rfl, rfl⟩ (fun h_ => by first | exact h_ | simpa only [updAt_length] using h_ | with_unfolding_all rfl) ?_ ?_ | with_reducible apply keeps_ite | split | dsimp only | intro _ _ | intro _)

theorem State.updEntry_keeps {p_ : Allow} {z : State} {s : State} (i : Nat) (f : LedgerEntry → LedgerEntry)  (haln_ : p_.may .aln = true) (h_ : Keeps p_ z s) : Keeps p_ z (State.updEntry s i f) := by
  unfold State.updEntry
  repeat' (first | with_reducible assumption | with_reducible exact Keeps.refl _ _ | with_reducible apply State.setAln_keeps | with_reducible apply keepsParts_intro | with_reducible exact Or.inl (by with_reducible assumption) | with_reducible exact Or.inr rfl | simp only [keeps_mk] | with_reducible refine keepsMk_of ?_ ⟨rfl, rfl⟩ (fun h_ => by first | exact h_ | simpa only [updAt_length] using h_ | with_unfolding_all rfl) ?_ ?_ | with_reducible apply keeps_ite | split | dsimp only | intro _ _ | intro _)

theorem State.retire_keeps {p_ : Allow} {z : State} {s : State} (g k : Nat)  (haln_ : p_.may .aln = true) (h_ : Keeps p_ z s) : Keeps p_ z (State.retire s g k) := by
  unfold State.retire
  repeat' (first | with_reducible assumption | with_reducible exact Keeps.refl _ _ | with_reducible apply State.updEntry_keeps | with_reducible apply keepsParts_intro | with_reducible exact Or.inl (by with_reducible assumption) | with_reducible exact Or.inr rfl | simp only [keeps_mk] | with_reducible refine keepsMk_of ?_ ⟨rfl, rfl⟩ (fun h_ => by first | exact h_ | simpa only [updAt_length] using h_ | with_unfolding_all rfl) ?_ ?_ | split | intro _ _ | dsimp only | intro _ _ | intro _)

theorem State.trigger_keeps {p_ : Allow} {z : State} {s : State} (g k : Nat)  (haln_ : p_.may .aln = true) (h_ : Keeps p_ z s) : Keeps p_ z (State.trigger s g k) := by
  unfold State.trigger
  repeat' (first | with_reducible assumption | with_reducible exact Keeps.refl _ _ | with_reducible apply State.updAsm_keeps | with_reducible apply State.updEntry_keeps | with_reducible apply State.peerOut_keeps | with_reducible apply State.setPair_keeps | with_reducible apply State.setAln_keeps | with_reducible apply keepsParts_intro | with_reducible exact Or.inl (by with_reducible assumption) | with_reducible exact Or.inr rfl | simp only [keeps_mk] | with_reducible refine keepsMk_of ?_ ⟨rfl, rfl⟩ (fun h_ => by first | exact h_ | simpa only [updAt_length] using h_ | with_unfolding_all rfl) ?_ ?_ | with_reducible apply keeps_ite | split | intro _ _ | dsimp only | intro _ _ | intro _)

theorem State.placeValue_keeps {p_ : Allow} {z : State} {s : State} (g : Nat) (v : ChanValue) (a : Asm)  (haln_ : p_.may .aln = true) (h_ : Keeps p_ z s) : Keeps p_ z (State.placeValue s g v a) := by
  unfold State.placeValue
  repeat' (first | with_reducible assumption | with_reducible exact Keeps.refl _ _ | with_reducible apply State.count_keeps | with_reducible apply State.alnCount_keeps | with_reducible apply State.status_keeps | with_reducible apply State.deadline_keeps | with_reducible apply State.updAsm_keeps | with_reducible apply State.complete_keeps | with_reducible apply State.trigger_keeps | with_reducible apply keepsParts_intro | with_reducible exact Or.inl (by with_reducible assumption) | with_reducible exact Or.inr rfl | simp only [keeps_mk] | with_reducible refine keepsMk_of ?_ ⟨rfl, rfl⟩ (fun h_ => by first | exact h_ | simpa only [updAt_length] using h_ | with_unfolding_all rfl) ?_ ?_ | with_reducible apply keeps_ite | split | intro _ _ | dsimp only | intro _ _ | intro _)

theorem State.acceptValue_keeps {p_ : Allow} {z : State} {s : State} (v : ChanValue)  (haln_ : p_.may .aln = true) (h_ : Keeps p_ z s) : Keeps p_ z (State.acceptValue s v) := by
  unfold State.acceptValue
  repeat' (first | with_reducible assumption | with_reducible exact Keeps.refl _ _ | with_reducible apply State.count_keeps | with_reducible apply State.alnCount_keeps | with_reducible apply State.status_keeps | with_reducible apply State.openDue_keeps | with_reducible apply State.placeValue_keeps | with_reducible apply keepsParts_intro | with_reducible exact Or.inl (by with_reducible assumption) | with_reducible exact Or.inr rfl | simp only [keeps_mk] | with_reducible refine keepsMk_of ?_ ⟨rfl, rfl⟩ (fun h_ => by first | exact h_ | simpa only [updAt_length] using h_ | with_unfolding_all rfl) ?_ ?_ | with_reducible apply keeps_ite | split | intro _ _ | dsimp only | intro _ _ | intro _)

theorem State.applyClasses_keeps {p_ : Allow} {z : State} {s : State}  (haln_ : p_.may .aln = true) (h_ : Keeps p_ z s) : Keeps p_ z (State.applyClasses s) := by
  unfold State.applyClasses
  repeat' (first | with_reducible assumption | with_reducible exact Keeps.refl _ _ | with_reducible apply State.setAln_keeps | with_reducible apply keepsParts_intro | with_reducible exact Or.inl (by with_reducible assumption) | with_reducible exact Or.inr rfl | simp only [keeps_mk] | with_reducible refine keepsMk_of ?_ ⟨rfl, rfl⟩ (fun h_ => by first | exact h_ | simpa only [updAt_length] using h_ | with_unfolding_all rfl) ?_ ?_ | with_reducible apply keeps_ite | split | intro _ _ | dsimp only | intro _ _ | intro _)

theorem State.foldClasses_keeps {p_ : Allow} {z : State} {s : State} (l : List Nat)  (haln_ : p_.may .aln = true) (h_ : Keeps p_ z s) : Keeps p_ z (State.foldClasses s l) := by
  unfold State.foldClasses
  repeat' (first | with_reducible assumption | with_reducible exact Keeps.refl _ _ | with_reducible apply State.setAln_keeps | with_reducible apply keeps_foldl | with_reducible apply keeps_foldl_fst | with_reducible apply keeps_foldl_snd | intro _ _ _ | with_reducible apply keepsParts_intro | with_reducible exact Or.inl (by with_reducible assumption) | with_reducible exact Or.inr rfl | simp only [keeps_mk] | with_reducible refine keepsMk_of ?_ ⟨rfl, rfl⟩ (fun h_ => by first | exact h_ | simpa only [updAt_length] using h_ | with_unfolding_all rfl) ?_ ?_ | with_reducible apply keeps_ite | split | intro _ _ | dsimp only | intro _ _ | intro _)

theorem State.resumeSpec_keeps {p_ : Allow} {z : State} {s : State} (g : Nat)  (hevents_ : p_.may .events = true) (haln_ : p_.may .aln = true) (h_ : Keeps p_ z s) : Keeps p_ z (State.resumeSpec s g) := by
  unfold State.resumeSpec
  repeat' (first | with_reducible assumption | with_reducible exact Keeps.refl _ _ | with_reducible apply State.updGroup_keeps | with_reducible apply State.raise_keeps | with_reducible apply State.count_keeps | with_reducible apply keepsParts_intro | with_reducible exact Or.inl (by with_reducible assumption) | with_reducible exact Or.inr rfl | simp only [keeps_mk] | with_reducible refine keepsMk_of ?_ ⟨rfl, rfl⟩ (fun h_ => by first | exact h_ | simpa only [updAt_length] using h_ | with_unfolding_all rfl) ?_ ?_ | split | intro _ _ | dsimp only | intro _ _ | intro _)

theorem State.noteSuspended_keeps {p_ : Allow} {z : State} {s : State} (g : Nat) (t : Instant)  (haln_ : p_.may .aln = true) (h_ : Keeps p_ z s) : Keeps p_ z (State.noteSuspended s g t) := by
  unfold State.noteSuspended
  repeat' (first | with_reducible assumption | with_reducible exact Keeps.refl _ _ | with_reducible apply State.splCount_keeps | with_reducible apply State.updGroup_keeps | with_reducible apply State.count_keeps | with_reducible apply keepsParts_intro | with_reducible exact Or.inl (by with_reducible assumption) | with_reducible exact Or.inr rfl | simp only [keeps_mk] | with_reducible refine keepsMk_of ?_ ⟨rfl, rfl⟩ (fun h_ => by first | exact h_ | simpa only [updAt_length] using h_ | with_unfolding_all rfl) ?_ ?_ | split | intro _ _ | dsimp only | intro _ _ | intro _)

theorem State.issue_keeps {p_ : Allow} {z : State} {s : State} (g i : Nat) (a : Asm)  (haln_ : p_.may .aln = true) (hisl_ : p_.may .isl = true) (h_ : Keeps p_ z s) : Keeps p_ z (State.issue s g i a) := by
  unfold State.issue
  repeat' (first | with_reducible assumption | with_reducible exact Keeps.refl _ _ | with_reducible apply State.setAln_keeps | with_reducible apply State.updAsm_keeps | with_reducible apply State.splCount_keeps | with_reducible apply State.setReg_keeps | with_reducible apply State.sendSummary_keeps | with_reducible apply keepsParts_intro | with_reducible exact Or.inl (by with_reducible assumption) | with_reducible exact Or.inr rfl | simp only [keeps_mk] | with_reducible refine keepsMk_of ?_ ⟨rfl, rfl⟩ (fun h_ => by first | exact h_ | simpa only [updAt_length] using h_ | with_unfolding_all rfl) ?_ ?_ | dsimp only | intro _ _ | intro _)

theorem State.deadline_keeps {p_ : Allow} {z : State} {s0 : State} (g : Nat) (a : Asm)  (hevents_ : p_.may .events = true) (haln_ : p_.may .aln = true) (hisl_ : p_.may .isl = true) (h_ : Keeps p_ z s0) : Keeps p_ z (State.deadline s0 g a) := by
  unfold State.deadline
  repeat' (first | with_reducible assumption | with_reducible exact Keeps.refl _ _ | with_reducible apply State.applyClasses_keeps | with_reducible apply State.foldClasses_keeps | with_reducible apply State.updGroup_keeps | with_reducible apply State.resumeSpec_keeps | with_reducible apply State.noteSuspended_keeps | with_reducible apply State.splCount_keeps | with_reducible apply State.issue_keeps | with_reducible apply State.status_keeps | with_reducible apply keepsParts_intro | with_reducible exact Or.inl (by with_reducible assumption) | with_reducible exact Or.inr rfl | simp only [keeps_mk] | with_reducible refine keepsMk_of ?_ ⟨rfl, rfl⟩ (fun h_ => by first | exact h_ | simpa only [updAt_length] using h_ | with_unfolding_all rfl) ?_ ?_ | with_reducible apply keeps_ite | split | intro _ _ | dsimp only | intro _ _ | intro _)

theorem State.learn_keeps {p_ : Allow} {z : State} {s : State} (x : Snapshot)  (haln_ : p_.may .aln = true) (h_ : Keeps p_ z s) : Keeps p_ z (State.learn s x) := by
  unfold State.learn
  repeat' (first | with_reducible assumption | with_reducible exact Keeps.refl _ _ | with_reducible apply State.setAln_keeps | with_reducible apply keeps_foldl | with_reducible apply keeps_foldl_fst | with_reducible apply keeps_foldl_snd | intro _ _ _ | with_reducible apply keepsParts_intro | with_reducible exact Or.inl (by with_reducible assumption) | with_reducible exact Or.inr rfl | simp only [keeps_mk] | with_reducible refine keepsMk_of ?_ ⟨rfl, rfl⟩ (fun h_ => by first | exact h_ | simpa only [updAt_length] using h_ | with_unfolding_all rfl) ?_ ?_ | dsimp only | intro _ _ | intro _)

theorem State.writeHistory_keeps {p_ : Allow} {z : State} {s : State} (g : Nat) (x : Snapshot) (en : Bool)  (haln_ : p_.may .aln = true) (h_ : Keeps p_ z s) : Keeps p_ z (State.writeHistory s g x en) := by
  unfold State.writeHistory
  repeat' (first | with_reducible assumption | with_reducible exact Keeps.refl _ _ | with_reducible apply State.count_keeps | with_reducible apply State.status_keeps | with_reducible apply State.updGroup_keeps | with_reducible apply keepsParts_intro | with_reducible exact Or.inl (by with_reducible assumption) | with_reducible exact Or.inr rfl | simp only [keeps_mk] | with_reducible refine keepsMk_of ?_ ⟨rfl, rfl⟩ (fun h_ => by first | exact h_ | simpa only [updAt_length] using h_ | with_unfolding_all rfl) ?_ ?_ | with_reducible apply keeps_ite | split | dsimp only | intro _ _ | intro _)

theorem State.applyChange_keeps {p_ : Allow} {z : State} {s : State} (g : Nat)  (haln_ : p_.may .aln = true) (h_ : Keeps p_ z s) : Keeps p_ z (State.applyChange s g) := by
  unfold State.applyChange
  repeat' (first | with_reducible assumption | with_reducible exact Keeps.refl _ _ | with_reducible apply State.updGroup_keeps | with_reducible apply State.setReg_keeps | with_reducible apply State.setChanWord_keeps | with_reducible apply keeps_foldl | with_reducible apply keeps_foldl_fst | with_reducible apply keeps_foldl_snd | intro _ _ _ | with_reducible apply keepsParts_intro | with_reducible exact Or.inl (by with_reducible assumption) | with_reducible exact Or.inr rfl | simp only [keeps_mk] | with_reducible refine keepsMk_of ?_ ⟨rfl, rfl⟩ (fun h_ => by first | exact h_ | simpa only [updAt_length] using h_ | with_unfolding_all rfl) ?_ ?_ | with_reducible apply keeps_ite | split | intro _ _ | dsimp only | intro _ _ | intro _)

theorem State.groupStopped_keeps {p_ : Allow} {z : State} {s : State} (g : Nat) (t : Instant)  (hevents_ : p_.may .events = true) (haln_ : p_.may .aln = true) (hisl_ : p_.may .isl = true) (hbatches_ : p_.may .batches = true) (h_ : Keeps p_ z s) : Keeps p_ z (State.groupStopped s g t) := by
  unfold State.groupStopped
  repeat' (first | with_reducible assumption | with_reducible exact Keeps.refl _ _ | with_reducible apply State.applyChange_keeps | with_reducible apply State.updGroup_keeps | with_reducible apply State.status_keeps | with_reducible apply State.islStop_keeps | with_reducible apply keepsParts_intro | with_reducible exact Or.inl (by with_reducible assumption) | with_reducible exact Or.inr rfl | simp only [keeps_mk] | with_reducible refine keepsMk_of ?_ ⟨rfl, rfl⟩ (fun h_ => by first | exact h_ | simpa only [updAt_length] using h_ | with_unfolding_all rfl) ?_ ?_ | dsimp only | intro _ _ | intro _)

theorem State.stopIfDone_keeps {p_ : Allow} {z : State} {s : State} (g : Nat)  (hevents_ : p_.may .events = true) (haln_ : p_.may .aln = true) (hisl_ : p_.may .isl = true) (hbatches_ : p_.may .batches = true) (h_ : Keeps p_ z s) : Keeps p_ z (State.stopIfDone s g) := by
  unfold State.stopIfDone
  repeat' (first | with_reducible assumption | with_reducible exact Keeps.refl _ _ | with_reducible apply State.groupStopped_keeps | with_reducible apply keeps_ite | split | dsimp only | intro _ _ | intro _)

theorem State.commitCheck_keeps {p_ : Allow} {z : State} {s : State} (g : Nat) (a : Asm) (x : Snapshot)  (hevents_ : p_.may .events = true) (haln_ : p_.may .aln = true) (h_ : Keeps p_ z s) : Keeps p_ z (State.commitCheck s g a x) := by
  unfold State.commitCheck
  repeat' (first | with_reducible assumption | with_reducible exact Keeps.refl _ _ | with_reducible apply State.setAln_keeps | with_reducible apply State.updEntry_keeps | with_reducible apply State.splCount_keeps | with_reducible apply State.status_keeps | with_reducible apply State.raise_keeps | with_reducible apply keepsParts_intro | with_reducible exact Or.inl (by with_reducible assumption) | with_reducible exact Or.inr rfl | simp only [keeps_mk] | with_reducible refine keepsMk_of ?_ ⟨rfl, rfl⟩ (fun h_ => by first | exact h_ | simpa only [updAt_length] using h_ | with_unfolding_all rfl) ?_ ?_ | with_reducible apply keeps_ite | split | intro _ _ | dsimp only | intro _ _ | intro _)

theorem State.commitAs_keeps {p_ : Allow} {z : State} {s : State} (g : Nat) (a : Asm) (x : Snapshot)  (hevents_ : p_.may .events = true) (haln_ : p_.may .aln = true) (hisl_ : p_.may .isl = true) (hbatches_ : p_.may .batches = true) (h_ : Keeps p_ z s) : Keeps p_ z (State.commitAs s g a x) := by
  unfold State.commitAs
  repeat' (first | with_reducible assumption | with_reducible exact Keeps.refl _ _ | with_reducible apply State.setReg_keeps | with_reducible apply State.alnCount_keeps | with_reducible apply State.status_keeps | with_reducible apply State.commitCheck_keeps | with_reducible apply State.learn_keeps | with_reducible apply State.writeHistory_keeps | with_reducible apply State.updGroup_keeps | with_reducible apply State.setAln_keeps | with_reducible apply State.issueBarrier_keeps | with_reducible apply State.sendSummary_keeps | with_reducible apply State.stopIfDone_keeps | with_reducible apply keepsParts_intro | with_reducible exact Or.inl (by with_reducible assumption) | with_reducible exact Or.inr rfl | simp only [keeps_mk] | with_reducible refine keepsMk_of ?_ ⟨rfl, rfl⟩ (fun h_ => by first | exact h_ | simpa only [updAt_length] using h_ | with_unfolding_all rfl) ?_ ?_ | with_reducible apply keeps_ite | split | dsimp only | intro _ _ | intro _)

theorem State.commitHead_keeps {p_ : Allow} {z : State} {s : State} (g : Nat)  (hevents_ : p_.may .events = true) (haln_ : p_.may .aln = true) (hisl_ : p_.may .isl = true) (hbatches_ : p_.may .batches = true) (h_ : Keeps p_ z s) : Keeps p_ z (State.commitHead s g) := by
  unfold State.commitHead
  repeat' (first | with_reducible assumption | with_reducible exact Keeps.refl _ _ | with_reducible apply State.commitAs_keeps | with_reducible apply State.stopIfDone_keeps | with_reducible apply keepsParts_intro | with_reducible exact Or.inl (by with_reducible assumption) | with_reducible exact Or.inr rfl | simp only [keeps_mk] | with_reducible refine keepsMk_of ?_ ⟨rfl, rfl⟩ (fun h_ => by first | exact h_ | simpa only [updAt_length] using h_ | with_unfolding_all rfl) ?_ ?_ | with_reducible apply keeps_ite | split | intro _ _ | dsimp only | intro _ _ | intro _)

theorem State.flushGroup_keeps {p_ : Allow} {z : State} {s : State} (g : Nat)  (haln_ : p_.may .aln = true) (h_ : Keeps p_ z s) : Keeps p_ z (State.flushGroup s g).2 := by
  unfold State.flushGroup
  repeat' (first | with_reducible assumption | with_reducible exact Keeps.refl _ _ | with_reducible apply State.setAln_keeps | with_reducible apply State.updGroup_keeps | with_reducible apply State.splCount_keeps | with_reducible apply State.status_keeps | with_reducible apply keepsParts_intro | with_reducible exact Or.inl (by with_reducible assumption) | with_reducible exact Or.inr rfl | simp only [keeps_mk] | with_reducible refine keepsMk_of ?_ ⟨rfl, rfl⟩ (fun h_ => by first | exact h_ | simpa only [updAt_length] using h_ | with_unfolding_all rfl) ?_ ?_ | with_reducible apply keeps_ite | split | dsimp only | intro _ _ | intro _)
theorem State.flushGroup_keeps_of {p_ : Allow} {z : State} {s : State} {g : Nat} {a_ : _} {t_ : State} (e_ : State.flushGroup s g = (a_, t_)) (haln_ : p_.may .aln = true) (h_ : Keeps p_ z s) : Keeps p_ z t_ := by
  have k_ := State.flushGroup_keeps (z := z) g haln_ h_
  rw [e_] at k_; exact k_

theorem State.flushEvent_keeps {p_ : Allow} {z : State} {s : State} (cause n g : Nat)  (hevents_ : p_.may .events = true) (h_ : Keeps p_ z s) : Keeps p_ z (State.flushEvent s cause n g) := by
  unfold State.flushEvent
  repeat' (first | with_reducible assumption | with_reducible exact Keeps.refl _ _ | with_reducible apply State.raise_keeps | with_reducible apply keeps_ite | split | dsimp only | intro _ _ | intro _)

theorem State.flushOne_keeps {p_ : Allow} {z : State} {s : State} (cause g : Nat)  (hevents_ : p_.may .events = true) (haln_ : p_.may .aln = true) (h_ : Keeps p_ z s) : Keeps p_ z (State.flushOne s cause g) := by
  unfold State.flushOne
  repeat' (first | with_reducible assumption | with_reducible exact Keeps.refl _ _ | with_reducible apply State.flushGroup_keeps | with_reducible apply State.flushEvent_keeps | with_reducible refine State.flushGroup_keeps_of (by with_reducible assumption) ?_ ?_ | dsimp only | intro _ _ | intro _)

theorem State.flushStop_keeps {p_ : Allow} {z : State} {s : State} (g : Nat)  (hevents_ : p_.may .events = true) (haln_ : p_.may .aln = true) (hisl_ : p_.may .isl = true) (hbatches_ : p_.may .batches = true) (h_ : Keeps p_ z s) : Keeps p_ z (State.flushStop s g) := by
  unfold State.flushStop
  repeat' (first | with_reducible assumption | with_reducible exact Keeps.refl _ _ | with_reducible apply State.flushOne_keeps | with_reducible apply State.groupStopped_keeps | with_reducible apply keeps_ite | split | dsimp only | intro _ _ | intro _)

theorem State.stepGroup_keeps {p_ : Allow} {z : State} {s : State} (g : Nat)  (hevents_ : p_.may .events = true) (haln_ : p_.may .aln = true) (h_ : Keeps p_ z s) : Keeps p_ z (State.stepGroup s g) := by
  unfold State.stepGroup
  repeat' (first | with_reducible assumption | with_reducible exact Keeps.refl _ _ | with_reducible apply State.flushOne_keeps | with_reducible apply State.updGroup_keeps | with_reducible apply keepsParts_intro | with_reducible exact Or.inl (by with_reducible assumption) | with_reducible exact Or.inr rfl | simp only [keeps_mk] | with_reducible refine keepsMk_of ?_ ⟨rfl, rfl⟩ (fun h_ => by first | exact h_ | simpa only [updAt_length] using h_ | with_unfolding_all rfl) ?_ ?_ | with_reducible apply keeps_ite | split | dsimp only | intro _ _ | intro _)

theorem State.alnTimeStep_keeps {p_ : Allow} {z : State} {s : State}  (hevents_ : p_.may .events = true) (haln_ : p_.may .aln = true) (h_ : Keeps p_ z s) : Keeps p_ z (State.alnTimeStep s) := by
  unfold State.alnTimeStep
  repeat' (first | with_reducible assumption | with_reducible exact Keeps.refl _ _ | with_reducible apply State.stepGroup_keeps | with_reducible apply keeps_foldl | with_reducible apply keeps_foldl_fst | with_reducible apply keeps_foldl_snd | intro _ _ _ | dsimp only | intro _ _ | intro _)

theorem State.resetAccord_keeps {p_ : Allow} {z : State} {s : State}  (hevents_ : p_.may .events = true) (haln_ : p_.may .aln = true) (hisl_ : p_.may .isl = true) (hbatches_ : p_.may .batches = true) (h_ : Keeps p_ z s) : Keeps p_ z (State.resetAccord s) := by
  unfold State.resetAccord
  repeat' (first | with_reducible assumption | with_reducible exact Keeps.refl _ _ | with_reducible apply State.flushOne_keeps | with_reducible apply State.applyChange_keeps | with_reducible apply State.updGroup_keeps | with_reducible apply State.islStop_keeps | with_reducible apply State.resetRegs_keeps | with_reducible apply State.setReg_keeps | with_reducible apply State.setAln_keeps | with_reducible apply keeps_foldl | with_reducible apply keeps_foldl_fst | with_reducible apply keeps_foldl_snd | intro _ _ _ | with_reducible apply keepsParts_intro | with_reducible exact Or.inl (by with_reducible assumption) | with_reducible exact Or.inr rfl | simp only [keeps_mk] | with_reducible refine keepsMk_of ?_ ⟨rfl, rfl⟩ (fun h_ => by first | exact h_ | simpa only [updAt_length] using h_ | with_unfolding_all rfl) ?_ ?_ | with_reducible apply keeps_ite | split | dsimp only | intro _ _ | intro _)

theorem State.islTimeStep_keeps {p_ : Allow} {z : State} {s : State}  (hisl_ : p_.may .isl = true) (h_ : Keeps p_ z s) : Keeps p_ z (State.islTimeStep s) := by
  unfold State.islTimeStep
  repeat' (first | with_reducible assumption | with_reducible exact Keeps.refl _ _ | with_reducible apply State.setIsl_keeps | with_reducible apply keepsParts_intro | with_reducible exact Or.inl (by with_reducible assumption) | with_reducible exact Or.inr rfl | simp only [keeps_mk] | with_reducible refine keepsMk_of ?_ ⟨rfl, rfl⟩ (fun h_ => by first | exact h_ | simpa only [updAt_length] using h_ | with_unfolding_all rfl) ?_ ?_ | with_reducible apply keeps_ite | split | dsimp only | intro _ _ | intro _)

end Sys2Proof.Machine
end

