-- ==== Sys2Proof/Laws/KeepsOutput.lean ====
section
/-! SUPPORT. What the operations of the ports, publication, oscillation, capture, the event record and the mailboxes keep (Laws/Keeps.lean): one lemma per operation. -/

namespace Sys2Proof.Machine

/-! ### Machine/PortsOps.lean -/

theorem State.updPort_keeps {p_ : Allow} {z : State} {s : State} (p : Nat) (f : Port → Port)  (hports_ : p_.may .ports = true) (h_ : Keeps p_ z s) : Keeps p_ z (State.updPort s p f) := by
  unfold State.updPort
  repeat' (first | with_reducible assumption | with_reducible exact Keeps.refl _ _ | with_reducible apply keepsParts_intro | with_reducible exact Or.inl (by with_reducible assumption) | with_reducible exact Or.inr rfl | simp only [keeps_mk] | with_reducible refine keepsMk_of ?_ ⟨rfl, rfl⟩ (fun h_ => by first | exact h_ | simpa only [updAt_length] using h_ | with_unfolding_all rfl) ?_ ?_ | dsimp only | intro _ _ | intro _)

theorem State.returnTx_keeps {p_ : Allow} {z : State} {s : State} (f : TxFrame) (err : Bool)  (hports_ : p_.may .ports = true) (h_ : Keeps p_ z s) : Keeps p_ z (State.returnTx s f err) := by
  unfold State.returnTx
  repeat' (first | with_reducible assumption | with_reducible exact Keeps.refl _ _ | with_reducible apply State.updPort_keeps | with_reducible apply keepsParts_intro | with_reducible exact Or.inl (by with_reducible assumption) | with_reducible exact Or.inr rfl | simp only [keeps_mk] | with_reducible refine keepsMk_of ?_ ⟨rfl, rfl⟩ (fun h_ => by first | exact h_ | simpa only [updAt_length] using h_ | with_unfolding_all rfl) ?_ ?_ | split | intro _ _ | dsimp only | intro _ _ | intro _)

theorem State.offer_keeps {p_ : Allow} {z : State} {s : State} (p : Nat) (f : TxFrame)  (hports_ : p_.may .ports = true) (h_ : Keeps p_ z s) : Keeps p_ z (State.offer s p f) := by
  unfold State.offer
  repeat' (first | with_reducible assumption | with_reducible exact Keeps.refl _ _ | with_reducible apply State.updPort_keeps | with_reducible apply State.count_keeps | with_reducible apply State.returnTx_keeps | with_reducible apply State.noteSwapBad_keeps | with_reducible apply keepsParts_intro | with_reducible exact Or.inl (by with_reducible assumption) | with_reducible exact Or.inr rfl | simp only [keeps_mk] | with_reducible refine keepsMk_of ?_ ⟨rfl, rfl⟩ (fun h_ => by first | exact h_ | simpa only [updAt_length] using h_ | with_unfolding_all rfl) ?_ ?_ | with_reducible apply keeps_ite | split | dsimp only | intro _ _ | intro _)

theorem State.sendPrp_keeps {p_ : Allow} {z : State} {s : State} (p : Nat) (f : TxFrame)  (hports_ : p_.may .ports = true) (h_ : Keeps p_ z s) : Keeps p_ z (State.sendPrp s p f) := by
  unfold State.sendPrp
  repeat' (first | with_reducible assumption | with_reducible exact Keeps.refl _ _ | with_reducible apply State.offer_keeps | with_reducible apply keepsParts_intro | with_reducible exact Or.inl (by with_reducible assumption) | with_reducible exact Or.inr rfl | simp only [keeps_mk] | with_reducible refine keepsMk_of ?_ ⟨rfl, rfl⟩ (fun h_ => by first | exact h_ | simpa only [updAt_length] using h_ | with_unfolding_all rfl) ?_ ?_ | with_reducible apply keeps_ite | split | dsimp only | intro _ _ | intro _)

theorem State.dropQueued_keeps {p_ : Allow} {z : State} {s : State} (p : Nat)  (hports_ : p_.may .ports = true) (h_ : Keeps p_ z s) : Keeps p_ z (State.dropQueued s p) := by
  unfold State.dropQueued
  repeat' (first | with_reducible assumption | with_reducible exact Keeps.refl _ _ | with_reducible apply State.count_keeps | with_reducible apply State.returnTx_keeps | with_reducible apply State.noteSwapBad_keeps | with_reducible apply State.updPort_keeps | with_reducible apply keeps_foldl | with_reducible apply keeps_foldl_fst | with_reducible apply keeps_foldl_snd | intro _ _ _ | with_reducible apply keepsParts_intro | with_reducible exact Or.inl (by with_reducible assumption) | with_reducible exact Or.inr rfl | simp only [keeps_mk] | with_reducible refine keepsMk_of ?_ ⟨rfl, rfl⟩ (fun h_ => by first | exact h_ | simpa only [updAt_length] using h_ | with_unfolding_all rfl) ?_ ?_ | split | intro _ _ | dsimp only | intro _ _ | intro _)

theorem State.sendPause_keeps {p_ : Allow} {z : State} {s : State} (p quanta : Nat)  (hports_ : p_.may .ports = true) (h_ : Keeps p_ z s) : Keeps p_ z (State.sendPause s p quanta) := by
  unfold State.sendPause
  repeat' (first | with_reducible assumption | with_reducible exact Keeps.refl _ _ | with_reducible apply State.updPort_keeps | with_reducible apply keepsParts_intro | with_reducible exact Or.inl (by with_reducible assumption) | with_reducible exact Or.inr rfl | simp only [keeps_mk] | with_reducible refine keepsMk_of ?_ ⟨rfl, rfl⟩ (fun h_ => by first | exact h_ | simpa only [updAt_length] using h_ | with_unfolding_all rfl) ?_ ?_ | dsimp only | intro _ _ | intro _)

theorem State.countPaused_keeps {p_ : Allow} {z : State} {s : State} (p : Nat)  (h_ : Keeps p_ z s) : Keeps p_ z (State.countPaused s p) := by
  unfold State.countPaused
  repeat' (first | with_reducible assumption | with_reducible exact Keeps.refl _ _ | with_reducible apply State.count_keeps | with_reducible apply keepsParts_intro | with_reducible exact Or.inl (by with_reducible assumption) | with_reducible exact Or.inr rfl | simp only [keeps_mk] | with_reducible refine keepsMk_of ?_ ⟨rfl, rfl⟩ (fun h_ => by first | exact h_ | simpa only [updAt_length] using h_ | with_unfolding_all rfl) ?_ ?_ | split | intro _ _ | dsimp only | intro _ _ | intro _)

theorem State.linkDown_keeps {p_ : Allow} {z : State} {s : State} (p cause : Nat)  (hports_ : p_.may .ports = true) (h_ : Keeps p_ z s) : Keeps p_ z (State.linkDown s p cause) := by
  unfold State.linkDown
  repeat' (first | with_reducible assumption | with_reducible exact Keeps.refl _ _ | with_reducible apply State.countPaused_keeps | with_reducible apply State.updPort_keeps | with_reducible apply State.dropQueued_keeps | with_reducible apply State.count_keeps | with_reducible apply State.status_keeps | with_reducible apply keepsParts_intro | with_reducible exact Or.inl (by with_reducible assumption) | with_reducible exact Or.inr rfl | simp only [keeps_mk] | with_reducible refine keepsMk_of ?_ ⟨rfl, rfl⟩ (fun h_ => by first | exact h_ | simpa only [updAt_length] using h_ | with_unfolding_all rfl) ?_ ?_ | with_reducible apply keeps_ite | split | dsimp only | intro _ _ | intro _)

theorem State.tryLink_keeps {p_ : Allow} {z : State} {s : State} (p : Nat)  (hevents_ : p_.may .events = true) (hports_ : p_.may .ports = true) (h_ : Keeps p_ z s) : Keeps p_ z (State.tryLink s p) := by
  unfold State.tryLink
  repeat' (first | with_reducible assumption | with_reducible exact Keeps.refl _ _ | with_reducible apply State.updPort_keeps | with_reducible apply State.status_keeps | with_reducible apply State.raise_keeps | with_reducible apply keepsParts_intro | with_reducible exact Or.inl (by with_reducible assumption) | with_reducible exact Or.inr rfl | simp only [keeps_mk] | with_reducible refine keepsMk_of ?_ ⟨rfl, rfl⟩ (fun h_ => by first | exact h_ | simpa only [updAt_length] using h_ | with_unfolding_all rfl) ?_ ?_ | with_reducible apply keeps_ite | split | dsimp only | intro _ _ | intro _)

theorem State.relink_keeps {p_ : Allow} {z : State} {s : State} (p cause : Nat)  (hevents_ : p_.may .events = true) (hports_ : p_.may .ports = true) (h_ : Keeps p_ z s) : Keeps p_ z (State.relink s p cause) := by
  unfold State.relink
  repeat' (first | with_reducible assumption | with_reducible exact Keeps.refl _ _ | with_reducible apply State.linkDown_keeps | with_reducible apply State.tryLink_keeps | with_reducible apply keeps_ite | split | dsimp only | intro _ _ | intro _)

theorem State.pauseNow_keeps {p_ : Allow} {z : State} {s : State} (p : Nat)  (hports_ : p_.may .ports = true) (h_ : Keeps p_ z s) : Keeps p_ z (State.pauseNow s p) := by
  unfold State.pauseNow
  repeat' (first | with_reducible assumption | with_reducible exact Keeps.refl _ _ | with_reducible apply State.sendPause_keeps | with_reducible apply State.updPort_keeps | with_reducible apply keepsParts_intro | with_reducible exact Or.inl (by with_reducible assumption) | with_reducible exact Or.inr rfl | simp only [keeps_mk] | with_reducible refine keepsMk_of ?_ ⟨rfl, rfl⟩ (fun h_ => by first | exact h_ | simpa only [updAt_length] using h_ | with_unfolding_all rfl) ?_ ?_ | dsimp only | intro _ _ | intro _)

theorem State.checkPause_keeps {p_ : Allow} {z : State} {s : State} (p : Nat)  (hports_ : p_.may .ports = true) (h_ : Keeps p_ z s) : Keeps p_ z (State.checkPause s p) := by
  unfold State.checkPause
  repeat' (first | with_reducible assumption | with_reducible exact Keeps.refl _ _ | with_reducible apply State.updPort_keeps | with_reducible apply State.pauseNow_keeps | with_reducible apply State.sendPause_keeps | with_reducible apply keepsParts_intro | with_reducible exact Or.inl (by with_reducible assumption) | with_reducible exact Or.inr rfl | simp only [keeps_mk] | with_reducible refine keepsMk_of ?_ ⟨rfl, rfl⟩ (fun h_ => by first | exact h_ | simpa only [updAt_length] using h_ | with_unfolding_all rfl) ?_ ?_ | with_reducible apply keeps_ite | split | dsimp only | intro _ _ | intro _)

theorem State.toRing_keeps {p_ : Allow} {z : State} {s : State} (p r len : Nat) (flags : Word) (tci : BitVec 16) (ts : Instant)  (hports_ : p_.may .ports = true) (h_ : Keeps p_ z s) : Keeps p_ z (State.toRing s p r len flags tci ts) := by
  unfold State.toRing
  repeat' (first | with_reducible assumption | with_reducible exact Keeps.refl _ _ | with_reducible apply State.count_keeps | with_reducible apply State.checkPause_keeps | with_reducible apply State.updPort_keeps | with_reducible apply keepsParts_intro | with_reducible exact Or.inl (by with_reducible assumption) | with_reducible exact Or.inr rfl | simp only [keeps_mk] | with_reducible refine keepsMk_of ?_ ⟨rfl, rfl⟩ (fun h_ => by first | exact h_ | simpa only [updAt_length] using h_ | with_unfolding_all rfl) ?_ ?_ | with_reducible apply keeps_ite | split | dsimp only | intro _ _ | intro _)

theorem State.notePrpLan_keeps {p_ : Allow} {z : State} {s : State} (p : Nat) (t : PrpTrailer)  (h_ : Keeps p_ z s) : Keeps p_ z (State.notePrpLan s p t) := by
  unfold State.notePrpLan
  repeat' (first | with_reducible assumption | with_reducible exact Keeps.refl _ _ | with_reducible apply State.count_keeps | with_reducible apply keeps_ite | split | dsimp only | intro _ _ | intro _)

theorem State.prpWindow_keeps {p_ : Allow} {z : State} {s : State} (p : Nat) (sa : BitVec 48) (seq : BitVec 16) (tie : Bool)  (hports_ : p_.may .ports = true) (h_ : Keeps p_ z s) : Keeps p_ z (State.prpWindow s p sa seq tie).1 := by
  unfold State.prpWindow
  repeat' (first | with_reducible assumption | with_reducible exact Keeps.refl _ _ | with_reducible apply State.count_keeps | with_reducible apply keepsParts_intro | with_reducible exact Or.inl (by with_reducible assumption) | with_reducible exact Or.inr rfl | simp only [keeps_mk] | with_reducible refine keepsMk_of ?_ ⟨rfl, rfl⟩ (fun h_ => by first | exact h_ | simpa only [updAt_length] using h_ | with_unfolding_all rfl) ?_ ?_ | with_reducible apply keeps_ite | split | intro _ _ | dsimp only | intro _ _ | intro _)
theorem State.prpWindow_keeps_of {p_ : Allow} {z : State} {s : State} {p : Nat} {sa : BitVec 48} {seq : BitVec 16} {tie : Bool} {t_ : State} {a_ : _} (e_ : State.prpWindow s p sa seq tie = (t_, a_)) (hports_ : p_.may .ports = true) (h_ : Keeps p_ z s) : Keeps p_ z t_ := by
  have k_ := State.prpWindow_keeps (z := z) p sa seq tie hports_ h_
  rw [e_] at k_; exact k_

theorem State.macsecStage_keeps {p_ : Allow} {z : State} {s : State} (p : Nat) (f : RxFrame)  (hports_ : p_.may .ports = true) (h_ : Keeps p_ z s) : Keeps p_ z (State.macsecStage s p f).1 := by
  unfold State.macsecStage
  repeat' (first | with_reducible assumption | with_reducible exact Keeps.refl _ _ | with_reducible apply State.count_keeps | with_reducible apply State.updPort_keeps | with_reducible apply keepsParts_intro | with_reducible exact Or.inl (by with_reducible assumption) | with_reducible exact Or.inr rfl | simp only [keeps_mk] | with_reducible refine keepsMk_of ?_ ⟨rfl, rfl⟩ (fun h_ => by first | exact h_ | simpa only [updAt_length] using h_ | with_unfolding_all rfl) ?_ ?_ | with_reducible apply keeps_ite | split | intro _ _ | dsimp only | intro _ _ | intro _)
theorem State.macsecStage_keeps_of {p_ : Allow} {z : State} {s : State} {p : Nat} {f : RxFrame} {t_ : State} {a_ : _} (e_ : State.macsecStage s p f = (t_, a_)) (hports_ : p_.may .ports = true) (h_ : Keeps p_ z s) : Keeps p_ z t_ := by
  have k_ := State.macsecStage_keeps (z := z) p f hports_ h_
  rw [e_] at k_; exact k_

theorem State.toIngress_keeps {p_ : Allow} {z : State} {s : State} (p len : Nat) (arrival : Instant) (body : FrameBody)  (hevents_ : p_.may .events = true) (hing_ : p_.may .ing = true) (h_ : Keeps p_ z s) : Keeps p_ z (State.toIngress s p len arrival body) := by
  unfold State.toIngress
  repeat' (first | with_reducible assumption | with_reducible exact Keeps.refl _ _ | with_reducible apply State.count_keeps | with_reducible apply State.setRf_keeps | with_reducible apply State.status_keeps | with_reducible apply State.raise_keeps | with_reducible apply keepsParts_intro | with_reducible exact Or.inl (by with_reducible assumption) | with_reducible exact Or.inr rfl | simp only [keeps_mk] | with_reducible refine keepsMk_of ?_ ⟨rfl, rfl⟩ (fun h_ => by first | exact h_ | simpa only [updAt_length] using h_ | with_unfolding_all rfl) ?_ ?_ | with_reducible apply keeps_ite | split | dsimp only | intro _ _ | intro _)

theorem State.classify_keeps {p_ : Allow} {z : State} {s : State} (p : Nat) (f : RxFrame) (len : Nat) (flags : Word) (tci : BitVec 16) (ts : Instant) (stacked : Bool)  (hevents_ : p_.may .events = true) (hports_ : p_.may .ports = true) (hing_ : p_.may .ing = true) (h_ : Keeps p_ z s) : Keeps p_ z (State.classify s p f len flags tci ts stacked) := by
  unfold State.classify
  repeat' (first | with_reducible assumption | with_reducible exact Keeps.refl _ _ | with_reducible apply State.toRing_keeps | with_reducible apply State.count_keeps | with_reducible apply State.toIngress_keeps | with_reducible apply State.keepHeader_keeps | with_reducible apply keepsParts_intro | with_reducible exact Or.inl (by with_reducible assumption) | with_reducible exact Or.inr rfl | simp only [keeps_mk] | with_reducible refine keepsMk_of ?_ ⟨rfl, rfl⟩ (fun h_ => by first | exact h_ | simpa only [updAt_length] using h_ | with_unfolding_all rfl) ?_ ?_ | with_reducible apply keeps_ite | split | intro _ _ | dsimp only | intro _ _ | intro _)

theorem State.rxUpper_keeps {p_ : Allow} {z : State} {s : State} (p : Nat) (f : RxFrame) (macsec : Bool) (ts : Instant) (tie : Bool)  (hevents_ : p_.may .events = true) (hports_ : p_.may .ports = true) (hing_ : p_.may .ing = true) (h_ : Keeps p_ z s) : Keeps p_ z (State.rxUpper s p f macsec ts tie) := by
  unfold State.rxUpper
  repeat' (first | with_reducible assumption | with_reducible exact Keeps.refl _ _ | with_reducible apply State.count_keeps | with_reducible apply State.notePrpLan_keeps | with_reducible apply State.prpWindow_keeps | with_reducible apply State.classify_keeps | with_reducible refine State.prpWindow_keeps_of (by with_reducible assumption) ?_ ?_ | with_reducible apply keepsParts_intro | with_reducible exact Or.inl (by with_reducible assumption) | with_reducible exact Or.inr rfl | simp only [keeps_mk] | with_reducible refine keepsMk_of ?_ ⟨rfl, rfl⟩ (fun h_ => by first | exact h_ | simpa only [updAt_length] using h_ | with_unfolding_all rfl) ?_ ?_ | with_reducible apply keeps_ite | split | intro _ _ | dsimp only | intro _ _ | intro _)

theorem State.takePause_keeps {p_ : Allow} {z : State} {s : State} (p quanta : Nat)  (hports_ : p_.may .ports = true) (h_ : Keeps p_ z s) : Keeps p_ z (State.takePause s p quanta) := by
  unfold State.takePause
  repeat' (first | with_reducible assumption | with_reducible exact Keeps.refl _ _ | with_reducible apply State.updPort_keeps | with_reducible apply State.countPaused_keeps | with_reducible apply keepsParts_intro | with_reducible exact Or.inl (by with_reducible assumption) | with_reducible exact Or.inr rfl | simp only [keeps_mk] | with_reducible refine keepsMk_of ?_ ⟨rfl, rfl⟩ (fun h_ => by first | exact h_ | simpa only [updAt_length] using h_ | with_unfolding_all rfl) ?_ ?_ | with_reducible apply keeps_ite | split | dsimp only | intro _ _ | intro _)

theorem State.receiveFrame_keeps {p_ : Allow} {z : State} {s : State} (p : Nat) (f : RxFrame) (tie : Bool)  (hevents_ : p_.may .events = true) (hports_ : p_.may .ports = true) (hing_ : p_.may .ing = true) (h_ : Keeps p_ z s) : Keeps p_ z (State.receiveFrame s p f tie) := by
  unfold State.receiveFrame
  repeat' (first | with_reducible assumption | with_reducible exact Keeps.refl _ _ | with_reducible apply State.count_keeps | with_reducible apply State.updPort_keeps | with_reducible apply State.takePause_keeps | with_reducible apply State.macsecStage_keeps | with_reducible apply State.rxUpper_keeps | with_reducible refine State.macsecStage_keeps_of (by with_reducible assumption) ?_ ?_ | with_reducible apply keepsParts_intro | with_reducible exact Or.inl (by with_reducible assumption) | with_reducible exact Or.inr rfl | simp only [keeps_mk] | with_reducible refine keepsMk_of ?_ ⟨rfl, rfl⟩ (fun h_ => by first | exact h_ | simpa only [updAt_length] using h_ | with_unfolding_all rfl) ?_ ?_ | with_reducible apply keeps_ite | split | intro _ _ | dsimp only | intro _ _ | intro _)

theorem State.dropPn_keeps {p_ : Allow} {z : State} {s : State} (p : Nat) (f : TxFrame)  (hports_ : p_.may .ports = true) (h_ : Keeps p_ z s) : Keeps p_ z (State.dropPn s p f) := by
  unfold State.dropPn
  repeat' (first | with_reducible assumption | with_reducible exact Keeps.refl _ _ | with_reducible apply State.count_keeps | with_reducible apply State.returnTx_keeps | with_reducible apply State.noteSwapBad_keeps | dsimp only | intro _ _ | intro _)

theorem State.protect_keeps {p_ : Allow} {z : State} {s : State} (p : Nat) (f : TxFrame)  (hports_ : p_.may .ports = true) (h_ : Keeps p_ z s) : Keeps p_ z (State.protect s p f).1 := by
  unfold State.protect
  repeat' (first | with_reducible assumption | with_reducible exact Keeps.refl _ _ | with_reducible apply State.dropPn_keeps | with_reducible apply State.updPort_keeps | with_reducible apply keepsParts_intro | with_reducible exact Or.inl (by with_reducible assumption) | with_reducible exact Or.inr rfl | simp only [keeps_mk] | with_reducible refine keepsMk_of ?_ ⟨rfl, rfl⟩ (fun h_ => by first | exact h_ | simpa only [updAt_length] using h_ | with_unfolding_all rfl) ?_ ?_ | with_reducible apply keeps_ite | split | intro _ _ | dsimp only | intro _ _ | intro _)
theorem State.protect_keeps_of {p_ : Allow} {z : State} {s : State} {p : Nat} {f : TxFrame} {t_ : State} {a_ : _} (e_ : State.protect s p f = (t_, a_)) (hports_ : p_.may .ports = true) (h_ : Keeps p_ z s) : Keeps p_ z t_ := by
  have k_ := State.protect_keeps (z := z) p f hports_ h_
  rw [e_] at k_; exact k_

theorem State.ptpSent_keeps {p_ : Allow} {z : State} {s : State} (p : Nat) (m : PtpMsg)  (hports_ : p_.may .ports = true) (htime_ : p_.clock = true) (h_ : Keeps p_ z s) : Keeps p_ z (State.ptpSent s p m) := by
  unfold State.ptpSent
  repeat' (first | with_reducible assumption | with_reducible exact Keeps.refl _ _ | with_reducible apply State.offer_keeps | with_reducible apply State.updPtp_keeps | with_reducible apply keepsParts_intro | with_reducible exact Or.inl (by with_reducible assumption) | with_reducible exact Or.inr rfl | simp only [keeps_mk] | with_reducible refine keepsMk_of ?_ ⟨rfl, rfl⟩ (fun h_ => by first | exact h_ | simpa only [updAt_length] using h_ | with_unfolding_all rfl) ?_ ?_ | with_reducible apply keeps_ite | split | intro _ _ | dsimp only | intro _ _ | intro _)

theorem State.startTx_keeps {p_ : Allow} {z : State} {s : State} (p : Nat) (f : TxFrame)  (hevents_ : p_.may .events = true) (hports_ : p_.may .ports = true) (htime_ : p_.clock = true) (h_ : Keeps p_ z s) : Keeps p_ z (State.startTx s p f) := by
  unfold State.startTx
  repeat' (first | with_reducible assumption | with_reducible exact Keeps.refl _ _ | with_reducible apply State.updPort_keeps | with_reducible apply State.queueTxStamp_keeps | with_reducible apply State.ptpSent_keeps | with_reducible apply State.noteSwitch_keeps | with_reducible apply keepsParts_intro | with_reducible exact Or.inl (by with_reducible assumption) | with_reducible exact Or.inr rfl | simp only [keeps_mk] | with_reducible refine keepsMk_of ?_ ⟨rfl, rfl⟩ (fun h_ => by first | exact h_ | simpa only [updAt_length] using h_ | with_unfolding_all rfl) ?_ ?_ | split | intro _ _ | dsimp only | intro _ _ | intro _)

theorem State.selectTx_keeps {p_ : Allow} {z : State} {s : State} (p : Nat)  (hevents_ : p_.may .events = true) (hports_ : p_.may .ports = true) (htime_ : p_.clock = true) (h_ : Keeps p_ z s) : Keeps p_ z (State.selectTx s p) := by
  unfold State.selectTx
  repeat' (first | with_reducible assumption | with_reducible exact Keeps.refl _ _ | with_reducible apply State.updPort_keeps | with_reducible apply State.protect_keeps | with_reducible apply State.startTx_keeps | with_reducible refine State.protect_keeps_of (by with_reducible assumption) ?_ ?_ | with_reducible apply keepsParts_intro | with_reducible exact Or.inl (by with_reducible assumption) | with_reducible exact Or.inr rfl | simp only [keeps_mk] | with_reducible refine keepsMk_of ?_ ⟨rfl, rfl⟩ (fun h_ => by first | exact h_ | simpa only [updAt_length] using h_ | with_unfolding_all rfl) ?_ ?_ | with_reducible apply keeps_ite | split | intro _ _ | dsimp only | intro _ _ | intro _)

theorem State.applyPause_keeps {p_ : Allow} {z : State} {s : State} (p : Nat)  (hports_ : p_.may .ports = true) (h_ : Keeps p_ z s) : Keeps p_ z (State.applyPause s p) := by
  unfold State.applyPause
  repeat' (first | with_reducible assumption | with_reducible exact Keeps.refl _ _ | with_reducible apply State.updPort_keeps | with_reducible apply State.takePause_keeps | with_reducible apply keepsParts_intro | with_reducible exact Or.inl (by with_reducible assumption) | with_reducible exact Or.inr rfl | simp only [keeps_mk] | with_reducible refine keepsMk_of ?_ ⟨rfl, rfl⟩ (fun h_ => by first | exact h_ | simpa only [updAt_length] using h_ | with_unfolding_all rfl) ?_ ?_ | split | intro _ _ | dsimp only | intro _ _ | intro _)

theorem State.cutPort_keeps {p_ : Allow} {z : State} {s : State} (p : Nat)  (hports_ : p_.may .ports = true) (h_ : Keeps p_ z s) : Keeps p_ z (State.cutPort s p) := by
  unfold State.cutPort
  repeat' (first | with_reducible assumption | with_reducible exact Keeps.refl _ _ | with_reducible apply State.updPort_keeps | with_reducible apply State.applyPause_keeps | with_reducible apply keepsParts_intro | with_reducible exact Or.inl (by with_reducible assumption) | with_reducible exact Or.inr rfl | simp only [keeps_mk] | with_reducible refine keepsMk_of ?_ ⟨rfl, rfl⟩ (fun h_ => by first | exact h_ | simpa only [updAt_length] using h_ | with_unfolding_all rfl) ?_ ?_ | with_reducible apply keeps_ite | split | intro _ _ | dsimp only | intro _ _ | intro _)

theorem State.cutPorts_keeps {p_ : Allow} {z : State} {s : State}  (hports_ : p_.may .ports = true) (h_ : Keeps p_ z s) : Keeps p_ z (State.cutPorts s) := by
  unfold State.cutPorts
  repeat' (first | with_reducible assumption | with_reducible exact Keeps.refl _ _ | with_reducible apply State.cutPort_keeps | with_reducible apply keeps_foldl | with_reducible apply keeps_foldl_fst | with_reducible apply keeps_foldl_snd | intro _ _ _ | dsimp only | intro _ _ | intro _)

theorem State.completeTx_keeps {p_ : Allow} {z : State} {s : State} (p : Nat)  (hports_ : p_.may .ports = true) (h_ : Keeps p_ z s) : Keeps p_ z (State.completeTx s p) := by
  unfold State.completeTx
  repeat' (first | with_reducible assumption | with_reducible exact Keeps.refl _ _ | with_reducible apply State.updPort_keeps | with_reducible apply State.count_keeps | with_reducible apply State.returnTx_keeps | with_reducible apply State.applyPause_keeps | with_reducible apply keepsParts_intro | with_reducible exact Or.inl (by with_reducible assumption) | with_reducible exact Or.inr rfl | simp only [keeps_mk] | with_reducible refine keepsMk_of ?_ ⟨rfl, rfl⟩ (fun h_ => by first | exact h_ | simpa only [updAt_length] using h_ | with_unfolding_all rfl) ?_ ?_ | with_reducible apply keeps_ite | split | intro _ _ | dsimp only | intro _ _ | intro _)

theorem State.admitOptics_keeps {p_ : Allow} {z : State} {s : State} (p code : Nat)  (hevents_ : p_.may .events = true) (hports_ : p_.may .ports = true) (h_ : Keeps p_ z s) : Keeps p_ z (State.admitOptics s p code) := by
  unfold State.admitOptics
  repeat' (first | with_reducible assumption | with_reducible exact Keeps.refl _ _ | with_reducible apply State.updPort_keeps | with_reducible apply State.raise_keeps | with_reducible apply keepsParts_intro | with_reducible exact Or.inl (by with_reducible assumption) | with_reducible exact Or.inr rfl | simp only [keeps_mk] | with_reducible refine keepsMk_of ?_ ⟨rfl, rfl⟩ (fun h_ => by first | exact h_ | simpa only [updAt_length] using h_ | with_unfolding_all rfl) ?_ ?_ | with_reducible apply keeps_ite | split | dsimp only | intro _ _ | intro _)

theorem State.copyOptics_keeps {p_ : Allow} {z : State} {s : State} (p : Nat) (b : List Byte)  (h_ : Keeps p_ z s) : Keeps p_ z (State.copyOptics s p b) := by
  unfold State.copyOptics
  repeat' (first | with_reducible assumption | with_reducible exact Keeps.refl _ _ | with_reducible apply State.setReg_keeps | with_reducible apply State.status_keeps | with_reducible apply keeps_foldl | with_reducible apply keeps_foldl_fst | with_reducible apply keeps_foldl_snd | intro _ _ _ | with_reducible apply keeps_ite | split | dsimp only | intro _ _ | intro _)

theorem State.rejudge_keeps {p_ : Allow} {z : State} {s : State} (p : Nat)  (hevents_ : p_.may .events = true) (hports_ : p_.may .ports = true) (h_ : Keeps p_ z s) : Keeps p_ z (State.rejudge s p) := by
  unfold State.rejudge
  repeat' (first | with_reducible assumption | with_reducible exact Keeps.refl _ _ | with_reducible apply State.admitOptics_keeps | with_reducible apply State.relink_keeps | with_reducible apply keeps_ite | split | dsimp only | intro _ _ | intro _)

theorem State.setI2c_keeps {p_ : Allow} {z : State} {s : State} (m : Nat) (f : I2cMaster → I2cMaster)  (hports_ : p_.may .ports = true) (h_ : Keeps p_ z s) : Keeps p_ z (State.setI2c s m f) := by
  unfold State.setI2c
  repeat' (first | with_reducible assumption | with_reducible exact Keeps.refl _ _ | with_reducible apply keepsParts_intro | with_reducible exact Or.inl (by with_reducible assumption) | with_reducible exact Or.inr rfl | simp only [keeps_mk] | with_reducible refine keepsMk_of ?_ ⟨rfl, rfl⟩ (fun h_ => by first | exact h_ | simpa only [updAt_length] using h_ | with_unfolding_all rfl) ?_ ?_ | dsimp only | intro _ _ | intro _)

theorem State.takeI2c_keeps_of {p_ : Allow} {z : State} {s : State} {p : Fin 10} {t_ : State} (e_ : (State.takeI2c s p) = some t_) (hports_ : p_.may .ports = true) (h_ : Keeps p_ z s) : Keeps p_ z t_ := by
  unfold State.takeI2c at e_
  have k_ : ∀ t, some t = some t_ → Keeps p_ z t → Keeps p_ z t_ := fun t e h => by rw [← Option.some.inj e]; exact h
  repeat' (first | (simp only [reduceCtorEq] at e_; done) | refine k_ _ e_ ?_ | split at e_ | dsimp only at e_)
  all_goals (repeat' (first | assumption | apply State.setI2c_keeps))

theorem State.freeI2c_keeps {p_ : Allow} {z : State} {s : State} (p : Fin 10)  (hports_ : p_.may .ports = true) (h_ : Keeps p_ z s) : Keeps p_ z (State.freeI2c s p) := by
  unfold State.freeI2c
  repeat' (first | with_reducible assumption | with_reducible exact Keeps.refl _ _ | with_reducible apply State.setI2c_keeps | with_reducible apply keepsParts_intro | with_reducible exact Or.inl (by with_reducible assumption) | with_reducible exact Or.inr rfl | simp only [keeps_mk] | with_reducible refine keepsMk_of ?_ ⟨rfl, rfl⟩ (fun h_ => by first | exact h_ | simpa only [updAt_length] using h_ | with_unfolding_all rfl) ?_ ?_ | with_reducible apply keeps_ite | split | dsimp only | intro _ _ | intro _)

theorem State.readCnt64_keeps {p_ : Allow} {z : State} {s : State} (p : Nat) (tx : Bool)  (hports_ : p_.may .ports = true) (h_ : Keeps p_ z s) : Keeps p_ z (State.readCnt64 s p tx).2 := by
  unfold State.readCnt64
  repeat' (first | with_reducible assumption | with_reducible exact Keeps.refl _ _ | with_reducible apply State.setReg_keeps | with_reducible apply State.updPort_keeps | with_reducible apply keepsParts_intro | with_reducible exact Or.inl (by with_reducible assumption) | with_reducible exact Or.inr rfl | simp only [keeps_mk] | with_reducible refine keepsMk_of ?_ ⟨rfl, rfl⟩ (fun h_ => by first | exact h_ | simpa only [updAt_length] using h_ | with_unfolding_all rfl) ?_ ?_ | with_reducible apply keeps_ite | split | dsimp only | intro _ _ | intro _)
theorem State.readCnt64_keeps_of {p_ : Allow} {z : State} {s : State} {p : Nat} {tx : Bool} {a_ : _} {t_ : State} (e_ : State.readCnt64 s p tx = (a_, t_)) (hports_ : p_.may .ports = true) (h_ : Keeps p_ z s) : Keeps p_ z t_ := by
  have k_ := State.readCnt64_keeps (z := z) p tx hports_ h_
  rw [e_] at k_; exact k_

/-! ### Machine/PublicationOps.lean -/

theorem State.pubCount_keeps {p_ : Allow} {z : State} {s : State} (i n : Nat)  (h_ : Keeps p_ z s) : Keeps p_ z (State.pubCount s i n) := by
  unfold State.pubCount
  repeat' (first | with_reducible assumption | with_reducible exact Keeps.refl _ _ | with_reducible apply State.count_keeps | dsimp only | intro _ _ | intro _)

theorem State.sendDatagram_keeps {p_ : Allow} {z : State} {s : State} (stream : Nat) (t : Instant) (set : Nat) (vlan : Bool) (len : Nat) (cont : List Byte)  (hfree_ : p_.may .free = true) (hports_ : p_.may .ports = true) (h_ : Keeps p_ z s) : Keeps p_ z (State.sendDatagram s stream t set vlan len cont) := by
  unfold State.sendDatagram
  repeat' (first | with_reducible assumption | with_reducible exact Keeps.refl _ _ | with_reducible apply State.sendPrp_keeps | with_reducible apply State.pubCount_keeps | with_reducible apply State.status_keeps | with_reducible apply State.nextFree_keeps | with_reducible apply keeps_foldl | with_reducible apply keeps_foldl_fst | with_reducible apply keeps_foldl_snd | intro _ _ _ | with_reducible apply keeps_ite | split | dsimp only | intro _ _ | intro _)

theorem State.tagWith_keeps {p_ : Allow} {z : State} {s : State} (routed : Bool) (slot : Nat) (m : List Byte)  (hfree_ : p_.may .free = true) (hkey_ : p_.may .key = true) (h_ : Keeps p_ z s) : Keeps p_ z (State.tagWith s routed slot m).2 := by
  unfold State.tagWith
  repeat' (first | with_reducible assumption | with_reducible exact Keeps.refl _ _ | with_reducible apply State.useKeySlot_keeps | with_reducible apply State.nextFree_keeps | with_reducible refine State.useKeySlot_keeps_of (by with_reducible assumption) ?_ ?_ ?_ | with_reducible apply keeps_ite | split | dsimp only | intro _ _ | intro _)
theorem State.tagWith_keeps_of {p_ : Allow} {z : State} {s : State} {routed : Bool} {slot : Nat} {m : List Byte} {a_ : _} {t_ : State} (e_ : State.tagWith s routed slot m = (a_, t_)) (hfree_ : p_.may .free = true) (hkey_ : p_.may .key = true) (h_ : Keeps p_ z s) : Keeps p_ z t_ := by
  have k_ := State.tagWith_keeps (z := z) routed slot m hfree_ hkey_ h_
  rw [e_] at k_; exact k_

theorem State.noteKeyStop_keeps {p_ : Allow} {z : State} {s : State}  (h_ : Keeps p_ z s) : Keeps p_ z (State.noteKeyStop s) := by
  unfold State.noteKeyStop
  repeat' (first | with_reducible assumption | with_reducible exact Keeps.refl _ _ | with_reducible apply State.pubCount_keeps | with_reducible apply State.status_keeps | dsimp only | intro _ _ | intro _)

theorem State.setAlarm_keeps {p_ : Allow} {z : State} {s : State} (t : Instant) (c : AlarmChange)  (hpub_ : p_.may .pub = true) (h_ : Keeps p_ z s) : Keeps p_ z (State.setAlarm s t c) := by
  unfold State.setAlarm
  repeat' (first | with_reducible assumption | with_reducible exact Keeps.refl _ _ | with_reducible apply State.pubCount_keeps | with_reducible apply State.status_keeps | with_reducible apply State.setPub_keeps | with_reducible apply keepsParts_intro | with_reducible exact Or.inl (by with_reducible assumption) | with_reducible exact Or.inr rfl | simp only [keeps_mk] | with_reducible refine keepsMk_of ?_ ⟨rfl, rfl⟩ (fun h_ => by first | exact h_ | simpa only [updAt_length] using h_ | with_unfolding_all rfl) ?_ ?_ | with_reducible apply keeps_ite | split | intro _ _ | dsimp only | intro _ _ | intro _)

theorem State.updBlock_keeps {p_ : Allow} {z : State} {s : State} (k : Nat) (f : Gocb → Gocb)  (hpub_ : p_.may .pub = true) (h_ : Keeps p_ z s) : Keeps p_ z (State.updBlock s k f) := by
  unfold State.updBlock
  repeat' (first | with_reducible assumption | with_reducible exact Keeps.refl _ _ | with_reducible apply State.setPub_keeps | with_reducible apply keepsParts_intro | with_reducible exact Or.inl (by with_reducible assumption) | with_reducible exact Or.inr rfl | simp only [keeps_mk] | with_reducible refine keepsMk_of ?_ ⟨rfl, rfl⟩ (fun h_ => by first | exact h_ | simpa only [updAt_length] using h_ | with_unfolding_all rfl) ?_ ?_ | dsimp only | intro _ _ | intro _)

theorem State.sendBlock_keeps {p_ : Allow} {z : State} {s : State} (k : Nat)  (hfree_ : p_.may .free = true) (hports_ : p_.may .ports = true) (hpub_ : p_.may .pub = true) (hkey_ : p_.may .key = true) (h_ : Keeps p_ z s) : Keeps p_ z (State.sendBlock s k) := by
  unfold State.sendBlock
  repeat' (first | with_reducible assumption | with_reducible exact Keeps.refl _ _ | with_reducible apply State.sendPrp_keeps | with_reducible apply State.pubCount_keeps | with_reducible apply State.tagWith_keeps | with_reducible apply State.updBlock_keeps | with_reducible apply State.noteKeyStop_keeps | with_reducible refine State.tagWith_keeps_of (by with_reducible assumption) ?_ ?_ ?_ | with_reducible apply keeps_foldl | with_reducible apply keeps_foldl_fst | with_reducible apply keeps_foldl_snd | intro _ _ _ | with_reducible apply keepsParts_intro | with_reducible exact Or.inl (by with_reducible assumption) | with_reducible exact Or.inr rfl | simp only [keeps_mk] | with_reducible refine keepsMk_of ?_ ⟨rfl, rfl⟩ (fun h_ => by first | exact h_ | simpa only [updAt_length] using h_ | with_unfolding_all rfl) ?_ ?_ | with_reducible apply keeps_ite | split | intro _ _ | dsimp only | intro _ _ | intro _)

theorem State.publishViews_keeps {p_ : Allow} {z : State} {s : State} (k : Nat) (views : List MemberView)  (hfree_ : p_.may .free = true) (hports_ : p_.may .ports = true) (hpub_ : p_.may .pub = true) (hkey_ : p_.may .key = true) (h_ : Keeps p_ z s) : Keeps p_ z (State.publishViews s k views) := by
  unfold State.publishViews
  repeat' (first | with_reducible assumption | with_reducible exact Keeps.refl _ _ | with_reducible apply State.setReg_keeps | with_reducible apply State.updBlock_keeps | with_reducible apply State.sendBlock_keeps | with_reducible apply keepsParts_intro | with_reducible exact Or.inl (by with_reducible assumption) | with_reducible exact Or.inr rfl | simp only [keeps_mk] | with_reducible refine keepsMk_of ?_ ⟨rfl, rfl⟩ (fun h_ => by first | exact h_ | simpa only [updAt_length] using h_ | with_unfolding_all rfl) ?_ ?_ | dsimp only | intro _ _ | intro _)

theorem State.publishBlock_keeps {p_ : Allow} {z : State} {s : State} (k : Nat)  (hfree_ : p_.may .free = true) (hports_ : p_.may .ports = true) (hpub_ : p_.may .pub = true) (hkey_ : p_.may .key = true) (h_ : Keeps p_ z s) : Keeps p_ z (State.publishBlock s k) := by
  unfold State.publishBlock
  repeat' (first | with_reducible assumption | with_reducible exact Keeps.refl _ _ | with_reducible apply State.publishViews_keeps | dsimp only | intro _ _ | intro _)

theorem State.refreshBlock_keeps {p_ : Allow} {z : State} {s : State} (k : Nat)  (hfree_ : p_.may .free = true) (hports_ : p_.may .ports = true) (hpub_ : p_.may .pub = true) (hkey_ : p_.may .key = true) (h_ : Keeps p_ z s) : Keeps p_ z (State.refreshBlock s k) := by
  unfold State.refreshBlock
  repeat' (first | with_reducible assumption | with_reducible exact Keeps.refl _ _ | with_reducible apply State.updBlock_keeps | with_reducible apply State.publishViews_keeps | with_reducible apply keepsParts_intro | with_reducible exact Or.inl (by with_reducible assumption) | with_reducible exact Or.inr rfl | simp only [keeps_mk] | with_reducible refine keepsMk_of ?_ ⟨rfl, rfl⟩ (fun h_ => by first | exact h_ | simpa only [updAt_length] using h_ | with_unfolding_all rfl) ?_ ?_ | with_reducible apply keeps_ite | split | intro _ _ | dsimp only | intro _ _ | intro _)

theorem State.retransmit_keeps {p_ : Allow} {z : State} {s : State} (k : Nat)  (hfree_ : p_.may .free = true) (hports_ : p_.may .ports = true) (hpub_ : p_.may .pub = true) (hkey_ : p_.may .key = true) (h_ : Keeps p_ z s) : Keeps p_ z (State.retransmit s k) := by
  unfold State.retransmit
  repeat' (first | with_reducible assumption | with_reducible exact Keeps.refl _ _ | with_reducible apply State.setReg_keeps | with_reducible apply State.updBlock_keeps | with_reducible apply State.sendBlock_keeps | with_reducible apply keepsParts_intro | with_reducible exact Or.inl (by with_reducible assumption) | with_reducible exact Or.inr rfl | simp only [keeps_mk] | with_reducible refine keepsMk_of ?_ ⟨rfl, rfl⟩ (fun h_ => by first | exact h_ | simpa only [updAt_length] using h_ | with_unfolding_all rfl) ?_ ?_ | dsimp only | intro _ _ | intro _)

theorem State.stopBlock_keeps {p_ : Allow} {z : State} {s : State} (k : Nat)  (hpub_ : p_.may .pub = true) (h_ : Keeps p_ z s) : Keeps p_ z (State.stopBlock s k) := by
  unfold State.stopBlock
  repeat' (first | with_reducible assumption | with_reducible exact Keeps.refl _ _ | with_reducible apply State.updBlock_keeps | with_reducible apply keepsParts_intro | with_reducible exact Or.inl (by with_reducible assumption) | with_reducible exact Or.inr rfl | simp only [keeps_mk] | with_reducible refine keepsMk_of ?_ ⟨rfl, rfl⟩ (fun h_ => by first | exact h_ | simpa only [updAt_length] using h_ | with_unfolding_all rfl) ?_ ?_ | dsimp only | intro _ _ | intro _)

theorem State.settleBlock_keeps {p_ : Allow} {z : State} {s : State} (k : Nat) (was : Bool)  (hfree_ : p_.may .free = true) (hports_ : p_.may .ports = true) (hpub_ : p_.may .pub = true) (hkey_ : p_.may .key = true) (h_ : Keeps p_ z s) : Keeps p_ z (State.settleBlock s k was) := by
  unfold State.settleBlock
  repeat' (first | with_reducible assumption | with_reducible exact Keeps.refl _ _ | with_reducible apply State.publishBlock_keeps | with_reducible apply State.stopBlock_keeps | with_reducible apply keeps_ite | split | dsimp only | intro _ _ | intro _)

theorem State.updLand_keeps {p_ : Allow} {z : State} {s : State} (n : Nat) (f : AlarmLand → AlarmLand)  (hpub_ : p_.may .pub = true) (h_ : Keeps p_ z s) : Keeps p_ z (State.updLand s n f) := by
  unfold State.updLand
  repeat' (first | with_reducible assumption | with_reducible exact Keeps.refl _ _ | with_reducible apply State.setPub_keeps | with_reducible apply keepsParts_intro | with_reducible exact Or.inl (by with_reducible assumption) | with_reducible exact Or.inr rfl | simp only [keeps_mk] | with_reducible refine keepsMk_of ?_ ⟨rfl, rfl⟩ (fun h_ => by first | exact h_ | simpa only [updAt_length] using h_ | with_unfolding_all rfl) ?_ ?_ | dsimp only | intro _ _ | intro _)

theorem State.driveLand_keeps {p_ : Allow} {z : State} {s : State} (n : Nat) (cleared : Bool)  (hpub_ : p_.may .pub = true) (h_ : Keeps p_ z s) : Keeps p_ z (State.driveLand s n cleared) := by
  unfold State.driveLand
  repeat' (first | with_reducible assumption | with_reducible exact Keeps.refl _ _ | with_reducible apply State.updLand_keeps | with_reducible apply keepsParts_intro | with_reducible exact Or.inl (by with_reducible assumption) | with_reducible exact Or.inr rfl | simp only [keeps_mk] | with_reducible refine keepsMk_of ?_ ⟨rfl, rfl⟩ (fun h_ => by first | exact h_ | simpa only [updAt_length] using h_ | with_unfolding_all rfl) ?_ ?_ | with_reducible apply keeps_ite | split | dsimp only | intro _ _ | intro _)

theorem State.takeBatch_keeps {p_ : Allow} {z : State} {s : State} (b : AlarmBatch)  (hfree_ : p_.may .free = true) (hports_ : p_.may .ports = true) (hcapIn_ : p_.may .capIn = true) (hpub_ : p_.may .pub = true) (hkey_ : p_.may .key = true) (h_ : Keeps p_ z s) : Keeps p_ z (State.takeBatch s b) := by
  unfold State.takeBatch
  repeat' (first | with_reducible assumption | with_reducible exact Keeps.refl _ _ | with_reducible apply State.setAlarm_keeps | with_reducible apply State.refreshBlock_keeps | with_reducible apply State.driveLand_keeps | with_reducible apply keeps_foldl | with_reducible apply keeps_foldl_fst | with_reducible apply keeps_foldl_snd | intro _ _ _ | with_reducible apply keepsParts_intro | with_reducible exact Or.inl (by with_reducible assumption) | with_reducible exact Or.inr rfl | simp only [keeps_mk] | with_reducible refine keepsMk_of ?_ ⟨rfl, rfl⟩ (fun h_ => by first | exact h_ | simpa only [updAt_length] using h_ | with_unfolding_all rfl) ?_ ?_ | dsimp only | intro _ _ | intro _)

theorem State.updStream_keeps {p_ : Allow} {z : State} {s : State} (i : Nat) (f : Stream → Stream)  (hpub_ : p_.may .pub = true) (h_ : Keeps p_ z s) : Keeps p_ z (State.updStream s i f) := by
  unfold State.updStream
  repeat' (first | with_reducible assumption | with_reducible exact Keeps.refl _ _ | with_reducible apply State.setPub_keeps | with_reducible apply keepsParts_intro | with_reducible exact Or.inl (by with_reducible assumption) | with_reducible exact Or.inr rfl | simp only [keeps_mk] | with_reducible refine keepsMk_of ?_ ⟨rfl, rfl⟩ (fun h_ => by first | exact h_ | simpa only [updAt_length] using h_ | with_unfolding_all rfl) ?_ ?_ | dsimp only | intro _ _ | intro _)

theorem State.applyStream_keeps {p_ : Allow} {z : State} {s : State} (i : Nat) (t : Instant) (c : StreamCfg)  (hpub_ : p_.may .pub = true) (h_ : Keeps p_ z s) : Keeps p_ z (State.applyStream s i t c) := by
  unfold State.applyStream
  repeat' (first | with_reducible assumption | with_reducible exact Keeps.refl _ _ | with_reducible apply State.setRb_keeps | with_reducible apply State.setRf_keeps | with_reducible apply State.updStream_keeps | with_reducible apply keepsParts_intro | with_reducible exact Or.inl (by with_reducible assumption) | with_reducible exact Or.inr rfl | simp only [keeps_mk] | with_reducible refine keepsMk_of ?_ ⟨rfl, rfl⟩ (fun h_ => by first | exact h_ | simpa only [updAt_length] using h_ | with_unfolding_all rfl) ?_ ?_ | dsimp only | intro _ _ | intro _)

theorem State.sendStream_keeps {p_ : Allow} {z : State} {s : State} (i : Nat) (x : Snapshot)  (hfree_ : p_.may .free = true) (hports_ : p_.may .ports = true) (hpub_ : p_.may .pub = true) (hkey_ : p_.may .key = true) (h_ : Keeps p_ z s) : Keeps p_ z (State.sendStream s i x) := by
  unfold State.sendStream
  repeat' (first | with_reducible assumption | with_reducible exact Keeps.refl _ _ | with_reducible apply State.updStream_keeps | with_reducible apply State.pubCount_keeps | with_reducible apply State.sendDatagram_keeps | with_reducible apply State.setPub_keeps | with_reducible apply State.tagWith_keeps | with_reducible apply State.noteKeyStop_keeps | with_reducible refine State.tagWith_keeps_of (by with_reducible assumption) ?_ ?_ ?_ | with_reducible apply keepsParts_intro | with_reducible exact Or.inl (by with_reducible assumption) | with_reducible exact Or.inr rfl | simp only [keeps_mk] | with_reducible refine keepsMk_of ?_ ⟨rfl, rfl⟩ (fun h_ => by first | exact h_ | simpa only [updAt_length] using h_ | with_unfolding_all rfl) ?_ ?_ | with_reducible apply keeps_ite | split | intro _ _ | dsimp only | intro _ _ | intro _)

theorem State.publishSnapshot_keeps {p_ : Allow} {z : State} {s : State} (x : Snapshot)  (hfree_ : p_.may .free = true) (hports_ : p_.may .ports = true) (hpub_ : p_.may .pub = true) (hkey_ : p_.may .key = true) (h_ : Keeps p_ z s) : Keeps p_ z (State.publishSnapshot s x) := by
  unfold State.publishSnapshot
  repeat' (first | with_reducible assumption | with_reducible exact Keeps.refl _ _ | with_reducible apply State.takePoison_keeps | with_reducible apply State.pubCount_keeps | with_reducible apply State.status_keeps | with_reducible apply State.sendStream_keeps | with_reducible refine State.takePoison_keeps_of (by with_reducible assumption) ?_ | with_reducible apply keeps_foldl | with_reducible apply keeps_foldl_fst | with_reducible apply keeps_foldl_snd | intro _ _ _ | with_reducible apply keeps_ite | split | dsimp only | intro _ _ | intro _)

theorem State.pubKeyStops_keeps {p_ : Allow} {z : State} {s : State}  (hpub_ : p_.may .pub = true) (h_ : Keeps p_ z s) : Keeps p_ z (State.pubKeyStops s) := by
  unfold State.pubKeyStops
  repeat' (first | with_reducible assumption | with_reducible exact Keeps.refl _ _ | with_reducible apply State.updStream_keeps | with_reducible apply State.noteKeyStop_keeps | with_reducible apply State.updBlock_keeps | with_reducible apply keeps_foldl | with_reducible apply keeps_foldl_fst | with_reducible apply keeps_foldl_snd | intro _ _ _ | with_reducible apply keepsParts_intro | with_reducible exact Or.inl (by with_reducible assumption) | with_reducible exact Or.inr rfl | simp only [keeps_mk] | with_reducible refine keepsMk_of ?_ ⟨rfl, rfl⟩ (fun h_ => by first | exact h_ | simpa only [updAt_length] using h_ | with_unfolding_all rfl) ?_ ?_ | dsimp only | intro _ _ | intro _)

theorem State.resetAtomizer_keeps {p_ : Allow} {z : State} {s : State}  (hpub_ : p_.may .pub = true) (h_ : Keeps p_ z s) : Keeps p_ z (State.resetAtomizer s) := by
  unfold State.resetAtomizer
  repeat' (first | with_reducible assumption | with_reducible exact Keeps.refl _ _ | with_reducible apply State.resetRegs_keeps | with_reducible apply State.setRf_keeps | with_reducible apply State.setPub_keeps | with_reducible apply keepsParts_intro | with_reducible exact Or.inl (by with_reducible assumption) | with_reducible exact Or.inr rfl | simp only [keeps_mk] | with_reducible refine keepsMk_of ?_ ⟨rfl, rfl⟩ (fun h_ => by first | exact h_ | simpa only [updAt_length] using h_ | with_unfolding_all rfl) ?_ ?_ | dsimp only | intro _ _ | intro _)

theorem State.resumeAtomizer_keeps {p_ : Allow} {z : State} {s1 : State} (osc : List AlarmChange)  (hfree_ : p_.may .free = true) (hports_ : p_.may .ports = true) (hpub_ : p_.may .pub = true) (hkey_ : p_.may .key = true) (h_ : Keeps p_ z s1) : Keeps p_ z (State.resumeAtomizer s1 osc) := by
  unfold State.resumeAtomizer
  repeat' (first | with_reducible assumption | with_reducible exact Keeps.refl _ _ | with_reducible apply State.setPub_keeps | with_reducible apply State.setAlarm_keeps | with_reducible apply State.driveLand_keeps | with_reducible apply State.publishBlock_keeps | with_reducible apply keeps_foldl | with_reducible apply keeps_foldl_fst | with_reducible apply keeps_foldl_snd | intro _ _ _ | with_reducible apply keepsParts_intro | with_reducible exact Or.inl (by with_reducible assumption) | with_reducible exact Or.inr rfl | simp only [keeps_mk] | with_reducible refine keepsMk_of ?_ ⟨rfl, rfl⟩ (fun h_ => by first | exact h_ | simpa only [updAt_length] using h_ | with_unfolding_all rfl) ?_ ?_ | split | intro _ _ | dsimp only | intro _ _ | intro _)

theorem State.retractAll_keeps {p_ : Allow} {z : State} {s : State}  (hfree_ : p_.may .free = true) (hports_ : p_.may .ports = true) (hcapIn_ : p_.may .capIn = true) (hbatches_ : p_.may .batches = true) (hpub_ : p_.may .pub = true) (hkey_ : p_.may .key = true) (h_ : Keeps p_ z s) : Keeps p_ z (State.retractAll s) := by
  unfold State.retractAll
  repeat' (first | with_reducible assumption | with_reducible exact Keeps.refl _ _ | with_reducible apply State.takeBatch_keeps | with_reducible apply keepsParts_intro | with_reducible exact Or.inl (by with_reducible assumption) | with_reducible exact Or.inr rfl | simp only [keeps_mk] | with_reducible refine keepsMk_of ?_ ⟨rfl, rfl⟩ (fun h_ => by first | exact h_ | simpa only [updAt_length] using h_ | with_unfolding_all rfl) ?_ ?_ | with_reducible apply keeps_ite | split | dsimp only | intro _ _ | intro _)

/-! ### Machine/OscillationOps.lean -/

theorem State.oscCount_keeps {p_ : Allow} {z : State} {s : State} (i n : Nat)  (h_ : Keeps p_ z s) : Keeps p_ z (State.oscCount s i n) := by
  unfold State.oscCount
  repeat' (first | with_reducible assumption | with_reducible exact Keeps.refl _ _ | with_reducible apply State.count_keeps | dsimp only | intro _ _ | intro _)

theorem State.updSet_keeps {p_ : Allow} {z : State} {s : State} (i : Nat) (f : OscSet → OscSet)  (hosc_ : p_.may .osc = true) (h_ : Keeps p_ z s) : Keeps p_ z (State.updSet s i f) := by
  unfold State.updSet
  repeat' (first | with_reducible assumption | with_reducible exact Keeps.refl _ _ | with_reducible apply State.setOsc_keeps | with_reducible apply keepsParts_intro | with_reducible exact Or.inl (by with_reducible assumption) | with_reducible exact Or.inr rfl | simp only [keeps_mk] | with_reducible refine keepsMk_of ?_ ⟨rfl, rfl⟩ (fun h_ => by first | exact h_ | simpa only [updAt_length] using h_ | with_unfolding_all rfl) ?_ ?_ | dsimp only | intro _ _ | intro _)

theorem State.noteOsc_keeps {p_ : Allow} {z : State} {s : State} (i : Nat) (a : OscAlarm) (raised : Bool)  (hevents_ : p_.may .events = true) (h_ : Keeps p_ z s) : Keeps p_ z (State.noteOsc s i a raised) := by
  unfold State.noteOsc
  repeat' (first | with_reducible assumption | with_reducible exact Keeps.refl _ _ | with_reducible apply State.oscCount_keeps | with_reducible apply State.status_keeps | with_reducible apply State.raiseAs_keeps | with_reducible apply State.track_keeps | with_reducible apply keeps_ite | split | dsimp only | intro _ _ | intro _)

theorem State.setOscAlarms_keeps {p_ : Allow} {z : State} {s : State} (i : Nat) (t : Instant) (kept raised : List OscAlarm) (gone : List (OscAlarm × Option ClearCause))  (hevents_ : p_.may .events = true) (hbatches_ : p_.may .batches = true) (hosc_ : p_.may .osc = true) (h_ : Keeps p_ z s) : Keeps p_ z (State.setOscAlarms s i t kept raised gone) := by
  unfold State.setOscAlarms
  repeat' (first | with_reducible assumption | with_reducible exact Keeps.refl _ _ | with_reducible apply State.updSet_keeps | with_reducible apply State.noteOsc_keeps | with_reducible apply State.batch_keeps | with_reducible apply keeps_foldl | with_reducible apply keeps_foldl_fst | with_reducible apply keeps_foldl_snd | intro _ _ _ | with_reducible apply keepsParts_intro | with_reducible exact Or.inl (by with_reducible assumption) | with_reducible exact Or.inr rfl | simp only [keeps_mk] | with_reducible refine keepsMk_of ?_ ⟨rfl, rfl⟩ (fun h_ => by first | exact h_ | simpa only [updAt_length] using h_ | with_unfolding_all rfl) ?_ ?_ | dsimp only | intro _ _ | intro _)

theorem State.defUpdate_keeps {p_ : Allow} {z : State} {s : State} (i : Nat) (u : OscUpdate) (hi k0 : Nat) (tracks : List (Nat × OscTrack))  (hfree_ : p_.may .free = true) (hosc_ : p_.may .osc = true) (h_ : Keeps p_ z s) : Keeps p_ z (State.defUpdate s i u hi k0 tracks).2 := by
  unfold State.defUpdate
  repeat' (first | with_reducible assumption | with_reducible exact Keeps.refl _ _ | with_reducible apply State.nextFree_keeps | with_reducible apply State.oscCount_keeps | with_reducible apply State.updSet_keeps | with_reducible apply keepsParts_intro | with_reducible exact Or.inl (by with_reducible assumption) | with_reducible exact Or.inr rfl | simp only [keeps_mk] | with_reducible refine keepsMk_of ?_ ⟨rfl, rfl⟩ (fun h_ => by first | exact h_ | simpa only [updAt_length] using h_ | with_unfolding_all rfl) ?_ ?_ | with_reducible apply keeps_ite | split | dsimp only | intro _ _ | intro _)
theorem State.defUpdate_keeps_of {p_ : Allow} {z : State} {s : State} {i : Nat} {u : OscUpdate} {hi k0 : Nat} {tracks : List (Nat × OscTrack)} {a_ : _} {t_ : State} (e_ : State.defUpdate s i u hi k0 tracks = (a_, t_)) (hfree_ : p_.may .free = true) (hosc_ : p_.may .osc = true) (h_ : Keeps p_ z s) : Keeps p_ z t_ := by
  have k_ := State.defUpdate_keeps (z := z) i u hi k0 tracks hfree_ hosc_ h_
  rw [e_] at k_; exact k_

theorem State.noteSignals_keeps {p_ : Allow} {z : State} {s : State} (i : Nat) (u : OscUpdate) (data : List (Nat × List SigIn))  (hosc_ : p_.may .osc = true) (h_ : Keeps p_ z s) : Keeps p_ z (State.noteSignals s i u data) := by
  unfold State.noteSignals
  repeat' (first | with_reducible assumption | with_reducible exact Keeps.refl _ _ | with_reducible apply State.oscCount_keeps | with_reducible apply State.updSet_keeps | with_reducible apply State.status_keeps | with_reducible apply keepsParts_intro | with_reducible exact Or.inl (by with_reducible assumption) | with_reducible exact Or.inr rfl | simp only [keeps_mk] | with_reducible refine keepsMk_of ?_ ⟨rfl, rfl⟩ (fun h_ => by first | exact h_ | simpa only [updAt_length] using h_ | with_unfolding_all rfl) ?_ ?_ | with_reducible apply keeps_ite | split | dsimp only | intro _ _ | intro _)

theorem State.oscResults_keeps {p_ : Allow} {z : State} {s : State} (i : Nat) (u : OscUpdate) (w : OscWindow) (data : List (Nat × List SigIn))  (hfree_ : p_.may .free = true) (hevents_ : p_.may .events = true) (hbatches_ : p_.may .batches = true) (hosc_ : p_.may .osc = true) (h_ : Keeps p_ z s) : Keeps p_ z (State.oscResults s i u w data) := by
  unfold State.oscResults
  repeat' (first | with_reducible assumption | with_reducible exact Keeps.refl _ _ | with_reducible apply State.nextFree_keeps | with_reducible apply State.oscCount_keeps | with_reducible apply State.status_keeps | with_reducible apply State.defUpdate_keeps | with_reducible apply State.updSet_keeps | with_reducible apply State.setOscAlarms_keeps | with_reducible refine State.defUpdate_keeps_of (by with_reducible assumption) ?_ ?_ ?_ | with_reducible apply keepsParts_intro | with_reducible exact Or.inl (by with_reducible assumption) | with_reducible exact Or.inr rfl | simp only [keeps_mk] | with_reducible refine keepsMk_of ?_ ⟨rfl, rfl⟩ (fun h_ => by first | exact h_ | simpa only [updAt_length] using h_ | with_unfolding_all rfl) ?_ ?_ | with_reducible apply keeps_ite | split | intro _ _ | dsimp only | intro _ _ | intro _)

theorem State.oscUpdate_keeps {p_ : Allow} {z : State} {s : State} (i : Nat) (u : OscUpdate)  (hfree_ : p_.may .free = true) (hevents_ : p_.may .events = true) (hbatches_ : p_.may .batches = true) (hosc_ : p_.may .osc = true) (h_ : Keeps p_ z s) : Keeps p_ z (State.oscUpdate s i u) := by
  unfold State.oscUpdate
  repeat' (first | with_reducible assumption | with_reducible exact Keeps.refl _ _ | with_reducible apply State.noteSignals_keeps | with_reducible apply State.oscCount_keeps | with_reducible apply State.oscResults_keeps | with_reducible apply keeps_ite | split | dsimp only | intro _ _ | intro _)

theorem State.restartSet_keeps {p_ : Allow} {z : State} {s : State} (at_ : Instant) (i : Nat)  (hosc_ : p_.may .osc = true) (h_ : Keeps p_ z s) : Keeps p_ z (State.restartSet s at_ i) := by
  unfold State.restartSet
  repeat' (first | with_reducible assumption | with_reducible exact Keeps.refl _ _ | with_reducible apply State.updSet_keeps | with_reducible apply State.status_keeps | with_reducible apply keepsParts_intro | with_reducible exact Or.inl (by with_reducible assumption) | with_reducible exact Or.inr rfl | simp only [keeps_mk] | with_reducible refine keepsMk_of ?_ ⟨rfl, rfl⟩ (fun h_ => by first | exact h_ | simpa only [updAt_length] using h_ | with_unfolding_all rfl) ?_ ?_ | with_reducible apply keeps_ite | split | dsimp only | intro _ _ | intro _)

theorem State.oscTimeStep_keeps {p_ : Allow} {z : State} {s : State}  (hosc_ : p_.may .osc = true) (h_ : Keeps p_ z s) : Keeps p_ z (State.oscTimeStep s) := by
  unfold State.oscTimeStep
  repeat' (first | with_reducible assumption | with_reducible exact Keeps.refl _ _ | with_reducible apply State.restartSet_keeps | with_reducible apply State.setOsc_keeps | with_reducible apply keeps_foldl | with_reducible apply keeps_foldl_fst | with_reducible apply keeps_foldl_snd | intro _ _ _ | with_reducible apply keepsParts_intro | with_reducible exact Or.inl (by with_reducible assumption) | with_reducible exact Or.inr rfl | simp only [keeps_mk] | with_reducible refine keepsMk_of ?_ ⟨rfl, rfl⟩ (fun h_ => by first | exact h_ | simpa only [updAt_length] using h_ | with_unfolding_all rfl) ?_ ?_ | dsimp only | intro _ _ | intro _)

theorem State.stopSet_keeps {p_ : Allow} {z : State} {s : State} (i : Nat)  (hevents_ : p_.may .events = true) (hbatches_ : p_.may .batches = true) (hosc_ : p_.may .osc = true) (h_ : Keeps p_ z s) : Keeps p_ z (State.stopSet s i) := by
  unfold State.stopSet
  repeat' (first | with_reducible assumption | with_reducible exact Keeps.refl _ _ | with_reducible apply State.setOscAlarms_keeps | with_reducible apply State.updSet_keeps | with_reducible apply keeps_ite | split | dsimp only | intro _ _ | intro _)

theorem State.stopSets_keeps {p_ : Allow} {z : State} {s : State}  (hevents_ : p_.may .events = true) (hbatches_ : p_.may .batches = true) (hosc_ : p_.may .osc = true) (h_ : Keeps p_ z s) : Keeps p_ z (State.stopSets s) := by
  unfold State.stopSets
  repeat' (first | with_reducible assumption | with_reducible exact Keeps.refl _ _ | with_reducible apply State.stopSet_keeps | with_reducible apply keeps_foldl | with_reducible apply keeps_foldl_fst | with_reducible apply keeps_foldl_snd | intro _ _ _ | dsimp only | intro _ _ | intro _)

theorem State.resetOsc_keeps {p_ : Allow} {z : State} {s : State}  (hosc_ : p_.may .osc = true) (h_ : Keeps p_ z s) : Keeps p_ z (State.resetOsc s) := by
  unfold State.resetOsc
  repeat' (first | with_reducible assumption | with_reducible exact Keeps.refl _ _ | with_reducible apply State.resetRegs_keeps | with_reducible apply State.setRb_keeps | with_reducible apply State.setReg_keeps | with_reducible apply State.setOsc_keeps | with_reducible apply keeps_foldl | with_reducible apply keeps_foldl_fst | with_reducible apply keeps_foldl_snd | intro _ _ _ | with_reducible apply keepsParts_intro | with_reducible exact Or.inl (by with_reducible assumption) | with_reducible exact Or.inr rfl | simp only [keeps_mk] | with_reducible refine keepsMk_of ?_ ⟨rfl, rfl⟩ (fun h_ => by first | exact h_ | simpa only [updAt_length] using h_ | with_unfolding_all rfl) ?_ ?_ | dsimp only | intro _ _ | intro _)

theorem State.resumeOsc_keeps {p_ : Allow} {z : State} {s : State}  (hosc_ : p_.may .osc = true) (h_ : Keeps p_ z s) : Keeps p_ z (State.resumeOsc s) := by
  unfold State.resumeOsc
  repeat' (first | with_reducible assumption | with_reducible exact Keeps.refl _ _ | with_reducible apply State.restartSet_keeps | with_reducible apply keeps_foldl | with_reducible apply keeps_foldl_fst | with_reducible apply keeps_foldl_snd | intro _ _ _ | dsimp only | intro _ _ | intro _)

/-! ### Machine/CaptureOps.lean -/

theorem State.capCount_keeps {p_ : Allow} {z : State} {s : State} (i n : Nat)  (h_ : Keeps p_ z s) : Keeps p_ z (State.capCount s i n) := by
  unfold State.capCount
  repeat' (first | with_reducible assumption | with_reducible exact Keeps.refl _ _ | with_reducible apply State.count_keeps | dsimp only | intro _ _ | intro _)

theorem State.updUnit_keeps {p_ : Allow} {z : State} {s : State} (u : Nat) (f : CapUnit → CapUnit)  (hcap_ : p_.may .cap = true) (h_ : Keeps p_ z s) : Keeps p_ z (State.updUnit s u f) := by
  unfold State.updUnit
  repeat' (first | with_reducible assumption | with_reducible exact Keeps.refl _ _ | with_reducible apply State.setCap_keeps | with_reducible apply keepsParts_intro | with_reducible exact Or.inl (by with_reducible assumption) | with_reducible exact Or.inr rfl | simp only [keeps_mk] | with_reducible refine keepsMk_of ?_ ⟨rfl, rfl⟩ (fun h_ => by first | exact h_ | simpa only [updAt_length] using h_ | with_unfolding_all rfl) ?_ ?_ | dsimp only | intro _ _ | intro _)

theorem State.capRaw_keeps {p_ : Allow} {z : State} {s : State} (m : SvSample)  (hcap_ : p_.may .cap = true) (h_ : Keeps p_ z s) : Keeps p_ z (State.capRaw s m) := by
  unfold State.capRaw
  repeat' (first | with_reducible assumption | with_reducible exact Keeps.refl _ _ | with_reducible apply State.updUnit_keeps | with_reducible apply keeps_foldl | with_reducible apply keeps_foldl_fst | with_reducible apply keeps_foldl_snd | intro _ _ _ | with_reducible apply keepsParts_intro | with_reducible exact Or.inl (by with_reducible assumption) | with_reducible exact Or.inr rfl | simp only [keeps_mk] | with_reducible refine keepsMk_of ?_ ⟨rfl, rfl⟩ (fun h_ => by first | exact h_ | simpa only [updAt_length] using h_ | with_unfolding_all rfl) ?_ ?_ | with_reducible apply keeps_ite | split | intro _ _ | dsimp only | intro _ _ | intro _)

theorem State.capEstimate_keeps {p_ : Allow} {z : State} {s : State} (v : ChanValue)  (hcap_ : p_.may .cap = true) (h_ : Keeps p_ z s) : Keeps p_ z (State.capEstimate s v) := by
  unfold State.capEstimate
  repeat' (first | with_reducible assumption | with_reducible exact Keeps.refl _ _ | with_reducible apply State.updUnit_keeps | with_reducible apply keeps_foldl | with_reducible apply keeps_foldl_fst | with_reducible apply keeps_foldl_snd | intro _ _ _ | with_reducible apply keeps_ite | split | dsimp only | intro _ _ | intro _)

theorem State.updRec_keeps {p_ : Allow} {z : State} {s : State} (n : Nat) (f : CapRec → CapRec)  (hcap_ : p_.may .cap = true) (h_ : Keeps p_ z s) : Keeps p_ z (State.updRec s n f) := by
  unfold State.updRec
  repeat' (first | with_reducible assumption | with_reducible exact Keeps.refl _ _ | with_reducible apply State.setCap_keeps | with_reducible apply keepsParts_intro | with_reducible exact Or.inl (by with_reducible assumption) | with_reducible exact Or.inr rfl | simp only [keeps_mk] | with_reducible refine keepsMk_of ?_ ⟨rfl, rfl⟩ (fun h_ => by first | exact h_ | simpa only [updAt_length] using h_ | with_unfolding_all rfl) ?_ ?_ | with_reducible apply keeps_ite | split | dsimp only | intro _ _ | intro _)

theorem State.dropRec_keeps {p_ : Allow} {z : State} {s : State} (n : Nat)  (hcap_ : p_.may .cap = true) (h_ : Keeps p_ z s) : Keeps p_ z (State.dropRec s n) := by
  unfold State.dropRec
  repeat' (first | with_reducible assumption | with_reducible exact Keeps.refl _ _ | with_reducible apply State.setCap_keeps | with_reducible apply keepsParts_intro | with_reducible exact Or.inl (by with_reducible assumption) | with_reducible exact Or.inr rfl | simp only [keeps_mk] | with_reducible refine keepsMk_of ?_ ⟨rfl, rfl⟩ (fun h_ => by first | exact h_ | simpa only [updAt_length] using h_ | with_unfolding_all rfl) ?_ ?_ | dsimp only | intro _ _ | intro _)

theorem State.recycle_keeps {p_ : Allow} {z : State} {s : State} (n : Nat) (x0 : Nat)  (hcap_ : p_.may .cap = true) (h_ : Keeps p_ z s) : Keeps p_ z (State.recycle s n x0) := by
  induction x0 generalizing s n with
  | zero =>
    unfold State.recycle
    repeat' (first | with_reducible assumption | with_reducible exact Keeps.refl _ _ | with_reducible apply ih_ | with_reducible apply State.dropRec_keeps | with_reducible apply keepsParts_intro | with_reducible exact Or.inl (by with_reducible assumption) | with_reducible exact Or.inr rfl | simp only [keeps_mk] | with_reducible refine keepsMk_of ?_ ⟨rfl, rfl⟩ (fun h_ => by first | exact h_ | simpa only [updAt_length] using h_ | with_unfolding_all rfl) ?_ ?_ | with_reducible apply keeps_ite | split | intro _ _ | dsimp only | intro _ _ | intro _)
  | succ n_ ih_ =>
    unfold State.recycle
    repeat' (first | with_reducible assumption | with_reducible exact Keeps.refl _ _ | with_reducible apply ih_ | with_reducible apply State.dropRec_keeps | with_reducible apply keepsParts_intro | with_reducible exact Or.inl (by with_reducible assumption) | with_reducible exact Or.inr rfl | simp only [keeps_mk] | with_reducible refine keepsMk_of ?_ ⟨rfl, rfl⟩ (fun h_ => by first | exact h_ | simpa only [updAt_length] using h_ | with_unfolding_all rfl) ?_ ?_ | with_reducible apply keeps_ite | split | intro _ _ | dsimp only | intro _ _ | intro _)

theorem State.startUnit_keeps {p_ : Allow} {z : State} {s : State} (u rate pre post number base size : Nat) (truncated : Bool)  (hcap_ : p_.may .cap = true) (h_ : Keeps p_ z s) : Keeps p_ z (State.startUnit s u rate pre post number base size truncated) := by
  unfold State.startUnit
  repeat' (first | with_reducible assumption | with_reducible exact Keeps.refl _ _ | with_reducible apply State.setCap_keeps | with_reducible apply State.updUnit_keeps | with_reducible apply State.capCount_keeps | with_reducible apply State.status_keeps | with_reducible apply keepsParts_intro | with_reducible exact Or.inl (by with_reducible assumption) | with_reducible exact Or.inr rfl | simp only [keeps_mk] | with_reducible refine keepsMk_of ?_ ⟨rfl, rfl⟩ (fun h_ => by first | exact h_ | simpa only [updAt_length] using h_ | with_unfolding_all rfl) ?_ ?_ | with_reducible apply keeps_ite | split | dsimp only | intro _ _ | intro _)

theorem State.arm_keeps {p_ : Allow} {z : State} {s : State} (u : Nat) (trunc : Bool)  (hcap_ : p_.may .cap = true) (h_ : Keeps p_ z s) : Keeps p_ z (State.arm s u trunc).2 := by
  unfold State.arm
  repeat' (first | with_reducible assumption | with_reducible exact Keeps.refl _ _ | with_reducible apply ok_keeps | with_reducible apply State.startUnit_keeps | with_reducible apply State.recycle_keeps | with_reducible apply keepsParts_intro | with_reducible exact Or.inl (by with_reducible assumption) | with_reducible exact Or.inr rfl | simp only [keeps_mk] | with_reducible refine keepsMk_of ?_ ⟨rfl, rfl⟩ (fun h_ => by first | exact h_ | simpa only [updAt_length] using h_ | with_unfolding_all rfl) ?_ ?_ | with_reducible apply keeps_ite | split | intro _ _ | dsimp only | intro _ _ | intro _)
theorem State.arm_keeps_of {p_ : Allow} {z : State} {s : State} {u : Nat} {trunc : Bool} {a_ : _} {t_ : State} (e_ : State.arm s u trunc = (a_, t_)) (hcap_ : p_.may .cap = true) (h_ : Keeps p_ z s) : Keeps p_ z t_ := by
  have k_ := State.arm_keeps (z := z) u trunc hcap_ h_
  rw [e_] at k_; exact k_

theorem State.armQuiet_keeps {p_ : Allow} {z : State} {s : State} (u : Nat)  (hcap_ : p_.may .cap = true) (h_ : Keeps p_ z s) : Keeps p_ z (State.armQuiet s u).1 := by
  unfold State.armQuiet
  repeat' (first | with_reducible assumption | with_reducible exact Keeps.refl _ _ | with_reducible apply State.arm_keeps | with_reducible apply ok_keeps | with_reducible apply State.updUnit_keeps | with_reducible refine State.arm_keeps_of (by with_reducible assumption) ?_ ?_ | with_reducible apply keepsParts_intro | with_reducible exact Or.inl (by with_reducible assumption) | with_reducible exact Or.inr rfl | simp only [keeps_mk] | with_reducible refine keepsMk_of ?_ ⟨rfl, rfl⟩ (fun h_ => by first | exact h_ | simpa only [updAt_length] using h_ | with_unfolding_all rfl) ?_ ?_ | split | intro _ _ | dsimp only | intro _ _ | intro _)
theorem State.armQuiet_keeps_of {p_ : Allow} {z : State} {s : State} {u : Nat} {t_ : State} {a_ : _} (e_ : State.armQuiet s u = (t_, a_)) (hcap_ : p_.may .cap = true) (h_ : Keeps p_ z s) : Keeps p_ z t_ := by
  have k_ := State.armQuiet_keeps (z := z) u hcap_ h_
  rw [e_] at k_; exact k_

theorem State.disarm_keeps {p_ : Allow} {z : State} {s : State} (u : Nat)  (hcap_ : p_.may .cap = true) (h_ : Keeps p_ z s) : Keeps p_ z (State.disarm s u) := by
  unfold State.disarm
  repeat' (first | with_reducible assumption | with_reducible exact Keeps.refl _ _ | with_reducible apply State.dropRec_keeps | with_reducible apply State.updUnit_keeps | with_reducible apply keepsParts_intro | with_reducible exact Or.inl (by with_reducible assumption) | with_reducible exact Or.inr rfl | simp only [keeps_mk] | with_reducible refine keepsMk_of ?_ ⟨rfl, rfl⟩ (fun h_ => by first | exact h_ | simpa only [updAt_length] using h_ | with_unfolding_all rfl) ?_ ?_ | dsimp only | intro _ _ | intro _)

theorem State.beginClose_keeps {p_ : Allow} {z : State} {s : State} (u flags : Nat)  (hcap_ : p_.may .cap = true) (h_ : Keeps p_ z s) : Keeps p_ z (State.beginClose s u flags) := by
  unfold State.beginClose
  repeat' (first | with_reducible assumption | with_reducible exact Keeps.refl _ _ | with_reducible apply State.updRec_keeps | with_reducible apply State.updUnit_keeps | with_reducible apply keepsParts_intro | with_reducible exact Or.inl (by with_reducible assumption) | with_reducible exact Or.inr rfl | simp only [keeps_mk] | with_reducible refine keepsMk_of ?_ ⟨rfl, rfl⟩ (fun h_ => by first | exact h_ | simpa only [updAt_length] using h_ | with_unfolding_all rfl) ?_ ?_ | dsimp only | intro _ _ | intro _)

theorem State.finishRec_keeps {p_ : Allow} {z : State} {s : State} (u : Nat)  (hevents_ : p_.may .events = true) (hcap_ : p_.may .cap = true) (h_ : Keeps p_ z s) : Keeps p_ z (State.finishRec s u) := by
  unfold State.finishRec
  repeat' (first | with_reducible assumption | with_reducible exact Keeps.refl _ _ | with_reducible apply State.setCap_keeps | with_reducible apply State.capCount_keeps | with_reducible apply State.status_keeps | with_reducible apply State.raise_keeps | with_reducible apply State.raiseInjected_keeps | with_reducible apply keepsParts_intro | with_reducible exact Or.inl (by with_reducible assumption) | with_reducible exact Or.inr rfl | simp only [keeps_mk] | with_reducible refine keepsMk_of ?_ ⟨rfl, rfl⟩ (fun h_ => by first | exact h_ | simpa only [updAt_length] using h_ | with_unfolding_all rfl) ?_ ?_ | with_reducible apply keeps_ite | split | intro _ _ | dsimp only | intro _ _ | intro _)

theorem State.drained_keeps {p_ : Allow} {z : State} {s : State} (u : Nat)  (hevents_ : p_.may .events = true) (hcap_ : p_.may .cap = true) (h_ : Keeps p_ z s) : Keeps p_ z (State.drained s u) := by
  unfold State.drained
  repeat' (first | with_reducible assumption | with_reducible exact Keeps.refl _ _ | with_reducible apply State.finishRec_keeps | with_reducible apply State.issueBarrier_keeps | with_reducible apply State.updUnit_keeps | with_reducible apply State.armQuiet_keeps | with_reducible apply State.status_keeps | with_reducible refine State.armQuiet_keeps_of (by with_reducible assumption) ?_ ?_ | with_reducible apply keepsParts_intro | with_reducible exact Or.inl (by with_reducible assumption) | with_reducible exact Or.inr rfl | simp only [keeps_mk] | with_reducible refine keepsMk_of ?_ ⟨rfl, rfl⟩ (fun h_ => by first | exact h_ | simpa only [updAt_length] using h_ | with_unfolding_all rfl) ?_ ?_ | with_reducible apply keeps_ite | split | intro _ _ | dsimp only | intro _ _ | intro _)

theorem State.enterSeq_keeps {p_ : Allow} {z : State} {s : State} (u st : Nat) (t : Instant)  (hcap_ : p_.may .cap = true) (h_ : Keeps p_ z s) : Keeps p_ z (State.enterSeq s u st t) := by
  unfold State.enterSeq
  repeat' (first | with_reducible assumption | with_reducible exact Keeps.refl _ _ | with_reducible apply State.updUnit_keeps | with_reducible apply keepsParts_intro | with_reducible exact Or.inl (by with_reducible assumption) | with_reducible exact Or.inr rfl | simp only [keeps_mk] | with_reducible refine keepsMk_of ?_ ⟨rfl, rfl⟩ (fun h_ => by first | exact h_ | simpa only [updAt_length] using h_ | with_unfolding_all rfl) ?_ ?_ | dsimp only | intro _ _ | intro _)

theorem State.capTrigger_keeps {p_ : Allow} {z : State} {s : State} (u : Nat) (point : Instant) (cause flags : Nat)  (hcap_ : p_.may .cap = true) (h_ : Keeps p_ z s) : Keeps p_ z (State.capTrigger s u point cause flags) := by
  unfold State.capTrigger
  repeat' (first | with_reducible assumption | with_reducible exact Keeps.refl _ _ | with_reducible apply State.updRec_keeps | with_reducible apply State.updUnit_keeps | with_reducible apply State.beginClose_keeps | with_reducible apply keepsParts_intro | with_reducible exact Or.inl (by with_reducible assumption) | with_reducible exact Or.inr rfl | simp only [keeps_mk] | with_reducible refine keepsMk_of ?_ ⟨rfl, rfl⟩ (fun h_ => by first | exact h_ | simpa only [updAt_length] using h_ | with_unfolding_all rfl) ?_ ?_ | with_reducible apply keeps_ite | split | dsimp only | intro _ _ | intro _)

theorem State.takeExit_keeps {p_ : Allow} {z : State} {s : State} (u act target cause : Nat) (o : CondOut) (rowInj : Bool) (t : Instant)  (hcap_ : p_.may .cap = true) (h_ : Keeps p_ z s) : Keeps p_ z (State.takeExit s u act target cause o rowInj t) := by
  unfold State.takeExit
  repeat' (first | with_reducible assumption | with_reducible exact Keeps.refl _ _ | with_reducible apply State.capTrigger_keeps | with_reducible apply State.capCount_keeps | with_reducible apply State.enterSeq_keeps | with_reducible apply State.disarm_keeps | with_reducible apply State.beginClose_keeps | with_reducible apply keepsParts_intro | with_reducible exact Or.inl (by with_reducible assumption) | with_reducible exact Or.inr rfl | simp only [keeps_mk] | with_reducible refine keepsMk_of ?_ ⟨rfl, rfl⟩ (fun h_ => by first | exact h_ | simpa only [updAt_length] using h_ | with_unfolding_all rfl) ?_ ?_ | with_reducible apply keeps_ite | split | intro _ _ | dsimp only | intro _ _ | intro _)

theorem State.evaluate_keeps {p_ : Allow} {z : State} {s : State} (u : Nat) (r : CapRow)  (hcap_ : p_.may .cap = true) (h_ : Keeps p_ z s) : Keeps p_ z (State.evaluate s u r) := by
  unfold State.evaluate
  repeat' (first | with_reducible assumption | with_reducible exact Keeps.refl _ _ | with_reducible apply State.updUnit_keeps | with_reducible apply State.capTrigger_keeps | with_reducible apply State.takeExit_keeps | with_reducible apply keepsParts_intro | with_reducible exact Or.inl (by with_reducible assumption) | with_reducible exact Or.inr rfl | simp only [keeps_mk] | with_reducible refine keepsMk_of ?_ ⟨rfl, rfl⟩ (fun h_ => by first | exact h_ | simpa only [updAt_length] using h_ | with_unfolding_all rfl) ?_ ?_ | with_reducible apply keeps_ite | split | dsimp only | intro _ _ | intro _)

theorem State.takeRow_keeps {p_ : Allow} {z : State} {s : State} (u : Nat) (r : CapRow)  (hcap_ : p_.may .cap = true) (h_ : Keeps p_ z s) : Keeps p_ z (State.takeRow s u r) := by
  unfold State.takeRow
  repeat' (first | with_reducible assumption | with_reducible exact Keeps.refl _ _ | with_reducible apply State.beginClose_keeps | with_reducible apply State.capCount_keeps | with_reducible apply State.status_keeps | with_reducible apply State.updUnit_keeps | with_reducible apply State.updRec_keeps | with_reducible apply State.evaluate_keeps | with_reducible apply keepsParts_intro | with_reducible exact Or.inl (by with_reducible assumption) | with_reducible exact Or.inr rfl | simp only [keeps_mk] | with_reducible refine keepsMk_of ?_ ⟨rfl, rfl⟩ (fun h_ => by first | exact h_ | simpa only [updAt_length] using h_ | with_unfolding_all rfl) ?_ ?_ | with_reducible apply keeps_ite | split | intro _ _ | dsimp only | intro _ _ | intro _)

theorem State.closeRow_keeps {p_ : Allow} {z : State} {s : State} (u : Nat)  (hcap_ : p_.may .cap = true) (h_ : Keeps p_ z s) : Keeps p_ z (State.closeRow s u) := by
  unfold State.closeRow
  repeat' (first | with_reducible assumption | with_reducible exact Keeps.refl _ _ | with_reducible apply State.capCount_keeps | with_reducible apply State.updUnit_keeps | with_reducible apply State.takeRow_keeps | with_reducible apply keepsParts_intro | with_reducible exact Or.inl (by with_reducible assumption) | with_reducible exact Or.inr rfl | simp only [keeps_mk] | with_reducible refine keepsMk_of ?_ ⟨rfl, rfl⟩ (fun h_ => by first | exact h_ | simpa only [updAt_length] using h_ | with_unfolding_all rfl) ?_ ?_ | dsimp only | intro _ _ | intro _)

theorem State.closeReady_keeps {p_ : Allow} {z : State} {s : State} (u : Nat) (x0 : Nat)  (hcap_ : p_.may .cap = true) (h_ : Keeps p_ z s) : Keeps p_ z (State.closeReady s u x0) := by
  induction x0 generalizing s u with
  | zero =>
    unfold State.closeReady
    repeat' (first | with_reducible assumption | with_reducible exact Keeps.refl _ _ | with_reducible apply ih_ | with_reducible apply State.closeRow_keeps | with_reducible apply keeps_ite | split | dsimp only | intro _ _ | intro _)
  | succ n_ ih_ =>
    unfold State.closeReady
    repeat' (first | with_reducible assumption | with_reducible exact Keeps.refl _ _ | with_reducible apply ih_ | with_reducible apply State.closeRow_keeps | with_reducible apply keeps_ite | split | dsimp only | intro _ _ | intro _)

theorem State.closeAll_keeps {p_ : Allow} {z : State} {s : State}  (hcap_ : p_.may .cap = true) (h_ : Keeps p_ z s) : Keeps p_ z (State.closeAll s) := by
  unfold State.closeAll
  repeat' (first | with_reducible assumption | with_reducible exact Keeps.refl _ _ | with_reducible apply State.closeReady_keeps | with_reducible apply keeps_foldl | with_reducible apply keeps_foldl_fst | with_reducible apply keeps_foldl_snd | intro _ _ _ | dsimp only | intro _ _ | intro _)

theorem State.queueEvt_keeps {p_ : Allow} {z : State} {s : State} (e : CapEvt)  (hcap_ : p_.may .cap = true) (h_ : Keeps p_ z s) : Keeps p_ z (State.queueEvt s e) := by
  unfold State.queueEvt
  repeat' (first | with_reducible assumption | with_reducible exact Keeps.refl _ _ | with_reducible apply State.capCount_keeps | with_reducible apply State.status_keeps | with_reducible apply State.updUnit_keeps | with_reducible apply keeps_foldl | with_reducible apply keeps_foldl_fst | with_reducible apply keeps_foldl_snd | intro _ _ _ | with_reducible apply keepsParts_intro | with_reducible exact Or.inl (by with_reducible assumption) | with_reducible exact Or.inr rfl | simp only [keeps_mk] | with_reducible refine keepsMk_of ?_ ⟨rfl, rfl⟩ (fun h_ => by first | exact h_ | simpa only [updAt_length] using h_ | with_unfolding_all rfl) ?_ ?_ | with_reducible apply keeps_ite | split | dsimp only | intro _ _ | intro _)

theorem State.capStep_keeps {p_ : Allow} {z : State} {s : State}  (hcap_ : p_.may .cap = true) (h_ : Keeps p_ z s) : Keeps p_ z (State.capStep s) := by
  unfold State.capStep
  repeat' (first | with_reducible assumption | with_reducible exact Keeps.refl _ _ | with_reducible apply State.updUnit_keeps | with_reducible apply State.beginClose_keeps | with_reducible apply State.capCount_keeps | with_reducible apply State.status_keeps | with_reducible apply keeps_foldl | with_reducible apply keeps_foldl_fst | with_reducible apply keeps_foldl_snd | intro _ _ _ | with_reducible apply keepsParts_intro | with_reducible exact Or.inl (by with_reducible assumption) | with_reducible exact Or.inr rfl | simp only [keeps_mk] | with_reducible refine keepsMk_of ?_ ⟨rfl, rfl⟩ (fun h_ => by first | exact h_ | simpa only [updAt_length] using h_ | with_unfolding_all rfl) ?_ ?_ | with_reducible apply keeps_ite | split | intro _ _ | dsimp only | intro _ _ | intro _)

theorem State.cutRecord_keeps {p_ : Allow} {z : State} {s : State} (u flags : Nat)  (hcap_ : p_.may .cap = true) (h_ : Keeps p_ z s) : Keeps p_ z (State.cutRecord s u flags) := by
  unfold State.cutRecord
  repeat' (first | with_reducible assumption | with_reducible exact Keeps.refl _ _ | with_reducible apply State.updRec_keeps | with_reducible apply keepsParts_intro | with_reducible exact Or.inl (by with_reducible assumption) | with_reducible exact Or.inr rfl | simp only [keeps_mk] | with_reducible refine keepsMk_of ?_ ⟨rfl, rfl⟩ (fun h_ => by first | exact h_ | simpa only [updAt_length] using h_ | with_unfolding_all rfl) ?_ ?_ | dsimp only | intro _ _ | intro _)

theorem State.resetCapture_keeps {p_ : Allow} {z : State} {s : State}  (hcapIn_ : p_.may .capIn = true) (hcap_ : p_.may .cap = true) (h_ : Keeps p_ z s) : Keeps p_ z (State.resetCapture s) := by
  unfold State.resetCapture
  repeat' (first | with_reducible assumption | with_reducible exact Keeps.refl _ _ | with_reducible apply State.cutRecord_keeps | with_reducible apply State.dropRec_keeps | with_reducible apply State.resetRegs_keeps | with_reducible apply keeps_foldl | with_reducible apply keeps_foldl_fst | with_reducible apply keeps_foldl_snd | intro _ _ _ | with_reducible apply keepsParts_intro | with_reducible exact Or.inl (by with_reducible assumption) | with_reducible exact Or.inr rfl | simp only [keeps_mk] | with_reducible refine keepsMk_of ?_ ⟨rfl, rfl⟩ (fun h_ => by first | exact h_ | simpa only [updAt_length] using h_ | with_unfolding_all rfl) ?_ ?_ | split | intro _ _ | dsimp only | intro _ _ | intro _)

theorem State.resumeCapture_keeps {p_ : Allow} {z : State} {s : State}  (hevents_ : p_.may .events = true) (hcap_ : p_.may .cap = true) (h_ : Keeps p_ z s) : Keeps p_ z (State.resumeCapture s) := by
  unfold State.resumeCapture
  repeat' (first | with_reducible assumption | with_reducible exact Keeps.refl _ _ | with_reducible apply State.finishRec_keeps | with_reducible apply keeps_foldl | with_reducible apply keeps_foldl_fst | with_reducible apply keeps_foldl_snd | intro _ _ _ | with_reducible apply keepsParts_intro | with_reducible exact Or.inl (by with_reducible assumption) | with_reducible exact Or.inr rfl | simp only [keeps_mk] | with_reducible refine keepsMk_of ?_ ⟨rfl, rfl⟩ (fun h_ => by first | exact h_ | simpa only [updAt_length] using h_ | with_unfolding_all rfl) ?_ ?_ | with_reducible apply keeps_ite | split | dsimp only | intro _ _ | intro _)

theorem State.capDisable_keeps {p_ : Allow} {z : State} {s : State}  (hevents_ : p_.may .events = true) (hcap_ : p_.may .cap = true) (h_ : Keeps p_ z s) : Keeps p_ z (State.capDisable s) := by
  unfold State.capDisable
  repeat' (first | with_reducible assumption | with_reducible exact Keeps.refl _ _ | with_reducible apply State.beginClose_keeps | with_reducible apply State.finishRec_keeps | with_reducible apply State.updUnit_keeps | with_reducible apply State.disarm_keeps | with_reducible apply keeps_foldl | with_reducible apply keeps_foldl_fst | with_reducible apply keeps_foldl_snd | intro _ _ _ | with_reducible apply keepsParts_intro | with_reducible exact Or.inl (by with_reducible assumption) | with_reducible exact Or.inr rfl | simp only [keeps_mk] | with_reducible refine keepsMk_of ?_ ⟨rfl, rfl⟩ (fun h_ => by first | exact h_ | simpa only [updAt_length] using h_ | with_unfolding_all rfl) ?_ ?_ | split | intro _ _ | dsimp only | intro _ _ | intro _)

theorem State.writePart_keeps {p_ : Allow} {z : State} {s : State} (gib : Nat)  (h_ : Keeps p_ z s) : Keeps p_ z (State.writePart s gib) := by
  unfold State.writePart
  repeat' (first | with_reducible assumption | with_reducible exact Keeps.refl _ _ | with_reducible apply State.setRf_keeps | with_reducible apply State.status_keeps | with_reducible apply keeps_ite | split | dsimp only | intro _ _ | intro _)

/-! ### Machine/SillageOps.lean -/

theorem State.evrCount_keeps {p_ : Allow} {z : State} {s : State} (i n : Nat)  (h_ : Keeps p_ z s) : Keeps p_ z (State.evrCount s i n) := by
  unfold State.evrCount
  repeat' (first | with_reducible assumption | with_reducible exact Keeps.refl _ _ | with_reducible apply State.count_keeps | dsimp only | intro _ _ | intro _)

theorem State.pushRecord_keeps {p_ : Allow} {z : State} {s : State} (r : EvrRecord)  (hevr_ : p_.may .evr = true) (h_ : Keeps p_ z s) : Keeps p_ z (State.pushRecord s r) := by
  unfold State.pushRecord
  repeat' (first | with_reducible assumption | with_reducible exact Keeps.refl _ _ | with_reducible apply State.setEvr_keeps | with_reducible apply State.evrCount_keeps | with_reducible apply keepsParts_intro | with_reducible exact Or.inl (by with_reducible assumption) | with_reducible exact Or.inr rfl | simp only [keeps_mk] | with_reducible refine keepsMk_of ?_ ⟨rfl, rfl⟩ (fun h_ => by first | exact h_ | simpa only [updAt_length] using h_ | with_unfolding_all rfl) ?_ ?_ | dsimp only | intro _ _ | intro _)

theorem State.closeClass_keeps {p_ : Allow} {z : State} {s : State} (c : Nat) (early : Bool)  (hevr_ : p_.may .evr = true) (h_ : Keeps p_ z s) : Keeps p_ z (State.closeClass s c early) := by
  unfold State.closeClass
  repeat' (first | with_reducible assumption | with_reducible exact Keeps.refl _ _ | with_reducible apply State.setEvr_keeps | with_reducible apply State.evrCount_keeps | with_reducible apply State.pushRecord_keeps | with_reducible apply keepsParts_intro | with_reducible exact Or.inl (by with_reducible assumption) | with_reducible exact Or.inr rfl | simp only [keeps_mk] | with_reducible refine keepsMk_of ?_ ⟨rfl, rfl⟩ (fun h_ => by first | exact h_ | simpa only [updAt_length] using h_ | with_unfolding_all rfl) ?_ ?_ | with_reducible apply keeps_ite | split | intro _ _ | dsimp only | intro _ _ | intro _)

theorem State.closeEarly_keeps {p_ : Allow} {z : State} {s : State}  (hevr_ : p_.may .evr = true) (h_ : Keeps p_ z s) : Keeps p_ z (State.closeEarly s) := by
  unfold State.closeEarly
  repeat' (first | with_reducible assumption | with_reducible exact Keeps.refl _ _ | with_reducible apply State.closeClass_keeps | with_reducible apply keeps_foldl | with_reducible apply keeps_foldl_fst | with_reducible apply keeps_foldl_snd | intro _ _ _ | dsimp only | intro _ _ | intro _)

theorem State.closeLate_keeps {p_ : Allow} {z : State} {s : State}  (hevr_ : p_.may .evr = true) (h_ : Keeps p_ z s) : Keeps p_ z (State.closeLate s) := by
  unfold State.closeLate
  repeat' (first | with_reducible assumption | with_reducible exact Keeps.refl _ _ | with_reducible apply State.pushRecord_keeps | with_reducible apply State.setEvr_keeps | with_reducible apply State.closeClass_keeps | with_reducible apply keeps_foldl | with_reducible apply keeps_foldl_fst | with_reducible apply keeps_foldl_snd | intro _ _ _ | with_reducible apply keepsParts_intro | with_reducible exact Or.inl (by with_reducible assumption) | with_reducible exact Or.inr rfl | simp only [keeps_mk] | with_reducible refine keepsMk_of ?_ ⟨rfl, rfl⟩ (fun h_ => by first | exact h_ | simpa only [updAt_length] using h_ | with_unfolding_all rfl) ?_ ?_ | with_reducible apply keeps_ite | split | dsimp only | intro _ _ | intro _)

theorem State.shelve_keeps {p_ : Allow} {z : State} {s : State} (c : Nat)  (hevr_ : p_.may .evr = true) (h_ : Keeps p_ z s) : Keeps p_ z (State.shelve s c) := by
  unfold State.shelve
  repeat' (first | with_reducible assumption | with_reducible exact Keeps.refl _ _ | with_reducible apply State.setEvr_keeps | with_reducible apply keepsParts_intro | with_reducible exact Or.inl (by with_reducible assumption) | with_reducible exact Or.inr rfl | simp only [keeps_mk] | with_reducible refine keepsMk_of ?_ ⟨rfl, rfl⟩ (fun h_ => by first | exact h_ | simpa only [updAt_length] using h_ | with_unfolding_all rfl) ?_ ?_ | split | intro _ _ | dsimp only | intro _ _ | intro _)

theorem State.ageOut_keeps {p_ : Allow} {z : State} {s : State} (m : EventMsg)  (hevr_ : p_.may .evr = true) (h_ : Keeps p_ z s) : Keeps p_ z (State.ageOut s m) := by
  unfold State.ageOut
  repeat' (first | with_reducible assumption | with_reducible exact Keeps.refl _ _ | with_reducible apply State.closeClass_keeps | with_reducible apply State.shelve_keeps | with_reducible apply keepsParts_intro | with_reducible exact Or.inl (by with_reducible assumption) | with_reducible exact Or.inr rfl | simp only [keeps_mk] | with_reducible refine keepsMk_of ?_ ⟨rfl, rfl⟩ (fun h_ => by first | exact h_ | simpa only [updAt_length] using h_ | with_unfolding_all rfl) ?_ ?_ | with_reducible apply keeps_ite | split | intro _ _ | dsimp only | intro _ _ | intro _)

theorem State.accumulate_keeps {p_ : Allow} {z : State} {s : State} (m : EventMsg)  (hevr_ : p_.may .evr = true) (h_ : Keeps p_ z s) : Keeps p_ z (State.accumulate s m) := by
  unfold State.accumulate
  repeat' (first | with_reducible assumption | with_reducible exact Keeps.refl _ _ | with_reducible apply State.count_keeps | with_reducible apply State.ageOut_keeps | with_reducible apply State.setEvr_keeps | with_reducible apply State.closeClass_keeps | with_reducible apply keepsParts_intro | with_reducible exact Or.inl (by with_reducible assumption) | with_reducible exact Or.inr rfl | simp only [keeps_mk] | with_reducible refine keepsMk_of ?_ ⟨rfl, rfl⟩ (fun h_ => by first | exact h_ | simpa only [updAt_length] using h_ | with_unfolding_all rfl) ?_ ?_ | with_reducible apply keeps_ite | split | intro _ _ | dsimp only | intro _ _ | intro _)

theorem State.closeEpoch_keeps {p_ : Allow} {z : State} {s : State}  (hevents_ : p_.may .events = true) (hevr_ : p_.may .evr = true) (h_ : Keeps p_ z s) : Keeps p_ z (State.closeEpoch s) := by
  unfold State.closeEpoch
  repeat' (first | with_reducible assumption | with_reducible exact Keeps.refl _ _ | with_reducible apply State.accumulate_keeps | with_reducible apply State.closeEarly_keeps | with_reducible apply State.shelve_keeps | with_reducible apply keeps_foldl | with_reducible apply keeps_foldl_fst | with_reducible apply keeps_foldl_snd | intro _ _ _ | with_reducible apply keepsParts_intro | with_reducible exact Or.inl (by with_reducible assumption) | with_reducible exact Or.inr rfl | simp only [keeps_mk] | with_reducible refine keepsMk_of ?_ ⟨rfl, rfl⟩ (fun h_ => by first | exact h_ | simpa only [updAt_length] using h_ | with_unfolding_all rfl) ?_ ?_ | dsimp only | intro _ _ | intro _)

theorem State.putRecord_keeps {p_ : Allow} {z : State} {s : State} (area slot : Nat) (r : EvrRecord)  (hevr_ : p_.may .evr = true) (h_ : Keeps p_ z s) : Keeps p_ z (State.putRecord s area slot r) := by
  unfold State.putRecord
  repeat' (first | with_reducible assumption | with_reducible exact Keeps.refl _ _ | with_reducible apply State.setEvr_keeps | with_reducible apply State.status_keeps | with_reducible apply keepsParts_intro | with_reducible exact Or.inl (by with_reducible assumption) | with_reducible exact Or.inr rfl | simp only [keeps_mk] | with_reducible refine keepsMk_of ?_ ⟨rfl, rfl⟩ (fun h_ => by first | exact h_ | simpa only [updAt_length] using h_ | with_unfolding_all rfl) ?_ ?_ | with_reducible apply keeps_ite | split | dsimp only | intro _ _ | intro _)

theorem State.mramWrite_keeps {p_ : Allow} {z : State} {s : State} (bank : Nat) (real1 real2 : Bool)  (hevents_ : p_.may .events = true) (hflt_ : p_.may .flt = true) (h_ : Keeps p_ z s) : Keeps p_ z (State.mramWrite s bank real1 real2).2.2 := by
  unfold State.mramWrite
  repeat' (first | with_reducible assumption | with_reducible exact Keeps.refl _ _ | with_reducible apply State.occasion_keeps | with_reducible apply State.detect_keeps | with_reducible refine State.occasion_keeps_of (by with_reducible assumption) ?_ ?_ | with_reducible apply keepsParts_intro | with_reducible exact Or.inl (by with_reducible assumption) | with_reducible exact Or.inr rfl | simp only [keeps_mk] | with_reducible refine keepsMk_of ?_ ⟨rfl, rfl⟩ (fun h_ => by first | exact h_ | simpa only [updAt_length] using h_ | with_unfolding_all rfl) ?_ ?_ | split | intro _ _ | dsimp only | intro _ _ | intro _)
theorem State.mramWrite_keeps_of {p_ : Allow} {z : State} {s : State} {bank : Nat} {real1 real2 : Bool} {a_ b_ : _} {t_ : State} (e_ : State.mramWrite s bank real1 real2 = (a_, b_, t_)) (hevents_ : p_.may .events = true) (hflt_ : p_.may .flt = true) (h_ : Keeps p_ z s) : Keeps p_ z t_ := by
  have k_ := State.mramWrite_keeps (z := z) bank real1 real2 hevents_ hflt_ h_
  rw [e_] at k_; exact k_

theorem State.noteLost_keeps {p_ : Allow} {z : State} {s : State}  (haon_ : p_.may .aon = true) (h_ : Keeps p_ z s) : Keeps p_ z (State.noteLost s) := by
  unfold State.noteLost
  repeat' (first | with_reducible assumption | with_reducible exact Keeps.refl _ _ | with_reducible apply keepsParts_intro | with_reducible exact Or.inl (by with_reducible assumption) | with_reducible exact Or.inr rfl | simp only [keeps_mk] | with_reducible refine keepsMk_of ?_ ⟨rfl, rfl⟩ (fun h_ => by first | exact h_ | simpa only [updAt_length] using h_ | with_unfolding_all rfl) ?_ ?_ | with_reducible apply keeps_ite | split | dsimp only | intro _ _ | intro _)

theorem State.bank1Fails_keeps {p_ : Allow} {z : State} {s : State} (inj : Bool)  (hevents_ : p_.may .events = true) (haon_ : p_.may .aon = true) (hevr_ : p_.may .evr = true) (h_ : Keeps p_ z s) : Keeps p_ z (State.bank1Fails s inj) := by
  unfold State.bank1Fails
  repeat' (first | with_reducible assumption | with_reducible exact Keeps.refl _ _ | with_reducible apply State.setEvr_keeps | with_reducible apply State.noteLost_keeps | with_reducible apply State.raiseInjected_keeps | with_reducible apply State.raise_keeps | with_reducible apply keepsParts_intro | with_reducible exact Or.inl (by with_reducible assumption) | with_reducible exact Or.inr rfl | simp only [keeps_mk] | with_reducible refine keepsMk_of ?_ ⟨rfl, rfl⟩ (fun h_ => by first | exact h_ | simpa only [updAt_length] using h_ | with_unfolding_all rfl) ?_ ?_ | with_reducible apply keeps_ite | split | dsimp only | intro _ _ | intro _)

theorem State.bank0Fails_keeps {p_ : Allow} {z : State} {s : State} (addr seq : Nat) (inj : Bool)  (hevents_ : p_.may .events = true) (haon_ : p_.may .aon = true) (hevr_ : p_.may .evr = true) (h_ : Keeps p_ z s) : Keeps p_ z (State.bank0Fails s addr seq inj) := by
  unfold State.bank0Fails
  repeat' (first | with_reducible assumption | with_reducible exact Keeps.refl _ _ | with_reducible apply State.setEvr_keeps | with_reducible apply State.noteLost_keeps | with_reducible apply State.raiseInjected_keeps | with_reducible apply State.raise_keeps | with_reducible apply State.pushRecord_keeps | with_reducible apply keepsParts_intro | with_reducible exact Or.inl (by with_reducible assumption) | with_reducible exact Or.inr rfl | simp only [keeps_mk] | with_reducible refine keepsMk_of ?_ ⟨rfl, rfl⟩ (fun h_ => by first | exact h_ | simpa only [updAt_length] using h_ | with_unfolding_all rfl) ?_ ?_ | with_reducible apply keeps_ite | split | dsimp only | intro _ _ | intro _)

theorem State.writeRecord_keeps {p_ : Allow} {z : State} {s : State} (r : EvrRecord) (real1 real2 : Bool)  (hevents_ : p_.may .events = true) (haon_ : p_.may .aon = true) (hflt_ : p_.may .flt = true) (hevr_ : p_.may .evr = true) (h_ : Keeps p_ z s) : Keeps p_ z (State.writeRecord s r real1 real2) := by
  unfold State.writeRecord
  repeat' (first | with_reducible assumption | with_reducible exact Keeps.refl _ _ | with_reducible apply State.setEvr_keeps | with_reducible apply State.evrCount_keeps | with_reducible apply State.mramWrite_keeps | with_reducible apply State.bank1Fails_keeps | with_reducible apply State.putRecord_keeps | with_reducible apply State.bank0Fails_keeps | with_reducible refine State.mramWrite_keeps_of (by with_reducible assumption) ?_ ?_ ?_ | with_reducible apply keepsParts_intro | with_reducible exact Or.inl (by with_reducible assumption) | with_reducible exact Or.inr rfl | simp only [keeps_mk] | with_reducible refine keepsMk_of ?_ ⟨rfl, rfl⟩ (fun h_ => by first | exact h_ | simpa only [updAt_length] using h_ | with_unfolding_all rfl) ?_ ?_ | with_reducible apply keeps_ite | split | dsimp only | intro _ _ | intro _)

theorem State.writeNext_keeps {p_ : Allow} {z : State} {s : State} (real1 real2 : Bool)  (hevents_ : p_.may .events = true) (haon_ : p_.may .aon = true) (hflt_ : p_.may .flt = true) (hevr_ : p_.may .evr = true) (h_ : Keeps p_ z s) : Keeps p_ z (State.writeNext s real1 real2) := by
  unfold State.writeNext
  repeat' (first | with_reducible assumption | with_reducible exact Keeps.refl _ _ | with_reducible apply State.setEvr_keeps | with_reducible apply State.writeRecord_keeps | with_reducible apply State.closeLate_keeps | with_reducible apply keepsParts_intro | with_reducible exact Or.inl (by with_reducible assumption) | with_reducible exact Or.inr rfl | simp only [keeps_mk] | with_reducible refine keepsMk_of ?_ ⟨rfl, rfl⟩ (fun h_ => by first | exact h_ | simpa only [updAt_length] using h_ | with_unfolding_all rfl) ?_ ?_ | split | intro _ _ | dsimp only | intro _ _ | intro _)

theorem State.writeAll_keeps {p_ : Allow} {z : State} {s : State} (x0 : Nat)  (hevents_ : p_.may .events = true) (haon_ : p_.may .aon = true) (hflt_ : p_.may .flt = true) (hevr_ : p_.may .evr = true) (h_ : Keeps p_ z s) : Keeps p_ z (State.writeAll s x0) := by
  induction x0 generalizing s with
  | zero =>
    unfold State.writeAll
    repeat' (first | with_reducible assumption | with_reducible exact Keeps.refl _ _ | with_reducible apply ih_ | with_reducible apply State.writeNext_keeps | split | dsimp only | intro _ _ | intro _)
  | succ n_ ih_ =>
    unfold State.writeAll
    repeat' (first | with_reducible assumption | with_reducible exact Keeps.refl _ _ | with_reducible apply ih_ | with_reducible apply State.writeNext_keeps | split | dsimp only | intro _ _ | intro _)

theorem State.signingKey_keeps {p_ : Allow} {z : State} {s : State}  (hfree_ : p_.may .free = true) (hkey_ : p_.may .key = true) (h_ : Keeps p_ z s) : Keeps p_ z (State.signingKey s).2 := by
  unfold State.signingKey
  repeat' (first | with_reducible assumption | with_reducible exact Keeps.refl _ _ | with_reducible apply State.useKeySlot_keeps | with_reducible refine State.useKeySlot_keeps_of (by with_reducible assumption) ?_ ?_ ?_ | with_reducible apply keeps_ite | split | dsimp only | intro _ _ | intro _)
theorem State.signingKey_keeps_of {p_ : Allow} {z : State} {s : State} {a_ : _} {t_ : State} (e_ : State.signingKey s = (a_, t_)) (hfree_ : p_.may .free = true) (hkey_ : p_.may .key = true) (h_ : Keeps p_ z s) : Keeps p_ z t_ := by
  have k_ := State.signingKey_keeps (z := z) hfree_ hkey_ h_
  rw [e_] at k_; exact k_

theorem State.storeBlock_keeps {p_ : Allow} {z : State} {s : State} (b : EvrBlock) (real1 real2 : Bool)  (hevents_ : p_.may .events = true) (haon_ : p_.may .aon = true) (hflt_ : p_.may .flt = true) (hevr_ : p_.may .evr = true) (h_ : Keeps p_ z s) : Keeps p_ z (State.storeBlock s b real1 real2) := by
  unfold State.storeBlock
  repeat' (first | with_reducible assumption | with_reducible exact Keeps.refl _ _ | with_reducible apply State.setEvr_keeps | with_reducible apply State.evrCount_keeps | with_reducible apply State.status_keeps | with_reducible apply State.mramWrite_keeps | with_reducible apply State.bank1Fails_keeps | with_reducible apply State.bank0Fails_keeps | with_reducible refine State.mramWrite_keeps_of (by with_reducible assumption) ?_ ?_ ?_ | with_reducible apply keepsParts_intro | with_reducible exact Or.inl (by with_reducible assumption) | with_reducible exact Or.inr rfl | simp only [keeps_mk] | with_reducible refine keepsMk_of ?_ ⟨rfl, rfl⟩ (fun h_ => by first | exact h_ | simpa only [updAt_length] using h_ | with_unfolding_all rfl) ?_ ?_ | with_reducible apply keeps_ite | split | dsimp only | intro _ _ | intro _)

theorem State.writeBlock_keeps {p_ : Allow} {z : State} {s : State} (area k : Nat) (partial_ power real1 real2 : Bool)  (hfree_ : p_.may .free = true) (hevents_ : p_.may .events = true) (haon_ : p_.may .aon = true) (hflt_ : p_.may .flt = true) (hkey_ : p_.may .key = true) (hevr_ : p_.may .evr = true) (h_ : Keeps p_ z s) : Keeps p_ z (State.writeBlock s area k partial_ power real1 real2) := by
  unfold State.writeBlock
  repeat' (first | with_reducible assumption | with_reducible exact Keeps.refl _ _ | with_reducible apply State.signingKey_keeps | with_reducible apply State.storeBlock_keeps | with_reducible apply State.status_keeps | with_reducible refine State.signingKey_keeps_of (by with_reducible assumption) ?_ ?_ ?_ | with_reducible apply keepsParts_intro | with_reducible exact Or.inl (by with_reducible assumption) | with_reducible exact Or.inr rfl | simp only [keeps_mk] | with_reducible refine keepsMk_of ?_ ⟨rfl, rfl⟩ (fun h_ => by first | exact h_ | simpa only [updAt_length] using h_ | with_unfolding_all rfl) ?_ ?_ | with_reducible apply keeps_ite | split | intro _ _ | dsimp only | intro _ _ | intro _)

theorem State.writeDue_keeps {p_ : Allow} {z : State} {s : State} (real1 real2 : Bool)  (hfree_ : p_.may .free = true) (hevents_ : p_.may .events = true) (haon_ : p_.may .aon = true) (hflt_ : p_.may .flt = true) (hkey_ : p_.may .key = true) (hevr_ : p_.may .evr = true) (h_ : Keeps p_ z s) : Keeps p_ z (State.writeDue s real1 real2) := by
  unfold State.writeDue
  repeat' (first | with_reducible assumption | with_reducible exact Keeps.refl _ _ | with_reducible apply State.setEvr_keeps | with_reducible apply State.writeBlock_keeps | with_reducible apply keepsParts_intro | with_reducible exact Or.inl (by with_reducible assumption) | with_reducible exact Or.inr rfl | simp only [keeps_mk] | with_reducible refine keepsMk_of ?_ ⟨rfl, rfl⟩ (fun h_ => by first | exact h_ | simpa only [updAt_length] using h_ | with_unfolding_all rfl) ?_ ?_ | split | intro _ _ | dsimp only | intro _ _ | intro _)

theorem State.writeDues_keeps {p_ : Allow} {z : State} {s : State} (x0 : Nat)  (hfree_ : p_.may .free = true) (hevents_ : p_.may .events = true) (haon_ : p_.may .aon = true) (hflt_ : p_.may .flt = true) (hkey_ : p_.may .key = true) (hevr_ : p_.may .evr = true) (h_ : Keeps p_ z s) : Keeps p_ z (State.writeDues s x0) := by
  induction x0 generalizing s with
  | zero =>
    unfold State.writeDues
    repeat' (first | with_reducible assumption | with_reducible exact Keeps.refl _ _ | with_reducible apply ih_ | with_reducible apply State.writeDue_keeps | split | dsimp only | intro _ _ | intro _)
  | succ n_ ih_ =>
    unfold State.writeDues
    repeat' (first | with_reducible assumption | with_reducible exact Keeps.refl _ _ | with_reducible apply ih_ | with_reducible apply State.writeDue_keeps | split | dsimp only | intro _ _ | intro _)

theorem State.partialBlocks_keeps {p_ : Allow} {z : State} {s : State} (power : Bool)  (hfree_ : p_.may .free = true) (hevents_ : p_.may .events = true) (haon_ : p_.may .aon = true) (hflt_ : p_.may .flt = true) (hkey_ : p_.may .key = true) (hevr_ : p_.may .evr = true) (h_ : Keeps p_ z s) : Keeps p_ z (State.partialBlocks s power) := by
  unfold State.partialBlocks
  repeat' (first | with_reducible assumption | with_reducible exact Keeps.refl _ _ | with_reducible apply State.writeBlock_keeps | with_reducible apply keeps_foldl | with_reducible apply keeps_foldl_fst | with_reducible apply keeps_foldl_snd | intro _ _ _ | with_reducible apply keepsParts_intro | with_reducible exact Or.inl (by with_reducible assumption) | with_reducible exact Or.inr rfl | simp only [keeps_mk] | with_reducible refine keepsMk_of ?_ ⟨rfl, rfl⟩ (fun h_ => by first | exact h_ | simpa only [updAt_length] using h_ | with_unfolding_all rfl) ?_ ?_ | split | intro _ _ | dsimp only | intro _ _ | intro _)

theorem State.sealLog_keeps {p_ : Allow} {z : State} {s : State} (power : Bool)  (hfree_ : p_.may .free = true) (hevents_ : p_.may .events = true) (haon_ : p_.may .aon = true) (hflt_ : p_.may .flt = true) (hkey_ : p_.may .key = true) (hevr_ : p_.may .evr = true) (h_ : Keeps p_ z s) : Keeps p_ z (State.sealLog s power) := by
  unfold State.sealLog
  repeat' (first | with_reducible assumption | with_reducible exact Keeps.refl _ _ | with_reducible apply State.closeEarly_keeps | with_reducible apply State.writeAll_keeps | with_reducible apply State.writeDues_keeps | with_reducible apply State.partialBlocks_keeps | dsimp only | intro _ _ | intro _)

theorem State.loseLog_keeps {p_ : Allow} {z : State} {s : State}  (hevr_ : p_.may .evr = true) (h_ : Keeps p_ z s) : Keeps p_ z (State.loseLog s) := by
  unfold State.loseLog
  repeat' (first | with_reducible assumption | with_reducible exact Keeps.refl _ _ | with_reducible apply State.setEvr_keeps | with_reducible apply keepsParts_intro | with_reducible exact Or.inl (by with_reducible assumption) | with_reducible exact Or.inr rfl | simp only [keeps_mk] | with_reducible refine keepsMk_of ?_ ⟨rfl, rfl⟩ (fun h_ => by first | exact h_ | simpa only [updAt_length] using h_ | with_unfolding_all rfl) ?_ ?_ | dsimp only | intro _ _ | intro _)

theorem State.startLog_keeps {p_ : Allow} {z : State} {s : State}  (hfree_ : p_.may .free = true) (hevents_ : p_.may .events = true) (haon_ : p_.may .aon = true) (hflt_ : p_.may .flt = true) (hkey_ : p_.may .key = true) (hevr_ : p_.may .evr = true) (h_ : Keeps p_ z s) : Keeps p_ z (State.startLog s) := by
  unfold State.startLog
  repeat' (first | with_reducible assumption | with_reducible exact Keeps.refl _ _ | with_reducible apply State.setEvr_keeps | with_reducible apply State.pushRecord_keeps | with_reducible apply State.status_keeps | with_reducible apply State.writeDues_keeps | with_reducible apply State.partialBlocks_keeps | with_reducible apply keepsParts_intro | with_reducible exact Or.inl (by with_reducible assumption) | with_reducible exact Or.inr rfl | simp only [keeps_mk] | with_reducible refine keepsMk_of ?_ ⟨rfl, rfl⟩ (fun h_ => by first | exact h_ | simpa only [updAt_length] using h_ | with_unfolding_all rfl) ?_ ?_ | split | intro _ _ | dsimp only | intro _ _ | intro _)

theorem State.resetSillage_keeps {p_ : Allow} {z : State} {s : State}  (hevr_ : p_.may .evr = true) (h_ : Keeps p_ z s) : Keeps p_ z (State.resetSillage s) := by
  unfold State.resetSillage
  repeat' (first | with_reducible assumption | with_reducible exact Keeps.refl _ _ | with_reducible apply State.resetRegs_keeps | with_reducible apply State.loseLog_keeps | dsimp only | intro _ _ | intro _)

theorem State.resumeSillage_keeps {p_ : Allow} {z : State} {s : State}  (hfree_ : p_.may .free = true) (hevents_ : p_.may .events = true) (haon_ : p_.may .aon = true) (hflt_ : p_.may .flt = true) (hkey_ : p_.may .key = true) (hevr_ : p_.may .evr = true) (h_ : Keeps p_ z s) : Keeps p_ z (State.resumeSillage s) := by
  unfold State.resumeSillage
  repeat' (first | with_reducible assumption | with_reducible exact Keeps.refl _ _ | with_reducible apply State.startLog_keeps | with_reducible apply keeps_ite | split | dsimp only | intro _ _ | intro _)

/-! ### Machine/StepOps.lean -/

theorem State.beforeStep_keeps {p_ : Allow} {z : State} {s : State}  (hevents_ : p_.may .events = true) (hpec_ : p_.may .pec = true) (hevr_ : p_.may .evr = true) (h_ : Keeps p_ z s) : Keeps p_ z (State.beforeStep s) := by
  unfold State.beforeStep
  repeat' (first | with_reducible assumption | with_reducible exact Keeps.refl _ _ | with_reducible apply State.closeEpoch_keeps | with_reducible apply State.pecBeforeStep_keeps | with_reducible apply keeps_ite | split | dsimp only | intro _ _ | intro _)

theorem State.afterStep_keeps {p_ : Allow} {z : State} {s : State}  (hevents_ : p_.may .events = true) (hpec_ : p_.may .pec = true) (haln_ : p_.may .aln = true) (hisl_ : p_.may .isl = true) (hosc_ : p_.may .osc = true) (hcap_ : p_.may .cap = true) (h_ : Keeps p_ z s) : Keeps p_ z (State.afterStep s) := by
  unfold State.afterStep
  repeat' (first | with_reducible assumption | with_reducible exact Keeps.refl _ _ | with_reducible apply State.alnTimeStep_keeps | with_reducible apply State.islTimeStep_keeps | with_reducible apply State.pecTimeStep_keeps | with_reducible apply State.oscTimeStep_keeps | with_reducible apply State.capStep_keeps | dsimp only | intro _ _ | intro _)

theorem State.compareToCapture_keeps {p_ : Allow} {z : State} {s : State} (n : Nat)  (hcapIn_ : p_.may .capIn = true) (hcap_ : p_.may .cap = true) (h_ : Keeps p_ z s) : Keeps p_ z (State.compareToCapture s n) := by
  unfold State.compareToCapture
  repeat' (first | with_reducible assumption | with_reducible exact Keeps.refl _ _ | with_reducible apply State.armQuiet_keeps | with_reducible apply State.capCount_keeps | with_reducible refine State.armQuiet_keeps_of (by with_reducible assumption) ?_ ?_ | with_reducible apply keepsParts_intro | with_reducible exact Or.inl (by with_reducible assumption) | with_reducible exact Or.inr rfl | simp only [keeps_mk] | with_reducible refine keepsMk_of ?_ ⟨rfl, rfl⟩ (fun h_ => by first | exact h_ | simpa only [updAt_length] using h_ | with_unfolding_all rfl) ?_ ?_ | with_reducible apply keeps_ite | split | dsimp only | intro _ _ | intro _)

theorem State.trigLevel_keeps {p_ : Allow} {z : State} {s : State} (n : Nat) (rising : Bool)  (hcap_ : p_.may .cap = true) (h_ : Keeps p_ z s) : Keeps p_ z (State.trigLevel s n rising) := by
  unfold State.trigLevel
  repeat' (first | with_reducible assumption | with_reducible exact Keeps.refl _ _ | with_reducible apply keepsParts_intro | with_reducible exact Or.inl (by with_reducible assumption) | with_reducible exact Or.inr rfl | simp only [keeps_mk] | with_reducible refine keepsMk_of ?_ ⟨rfl, rfl⟩ (fun h_ => by first | exact h_ | simpa only [updAt_length] using h_ | with_unfolding_all rfl) ?_ ?_ | with_reducible apply keeps_ite | split | dsimp only | intro _ _ | intro _)

theorem State.trigEdge_keeps {p_ : Allow} {z : State} {s : State} (n : Nat) (rising : Bool) (t : Instant)  (hcapIn_ : p_.may .capIn = true) (h_ : Keeps p_ z s) : Keeps p_ z (State.trigEdge s n rising t) := by
  unfold State.trigEdge
  repeat' (first | with_reducible assumption | with_reducible exact Keeps.refl _ _ | with_reducible apply keepsParts_intro | with_reducible exact Or.inl (by with_reducible assumption) | with_reducible exact Or.inr rfl | simp only [keeps_mk] | with_reducible refine keepsMk_of ?_ ⟨rfl, rfl⟩ (fun h_ => by first | exact h_ | simpa only [updAt_length] using h_ | with_unfolding_all rfl) ?_ ?_ | with_reducible apply keeps_ite | split | dsimp only | intro _ _ | intro _)

/-! ### Machine/MbxOps.lean -/

theorem State.raiseGen_keeps {p_ : Allow} {z : State} {s : State} (i : MasterId)  (h_ : Keeps p_ z s) : Keeps p_ z (State.raiseGen s i) := by
  unfold State.raiseGen
  repeat' (first | with_reducible assumption | with_reducible exact Keeps.refl _ _ | with_reducible apply State.learnGen_keeps | dsimp only | intro _ _ | intro _)

theorem State.updMchan_keeps {p_ : Allow} {z : State} {s : State} (n : Nat) (f : MbxChan → MbxChan)  (hmbx_ : p_.may .mbx = true) (h_ : Keeps p_ z s) : Keeps p_ z (State.updMchan s n f) := by
  unfold State.updMchan
  repeat' (first | with_reducible assumption | with_reducible exact Keeps.refl _ _ | with_reducible apply State.setMbx_keeps | with_reducible apply keepsParts_intro | with_reducible exact Or.inl (by with_reducible assumption) | with_reducible exact Or.inr rfl | simp only [keeps_mk] | with_reducible refine keepsMk_of ?_ ⟨rfl, rfl⟩ (fun h_ => by first | exact h_ | simpa only [updAt_length] using h_ | with_unfolding_all rfl) ?_ ?_ | dsimp only | intro _ _ | intro _)

theorem State.clearMailboxes_keeps {p_ : Allow} {z : State} {s : State}  (hmbx_ : p_.may .mbx = true) (h_ : Keeps p_ z s) : Keeps p_ z (State.clearMailboxes s) := by
  unfold State.clearMailboxes
  repeat' (first | with_reducible assumption | with_reducible exact Keeps.refl _ _ | with_reducible apply State.setMbx_keeps | with_reducible apply State.resetRegs_keeps | with_reducible apply keepsParts_intro | with_reducible exact Or.inl (by with_reducible assumption) | with_reducible exact Or.inr rfl | simp only [keeps_mk] | with_reducible refine keepsMk_of ?_ ⟨rfl, rfl⟩ (fun h_ => by first | exact h_ | simpa only [updAt_length] using h_ | with_unfolding_all rfl) ?_ ?_ | dsimp only | intro _ _ | intro _)

theorem State.bindDrop_keeps {p_ : Allow} {z : State} {s : State} (n : Nat) (i : MasterId)  (hevents_ : p_.may .events = true) (h_ : Keeps p_ z s) : Keeps p_ z (State.bindDrop s n i) := by
  unfold State.bindDrop
  repeat' (first | with_reducible assumption | with_reducible exact Keeps.refl _ _ | with_reducible apply State.count_keeps | with_reducible apply State.status_keeps | with_reducible apply State.raise_keeps | dsimp only | intro _ _ | intro _)

theorem State.fillChan_keeps {p_ : Allow} {z : State} {s : State} (n : Nat) (i : MasterId) (g : BitVec 4) (ws : List (Nat × Word))  (hmbx_ : p_.may .mbx = true) (h_ : Keeps p_ z s) : Keeps p_ z (State.fillChan s n i g ws) := by
  unfold State.fillChan
  repeat' (first | with_reducible assumption | with_reducible exact Keeps.refl _ _ | with_reducible apply State.setReg_keeps | with_reducible apply State.updMchan_keeps | with_reducible apply State.count_keeps | with_reducible apply State.status_keeps | with_reducible apply keeps_foldl | with_reducible apply keeps_foldl_fst | with_reducible apply keeps_foldl_snd | intro _ _ _ | with_reducible apply keeps_ite | split | dsimp only | intro _ _ | intro _)

theorem State.emptyMbox_keeps {p_ : Allow} {z : State} {s : State} (n : Nat)  (hmbx_ : p_.may .mbx = true) (h_ : Keeps p_ z s) : Keeps p_ z (State.emptyMbox s n) := by
  unfold State.emptyMbox
  repeat' (first | with_reducible assumption | with_reducible exact Keeps.refl _ _ | with_reducible apply State.updMchan_keeps | with_reducible apply keepsParts_intro | with_reducible exact Or.inl (by with_reducible assumption) | with_reducible exact Or.inr rfl | simp only [keeps_mk] | with_reducible refine keepsMk_of ?_ ⟨rfl, rfl⟩ (fun h_ => by first | exact h_ | simpa only [updAt_length] using h_ | with_unfolding_all rfl) ?_ ?_ | dsimp only | intro _ _ | intro _)

theorem State.serveChan_keeps {p_ : Allow} {z : State} {s : State} (n : Nat) (x0 : Nat)  (hmbx_ : p_.may .mbx = true) (h_ : Keeps p_ z s) : Keeps p_ z (State.serveChan s n x0) := by
  induction x0 generalizing s n with
  | zero =>
    unfold State.serveChan
    repeat' (first | with_reducible assumption | with_reducible exact Keeps.refl _ _ | with_reducible apply ih_ | with_reducible apply State.setMbx_keeps | with_reducible apply State.complete_keeps | with_reducible apply State.emptyMbox_keeps | with_reducible apply State.fillChan_keeps | with_reducible apply keepsParts_intro | with_reducible exact Or.inl (by with_reducible assumption) | with_reducible exact Or.inr rfl | simp only [keeps_mk] | with_reducible refine keepsMk_of ?_ ⟨rfl, rfl⟩ (fun h_ => by first | exact h_ | simpa only [updAt_length] using h_ | with_unfolding_all rfl) ?_ ?_ | with_reducible apply keeps_ite | split | intro _ _ | dsimp only | intro _ _ | intro _)
  | succ n_ ih_ =>
    unfold State.serveChan
    repeat' (first | with_reducible assumption | with_reducible exact Keeps.refl _ _ | with_reducible apply ih_ | with_reducible apply State.setMbx_keeps | with_reducible apply State.complete_keeps | with_reducible apply State.emptyMbox_keeps | with_reducible apply State.fillChan_keeps | with_reducible apply keepsParts_intro | with_reducible exact Or.inl (by with_reducible assumption) | with_reducible exact Or.inr rfl | simp only [keeps_mk] | with_reducible refine keepsMk_of ?_ ⟨rfl, rfl⟩ (fun h_ => by first | exact h_ | simpa only [updAt_length] using h_ | with_unfolding_all rfl) ?_ ?_ | with_reducible apply keeps_ite | split | intro _ _ | dsimp only | intro _ _ | intro _)

theorem State.settleChan_keeps {p_ : Allow} {z : State} {s : State} (n : Nat)  (hmbx_ : p_.may .mbx = true) (h_ : Keeps p_ z s) : Keeps p_ z (State.settleChan s n) := by
  unfold State.settleChan
  repeat' (first | with_reducible assumption | with_reducible exact Keeps.refl _ _ | with_reducible apply State.serveChan_keeps | dsimp only | intro _ _ | intro _)

theorem State.writeMbox_keeps {p_ : Allow} {z : State} {s : State} (n j : Nat) (i : MasterId) (v : Word)  (hevents_ : p_.may .events = true) (hmbx_ : p_.may .mbx = true) (h_ : Keeps p_ z s) : Keeps p_ z (State.writeMbox s n j i v) := by
  unfold State.writeMbox
  repeat' (first | with_reducible assumption | with_reducible exact Keeps.refl _ _ | with_reducible apply State.bindDrop_keeps | with_reducible apply State.count_keeps | with_reducible apply State.fillChan_keeps | with_reducible apply State.settleChan_keeps | with_reducible apply State.updMchan_keeps | with_reducible apply keepsParts_intro | with_reducible exact Or.inl (by with_reducible assumption) | with_reducible exact Or.inr rfl | simp only [keeps_mk] | with_reducible refine keepsMk_of ?_ ⟨rfl, rfl⟩ (fun h_ => by first | exact h_ | simpa only [updAt_length] using h_ | with_unfolding_all rfl) ?_ ?_ | with_reducible apply keeps_ite | split | intro _ _ | dsimp only | intro _ _ | intro _)

theorem State.arriveMbox_keeps {p_ : Allow} {z : State} {s : State} (n : Nat) (i : MasterId) (g : BitVec 4) (ws : List Word)  (hevents_ : p_.may .events = true) (hmbx_ : p_.may .mbx = true) (h_ : Keeps p_ z s) : Keeps p_ z (State.arriveMbox s n i g ws) := by
  unfold State.arriveMbox
  repeat' (first | with_reducible assumption | with_reducible exact Keeps.refl _ _ | with_reducible apply State.learnGen_keeps | with_reducible apply State.bindDrop_keeps | with_reducible apply State.count_keeps | with_reducible apply State.fillChan_keeps | with_reducible apply State.settleChan_keeps | with_reducible apply keeps_ite | split | dsimp only | intro _ _ | intro _)

theorem State.readW15_keeps {p_ : Allow} {z : State} {s : State} (n : Nat)  (hmbx_ : p_.may .mbx = true) (h_ : Keeps p_ z s) : Keeps p_ z (State.readW15 s n).2 := by
  unfold State.readW15
  repeat' (first | with_reducible assumption | with_reducible exact Keeps.refl _ _ | with_reducible apply State.emptyMbox_keeps | with_reducible apply State.settleChan_keeps | with_reducible apply keeps_ite | split | dsimp only | intro _ _ | intro _)
theorem State.readW15_keeps_of {p_ : Allow} {z : State} {s : State} {n : Nat} {a_ : _} {t_ : State} (e_ : State.readW15 s n = (a_, t_)) (hmbx_ : p_.may .mbx = true) (h_ : Keeps p_ z s) : Keeps p_ z t_ := by
  have k_ := State.readW15_keeps (z := z) n hmbx_ h_
  rw [e_] at k_; exact k_

theorem State.writeBind_keeps {p_ : Allow} {z : State} {s : State} (n : Nat) (w : Word)  (h_ : Keeps p_ z s) : Keeps p_ z (State.writeBind s n w) := by
  unfold State.writeBind
  repeat' (first | with_reducible assumption | with_reducible exact Keeps.refl _ _ | with_reducible apply State.plainWrite_keeps | with_reducible apply keeps_ite | split | dsimp only | intro _ _ | intro _)

/-! ### Machine/CmdOps.lean -/

theorem State.updLock_keeps {p_ : Allow} {z : State} {s : State} (n : Nat) (f : Lock → Lock)  (h_ : Keeps p_ z s) : Keeps p_ z (State.updLock s n f) := by
  unfold State.updLock
  repeat' (first | with_reducible assumption | with_reducible exact Keeps.refl _ _ | with_reducible apply State.setCmd_keeps | with_reducible apply keepsParts_intro | with_reducible exact Or.inl (by with_reducible assumption) | with_reducible exact Or.inr rfl | simp only [keeps_mk] | with_reducible refine keepsMk_of ?_ ⟨rfl, rfl⟩ (fun h_ => by first | exact h_ | simpa only [updAt_length] using h_ | with_unfolding_all rfl) ?_ ?_ | dsimp only | intro _ _ | intro _)

theorem State.grant_keeps {p_ : Allow} {z : State} {s : State} (n : Nat) (session : Fin 4) (leaseMs : Nat)  (h_ : Keeps p_ z s) : Keeps p_ z (State.grant s n session leaseMs).2 := by
  unfold State.grant
  repeat' (first | with_reducible assumption | with_reducible exact Keeps.refl _ _ | with_reducible apply State.updLock_keeps | with_reducible apply keepsParts_intro | with_reducible exact Or.inl (by with_reducible assumption) | with_reducible exact Or.inr rfl | simp only [keeps_mk] | with_reducible refine keepsMk_of ?_ ⟨rfl, rfl⟩ (fun h_ => by first | exact h_ | simpa only [updAt_length] using h_ | with_unfolding_all rfl) ?_ ?_ | with_reducible apply keeps_ite | split | dsimp only | intro _ _ | intro _)
theorem State.grant_keeps_of {p_ : Allow} {z : State} {s : State} {n : Nat} {session : Fin 4} {leaseMs : Nat} {a_ : _} {t_ : State} (e_ : State.grant s n session leaseMs = (a_, t_)) (h_ : Keeps p_ z s) : Keeps p_ z t_ := by
  have k_ := State.grant_keeps (z := z) n session leaseMs h_
  rw [e_] at k_; exact k_

theorem State.passLock_keeps {p_ : Allow} {z : State} {s : State} (n : Nat)  (h_ : Keeps p_ z s) : Keeps p_ z (State.passLock s n) := by
  unfold State.passLock
  repeat' (first | with_reducible assumption | with_reducible exact Keeps.refl _ _ | with_reducible apply State.updLock_keeps | with_reducible apply State.grant_keeps | with_reducible apply State.complete_keeps | with_reducible refine State.grant_keeps_of (by with_reducible assumption) ?_ | with_reducible apply keepsParts_intro | with_reducible exact Or.inl (by with_reducible assumption) | with_reducible exact Or.inr rfl | simp only [keeps_mk] | with_reducible refine keepsMk_of ?_ ⟨rfl, rfl⟩ (fun h_ => by first | exact h_ | simpa only [updAt_length] using h_ | with_unfolding_all rfl) ?_ ?_ | split | intro _ _ | dsimp only | intro _ _ | intro _)

theorem State.breakLock_keeps {p_ : Allow} {z : State} {s : State} (n : Nat) (reopening : Bool)  (hevents_ : p_.may .events = true) (h_ : Keeps p_ z s) : Keeps p_ z (State.breakLock s n reopening) := by
  unfold State.breakLock
  repeat' (first | with_reducible assumption | with_reducible exact Keeps.refl _ _ | with_reducible apply State.updLock_keeps | with_reducible apply State.updSession_keeps | with_reducible apply State.count_keeps | with_reducible apply State.vector_keeps | with_reducible apply State.raise_keeps | with_reducible apply State.passLock_keeps | with_reducible apply keepsParts_intro | with_reducible exact Or.inl (by with_reducible assumption) | with_reducible exact Or.inr rfl | simp only [keeps_mk] | with_reducible refine keepsMk_of ?_ ⟨rfl, rfl⟩ (fun h_ => by first | exact h_ | simpa only [updAt_length] using h_ | with_unfolding_all rfl) ?_ ?_ | with_reducible apply keeps_ite | split | intro _ _ | dsimp only | intro _ _ | intro _)

theorem State.breakAll_keeps {p_ : Allow} {z : State} {s : State}  (hevents_ : p_.may .events = true) (h_ : Keeps p_ z s) : Keeps p_ z (State.breakAll s) := by
  unfold State.breakAll
  repeat' (first | with_reducible assumption | with_reducible exact Keeps.refl _ _ | with_reducible apply State.breakLock_keeps | with_reducible apply keeps_foldl | with_reducible apply keeps_foldl_fst | with_reducible apply keeps_foldl_snd | intro _ _ _ | dsimp only | intro _ _ | intro _)

theorem State.dropLocks_keeps {p_ : Allow} {z : State} {s : State} (session : Fin 4)  (hevents_ : p_.may .events = true) (h_ : Keeps p_ z s) : Keeps p_ z (State.dropLocks s session) := by
  unfold State.dropLocks
  repeat' (first | with_reducible assumption | with_reducible exact Keeps.refl _ _ | with_reducible apply State.breakLock_keeps | with_reducible apply State.updSession_keeps | with_reducible apply keeps_foldl | with_reducible apply keeps_foldl_fst | with_reducible apply keeps_foldl_snd | intro _ _ _ | with_reducible apply keepsParts_intro | with_reducible exact Or.inl (by with_reducible assumption) | with_reducible exact Or.inr rfl | simp only [keeps_mk] | with_reducible refine keepsMk_of ?_ ⟨rfl, rfl⟩ (fun h_ => by first | exact h_ | simpa only [updAt_length] using h_ | with_unfolding_all rfl) ?_ ?_ | dsimp only | intro _ _ | intro _)

theorem State.closeSessions_keeps {p_ : Allow} {z : State} {s : State}  (h_ : Keeps p_ z s) : Keeps p_ z (State.closeSessions s) := by
  unfold State.closeSessions
  repeat' (first | with_reducible assumption | with_reducible exact Keeps.refl _ _ | with_reducible apply State.setCmd_keeps | with_reducible apply keepsParts_intro | with_reducible exact Or.inl (by with_reducible assumption) | with_reducible exact Or.inr rfl | simp only [keeps_mk] | with_reducible refine keepsMk_of ?_ ⟨rfl, rfl⟩ (fun h_ => by first | exact h_ | simpa only [updAt_length] using h_ | with_unfolding_all rfl) ?_ ?_ | dsimp only | intro _ _ | intro _)

theorem State.abandon_keeps {p_ : Allow} {z : State} {s : State} (f : Flight) (status : Nat)  (hkey_ : p_.may .key = true) (hmbx_ : p_.may .mbx = true) (h_ : Keeps p_ z s) : Keeps p_ z (State.abandon s f status) := by
  unfold State.abandon
  repeat' (first | with_reducible assumption | with_reducible exact Keeps.refl _ _ | with_reducible apply State.setCmd_keeps | with_reducible apply State.setKeys_keeps | with_reducible apply State.setMbx_keeps | with_reducible apply State.postFinal_keeps | with_reducible apply State.status_keeps | with_reducible apply keepsParts_intro | with_reducible exact Or.inl (by with_reducible assumption) | with_reducible exact Or.inr rfl | simp only [keeps_mk] | with_reducible refine keepsMk_of ?_ ⟨rfl, rfl⟩ (fun h_ => by first | exact h_ | simpa only [updAt_length] using h_ | with_unfolding_all rfl) ?_ ?_ | split | dsimp only | intro _ _ | intro _)

theorem State.resetCore_keeps {p_ : Allow} {z : State} {s : State} (core : Fin 4) (cmds : List (Fin 4 × Word))  (hkey_ : p_.may .key = true) (hmbx_ : p_.may .mbx = true) (h_ : Keeps p_ z s) : Keeps p_ z (State.resetCore s core cmds) := by
  unfold State.resetCore
  repeat' (first | with_reducible assumption | with_reducible exact Keeps.refl _ _ | with_reducible apply State.abandon_keeps | with_reducible apply State.raiseGen_keeps | with_reducible apply keeps_foldl | with_reducible apply keeps_foldl_fst | with_reducible apply keeps_foldl_snd | intro _ _ _ | with_reducible apply keepsParts_intro | with_reducible exact Or.inl (by with_reducible assumption) | with_reducible exact Or.inr rfl | simp only [keeps_mk] | with_reducible refine keepsMk_of ?_ ⟨rfl, rfl⟩ (fun h_ => by first | exact h_ | simpa only [updAt_length] using h_ | with_unfolding_all rfl) ?_ ?_ | with_reducible apply keeps_ite | split | intro _ _ | dsimp only | intro _ _ | intro _)

theorem State.closeAggregate_keeps {p_ : Allow} {z : State} {s : State} (f : Flight) (a : Aggregate) (timedOut : Bool)  (h_ : Keeps p_ z s) : Keeps p_ z (State.closeAggregate s f a timedOut) := by
  unfold State.closeAggregate
  repeat' (first | with_reducible assumption | with_reducible exact Keeps.refl _ _ | with_reducible apply State.status_keeps | with_reducible apply State.setCmd_keeps | with_reducible apply State.postFinal_keeps | with_reducible apply keepsParts_intro | with_reducible exact Or.inl (by with_reducible assumption) | with_reducible exact Or.inr rfl | simp only [keeps_mk] | with_reducible refine keepsMk_of ?_ ⟨rfl, rfl⟩ (fun h_ => by first | exact h_ | simpa only [updAt_length] using h_ | with_unfolding_all rfl) ?_ ?_ | with_reducible apply keeps_ite | split | intro _ _ | dsimp only | intro _ _ | intro _)

theorem State.clearRings_keeps {p_ : Allow} {z : State} {s : State}  (h_ : Keeps p_ z s) : Keeps p_ z (State.clearRings s) := by
  unfold State.clearRings
  repeat' (first | with_reducible assumption | with_reducible exact Keeps.refl _ _ | with_reducible apply State.setReg_keeps | with_reducible apply State.setRb_keeps | with_reducible apply State.setCmd_keeps | with_reducible apply keepsParts_intro | with_reducible exact Or.inl (by with_reducible assumption) | with_reducible exact Or.inr rfl | simp only [keeps_mk] | with_reducible refine keepsMk_of ?_ ⟨rfl, rfl⟩ (fun h_ => by first | exact h_ | simpa only [updAt_length] using h_ | with_unfolding_all rfl) ?_ ?_ | split | intro _ _ | dsimp only | intro _ _ | intro _)

theorem State.freeReplies_keeps {p_ : Allow} {z : State} {s : State} (head : Nat)  (h_ : Keeps p_ z s) : Keeps p_ z (State.freeReplies s head) := by
  unfold State.freeReplies
  repeat' (first | with_reducible assumption | with_reducible exact Keeps.refl _ _ | with_reducible apply State.setRf_keeps | with_reducible apply State.setCmd_keeps | with_reducible apply keepsParts_intro | with_reducible exact Or.inl (by with_reducible assumption) | with_reducible exact Or.inr rfl | simp only [keeps_mk] | with_reducible refine keepsMk_of ?_ ⟨rfl, rfl⟩ (fun h_ => by first | exact h_ | simpa only [updAt_length] using h_ | with_unfolding_all rfl) ?_ ?_ | split | intro _ _ | dsimp only | intro _ _ | intro _)

theorem State.enableFetch_keeps {p_ : Allow} {z : State} {s : State} (on : Bool)  (h_ : Keeps p_ z s) : Keeps p_ z (State.enableFetch s on) := by
  unfold State.enableFetch
  repeat' (first | with_reducible assumption | with_reducible exact Keeps.refl _ _ | with_reducible apply State.setRb_keeps | dsimp only | intro _ _ | intro _)

theorem State.writeTail_keeps {p_ : Allow} {z : State} {s : State} (tail : Nat)  (h_ : Keeps p_ z s) : Keeps p_ z (State.writeTail s tail) := by
  unfold State.writeTail
  repeat' (first | with_reducible assumption | with_reducible exact Keeps.refl _ _ | with_reducible apply State.setRf_keeps | with_reducible apply State.countFld_keeps | with_reducible apply keeps_ite | split | dsimp only | intro _ _ | intro _)

theorem State.feedHeartbeat_keeps {p_ : Allow} {z : State} {s : State}  (h_ : Keeps p_ z s) : Keeps p_ z (State.feedHeartbeat s) := by
  unfold State.feedHeartbeat
  repeat' (first | with_reducible assumption | with_reducible exact Keeps.refl _ _ | with_reducible apply State.setCmd_keeps | with_reducible apply keepsParts_intro | with_reducible exact Or.inl (by with_reducible assumption) | with_reducible exact Or.inr rfl | simp only [keeps_mk] | with_reducible refine keepsMk_of ?_ ⟨rfl, rfl⟩ (fun h_ => by first | exact h_ | simpa only [updAt_length] using h_ | with_unfolding_all rfl) ?_ ?_ | with_reducible apply keeps_ite | split | dsimp only | intro _ _ | intro _)

theorem State.settleHeartbeat_keeps {p_ : Allow} {z : State} {s : State}  (h_ : Keeps p_ z s) : Keeps p_ z (State.settleHeartbeat s) := by
  unfold State.settleHeartbeat
  repeat' (first | with_reducible assumption | with_reducible exact Keeps.refl _ _ | with_reducible apply State.setCmd_keeps | with_reducible apply keepsParts_intro | with_reducible exact Or.inl (by with_reducible assumption) | with_reducible exact Or.inr rfl | simp only [keeps_mk] | with_reducible refine keepsMk_of ?_ ⟨rfl, rfl⟩ (fun h_ => by first | exact h_ | simpa only [updAt_length] using h_ | with_unfolding_all rfl) ?_ ?_ | with_reducible apply keeps_ite | split | dsimp only | intro _ _ | intro _)

end Sys2Proof.Machine
end

