-- ==== Sys2Proof/Laws/KeepsFront.lean ====
section
/-! SUPPORT. What the commands and events of time, the ports and ingress keep (Laws/Keeps.lean): one lemma per operation. -/

namespace Sys2Proof.Machine

/-! ### Machine/Time.lean -/

theorem State.abandonRestep_keeps {p_ : Allow} {z : State} {s : State}  (htime_ : p_.clock = true) (h_ : Keeps p_ z s) : Keeps p_ z (State.abandonRestep s) := by
  unfold State.abandonRestep
  repeat' (first | with_reducible assumption | with_reducible exact Keeps.refl _ _ | with_reducible apply State.complete_keeps | refine State.setTime_keeps _ (fun h_ => by first | exact h_ | simpa only [updAt_length] using h_ | with_unfolding_all rfl) ?_ ?_ | with_reducible apply keepsParts_intro | with_reducible exact Or.inl (by with_reducible assumption) | with_reducible exact Or.inr rfl | simp only [keeps_mk] | with_reducible refine keepsMk_of ?_ ⟨rfl, rfl⟩ (fun h_ => by first | exact h_ | simpa only [updAt_length] using h_ | with_unfolding_all rfl) ?_ ?_ | split | intro _ _ | dsimp only | intro _ _ | intro _)

theorem State.disarmCompares_keeps {p_ : Allow} {z : State} {s : State}  (h_ : Keeps p_ z s) : Keeps p_ z (State.disarmCompares s) := by
  unfold State.disarmCompares
  repeat' (first | with_reducible assumption | with_reducible exact Keeps.refl _ _ | with_reducible apply State.setRb_keeps | with_reducible apply keeps_foldl | with_reducible apply keeps_foldl_fst | with_reducible apply keeps_foldl_snd | intro _ _ _ | with_reducible apply keeps_ite | split | dsimp only | intro _ _ | intro _)

theorem State.stepTo_keeps {p_ : Allow} {z : State} {s : State} (t : Instant)  (hevents_ : p_.may .events = true) (hpec_ : p_.may .pec = true) (haln_ : p_.may .aln = true) (hisl_ : p_.may .isl = true) (hosc_ : p_.may .osc = true) (hcap_ : p_.may .cap = true) (hevr_ : p_.may .evr = true) (htime_ : p_.clock = true) (h_ : Keeps p_ z s) : Keeps p_ z (State.stepTo s t) := by
  unfold State.stepTo
  repeat' (first | with_reducible assumption | with_reducible exact Keeps.refl _ _ | with_reducible apply State.beforeStep_keeps | with_reducible apply State.endSuspectRun_keeps | with_reducible apply State.dropSamples_keeps | with_reducible apply State.disarmCompares_keeps | with_reducible apply State.afterStep_keeps | with_reducible apply State.status_keeps | with_reducible apply State.raise_keeps | refine State.setTime_keeps _ (fun h_ => by first | exact h_ | simpa only [updAt_length] using h_ | with_unfolding_all rfl) ?_ ?_ | with_reducible apply keepsParts_intro | with_reducible exact Or.inl (by with_reducible assumption) | with_reducible exact Or.inr rfl | simp only [keeps_mk] | with_reducible refine keepsMk_of ?_ ⟨rfl, rfl⟩ (fun h_ => by first | exact h_ | simpa only [updAt_length] using h_ | with_unfolding_all rfl) ?_ ?_ | dsimp only | intro _ _ | intro _)

theorem State.reselect_keeps {p_ : Allow} {z : State} {s : State}  (hevents_ : p_.may .events = true) (htime_ : p_.clock = true) (h_ : Keeps p_ z s) : Keeps p_ z (State.reselect s) := by
  unfold State.reselect
  repeat' (first | with_reducible assumption | with_reducible exact Keeps.refl _ _ | with_reducible apply State.abandonRestep_keeps | with_reducible apply State.enterHoldover_keeps | with_reducible apply State.setServo_keeps | with_reducible apply State.noteHoldover_keeps | refine State.setTime_keeps _ (fun h_ => by first | exact h_ | simpa only [updAt_length] using h_ | with_unfolding_all rfl) ?_ ?_ | with_reducible apply keepsParts_intro | with_reducible exact Or.inl (by with_reducible assumption) | with_reducible exact Or.inr rfl | simp only [keeps_mk] | with_reducible refine keepsMk_of ?_ ⟨rfl, rfl⟩ (fun h_ => by first | exact h_ | simpa only [updAt_length] using h_ | with_unfolding_all rfl) ?_ ?_ | with_reducible apply keeps_ite | split | intro _ _ | dsimp only | intro _ _ | intro _)

theorem State.unqualify_keeps {p_ : Allow} {z : State} {s : State} (c : Nat)  (hevents_ : p_.may .events = true) (htime_ : p_.clock = true) (h_ : Keeps p_ z s) : Keeps p_ z (State.unqualify s c) := by
  unfold State.unqualify
  repeat' (first | with_reducible assumption | with_reducible exact Keeps.refl _ _ | with_reducible apply State.updSrc_keeps | with_reducible apply State.reselect_keeps | with_reducible apply keepsParts_intro | with_reducible exact Or.inl (by with_reducible assumption) | with_reducible exact Or.inr rfl | simp only [keeps_mk] | with_reducible refine keepsMk_of ?_ ⟨rfl, rfl⟩ (fun h_ => by first | exact h_ | simpa only [updAt_length] using h_ | with_unfolding_all rfl) ?_ ?_ | dsimp only | intro _ _ | intro _)

theorem State.creditSource_keeps {p_ : Allow} {z : State} {s : State} (c : Nat)  (htime_ : p_.clock = true) (h_ : Keeps p_ z s) : Keeps p_ z (State.creditSource s c) := by
  unfold State.creditSource
  repeat' (first | with_reducible assumption | with_reducible exact Keeps.refl _ _ | with_reducible apply State.updSrc_keeps | refine State.setTime_keeps _ (fun h_ => by first | exact h_ | simpa only [updAt_length] using h_ | with_unfolding_all rfl) ?_ ?_ | with_reducible apply keepsParts_intro | with_reducible exact Or.inl (by with_reducible assumption) | with_reducible exact Or.inr rfl | simp only [keeps_mk] | with_reducible refine keepsMk_of ?_ ⟨rfl, rfl⟩ (fun h_ => by first | exact h_ | simpa only [updAt_length] using h_ | with_unfolding_all rfl) ?_ ?_ | with_reducible apply keeps_ite | split | intro _ _ | dsimp only | intro _ _ | intro _)

theorem State.refMeasure_keeps {p_ : Allow} {z : State} {s : State} (milliHz : Nat)  (hfree_ : p_.may .free = true) (htime_ : p_.clock = true) (h_ : Keeps p_ z s) : Keeps p_ z (State.refMeasure s milliHz) := by
  unfold State.refMeasure
  repeat' (first | with_reducible assumption | with_reducible exact Keeps.refl _ _ | with_reducible apply State.creditSource_keeps | with_reducible apply State.nextFree_keeps | with_reducible apply State.updSrc_keeps | refine State.setTime_keeps _ (fun h_ => by first | exact h_ | simpa only [updAt_length] using h_ | with_unfolding_all rfl) ?_ ?_ | with_reducible apply keepsParts_intro | with_reducible exact Or.inl (by with_reducible assumption) | with_reducible exact Or.inr rfl | simp only [keeps_mk] | with_reducible refine keepsMk_of ?_ ⟨rfl, rfl⟩ (fun h_ => by first | exact h_ | simpa only [updAt_length] using h_ | with_unfolding_all rfl) ?_ ?_ | with_reducible apply keeps_ite | split | dsimp only | intro _ _ | intro _)

theorem State.takeOffset_keeps {p_ : Allow} {z : State} {s : State} (c : Nat) (wasReady : Bool) (stamp : Instant) (source : Int) (jumped : Bool)  (hfree_ : p_.may .free = true) (hevents_ : p_.may .events = true) (hpec_ : p_.may .pec = true) (haln_ : p_.may .aln = true) (hisl_ : p_.may .isl = true) (hosc_ : p_.may .osc = true) (hcap_ : p_.may .cap = true) (hflt_ : p_.may .flt = true) (hevr_ : p_.may .evr = true) (htime_ : p_.clock = true) (h_ : Keeps p_ z s) : Keeps p_ z (State.takeOffset s c wasReady stamp source jumped) := by
  unfold State.takeOffset
  repeat' (first | with_reducible assumption | with_reducible exact Keeps.refl _ _ | with_reducible apply State.stepTo_keeps | with_reducible apply State.occasion_keeps | with_reducible apply State.measureDiscont_keeps | with_reducible apply State.measureTracking_keeps | with_reducible refine State.occasion_keeps_of (by with_reducible assumption) ?_ ?_ | refine State.setTime_keeps _ (fun h_ => by first | exact h_ | simpa only [updAt_length] using h_ | with_unfolding_all rfl) ?_ ?_ | with_reducible apply keepsParts_intro | with_reducible exact Or.inl (by with_reducible assumption) | with_reducible exact Or.inr rfl | simp only [keeps_mk] | with_reducible refine keepsMk_of ?_ ⟨rfl, rfl⟩ (fun h_ => by first | exact h_ | simpa only [updAt_length] using h_ | with_unfolding_all rfl) ?_ ?_ | with_reducible apply keeps_ite | split | intro _ _ | dsimp only | intro _ _ | intro _)

theorem State.servoMeasure_keeps {p_ : Allow} {z : State} {s : State} (m : Measurement)  (hfree_ : p_.may .free = true) (hevents_ : p_.may .events = true) (hpec_ : p_.may .pec = true) (haln_ : p_.may .aln = true) (hisl_ : p_.may .isl = true) (hosc_ : p_.may .osc = true) (hcap_ : p_.may .cap = true) (hflt_ : p_.may .flt = true) (hevr_ : p_.may .evr = true) (htime_ : p_.clock = true) (h_ : Keeps p_ z s) : Keeps p_ z (State.servoMeasure s m) := by
  unfold State.servoMeasure
  repeat' (first | with_reducible assumption | with_reducible exact Keeps.refl _ _ | with_reducible apply State.refMeasure_keeps | with_reducible apply State.usedSample_keeps | with_reducible apply State.creditSource_keeps | with_reducible apply State.reselect_keeps | with_reducible apply State.takeOffset_keeps | with_reducible apply keepsParts_intro | with_reducible exact Or.inl (by with_reducible assumption) | with_reducible exact Or.inr rfl | simp only [keeps_mk] | with_reducible refine keepsMk_of ?_ ⟨rfl, rfl⟩ (fun h_ => by first | exact h_ | simpa only [updAt_length] using h_ | with_unfolding_all rfl) ?_ ?_ | with_reducible apply keeps_ite | split | intro _ _ | dsimp only | intro _ _ | intro _)

theorem execServoMeasurement_keeps {p_ : Allow} {z : State} (at_ : Instant) (m : Measurement) {s : State}  (hfree_ : p_.may .free = true) (hevents_ : p_.may .events = true) (hpec_ : p_.may .pec = true) (haln_ : p_.may .aln = true) (hisl_ : p_.may .isl = true) (hosc_ : p_.may .osc = true) (hcap_ : p_.may .cap = true) (hflt_ : p_.may .flt = true) (hevr_ : p_.may .evr = true) (htime_ : p_.clock = true) (h_ : Keeps p_ z s) : KeepsOut p_ z (execServoMeasurement at_ m s) := by
  unfold execServoMeasurement
  repeat' (first | with_reducible assumption | with_reducible exact Keeps.refl _ _ | with_reducible apply State.advance_keeps | with_reducible apply State.servoMeasure_keeps | with_reducible apply KeepsRes.done | with_reducible apply KeepsRes.accepted | with_reducible apply KeepsRes.waiting | with_reducible apply KeepsOut.next | with_reducible apply keeps_ite | with_reducible apply keepsOut_ite | split | dsimp only | intro _ _ | intro _)

theorem execSourceUnqualifyTimeout_keeps {p_ : Allow} {z : State} (src : Fin 13) {s : State}  (hevents_ : p_.may .events = true) (htime_ : p_.clock = true) (h_ : Keeps p_ z s) : KeepsOut p_ z (execSourceUnqualifyTimeout src s) := by
  unfold execSourceUnqualifyTimeout
  repeat' (first | with_reducible assumption | with_reducible exact Keeps.refl _ _ | with_reducible apply State.advanceUp_keeps | with_reducible apply State.unqualify_keeps | with_reducible apply KeepsRes.done | with_reducible apply KeepsRes.accepted | with_reducible apply KeepsRes.waiting | with_reducible apply KeepsOut.next | with_reducible apply keepsParts_intro | with_reducible exact Or.inl (by with_reducible assumption) | with_reducible exact Or.inr rfl | simp only [keeps_mk] | with_reducible refine keepsMk_of ?_ ⟨rfl, rfl⟩ (fun h_ => by first | exact h_ | simpa only [updAt_length] using h_ | with_unfolding_all rfl) ?_ ?_ | split | intro _ _ | dsimp only | intro _ _ | intro _)

theorem execRestepTake_keeps {p_ : Allow} {z : State} {s : State}  (hevents_ : p_.may .events = true) (hpec_ : p_.may .pec = true) (haln_ : p_.may .aln = true) (hisl_ : p_.may .isl = true) (hosc_ : p_.may .osc = true) (hcap_ : p_.may .cap = true) (hevr_ : p_.may .evr = true) (htime_ : p_.clock = true) (h_ : Keeps p_ z s) : KeepsOut p_ z (execRestepTake s) := by
  unfold execRestepTake
  repeat' (first | with_reducible assumption | with_reducible exact Keeps.refl _ _ | with_reducible apply State.advance_keeps | with_reducible apply State.stepTo_keeps | with_reducible apply State.setServo_keeps | with_reducible apply State.complete_keeps | with_reducible apply KeepsRes.done | with_reducible apply KeepsRes.accepted | with_reducible apply KeepsRes.waiting | with_reducible apply KeepsOut.next | refine State.setTime_keeps _ (fun h_ => by first | exact h_ | simpa only [updAt_length] using h_ | with_unfolding_all rfl) ?_ ?_ | with_reducible apply keepsParts_intro | with_reducible exact Or.inl (by with_reducible assumption) | with_reducible exact Or.inr rfl | simp only [keeps_mk] | with_reducible refine keepsMk_of ?_ ⟨rfl, rfl⟩ (fun h_ => by first | exact h_ | simpa only [updAt_length] using h_ | with_unfolding_all rfl) ?_ ?_ | split | intro _ _ | dsimp only | intro _ _ | intro _)

theorem execLeapSecondEnd_keeps {p_ : Allow} {z : State} {s : State}  (htime_ : p_.clock = true) (h_ : Keeps p_ z s) : KeepsOut p_ z (execLeapSecondEnd s) := by
  unfold execLeapSecondEnd
  repeat' (first | with_reducible assumption | with_reducible exact Keeps.refl _ _ | with_reducible apply State.advance_keeps | with_reducible apply State.setRf_keeps | with_reducible apply KeepsRes.done | with_reducible apply KeepsRes.accepted | with_reducible apply KeepsRes.waiting | with_reducible apply KeepsOut.next | refine State.setTime_keeps _ (fun h_ => by first | exact h_ | simpa only [updAt_length] using h_ | with_unfolding_all rfl) ?_ ?_ | with_reducible apply keepsParts_intro | with_reducible exact Or.inl (by with_reducible assumption) | with_reducible exact Or.inr rfl | simp only [keeps_mk] | with_reducible refine keepsMk_of ?_ ⟨rfl, rfl⟩ (fun h_ => by first | exact h_ | simpa only [updAt_length] using h_ | with_unfolding_all rfl) ?_ ?_ | split | intro _ _ | dsimp only | intro _ _ | intro _)

theorem State.ppsEdge_keeps {p_ : Allow} {z : State} {s : State} (rising : Bool) (widthNs : Nat)  (htime_ : p_.clock = true) (h_ : Keeps p_ z s) : Keeps p_ z (State.ppsEdge s rising widthNs) := by
  unfold State.ppsEdge
  repeat' (first | with_reducible assumption | with_reducible exact Keeps.refl _ _ | with_reducible apply State.countFld_keeps | with_reducible apply State.stampEdge_keeps | with_reducible refine State.stampEdge_keeps_of (by with_reducible assumption) ?_ ?_ | refine State.setTime_keeps _ (fun h_ => by first | exact h_ | simpa only [updAt_length] using h_ | with_unfolding_all rfl) ?_ ?_ | with_reducible apply keepsParts_intro | with_reducible exact Or.inl (by with_reducible assumption) | with_reducible exact Or.inr rfl | simp only [keeps_mk] | with_reducible refine keepsMk_of ?_ ⟨rfl, rfl⟩ (fun h_ => by first | exact h_ | simpa only [updAt_length] using h_ | with_unfolding_all rfl) ?_ ?_ | with_reducible apply keeps_ite | split | intro _ _ | dsimp only | intro _ _ | intro _)

theorem execPpsInEdge_keeps {p_ : Allow} {z : State} (at_ : Instant) (rising : Bool) (widthNs : Nat) {s : State}  (htime_ : p_.clock = true) (h_ : Keeps p_ z s) : KeepsOut p_ z (execPpsInEdge at_ rising widthNs s) := by
  unfold execPpsInEdge
  repeat' (first | with_reducible assumption | with_reducible exact Keeps.refl _ _ | with_reducible apply State.advance_keeps | with_reducible apply State.ppsEdge_keeps | with_reducible apply KeepsRes.done | with_reducible apply KeepsRes.accepted | with_reducible apply KeepsRes.waiting | with_reducible apply KeepsOut.next | with_reducible apply keeps_ite | with_reducible apply keepsOut_ite | split | dsimp only | intro _ _ | intro _)

theorem State.takeSentence_keeps {p_ : Allow} {z : State} {s : State} (sc : Nat) (utc leap : Int) (tq : BitVec 8)  (htime_ : p_.clock = true) (h_ : Keeps p_ z s) : Keeps p_ z (State.takeSentence s sc utc leap tq) := by
  unfold State.takeSentence
  repeat' (first | with_reducible assumption | with_reducible exact Keeps.refl _ _ | with_reducible apply State.takeUtc_keeps | with_reducible apply State.takeLeap_keeps | refine State.setTime_keeps _ (fun h_ => by first | exact h_ | simpa only [updAt_length] using h_ | with_unfolding_all rfl) ?_ ?_ | with_reducible apply keepsParts_intro | with_reducible exact Or.inl (by with_reducible assumption) | with_reducible exact Or.inr rfl | simp only [keeps_mk] | with_reducible refine keepsMk_of ?_ ⟨rfl, rfl⟩ (fun h_ => by first | exact h_ | simpa only [updAt_length] using h_ | with_unfolding_all rfl) ?_ ?_ | with_reducible apply keeps_ite | split | intro _ _ | dsimp only | intro _ _ | intro _)

theorem execTodSentenceReceive_keeps {p_ : Allow} {z : State} (at_ : Instant) (m : TodSentence) {s : State}  (htime_ : p_.clock = true) (h_ : Keeps p_ z s) : KeepsOut p_ z (execTodSentenceReceive at_ m s) := by
  unfold execTodSentenceReceive
  repeat' (first | with_reducible assumption | with_reducible exact Keeps.refl _ _ | with_reducible apply State.advance_keeps | with_reducible apply State.takeSentence_keeps | with_reducible apply State.countFld_keeps | with_reducible apply KeepsRes.done | with_reducible apply KeepsRes.accepted | with_reducible apply KeepsRes.waiting | with_reducible apply KeepsOut.next | with_reducible apply keepsParts_intro | with_reducible exact Or.inl (by with_reducible assumption) | with_reducible exact Or.inr rfl | simp only [keeps_mk] | with_reducible refine keepsMk_of ?_ ⟨rfl, rfl⟩ (fun h_ => by first | exact h_ | simpa only [updAt_length] using h_ | with_unfolding_all rfl) ?_ ?_ | with_reducible apply keeps_ite | with_reducible apply keepsOut_ite | split | intro _ _ | dsimp only | intro _ _ | intro _)

theorem State.takeIrig_keeps {p_ : Allow} {z : State} {s : State} (f : IrigFrame)  (htime_ : p_.clock = true) (h_ : Keeps p_ z s) : Keeps p_ z (State.takeIrig s f) := by
  unfold State.takeIrig
  repeat' (first | with_reducible assumption | with_reducible exact Keeps.refl _ _ | with_reducible apply State.takeLeap_keeps | refine State.setTime_keeps _ (fun h_ => by first | exact h_ | simpa only [updAt_length] using h_ | with_unfolding_all rfl) ?_ ?_ | with_reducible apply keepsParts_intro | with_reducible exact Or.inl (by with_reducible assumption) | with_reducible exact Or.inr rfl | simp only [keeps_mk] | with_reducible refine keepsMk_of ?_ ⟨rfl, rfl⟩ (fun h_ => by first | exact h_ | simpa only [updAt_length] using h_ | with_unfolding_all rfl) ?_ ?_ | with_reducible apply keeps_ite | split | dsimp only | intro _ _ | intro _)

theorem execIrigFrameReceive_keeps {p_ : Allow} {z : State} (at_ : Instant) (f : IrigFrame) {s : State}  (htime_ : p_.clock = true) (h_ : Keeps p_ z s) : KeepsOut p_ z (execIrigFrameReceive at_ f s) := by
  unfold execIrigFrameReceive
  repeat' (first | with_reducible assumption | with_reducible exact Keeps.refl _ _ | with_reducible apply State.advance_keeps | with_reducible apply State.countFld_keeps | with_reducible apply State.takeIrig_keeps | with_reducible apply KeepsRes.done | with_reducible apply KeepsRes.accepted | with_reducible apply KeepsRes.waiting | with_reducible apply KeepsOut.next | with_reducible apply keeps_ite | with_reducible apply keepsOut_ite | split | dsimp only | intro _ _ | intro _)

theorem execPpsOutPulse_keeps {p_ : Allow} {z : State} {s : State}  (htime_ : p_.clock = true) (h_ : Keeps p_ z s) : KeepsOut p_ z (execPpsOutPulse s) := by
  unfold execPpsOutPulse
  repeat' (first | with_reducible assumption | with_reducible exact Keeps.refl _ _ | with_reducible apply State.advance_keeps | with_reducible apply KeepsRes.done | with_reducible apply KeepsRes.accepted | with_reducible apply KeepsRes.waiting | with_reducible apply KeepsOut.next | refine State.setTime_keeps _ (fun h_ => by first | exact h_ | simpa only [updAt_length] using h_ | with_unfolding_all rfl) ?_ ?_ | with_reducible apply keepsParts_intro | with_reducible exact Or.inl (by with_reducible assumption) | with_reducible exact Or.inr rfl | simp only [keeps_mk] | with_reducible refine keepsMk_of ?_ ⟨rfl, rfl⟩ (fun h_ => by first | exact h_ | simpa only [updAt_length] using h_ | with_unfolding_all rfl) ?_ ?_ | with_reducible apply keeps_ite | with_reducible apply keepsOut_ite | split | dsimp only | intro _ _ | intro _)

theorem execTodSentenceSend_keeps {p_ : Allow} {z : State} {s : State}  (htime_ : p_.clock = true) (h_ : Keeps p_ z s) : KeepsOut p_ z (execTodSentenceSend s) := by
  unfold execTodSentenceSend
  repeat' (first | with_reducible assumption | with_reducible exact Keeps.refl _ _ | with_reducible apply State.advance_keeps | with_reducible apply KeepsRes.done | with_reducible apply KeepsRes.accepted | with_reducible apply KeepsRes.waiting | with_reducible apply KeepsOut.next | refine State.setTime_keeps _ (fun h_ => by first | exact h_ | simpa only [updAt_length] using h_ | with_unfolding_all rfl) ?_ ?_ | with_reducible apply keepsParts_intro | with_reducible exact Or.inl (by with_reducible assumption) | with_reducible exact Or.inr rfl | simp only [keeps_mk] | with_reducible refine keepsMk_of ?_ ⟨rfl, rfl⟩ (fun h_ => by first | exact h_ | simpa only [updAt_length] using h_ | with_unfolding_all rfl) ?_ ?_ | with_reducible apply keeps_ite | with_reducible apply keepsOut_ite | split | intro _ _ | dsimp only | intro _ _ | intro _)

theorem State.keepIrigEdge_keeps {p_ : Allow} {z : State} {s : State} (rising : Bool) (t : Instant)  (htime_ : p_.clock = true) (h_ : Keeps p_ z s) : Keeps p_ z (State.keepIrigEdge s rising t) := by
  unfold State.keepIrigEdge
  repeat' (first | with_reducible assumption | with_reducible exact Keeps.refl _ _ | refine State.setTime_keeps _ (fun h_ => by first | exact h_ | simpa only [updAt_length] using h_ | with_unfolding_all rfl) ?_ ?_ | with_reducible apply keepsParts_intro | with_reducible exact Or.inl (by with_reducible assumption) | with_reducible exact Or.inr rfl | simp only [keeps_mk] | with_reducible refine keepsMk_of ?_ ⟨rfl, rfl⟩ (fun h_ => by first | exact h_ | simpa only [updAt_length] using h_ | with_unfolding_all rfl) ?_ ?_ | with_reducible apply keeps_ite | split | dsimp only | intro _ _ | intro _)

theorem execTdcEdgeStamp_keeps {p_ : Allow} {z : State} (at_ : Instant) (n : Fin 6) (rising : Bool) {s : State}  (hcapIn_ : p_.may .capIn = true) (hcap_ : p_.may .cap = true) (htime_ : p_.clock = true) (h_ : Keeps p_ z s) : KeepsOut p_ z (execTdcEdgeStamp at_ n rising s) := by
  unfold execTdcEdgeStamp
  repeat' (first | with_reducible assumption | with_reducible exact Keeps.refl _ _ | with_reducible apply State.advance_keeps | with_reducible apply State.trigLevel_keeps | with_reducible apply State.ppsEdge_keeps | with_reducible apply State.stampEdge_keeps | with_reducible apply State.trigEdge_keeps | with_reducible apply State.keepIrigEdge_keeps | with_reducible refine State.stampEdge_keeps_of (by with_reducible assumption) ?_ ?_ | with_reducible apply KeepsRes.done | with_reducible apply KeepsRes.accepted | with_reducible apply KeepsRes.waiting | with_reducible apply KeepsOut.next | with_reducible apply keepsParts_intro | with_reducible exact Or.inl (by with_reducible assumption) | with_reducible exact Or.inr rfl | simp only [keeps_mk] | with_reducible refine keepsMk_of ?_ ⟨rfl, rfl⟩ (fun h_ => by first | exact h_ | simpa only [updAt_length] using h_ | with_unfolding_all rfl) ?_ ?_ | with_reducible apply keeps_ite | with_reducible apply keepsOut_ite | split | intro _ _ | dsimp only | intro _ _ | intro _)

theorem State.fireCompare_keeps {p_ : Allow} {z : State} {s : State} (n : Nat) (late : Bool)  (hcapIn_ : p_.may .capIn = true) (hcap_ : p_.may .cap = true) (htime_ : p_.clock = true) (h_ : Keeps p_ z s) : Keeps p_ z (State.fireCompare s n late) := by
  unfold State.fireCompare
  repeat' (first | with_reducible assumption | with_reducible exact Keeps.refl _ _ | with_reducible apply State.setRb_keeps | with_reducible apply State.vector_keeps | with_reducible apply State.compareToCapture_keeps | with_reducible apply State.pulseCompare_keeps | with_reducible apply keepsParts_intro | with_reducible exact Or.inl (by with_reducible assumption) | with_reducible exact Or.inr rfl | simp only [keeps_mk] | with_reducible refine keepsMk_of ?_ ⟨rfl, rfl⟩ (fun h_ => by first | exact h_ | simpa only [updAt_length] using h_ | with_unfolding_all rfl) ?_ ?_ | with_reducible apply keeps_ite | split | intro _ _ | dsimp only | intro _ _ | intro _)

theorem State.armCompare_keeps {p_ : Allow} {z : State} {s : State} (n : Nat)  (hcapIn_ : p_.may .capIn = true) (hcap_ : p_.may .cap = true) (htime_ : p_.clock = true) (h_ : Keeps p_ z s) : Keeps p_ z (State.armCompare s n) := by
  unfold State.armCompare
  repeat' (first | with_reducible assumption | with_reducible exact Keeps.refl _ _ | with_reducible apply State.setRb_keeps | with_reducible apply State.fireCompare_keeps | refine State.setTime_keeps _ (fun h_ => by first | exact h_ | simpa only [updAt_length] using h_ | with_unfolding_all rfl) ?_ ?_ | with_reducible apply keepsParts_intro | with_reducible exact Or.inl (by with_reducible assumption) | with_reducible exact Or.inr rfl | simp only [keeps_mk] | with_reducible refine keepsMk_of ?_ ⟨rfl, rfl⟩ (fun h_ => by first | exact h_ | simpa only [updAt_length] using h_ | with_unfolding_all rfl) ?_ ?_ | with_reducible apply keeps_ite | split | dsimp only | intro _ _ | intro _)

theorem execCompareFire_keeps {p_ : Allow} {z : State} (n : Fin 8) {s : State}  (hcapIn_ : p_.may .capIn = true) (hcap_ : p_.may .cap = true) (htime_ : p_.clock = true) (h_ : Keeps p_ z s) : KeepsOut p_ z (execCompareFire n s) := by
  unfold execCompareFire
  repeat' (first | with_reducible assumption | with_reducible exact Keeps.refl _ _ | with_reducible apply State.advance_keeps | with_reducible apply State.fireCompare_keeps | with_reducible apply KeepsRes.done | with_reducible apply KeepsRes.accepted | with_reducible apply KeepsRes.waiting | with_reducible apply KeepsOut.next | with_reducible apply keeps_ite | with_reducible apply keepsOut_ite | split | dsimp only | intro _ _ | intro _)

theorem execTrigOutPulseEnd_keeps {p_ : Allow} {z : State} (n : Fin 8) {s : State}  (htime_ : p_.clock = true) (h_ : Keeps p_ z s) : KeepsOut p_ z (execTrigOutPulseEnd n s) := by
  unfold execTrigOutPulseEnd
  repeat' (first | with_reducible assumption | with_reducible exact Keeps.refl _ _ | with_reducible apply State.advanceUp_keeps | with_reducible apply KeepsRes.done | with_reducible apply KeepsRes.accepted | with_reducible apply KeepsRes.waiting | with_reducible apply KeepsOut.next | refine State.setTime_keeps _ (fun h_ => by first | exact h_ | simpa only [updAt_length] using h_ | with_unfolding_all rfl) ?_ ?_ | with_reducible apply keepsParts_intro | with_reducible exact Or.inl (by with_reducible assumption) | with_reducible exact Or.inr rfl | simp only [keeps_mk] | with_reducible refine keepsMk_of ?_ ⟨rfl, rfl⟩ (fun h_ => by first | exact h_ | simpa only [updAt_length] using h_ | with_unfolding_all rfl) ?_ ?_ | split | intro _ _ | dsimp only | intro _ _ | intro _)

theorem State.returning_keeps {p_ : Allow} {z : State} {r : Word × State} (hrdata_ : p_.may .rdata = true) (h_ : Keeps p_ z r.2) : Keeps p_ z (State.returning r) := by
  unfold State.returning
  simp only [keeps_mk]
  exact keepsMk_of h_ ⟨rfl, rfl⟩ id (Or.inr rfl) ⟨Or.inl hrdata_, Or.inr rfl, Or.inr rfl, Or.inr rfl, Or.inr rfl, Or.inr rfl, Or.inr rfl, Or.inr rfl, Or.inr rfl, Or.inr rfl, Or.inr rfl, Or.inr rfl, Or.inr rfl, Or.inr rfl, Or.inr rfl, Or.inr rfl, Or.inr rfl, Or.inr rfl, Or.inr rfl⟩

theorem execTimeNowLatchRead_keeps {p_ : Allow} {z : State} (at_ : Instant) {s : State}  (hrdata_ : p_.may .rdata = true) (htime_ : p_.clock = true) (h_ : Keeps p_ z s) : KeepsOut p_ z (execTimeNowLatchRead at_ s) := by
  unfold execTimeNowLatchRead
  repeat' (first | with_reducible assumption | with_reducible exact Keeps.refl _ _ | with_reducible apply State.returning_keeps | with_reducible apply State.advance_keeps | with_reducible apply State.readNow_keeps | with_reducible refine State.readNow_keeps_of (by with_reducible assumption) ?_ | with_reducible apply KeepsRes.done | with_reducible apply KeepsRes.accepted | with_reducible apply KeepsRes.waiting | with_reducible apply KeepsOut.next | dsimp only | intro _ _ | intro _)

theorem execFineTimeLatchRead_keeps {p_ : Allow} {z : State} (at_ : Instant) {s : State}  (hrdata_ : p_.may .rdata = true) (htime_ : p_.clock = true) (h_ : Keeps p_ z s) : KeepsOut p_ z (execFineTimeLatchRead at_ s) := by
  unfold execFineTimeLatchRead
  repeat' (first | with_reducible assumption | with_reducible exact Keeps.refl _ _ | with_reducible apply State.returning_keeps | with_reducible apply State.advance_keeps | with_reducible apply State.readFine_keeps | with_reducible refine State.readFine_keeps_of (by with_reducible assumption) ?_ | with_reducible apply KeepsRes.done | with_reducible apply KeepsRes.accepted | with_reducible apply KeepsRes.waiting | with_reducible apply KeepsOut.next | dsimp only | intro _ _ | intro _)

theorem execTxtsIdRead_keeps {p_ : Allow} {z : State} (at_ : Instant) (p : Fin 10) {s : State}  (hrdata_ : p_.may .rdata = true) (htime_ : p_.clock = true) (h_ : Keeps p_ z s) : KeepsOut p_ z (execTxtsIdRead at_ p s) := by
  unfold execTxtsIdRead
  repeat' (first | with_reducible assumption | with_reducible exact Keeps.refl _ _ | with_reducible apply State.returning_keeps | with_reducible apply State.advance_keeps | with_reducible apply State.readTxts_keeps | with_reducible refine State.readTxts_keeps_of (by with_reducible assumption) ?_ ?_ | with_reducible apply KeepsRes.done | with_reducible apply KeepsRes.accepted | with_reducible apply KeepsRes.waiting | with_reducible apply KeepsOut.next | dsimp only | intro _ _ | intro _)

theorem execTdcStampRead_keeps {p_ : Allow} {z : State} (at_ : Instant) (n : Fin 6) {s : State}  (hrdata_ : p_.may .rdata = true) (htime_ : p_.clock = true) (h_ : Keeps p_ z s) : KeepsOut p_ z (execTdcStampRead at_ n s) := by
  unfold execTdcStampRead
  repeat' (first | with_reducible assumption | with_reducible exact Keeps.refl _ _ | with_reducible apply State.returning_keeps | with_reducible apply State.advance_keeps | with_reducible apply State.readTdc_keeps | with_reducible refine State.readTdc_keeps_of (by with_reducible assumption) ?_ ?_ | with_reducible apply KeepsRes.done | with_reducible apply KeepsRes.accepted | with_reducible apply KeepsRes.waiting | with_reducible apply KeepsOut.next | dsimp only | intro _ _ | intro _)

theorem execCompareArm_keeps {p_ : Allow} {z : State} (at_ : Instant) (n : Fin 8) (irq : Bool) (action : Fin 4) {s : State}  (hcapIn_ : p_.may .capIn = true) (hcap_ : p_.may .cap = true) (htime_ : p_.clock = true) (h_ : Keeps p_ z s) : KeepsOut p_ z (execCompareArm at_ n irq action s) := by
  unfold execCompareArm
  repeat' (first | with_reducible assumption | with_reducible exact Keeps.refl _ _ | with_reducible apply State.advance_keeps | with_reducible apply State.setRb_keeps | with_reducible apply State.setRf_keeps | with_reducible apply State.armCompare_keeps | with_reducible apply KeepsRes.done | with_reducible apply KeepsRes.accepted | with_reducible apply KeepsRes.waiting | with_reducible apply KeepsOut.next | dsimp only | intro _ _ | intro _)

theorem bodyTimeStatus_keeps {p_ : Allow} {z : State} {s : State}  (h_ : Keeps p_ z s) : KeepsRes p_ z (bodyTimeStatus s) := by
  unfold bodyTimeStatus
  repeat' (first | with_reducible assumption | with_reducible exact Keeps.refl _ _ | with_reducible apply ok_keeps | with_reducible apply KeepsRes.done | with_reducible apply KeepsRes.accepted | with_reducible apply KeepsRes.waiting | with_reducible apply KeepsOut.next | dsimp only | intro _ _ | intro _)

theorem execTimeStatus_keeps {p_ : Allow} {z : State} (h : Hdr) {s : State}  (htime_ : p_.clock = true) (h_ : Keeps p_ z s) : KeepsOut p_ z (execTimeStatus h s) := by
  unfold execTimeStatus
  repeat' (first | with_reducible assumption | with_reducible exact Keeps.refl _ _ | with_reducible apply runCmd_keeps | with_reducible apply bodyTimeStatus_keeps | with_reducible apply KeepsRes.done | with_reducible apply KeepsRes.accepted | with_reducible apply KeepsRes.waiting | with_reducible apply KeepsOut.next | dsimp only | intro _ _ | intro _)

theorem bodyTimeProfile_keeps {p_ : Allow} {z : State} (p : TimeProfileArgs) {s : State}  (hevents_ : p_.may .events = true) (htime_ : p_.clock = true) (h_ : Keeps p_ z s) : KeepsRes p_ z (bodyTimeProfile p s) := by
  unfold bodyTimeProfile
  repeat' (first | with_reducible assumption | with_reducible exact Keeps.refl _ _ | with_reducible apply ok_keeps | with_reducible apply State.reselect_keeps | with_reducible apply KeepsRes.done | with_reducible apply KeepsRes.accepted | with_reducible apply KeepsRes.waiting | with_reducible apply KeepsOut.next | refine State.setTime_keeps _ (fun h_ => by first | exact h_ | simpa only [updAt_length] using h_ | with_unfolding_all rfl) ?_ ?_ | with_reducible apply keepsParts_intro | with_reducible exact Or.inl (by with_reducible assumption) | with_reducible exact Or.inr rfl | simp only [keeps_mk] | with_reducible refine keepsMk_of ?_ ⟨rfl, rfl⟩ (fun h_ => by first | exact h_ | simpa only [updAt_length] using h_ | with_unfolding_all rfl) ?_ ?_ | dsimp only | intro _ _ | intro _)

theorem execTimeProfile_keeps {p_ : Allow} {z : State} (h : Hdr) (p : TimeProfileArgs) {s : State}  (hevents_ : p_.may .events = true) (htime_ : p_.clock = true) (h_ : Keeps p_ z s) : KeepsOut p_ z (execTimeProfile h p s) := by
  unfold execTimeProfile
  repeat' (first | with_reducible assumption | with_reducible exact Keeps.refl _ _ | with_reducible apply runCmd_keeps | with_reducible apply bodyTimeProfile_keeps | with_reducible apply KeepsRes.done | with_reducible apply KeepsRes.accepted | with_reducible apply KeepsRes.waiting | with_reducible apply KeepsOut.next | dsimp only | intro _ _ | intro _)

theorem bodyTimeRestep_keeps {p_ : Allow} {z : State} (h : Hdr) {s : State}  (htime_ : p_.clock = true) (h_ : Keeps p_ z s) : KeepsRes p_ z (bodyTimeRestep h s) := by
  unfold bodyTimeRestep
  repeat' (first | with_reducible assumption | with_reducible exact Keeps.refl _ _ | with_reducible apply refuse_keeps | with_reducible apply KeepsRes.done | with_reducible apply KeepsRes.accepted | with_reducible apply KeepsRes.waiting | with_reducible apply KeepsOut.next | refine State.setTime_keeps _ (fun h_ => by first | exact h_ | simpa only [updAt_length] using h_ | with_unfolding_all rfl) ?_ ?_ | with_reducible apply keepsParts_intro | with_reducible exact Or.inl (by with_reducible assumption) | with_reducible exact Or.inr rfl | simp only [keeps_mk] | with_reducible refine keepsMk_of ?_ ⟨rfl, rfl⟩ (fun h_ => by first | exact h_ | simpa only [updAt_length] using h_ | with_unfolding_all rfl) ?_ ?_ | with_reducible apply keeps_ite | with_reducible apply keepsRes_ite | split | intro _ _ | dsimp only | intro _ _ | intro _)

theorem execTimeRestep_keeps {p_ : Allow} {z : State} (h : Hdr) {s : State}  (htime_ : p_.clock = true) (h_ : Keeps p_ z s) : KeepsOut p_ z (execTimeRestep h s) := by
  unfold execTimeRestep
  repeat' (first | with_reducible assumption | with_reducible exact Keeps.refl _ _ | with_reducible apply runCmd_keeps | with_reducible apply bodyTimeRestep_keeps | with_reducible apply KeepsRes.done | with_reducible apply KeepsRes.accepted | with_reducible apply KeepsRes.waiting | with_reducible apply KeepsOut.next | dsimp only | intro _ _ | intro _)

theorem bodyTimeSources_keeps {p_ : Allow} {z : State} (p : TimeSourcesArgs) {s : State}  (hevents_ : p_.may .events = true) (htime_ : p_.clock = true) (h_ : Keeps p_ z s) : KeepsRes p_ z (bodyTimeSources p s) := by
  unfold bodyTimeSources
  repeat' (first | with_reducible assumption | with_reducible exact Keeps.refl _ _ | with_reducible apply refuse_keeps | with_reducible apply State.setRf_keeps | with_reducible apply State.setRb_keeps | with_reducible apply ok_keeps | with_reducible apply State.reselect_keeps | with_reducible apply KeepsRes.done | with_reducible apply KeepsRes.accepted | with_reducible apply KeepsRes.waiting | with_reducible apply KeepsOut.next | with_reducible apply keepsParts_intro | with_reducible exact Or.inl (by with_reducible assumption) | with_reducible exact Or.inr rfl | simp only [keeps_mk] | with_reducible refine keepsMk_of ?_ ⟨rfl, rfl⟩ (fun h_ => by first | exact h_ | simpa only [updAt_length] using h_ | with_unfolding_all rfl) ?_ ?_ | with_reducible apply keeps_ite | with_reducible apply keepsRes_ite | split | intro _ _ | dsimp only | intro _ _ | intro _)

theorem execTimeSources_keeps {p_ : Allow} {z : State} (h : Hdr) (p : TimeSourcesArgs) {s : State}  (hevents_ : p_.may .events = true) (htime_ : p_.clock = true) (h_ : Keeps p_ z s) : KeepsOut p_ z (execTimeSources h p s) := by
  unfold execTimeSources
  repeat' (first | with_reducible assumption | with_reducible exact Keeps.refl _ _ | with_reducible apply runCmd_keeps | with_reducible apply bodyTimeSources_keeps | with_reducible apply KeepsRes.done | with_reducible apply KeepsRes.accepted | with_reducible apply KeepsRes.waiting | with_reducible apply KeepsOut.next | dsimp only | intro _ _ | intro _)

theorem bodyTimeOutputs_keeps {p_ : Allow} {z : State} (p : TimeOutputsArgs) {s : State}  (h_ : Keeps p_ z s) : KeepsRes p_ z (bodyTimeOutputs p s) := by
  unfold bodyTimeOutputs
  repeat' (first | with_reducible assumption | with_reducible exact Keeps.refl _ _ | with_reducible apply refuse_keeps | with_reducible apply ok_keeps | with_reducible apply State.setReg_keeps | with_reducible apply State.setRb_keeps | with_reducible apply KeepsRes.done | with_reducible apply KeepsRes.accepted | with_reducible apply KeepsRes.waiting | with_reducible apply KeepsOut.next | with_reducible apply keeps_ite | with_reducible apply keepsRes_ite | split | dsimp only | intro _ _ | intro _)

theorem execTimeOutputs_keeps {p_ : Allow} {z : State} (h : Hdr) (p : TimeOutputsArgs) {s : State}  (htime_ : p_.clock = true) (h_ : Keeps p_ z s) : KeepsOut p_ z (execTimeOutputs h p s) := by
  unfold execTimeOutputs
  repeat' (first | with_reducible assumption | with_reducible exact Keeps.refl _ _ | with_reducible apply runCmd_keeps | with_reducible apply bodyTimeOutputs_keeps | with_reducible apply KeepsRes.done | with_reducible apply KeepsRes.accepted | with_reducible apply KeepsRes.waiting | with_reducible apply KeepsOut.next | dsimp only | intro _ _ | intro _)

theorem bodyTimeServo_keeps {p_ : Allow} {z : State} (p : TimeServoArgs) {s : State}  (h_ : Keeps p_ z s) : KeepsRes p_ z (bodyTimeServo p s) := by
  unfold bodyTimeServo
  repeat' (first | with_reducible assumption | with_reducible exact Keeps.refl _ _ | with_reducible apply refuse_keeps | with_reducible apply ok_keeps | with_reducible apply State.setRf_keeps | with_reducible apply KeepsRes.done | with_reducible apply KeepsRes.accepted | with_reducible apply KeepsRes.waiting | with_reducible apply KeepsOut.next | with_reducible apply keeps_ite | with_reducible apply keepsRes_ite | split | dsimp only | intro _ _ | intro _)

theorem execTimeServo_keeps {p_ : Allow} {z : State} (h : Hdr) (p : TimeServoArgs) {s : State}  (htime_ : p_.clock = true) (h_ : Keeps p_ z s) : KeepsOut p_ z (execTimeServo h p s) := by
  unfold execTimeServo
  repeat' (first | with_reducible assumption | with_reducible exact Keeps.refl _ _ | with_reducible apply runCmd_keeps | with_reducible apply bodyTimeServo_keeps | with_reducible apply KeepsRes.done | with_reducible apply KeepsRes.accepted | with_reducible apply KeepsRes.waiting | with_reducible apply KeepsOut.next | dsimp only | intro _ _ | intro _)

theorem bodyTimeDiscontCfg_keeps {p_ : Allow} {z : State} (p : TimeDiscontArgs) {s : State}  (h_ : Keeps p_ z s) : KeepsRes p_ z (bodyTimeDiscontCfg p s) := by
  unfold bodyTimeDiscontCfg
  repeat' (first | with_reducible assumption | with_reducible exact Keeps.refl _ _ | with_reducible apply refuse_keeps | with_reducible apply ok_keeps | with_reducible apply State.setRf_keeps | with_reducible apply State.setRb_keeps | with_reducible apply KeepsRes.done | with_reducible apply KeepsRes.accepted | with_reducible apply KeepsRes.waiting | with_reducible apply KeepsOut.next | with_reducible apply keeps_ite | with_reducible apply keepsRes_ite | split | dsimp only | intro _ _ | intro _)

theorem execTimeDiscontCfg_keeps {p_ : Allow} {z : State} (h : Hdr) (p : TimeDiscontArgs) {s : State}  (htime_ : p_.clock = true) (h_ : Keeps p_ z s) : KeepsOut p_ z (execTimeDiscontCfg h p s) := by
  unfold execTimeDiscontCfg
  repeat' (first | with_reducible assumption | with_reducible exact Keeps.refl _ _ | with_reducible apply runCmd_keeps | with_reducible apply bodyTimeDiscontCfg_keeps | with_reducible apply KeepsRes.done | with_reducible apply KeepsRes.accepted | with_reducible apply KeepsRes.waiting | with_reducible apply KeepsOut.next | dsimp only | intro _ _ | intro _)

theorem bodyTimePtpDs_keeps {p_ : Allow} {z : State} (p : TimePtpDsArgs) {s : State}  (htime_ : p_.clock = true) (h_ : Keeps p_ z s) : KeepsRes p_ z (bodyTimePtpDs p s) := by
  unfold bodyTimePtpDs
  repeat' (first | with_reducible assumption | with_reducible exact Keeps.refl _ _ | with_reducible apply State.setRf_keeps | with_reducible apply ok_keeps | with_reducible apply KeepsRes.done | with_reducible apply KeepsRes.accepted | with_reducible apply KeepsRes.waiting | with_reducible apply KeepsOut.next | refine State.setTime_keeps _ (fun h_ => by first | exact h_ | simpa only [updAt_length] using h_ | with_unfolding_all rfl) ?_ ?_ | with_reducible apply keepsParts_intro | with_reducible exact Or.inl (by with_reducible assumption) | with_reducible exact Or.inr rfl | simp only [keeps_mk] | with_reducible refine keepsMk_of ?_ ⟨rfl, rfl⟩ (fun h_ => by first | exact h_ | simpa only [updAt_length] using h_ | with_unfolding_all rfl) ?_ ?_ | split | intro _ _ | dsimp only | intro _ _ | intro _)

theorem execTimePtpDs_keeps {p_ : Allow} {z : State} (h : Hdr) (p : TimePtpDsArgs) {s : State}  (htime_ : p_.clock = true) (h_ : Keeps p_ z s) : KeepsOut p_ z (execTimePtpDs h p s) := by
  unfold execTimePtpDs
  repeat' (first | with_reducible assumption | with_reducible exact Keeps.refl _ _ | with_reducible apply runCmdAs_keeps | with_reducible apply bodyTimePtpDs_keeps | with_reducible apply KeepsRes.done | with_reducible apply KeepsRes.accepted | with_reducible apply KeepsRes.waiting | with_reducible apply KeepsOut.next | split | dsimp only | intro _ _ | intro _)

/-! ### Machine/Ports.lean -/

theorem execFrameReceive_keeps {p_ : Allow} {z : State} (at_ : Instant) (p : Fin 10) (f : RxFrame) {s : State}  (hevents_ : p_.may .events = true) (hports_ : p_.may .ports = true) (hing_ : p_.may .ing = true) (htime_ : p_.clock = true) (h_ : Keeps p_ z s) : KeepsOut p_ z (execFrameReceive at_ p f s) := by
  unfold execFrameReceive
  repeat' (first | with_reducible assumption | with_reducible exact Keeps.refl _ _ | with_reducible apply State.advance_keeps | with_reducible apply State.receiveFrame_keeps | with_reducible apply KeepsRes.done | with_reducible apply KeepsRes.accepted | with_reducible apply KeepsRes.waiting | with_reducible apply KeepsOut.next | with_reducible apply keeps_ite | with_reducible apply keepsOut_ite | split | dsimp only | intro _ _ | intro _)

theorem execPauseExpiry_keeps {p_ : Allow} {z : State} (p : Fin 10) {s : State}  (hports_ : p_.may .ports = true) (htime_ : p_.clock = true) (h_ : Keeps p_ z s) : KeepsOut p_ z (execPauseExpiry p s) := by
  unfold execPauseExpiry
  repeat' (first | with_reducible assumption | with_reducible exact Keeps.refl _ _ | with_reducible apply State.advanceUp_keeps | with_reducible apply State.countPaused_keeps | with_reducible apply State.updPort_keeps | with_reducible apply KeepsRes.done | with_reducible apply KeepsRes.accepted | with_reducible apply KeepsRes.waiting | with_reducible apply KeepsOut.next | with_reducible apply keepsParts_intro | with_reducible exact Or.inl (by with_reducible assumption) | with_reducible exact Or.inr rfl | simp only [keeps_mk] | with_reducible refine keepsMk_of ?_ ⟨rfl, rfl⟩ (fun h_ => by first | exact h_ | simpa only [updAt_length] using h_ | with_unfolding_all rfl) ?_ ?_ | split | intro _ _ | dsimp only | intro _ _ | intro _)

theorem execPauseRepeat_keeps {p_ : Allow} {z : State} (p : Fin 10) {s : State}  (hports_ : p_.may .ports = true) (htime_ : p_.clock = true) (h_ : Keeps p_ z s) : KeepsOut p_ z (execPauseRepeat p s) := by
  unfold execPauseRepeat
  repeat' (first | with_reducible assumption | with_reducible exact Keeps.refl _ _ | with_reducible apply State.advanceUp_keeps | with_reducible apply State.pauseNow_keeps | with_reducible apply State.updPort_keeps | with_reducible apply KeepsRes.done | with_reducible apply KeepsRes.accepted | with_reducible apply KeepsRes.waiting | with_reducible apply KeepsOut.next | with_reducible apply keepsParts_intro | with_reducible exact Or.inl (by with_reducible assumption) | with_reducible exact Or.inr rfl | simp only [keeps_mk] | with_reducible refine keepsMk_of ?_ ⟨rfl, rfl⟩ (fun h_ => by first | exact h_ | simpa only [updAt_length] using h_ | with_unfolding_all rfl) ?_ ?_ | with_reducible apply keeps_ite | with_reducible apply keepsOut_ite | split | intro _ _ | dsimp only | intro _ _ | intro _)

theorem execPrpForgetExpiry_keeps {p_ : Allow} {z : State} (k : Fin 5) {s : State}  (hports_ : p_.may .ports = true) (htime_ : p_.clock = true) (h_ : Keeps p_ z s) : KeepsOut p_ z (execPrpForgetExpiry k s) := by
  unfold execPrpForgetExpiry
  repeat' (first | with_reducible assumption | with_reducible exact Keeps.refl _ _ | with_reducible apply State.advanceUp_keeps | with_reducible apply KeepsRes.done | with_reducible apply KeepsRes.accepted | with_reducible apply KeepsRes.waiting | with_reducible apply KeepsOut.next | with_reducible apply keepsParts_intro | with_reducible exact Or.inl (by with_reducible assumption) | with_reducible exact Or.inr rfl | simp only [keeps_mk] | with_reducible refine keepsMk_of ?_ ⟨rfl, rfl⟩ (fun h_ => by first | exact h_ | simpa only [updAt_length] using h_ | with_unfolding_all rfl) ?_ ?_ | split | intro _ _ | dsimp only | intro _ _ | intro _)

theorem execTransmitSelect_keeps {p_ : Allow} {z : State} (at_ : Instant) (p : Fin 10) {s : State}  (hevents_ : p_.may .events = true) (hports_ : p_.may .ports = true) (htime_ : p_.clock = true) (h_ : Keeps p_ z s) : KeepsOut p_ z (execTransmitSelect at_ p s) := by
  unfold execTransmitSelect
  repeat' (first | with_reducible assumption | with_reducible exact Keeps.refl _ _ | with_reducible apply State.advance_keeps | with_reducible apply State.selectTx_keeps | with_reducible apply KeepsRes.done | with_reducible apply KeepsRes.accepted | with_reducible apply KeepsRes.waiting | with_reducible apply KeepsOut.next | dsimp only | intro _ _ | intro _)

theorem execFrameTransmitComplete_keeps {p_ : Allow} {z : State} (at_ : Instant) (p : Fin 10) {s : State}  (hports_ : p_.may .ports = true) (htime_ : p_.clock = true) (h_ : Keeps p_ z s) : KeepsOut p_ z (execFrameTransmitComplete at_ p s) := by
  unfold execFrameTransmitComplete
  repeat' (first | with_reducible assumption | with_reducible exact Keeps.refl _ _ | with_reducible apply State.advance_keeps | with_reducible apply State.completeTx_keeps | with_reducible apply KeepsRes.done | with_reducible apply KeepsRes.accepted | with_reducible apply KeepsRes.waiting | with_reducible apply KeepsOut.next | dsimp only | intro _ _ | intro _)

theorem execLinkUp_keeps {p_ : Allow} {z : State} (at_ : Instant) (p : Fin 10) (c : PcsState) {s : State}  (hevents_ : p_.may .events = true) (hports_ : p_.may .ports = true) (htime_ : p_.clock = true) (h_ : Keeps p_ z s) : KeepsOut p_ z (execLinkUp at_ p c s) := by
  unfold execLinkUp
  repeat' (first | with_reducible assumption | with_reducible exact Keeps.refl _ _ | with_reducible apply State.advance_keeps | with_reducible apply State.updPort_keeps | with_reducible apply State.relink_keeps | with_reducible apply KeepsRes.done | with_reducible apply KeepsRes.accepted | with_reducible apply KeepsRes.waiting | with_reducible apply KeepsOut.next | with_reducible apply keepsParts_intro | with_reducible exact Or.inl (by with_reducible assumption) | with_reducible exact Or.inr rfl | simp only [keeps_mk] | with_reducible refine keepsMk_of ?_ ⟨rfl, rfl⟩ (fun h_ => by first | exact h_ | simpa only [updAt_length] using h_ | with_unfolding_all rfl) ?_ ?_ | with_reducible apply keeps_ite | with_reducible apply keepsOut_ite | split | dsimp only | intro _ _ | intro _)

theorem execLinkDown_keeps {p_ : Allow} {z : State} (at_ : Instant) (p : Fin 10) {s : State}  (hports_ : p_.may .ports = true) (htime_ : p_.clock = true) (h_ : Keeps p_ z s) : KeepsOut p_ z (execLinkDown at_ p s) := by
  unfold execLinkDown
  repeat' (first | with_reducible assumption | with_reducible exact Keeps.refl _ _ | with_reducible apply State.advance_keeps | with_reducible apply State.updPort_keeps | with_reducible apply State.linkDown_keeps | with_reducible apply KeepsRes.done | with_reducible apply KeepsRes.accepted | with_reducible apply KeepsRes.waiting | with_reducible apply KeepsOut.next | with_reducible apply keepsParts_intro | with_reducible exact Or.inl (by with_reducible assumption) | with_reducible exact Or.inr rfl | simp only [keeps_mk] | with_reducible refine keepsMk_of ?_ ⟨rfl, rfl⟩ (fun h_ => by first | exact h_ | simpa only [updAt_length] using h_ | with_unfolding_all rfl) ?_ ?_ | dsimp only | intro _ _ | intro _)

theorem State.takeEq_keeps {p_ : Allow} {z : State} {s : State} (p : Nat) (e : EqResult)  (h_ : Keeps p_ z s) : Keeps p_ z (State.takeEq s p e) := by
  unfold State.takeEq
  repeat' (first | with_reducible assumption | with_reducible exact Keeps.refl _ _ | with_reducible apply State.setReg_keeps | with_reducible apply keeps_ite | split | dsimp only | intro _ _ | intro _)

theorem execEqAdaptComplete_keeps {p_ : Allow} {z : State} (at_ : Instant) (p : Fin 10) (e : EqResult) {s : State}  (hevents_ : p_.may .events = true) (hports_ : p_.may .ports = true) (htime_ : p_.clock = true) (h_ : Keeps p_ z s) : KeepsOut p_ z (execEqAdaptComplete at_ p e s) := by
  unfold execEqAdaptComplete
  repeat' (first | with_reducible assumption | with_reducible exact Keeps.refl _ _ | with_reducible apply State.advance_keeps | with_reducible apply State.advanceUp_keeps | with_reducible apply State.takeEq_keeps | with_reducible apply State.updPort_keeps | with_reducible apply State.tryLink_keeps | with_reducible apply KeepsRes.done | with_reducible apply KeepsRes.accepted | with_reducible apply KeepsRes.waiting | with_reducible apply KeepsOut.next | with_reducible apply keepsParts_intro | with_reducible exact Or.inl (by with_reducible assumption) | with_reducible exact Or.inr rfl | simp only [keeps_mk] | with_reducible refine keepsMk_of ?_ ⟨rfl, rfl⟩ (fun h_ => by first | exact h_ | simpa only [updAt_length] using h_ | with_unfolding_all rfl) ?_ ?_ | with_reducible apply keeps_ite | with_reducible apply keepsOut_ite | split | intro _ _ | dsimp only | intro _ _ | intro _)

theorem State.changeMode_keeps {p_ : Allow} {z : State} {s : State} (p mode fec : Nat)  (hevents_ : p_.may .events = true) (hports_ : p_.may .ports = true) (h_ : Keeps p_ z s) : Keeps p_ z (State.changeMode s p mode fec) := by
  unfold State.changeMode
  repeat' (first | with_reducible assumption | with_reducible exact Keeps.refl _ _ | with_reducible apply State.setRf_keeps | with_reducible apply State.linkDown_keeps | with_reducible apply State.updPort_keeps | with_reducible apply State.rejudge_keeps | with_reducible apply keepsParts_intro | with_reducible exact Or.inl (by with_reducible assumption) | with_reducible exact Or.inr rfl | simp only [keeps_mk] | with_reducible refine keepsMk_of ?_ ⟨rfl, rfl⟩ (fun h_ => by first | exact h_ | simpa only [updAt_length] using h_ | with_unfolding_all rfl) ?_ ?_ | with_reducible apply keeps_ite | split | dsimp only | intro _ _ | intro _)

theorem execPortModeChange_keeps {p_ : Allow} {z : State} (at_ : Instant) (p : Fin 10) (mode : Fin 8) (fec : Fin 4) {s : State}  (hevents_ : p_.may .events = true) (hports_ : p_.may .ports = true) (htime_ : p_.clock = true) (h_ : Keeps p_ z s) : KeepsOut p_ z (execPortModeChange at_ p mode fec s) := by
  unfold execPortModeChange
  repeat' (first | with_reducible assumption | with_reducible exact Keeps.refl _ _ | with_reducible apply State.advance_keeps | with_reducible apply State.changeMode_keeps | with_reducible apply KeepsRes.done | with_reducible apply KeepsRes.accepted | with_reducible apply KeepsRes.waiting | with_reducible apply KeepsOut.next | with_reducible apply keeps_ite | with_reducible apply keepsOut_ite | split | dsimp only | intro _ _ | intro _)

theorem State.writeRxTail_keeps {p_ : Allow} {z : State} {s : State} (p r tail : Nat)  (hports_ : p_.may .ports = true) (h_ : Keeps p_ z s) : Keeps p_ z (State.writeRxTail s p r tail) := by
  unfold State.writeRxTail
  repeat' (first | with_reducible assumption | with_reducible exact Keeps.refl _ _ | with_reducible apply State.setRf_keeps | with_reducible apply State.checkPause_keeps | dsimp only | intro _ _ | intro _)

theorem execRxTailWrite_keeps {p_ : Allow} {z : State} (at_ : Instant) (p : Fin 10) (r : Fin 2) (tail : BitVec 12) {s : State}  (hports_ : p_.may .ports = true) (htime_ : p_.clock = true) (h_ : Keeps p_ z s) : KeepsOut p_ z (execRxTailWrite at_ p r tail s) := by
  unfold execRxTailWrite
  repeat' (first | with_reducible assumption | with_reducible exact Keeps.refl _ _ | with_reducible apply State.advance_keeps | with_reducible apply State.writeRxTail_keeps | with_reducible apply KeepsRes.done | with_reducible apply KeepsRes.accepted | with_reducible apply KeepsRes.waiting | with_reducible apply KeepsOut.next | dsimp only | intro _ _ | intro _)

theorem State.offerRing_keeps {p_ : Allow} {z : State} {s : State} (p : Nat) (r : Fin 2) (g : TxRun)  (hports_ : p_.may .ports = true) (h_ : Keeps p_ z s) : Keeps p_ z (State.offerRing s p r g) := by
  unfold State.offerRing
  repeat' (first | with_reducible assumption | with_reducible exact Keeps.refl _ _ | with_reducible apply State.count_keeps | with_reducible apply State.returnTx_keeps | with_reducible apply State.sendPrp_keeps | with_reducible apply State.offer_keeps | with_reducible apply keeps_ite | split | dsimp only | intro _ _ | intro _)

theorem State.writeTxTail_keeps {p_ : Allow} {z : State} {s : State} (p : Nat) (r : Fin 2) (tail : Nat) (descs : List TxDesc)  (hfree_ : p_.may .free = true) (hports_ : p_.may .ports = true) (h_ : Keeps p_ z s) : Keeps p_ z (State.writeTxTail s p r tail descs) := by
  unfold State.writeTxTail
  repeat' (first | with_reducible assumption | with_reducible exact Keeps.refl _ _ | with_reducible apply State.setRf_keeps | with_reducible apply State.nextFree_keeps | with_reducible apply State.offerRing_keeps | with_reducible apply State.updPort_keeps | with_reducible apply keeps_foldl | with_reducible apply keeps_foldl_fst | with_reducible apply keeps_foldl_snd | intro _ _ _ | with_reducible apply keepsParts_intro | with_reducible exact Or.inl (by with_reducible assumption) | with_reducible exact Or.inr rfl | simp only [keeps_mk] | with_reducible refine keepsMk_of ?_ ⟨rfl, rfl⟩ (fun h_ => by first | exact h_ | simpa only [updAt_length] using h_ | with_unfolding_all rfl) ?_ ?_ | with_reducible apply keeps_ite | split | dsimp only | intro _ _ | intro _)

theorem execTxTailWrite_keeps {p_ : Allow} {z : State} (at_ : Instant) (p : Fin 10) (r : Fin 2) (tail : BitVec 12) (descs : List TxDesc) {s : State}  (hfree_ : p_.may .free = true) (hports_ : p_.may .ports = true) (htime_ : p_.clock = true) (h_ : Keeps p_ z s) : KeepsOut p_ z (execTxTailWrite at_ p r tail descs s) := by
  unfold execTxTailWrite
  repeat' (first | with_reducible assumption | with_reducible exact Keeps.refl _ _ | with_reducible apply State.advance_keeps | with_reducible apply State.writeTxTail_keeps | with_reducible apply KeepsRes.done | with_reducible apply KeepsRes.accepted | with_reducible apply KeepsRes.waiting | with_reducible apply KeepsOut.next | dsimp only | intro _ _ | intro _)

theorem execCounter64LoRead_keeps {p_ : Allow} {z : State} (at_ : Instant) (p : Fin 10) (tx : Bool) {s : State}  (hrdata_ : p_.may .rdata = true) (hports_ : p_.may .ports = true) (htime_ : p_.clock = true) (h_ : Keeps p_ z s) : KeepsOut p_ z (execCounter64LoRead at_ p tx s) := by
  unfold execCounter64LoRead
  repeat' (first | with_reducible assumption | with_reducible exact Keeps.refl _ _ | with_reducible apply State.returning_keeps | with_reducible apply State.advance_keeps | with_reducible apply State.readCnt64_keeps | with_reducible refine State.readCnt64_keeps_of (by with_reducible assumption) ?_ ?_ | with_reducible apply KeepsRes.done | with_reducible apply KeepsRes.accepted | with_reducible apply KeepsRes.waiting | with_reducible apply KeepsOut.next | dsimp only | intro _ _ | intro _)

theorem execModAbsChange_keeps {p_ : Allow} {z : State} (at_ : Instant) (p : Fin 10) (absent : Bool) {s : State}  (hevents_ : p_.may .events = true) (hports_ : p_.may .ports = true) (htime_ : p_.clock = true) (h_ : Keeps p_ z s) : KeepsOut p_ z (execModAbsChange at_ p absent s) := by
  unfold execModAbsChange
  repeat' (first | with_reducible assumption | with_reducible exact Keeps.refl _ _ | with_reducible apply State.advance_keeps | with_reducible apply State.updPort_keeps | with_reducible apply State.freeI2c_keeps | with_reducible apply State.relink_keeps | with_reducible apply KeepsRes.done | with_reducible apply KeepsRes.accepted | with_reducible apply KeepsRes.waiting | with_reducible apply KeepsOut.next | with_reducible apply keepsParts_intro | with_reducible exact Or.inl (by with_reducible assumption) | with_reducible exact Or.inr rfl | simp only [keeps_mk] | with_reducible refine keepsMk_of ?_ ⟨rfl, rfl⟩ (fun h_ => by first | exact h_ | simpa only [updAt_length] using h_ | with_unfolding_all rfl) ?_ ?_ | with_reducible apply keeps_ite | with_reducible apply keepsOut_ite | split | dsimp only | intro _ _ | intro _)

theorem execModAbsDebounceEnd_keeps {p_ : Allow} {z : State} (p : Fin 10) {s : State}  (hevents_ : p_.may .events = true) (hports_ : p_.may .ports = true) (htime_ : p_.clock = true) (h_ : Keeps p_ z s) : KeepsOut p_ z (execModAbsDebounceEnd p s) := by
  unfold execModAbsDebounceEnd
  repeat' (first | with_reducible assumption | with_reducible exact Keeps.refl _ _ | with_reducible apply State.advanceUp_keeps | with_reducible apply State.updPort_keeps | with_reducible apply State.copyOptics_keeps | with_reducible apply State.linkDown_keeps | with_reducible apply State.relink_keeps | with_reducible apply KeepsRes.done | with_reducible apply KeepsRes.accepted | with_reducible apply KeepsRes.waiting | with_reducible apply KeepsOut.next | with_reducible apply keepsParts_intro | with_reducible exact Or.inl (by with_reducible assumption) | with_reducible exact Or.inr rfl | simp only [keeps_mk] | with_reducible refine keepsMk_of ?_ ⟨rfl, rfl⟩ (fun h_ => by first | exact h_ | simpa only [updAt_length] using h_ | with_unfolding_all rfl) ?_ ?_ | with_reducible apply keeps_ite | with_reducible apply keepsOut_ite | split | intro _ _ | dsimp only | intro _ _ | intro _)

theorem State.startRead_keeps {p_ : Allow} {z : State} {s : State} (p : Fin 10)  (hports_ : p_.may .ports = true) (h_ : Keeps p_ z s) : Keeps p_ z (State.startRead s p) := by
  unfold State.startRead
  repeat' (first | with_reducible assumption | with_reducible exact Keeps.refl _ _ | with_reducible apply State.takeI2c_keeps | with_reducible apply State.updPort_keeps | with_reducible refine State.takeI2c_keeps_of (by with_reducible assumption) ?_ ?_ | with_reducible apply keepsParts_intro | with_reducible exact Or.inl (by with_reducible assumption) | with_reducible exact Or.inr rfl | simp only [keeps_mk] | with_reducible refine keepsMk_of ?_ ⟨rfl, rfl⟩ (fun h_ => by first | exact h_ | simpa only [updAt_length] using h_ | with_unfolding_all rfl) ?_ ?_ | with_reducible apply keeps_ite | split | intro _ _ | dsimp only | intro _ _ | intro _)

theorem execOpticsReadStart_keeps {p_ : Allow} {z : State} (p : Fin 10) {s : State}  (hports_ : p_.may .ports = true) (htime_ : p_.clock = true) (h_ : Keeps p_ z s) : KeepsOut p_ z (execOpticsReadStart p s) := by
  unfold execOpticsReadStart
  repeat' (first | with_reducible assumption | with_reducible exact Keeps.refl _ _ | with_reducible apply State.advanceUp_keeps | with_reducible apply State.startRead_keeps | with_reducible apply KeepsRes.done | with_reducible apply KeepsRes.accepted | with_reducible apply KeepsRes.waiting | with_reducible apply KeepsOut.next | with_reducible apply keepsParts_intro | with_reducible exact Or.inl (by with_reducible assumption) | with_reducible exact Or.inr rfl | simp only [keeps_mk] | with_reducible refine keepsMk_of ?_ ⟨rfl, rfl⟩ (fun h_ => by first | exact h_ | simpa only [updAt_length] using h_ | with_unfolding_all rfl) ?_ ?_ | split | intro _ _ | dsimp only | intro _ _ | intro _)

theorem execOpticsReadComplete_keeps {p_ : Allow} {z : State} (at_ : Instant) (p : Fin 10) (r : OpticsRead) {s : State}  (hevents_ : p_.may .events = true) (hports_ : p_.may .ports = true) (htime_ : p_.clock = true) (h_ : Keeps p_ z s) : KeepsOut p_ z (execOpticsReadComplete at_ p r s) := by
  unfold execOpticsReadComplete
  repeat' (first | with_reducible assumption | with_reducible exact Keeps.refl _ _ | with_reducible apply State.advance_keeps | with_reducible apply State.freeI2c_keeps | with_reducible apply State.updPort_keeps | with_reducible apply State.relink_keeps | with_reducible apply State.copyOptics_keeps | with_reducible apply State.admitOptics_keeps | with_reducible apply KeepsRes.done | with_reducible apply KeepsRes.accepted | with_reducible apply KeepsRes.waiting | with_reducible apply KeepsOut.next | with_reducible apply keepsParts_intro | with_reducible exact Or.inl (by with_reducible assumption) | with_reducible exact Or.inr rfl | simp only [keeps_mk] | with_reducible refine keepsMk_of ?_ ⟨rfl, rfl⟩ (fun h_ => by first | exact h_ | simpa only [updAt_length] using h_ | with_unfolding_all rfl) ?_ ?_ | with_reducible apply keeps_ite | with_reducible apply keepsOut_ite | split | intro _ _ | dsimp only | intro _ _ | intro _)

theorem execOpticsReadRetry_keeps {p_ : Allow} {z : State} (p : Fin 10) {s : State}  (hports_ : p_.may .ports = true) (htime_ : p_.clock = true) (h_ : Keeps p_ z s) : KeepsOut p_ z (execOpticsReadRetry p s) := by
  unfold execOpticsReadRetry
  repeat' (first | with_reducible assumption | with_reducible exact Keeps.refl _ _ | with_reducible apply State.advanceUp_keeps | with_reducible apply State.startRead_keeps | with_reducible apply KeepsRes.done | with_reducible apply KeepsRes.accepted | with_reducible apply KeepsRes.waiting | with_reducible apply KeepsOut.next | with_reducible apply keepsParts_intro | with_reducible exact Or.inl (by with_reducible assumption) | with_reducible exact Or.inr rfl | simp only [keeps_mk] | with_reducible refine keepsMk_of ?_ ⟨rfl, rfl⟩ (fun h_ => by first | exact h_ | simpa only [updAt_length] using h_ | with_unfolding_all rfl) ?_ ?_ | split | intro _ _ | dsimp only | intro _ _ | intro _)

theorem bodyPortStatus_keeps {p_ : Allow} {z : State} (p : Fin 10) {s : State}  (h_ : Keeps p_ z s) : KeepsRes p_ z (bodyPortStatus p s) := by
  unfold bodyPortStatus
  repeat' (first | with_reducible assumption | with_reducible exact Keeps.refl _ _ | with_reducible apply ok_keeps | with_reducible apply KeepsRes.done | with_reducible apply KeepsRes.accepted | with_reducible apply KeepsRes.waiting | with_reducible apply KeepsOut.next | dsimp only | intro _ _ | intro _)

theorem execPortStatus_keeps {p_ : Allow} {z : State} (h : Hdr) (p : Fin 10) {s : State}  (htime_ : p_.clock = true) (h_ : Keeps p_ z s) : KeepsOut p_ z (execPortStatus h p s) := by
  unfold execPortStatus
  repeat' (first | with_reducible assumption | with_reducible exact Keeps.refl _ _ | with_reducible apply runCmd_keeps | with_reducible apply bodyPortStatus_keeps | with_reducible apply KeepsRes.done | with_reducible apply KeepsRes.accepted | with_reducible apply KeepsRes.waiting | with_reducible apply KeepsOut.next | dsimp only | intro _ _ | intro _)

theorem State.portProfile_keeps {p_ : Allow} {z : State} {s : State} (p : Nat) (a : PortProfileArgs)  (hevents_ : p_.may .events = true) (hports_ : p_.may .ports = true) (h_ : Keeps p_ z s) : Keeps p_ z (State.portProfile s p a) := by
  unfold State.portProfile
  repeat' (first | with_reducible assumption | with_reducible exact Keeps.refl _ _ | with_reducible apply State.changeMode_keeps | with_reducible apply State.setRb_keeps | with_reducible apply State.relink_keeps | dsimp only | intro _ _ | intro _)

theorem bodyPortProfile_keeps {p_ : Allow} {z : State} (a : PortProfileArgs) {s : State}  (hevents_ : p_.may .events = true) (hports_ : p_.may .ports = true) (h_ : Keeps p_ z s) : KeepsRes p_ z (bodyPortProfile a s) := by
  unfold bodyPortProfile
  repeat' (first | with_reducible assumption | with_reducible exact Keeps.refl _ _ | with_reducible apply refuse_keeps | with_reducible apply ok_keeps | with_reducible apply State.portProfile_keeps | with_reducible apply KeepsRes.done | with_reducible apply KeepsRes.accepted | with_reducible apply KeepsRes.waiting | with_reducible apply KeepsOut.next | with_reducible apply keeps_foldl | with_reducible apply keeps_foldl_fst | with_reducible apply keeps_foldl_snd | intro _ _ _ | with_reducible apply keeps_ite | with_reducible apply keepsRes_ite | split | dsimp only | intro _ _ | intro _)

theorem execPortProfile_keeps {p_ : Allow} {z : State} (h : Hdr) (a : PortProfileArgs) {s : State}  (hevents_ : p_.may .events = true) (hports_ : p_.may .ports = true) (htime_ : p_.clock = true) (h_ : Keeps p_ z s) : KeepsOut p_ z (execPortProfile h a s) := by
  unfold execPortProfile
  repeat' (first | with_reducible assumption | with_reducible exact Keeps.refl _ _ | with_reducible apply runCmd_keeps | with_reducible apply bodyPortProfile_keeps | with_reducible apply KeepsRes.done | with_reducible apply KeepsRes.accepted | with_reducible apply KeepsRes.waiting | with_reducible apply KeepsOut.next | dsimp only | intro _ _ | intro _)

theorem State.setupRing_keeps {p_ : Allow} {z : State} {s : State} (p : Nat) (g : RingSetup)  (hports_ : p_.may .ports = true) (h_ : Keeps p_ z s) : Keeps p_ z (State.setupRing s p g) := by
  unfold State.setupRing
  repeat' (first | with_reducible assumption | with_reducible exact Keeps.refl _ _ | with_reducible apply State.setReg_keeps | with_reducible apply State.updPort_keeps | with_reducible apply keepsParts_intro | with_reducible exact Or.inl (by with_reducible assumption) | with_reducible exact Or.inr rfl | simp only [keeps_mk] | with_reducible refine keepsMk_of ?_ ⟨rfl, rfl⟩ (fun h_ => by first | exact h_ | simpa only [updAt_length] using h_ | with_unfolding_all rfl) ?_ ?_ | with_reducible apply keeps_ite | split | dsimp only | intro _ _ | intro _)

theorem bodyPortRings_keeps {p_ : Allow} {z : State} (a : PortRingsArgs) {s : State}  (hports_ : p_.may .ports = true) (h_ : Keeps p_ z s) : KeepsRes p_ z (bodyPortRings a s) := by
  unfold bodyPortRings
  repeat' (first | with_reducible assumption | with_reducible exact Keeps.refl _ _ | with_reducible apply refuse_keeps | with_reducible apply State.setupRing_keeps | with_reducible apply ok_keeps | with_reducible apply State.setReg_keeps | with_reducible apply State.checkPause_keeps | with_reducible apply KeepsRes.done | with_reducible apply KeepsRes.accepted | with_reducible apply KeepsRes.waiting | with_reducible apply KeepsOut.next | with_reducible apply keeps_foldl | with_reducible apply keeps_foldl_fst | with_reducible apply keeps_foldl_snd | intro _ _ _ | with_reducible apply keeps_ite | with_reducible apply keepsRes_ite | split | dsimp only | intro _ _ | intro _)

theorem execPortRings_keeps {p_ : Allow} {z : State} (h : Hdr) (a : PortRingsArgs) {s : State}  (hports_ : p_.may .ports = true) (htime_ : p_.clock = true) (h_ : Keeps p_ z s) : KeepsOut p_ z (execPortRings h a s) := by
  unfold execPortRings
  repeat' (first | with_reducible assumption | with_reducible exact Keeps.refl _ _ | with_reducible apply runCmd_keeps | with_reducible apply bodyPortRings_keeps | with_reducible apply KeepsRes.done | with_reducible apply KeepsRes.accepted | with_reducible apply KeepsRes.waiting | with_reducible apply KeepsOut.next | dsimp only | intro _ _ | intro _)

theorem bodyPortPrp_keeps {p_ : Allow} {z : State} (a : PortPrpArgs) {s : State}  (h_ : Keeps p_ z s) : KeepsRes p_ z (bodyPortPrp a s) := by
  unfold bodyPortPrp
  repeat' (first | with_reducible assumption | with_reducible exact Keeps.refl _ _ | with_reducible apply refuse_keeps | with_reducible apply ok_keeps | with_reducible apply State.setReg_keeps | with_reducible apply KeepsRes.done | with_reducible apply KeepsRes.accepted | with_reducible apply KeepsRes.waiting | with_reducible apply KeepsOut.next | with_reducible apply keeps_ite | with_reducible apply keepsRes_ite | split | dsimp only | intro _ _ | intro _)

theorem execPortPrp_keeps {p_ : Allow} {z : State} (h : Hdr) (a : PortPrpArgs) {s : State}  (htime_ : p_.clock = true) (h_ : Keeps p_ z s) : KeepsOut p_ z (execPortPrp h a s) := by
  unfold execPortPrp
  repeat' (first | with_reducible assumption | with_reducible exact Keeps.refl _ _ | with_reducible apply runCmd_keeps | with_reducible apply bodyPortPrp_keeps | with_reducible apply KeepsRes.done | with_reducible apply KeepsRes.accepted | with_reducible apply KeepsRes.waiting | with_reducible apply KeepsOut.next | dsimp only | intro _ _ | intro _)

theorem bodyPortMacsec_keeps {p_ : Allow} {z : State} (a : PortMacsecArgs) {s : State}  (hfree_ : p_.may .free = true) (hports_ : p_.may .ports = true) (hkey_ : p_.may .key = true) (h_ : Keeps p_ z s) : KeepsRes p_ z (bodyPortMacsec a s) := by
  unfold bodyPortMacsec
  repeat' (first | with_reducible assumption | with_reducible exact Keeps.refl _ _ | with_reducible apply refuse_keeps | with_reducible apply State.updPort_keeps | with_reducible apply State.setRf_keeps | with_reducible apply State.useKeySlot_keeps | with_reducible apply State.random_keeps | with_reducible apply ok_keeps | with_reducible refine State.useKeySlot_keeps_of (by with_reducible assumption) ?_ ?_ ?_ | with_reducible refine State.random_keeps_of (by with_reducible assumption) ?_ ?_ | with_reducible apply KeepsRes.done | with_reducible apply KeepsRes.accepted | with_reducible apply KeepsRes.waiting | with_reducible apply KeepsOut.next | with_reducible apply keepsParts_intro | with_reducible exact Or.inl (by with_reducible assumption) | with_reducible exact Or.inr rfl | simp only [keeps_mk] | with_reducible refine keepsMk_of ?_ ⟨rfl, rfl⟩ (fun h_ => by first | exact h_ | simpa only [updAt_length] using h_ | with_unfolding_all rfl) ?_ ?_ | with_reducible apply keeps_ite | with_reducible apply keepsRes_ite | split | dsimp only | intro _ _ | intro _)

theorem execPortMacsec_keeps {p_ : Allow} {z : State} (h : Hdr) (a : PortMacsecArgs) {s : State}  (hfree_ : p_.may .free = true) (hports_ : p_.may .ports = true) (hkey_ : p_.may .key = true) (htime_ : p_.clock = true) (h_ : Keeps p_ z s) : KeepsOut p_ z (execPortMacsec h a s) := by
  unfold execPortMacsec
  repeat' (first | with_reducible assumption | with_reducible exact Keeps.refl _ _ | with_reducible apply runCmd_keeps | with_reducible apply bodyPortMacsec_keeps | with_reducible apply KeepsRes.done | with_reducible apply KeepsRes.accepted | with_reducible apply KeepsRes.waiting | with_reducible apply KeepsOut.next | dsimp only | intro _ _ | intro _)

theorem bodyPortOptics_keeps {p_ : Allow} {z : State} (p : Fin 10) (a2h : Option (List Byte)) {s : State}  (h_ : Keeps p_ z s) : KeepsRes p_ z (bodyPortOptics p a2h s) := by
  unfold bodyPortOptics
  repeat' (first | with_reducible assumption | with_reducible exact Keeps.refl _ _ | with_reducible apply ok_keeps | with_reducible apply KeepsRes.done | with_reducible apply KeepsRes.accepted | with_reducible apply KeepsRes.waiting | with_reducible apply KeepsOut.next | with_reducible apply keepsParts_intro | with_reducible exact Or.inl (by with_reducible assumption) | with_reducible exact Or.inr rfl | simp only [keeps_mk] | with_reducible refine keepsMk_of ?_ ⟨rfl, rfl⟩ (fun h_ => by first | exact h_ | simpa only [updAt_length] using h_ | with_unfolding_all rfl) ?_ ?_ | split | intro _ _ | dsimp only | intro _ _ | intro _)

theorem execPortOptics_keeps {p_ : Allow} {z : State} (h : Hdr) (p : Fin 10) (a2h : Option (List Byte)) {s : State}  (htime_ : p_.clock = true) (h_ : Keeps p_ z s) : KeepsOut p_ z (execPortOptics h p a2h s) := by
  unfold execPortOptics
  repeat' (first | with_reducible assumption | with_reducible exact Keeps.refl _ _ | with_reducible apply runCmd_keeps | with_reducible apply bodyPortOptics_keeps | with_reducible apply KeepsRes.done | with_reducible apply KeepsRes.accepted | with_reducible apply KeepsRes.waiting | with_reducible apply KeepsOut.next | dsimp only | intro _ _ | intro _)

theorem bodyPortEq_keeps {p_ : Allow} {z : State} (a : PortEqArgs) {s : State}  (h_ : Keeps p_ z s) : KeepsRes p_ z (bodyPortEq a s) := by
  unfold bodyPortEq
  repeat' (first | with_reducible assumption | with_reducible exact Keeps.refl _ _ | with_reducible apply ok_keeps | with_reducible apply State.setReg_keeps | with_reducible apply KeepsRes.done | with_reducible apply KeepsRes.accepted | with_reducible apply KeepsRes.waiting | with_reducible apply KeepsOut.next | split | dsimp only | intro _ _ | intro _)

theorem execPortEq_keeps {p_ : Allow} {z : State} (h : Hdr) (a : PortEqArgs) {s : State}  (htime_ : p_.clock = true) (h_ : Keeps p_ z s) : KeepsOut p_ z (execPortEq h a s) := by
  unfold execPortEq
  repeat' (first | with_reducible assumption | with_reducible exact Keeps.refl _ _ | with_reducible apply runCmd_keeps | with_reducible apply bodyPortEq_keeps | with_reducible apply KeepsRes.done | with_reducible apply KeepsRes.accepted | with_reducible apply KeepsRes.waiting | with_reducible apply KeepsOut.next | dsimp only | intro _ _ | intro _)

theorem bodyPortMacRaw_keeps {p_ : Allow} {z : State} (a : PortMacRawArgs) {s : State}  (hports_ : p_.may .ports = true) (h_ : Keeps p_ z s) : KeepsRes p_ z (bodyPortMacRaw a s) := by
  unfold bodyPortMacRaw
  repeat' (first | with_reducible assumption | with_reducible exact Keeps.refl _ _ | with_reducible apply refuse_keeps | with_reducible apply State.setRf_keeps | with_reducible apply State.setReg_keeps | with_reducible apply State.setRb_keeps | with_reducible apply ok_keeps | with_reducible apply State.updPort_keeps | with_reducible apply State.checkPause_keeps | with_reducible apply KeepsRes.done | with_reducible apply KeepsRes.accepted | with_reducible apply KeepsRes.waiting | with_reducible apply KeepsOut.next | with_reducible apply keepsParts_intro | with_reducible exact Or.inl (by with_reducible assumption) | with_reducible exact Or.inr rfl | simp only [keeps_mk] | with_reducible refine keepsMk_of ?_ ⟨rfl, rfl⟩ (fun h_ => by first | exact h_ | simpa only [updAt_length] using h_ | with_unfolding_all rfl) ?_ ?_ | with_reducible apply keeps_ite | with_reducible apply keepsRes_ite | split | dsimp only | intro _ _ | intro _)

theorem execPortMacRaw_keeps {p_ : Allow} {z : State} (h : Hdr) (a : PortMacRawArgs) {s : State}  (hports_ : p_.may .ports = true) (htime_ : p_.clock = true) (h_ : Keeps p_ z s) : KeepsOut p_ z (execPortMacRaw h a s) := by
  unfold execPortMacRaw
  repeat' (first | with_reducible assumption | with_reducible exact Keeps.refl _ _ | with_reducible apply runCmd_keeps | with_reducible apply bodyPortMacRaw_keeps | with_reducible apply KeepsRes.done | with_reducible apply KeepsRes.accepted | with_reducible apply KeepsRes.waiting | with_reducible apply KeepsOut.next | dsimp only | intro _ _ | intro _)

theorem bodyPortOptOverride_keeps {p_ : Allow} {z : State} (p : Fin 10) (on : Bool) {s : State}  (hevents_ : p_.may .events = true) (hports_ : p_.may .ports = true) (h_ : Keeps p_ z s) : KeepsRes p_ z (bodyPortOptOverride p on s) := by
  unfold bodyPortOptOverride
  repeat' (first | with_reducible assumption | with_reducible exact Keeps.refl _ _ | with_reducible apply ok_keeps | with_reducible apply State.setRb_keeps | with_reducible apply State.rejudge_keeps | with_reducible apply KeepsRes.done | with_reducible apply KeepsRes.accepted | with_reducible apply KeepsRes.waiting | with_reducible apply KeepsOut.next | dsimp only | intro _ _ | intro _)

theorem execPortOptOverride_keeps {p_ : Allow} {z : State} (h : Hdr) (p : Fin 10) (on : Bool) {s : State}  (hevents_ : p_.may .events = true) (hports_ : p_.may .ports = true) (htime_ : p_.clock = true) (h_ : Keeps p_ z s) : KeepsOut p_ z (execPortOptOverride h p on s) := by
  unfold execPortOptOverride
  repeat' (first | with_reducible assumption | with_reducible exact Keeps.refl _ _ | with_reducible apply runCmd_keeps | with_reducible apply bodyPortOptOverride_keeps | with_reducible apply KeepsRes.done | with_reducible apply KeepsRes.accepted | with_reducible apply KeepsRes.waiting | with_reducible apply KeepsOut.next | dsimp only | intro _ _ | intro _)

theorem bodyWakePattern_keeps {p_ : Allow} {z : State} (a : WakePatternArgs) {s : State}  (h_ : Keeps p_ z s) : KeepsRes p_ z (bodyWakePattern a s) := by
  unfold bodyWakePattern
  repeat' (first | with_reducible assumption | with_reducible exact Keeps.refl _ _ | with_reducible apply refuse_keeps | with_reducible apply State.setReg_keeps | with_reducible apply ok_keeps | with_reducible apply KeepsRes.done | with_reducible apply KeepsRes.accepted | with_reducible apply KeepsRes.waiting | with_reducible apply KeepsOut.next | with_reducible apply keeps_foldl | with_reducible apply keeps_foldl_fst | with_reducible apply keeps_foldl_snd | intro _ _ _ | with_reducible apply keeps_ite | with_reducible apply keepsRes_ite | split | dsimp only | intro _ _ | intro _)

theorem execWakePattern_keeps {p_ : Allow} {z : State} (h : Hdr) (a : WakePatternArgs) {s : State}  (htime_ : p_.clock = true) (h_ : Keeps p_ z s) : KeepsOut p_ z (execWakePattern h a s) := by
  unfold execWakePattern
  repeat' (first | with_reducible assumption | with_reducible exact Keeps.refl _ _ | with_reducible apply runCmd_keeps | with_reducible apply bodyWakePattern_keeps | with_reducible apply KeepsRes.done | with_reducible apply KeepsRes.accepted | with_reducible apply KeepsRes.waiting | with_reducible apply KeepsOut.next | dsimp only | intro _ _ | intro _)

theorem bodyWakePatternRaw_keeps {p_ : Allow} {z : State} (a : WakePatternRawArgs) {s : State}  (h_ : Keeps p_ z s) : KeepsRes p_ z (bodyWakePatternRaw a s) := by
  unfold bodyWakePatternRaw
  repeat' (first | with_reducible assumption | with_reducible exact Keeps.refl _ _ | with_reducible apply State.setReg_keeps | with_reducible apply ok_keeps | with_reducible apply KeepsRes.done | with_reducible apply KeepsRes.accepted | with_reducible apply KeepsRes.waiting | with_reducible apply KeepsOut.next | with_reducible apply keeps_foldl | with_reducible apply keeps_foldl_fst | with_reducible apply keeps_foldl_snd | intro _ _ _ | dsimp only | intro _ _ | intro _)

theorem execWakePatternRaw_keeps {p_ : Allow} {z : State} (h : Hdr) (a : WakePatternRawArgs) {s : State}  (htime_ : p_.clock = true) (h_ : Keeps p_ z s) : KeepsOut p_ z (execWakePatternRaw h a s) := by
  unfold execWakePatternRaw
  repeat' (first | with_reducible assumption | with_reducible exact Keeps.refl _ _ | with_reducible apply runCmd_keeps | with_reducible apply bodyWakePatternRaw_keeps | with_reducible apply KeepsRes.done | with_reducible apply KeepsRes.accepted | with_reducible apply KeepsRes.waiting | with_reducible apply KeepsOut.next | dsimp only | intro _ _ | intro _)

/-! ### Machine/Ptp.lean -/

theorem State.decidePtp_keeps {p_ : Allow} {z : State} {s : State}  (htime_ : p_.clock = true) (h_ : Keeps p_ z s) : Keeps p_ z (State.decidePtp s) := by
  unfold State.decidePtp
  repeat' (first | with_reducible assumption | with_reducible exact Keeps.refl _ _ | with_reducible apply State.updPtp_keeps | with_reducible apply keeps_foldl | with_reducible apply keeps_foldl_fst | with_reducible apply keeps_foldl_snd | intro _ _ _ | with_reducible apply keepsParts_intro | with_reducible exact Or.inl (by with_reducible assumption) | with_reducible exact Or.inr rfl | simp only [keeps_mk] | with_reducible refine keepsMk_of ?_ ⟨rfl, rfl⟩ (fun h_ => by first | exact h_ | simpa only [updAt_length] using h_ | with_unfolding_all rfl) ?_ ?_ | with_reducible apply keeps_ite | split | dsimp only | intro _ _ | intro _)

theorem State.sendPtp_keeps {p_ : Allow} {z : State} {s : State} (p : Nat) (seq : BitVec 16) (b : PtpBody)  (hports_ : p_.may .ports = true) (h_ : Keeps p_ z s) : Keeps p_ z (State.sendPtp s p seq b) := by
  unfold State.sendPtp
  repeat' (first | with_reducible assumption | with_reducible exact Keeps.refl _ _ | with_reducible apply State.offer_keeps | dsimp only | intro _ _ | intro _)

theorem State.takeAnnounce_keeps {p_ : Allow} {z : State} {s : State} (p : Nat) (a : Announce)  (htime_ : p_.clock = true) (h_ : Keeps p_ z s) : Keeps p_ z (State.takeAnnounce s p a) := by
  unfold State.takeAnnounce
  repeat' (first | with_reducible assumption | with_reducible exact Keeps.refl _ _ | with_reducible apply State.updPtp_keeps | with_reducible apply State.decidePtp_keeps | with_reducible apply State.takeUtc_keeps | with_reducible apply State.takeLeap_keeps | with_reducible apply keepsParts_intro | with_reducible exact Or.inl (by with_reducible assumption) | with_reducible exact Or.inr rfl | simp only [keeps_mk] | with_reducible refine keepsMk_of ?_ ⟨rfl, rfl⟩ (fun h_ => by first | exact h_ | simpa only [updAt_length] using h_ | with_unfolding_all rfl) ?_ ?_ | with_reducible apply keeps_ite | split | intro _ _ | dsimp only | intro _ _ | intro _)

theorem State.ptpHandle_keeps {p_ : Allow} {z : State} {s : State} (p : Nat) (m : PtpMsg) (ts : Instant)  (hports_ : p_.may .ports = true) (htime_ : p_.clock = true) (h_ : Keeps p_ z s) : Keeps p_ z (State.ptpHandle s p m ts) := by
  unfold State.ptpHandle
  repeat' (first | with_reducible assumption | with_reducible exact Keeps.refl _ _ | with_reducible apply State.takeAnnounce_keeps | with_reducible apply State.updPtp_keeps | with_reducible apply State.sendPtp_keeps | with_reducible apply keepsParts_intro | with_reducible exact Or.inl (by with_reducible assumption) | with_reducible exact Or.inr rfl | simp only [keeps_mk] | with_reducible refine keepsMk_of ?_ ⟨rfl, rfl⟩ (fun h_ => by first | exact h_ | simpa only [updAt_length] using h_ | with_unfolding_all rfl) ?_ ?_ | with_reducible apply keeps_ite | split | intro _ _ | dsimp only | intro _ _ | intro _)

theorem execPtpMessageReceive_keeps {p_ : Allow} {z : State} (at_ : Instant) {s : State}  (hports_ : p_.may .ports = true) (htime_ : p_.clock = true) (h_ : Keeps p_ z s) : KeepsOut p_ z (execPtpMessageReceive at_ s) := by
  unfold execPtpMessageReceive
  repeat' (first | with_reducible assumption | with_reducible exact Keeps.refl _ _ | with_reducible apply State.advance_keeps | with_reducible apply State.ptpHandle_keeps | with_reducible apply KeepsRes.done | with_reducible apply KeepsRes.accepted | with_reducible apply KeepsRes.waiting | with_reducible apply KeepsOut.next | with_reducible apply keepsParts_intro | with_reducible exact Or.inl (by with_reducible assumption) | with_reducible exact Or.inr rfl | simp only [keeps_mk] | with_reducible refine keepsMk_of ?_ ⟨rfl, rfl⟩ (fun h_ => by first | exact h_ | simpa only [updAt_length] using h_ | with_unfolding_all rfl) ?_ ?_ | with_reducible apply keeps_ite | with_reducible apply keepsOut_ite | split | intro _ _ | dsimp only | intro _ _ | intro _)

theorem execAnnounceReceiptTimeout_keeps {p_ : Allow} {z : State} (p : Fin 10) {s : State}  (hevents_ : p_.may .events = true) (htime_ : p_.clock = true) (h_ : Keeps p_ z s) : KeepsOut p_ z (execAnnounceReceiptTimeout p s) := by
  unfold execAnnounceReceiptTimeout
  repeat' (first | with_reducible assumption | with_reducible exact Keeps.refl _ _ | with_reducible apply State.advanceUp_keeps | with_reducible apply State.updPtp_keeps | with_reducible apply State.decidePtp_keeps | with_reducible apply State.unqualify_keeps | with_reducible apply KeepsRes.done | with_reducible apply KeepsRes.accepted | with_reducible apply KeepsRes.waiting | with_reducible apply KeepsOut.next | with_reducible apply keepsParts_intro | with_reducible exact Or.inl (by with_reducible assumption) | with_reducible exact Or.inr rfl | simp only [keeps_mk] | with_reducible refine keepsMk_of ?_ ⟨rfl, rfl⟩ (fun h_ => by first | exact h_ | simpa only [updAt_length] using h_ | with_unfolding_all rfl) ?_ ?_ | with_reducible apply keeps_ite | with_reducible apply keepsOut_ite | split | intro _ _ | dsimp only | intro _ _ | intro _)

theorem State.sendNext_keeps {p_ : Allow} {z : State} {s : State} (p : Nat) (b : PtpBody)  (hports_ : p_.may .ports = true) (htime_ : p_.clock = true) (h_ : Keeps p_ z s) : Keeps p_ z (State.sendNext s p b) := by
  unfold State.sendNext
  repeat' (first | with_reducible assumption | with_reducible exact Keeps.refl _ _ | with_reducible apply State.sendPtp_keeps | with_reducible apply State.updPtp_keeps | with_reducible apply keepsParts_intro | with_reducible exact Or.inl (by with_reducible assumption) | with_reducible exact Or.inr rfl | simp only [keeps_mk] | with_reducible refine keepsMk_of ?_ ⟨rfl, rfl⟩ (fun h_ => by first | exact h_ | simpa only [updAt_length] using h_ | with_unfolding_all rfl) ?_ ?_ | dsimp only | intro _ _ | intro _)

theorem State.ptpSend_keeps {p_ : Allow} {z : State} {s : State} (p : Nat) (ann sync delay : Bool)  (hports_ : p_.may .ports = true) (htime_ : p_.clock = true) (h_ : Keeps p_ z s) : Keeps p_ z (State.ptpSend s p ann sync delay) := by
  unfold State.ptpSend
  repeat' (first | with_reducible assumption | with_reducible exact Keeps.refl _ _ | with_reducible apply State.sendNext_keeps | with_reducible apply keeps_ite | split | dsimp only | intro _ _ | intro _)

theorem execPtpMessageInterval_keeps {p_ : Allow} {z : State} (p : Fin 10) {s : State}  (hports_ : p_.may .ports = true) (htime_ : p_.clock = true) (h_ : Keeps p_ z s) : KeepsOut p_ z (execPtpMessageInterval p s) := by
  unfold execPtpMessageInterval
  repeat' (first | with_reducible assumption | with_reducible exact Keeps.refl _ _ | with_reducible apply State.advanceUp_keeps | with_reducible apply State.updPtp_keeps | with_reducible apply State.ptpSend_keeps | with_reducible apply KeepsRes.done | with_reducible apply KeepsRes.accepted | with_reducible apply KeepsRes.waiting | with_reducible apply KeepsOut.next | with_reducible apply keepsParts_intro | with_reducible exact Or.inl (by with_reducible assumption) | with_reducible exact Or.inr rfl | simp only [keeps_mk] | with_reducible refine keepsMk_of ?_ ⟨rfl, rfl⟩ (fun h_ => by first | exact h_ | simpa only [updAt_length] using h_ | with_unfolding_all rfl) ?_ ?_ | with_reducible apply keeps_ite | with_reducible apply keepsOut_ite | split | intro _ _ | dsimp only | intro _ _ | intro _)

/-! ### Machine/Ingress.lean -/

theorem State.ingCount_keeps {p_ : Allow} {z : State} {s : State} (i n : Nat)  (h_ : Keeps p_ z s) : Keeps p_ z (State.ingCount s i n) := by
  unfold State.ingCount
  repeat' (first | with_reducible assumption | with_reducible exact Keeps.refl _ _ | with_reducible apply State.count_keeps | dsimp only | intro _ _ | intro _)

theorem State.ingDrop_keeps {p_ : Allow} {z : State} {s : State} (port counter : Nat)  (hevents_ : p_.may .events = true) (h_ : Keeps p_ z s) : Keeps p_ z (State.ingDrop s port counter) := by
  unfold State.ingDrop
  repeat' (first | with_reducible assumption | with_reducible exact Keeps.refl _ _ | with_reducible apply State.ingCount_keeps | with_reducible apply State.raise_keeps | dsimp only | intro _ _ | intro _)

theorem State.setStates_keeps {p_ : Allow} {z : State} {s : State} (e st : Nat)  (hing_ : p_.may .ing = true) (h_ : Keeps p_ z s) : Keeps p_ z (State.setStates s e st) := by
  unfold State.setStates
  repeat' (first | with_reducible assumption | with_reducible exact Keeps.refl _ _ | with_reducible apply State.setSw_keeps | with_reducible apply keeps_foldl | with_reducible apply keeps_foldl_fst | with_reducible apply keeps_foldl_snd | intro _ _ _ | dsimp only | intro _ _ | intro _)

theorem State.suspend_keeps {p_ : Allow} {z : State} {s : State} (e cause : Nat)  (hevents_ : p_.may .events = true) (hing_ : p_.may .ing = true) (h_ : Keeps p_ z s) : Keeps p_ z (State.suspend s e cause) := by
  unfold State.suspend
  repeat' (first | with_reducible assumption | with_reducible exact Keeps.refl _ _ | with_reducible apply State.setStates_keeps | with_reducible apply State.setFw_keeps | with_reducible apply State.status_keeps | with_reducible apply State.raise_keeps | with_reducible apply keepsParts_intro | with_reducible exact Or.inl (by with_reducible assumption) | with_reducible exact Or.inr rfl | simp only [keeps_mk] | with_reducible refine keepsMk_of ?_ ⟨rfl, rfl⟩ (fun h_ => by first | exact h_ | simpa only [updAt_length] using h_ | with_unfolding_all rfl) ?_ ?_ | dsimp only | intro _ _ | intro _)

theorem State.startFetch_keeps {p_ : Allow} {z : State} {s : State} (e tries : Nat) (size : Option Nat)  (hing_ : p_.may .ing = true) (h_ : Keeps p_ z s) : Keeps p_ z (State.startFetch s e tries size) := by
  unfold State.startFetch
  repeat' (first | with_reducible assumption | with_reducible exact Keeps.refl _ _ | with_reducible apply State.setFw_keeps | with_reducible apply State.setIng_keeps | with_reducible apply keepsParts_intro | with_reducible exact Or.inl (by with_reducible assumption) | with_reducible exact Or.inr rfl | simp only [keeps_mk] | with_reducible refine keepsMk_of ?_ ⟨rfl, rfl⟩ (fun h_ => by first | exact h_ | simpa only [updAt_length] using h_ | with_unfolding_all rfl) ?_ ?_ | with_reducible apply keeps_ite | split | dsimp only | intro _ _ | intro _)

theorem State.writeCfgBlock_keeps {p_ : Allow} {z : State} {s : State} (j i : Nat) (c : CfgFrame) (b : CfgBlock)  (hing_ : p_.may .ing = true) (h_ : Keeps p_ z s) : Keeps p_ z (State.writeCfgBlock s j i c b) := by
  unfold State.writeCfgBlock
  repeat' (first | with_reducible assumption | with_reducible exact Keeps.refl _ _ | with_reducible apply State.setSw_keeps | with_reducible apply State.setIng_keeps | with_reducible apply keeps_foldl | with_reducible apply keeps_foldl_fst | with_reducible apply keeps_foldl_snd | intro _ _ _ | with_reducible apply keepsParts_intro | with_reducible exact Or.inl (by with_reducible assumption) | with_reducible exact Or.inr rfl | simp only [keeps_mk] | with_reducible refine keepsMk_of ?_ ⟨rfl, rfl⟩ (fun h_ => by first | exact h_ | simpa only [updAt_length] using h_ | with_unfolding_all rfl) ?_ ?_ | split | intro _ _ | dsimp only | intro _ _ | intro _)

theorem State.writeCfg_keeps {p_ : Allow} {z : State} {s : State} (e : Nat) (c : CfgFrame)  (hing_ : p_.may .ing = true) (h_ : Keeps p_ z s) : Keeps p_ z (State.writeCfg s e c) := by
  unfold State.writeCfg
  repeat' (first | with_reducible assumption | with_reducible exact Keeps.refl _ _ | with_reducible apply State.writeCfgBlock_keeps | with_reducible apply State.setStates_keeps | with_reducible apply State.setFw_keeps | with_reducible apply State.setIng_keeps | with_reducible apply keeps_foldl | with_reducible apply keeps_foldl_fst | with_reducible apply keeps_foldl_snd | intro _ _ _ | with_reducible apply keepsParts_intro | with_reducible exact Or.inl (by with_reducible assumption) | with_reducible exact Or.inr rfl | simp only [keeps_mk] | with_reducible refine keepsMk_of ?_ ⟨rfl, rfl⟩ (fun h_ => by first | exact h_ | simpa only [updAt_length] using h_ | with_unfolding_all rfl) ?_ ?_ | with_reducible apply keeps_ite | split | dsimp only | intro _ _ | intro _)

theorem State.holdCfg_keeps {p_ : Allow} {z : State} {s : State} (e : Nat) (c : CfgFrame)  (hing_ : p_.may .ing = true) (h_ : Keeps p_ z s) : Keeps p_ z (State.holdCfg s e c) := by
  unfold State.holdCfg
  repeat' (first | with_reducible assumption | with_reducible exact Keeps.refl _ _ | with_reducible apply State.setFw_keeps | with_reducible apply keepsParts_intro | with_reducible exact Or.inl (by with_reducible assumption) | with_reducible exact Or.inr rfl | simp only [keeps_mk] | with_reducible refine keepsMk_of ?_ ⟨rfl, rfl⟩ (fun h_ => by first | exact h_ | simpa only [updAt_length] using h_ | with_unfolding_all rfl) ?_ ?_ | dsimp only | intro _ _ | intro _)

theorem State.fetchFailed_keeps {p_ : Allow} {z : State} {s : State} (e : Nat)  (hevents_ : p_.may .events = true) (hing_ : p_.may .ing = true) (h_ : Keeps p_ z s) : Keeps p_ z (State.fetchFailed s e) := by
  unfold State.fetchFailed
  repeat' (first | with_reducible assumption | with_reducible exact Keeps.refl _ _ | with_reducible apply State.suspend_keeps | with_reducible apply State.startFetch_keeps | with_reducible apply keepsParts_intro | with_reducible exact Or.inl (by with_reducible assumption) | with_reducible exact Or.inr rfl | simp only [keeps_mk] | with_reducible refine keepsMk_of ?_ ⟨rfl, rfl⟩ (fun h_ => by first | exact h_ | simpa only [updAt_length] using h_ | with_unfolding_all rfl) ?_ ?_ | with_reducible apply keeps_ite | split | intro _ _ | dsimp only | intro _ _ | intro _)

theorem State.takeCfg_keeps {p_ : Allow} {z : State} {s0 : State} (e : Nat) (c : CfgFrame)  (hevents_ : p_.may .events = true) (hing_ : p_.may .ing = true) (h_ : Keeps p_ z s0) : Keeps p_ z (State.takeCfg s0 e c) := by
  unfold State.takeCfg
  repeat' (first | with_reducible assumption | with_reducible exact Keeps.refl _ _ | with_reducible apply State.fetchFailed_keeps | with_reducible apply State.writeCfg_keeps | with_reducible apply State.suspend_keeps | with_reducible apply State.setFw_keeps | with_reducible apply State.holdCfg_keeps | with_reducible apply State.status_keeps | with_reducible apply State.raise_keeps | with_reducible apply keepsParts_intro | with_reducible exact Or.inl (by with_reducible assumption) | with_reducible exact Or.inr rfl | simp only [keeps_mk] | with_reducible refine keepsMk_of ?_ ⟨rfl, rfl⟩ (fun h_ => by first | exact h_ | simpa only [updAt_length] using h_ | with_unfolding_all rfl) ?_ ?_ | with_reducible apply keeps_ite | split | intro _ _ | dsimp only | intro _ _ | intro _)

theorem State.takeBlock_keeps {p_ : Allow} {z : State} {s : State} (j : Nat) (b : List Byte) (t : Instant) (f : BufFrame) (tqBad : Bool)  (hing_ : p_.may .ing = true) (h_ : Keeps p_ z s) : Keeps p_ z (State.takeBlock s j b t f tqBad) := by
  unfold State.takeBlock
  repeat' (first | with_reducible assumption | with_reducible exact Keeps.refl _ _ | with_reducible apply State.ingCount_keeps | with_reducible apply State.setIng_keeps | with_reducible apply keepsParts_intro | with_reducible exact Or.inl (by with_reducible assumption) | with_reducible exact Or.inr rfl | simp only [keeps_mk] | with_reducible refine keepsMk_of ?_ ⟨rfl, rfl⟩ (fun h_ => by first | exact h_ | simpa only [updAt_length] using h_ | with_unfolding_all rfl) ?_ ?_ | with_reducible apply keeps_ite | split | dsimp only | intro _ _ | intro _)

theorem State.remember_keeps {p_ : Allow} {z : State} {s : State} (e n : Nat) (t : Instant)  (hing_ : p_.may .ing = true) (h_ : Keeps p_ z s) : Keeps p_ z (State.remember s e n t) := by
  unfold State.remember
  repeat' (first | with_reducible assumption | with_reducible exact Keeps.refl _ _ | with_reducible apply State.setIng_keeps | with_reducible apply keepsParts_intro | with_reducible exact Or.inl (by with_reducible assumption) | with_reducible exact Or.inr rfl | simp only [keeps_mk] | with_reducible refine keepsMk_of ?_ ⟨rfl, rfl⟩ (fun h_ => by first | exact h_ | simpa only [updAt_length] using h_ | with_unfolding_all rfl) ?_ ?_ | dsimp only | intro _ _ | intro _)

theorem State.listUnknown_keeps {p_ : Allow} {z : State} {s : State} (k : StreamKey) (port : Nat)  (hing_ : p_.may .ing = true) (h_ : Keeps p_ z s) : Keeps p_ z (State.listUnknown s k port) := by
  unfold State.listUnknown
  repeat' (first | with_reducible assumption | with_reducible exact Keeps.refl _ _ | with_reducible apply State.setIng_keeps | with_reducible apply State.count_keeps | with_reducible apply State.status_keeps | with_reducible apply keepsParts_intro | with_reducible exact Or.inl (by with_reducible assumption) | with_reducible exact Or.inr rfl | simp only [keeps_mk] | with_reducible refine keepsMk_of ?_ ⟨rfl, rfl⟩ (fun h_ => by first | exact h_ | simpa only [updAt_length] using h_ | with_unfolding_all rfl) ?_ ?_ | split | intro _ _ | dsimp only | intro _ _ | intro _)

theorem State.unknownFrame_keeps {p_ : Allow} {z : State} {s : State} (port : Nat) (k : StreamKey) (f : BufFrame)  (hevents_ : p_.may .events = true) (hports_ : p_.may .ports = true) (hing_ : p_.may .ing = true) (h_ : Keeps p_ z s) : Keeps p_ z (State.unknownFrame s port k f) := by
  unfold State.unknownFrame
  repeat' (first | with_reducible assumption | with_reducible exact Keeps.refl _ _ | with_reducible apply State.ingDrop_keeps | with_reducible apply State.listUnknown_keeps | with_reducible apply State.setIng_keeps | with_reducible apply State.toRing_keeps | with_reducible apply keepsParts_intro | with_reducible exact Or.inl (by with_reducible assumption) | with_reducible exact Or.inr rfl | simp only [keeps_mk] | with_reducible refine keepsMk_of ?_ ⟨rfl, rfl⟩ (fun h_ => by first | exact h_ | simpa only [updAt_length] using h_ | with_unfolding_all rfl) ?_ ?_ | with_reducible apply keeps_ite | split | dsimp only | intro _ _ | intro _)

theorem State.sizeMismatch_keeps {p_ : Allow} {z : State} {s : State} (e size : Nat)  (hing_ : p_.may .ing = true) (h_ : Keeps p_ z s) : Keeps p_ z (State.sizeMismatch s e size) := by
  unfold State.sizeMismatch
  repeat' (first | with_reducible assumption | with_reducible exact Keeps.refl _ _ | with_reducible apply State.setStates_keeps | with_reducible apply State.setFw_keeps | with_reducible apply State.startFetch_keeps | with_reducible apply keepsParts_intro | with_reducible exact Or.inl (by with_reducible assumption) | with_reducible exact Or.inr rfl | simp only [keeps_mk] | with_reducible refine keepsMk_of ?_ ⟨rfl, rfl⟩ (fun h_ => by first | exact h_ | simpa only [updAt_length] using h_ | with_unfolding_all rfl) ?_ ?_ | with_reducible apply keeps_ite | split | dsimp only | intro _ _ | intro _)

theorem State.noteBit10_keeps {p_ : Allow} {z : State} {s : State} (e : Nat) (on : Bool)  (hing_ : p_.may .ing = true) (h_ : Keeps p_ z s) : Keeps p_ z (State.noteBit10 s e on) := by
  unfold State.noteBit10
  repeat' (first | with_reducible assumption | with_reducible exact Keeps.refl _ _ | with_reducible apply State.setFw_keeps | with_reducible apply State.startFetch_keeps | with_reducible apply keepsParts_intro | with_reducible exact Or.inl (by with_reducible assumption) | with_reducible exact Or.inr rfl | simp only [keeps_mk] | with_reducible refine keepsMk_of ?_ ⟨rfl, rfl⟩ (fun h_ => by first | exact h_ | simpa only [updAt_length] using h_ | with_unfolding_all rfl) ?_ ?_ | with_reducible apply keeps_ite | split | dsimp only | intro _ _ | intro _)

theorem State.parseC37_keeps {p_ : Allow} {z : State} {s : State} (port : Nat) (f : BufFrame) (c : C37Frame)  (hevents_ : p_.may .events = true) (hports_ : p_.may .ports = true) (hing_ : p_.may .ing = true) (h_ : Keeps p_ z s) : Keeps p_ z (State.parseC37 s port f c) := by
  unfold State.parseC37
  repeat' (first | with_reducible assumption | with_reducible exact Keeps.refl _ _ | with_reducible apply State.unknownFrame_keeps | with_reducible apply State.ingDrop_keeps | with_reducible apply State.sizeMismatch_keeps | with_reducible apply State.ingCount_keeps | with_reducible apply State.remember_keeps | with_reducible apply State.takeBlock_keeps | with_reducible apply State.noteBit10_keeps | with_reducible apply keeps_foldl | with_reducible apply keeps_foldl_fst | with_reducible apply keeps_foldl_snd | intro _ _ _ | with_reducible apply keepsParts_intro | with_reducible exact Or.inl (by with_reducible assumption) | with_reducible exact Or.inr rfl | simp only [keeps_mk] | with_reducible refine keepsMk_of ?_ ⟨rfl, rfl⟩ (fun h_ => by first | exact h_ | simpa only [updAt_length] using h_ | with_unfolding_all rfl) ?_ ?_ | with_reducible apply keeps_ite | split | intro _ _ | dsimp only | intro _ _ | intro _)

theorem State.takeAsdu_keeps {p_ : Allow} {z : State} {s : State} (e : Nat) (f : BufFrame) (a : Asdu)  (hing_ : p_.may .ing = true) (h_ : Keeps p_ z s) : Keeps p_ z (State.takeAsdu s e f a) := by
  unfold State.takeAsdu
  repeat' (first | with_reducible assumption | with_reducible exact Keeps.refl _ _ | with_reducible apply State.ingCount_keeps | with_reducible apply State.setIng_keeps | with_reducible apply State.status_keeps | with_reducible apply State.remember_keeps | with_reducible apply keepsParts_intro | with_reducible exact Or.inl (by with_reducible assumption) | with_reducible exact Or.inr rfl | simp only [keeps_mk] | with_reducible refine keepsMk_of ?_ ⟨rfl, rfl⟩ (fun h_ => by first | exact h_ | simpa only [updAt_length] using h_ | with_unfolding_all rfl) ?_ ?_ | with_reducible apply keeps_ite | split | dsimp only | intro _ _ | intro _)

theorem State.svAuth_keeps {p_ : Allow} {z : State} {s : State} (e : Nat) (v : SvFrame)  (hfree_ : p_.may .free = true) (hkey_ : p_.may .key = true) (h_ : Keeps p_ z s) : Keeps p_ z (State.svAuth s e v).2 := by
  unfold State.svAuth
  repeat' (first | with_reducible assumption | with_reducible exact Keeps.refl _ _ | with_reducible apply State.useKeySlot_keeps | with_reducible refine State.useKeySlot_keeps_of (by with_reducible assumption) ?_ ?_ ?_ | with_reducible apply keepsParts_intro | with_reducible exact Or.inl (by with_reducible assumption) | with_reducible exact Or.inr rfl | simp only [keeps_mk] | with_reducible refine keepsMk_of ?_ ⟨rfl, rfl⟩ (fun h_ => by first | exact h_ | simpa only [updAt_length] using h_ | with_unfolding_all rfl) ?_ ?_ | with_reducible apply keeps_ite | split | intro _ _ | dsimp only | intro _ _ | intro _)
theorem State.svAuth_keeps_of {p_ : Allow} {z : State} {s : State} {e : Nat} {v : SvFrame} {a_ : _} {t_ : State} (e_ : State.svAuth s e v = (a_, t_)) (hfree_ : p_.may .free = true) (hkey_ : p_.may .key = true) (h_ : Keeps p_ z s) : Keeps p_ z t_ := by
  have k_ := State.svAuth_keeps (z := z) e v hfree_ hkey_ h_
  rw [e_] at k_; exact k_

theorem State.parseSv_keeps {p_ : Allow} {z : State} {s : State} (port : Nat) (f : BufFrame) (v : SvFrame)  (hfree_ : p_.may .free = true) (hevents_ : p_.may .events = true) (hports_ : p_.may .ports = true) (hing_ : p_.may .ing = true) (hkey_ : p_.may .key = true) (h_ : Keeps p_ z s) : Keeps p_ z (State.parseSv s port f v) := by
  unfold State.parseSv
  repeat' (first | with_reducible assumption | with_reducible exact Keeps.refl _ _ | with_reducible apply State.complete_keeps | with_reducible apply State.ingDrop_keeps | with_reducible apply State.unknownFrame_keeps | with_reducible apply State.svAuth_keeps | with_reducible apply State.takeAsdu_keeps | with_reducible apply State.ingCount_keeps | with_reducible refine State.svAuth_keeps_of (by with_reducible assumption) ?_ ?_ ?_ | with_reducible apply keeps_foldl | with_reducible apply keeps_foldl_fst | with_reducible apply keeps_foldl_snd | intro _ _ _ | with_reducible apply keepsParts_intro | with_reducible exact Or.inl (by with_reducible assumption) | with_reducible exact Or.inr rfl | simp only [keeps_mk] | with_reducible refine keepsMk_of ?_ ⟨rfl, rfl⟩ (fun h_ => by first | exact h_ | simpa only [updAt_length] using h_ | with_unfolding_all rfl) ?_ ?_ | with_reducible apply keeps_ite | split | intro _ _ | dsimp only | intro _ _ | intro _)

theorem State.parseChecked_keeps {p_ : Allow} {z : State} {s : State} (port : Nat) (f : BufFrame)  (hfree_ : p_.may .free = true) (hevents_ : p_.may .events = true) (hports_ : p_.may .ports = true) (hing_ : p_.may .ing = true) (hkey_ : p_.may .key = true) (h_ : Keeps p_ z s) : Keeps p_ z (State.parseChecked s port f) := by
  unfold State.parseChecked
  repeat' (first | with_reducible assumption | with_reducible exact Keeps.refl _ _ | with_reducible apply State.parseC37_keeps | with_reducible apply State.parseSv_keeps | with_reducible apply keepsParts_intro | with_reducible exact Or.inl (by with_reducible assumption) | with_reducible exact Or.inr rfl | simp only [keeps_mk] | with_reducible refine keepsMk_of ?_ ⟨rfl, rfl⟩ (fun h_ => by first | exact h_ | simpa only [updAt_length] using h_ | with_unfolding_all rfl) ?_ ?_ | split | intro _ _ | dsimp only | intro _ _ | intro _)

theorem State.markFrame_keeps {p_ : Allow} {z : State} {s : State} (port : Nat) (f : BufFrame)  (hfree_ : p_.may .free = true) (hing_ : p_.may .ing = true) (h_ : Keeps p_ z s) : Keeps p_ z (State.markFrame s port f) := by
  unfold State.markFrame
  repeat' (first | with_reducible assumption | with_reducible exact Keeps.refl _ _ | with_reducible apply State.parseChecked_keeps | with_reducible apply State.setIng_keeps | with_reducible apply keepsParts_intro | with_reducible exact Or.inl (by with_reducible assumption) | with_reducible exact Or.inr rfl | simp only [keeps_mk] | with_reducible refine keepsMk_of ?_ ⟨rfl, rfl⟩ (fun h_ => by first | exact h_ | simpa only [updAt_length] using h_ | with_unfolding_all rfl) ?_ ?_ | dsimp only | intro _ _ | intro _)

theorem State.parseFrame_keeps {p_ : Allow} {z : State} {s : State} (port : Nat) (f : BufFrame)  (hfree_ : p_.may .free = true) (hevents_ : p_.may .events = true) (hports_ : p_.may .ports = true) (hing_ : p_.may .ing = true) (hflt_ : p_.may .flt = true) (hkey_ : p_.may .key = true) (h_ : Keeps p_ z s) : Keeps p_ z (State.parseFrame s port f) := by
  unfold State.parseFrame
  repeat' (first | with_reducible assumption | with_reducible exact Keeps.refl _ _ | with_reducible apply State.parseChecked_keeps | with_reducible apply State.ingDrop_keeps | with_reducible apply State.detected_keeps | with_reducible apply State.occasion_keeps | with_reducible apply State.markFrame_keeps | with_reducible apply State.ingCount_keeps | with_reducible apply State.raiseInjected_keeps | with_reducible refine State.occasion_keeps_of (by with_reducible assumption) ?_ ?_ | with_reducible apply keepsParts_intro | with_reducible exact Or.inl (by with_reducible assumption) | with_reducible exact Or.inr rfl | simp only [keeps_mk] | with_reducible refine keepsMk_of ?_ ⟨rfl, rfl⟩ (fun h_ => by first | exact h_ | simpa only [updAt_length] using h_ | with_unfolding_all rfl) ?_ ?_ | split | intro _ _ | dsimp only | intro _ _ | intro _)

theorem execParseFrame_keeps {p_ : Allow} {z : State} (at_ : Instant) {s : State}  (hfree_ : p_.may .free = true) (hevents_ : p_.may .events = true) (hports_ : p_.may .ports = true) (hing_ : p_.may .ing = true) (hflt_ : p_.may .flt = true) (hkey_ : p_.may .key = true) (htime_ : p_.clock = true) (h_ : Keeps p_ z s) : KeepsOut p_ z (execParseFrame at_ s) := by
  unfold execParseFrame
  repeat' (first | with_reducible assumption | with_reducible exact Keeps.refl _ _ | with_reducible apply State.advance_keeps | with_reducible apply State.setIng_keeps | with_reducible apply State.takePoison_keeps | with_reducible apply State.parseFrame_keeps | with_reducible apply State.markFrame_keeps | with_reducible apply State.count_keeps | with_reducible apply State.status_keeps | with_reducible apply State.raise_keeps | with_reducible refine State.takePoison_keeps_of (by with_reducible assumption) ?_ | with_reducible apply KeepsRes.done | with_reducible apply KeepsRes.accepted | with_reducible apply KeepsRes.waiting | with_reducible apply KeepsOut.next | with_reducible apply keepsParts_intro | with_reducible exact Or.inl (by with_reducible assumption) | with_reducible exact Or.inr rfl | simp only [keeps_mk] | with_reducible refine keepsMk_of ?_ ⟨rfl, rfl⟩ (fun h_ => by first | exact h_ | simpa only [updAt_length] using h_ | with_unfolding_all rfl) ?_ ?_ | with_reducible apply keeps_ite | with_reducible apply keepsOut_ite | split | intro _ _ | dsimp only | intro _ _ | intro _)

theorem execHeldConfigApply_keeps {p_ : Allow} {z : State} (at_ : Instant) (e : Fin 16384) {s : State}  (hevents_ : p_.may .events = true) (hing_ : p_.may .ing = true) (htime_ : p_.clock = true) (h_ : Keeps p_ z s) : KeepsOut p_ z (execHeldConfigApply at_ e s) := by
  unfold execHeldConfigApply
  repeat' (first | with_reducible assumption | with_reducible exact Keeps.refl _ _ | with_reducible apply State.advance_keeps | with_reducible apply State.advanceUp_keeps | with_reducible apply State.writeCfg_keeps | with_reducible apply State.suspend_keeps | with_reducible apply KeepsRes.done | with_reducible apply KeepsRes.accepted | with_reducible apply KeepsRes.waiting | with_reducible apply KeepsOut.next | with_reducible apply keepsParts_intro | with_reducible exact Or.inl (by with_reducible assumption) | with_reducible exact Or.inr rfl | simp only [keeps_mk] | with_reducible refine keepsMk_of ?_ ⟨rfl, rfl⟩ (fun h_ => by first | exact h_ | simpa only [updAt_length] using h_ | with_unfolding_all rfl) ?_ ?_ | with_reducible apply keeps_ite | with_reducible apply keepsOut_ite | split | intro _ _ | dsimp only | intro _ _ | intro _)

theorem execConfigFrameReceive_keeps {p_ : Allow} {z : State} (at_ : Instant) (c : CfgFrame) {s : State}  (hevents_ : p_.may .events = true) (hing_ : p_.may .ing = true) (htime_ : p_.clock = true) (h_ : Keeps p_ z s) : KeepsOut p_ z (execConfigFrameReceive at_ c s) := by
  unfold execConfigFrameReceive
  repeat' (first | with_reducible assumption | with_reducible exact Keeps.refl _ _ | with_reducible apply State.advance_keeps | with_reducible apply State.takeCfg_keeps | with_reducible apply KeepsRes.done | with_reducible apply KeepsRes.accepted | with_reducible apply KeepsRes.waiting | with_reducible apply KeepsOut.next | with_reducible apply keepsParts_intro | with_reducible exact Or.inl (by with_reducible assumption) | with_reducible exact Or.inr rfl | simp only [keeps_mk] | with_reducible refine keepsMk_of ?_ ⟨rfl, rfl⟩ (fun h_ => by first | exact h_ | simpa only [updAt_length] using h_ | with_unfolding_all rfl) ?_ ?_ | with_reducible apply keeps_ite | with_reducible apply keepsOut_ite | split | intro _ _ | dsimp only | intro _ _ | intro _)

theorem execCfgPollTimer_keeps {p_ : Allow} {z : State} (e : Fin 16384) {s : State}  (hing_ : p_.may .ing = true) (htime_ : p_.clock = true) (h_ : Keeps p_ z s) : KeepsOut p_ z (execCfgPollTimer e s) := by
  unfold execCfgPollTimer
  repeat' (first | with_reducible assumption | with_reducible exact Keeps.refl _ _ | with_reducible apply State.advanceUp_keeps | with_reducible apply State.setFw_keeps | with_reducible apply State.startFetch_keeps | with_reducible apply KeepsRes.done | with_reducible apply KeepsRes.accepted | with_reducible apply KeepsRes.waiting | with_reducible apply KeepsOut.next | with_reducible apply keepsParts_intro | with_reducible exact Or.inl (by with_reducible assumption) | with_reducible exact Or.inr rfl | simp only [keeps_mk] | with_reducible refine keepsMk_of ?_ ⟨rfl, rfl⟩ (fun h_ => by first | exact h_ | simpa only [updAt_length] using h_ | with_unfolding_all rfl) ?_ ?_ | with_reducible apply keeps_ite | with_reducible apply keepsOut_ite | split | intro _ _ | dsimp only | intro _ _ | intro _)

theorem execCfgFetchTimeout_keeps {p_ : Allow} {z : State} (e : Fin 16384) {s : State}  (hevents_ : p_.may .events = true) (hing_ : p_.may .ing = true) (htime_ : p_.clock = true) (h_ : Keeps p_ z s) : KeepsOut p_ z (execCfgFetchTimeout e s) := by
  unfold execCfgFetchTimeout
  repeat' (first | with_reducible assumption | with_reducible exact Keeps.refl _ _ | with_reducible apply State.advanceUp_keeps | with_reducible apply State.fetchFailed_keeps | with_reducible apply State.setFw_keeps | with_reducible apply KeepsRes.done | with_reducible apply KeepsRes.accepted | with_reducible apply KeepsRes.waiting | with_reducible apply KeepsOut.next | with_reducible apply keepsParts_intro | with_reducible exact Or.inl (by with_reducible assumption) | with_reducible exact Or.inr rfl | simp only [keeps_mk] | with_reducible refine keepsMk_of ?_ ⟨rfl, rfl⟩ (fun h_ => by first | exact h_ | simpa only [updAt_length] using h_ | with_unfolding_all rfl) ?_ ?_ | with_reducible apply keeps_ite | with_reducible apply keepsOut_ite | split | intro _ _ | dsimp only | intro _ _ | intro _)

theorem State.ingTblRead_keeps {p_ : Allow} {z : State} {s : State}  (h_ : Keeps p_ z s) : Keeps p_ z (State.ingTblRead s) := by
  unfold State.ingTblRead
  repeat' (first | with_reducible assumption | with_reducible exact Keeps.refl _ _ | with_reducible apply State.setReg_keeps | with_reducible apply State.setRf_keeps | with_reducible apply keeps_foldl | with_reducible apply keeps_foldl_fst | with_reducible apply keeps_foldl_snd | intro _ _ _ | dsimp only | intro _ _ | intro _)

theorem State.writeEntry_keeps {p_ : Allow} {z : State} {s : State} (e : Nat) (ws : List Word)  (hing_ : p_.may .ing = true) (hpec_ : p_.may .pec = true) (h_ : Keeps p_ z s) : Keeps p_ z (State.writeEntry s e ws) := by
  unfold State.writeEntry
  repeat' (first | with_reducible assumption | with_reducible exact Keeps.refl _ _ | with_reducible apply State.setEntry_keeps | with_reducible apply State.setIng_keeps | with_reducible apply State.pecSettle_keeps | with_reducible apply State.setFw_keeps | with_reducible apply State.startFetch_keeps | with_reducible apply keepsParts_intro | with_reducible exact Or.inl (by with_reducible assumption) | with_reducible exact Or.inr rfl | simp only [keeps_mk] | with_reducible refine keepsMk_of ?_ ⟨rfl, rfl⟩ (fun h_ => by first | exact h_ | simpa only [updAt_length] using h_ | with_unfolding_all rfl) ?_ ?_ | with_reducible apply keeps_ite | split | dsimp only | intro _ _ | intro _)

theorem State.ingTblWrite_keeps {p_ : Allow} {z : State} {s : State}  (hing_ : p_.may .ing = true) (hpec_ : p_.may .pec = true) (h_ : Keeps p_ z s) : Keeps p_ z (State.ingTblWrite s) := by
  unfold State.ingTblWrite
  repeat' (first | with_reducible assumption | with_reducible exact Keeps.refl _ _ | with_reducible apply State.setRf_keeps | with_reducible apply State.writeEntry_keeps | with_reducible apply keeps_ite | split | dsimp only | intro _ _ | intro _)

theorem execIngTblRead_keeps {p_ : Allow} {z : State} (at_ : Instant) {s : State}  (htime_ : p_.clock = true) (h_ : Keeps p_ z s) : KeepsOut p_ z (execIngTblRead at_ s) := by
  unfold execIngTblRead
  repeat' (first | with_reducible assumption | with_reducible exact Keeps.refl _ _ | with_reducible apply State.advance_keeps | with_reducible apply State.ingTblRead_keeps | with_reducible apply KeepsRes.done | with_reducible apply KeepsRes.accepted | with_reducible apply KeepsRes.waiting | with_reducible apply KeepsOut.next | dsimp only | intro _ _ | intro _)

theorem execIngTblWrite_keeps {p_ : Allow} {z : State} (at_ : Instant) {s : State}  (hing_ : p_.may .ing = true) (hpec_ : p_.may .pec = true) (htime_ : p_.clock = true) (h_ : Keeps p_ z s) : KeepsOut p_ z (execIngTblWrite at_ s) := by
  unfold execIngTblWrite
  repeat' (first | with_reducible assumption | with_reducible exact Keeps.refl _ _ | with_reducible apply State.advance_keeps | with_reducible apply State.ingTblWrite_keeps | with_reducible apply KeepsRes.done | with_reducible apply KeepsRes.accepted | with_reducible apply KeepsRes.waiting | with_reducible apply KeepsOut.next | dsimp only | intro _ _ | intro _)

theorem bodyIngStatus_keeps {p_ : Allow} {z : State} {s : State}  (h_ : Keeps p_ z s) : KeepsRes p_ z (bodyIngStatus s) := by
  unfold bodyIngStatus
  repeat' (first | with_reducible assumption | with_reducible exact Keeps.refl _ _ | with_reducible apply ok_keeps | with_reducible apply KeepsRes.done | with_reducible apply KeepsRes.accepted | with_reducible apply KeepsRes.waiting | with_reducible apply KeepsOut.next | dsimp only | intro _ _ | intro _)

theorem execIngStatus_keeps {p_ : Allow} {z : State} (h : Hdr) {s : State}  (htime_ : p_.clock = true) (h_ : Keeps p_ z s) : KeepsOut p_ z (execIngStatus h s) := by
  unfold execIngStatus
  repeat' (first | with_reducible assumption | with_reducible exact Keeps.refl _ _ | with_reducible apply runCmd_keeps | with_reducible apply bodyIngStatus_keeps | with_reducible apply KeepsRes.done | with_reducible apply KeepsRes.accepted | with_reducible apply KeepsRes.waiting | with_reducible apply KeepsOut.next | dsimp only | intro _ _ | intro _)

theorem bodyIngStreamAdd_keeps {p_ : Allow} {z : State} (a : StreamAddArgs) {s : State}  (hing_ : p_.may .ing = true) (h_ : Keeps p_ z s) : KeepsRes p_ z (bodyIngStreamAdd a s) := by
  unfold bodyIngStreamAdd
  repeat' (first | with_reducible assumption | with_reducible exact Keeps.refl _ _ | with_reducible apply refuse_keeps | with_reducible apply State.setEntry_keeps | with_reducible apply State.setFw_keeps | with_reducible apply State.startFetch_keeps | with_reducible apply ok_keeps | with_reducible apply KeepsRes.done | with_reducible apply KeepsRes.accepted | with_reducible apply KeepsRes.waiting | with_reducible apply KeepsOut.next | with_reducible apply keeps_foldl | with_reducible apply keeps_foldl_fst | with_reducible apply keeps_foldl_snd | intro _ _ _ | with_reducible apply keepsParts_intro | with_reducible exact Or.inl (by with_reducible assumption) | with_reducible exact Or.inr rfl | simp only [keeps_mk] | with_reducible refine keepsMk_of ?_ ⟨rfl, rfl⟩ (fun h_ => by first | exact h_ | simpa only [updAt_length] using h_ | with_unfolding_all rfl) ?_ ?_ | with_reducible apply keeps_ite | with_reducible apply keepsRes_ite | split | intro _ _ | dsimp only | intro _ _ | intro _)

theorem execIngStreamAdd_keeps {p_ : Allow} {z : State} (h : Hdr) (a : StreamAddArgs) {s : State}  (hing_ : p_.may .ing = true) (htime_ : p_.clock = true) (h_ : Keeps p_ z s) : KeepsOut p_ z (execIngStreamAdd h a s) := by
  unfold execIngStreamAdd
  repeat' (first | with_reducible assumption | with_reducible exact Keeps.refl _ _ | with_reducible apply runCmd_keeps | with_reducible apply bodyIngStreamAdd_keeps | with_reducible apply KeepsRes.done | with_reducible apply KeepsRes.accepted | with_reducible apply KeepsRes.waiting | with_reducible apply KeepsOut.next | dsimp only | intro _ _ | intro _)

theorem State.freeStream_keeps {p_ : Allow} {z : State} {s : State} (e : Nat)  (hing_ : p_.may .ing = true) (hpec_ : p_.may .pec = true) (h_ : Keeps p_ z s) : Keeps p_ z (State.freeStream s e) := by
  unfold State.freeStream
  repeat' (first | with_reducible assumption | with_reducible exact Keeps.refl _ _ | with_reducible apply State.setEntry_keeps | with_reducible apply State.setIng_keeps | with_reducible apply State.pecSettle_keeps | with_reducible apply keeps_foldl | with_reducible apply keeps_foldl_fst | with_reducible apply keeps_foldl_snd | intro _ _ _ | with_reducible apply keepsParts_intro | with_reducible exact Or.inl (by with_reducible assumption) | with_reducible exact Or.inr rfl | simp only [keeps_mk] | with_reducible refine keepsMk_of ?_ ⟨rfl, rfl⟩ (fun h_ => by first | exact h_ | simpa only [updAt_length] using h_ | with_unfolding_all rfl) ?_ ?_ | dsimp only | intro _ _ | intro _)

theorem bodyIngStreamRemove_keeps {p_ : Allow} {z : State} (r : StreamRef) {s : State}  (hing_ : p_.may .ing = true) (hpec_ : p_.may .pec = true) (h_ : Keeps p_ z s) : KeepsRes p_ z (bodyIngStreamRemove r s) := by
  unfold bodyIngStreamRemove
  repeat' (first | with_reducible assumption | with_reducible exact Keeps.refl _ _ | with_reducible apply ok_keeps | with_reducible apply State.freeStream_keeps | with_reducible apply refuse_keeps | with_reducible apply KeepsRes.done | with_reducible apply KeepsRes.accepted | with_reducible apply KeepsRes.waiting | with_reducible apply KeepsOut.next | with_reducible apply keepsParts_intro | with_reducible exact Or.inl (by with_reducible assumption) | with_reducible exact Or.inr rfl | simp only [keeps_mk] | with_reducible refine keepsMk_of ?_ ⟨rfl, rfl⟩ (fun h_ => by first | exact h_ | simpa only [updAt_length] using h_ | with_unfolding_all rfl) ?_ ?_ | split | intro _ _ | dsimp only | intro _ _ | intro _)

theorem execIngStreamRemove_keeps {p_ : Allow} {z : State} (h : Hdr) (r : StreamRef) {s : State}  (hing_ : p_.may .ing = true) (hpec_ : p_.may .pec = true) (htime_ : p_.clock = true) (h_ : Keeps p_ z s) : KeepsOut p_ z (execIngStreamRemove h r s) := by
  unfold execIngStreamRemove
  repeat' (first | with_reducible assumption | with_reducible exact Keeps.refl _ _ | with_reducible apply runCmd_keeps | with_reducible apply bodyIngStreamRemove_keeps | with_reducible apply KeepsRes.done | with_reducible apply KeepsRes.accepted | with_reducible apply KeepsRes.waiting | with_reducible apply KeepsOut.next | dsimp only | intro _ _ | intro _)

theorem bodyIngStreamList_keeps {p_ : Allow} {z : State} {s : State}  (h_ : Keeps p_ z s) : KeepsRes p_ z (bodyIngStreamList s) := by
  unfold bodyIngStreamList
  repeat' (first | with_reducible assumption | with_reducible exact Keeps.refl _ _ | with_reducible apply ok_keeps | with_reducible apply KeepsRes.done | with_reducible apply KeepsRes.accepted | with_reducible apply KeepsRes.waiting | with_reducible apply KeepsOut.next | dsimp only | intro _ _ | intro _)

theorem execIngStreamList_keeps {p_ : Allow} {z : State} (h : Hdr) {s : State}  (htime_ : p_.clock = true) (h_ : Keeps p_ z s) : KeepsOut p_ z (execIngStreamList h s) := by
  unfold execIngStreamList
  repeat' (first | with_reducible assumption | with_reducible exact Keeps.refl _ _ | with_reducible apply runCmd_keeps | with_reducible apply bodyIngStreamList_keeps | with_reducible apply KeepsRes.done | with_reducible apply KeepsRes.accepted | with_reducible apply KeepsRes.waiting | with_reducible apply KeepsOut.next | dsimp only | intro _ _ | intro _)

theorem bodyIngUnknown_keeps {p_ : Allow} {z : State} {s : State}  (h_ : Keeps p_ z s) : KeepsRes p_ z (bodyIngUnknown s) := by
  unfold bodyIngUnknown
  repeat' (first | with_reducible assumption | with_reducible exact Keeps.refl _ _ | with_reducible apply ok_keeps | with_reducible apply State.count_keeps | with_reducible apply KeepsRes.done | with_reducible apply KeepsRes.accepted | with_reducible apply KeepsRes.waiting | with_reducible apply KeepsOut.next | dsimp only | intro _ _ | intro _)

theorem execIngUnknown_keeps {p_ : Allow} {z : State} (h : Hdr) {s : State}  (htime_ : p_.clock = true) (h_ : Keeps p_ z s) : KeepsOut p_ z (execIngUnknown h s) := by
  unfold execIngUnknown
  repeat' (first | with_reducible assumption | with_reducible exact Keeps.refl _ _ | with_reducible apply runCmd_keeps | with_reducible apply bodyIngUnknown_keeps | with_reducible apply KeepsRes.done | with_reducible apply KeepsRes.accepted | with_reducible apply KeepsRes.waiting | with_reducible apply KeepsOut.next | dsimp only | intro _ _ | intro _)

theorem bodyIngCfgFetch_keeps {p_ : Allow} {z : State} (r : StreamRef) {s : State}  (hing_ : p_.may .ing = true) (h_ : Keeps p_ z s) : KeepsRes p_ z (bodyIngCfgFetch r s) := by
  unfold bodyIngCfgFetch
  repeat' (first | with_reducible assumption | with_reducible exact Keeps.refl _ _ | with_reducible apply ok_keeps | with_reducible apply State.startFetch_keeps | with_reducible apply refuse_keeps | with_reducible apply KeepsRes.done | with_reducible apply KeepsRes.accepted | with_reducible apply KeepsRes.waiting | with_reducible apply KeepsOut.next | with_reducible apply keepsParts_intro | with_reducible exact Or.inl (by with_reducible assumption) | with_reducible exact Or.inr rfl | simp only [keeps_mk] | with_reducible refine keepsMk_of ?_ ⟨rfl, rfl⟩ (fun h_ => by first | exact h_ | simpa only [updAt_length] using h_ | with_unfolding_all rfl) ?_ ?_ | with_reducible apply keeps_ite | with_reducible apply keepsRes_ite | split | intro _ _ | dsimp only | intro _ _ | intro _)

theorem execIngCfgFetch_keeps {p_ : Allow} {z : State} (h : Hdr) (r : StreamRef) {s : State}  (hing_ : p_.may .ing = true) (htime_ : p_.clock = true) (h_ : Keeps p_ z s) : KeepsOut p_ z (execIngCfgFetch h r s) := by
  unfold execIngCfgFetch
  repeat' (first | with_reducible assumption | with_reducible exact Keeps.refl _ _ | with_reducible apply runCmd_keeps | with_reducible apply bodyIngCfgFetch_keeps | with_reducible apply KeepsRes.done | with_reducible apply KeepsRes.accepted | with_reducible apply KeepsRes.waiting | with_reducible apply KeepsOut.next | dsimp only | intro _ _ | intro _)

theorem bodyIngHeader_keeps {p_ : Allow} {z : State} (r : StreamRef) {s : State}  (h_ : Keeps p_ z s) : KeepsRes p_ z (bodyIngHeader r s) := by
  unfold bodyIngHeader
  repeat' (first | with_reducible assumption | with_reducible exact Keeps.refl _ _ | with_reducible apply ok_keeps | with_reducible apply refuse_keeps | with_reducible apply KeepsRes.done | with_reducible apply KeepsRes.accepted | with_reducible apply KeepsRes.waiting | with_reducible apply KeepsOut.next | with_reducible apply keepsParts_intro | with_reducible exact Or.inl (by with_reducible assumption) | with_reducible exact Or.inr rfl | simp only [keeps_mk] | with_reducible refine keepsMk_of ?_ ⟨rfl, rfl⟩ (fun h_ => by first | exact h_ | simpa only [updAt_length] using h_ | with_unfolding_all rfl) ?_ ?_ | split | intro _ _ | dsimp only | intro _ _ | intro _)

theorem execIngHeader_keeps {p_ : Allow} {z : State} (h : Hdr) (r : StreamRef) {s : State}  (htime_ : p_.clock = true) (h_ : Keeps p_ z s) : KeepsOut p_ z (execIngHeader h r s) := by
  unfold execIngHeader
  repeat' (first | with_reducible assumption | with_reducible exact Keeps.refl _ _ | with_reducible apply runCmd_keeps | with_reducible apply bodyIngHeader_keeps | with_reducible apply KeepsRes.done | with_reducible apply KeepsRes.accepted | with_reducible apply KeepsRes.waiting | with_reducible apply KeepsOut.next | dsimp only | intro _ _ | intro _)

theorem bodyIngStreamRaw_keeps {p_ : Allow} {z : State} (a : StreamRawArgs) {s : State}  (hing_ : p_.may .ing = true) (hpec_ : p_.may .pec = true) (h_ : Keeps p_ z s) : KeepsRes p_ z (bodyIngStreamRaw a s) := by
  unfold bodyIngStreamRaw
  repeat' (first | with_reducible assumption | with_reducible exact Keeps.refl _ _ | with_reducible apply refuse_keeps | with_reducible apply ok_keeps | with_reducible apply State.writeEntry_keeps | with_reducible apply KeepsRes.done | with_reducible apply KeepsRes.accepted | with_reducible apply KeepsRes.waiting | with_reducible apply KeepsOut.next | with_reducible apply keeps_ite | with_reducible apply keepsRes_ite | split | dsimp only | intro _ _ | intro _)

theorem execIngStreamRaw_keeps {p_ : Allow} {z : State} (h : Hdr) (a : StreamRawArgs) {s : State}  (hing_ : p_.may .ing = true) (hpec_ : p_.may .pec = true) (htime_ : p_.clock = true) (h_ : Keeps p_ z s) : KeepsOut p_ z (execIngStreamRaw h a s) := by
  unfold execIngStreamRaw
  repeat' (first | with_reducible assumption | with_reducible exact Keeps.refl _ _ | with_reducible apply runCmd_keeps | with_reducible apply bodyIngStreamRaw_keeps | with_reducible apply KeepsRes.done | with_reducible apply KeepsRes.accepted | with_reducible apply KeepsRes.waiting | with_reducible apply KeepsOut.next | dsimp only | intro _ _ | intro _)

theorem bodyIngChanScale_keeps {p_ : Allow} {z : State} (a : ChanScaleArgs) {s : State}  (hing_ : p_.may .ing = true) (h_ : Keeps p_ z s) : KeepsRes p_ z (bodyIngChanScale a s) := by
  unfold bodyIngChanScale
  repeat' (first | with_reducible assumption | with_reducible exact Keeps.refl _ _ | with_reducible apply refuse_keeps | with_reducible apply ok_keeps | with_reducible apply State.setIng_keeps | with_reducible apply KeepsRes.done | with_reducible apply KeepsRes.accepted | with_reducible apply KeepsRes.waiting | with_reducible apply KeepsOut.next | with_reducible apply keeps_foldl | with_reducible apply keeps_foldl_fst | with_reducible apply keeps_foldl_snd | intro _ _ _ | with_reducible apply keepsParts_intro | with_reducible exact Or.inl (by with_reducible assumption) | with_reducible exact Or.inr rfl | simp only [keeps_mk] | with_reducible refine keepsMk_of ?_ ⟨rfl, rfl⟩ (fun h_ => by first | exact h_ | simpa only [updAt_length] using h_ | with_unfolding_all rfl) ?_ ?_ | with_reducible apply keeps_ite | with_reducible apply keepsRes_ite | split | dsimp only | intro _ _ | intro _)

theorem execIngChanScale_keeps {p_ : Allow} {z : State} (h : Hdr) (a : ChanScaleArgs) {s : State}  (hing_ : p_.may .ing = true) (htime_ : p_.clock = true) (h_ : Keeps p_ z s) : KeepsOut p_ z (execIngChanScale h a s) := by
  unfold execIngChanScale
  repeat' (first | with_reducible assumption | with_reducible exact Keeps.refl _ _ | with_reducible apply runCmd_keeps | with_reducible apply bodyIngChanScale_keeps | with_reducible apply KeepsRes.done | with_reducible apply KeepsRes.accepted | with_reducible apply KeepsRes.waiting | with_reducible apply KeepsOut.next | dsimp only | intro _ _ | intro _)

theorem bodyIngTune_keeps {p_ : Allow} {z : State} (a : IngTuneArgs) {s : State}  (h_ : Keeps p_ z s) : KeepsRes p_ z (bodyIngTune a s) := by
  unfold bodyIngTune
  repeat' (first | with_reducible assumption | with_reducible exact Keeps.refl _ _ | with_reducible apply refuse_keeps | with_reducible apply State.setRf_keeps | with_reducible apply ok_keeps | with_reducible apply State.setRb_keeps | with_reducible apply KeepsRes.done | with_reducible apply KeepsRes.accepted | with_reducible apply KeepsRes.waiting | with_reducible apply KeepsOut.next | with_reducible apply keepsParts_intro | with_reducible exact Or.inl (by with_reducible assumption) | with_reducible exact Or.inr rfl | simp only [keeps_mk] | with_reducible refine keepsMk_of ?_ ⟨rfl, rfl⟩ (fun h_ => by first | exact h_ | simpa only [updAt_length] using h_ | with_unfolding_all rfl) ?_ ?_ | with_reducible apply keeps_ite | with_reducible apply keepsRes_ite | split | intro _ _ | dsimp only | intro _ _ | intro _)

theorem execIngTune_keeps {p_ : Allow} {z : State} (h : Hdr) (a : IngTuneArgs) {s : State}  (htime_ : p_.clock = true) (h_ : Keeps p_ z s) : KeepsOut p_ z (execIngTune h a s) := by
  unfold execIngTune
  repeat' (first | with_reducible assumption | with_reducible exact Keeps.refl _ _ | with_reducible apply runCmd_keeps | with_reducible apply bodyIngTune_keeps | with_reducible apply KeepsRes.done | with_reducible apply KeepsRes.accepted | with_reducible apply KeepsRes.waiting | with_reducible apply KeepsOut.next | dsimp only | intro _ _ | intro _)

theorem State.resetIngress_keeps {p_ : Allow} {z : State} {s : State}  (hing_ : p_.may .ing = true) (h_ : Keeps p_ z s) : Keeps p_ z (State.resetIngress s) := by
  unfold State.resetIngress
  repeat' (first | with_reducible assumption | with_reducible exact Keeps.refl _ _ | with_reducible apply State.resetRegs_keeps | with_reducible apply State.setIng_keeps | with_reducible apply keepsParts_intro | with_reducible exact Or.inl (by with_reducible assumption) | with_reducible exact Or.inr rfl | simp only [keeps_mk] | with_reducible refine keepsMk_of ?_ ⟨rfl, rfl⟩ (fun h_ => by first | exact h_ | simpa only [updAt_length] using h_ | with_unfolding_all rfl) ?_ ?_ | dsimp only | intro _ _ | intro _)

/-! ### Machine/PairStep.lean -/

theorem State.triggerDue_keeps {p_ : Allow} {z : State} {s : State}  (haln_ : p_.may .aln = true) (h_ : Keeps p_ z s) : Keeps p_ z (State.triggerDue s) := by
  unfold State.triggerDue
  repeat' (first | with_reducible assumption | with_reducible exact Keeps.refl _ _ | with_reducible apply State.complete_keeps | with_reducible apply State.trigger_keeps | with_reducible apply keeps_foldl | with_reducible apply keeps_foldl_fst | with_reducible apply keeps_foldl_snd | intro _ _ _ | split | dsimp only | intro _ _ | intro _)

theorem State.unverify_keeps {p_ : Allow} {z : State} {s : State} (cause : Nat) (inj : Bool)  (hevents_ : p_.may .events = true) (haln_ : p_.may .aln = true) (h_ : Keeps p_ z s) : Keeps p_ z (State.unverify s cause inj) := by
  unfold State.unverify
  repeat' (first | with_reducible assumption | with_reducible exact Keeps.refl _ _ | with_reducible apply State.enterPair_keeps | with_reducible apply State.triggerDue_keeps | dsimp only | intro _ _ | intro _)

theorem State.failCheck_keeps {p_ : Allow} {z : State} {s : State} (cause : Nat)  (hevents_ : p_.may .events = true) (haln_ : p_.may .aln = true) (h_ : Keeps p_ z s) : Keeps p_ z (State.failCheck s cause) := by
  unfold State.failCheck
  repeat' (first | with_reducible assumption | with_reducible exact Keeps.refl _ _ | with_reducible apply State.unverify_keeps | with_reducible apply State.enterPair_keeps | with_reducible apply State.setPair_keeps | with_reducible apply keepsParts_intro | with_reducible exact Or.inl (by with_reducible assumption) | with_reducible exact Or.inr rfl | simp only [keeps_mk] | with_reducible refine keepsMk_of ?_ ⟨rfl, rfl⟩ (fun h_ => by first | exact h_ | simpa only [updAt_length] using h_ | with_unfolding_all rfl) ?_ ?_ | split | intro _ _ | dsimp only | intro _ _ | intro _)

theorem State.resultError_keeps {p_ : Allow} {z : State} {s : State}  (hevents_ : p_.may .events = true) (haln_ : p_.may .aln = true) (h_ : Keeps p_ z s) : Keeps p_ z (State.resultError s) := by
  unfold State.resultError
  repeat' (first | with_reducible assumption | with_reducible exact Keeps.refl _ _ | with_reducible apply State.count_keeps | with_reducible apply State.failCheck_keeps | dsimp only | intro _ _ | intro _)

theorem State.noteResult_keeps {p_ : Allow} {z : State} {s : State} (source item : Nat) (l : List AlarmChange)  (hevents_ : p_.may .events = true) (haln_ : p_.may .aln = true) (h_ : Keeps p_ z s) : Keeps p_ z (State.noteResult s source item l) := by
  unfold State.noteResult
  repeat' (first | with_reducible assumption | with_reducible exact Keeps.refl _ _ | with_reducible apply State.peerOut_keeps | with_reducible apply State.setPair_keeps | with_reducible apply State.resultError_keeps | with_reducible apply keepsParts_intro | with_reducible exact Or.inl (by with_reducible assumption) | with_reducible exact Or.inr rfl | simp only [keeps_mk] | with_reducible refine keepsMk_of ?_ ⟨rfl, rfl⟩ (fun h_ => by first | exact h_ | simpa only [updAt_length] using h_ | with_unfolding_all rfl) ?_ ?_ | with_reducible apply keeps_ite | split | intro _ _ | dsimp only | intro _ _ | intro _)

theorem State.takeResult_keeps {p_ : Allow} {z : State} {s : State} (r : ResultRecord)  (hevents_ : p_.may .events = true) (haln_ : p_.may .aln = true) (h_ : Keeps p_ z s) : Keeps p_ z (State.takeResult s r) := by
  unfold State.takeResult
  repeat' (first | with_reducible assumption | with_reducible exact Keeps.refl _ _ | with_reducible apply State.setPair_keeps | with_reducible apply State.resultError_keeps | with_reducible apply keepsParts_intro | with_reducible exact Or.inl (by with_reducible assumption) | with_reducible exact Or.inr rfl | simp only [keeps_mk] | with_reducible refine keepsMk_of ?_ ⟨rfl, rfl⟩ (fun h_ => by first | exact h_ | simpa only [updAt_length] using h_ | with_unfolding_all rfl) ?_ ?_ | with_reducible apply keeps_ite | split | intro _ _ | dsimp only | intro _ _ | intro _)

theorem State.resolveAlarms_keeps {p_ : Allow} {z : State} {s : State} (g : Nat) (t : Instant)  (hevents_ : p_.may .events = true) (hbatches_ : p_.may .batches = true) (h_ : Keeps p_ z s) : Keeps p_ z (State.resolveAlarms s g t) := by
  unfold State.resolveAlarms
  repeat' (first | with_reducible assumption | with_reducible exact Keeps.refl _ _ | with_reducible apply State.setPair_keeps | with_reducible apply State.splCount_keeps | with_reducible apply State.status_keeps | with_reducible apply State.raiseAs_keeps | with_reducible apply State.batch_keeps | with_reducible apply keepsParts_intro | with_reducible exact Or.inl (by with_reducible assumption) | with_reducible exact Or.inr rfl | simp only [keeps_mk] | with_reducible refine keepsMk_of ?_ ⟨rfl, rfl⟩ (fun h_ => by first | exact h_ | simpa only [updAt_length] using h_ | with_unfolding_all rfl) ?_ ?_ | with_reducible apply keeps_ite | split | intro _ _ | dsimp only | intro _ _ | intro _)

end Sys2Proof.Machine
end

