-- ==== Sys2Proof/Laws/KeepsAlign.lean ====
section
/-! SUPPORT. What the commands and events of alignment, speculation and islands keep (Laws/Keeps.lean): one lemma per operation. -/

namespace Sys2Proof.Machine

/-! ### Machine/Accord.lean -/

theorem State.guardTriggers_keeps {p_ : Allow} {z : State} {s : State}  (haln_ : p_.may .aln = true) (h_ : Keeps p_ z s) : Keeps p_ z (State.guardTriggers s) := by
  unfold State.guardTriggers
  repeat' (first | with_reducible assumption | with_reducible exact Keeps.refl _ _ | with_reducible apply State.trigger_keeps | with_reducible apply keeps_foldl | with_reducible apply keeps_foldl_fst | with_reducible apply keeps_foldl_snd | intro _ _ _ | with_reducible apply keeps_ite | split | dsimp only | intro _ _ | intro _)

theorem State.takeReports_keeps {p_ : Allow} {z : State} {s : State} (chan : Nat)  (hing_ : p_.may .ing = true) (hflt_ : p_.may .flt = true) (h_ : Keeps p_ z s) : Keeps p_ z (State.takeReports s chan) := by
  unfold State.takeReports
  repeat' (first | with_reducible assumption | with_reducible exact Keeps.refl _ _ | with_reducible apply keepsParts_intro | with_reducible exact Or.inl (by with_reducible assumption) | with_reducible exact Or.inr rfl | simp only [keeps_mk] | with_reducible refine keepsMk_of ?_ ⟨rfl, rfl⟩ (fun h_ => by first | exact h_ | simpa only [updAt_length] using h_ | with_unfolding_all rfl) ?_ ?_ | dsimp only | intro _ _ | intro _)

theorem execAccordValueReceive_keeps {p_ : Allow} {z : State} (at_ : Instant) {s : State}  (hing_ : p_.may .ing = true) (haln_ : p_.may .aln = true) (hflt_ : p_.may .flt = true) (htime_ : p_.clock = true) (h_ : Keeps p_ z s) : KeepsOut p_ z (execAccordValueReceive at_ s) := by
  unfold execAccordValueReceive
  repeat' (first | with_reducible assumption | with_reducible exact Keeps.refl _ _ | with_reducible apply State.advance_keeps | with_reducible apply State.acceptValue_keeps | with_reducible apply State.takeReports_keeps | with_reducible apply State.guardTriggers_keeps | with_reducible apply KeepsRes.done | with_reducible apply KeepsRes.accepted | with_reducible apply KeepsRes.waiting | with_reducible apply KeepsOut.next | with_reducible apply keepsParts_intro | with_reducible exact Or.inl (by with_reducible assumption) | with_reducible exact Or.inr rfl | simp only [keeps_mk] | with_reducible refine keepsMk_of ?_ ⟨rfl, rfl⟩ (fun h_ => by first | exact h_ | simpa only [updAt_length] using h_ | with_unfolding_all rfl) ?_ ?_ | with_reducible apply keeps_ite | with_reducible apply keepsOut_ite | split | intro _ _ | dsimp only | intro _ _ | intro _)

theorem State.nextAsm_keeps {p_ : Allow} {z : State} {s : State} (g : Nat) (p : Asm → Bool)  (haln_ : p_.may .aln = true) (h_ : Keeps p_ z s) : Keeps p_ z (State.nextAsm s g p).1 := by
  unfold State.nextAsm
  repeat' (first | with_reducible assumption | with_reducible exact Keeps.refl _ _ | with_reducible apply State.openNext_keeps | with_reducible apply keepsParts_intro | with_reducible exact Or.inl (by with_reducible assumption) | with_reducible exact Or.inr rfl | simp only [keeps_mk] | with_reducible refine keepsMk_of ?_ ⟨rfl, rfl⟩ (fun h_ => by first | exact h_ | simpa only [updAt_length] using h_ | with_unfolding_all rfl) ?_ ?_ | split | intro _ _ | dsimp only | intro _ _ | intro _)
theorem State.nextAsm_keeps_of {p_ : Allow} {z : State} {s : State} {g : Nat} {p : Asm → Bool} {t_ : State} {a_ : _} (e_ : State.nextAsm s g p = (t_, a_)) (haln_ : p_.may .aln = true) (h_ : Keeps p_ z s) : Keeps p_ z t_ := by
  have k_ := State.nextAsm_keeps (z := z) g p haln_ h_
  rw [e_] at k_; exact k_

theorem State.nextDeadline_keeps {p_ : Allow} {z : State} {s : State} (g : Nat)  (haln_ : p_.may .aln = true) (h_ : Keeps p_ z s) : Keeps p_ z (State.nextDeadline s g).1 := by
  unfold State.nextDeadline
  repeat' (first | with_reducible assumption | with_reducible exact Keeps.refl _ _ | with_reducible apply State.openNext_keeps | with_reducible apply keepsParts_intro | with_reducible exact Or.inl (by with_reducible assumption) | with_reducible exact Or.inr rfl | simp only [keeps_mk] | with_reducible refine keepsMk_of ?_ ⟨rfl, rfl⟩ (fun h_ => by first | exact h_ | simpa only [updAt_length] using h_ | with_unfolding_all rfl) ?_ ?_ | with_reducible apply keeps_ite | split | intro _ _ | dsimp only | intro _ _ | intro _)
theorem State.nextDeadline_keeps_of {p_ : Allow} {z : State} {s : State} {g : Nat} {t_ : State} {a_ : _} (e_ : State.nextDeadline s g = (t_, a_)) (haln_ : p_.may .aln = true) (h_ : Keeps p_ z s) : Keeps p_ z t_ := by
  have k_ := State.nextDeadline_keeps (z := z) g haln_ h_
  rw [e_] at k_; exact k_

theorem execProvisionalIssue_keeps {p_ : Allow} {z : State} (g : Fin 32) {s : State}  (hevents_ : p_.may .events = true) (haln_ : p_.may .aln = true) (hisl_ : p_.may .isl = true) (htime_ : p_.clock = true) (h_ : Keeps p_ z s) : KeepsOut p_ z (execProvisionalIssue g s) := by
  unfold execProvisionalIssue
  repeat' (first | with_reducible assumption | with_reducible exact Keeps.refl _ _ | with_reducible apply State.nextDeadline_keeps | with_reducible apply State.advance_keeps | with_reducible apply State.deadline_keeps | with_reducible refine State.nextDeadline_keeps_of (by with_reducible assumption) ?_ ?_ | with_reducible apply KeepsRes.done | with_reducible apply KeepsRes.accepted | with_reducible apply KeepsRes.waiting | with_reducible apply KeepsOut.next | with_reducible apply keepsParts_intro | with_reducible exact Or.inl (by with_reducible assumption) | with_reducible exact Or.inr rfl | simp only [keeps_mk] | with_reducible refine keepsMk_of ?_ ⟨rfl, rfl⟩ (fun h_ => by first | exact h_ | simpa only [updAt_length] using h_ | with_unfolding_all rfl) ?_ ?_ | split | intro _ _ | dsimp only | intro _ _ | intro _)

theorem execWindowClose_keeps {p_ : Allow} {z : State} (g : Fin 32) {s : State}  (haln_ : p_.may .aln = true) (htime_ : p_.clock = true) (h_ : Keeps p_ z s) : KeepsOut p_ z (execWindowClose g s) := by
  unfold execWindowClose
  repeat' (first | with_reducible assumption | with_reducible exact Keeps.refl _ _ | with_reducible apply State.nextAsm_keeps | with_reducible apply State.advance_keeps | with_reducible apply State.updAsm_keeps | with_reducible refine State.nextAsm_keeps_of (by with_reducible assumption) ?_ ?_ | with_reducible apply KeepsRes.done | with_reducible apply KeepsRes.accepted | with_reducible apply KeepsRes.waiting | with_reducible apply KeepsOut.next | with_reducible apply keepsParts_intro | with_reducible exact Or.inl (by with_reducible assumption) | with_reducible exact Or.inr rfl | simp only [keeps_mk] | with_reducible refine keepsMk_of ?_ ⟨rfl, rfl⟩ (fun h_ => by first | exact h_ | simpa only [updAt_length] using h_ | with_unfolding_all rfl) ?_ ?_ | split | intro _ _ | dsimp only | intro _ _ | intro _)

theorem execCloseGuardEnd_keeps {p_ : Allow} {z : State} (g : Fin 32) {s : State}  (haln_ : p_.may .aln = true) (htime_ : p_.clock = true) (h_ : Keeps p_ z s) : KeepsOut p_ z (execCloseGuardEnd g s) := by
  unfold execCloseGuardEnd
  repeat' (first | with_reducible assumption | with_reducible exact Keeps.refl _ _ | with_reducible apply State.advance_keeps | with_reducible apply State.updAsm_keeps | with_reducible apply State.guardTriggers_keeps | with_reducible apply KeepsRes.done | with_reducible apply KeepsRes.accepted | with_reducible apply KeepsRes.waiting | with_reducible apply KeepsOut.next | with_reducible apply keepsParts_intro | with_reducible exact Or.inl (by with_reducible assumption) | with_reducible exact Or.inr rfl | simp only [keeps_mk] | with_reducible refine keepsMk_of ?_ ⟨rfl, rfl⟩ (fun h_ => by first | exact h_ | simpa only [updAt_length] using h_ | with_unfolding_all rfl) ?_ ?_ | split | intro _ _ | dsimp only | intro _ _ | intro _)

theorem execEmptyGroupTrigger_keeps {p_ : Allow} {z : State} (g : Fin 32) {s : State}  (haln_ : p_.may .aln = true) (htime_ : p_.clock = true) (h_ : Keeps p_ z s) : KeepsOut p_ z (execEmptyGroupTrigger g s) := by
  unfold execEmptyGroupTrigger
  repeat' (first | with_reducible assumption | with_reducible exact Keeps.refl _ _ | with_reducible apply State.nextAsm_keeps | with_reducible apply State.advance_keeps | with_reducible apply State.trigger_keeps | with_reducible refine State.nextAsm_keeps_of (by with_reducible assumption) ?_ ?_ | with_reducible apply KeepsRes.done | with_reducible apply KeepsRes.accepted | with_reducible apply KeepsRes.waiting | with_reducible apply KeepsOut.next | with_reducible apply keepsParts_intro | with_reducible exact Or.inl (by with_reducible assumption) | with_reducible exact Or.inr rfl | simp only [keeps_mk] | with_reducible refine keepsMk_of ?_ ⟨rfl, rfl⟩ (fun h_ => by first | exact h_ | simpa only [updAt_length] using h_ | with_unfolding_all rfl) ?_ ?_ | with_reducible apply keeps_ite | with_reducible apply keepsOut_ite | split | intro _ _ | dsimp only | intro _ _ | intro _)

theorem execSnapshotCommit_keeps {p_ : Allow} {z : State} (at_ : Instant) (g : Fin 32) {s : State}  (hevents_ : p_.may .events = true) (haln_ : p_.may .aln = true) (hisl_ : p_.may .isl = true) (hbatches_ : p_.may .batches = true) (htime_ : p_.clock = true) (h_ : Keeps p_ z s) : KeepsOut p_ z (execSnapshotCommit at_ g s) := by
  unfold execSnapshotCommit
  repeat' (first | with_reducible assumption | with_reducible exact Keeps.refl _ _ | with_reducible apply State.advance_keeps | with_reducible apply State.commitHead_keeps | with_reducible apply KeepsRes.done | with_reducible apply KeepsRes.accepted | with_reducible apply KeepsRes.waiting | with_reducible apply KeepsOut.next | dsimp only | intro _ _ | intro _)

theorem execGroupStartReached_keeps {p_ : Allow} {z : State} (g : Fin 32) {s : State}  (haln_ : p_.may .aln = true) (htime_ : p_.clock = true) (h_ : Keeps p_ z s) : KeepsOut p_ z (execGroupStartReached g s) := by
  unfold execGroupStartReached
  repeat' (first | with_reducible assumption | with_reducible exact Keeps.refl _ _ | with_reducible apply State.advance_keeps | with_reducible apply State.updGroup_keeps | with_reducible apply KeepsRes.done | with_reducible apply KeepsRes.accepted | with_reducible apply KeepsRes.waiting | with_reducible apply KeepsOut.next | with_reducible apply keepsParts_intro | with_reducible exact Or.inl (by with_reducible assumption) | with_reducible exact Or.inr rfl | simp only [keeps_mk] | with_reducible refine keepsMk_of ?_ ⟨rfl, rfl⟩ (fun h_ => by first | exact h_ | simpa only [updAt_length] using h_ | with_unfolding_all rfl) ?_ ?_ | with_reducible apply keeps_ite | with_reducible apply keepsOut_ite | split | dsimp only | intro _ _ | intro _)

theorem State.openUpTo_keeps {p_ : Allow} {z : State} {s : State} (g k : Nat)  (haln_ : p_.may .aln = true) (h_ : Keeps p_ z s) : Keeps p_ z (State.openUpTo s g k) := by
  unfold State.openUpTo
  repeat' (first | with_reducible assumption | with_reducible exact Keeps.refl _ _ | with_reducible apply State.openNext_keeps | with_reducible apply keeps_foldl | with_reducible apply keeps_foldl_fst | with_reducible apply keeps_foldl_snd | intro _ _ _ | dsimp only | intro _ _ | intro _)

theorem execGroupChangeEffective_keeps {p_ : Allow} {z : State} (g : Fin 32) {s : State}  (haln_ : p_.may .aln = true) (htime_ : p_.clock = true) (h_ : Keeps p_ z s) : KeepsOut p_ z (execGroupChangeEffective g s) := by
  unfold execGroupChangeEffective
  repeat' (first | with_reducible assumption | with_reducible exact Keeps.refl _ _ | with_reducible apply State.openUpTo_keeps | with_reducible apply State.advance_keeps | with_reducible apply State.applyChange_keeps | with_reducible apply KeepsRes.done | with_reducible apply KeepsRes.accepted | with_reducible apply KeepsRes.waiting | with_reducible apply KeepsOut.next | with_reducible apply keepsParts_intro | with_reducible exact Or.inl (by with_reducible assumption) | with_reducible exact Or.inr rfl | simp only [keeps_mk] | with_reducible refine keepsMk_of ?_ ⟨rfl, rfl⟩ (fun h_ => by first | exact h_ | simpa only [updAt_length] using h_ | with_unfolding_all rfl) ?_ ?_ | split | intro _ _ | dsimp only | intro _ _ | intro _)

theorem execClassChangeEffective_keeps {p_ : Allow} {z : State} (at_ : Instant) {s : State}  (haln_ : p_.may .aln = true) (htime_ : p_.clock = true) (h_ : Keeps p_ z s) : KeepsOut p_ z (execClassChangeEffective at_ s) := by
  unfold execClassChangeEffective
  repeat' (first | with_reducible assumption | with_reducible exact Keeps.refl _ _ | with_reducible apply State.advance_keeps | with_reducible apply State.applyClasses_keeps | with_reducible apply KeepsRes.done | with_reducible apply KeepsRes.accepted | with_reducible apply KeepsRes.waiting | with_reducible apply KeepsOut.next | dsimp only | intro _ _ | intro _)

theorem State.setWords_keeps {p_ : Allow} {z : State} {s : State} (g : Nat) (w : GrpWords)  (h_ : Keeps p_ z s) : Keeps p_ z (State.setWords s g w) := by
  unfold State.setWords
  repeat' (first | with_reducible assumption | with_reducible exact Keeps.refl _ _ | with_reducible apply State.setReg_keeps | dsimp only | intro _ _ | intro _)

theorem State.holdChans_keeps {p_ : Allow} {z : State} {s : State} (g : Nat) (l : List Nat)  (haln_ : p_.may .aln = true) (h_ : Keeps p_ z s) : Keeps p_ z (State.holdChans s g l) := by
  unfold State.holdChans
  repeat' (first | with_reducible assumption | with_reducible exact Keeps.refl _ _ | with_reducible apply State.setChanWord_keeps | with_reducible apply keeps_foldl | with_reducible apply keeps_foldl_fst | with_reducible apply keeps_foldl_snd | intro _ _ _ | dsimp only | intro _ _ | intro _)

theorem State.replaceSet_keeps {p_ : Allow} {z : State} {s : State} (g : Nat) (l : List Nat)  (haln_ : p_.may .aln = true) (h_ : Keeps p_ z s) : Keeps p_ z (State.replaceSet s g l) := by
  unfold State.replaceSet
  repeat' (first | with_reducible assumption | with_reducible exact Keeps.refl _ _ | with_reducible apply State.setChanWord_keeps | with_reducible apply State.holdChans_keeps | with_reducible apply State.updGroup_keeps | with_reducible apply keeps_foldl | with_reducible apply keeps_foldl_fst | with_reducible apply keeps_foldl_snd | intro _ _ _ | with_reducible apply keepsParts_intro | with_reducible exact Or.inl (by with_reducible assumption) | with_reducible exact Or.inr rfl | simp only [keeps_mk] | with_reducible refine keepsMk_of ?_ ⟨rfl, rfl⟩ (fun h_ => by first | exact h_ | simpa only [updAt_length] using h_ | with_unfolding_all rfl) ?_ ?_ | with_reducible apply keeps_ite | split | dsimp only | intro _ _ | intro _)

theorem bodyAlnStatus_keeps {p_ : Allow} {z : State} {s : State}  (h_ : Keeps p_ z s) : KeepsRes p_ z (bodyAlnStatus s) := by
  unfold bodyAlnStatus
  repeat' (first | with_reducible assumption | with_reducible exact Keeps.refl _ _ | with_reducible apply ok_keeps | with_reducible apply KeepsRes.done | with_reducible apply KeepsRes.accepted | with_reducible apply KeepsRes.waiting | with_reducible apply KeepsOut.next | with_reducible apply keepsParts_intro | with_reducible exact Or.inl (by with_reducible assumption) | with_reducible exact Or.inr rfl | simp only [keeps_mk] | with_reducible refine keepsMk_of ?_ ⟨rfl, rfl⟩ (fun h_ => by first | exact h_ | simpa only [updAt_length] using h_ | with_unfolding_all rfl) ?_ ?_ | split | intro _ _ | dsimp only | intro _ _ | intro _)

theorem execAlnStatus_keeps {p_ : Allow} {z : State} (h : Hdr) {s : State}  (htime_ : p_.clock = true) (h_ : Keeps p_ z s) : KeepsOut p_ z (execAlnStatus h s) := by
  unfold execAlnStatus
  repeat' (first | with_reducible assumption | with_reducible exact Keeps.refl _ _ | with_reducible apply runCmd_keeps | with_reducible apply bodyAlnStatus_keeps | with_reducible apply KeepsRes.done | with_reducible apply KeepsRes.accepted | with_reducible apply KeepsRes.waiting | with_reducible apply KeepsOut.next | dsimp only | intro _ _ | intro _)

theorem bodyAlnGroupStart_keeps {p_ : Allow} {z : State} (a : GroupStartArgs) {s : State}  (haln_ : p_.may .aln = true) (h_ : Keeps p_ z s) : KeepsRes p_ z (bodyAlnGroupStart a s) := by
  unfold bodyAlnGroupStart
  repeat' (first | with_reducible assumption | with_reducible exact Keeps.refl _ _ | with_reducible apply refuse_keeps | with_reducible apply State.setWords_keeps | with_reducible apply State.replaceSet_keeps | with_reducible apply State.updGroup_keeps | with_reducible apply ok_keeps | with_reducible apply KeepsRes.done | with_reducible apply KeepsRes.accepted | with_reducible apply KeepsRes.waiting | with_reducible apply KeepsOut.next | with_reducible apply keepsParts_intro | with_reducible exact Or.inl (by with_reducible assumption) | with_reducible exact Or.inr rfl | simp only [keeps_mk] | with_reducible refine keepsMk_of ?_ ⟨rfl, rfl⟩ (fun h_ => by first | exact h_ | simpa only [updAt_length] using h_ | with_unfolding_all rfl) ?_ ?_ | with_reducible apply keeps_ite | with_reducible apply keepsRes_ite | split | intro _ _ | dsimp only | intro _ _ | intro _)

theorem execAlnGroupStart_keeps {p_ : Allow} {z : State} (h : Hdr) (a : GroupStartArgs) {s : State}  (haln_ : p_.may .aln = true) (htime_ : p_.clock = true) (h_ : Keeps p_ z s) : KeepsOut p_ z (execAlnGroupStart h a s) := by
  unfold execAlnGroupStart
  repeat' (first | with_reducible assumption | with_reducible exact Keeps.refl _ _ | with_reducible apply runCmd_keeps | with_reducible apply bodyAlnGroupStart_keeps | with_reducible apply KeepsRes.done | with_reducible apply KeepsRes.accepted | with_reducible apply KeepsRes.waiting | with_reducible apply KeepsOut.next | dsimp only | intro _ _ | intro _)

theorem bodyAlnGroupStop_keeps {p_ : Allow} {z : State} (g : Fin 32) (flush : Bool) {s : State}  (hevents_ : p_.may .events = true) (haln_ : p_.may .aln = true) (hisl_ : p_.may .isl = true) (hbatches_ : p_.may .batches = true) (h_ : Keeps p_ z s) : KeepsRes p_ z (bodyAlnGroupStop g flush s) := by
  unfold bodyAlnGroupStop
  repeat' (first | with_reducible assumption | with_reducible exact Keeps.refl _ _ | with_reducible apply ok_keeps | with_reducible apply State.updGroup_keeps | with_reducible apply State.groupStopped_keeps | with_reducible apply State.flushStop_keeps | with_reducible apply State.stopIfDone_keeps | with_reducible apply KeepsRes.done | with_reducible apply KeepsRes.accepted | with_reducible apply KeepsRes.waiting | with_reducible apply KeepsOut.next | with_reducible apply keepsParts_intro | with_reducible exact Or.inl (by with_reducible assumption) | with_reducible exact Or.inr rfl | simp only [keeps_mk] | with_reducible refine keepsMk_of ?_ ⟨rfl, rfl⟩ (fun h_ => by first | exact h_ | simpa only [updAt_length] using h_ | with_unfolding_all rfl) ?_ ?_ | with_reducible apply keeps_ite | with_reducible apply keepsRes_ite | split | intro _ _ | dsimp only | intro _ _ | intro _)

theorem execAlnGroupStop_keeps {p_ : Allow} {z : State} (h : Hdr) (g : Fin 32) (flush : Bool) {s : State}  (hevents_ : p_.may .events = true) (haln_ : p_.may .aln = true) (hisl_ : p_.may .isl = true) (hbatches_ : p_.may .batches = true) (htime_ : p_.clock = true) (h_ : Keeps p_ z s) : KeepsOut p_ z (execAlnGroupStop h g flush s) := by
  unfold execAlnGroupStop
  repeat' (first | with_reducible assumption | with_reducible exact Keeps.refl _ _ | with_reducible apply runCmd_keeps | with_reducible apply bodyAlnGroupStop_keeps | with_reducible apply KeepsRes.done | with_reducible apply KeepsRes.accepted | with_reducible apply KeepsRes.waiting | with_reducible apply KeepsOut.next | dsimp only | intro _ _ | intro _)

theorem State.holdNew_keeps {p_ : Allow} {z : State} {s : State} (g : Nat) (x0 : Option (List Nat))  (haln_ : p_.may .aln = true) (h_ : Keeps p_ z s) : Keeps p_ z (State.holdNew s g x0) := by
  unfold State.holdNew
  repeat' (first | with_reducible assumption | with_reducible exact Keeps.refl _ _ | with_reducible apply State.holdChans_keeps | split | dsimp only | intro _ _ | intro _)

theorem State.pendChange_keeps {p_ : Allow} {z : State} {s : State} (g : Nat) (w : GrpWords) (set : Option (List Nat))  (haln_ : p_.may .aln = true) (h_ : Keeps p_ z s) : Keeps p_ z (State.pendChange s g w set) := by
  unfold State.pendChange
  repeat' (first | with_reducible assumption | with_reducible exact Keeps.refl _ _ | with_reducible apply State.holdNew_keeps | with_reducible apply State.updGroup_keeps | with_reducible apply keepsParts_intro | with_reducible exact Or.inl (by with_reducible assumption) | with_reducible exact Or.inr rfl | simp only [keeps_mk] | with_reducible refine keepsMk_of ?_ ⟨rfl, rfl⟩ (fun h_ => by first | exact h_ | simpa only [updAt_length] using h_ | with_unfolding_all rfl) ?_ ?_ | dsimp only | intro _ _ | intro _)

theorem State.changeGroup_keeps {p_ : Allow} {z : State} {s : State} (g : Nat) (w : GrpWords) (set : Option (List Nat))  (haln_ : p_.may .aln = true) (h_ : Keeps p_ z s) : KeepsRes p_ z (State.changeGroup s g w set) := by
  unfold State.changeGroup
  repeat' (first | with_reducible assumption | with_reducible exact Keeps.refl _ _ | with_reducible apply refuse_keeps | with_reducible apply State.holdNew_keeps | with_reducible apply State.updGroup_keeps | with_reducible apply ok_keeps | with_reducible apply State.applyChange_keeps | with_reducible apply State.pendChange_keeps | with_reducible apply KeepsRes.done | with_reducible apply KeepsRes.accepted | with_reducible apply KeepsRes.waiting | with_reducible apply KeepsOut.next | with_reducible apply keepsParts_intro | with_reducible exact Or.inl (by with_reducible assumption) | with_reducible exact Or.inr rfl | simp only [keeps_mk] | with_reducible refine keepsMk_of ?_ ⟨rfl, rfl⟩ (fun h_ => by first | exact h_ | simpa only [updAt_length] using h_ | with_unfolding_all rfl) ?_ ?_ | with_reducible apply keeps_ite | with_reducible apply keepsRes_ite | split | intro _ _ | dsimp only | intro _ _ | intro _)
theorem State.changeGroup_keeps_done {p_ : Allow} {z : State} {s : State} {g : Nat} {w : GrpWords} {set : Option (List Nat)} {a_ : Nat} {b_ : List Word} {t_ : State} (e_ : State.changeGroup s g w set = .done a_ b_ t_) (haln_ : p_.may .aln = true) (h_ : Keeps p_ z s) : Keeps p_ z t_ := by
  have k_ := State.changeGroup_keeps (z := z) g w set haln_ h_
  rw [e_] at k_; exact k_
theorem State.changeGroup_keeps_accepted {p_ : Allow} {z : State} {s : State} {g : Nat} {w : GrpWords} {set : Option (List Nat)} {t_ : State} (e_ : State.changeGroup s g w set = .accepted t_) (haln_ : p_.may .aln = true) (h_ : Keeps p_ z s) : Keeps p_ z t_ := by
  have k_ := State.changeGroup_keeps (z := z) g w set haln_ h_
  rw [e_] at k_; exact k_
theorem State.changeGroup_keeps_waiting {p_ : Allow} {z : State} {s : State} {g : Nat} {w : GrpWords} {set : Option (List Nat)} {t_ : State} (e_ : State.changeGroup s g w set = .waiting t_) (haln_ : p_.may .aln = true) (h_ : Keeps p_ z s) : Keeps p_ z t_ := by
  have k_ := State.changeGroup_keeps (z := z) g w set haln_ h_
  rw [e_] at k_; exact k_

theorem bodyAlnGroupChannels_keeps {p_ : Allow} {z : State} (a : GroupChanArgs) {s : State}  (haln_ : p_.may .aln = true) (h_ : Keeps p_ z s) : KeepsRes p_ z (bodyAlnGroupChannels a s) := by
  unfold bodyAlnGroupChannels
  repeat' (first | with_reducible assumption | with_reducible exact Keeps.refl _ _ | with_reducible apply refuse_keeps | with_reducible apply State.changeGroup_keeps | with_reducible refine State.changeGroup_keeps_done (by with_reducible assumption) ?_ ?_ | with_reducible refine State.changeGroup_keeps_accepted (by with_reducible assumption) ?_ ?_ | with_reducible refine State.changeGroup_keeps_waiting (by with_reducible assumption) ?_ ?_ | with_reducible apply KeepsRes.done | with_reducible apply KeepsRes.accepted | with_reducible apply KeepsRes.waiting | with_reducible apply KeepsOut.next | with_reducible apply keeps_ite | with_reducible apply keepsRes_ite | split | dsimp only | intro _ _ | intro _)

theorem execAlnGroupChannels_keeps {p_ : Allow} {z : State} (h : Hdr) (a : GroupChanArgs) {s : State}  (haln_ : p_.may .aln = true) (htime_ : p_.clock = true) (h_ : Keeps p_ z s) : KeepsOut p_ z (execAlnGroupChannels h a s) := by
  unfold execAlnGroupChannels
  repeat' (first | with_reducible assumption | with_reducible exact Keeps.refl _ _ | with_reducible apply runCmd_keeps | with_reducible apply bodyAlnGroupChannels_keeps | with_reducible apply KeepsRes.done | with_reducible apply KeepsRes.accepted | with_reducible apply KeepsRes.waiting | with_reducible apply KeepsOut.next | dsimp only | intro _ _ | intro _)

theorem bodyAlnGroupTiming_keeps {p_ : Allow} {z : State} (a : GroupTimingArgs) {s : State}  (haln_ : p_.may .aln = true) (h_ : Keeps p_ z s) : KeepsRes p_ z (bodyAlnGroupTiming a s) := by
  unfold bodyAlnGroupTiming
  repeat' (first | with_reducible assumption | with_reducible exact Keeps.refl _ _ | with_reducible apply refuse_keeps | with_reducible apply State.changeGroup_keeps | with_reducible refine State.changeGroup_keeps_done (by with_reducible assumption) ?_ ?_ | with_reducible refine State.changeGroup_keeps_accepted (by with_reducible assumption) ?_ ?_ | with_reducible refine State.changeGroup_keeps_waiting (by with_reducible assumption) ?_ ?_ | with_reducible apply KeepsRes.done | with_reducible apply KeepsRes.accepted | with_reducible apply KeepsRes.waiting | with_reducible apply KeepsOut.next | with_reducible apply keepsParts_intro | with_reducible exact Or.inl (by with_reducible assumption) | with_reducible exact Or.inr rfl | simp only [keeps_mk] | with_reducible refine keepsMk_of ?_ ⟨rfl, rfl⟩ (fun h_ => by first | exact h_ | simpa only [updAt_length] using h_ | with_unfolding_all rfl) ?_ ?_ | split | intro _ _ | dsimp only | intro _ _ | intro _)

theorem execAlnGroupTiming_keeps {p_ : Allow} {z : State} (h : Hdr) (a : GroupTimingArgs) {s : State}  (haln_ : p_.may .aln = true) (htime_ : p_.clock = true) (h_ : Keeps p_ z s) : KeepsOut p_ z (execAlnGroupTiming h a s) := by
  unfold execAlnGroupTiming
  repeat' (first | with_reducible assumption | with_reducible exact Keeps.refl _ _ | with_reducible apply runCmd_keeps | with_reducible apply bodyAlnGroupTiming_keeps | with_reducible apply KeepsRes.done | with_reducible apply KeepsRes.accepted | with_reducible apply KeepsRes.waiting | with_reducible apply KeepsOut.next | dsimp only | intro _ _ | intro _)

theorem bodyAlnHistAlloc_keeps {p_ : Allow} {z : State} (a : HistAllocArgs) {s : State}  (haln_ : p_.may .aln = true) (h_ : Keeps p_ z s) : KeepsRes p_ z (bodyAlnHistAlloc a s) := by
  unfold bodyAlnHistAlloc
  repeat' (first | with_reducible assumption | with_reducible exact Keeps.refl _ _ | with_reducible apply refuse_keeps | with_reducible apply State.updGroup_keeps | with_reducible apply ok_keeps | with_reducible apply State.setRb_keeps | with_reducible apply KeepsRes.done | with_reducible apply KeepsRes.accepted | with_reducible apply KeepsRes.waiting | with_reducible apply KeepsOut.next | with_reducible apply keepsParts_intro | with_reducible exact Or.inl (by with_reducible assumption) | with_reducible exact Or.inr rfl | simp only [keeps_mk] | with_reducible refine keepsMk_of ?_ ⟨rfl, rfl⟩ (fun h_ => by first | exact h_ | simpa only [updAt_length] using h_ | with_unfolding_all rfl) ?_ ?_ | with_reducible apply keeps_ite | with_reducible apply keepsRes_ite | split | dsimp only | intro _ _ | intro _)

theorem execAlnHistAlloc_keeps {p_ : Allow} {z : State} (h : Hdr) (a : HistAllocArgs) {s : State}  (haln_ : p_.may .aln = true) (htime_ : p_.clock = true) (h_ : Keeps p_ z s) : KeepsOut p_ z (execAlnHistAlloc h a s) := by
  unfold execAlnHistAlloc
  repeat' (first | with_reducible assumption | with_reducible exact Keeps.refl _ _ | with_reducible apply runCmd_keeps | with_reducible apply bodyAlnHistAlloc_keeps | with_reducible apply KeepsRes.done | with_reducible apply KeepsRes.accepted | with_reducible apply KeepsRes.waiting | with_reducible apply KeepsOut.next | dsimp only | intro _ _ | intro _)

theorem bodyAlnHistRead_keeps {p_ : Allow} {z : State} (via : Via) (buf len : Nat) (a : HistReadArgs) {s : State}  (h_ : Keeps p_ z s) : KeepsRes p_ z (bodyAlnHistRead via buf len a s) := by
  unfold bodyAlnHistRead
  repeat' (first | with_reducible assumption | with_reducible exact Keeps.refl _ _ | with_reducible apply State.takePoison_keeps | with_reducible apply ok_keeps | with_reducible apply State.hostWrite_keeps | with_reducible apply refuse_keeps | with_reducible refine State.takePoison_keeps_of (by with_reducible assumption) ?_ | with_reducible apply KeepsRes.done | with_reducible apply KeepsRes.accepted | with_reducible apply KeepsRes.waiting | with_reducible apply KeepsOut.next | with_reducible apply keepsParts_intro | with_reducible exact Or.inl (by with_reducible assumption) | with_reducible exact Or.inr rfl | simp only [keeps_mk] | with_reducible refine keepsMk_of ?_ ⟨rfl, rfl⟩ (fun h_ => by first | exact h_ | simpa only [updAt_length] using h_ | with_unfolding_all rfl) ?_ ?_ | with_reducible apply keeps_ite | with_reducible apply keepsRes_ite | split | intro _ _ | dsimp only | intro _ _ | intro _)

theorem execAlnHistRead_keeps {p_ : Allow} {z : State} (h : Hdr) (a : HistReadArgs) {s : State}  (htime_ : p_.clock = true) (h_ : Keeps p_ z s) : KeepsOut p_ z (execAlnHistRead h a s) := by
  unfold execAlnHistRead
  repeat' (first | with_reducible assumption | with_reducible exact Keeps.refl _ _ | with_reducible apply runCmd_keeps | with_reducible apply bodyAlnHistRead_keeps | with_reducible apply Res.carried_keeps | with_reducible apply KeepsRes.done | with_reducible apply KeepsRes.accepted | with_reducible apply KeepsRes.waiting | with_reducible apply KeepsOut.next | dsimp only | intro _ _ | intro _)

theorem bodyAlnGroupRaw_keeps {p_ : Allow} {z : State} (a : GroupRawArgs) {s : State}  (h_ : Keeps p_ z s) : KeepsRes p_ z (bodyAlnGroupRaw a s) := by
  unfold bodyAlnGroupRaw
  repeat' (first | with_reducible assumption | with_reducible exact Keeps.refl _ _ | with_reducible apply refuse_keeps | with_reducible apply ok_keeps | with_reducible apply State.setWords_keeps | with_reducible apply KeepsRes.done | with_reducible apply KeepsRes.accepted | with_reducible apply KeepsRes.waiting | with_reducible apply KeepsOut.next | with_reducible apply keeps_ite | with_reducible apply keepsRes_ite | split | dsimp only | intro _ _ | intro _)

theorem execAlnGroupRaw_keeps {p_ : Allow} {z : State} (h : Hdr) (a : GroupRawArgs) {s : State}  (htime_ : p_.clock = true) (h_ : Keeps p_ z s) : KeepsOut p_ z (execAlnGroupRaw h a s) := by
  unfold execAlnGroupRaw
  repeat' (first | with_reducible assumption | with_reducible exact Keeps.refl _ _ | with_reducible apply runCmd_keeps | with_reducible apply bodyAlnGroupRaw_keeps | with_reducible apply KeepsRes.done | with_reducible apply KeepsRes.accepted | with_reducible apply KeepsRes.waiting | with_reducible apply KeepsOut.next | dsimp only | intro _ _ | intro _)

theorem State.writeChan_keeps {p_ : Allow} {z : State} {s : State} (c : Nat) (w : Word)  (haln_ : p_.may .aln = true) (h_ : Keeps p_ z s) : Keeps p_ z (State.writeChan s c w) := by
  unfold State.writeChan
  repeat' (first | with_reducible assumption | with_reducible exact Keeps.refl _ _ | with_reducible apply State.setChanWord_keeps | with_reducible apply State.updGroup_keeps | with_reducible apply State.setAln_keeps | with_reducible apply keepsParts_intro | with_reducible exact Or.inl (by with_reducible assumption) | with_reducible exact Or.inr rfl | simp only [keeps_mk] | with_reducible refine keepsMk_of ?_ ⟨rfl, rfl⟩ (fun h_ => by first | exact h_ | simpa only [updAt_length] using h_ | with_unfolding_all rfl) ?_ ?_ | with_reducible apply keeps_ite | split | intro _ _ | dsimp only | intro _ _ | intro _)

theorem bodyAlnChanRaw_keeps {p_ : Allow} {z : State} (l : List (Nat × Word)) {s : State}  (haln_ : p_.may .aln = true) (h_ : Keeps p_ z s) : KeepsRes p_ z (bodyAlnChanRaw l s) := by
  unfold bodyAlnChanRaw
  repeat' (first | with_reducible assumption | with_reducible exact Keeps.refl _ _ | with_reducible apply refuse_keeps | with_reducible apply ok_keeps | with_reducible apply State.writeChan_keeps | with_reducible apply KeepsRes.done | with_reducible apply KeepsRes.accepted | with_reducible apply KeepsRes.waiting | with_reducible apply KeepsOut.next | with_reducible apply keeps_foldl | with_reducible apply keeps_foldl_fst | with_reducible apply keeps_foldl_snd | intro _ _ _ | with_reducible apply keeps_ite | with_reducible apply keepsRes_ite | split | dsimp only | intro _ _ | intro _)

theorem execAlnChanRaw_keeps {p_ : Allow} {z : State} (h : Hdr) (l : List (Nat × Word)) {s : State}  (haln_ : p_.may .aln = true) (htime_ : p_.clock = true) (h_ : Keeps p_ z s) : KeepsOut p_ z (execAlnChanRaw h l s) := by
  unfold execAlnChanRaw
  repeat' (first | with_reducible assumption | with_reducible exact Keeps.refl _ _ | with_reducible apply runCmd_keeps | with_reducible apply bodyAlnChanRaw_keeps | with_reducible apply KeepsRes.done | with_reducible apply KeepsRes.accepted | with_reducible apply KeepsRes.waiting | with_reducible apply KeepsOut.next | dsimp only | intro _ _ | intro _)

theorem State.alnChanRead_keeps {p_ : Allow} {z : State} {s : State}  (h_ : Keeps p_ z s) : Keeps p_ z (State.alnChanRead s) := by
  unfold State.alnChanRead
  repeat' (first | with_reducible assumption | with_reducible exact Keeps.refl _ _ | with_reducible apply State.setReg_keeps | with_reducible apply State.setRf_keeps | dsimp only | intro _ _ | intro _)

theorem State.alnChanWrite_keeps {p_ : Allow} {z : State} {s : State}  (haln_ : p_.may .aln = true) (h_ : Keeps p_ z s) : Keeps p_ z (State.alnChanWrite s) := by
  unfold State.alnChanWrite
  repeat' (first | with_reducible assumption | with_reducible exact Keeps.refl _ _ | with_reducible apply State.setRf_keeps | with_reducible apply State.writeChan_keeps | with_reducible apply keeps_ite | split | dsimp only | intro _ _ | intro _)

theorem execAlnChanRead_keeps {p_ : Allow} {z : State} (at_ : Instant) {s : State}  (htime_ : p_.clock = true) (h_ : Keeps p_ z s) : KeepsOut p_ z (execAlnChanRead at_ s) := by
  unfold execAlnChanRead
  repeat' (first | with_reducible assumption | with_reducible exact Keeps.refl _ _ | with_reducible apply State.advance_keeps | with_reducible apply State.alnChanRead_keeps | with_reducible apply KeepsRes.done | with_reducible apply KeepsRes.accepted | with_reducible apply KeepsRes.waiting | with_reducible apply KeepsOut.next | dsimp only | intro _ _ | intro _)

theorem execAlnChanWrite_keeps {p_ : Allow} {z : State} (at_ : Instant) {s : State}  (haln_ : p_.may .aln = true) (htime_ : p_.clock = true) (h_ : Keeps p_ z s) : KeepsOut p_ z (execAlnChanWrite at_ s) := by
  unfold execAlnChanWrite
  repeat' (first | with_reducible assumption | with_reducible exact Keeps.refl _ _ | with_reducible apply State.advance_keeps | with_reducible apply State.alnChanWrite_keeps | with_reducible apply KeepsRes.done | with_reducible apply KeepsRes.accepted | with_reducible apply KeepsRes.waiting | with_reducible apply KeepsOut.next | dsimp only | intro _ _ | intro _)

theorem bodyAlnTune_keeps {p_ : Allow} {z : State} (a : AlnTuneArgs) {s : State}  (haln_ : p_.may .aln = true) (h_ : Keeps p_ z s) : KeepsRes p_ z (bodyAlnTune a s) := by
  unfold bodyAlnTune
  repeat' (first | with_reducible assumption | with_reducible exact Keeps.refl _ _ | with_reducible apply refuse_keeps | with_reducible apply State.setRf_keeps | with_reducible apply ok_keeps | with_reducible apply State.changeGroup_keeps | with_reducible refine State.changeGroup_keeps_done (by with_reducible assumption) ?_ ?_ | with_reducible refine State.changeGroup_keeps_accepted (by with_reducible assumption) ?_ ?_ | with_reducible refine State.changeGroup_keeps_waiting (by with_reducible assumption) ?_ ?_ | with_reducible apply KeepsRes.done | with_reducible apply KeepsRes.accepted | with_reducible apply KeepsRes.waiting | with_reducible apply KeepsOut.next | with_reducible apply keepsParts_intro | with_reducible exact Or.inl (by with_reducible assumption) | with_reducible exact Or.inr rfl | simp only [keeps_mk] | with_reducible refine keepsMk_of ?_ ⟨rfl, rfl⟩ (fun h_ => by first | exact h_ | simpa only [updAt_length] using h_ | with_unfolding_all rfl) ?_ ?_ | with_reducible apply keeps_ite | with_reducible apply keepsRes_ite | split | intro _ _ | dsimp only | intro _ _ | intro _)

theorem execAlnTune_keeps {p_ : Allow} {z : State} (h : Hdr) (a : AlnTuneArgs) {s : State}  (haln_ : p_.may .aln = true) (htime_ : p_.clock = true) (h_ : Keeps p_ z s) : KeepsOut p_ z (execAlnTune h a s) := by
  unfold execAlnTune
  repeat' (first | with_reducible assumption | with_reducible exact Keeps.refl _ _ | with_reducible apply runCmd_keeps | with_reducible apply bodyAlnTune_keeps | with_reducible apply KeepsRes.done | with_reducible apply KeepsRes.accepted | with_reducible apply KeepsRes.waiting | with_reducible apply KeepsOut.next | dsimp only | intro _ _ | intro _)

theorem State.grpRegWrite_keeps {p_ : Allow} {z : State} {s : State} (g i : Nat) (v : Word)  (h_ : Keeps p_ z s) : Keeps p_ z (State.grpRegWrite s g i v) := by
  unfold State.grpRegWrite
  repeat' (first | with_reducible assumption | with_reducible exact Keeps.refl _ _ | with_reducible apply State.count_keeps | with_reducible apply State.status_keeps | with_reducible apply State.setReg_keeps | with_reducible apply keeps_ite | split | dsimp only | intro _ _ | intro _)

theorem execAlnGrpRegWrite_keeps {p_ : Allow} {z : State} (at_ : Instant) (g : Fin 32) (i : Fin 3) (v : Word) {s : State}  (htime_ : p_.clock = true) (h_ : Keeps p_ z s) : KeepsOut p_ z (execAlnGrpRegWrite at_ g i v s) := by
  unfold execAlnGrpRegWrite
  repeat' (first | with_reducible assumption | with_reducible exact Keeps.refl _ _ | with_reducible apply State.advance_keeps | with_reducible apply State.grpRegWrite_keeps | with_reducible apply KeepsRes.done | with_reducible apply KeepsRes.accepted | with_reducible apply KeepsRes.waiting | with_reducible apply KeepsOut.next | dsimp only | intro _ _ | intro _)

/-! ### Machine/Speculation.lean -/

theorem bodySplStatus_keeps {p_ : Allow} {z : State} {s : State}  (h_ : Keeps p_ z s) : KeepsRes p_ z (bodySplStatus s) := by
  unfold bodySplStatus
  repeat' (first | with_reducible assumption | with_reducible exact Keeps.refl _ _ | with_reducible apply ok_keeps | with_reducible apply KeepsRes.done | with_reducible apply KeepsRes.accepted | with_reducible apply KeepsRes.waiting | with_reducible apply KeepsOut.next | dsimp only | intro _ _ | intro _)

theorem execSplStatus_keeps {p_ : Allow} {z : State} (h : Hdr) {s : State}  (htime_ : p_.clock = true) (h_ : Keeps p_ z s) : KeepsOut p_ z (execSplStatus h s) := by
  unfold execSplStatus
  repeat' (first | with_reducible assumption | with_reducible exact Keeps.refl _ _ | with_reducible apply runCmd_keeps | with_reducible apply bodySplStatus_keeps | with_reducible apply KeepsRes.done | with_reducible apply KeepsRes.accepted | with_reducible apply KeepsRes.waiting | with_reducible apply KeepsOut.next | dsimp only | intro _ _ | intro _)

theorem State.changeDepth_keeps {p_ : Allow} {z : State} {s : State} (g : Nat) (ctl : Word)  (haln_ : p_.may .aln = true) (h_ : Keeps p_ z s) : KeepsRes p_ z (State.changeDepth s g ctl) := by
  unfold State.changeDepth
  repeat' (first | with_reducible assumption | with_reducible exact Keeps.refl _ _ | with_reducible apply State.changeGroup_keeps | with_reducible refine State.changeGroup_keeps_done (by with_reducible assumption) ?_ ?_ | with_reducible refine State.changeGroup_keeps_accepted (by with_reducible assumption) ?_ ?_ | with_reducible refine State.changeGroup_keeps_waiting (by with_reducible assumption) ?_ ?_ | with_reducible apply KeepsRes.done | with_reducible apply KeepsRes.accepted | with_reducible apply KeepsRes.waiting | with_reducible apply KeepsOut.next | with_reducible apply keepsParts_intro | with_reducible exact Or.inl (by with_reducible assumption) | with_reducible exact Or.inr rfl | simp only [keeps_mk] | with_reducible refine keepsMk_of ?_ ⟨rfl, rfl⟩ (fun h_ => by first | exact h_ | simpa only [updAt_length] using h_ | with_unfolding_all rfl) ?_ ?_ | with_reducible apply keeps_ite | with_reducible apply keepsRes_ite | split | intro _ _ | dsimp only | intro _ _ | intro _)
theorem State.changeDepth_keeps_done {p_ : Allow} {z : State} {s : State} {g : Nat} {ctl : Word} {a_ : Nat} {b_ : List Word} {t_ : State} (e_ : State.changeDepth s g ctl = .done a_ b_ t_) (haln_ : p_.may .aln = true) (h_ : Keeps p_ z s) : Keeps p_ z t_ := by
  have k_ := State.changeDepth_keeps (z := z) g ctl haln_ h_
  rw [e_] at k_; exact k_
theorem State.changeDepth_keeps_accepted {p_ : Allow} {z : State} {s : State} {g : Nat} {ctl : Word} {t_ : State} (e_ : State.changeDepth s g ctl = .accepted t_) (haln_ : p_.may .aln = true) (h_ : Keeps p_ z s) : Keeps p_ z t_ := by
  have k_ := State.changeDepth_keeps (z := z) g ctl haln_ h_
  rw [e_] at k_; exact k_
theorem State.changeDepth_keeps_waiting {p_ : Allow} {z : State} {s : State} {g : Nat} {ctl : Word} {t_ : State} (e_ : State.changeDepth s g ctl = .waiting t_) (haln_ : p_.may .aln = true) (h_ : Keeps p_ z s) : Keeps p_ z t_ := by
  have k_ := State.changeDepth_keeps (z := z) g ctl haln_ h_
  rw [e_] at k_; exact k_

theorem bodySplGroup_keeps {p_ : Allow} {z : State} (g : Fin 32) (p : DepthProfile) {s : State}  (haln_ : p_.may .aln = true) (h_ : Keeps p_ z s) : KeepsRes p_ z (bodySplGroup g p s) := by
  unfold bodySplGroup
  repeat' (first | with_reducible assumption | with_reducible exact Keeps.refl _ _ | with_reducible apply State.changeDepth_keeps | with_reducible apply refuse_keeps | with_reducible refine State.changeDepth_keeps_done (by with_reducible assumption) ?_ ?_ | with_reducible refine State.changeDepth_keeps_accepted (by with_reducible assumption) ?_ ?_ | with_reducible refine State.changeDepth_keeps_waiting (by with_reducible assumption) ?_ ?_ | with_reducible apply KeepsRes.done | with_reducible apply KeepsRes.accepted | with_reducible apply KeepsRes.waiting | with_reducible apply KeepsOut.next | with_reducible apply keepsParts_intro | with_reducible exact Or.inl (by with_reducible assumption) | with_reducible exact Or.inr rfl | simp only [keeps_mk] | with_reducible refine keepsMk_of ?_ ⟨rfl, rfl⟩ (fun h_ => by first | exact h_ | simpa only [updAt_length] using h_ | with_unfolding_all rfl) ?_ ?_ | with_reducible apply keeps_ite | with_reducible apply keepsRes_ite | split | intro _ _ | dsimp only | intro _ _ | intro _)

theorem execSplGroup_keeps {p_ : Allow} {z : State} (h : Hdr) (g : Fin 32) (p : DepthProfile) {s : State}  (haln_ : p_.may .aln = true) (htime_ : p_.clock = true) (h_ : Keeps p_ z s) : KeepsOut p_ z (execSplGroup h g p s) := by
  unfold execSplGroup
  repeat' (first | with_reducible assumption | with_reducible exact Keeps.refl _ _ | with_reducible apply runCmd_keeps | with_reducible apply bodySplGroup_keeps | with_reducible apply KeepsRes.done | with_reducible apply KeepsRes.accepted | with_reducible apply KeepsRes.waiting | with_reducible apply KeepsOut.next | dsimp only | intro _ _ | intro _)

theorem State.writeClass_keeps {p_ : Allow} {z : State} {s : State} (n : Nat) (v : ClassVals)  (haln_ : p_.may .aln = true) (h_ : Keeps p_ z s) : Keeps p_ z (State.writeClass s n v) := by
  unfold State.writeClass
  repeat' (first | with_reducible assumption | with_reducible exact Keeps.refl _ _ | with_reducible apply State.setReg_keeps | with_reducible apply State.setAln_keeps | with_reducible apply keepsParts_intro | with_reducible exact Or.inl (by with_reducible assumption) | with_reducible exact Or.inr rfl | simp only [keeps_mk] | with_reducible refine keepsMk_of ?_ ⟨rfl, rfl⟩ (fun h_ => by first | exact h_ | simpa only [updAt_length] using h_ | with_unfolding_all rfl) ?_ ?_ | dsimp only | intro _ _ | intro _)

theorem bodySplClass_keeps {p_ : Allow} {z : State} (n : Fin 16) (kind : Fin 4) {s : State}  (haln_ : p_.may .aln = true) (h_ : Keeps p_ z s) : KeepsRes p_ z (bodySplClass n kind s) := by
  unfold bodySplClass
  repeat' (first | with_reducible assumption | with_reducible exact Keeps.refl _ _ | with_reducible apply refuse_keeps | with_reducible apply ok_keeps | with_reducible apply State.writeClass_keeps | with_reducible apply KeepsRes.done | with_reducible apply KeepsRes.accepted | with_reducible apply KeepsRes.waiting | with_reducible apply KeepsOut.next | with_reducible apply keepsParts_intro | with_reducible exact Or.inl (by with_reducible assumption) | with_reducible exact Or.inr rfl | simp only [keeps_mk] | with_reducible refine keepsMk_of ?_ ⟨rfl, rfl⟩ (fun h_ => by first | exact h_ | simpa only [updAt_length] using h_ | with_unfolding_all rfl) ?_ ?_ | with_reducible apply keeps_ite | with_reducible apply keepsRes_ite | split | dsimp only | intro _ _ | intro _)

theorem execSplClass_keeps {p_ : Allow} {z : State} (h : Hdr) (n : Fin 16) (kind : Fin 4) {s : State}  (haln_ : p_.may .aln = true) (htime_ : p_.clock = true) (h_ : Keeps p_ z s) : KeepsOut p_ z (execSplClass h n kind s) := by
  unfold execSplClass
  repeat' (first | with_reducible assumption | with_reducible exact Keeps.refl _ _ | with_reducible apply runCmd_keeps | with_reducible apply bodySplClass_keeps | with_reducible apply KeepsRes.done | with_reducible apply KeepsRes.accepted | with_reducible apply KeepsRes.waiting | with_reducible apply KeepsOut.next | dsimp only | intro _ _ | intro _)

theorem bodySplLedgerRead_keeps {p_ : Allow} {z : State} (lists contra : Bool) {s : State}  (h_ : Keeps p_ z s) : KeepsRes p_ z (bodySplLedgerRead lists contra s) := by
  unfold bodySplLedgerRead
  repeat' (first | with_reducible assumption | with_reducible exact Keeps.refl _ _ | with_reducible apply ok_keeps | with_reducible apply KeepsRes.done | with_reducible apply KeepsRes.accepted | with_reducible apply KeepsRes.waiting | with_reducible apply KeepsOut.next | with_reducible apply keeps_ite | with_reducible apply keepsRes_ite | split | dsimp only | intro _ _ | intro _)

theorem execSplLedgerRead_keeps {p_ : Allow} {z : State} (h : Hdr) (lists contra : Bool) {s : State}  (htime_ : p_.clock = true) (h_ : Keeps p_ z s) : KeepsOut p_ z (execSplLedgerRead h lists contra s) := by
  unfold execSplLedgerRead
  repeat' (first | with_reducible assumption | with_reducible exact Keeps.refl _ _ | with_reducible apply runCmd_keeps | with_reducible apply bodySplLedgerRead_keeps | with_reducible apply KeepsRes.done | with_reducible apply KeepsRes.accepted | with_reducible apply KeepsRes.waiting | with_reducible apply KeepsOut.next | dsimp only | intro _ _ | intro _)

theorem bodySplClassRaw_keeps {p_ : Allow} {z : State} (a : ClassRawArgs) {s : State}  (haln_ : p_.may .aln = true) (h_ : Keeps p_ z s) : KeepsRes p_ z (bodySplClassRaw a s) := by
  unfold bodySplClassRaw
  repeat' (first | with_reducible assumption | with_reducible exact Keeps.refl _ _ | with_reducible apply refuse_keeps | with_reducible apply ok_keeps | with_reducible apply State.writeClass_keeps | with_reducible apply KeepsRes.done | with_reducible apply KeepsRes.accepted | with_reducible apply KeepsRes.waiting | with_reducible apply KeepsOut.next | with_reducible apply keeps_ite | with_reducible apply keepsRes_ite | split | dsimp only | intro _ _ | intro _)

theorem execSplClassRaw_keeps {p_ : Allow} {z : State} (h : Hdr) (a : ClassRawArgs) {s : State}  (haln_ : p_.may .aln = true) (htime_ : p_.clock = true) (h_ : Keeps p_ z s) : KeepsOut p_ z (execSplClassRaw h a s) := by
  unfold execSplClassRaw
  repeat' (first | with_reducible assumption | with_reducible exact Keeps.refl _ _ | with_reducible apply runCmd_keeps | with_reducible apply bodySplClassRaw_keeps | with_reducible apply KeepsRes.done | with_reducible apply KeepsRes.accepted | with_reducible apply KeepsRes.waiting | with_reducible apply KeepsOut.next | dsimp only | intro _ _ | intro _)

theorem bodySplGroupRaw_keeps {p_ : Allow} {z : State} (g : Fin 32) (depth : Fin 64) (max64 : Bool) {s : State}  (haln_ : p_.may .aln = true) (h_ : Keeps p_ z s) : KeepsRes p_ z (bodySplGroupRaw g depth max64 s) := by
  unfold bodySplGroupRaw
  repeat' (first | with_reducible assumption | with_reducible exact Keeps.refl _ _ | with_reducible apply State.changeDepth_keeps | with_reducible refine State.changeDepth_keeps_done (by with_reducible assumption) ?_ ?_ | with_reducible refine State.changeDepth_keeps_accepted (by with_reducible assumption) ?_ ?_ | with_reducible refine State.changeDepth_keeps_waiting (by with_reducible assumption) ?_ ?_ | with_reducible apply KeepsRes.done | with_reducible apply KeepsRes.accepted | with_reducible apply KeepsRes.waiting | with_reducible apply KeepsOut.next | dsimp only | intro _ _ | intro _)

theorem execSplGroupRaw_keeps {p_ : Allow} {z : State} (h : Hdr) (g : Fin 32) (depth : Fin 64) (max64 : Bool) {s : State}  (haln_ : p_.may .aln = true) (htime_ : p_.clock = true) (h_ : Keeps p_ z s) : KeepsOut p_ z (execSplGroupRaw h g depth max64 s) := by
  unfold execSplGroupRaw
  repeat' (first | with_reducible assumption | with_reducible exact Keeps.refl _ _ | with_reducible apply runCmd_keeps | with_reducible apply bodySplGroupRaw_keeps | with_reducible apply KeepsRes.done | with_reducible apply KeepsRes.accepted | with_reducible apply KeepsRes.waiting | with_reducible apply KeepsOut.next | dsimp only | intro _ _ | intro _)

theorem State.storeClassWord_keeps {p_ : Allow} {z : State} {s : State} (a : Nat) (v : Word)  (h_ : Keeps p_ z s) : Keeps p_ z (State.storeClassWord s a v) := by
  unfold State.storeClassWord
  repeat' (first | with_reducible assumption | with_reducible exact Keeps.refl _ _ | with_reducible apply State.setReg_keeps | with_reducible apply keeps_ite | split | dsimp only | intro _ _ | intro _)

theorem State.classWrite_keeps {p_ : Allow} {z : State} {s : State} (l : List (Nat × Word))  (haln_ : p_.may .aln = true) (h_ : Keeps p_ z s) : Keeps p_ z (State.classWrite s l).2 := by
  unfold State.classWrite
  repeat' (first | with_reducible assumption | with_reducible exact Keeps.refl _ _ | with_reducible apply State.storeClassWord_keeps | with_reducible apply State.setAln_keeps | with_reducible apply keeps_foldl | with_reducible apply keeps_foldl_fst | with_reducible apply keeps_foldl_snd | intro _ _ _ | with_reducible apply keepsParts_intro | with_reducible exact Or.inl (by with_reducible assumption) | with_reducible exact Or.inr rfl | simp only [keeps_mk] | with_reducible refine keepsMk_of ?_ ⟨rfl, rfl⟩ (fun h_ => by first | exact h_ | simpa only [updAt_length] using h_ | with_unfolding_all rfl) ?_ ?_ | with_reducible apply keeps_ite | split | dsimp only | intro _ _ | intro _)
theorem State.classWrite_keeps_of {p_ : Allow} {z : State} {s : State} {l : List (Nat × Word)} {a_ : _} {t_ : State} (e_ : State.classWrite s l = (a_, t_)) (haln_ : p_.may .aln = true) (h_ : Keeps p_ z s) : Keeps p_ z t_ := by
  have k_ := State.classWrite_keeps (z := z) l haln_ h_
  rw [e_] at k_; exact k_

theorem execSplClassRegWrite_keeps {p_ : Allow} {z : State} (at_ : Instant) (l : List (Fin 16 × Fin 4 × Word)) {s : State}  (haln_ : p_.may .aln = true) (htime_ : p_.clock = true) (h_ : Keeps p_ z s) : KeepsOut p_ z (execSplClassRegWrite at_ l s) := by
  unfold execSplClassRegWrite
  repeat' (first | with_reducible assumption | with_reducible exact Keeps.refl _ _ | with_reducible apply State.advance_keeps | with_reducible apply State.classWrite_keeps | with_reducible refine State.classWrite_keeps_of (by with_reducible assumption) ?_ ?_ | with_reducible apply KeepsRes.done | with_reducible apply KeepsRes.accepted | with_reducible apply KeepsRes.waiting | with_reducible apply KeepsOut.next | dsimp only | intro _ _ | intro _)

/-! ### Machine/Island.lean -/

theorem State.stageModel_keeps {p_ : Allow} {z : State} {s : State} (m : Model) (casc : Bool)  (hisl_ : p_.may .isl = true) (h_ : Keeps p_ z s) : KeepsRes p_ z (State.stageModel s m casc) := by
  unfold State.stageModel
  repeat' (first | with_reducible assumption | with_reducible exact Keeps.refl _ _ | with_reducible apply refuse_keeps | with_reducible apply ok_keeps | with_reducible apply State.setIsl_keeps | with_reducible apply State.activateModel_keeps | with_reducible apply KeepsRes.done | with_reducible apply KeepsRes.accepted | with_reducible apply KeepsRes.waiting | with_reducible apply KeepsOut.next | with_reducible apply keepsParts_intro | with_reducible exact Or.inl (by with_reducible assumption) | with_reducible exact Or.inr rfl | simp only [keeps_mk] | with_reducible refine keepsMk_of ?_ ⟨rfl, rfl⟩ (fun h_ => by first | exact h_ | simpa only [updAt_length] using h_ | with_unfolding_all rfl) ?_ ?_ | with_reducible apply keeps_ite | with_reducible apply keepsRes_ite | split | dsimp only | intro _ _ | intro _)
theorem State.stageModel_keeps_done {p_ : Allow} {z : State} {s : State} {m : Model} {casc : Bool} {a_ : Nat} {b_ : List Word} {t_ : State} (e_ : State.stageModel s m casc = .done a_ b_ t_) (hisl_ : p_.may .isl = true) (h_ : Keeps p_ z s) : Keeps p_ z t_ := by
  have k_ := State.stageModel_keeps (z := z) m casc hisl_ h_
  rw [e_] at k_; exact k_
theorem State.stageModel_keeps_accepted {p_ : Allow} {z : State} {s : State} {m : Model} {casc : Bool} {t_ : State} (e_ : State.stageModel s m casc = .accepted t_) (hisl_ : p_.may .isl = true) (h_ : Keeps p_ z s) : Keeps p_ z t_ := by
  have k_ := State.stageModel_keeps (z := z) m casc hisl_ h_
  rw [e_] at k_; exact k_
theorem State.stageModel_keeps_waiting {p_ : Allow} {z : State} {s : State} {m : Model} {casc : Bool} {t_ : State} (e_ : State.stageModel s m casc = .waiting t_) (hisl_ : p_.may .isl = true) (h_ : Keeps p_ z s) : Keeps p_ z t_ := by
  have k_ := State.stageModel_keeps (z := z) m casc hisl_ h_
  rw [e_] at k_; exact k_

theorem bodyIslModelLoad_keeps {p_ : Allow} {z : State} (b : ModelBuffer) (casc : Bool) {s : State}  (hisl_ : p_.may .isl = true) (h_ : Keeps p_ z s) : KeepsRes p_ z (bodyIslModelLoad b casc s) := by
  unfold bodyIslModelLoad
  repeat' (first | with_reducible assumption | with_reducible exact Keeps.refl _ _ | with_reducible apply refuse_keeps | with_reducible apply State.stageModel_keeps | with_reducible refine State.stageModel_keeps_done (by with_reducible assumption) ?_ ?_ | with_reducible refine State.stageModel_keeps_accepted (by with_reducible assumption) ?_ ?_ | with_reducible refine State.stageModel_keeps_waiting (by with_reducible assumption) ?_ ?_ | with_reducible apply KeepsRes.done | with_reducible apply KeepsRes.accepted | with_reducible apply KeepsRes.waiting | with_reducible apply KeepsOut.next | with_reducible apply keeps_ite | with_reducible apply keepsRes_ite | split | dsimp only | intro _ _ | intro _)

theorem execIslModelLoad_keeps {p_ : Allow} {z : State} (h : Hdr) (b : ModelBuffer) {s : State}  (hisl_ : p_.may .isl = true) (htime_ : p_.clock = true) (h_ : Keeps p_ z s) : KeepsOut p_ z (execIslModelLoad h b s) := by
  unfold execIslModelLoad
  repeat' (first | with_reducible assumption | with_reducible exact Keeps.refl _ _ | with_reducible apply runCmd_keeps | with_reducible apply bodyIslModelLoad_keeps | with_reducible apply KeepsRes.done | with_reducible apply KeepsRes.accepted | with_reducible apply KeepsRes.waiting | with_reducible apply KeepsOut.next | dsimp only | intro _ _ | intro _)

theorem bodyIslModelActivate_keeps {p_ : Allow} {z : State} (a : IslActivateArgs) (casc : Bool) {s : State}  (hisl_ : p_.may .isl = true) (h_ : Keeps p_ z s) : KeepsRes p_ z (bodyIslModelActivate a casc s) := by
  unfold bodyIslModelActivate
  repeat' (first | with_reducible assumption | with_reducible exact Keeps.refl _ _ | with_reducible apply State.stageModel_keeps | with_reducible refine State.stageModel_keeps_done (by with_reducible assumption) ?_ ?_ | with_reducible refine State.stageModel_keeps_accepted (by with_reducible assumption) ?_ ?_ | with_reducible refine State.stageModel_keeps_waiting (by with_reducible assumption) ?_ ?_ | with_reducible apply KeepsRes.done | with_reducible apply KeepsRes.accepted | with_reducible apply KeepsRes.waiting | with_reducible apply KeepsOut.next | with_reducible apply keepsParts_intro | with_reducible exact Or.inl (by with_reducible assumption) | with_reducible exact Or.inr rfl | simp only [keeps_mk] | with_reducible refine keepsMk_of ?_ ⟨rfl, rfl⟩ (fun h_ => by first | exact h_ | simpa only [updAt_length] using h_ | with_unfolding_all rfl) ?_ ?_ | dsimp only | intro _ _ | intro _)

theorem execIslModelActivate_keeps {p_ : Allow} {z : State} (h : Hdr) (a : IslActivateArgs) {s : State}  (hisl_ : p_.may .isl = true) (htime_ : p_.clock = true) (h_ : Keeps p_ z s) : KeepsOut p_ z (execIslModelActivate h a s) := by
  unfold execIslModelActivate
  repeat' (first | with_reducible assumption | with_reducible exact Keeps.refl _ _ | with_reducible apply runCmd_keeps | with_reducible apply bodyIslModelActivate_keeps | with_reducible apply KeepsRes.done | with_reducible apply KeepsRes.accepted | with_reducible apply KeepsRes.waiting | with_reducible apply KeepsOut.next | dsimp only | intro _ _ | intro _)

theorem execIslModelEffective_keeps {p_ : Allow} {z : State} {s : State}  (hisl_ : p_.may .isl = true) (htime_ : p_.clock = true) (h_ : Keeps p_ z s) : KeepsOut p_ z (execIslModelEffective s) := by
  unfold execIslModelEffective
  repeat' (first | with_reducible assumption | with_reducible exact Keeps.refl _ _ | with_reducible apply State.advance_keeps | with_reducible apply State.activateModel_keeps | with_reducible apply KeepsRes.done | with_reducible apply KeepsRes.accepted | with_reducible apply KeepsRes.waiting | with_reducible apply KeepsOut.next | with_reducible apply keepsParts_intro | with_reducible exact Or.inl (by with_reducible assumption) | with_reducible exact Or.inr rfl | simp only [keeps_mk] | with_reducible refine keepsMk_of ?_ ⟨rfl, rfl⟩ (fun h_ => by first | exact h_ | simpa only [updAt_length] using h_ | with_unfolding_all rfl) ?_ ?_ | split | intro _ _ | dsimp only | intro _ _ | intro _)

theorem bodyIslTblRaw_keeps {p_ : Allow} {z : State} (l : List IslRawRec) {s : State}  (hisl_ : p_.may .isl = true) (h_ : Keeps p_ z s) : KeepsRes p_ z (bodyIslTblRaw l s) := by
  unfold bodyIslTblRaw
  repeat' (first | with_reducible assumption | with_reducible exact Keeps.refl _ _ | with_reducible apply refuse_keeps | with_reducible apply ok_keeps | with_reducible apply State.setIsl_keeps | with_reducible apply KeepsRes.done | with_reducible apply KeepsRes.accepted | with_reducible apply KeepsRes.waiting | with_reducible apply KeepsOut.next | with_reducible apply keeps_foldl | with_reducible apply keeps_foldl_fst | with_reducible apply keeps_foldl_snd | intro _ _ _ | with_reducible apply keepsParts_intro | with_reducible exact Or.inl (by with_reducible assumption) | with_reducible exact Or.inr rfl | simp only [keeps_mk] | with_reducible refine keepsMk_of ?_ ⟨rfl, rfl⟩ (fun h_ => by first | exact h_ | simpa only [updAt_length] using h_ | with_unfolding_all rfl) ?_ ?_ | with_reducible apply keeps_ite | with_reducible apply keepsRes_ite | split | dsimp only | intro _ _ | intro _)

theorem execIslTblRaw_keeps {p_ : Allow} {z : State} (h : Hdr) (l : List IslRawRec) {s : State}  (hisl_ : p_.may .isl = true) (htime_ : p_.clock = true) (h_ : Keeps p_ z s) : KeepsOut p_ z (execIslTblRaw h l s) := by
  unfold execIslTblRaw
  repeat' (first | with_reducible assumption | with_reducible exact Keeps.refl _ _ | with_reducible apply runCmd_keeps | with_reducible apply bodyIslTblRaw_keeps | with_reducible apply KeepsRes.done | with_reducible apply KeepsRes.accepted | with_reducible apply KeepsRes.waiting | with_reducible apply KeepsOut.next | dsimp only | intro _ _ | intro _)

theorem State.islTblRead_keeps {p_ : Allow} {z : State} {s : State} (m : Option Model)  (h_ : Keeps p_ z s) : Keeps p_ z (State.islTblRead s m) := by
  unfold State.islTblRead
  repeat' (first | with_reducible assumption | with_reducible exact Keeps.refl _ _ | with_reducible apply State.setRf_keeps | with_reducible apply State.setReg_keeps | with_reducible apply keeps_foldl | with_reducible apply keeps_foldl_fst | with_reducible apply keeps_foldl_snd | intro _ _ _ | with_reducible apply keepsParts_intro | with_reducible exact Or.inl (by with_reducible assumption) | with_reducible exact Or.inr rfl | simp only [keeps_mk] | with_reducible refine keepsMk_of ?_ ⟨rfl, rfl⟩ (fun h_ => by first | exact h_ | simpa only [updAt_length] using h_ | with_unfolding_all rfl) ?_ ?_ | with_reducible apply keeps_ite | split | intro _ _ | dsimp only | intro _ _ | intro _)

theorem execIslTblReadActive_keeps {p_ : Allow} {z : State} (at_ : Instant) {s : State}  (htime_ : p_.clock = true) (h_ : Keeps p_ z s) : KeepsOut p_ z (execIslTblReadActive at_ s) := by
  unfold execIslTblReadActive
  repeat' (first | with_reducible assumption | with_reducible exact Keeps.refl _ _ | with_reducible apply State.advance_keeps | with_reducible apply State.islTblRead_keeps | with_reducible apply KeepsRes.done | with_reducible apply KeepsRes.accepted | with_reducible apply KeepsRes.waiting | with_reducible apply KeepsOut.next | dsimp only | intro _ _ | intro _)

theorem execIslTblReadStaged_keeps {p_ : Allow} {z : State} (at_ : Instant) {s : State}  (htime_ : p_.clock = true) (h_ : Keeps p_ z s) : KeepsOut p_ z (execIslTblReadStaged at_ s) := by
  unfold execIslTblReadStaged
  repeat' (first | with_reducible assumption | with_reducible exact Keeps.refl _ _ | with_reducible apply State.advance_keeps | with_reducible apply State.islTblRead_keeps | with_reducible apply KeepsRes.done | with_reducible apply KeepsRes.accepted | with_reducible apply KeepsRes.waiting | with_reducible apply KeepsOut.next | dsimp only | intro _ _ | intro _)

theorem State.islTblWrite_keeps {p_ : Allow} {z : State} {s : State}  (hisl_ : p_.may .isl = true) (h_ : Keeps p_ z s) : Keeps p_ z (State.islTblWrite s) := by
  unfold State.islTblWrite
  repeat' (first | with_reducible assumption | with_reducible exact Keeps.refl _ _ | with_reducible apply State.setRf_keeps | with_reducible apply State.setIsl_keeps | with_reducible apply keepsParts_intro | with_reducible exact Or.inl (by with_reducible assumption) | with_reducible exact Or.inr rfl | simp only [keeps_mk] | with_reducible refine keepsMk_of ?_ ⟨rfl, rfl⟩ (fun h_ => by first | exact h_ | simpa only [updAt_length] using h_ | with_unfolding_all rfl) ?_ ?_ | with_reducible apply keeps_ite | split | dsimp only | intro _ _ | intro _)

theorem execIslTblWriteStaged_keeps {p_ : Allow} {z : State} (at_ : Instant) {s : State}  (hisl_ : p_.may .isl = true) (htime_ : p_.clock = true) (h_ : Keeps p_ z s) : KeepsOut p_ z (execIslTblWriteStaged at_ s) := by
  unfold execIslTblWriteStaged
  repeat' (first | with_reducible assumption | with_reducible exact Keeps.refl _ _ | with_reducible apply State.advance_keeps | with_reducible apply State.islTblWrite_keeps | with_reducible apply KeepsRes.done | with_reducible apply KeepsRes.accepted | with_reducible apply KeepsRes.waiting | with_reducible apply KeepsOut.next | dsimp only | intro _ _ | intro _)

theorem bodyIslProfile_keeps {p_ : Allow} {z : State} (a : IslProfileArgs) {s : State}  (h_ : Keeps p_ z s) : KeepsRes p_ z (bodyIslProfile a s) := by
  unfold bodyIslProfile
  repeat' (first | with_reducible assumption | with_reducible exact Keeps.refl _ _ | with_reducible apply refuse_keeps | with_reducible apply ok_keeps | with_reducible apply State.setReg_keeps | with_reducible apply State.setRf_keeps | with_reducible apply KeepsRes.done | with_reducible apply KeepsRes.accepted | with_reducible apply KeepsRes.waiting | with_reducible apply KeepsOut.next | with_reducible apply keeps_ite | with_reducible apply keepsRes_ite | split | dsimp only | intro _ _ | intro _)

theorem execIslProfile_keeps {p_ : Allow} {z : State} (h : Hdr) (a : IslProfileArgs) {s : State}  (htime_ : p_.clock = true) (h_ : Keeps p_ z s) : KeepsOut p_ z (execIslProfile h a s) := by
  unfold execIslProfile
  repeat' (first | with_reducible assumption | with_reducible exact Keeps.refl _ _ | with_reducible apply runCmd_keeps | with_reducible apply bodyIslProfile_keeps | with_reducible apply KeepsRes.done | with_reducible apply KeepsRes.accepted | with_reducible apply KeepsRes.waiting | with_reducible apply KeepsOut.next | dsimp only | intro _ _ | intro _)

theorem bodyIslTune_keeps {p_ : Allow} {z : State} (a : IslTuneArgs) {s : State}  (h_ : Keeps p_ z s) : KeepsRes p_ z (bodyIslTune a s) := by
  unfold bodyIslTune
  repeat' (first | with_reducible assumption | with_reducible exact Keeps.refl _ _ | with_reducible apply refuse_keeps | with_reducible apply ok_keeps | with_reducible apply State.setSome_keeps | with_reducible apply KeepsRes.done | with_reducible apply KeepsRes.accepted | with_reducible apply KeepsRes.waiting | with_reducible apply KeepsOut.next | with_reducible apply keeps_ite | with_reducible apply keepsRes_ite | split | dsimp only | intro _ _ | intro _)

theorem execIslTune_keeps {p_ : Allow} {z : State} (h : Hdr) (a : IslTuneArgs) {s : State}  (htime_ : p_.clock = true) (h_ : Keeps p_ z s) : KeepsOut p_ z (execIslTune h a s) := by
  unfold execIslTune
  repeat' (first | with_reducible assumption | with_reducible exact Keeps.refl _ _ | with_reducible apply runCmd_keeps | with_reducible apply bodyIslTune_keeps | with_reducible apply KeepsRes.done | with_reducible apply KeepsRes.accepted | with_reducible apply KeepsRes.waiting | with_reducible apply KeepsOut.next | dsimp only | intro _ _ | intro _)

theorem bodyIslStatus_keeps {p_ : Allow} {z : State} {s : State}  (h_ : Keeps p_ z s) : KeepsRes p_ z (bodyIslStatus s) := by
  unfold bodyIslStatus
  repeat' (first | with_reducible assumption | with_reducible exact Keeps.refl _ _ | with_reducible apply ok_keeps | with_reducible apply KeepsRes.done | with_reducible apply KeepsRes.accepted | with_reducible apply KeepsRes.waiting | with_reducible apply KeepsOut.next | dsimp only | intro _ _ | intro _)

theorem execIslStatus_keeps {p_ : Allow} {z : State} (h : Hdr) {s : State}  (htime_ : p_.clock = true) (h_ : Keeps p_ z s) : KeepsOut p_ z (execIslStatus h s) := by
  unfold execIslStatus
  repeat' (first | with_reducible assumption | with_reducible exact Keeps.refl _ _ | with_reducible apply runCmd_keeps | with_reducible apply bodyIslStatus_keeps | with_reducible apply KeepsRes.done | with_reducible apply KeepsRes.accepted | with_reducible apply KeepsRes.waiting | with_reducible apply KeepsOut.next | dsimp only | intro _ _ | intro _)

theorem bodyIslIslandsRead_keeps {p_ : Allow} {z : State} (labels : Bool) {s : State}  (h_ : Keeps p_ z s) : KeepsRes p_ z (bodyIslIslandsRead labels s) := by
  unfold bodyIslIslandsRead
  repeat' (first | with_reducible assumption | with_reducible exact Keeps.refl _ _ | with_reducible apply ok_keeps | with_reducible apply KeepsRes.done | with_reducible apply KeepsRes.accepted | with_reducible apply KeepsRes.waiting | with_reducible apply KeepsOut.next | with_reducible apply keeps_ite | with_reducible apply keepsRes_ite | split | dsimp only | intro _ _ | intro _)

theorem execIslIslandsRead_keeps {p_ : Allow} {z : State} (h : Hdr) (labels : Bool) {s : State}  (htime_ : p_.clock = true) (h_ : Keeps p_ z s) : KeepsOut p_ z (execIslIslandsRead h labels s) := by
  unfold execIslIslandsRead
  repeat' (first | with_reducible assumption | with_reducible exact Keeps.refl _ _ | with_reducible apply runCmd_keeps | with_reducible apply bodyIslIslandsRead_keeps | with_reducible apply KeepsRes.done | with_reducible apply KeepsRes.accepted | with_reducible apply KeepsRes.waiting | with_reducible apply KeepsOut.next | dsimp only | intro _ _ | intro _)

theorem State.takePacket_keeps {p_ : Allow} {z : State} {s : State} (p : Packet)  (hisl_ : p_.may .isl = true) (h_ : Keeps p_ z s) : Keeps p_ z (State.takePacket s p) := by
  unfold State.takePacket
  repeat' (first | with_reducible assumption | with_reducible exact Keeps.refl _ _ | with_reducible apply State.islCount_keeps | with_reducible apply State.status_keeps | with_reducible apply State.setIsl_keeps | with_reducible apply keepsParts_intro | with_reducible exact Or.inl (by with_reducible assumption) | with_reducible exact Or.inr rfl | simp only [keeps_mk] | with_reducible refine keepsMk_of ?_ ⟨rfl, rfl⟩ (fun h_ => by first | exact h_ | simpa only [updAt_length] using h_ | with_unfolding_all rfl) ?_ ?_ | with_reducible apply keeps_ite | split | intro _ _ | dsimp only | intro _ _ | intro _)

theorem execSummaryPacketReceive_keeps {p_ : Allow} {z : State} (at_ : Instant) (p : Packet) {s : State}  (hisl_ : p_.may .isl = true) (htime_ : p_.clock = true) (h_ : Keeps p_ z s) : KeepsOut p_ z (execSummaryPacketReceive at_ p s) := by
  unfold execSummaryPacketReceive
  repeat' (first | with_reducible assumption | with_reducible exact Keeps.refl _ _ | with_reducible apply State.advance_keeps | with_reducible apply State.takePacket_keeps | with_reducible apply KeepsRes.done | with_reducible apply KeepsRes.accepted | with_reducible apply KeepsRes.waiting | with_reducible apply KeepsOut.next | with_reducible apply keeps_ite | with_reducible apply keepsOut_ite | split | dsimp only | intro _ _ | intro _)

theorem State.batchAll_keeps {p_ : Allow} {z : State} {s : State} (g : Nat) (l : List (Nat × Instant × List AlarmChange))  (hbatches_ : p_.may .batches = true) (h_ : Keeps p_ z s) : Keeps p_ z (State.batchAll s g l) := by
  unfold State.batchAll
  repeat' (first | with_reducible assumption | with_reducible exact Keeps.refl _ _ | with_reducible apply State.batch_keeps | with_reducible apply keeps_foldl | with_reducible apply keeps_foldl_fst | with_reducible apply keeps_foldl_snd | intro _ _ _ | dsimp only | intro _ _ | intro _)

theorem State.formView_keeps {p_ : Allow} {z : State} {s : State} (m : Model) (r : RingInst) (x : Snapshot)  (hevents_ : p_.may .events = true) (hisl_ : p_.may .isl = true) (hbatches_ : p_.may .batches = true) (h_ : Keeps p_ z s) : Keeps p_ z (State.formView s m r x) := by
  unfold State.formView
  repeat' (first | with_reducible assumption | with_reducible exact Keeps.refl _ _ | with_reducible apply State.setIsl_keeps | with_reducible apply State.islProv_keeps | with_reducible apply State.issueBarrier_keeps | with_reducible apply State.islHandOver_keeps | with_reducible apply State.batch_keeps | with_reducible refine State.islHandOver_keeps_of (by with_reducible assumption) ?_ ?_ ?_ | with_reducible apply keepsParts_intro | with_reducible exact Or.inl (by with_reducible assumption) | with_reducible exact Or.inr rfl | simp only [keeps_mk] | with_reducible refine keepsMk_of ?_ ⟨rfl, rfl⟩ (fun h_ => by first | exact h_ | simpa only [updAt_length] using h_ | with_unfolding_all rfl) ?_ ?_ | with_reducible apply keeps_ite | split | dsimp only | intro _ _ | intro _)

theorem execProvisionalViewForm_keeps {p_ : Allow} {z : State} (at_ : Instant) {s0 : State}  (hevents_ : p_.may .events = true) (hisl_ : p_.may .isl = true) (hbatches_ : p_.may .batches = true) (htime_ : p_.clock = true) (h_ : Keeps p_ z s0) : KeepsOut p_ z (execProvisionalViewForm at_ s0) := by
  unfold execProvisionalViewForm
  repeat' (first | with_reducible assumption | with_reducible exact Keeps.refl _ _ | with_reducible apply State.advance_keeps | with_reducible apply State.formView_keeps | with_reducible apply KeepsRes.done | with_reducible apply KeepsRes.accepted | with_reducible apply KeepsRes.waiting | with_reducible apply KeepsOut.next | with_reducible apply keepsParts_intro | with_reducible exact Or.inl (by with_reducible assumption) | with_reducible exact Or.inr rfl | simp only [keeps_mk] | with_reducible refine keepsMk_of ?_ ⟨rfl, rfl⟩ (fun h_ => by first | exact h_ | simpa only [updAt_length] using h_ | with_unfolding_all rfl) ?_ ?_ | with_reducible apply keeps_ite | with_reducible apply keepsOut_ite | split | intro _ _ | dsimp only | intro _ _ | intro _)

theorem execRingWaitExpiry_keeps {p_ : Allow} {z : State} {s : State}  (hevents_ : p_.may .events = true) (hisl_ : p_.may .isl = true) (hbatches_ : p_.may .batches = true) (htime_ : p_.clock = true) (h_ : Keeps p_ z s) : KeepsOut p_ z (execRingWaitExpiry s) := by
  unfold execRingWaitExpiry
  repeat' (first | with_reducible assumption | with_reducible exact Keeps.refl _ _ | with_reducible apply State.advance_keeps | with_reducible apply State.formView_keeps | with_reducible apply KeepsRes.done | with_reducible apply KeepsRes.accepted | with_reducible apply KeepsRes.waiting | with_reducible apply KeepsOut.next | with_reducible apply keepsParts_intro | with_reducible exact Or.inl (by with_reducible assumption) | with_reducible exact Or.inr rfl | simp only [keeps_mk] | with_reducible refine keepsMk_of ?_ ⟨rfl, rfl⟩ (fun h_ => by first | exact h_ | simpa only [updAt_length] using h_ | with_unfolding_all rfl) ?_ ?_ | split | intro _ _ | dsimp only | intro _ _ | intro _)

theorem State.ringCommit_keeps {p_ : Allow} {z : State} {s : State} (m : Model) (r : RingInst) (x : Snapshot)  (hevents_ : p_.may .events = true) (hisl_ : p_.may .isl = true) (hbatches_ : p_.may .batches = true) (h_ : Keeps p_ z s) : Keeps p_ z (State.ringCommit s m r x) := by
  unfold State.ringCommit
  repeat' (first | with_reducible assumption | with_reducible exact Keeps.refl _ _ | with_reducible apply State.islCommitEval_keeps | with_reducible apply State.batchAll_keeps | with_reducible apply State.setIsl_keeps | with_reducible refine State.islCommitEval_keeps_of (by with_reducible assumption) ?_ ?_ ?_ | with_reducible apply keepsParts_intro | with_reducible exact Or.inl (by with_reducible assumption) | with_reducible exact Or.inr rfl | simp only [keeps_mk] | with_reducible refine keepsMk_of ?_ ⟨rfl, rfl⟩ (fun h_ => by first | exact h_ | simpa only [updAt_length] using h_ | with_unfolding_all rfl) ?_ ?_ | with_reducible apply keeps_ite | split | intro _ _ | dsimp only | intro _ _ | intro _)

theorem execRingCommit_keeps {p_ : Allow} {z : State} (at_ : Instant) {s0 : State}  (hevents_ : p_.may .events = true) (hisl_ : p_.may .isl = true) (hbatches_ : p_.may .batches = true) (htime_ : p_.clock = true) (h_ : Keeps p_ z s0) : KeepsOut p_ z (execRingCommit at_ s0) := by
  unfold execRingCommit
  repeat' (first | with_reducible assumption | with_reducible exact Keeps.refl _ _ | with_reducible apply State.advance_keeps | with_reducible apply State.ringCommit_keeps | with_reducible apply KeepsRes.done | with_reducible apply KeepsRes.accepted | with_reducible apply KeepsRes.waiting | with_reducible apply KeepsOut.next | with_reducible apply keepsParts_intro | with_reducible exact Or.inl (by with_reducible assumption) | with_reducible exact Or.inr rfl | simp only [keeps_mk] | with_reducible refine keepsMk_of ?_ ⟨rfl, rfl⟩ (fun h_ => by first | exact h_ | simpa only [updAt_length] using h_ | with_unfolding_all rfl) ?_ ?_ | with_reducible apply keeps_ite | with_reducible apply keepsOut_ite | split | intro _ _ | dsimp only | intro _ _ | intro _)

theorem execRingCloseExpiry_keeps {p_ : Allow} {z : State} {s : State}  (hevents_ : p_.may .events = true) (hisl_ : p_.may .isl = true) (hbatches_ : p_.may .batches = true) (htime_ : p_.clock = true) (h_ : Keeps p_ z s) : KeepsOut p_ z (execRingCloseExpiry s) := by
  unfold execRingCloseExpiry
  repeat' (first | with_reducible assumption | with_reducible exact Keeps.refl _ _ | with_reducible apply State.advance_keeps | with_reducible apply State.ringCommit_keeps | with_reducible apply KeepsRes.done | with_reducible apply KeepsRes.accepted | with_reducible apply KeepsRes.waiting | with_reducible apply KeepsOut.next | with_reducible apply keepsParts_intro | with_reducible exact Or.inl (by with_reducible assumption) | with_reducible exact Or.inr rfl | simp only [keeps_mk] | with_reducible refine keepsMk_of ?_ ⟨rfl, rfl⟩ (fun h_ => by first | exact h_ | simpa only [updAt_length] using h_ | with_unfolding_all rfl) ?_ ?_ | split | intro _ _ | dsimp only | intro _ _ | intro _)

/-! ### Machine/Nose.lean -/

theorem State.popNose_keeps {p_ : Allow} {z : State} {s : State}  (haln_ : p_.may .aln = true) (h_ : Keeps p_ z s) : Keeps p_ z (State.popNose s) := by
  unfold State.popNose
  repeat' (first | with_reducible assumption | with_reducible exact Keeps.refl _ _ | with_reducible apply State.setAln_keeps | with_reducible apply keepsParts_intro | with_reducible exact Or.inl (by with_reducible assumption) | with_reducible exact Or.inr rfl | simp only [keeps_mk] | with_reducible refine keepsMk_of ?_ ⟨rfl, rfl⟩ (fun h_ => by first | exact h_ | simpa only [updAt_length] using h_ | with_unfolding_all rfl) ?_ ?_ | dsimp only | intro _ _ | intro _)

theorem State.noseProv_keeps {p_ : Allow} {z : State} {s : State} (x : Snapshot)  (hevents_ : p_.may .events = true) (hlim_ : p_.may .lim = true) (hisl_ : p_.may .isl = true) (hbatches_ : p_.may .batches = true) (h_ : Keeps p_ z s) : Keeps p_ z (State.noseProv s x) := by
  unfold State.noseProv
  repeat' (first | with_reducible assumption | with_reducible exact Keeps.refl _ _ | with_reducible apply State.limProv_keeps | with_reducible apply State.limHandOver_keeps | with_reducible apply State.islProv_keeps | with_reducible apply State.issueBarrier_keeps | with_reducible apply State.islHandOver_keeps | with_reducible apply State.batch_keeps | with_reducible refine State.limHandOver_keeps_of (by with_reducible assumption) ?_ ?_ ?_ | with_reducible refine State.islHandOver_keeps_of (by with_reducible assumption) ?_ ?_ ?_ | with_reducible apply keepsParts_intro | with_reducible exact Or.inl (by with_reducible assumption) | with_reducible exact Or.inr rfl | simp only [keeps_mk] | with_reducible refine keepsMk_of ?_ ⟨rfl, rfl⟩ (fun h_ => by first | exact h_ | simpa only [updAt_length] using h_ | with_unfolding_all rfl) ?_ ?_ | with_reducible apply keeps_ite | split | intro _ _ | dsimp only | intro _ _ | intro _)

theorem State.noseCommit_keeps {p_ : Allow} {z : State} {s : State} (x : Snapshot) (confirmed : Bool)  (hevents_ : p_.may .events = true) (haln_ : p_.may .aln = true) (hlim_ : p_.may .lim = true) (hisl_ : p_.may .isl = true) (hbatches_ : p_.may .batches = true) (h_ : Keeps p_ z s) : Keeps p_ z (State.noseCommit s x confirmed) := by
  unfold State.noseCommit
  repeat' (first | with_reducible assumption | with_reducible exact Keeps.refl _ _ | with_reducible apply State.limCommit_keeps | with_reducible apply State.islCommit_keeps | with_reducible apply State.batchAll_keeps | with_reducible apply State.noteResult_keeps | with_reducible apply State.resolveAlarms_keeps | with_reducible refine State.limCommit_keeps_of (by with_reducible assumption) ?_ ?_ ?_ | with_reducible refine State.islCommit_keeps_of (by with_reducible assumption) ?_ ?_ ?_ | with_reducible apply keepsParts_intro | with_reducible exact Or.inl (by with_reducible assumption) | with_reducible exact Or.inr rfl | simp only [keeps_mk] | with_reducible refine keepsMk_of ?_ ⟨rfl, rfl⟩ (fun h_ => by first | exact h_ | simpa only [updAt_length] using h_ | with_unfolding_all rfl) ?_ ?_ | split | intro _ _ | dsimp only | intro _ _ | intro _)

theorem execProvisionalSnapshotEvaluate_keeps {p_ : Allow} {z : State} (at_ : Instant) {s0 : State}  (hevents_ : p_.may .events = true) (haln_ : p_.may .aln = true) (hlim_ : p_.may .lim = true) (hisl_ : p_.may .isl = true) (hbatches_ : p_.may .batches = true) (htime_ : p_.clock = true) (h_ : Keeps p_ z s0) : KeepsOut p_ z (execProvisionalSnapshotEvaluate at_ s0) := by
  unfold execProvisionalSnapshotEvaluate
  repeat' (first | with_reducible assumption | with_reducible exact Keeps.refl _ _ | with_reducible apply State.advance_keeps | with_reducible apply State.popNose_keeps | with_reducible apply State.noseProv_keeps | with_reducible apply KeepsRes.done | with_reducible apply KeepsRes.accepted | with_reducible apply KeepsRes.waiting | with_reducible apply KeepsOut.next | with_reducible apply keepsParts_intro | with_reducible exact Or.inl (by with_reducible assumption) | with_reducible exact Or.inr rfl | simp only [keeps_mk] | with_reducible refine keepsMk_of ?_ ⟨rfl, rfl⟩ (fun h_ => by first | exact h_ | simpa only [updAt_length] using h_ | with_unfolding_all rfl) ?_ ?_ | with_reducible apply keeps_ite | with_reducible apply keepsOut_ite | split | intro _ _ | dsimp only | intro _ _ | intro _)

theorem execCommittedSnapshotEvaluate_keeps {p_ : Allow} {z : State} (at_ : Instant) {s0 : State}  (hevents_ : p_.may .events = true) (haln_ : p_.may .aln = true) (hlim_ : p_.may .lim = true) (hisl_ : p_.may .isl = true) (hbatches_ : p_.may .batches = true) (htime_ : p_.clock = true) (h_ : Keeps p_ z s0) : KeepsOut p_ z (execCommittedSnapshotEvaluate at_ s0) := by
  unfold execCommittedSnapshotEvaluate
  repeat' (first | with_reducible assumption | with_reducible exact Keeps.refl _ _ | with_reducible apply State.advance_keeps | with_reducible apply State.popNose_keeps | with_reducible apply State.noseCommit_keeps | with_reducible apply KeepsRes.done | with_reducible apply KeepsRes.accepted | with_reducible apply KeepsRes.waiting | with_reducible apply KeepsOut.next | with_reducible apply keepsParts_intro | with_reducible exact Or.inl (by with_reducible assumption) | with_reducible exact Or.inr rfl | simp only [keeps_mk] | with_reducible refine keepsMk_of ?_ ⟨rfl, rfl⟩ (fun h_ => by first | exact h_ | simpa only [updAt_length] using h_ | with_unfolding_all rfl) ?_ ?_ | with_reducible apply keeps_ite | with_reducible apply keepsOut_ite | split | intro _ _ | dsimp only | intro _ _ | intro _)

theorem execConfirmReceive_keeps {p_ : Allow} {z : State} (at_ : Instant) {s0 : State}  (hevents_ : p_.may .events = true) (haln_ : p_.may .aln = true) (hlim_ : p_.may .lim = true) (hisl_ : p_.may .isl = true) (hbatches_ : p_.may .batches = true) (htime_ : p_.clock = true) (h_ : Keeps p_ z s0) : KeepsOut p_ z (execConfirmReceive at_ s0) := by
  unfold execConfirmReceive
  repeat' (first | with_reducible assumption | with_reducible exact Keeps.refl _ _ | with_reducible apply State.advance_keeps | with_reducible apply State.popNose_keeps | with_reducible apply State.noseCommit_keeps | with_reducible apply State.retire_keeps | with_reducible apply KeepsRes.done | with_reducible apply KeepsRes.accepted | with_reducible apply KeepsRes.waiting | with_reducible apply KeepsOut.next | with_reducible apply keepsParts_intro | with_reducible exact Or.inl (by with_reducible assumption) | with_reducible exact Or.inr rfl | simp only [keeps_mk] | with_reducible refine keepsMk_of ?_ ⟨rfl, rfl⟩ (fun h_ => by first | exact h_ | simpa only [updAt_length] using h_ | with_unfolding_all rfl) ?_ ?_ | with_reducible apply keeps_ite | with_reducible apply keepsOut_ite | split | intro _ _ | dsimp only | intro _ _ | intro _)

theorem execRollbackReceive_keeps {p_ : Allow} {z : State} (at_ : Instant) {s0 : State}  (hevents_ : p_.may .events = true) (haln_ : p_.may .aln = true) (hlim_ : p_.may .lim = true) (hisl_ : p_.may .isl = true) (hbatches_ : p_.may .batches = true) (htime_ : p_.clock = true) (h_ : Keeps p_ z s0) : KeepsOut p_ z (execRollbackReceive at_ s0) := by
  unfold execRollbackReceive
  repeat' (first | with_reducible assumption | with_reducible exact Keeps.refl _ _ | with_reducible apply State.advance_keeps | with_reducible apply State.popNose_keeps | with_reducible apply State.noseCommit_keeps | with_reducible apply State.retire_keeps | with_reducible apply KeepsRes.done | with_reducible apply KeepsRes.accepted | with_reducible apply KeepsRes.waiting | with_reducible apply KeepsOut.next | with_reducible apply keepsParts_intro | with_reducible exact Or.inl (by with_reducible assumption) | with_reducible exact Or.inr rfl | simp only [keeps_mk] | with_reducible refine keepsMk_of ?_ ⟨rfl, rfl⟩ (fun h_ => by first | exact h_ | simpa only [updAt_length] using h_ | with_unfolding_all rfl) ?_ ?_ | with_reducible apply keeps_ite | with_reducible apply keepsOut_ite | split | intro _ _ | dsimp only | intro _ _ | intro _)

theorem State.noseFlush_keeps {p_ : Allow} {z : State} {s : State} (g : Nat) (ks : List Nat)  (hevents_ : p_.may .events = true) (haln_ : p_.may .aln = true) (hlim_ : p_.may .lim = true) (hisl_ : p_.may .isl = true) (hbatches_ : p_.may .batches = true) (h_ : Keeps p_ z s) : Keeps p_ z (State.noseFlush s g ks) := by
  unfold State.noseFlush
  repeat' (first | with_reducible assumption | with_reducible exact Keeps.refl _ _ | with_reducible apply State.limFlush_keeps | with_reducible apply State.islFlush_keeps | with_reducible apply State.retire_keeps | with_reducible apply State.batch_keeps | with_reducible refine State.limFlush_keeps_of (by with_reducible assumption) ?_ ?_ ?_ | with_reducible refine State.islFlush_keeps_of (by with_reducible assumption) ?_ ?_ ?_ | with_reducible apply keeps_foldl | with_reducible apply keeps_foldl_fst | with_reducible apply keeps_foldl_snd | intro _ _ _ | with_reducible apply keepsParts_intro | with_reducible exact Or.inl (by with_reducible assumption) | with_reducible exact Or.inr rfl | simp only [keeps_mk] | with_reducible refine keepsMk_of ?_ ⟨rfl, rfl⟩ (fun h_ => by first | exact h_ | simpa only [updAt_length] using h_ | with_unfolding_all rfl) ?_ ?_ | with_reducible apply keeps_ite | split | intro _ _ | dsimp only | intro _ _ | intro _)

theorem execFlushReceive_keeps {p_ : Allow} {z : State} (at_ : Instant) {s0 : State}  (hevents_ : p_.may .events = true) (haln_ : p_.may .aln = true) (hlim_ : p_.may .lim = true) (hisl_ : p_.may .isl = true) (hbatches_ : p_.may .batches = true) (htime_ : p_.clock = true) (h_ : Keeps p_ z s0) : KeepsOut p_ z (execFlushReceive at_ s0) := by
  unfold execFlushReceive
  repeat' (first | with_reducible assumption | with_reducible exact Keeps.refl _ _ | with_reducible apply State.advance_keeps | with_reducible apply State.popNose_keeps | with_reducible apply State.noseFlush_keeps | with_reducible apply KeepsRes.done | with_reducible apply KeepsRes.accepted | with_reducible apply KeepsRes.waiting | with_reducible apply KeepsOut.next | with_reducible apply keepsParts_intro | with_reducible exact Or.inl (by with_reducible assumption) | with_reducible exact Or.inr rfl | simp only [keeps_mk] | with_reducible refine keepsMk_of ?_ ⟨rfl, rfl⟩ (fun h_ => by first | exact h_ | simpa only [updAt_length] using h_ | with_unfolding_all rfl) ?_ ?_ | with_reducible apply keeps_ite | with_reducible apply keepsOut_ite | split | intro _ _ | dsimp only | intro _ _ | intro _)

theorem State.resetNose_keeps {p_ : Allow} {z : State} {s : State}  (haln_ : p_.may .aln = true) (hlim_ : p_.may .lim = true) (hisl_ : p_.may .isl = true) (h_ : Keeps p_ z s) : Keeps p_ z (State.resetNose s) := by
  unfold State.resetNose
  repeat' (first | with_reducible assumption | with_reducible exact Keeps.refl _ _ | with_reducible apply State.setAln_keeps | with_reducible apply State.resetRegs_keeps | with_reducible apply State.resetLimits_keeps | with_reducible apply State.resetIslands_keeps | with_reducible apply keepsParts_intro | with_reducible exact Or.inl (by with_reducible assumption) | with_reducible exact Or.inr rfl | simp only [keeps_mk] | with_reducible refine keepsMk_of ?_ ⟨rfl, rfl⟩ (fun h_ => by first | exact h_ | simpa only [updAt_length] using h_ | with_unfolding_all rfl) ?_ ?_ | with_reducible apply keeps_ite | split | dsimp only | intro _ _ | intro _)

end Sys2Proof.Machine
end

