-- ==== Sys2Proof/Laws/KeepsPublish.lean ====
section
/-! SUPPORT. What the commands and events of publication, oscillation, capture, the event record and the key store keep (Laws/Keeps.lean): one lemma per operation. -/

namespace Sys2Proof.Machine

/-! ### Machine/Publication.lean -/

theorem State.changeStream_keeps {p_ : Allow} {z : State} {s : State} (i : Nat) (c : StreamCfg)  (hpub_ : p_.may .pub = true) (h_ : Keeps p_ z s) : KeepsRes p_ z (State.changeStream s i c) := by
  unfold State.changeStream
  repeat' (first | with_reducible assumption | with_reducible exact Keeps.refl _ _ | with_reducible apply ok_keeps | with_reducible apply State.applyStream_keeps | with_reducible apply State.updStream_keeps | with_reducible apply refuse_keeps | with_reducible apply KeepsRes.done | with_reducible apply KeepsRes.accepted | with_reducible apply KeepsRes.waiting | with_reducible apply KeepsOut.next | with_reducible apply keepsParts_intro | with_reducible exact Or.inl (by with_reducible assumption) | with_reducible exact Or.inr rfl | simp only [keeps_mk] | with_reducible refine keepsMk_of ?_ ⟨rfl, rfl⟩ (fun h_ => by first | exact h_ | simpa only [updAt_length] using h_ | with_unfolding_all rfl) ?_ ?_ | with_reducible apply keeps_ite | with_reducible apply keepsRes_ite | split | intro _ _ | dsimp only | intro _ _ | intro _)
theorem State.changeStream_keeps_done {p_ : Allow} {z : State} {s : State} {i : Nat} {c : StreamCfg} {a_ : Nat} {b_ : List Word} {t_ : State} (e_ : State.changeStream s i c = .done a_ b_ t_) (hpub_ : p_.may .pub = true) (h_ : Keeps p_ z s) : Keeps p_ z t_ := by
  have k_ := State.changeStream_keeps (z := z) i c hpub_ h_
  rw [e_] at k_; exact k_
theorem State.changeStream_keeps_accepted {p_ : Allow} {z : State} {s : State} {i : Nat} {c : StreamCfg} {t_ : State} (e_ : State.changeStream s i c = .accepted t_) (hpub_ : p_.may .pub = true) (h_ : Keeps p_ z s) : Keeps p_ z t_ := by
  have k_ := State.changeStream_keeps (z := z) i c hpub_ h_
  rw [e_] at k_; exact k_
theorem State.changeStream_keeps_waiting {p_ : Allow} {z : State} {s : State} {i : Nat} {c : StreamCfg} {t_ : State} (e_ : State.changeStream s i c = .waiting t_) (hpub_ : p_.may .pub = true) (h_ : Keeps p_ z s) : Keeps p_ z t_ := by
  have k_ := State.changeStream_keeps (z := z) i c hpub_ h_
  rw [e_] at k_; exact k_

theorem State.setStream_keeps {p_ : Allow} {z : State} {s : State} (a : StreamProfileArgs)  (h_ : Keeps p_ z s) : Keeps p_ z (State.setStream s a) := by
  unfold State.setStream
  repeat' (first | with_reducible assumption | with_reducible exact Keeps.refl _ _ | with_reducible apply State.setRb_keeps | with_reducible apply State.setRf_keeps | dsimp only | intro _ _ | intro _)

theorem bodyPubStreamProfile_keeps {p_ : Allow} {z : State} (a : StreamProfileArgs) {s : State}  (hpub_ : p_.may .pub = true) (h_ : Keeps p_ z s) : KeepsRes p_ z (bodyPubStreamProfile a s) := by
  unfold bodyPubStreamProfile
  repeat' (first | with_reducible assumption | with_reducible exact Keeps.refl _ _ | with_reducible apply refuse_keeps | with_reducible apply State.setStream_keeps | with_reducible apply ok_keeps | with_reducible apply State.changeStream_keeps | with_reducible refine State.changeStream_keeps_done (by with_reducible assumption) ?_ ?_ | with_reducible refine State.changeStream_keeps_accepted (by with_reducible assumption) ?_ ?_ | with_reducible refine State.changeStream_keeps_waiting (by with_reducible assumption) ?_ ?_ | with_reducible apply KeepsRes.done | with_reducible apply KeepsRes.accepted | with_reducible apply KeepsRes.waiting | with_reducible apply KeepsOut.next | with_reducible apply keepsParts_intro | with_reducible exact Or.inl (by with_reducible assumption) | with_reducible exact Or.inr rfl | simp only [keeps_mk] | with_reducible refine keepsMk_of ?_ ⟨rfl, rfl⟩ (fun h_ => by first | exact h_ | simpa only [updAt_length] using h_ | with_unfolding_all rfl) ?_ ?_ | with_reducible apply keeps_ite | with_reducible apply keepsRes_ite | split | intro _ _ | dsimp only | intro _ _ | intro _)

theorem execPubStreamProfile_keeps {p_ : Allow} {z : State} (h : Hdr) (a : StreamProfileArgs) {s : State}  (hpub_ : p_.may .pub = true) (htime_ : p_.clock = true) (h_ : Keeps p_ z s) : KeepsOut p_ z (execPubStreamProfile h a s) := by
  unfold execPubStreamProfile
  repeat' (first | with_reducible assumption | with_reducible exact Keeps.refl _ _ | with_reducible apply runCmd_keeps | with_reducible apply bodyPubStreamProfile_keeps | with_reducible apply KeepsRes.done | with_reducible apply KeepsRes.accepted | with_reducible apply KeepsRes.waiting | with_reducible apply KeepsOut.next | dsimp only | intro _ _ | intro _)

theorem bodyPubStreamLayout_keeps {p_ : Allow} {z : State} (stream : Fin 64) (l : LayoutBuffer) {s : State}  (hpub_ : p_.may .pub = true) (h_ : Keeps p_ z s) : KeepsRes p_ z (bodyPubStreamLayout stream l s) := by
  unfold bodyPubStreamLayout
  repeat' (first | with_reducible assumption | with_reducible exact Keeps.refl _ _ | with_reducible apply refuse_keeps | with_reducible apply State.changeStream_keeps | with_reducible refine State.changeStream_keeps_done (by with_reducible assumption) ?_ ?_ | with_reducible refine State.changeStream_keeps_accepted (by with_reducible assumption) ?_ ?_ | with_reducible refine State.changeStream_keeps_waiting (by with_reducible assumption) ?_ ?_ | with_reducible apply KeepsRes.done | with_reducible apply KeepsRes.accepted | with_reducible apply KeepsRes.waiting | with_reducible apply KeepsOut.next | with_reducible apply keepsParts_intro | with_reducible exact Or.inl (by with_reducible assumption) | with_reducible exact Or.inr rfl | simp only [keeps_mk] | with_reducible refine keepsMk_of ?_ ⟨rfl, rfl⟩ (fun h_ => by first | exact h_ | simpa only [updAt_length] using h_ | with_unfolding_all rfl) ?_ ?_ | with_reducible apply keeps_ite | with_reducible apply keepsRes_ite | split | dsimp only | intro _ _ | intro _)

theorem execPubStreamLayout_keeps {p_ : Allow} {z : State} (h : Hdr) (stream : Fin 64) (l : LayoutBuffer) {s : State}  (hpub_ : p_.may .pub = true) (htime_ : p_.clock = true) (h_ : Keeps p_ z s) : KeepsOut p_ z (execPubStreamLayout h stream l s) := by
  unfold execPubStreamLayout
  repeat' (first | with_reducible assumption | with_reducible exact Keeps.refl _ _ | with_reducible apply runCmd_keeps | with_reducible apply bodyPubStreamLayout_keeps | with_reducible apply KeepsRes.done | with_reducible apply KeepsRes.accepted | with_reducible apply KeepsRes.waiting | with_reducible apply KeepsOut.next | dsimp only | intro _ _ | intro _)

theorem State.runStream_keeps {p_ : Allow} {z : State} {s : State} (i : Nat) (run : Bool)  (hpub_ : p_.may .pub = true) (h_ : Keeps p_ z s) : Keeps p_ z (State.runStream s i run) := by
  unfold State.runStream
  repeat' (first | with_reducible assumption | with_reducible exact Keeps.refl _ _ | with_reducible apply State.setRb_keeps | with_reducible apply State.updStream_keeps | with_reducible apply State.applyStream_keeps | with_reducible apply keepsParts_intro | with_reducible exact Or.inl (by with_reducible assumption) | with_reducible exact Or.inr rfl | simp only [keeps_mk] | with_reducible refine keepsMk_of ?_ ⟨rfl, rfl⟩ (fun h_ => by first | exact h_ | simpa only [updAt_length] using h_ | with_unfolding_all rfl) ?_ ?_ | with_reducible apply keeps_ite | split | intro _ _ | dsimp only | intro _ _ | intro _)

theorem bodyPubStreamCtl_keeps {p_ : Allow} {z : State} (stream : Fin 64) (run : Bool) {s : State}  (hpub_ : p_.may .pub = true) (h_ : Keeps p_ z s) : KeepsRes p_ z (bodyPubStreamCtl stream run s) := by
  unfold bodyPubStreamCtl
  repeat' (first | with_reducible assumption | with_reducible exact Keeps.refl _ _ | with_reducible apply refuse_keeps | with_reducible apply ok_keeps | with_reducible apply State.runStream_keeps | with_reducible apply KeepsRes.done | with_reducible apply KeepsRes.accepted | with_reducible apply KeepsRes.waiting | with_reducible apply KeepsOut.next | with_reducible apply keeps_ite | with_reducible apply keepsRes_ite | split | dsimp only | intro _ _ | intro _)

theorem execPubStreamCtl_keeps {p_ : Allow} {z : State} (h : Hdr) (stream : Fin 64) (run : Bool) {s : State}  (hpub_ : p_.may .pub = true) (htime_ : p_.clock = true) (h_ : Keeps p_ z s) : KeepsOut p_ z (execPubStreamCtl h stream run s) := by
  unfold execPubStreamCtl
  repeat' (first | with_reducible assumption | with_reducible exact Keeps.refl _ _ | with_reducible apply runCmd_keeps | with_reducible apply bodyPubStreamCtl_keeps | with_reducible apply KeepsRes.done | with_reducible apply KeepsRes.accepted | with_reducible apply KeepsRes.waiting | with_reducible apply KeepsOut.next | dsimp only | intro _ _ | intro _)

theorem State.writeStreamCtl_keeps {p_ : Allow} {z : State} {s : State} (i : Nat) (w : Word)  (hpub_ : p_.may .pub = true) (h_ : Keeps p_ z s) : KeepsRes p_ z (State.writeStreamCtl s i w) := by
  unfold State.writeStreamCtl
  repeat' (first | with_reducible assumption | with_reducible exact Keeps.refl _ _ | with_reducible apply refuse_keeps | with_reducible apply State.setRb_keeps | with_reducible apply State.setRf_keeps | with_reducible apply State.runStream_keeps | with_reducible apply ok_keeps | with_reducible apply State.applyStream_keeps | with_reducible apply State.changeStream_keeps | with_reducible refine State.changeStream_keeps_done (by with_reducible assumption) ?_ ?_ | with_reducible refine State.changeStream_keeps_accepted (by with_reducible assumption) ?_ ?_ | with_reducible refine State.changeStream_keeps_waiting (by with_reducible assumption) ?_ ?_ | with_reducible apply KeepsRes.done | with_reducible apply KeepsRes.accepted | with_reducible apply KeepsRes.waiting | with_reducible apply KeepsOut.next | with_reducible apply keepsParts_intro | with_reducible exact Or.inl (by with_reducible assumption) | with_reducible exact Or.inr rfl | simp only [keeps_mk] | with_reducible refine keepsMk_of ?_ ⟨rfl, rfl⟩ (fun h_ => by first | exact h_ | simpa only [updAt_length] using h_ | with_unfolding_all rfl) ?_ ?_ | with_reducible apply keeps_ite | with_reducible apply keepsRes_ite | split | intro _ _ | dsimp only | intro _ _ | intro _)
theorem State.writeStreamCtl_keeps_done {p_ : Allow} {z : State} {s : State} {i : Nat} {w : Word} {a_ : Nat} {b_ : List Word} {t_ : State} (e_ : State.writeStreamCtl s i w = .done a_ b_ t_) (hpub_ : p_.may .pub = true) (h_ : Keeps p_ z s) : Keeps p_ z t_ := by
  have k_ := State.writeStreamCtl_keeps (z := z) i w hpub_ h_
  rw [e_] at k_; exact k_
theorem State.writeStreamCtl_keeps_accepted {p_ : Allow} {z : State} {s : State} {i : Nat} {w : Word} {t_ : State} (e_ : State.writeStreamCtl s i w = .accepted t_) (hpub_ : p_.may .pub = true) (h_ : Keeps p_ z s) : Keeps p_ z t_ := by
  have k_ := State.writeStreamCtl_keeps (z := z) i w hpub_ h_
  rw [e_] at k_; exact k_
theorem State.writeStreamCtl_keeps_waiting {p_ : Allow} {z : State} {s : State} {i : Nat} {w : Word} {t_ : State} (e_ : State.writeStreamCtl s i w = .waiting t_) (hpub_ : p_.may .pub = true) (h_ : Keeps p_ z s) : Keeps p_ z t_ := by
  have k_ := State.writeStreamCtl_keeps (z := z) i w hpub_ h_
  rw [e_] at k_; exact k_

theorem bodyPubStreamRaw_keeps {p_ : Allow} {z : State} (a : PubStreamRawArgs) {s : State}  (hpub_ : p_.may .pub = true) (h_ : Keeps p_ z s) : KeepsRes p_ z (bodyPubStreamRaw a s) := by
  unfold bodyPubStreamRaw
  repeat' (first | with_reducible assumption | with_reducible exact Keeps.refl _ _ | with_reducible apply refuse_keeps | with_reducible apply State.setRf_keeps | with_reducible apply ok_keeps | with_reducible apply State.writeStreamCtl_keeps | with_reducible refine State.writeStreamCtl_keeps_done (by with_reducible assumption) ?_ ?_ | with_reducible refine State.writeStreamCtl_keeps_accepted (by with_reducible assumption) ?_ ?_ | with_reducible refine State.writeStreamCtl_keeps_waiting (by with_reducible assumption) ?_ ?_ | with_reducible apply KeepsRes.done | with_reducible apply KeepsRes.accepted | with_reducible apply KeepsRes.waiting | with_reducible apply KeepsOut.next | with_reducible apply keepsParts_intro | with_reducible exact Or.inl (by with_reducible assumption) | with_reducible exact Or.inr rfl | simp only [keeps_mk] | with_reducible refine keepsMk_of ?_ ⟨rfl, rfl⟩ (fun h_ => by first | exact h_ | simpa only [updAt_length] using h_ | with_unfolding_all rfl) ?_ ?_ | with_reducible apply keeps_ite | with_reducible apply keepsRes_ite | split | intro _ _ | dsimp only | intro _ _ | intro _)

theorem execPubStreamRaw_keeps {p_ : Allow} {z : State} (h : Hdr) (a : PubStreamRawArgs) {s : State}  (hpub_ : p_.may .pub = true) (htime_ : p_.clock = true) (h_ : Keeps p_ z s) : KeepsOut p_ z (execPubStreamRaw h a s) := by
  unfold execPubStreamRaw
  repeat' (first | with_reducible assumption | with_reducible exact Keeps.refl _ _ | with_reducible apply runCmd_keeps | with_reducible apply bodyPubStreamRaw_keeps | with_reducible apply KeepsRes.done | with_reducible apply KeepsRes.accepted | with_reducible apply KeepsRes.waiting | with_reducible apply KeepsOut.next | dsimp only | intro _ _ | intro _)

theorem execStreamChangeEffective_keeps {p_ : Allow} {z : State} (i : Fin 64) {s : State}  (hpub_ : p_.may .pub = true) (htime_ : p_.clock = true) (h_ : Keeps p_ z s) : KeepsOut p_ z (execStreamChangeEffective i s) := by
  unfold execStreamChangeEffective
  repeat' (first | with_reducible assumption | with_reducible exact Keeps.refl _ _ | with_reducible apply State.advance_keeps | with_reducible apply State.applyStream_keeps | with_reducible apply KeepsRes.done | with_reducible apply KeepsRes.accepted | with_reducible apply KeepsRes.waiting | with_reducible apply KeepsOut.next | with_reducible apply keepsParts_intro | with_reducible exact Or.inl (by with_reducible assumption) | with_reducible exact Or.inr rfl | simp only [keeps_mk] | with_reducible refine keepsMk_of ?_ ⟨rfl, rfl⟩ (fun h_ => by first | exact h_ | simpa only [updAt_length] using h_ | with_unfolding_all rfl) ?_ ?_ | split | intro _ _ | dsimp only | intro _ _ | intro _)

theorem execC37CommandFrameReceive_keeps {p_ : Allow} {z : State} (at_ : Instant) (i : Fin 64) (c : C37Command) {s0 : State}  (hpub_ : p_.may .pub = true) (htime_ : p_.clock = true) (h_ : Keeps p_ z s0) : KeepsOut p_ z (execC37CommandFrameReceive at_ i c s0) := by
  unfold execC37CommandFrameReceive
  repeat' (first | with_reducible assumption | with_reducible exact Keeps.refl _ _ | with_reducible apply State.advance_keeps | with_reducible apply State.updStream_keeps | with_reducible apply State.setPub_keeps | with_reducible apply KeepsRes.done | with_reducible apply KeepsRes.accepted | with_reducible apply KeepsRes.waiting | with_reducible apply KeepsOut.next | with_reducible apply keepsParts_intro | with_reducible exact Or.inl (by with_reducible assumption) | with_reducible exact Or.inr rfl | simp only [keeps_mk] | with_reducible refine keepsMk_of ?_ ⟨rfl, rfl⟩ (fun h_ => by first | exact h_ | simpa only [updAt_length] using h_ | with_unfolding_all rfl) ?_ ?_ | with_reducible apply keeps_ite | with_reducible apply keepsOut_ite | split | intro _ _ | dsimp only | intro _ _ | intro _)

theorem execSnapshotPublish_keeps {p_ : Allow} {z : State} (at_ : Instant) {s0 : State}  (hfree_ : p_.may .free = true) (hports_ : p_.may .ports = true) (haln_ : p_.may .aln = true) (hpub_ : p_.may .pub = true) (hkey_ : p_.may .key = true) (htime_ : p_.clock = true) (h_ : Keeps p_ z s0) : KeepsOut p_ z (execSnapshotPublish at_ s0) := by
  unfold execSnapshotPublish
  repeat' (first | with_reducible assumption | with_reducible exact Keeps.refl _ _ | with_reducible apply State.advance_keeps | with_reducible apply State.setAln_keeps | with_reducible apply State.publishSnapshot_keeps | with_reducible apply KeepsRes.done | with_reducible apply KeepsRes.accepted | with_reducible apply KeepsRes.waiting | with_reducible apply KeepsOut.next | with_reducible apply keepsParts_intro | with_reducible exact Or.inl (by with_reducible assumption) | with_reducible exact Or.inr rfl | simp only [keeps_mk] | with_reducible refine keepsMk_of ?_ ⟨rfl, rfl⟩ (fun h_ => by first | exact h_ | simpa only [updAt_length] using h_ | with_unfolding_all rfl) ?_ ?_ | with_reducible apply keeps_ite | with_reducible apply keepsOut_ite | split | intro _ _ | dsimp only | intro _ _ | intro _)

theorem execAlarmBatchReceive_keeps {p_ : Allow} {z : State} (at_ : Instant) {s0 : State}  (hfree_ : p_.may .free = true) (hports_ : p_.may .ports = true) (hcapIn_ : p_.may .capIn = true) (hbatches_ : p_.may .batches = true) (hpub_ : p_.may .pub = true) (hkey_ : p_.may .key = true) (htime_ : p_.clock = true) (h_ : Keeps p_ z s0) : KeepsOut p_ z (execAlarmBatchReceive at_ s0) := by
  unfold execAlarmBatchReceive
  repeat' (first | with_reducible assumption | with_reducible exact Keeps.refl _ _ | with_reducible apply State.advance_keeps | with_reducible apply State.takeBatch_keeps | with_reducible apply KeepsRes.done | with_reducible apply KeepsRes.accepted | with_reducible apply KeepsRes.waiting | with_reducible apply KeepsOut.next | with_reducible apply keepsParts_intro | with_reducible exact Or.inl (by with_reducible assumption) | with_reducible exact Or.inr rfl | simp only [keeps_mk] | with_reducible refine keepsMk_of ?_ ⟨rfl, rfl⟩ (fun h_ => by first | exact h_ | simpa only [updAt_length] using h_ | with_unfolding_all rfl) ?_ ?_ | with_reducible apply keeps_ite | with_reducible apply keepsOut_ite | split | intro _ _ | dsimp only | intro _ _ | intro _)

theorem execGooseRetransmit_keeps {p_ : Allow} {z : State} (k : Fin 128) {s : State}  (hfree_ : p_.may .free = true) (hports_ : p_.may .ports = true) (hpub_ : p_.may .pub = true) (hkey_ : p_.may .key = true) (htime_ : p_.clock = true) (h_ : Keeps p_ z s) : KeepsOut p_ z (execGooseRetransmit k s) := by
  unfold execGooseRetransmit
  repeat' (first | with_reducible assumption | with_reducible exact Keeps.refl _ _ | with_reducible apply State.advanceUp_keeps | with_reducible apply State.retransmit_keeps | with_reducible apply KeepsRes.done | with_reducible apply KeepsRes.accepted | with_reducible apply KeepsRes.waiting | with_reducible apply KeepsOut.next | with_reducible apply keepsParts_intro | with_reducible exact Or.inl (by with_reducible assumption) | with_reducible exact Or.inr rfl | simp only [keeps_mk] | with_reducible refine keepsMk_of ?_ ⟨rfl, rfl⟩ (fun h_ => by first | exact h_ | simpa only [updAt_length] using h_ | with_unfolding_all rfl) ?_ ?_ | with_reducible apply keeps_ite | with_reducible apply keepsOut_ite | split | intro _ _ | dsimp only | intro _ _ | intro _)

theorem execAlarmOutMinOnExpiry_keeps {p_ : Allow} {z : State} (n : Fin 8) {s : State}  (hpub_ : p_.may .pub = true) (htime_ : p_.clock = true) (h_ : Keeps p_ z s) : KeepsOut p_ z (execAlarmOutMinOnExpiry n s) := by
  unfold execAlarmOutMinOnExpiry
  repeat' (first | with_reducible assumption | with_reducible exact Keeps.refl _ _ | with_reducible apply State.advanceUp_keeps | with_reducible apply State.updLand_keeps | with_reducible apply KeepsRes.done | with_reducible apply KeepsRes.accepted | with_reducible apply KeepsRes.waiting | with_reducible apply KeepsOut.next | with_reducible apply keepsParts_intro | with_reducible exact Or.inl (by with_reducible assumption) | with_reducible exact Or.inr rfl | simp only [keeps_mk] | with_reducible refine keepsMk_of ?_ ⟨rfl, rfl⟩ (fun h_ => by first | exact h_ | simpa only [updAt_length] using h_ | with_unfolding_all rfl) ?_ ?_ | with_reducible apply keeps_ite | with_reducible apply keepsOut_ite | split | intro _ _ | dsimp only | intro _ _ | intro _)

theorem State.setGocb_keeps {p_ : Allow} {z : State} {s : State} (a : GocbArgs)  (hfree_ : p_.may .free = true) (hports_ : p_.may .ports = true) (hpub_ : p_.may .pub = true) (hkey_ : p_.may .key = true) (h_ : Keeps p_ z s) : Keeps p_ z (State.setGocb s a) := by
  unfold State.setGocb
  repeat' (first | with_reducible assumption | with_reducible exact Keeps.refl _ _ | with_reducible apply State.setRb_keeps | with_reducible apply State.setRf_keeps | with_reducible apply State.setPub_keeps | with_reducible apply State.updBlock_keeps | with_reducible apply State.publishBlock_keeps | with_reducible apply State.settleBlock_keeps | with_reducible apply keepsParts_intro | with_reducible exact Or.inl (by with_reducible assumption) | with_reducible exact Or.inr rfl | simp only [keeps_mk] | with_reducible refine keepsMk_of ?_ ⟨rfl, rfl⟩ (fun h_ => by first | exact h_ | simpa only [updAt_length] using h_ | with_unfolding_all rfl) ?_ ?_ | with_reducible apply keeps_ite | split | intro _ _ | dsimp only | intro _ _ | intro _)

theorem bodyPubGocb_keeps {p_ : Allow} {z : State} (a : GocbArgs) {s : State}  (hfree_ : p_.may .free = true) (hports_ : p_.may .ports = true) (hpub_ : p_.may .pub = true) (hkey_ : p_.may .key = true) (h_ : Keeps p_ z s) : KeepsRes p_ z (bodyPubGocb a s) := by
  unfold bodyPubGocb
  repeat' (first | with_reducible assumption | with_reducible exact Keeps.refl _ _ | with_reducible apply refuse_keeps | with_reducible apply ok_keeps | with_reducible apply State.setGocb_keeps | with_reducible apply KeepsRes.done | with_reducible apply KeepsRes.accepted | with_reducible apply KeepsRes.waiting | with_reducible apply KeepsOut.next | with_reducible apply keepsParts_intro | with_reducible exact Or.inl (by with_reducible assumption) | with_reducible exact Or.inr rfl | simp only [keeps_mk] | with_reducible refine keepsMk_of ?_ ⟨rfl, rfl⟩ (fun h_ => by first | exact h_ | simpa only [updAt_length] using h_ | with_unfolding_all rfl) ?_ ?_ | with_reducible apply keeps_ite | with_reducible apply keepsRes_ite | split | intro _ _ | dsimp only | intro _ _ | intro _)

theorem execPubGocb_keeps {p_ : Allow} {z : State} (h : Hdr) (a : GocbArgs) {s : State}  (hfree_ : p_.may .free = true) (hports_ : p_.may .ports = true) (hpub_ : p_.may .pub = true) (hkey_ : p_.may .key = true) (htime_ : p_.clock = true) (h_ : Keeps p_ z s) : KeepsOut p_ z (execPubGocb h a s) := by
  unfold execPubGocb
  repeat' (first | with_reducible assumption | with_reducible exact Keeps.refl _ _ | with_reducible apply runCmd_keeps | with_reducible apply bodyPubGocb_keeps | with_reducible apply KeepsRes.done | with_reducible apply KeepsRes.accepted | with_reducible apply KeepsRes.waiting | with_reducible apply KeepsOut.next | dsimp only | intro _ _ | intro _)

theorem State.setGocbRaw_keeps {p_ : Allow} {z : State} {s : State} (a : GocbRawArgs)  (hfree_ : p_.may .free = true) (hports_ : p_.may .ports = true) (hpub_ : p_.may .pub = true) (hkey_ : p_.may .key = true) (h_ : Keeps p_ z s) : Keeps p_ z (State.setGocbRaw s a) := by
  unfold State.setGocbRaw
  repeat' (first | with_reducible assumption | with_reducible exact Keeps.refl _ _ | with_reducible apply State.setSome_keeps | with_reducible apply State.setRf_keeps | with_reducible apply State.settleBlock_keeps | dsimp only | intro _ _ | intro _)

theorem bodyPubGocbRaw_keeps {p_ : Allow} {z : State} (a : GocbRawArgs) {s : State}  (hfree_ : p_.may .free = true) (hports_ : p_.may .ports = true) (hpub_ : p_.may .pub = true) (hkey_ : p_.may .key = true) (h_ : Keeps p_ z s) : KeepsRes p_ z (bodyPubGocbRaw a s) := by
  unfold bodyPubGocbRaw
  repeat' (first | with_reducible assumption | with_reducible exact Keeps.refl _ _ | with_reducible apply refuse_keeps | with_reducible apply ok_keeps | with_reducible apply State.setGocbRaw_keeps | with_reducible apply KeepsRes.done | with_reducible apply KeepsRes.accepted | with_reducible apply KeepsRes.waiting | with_reducible apply KeepsOut.next | with_reducible apply keeps_ite | with_reducible apply keepsRes_ite | split | dsimp only | intro _ _ | intro _)

theorem execPubGocbRaw_keeps {p_ : Allow} {z : State} (h : Hdr) (a : GocbRawArgs) {s : State}  (hfree_ : p_.may .free = true) (hports_ : p_.may .ports = true) (hpub_ : p_.may .pub = true) (hkey_ : p_.may .key = true) (htime_ : p_.clock = true) (h_ : Keeps p_ z s) : KeepsOut p_ z (execPubGocbRaw h a s) := by
  unfold execPubGocbRaw
  repeat' (first | with_reducible assumption | with_reducible exact Keeps.refl _ _ | with_reducible apply runCmd_keeps | with_reducible apply bodyPubGocbRaw_keeps | with_reducible apply KeepsRes.done | with_reducible apply KeepsRes.accepted | with_reducible apply KeepsRes.waiting | with_reducible apply KeepsOut.next | dsimp only | intro _ _ | intro _)

theorem State.setAlarmOut_keeps {p_ : Allow} {z : State} {s : State} (a : AlarmOutArgs)  (hpub_ : p_.may .pub = true) (h_ : Keeps p_ z s) : Keeps p_ z (State.setAlarmOut s a) := by
  unfold State.setAlarmOut
  repeat' (first | with_reducible assumption | with_reducible exact Keeps.refl _ _ | with_reducible apply State.setPub_keeps | with_reducible apply State.setRf_keeps | with_reducible apply State.setRb_keeps | with_reducible apply State.setSome_keeps | with_reducible apply State.driveLand_keeps | with_reducible apply keepsParts_intro | with_reducible exact Or.inl (by with_reducible assumption) | with_reducible exact Or.inr rfl | simp only [keeps_mk] | with_reducible refine keepsMk_of ?_ ⟨rfl, rfl⟩ (fun h_ => by first | exact h_ | simpa only [updAt_length] using h_ | with_unfolding_all rfl) ?_ ?_ | split | intro _ _ | dsimp only | intro _ _ | intro _)

theorem bodyPubAlarmOut_keeps {p_ : Allow} {z : State} (a : AlarmOutArgs) {s : State}  (hpub_ : p_.may .pub = true) (h_ : Keeps p_ z s) : KeepsRes p_ z (bodyPubAlarmOut a s) := by
  unfold bodyPubAlarmOut
  repeat' (first | with_reducible assumption | with_reducible exact Keeps.refl _ _ | with_reducible apply refuse_keeps | with_reducible apply ok_keeps | with_reducible apply State.setAlarmOut_keeps | with_reducible apply KeepsRes.done | with_reducible apply KeepsRes.accepted | with_reducible apply KeepsRes.waiting | with_reducible apply KeepsOut.next | with_reducible apply keeps_ite | with_reducible apply keepsRes_ite | split | dsimp only | intro _ _ | intro _)

theorem execPubAlarmOut_keeps {p_ : Allow} {z : State} (h : Hdr) (a : AlarmOutArgs) {s : State}  (hpub_ : p_.may .pub = true) (htime_ : p_.clock = true) (h_ : Keeps p_ z s) : KeepsOut p_ z (execPubAlarmOut h a s) := by
  unfold execPubAlarmOut
  repeat' (first | with_reducible assumption | with_reducible exact Keeps.refl _ _ | with_reducible apply runCmd_keeps | with_reducible apply bodyPubAlarmOut_keeps | with_reducible apply KeepsRes.done | with_reducible apply KeepsRes.accepted | with_reducible apply KeepsRes.waiting | with_reducible apply KeepsOut.next | dsimp only | intro _ _ | intro _)

theorem State.writeLimit_keeps {p_ : Allow} {z : State} {s : State} (e : Nat) (ws : List Word)  (hlim_ : p_.may .lim = true) (h_ : Keeps p_ z s) : Keeps p_ z (State.writeLimit s e ws) := by
  unfold State.writeLimit
  repeat' (first | with_reducible assumption | with_reducible exact Keeps.refl _ _ | with_reducible apply State.setLim_keeps | with_reducible apply State.mapLim_keeps | with_reducible apply keeps_foldl | with_reducible apply keeps_foldl_fst | with_reducible apply keeps_foldl_snd | intro _ _ _ | with_reducible apply keepsParts_intro | with_reducible exact Or.inl (by with_reducible assumption) | with_reducible exact Or.inr rfl | simp only [keeps_mk] | with_reducible refine keepsMk_of ?_ ⟨rfl, rfl⟩ (fun h_ => by first | exact h_ | simpa only [updAt_length] using h_ | with_unfolding_all rfl) ?_ ?_ | with_reducible apply keeps_ite | split | intro _ _ | dsimp only | intro _ _ | intro _)

theorem bodyPubLimits_keeps {p_ : Allow} {z : State} (l : List LimitArgs) {s : State}  (hlim_ : p_.may .lim = true) (h_ : Keeps p_ z s) : KeepsRes p_ z (bodyPubLimits l s) := by
  unfold bodyPubLimits
  repeat' (first | with_reducible assumption | with_reducible exact Keeps.refl _ _ | with_reducible apply refuse_keeps | with_reducible apply ok_keeps | with_reducible apply State.writeLimit_keeps | with_reducible apply KeepsRes.done | with_reducible apply KeepsRes.accepted | with_reducible apply KeepsRes.waiting | with_reducible apply KeepsOut.next | with_reducible apply keeps_foldl | with_reducible apply keeps_foldl_fst | with_reducible apply keeps_foldl_snd | intro _ _ _ | with_reducible apply keeps_ite | with_reducible apply keepsRes_ite | split | dsimp only | intro _ _ | intro _)

theorem execPubLimits_keeps {p_ : Allow} {z : State} (h : Hdr) (l : List LimitArgs) {s : State}  (hlim_ : p_.may .lim = true) (htime_ : p_.clock = true) (h_ : Keeps p_ z s) : KeepsOut p_ z (execPubLimits h l s) := by
  unfold execPubLimits
  repeat' (first | with_reducible assumption | with_reducible exact Keeps.refl _ _ | with_reducible apply runCmd_keeps | with_reducible apply bodyPubLimits_keeps | with_reducible apply KeepsRes.done | with_reducible apply KeepsRes.accepted | with_reducible apply KeepsRes.waiting | with_reducible apply KeepsOut.next | dsimp only | intro _ _ | intro _)

theorem State.pubWrite_keeps {p_ : Allow} {z : State} {s : State} (table i : Nat) (ws : List Word)  (hfree_ : p_.may .free = true) (hports_ : p_.may .ports = true) (hlim_ : p_.may .lim = true) (hpub_ : p_.may .pub = true) (hkey_ : p_.may .key = true) (h_ : Keeps p_ z s) : Keeps p_ z (State.pubWrite s table i ws).2 := by
  unfold State.pubWrite
  repeat' (first | with_reducible assumption | with_reducible exact Keeps.refl _ _ | with_reducible apply State.writeLimit_keeps | with_reducible apply State.setPub_keeps | with_reducible apply State.driveLand_keeps | with_reducible apply State.updBlock_keeps | with_reducible apply State.publishBlock_keeps | with_reducible apply keepsParts_intro | with_reducible exact Or.inl (by with_reducible assumption) | with_reducible exact Or.inr rfl | simp only [keeps_mk] | with_reducible refine keepsMk_of ?_ ⟨rfl, rfl⟩ (fun h_ => by first | exact h_ | simpa only [updAt_length] using h_ | with_unfolding_all rfl) ?_ ?_ | with_reducible apply keeps_ite | split | dsimp only | intro _ _ | intro _)
theorem State.pubWrite_keeps_of {p_ : Allow} {z : State} {s : State} {table i : Nat} {ws : List Word} {a_ : _} {t_ : State} (e_ : State.pubWrite s table i ws = (a_, t_)) (hfree_ : p_.may .free = true) (hports_ : p_.may .ports = true) (hlim_ : p_.may .lim = true) (hpub_ : p_.may .pub = true) (hkey_ : p_.may .key = true) (h_ : Keeps p_ z s) : Keeps p_ z t_ := by
  have k_ := State.pubWrite_keeps (z := z) table i ws hfree_ hports_ hlim_ hpub_ hkey_ h_
  rw [e_] at k_; exact k_

theorem bodyPubTblRaw_keeps {p_ : Allow} {z : State} (l : List PubTblEntry) {s : State}  (hfree_ : p_.may .free = true) (hports_ : p_.may .ports = true) (hlim_ : p_.may .lim = true) (hpub_ : p_.may .pub = true) (hkey_ : p_.may .key = true) (h_ : Keeps p_ z s) : KeepsRes p_ z (bodyPubTblRaw l s) := by
  unfold bodyPubTblRaw
  repeat' (first | with_reducible assumption | with_reducible exact Keeps.refl _ _ | with_reducible apply refuse_keeps | with_reducible apply ok_keeps | with_reducible apply State.pubWrite_keeps | with_reducible refine State.pubWrite_keeps_of (by with_reducible assumption) ?_ ?_ ?_ ?_ ?_ ?_ | with_reducible apply KeepsRes.done | with_reducible apply KeepsRes.accepted | with_reducible apply KeepsRes.waiting | with_reducible apply KeepsOut.next | with_reducible apply keeps_foldl | with_reducible apply keeps_foldl_fst | with_reducible apply keeps_foldl_snd | intro _ _ _ | with_reducible apply keeps_ite | with_reducible apply keepsRes_ite | split | dsimp only | intro _ _ | intro _)

theorem execPubTblRaw_keeps {p_ : Allow} {z : State} (h : Hdr) (l : List PubTblEntry) {s : State}  (hfree_ : p_.may .free = true) (hports_ : p_.may .ports = true) (hlim_ : p_.may .lim = true) (hpub_ : p_.may .pub = true) (hkey_ : p_.may .key = true) (htime_ : p_.clock = true) (h_ : Keeps p_ z s) : KeepsOut p_ z (execPubTblRaw h l s) := by
  unfold execPubTblRaw
  repeat' (first | with_reducible assumption | with_reducible exact Keeps.refl _ _ | with_reducible apply runCmd_keeps | with_reducible apply bodyPubTblRaw_keeps | with_reducible apply KeepsRes.done | with_reducible apply KeepsRes.accepted | with_reducible apply KeepsRes.waiting | with_reducible apply KeepsOut.next | dsimp only | intro _ _ | intro _)

theorem State.pubTblRead_keeps {p_ : Allow} {z : State} {s : State}  (h_ : Keeps p_ z s) : Keeps p_ z (State.pubTblRead s) := by
  unfold State.pubTblRead
  repeat' (first | with_reducible assumption | with_reducible exact Keeps.refl _ _ | with_reducible apply State.setRf_keeps | with_reducible apply State.setReg_keeps | with_reducible apply keeps_foldl | with_reducible apply keeps_foldl_fst | with_reducible apply keeps_foldl_snd | intro _ _ _ | with_reducible apply keeps_ite | split | dsimp only | intro _ _ | intro _)

theorem execPubTblRead_keeps {p_ : Allow} {z : State} (at_ : Instant) {s : State}  (htime_ : p_.clock = true) (h_ : Keeps p_ z s) : KeepsOut p_ z (execPubTblRead at_ s) := by
  unfold execPubTblRead
  repeat' (first | with_reducible assumption | with_reducible exact Keeps.refl _ _ | with_reducible apply State.advance_keeps | with_reducible apply State.pubTblRead_keeps | with_reducible apply KeepsRes.done | with_reducible apply KeepsRes.accepted | with_reducible apply KeepsRes.waiting | with_reducible apply KeepsOut.next | dsimp only | intro _ _ | intro _)

theorem State.pubTblWrite_keeps {p_ : Allow} {z : State} {s : State}  (hfree_ : p_.may .free = true) (hports_ : p_.may .ports = true) (hlim_ : p_.may .lim = true) (hpub_ : p_.may .pub = true) (hkey_ : p_.may .key = true) (h_ : Keeps p_ z s) : Keeps p_ z (State.pubTblWrite s) := by
  unfold State.pubTblWrite
  repeat' (first | with_reducible assumption | with_reducible exact Keeps.refl _ _ | with_reducible apply State.pubWrite_keeps | with_reducible apply State.setRf_keeps | with_reducible refine State.pubWrite_keeps_of (by with_reducible assumption) ?_ ?_ ?_ ?_ ?_ ?_ | dsimp only | intro _ _ | intro _)

theorem execPubTblWrite_keeps {p_ : Allow} {z : State} (at_ : Instant) {s : State}  (hfree_ : p_.may .free = true) (hports_ : p_.may .ports = true) (hlim_ : p_.may .lim = true) (hpub_ : p_.may .pub = true) (hkey_ : p_.may .key = true) (htime_ : p_.clock = true) (h_ : Keeps p_ z s) : KeepsOut p_ z (execPubTblWrite at_ s) := by
  unfold execPubTblWrite
  repeat' (first | with_reducible assumption | with_reducible exact Keeps.refl _ _ | with_reducible apply State.advance_keeps | with_reducible apply State.pubTblWrite_keeps | with_reducible apply KeepsRes.done | with_reducible apply KeepsRes.accepted | with_reducible apply KeepsRes.waiting | with_reducible apply KeepsOut.next | dsimp only | intro _ _ | intro _)

theorem bodyPubStatus_keeps {p_ : Allow} {z : State} {s : State}  (h_ : Keeps p_ z s) : KeepsRes p_ z (bodyPubStatus s) := by
  unfold bodyPubStatus
  repeat' (first | with_reducible assumption | with_reducible exact Keeps.refl _ _ | with_reducible apply ok_keeps | with_reducible apply KeepsRes.done | with_reducible apply KeepsRes.accepted | with_reducible apply KeepsRes.waiting | with_reducible apply KeepsOut.next | split | dsimp only | intro _ _ | intro _)

theorem execPubStatus_keeps {p_ : Allow} {z : State} (h : Hdr) {s : State}  (htime_ : p_.clock = true) (h_ : Keeps p_ z s) : KeepsOut p_ z (execPubStatus h s) := by
  unfold execPubStatus
  repeat' (first | with_reducible assumption | with_reducible exact Keeps.refl _ _ | with_reducible apply runCmd_keeps | with_reducible apply bodyPubStatus_keeps | with_reducible apply KeepsRes.done | with_reducible apply KeepsRes.accepted | with_reducible apply KeepsRes.waiting | with_reducible apply KeepsOut.next | dsimp only | intro _ _ | intro _)

theorem bodyPubAlarmsRead_keeps {p_ : Allow} {z : State} (src : Option (Fin 3)) {s : State}  (h_ : Keeps p_ z s) : KeepsRes p_ z (bodyPubAlarmsRead src s) := by
  unfold bodyPubAlarmsRead
  repeat' (first | with_reducible assumption | with_reducible exact Keeps.refl _ _ | with_reducible apply ok_keeps | with_reducible apply KeepsRes.done | with_reducible apply KeepsRes.accepted | with_reducible apply KeepsRes.waiting | with_reducible apply KeepsOut.next | with_reducible apply keepsParts_intro | with_reducible exact Or.inl (by with_reducible assumption) | with_reducible exact Or.inr rfl | simp only [keeps_mk] | with_reducible refine keepsMk_of ?_ ⟨rfl, rfl⟩ (fun h_ => by first | exact h_ | simpa only [updAt_length] using h_ | with_unfolding_all rfl) ?_ ?_ | split | intro _ _ | dsimp only | intro _ _ | intro _)

theorem execPubAlarmsRead_keeps {p_ : Allow} {z : State} (h : Hdr) (src : Option (Fin 3)) {s : State}  (htime_ : p_.clock = true) (h_ : Keeps p_ z s) : KeepsOut p_ z (execPubAlarmsRead h src s) := by
  unfold execPubAlarmsRead
  repeat' (first | with_reducible assumption | with_reducible exact Keeps.refl _ _ | with_reducible apply runCmd_keeps | with_reducible apply bodyPubAlarmsRead_keeps | with_reducible apply KeepsRes.done | with_reducible apply KeepsRes.accepted | with_reducible apply KeepsRes.waiting | with_reducible apply KeepsOut.next | dsimp only | intro _ _ | intro _)

/-! ### Machine/Oscillation.lean -/

theorem State.oscTake_keeps {p_ : Allow} {z : State} {s0 : State} (x : Snapshot)  (hosc_ : p_.may .osc = true) (h_ : Keeps p_ z s0) : Keeps p_ z (State.oscTake s0 x) := by
  unfold State.oscTake
  repeat' (first | with_reducible assumption | with_reducible exact Keeps.refl _ _ | with_reducible apply State.takePoison_keeps | with_reducible apply State.setOsc_keeps | with_reducible apply State.oscCount_keeps | with_reducible refine State.takePoison_keeps_of (by with_reducible assumption) ?_ | with_reducible apply keeps_foldl | with_reducible apply keeps_foldl_fst | with_reducible apply keeps_foldl_snd | intro _ _ _ | with_reducible apply keepsParts_intro | with_reducible exact Or.inl (by with_reducible assumption) | with_reducible exact Or.inr rfl | simp only [keeps_mk] | with_reducible refine keepsMk_of ?_ ⟨rfl, rfl⟩ (fun h_ => by first | exact h_ | simpa only [updAt_length] using h_ | with_unfolding_all rfl) ?_ ?_ | with_reducible apply keeps_ite | split | dsimp only | intro _ _ | intro _)

theorem execOscSnapshotIntake_keeps {p_ : Allow} {z : State} (at_ : Instant) {s0 : State}  (haln_ : p_.may .aln = true) (hosc_ : p_.may .osc = true) (htime_ : p_.clock = true) (h_ : Keeps p_ z s0) : KeepsOut p_ z (execOscSnapshotIntake at_ s0) := by
  unfold execOscSnapshotIntake
  repeat' (first | with_reducible assumption | with_reducible exact Keeps.refl _ _ | with_reducible apply State.advance_keeps | with_reducible apply State.setAln_keeps | with_reducible apply State.oscTake_keeps | with_reducible apply KeepsRes.done | with_reducible apply KeepsRes.accepted | with_reducible apply KeepsRes.waiting | with_reducible apply KeepsOut.next | with_reducible apply keepsParts_intro | with_reducible exact Or.inl (by with_reducible assumption) | with_reducible exact Or.inr rfl | simp only [keeps_mk] | with_reducible refine keepsMk_of ?_ ⟨rfl, rfl⟩ (fun h_ => by first | exact h_ | simpa only [updAt_length] using h_ | with_unfolding_all rfl) ?_ ?_ | with_reducible apply keeps_ite | with_reducible apply keepsOut_ite | split | intro _ _ | dsimp only | intro _ _ | intro _)

theorem State.oscQueue_keeps {p_ : Allow} {z : State} {s0 : State} (i : Nat)  (hosc_ : p_.may .osc = true) (h_ : Keeps p_ z s0) : Keeps p_ z (State.oscQueue s0 i) := by
  unfold State.oscQueue
  repeat' (first | with_reducible assumption | with_reducible exact Keeps.refl _ _ | with_reducible apply State.restartSet_keeps | with_reducible apply State.updSet_keeps | with_reducible apply State.oscCount_keeps | with_reducible apply State.status_keeps | with_reducible apply keepsParts_intro | with_reducible exact Or.inl (by with_reducible assumption) | with_reducible exact Or.inr rfl | simp only [keeps_mk] | with_reducible refine keepsMk_of ?_ ⟨rfl, rfl⟩ (fun h_ => by first | exact h_ | simpa only [updAt_length] using h_ | with_unfolding_all rfl) ?_ ?_ | with_reducible apply keeps_ite | split | dsimp only | intro _ _ | intro _)

theorem execOscUpdateReady_keeps {p_ : Allow} {z : State} (at_ : Instant) (i : Fin 32) {s : State}  (hosc_ : p_.may .osc = true) (htime_ : p_.clock = true) (h_ : Keeps p_ z s) : KeepsOut p_ z (execOscUpdateReady at_ i s) := by
  unfold execOscUpdateReady
  repeat' (first | with_reducible assumption | with_reducible exact Keeps.refl _ _ | with_reducible apply State.advance_keeps | with_reducible apply State.oscQueue_keeps | with_reducible apply KeepsRes.done | with_reducible apply KeepsRes.accepted | with_reducible apply KeepsRes.waiting | with_reducible apply KeepsOut.next | with_reducible apply keeps_ite | with_reducible apply keepsOut_ite | split | dsimp only | intro _ _ | intro _)

theorem State.oscResult_keeps {p_ : Allow} {z : State} {s : State} (i : Nat) (u : OscUpdate)  (hfree_ : p_.may .free = true) (hevents_ : p_.may .events = true) (haln_ : p_.may .aln = true) (hbatches_ : p_.may .batches = true) (hosc_ : p_.may .osc = true) (h_ : Keeps p_ z s) : Keeps p_ z (State.oscResult s i u) := by
  unfold State.oscResult
  repeat' (first | with_reducible assumption | with_reducible exact Keeps.refl _ _ | with_reducible apply State.oscUpdate_keeps | with_reducible apply State.noteResult_keeps | dsimp only | intro _ _ | intro _)

theorem execOscUpdateComplete_keeps {p_ : Allow} {z : State} (at_ : Instant) (i : Fin 32) {s : State}  (hfree_ : p_.may .free = true) (hevents_ : p_.may .events = true) (haln_ : p_.may .aln = true) (hbatches_ : p_.may .batches = true) (hosc_ : p_.may .osc = true) (htime_ : p_.clock = true) (h_ : Keeps p_ z s) : KeepsOut p_ z (execOscUpdateComplete at_ i s) := by
  unfold execOscUpdateComplete
  repeat' (first | with_reducible assumption | with_reducible exact Keeps.refl _ _ | with_reducible apply State.advance_keeps | with_reducible apply State.oscResult_keeps | with_reducible apply State.updSet_keeps | with_reducible apply State.issueBarrier_keeps | with_reducible apply KeepsRes.done | with_reducible apply KeepsRes.accepted | with_reducible apply KeepsRes.waiting | with_reducible apply KeepsOut.next | with_reducible apply keepsParts_intro | with_reducible exact Or.inl (by with_reducible assumption) | with_reducible exact Or.inr rfl | simp only [keeps_mk] | with_reducible refine keepsMk_of ?_ ⟨rfl, rfl⟩ (fun h_ => by first | exact h_ | simpa only [updAt_length] using h_ | with_unfolding_all rfl) ?_ ?_ | with_reducible apply keeps_ite | with_reducible apply keepsOut_ite | split | intro _ _ | dsimp only | intro _ _ | intro _)

theorem State.setOscProfile_keeps {p_ : Allow} {z : State} {s : State} (a : OscProfileArgs)  (h_ : Keeps p_ z s) : Keeps p_ z (State.setOscProfile s a) := by
  unfold State.setOscProfile
  repeat' (first | with_reducible assumption | with_reducible exact Keeps.refl _ _ | with_reducible apply State.resetRegs_keeps | with_reducible apply State.setReg_keeps | with_reducible apply State.setRf_keeps | with_reducible apply State.count_keeps | split | dsimp only | intro _ _ | intro _)

theorem bodyOscSetProfile_keeps {p_ : Allow} {z : State} (a : OscProfileArgs) {s : State}  (h_ : Keeps p_ z s) : KeepsRes p_ z (bodyOscSetProfile a s) := by
  unfold bodyOscSetProfile
  repeat' (first | with_reducible assumption | with_reducible exact Keeps.refl _ _ | with_reducible apply refuse_keeps | with_reducible apply State.count_keeps | with_reducible apply State.setOscProfile_keeps | with_reducible apply ok_keeps | with_reducible apply KeepsRes.done | with_reducible apply KeepsRes.accepted | with_reducible apply KeepsRes.waiting | with_reducible apply KeepsOut.next | with_reducible apply keeps_ite | with_reducible apply keepsRes_ite | split | dsimp only | intro _ _ | intro _)

theorem execOscSetProfile_keeps {p_ : Allow} {z : State} (h : Hdr) (a : OscProfileArgs) {s : State}  (htime_ : p_.clock = true) (h_ : Keeps p_ z s) : KeepsOut p_ z (execOscSetProfile h a s) := by
  unfold execOscSetProfile
  repeat' (first | with_reducible assumption | with_reducible exact Keeps.refl _ _ | with_reducible apply runCmd_keeps | with_reducible apply bodyOscSetProfile_keeps | with_reducible apply KeepsRes.done | with_reducible apply KeepsRes.accepted | with_reducible apply KeepsRes.waiting | with_reducible apply KeepsOut.next | dsimp only | intro _ _ | intro _)

theorem State.putSig_keeps {p_ : Allow} {z : State} {s : State} (n : Nat) (w0 w1 w2 : Word)  (hosc_ : p_.may .osc = true) (h_ : Keeps p_ z s) : Keeps p_ z (State.putSig s n w0 w1 w2) := by
  unfold State.putSig
  repeat' (first | with_reducible assumption | with_reducible exact Keeps.refl _ _ | with_reducible apply State.setOsc_keeps | with_reducible apply keepsParts_intro | with_reducible exact Or.inl (by with_reducible assumption) | with_reducible exact Or.inr rfl | simp only [keeps_mk] | with_reducible refine keepsMk_of ?_ ⟨rfl, rfl⟩ (fun h_ => by first | exact h_ | simpa only [updAt_length] using h_ | with_unfolding_all rfl) ?_ ?_ | dsimp only | intro _ _ | intro _)

theorem bodyOscSignals_keeps {p_ : Allow} {z : State} (set : Fin 32) (l : List OscSignal) {s : State}  (hosc_ : p_.may .osc = true) (h_ : Keeps p_ z s) : KeepsRes p_ z (bodyOscSignals set l s) := by
  unfold bodyOscSignals
  repeat' (first | with_reducible assumption | with_reducible exact Keeps.refl _ _ | with_reducible apply refuse_keeps | with_reducible apply ok_keeps | with_reducible apply State.putSig_keeps | with_reducible apply KeepsRes.done | with_reducible apply KeepsRes.accepted | with_reducible apply KeepsRes.waiting | with_reducible apply KeepsOut.next | with_reducible apply keeps_foldl | with_reducible apply keeps_foldl_fst | with_reducible apply keeps_foldl_snd | intro _ _ _ | with_reducible apply keepsParts_intro | with_reducible exact Or.inl (by with_reducible assumption) | with_reducible exact Or.inr rfl | simp only [keeps_mk] | with_reducible refine keepsMk_of ?_ ⟨rfl, rfl⟩ (fun h_ => by first | exact h_ | simpa only [updAt_length] using h_ | with_unfolding_all rfl) ?_ ?_ | with_reducible apply keeps_ite | with_reducible apply keepsRes_ite | split | intro _ _ | dsimp only | intro _ _ | intro _)

theorem execOscSignals_keeps {p_ : Allow} {z : State} (h : Hdr) (set : Fin 32) (l : List OscSignal) {s : State}  (hosc_ : p_.may .osc = true) (htime_ : p_.clock = true) (h_ : Keeps p_ z s) : KeepsOut p_ z (execOscSignals h set l s) := by
  unfold execOscSignals
  repeat' (first | with_reducible assumption | with_reducible exact Keeps.refl _ _ | with_reducible apply runCmd_keeps | with_reducible apply bodyOscSignals_keeps | with_reducible apply KeepsRes.done | with_reducible apply KeepsRes.accepted | with_reducible apply KeepsRes.waiting | with_reducible apply KeepsOut.next | dsimp only | intro _ _ | intro _)

theorem State.setRegSome_keeps {p_ : Allow} {z : State} {s : State} (a : Nat) (x0 : Option Word)  (h_ : Keeps p_ z s) : Keeps p_ z (State.setRegSome s a x0) := by
  unfold State.setRegSome
  repeat' (first | with_reducible assumption | with_reducible exact Keeps.refl _ _ | with_reducible apply State.setReg_keeps | split | dsimp only | intro _ _ | intro _)

theorem bodyOscThresholds_keeps {p_ : Allow} {z : State} (a : OscThresholdArgs) {s : State}  (h_ : Keeps p_ z s) : KeepsRes p_ z (bodyOscThresholds a s) := by
  unfold bodyOscThresholds
  repeat' (first | with_reducible assumption | with_reducible exact Keeps.refl _ _ | with_reducible apply refuse_keeps | with_reducible apply ok_keeps | with_reducible apply State.setRegSome_keeps | with_reducible apply State.setSome_keeps | with_reducible apply KeepsRes.done | with_reducible apply KeepsRes.accepted | with_reducible apply KeepsRes.waiting | with_reducible apply KeepsOut.next | with_reducible apply keeps_ite | with_reducible apply keepsRes_ite | split | dsimp only | intro _ _ | intro _)

theorem execOscThresholds_keeps {p_ : Allow} {z : State} (h : Hdr) (a : OscThresholdArgs) {s : State}  (htime_ : p_.clock = true) (h_ : Keeps p_ z s) : KeepsOut p_ z (execOscThresholds h a s) := by
  unfold execOscThresholds
  repeat' (first | with_reducible assumption | with_reducible exact Keeps.refl _ _ | with_reducible apply runCmd_keeps | with_reducible apply bodyOscThresholds_keeps | with_reducible apply KeepsRes.done | with_reducible apply KeepsRes.accepted | with_reducible apply KeepsRes.waiting | with_reducible apply KeepsOut.next | dsimp only | intro _ _ | intro _)

theorem State.copyRef_keeps {p_ : Allow} {z : State} {s : State} (i : Nat)  (hosc_ : p_.may .osc = true) (h_ : Keeps p_ z s) : Keeps p_ z (State.copyRef s i) := by
  unfold State.copyRef
  repeat' (first | with_reducible assumption | with_reducible exact Keeps.refl _ _ | with_reducible apply State.putSig_keeps | with_reducible apply keeps_foldl | with_reducible apply keeps_foldl_fst | with_reducible apply keeps_foldl_snd | intro _ _ _ | dsimp only | intro _ _ | intro _)

theorem bodyOscSetStart_keeps {p_ : Allow} {z : State} (set : Fin 32) {s : State}  (hosc_ : p_.may .osc = true) (h_ : Keeps p_ z s) : KeepsRes p_ z (bodyOscSetStart set s) := by
  unfold bodyOscSetStart
  repeat' (first | with_reducible assumption | with_reducible exact Keeps.refl _ _ | with_reducible apply State.copyRef_keeps | with_reducible apply refuse_keeps | with_reducible apply ok_keeps | with_reducible apply State.updSet_keeps | with_reducible apply KeepsRes.done | with_reducible apply KeepsRes.accepted | with_reducible apply KeepsRes.waiting | with_reducible apply KeepsOut.next | with_reducible apply keepsParts_intro | with_reducible exact Or.inl (by with_reducible assumption) | with_reducible exact Or.inr rfl | simp only [keeps_mk] | with_reducible refine keepsMk_of ?_ ⟨rfl, rfl⟩ (fun h_ => by first | exact h_ | simpa only [updAt_length] using h_ | with_unfolding_all rfl) ?_ ?_ | with_reducible apply keeps_ite | with_reducible apply keepsRes_ite | split | dsimp only | intro _ _ | intro _)

theorem execOscSetStart_keeps {p_ : Allow} {z : State} (h : Hdr) (set : Fin 32) {s : State}  (hosc_ : p_.may .osc = true) (htime_ : p_.clock = true) (h_ : Keeps p_ z s) : KeepsOut p_ z (execOscSetStart h set s) := by
  unfold execOscSetStart
  repeat' (first | with_reducible assumption | with_reducible exact Keeps.refl _ _ | with_reducible apply runCmd_keeps | with_reducible apply bodyOscSetStart_keeps | with_reducible apply KeepsRes.done | with_reducible apply KeepsRes.accepted | with_reducible apply KeepsRes.waiting | with_reducible apply KeepsOut.next | dsimp only | intro _ _ | intro _)

theorem bodyOscSetStop_keeps {p_ : Allow} {z : State} (set : Fin 32) {s : State}  (hevents_ : p_.may .events = true) (hbatches_ : p_.may .batches = true) (hosc_ : p_.may .osc = true) (h_ : Keeps p_ z s) : KeepsRes p_ z (bodyOscSetStop set s) := by
  unfold bodyOscSetStop
  repeat' (first | with_reducible assumption | with_reducible exact Keeps.refl _ _ | with_reducible apply ok_keeps | with_reducible apply State.stopSet_keeps | with_reducible apply KeepsRes.done | with_reducible apply KeepsRes.accepted | with_reducible apply KeepsRes.waiting | with_reducible apply KeepsOut.next | dsimp only | intro _ _ | intro _)

theorem execOscSetStop_keeps {p_ : Allow} {z : State} (h : Hdr) (set : Fin 32) {s : State}  (hevents_ : p_.may .events = true) (hbatches_ : p_.may .batches = true) (hosc_ : p_.may .osc = true) (htime_ : p_.clock = true) (h_ : Keeps p_ z s) : KeepsOut p_ z (execOscSetStop h set s) := by
  unfold execOscSetStop
  repeat' (first | with_reducible assumption | with_reducible exact Keeps.refl _ _ | with_reducible apply runCmd_keeps | with_reducible apply bodyOscSetStop_keeps | with_reducible apply KeepsRes.done | with_reducible apply KeepsRes.accepted | with_reducible apply KeepsRes.waiting | with_reducible apply KeepsOut.next | dsimp only | intro _ _ | intro _)

theorem bodyOscSetRaw_keeps {p_ : Allow} {z : State} (set : Fin 32) (l : List (Fin 32 × Word)) {s : State}  (h_ : Keeps p_ z s) : KeepsRes p_ z (bodyOscSetRaw set l s) := by
  unfold bodyOscSetRaw
  repeat' (first | with_reducible assumption | with_reducible exact Keeps.refl _ _ | with_reducible apply State.plainWrite_keeps | with_reducible apply refuse_keeps | with_reducible apply ok_keeps | with_reducible apply KeepsRes.done | with_reducible apply KeepsRes.accepted | with_reducible apply KeepsRes.waiting | with_reducible apply KeepsOut.next | with_reducible apply keeps_foldl | with_reducible apply keeps_foldl_fst | with_reducible apply keeps_foldl_snd | intro _ _ _ | with_reducible apply keeps_ite | with_reducible apply keepsRes_ite | split | dsimp only | intro _ _ | intro _)

theorem execOscSetRaw_keeps {p_ : Allow} {z : State} (h : Hdr) (set : Fin 32) (l : List (Fin 32 × Word)) {s : State}  (htime_ : p_.clock = true) (h_ : Keeps p_ z s) : KeepsOut p_ z (execOscSetRaw h set l s) := by
  unfold execOscSetRaw
  repeat' (first | with_reducible assumption | with_reducible exact Keeps.refl _ _ | with_reducible apply runCmd_keeps | with_reducible apply bodyOscSetRaw_keeps | with_reducible apply KeepsRes.done | with_reducible apply KeepsRes.accepted | with_reducible apply KeepsRes.waiting | with_reducible apply KeepsOut.next | dsimp only | intro _ _ | intro _)

theorem State.setOscTune_keeps {p_ : Allow} {z : State} {s : State} (a : OscTuneArgs)  (h_ : Keeps p_ z s) : Keeps p_ z (State.setOscTune s a) := by
  unfold State.setOscTune
  repeat' (first | with_reducible assumption | with_reducible exact Keeps.refl _ _ | with_reducible apply State.setSome_keeps | with_reducible apply State.setRf_keeps | with_reducible apply keepsParts_intro | with_reducible exact Or.inl (by with_reducible assumption) | with_reducible exact Or.inr rfl | simp only [keeps_mk] | with_reducible refine keepsMk_of ?_ ⟨rfl, rfl⟩ (fun h_ => by first | exact h_ | simpa only [updAt_length] using h_ | with_unfolding_all rfl) ?_ ?_ | split | intro _ _ | dsimp only | intro _ _ | intro _)

theorem bodyOscTune_keeps {p_ : Allow} {z : State} (a : OscTuneArgs) {s : State}  (h_ : Keeps p_ z s) : KeepsRes p_ z (bodyOscTune a s) := by
  unfold bodyOscTune
  repeat' (first | with_reducible assumption | with_reducible exact Keeps.refl _ _ | with_reducible apply refuse_keeps | with_reducible apply ok_keeps | with_reducible apply State.setOscTune_keeps | with_reducible apply KeepsRes.done | with_reducible apply KeepsRes.accepted | with_reducible apply KeepsRes.waiting | with_reducible apply KeepsOut.next | with_reducible apply keeps_ite | with_reducible apply keepsRes_ite | split | dsimp only | intro _ _ | intro _)

theorem execOscTune_keeps {p_ : Allow} {z : State} (h : Hdr) (a : OscTuneArgs) {s : State}  (htime_ : p_.clock = true) (h_ : Keeps p_ z s) : KeepsOut p_ z (execOscTune h a s) := by
  unfold execOscTune
  repeat' (first | with_reducible assumption | with_reducible exact Keeps.refl _ _ | with_reducible apply runCmd_keeps | with_reducible apply bodyOscTune_keeps | with_reducible apply KeepsRes.done | with_reducible apply KeepsRes.accepted | with_reducible apply KeepsRes.waiting | with_reducible apply KeepsOut.next | dsimp only | intro _ _ | intro _)

theorem State.putBranch_keeps {p_ : Allow} {z : State} {s : State} (b : Nat) (ws : List Word)  (hosc_ : p_.may .osc = true) (h_ : Keeps p_ z s) : Keeps p_ z (State.putBranch s b ws) := by
  unfold State.putBranch
  repeat' (first | with_reducible assumption | with_reducible exact Keeps.refl _ _ | with_reducible apply State.setOsc_keeps | with_reducible apply keeps_foldl | with_reducible apply keeps_foldl_fst | with_reducible apply keeps_foldl_snd | intro _ _ _ | with_reducible apply keepsParts_intro | with_reducible exact Or.inl (by with_reducible assumption) | with_reducible exact Or.inr rfl | simp only [keeps_mk] | with_reducible refine keepsMk_of ?_ ⟨rfl, rfl⟩ (fun h_ => by first | exact h_ | simpa only [updAt_length] using h_ | with_unfolding_all rfl) ?_ ?_ | dsimp only | intro _ _ | intro _)

theorem bodyOscDefBranches_keeps {p_ : Allow} {z : State} (l : List OscBranch) {s : State}  (hosc_ : p_.may .osc = true) (h_ : Keeps p_ z s) : KeepsRes p_ z (bodyOscDefBranches l s) := by
  unfold bodyOscDefBranches
  repeat' (first | with_reducible assumption | with_reducible exact Keeps.refl _ _ | with_reducible apply refuse_keeps | with_reducible apply ok_keeps | with_reducible apply State.putBranch_keeps | with_reducible apply KeepsRes.done | with_reducible apply KeepsRes.accepted | with_reducible apply KeepsRes.waiting | with_reducible apply KeepsOut.next | with_reducible apply keeps_foldl | with_reducible apply keeps_foldl_fst | with_reducible apply keeps_foldl_snd | intro _ _ _ | with_reducible apply keepsParts_intro | with_reducible exact Or.inl (by with_reducible assumption) | with_reducible exact Or.inr rfl | simp only [keeps_mk] | with_reducible refine keepsMk_of ?_ ⟨rfl, rfl⟩ (fun h_ => by first | exact h_ | simpa only [updAt_length] using h_ | with_unfolding_all rfl) ?_ ?_ | split | intro _ _ | dsimp only | intro _ _ | intro _)

theorem execOscDefBranches_keeps {p_ : Allow} {z : State} (h : Hdr) (l : List OscBranch) {s : State}  (hosc_ : p_.may .osc = true) (htime_ : p_.clock = true) (h_ : Keeps p_ z s) : KeepsOut p_ z (execOscDefBranches h l s) := by
  unfold execOscDefBranches
  repeat' (first | with_reducible assumption | with_reducible exact Keeps.refl _ _ | with_reducible apply runCmd_keeps | with_reducible apply bodyOscDefBranches_keeps | with_reducible apply KeepsRes.done | with_reducible apply KeepsRes.accepted | with_reducible apply KeepsRes.waiting | with_reducible apply KeepsOut.next | dsimp only | intro _ _ | intro _)

theorem State.oscWrite_keeps {p_ : Allow} {z : State} {s : State} (branch : Bool) (n : Nat) (ws : List Word)  (hosc_ : p_.may .osc = true) (h_ : Keeps p_ z s) : Keeps p_ z (State.oscWrite s branch n ws).2 := by
  unfold State.oscWrite
  repeat' (first | with_reducible assumption | with_reducible exact Keeps.refl _ _ | with_reducible apply State.putBranch_keeps | with_reducible apply State.putSig_keeps | with_reducible apply keeps_ite | split | dsimp only | intro _ _ | intro _)
theorem State.oscWrite_keeps_of {p_ : Allow} {z : State} {s : State} {branch : Bool} {n : Nat} {ws : List Word} {a_ : _} {t_ : State} (e_ : State.oscWrite s branch n ws = (a_, t_)) (hosc_ : p_.may .osc = true) (h_ : Keeps p_ z s) : Keeps p_ z t_ := by
  have k_ := State.oscWrite_keeps (z := z) branch n ws hosc_ h_
  rw [e_] at k_; exact k_

theorem bodyOscSigRaw_keeps {p_ : Allow} {z : State} (l : List OscTblEntry) {s : State}  (hosc_ : p_.may .osc = true) (h_ : Keeps p_ z s) : KeepsRes p_ z (bodyOscSigRaw l s) := by
  unfold bodyOscSigRaw
  repeat' (first | with_reducible assumption | with_reducible exact Keeps.refl _ _ | with_reducible apply State.oscWrite_keeps | with_reducible apply refuse_keeps | with_reducible apply ok_keeps | with_reducible refine State.oscWrite_keeps_of (by with_reducible assumption) ?_ ?_ | with_reducible apply KeepsRes.done | with_reducible apply KeepsRes.accepted | with_reducible apply KeepsRes.waiting | with_reducible apply KeepsOut.next | with_reducible apply keeps_foldl | with_reducible apply keeps_foldl_fst | with_reducible apply keeps_foldl_snd | intro _ _ _ | with_reducible apply keepsParts_intro | with_reducible exact Or.inl (by with_reducible assumption) | with_reducible exact Or.inr rfl | simp only [keeps_mk] | with_reducible refine keepsMk_of ?_ ⟨rfl, rfl⟩ (fun h_ => by first | exact h_ | simpa only [updAt_length] using h_ | with_unfolding_all rfl) ?_ ?_ | split | intro _ _ | dsimp only | intro _ _ | intro _)

theorem execOscSigRaw_keeps {p_ : Allow} {z : State} (h : Hdr) (l : List OscTblEntry) {s : State}  (hosc_ : p_.may .osc = true) (htime_ : p_.clock = true) (h_ : Keeps p_ z s) : KeepsOut p_ z (execOscSigRaw h l s) := by
  unfold execOscSigRaw
  repeat' (first | with_reducible assumption | with_reducible exact Keeps.refl _ _ | with_reducible apply runCmd_keeps | with_reducible apply bodyOscSigRaw_keeps | with_reducible apply KeepsRes.done | with_reducible apply KeepsRes.accepted | with_reducible apply KeepsRes.waiting | with_reducible apply KeepsOut.next | dsimp only | intro _ _ | intro _)

theorem State.oscTblRead_keeps {p_ : Allow} {z : State} {s : State}  (h_ : Keeps p_ z s) : Keeps p_ z (State.oscTblRead s) := by
  unfold State.oscTblRead
  repeat' (first | with_reducible assumption | with_reducible exact Keeps.refl _ _ | with_reducible apply State.setRf_keeps | with_reducible apply State.setReg_keeps | with_reducible apply keeps_foldl | with_reducible apply keeps_foldl_fst | with_reducible apply keeps_foldl_snd | intro _ _ _ | with_reducible apply keeps_ite | split | dsimp only | intro _ _ | intro _)

theorem execOscTblRead_keeps {p_ : Allow} {z : State} (at_ : Instant) {s : State}  (htime_ : p_.clock = true) (h_ : Keeps p_ z s) : KeepsOut p_ z (execOscTblRead at_ s) := by
  unfold execOscTblRead
  repeat' (first | with_reducible assumption | with_reducible exact Keeps.refl _ _ | with_reducible apply State.advance_keeps | with_reducible apply State.oscTblRead_keeps | with_reducible apply KeepsRes.done | with_reducible apply KeepsRes.accepted | with_reducible apply KeepsRes.waiting | with_reducible apply KeepsOut.next | dsimp only | intro _ _ | intro _)

theorem State.oscTblWrite_keeps {p_ : Allow} {z : State} {s : State}  (hosc_ : p_.may .osc = true) (h_ : Keeps p_ z s) : Keeps p_ z (State.oscTblWrite s) := by
  unfold State.oscTblWrite
  repeat' (first | with_reducible assumption | with_reducible exact Keeps.refl _ _ | with_reducible apply State.oscWrite_keeps | with_reducible apply State.setRf_keeps | with_reducible refine State.oscWrite_keeps_of (by with_reducible assumption) ?_ ?_ | dsimp only | intro _ _ | intro _)

theorem execOscTblWrite_keeps {p_ : Allow} {z : State} (at_ : Instant) {s : State}  (hosc_ : p_.may .osc = true) (htime_ : p_.clock = true) (h_ : Keeps p_ z s) : KeepsOut p_ z (execOscTblWrite at_ s) := by
  unfold execOscTblWrite
  repeat' (first | with_reducible assumption | with_reducible exact Keeps.refl _ _ | with_reducible apply State.advance_keeps | with_reducible apply State.oscTblWrite_keeps | with_reducible apply KeepsRes.done | with_reducible apply KeepsRes.accepted | with_reducible apply KeepsRes.waiting | with_reducible apply KeepsOut.next | dsimp only | intro _ _ | intro _)

theorem bodyOscStatus_keeps {p_ : Allow} {z : State} {s : State}  (h_ : Keeps p_ z s) : KeepsRes p_ z (bodyOscStatus s) := by
  unfold bodyOscStatus
  repeat' (first | with_reducible assumption | with_reducible exact Keeps.refl _ _ | with_reducible apply ok_keeps | with_reducible apply KeepsRes.done | with_reducible apply KeepsRes.accepted | with_reducible apply KeepsRes.waiting | with_reducible apply KeepsOut.next | dsimp only | intro _ _ | intro _)

theorem execOscStatus_keeps {p_ : Allow} {z : State} (h : Hdr) {s : State}  (htime_ : p_.clock = true) (h_ : Keeps p_ z s) : KeepsOut p_ z (execOscStatus h s) := by
  unfold execOscStatus
  repeat' (first | with_reducible assumption | with_reducible exact Keeps.refl _ _ | with_reducible apply runCmd_keeps | with_reducible apply bodyOscStatus_keeps | with_reducible apply KeepsRes.done | with_reducible apply KeepsRes.accepted | with_reducible apply KeepsRes.waiting | with_reducible apply KeepsOut.next | dsimp only | intro _ _ | intro _)

theorem bodyOscModesRead_keeps {p_ : Allow} {z : State} (set : Fin 32) (shapes : Bool) {s : State}  (h_ : Keeps p_ z s) : KeepsRes p_ z (bodyOscModesRead set shapes s) := by
  unfold bodyOscModesRead
  repeat' (first | with_reducible assumption | with_reducible exact Keeps.refl _ _ | with_reducible apply ok_keeps | with_reducible apply KeepsRes.done | with_reducible apply KeepsRes.accepted | with_reducible apply KeepsRes.waiting | with_reducible apply KeepsOut.next | dsimp only | intro _ _ | intro _)

theorem execOscModesRead_keeps {p_ : Allow} {z : State} (h : Hdr) (set : Fin 32) (shapes : Bool) {s : State}  (htime_ : p_.clock = true) (h_ : Keeps p_ z s) : KeepsOut p_ z (execOscModesRead h set shapes s) := by
  unfold execOscModesRead
  repeat' (first | with_reducible assumption | with_reducible exact Keeps.refl _ _ | with_reducible apply runCmd_keeps | with_reducible apply bodyOscModesRead_keeps | with_reducible apply KeepsRes.done | with_reducible apply KeepsRes.accepted | with_reducible apply KeepsRes.waiting | with_reducible apply KeepsOut.next | dsimp only | intro _ _ | intro _)

theorem bodyOscForcedRead_keeps {p_ : Allow} {z : State} (set : Fin 32) (flows : Bool) {s : State}  (h_ : Keeps p_ z s) : KeepsRes p_ z (bodyOscForcedRead set flows s) := by
  unfold bodyOscForcedRead
  repeat' (first | with_reducible assumption | with_reducible exact Keeps.refl _ _ | with_reducible apply ok_keeps | with_reducible apply KeepsRes.done | with_reducible apply KeepsRes.accepted | with_reducible apply KeepsRes.waiting | with_reducible apply KeepsOut.next | dsimp only | intro _ _ | intro _)

theorem execOscForcedRead_keeps {p_ : Allow} {z : State} (h : Hdr) (set : Fin 32) (flows : Bool) {s : State}  (htime_ : p_.clock = true) (h_ : Keeps p_ z s) : KeepsOut p_ z (execOscForcedRead h set flows s) := by
  unfold execOscForcedRead
  repeat' (first | with_reducible assumption | with_reducible exact Keeps.refl _ _ | with_reducible apply runCmd_keeps | with_reducible apply bodyOscForcedRead_keeps | with_reducible apply KeepsRes.done | with_reducible apply KeepsRes.accepted | with_reducible apply KeepsRes.waiting | with_reducible apply KeepsOut.next | dsimp only | intro _ _ | intro _)

/-! ### Machine/Capture.lean -/

theorem execCaptureRowClose_keeps {p_ : Allow} {z : State} (at_ : Instant) {s0 : State}  (hcapIn_ : p_.may .capIn = true) (hcap_ : p_.may .cap = true) (htime_ : p_.clock = true) (h_ : Keeps p_ z s0) : KeepsOut p_ z (execCaptureRowClose at_ s0) := by
  unfold execCaptureRowClose
  repeat' (first | with_reducible assumption | with_reducible exact Keeps.refl _ _ | with_reducible apply State.advance_keeps | with_reducible apply State.capRaw_keeps | with_reducible apply State.closeAll_keeps | with_reducible apply State.capEstimate_keeps | with_reducible apply KeepsRes.done | with_reducible apply KeepsRes.accepted | with_reducible apply KeepsRes.waiting | with_reducible apply KeepsOut.next | with_reducible apply keepsParts_intro | with_reducible exact Or.inl (by with_reducible assumption) | with_reducible exact Or.inr rfl | simp only [keeps_mk] | with_reducible refine keepsMk_of ?_ ⟨rfl, rfl⟩ (fun h_ => by first | exact h_ | simpa only [updAt_length] using h_ | with_unfolding_all rfl) ?_ ?_ | with_reducible apply keeps_ite | with_reducible apply keepsOut_ite | split | intro _ _ | dsimp only | intro _ _ | intro _)

theorem execCaptureRowWaitExpiry_keeps {p_ : Allow} {z : State} (u : Fin 4) {s : State}  (hcap_ : p_.may .cap = true) (htime_ : p_.clock = true) (h_ : Keeps p_ z s) : KeepsOut p_ z (execCaptureRowWaitExpiry u s) := by
  unfold execCaptureRowWaitExpiry
  repeat' (first | with_reducible assumption | with_reducible exact Keeps.refl _ _ | with_reducible apply State.advance_keeps | with_reducible apply State.closeRow_keeps | with_reducible apply State.closeAll_keeps | with_reducible apply KeepsRes.done | with_reducible apply KeepsRes.accepted | with_reducible apply KeepsRes.waiting | with_reducible apply KeepsOut.next | with_reducible apply keeps_ite | with_reducible apply keepsOut_ite | split | dsimp only | intro _ _ | intro _)

theorem execCaptureEventQueue_keeps {p_ : Allow} {z : State} (at_ : Instant) {s0 : State}  (hcapIn_ : p_.may .capIn = true) (hcap_ : p_.may .cap = true) (htime_ : p_.clock = true) (h_ : Keeps p_ z s0) : KeepsOut p_ z (execCaptureEventQueue at_ s0) := by
  unfold execCaptureEventQueue
  repeat' (first | with_reducible assumption | with_reducible exact Keeps.refl _ _ | with_reducible apply State.advance_keeps | with_reducible apply State.queueEvt_keeps | with_reducible apply KeepsRes.done | with_reducible apply KeepsRes.accepted | with_reducible apply KeepsRes.waiting | with_reducible apply KeepsOut.next | with_reducible apply keepsParts_intro | with_reducible exact Or.inl (by with_reducible assumption) | with_reducible exact Or.inr rfl | simp only [keeps_mk] | with_reducible refine keepsMk_of ?_ ⟨rfl, rfl⟩ (fun h_ => by first | exact h_ | simpa only [updAt_length] using h_ | with_unfolding_all rfl) ?_ ?_ | with_reducible apply keeps_ite | with_reducible apply keepsOut_ite | split | intro _ _ | dsimp only | intro _ _ | intro _)

theorem execRecordDrainComplete_keeps {p_ : Allow} {z : State} (at_ : Instant) (u : Fin 4) {s0 : State}  (hevents_ : p_.may .events = true) (hcap_ : p_.may .cap = true) (htime_ : p_.clock = true) (h_ : Keeps p_ z s0) : KeepsOut p_ z (execRecordDrainComplete at_ u s0) := by
  unfold execRecordDrainComplete
  repeat' (first | with_reducible assumption | with_reducible exact Keeps.refl _ _ | with_reducible apply State.advance_keeps | with_reducible apply State.drained_keeps | with_reducible apply KeepsRes.done | with_reducible apply KeepsRes.accepted | with_reducible apply KeepsRes.waiting | with_reducible apply KeepsOut.next | with_reducible apply keeps_ite | with_reducible apply keepsOut_ite | split | dsimp only | intro _ _ | intro _)

theorem State.writeCapCtl_keeps {p_ : Allow} {z : State} {s : State} (v : Word)  (hevents_ : p_.may .events = true) (hcap_ : p_.may .cap = true) (h_ : Keeps p_ z s) : Keeps p_ z (State.writeCapCtl s v) := by
  unfold State.writeCapCtl
  repeat' (first | with_reducible assumption | with_reducible exact Keeps.refl _ _ | with_reducible apply State.writePart_keeps | with_reducible apply State.setRb_keeps | with_reducible apply State.capDisable_keeps | with_reducible apply keeps_ite | split | dsimp only | intro _ _ | intro _)

theorem execCapPartWrite_keeps {p_ : Allow} {z : State} (at_ : Instant) (gib : Fin 16) {s : State}  (hevents_ : p_.may .events = true) (hcap_ : p_.may .cap = true) (htime_ : p_.clock = true) (h_ : Keeps p_ z s) : KeepsOut p_ z (execCapPartWrite at_ gib s) := by
  unfold execCapPartWrite
  repeat' (first | with_reducible assumption | with_reducible exact Keeps.refl _ _ | with_reducible apply State.advance_keeps | with_reducible apply State.writeCapCtl_keeps | with_reducible apply KeepsRes.done | with_reducible apply KeepsRes.accepted | with_reducible apply KeepsRes.waiting | with_reducible apply KeepsOut.next | dsimp only | intro _ _ | intro _)

theorem bodyCapStatus_keeps {p_ : Allow} {z : State} {s : State}  (h_ : Keeps p_ z s) : KeepsRes p_ z (bodyCapStatus s) := by
  unfold bodyCapStatus
  repeat' (first | with_reducible assumption | with_reducible exact Keeps.refl _ _ | with_reducible apply ok_keeps | with_reducible apply KeepsRes.done | with_reducible apply KeepsRes.accepted | with_reducible apply KeepsRes.waiting | with_reducible apply KeepsOut.next | dsimp only | intro _ _ | intro _)

theorem execCapStatus_keeps {p_ : Allow} {z : State} (h : Hdr) {s : State}  (htime_ : p_.clock = true) (h_ : Keeps p_ z s) : KeepsOut p_ z (execCapStatus h s) := by
  unfold execCapStatus
  repeat' (first | with_reducible assumption | with_reducible exact Keeps.refl _ _ | with_reducible apply runCmd_keeps | with_reducible apply bodyCapStatus_keeps | with_reducible apply KeepsRes.done | with_reducible apply KeepsRes.accepted | with_reducible apply KeepsRes.waiting | with_reducible apply KeepsOut.next | dsimp only | intro _ _ | intro _)

theorem State.clearSeq_keeps {p_ : Allow} {z : State} {s : State} (u : Nat)  (h_ : Keeps p_ z s) : Keeps p_ z (State.clearSeq s u) := by
  unfold State.clearSeq
  repeat' (first | with_reducible assumption | with_reducible exact Keeps.refl _ _ | with_reducible apply State.resetRegs_keeps | dsimp only | intro _ _ | intro _)

theorem State.setCapProfile_keeps {p_ : Allow} {z : State} {s : State} (a : CapProfileArgs)  (h_ : Keeps p_ z s) : Keeps p_ z (State.setCapProfile s a) := by
  unfold State.setCapProfile
  repeat' (first | with_reducible assumption | with_reducible exact Keeps.refl _ _ | with_reducible apply State.setRb_keeps | with_reducible apply State.setReg_keeps | with_reducible apply State.clearSeq_keeps | with_reducible apply keepsParts_intro | with_reducible exact Or.inl (by with_reducible assumption) | with_reducible exact Or.inr rfl | simp only [keeps_mk] | with_reducible refine keepsMk_of ?_ ⟨rfl, rfl⟩ (fun h_ => by first | exact h_ | simpa only [updAt_length] using h_ | with_unfolding_all rfl) ?_ ?_ | split | intro _ _ | dsimp only | intro _ _ | intro _)

theorem bodyCapUnitProfile_keeps {p_ : Allow} {z : State} (a : CapProfileArgs) {s : State}  (h_ : Keeps p_ z s) : KeepsRes p_ z (bodyCapUnitProfile a s) := by
  unfold bodyCapUnitProfile
  repeat' (first | with_reducible assumption | with_reducible exact Keeps.refl _ _ | with_reducible apply refuse_keeps | with_reducible apply ok_keeps | with_reducible apply State.setCapProfile_keeps | with_reducible apply KeepsRes.done | with_reducible apply KeepsRes.accepted | with_reducible apply KeepsRes.waiting | with_reducible apply KeepsOut.next | with_reducible apply keeps_ite | with_reducible apply keepsRes_ite | split | dsimp only | intro _ _ | intro _)

theorem execCapUnitProfile_keeps {p_ : Allow} {z : State} (h : Hdr) (a : CapProfileArgs) {s : State}  (htime_ : p_.clock = true) (h_ : Keeps p_ z s) : KeepsOut p_ z (execCapUnitProfile h a s) := by
  unfold execCapUnitProfile
  repeat' (first | with_reducible assumption | with_reducible exact Keeps.refl _ _ | with_reducible apply runCmd_keeps | with_reducible apply bodyCapUnitProfile_keeps | with_reducible apply KeepsRes.done | with_reducible apply KeepsRes.accepted | with_reducible apply KeepsRes.waiting | with_reducible apply KeepsOut.next | dsimp only | intro _ _ | intro _)

theorem bodyCapChannels_keeps {p_ : Allow} {z : State} (u : Fin 4) (l : List CapChannel) {s : State}  (h_ : Keeps p_ z s) : KeepsRes p_ z (bodyCapChannels u l s) := by
  unfold bodyCapChannels
  repeat' (first | with_reducible assumption | with_reducible exact Keeps.refl _ _ | with_reducible apply refuse_keeps | with_reducible apply ok_keeps | with_reducible apply State.setReg_keeps | with_reducible apply KeepsRes.done | with_reducible apply KeepsRes.accepted | with_reducible apply KeepsRes.waiting | with_reducible apply KeepsOut.next | with_reducible apply keeps_foldl | with_reducible apply keeps_foldl_fst | with_reducible apply keeps_foldl_snd | intro _ _ _ | with_reducible apply keeps_ite | with_reducible apply keepsRes_ite | split | dsimp only | intro _ _ | intro _)

theorem execCapChannels_keeps {p_ : Allow} {z : State} (h : Hdr) (u : Fin 4) (l : List CapChannel) {s : State}  (htime_ : p_.clock = true) (h_ : Keeps p_ z s) : KeepsOut p_ z (execCapChannels h u l s) := by
  unfold execCapChannels
  repeat' (first | with_reducible assumption | with_reducible exact Keeps.refl _ _ | with_reducible apply runCmd_keeps | with_reducible apply bodyCapChannels_keeps | with_reducible apply KeepsRes.done | with_reducible apply KeepsRes.accepted | with_reducible apply KeepsRes.waiting | with_reducible apply KeepsOut.next | dsimp only | intro _ _ | intro _)

theorem bodyCapArm_keeps {p_ : Allow} {z : State} (u : Fin 4) (trunc : Bool) {s : State}  (hcap_ : p_.may .cap = true) (h_ : Keeps p_ z s) : KeepsRes p_ z (bodyCapArm u trunc s) := by
  unfold bodyCapArm
  repeat' (first | with_reducible assumption | with_reducible exact Keeps.refl _ _ | with_reducible apply State.arm_keeps | with_reducible apply ok_keeps | with_reducible apply refuse_keeps | with_reducible refine State.arm_keeps_of (by with_reducible assumption) ?_ ?_ | with_reducible apply KeepsRes.done | with_reducible apply KeepsRes.accepted | with_reducible apply KeepsRes.waiting | with_reducible apply KeepsOut.next | with_reducible apply keepsParts_intro | with_reducible exact Or.inl (by with_reducible assumption) | with_reducible exact Or.inr rfl | simp only [keeps_mk] | with_reducible refine keepsMk_of ?_ ⟨rfl, rfl⟩ (fun h_ => by first | exact h_ | simpa only [updAt_length] using h_ | with_unfolding_all rfl) ?_ ?_ | split | intro _ _ | dsimp only | intro _ _ | intro _)

theorem execCapArm_keeps {p_ : Allow} {z : State} (h : Hdr) (u : Fin 4) {s : State}  (hcap_ : p_.may .cap = true) (htime_ : p_.clock = true) (h_ : Keeps p_ z s) : KeepsOut p_ z (execCapArm h u s) := by
  unfold execCapArm
  repeat' (first | with_reducible assumption | with_reducible exact Keeps.refl _ _ | with_reducible apply runCmd_keeps | with_reducible apply bodyCapArm_keeps | with_reducible apply KeepsRes.done | with_reducible apply KeepsRes.accepted | with_reducible apply KeepsRes.waiting | with_reducible apply KeepsOut.next | dsimp only | intro _ _ | intro _)

theorem execCapArmX_keeps {p_ : Allow} {z : State} (h : Hdr) (u : Fin 4) (trunc : Bool) {s : State}  (hcap_ : p_.may .cap = true) (htime_ : p_.clock = true) (h_ : Keeps p_ z s) : KeepsOut p_ z (execCapArmX h u trunc s) := by
  unfold execCapArmX
  repeat' (first | with_reducible assumption | with_reducible exact Keeps.refl _ _ | with_reducible apply runCmd_keeps | with_reducible apply bodyCapArm_keeps | with_reducible apply KeepsRes.done | with_reducible apply KeepsRes.accepted | with_reducible apply KeepsRes.waiting | with_reducible apply KeepsOut.next | dsimp only | intro _ _ | intro _)

theorem State.keepRing_keeps {p_ : Allow} {z : State} {s : State} (u : Nat)  (hfree_ : p_.may .free = true) (hcap_ : p_.may .cap = true) (h_ : Keeps p_ z s) : Keeps p_ z (State.keepRing s u) := by
  unfold State.keepRing
  repeat' (first | with_reducible assumption | with_reducible exact Keeps.refl _ _ | with_reducible apply State.nextFree_keeps | with_reducible apply State.updRec_keeps | with_reducible apply State.updUnit_keeps | with_reducible apply State.beginClose_keeps | with_reducible apply keepsParts_intro | with_reducible exact Or.inl (by with_reducible assumption) | with_reducible exact Or.inr rfl | simp only [keeps_mk] | with_reducible refine keepsMk_of ?_ ⟨rfl, rfl⟩ (fun h_ => by first | exact h_ | simpa only [updAt_length] using h_ | with_unfolding_all rfl) ?_ ?_ | dsimp only | intro _ _ | intro _)

theorem bodyCapStop_keeps {p_ : Allow} {z : State} (u : Fin 4) (keep : Bool) {s : State}  (hfree_ : p_.may .free = true) (hcap_ : p_.may .cap = true) (h_ : Keeps p_ z s) : KeepsRes p_ z (bodyCapStop u keep s) := by
  unfold bodyCapStop
  repeat' (first | with_reducible assumption | with_reducible exact Keeps.refl _ _ | with_reducible apply ok_keeps | with_reducible apply State.beginClose_keeps | with_reducible apply State.keepRing_keeps | with_reducible apply State.disarm_keeps | with_reducible apply refuse_keeps | with_reducible apply KeepsRes.done | with_reducible apply KeepsRes.accepted | with_reducible apply KeepsRes.waiting | with_reducible apply KeepsOut.next | with_reducible apply keepsParts_intro | with_reducible exact Or.inl (by with_reducible assumption) | with_reducible exact Or.inr rfl | simp only [keeps_mk] | with_reducible refine keepsMk_of ?_ ⟨rfl, rfl⟩ (fun h_ => by first | exact h_ | simpa only [updAt_length] using h_ | with_unfolding_all rfl) ?_ ?_ | with_reducible apply keeps_ite | with_reducible apply keepsRes_ite | split | intro _ _ | dsimp only | intro _ _ | intro _)

theorem execCapStop_keeps {p_ : Allow} {z : State} (h : Hdr) (u : Fin 4) (keep : Bool) {s : State}  (hfree_ : p_.may .free = true) (hcap_ : p_.may .cap = true) (htime_ : p_.clock = true) (h_ : Keeps p_ z s) : KeepsOut p_ z (execCapStop h u keep s) := by
  unfold execCapStop
  repeat' (first | with_reducible assumption | with_reducible exact Keeps.refl _ _ | with_reducible apply runCmd_keeps | with_reducible apply bodyCapStop_keeps | with_reducible apply KeepsRes.done | with_reducible apply KeepsRes.accepted | with_reducible apply KeepsRes.waiting | with_reducible apply KeepsOut.next | dsimp only | intro _ _ | intro _)

theorem bodyCapForce_keeps {p_ : Allow} {z : State} (u : Fin 4) {s : State}  (hcap_ : p_.may .cap = true) (h_ : Keeps p_ z s) : KeepsRes p_ z (bodyCapForce u s) := by
  unfold bodyCapForce
  repeat' (first | with_reducible assumption | with_reducible exact Keeps.refl _ _ | with_reducible apply ok_keeps | with_reducible apply State.updUnit_keeps | with_reducible apply refuse_keeps | with_reducible apply KeepsRes.done | with_reducible apply KeepsRes.accepted | with_reducible apply KeepsRes.waiting | with_reducible apply KeepsOut.next | with_reducible apply keepsParts_intro | with_reducible exact Or.inl (by with_reducible assumption) | with_reducible exact Or.inr rfl | simp only [keeps_mk] | with_reducible refine keepsMk_of ?_ ⟨rfl, rfl⟩ (fun h_ => by first | exact h_ | simpa only [updAt_length] using h_ | with_unfolding_all rfl) ?_ ?_ | split | intro _ _ | dsimp only | intro _ _ | intro _)

theorem execCapForce_keeps {p_ : Allow} {z : State} (h : Hdr) (u : Fin 4) {s : State}  (hcap_ : p_.may .cap = true) (htime_ : p_.clock = true) (h_ : Keeps p_ z s) : KeepsOut p_ z (execCapForce h u s) := by
  unfold execCapForce
  repeat' (first | with_reducible assumption | with_reducible exact Keeps.refl _ _ | with_reducible apply runCmd_keeps | with_reducible apply bodyCapForce_keeps | with_reducible apply KeepsRes.done | with_reducible apply KeepsRes.accepted | with_reducible apply KeepsRes.waiting | with_reducible apply KeepsOut.next | dsimp only | intro _ _ | intro _)

theorem bodyCapList_keeps {p_ : Allow} {z : State} (first : Fin 256) {s : State}  (h_ : Keeps p_ z s) : KeepsRes p_ z (bodyCapList first s) := by
  unfold bodyCapList
  repeat' (first | with_reducible assumption | with_reducible exact Keeps.refl _ _ | with_reducible apply ok_keeps | with_reducible apply KeepsRes.done | with_reducible apply KeepsRes.accepted | with_reducible apply KeepsRes.waiting | with_reducible apply KeepsOut.next | with_reducible apply keepsParts_intro | with_reducible exact Or.inl (by with_reducible assumption) | with_reducible exact Or.inr rfl | simp only [keeps_mk] | with_reducible refine keepsMk_of ?_ ⟨rfl, rfl⟩ (fun h_ => by first | exact h_ | simpa only [updAt_length] using h_ | with_unfolding_all rfl) ?_ ?_ | split | intro _ _ | dsimp only | intro _ _ | intro _)

theorem execCapList_keeps {p_ : Allow} {z : State} (h : Hdr) (first : Fin 256) {s : State}  (htime_ : p_.clock = true) (h_ : Keeps p_ z s) : KeepsOut p_ z (execCapList h first s) := by
  unfold execCapList
  repeat' (first | with_reducible assumption | with_reducible exact Keeps.refl _ _ | with_reducible apply runCmd_keeps | with_reducible apply bodyCapList_keeps | with_reducible apply KeepsRes.done | with_reducible apply KeepsRes.accepted | with_reducible apply KeepsRes.waiting | with_reducible apply KeepsOut.next | dsimp only | intro _ _ | intro _)

theorem State.copyRecord_keeps {p_ : Allow} {z : State} {s : State} (via : Via) (buf len : Nat) (r : CapRec) (a : CapReadArgs)  (hevents_ : p_.may .events = true) (hflt_ : p_.may .flt = true) (h_ : Keeps p_ z s) : Keeps p_ z (State.copyRecord s via buf len r a).2 := by
  unfold State.copyRecord
  repeat' (first | with_reducible assumption | with_reducible exact Keeps.refl _ _ | with_reducible apply State.count_keeps | with_reducible apply State.readBulk_keeps | with_reducible apply State.hostWrite_keeps | with_reducible refine State.readBulk_keeps_of (by with_reducible assumption) ?_ ?_ ?_ | with_reducible apply keeps_ite | split | dsimp only | intro _ _ | intro _)
theorem State.copyRecord_keeps_of {p_ : Allow} {z : State} {s : State} {via : Via} {buf len : Nat} {r : CapRec} {a : CapReadArgs} {a_ : _} {t_ : State} (e_ : State.copyRecord s via buf len r a = (a_, t_)) (hevents_ : p_.may .events = true) (hflt_ : p_.may .flt = true) (h_ : Keeps p_ z s) : Keeps p_ z t_ := by
  have k_ := State.copyRecord_keeps (z := z) via buf len r a hevents_ hflt_ h_
  rw [e_] at k_; exact k_

theorem bodyCapRead_keeps {p_ : Allow} {z : State} (via : Via) (buf len : Nat) (a : CapReadArgs) {s : State}  (hevents_ : p_.may .events = true) (hflt_ : p_.may .flt = true) (h_ : Keeps p_ z s) : KeepsRes p_ z (bodyCapRead via buf len a s) := by
  unfold bodyCapRead
  repeat' (first | with_reducible assumption | with_reducible exact Keeps.refl _ _ | with_reducible apply refuse_keeps | with_reducible apply State.copyRecord_keeps | with_reducible refine State.copyRecord_keeps_of (by with_reducible assumption) ?_ ?_ ?_ | with_reducible apply KeepsRes.done | with_reducible apply KeepsRes.accepted | with_reducible apply KeepsRes.waiting | with_reducible apply KeepsOut.next | with_reducible apply keepsParts_intro | with_reducible exact Or.inl (by with_reducible assumption) | with_reducible exact Or.inr rfl | simp only [keeps_mk] | with_reducible refine keepsMk_of ?_ ⟨rfl, rfl⟩ (fun h_ => by first | exact h_ | simpa only [updAt_length] using h_ | with_unfolding_all rfl) ?_ ?_ | with_reducible apply keeps_ite | with_reducible apply keepsRes_ite | split | intro _ _ | dsimp only | intro _ _ | intro _)

theorem execCapRead_keeps {p_ : Allow} {z : State} (h : Hdr) (a : CapReadArgs) {s : State}  (hevents_ : p_.may .events = true) (hflt_ : p_.may .flt = true) (htime_ : p_.clock = true) (h_ : Keeps p_ z s) : KeepsOut p_ z (execCapRead h a s) := by
  unfold execCapRead
  repeat' (first | with_reducible assumption | with_reducible exact Keeps.refl _ _ | with_reducible apply runCmd_keeps | with_reducible apply bodyCapRead_keeps | with_reducible apply Res.carried_keeps | with_reducible apply KeepsRes.done | with_reducible apply KeepsRes.accepted | with_reducible apply KeepsRes.waiting | with_reducible apply KeepsOut.next | dsimp only | intro _ _ | intro _)

theorem bodyCapFree_keeps {p_ : Allow} {z : State} (n : Fin 256) {s : State}  (hcap_ : p_.may .cap = true) (h_ : Keeps p_ z s) : KeepsRes p_ z (bodyCapFree n s) := by
  unfold bodyCapFree
  repeat' (first | with_reducible assumption | with_reducible exact Keeps.refl _ _ | with_reducible apply refuse_keeps | with_reducible apply ok_keeps | with_reducible apply State.dropRec_keeps | with_reducible apply KeepsRes.done | with_reducible apply KeepsRes.accepted | with_reducible apply KeepsRes.waiting | with_reducible apply KeepsOut.next | with_reducible apply keepsParts_intro | with_reducible exact Or.inl (by with_reducible assumption) | with_reducible exact Or.inr rfl | simp only [keeps_mk] | with_reducible refine keepsMk_of ?_ ⟨rfl, rfl⟩ (fun h_ => by first | exact h_ | simpa only [updAt_length] using h_ | with_unfolding_all rfl) ?_ ?_ | with_reducible apply keeps_ite | with_reducible apply keepsRes_ite | split | intro _ _ | dsimp only | intro _ _ | intro _)

theorem execCapFree_keeps {p_ : Allow} {z : State} (h : Hdr) (n : Fin 256) {s : State}  (hcap_ : p_.may .cap = true) (htime_ : p_.clock = true) (h_ : Keeps p_ z s) : KeepsOut p_ z (execCapFree h n s) := by
  unfold execCapFree
  repeat' (first | with_reducible assumption | with_reducible exact Keeps.refl _ _ | with_reducible apply runCmd_keeps | with_reducible apply bodyCapFree_keeps | with_reducible apply KeepsRes.done | with_reducible apply KeepsRes.accepted | with_reducible apply KeepsRes.waiting | with_reducible apply KeepsOut.next | dsimp only | intro _ _ | intro _)

theorem bodyCapLock_keeps {p_ : Allow} {z : State} (n : Fin 256) (lock : Bool) {s : State}  (hcap_ : p_.may .cap = true) (h_ : Keeps p_ z s) : KeepsRes p_ z (bodyCapLock n lock s) := by
  unfold bodyCapLock
  repeat' (first | with_reducible assumption | with_reducible exact Keeps.refl _ _ | with_reducible apply refuse_keeps | with_reducible apply ok_keeps | with_reducible apply State.updRec_keeps | with_reducible apply KeepsRes.done | with_reducible apply KeepsRes.accepted | with_reducible apply KeepsRes.waiting | with_reducible apply KeepsOut.next | with_reducible apply keepsParts_intro | with_reducible exact Or.inl (by with_reducible assumption) | with_reducible exact Or.inr rfl | simp only [keeps_mk] | with_reducible refine keepsMk_of ?_ ⟨rfl, rfl⟩ (fun h_ => by first | exact h_ | simpa only [updAt_length] using h_ | with_unfolding_all rfl) ?_ ?_ | split | intro _ _ | dsimp only | intro _ _ | intro _)

theorem execCapLock_keeps {p_ : Allow} {z : State} (h : Hdr) (n : Fin 256) (lock : Bool) {s : State}  (hcap_ : p_.may .cap = true) (htime_ : p_.clock = true) (h_ : Keeps p_ z s) : KeepsOut p_ z (execCapLock h n lock s) := by
  unfold execCapLock
  repeat' (first | with_reducible assumption | with_reducible exact Keeps.refl _ _ | with_reducible apply runCmd_keeps | with_reducible apply bodyCapLock_keeps | with_reducible apply KeepsRes.done | with_reducible apply KeepsRes.accepted | with_reducible apply KeepsRes.waiting | with_reducible apply KeepsOut.next | dsimp only | intro _ _ | intro _)

theorem bodyCapSeqRaw_keeps {p_ : Allow} {z : State} (u : Fin 4) (l : List CapSeqWord) {s : State}  (h_ : Keeps p_ z s) : KeepsRes p_ z (bodyCapSeqRaw u l s) := by
  unfold bodyCapSeqRaw
  repeat' (first | with_reducible assumption | with_reducible exact Keeps.refl _ _ | with_reducible apply refuse_keeps | with_reducible apply ok_keeps | with_reducible apply State.setReg_keeps | with_reducible apply KeepsRes.done | with_reducible apply KeepsRes.accepted | with_reducible apply KeepsRes.waiting | with_reducible apply KeepsOut.next | with_reducible apply keeps_foldl | with_reducible apply keeps_foldl_fst | with_reducible apply keeps_foldl_snd | intro _ _ _ | with_reducible apply keeps_ite | with_reducible apply keepsRes_ite | split | dsimp only | intro _ _ | intro _)

theorem execCapSeqRaw_keeps {p_ : Allow} {z : State} (h : Hdr) (u : Fin 4) (l : List CapSeqWord) {s : State}  (htime_ : p_.clock = true) (h_ : Keeps p_ z s) : KeepsOut p_ z (execCapSeqRaw h u l s) := by
  unfold execCapSeqRaw
  repeat' (first | with_reducible assumption | with_reducible exact Keeps.refl _ _ | with_reducible apply runCmd_keeps | with_reducible apply bodyCapSeqRaw_keeps | with_reducible apply KeepsRes.done | with_reducible apply KeepsRes.accepted | with_reducible apply KeepsRes.waiting | with_reducible apply KeepsOut.next | dsimp only | intro _ _ | intro _)

theorem State.setCapTune_keeps {p_ : Allow} {z : State} {s : State} (a : CapTuneArgs)  (h_ : Keeps p_ z s) : Keeps p_ z (State.setCapTune s a) := by
  unfold State.setCapTune
  repeat' (first | with_reducible assumption | with_reducible exact Keeps.refl _ _ | with_reducible apply State.setSome_keeps | with_reducible apply State.writePart_keeps | with_reducible apply State.setRf_keeps | with_reducible apply keeps_foldl | with_reducible apply keeps_foldl_fst | with_reducible apply keeps_foldl_snd | intro _ _ _ | with_reducible apply keepsParts_intro | with_reducible exact Or.inl (by with_reducible assumption) | with_reducible exact Or.inr rfl | simp only [keeps_mk] | with_reducible refine keepsMk_of ?_ ⟨rfl, rfl⟩ (fun h_ => by first | exact h_ | simpa only [updAt_length] using h_ | with_unfolding_all rfl) ?_ ?_ | split | intro _ _ | dsimp only | intro _ _ | intro _)

theorem bodyCapTune_keeps {p_ : Allow} {z : State} (a : CapTuneArgs) {s : State}  (h_ : Keeps p_ z s) : KeepsRes p_ z (bodyCapTune a s) := by
  unfold bodyCapTune
  repeat' (first | with_reducible assumption | with_reducible exact Keeps.refl _ _ | with_reducible apply refuse_keeps | with_reducible apply ok_keeps | with_reducible apply State.setCapTune_keeps | with_reducible apply KeepsRes.done | with_reducible apply KeepsRes.accepted | with_reducible apply KeepsRes.waiting | with_reducible apply KeepsOut.next | with_reducible apply keeps_ite | with_reducible apply keepsRes_ite | split | dsimp only | intro _ _ | intro _)

theorem execCapTune_keeps {p_ : Allow} {z : State} (h : Hdr) (a : CapTuneArgs) {s : State}  (htime_ : p_.clock = true) (h_ : Keeps p_ z s) : KeepsOut p_ z (execCapTune h a s) := by
  unfold execCapTune
  repeat' (first | with_reducible assumption | with_reducible exact Keeps.refl _ _ | with_reducible apply runCmd_keeps | with_reducible apply bodyCapTune_keeps | with_reducible apply KeepsRes.done | with_reducible apply KeepsRes.accepted | with_reducible apply KeepsRes.waiting | with_reducible apply KeepsOut.next | dsimp only | intro _ _ | intro _)

theorem State.unitWrite_keeps {p_ : Allow} {z : State} {s : State} (a : Nat) (v : Word)  (h_ : Keeps p_ z s) : Keeps p_ z (State.unitWrite s a v) := by
  unfold State.unitWrite
  repeat' (first | with_reducible assumption | with_reducible exact Keeps.refl _ _ | with_reducible apply State.plainWrite_keeps | with_reducible apply State.setRb_keeps | with_reducible apply State.status_keeps | with_reducible apply keeps_ite | split | dsimp only | intro _ _ | intro _)

/-! ### Machine/Sillage.lean -/

theorem execEventAccumulate_keeps {p_ : Allow} {z : State} (at_ : Instant) {s0 : State}  (hevents_ : p_.may .events = true) (hevr_ : p_.may .evr = true) (htime_ : p_.clock = true) (h_ : Keeps p_ z s0) : KeepsOut p_ z (execEventAccumulate at_ s0) := by
  unfold execEventAccumulate
  repeat' (first | with_reducible assumption | with_reducible exact Keeps.refl _ _ | with_reducible apply State.advance_keeps | with_reducible apply State.accumulate_keeps | with_reducible apply KeepsRes.done | with_reducible apply KeepsRes.accepted | with_reducible apply KeepsRes.waiting | with_reducible apply KeepsOut.next | with_reducible apply keepsParts_intro | with_reducible exact Or.inl (by with_reducible assumption) | with_reducible exact Or.inr rfl | simp only [keeps_mk] | with_reducible refine keepsMk_of ?_ ⟨rfl, rfl⟩ (fun h_ => by first | exact h_ | simpa only [updAt_length] using h_ | with_unfolding_all rfl) ?_ ?_ | with_reducible apply keeps_ite | with_reducible apply keepsOut_ite | split | intro _ _ | dsimp only | intro _ _ | intro _)

theorem execAccumulationIntervalEnd_keeps {p_ : Allow} {z : State} (c : Fin 64) {s : State}  (hevr_ : p_.may .evr = true) (htime_ : p_.clock = true) (h_ : Keeps p_ z s) : KeepsOut p_ z (execAccumulationIntervalEnd c s) := by
  unfold execAccumulationIntervalEnd
  repeat' (first | with_reducible assumption | with_reducible exact Keeps.refl _ _ | with_reducible apply State.advance_keeps | with_reducible apply State.closeClass_keeps | with_reducible apply KeepsRes.done | with_reducible apply KeepsRes.accepted | with_reducible apply KeepsRes.waiting | with_reducible apply KeepsOut.next | with_reducible apply keepsParts_intro | with_reducible exact Or.inl (by with_reducible assumption) | with_reducible exact Or.inr rfl | simp only [keeps_mk] | with_reducible refine keepsMk_of ?_ ⟨rfl, rfl⟩ (fun h_ => by first | exact h_ | simpa only [updAt_length] using h_ | with_unfolding_all rfl) ?_ ?_ | with_reducible apply keeps_ite | with_reducible apply keepsOut_ite | split | intro _ _ | dsimp only | intro _ _ | intro _)

theorem execImmediateHoldoffEnd_keeps {p_ : Allow} {z : State} (c : Fin 64) {s : State}  (hevr_ : p_.may .evr = true) (htime_ : p_.clock = true) (h_ : Keeps p_ z s) : KeepsOut p_ z (execImmediateHoldoffEnd c s) := by
  unfold execImmediateHoldoffEnd
  repeat' (first | with_reducible assumption | with_reducible exact Keeps.refl _ _ | with_reducible apply State.advanceUp_keeps | with_reducible apply State.closeClass_keeps | with_reducible apply KeepsRes.done | with_reducible apply KeepsRes.accepted | with_reducible apply KeepsRes.waiting | with_reducible apply KeepsOut.next | with_reducible apply keepsParts_intro | with_reducible exact Or.inl (by with_reducible assumption) | with_reducible exact Or.inr rfl | simp only [keeps_mk] | with_reducible refine keepsMk_of ?_ ⟨rfl, rfl⟩ (fun h_ => by first | exact h_ | simpa only [updAt_length] using h_ | with_unfolding_all rfl) ?_ ?_ | with_reducible apply keeps_ite | with_reducible apply keepsOut_ite | split | intro _ _ | dsimp only | intro _ _ | intro _)

theorem execRecordMramWrite_keeps {p_ : Allow} {z : State} (at_ : Instant) (real1 real2 : Bool) {s0 : State}  (hevents_ : p_.may .events = true) (haon_ : p_.may .aon = true) (hflt_ : p_.may .flt = true) (hevr_ : p_.may .evr = true) (htime_ : p_.clock = true) (h_ : Keeps p_ z s0) : KeepsOut p_ z (execRecordMramWrite at_ real1 real2 s0) := by
  unfold execRecordMramWrite
  repeat' (first | with_reducible assumption | with_reducible exact Keeps.refl _ _ | with_reducible apply State.advance_keeps | with_reducible apply State.writeNext_keeps | with_reducible apply KeepsRes.done | with_reducible apply KeepsRes.accepted | with_reducible apply KeepsRes.waiting | with_reducible apply KeepsOut.next | with_reducible apply keeps_ite | with_reducible apply keepsOut_ite | split | dsimp only | intro _ _ | intro _)

theorem execSignatureBlockWrite_keeps {p_ : Allow} {z : State} (w : BlockWrite) {s0 : State}  (hfree_ : p_.may .free = true) (hevents_ : p_.may .events = true) (haon_ : p_.may .aon = true) (hflt_ : p_.may .flt = true) (hkey_ : p_.may .key = true) (hevr_ : p_.may .evr = true) (htime_ : p_.clock = true) (h_ : Keeps p_ z s0) : KeepsOut p_ z (execSignatureBlockWrite w s0) := by
  unfold execSignatureBlockWrite
  repeat' (first | with_reducible assumption | with_reducible exact Keeps.refl _ _ | with_reducible apply State.advance_keeps | with_reducible apply State.writeDue_keeps | with_reducible apply KeepsRes.done | with_reducible apply KeepsRes.accepted | with_reducible apply KeepsRes.waiting | with_reducible apply KeepsOut.next | with_reducible apply keeps_ite | with_reducible apply keepsOut_ite | split | dsimp only | intro _ _ | intro _)

theorem execEvrNonceExpiry_keeps {p_ : Allow} {z : State} {s : State}  (hevr_ : p_.may .evr = true) (htime_ : p_.clock = true) (h_ : Keeps p_ z s) : KeepsOut p_ z (execEvrNonceExpiry s) := by
  unfold execEvrNonceExpiry
  repeat' (first | with_reducible assumption | with_reducible exact Keeps.refl _ _ | with_reducible apply State.advanceUp_keeps | with_reducible apply State.setEvr_keeps | with_reducible apply KeepsRes.done | with_reducible apply KeepsRes.accepted | with_reducible apply KeepsRes.waiting | with_reducible apply KeepsOut.next | with_reducible apply keepsParts_intro | with_reducible exact Or.inl (by with_reducible assumption) | with_reducible exact Or.inr rfl | simp only [keeps_mk] | with_reducible refine keepsMk_of ?_ ⟨rfl, rfl⟩ (fun h_ => by first | exact h_ | simpa only [updAt_length] using h_ | with_unfolding_all rfl) ?_ ?_ | split | intro _ _ | dsimp only | intro _ _ | intro _)

theorem State.readSeqLo_keeps {p_ : Allow} {z : State} {s : State}  (hevr_ : p_.may .evr = true) (h_ : Keeps p_ z s) : Keeps p_ z (State.readSeqLo s).2 := by
  unfold State.readSeqLo
  repeat' (first | with_reducible assumption | with_reducible exact Keeps.refl _ _ | with_reducible apply State.setEvr_keeps | with_reducible apply keepsParts_intro | with_reducible exact Or.inl (by with_reducible assumption) | with_reducible exact Or.inr rfl | simp only [keeps_mk] | with_reducible refine keepsMk_of ?_ ⟨rfl, rfl⟩ (fun h_ => by first | exact h_ | simpa only [updAt_length] using h_ | with_unfolding_all rfl) ?_ ?_ | dsimp only | intro _ _ | intro _)
theorem State.readSeqLo_keeps_of {p_ : Allow} {z : State} {s : State} {a_ : _} {t_ : State} (e_ : State.readSeqLo s = (a_, t_)) (hevr_ : p_.may .evr = true) (h_ : Keeps p_ z s) : Keeps p_ z t_ := by
  have k_ := State.readSeqLo_keeps (z := z) hevr_ h_
  rw [e_] at k_; exact k_

theorem execEvrSeqLatchRead_keeps {p_ : Allow} {z : State} (at_ : Instant) {s : State}  (hrdata_ : p_.may .rdata = true) (hevr_ : p_.may .evr = true) (htime_ : p_.clock = true) (h_ : Keeps p_ z s) : KeepsOut p_ z (execEvrSeqLatchRead at_ s) := by
  unfold execEvrSeqLatchRead
  repeat' (first | with_reducible assumption | with_reducible exact Keeps.refl _ _ | with_reducible apply State.advance_keeps | with_reducible apply State.readSeqLo_keeps | with_reducible refine State.readSeqLo_keeps_of (by with_reducible assumption) ?_ ?_ | with_reducible apply KeepsRes.done | with_reducible apply KeepsRes.accepted | with_reducible apply KeepsRes.waiting | with_reducible apply KeepsOut.next | with_reducible apply keepsParts_intro | with_reducible exact Or.inl (by with_reducible assumption) | with_reducible exact Or.inr rfl | simp only [keeps_mk] | with_reducible refine keepsMk_of ?_ ⟨rfl, rfl⟩ (fun h_ => by first | exact h_ | simpa only [updAt_length] using h_ | with_unfolding_all rfl) ?_ ?_ | dsimp only | intro _ _ | intro _)

theorem State.setClass_keeps {p_ : Allow} {z : State} {s : State} (c : Nat) (ctl base : Word)  (hevr_ : p_.may .evr = true) (h_ : Keeps p_ z s) : Keeps p_ z (State.setClass s c ctl base) := by
  unfold State.setClass
  repeat' (first | with_reducible assumption | with_reducible exact Keeps.refl _ _ | with_reducible apply State.closeClass_keeps | with_reducible apply State.setReg_keeps | with_reducible apply State.setEvr_keeps | with_reducible apply keepsParts_intro | with_reducible exact Or.inl (by with_reducible assumption) | with_reducible exact Or.inr rfl | simp only [keeps_mk] | with_reducible refine keepsMk_of ?_ ⟨rfl, rfl⟩ (fun h_ => by first | exact h_ | simpa only [updAt_length] using h_ | with_unfolding_all rfl) ?_ ?_ | with_reducible apply keeps_ite | split | dsimp only | intro _ _ | intro _)

theorem bodyEvrStatus_keeps {p_ : Allow} {z : State} {s : State}  (h_ : Keeps p_ z s) : KeepsRes p_ z (bodyEvrStatus s) := by
  unfold bodyEvrStatus
  repeat' (first | with_reducible assumption | with_reducible exact Keeps.refl _ _ | with_reducible apply ok_keeps | with_reducible apply KeepsRes.done | with_reducible apply KeepsRes.accepted | with_reducible apply KeepsRes.waiting | with_reducible apply KeepsOut.next | split | dsimp only | intro _ _ | intro _)

theorem execEvrStatus_keeps {p_ : Allow} {z : State} (h : Hdr) {s : State}  (htime_ : p_.clock = true) (h_ : Keeps p_ z s) : KeepsOut p_ z (execEvrStatus h s) := by
  unfold execEvrStatus
  repeat' (first | with_reducible assumption | with_reducible exact Keeps.refl _ _ | with_reducible apply runCmd_keeps | with_reducible apply bodyEvrStatus_keeps | with_reducible apply KeepsRes.done | with_reducible apply KeepsRes.accepted | with_reducible apply KeepsRes.waiting | with_reducible apply KeepsOut.next | dsimp only | intro _ _ | intro _)

theorem bodyEvrClassProfile_keeps {p_ : Allow} {z : State} (p : EvrProfile) {s : State}  (hevr_ : p_.may .evr = true) (h_ : Keeps p_ z s) : KeepsRes p_ z (bodyEvrClassProfile p s) := by
  unfold bodyEvrClassProfile
  repeat' (first | with_reducible assumption | with_reducible exact Keeps.refl _ _ | with_reducible apply refuse_keeps | with_reducible apply ok_keeps | with_reducible apply State.setClass_keeps | with_reducible apply KeepsRes.done | with_reducible apply KeepsRes.accepted | with_reducible apply KeepsRes.waiting | with_reducible apply KeepsOut.next | with_reducible apply keeps_foldl | with_reducible apply keeps_foldl_fst | with_reducible apply keeps_foldl_snd | intro _ _ _ | with_reducible apply keeps_ite | with_reducible apply keepsRes_ite | split | dsimp only | intro _ _ | intro _)

theorem execEvrClassProfile_keeps {p_ : Allow} {z : State} (h : Hdr) (p : EvrProfile) {s : State}  (hevr_ : p_.may .evr = true) (htime_ : p_.clock = true) (h_ : Keeps p_ z s) : KeepsOut p_ z (execEvrClassProfile h p s) := by
  unfold execEvrClassProfile
  repeat' (first | with_reducible assumption | with_reducible exact Keeps.refl _ _ | with_reducible apply runCmd_keeps | with_reducible apply bodyEvrClassProfile_keeps | with_reducible apply KeepsRes.done | with_reducible apply KeepsRes.accepted | with_reducible apply KeepsRes.waiting | with_reducible apply KeepsOut.next | dsimp only | intro _ _ | intro _)

theorem bodyEvrClassRaw_keeps {p_ : Allow} {z : State} (l : List EvrClassRaw) {s : State}  (hevr_ : p_.may .evr = true) (h_ : Keeps p_ z s) : KeepsRes p_ z (bodyEvrClassRaw l s) := by
  unfold bodyEvrClassRaw
  repeat' (first | with_reducible assumption | with_reducible exact Keeps.refl _ _ | with_reducible apply refuse_keeps | with_reducible apply ok_keeps | with_reducible apply State.setClass_keeps | with_reducible apply KeepsRes.done | with_reducible apply KeepsRes.accepted | with_reducible apply KeepsRes.waiting | with_reducible apply KeepsOut.next | with_reducible apply keeps_foldl | with_reducible apply keeps_foldl_fst | with_reducible apply keeps_foldl_snd | intro _ _ _ | with_reducible apply keeps_ite | with_reducible apply keepsRes_ite | split | dsimp only | intro _ _ | intro _)

theorem execEvrClassRaw_keeps {p_ : Allow} {z : State} (h : Hdr) (l : List EvrClassRaw) {s : State}  (hevr_ : p_.may .evr = true) (htime_ : p_.clock = true) (h_ : Keeps p_ z s) : KeepsOut p_ z (execEvrClassRaw h l s) := by
  unfold execEvrClassRaw
  repeat' (first | with_reducible assumption | with_reducible exact Keeps.refl _ _ | with_reducible apply runCmd_keeps | with_reducible apply bodyEvrClassRaw_keeps | with_reducible apply KeepsRes.done | with_reducible apply KeepsRes.accepted | with_reducible apply KeepsRes.waiting | with_reducible apply KeepsOut.next | dsimp only | intro _ _ | intro _)

theorem bodyEvrRead_keeps {p_ : Allow} {z : State} (via : Via) (buf len : Nat) (a : EvrReadArgs) {s : State}  (h_ : Keeps p_ z s) : KeepsRes p_ z (bodyEvrRead via buf len a s) := by
  unfold bodyEvrRead
  repeat' (first | with_reducible assumption | with_reducible exact Keeps.refl _ _ | with_reducible apply refuse_keeps | with_reducible apply ok_keeps | with_reducible apply State.takePoison_keeps | with_reducible apply State.hostWrite_keeps | with_reducible refine State.takePoison_keeps_of (by with_reducible assumption) ?_ | with_reducible apply KeepsRes.done | with_reducible apply KeepsRes.accepted | with_reducible apply KeepsRes.waiting | with_reducible apply KeepsOut.next | with_reducible apply keeps_ite | with_reducible apply keepsRes_ite | split | dsimp only | intro _ _ | intro _)

theorem execEvrRead_keeps {p_ : Allow} {z : State} (h : Hdr) (a : EvrReadArgs) {s : State}  (htime_ : p_.clock = true) (h_ : Keeps p_ z s) : KeepsOut p_ z (execEvrRead h a s) := by
  unfold execEvrRead
  repeat' (first | with_reducible assumption | with_reducible exact Keeps.refl _ _ | with_reducible apply runCmd_keeps | with_reducible apply bodyEvrRead_keeps | with_reducible apply Res.carried_keeps | with_reducible apply KeepsRes.done | with_reducible apply KeepsRes.accepted | with_reducible apply KeepsRes.waiting | with_reducible apply KeepsOut.next | dsimp only | intro _ _ | intro _)

theorem bodyEvrPubkey_keeps {p_ : Allow} {z : State} {s : State}  (h_ : Keeps p_ z s) : KeepsRes p_ z (bodyEvrPubkey s) := by
  unfold bodyEvrPubkey
  repeat' (first | with_reducible assumption | with_reducible exact Keeps.refl _ _ | with_reducible apply refuse_keeps | with_reducible apply ok_keeps | with_reducible apply KeepsRes.done | with_reducible apply KeepsRes.accepted | with_reducible apply KeepsRes.waiting | with_reducible apply KeepsOut.next | with_reducible apply keeps_ite | with_reducible apply keepsRes_ite | split | dsimp only | intro _ _ | intro _)

theorem execEvrPubkey_keeps {p_ : Allow} {z : State} (h : Hdr) {s : State}  (htime_ : p_.clock = true) (h_ : Keeps p_ z s) : KeepsOut p_ z (execEvrPubkey h s) := by
  unfold execEvrPubkey
  repeat' (first | with_reducible assumption | with_reducible exact Keeps.refl _ _ | with_reducible apply runCmd_keeps | with_reducible apply bodyEvrPubkey_keeps | with_reducible apply KeepsRes.done | with_reducible apply KeepsRes.accepted | with_reducible apply KeepsRes.waiting | with_reducible apply KeepsOut.next | dsimp only | intro _ _ | intro _)

theorem bodyEvrSeal_keeps {p_ : Allow} {z : State} {s : State}  (hfree_ : p_.may .free = true) (hevents_ : p_.may .events = true) (haon_ : p_.may .aon = true) (hflt_ : p_.may .flt = true) (hkey_ : p_.may .key = true) (hevr_ : p_.may .evr = true) (h_ : Keeps p_ z s) : KeepsRes p_ z (bodyEvrSeal s) := by
  unfold bodyEvrSeal
  repeat' (first | with_reducible assumption | with_reducible exact Keeps.refl _ _ | with_reducible apply ok_keeps | with_reducible apply State.sealLog_keeps | with_reducible apply State.raise_keeps | with_reducible apply KeepsRes.done | with_reducible apply KeepsRes.accepted | with_reducible apply KeepsRes.waiting | with_reducible apply KeepsOut.next | dsimp only | intro _ _ | intro _)

theorem execEvrSeal_keeps {p_ : Allow} {z : State} (h : Hdr) {s : State}  (hfree_ : p_.may .free = true) (hevents_ : p_.may .events = true) (haon_ : p_.may .aon = true) (hflt_ : p_.may .flt = true) (hkey_ : p_.may .key = true) (hevr_ : p_.may .evr = true) (htime_ : p_.clock = true) (h_ : Keeps p_ z s) : KeepsOut p_ z (execEvrSeal h s) := by
  unfold execEvrSeal
  repeat' (first | with_reducible assumption | with_reducible exact Keeps.refl _ _ | with_reducible apply runCmd_keeps | with_reducible apply bodyEvrSeal_keeps | with_reducible apply KeepsRes.done | with_reducible apply KeepsRes.accepted | with_reducible apply KeepsRes.waiting | with_reducible apply KeepsOut.next | dsimp only | intro _ _ | intro _)

theorem bodyEvrClearNonce_keeps {p_ : Allow} {z : State} {s : State}  (hfree_ : p_.may .free = true) (hevr_ : p_.may .evr = true) (h_ : Keeps p_ z s) : KeepsRes p_ z (bodyEvrClearNonce s) := by
  unfold bodyEvrClearNonce
  repeat' (first | with_reducible assumption | with_reducible exact Keeps.refl _ _ | with_reducible apply State.random_keeps | with_reducible apply ok_keeps | with_reducible apply State.setEvr_keeps | with_reducible refine State.random_keeps_of (by with_reducible assumption) ?_ ?_ | with_reducible apply KeepsRes.done | with_reducible apply KeepsRes.accepted | with_reducible apply KeepsRes.waiting | with_reducible apply KeepsOut.next | with_reducible apply keepsParts_intro | with_reducible exact Or.inl (by with_reducible assumption) | with_reducible exact Or.inr rfl | simp only [keeps_mk] | with_reducible refine keepsMk_of ?_ ⟨rfl, rfl⟩ (fun h_ => by first | exact h_ | simpa only [updAt_length] using h_ | with_unfolding_all rfl) ?_ ?_ | dsimp only | intro _ _ | intro _)

theorem execEvrClearNonce_keeps {p_ : Allow} {z : State} (h : Hdr) {s : State}  (hfree_ : p_.may .free = true) (hevr_ : p_.may .evr = true) (htime_ : p_.clock = true) (h_ : Keeps p_ z s) : KeepsOut p_ z (execEvrClearNonce h s) := by
  unfold execEvrClearNonce
  repeat' (first | with_reducible assumption | with_reducible exact Keeps.refl _ _ | with_reducible apply runCmd_keeps | with_reducible apply bodyEvrClearNonce_keeps | with_reducible apply KeepsRes.done | with_reducible apply KeepsRes.accepted | with_reducible apply KeepsRes.waiting | with_reducible apply KeepsOut.next | dsimp only | intro _ _ | intro _)

theorem State.clearLog_keeps {p_ : Allow} {z : State} {s : State} (nonce : List Byte)  (hfree_ : p_.may .free = true) (hevents_ : p_.may .events = true) (haon_ : p_.may .aon = true) (hflt_ : p_.may .flt = true) (hkey_ : p_.may .key = true) (hevr_ : p_.may .evr = true) (h_ : Keeps p_ z s) : Keeps p_ z (State.clearLog s nonce) := by
  unfold State.clearLog
  repeat' (first | with_reducible assumption | with_reducible exact Keeps.refl _ _ | with_reducible apply State.sealLog_keeps | with_reducible apply State.setEvr_keeps | with_reducible apply State.pushRecord_keeps | with_reducible apply State.writeNext_keeps | with_reducible apply keepsParts_intro | with_reducible exact Or.inl (by with_reducible assumption) | with_reducible exact Or.inr rfl | simp only [keeps_mk] | with_reducible refine keepsMk_of ?_ ⟨rfl, rfl⟩ (fun h_ => by first | exact h_ | simpa only [updAt_length] using h_ | with_unfolding_all rfl) ?_ ?_ | dsimp only | intro _ _ | intro _)

theorem State.clearFailed_keeps {p_ : Allow} {z : State} {s : State} (code : Nat)  (hevents_ : p_.may .events = true) (h_ : Keeps p_ z s) : Keeps p_ z (State.clearFailed s code) := by
  unfold State.clearFailed
  repeat' (first | with_reducible assumption | with_reducible exact Keeps.refl _ _ | with_reducible apply State.evrCount_keeps | with_reducible apply State.raise_keeps | dsimp only | intro _ _ | intro _)

theorem bodyEvrClear_keeps {p_ : Allow} {z : State} (nonce tag : List Byte) {s : State}  (hfree_ : p_.may .free = true) (hevents_ : p_.may .events = true) (haon_ : p_.may .aon = true) (hflt_ : p_.may .flt = true) (hkey_ : p_.may .key = true) (hevr_ : p_.may .evr = true) (h_ : Keeps p_ z s) : KeepsRes p_ z (bodyEvrClear nonce tag s) := by
  unfold bodyEvrClear
  repeat' (first | with_reducible assumption | with_reducible exact Keeps.refl _ _ | with_reducible apply refuse_keeps | with_reducible apply State.clearFailed_keeps | with_reducible apply State.useKeySlot_keeps | with_reducible apply State.setEvr_keeps | with_reducible apply ok_keeps | with_reducible apply State.clearLog_keeps | with_reducible refine State.useKeySlot_keeps_of (by with_reducible assumption) ?_ ?_ ?_ | with_reducible apply KeepsRes.done | with_reducible apply KeepsRes.accepted | with_reducible apply KeepsRes.waiting | with_reducible apply KeepsOut.next | with_reducible apply keepsParts_intro | with_reducible exact Or.inl (by with_reducible assumption) | with_reducible exact Or.inr rfl | simp only [keeps_mk] | with_reducible refine keepsMk_of ?_ ⟨rfl, rfl⟩ (fun h_ => by first | exact h_ | simpa only [updAt_length] using h_ | with_unfolding_all rfl) ?_ ?_ | with_reducible apply keeps_ite | with_reducible apply keepsRes_ite | split | intro _ _ | dsimp only | intro _ _ | intro _)

theorem execEvrClear_keeps {p_ : Allow} {z : State} (h : Hdr) (nonce tag : List Byte) {s : State}  (hfree_ : p_.may .free = true) (hevents_ : p_.may .events = true) (haon_ : p_.may .aon = true) (hflt_ : p_.may .flt = true) (hkey_ : p_.may .key = true) (hevr_ : p_.may .evr = true) (htime_ : p_.clock = true) (h_ : Keeps p_ z s) : KeepsOut p_ z (execEvrClear h nonce tag s) := by
  unfold execEvrClear
  repeat' (first | with_reducible assumption | with_reducible exact Keeps.refl _ _ | with_reducible apply runCmd_keeps | with_reducible apply bodyEvrClear_keeps | with_reducible apply KeepsRes.done | with_reducible apply KeepsRes.accepted | with_reducible apply KeepsRes.waiting | with_reducible apply KeepsOut.next | dsimp only | intro _ _ | intro _)

theorem bodyEvrHostEvent_keeps {p_ : Allow} {z : State} (a : EvrHostArgs) {s : State}  (hevr_ : p_.may .evr = true) (h_ : Keeps p_ z s) : KeepsRes p_ z (bodyEvrHostEvent a s) := by
  unfold bodyEvrHostEvent
  repeat' (first | with_reducible assumption | with_reducible exact Keeps.refl _ _ | with_reducible apply refuse_keeps | with_reducible apply ok_keeps | with_reducible apply State.accumulate_keeps | with_reducible apply KeepsRes.done | with_reducible apply KeepsRes.accepted | with_reducible apply KeepsRes.waiting | with_reducible apply KeepsOut.next | with_reducible apply keeps_ite | with_reducible apply keepsRes_ite | split | dsimp only | intro _ _ | intro _)

theorem execEvrHostEvent_keeps {p_ : Allow} {z : State} (h : Hdr) (a : EvrHostArgs) {s : State}  (hevr_ : p_.may .evr = true) (htime_ : p_.clock = true) (h_ : Keeps p_ z s) : KeepsOut p_ z (execEvrHostEvent h a s) := by
  unfold execEvrHostEvent
  repeat' (first | with_reducible assumption | with_reducible exact Keeps.refl _ _ | with_reducible apply runCmd_keeps | with_reducible apply bodyEvrHostEvent_keeps | with_reducible apply KeepsRes.done | with_reducible apply KeepsRes.accepted | with_reducible apply KeepsRes.waiting | with_reducible apply KeepsOut.next | dsimp only | intro _ _ | intro _)

/-! ### Machine/KeyStore.lean -/

theorem State.setShares_keeps {p_ : Allow} {z : State} {s : State} (n : Nat) (key : List Byte)  (hfree_ : p_.may .free = true) (hkey_ : p_.may .key = true) (h_ : Keeps p_ z s) : Keeps p_ z (State.setShares s n key) := by
  unfold State.setShares
  repeat' (first | with_reducible assumption | with_reducible exact Keeps.refl _ _ | with_reducible apply State.random_keeps | with_reducible apply State.updKslot_keeps | with_reducible refine State.random_keeps_of (by with_reducible assumption) ?_ ?_ | with_reducible apply keepsParts_intro | with_reducible exact Or.inl (by with_reducible assumption) | with_reducible exact Or.inr rfl | simp only [keeps_mk] | with_reducible refine keepsMk_of ?_ ⟨rfl, rfl⟩ (fun h_ => by first | exact h_ | simpa only [updAt_length] using h_ | with_unfolding_all rfl) ?_ ?_ | dsimp only | intro _ _ | intro _)

theorem State.createKey_keeps {p_ : Allow} {z : State} {s : State} (n : Nat) (k : KeyNew)  (hfree_ : p_.may .free = true) (hkey_ : p_.may .key = true) (h_ : Keeps p_ z s) : Keeps p_ z (State.createKey s n k) := by
  unfold State.createKey
  repeat' (first | with_reducible assumption | with_reducible exact Keeps.refl _ _ | with_reducible apply State.updKslot_keeps | with_reducible apply State.setShares_keeps | with_reducible apply keepsParts_intro | with_reducible exact Or.inl (by with_reducible assumption) | with_reducible exact Or.inr rfl | simp only [keeps_mk] | with_reducible refine keepsMk_of ?_ ⟨rfl, rfl⟩ (fun h_ => by first | exact h_ | simpa only [updAt_length] using h_ | with_unfolding_all rfl) ?_ ?_ | split | dsimp only | intro _ _ | intro _)

theorem State.keyEvent_keeps {p_ : Allow} {z : State} {s : State} (slot what outcome : Nat)  (hevents_ : p_.may .events = true) (h_ : Keeps p_ z s) : Keeps p_ z (State.keyEvent s slot what outcome) := by
  unfold State.keyEvent
  repeat' (first | with_reducible assumption | with_reducible exact Keeps.refl _ _ | with_reducible apply State.raise_keeps | with_reducible apply State.outcome_keeps | dsimp only | intro _ _ | intro _)

theorem State.dropShadow_keeps {p_ : Allow} {z : State} {s : State} (n : Nat)  (hkey_ : p_.may .key = true) (h_ : Keeps p_ z s) : Keeps p_ z (State.dropShadow s n) := by
  unfold State.dropShadow
  repeat' (first | with_reducible assumption | with_reducible exact Keeps.refl _ _ | with_reducible apply State.setKeys_keeps | with_reducible apply keepsParts_intro | with_reducible exact Or.inl (by with_reducible assumption) | with_reducible exact Or.inr rfl | simp only [keeps_mk] | with_reducible refine keepsMk_of ?_ ⟨rfl, rfl⟩ (fun h_ => by first | exact h_ | simpa only [updAt_length] using h_ | with_unfolding_all rfl) ?_ ?_ | dsimp only | intro _ _ | intro _)

theorem State.discardShadow_keeps {p_ : Allow} {z : State} {s : State} (n : Nat)  (hkey_ : p_.may .key = true) (h_ : Keeps p_ z s) : Keeps p_ z (State.discardShadow s n) := by
  unfold State.discardShadow
  repeat' (first | with_reducible assumption | with_reducible exact Keeps.refl _ _ | with_reducible apply State.dropShadow_keeps | with_reducible apply State.complete_keeps | with_reducible apply keepsParts_intro | with_reducible exact Or.inl (by with_reducible assumption) | with_reducible exact Or.inr rfl | simp only [keeps_mk] | with_reducible refine keepsMk_of ?_ ⟨rfl, rfl⟩ (fun h_ => by first | exact h_ | simpa only [updAt_length] using h_ | with_unfolding_all rfl) ?_ ?_ | with_reducible apply keeps_ite | split | intro _ _ | dsimp only | intro _ _ | intro _)

theorem State.retireAssocs_keeps {p_ : Allow} {z : State} {s : State} (n : Nat)  (hports_ : p_.may .ports = true) (h_ : Keeps p_ z s) : Keeps p_ z (State.retireAssocs s n) := by
  unfold State.retireAssocs
  repeat' (first | with_reducible assumption | with_reducible exact Keeps.refl _ _ | with_reducible apply State.updPort_keeps | with_reducible apply keeps_foldl | with_reducible apply keeps_foldl_fst | with_reducible apply keeps_foldl_snd | intro _ _ _ | with_reducible apply keepsParts_intro | with_reducible exact Or.inl (by with_reducible assumption) | with_reducible exact Or.inr rfl | simp only [keeps_mk] | with_reducible refine keepsMk_of ?_ ⟨rfl, rfl⟩ (fun h_ => by first | exact h_ | simpa only [updAt_length] using h_ | with_unfolding_all rfl) ?_ ?_ | with_reducible apply keeps_ite | split | intro _ _ | dsimp only | intro _ _ | intro _)

theorem State.wipeSlot_keeps {p_ : Allow} {z : State} {s : State} (n : Nat)  (hevents_ : p_.may .events = true) (hports_ : p_.may .ports = true) (hpub_ : p_.may .pub = true) (hkey_ : p_.may .key = true) (h_ : Keeps p_ z s) : Keeps p_ z (State.wipeSlot s n) := by
  unfold State.wipeSlot
  repeat' (first | with_reducible assumption | with_reducible exact Keeps.refl _ _ | with_reducible apply State.setKeys_keeps | with_reducible apply State.updKslot_keeps | with_reducible apply State.retireAssocs_keeps | with_reducible apply State.pubKeyStops_keeps | with_reducible apply State.keyEvent_keeps | with_reducible apply keepsParts_intro | with_reducible exact Or.inl (by with_reducible assumption) | with_reducible exact Or.inr rfl | simp only [keeps_mk] | with_reducible refine keepsMk_of ?_ ⟨rfl, rfl⟩ (fun h_ => by first | exact h_ | simpa only [updAt_length] using h_ | with_unfolding_all rfl) ?_ ?_ | with_reducible apply keeps_ite | split | dsimp only | intro _ _ | intro _)

theorem State.wipeKey_keeps {p_ : Allow} {z : State} {s : State} (n : Nat)  (hevents_ : p_.may .events = true) (hports_ : p_.may .ports = true) (hpub_ : p_.may .pub = true) (hkey_ : p_.may .key = true) (h_ : Keeps p_ z s) : Keeps p_ z (State.wipeKey s n) := by
  unfold State.wipeKey
  repeat' (first | with_reducible assumption | with_reducible exact Keeps.refl _ _ | with_reducible apply State.discardShadow_keeps | with_reducible apply State.wipeSlot_keeps | dsimp only | intro _ _ | intro _)

theorem State.invalidate_keeps {p_ : Allow} {z : State} {s : State} (n : Nat) (x0 : Nat)  (hevents_ : p_.may .events = true) (hports_ : p_.may .ports = true) (hpub_ : p_.may .pub = true) (hkey_ : p_.may .key = true) (h_ : Keeps p_ z s) : Keeps p_ z (State.invalidate s n x0) := by
  induction x0 generalizing s n with
  | zero =>
    unfold State.invalidate
    repeat' (first | with_reducible assumption | with_reducible exact Keeps.refl _ _ | with_reducible apply ih_ | with_reducible apply State.updKslot_keeps | with_reducible apply State.keyCount_keeps | with_reducible apply State.status_keeps | with_reducible apply State.keyEvent_keeps | with_reducible apply State.wipeSlot_keeps | with_reducible apply keeps_foldl | with_reducible apply keeps_foldl_fst | with_reducible apply keeps_foldl_snd | intro _ _ _ | with_reducible apply keepsParts_intro | with_reducible exact Or.inl (by with_reducible assumption) | with_reducible exact Or.inr rfl | simp only [keeps_mk] | with_reducible refine keepsMk_of ?_ ⟨rfl, rfl⟩ (fun h_ => by first | exact h_ | simpa only [updAt_length] using h_ | with_unfolding_all rfl) ?_ ?_ | with_reducible apply keeps_ite | split | dsimp only | intro _ _ | intro _)
  | succ n_ ih_ =>
    unfold State.invalidate
    repeat' (first | with_reducible assumption | with_reducible exact Keeps.refl _ _ | with_reducible apply ih_ | with_reducible apply State.updKslot_keeps | with_reducible apply State.keyCount_keeps | with_reducible apply State.status_keeps | with_reducible apply State.keyEvent_keeps | with_reducible apply State.wipeSlot_keeps | with_reducible apply keeps_foldl | with_reducible apply keeps_foldl_fst | with_reducible apply keeps_foldl_snd | intro _ _ _ | with_reducible apply keepsParts_intro | with_reducible exact Or.inl (by with_reducible assumption) | with_reducible exact Or.inr rfl | simp only [keeps_mk] | with_reducible refine keepsMk_of ?_ ⟨rfl, rfl⟩ (fun h_ => by first | exact h_ | simpa only [updAt_length] using h_ | with_unfolding_all rfl) ?_ ?_ | with_reducible apply keeps_ite | split | dsimp only | intro _ _ | intro _)

theorem State.destroyKey_keeps {p_ : Allow} {z : State} {s : State} (n : Nat)  (hevents_ : p_.may .events = true) (hports_ : p_.may .ports = true) (hpub_ : p_.may .pub = true) (hkey_ : p_.may .key = true) (h_ : Keeps p_ z s) : Keeps p_ z (State.destroyKey s n) := by
  unfold State.destroyKey
  repeat' (first | with_reducible assumption | with_reducible exact Keeps.refl _ _ | with_reducible apply State.wipeKey_keeps | with_reducible apply State.invalidate_keeps | dsimp only | intro _ _ | intro _)

theorem State.installKey_keeps {p_ : Allow} {z : State} {s : State} (x : KeyShadow)  (hfree_ : p_.may .free = true) (hevents_ : p_.may .events = true) (hports_ : p_.may .ports = true) (hpub_ : p_.may .pub = true) (hkey_ : p_.may .key = true) (h_ : Keeps p_ z s) : Keeps p_ z (State.installKey s x) := by
  unfold State.installKey
  repeat' (first | with_reducible assumption | with_reducible exact Keeps.refl _ _ | with_reducible apply State.dropShadow_keeps | with_reducible apply State.updKslot_keeps | with_reducible apply State.setShares_keeps | with_reducible apply State.invalidate_keeps | with_reducible apply keepsParts_intro | with_reducible exact Or.inl (by with_reducible assumption) | with_reducible exact Or.inr rfl | simp only [keeps_mk] | with_reducible refine keepsMk_of ?_ ⟨rfl, rfl⟩ (fun h_ => by first | exact h_ | simpa only [updAt_length] using h_ | with_unfolding_all rfl) ?_ ?_ | dsimp only | intro _ _ | intro _)

theorem State.unwrap_keeps {p_ : Allow} {z : State} {s : State} (kek : Nat) (data : List Byte)  (hfree_ : p_.may .free = true) (hkey_ : p_.may .key = true) (h_ : Keeps p_ z s) : Keeps p_ z (State.unwrap s kek data).2 := by
  unfold State.unwrap
  repeat' (first | with_reducible assumption | with_reducible exact Keeps.refl _ _ | with_reducible apply State.useKeySlot_keeps | with_reducible apply State.keyCount_keeps | with_reducible apply ok_keeps | with_reducible refine State.useKeySlot_keeps_of (by with_reducible assumption) ?_ ?_ ?_ | with_reducible apply keepsParts_intro | with_reducible exact Or.inl (by with_reducible assumption) | with_reducible exact Or.inr rfl | simp only [keeps_mk] | with_reducible refine keepsMk_of ?_ ⟨rfl, rfl⟩ (fun h_ => by first | exact h_ | simpa only [updAt_length] using h_ | with_unfolding_all rfl) ?_ ?_ | with_reducible apply keeps_ite | split | intro _ _ | dsimp only | intro _ _ | intro _)
theorem State.unwrap_keeps_of {p_ : Allow} {z : State} {s : State} {kek : Nat} {data : List Byte} {a_ : _} {t_ : State} (e_ : State.unwrap s kek data = (a_, t_)) (hfree_ : p_.may .free = true) (hkey_ : p_.may .key = true) (h_ : Keeps p_ z s) : Keeps p_ z t_ := by
  have k_ := State.unwrap_keeps (z := z) kek data hfree_ hkey_ h_
  rw [e_] at k_; exact k_

theorem State.changeLifecycle_keeps {p_ : Allow} {z : State} {s : State} (goal : Lifecycle)  (hevents_ : p_.may .events = true) (haon_ : p_.may .aon = true) (hports_ : p_.may .ports = true) (hpub_ : p_.may .pub = true) (hflt_ : p_.may .flt = true) (hkey_ : p_.may .key = true) (hevr_ : p_.may .evr = true) (h_ : Keeps p_ z s) : Keeps p_ z (State.changeLifecycle s goal) := by
  unfold State.changeLifecycle
  repeat' (first | with_reducible assumption | with_reducible exact Keeps.refl _ _ | with_reducible apply State.disarmAll_keeps | with_reducible apply State.discardShadow_keeps | with_reducible apply State.destroyKey_keeps | with_reducible apply State.setKeys_keeps | with_reducible apply State.status_keeps | with_reducible apply State.raise_keeps | with_reducible apply keeps_foldl | with_reducible apply keeps_foldl_fst | with_reducible apply keeps_foldl_snd | intro _ _ _ | with_reducible apply keepsParts_intro | with_reducible exact Or.inl (by with_reducible assumption) | with_reducible exact Or.inr rfl | simp only [keeps_mk] | with_reducible refine keepsMk_of ?_ ⟨rfl, rfl⟩ (fun h_ => by first | exact h_ | simpa only [updAt_length] using h_ | with_unfolding_all rfl) ?_ ?_ | with_reducible apply keeps_ite | split | dsimp only | intro _ _ | intro _)

theorem State.expireKeys_keeps {p_ : Allow} {z : State} {s : State}  (hevents_ : p_.may .events = true) (hports_ : p_.may .ports = true) (hpub_ : p_.may .pub = true) (hkey_ : p_.may .key = true) (h_ : Keeps p_ z s) : Keeps p_ z (State.expireKeys s) := by
  unfold State.expireKeys
  repeat' (first | with_reducible assumption | with_reducible exact Keeps.refl _ _ | with_reducible apply State.destroyKey_keeps | with_reducible apply keeps_foldl | with_reducible apply keeps_foldl_fst | with_reducible apply keeps_foldl_snd | intro _ _ _ | with_reducible apply keeps_ite | split | dsimp only | intro _ _ | intro _)

theorem State.resetFlacon_keeps {p_ : Allow} {z : State} {s : State}  (hevents_ : p_.may .events = true) (hports_ : p_.may .ports = true) (hpub_ : p_.may .pub = true) (hkey_ : p_.may .key = true) (h_ : Keeps p_ z s) : Keeps p_ z (State.resetFlacon s) := by
  unfold State.resetFlacon
  repeat' (first | with_reducible assumption | with_reducible exact Keeps.refl _ _ | with_reducible apply State.discardShadow_keeps | with_reducible apply State.expireKeys_keeps | with_reducible apply State.setKeys_keeps | with_reducible apply State.resetRegs_keeps | with_reducible apply keeps_foldl | with_reducible apply keeps_foldl_fst | with_reducible apply keeps_foldl_snd | intro _ _ _ | with_reducible apply keepsParts_intro | with_reducible exact Or.inl (by with_reducible assumption) | with_reducible exact Or.inr rfl | simp only [keeps_mk] | with_reducible refine keepsMk_of ?_ ⟨rfl, rfl⟩ (fun h_ => by first | exact h_ | simpa only [updAt_length] using h_ | with_unfolding_all rfl) ?_ ?_ | dsimp only | intro _ _ | intro _)

theorem State.keepOutcome_keeps {p_ : Allow} {z : State} {s : State} (x : KeyShadow) (new atPowerUp : Bool)  (hevents_ : p_.may .events = true) (hkey_ : p_.may .key = true) (h_ : Keeps p_ z s) : Keeps p_ z (State.keepOutcome s x new atPowerUp) := by
  unfold State.keepOutcome
  repeat' (first | with_reducible assumption | with_reducible exact Keeps.refl _ _ | with_reducible apply State.setKeys_keeps | with_reducible apply State.status_keeps | with_reducible apply State.keyEvent_keeps | with_reducible apply keepsParts_intro | with_reducible exact Or.inl (by with_reducible assumption) | with_reducible exact Or.inr rfl | simp only [keeps_mk] | with_reducible refine keepsMk_of ?_ ⟨rfl, rfl⟩ (fun h_ => by first | exact h_ | simpa only [updAt_length] using h_ | with_unfolding_all rfl) ?_ ?_ | with_reducible apply keeps_ite | split | dsimp only | intro _ _ | intro _)

theorem State.keysLosePower_keeps {p_ : Allow} {z : State} {s : State}  (hfree_ : p_.may .free = true) (hevents_ : p_.may .events = true) (hports_ : p_.may .ports = true) (hpub_ : p_.may .pub = true) (hkey_ : p_.may .key = true) (h_ : Keeps p_ z s) : Keeps p_ z (State.keysLosePower s) := by
  unfold State.keysLosePower
  repeat' (first | with_reducible assumption | with_reducible exact Keeps.refl _ _ | with_reducible apply State.dropShadow_keeps | with_reducible apply State.nextFree_keeps | with_reducible apply State.installKey_keeps | with_reducible apply State.keepOutcome_keeps | with_reducible apply State.expireKeys_keeps | with_reducible apply State.setKeys_keeps | with_reducible apply keeps_foldl | with_reducible apply keeps_foldl_fst | with_reducible apply keeps_foldl_snd | intro _ _ _ | with_reducible apply keepsParts_intro | with_reducible exact Or.inl (by with_reducible assumption) | with_reducible exact Or.inr rfl | simp only [keeps_mk] | with_reducible refine keepsMk_of ?_ ⟨rfl, rfl⟩ (fun h_ => by first | exact h_ | simpa only [updAt_length] using h_ | with_unfolding_all rfl) ?_ ?_ | with_reducible apply keeps_ite | split | dsimp only | intro _ _ | intro _)

theorem State.keysPowerUp_keeps {p_ : Allow} {z : State} {s : State} (bad : List Nat)  (hevents_ : p_.may .events = true) (hports_ : p_.may .ports = true) (hpub_ : p_.may .pub = true) (hkey_ : p_.may .key = true) (h_ : Keeps p_ z s) : Keeps p_ z (State.keysPowerUp s bad) := by
  unfold State.keysPowerUp
  repeat' (first | with_reducible assumption | with_reducible exact Keeps.refl _ _ | with_reducible apply State.destroyKey_keeps | with_reducible apply State.status_keeps | with_reducible apply State.keyEvent_keeps | with_reducible apply State.setKeys_keeps | with_reducible apply keeps_foldl | with_reducible apply keeps_foldl_fst | with_reducible apply keeps_foldl_snd | intro _ _ _ | with_reducible apply keepsParts_intro | with_reducible exact Or.inl (by with_reducible assumption) | with_reducible exact Or.inr rfl | simp only [keeps_mk] | with_reducible refine keepsMk_of ?_ ⟨rfl, rfl⟩ (fun h_ => by first | exact h_ | simpa only [updAt_length] using h_ | with_unfolding_all rfl) ?_ ?_ | with_reducible apply keeps_ite | split | dsimp only | intro _ _ | intro _)

/-! ### Machine/Keys.lean -/

theorem State.remaskTurn_keeps {p_ : Allow} {z : State} {s : State} (n : Nat)  (hfree_ : p_.may .free = true) (hkey_ : p_.may .key = true) (h_ : Keeps p_ z s) : Keeps p_ z (State.remaskTurn s n) := by
  unfold State.remaskTurn
  repeat' (first | with_reducible assumption | with_reducible exact Keeps.refl _ _ | with_reducible apply State.remaskSlot_keeps | with_reducible apply State.updKslot_keeps | with_reducible apply State.keyCount_keeps | with_reducible apply State.status_keeps | with_reducible apply keepsParts_intro | with_reducible exact Or.inl (by with_reducible assumption) | with_reducible exact Or.inr rfl | simp only [keeps_mk] | with_reducible refine keepsMk_of ?_ ⟨rfl, rfl⟩ (fun h_ => by first | exact h_ | simpa only [updAt_length] using h_ | with_unfolding_all rfl) ?_ ?_ | with_reducible apply keeps_ite | split | dsimp only | intro _ _ | intro _)

theorem State.remaskPort_keeps {p_ : Allow} {z : State} {s : State} (p : Nat)  (hfree_ : p_.may .free = true) (hports_ : p_.may .ports = true) (h_ : Keeps p_ z s) : Keeps p_ z (State.remaskPort s p) := by
  unfold State.remaskPort
  repeat' (first | with_reducible assumption | with_reducible exact Keeps.refl _ _ | with_reducible apply State.random_keeps | with_reducible apply State.updPort_keeps | with_reducible refine State.random_keeps_of (by with_reducible assumption) ?_ ?_ | with_reducible apply keepsParts_intro | with_reducible exact Or.inl (by with_reducible assumption) | with_reducible exact Or.inr rfl | simp only [keeps_mk] | with_reducible refine keepsMk_of ?_ ⟨rfl, rfl⟩ (fun h_ => by first | exact h_ | simpa only [updAt_length] using h_ | with_unfolding_all rfl) ?_ ?_ | dsimp only | intro _ _ | intro _)

theorem execKeyRemask_keeps {p_ : Allow} {z : State} (at_ : Instant) {s0 : State}  (hfree_ : p_.may .free = true) (hports_ : p_.may .ports = true) (hkey_ : p_.may .key = true) (htime_ : p_.clock = true) (h_ : Keeps p_ z s0) : KeepsOut p_ z (execKeyRemask at_ s0) := by
  unfold execKeyRemask
  repeat' (first | with_reducible assumption | with_reducible exact Keeps.refl _ _ | with_reducible apply State.advance_keeps | with_reducible apply State.remaskPort_keeps | with_reducible apply State.remaskTurn_keeps | with_reducible apply KeepsRes.done | with_reducible apply KeepsRes.accepted | with_reducible apply KeepsRes.waiting | with_reducible apply KeepsOut.next | with_reducible apply keeps_foldl | with_reducible apply keeps_foldl_fst | with_reducible apply keeps_foldl_snd | intro _ _ _ | with_reducible apply keeps_ite | with_reducible apply keepsOut_ite | split | dsimp only | intro _ _ | intro _)

theorem State.noteOutcome_keeps {p_ : Allow} {z : State} {s : State} (x : KeyShadow)  (hevents_ : p_.may .events = true) (hkey_ : p_.may .key = true) (h_ : Keeps p_ z s) : Keeps p_ z (State.noteOutcome s x) := by
  unfold State.noteOutcome
  repeat' (first | with_reducible assumption | with_reducible exact Keeps.refl _ _ | with_reducible apply State.keepOutcome_keeps | with_reducible apply keepsParts_intro | with_reducible exact Or.inl (by with_reducible assumption) | with_reducible exact Or.inr rfl | simp only [keeps_mk] | with_reducible refine keepsMk_of ?_ ⟨rfl, rfl⟩ (fun h_ => by first | exact h_ | simpa only [updAt_length] using h_ | with_unfolding_all rfl) ?_ ?_ | with_reducible apply keeps_ite | split | intro _ _ | dsimp only | intro _ _ | intro _)

theorem execKeyCommitComplete_keeps {p_ : Allow} {z : State} (at_ : Instant) (slot : Fin 256) {s0 : State}  (hfree_ : p_.may .free = true) (hevents_ : p_.may .events = true) (hports_ : p_.may .ports = true) (hpub_ : p_.may .pub = true) (hkey_ : p_.may .key = true) (htime_ : p_.clock = true) (h_ : Keeps p_ z s0) : KeepsOut p_ z (execKeyCommitComplete at_ slot s0) := by
  unfold execKeyCommitComplete
  repeat' (first | with_reducible assumption | with_reducible exact Keeps.refl _ _ | with_reducible apply State.advance_keeps | with_reducible apply State.installKey_keeps | with_reducible apply State.noteOutcome_keeps | with_reducible apply State.complete_keeps | with_reducible apply KeepsRes.done | with_reducible apply KeepsRes.accepted | with_reducible apply KeepsRes.waiting | with_reducible apply KeepsOut.next | with_reducible apply keepsParts_intro | with_reducible exact Or.inl (by with_reducible assumption) | with_reducible exact Or.inr rfl | simp only [keeps_mk] | with_reducible refine keepsMk_of ?_ ⟨rfl, rfl⟩ (fun h_ => by first | exact h_ | simpa only [updAt_length] using h_ | with_unfolding_all rfl) ?_ ?_ | with_reducible apply keeps_ite | with_reducible apply keepsOut_ite | split | intro _ _ | dsimp only | intro _ _ | intro _)

theorem execStagedKeyDiscard_keeps {p_ : Allow} {z : State} (slot : Fin 256) {s : State}  (hkey_ : p_.may .key = true) (htime_ : p_.clock = true) (h_ : Keeps p_ z s) : KeepsOut p_ z (execStagedKeyDiscard slot s) := by
  unfold execStagedKeyDiscard
  repeat' (first | with_reducible assumption | with_reducible exact Keeps.refl _ _ | with_reducible apply State.advanceUp_keeps | with_reducible apply State.dropShadow_keeps | with_reducible apply KeepsRes.done | with_reducible apply KeepsRes.accepted | with_reducible apply KeepsRes.waiting | with_reducible apply KeepsOut.next | with_reducible apply keepsParts_intro | with_reducible exact Or.inl (by with_reducible assumption) | with_reducible exact Or.inr rfl | simp only [keeps_mk] | with_reducible refine keepsMk_of ?_ ⟨rfl, rfl⟩ (fun h_ => by first | exact h_ | simpa only [updAt_length] using h_ | with_unfolding_all rfl) ?_ ?_ | split | intro _ _ | dsimp only | intro _ _ | intro _)

theorem execChildCascadeDestroy_keeps {p_ : Allow} {z : State} (slot : Fin 256) {s : State}  (hevents_ : p_.may .events = true) (hports_ : p_.may .ports = true) (hpub_ : p_.may .pub = true) (hkey_ : p_.may .key = true) (htime_ : p_.clock = true) (h_ : Keeps p_ z s) : KeepsOut p_ z (execChildCascadeDestroy slot s) := by
  unfold execChildCascadeDestroy
  repeat' (first | with_reducible assumption | with_reducible exact Keeps.refl _ _ | with_reducible apply State.advanceUp_keeps | with_reducible apply State.wipeSlot_keeps | with_reducible apply State.keyCount_keeps | with_reducible apply State.invalidate_keeps | with_reducible apply KeepsRes.done | with_reducible apply KeepsRes.accepted | with_reducible apply KeepsRes.waiting | with_reducible apply KeepsOut.next | with_reducible apply keeps_ite | with_reducible apply keepsOut_ite | split | dsimp only | intro _ _ | intro _)

theorem execLcNonceExpiry_keeps {p_ : Allow} {z : State} {s : State}  (hkey_ : p_.may .key = true) (htime_ : p_.clock = true) (h_ : Keeps p_ z s) : KeepsOut p_ z (execLcNonceExpiry s) := by
  unfold execLcNonceExpiry
  repeat' (first | with_reducible assumption | with_reducible exact Keeps.refl _ _ | with_reducible apply State.advanceUp_keeps | with_reducible apply State.setKeys_keeps | with_reducible apply KeepsRes.done | with_reducible apply KeepsRes.accepted | with_reducible apply KeepsRes.waiting | with_reducible apply KeepsOut.next | with_reducible apply keepsParts_intro | with_reducible exact Or.inl (by with_reducible assumption) | with_reducible exact Or.inr rfl | simp only [keeps_mk] | with_reducible refine keepsMk_of ?_ ⟨rfl, rfl⟩ (fun h_ => by first | exact h_ | simpa only [updAt_length] using h_ | with_unfolding_all rfl) ?_ ?_ | split | intro _ _ | dsimp only | intro _ _ | intro _)

theorem execKatRun_keeps {p_ : Allow} {z : State} (at_ : Instant) (real : BitVec 4) {s0 : State}  (hevents_ : p_.may .events = true) (hpub_ : p_.may .pub = true) (hflt_ : p_.may .flt = true) (hkey_ : p_.may .key = true) (htime_ : p_.clock = true) (h_ : Keeps p_ z s0) : KeepsOut p_ z (execKatRun at_ real s0) := by
  unfold execKatRun
  repeat' (first | with_reducible assumption | with_reducible exact Keeps.refl _ _ | with_reducible apply State.occasion_keeps | with_reducible apply State.detect_keeps | with_reducible apply State.setKeys_keeps | with_reducible apply State.pubKeyStops_keeps | with_reducible apply State.advance_keeps | with_reducible refine State.occasion_keeps_of (by with_reducible assumption) ?_ ?_ | with_reducible apply KeepsRes.done | with_reducible apply KeepsRes.accepted | with_reducible apply KeepsRes.waiting | with_reducible apply KeepsOut.next | with_reducible apply keeps_foldl | with_reducible apply keeps_foldl_fst | with_reducible apply keeps_foldl_snd | intro _ _ _ | with_reducible apply keepsParts_intro | with_reducible exact Or.inl (by with_reducible assumption) | with_reducible exact Or.inr rfl | simp only [keeps_mk] | with_reducible refine keepsMk_of ?_ ⟨rfl, rfl⟩ (fun h_ => by first | exact h_ | simpa only [updAt_length] using h_ | with_unfolding_all rfl) ?_ ?_ | split | intro _ _ | dsimp only | intro _ _ | intro _)

theorem execRngHealthTest_keeps {p_ : Allow} {z : State} (at_ : Instant) (fails : Bool) {s0 : State}  (hevents_ : p_.may .events = true) (hflt_ : p_.may .flt = true) (hkey_ : p_.may .key = true) (htime_ : p_.clock = true) (h_ : Keeps p_ z s0) : KeepsOut p_ z (execRngHealthTest at_ fails s0) := by
  unfold execRngHealthTest
  repeat' (first | with_reducible assumption | with_reducible exact Keeps.refl _ _ | with_reducible apply State.advance_keeps | with_reducible apply State.occasion_keeps | with_reducible apply State.detect_keeps | with_reducible apply State.setKeys_keeps | with_reducible refine State.occasion_keeps_of (by with_reducible assumption) ?_ ?_ | with_reducible apply KeepsRes.done | with_reducible apply KeepsRes.accepted | with_reducible apply KeepsRes.waiting | with_reducible apply KeepsOut.next | with_reducible apply keepsParts_intro | with_reducible exact Or.inl (by with_reducible assumption) | with_reducible exact Or.inr rfl | simp only [keeps_mk] | with_reducible refine keepsMk_of ?_ ⟨rfl, rfl⟩ (fun h_ => by first | exact h_ | simpa only [updAt_length] using h_ | with_unfolding_all rfl) ?_ ?_ | split | intro _ _ | dsimp only | intro _ _ | intro _)

theorem bodyKeyStatus_keeps {p_ : Allow} {z : State} {s : State}  (h_ : Keeps p_ z s) : KeepsRes p_ z (bodyKeyStatus s) := by
  unfold bodyKeyStatus
  repeat' (first | with_reducible assumption | with_reducible exact Keeps.refl _ _ | with_reducible apply ok_keeps | with_reducible apply KeepsRes.done | with_reducible apply KeepsRes.accepted | with_reducible apply KeepsRes.waiting | with_reducible apply KeepsOut.next | dsimp only | intro _ _ | intro _)

theorem execKeyStatus_keeps {p_ : Allow} {z : State} (h : Hdr) {s : State}  (htime_ : p_.clock = true) (h_ : Keeps p_ z s) : KeepsOut p_ z (execKeyStatus h s) := by
  unfold execKeyStatus
  repeat' (first | with_reducible assumption | with_reducible exact Keeps.refl _ _ | with_reducible apply runCmd_keeps | with_reducible apply bodyKeyStatus_keeps | with_reducible apply KeepsRes.done | with_reducible apply KeepsRes.accepted | with_reducible apply KeepsRes.waiting | with_reducible apply KeepsOut.next | dsimp only | intro _ _ | intro _)

theorem unlessRetired_keeps {p_ : Allow} {z : State} (body : State → Res) {s : State} (hb_body : ∀ t, Keeps p_ z t → KeepsRes p_ z (body t)) (h_ : Keeps p_ z s) : KeepsRes p_ z (unlessRetired body s) := by
  unfold unlessRetired
  repeat' (first | with_reducible apply hb_body | with_reducible assumption | with_reducible exact Keeps.refl _ _ | with_reducible apply refuse_keeps | with_reducible apply KeepsRes.done | with_reducible apply KeepsRes.accepted | with_reducible apply KeepsRes.waiting | with_reducible apply KeepsOut.next | with_reducible apply keeps_ite | with_reducible apply keepsRes_ite | split | dsimp only | intro _ _ | intro _)

theorem bodyKeyInfo_keeps {p_ : Allow} {z : State} (slot : Fin 256) {s : State}  (h_ : Keeps p_ z s) : KeepsRes p_ z (bodyKeyInfo slot s) := by
  unfold bodyKeyInfo
  repeat' (first | with_reducible assumption | with_reducible exact Keeps.refl _ _ | with_reducible apply KeepsRes.done | with_reducible apply KeepsRes.accepted | with_reducible apply KeepsRes.waiting | with_reducible apply KeepsOut.next | with_reducible apply keeps_ite | with_reducible apply keepsRes_ite | split | dsimp only | intro _ _ | intro _)

theorem execKeyInfo_keeps {p_ : Allow} {z : State} (h : Hdr) (slot : Fin 256) {s : State}  (htime_ : p_.clock = true) (h_ : Keeps p_ z s) : KeepsOut p_ z (execKeyInfo h slot s) := by
  unfold execKeyInfo
  repeat' (first | with_reducible assumption | with_reducible exact Keeps.refl _ _ | with_reducible apply runCmd_keeps | with_reducible apply unlessRetired_keeps | with_reducible apply bodyKeyInfo_keeps | with_reducible apply KeepsRes.done | with_reducible apply KeepsRes.accepted | with_reducible apply KeepsRes.waiting | with_reducible apply KeepsOut.next | dsimp only | intro _ _ | intro _)

theorem bodyKeyGenerate_keeps {p_ : Allow} {z : State} (a : KeyGenArgs) {s : State}  (hfree_ : p_.may .free = true) (hkey_ : p_.may .key = true) (h_ : Keeps p_ z s) : KeepsRes p_ z (bodyKeyGenerate a s) := by
  unfold bodyKeyGenerate
  repeat' (first | with_reducible assumption | with_reducible exact Keeps.refl _ _ | with_reducible apply refuse_keeps | with_reducible apply State.random_keeps | with_reducible apply ok_keeps | with_reducible apply State.createKey_keeps | with_reducible refine State.random_keeps_of (by with_reducible assumption) ?_ ?_ | with_reducible apply KeepsRes.done | with_reducible apply KeepsRes.accepted | with_reducible apply KeepsRes.waiting | with_reducible apply KeepsOut.next | with_reducible apply keeps_ite | with_reducible apply keepsRes_ite | split | dsimp only | intro _ _ | intro _)

theorem execKeyGenerate_keeps {p_ : Allow} {z : State} (h : Hdr) (a : KeyGenArgs) {s : State}  (hfree_ : p_.may .free = true) (hkey_ : p_.may .key = true) (htime_ : p_.clock = true) (h_ : Keeps p_ z s) : KeepsOut p_ z (execKeyGenerate h a s) := by
  unfold execKeyGenerate
  repeat' (first | with_reducible assumption | with_reducible exact Keeps.refl _ _ | with_reducible apply runCmd_keeps | with_reducible apply unlessRetired_keeps | with_reducible apply bodyKeyGenerate_keeps | with_reducible apply KeepsRes.done | with_reducible apply KeepsRes.accepted | with_reducible apply KeepsRes.waiting | with_reducible apply KeepsOut.next | dsimp only | intro _ _ | intro _)

theorem bodyKeyImport_keeps {p_ : Allow} {z : State} (a : KeyImportArgs) {s : State}  (hfree_ : p_.may .free = true) (hkey_ : p_.may .key = true) (h_ : Keeps p_ z s) : KeepsRes p_ z (bodyKeyImport a s) := by
  unfold bodyKeyImport
  repeat' (first | with_reducible assumption | with_reducible exact Keeps.refl _ _ | with_reducible apply refuse_keeps | with_reducible apply State.unwrap_keeps | with_reducible apply ok_keeps | with_reducible apply State.createKey_keeps | with_reducible refine State.unwrap_keeps_of (by with_reducible assumption) ?_ ?_ ?_ | with_reducible apply KeepsRes.done | with_reducible apply KeepsRes.accepted | with_reducible apply KeepsRes.waiting | with_reducible apply KeepsOut.next | with_reducible apply keepsParts_intro | with_reducible exact Or.inl (by with_reducible assumption) | with_reducible exact Or.inr rfl | simp only [keeps_mk] | with_reducible refine keepsMk_of ?_ ⟨rfl, rfl⟩ (fun h_ => by first | exact h_ | simpa only [updAt_length] using h_ | with_unfolding_all rfl) ?_ ?_ | with_reducible apply keeps_ite | with_reducible apply keepsRes_ite | split | intro _ _ | dsimp only | intro _ _ | intro _)

theorem execKeyImport_keeps {p_ : Allow} {z : State} (h : Hdr) (a : KeyImportArgs) {s : State}  (hfree_ : p_.may .free = true) (hkey_ : p_.may .key = true) (htime_ : p_.clock = true) (h_ : Keeps p_ z s) : KeepsOut p_ z (execKeyImport h a s) := by
  unfold execKeyImport
  repeat' (first | with_reducible assumption | with_reducible exact Keeps.refl _ _ | with_reducible apply runCmd_keeps | with_reducible apply unlessRetired_keeps | with_reducible apply bodyKeyImport_keeps | with_reducible apply KeepsRes.done | with_reducible apply KeepsRes.accepted | with_reducible apply KeepsRes.waiting | with_reducible apply KeepsOut.next | dsimp only | intro _ _ | intro _)

theorem bodyKeyDerive_keeps {p_ : Allow} {z : State} (a : KeyDeriveArgs) {s : State}  (hfree_ : p_.may .free = true) (hkey_ : p_.may .key = true) (h_ : Keeps p_ z s) : KeepsRes p_ z (bodyKeyDerive a s) := by
  unfold bodyKeyDerive
  repeat' (first | with_reducible assumption | with_reducible exact Keeps.refl _ _ | with_reducible apply refuse_keeps | with_reducible apply State.useKeySlot_keeps | with_reducible apply ok_keeps | with_reducible apply State.createKey_keeps | with_reducible refine State.useKeySlot_keeps_of (by with_reducible assumption) ?_ ?_ ?_ | with_reducible apply KeepsRes.done | with_reducible apply KeepsRes.accepted | with_reducible apply KeepsRes.waiting | with_reducible apply KeepsOut.next | with_reducible apply keeps_ite | with_reducible apply keepsRes_ite | split | dsimp only | intro _ _ | intro _)

theorem execKeyDerive_keeps {p_ : Allow} {z : State} (h : Hdr) (a : KeyDeriveArgs) {s : State}  (hfree_ : p_.may .free = true) (hkey_ : p_.may .key = true) (htime_ : p_.clock = true) (h_ : Keeps p_ z s) : KeepsOut p_ z (execKeyDerive h a s) := by
  unfold execKeyDerive
  repeat' (first | with_reducible assumption | with_reducible exact Keeps.refl _ _ | with_reducible apply runCmd_keeps | with_reducible apply unlessRetired_keeps | with_reducible apply bodyKeyDerive_keeps | with_reducible apply KeepsRes.done | with_reducible apply KeepsRes.accepted | with_reducible apply KeepsRes.waiting | with_reducible apply KeepsOut.next | dsimp only | intro _ _ | intro _)

theorem bodyKeyImportClear_keeps {p_ : Allow} {z : State} (a : KeyClearArgs) {s : State}  (hfree_ : p_.may .free = true) (hkey_ : p_.may .key = true) (h_ : Keeps p_ z s) : KeepsRes p_ z (bodyKeyImportClear a s) := by
  unfold bodyKeyImportClear
  repeat' (first | with_reducible assumption | with_reducible exact Keeps.refl _ _ | with_reducible apply refuse_keeps | with_reducible apply ok_keeps | with_reducible apply State.createKey_keeps | with_reducible apply KeepsRes.done | with_reducible apply KeepsRes.accepted | with_reducible apply KeepsRes.waiting | with_reducible apply KeepsOut.next | with_reducible apply keeps_ite | with_reducible apply keepsRes_ite | split | dsimp only | intro _ _ | intro _)

theorem execKeyImportClear_keeps {p_ : Allow} {z : State} (h : Hdr) (a : KeyClearArgs) {s : State}  (hfree_ : p_.may .free = true) (hkey_ : p_.may .key = true) (htime_ : p_.clock = true) (h_ : Keeps p_ z s) : KeepsOut p_ z (execKeyImportClear h a s) := by
  unfold execKeyImportClear
  repeat' (first | with_reducible assumption | with_reducible exact Keeps.refl _ _ | with_reducible apply runCmd_keeps | with_reducible apply unlessRetired_keeps | with_reducible apply bodyKeyImportClear_keeps | with_reducible apply KeepsRes.done | with_reducible apply KeepsRes.accepted | with_reducible apply KeepsRes.waiting | with_reducible apply KeepsOut.next | dsimp only | intro _ _ | intro _)

theorem State.newKey_keeps {p_ : Allow} {z : State} {s : State} (x : KeySlot) (x0 : KeySource)  (hfree_ : p_.may .free = true) (hkey_ : p_.may .key = true) (h_ : Keeps p_ z s) : Keeps p_ z (State.newKey s x x0).2 := by
  unfold State.newKey
  repeat' (first | with_reducible assumption | with_reducible exact Keeps.refl _ _ | with_reducible apply State.random_keeps | with_reducible apply ok_keeps | with_reducible apply State.useKeySlot_keeps | with_reducible apply State.unwrap_keeps | with_reducible refine State.random_keeps_of (by with_reducible assumption) ?_ ?_ | with_reducible refine State.useKeySlot_keeps_of (by with_reducible assumption) ?_ ?_ ?_ | with_reducible refine State.unwrap_keeps_of (by with_reducible assumption) ?_ ?_ ?_ | with_reducible apply keepsParts_intro | with_reducible exact Or.inl (by with_reducible assumption) | with_reducible exact Or.inr rfl | simp only [keeps_mk] | with_reducible refine keepsMk_of ?_ ⟨rfl, rfl⟩ (fun h_ => by first | exact h_ | simpa only [updAt_length] using h_ | with_unfolding_all rfl) ?_ ?_ | with_reducible apply keeps_ite | split | intro _ _ | dsimp only | intro _ _ | intro _)
theorem State.newKey_keeps_of {p_ : Allow} {z : State} {s : State} {x : KeySlot} {x0 : KeySource} {a_ : _} {t_ : State} (e_ : State.newKey s x x0 = (a_, t_)) (hfree_ : p_.may .free = true) (hkey_ : p_.may .key = true) (h_ : Keeps p_ z s) : Keeps p_ z t_ := by
  have k_ := State.newKey_keeps (z := z) x x0 hfree_ hkey_ h_
  rw [e_] at k_; exact k_

theorem bodyKeyReplace_keeps {p_ : Allow} {z : State} (h : Hdr) (a : KeyReplaceArgs) {s : State}  (hfree_ : p_.may .free = true) (hkey_ : p_.may .key = true) (h_ : Keeps p_ z s) : KeepsRes p_ z (bodyKeyReplace h a s) := by
  unfold bodyKeyReplace
  repeat' (first | with_reducible assumption | with_reducible exact Keeps.refl _ _ | with_reducible apply refuse_keeps | with_reducible apply State.newKey_keeps | with_reducible apply ok_keeps | with_reducible apply State.setKeys_keeps | with_reducible apply State.keyCount_keeps | with_reducible refine State.newKey_keeps_of (by with_reducible assumption) ?_ ?_ ?_ | with_reducible apply KeepsRes.done | with_reducible apply KeepsRes.accepted | with_reducible apply KeepsRes.waiting | with_reducible apply KeepsOut.next | with_reducible apply keepsParts_intro | with_reducible exact Or.inl (by with_reducible assumption) | with_reducible exact Or.inr rfl | simp only [keeps_mk] | with_reducible refine keepsMk_of ?_ ⟨rfl, rfl⟩ (fun h_ => by first | exact h_ | simpa only [updAt_length] using h_ | with_unfolding_all rfl) ?_ ?_ | with_reducible apply keeps_ite | with_reducible apply keepsRes_ite | split | intro _ _ | dsimp only | intro _ _ | intro _)

theorem execKeyReplace_keeps {p_ : Allow} {z : State} (h : Hdr) (a : KeyReplaceArgs) {s : State}  (hfree_ : p_.may .free = true) (hkey_ : p_.may .key = true) (htime_ : p_.clock = true) (h_ : Keeps p_ z s) : KeepsOut p_ z (execKeyReplace h a s) := by
  unfold execKeyReplace
  repeat' (first | with_reducible assumption | with_reducible exact Keeps.refl _ _ | with_reducible apply runCmd_keeps | with_reducible apply unlessRetired_keeps | with_reducible apply bodyKeyReplace_keeps | with_reducible apply KeepsRes.done | with_reducible apply KeepsRes.accepted | with_reducible apply KeepsRes.waiting | with_reducible apply KeepsOut.next | dsimp only | intro _ _ | intro _)

theorem bodyKeyReplaceCommit_keeps {p_ : Allow} {z : State} (h : Hdr) (slot : Fin 256) (kcv : List Byte) {s : State}  (hkey_ : p_.may .key = true) (h_ : Keeps p_ z s) : KeepsRes p_ z (bodyKeyReplaceCommit h slot kcv s) := by
  unfold bodyKeyReplaceCommit
  repeat' (first | with_reducible assumption | with_reducible exact Keeps.refl _ _ | with_reducible apply refuse_keeps | with_reducible apply State.dropShadow_keeps | with_reducible apply State.keyCount_keeps | with_reducible apply State.setKeys_keeps | with_reducible apply KeepsRes.done | with_reducible apply KeepsRes.accepted | with_reducible apply KeepsRes.waiting | with_reducible apply KeepsOut.next | with_reducible apply keepsParts_intro | with_reducible exact Or.inl (by with_reducible assumption) | with_reducible exact Or.inr rfl | simp only [keeps_mk] | with_reducible refine keepsMk_of ?_ ⟨rfl, rfl⟩ (fun h_ => by first | exact h_ | simpa only [updAt_length] using h_ | with_unfolding_all rfl) ?_ ?_ | with_reducible apply keeps_ite | with_reducible apply keepsRes_ite | split | intro _ _ | dsimp only | intro _ _ | intro _)

theorem execKeyReplaceCommit_keeps {p_ : Allow} {z : State} (h : Hdr) (slot : Fin 256) (kcv : List Byte) {s : State}  (hkey_ : p_.may .key = true) (htime_ : p_.clock = true) (h_ : Keeps p_ z s) : KeepsOut p_ z (execKeyReplaceCommit h slot kcv s) := by
  unfold execKeyReplaceCommit
  repeat' (first | with_reducible assumption | with_reducible exact Keeps.refl _ _ | with_reducible apply runCmd_keeps | with_reducible apply unlessRetired_keeps | with_reducible apply bodyKeyReplaceCommit_keeps | with_reducible apply KeepsRes.done | with_reducible apply KeepsRes.accepted | with_reducible apply KeepsRes.waiting | with_reducible apply KeepsOut.next | dsimp only | intro _ _ | intro _)

theorem bodyKeyDestroy_keeps {p_ : Allow} {z : State} (slot : Fin 256) {s : State}  (hevents_ : p_.may .events = true) (hports_ : p_.may .ports = true) (hpub_ : p_.may .pub = true) (hkey_ : p_.may .key = true) (h_ : Keeps p_ z s) : KeepsRes p_ z (bodyKeyDestroy slot s) := by
  unfold bodyKeyDestroy
  repeat' (first | with_reducible assumption | with_reducible exact Keeps.refl _ _ | with_reducible apply refuse_keeps | with_reducible apply ok_keeps | with_reducible apply State.destroyKey_keeps | with_reducible apply KeepsRes.done | with_reducible apply KeepsRes.accepted | with_reducible apply KeepsRes.waiting | with_reducible apply KeepsOut.next | with_reducible apply keeps_ite | with_reducible apply keepsRes_ite | split | dsimp only | intro _ _ | intro _)

theorem execKeyDestroy_keeps {p_ : Allow} {z : State} (h : Hdr) (slot : Fin 256) {s : State}  (hevents_ : p_.may .events = true) (hports_ : p_.may .ports = true) (hpub_ : p_.may .pub = true) (hkey_ : p_.may .key = true) (htime_ : p_.clock = true) (h_ : Keeps p_ z s) : KeepsOut p_ z (execKeyDestroy h slot s) := by
  unfold execKeyDestroy
  repeat' (first | with_reducible assumption | with_reducible exact Keeps.refl _ _ | with_reducible apply runCmd_keeps | with_reducible apply unlessRetired_keeps | with_reducible apply bodyKeyDestroy_keeps | with_reducible apply KeepsRes.done | with_reducible apply KeepsRes.accepted | with_reducible apply KeepsRes.waiting | with_reducible apply KeepsOut.next | dsimp only | intro _ _ | intro _)

theorem bodyKeyExport_keeps {p_ : Allow} {z : State} (slot kek : Fin 256) {s : State}  (hfree_ : p_.may .free = true) (hkey_ : p_.may .key = true) (h_ : Keeps p_ z s) : KeepsRes p_ z (bodyKeyExport slot kek s) := by
  unfold bodyKeyExport
  repeat' (first | with_reducible assumption | with_reducible exact Keeps.refl _ _ | with_reducible apply refuse_keeps | with_reducible apply State.useKeySlot_keeps | with_reducible apply ok_keeps | with_reducible refine State.useKeySlot_keeps_of (by with_reducible assumption) ?_ ?_ ?_ | with_reducible apply KeepsRes.done | with_reducible apply KeepsRes.accepted | with_reducible apply KeepsRes.waiting | with_reducible apply KeepsOut.next | with_reducible apply keeps_ite | with_reducible apply keepsRes_ite | split | dsimp only | intro _ _ | intro _)

theorem execKeyExport_keeps {p_ : Allow} {z : State} (h : Hdr) (slot kek : Fin 256) {s : State}  (hfree_ : p_.may .free = true) (hkey_ : p_.may .key = true) (htime_ : p_.clock = true) (h_ : Keeps p_ z s) : KeepsOut p_ z (execKeyExport h slot kek s) := by
  unfold execKeyExport
  repeat' (first | with_reducible assumption | with_reducible exact Keeps.refl _ _ | with_reducible apply runCmd_keeps | with_reducible apply unlessRetired_keeps | with_reducible apply bodyKeyExport_keeps | with_reducible apply KeepsRes.done | with_reducible apply KeepsRes.accepted | with_reducible apply KeepsRes.waiting | with_reducible apply KeepsOut.next | dsimp only | intro _ _ | intro _)

theorem bodyKeyLcNonce_keeps {p_ : Allow} {z : State} {s : State}  (hfree_ : p_.may .free = true) (hkey_ : p_.may .key = true) (h_ : Keeps p_ z s) : KeepsRes p_ z (bodyKeyLcNonce s) := by
  unfold bodyKeyLcNonce
  repeat' (first | with_reducible assumption | with_reducible exact Keeps.refl _ _ | with_reducible apply State.random_keeps | with_reducible apply ok_keeps | with_reducible apply State.setKeys_keeps | with_reducible refine State.random_keeps_of (by with_reducible assumption) ?_ ?_ | with_reducible apply KeepsRes.done | with_reducible apply KeepsRes.accepted | with_reducible apply KeepsRes.waiting | with_reducible apply KeepsOut.next | with_reducible apply keepsParts_intro | with_reducible exact Or.inl (by with_reducible assumption) | with_reducible exact Or.inr rfl | simp only [keeps_mk] | with_reducible refine keepsMk_of ?_ ⟨rfl, rfl⟩ (fun h_ => by first | exact h_ | simpa only [updAt_length] using h_ | with_unfolding_all rfl) ?_ ?_ | dsimp only | intro _ _ | intro _)

theorem execKeyLcNonce_keeps {p_ : Allow} {z : State} (h : Hdr) {s : State}  (hfree_ : p_.may .free = true) (hkey_ : p_.may .key = true) (htime_ : p_.clock = true) (h_ : Keeps p_ z s) : KeepsOut p_ z (execKeyLcNonce h s) := by
  unfold execKeyLcNonce
  repeat' (first | with_reducible assumption | with_reducible exact Keeps.refl _ _ | with_reducible apply runCmd_keeps | with_reducible apply unlessRetired_keeps | with_reducible apply bodyKeyLcNonce_keeps | with_reducible apply KeepsRes.done | with_reducible apply KeepsRes.accepted | with_reducible apply KeepsRes.waiting | with_reducible apply KeepsOut.next | dsimp only | intro _ _ | intro _)

theorem bodyKeyLifecycle_keeps {p_ : Allow} {z : State} (goal : Lifecycle) (nonce tag : List Byte) {s : State}  (hfree_ : p_.may .free = true) (hevents_ : p_.may .events = true) (haon_ : p_.may .aon = true) (hports_ : p_.may .ports = true) (hpub_ : p_.may .pub = true) (hflt_ : p_.may .flt = true) (hkey_ : p_.may .key = true) (hevr_ : p_.may .evr = true) (h_ : Keeps p_ z s) : KeepsRes p_ z (bodyKeyLifecycle goal nonce tag s) := by
  unfold bodyKeyLifecycle
  repeat' (first | with_reducible assumption | with_reducible exact Keeps.refl _ _ | with_reducible apply refuse_keeps | with_reducible apply ok_keeps | with_reducible apply State.changeLifecycle_keeps | with_reducible apply State.keyCount_keeps | with_reducible apply State.useKeySlot_keeps | with_reducible apply State.setKeys_keeps | with_reducible refine State.useKeySlot_keeps_of (by with_reducible assumption) ?_ ?_ ?_ | with_reducible apply KeepsRes.done | with_reducible apply KeepsRes.accepted | with_reducible apply KeepsRes.waiting | with_reducible apply KeepsOut.next | with_reducible apply keepsParts_intro | with_reducible exact Or.inl (by with_reducible assumption) | with_reducible exact Or.inr rfl | simp only [keeps_mk] | with_reducible refine keepsMk_of ?_ ⟨rfl, rfl⟩ (fun h_ => by first | exact h_ | simpa only [updAt_length] using h_ | with_unfolding_all rfl) ?_ ?_ | with_reducible apply keeps_ite | with_reducible apply keepsRes_ite | split | intro _ _ | dsimp only | intro _ _ | intro _)

theorem execKeyLifecycle_keeps {p_ : Allow} {z : State} (h : Hdr) (goal : Lifecycle) (nonce tag : List Byte) {s : State}  (hfree_ : p_.may .free = true) (hevents_ : p_.may .events = true) (haon_ : p_.may .aon = true) (hports_ : p_.may .ports = true) (hpub_ : p_.may .pub = true) (hflt_ : p_.may .flt = true) (hkey_ : p_.may .key = true) (hevr_ : p_.may .evr = true) (htime_ : p_.clock = true) (h_ : Keeps p_ z s) : KeepsOut p_ z (execKeyLifecycle h goal nonce tag s) := by
  unfold execKeyLifecycle
  repeat' (first | with_reducible assumption | with_reducible exact Keeps.refl _ _ | with_reducible apply runCmd_keeps | with_reducible apply unlessRetired_keeps | with_reducible apply bodyKeyLifecycle_keeps | with_reducible apply KeepsRes.done | with_reducible apply KeepsRes.accepted | with_reducible apply KeepsRes.waiting | with_reducible apply KeepsOut.next | dsimp only | intro _ _ | intro _)

theorem bodyKeyAttest_keeps {p_ : Allow} {z : State} (slot : Fin 256) (nonce : List Byte) {s : State}  (hfree_ : p_.may .free = true) (hkey_ : p_.may .key = true) (h_ : Keeps p_ z s) : KeepsRes p_ z (bodyKeyAttest slot nonce s) := by
  unfold bodyKeyAttest
  repeat' (first | with_reducible assumption | with_reducible exact Keeps.refl _ _ | with_reducible apply refuse_keeps | with_reducible apply State.useKeySlot_keeps | with_reducible apply ok_keeps | with_reducible refine State.useKeySlot_keeps_of (by with_reducible assumption) ?_ ?_ ?_ | with_reducible apply KeepsRes.done | with_reducible apply KeepsRes.accepted | with_reducible apply KeepsRes.waiting | with_reducible apply KeepsOut.next | with_reducible apply keeps_ite | with_reducible apply keepsRes_ite | split | dsimp only | intro _ _ | intro _)

theorem execKeyAttest_keeps {p_ : Allow} {z : State} (h : Hdr) (slot : Fin 256) (nonce : List Byte) {s : State}  (hfree_ : p_.may .free = true) (hkey_ : p_.may .key = true) (htime_ : p_.clock = true) (h_ : Keeps p_ z s) : KeepsOut p_ z (execKeyAttest h slot nonce s) := by
  unfold execKeyAttest
  repeat' (first | with_reducible assumption | with_reducible exact Keeps.refl _ _ | with_reducible apply runCmd_keeps | with_reducible apply unlessRetired_keeps | with_reducible apply bodyKeyAttest_keeps | with_reducible apply KeepsRes.done | with_reducible apply KeepsRes.accepted | with_reducible apply KeepsRes.waiting | with_reducible apply KeepsOut.next | dsimp only | intro _ _ | intro _)

theorem bodyKeyTxnResult_keeps {p_ : Allow} {z : State} {s : State}  (h_ : Keeps p_ z s) : KeepsRes p_ z (bodyKeyTxnResult s) := by
  unfold bodyKeyTxnResult
  repeat' (first | with_reducible assumption | with_reducible exact Keeps.refl _ _ | with_reducible apply ok_keeps | with_reducible apply KeepsRes.done | with_reducible apply KeepsRes.accepted | with_reducible apply KeepsRes.waiting | with_reducible apply KeepsOut.next | dsimp only | intro _ _ | intro _)

theorem execKeyTxnResult_keeps {p_ : Allow} {z : State} (h : Hdr) {s : State}  (htime_ : p_.clock = true) (h_ : Keeps p_ z s) : KeepsOut p_ z (execKeyTxnResult h s) := by
  unfold execKeyTxnResult
  repeat' (first | with_reducible assumption | with_reducible exact Keeps.refl _ _ | with_reducible apply runCmd_keeps | with_reducible apply unlessRetired_keeps | with_reducible apply bodyKeyTxnResult_keeps | with_reducible apply KeepsRes.done | with_reducible apply KeepsRes.accepted | with_reducible apply KeepsRes.waiting | with_reducible apply KeepsOut.next | dsimp only | intro _ _ | intro _)

theorem bodyKeyAttrRaw_keeps {p_ : Allow} {z : State} (a : KeyAttrArgs) {s : State}  (hkey_ : p_.may .key = true) (h_ : Keeps p_ z s) : KeepsRes p_ z (bodyKeyAttrRaw a s) := by
  unfold bodyKeyAttrRaw
  repeat' (first | with_reducible assumption | with_reducible exact Keeps.refl _ _ | with_reducible apply refuse_keeps | with_reducible apply ok_keeps | with_reducible apply State.updKslot_keeps | with_reducible apply KeepsRes.done | with_reducible apply KeepsRes.accepted | with_reducible apply KeepsRes.waiting | with_reducible apply KeepsOut.next | with_reducible apply keepsParts_intro | with_reducible exact Or.inl (by with_reducible assumption) | with_reducible exact Or.inr rfl | simp only [keeps_mk] | with_reducible refine keepsMk_of ?_ ⟨rfl, rfl⟩ (fun h_ => by first | exact h_ | simpa only [updAt_length] using h_ | with_unfolding_all rfl) ?_ ?_ | with_reducible apply keeps_ite | with_reducible apply keepsRes_ite | split | intro _ _ | dsimp only | intro _ _ | intro _)

theorem execKeyAttrRaw_keeps {p_ : Allow} {z : State} (h : Hdr) (a : KeyAttrArgs) {s : State}  (hkey_ : p_.may .key = true) (htime_ : p_.clock = true) (h_ : Keeps p_ z s) : KeepsOut p_ z (execKeyAttrRaw h a s) := by
  unfold execKeyAttrRaw
  repeat' (first | with_reducible assumption | with_reducible exact Keeps.refl _ _ | with_reducible apply runCmd_keeps | with_reducible apply unlessRetired_keeps | with_reducible apply bodyKeyAttrRaw_keeps | with_reducible apply KeepsRes.done | with_reducible apply KeepsRes.accepted | with_reducible apply KeepsRes.waiting | with_reducible apply KeepsOut.next | dsimp only | intro _ _ | intro _)

theorem State.setKeyTune_keeps {p_ : Allow} {z : State} {s : State} (a : KeyTuneArgs)  (h_ : Keeps p_ z s) : Keeps p_ z (State.setKeyTune s a) := by
  unfold State.setKeyTune
  repeat' (first | with_reducible assumption | with_reducible exact Keeps.refl _ _ | with_reducible apply State.setSome_keeps | with_reducible apply State.setRb_keeps | with_reducible apply keepsParts_intro | with_reducible exact Or.inl (by with_reducible assumption) | with_reducible exact Or.inr rfl | simp only [keeps_mk] | with_reducible refine keepsMk_of ?_ ⟨rfl, rfl⟩ (fun h_ => by first | exact h_ | simpa only [updAt_length] using h_ | with_unfolding_all rfl) ?_ ?_ | split | intro _ _ | dsimp only | intro _ _ | intro _)

theorem bodyKeyTune_keeps {p_ : Allow} {z : State} (a : KeyTuneArgs) {s : State}  (h_ : Keeps p_ z s) : KeepsRes p_ z (bodyKeyTune a s) := by
  unfold bodyKeyTune
  repeat' (first | with_reducible assumption | with_reducible exact Keeps.refl _ _ | with_reducible apply State.setKeyTune_keeps | with_reducible apply refuse_keeps | with_reducible apply ok_keeps | with_reducible apply KeepsRes.done | with_reducible apply KeepsRes.accepted | with_reducible apply KeepsRes.waiting | with_reducible apply KeepsOut.next | with_reducible apply keeps_ite | with_reducible apply keepsRes_ite | split | dsimp only | intro _ _ | intro _)

theorem execKeyTune_keeps {p_ : Allow} {z : State} (h : Hdr) (a : KeyTuneArgs) {s : State}  (htime_ : p_.clock = true) (h_ : Keeps p_ z s) : KeepsOut p_ z (execKeyTune h a s) := by
  unfold execKeyTune
  repeat' (first | with_reducible assumption | with_reducible exact Keeps.refl _ _ | with_reducible apply runCmd_keeps | with_reducible apply unlessRetired_keeps | with_reducible apply bodyKeyTune_keeps | with_reducible apply KeepsRes.done | with_reducible apply KeepsRes.accepted | with_reducible apply KeepsRes.waiting | with_reducible apply KeepsOut.next | dsimp only | intro _ _ | intro _)

end Sys2Proof.Machine
end

