-- ==== Sys2Proof/Laws/KeepsSystem.lean ====
section
/-! SUPPORT. What the commands and events of mailboxes, ring, memory, pair, power, faults, registers and sessions keep (Laws/Keeps.lean): one lemma per operation. -/

namespace Sys2Proof.Machine

/-! ### Machine/Mailbox.lean -/

theorem execMbxWordWrite_keeps {p_ : Allow} {z : State} (at_ : Instant) (ident : MasterId) (n : Fin 64) (j : Fin 16) (v : Word) {s : State}  (hevents_ : p_.may .events = true) (hmbx_ : p_.may .mbx = true) (htime_ : p_.clock = true) (h_ : Keeps p_ z s) : KeepsOut p_ z (execMbxWordWrite at_ ident n j v s) := by
  unfold execMbxWordWrite
  repeat' (first | with_reducible assumption | with_reducible exact Keeps.refl _ _ | with_reducible apply State.advance_keeps | with_reducible apply State.writeMbox_keeps | with_reducible apply KeepsRes.done | with_reducible apply KeepsRes.accepted | with_reducible apply KeepsRes.waiting | with_reducible apply KeepsOut.next | dsimp only | intro _ _ | intro _)

theorem execMbxW15Read_keeps {p_ : Allow} {z : State} (at_ : Instant) (n : Fin 64) {s : State}  (hrdata_ : p_.may .rdata = true) (hmbx_ : p_.may .mbx = true) (htime_ : p_.clock = true) (h_ : Keeps p_ z s) : KeepsOut p_ z (execMbxW15Read at_ n s) := by
  unfold execMbxW15Read
  repeat' (first | with_reducible assumption | with_reducible exact Keeps.refl _ _ | with_reducible apply State.advance_keeps | with_reducible apply State.readW15_keeps | with_reducible refine State.readW15_keeps_of (by with_reducible assumption) ?_ ?_ | with_reducible apply KeepsRes.done | with_reducible apply KeepsRes.accepted | with_reducible apply KeepsRes.waiting | with_reducible apply KeepsOut.next | with_reducible apply keepsParts_intro | with_reducible exact Or.inl (by with_reducible assumption) | with_reducible exact Or.inr rfl | simp only [keeps_mk] | with_reducible refine keepsMk_of ?_ ⟨rfl, rfl⟩ (fun h_ => by first | exact h_ | simpa only [updAt_length] using h_ | with_unfolding_all rfl) ?_ ?_ | dsimp only | intro _ _ | intro _)

theorem execMbxBindWrite_keeps {p_ : Allow} {z : State} (at_ : Instant) (n : Fin 64) (w : Word) {s : State}  (htime_ : p_.clock = true) (h_ : Keeps p_ z s) : KeepsOut p_ z (execMbxBindWrite at_ n w s) := by
  unfold execMbxBindWrite
  repeat' (first | with_reducible assumption | with_reducible exact Keeps.refl _ _ | with_reducible apply State.advance_keeps | with_reducible apply State.writeBind_keeps | with_reducible apply KeepsRes.done | with_reducible apply KeepsRes.accepted | with_reducible apply KeepsRes.waiting | with_reducible apply KeepsOut.next | dsimp only | intro _ _ | intro _)

theorem execMbxClaimLapse_keeps {p_ : Allow} {z : State} (n : Fin 64) {s : State}  (hmbx_ : p_.may .mbx = true) (htime_ : p_.clock = true) (h_ : Keeps p_ z s) : KeepsOut p_ z (execMbxClaimLapse n s) := by
  unfold execMbxClaimLapse
  repeat' (first | with_reducible assumption | with_reducible exact Keeps.refl _ _ | with_reducible apply State.advanceUp_keeps | with_reducible apply State.updMchan_keeps | with_reducible apply State.count_keeps | with_reducible apply State.settleChan_keeps | with_reducible apply KeepsRes.done | with_reducible apply KeepsRes.accepted | with_reducible apply KeepsRes.waiting | with_reducible apply KeepsOut.next | with_reducible apply keepsParts_intro | with_reducible exact Or.inl (by with_reducible assumption) | with_reducible exact Or.inr rfl | simp only [keeps_mk] | with_reducible refine keepsMk_of ?_ ⟨rfl, rfl⟩ (fun h_ => by first | exact h_ | simpa only [updAt_length] using h_ | with_unfolding_all rfl) ?_ ?_ | split | intro _ _ | dsimp only | intro _ _ | intro _)

theorem execMbxRingMessageArrive_keeps {p_ : Allow} {z : State} (at_ : Instant) (n : Fin 64) (sender : MasterId) (gen : BitVec 4) (words : Vector Word 16) {s : State}  (hevents_ : p_.may .events = true) (hmbx_ : p_.may .mbx = true) (htime_ : p_.clock = true) (h_ : Keeps p_ z s) : KeepsOut p_ z (execMbxRingMessageArrive at_ n sender gen words s) := by
  unfold execMbxRingMessageArrive
  repeat' (first | with_reducible assumption | with_reducible exact Keeps.refl _ _ | with_reducible apply State.advance_keeps | with_reducible apply State.arriveMbox_keeps | with_reducible apply KeepsRes.done | with_reducible apply KeepsRes.accepted | with_reducible apply KeepsRes.waiting | with_reducible apply KeepsOut.next | dsimp only | intro _ _ | intro _)

theorem bodyMbxStatus_keeps {p_ : Allow} {z : State} (ident : MasterId) {s : State}  (h_ : Keeps p_ z s) : KeepsRes p_ z (bodyMbxStatus ident s) := by
  unfold bodyMbxStatus
  repeat' (first | with_reducible assumption | with_reducible exact Keeps.refl _ _ | with_reducible apply ok_keeps | with_reducible apply KeepsRes.done | with_reducible apply KeepsRes.accepted | with_reducible apply KeepsRes.waiting | with_reducible apply KeepsOut.next | dsimp only | intro _ _ | intro _)

theorem execMbxStatus_keeps {p_ : Allow} {z : State} (h : Hdr) (ident : MasterId) {s : State}  (htime_ : p_.clock = true) (h_ : Keeps p_ z s) : KeepsOut p_ z (execMbxStatus h ident s) := by
  unfold execMbxStatus
  repeat' (first | with_reducible assumption | with_reducible exact Keeps.refl _ _ | with_reducible apply runCmd_keeps | with_reducible apply bodyMbxStatus_keeps | with_reducible apply KeepsRes.done | with_reducible apply KeepsRes.accepted | with_reducible apply KeepsRes.waiting | with_reducible apply KeepsOut.next | dsimp only | intro _ _ | intro _)

theorem bodyMbxSend_keeps {p_ : Allow} {z : State} (h : Hdr) (n : Fin 64) (words : Vector Word 16) (wait : Bool) {s : State}  (hevents_ : p_.may .events = true) (hmbx_ : p_.may .mbx = true) (h_ : Keeps p_ z s) : KeepsRes p_ z (bodyMbxSend h n words wait s) := by
  unfold bodyMbxSend
  repeat' (first | with_reducible assumption | with_reducible exact Keeps.refl _ _ | with_reducible apply State.bindDrop_keeps | with_reducible apply State.setMbx_keeps | with_reducible apply refuse_keeps | with_reducible apply ok_keeps | with_reducible apply State.fillChan_keeps | with_reducible apply State.settleChan_keeps | with_reducible apply KeepsRes.done | with_reducible apply KeepsRes.accepted | with_reducible apply KeepsRes.waiting | with_reducible apply KeepsOut.next | with_reducible apply keepsParts_intro | with_reducible exact Or.inl (by with_reducible assumption) | with_reducible exact Or.inr rfl | simp only [keeps_mk] | with_reducible refine keepsMk_of ?_ ⟨rfl, rfl⟩ (fun h_ => by first | exact h_ | simpa only [updAt_length] using h_ | with_unfolding_all rfl) ?_ ?_ | with_reducible apply keeps_ite | with_reducible apply keepsRes_ite | split | dsimp only | intro _ _ | intro _)

theorem execMbxSend_keeps {p_ : Allow} {z : State} (h : Hdr) (n : Fin 64) (words : Vector Word 16) (wait : Bool) {s : State}  (hevents_ : p_.may .events = true) (hmbx_ : p_.may .mbx = true) (htime_ : p_.clock = true) (h_ : Keeps p_ z s) : KeepsOut p_ z (execMbxSend h n words wait s) := by
  unfold execMbxSend
  repeat' (first | with_reducible assumption | with_reducible exact Keeps.refl _ _ | with_reducible apply runCmd_keeps | with_reducible apply bodyMbxSend_keeps | with_reducible apply KeepsRes.done | with_reducible apply KeepsRes.accepted | with_reducible apply KeepsRes.waiting | with_reducible apply KeepsOut.next | dsimp only | intro _ _ | intro _)

theorem bodyMbxRecv_keeps {p_ : Allow} {z : State} (h : Hdr) (n : Fin 64) (wait : Bool) {s : State}  (hmbx_ : p_.may .mbx = true) (h_ : Keeps p_ z s) : KeepsRes p_ z (bodyMbxRecv h n wait s) := by
  unfold bodyMbxRecv
  repeat' (first | with_reducible assumption | with_reducible exact Keeps.refl _ _ | with_reducible apply ok_keeps | with_reducible apply State.emptyMbox_keeps | with_reducible apply State.settleChan_keeps | with_reducible apply State.setMbx_keeps | with_reducible apply refuse_keeps | with_reducible apply KeepsRes.done | with_reducible apply KeepsRes.accepted | with_reducible apply KeepsRes.waiting | with_reducible apply KeepsOut.next | with_reducible apply keepsParts_intro | with_reducible exact Or.inl (by with_reducible assumption) | with_reducible exact Or.inr rfl | simp only [keeps_mk] | with_reducible refine keepsMk_of ?_ ⟨rfl, rfl⟩ (fun h_ => by first | exact h_ | simpa only [updAt_length] using h_ | with_unfolding_all rfl) ?_ ?_ | with_reducible apply keeps_ite | with_reducible apply keepsRes_ite | split | dsimp only | intro _ _ | intro _)

theorem execMbxRecv_keeps {p_ : Allow} {z : State} (h : Hdr) (n : Fin 64) (wait : Bool) {s : State}  (hmbx_ : p_.may .mbx = true) (htime_ : p_.clock = true) (h_ : Keeps p_ z s) : KeepsOut p_ z (execMbxRecv h n wait s) := by
  unfold execMbxRecv
  repeat' (first | with_reducible assumption | with_reducible exact Keeps.refl _ _ | with_reducible apply runCmd_keeps | with_reducible apply bodyMbxRecv_keeps | with_reducible apply KeepsRes.done | with_reducible apply KeepsRes.accepted | with_reducible apply KeepsRes.waiting | with_reducible apply KeepsOut.next | dsimp only | intro _ _ | intro _)

theorem bodyMbxPeek_keeps {p_ : Allow} {z : State} (n : Fin 64) {s : State}  (h_ : Keeps p_ z s) : KeepsRes p_ z (bodyMbxPeek n s) := by
  unfold bodyMbxPeek
  repeat' (first | with_reducible assumption | with_reducible exact Keeps.refl _ _ | with_reducible apply ok_keeps | with_reducible apply refuse_keeps | with_reducible apply KeepsRes.done | with_reducible apply KeepsRes.accepted | with_reducible apply KeepsRes.waiting | with_reducible apply KeepsOut.next | with_reducible apply keeps_ite | with_reducible apply keepsRes_ite | split | dsimp only | intro _ _ | intro _)

theorem execMbxPeek_keeps {p_ : Allow} {z : State} (h : Hdr) (n : Fin 64) {s : State}  (htime_ : p_.clock = true) (h_ : Keeps p_ z s) : KeepsOut p_ z (execMbxPeek h n s) := by
  unfold execMbxPeek
  repeat' (first | with_reducible assumption | with_reducible exact Keeps.refl _ _ | with_reducible apply runCmd_keeps | with_reducible apply bodyMbxPeek_keeps | with_reducible apply KeepsRes.done | with_reducible apply KeepsRes.accepted | with_reducible apply KeepsRes.waiting | with_reducible apply KeepsOut.next | dsimp only | intro _ _ | intro _)

theorem bodyMbxBind_keeps {p_ : Allow} {z : State} (n : Fin 64) (en : Bool) (a b : MasterId) {s : State}  (h_ : Keeps p_ z s) : KeepsRes p_ z (bodyMbxBind n en a b s) := by
  unfold bodyMbxBind
  repeat' (first | with_reducible assumption | with_reducible exact Keeps.refl _ _ | with_reducible apply refuse_keeps | with_reducible apply ok_keeps | with_reducible apply State.writeBind_keeps | with_reducible apply KeepsRes.done | with_reducible apply KeepsRes.accepted | with_reducible apply KeepsRes.waiting | with_reducible apply KeepsOut.next | with_reducible apply keeps_ite | with_reducible apply keepsRes_ite | split | dsimp only | intro _ _ | intro _)

theorem execMbxBind_keeps {p_ : Allow} {z : State} (h : Hdr) (n : Fin 64) (en : Bool) (a b : MasterId) {s : State}  (htime_ : p_.clock = true) (h_ : Keeps p_ z s) : KeepsOut p_ z (execMbxBind h n en a b s) := by
  unfold execMbxBind
  repeat' (first | with_reducible assumption | with_reducible exact Keeps.refl _ _ | with_reducible apply runCmd_keeps | with_reducible apply bodyMbxBind_keeps | with_reducible apply KeepsRes.done | with_reducible apply KeepsRes.accepted | with_reducible apply KeepsRes.waiting | with_reducible apply KeepsOut.next | dsimp only | intro _ _ | intro _)

theorem bodyMbxClear_keeps {p_ : Allow} {z : State} (n : Fin 64) {s : State}  (hmbx_ : p_.may .mbx = true) (h_ : Keeps p_ z s) : KeepsRes p_ z (bodyMbxClear n s) := by
  unfold bodyMbxClear
  repeat' (first | with_reducible assumption | with_reducible exact Keeps.refl _ _ | with_reducible apply ok_keeps | with_reducible apply State.updMchan_keeps | with_reducible apply State.settleChan_keeps | with_reducible apply KeepsRes.done | with_reducible apply KeepsRes.accepted | with_reducible apply KeepsRes.waiting | with_reducible apply KeepsOut.next | with_reducible apply keepsParts_intro | with_reducible exact Or.inl (by with_reducible assumption) | with_reducible exact Or.inr rfl | simp only [keeps_mk] | with_reducible refine keepsMk_of ?_ ⟨rfl, rfl⟩ (fun h_ => by first | exact h_ | simpa only [updAt_length] using h_ | with_unfolding_all rfl) ?_ ?_ | dsimp only | intro _ _ | intro _)

theorem execMbxClear_keeps {p_ : Allow} {z : State} (h : Hdr) (n : Fin 64) {s : State}  (hmbx_ : p_.may .mbx = true) (htime_ : p_.clock = true) (h_ : Keeps p_ z s) : KeepsOut p_ z (execMbxClear h n s) := by
  unfold execMbxClear
  repeat' (first | with_reducible assumption | with_reducible exact Keeps.refl _ _ | with_reducible apply runCmd_keeps | with_reducible apply bodyMbxClear_keeps | with_reducible apply KeepsRes.done | with_reducible apply KeepsRes.accepted | with_reducible apply KeepsRes.waiting | with_reducible apply KeepsOut.next | dsimp only | intro _ _ | intro _)

/-! ### Machine/CascadeOps.lean -/

theorem State.casNote_keeps {p_ : Allow} {z : State} {s : State} (n : Nat)  (h_ : Keeps p_ z s) : Keeps p_ z (State.casNote s n) := by
  unfold State.casNote
  repeat' (first | with_reducible assumption | with_reducible exact Keeps.refl _ _ | with_reducible apply State.setRb_keeps | with_reducible apply State.vector_keeps | with_reducible apply keeps_ite | split | dsimp only | intro _ _ | intro _)

theorem State.setMap_keeps {p_ : Allow} {z : State} {s : State} (present absent : BitVec 64)  (hevents_ : p_.may .events = true) (h_ : Keeps p_ z s) : Keeps p_ z (State.setMap s present absent) := by
  unfold State.setMap
  repeat' (first | with_reducible assumption | with_reducible exact Keeps.refl _ _ | with_reducible apply State.setCas_keeps | with_reducible apply State.count_keeps | with_reducible apply State.casNote_keeps | with_reducible apply State.raise_keeps | with_reducible apply keeps_foldl | with_reducible apply keeps_foldl_fst | with_reducible apply keeps_foldl_snd | intro _ _ _ | with_reducible apply keepsParts_intro | with_reducible exact Or.inl (by with_reducible assumption) | with_reducible exact Or.inr rfl | simp only [keeps_mk] | with_reducible refine keepsMk_of ?_ ⟨rfl, rfl⟩ (fun h_ => by first | exact h_ | simpa only [updAt_length] using h_ | with_unfolding_all rfl) ?_ ?_ | with_reducible apply keeps_ite | split | dsimp only | intro _ _ | intro _)

theorem State.settleRing_keeps {p_ : Allow} {z : State} {s : State}  (h_ : Keeps p_ z s) : Keeps p_ z (State.settleRing s) := by
  unfold State.settleRing
  repeat' (first | with_reducible assumption | with_reducible exact Keeps.refl _ _ | with_reducible apply State.setCas_keeps | with_reducible apply keepsParts_intro | with_reducible exact Or.inl (by with_reducible assumption) | with_reducible exact Or.inr rfl | simp only [keeps_mk] | with_reducible refine keepsMk_of ?_ ⟨rfl, rfl⟩ (fun h_ => by first | exact h_ | simpa only [updAt_length] using h_ | with_unfolding_all rfl) ?_ ?_ | with_reducible apply keeps_ite | split | dsimp only | intro _ _ | intro _)

theorem State.startFormation_keeps {p_ : Allow} {z : State} {s : State} (reform : Option (Fin 4 × Word))  (h_ : Keeps p_ z s) : Keeps p_ z (State.startFormation s reform) := by
  unfold State.startFormation
  repeat' (first | with_reducible assumption | with_reducible exact Keeps.refl _ _ | with_reducible apply State.setCas_keeps | with_reducible apply keepsParts_intro | with_reducible exact Or.inl (by with_reducible assumption) | with_reducible exact Or.inr rfl | simp only [keeps_mk] | with_reducible refine keepsMk_of ?_ ⟨rfl, rfl⟩ (fun h_ => by first | exact h_ | simpa only [updAt_length] using h_ | with_unfolding_all rfl) ?_ ?_ | dsimp only | intro _ _ | intro _)

theorem State.endFormation_keeps {p_ : Allow} {z : State} {s : State} (st : RingState) (n : Nat) (uids : List (List Byte))  (h_ : Keeps p_ z s) : Keeps p_ z (State.endFormation s st n uids) := by
  unfold State.endFormation
  repeat' (first | with_reducible assumption | with_reducible exact Keeps.refl _ _ | with_reducible apply State.setCas_keeps | with_reducible apply State.casNote_keeps | with_reducible apply State.complete_keeps | with_reducible apply keepsParts_intro | with_reducible exact Or.inl (by with_reducible assumption) | with_reducible exact Or.inr rfl | simp only [keeps_mk] | with_reducible refine keepsMk_of ?_ ⟨rfl, rfl⟩ (fun h_ => by first | exact h_ | simpa only [updAt_length] using h_ | with_unfolding_all rfl) ?_ ?_ | with_reducible apply keeps_ite | split | intro _ _ | dsimp only | intro _ _ | intro _)

theorem State.takeToken_keeps {p_ : Allow} {z : State} {s : State} (count : Nat) (uids : List (List Byte))  (h_ : Keeps p_ z s) : Keeps p_ z (State.takeToken s count uids) := by
  unfold State.takeToken
  repeat' (first | with_reducible assumption | with_reducible exact Keeps.refl _ _ | with_reducible apply State.count_keeps | with_reducible apply State.setCas_keeps | with_reducible apply keepsParts_intro | with_reducible exact Or.inl (by with_reducible assumption) | with_reducible exact Or.inr rfl | simp only [keeps_mk] | with_reducible refine keepsMk_of ?_ ⟨rfl, rfl⟩ (fun h_ => by first | exact h_ | simpa only [updAt_length] using h_ | with_unfolding_all rfl) ?_ ?_ | with_reducible apply keeps_ite | split | dsimp only | intro _ _ | intro _)

theorem State.returnToken_keeps {p_ : Allow} {z : State} {s : State} (count : Nat) (uids : List (List Byte))  (h_ : Keeps p_ z s) : Keeps p_ z (State.returnToken s count uids) := by
  unfold State.returnToken
  repeat' (first | with_reducible assumption | with_reducible exact Keeps.refl _ _ | with_reducible apply State.endFormation_keeps | with_reducible apply State.count_keeps | with_reducible apply keeps_ite | split | dsimp only | intro _ _ | intro _)

theorem State.takeMap_keeps {p_ : Allow} {z : State} {s : State} (present absent : BitVec 64)  (hevents_ : p_.may .events = true) (h_ : Keeps p_ z s) : Keeps p_ z (State.takeMap s present absent) := by
  unfold State.takeMap
  repeat' (first | with_reducible assumption | with_reducible exact Keeps.refl _ _ | with_reducible apply State.setMap_keeps | with_reducible apply State.settleRing_keeps | with_reducible apply keeps_ite | split | dsimp only | intro _ _ | intro _)

theorem State.loseFrames_keeps {p_ : Allow} {z : State} {s : State}  (h_ : Keeps p_ z s) : Keeps p_ z (State.loseFrames s) := by
  unfold State.loseFrames
  repeat' (first | with_reducible assumption | with_reducible exact Keeps.refl _ _ | with_reducible apply State.count_keeps | with_reducible apply State.setCas_keeps | with_reducible apply keepsParts_intro | with_reducible exact Or.inl (by with_reducible assumption) | with_reducible exact Or.inr rfl | simp only [keeps_mk] | with_reducible refine keepsMk_of ?_ ⟨rfl, rfl⟩ (fun h_ => by first | exact h_ | simpa only [updAt_length] using h_ | with_unfolding_all rfl) ?_ ?_ | dsimp only | intro _ _ | intro _)

theorem State.breakRing_keeps {p_ : Allow} {z : State} {s : State}  (h_ : Keeps p_ z s) : Keeps p_ z (State.breakRing s) := by
  unfold State.breakRing
  repeat' (first | with_reducible assumption | with_reducible exact Keeps.refl _ _ | with_reducible apply State.setCas_keeps | with_reducible apply State.loseFrames_keeps | with_reducible apply State.casNote_keeps | with_reducible apply keepsParts_intro | with_reducible exact Or.inl (by with_reducible assumption) | with_reducible exact Or.inr rfl | simp only [keeps_mk] | with_reducible refine keepsMk_of ?_ ⟨rfl, rfl⟩ (fun h_ => by first | exact h_ | simpa only [updAt_length] using h_ | with_unfolding_all rfl) ?_ ?_ | dsimp only | intro _ _ | intro _)

theorem State.closeAround_keeps {p_ : Allow} {z : State} {s : State} (i : Fin 64)  (hevents_ : p_.may .events = true) (h_ : Keeps p_ z s) : Keeps p_ z (State.closeAround s i) := by
  unfold State.closeAround
  repeat' (first | with_reducible assumption | with_reducible exact Keeps.refl _ _ | with_reducible apply State.setMap_keeps | with_reducible apply State.loseFrames_keeps | with_reducible apply State.settleRing_keeps | with_reducible apply keeps_ite | split | dsimp only | intro _ _ | intro _)

theorem State.startOutside_keeps {p_ : Allow} {z : State} {s : State}  (h_ : Keeps p_ z s) : Keeps p_ z (State.startOutside s) := by
  unfold State.startOutside
  repeat' (first | with_reducible assumption | with_reducible exact Keeps.refl _ _ | with_reducible apply State.setCas_keeps | with_reducible apply keepsParts_intro | with_reducible exact Or.inl (by with_reducible assumption) | with_reducible exact Or.inr rfl | simp only [keeps_mk] | with_reducible refine keepsMk_of ?_ ⟨rfl, rfl⟩ (fun h_ => by first | exact h_ | simpa only [updAt_length] using h_ | with_unfolding_all rfl) ?_ ?_ | dsimp only | intro _ _ | intro _)

theorem State.startRing_keeps {p_ : Allow} {z : State} {s : State}  (h_ : Keeps p_ z s) : Keeps p_ z (State.startRing s) := by
  unfold State.startRing
  repeat' (first | with_reducible assumption | with_reducible exact Keeps.refl _ _ | with_reducible apply State.setCas_keeps | with_reducible apply State.startFormation_keeps | with_reducible apply State.startOutside_keeps | with_reducible apply keepsParts_intro | with_reducible exact Or.inl (by with_reducible assumption) | with_reducible exact Or.inr rfl | simp only [keeps_mk] | with_reducible refine keepsMk_of ?_ ⟨rfl, rfl⟩ (fun h_ => by first | exact h_ | simpa only [updAt_length] using h_ | with_unfolding_all rfl) ?_ ?_ | with_reducible apply keeps_ite | split | dsimp only | intro _ _ | intro _)

theorem State.failRejoin_keeps {p_ : Allow} {z : State} {s : State} (status : Nat)  (h_ : Keeps p_ z s) : Keeps p_ z (State.failRejoin s status) := by
  unfold State.failRejoin
  repeat' (first | with_reducible assumption | with_reducible exact Keeps.refl _ _ | with_reducible apply State.setCas_keeps | with_reducible apply State.count_keeps | with_reducible apply State.complete_keeps | with_reducible apply State.status_keeps | with_reducible apply keepsParts_intro | with_reducible exact Or.inl (by with_reducible assumption) | with_reducible exact Or.inr rfl | simp only [keeps_mk] | with_reducible refine keepsMk_of ?_ ⟨rfl, rfl⟩ (fun h_ => by first | exact h_ | simpa only [updAt_length] using h_ | with_unfolding_all rfl) ?_ ?_ | split | intro _ _ | dsimp only | intro _ _ | intro _)

theorem State.takeJoin_keeps {p_ : Allow} {z : State} {s : State} (uid : List Byte) (index : Fin 64)  (hevents_ : p_.may .events = true) (h_ : Keeps p_ z s) : Keeps p_ z (State.takeJoin s uid index) := by
  unfold State.takeJoin
  repeat' (first | with_reducible assumption | with_reducible exact Keeps.refl _ _ | with_reducible apply State.failRejoin_keeps | with_reducible apply State.setMap_keeps | with_reducible apply State.settleRing_keeps | with_reducible apply State.setCas_keeps | with_reducible apply State.ringOut_keeps | with_reducible apply State.complete_keeps | with_reducible apply keepsParts_intro | with_reducible exact Or.inl (by with_reducible assumption) | with_reducible exact Or.inr rfl | simp only [keeps_mk] | with_reducible refine keepsMk_of ?_ ⟨rfl, rfl⟩ (fun h_ => by first | exact h_ | simpa only [updAt_length] using h_ | with_unfolding_all rfl) ?_ ?_ | with_reducible apply keeps_ite | split | intro _ _ | dsimp only | intro _ _ | intro _)

theorem State.takeRelease_keeps {p_ : Allow} {z : State} {s : State} (member : Fin 64) (t : Instant)  (h_ : Keeps p_ z s) : Keeps p_ z (State.takeRelease s member t) := by
  unfold State.takeRelease
  repeat' (first | with_reducible assumption | with_reducible exact Keeps.refl _ _ | with_reducible apply State.setCas_keeps | with_reducible apply keepsParts_intro | with_reducible exact Or.inl (by with_reducible assumption) | with_reducible exact Or.inr rfl | simp only [keeps_mk] | with_reducible refine keepsMk_of ?_ ⟨rfl, rfl⟩ (fun h_ => by first | exact h_ | simpa only [updAt_length] using h_ | with_unfolding_all rfl) ?_ ?_ | with_reducible apply keeps_ite | split | dsimp only | intro _ _ | intro _)

theorem State.takeReply_keeps {p_ : Allow} {z : State} {s : State} (origin : Fin 64) (session : Fin 4) (seq : Word) (status : Nat) (words : List Word)  (h_ : Keeps p_ z s) : Keeps p_ z (State.takeReply s origin session seq status words) := by
  unfold State.takeReply
  repeat' (first | with_reducible assumption | with_reducible exact Keeps.refl _ _ | with_reducible apply State.status_keeps | with_reducible apply State.postAccepted_keeps | with_reducible apply State.postFinal_keeps | with_reducible apply keepsParts_intro | with_reducible exact Or.inl (by with_reducible assumption) | with_reducible exact Or.inr rfl | simp only [keeps_mk] | with_reducible refine keepsMk_of ?_ ⟨rfl, rfl⟩ (fun h_ => by first | exact h_ | simpa only [updAt_length] using h_ | with_unfolding_all rfl) ?_ ?_ | with_reducible apply keeps_ite | split | intro _ _ | dsimp only | intro _ _ | intro _)

theorem State.takeBody_keeps {p_ : Allow} {z : State} {s : State} (origin : Fin 64) (x0 : RingBody)  (hevents_ : p_.may .events = true) (hisl_ : p_.may .isl = true) (hmbx_ : p_.may .mbx = true) (h_ : Keeps p_ z s) : Keeps p_ z (State.takeBody s origin x0) := by
  unfold State.takeBody
  repeat' (first | with_reducible assumption | with_reducible exact Keeps.refl _ _ | with_reducible apply State.takePacket_keeps | with_reducible apply State.fetchCmd_keeps | with_reducible apply State.status_keeps | with_reducible apply State.takeReply_keeps | with_reducible apply State.dmaOut_keeps | with_reducible apply State.arriveMbox_keeps | with_reducible apply State.count_keeps | with_reducible apply State.returnToken_keeps | with_reducible apply State.takeToken_keeps | with_reducible apply State.takeMap_keeps | with_reducible apply State.closeAround_keeps | with_reducible apply State.takeRelease_keeps | with_reducible apply State.takeJoin_keeps | with_reducible apply keepsParts_intro | with_reducible exact Or.inl (by with_reducible assumption) | with_reducible exact Or.inr rfl | simp only [keeps_mk] | with_reducible refine keepsMk_of ?_ ⟨rfl, rfl⟩ (fun h_ => by first | exact h_ | simpa only [updAt_length] using h_ | with_unfolding_all rfl) ?_ ?_ | with_reducible apply keeps_ite | split | dsimp only | intro _ _ | intro _)

theorem State.receiveRing_keeps {p_ : Allow} {z : State} {s : State} (f : RingFrame)  (hevents_ : p_.may .events = true) (hisl_ : p_.may .isl = true) (hflt_ : p_.may .flt = true) (hmbx_ : p_.may .mbx = true) (h_ : Keeps p_ z s) : Keeps p_ z (State.receiveRing s f) := by
  unfold State.receiveRing
  repeat' (first | with_reducible assumption | with_reducible exact Keeps.refl _ _ | with_reducible apply State.occasion_keeps | with_reducible apply State.count_keeps | with_reducible apply State.detect_keeps | with_reducible apply State.takeBody_keeps | with_reducible apply State.setCas_keeps | with_reducible refine State.occasion_keeps_of (by with_reducible assumption) ?_ ?_ | with_reducible apply keepsParts_intro | with_reducible exact Or.inl (by with_reducible assumption) | with_reducible exact Or.inr rfl | simp only [keeps_mk] | with_reducible refine keepsMk_of ?_ ⟨rfl, rfl⟩ (fun h_ => by first | exact h_ | simpa only [updAt_length] using h_ | with_unfolding_all rfl) ?_ ?_ | with_reducible apply keeps_ite | split | intro _ _ | dsimp only | intro _ _ | intro _)

theorem State.resetCascade_keeps {p_ : Allow} {z : State} {s : State}  (h_ : Keeps p_ z s) : Keeps p_ z (State.resetCascade s) := by
  unfold State.resetCascade
  repeat' (first | with_reducible assumption | with_reducible exact Keeps.refl _ _ | with_reducible apply State.failRejoin_keeps | with_reducible apply State.resetRegs_keeps | with_reducible apply State.setCas_keeps | with_reducible apply State.startFormation_keeps | with_reducible apply keepsParts_intro | with_reducible exact Or.inl (by with_reducible assumption) | with_reducible exact Or.inr rfl | simp only [keeps_mk] | with_reducible refine keepsMk_of ?_ ⟨rfl, rfl⟩ (fun h_ => by first | exact h_ | simpa only [updAt_length] using h_ | with_unfolding_all rfl) ?_ ?_ | with_reducible apply keeps_ite | split | dsimp only | intro _ _ | intro _)

/-! ### Machine/Cascade.lean -/

theorem execRingFormationToken_keeps {p_ : Allow} {z : State} (at_ : Instant) (count : Nat) (uids : List (List Byte)) {s : State}  (htime_ : p_.clock = true) (h_ : Keeps p_ z s) : KeepsOut p_ z (execRingFormationToken at_ count uids s) := by
  unfold execRingFormationToken
  repeat' (first | with_reducible assumption | with_reducible exact Keeps.refl _ _ | with_reducible apply State.advance_keeps | with_reducible apply State.takeToken_keeps | with_reducible apply State.count_keeps | with_reducible apply KeepsRes.done | with_reducible apply KeepsRes.accepted | with_reducible apply KeepsRes.waiting | with_reducible apply KeepsOut.next | dsimp only | intro _ _ | intro _)

theorem execRingFormationReturn_keeps {p_ : Allow} {z : State} (at_ : Instant) (count : Nat) (uids : List (List Byte)) {s : State}  (htime_ : p_.clock = true) (h_ : Keeps p_ z s) : KeepsOut p_ z (execRingFormationReturn at_ count uids s) := by
  unfold execRingFormationReturn
  repeat' (first | with_reducible assumption | with_reducible exact Keeps.refl _ _ | with_reducible apply State.advance_keeps | with_reducible apply State.returnToken_keeps | with_reducible apply State.count_keeps | with_reducible apply KeepsRes.done | with_reducible apply KeepsRes.accepted | with_reducible apply KeepsRes.waiting | with_reducible apply KeepsOut.next | dsimp only | intro _ _ | intro _)

theorem execRingFormationTimeout_keeps {p_ : Allow} {z : State} {s : State}  (htime_ : p_.clock = true) (h_ : Keeps p_ z s) : KeepsOut p_ z (execRingFormationTimeout s) := by
  unfold execRingFormationTimeout
  repeat' (first | with_reducible assumption | with_reducible exact Keeps.refl _ _ | with_reducible apply State.advanceUp_keeps | with_reducible apply State.endFormation_keeps | with_reducible apply KeepsRes.done | with_reducible apply KeepsRes.accepted | with_reducible apply KeepsRes.waiting | with_reducible apply KeepsOut.next | with_reducible apply keepsParts_intro | with_reducible exact Or.inl (by with_reducible assumption) | with_reducible exact Or.inr rfl | simp only [keeps_mk] | with_reducible refine keepsMk_of ?_ ⟨rfl, rfl⟩ (fun h_ => by first | exact h_ | simpa only [updAt_length] using h_ | with_unfolding_all rfl) ?_ ?_ | split | intro _ _ | dsimp only | intro _ _ | intro _)

theorem execRingMapBroadcast_keeps {p_ : Allow} {z : State} (at_ : Instant) {s0 : State}  (htime_ : p_.clock = true) (h_ : Keeps p_ z s0) : KeepsOut p_ z (execRingMapBroadcast at_ s0) := by
  unfold execRingMapBroadcast
  repeat' (first | with_reducible assumption | with_reducible exact Keeps.refl _ _ | with_reducible apply State.advance_keeps | with_reducible apply State.ringOut_keeps | with_reducible apply KeepsRes.done | with_reducible apply KeepsRes.accepted | with_reducible apply KeepsRes.waiting | with_reducible apply KeepsOut.next | with_reducible apply keeps_ite | with_reducible apply keepsOut_ite | split | dsimp only | intro _ _ | intro _)

theorem execRingMapReceive_keeps {p_ : Allow} {z : State} (at_ : Instant) (present absent : BitVec 64) {s : State}  (hevents_ : p_.may .events = true) (htime_ : p_.clock = true) (h_ : Keeps p_ z s) : KeepsOut p_ z (execRingMapReceive at_ present absent s) := by
  unfold execRingMapReceive
  repeat' (first | with_reducible assumption | with_reducible exact Keeps.refl _ _ | with_reducible apply State.advance_keeps | with_reducible apply State.takeMap_keeps | with_reducible apply KeepsRes.done | with_reducible apply KeepsRes.accepted | with_reducible apply KeepsRes.waiting | with_reducible apply KeepsOut.next | dsimp only | intro _ _ | intro _)

theorem execRingFrameReceive_keeps {p_ : Allow} {z : State} (at_ : Instant) (f : RingFrame) {s : State}  (hevents_ : p_.may .events = true) (hisl_ : p_.may .isl = true) (hflt_ : p_.may .flt = true) (hmbx_ : p_.may .mbx = true) (htime_ : p_.clock = true) (h_ : Keeps p_ z s) : KeepsOut p_ z (execRingFrameReceive at_ f s) := by
  unfold execRingFrameReceive
  repeat' (first | with_reducible assumption | with_reducible exact Keeps.refl _ _ | with_reducible apply State.advance_keeps | with_reducible apply State.receiveRing_keeps | with_reducible apply KeepsRes.done | with_reducible apply KeepsRes.accepted | with_reducible apply KeepsRes.waiting | with_reducible apply KeepsOut.next | dsimp only | intro _ _ | intro _)

theorem execCrInSilence_keeps {p_ : Allow} {z : State} (at_ : Instant) {s0 : State}  (htime_ : p_.clock = true) (h_ : Keeps p_ z s0) : KeepsOut p_ z (execCrInSilence at_ s0) := by
  unfold execCrInSilence
  repeat' (first | with_reducible assumption | with_reducible exact Keeps.refl _ _ | with_reducible apply State.advance_keeps | with_reducible apply State.setCas_keeps | with_reducible apply State.breakRing_keeps | with_reducible apply KeepsRes.done | with_reducible apply KeepsRes.accepted | with_reducible apply KeepsRes.waiting | with_reducible apply KeepsOut.next | with_reducible apply keepsParts_intro | with_reducible exact Or.inl (by with_reducible assumption) | with_reducible exact Or.inr rfl | simp only [keeps_mk] | with_reducible refine keepsMk_of ?_ ⟨rfl, rfl⟩ (fun h_ => by first | exact h_ | simpa only [updAt_length] using h_ | with_unfolding_all rfl) ?_ ?_ | with_reducible apply keeps_ite | with_reducible apply keepsOut_ite | split | dsimp only | intro _ _ | intro _)

theorem execRingRelock_keeps {p_ : Allow} {z : State} (at_ : Instant) (locked : Bool) {s0 : State}  (hevents_ : p_.may .events = true) (htime_ : p_.clock = true) (h_ : Keeps p_ z s0) : KeepsOut p_ z (execRingRelock at_ locked s0) := by
  unfold execRingRelock
  repeat' (first | with_reducible assumption | with_reducible exact Keeps.refl _ _ | with_reducible apply State.advance_keeps | with_reducible apply State.breakRing_keeps | with_reducible apply State.closeAround_keeps | with_reducible apply State.loseFrames_keeps | with_reducible apply State.ringOut_keeps | with_reducible apply KeepsRes.done | with_reducible apply KeepsRes.accepted | with_reducible apply KeepsRes.waiting | with_reducible apply KeepsOut.next | with_reducible apply keeps_ite | with_reducible apply keepsOut_ite | split | dsimp only | intro _ _ | intro _)

theorem execRingClosedToken_keeps {p_ : Allow} {z : State} (at_ : Instant) (silent : Fin 64) {s : State}  (hevents_ : p_.may .events = true) (htime_ : p_.clock = true) (h_ : Keeps p_ z s) : KeepsOut p_ z (execRingClosedToken at_ silent s) := by
  unfold execRingClosedToken
  repeat' (first | with_reducible assumption | with_reducible exact Keeps.refl _ _ | with_reducible apply State.advance_keeps | with_reducible apply State.closeAround_keeps | with_reducible apply KeepsRes.done | with_reducible apply KeepsRes.accepted | with_reducible apply KeepsRes.waiting | with_reducible apply KeepsOut.next | dsimp only | intro _ _ | intro _)

theorem execRejoinRelease_keeps {p_ : Allow} {z : State} {s : State}  (htime_ : p_.clock = true) (h_ : Keeps p_ z s) : KeepsOut p_ z (execRejoinRelease s) := by
  unfold execRejoinRelease
  repeat' (first | with_reducible assumption | with_reducible exact Keeps.refl _ _ | with_reducible apply State.advance_keeps | with_reducible apply State.setCas_keeps | with_reducible apply KeepsRes.done | with_reducible apply KeepsRes.accepted | with_reducible apply KeepsRes.waiting | with_reducible apply KeepsOut.next | with_reducible apply keepsParts_intro | with_reducible exact Or.inl (by with_reducible assumption) | with_reducible exact Or.inr rfl | simp only [keeps_mk] | with_reducible refine keepsMk_of ?_ ⟨rfl, rfl⟩ (fun h_ => by first | exact h_ | simpa only [updAt_length] using h_ | with_unfolding_all rfl) ?_ ?_ | with_reducible apply keeps_ite | with_reducible apply keepsOut_ite | split | intro _ _ | dsimp only | intro _ _ | intro _)

theorem execJoinRecordReceive_keeps {p_ : Allow} {z : State} (at_ : Instant) (uid : List Byte) (index : Fin 64) {s : State}  (hevents_ : p_.may .events = true) (htime_ : p_.clock = true) (h_ : Keeps p_ z s) : KeepsOut p_ z (execJoinRecordReceive at_ uid index s) := by
  unfold execJoinRecordReceive
  repeat' (first | with_reducible assumption | with_reducible exact Keeps.refl _ _ | with_reducible apply State.advance_keeps | with_reducible apply State.takeJoin_keeps | with_reducible apply KeepsRes.done | with_reducible apply KeepsRes.accepted | with_reducible apply KeepsRes.waiting | with_reducible apply KeepsOut.next | dsimp only | intro _ _ | intro _)

theorem execRejoinTrialTimeout_keeps {p_ : Allow} {z : State} {s : State}  (htime_ : p_.clock = true) (h_ : Keeps p_ z s) : KeepsOut p_ z (execRejoinTrialTimeout s) := by
  unfold execRejoinTrialTimeout
  repeat' (first | with_reducible assumption | with_reducible exact Keeps.refl _ _ | with_reducible apply State.advanceUp_keeps | with_reducible apply State.failRejoin_keeps | with_reducible apply KeepsRes.done | with_reducible apply KeepsRes.accepted | with_reducible apply KeepsRes.waiting | with_reducible apply KeepsOut.next | with_reducible apply keepsParts_intro | with_reducible exact Or.inl (by with_reducible assumption) | with_reducible exact Or.inr rfl | simp only [keeps_mk] | with_reducible refine keepsMk_of ?_ ⟨rfl, rfl⟩ (fun h_ => by first | exact h_ | simpa only [updAt_length] using h_ | with_unfolding_all rfl) ?_ ?_ | split | intro _ _ | dsimp only | intro _ _ | intro _)

theorem bodyCasStatus_keeps {p_ : Allow} {z : State} {s : State}  (h_ : Keeps p_ z s) : KeepsRes p_ z (bodyCasStatus s) := by
  unfold bodyCasStatus
  repeat' (first | with_reducible assumption | with_reducible exact Keeps.refl _ _ | with_reducible apply ok_keeps | with_reducible apply KeepsRes.done | with_reducible apply KeepsRes.accepted | with_reducible apply KeepsRes.waiting | with_reducible apply KeepsOut.next | split | dsimp only | intro _ _ | intro _)

theorem execCasStatus_keeps {p_ : Allow} {z : State} (h : Hdr) {s : State}  (htime_ : p_.clock = true) (h_ : Keeps p_ z s) : KeepsOut p_ z (execCasStatus h s) := by
  unfold execCasStatus
  repeat' (first | with_reducible assumption | with_reducible exact Keeps.refl _ _ | with_reducible apply runCmd_keeps | with_reducible apply bodyCasStatus_keeps | with_reducible apply KeepsRes.done | with_reducible apply KeepsRes.accepted | with_reducible apply KeepsRes.waiting | with_reducible apply KeepsOut.next | dsimp only | intro _ _ | intro _)

theorem State.orderRejoin_keeps {p_ : Allow} {z : State} {s : State} (h : Hdr) (m : Fin 64)  (h_ : Keeps p_ z s) : Keeps p_ z (State.orderRejoin s h m) := by
  unfold State.orderRejoin
  repeat' (first | with_reducible assumption | with_reducible exact Keeps.refl _ _ | with_reducible apply State.setCas_keeps | with_reducible apply State.takeRelease_keeps | with_reducible apply State.ringOut_keeps | with_reducible apply keepsParts_intro | with_reducible exact Or.inl (by with_reducible assumption) | with_reducible exact Or.inr rfl | simp only [keeps_mk] | with_reducible refine keepsMk_of ?_ ⟨rfl, rfl⟩ (fun h_ => by first | exact h_ | simpa only [updAt_length] using h_ | with_unfolding_all rfl) ?_ ?_ | with_reducible apply keeps_ite | split | dsimp only | intro _ _ | intro _)

theorem bodyCasRejoin_keeps {p_ : Allow} {z : State} (h : Hdr) (m : Fin 64) {s : State}  (h_ : Keeps p_ z s) : KeepsRes p_ z (bodyCasRejoin h m s) := by
  unfold bodyCasRejoin
  repeat' (first | with_reducible assumption | with_reducible exact Keeps.refl _ _ | with_reducible apply refuse_keeps | with_reducible apply State.orderRejoin_keeps | with_reducible apply KeepsRes.done | with_reducible apply KeepsRes.accepted | with_reducible apply KeepsRes.waiting | with_reducible apply KeepsOut.next | with_reducible apply keeps_ite | with_reducible apply keepsRes_ite | split | dsimp only | intro _ _ | intro _)

theorem execCasRejoin_keeps {p_ : Allow} {z : State} (h : Hdr) (m : Fin 64) {s : State}  (htime_ : p_.clock = true) (h_ : Keeps p_ z s) : KeepsOut p_ z (execCasRejoin h m s) := by
  unfold execCasRejoin
  repeat' (first | with_reducible assumption | with_reducible exact Keeps.refl _ _ | with_reducible apply runCmd_keeps | with_reducible apply bodyCasRejoin_keeps | with_reducible apply KeepsRes.done | with_reducible apply KeepsRes.accepted | with_reducible apply KeepsRes.waiting | with_reducible apply KeepsOut.next | dsimp only | intro _ _ | intro _)

theorem bodyCasReform_keeps {p_ : Allow} {z : State} (h : Hdr) {s : State}  (h_ : Keeps p_ z s) : KeepsRes p_ z (bodyCasReform h s) := by
  unfold bodyCasReform
  repeat' (first | with_reducible assumption | with_reducible exact Keeps.refl _ _ | with_reducible apply refuse_keeps | with_reducible apply State.startFormation_keeps | with_reducible apply KeepsRes.done | with_reducible apply KeepsRes.accepted | with_reducible apply KeepsRes.waiting | with_reducible apply KeepsOut.next | with_reducible apply keeps_ite | with_reducible apply keepsRes_ite | split | dsimp only | intro _ _ | intro _)

theorem execCasReform_keeps {p_ : Allow} {z : State} (h : Hdr) {s : State}  (htime_ : p_.clock = true) (h_ : Keeps p_ z s) : KeepsOut p_ z (execCasReform h s) := by
  unfold execCasReform
  repeat' (first | with_reducible assumption | with_reducible exact Keeps.refl _ _ | with_reducible apply runCmd_keeps | with_reducible apply bodyCasReform_keeps | with_reducible apply KeepsRes.done | with_reducible apply KeepsRes.accepted | with_reducible apply KeepsRes.waiting | with_reducible apply KeepsOut.next | dsimp only | intro _ _ | intro _)

theorem bodyCasTune_keeps {p_ : Allow} {z : State} (skipEn intEn : Option Bool) {s : State}  (h_ : Keeps p_ z s) : KeepsRes p_ z (bodyCasTune skipEn intEn s) := by
  unfold bodyCasTune
  repeat' (first | with_reducible assumption | with_reducible exact Keeps.refl _ _ | with_reducible apply State.setRb_keeps | with_reducible apply ok_keeps | with_reducible apply KeepsRes.done | with_reducible apply KeepsRes.accepted | with_reducible apply KeepsRes.waiting | with_reducible apply KeepsOut.next | with_reducible apply keepsParts_intro | with_reducible exact Or.inl (by with_reducible assumption) | with_reducible exact Or.inr rfl | simp only [keeps_mk] | with_reducible refine keepsMk_of ?_ ⟨rfl, rfl⟩ (fun h_ => by first | exact h_ | simpa only [updAt_length] using h_ | with_unfolding_all rfl) ?_ ?_ | split | intro _ _ | dsimp only | intro _ _ | intro _)

theorem execCasTune_keeps {p_ : Allow} {z : State} (h : Hdr) (skipEn intEn : Option Bool) {s : State}  (htime_ : p_.clock = true) (h_ : Keeps p_ z s) : KeepsOut p_ z (execCasTune h skipEn intEn s) := by
  unfold execCasTune
  repeat' (first | with_reducible assumption | with_reducible exact Keeps.refl _ _ | with_reducible apply runCmd_keeps | with_reducible apply bodyCasTune_keeps | with_reducible apply KeepsRes.done | with_reducible apply KeepsRes.accepted | with_reducible apply KeepsRes.waiting | with_reducible apply KeepsOut.next | dsimp only | intro _ _ | intro _)

/-! ### Machine/MemoryOps.lean -/

theorem State.updMemChan_keeps {p_ : Allow} {z : State} {s : State} (c : Nat) (f : MemChan → MemChan)  (h_ : Keeps p_ z s) : Keeps p_ z (State.updMemChan s c f) := by
  unfold State.updMemChan
  repeat' (first | with_reducible assumption | with_reducible exact Keeps.refl _ _ | refine State.setMem_keeps _ ⟨rfl, rfl⟩ ?_ | with_reducible apply keepsParts_intro | with_reducible exact Or.inl (by with_reducible assumption) | with_reducible exact Or.inr rfl | simp only [keeps_mk] | with_reducible refine keepsMk_of ?_ ⟨rfl, rfl⟩ (fun h_ => by first | exact h_ | simpa only [updAt_length] using h_ | with_unfolding_all rfl) ?_ ?_ | dsimp only | intro _ _ | intro _)

theorem State.poisonTransfer_keeps {p_ : Allow} {z : State} {s : State} (c p : Nat) (inj : Bool)  (hfree_ : p_.may .free = true) (hkey_ : p_.may .key = true) (hmbx_ : p_.may .mbx = true) (h_ : Keeps p_ z s) : Keeps p_ z (State.poisonTransfer s c p inj) := by
  unfold State.poisonTransfer
  repeat' (first | with_reducible assumption | with_reducible exact Keeps.refl _ _ | with_reducible apply State.nextFree_keeps | with_reducible apply State.resetCore_keeps | refine State.setMem_keeps _ ⟨rfl, rfl⟩ ?_ | with_reducible apply keepsParts_intro | with_reducible exact Or.inl (by with_reducible assumption) | with_reducible exact Or.inr rfl | simp only [keeps_mk] | with_reducible refine keepsMk_of ?_ ⟨rfl, rfl⟩ (fun h_ => by first | exact h_ | simpa only [updAt_length] using h_ | with_unfolding_all rfl) ?_ ?_ | with_reducible apply keeps_ite | split | intro _ _ | dsimp only | intro _ _ | intro _)

theorem State.moveTransfer_keeps {p_ : Allow} {z : State} {s : State} (c p : Nat) (ecc : EccOutcome)  (hfree_ : p_.may .free = true) (hevents_ : p_.may .events = true) (hcap_ : p_.may .cap = true) (hflt_ : p_.may .flt = true) (hkey_ : p_.may .key = true) (hmbx_ : p_.may .mbx = true) (h_ : Keeps p_ z s) : Keeps p_ z (State.moveTransfer s c p ecc) := by
  unfold State.moveTransfer
  repeat' (first | with_reducible assumption | with_reducible exact Keeps.refl _ _ | with_reducible apply State.count_keeps | with_reducible apply State.updMemChan_keeps | with_reducible apply State.updUnit_keeps | with_reducible apply State.occasion_keeps | with_reducible apply State.status_keeps | with_reducible apply State.detect_keeps | with_reducible apply State.poisonTransfer_keeps | with_reducible refine State.occasion_keeps_of (by with_reducible assumption) ?_ ?_ | with_reducible apply keepsParts_intro | with_reducible exact Or.inl (by with_reducible assumption) | with_reducible exact Or.inr rfl | simp only [keeps_mk] | with_reducible refine keepsMk_of ?_ ⟨rfl, rfl⟩ (fun h_ => by first | exact h_ | simpa only [updAt_length] using h_ | with_unfolding_all rfl) ?_ ?_ | with_reducible apply keeps_ite | split | intro _ _ | dsimp only | intro _ _ | intro _)

theorem State.arbitrate_keeps {p_ : Allow} {z : State} {s : State} (c : Nat) (asking : List Nat) (withdraw : Bool) (ecc : EccOutcome)  (hfree_ : p_.may .free = true) (hevents_ : p_.may .events = true) (hcap_ : p_.may .cap = true) (hflt_ : p_.may .flt = true) (hkey_ : p_.may .key = true) (hmbx_ : p_.may .mbx = true) (h_ : Keeps p_ z s) : Keeps p_ z (State.arbitrate s c asking withdraw ecc) := by
  unfold State.arbitrate
  repeat' (first | with_reducible assumption | with_reducible exact Keeps.refl _ _ | with_reducible apply State.updMemChan_keeps | with_reducible apply State.count_keeps | with_reducible apply State.moveTransfer_keeps | with_reducible apply keepsParts_intro | with_reducible exact Or.inl (by with_reducible assumption) | with_reducible exact Or.inr rfl | simp only [keeps_mk] | with_reducible refine keepsMk_of ?_ ⟨rfl, rfl⟩ (fun h_ => by first | exact h_ | simpa only [updAt_length] using h_ | with_unfolding_all rfl) ?_ ?_ | with_reducible apply keeps_ite | split | intro _ _ | dsimp only | intro _ _ | intro _)

theorem State.completeBarrier_keeps {p_ : Allow} {z : State} {s : State} (isl : Nat)  (h_ : Keeps p_ z s) : Keeps p_ z (State.completeBarrier s isl) := by
  unfold State.completeBarrier
  repeat' (first | with_reducible assumption | with_reducible exact Keeps.refl _ _ | refine State.setMem_keeps _ ⟨rfl, rfl⟩ ?_ | with_reducible apply keepsParts_intro | with_reducible exact Or.inl (by with_reducible assumption) | with_reducible exact Or.inr rfl | simp only [keeps_mk] | with_reducible refine keepsMk_of ?_ ⟨rfl, rfl⟩ (fun h_ => by first | exact h_ | simpa only [updAt_length] using h_ | with_unfolding_all rfl) ?_ ?_ | dsimp only | intro _ _ | intro _)

theorem State.clearMaxWait_keeps {p_ : Allow} {z : State} {s : State}  (h_ : Keeps p_ z s) : Keeps p_ z (State.clearMaxWait s) := by
  unfold State.clearMaxWait
  repeat' (first | with_reducible assumption | with_reducible exact Keeps.refl _ _ | with_reducible apply State.updMemChan_keeps | with_reducible apply keepsParts_intro | with_reducible exact Or.inl (by with_reducible assumption) | with_reducible exact Or.inr rfl | simp only [keeps_mk] | with_reducible refine keepsMk_of ?_ ⟨rfl, rfl⟩ (fun h_ => by first | exact h_ | simpa only [updAt_length] using h_ | with_unfolding_all rfl) ?_ ?_ | dsimp only | intro _ _ | intro _)

theorem State.resetMemory_keeps {p_ : Allow} {z : State} {s : State}  (h_ : Keeps p_ z s) : Keeps p_ z (State.resetMemory s) := by
  unfold State.resetMemory
  repeat' (first | with_reducible assumption | with_reducible exact Keeps.refl _ _ | with_reducible apply State.resetRegs_keeps | refine State.setMem_keeps _ ⟨rfl, rfl⟩ ?_ | with_reducible apply keepsParts_intro | with_reducible exact Or.inl (by with_reducible assumption) | with_reducible exact Or.inr rfl | simp only [keeps_mk] | with_reducible refine keepsMk_of ?_ ⟨rfl, rfl⟩ (fun h_ => by first | exact h_ | simpa only [updAt_length] using h_ | with_unfolding_all rfl) ?_ ?_ | dsimp only | intro _ _ | intro _)

/-! ### Machine/Memory.lean -/

theorem execArbitrationDraw_keeps {p_ : Allow} {z : State} (at_ : Instant) (c : Fin 32) (asking : BitVec 8) (withdraw : Bool) (ecc : EccOutcome) {s : State}  (hfree_ : p_.may .free = true) (hevents_ : p_.may .events = true) (hcap_ : p_.may .cap = true) (hflt_ : p_.may .flt = true) (hkey_ : p_.may .key = true) (hmbx_ : p_.may .mbx = true) (htime_ : p_.clock = true) (h_ : Keeps p_ z s) : KeepsOut p_ z (execArbitrationDraw at_ c asking withdraw ecc s) := by
  unfold execArbitrationDraw
  repeat' (first | with_reducible assumption | with_reducible exact Keeps.refl _ _ | with_reducible apply State.advance_keeps | with_reducible apply State.arbitrate_keeps | with_reducible apply KeepsRes.done | with_reducible apply KeepsRes.accepted | with_reducible apply KeepsRes.waiting | with_reducible apply KeepsOut.next | with_reducible apply keeps_ite | with_reducible apply keepsOut_ite | split | dsimp only | intro _ _ | intro _)

theorem execBarrierComplete_keeps {p_ : Allow} {z : State} (at_ : Instant) (isl : Fin 23) {s : State}  (htime_ : p_.clock = true) (h_ : Keeps p_ z s) : KeepsOut p_ z (execBarrierComplete at_ isl s) := by
  unfold execBarrierComplete
  repeat' (first | with_reducible assumption | with_reducible exact Keeps.refl _ _ | with_reducible apply State.advance_keeps | with_reducible apply State.completeBarrier_keeps | with_reducible apply KeepsRes.done | with_reducible apply KeepsRes.accepted | with_reducible apply KeepsRes.waiting | with_reducible apply KeepsOut.next | dsimp only | intro _ _ | intro _)

theorem bodyMemStatus_keeps {p_ : Allow} {z : State} {s : State}  (h_ : Keeps p_ z s) : KeepsRes p_ z (bodyMemStatus s) := by
  unfold bodyMemStatus
  repeat' (first | with_reducible assumption | with_reducible exact Keeps.refl _ _ | with_reducible apply ok_keeps | with_reducible apply KeepsRes.done | with_reducible apply KeepsRes.accepted | with_reducible apply KeepsRes.waiting | with_reducible apply KeepsOut.next | dsimp only | intro _ _ | intro _)

theorem execMemStatus_keeps {p_ : Allow} {z : State} (h : Hdr) {s : State}  (htime_ : p_.clock = true) (h_ : Keeps p_ z s) : KeepsOut p_ z (execMemStatus h s) := by
  unfold execMemStatus
  repeat' (first | with_reducible assumption | with_reducible exact Keeps.refl _ _ | with_reducible apply runCmd_keeps | with_reducible apply bodyMemStatus_keeps | with_reducible apply KeepsRes.done | with_reducible apply KeepsRes.accepted | with_reducible apply KeepsRes.waiting | with_reducible apply KeepsOut.next | dsimp only | intro _ _ | intro _)

theorem bodyMemTickets_keeps {p_ : Allow} {z : State} (p : TicketProfile) {s : State}  (h_ : Keeps p_ z s) : KeepsRes p_ z (bodyMemTickets p s) := by
  unfold bodyMemTickets
  repeat' (first | with_reducible assumption | with_reducible exact Keeps.refl _ _ | with_reducible apply ok_keeps | with_reducible apply State.setReg_keeps | with_reducible apply KeepsRes.done | with_reducible apply KeepsRes.accepted | with_reducible apply KeepsRes.waiting | with_reducible apply KeepsOut.next | dsimp only | intro _ _ | intro _)

theorem execMemTickets_keeps {p_ : Allow} {z : State} (h : Hdr) (p : TicketProfile) {s : State}  (htime_ : p_.clock = true) (h_ : Keeps p_ z s) : KeepsOut p_ z (execMemTickets h p s) := by
  unfold execMemTickets
  repeat' (first | with_reducible assumption | with_reducible exact Keeps.refl _ _ | with_reducible apply runCmd_keeps | with_reducible apply bodyMemTickets_keeps | with_reducible apply KeepsRes.done | with_reducible apply KeepsRes.accepted | with_reducible apply KeepsRes.waiting | with_reducible apply KeepsOut.next | dsimp only | intro _ _ | intro _)

theorem bodyMemHostRead_keeps {p_ : Allow} {z : State} (via : Via) (buf bufLen off len : Nat) {s : State}  (hevents_ : p_.may .events = true) (hflt_ : p_.may .flt = true) (h_ : Keeps p_ z s) : KeepsRes p_ z (bodyMemHostRead via buf bufLen off len s) := by
  unfold bodyMemHostRead
  repeat' (first | with_reducible assumption | with_reducible exact Keeps.refl _ _ | with_reducible apply refuse_keeps | with_reducible apply State.readBulk_keeps | with_reducible apply ok_keeps | with_reducible apply State.hostWrite_keeps | with_reducible refine State.readBulk_keeps_of (by with_reducible assumption) ?_ ?_ ?_ | with_reducible apply KeepsRes.done | with_reducible apply KeepsRes.accepted | with_reducible apply KeepsRes.waiting | with_reducible apply KeepsOut.next | with_reducible apply keeps_ite | with_reducible apply keepsRes_ite | split | dsimp only | intro _ _ | intro _)

theorem execMemHostRead_keeps {p_ : Allow} {z : State} (h : Hdr) (off len : Nat) {s : State}  (hevents_ : p_.may .events = true) (hflt_ : p_.may .flt = true) (htime_ : p_.clock = true) (h_ : Keeps p_ z s) : KeepsOut p_ z (execMemHostRead h off len s) := by
  unfold execMemHostRead
  repeat' (first | with_reducible assumption | with_reducible exact Keeps.refl _ _ | with_reducible apply runCmd_keeps | with_reducible apply bodyMemHostRead_keeps | with_reducible apply Res.carried_keeps | with_reducible apply KeepsRes.done | with_reducible apply KeepsRes.accepted | with_reducible apply KeepsRes.waiting | with_reducible apply KeepsOut.next | dsimp only | intro _ _ | intro _)

theorem bodyMemHostWrite_keeps {p_ : Allow} {z : State} (off : Nat) (data : List Byte) {s : State}
    (hw_ : ∀ i, p_.write i = false → i < off ∨ off + data.length ≤ i) (h_ : Keeps p_ z s) : KeepsRes p_ z (bodyMemHostWrite off data s) := by
  unfold bodyMemHostWrite
  apply keepsRes_ite
  · exact h_
  · exact State.write_keeps _ _ hw_ h_

theorem execMemHostWrite_keeps {p_ : Allow} {z : State} (h : Hdr) (off : Nat) (data : List Byte) {s : State}
    (hw_ : ∀ i, p_.write i = false → i < off ∨ off + data.length ≤ i) (htime_ : p_.clock = true) (h_ : Keeps p_ z s) : KeepsOut p_ z (execMemHostWrite h off data s) := by
  unfold execMemHostWrite
  exact KeepsOut.next (runCmd_keeps _ _ _ (fun _ k => bodyMemHostWrite_keeps off data hw_ k) htime_ h_)

theorem bodyMemTicketsRaw_keeps {p_ : Allow} {z : State} (t0 t1 : Word) {s : State}  (h_ : Keeps p_ z s) : KeepsRes p_ z (bodyMemTicketsRaw t0 t1 s) := by
  unfold bodyMemTicketsRaw
  repeat' (first | with_reducible assumption | with_reducible exact Keeps.refl _ _ | with_reducible apply ok_keeps | with_reducible apply State.setReg_keeps | with_reducible apply KeepsRes.done | with_reducible apply KeepsRes.accepted | with_reducible apply KeepsRes.waiting | with_reducible apply KeepsOut.next | dsimp only | intro _ _ | intro _)

theorem execMemTicketsRaw_keeps {p_ : Allow} {z : State} (h : Hdr) (t0 t1 : Word) {s : State}  (htime_ : p_.clock = true) (h_ : Keeps p_ z s) : KeepsOut p_ z (execMemTicketsRaw h t0 t1 s) := by
  unfold execMemTicketsRaw
  repeat' (first | with_reducible assumption | with_reducible exact Keeps.refl _ _ | with_reducible apply runCmd_keeps | with_reducible apply bodyMemTicketsRaw_keeps | with_reducible apply KeepsRes.done | with_reducible apply KeepsRes.accepted | with_reducible apply KeepsRes.waiting | with_reducible apply KeepsOut.next | dsimp only | intro _ _ | intro _)

theorem bodyMemLfsr_keeps {p_ : Allow} {z : State} (c : Fin 32) (seed : Option Word) {s : State}  (h_ : Keeps p_ z s) : KeepsRes p_ z (bodyMemLfsr c seed s) := by
  unfold bodyMemLfsr
  repeat' (first | with_reducible assumption | with_reducible exact Keeps.refl _ _ | with_reducible apply ok_keeps | with_reducible apply State.updMemChan_keeps | with_reducible apply KeepsRes.done | with_reducible apply KeepsRes.accepted | with_reducible apply KeepsRes.waiting | with_reducible apply KeepsOut.next | with_reducible apply keepsParts_intro | with_reducible exact Or.inl (by with_reducible assumption) | with_reducible exact Or.inr rfl | simp only [keeps_mk] | with_reducible refine keepsMk_of ?_ ⟨rfl, rfl⟩ (fun h_ => by first | exact h_ | simpa only [updAt_length] using h_ | with_unfolding_all rfl) ?_ ?_ | with_reducible apply keeps_ite | with_reducible apply keepsRes_ite | split | intro _ _ | dsimp only | intro _ _ | intro _)

theorem execMemLfsr_keeps {p_ : Allow} {z : State} (h : Hdr) (c : Fin 32) (seed : Option Word) {s : State}  (htime_ : p_.clock = true) (h_ : Keeps p_ z s) : KeepsOut p_ z (execMemLfsr h c seed s) := by
  unfold execMemLfsr
  repeat' (first | with_reducible assumption | with_reducible exact Keeps.refl _ _ | with_reducible apply runCmdAs_keeps | with_reducible apply bodyMemLfsr_keeps | with_reducible apply KeepsRes.done | with_reducible apply KeepsRes.accepted | with_reducible apply KeepsRes.waiting | with_reducible apply KeepsOut.next | dsimp only | intro _ _ | intro _)

/-! ### Machine/PairOps.lean -/

theorem State.pairCount_keeps {p_ : Allow} {z : State} {s : State} (i n : Nat)  (h_ : Keeps p_ z s) : Keeps p_ z (State.pairCount s i n) := by
  unfold State.pairCount
  repeat' (first | with_reducible assumption | with_reducible exact Keeps.refl _ _ | with_reducible apply State.count_keeps | dsimp only | intro _ _ | intro _)

theorem State.endCommand_keeps {p_ : Allow} {z : State} {s : State} (c : Option (Fin 4 × Word)) (status : Nat)  (h_ : Keeps p_ z s) : Keeps p_ z (State.endCommand s c status) := by
  unfold State.endCommand
  repeat' (first | with_reducible assumption | with_reducible exact Keeps.refl _ _ | with_reducible apply State.complete_keeps | with_reducible apply State.status_keeps | with_reducible apply keepsParts_intro | with_reducible exact Or.inl (by with_reducible assumption) | with_reducible exact Or.inr rfl | simp only [keeps_mk] | with_reducible refine keepsMk_of ?_ ⟨rfl, rfl⟩ (fun h_ => by first | exact h_ | simpa only [updAt_length] using h_ | with_unfolding_all rfl) ?_ ?_ | split | intro _ _ | dsimp only | intro _ _ | intro _)

theorem State.sendHeartbeat_keeps {p_ : Allow} {z : State} {s : State}  (h_ : Keeps p_ z s) : Keeps p_ z (State.sendHeartbeat s) := by
  unfold State.sendHeartbeat
  repeat' (first | with_reducible assumption | with_reducible exact Keeps.refl _ _ | with_reducible apply State.peerOut_keeps | with_reducible apply State.setPair_keeps | with_reducible apply keepsParts_intro | with_reducible exact Or.inl (by with_reducible assumption) | with_reducible exact Or.inr rfl | simp only [keeps_mk] | with_reducible refine keepsMk_of ?_ ⟨rfl, rfl⟩ (fun h_ => by first | exact h_ | simpa only [updAt_length] using h_ | with_unfolding_all rfl) ?_ ?_ | with_reducible apply keeps_ite | split | dsimp only | intro _ _ | intro _)

theorem State.adopt_keeps {p_ : Allow} {z : State} {s : State} (c : Cursor)  (hpub_ : p_.may .pub = true) (h_ : Keeps p_ z s) : Keeps p_ z (State.adopt s c) := by
  unfold State.adopt
  repeat' (first | with_reducible assumption | with_reducible exact Keeps.refl _ _ | with_reducible apply State.setPair_keeps | with_reducible apply State.setPub_keeps | with_reducible apply keepsParts_intro | with_reducible exact Or.inl (by with_reducible assumption) | with_reducible exact Or.inr rfl | simp only [keeps_mk] | with_reducible refine keepsMk_of ?_ ⟨rfl, rfl⟩ (fun h_ => by first | exact h_ | simpa only [updAt_length] using h_ | with_unfolding_all rfl) ?_ ?_ | split | intro _ _ | dsimp only | intro _ _ | intro _)

theorem State.installRegs_keeps {p_ : Allow} {z : State} {s : State} (regs : List (Nat × Word))  (h_ : Keeps p_ z s) : Keeps p_ z (State.installRegs s regs) := by
  unfold State.installRegs
  repeat' (first | with_reducible assumption | with_reducible exact Keeps.refl _ _ | with_reducible apply State.setReg_keeps | with_reducible apply keeps_foldl | with_reducible apply keeps_foldl_fst | with_reducible apply keeps_foldl_snd | intro _ _ _ | with_reducible apply keepsParts_intro | with_reducible exact Or.inl (by with_reducible assumption) | with_reducible exact Or.inr rfl | simp only [keeps_mk] | with_reducible refine keepsMk_of ?_ ⟨rfl, rfl⟩ (fun h_ => by first | exact h_ | simpa only [updAt_length] using h_ | with_unfolding_all rfl) ?_ ?_ | split | intro _ _ | dsimp only | intro _ _ | intro _)

theorem State.installSettings_keeps {p_ : Allow} {z : State} {s0 : State} (x : PairImage)  (hports_ : p_.may .ports = true) (hing_ : p_.may .ing = true) (hpec_ : p_.may .pec = true) (haln_ : p_.may .aln = true) (hlim_ : p_.may .lim = true) (hisl_ : p_.may .isl = true) (hpub_ : p_.may .pub = true) (hosc_ : p_.may .osc = true) (htime_ : p_.clock = true) (h_ : Keeps p_ z s0) : Keeps p_ z (State.installSettings s0 x) := by
  unfold State.installSettings
  repeat' (first | with_reducible assumption | with_reducible exact Keeps.refl _ _ | with_reducible apply State.installRegs_keeps | with_reducible apply keepsParts_intro | with_reducible exact Or.inl (by with_reducible assumption) | with_reducible exact Or.inr rfl | simp only [keeps_mk] | with_reducible refine keepsMk_of ?_ ⟨rfl, rfl⟩ (fun h_ => by first | exact h_ | simpa only [updAt_length] using h_ | with_unfolding_all rfl) ?_ ?_ | with_reducible apply keeps_ite | split | dsimp only | intro _ _ | intro _)

theorem State.installImage_keeps {p_ : Allow} {z : State} {s0 : State} (x : PairImage)  (hpec_ : p_.may .pec = true) (haln_ : p_.may .aln = true) (hlim_ : p_.may .lim = true) (hisl_ : p_.may .isl = true) (hpub_ : p_.may .pub = true) (hosc_ : p_.may .osc = true) (h_ : Keeps p_ z s0) : Keeps p_ z (State.installImage s0 x) := by
  unfold State.installImage
  repeat' (first | with_reducible assumption | with_reducible exact Keeps.refl _ _ | with_reducible apply State.setReg_keeps | with_reducible apply State.driveLand_keeps | with_reducible apply State.setPair_keeps | with_reducible apply keeps_foldl | with_reducible apply keeps_foldl_fst | with_reducible apply keeps_foldl_snd | intro _ _ _ | with_reducible apply keepsParts_intro | with_reducible exact Or.inl (by with_reducible assumption) | with_reducible exact Or.inr rfl | simp only [keeps_mk] | with_reducible refine keepsMk_of ?_ ⟨rfl, rfl⟩ (fun h_ => by first | exact h_ | simpa only [updAt_length] using h_ | with_unfolding_all rfl) ?_ ?_ | dsimp only | intro _ _ | intro _)

theorem State.replayRaw_keeps {p_ : Allow} {z : State} {s : State}  (hpec_ : p_.may .pec = true) (h_ : Keeps p_ z s) : Keeps p_ z (State.replayRaw s) := by
  unfold State.replayRaw
  repeat' (first | with_reducible assumption | with_reducible exact Keeps.refl _ _ | with_reducible apply State.sampleIn_keeps | with_reducible apply State.setPair_keeps | with_reducible apply keeps_foldl | with_reducible apply keeps_foldl_fst | with_reducible apply keeps_foldl_snd | intro _ _ _ | with_reducible apply keepsParts_intro | with_reducible exact Or.inl (by with_reducible assumption) | with_reducible exact Or.inr rfl | simp only [keeps_mk] | with_reducible refine keepsMk_of ?_ ⟨rfl, rfl⟩ (fun h_ => by first | exact h_ | simpa only [updAt_length] using h_ | with_unfolding_all rfl) ?_ ?_ | with_reducible apply keeps_ite | split | dsimp only | intro _ _ | intro _)

theorem State.noteLive_keeps {p_ : Allow} {z : State} {s : State} (g : Nat)  (h_ : Keeps p_ z s) : Keeps p_ z (State.noteLive s g) := by
  unfold State.noteLive
  repeat' (first | with_reducible assumption | with_reducible exact Keeps.refl _ _ | with_reducible apply State.setPair_keeps | with_reducible apply keepsParts_intro | with_reducible exact Or.inl (by with_reducible assumption) | with_reducible exact Or.inr rfl | simp only [keeps_mk] | with_reducible refine keepsMk_of ?_ ⟨rfl, rfl⟩ (fun h_ => by first | exact h_ | simpa only [updAt_length] using h_ | with_unfolding_all rfl) ?_ ?_ | with_reducible apply keeps_ite | split | dsimp only | intro _ _ | intro _)

theorem State.failCopy_keeps {p_ : Allow} {z : State} {s : State} (st : PairState) (cause : Nat) (inj : Bool)  (hevents_ : p_.may .events = true) (haln_ : p_.may .aln = true) (h_ : Keeps p_ z s) : Keeps p_ z (State.failCopy s st cause inj) := by
  unfold State.failCopy
  repeat' (first | with_reducible assumption | with_reducible exact Keeps.refl _ _ | with_reducible apply State.enterPair_keeps | with_reducible apply State.setPair_keeps | with_reducible apply State.endCommand_keeps | with_reducible apply keepsParts_intro | with_reducible exact Or.inl (by with_reducible assumption) | with_reducible exact Or.inr rfl | simp only [keeps_mk] | with_reducible refine keepsMk_of ?_ ⟨rfl, rfl⟩ (fun h_ => by first | exact h_ | simpa only [updAt_length] using h_ | with_unfolding_all rfl) ?_ ?_ | dsimp only | intro _ _ | intro _)

theorem State.askRecords_keeps {p_ : Allow} {z : State} {s : State} (w : ListWork) (chans : List Nat)  (h_ : Keeps p_ z s) : Keeps p_ z (State.askRecords s w chans) := by
  unfold State.askRecords
  repeat' (first | with_reducible assumption | with_reducible exact Keeps.refl _ _ | with_reducible apply State.setPair_keeps | with_reducible apply State.peerOut_keeps | with_reducible apply keepsParts_intro | with_reducible exact Or.inl (by with_reducible assumption) | with_reducible exact Or.inr rfl | simp only [keeps_mk] | with_reducible refine keepsMk_of ?_ ⟨rfl, rfl⟩ (fun h_ => by first | exact h_ | simpa only [updAt_length] using h_ | with_unfolding_all rfl) ?_ ?_ | dsimp only | intro _ _ | intro _)

theorem State.tryList_keeps {p_ : Allow} {z : State} {s : State} (w : ListWork)  (hevents_ : p_.may .events = true) (haln_ : p_.may .aln = true) (hisl_ : p_.may .isl = true) (hbatches_ : p_.may .batches = true) (h_ : Keeps p_ z s) : Keeps p_ z (State.tryList s w) := by
  unfold State.tryList
  repeat' (first | with_reducible assumption | with_reducible exact Keeps.refl _ _ | with_reducible apply State.failCheck_keeps | with_reducible apply State.pairCount_keeps | with_reducible apply State.updGroup_keeps | with_reducible apply State.updAsm_keeps | with_reducible apply State.peerOut_keeps | with_reducible apply State.noteLive_keeps | with_reducible apply State.commitAs_keeps | with_reducible apply State.status_keeps | with_reducible apply State.askRecords_keeps | with_reducible apply keepsParts_intro | with_reducible exact Or.inl (by with_reducible assumption) | with_reducible exact Or.inr rfl | simp only [keeps_mk] | with_reducible refine keepsMk_of ?_ ⟨rfl, rfl⟩ (fun h_ => by first | exact h_ | simpa only [updAt_length] using h_ | with_unfolding_all rfl) ?_ ?_ | with_reducible apply keeps_ite | split | intro _ _ | dsimp only | intro _ _ | intro _)

theorem State.beginList_keeps {p_ : Allow} {z : State} {s : State} (w : ListWork)  (hevents_ : p_.may .events = true) (haln_ : p_.may .aln = true) (hisl_ : p_.may .isl = true) (hbatches_ : p_.may .batches = true) (h_ : Keeps p_ z s) : Keeps p_ z (State.beginList s w) := by
  unfold State.beginList
  repeat' (first | with_reducible assumption | with_reducible exact Keeps.refl _ _ | with_reducible apply State.failCheck_keeps | with_reducible apply State.resultError_keeps | with_reducible apply State.tryList_keeps | with_reducible apply State.pairCount_keeps | with_reducible apply State.askRecords_keeps | with_reducible apply keepsParts_intro | with_reducible exact Or.inl (by with_reducible assumption) | with_reducible exact Or.inr rfl | simp only [keeps_mk] | with_reducible refine keepsMk_of ?_ ⟨rfl, rfl⟩ (fun h_ => by first | exact h_ | simpa only [updAt_length] using h_ | with_unfolding_all rfl) ?_ ?_ | with_reducible apply keeps_ite | split | intro _ _ | dsimp only | intro _ _ | intro _)

theorem State.serveLists_keeps {p_ : Allow} {z : State} (x0 : Nat) {x1 : State}  (hevents_ : p_.may .events = true) (haln_ : p_.may .aln = true) (hisl_ : p_.may .isl = true) (hbatches_ : p_.may .batches = true) (h_ : Keeps p_ z x1) : Keeps p_ z (State.serveLists x0 x1) := by
  induction x0 generalizing x1 with
  | zero =>
    unfold State.serveLists
    repeat' (first | with_reducible assumption | with_reducible exact Keeps.refl _ _ | with_reducible apply ih_ | with_reducible apply State.setPair_keeps | with_reducible apply State.beginList_keeps | with_reducible apply keepsParts_intro | with_reducible exact Or.inl (by with_reducible assumption) | with_reducible exact Or.inr rfl | simp only [keeps_mk] | with_reducible refine keepsMk_of ?_ ⟨rfl, rfl⟩ (fun h_ => by first | exact h_ | simpa only [updAt_length] using h_ | with_unfolding_all rfl) ?_ ?_ | with_reducible apply keeps_ite | split | intro _ _ | dsimp only | intro _ _ | intro _)
  | succ n_ ih_ =>
    unfold State.serveLists
    repeat' (first | with_reducible assumption | with_reducible exact Keeps.refl _ _ | with_reducible apply ih_ | with_reducible apply State.setPair_keeps | with_reducible apply State.beginList_keeps | with_reducible apply keepsParts_intro | with_reducible exact Or.inl (by with_reducible assumption) | with_reducible exact Or.inr rfl | simp only [keeps_mk] | with_reducible refine keepsMk_of ?_ ⟨rfl, rfl⟩ (fun h_ => by first | exact h_ | simpa only [updAt_length] using h_ | with_unfolding_all rfl) ?_ ?_ | with_reducible apply keeps_ite | split | intro _ _ | dsimp only | intro _ _ | intro _)

theorem State.takeList_keeps {p_ : Allow} {z : State} {s0 : State} (l : InclusionList)  (hevents_ : p_.may .events = true) (haln_ : p_.may .aln = true) (hisl_ : p_.may .isl = true) (hbatches_ : p_.may .batches = true) (h_ : Keeps p_ z s0) : Keeps p_ z (State.takeList s0 l) := by
  unfold State.takeList
  repeat' (first | with_reducible assumption | with_reducible exact Keeps.refl _ _ | with_reducible apply State.openUpTo_keeps | with_reducible apply State.setPair_keeps | with_reducible apply State.serveLists_keeps | with_reducible apply keepsParts_intro | with_reducible exact Or.inl (by with_reducible assumption) | with_reducible exact Or.inr rfl | simp only [keeps_mk] | with_reducible refine keepsMk_of ?_ ⟨rfl, rfl⟩ (fun h_ => by first | exact h_ | simpa only [updAt_length] using h_ | with_unfolding_all rfl) ?_ ?_ | with_reducible apply keeps_ite | split | dsimp only | intro _ _ | intro _)

theorem State.takeRecords_keeps {p_ : Allow} {z : State} {s : State} (recs : List Rec)  (hevents_ : p_.may .events = true) (haln_ : p_.may .aln = true) (hisl_ : p_.may .isl = true) (hbatches_ : p_.may .batches = true) (h_ : Keeps p_ z s) : Keeps p_ z (State.takeRecords s recs) := by
  unfold State.takeRecords
  repeat' (first | with_reducible assumption | with_reducible exact Keeps.refl _ _ | with_reducible apply State.setPair_keeps | with_reducible apply State.updAsm_keeps | with_reducible apply State.serveLists_keeps | with_reducible apply State.tryList_keeps | with_reducible apply keeps_foldl | with_reducible apply keeps_foldl_fst | with_reducible apply keeps_foldl_snd | intro _ _ _ | with_reducible apply keepsParts_intro | with_reducible exact Or.inl (by with_reducible assumption) | with_reducible exact Or.inr rfl | simp only [keeps_mk] | with_reducible refine keepsMk_of ?_ ⟨rfl, rfl⟩ (fun h_ => by first | exact h_ | simpa only [updAt_length] using h_ | with_unfolding_all rfl) ?_ ?_ | with_reducible apply keeps_ite | split | intro _ _ | dsimp only | intro _ _ | intro _)

theorem State.takeAck_keeps {p_ : Allow} {z : State} {s : State} (g : Nat) (t : Instant)  (hevents_ : p_.may .events = true) (haln_ : p_.may .aln = true) (hisl_ : p_.may .isl = true) (hbatches_ : p_.may .batches = true) (h_ : Keeps p_ z s) : Keeps p_ z (State.takeAck s g t) := by
  unfold State.takeAck
  repeat' (first | with_reducible assumption | with_reducible exact Keeps.refl _ _ | with_reducible apply State.updAsm_keeps | with_reducible apply State.setAln_keeps | with_reducible apply State.commitHead_keeps | with_reducible apply State.noteLive_keeps | with_reducible apply keepsParts_intro | with_reducible exact Or.inl (by with_reducible assumption) | with_reducible exact Or.inr rfl | simp only [keeps_mk] | with_reducible refine keepsMk_of ?_ ⟨rfl, rfl⟩ (fun h_ => by first | exact h_ | simpa only [updAt_length] using h_ | with_unfolding_all rfl) ?_ ?_ | split | intro _ _ | dsimp only | intro _ _ | intro _)

theorem State.startClaim_keeps {p_ : Allow} {z : State} {s : State}  (h_ : Keeps p_ z s) : Keeps p_ z (State.startClaim s) := by
  unfold State.startClaim
  repeat' (first | with_reducible assumption | with_reducible exact Keeps.refl _ _ | with_reducible apply State.setPair_keeps | with_reducible apply keepsParts_intro | with_reducible exact Or.inl (by with_reducible assumption) | with_reducible exact Or.inr rfl | simp only [keeps_mk] | with_reducible refine keepsMk_of ?_ ⟨rfl, rfl⟩ (fun h_ => by first | exact h_ | simpa only [updAt_length] using h_ | with_unfolding_all rfl) ?_ ?_ | dsimp only | intro _ _ | intro _)

theorem State.releaseIlk_keeps {p_ : Allow} {z : State} {s : State}  (hports_ : p_.may .ports = true) (h_ : Keeps p_ z s) : Keeps p_ z (State.releaseIlk s) := by
  unfold State.releaseIlk
  repeat' (first | with_reducible assumption | with_reducible exact Keeps.refl _ _ | with_reducible apply State.setPair_keeps | with_reducible apply State.cutPorts_keeps | with_reducible apply keepsParts_intro | with_reducible exact Or.inl (by with_reducible assumption) | with_reducible exact Or.inr rfl | simp only [keeps_mk] | with_reducible refine keepsMk_of ?_ ⟨rfl, rfl⟩ (fun h_ => by first | exact h_ | simpa only [updAt_length] using h_ | with_unfolding_all rfl) ?_ ?_ | dsimp only | intro _ _ | intro _)

theorem State.loseInterlock_keeps {p_ : Allow} {z : State} {s : State} (inj : Bool)  (hevents_ : p_.may .events = true) (hports_ : p_.may .ports = true) (haln_ : p_.may .aln = true) (h_ : Keeps p_ z s) : Keeps p_ z (State.loseInterlock s inj) := by
  unfold State.loseInterlock
  repeat' (first | with_reducible assumption | with_reducible exact Keeps.refl _ _ | with_reducible apply State.releaseIlk_keeps | with_reducible apply State.failCopy_keeps | with_reducible apply State.endCommand_keeps | with_reducible apply State.setPair_keeps | with_reducible apply keepsParts_intro | with_reducible exact Or.inl (by with_reducible assumption) | with_reducible exact Or.inr rfl | simp only [keeps_mk] | with_reducible refine keepsMk_of ?_ ⟨rfl, rfl⟩ (fun h_ => by first | exact h_ | simpa only [updAt_length] using h_ | with_unfolding_all rfl) ?_ ?_ | with_reducible apply keeps_ite | split | dsimp only | intro _ _ | intro _)

theorem State.sendPrepared_keeps {p_ : Allow} {z : State} {s : State}  (hfree_ : p_.may .free = true) (hports_ : p_.may .ports = true) (hpub_ : p_.may .pub = true) (hkey_ : p_.may .key = true) (h_ : Keeps p_ z s) : Keeps p_ z (State.sendPrepared s) := by
  unfold State.sendPrepared
  repeat' (first | with_reducible assumption | with_reducible exact Keeps.refl _ _ | with_reducible apply State.tagWith_keeps | with_reducible apply State.pubCount_keeps | with_reducible apply State.sendDatagram_keeps | with_reducible apply State.setPub_keeps | with_reducible refine State.tagWith_keeps_of (by with_reducible assumption) ?_ ?_ ?_ | with_reducible apply keeps_foldl | with_reducible apply keeps_foldl_fst | with_reducible apply keeps_foldl_snd | intro _ _ _ | with_reducible apply keepsParts_intro | with_reducible exact Or.inl (by with_reducible assumption) | with_reducible exact Or.inr rfl | simp only [keeps_mk] | with_reducible refine keepsMk_of ?_ ⟨rfl, rfl⟩ (fun h_ => by first | exact h_ | simpa only [updAt_length] using h_ | with_unfolding_all rfl) ?_ ?_ | with_reducible apply keeps_ite | split | intro _ _ | dsimp only | intro _ _ | intro _)

theorem State.resumeBlock_keeps {p_ : Allow} {z : State} {s : State} (k : Nat)  (hfree_ : p_.may .free = true) (hports_ : p_.may .ports = true) (hpub_ : p_.may .pub = true) (hkey_ : p_.may .key = true) (h_ : Keeps p_ z s) : Keeps p_ z (State.resumeBlock s k) := by
  unfold State.resumeBlock
  repeat' (first | with_reducible assumption | with_reducible exact Keeps.refl _ _ | with_reducible apply State.sendBlock_keeps | with_reducible apply State.setReg_keeps | with_reducible apply State.publishBlock_keeps | with_reducible apply keepsParts_intro | with_reducible exact Or.inl (by with_reducible assumption) | with_reducible exact Or.inr rfl | simp only [keeps_mk] | with_reducible refine keepsMk_of ?_ ⟨rfl, rfl⟩ (fun h_ => by first | exact h_ | simpa only [updAt_length] using h_ | with_unfolding_all rfl) ?_ ?_ | with_reducible apply keeps_ite | split | intro _ _ | dsimp only | intro _ _ | intro _)

theorem State.adoptAlarms_keeps {p_ : Allow} {z : State} {s : State}  (hevents_ : p_.may .events = true) (hbatches_ : p_.may .batches = true) (hpub_ : p_.may .pub = true) (h_ : Keeps p_ z s) : Keeps p_ z (State.adoptAlarms s) := by
  unfold State.adoptAlarms
  repeat' (first | with_reducible assumption | with_reducible exact Keeps.refl _ _ | with_reducible apply State.setAlarm_keeps | with_reducible apply State.setPair_keeps | with_reducible apply State.resolveAlarms_keeps | with_reducible apply keeps_foldl | with_reducible apply keeps_foldl_fst | with_reducible apply keeps_foldl_snd | intro _ _ _ | with_reducible apply keepsParts_intro | with_reducible exact Or.inl (by with_reducible assumption) | with_reducible exact Or.inr rfl | simp only [keeps_mk] | with_reducible refine keepsMk_of ?_ ⟨rfl, rfl⟩ (fun h_ => by first | exact h_ | simpa only [updAt_length] using h_ | with_unfolding_all rfl) ?_ ?_ | with_reducible apply keeps_ite | split | intro _ _ | dsimp only | intro _ _ | intro _)

theorem State.resumeOutputs_keeps {p_ : Allow} {z : State} {s0 : State} (cause : Nat)  (hfree_ : p_.may .free = true) (hevents_ : p_.may .events = true) (hports_ : p_.may .ports = true) (haln_ : p_.may .aln = true) (hbatches_ : p_.may .batches = true) (hpub_ : p_.may .pub = true) (hkey_ : p_.may .key = true) (h_ : Keeps p_ z s0) : Keeps p_ z (State.resumeOutputs s0 cause) := by
  unfold State.resumeOutputs
  repeat' (first | with_reducible assumption | with_reducible exact Keeps.refl _ _ | with_reducible apply State.setPair_keeps | with_reducible apply State.adoptAlarms_keeps | with_reducible apply State.resumeBlock_keeps | with_reducible apply State.triggerDue_keeps | with_reducible apply State.sendPrepared_keeps | with_reducible apply State.driveLand_keeps | with_reducible apply keeps_foldl | with_reducible apply keeps_foldl_fst | with_reducible apply keeps_foldl_snd | intro _ _ _ | with_reducible apply keepsParts_intro | with_reducible exact Or.inl (by with_reducible assumption) | with_reducible exact Or.inr rfl | simp only [keeps_mk] | with_reducible refine keepsMk_of ?_ ⟨rfl, rfl⟩ (fun h_ => by first | exact h_ | simpa only [updAt_length] using h_ | with_unfolding_all rfl) ?_ ?_ | dsimp only | intro _ _ | intro _)

theorem State.noteSwapFail_keeps {p_ : Allow} {z : State} {s : State}  (h_ : Keeps p_ z s) : Keeps p_ z (State.noteSwapFail s) := by
  unfold State.noteSwapFail
  repeat' (first | with_reducible assumption | with_reducible exact Keeps.refl _ _ | with_reducible apply State.pairCount_keeps | with_reducible apply State.status_keeps | dsimp only | intro _ _ | intro _)

theorem State.takeOver_keeps {p_ : Allow} {z : State} {s0 : State}  (hfree_ : p_.may .free = true) (hevents_ : p_.may .events = true) (hports_ : p_.may .ports = true) (haln_ : p_.may .aln = true) (hbatches_ : p_.may .batches = true) (hpub_ : p_.may .pub = true) (hkey_ : p_.may .key = true) (h_ : Keeps p_ z s0) : Keeps p_ z (State.takeOver s0) := by
  unfold State.takeOver
  repeat' (first | with_reducible assumption | with_reducible exact Keeps.refl _ _ | with_reducible apply State.setPair_keeps | with_reducible apply State.enterPair_keeps | with_reducible apply State.endCommand_keeps | with_reducible apply State.sendBlock_keeps | with_reducible apply State.noteSwapFail_keeps | with_reducible apply State.pairCount_keeps | with_reducible apply State.status_keeps | with_reducible apply State.resumeOutputs_keeps | with_reducible apply keeps_foldl | with_reducible apply keeps_foldl_fst | with_reducible apply keeps_foldl_snd | intro _ _ _ | with_reducible apply keepsParts_intro | with_reducible exact Or.inl (by with_reducible assumption) | with_reducible exact Or.inr rfl | simp only [keeps_mk] | with_reducible refine keepsMk_of ?_ ⟨rfl, rfl⟩ (fun h_ => by first | exact h_ | simpa only [updAt_length] using h_ | with_unfolding_all rfl) ?_ ?_ | with_reducible apply keeps_ite | split | intro _ _ | dsimp only | intro _ _ | intro _)

theorem State.startSwap_keeps {p_ : Allow} {z : State} {s : State} (c : Option (Fin 4 × Word))  (h_ : Keeps p_ z s) : Keeps p_ z (State.startSwap s c) := by
  unfold State.startSwap
  repeat' (first | with_reducible assumption | with_reducible exact Keeps.refl _ _ | with_reducible apply State.setPair_keeps | with_reducible apply keepsParts_intro | with_reducible exact Or.inl (by with_reducible assumption) | with_reducible exact Or.inr rfl | simp only [keeps_mk] | with_reducible refine keepsMk_of ?_ ⟨rfl, rfl⟩ (fun h_ => by first | exact h_ | simpa only [updAt_length] using h_ | with_unfolding_all rfl) ?_ ?_ | dsimp only | intro _ _ | intro _)

theorem State.followPeer_keeps {p_ : Allow} {z : State} {s : State} (was : Option PairState) (h : Heartbeat)  (hfree_ : p_.may .free = true) (hevents_ : p_.may .events = true) (hports_ : p_.may .ports = true) (hpec_ : p_.may .pec = true) (haln_ : p_.may .aln = true) (hpub_ : p_.may .pub = true) (hosc_ : p_.may .osc = true) (hcap_ : p_.may .cap = true) (hflt_ : p_.may .flt = true) (hkey_ : p_.may .key = true) (hevr_ : p_.may .evr = true) (h_ : Keeps p_ z s) : Keeps p_ z (State.followPeer s was h) := by
  unfold State.followPeer
  repeat' (first | with_reducible assumption | with_reducible exact Keeps.refl _ _ | with_reducible apply State.enterPair_keeps | with_reducible apply State.setPair_keeps | with_reducible apply State.vector_keeps | with_reducible apply State.released_keeps | with_reducible apply State.status_keeps | with_reducible apply State.unverify_keeps | with_reducible apply State.failCopy_keeps | with_reducible apply keepsParts_intro | with_reducible exact Or.inl (by with_reducible assumption) | with_reducible exact Or.inr rfl | simp only [keeps_mk] | with_reducible refine keepsMk_of ?_ ⟨rfl, rfl⟩ (fun h_ => by first | exact h_ | simpa only [updAt_length] using h_ | with_unfolding_all rfl) ?_ ?_ | with_reducible apply keeps_ite | split | intro _ _ | dsimp only | intro _ _ | intro _)

theorem State.takeHeartbeat_keeps {p_ : Allow} {z : State} {s : State} (h : Heartbeat)  (hfree_ : p_.may .free = true) (hevents_ : p_.may .events = true) (hports_ : p_.may .ports = true) (hpec_ : p_.may .pec = true) (haln_ : p_.may .aln = true) (hpub_ : p_.may .pub = true) (hosc_ : p_.may .osc = true) (hcap_ : p_.may .cap = true) (hflt_ : p_.may .flt = true) (hkey_ : p_.may .key = true) (hevr_ : p_.may .evr = true) (h_ : Keeps p_ z s) : Keeps p_ z (State.takeHeartbeat s h) := by
  unfold State.takeHeartbeat
  repeat' (first | with_reducible assumption | with_reducible exact Keeps.refl _ _ | with_reducible apply State.setPair_keeps | with_reducible apply State.adopt_keeps | with_reducible apply State.followPeer_keeps | with_reducible apply keepsParts_intro | with_reducible exact Or.inl (by with_reducible assumption) | with_reducible exact Or.inr rfl | simp only [keeps_mk] | with_reducible refine keepsMk_of ?_ ⟨rfl, rfl⟩ (fun h_ => by first | exact h_ | simpa only [updAt_length] using h_ | with_unfolding_all rfl) ?_ ?_ | with_reducible apply keeps_ite | split | dsimp only | intro _ _ | intro _)

theorem State.loseLane_keeps {p_ : Allow} {z : State} {s0 : State}  (hevents_ : p_.may .events = true) (haln_ : p_.may .aln = true) (h_ : Keeps p_ z s0) : Keeps p_ z (State.loseLane s0) := by
  unfold State.loseLane
  repeat' (first | with_reducible assumption | with_reducible exact Keeps.refl _ _ | with_reducible apply State.setPair_keeps | with_reducible apply State.noteSwapFail_keeps | with_reducible apply State.endCommand_keeps | with_reducible apply State.unverify_keeps | with_reducible apply State.enterPair_keeps | with_reducible apply State.failCopy_keeps | with_reducible apply keepsParts_intro | with_reducible exact Or.inl (by with_reducible assumption) | with_reducible exact Or.inr rfl | simp only [keeps_mk] | with_reducible refine keepsMk_of ?_ ⟨rfl, rfl⟩ (fun h_ => by first | exact h_ | simpa only [updAt_length] using h_ | with_unfolding_all rfl) ?_ ?_ | split | intro _ _ | dsimp only | intro _ _ | intro _)

theorem State.restartAllOf_keeps {p_ : Allow} {z : State} {s : State}  (hfree_ : p_.may .free = true) (hports_ : p_.may .ports = true) (hpec_ : p_.may .pec = true) (haln_ : p_.may .aln = true) (hlim_ : p_.may .lim = true) (hisl_ : p_.may .isl = true) (hpub_ : p_.may .pub = true) (hosc_ : p_.may .osc = true) (hkey_ : p_.may .key = true) (h_ : Keeps p_ z s) : Keeps p_ z (State.restartAllOf s) := by
  unfold State.restartAllOf
  repeat' (first | with_reducible assumption | with_reducible exact Keeps.refl _ _ | with_reducible apply State.updGroup_keeps | with_reducible apply State.restartSet_keeps | with_reducible apply State.restartAll_keeps | with_reducible apply State.resetIslands_keeps | with_reducible apply State.setIsl_keeps | with_reducible apply State.setLim_keeps | with_reducible apply State.setOsc_keeps | with_reducible apply State.setPub_keeps | with_reducible apply State.publishBlock_keeps | with_reducible apply State.driveLand_keeps | with_reducible apply keeps_foldl | with_reducible apply keeps_foldl_fst | with_reducible apply keeps_foldl_snd | intro _ _ _ | with_reducible apply keepsParts_intro | with_reducible exact Or.inl (by with_reducible assumption) | with_reducible exact Or.inr rfl | simp only [keeps_mk] | with_reducible refine keepsMk_of ?_ ⟨rfl, rfl⟩ (fun h_ => by first | exact h_ | simpa only [updAt_length] using h_ | with_unfolding_all rfl) ?_ ?_ | with_reducible apply keeps_ite | split | dsimp only | intro _ _ | intro _)

theorem State.dropCommands_keeps {p_ : Allow} {z : State} {s : State}  (h_ : Keeps p_ z s) : Keeps p_ z (State.dropCommands s) := by
  unfold State.dropCommands
  repeat' (first | with_reducible assumption | with_reducible exact Keeps.refl _ _ | with_reducible apply State.endCommand_keeps | with_reducible apply State.setPair_keeps | with_reducible apply keepsParts_intro | with_reducible exact Or.inl (by with_reducible assumption) | with_reducible exact Or.inr rfl | simp only [keeps_mk] | with_reducible refine keepsMk_of ?_ ⟨rfl, rfl⟩ (fun h_ => by first | exact h_ | simpa only [updAt_length] using h_ | with_unfolding_all rfl) ?_ ?_ | dsimp only | intro _ _ | intro _)

theorem State.unpair_keeps {p_ : Allow} {z : State} {s : State}  (hevents_ : p_.may .events = true) (hports_ : p_.may .ports = true) (haln_ : p_.may .aln = true) (h_ : Keeps p_ z s) : Keeps p_ z (State.unpair s) := by
  unfold State.unpair
  repeat' (first | with_reducible assumption | with_reducible exact Keeps.refl _ _ | with_reducible apply State.dropCommands_keeps | with_reducible apply State.releaseIlk_keeps | with_reducible apply State.enterPair_keeps | with_reducible apply State.setPair_keeps | with_reducible apply keepsParts_intro | with_reducible exact Or.inl (by with_reducible assumption) | with_reducible exact Or.inr rfl | simp only [keeps_mk] | with_reducible refine keepsMk_of ?_ ⟨rfl, rfl⟩ (fun h_ => by first | exact h_ | simpa only [updAt_length] using h_ | with_unfolding_all rfl) ?_ ?_ | split | intro _ _ | dsimp only | intro _ _ | intro _)

theorem State.formPair_keeps {p_ : Allow} {z : State} {s : State} (prefer : Bool)  (hevents_ : p_.may .events = true) (hports_ : p_.may .ports = true) (haln_ : p_.may .aln = true) (h_ : Keeps p_ z s) : Keeps p_ z (State.formPair s prefer) := by
  unfold State.formPair
  repeat' (first | with_reducible assumption | with_reducible exact Keeps.refl _ _ | with_reducible apply State.setPair_keeps | with_reducible apply State.enterPair_keeps | with_reducible apply State.cutPorts_keeps | with_reducible apply keepsParts_intro | with_reducible exact Or.inl (by with_reducible assumption) | with_reducible exact Or.inr rfl | simp only [keeps_mk] | with_reducible refine keepsMk_of ?_ ⟨rfl, rfl⟩ (fun h_ => by first | exact h_ | simpa only [updAt_length] using h_ | with_unfolding_all rfl) ?_ ?_ | with_reducible apply keeps_ite | split | dsimp only | intro _ _ | intro _)

theorem State.resetPair_keeps {p_ : Allow} {z : State} {s : State}  (hevents_ : p_.may .events = true) (hports_ : p_.may .ports = true) (haln_ : p_.may .aln = true) (h_ : Keeps p_ z s) : Keeps p_ z (State.resetPair s) := by
  unfold State.resetPair
  repeat' (first | with_reducible assumption | with_reducible exact Keeps.refl _ _ | with_reducible apply State.dropCommands_keeps | with_reducible apply State.releaseIlk_keeps | with_reducible apply State.enterPair_keeps | with_reducible apply State.resetRegs_keeps | with_reducible apply State.setPair_keeps | with_reducible apply keepsParts_intro | with_reducible exact Or.inl (by with_reducible assumption) | with_reducible exact Or.inr rfl | simp only [keeps_mk] | with_reducible refine keepsMk_of ?_ ⟨rfl, rfl⟩ (fun h_ => by first | exact h_ | simpa only [updAt_length] using h_ | with_unfolding_all rfl) ?_ ?_ | dsimp only | intro _ _ | intro _)

/-! ### Machine/Pair.lean -/

theorem execInterlockWatchdogFeed_keeps {p_ : Allow} {z : State} (at_ : Instant) {s0 : State}  (htime_ : p_.clock = true) (h_ : Keeps p_ z s0) : KeepsOut p_ z (execInterlockWatchdogFeed at_ s0) := by
  unfold execInterlockWatchdogFeed
  repeat' (first | with_reducible assumption | with_reducible exact Keeps.refl _ _ | with_reducible apply State.advance_keeps | with_reducible apply State.setPair_keeps | with_reducible apply KeepsRes.done | with_reducible apply KeepsRes.accepted | with_reducible apply KeepsRes.waiting | with_reducible apply KeepsOut.next | with_reducible apply keepsParts_intro | with_reducible exact Or.inl (by with_reducible assumption) | with_reducible exact Or.inr rfl | simp only [keeps_mk] | with_reducible refine keepsMk_of ?_ ⟨rfl, rfl⟩ (fun h_ => by first | exact h_ | simpa only [updAt_length] using h_ | with_unfolding_all rfl) ?_ ?_ | with_reducible apply keeps_ite | with_reducible apply keepsOut_ite | split | dsimp only | intro _ _ | intro _)

theorem execInterlockWatchdogExpiry_keeps {p_ : Allow} {z : State} {s : State}  (hevents_ : p_.may .events = true) (hports_ : p_.may .ports = true) (haln_ : p_.may .aln = true) (htime_ : p_.clock = true) (h_ : Keeps p_ z s) : KeepsOut p_ z (execInterlockWatchdogExpiry s) := by
  unfold execInterlockWatchdogExpiry
  repeat' (first | with_reducible assumption | with_reducible exact Keeps.refl _ _ | with_reducible apply State.advanceUp_keeps | with_reducible apply State.loseInterlock_keeps | with_reducible apply KeepsRes.done | with_reducible apply KeepsRes.accepted | with_reducible apply KeepsRes.waiting | with_reducible apply KeepsOut.next | with_reducible apply keeps_ite | with_reducible apply keepsOut_ite | split | dsimp only | intro _ _ | intro _)

theorem execOwnWaveLost_keeps {p_ : Allow} {z : State} (at_ : Instant) (real : Bool) {s0 : State}  (hevents_ : p_.may .events = true) (hports_ : p_.may .ports = true) (haln_ : p_.may .aln = true) (hflt_ : p_.may .flt = true) (htime_ : p_.clock = true) (h_ : Keeps p_ z s0) : KeepsOut p_ z (execOwnWaveLost at_ real s0) := by
  unfold execOwnWaveLost
  repeat' (first | with_reducible assumption | with_reducible exact Keeps.refl _ _ | with_reducible apply State.advance_keeps | with_reducible apply State.occasion_keeps | with_reducible apply State.detect_keeps | with_reducible apply State.loseInterlock_keeps | with_reducible refine State.occasion_keeps_of (by with_reducible assumption) ?_ ?_ | with_reducible apply KeepsRes.done | with_reducible apply KeepsRes.accepted | with_reducible apply KeepsRes.waiting | with_reducible apply KeepsOut.next | with_reducible apply keepsParts_intro | with_reducible exact Or.inl (by with_reducible assumption) | with_reducible exact Or.inr rfl | simp only [keeps_mk] | with_reducible refine keepsMk_of ?_ ⟨rfl, rfl⟩ (fun h_ => by first | exact h_ | simpa only [updAt_length] using h_ | with_unfolding_all rfl) ?_ ?_ | with_reducible apply keeps_ite | with_reducible apply keepsOut_ite | split | intro _ _ | dsimp only | intro _ _ | intro _)

theorem execInterlockQuiet_keeps {p_ : Allow} {z : State} (at_ : Instant) {s0 : State}  (hfree_ : p_.may .free = true) (hevents_ : p_.may .events = true) (hports_ : p_.may .ports = true) (hpec_ : p_.may .pec = true) (haln_ : p_.may .aln = true) (hpub_ : p_.may .pub = true) (hosc_ : p_.may .osc = true) (hcap_ : p_.may .cap = true) (hflt_ : p_.may .flt = true) (hkey_ : p_.may .key = true) (hevr_ : p_.may .evr = true) (htime_ : p_.clock = true) (h_ : Keeps p_ z s0) : KeepsOut p_ z (execInterlockQuiet at_ s0) := by
  unfold execInterlockQuiet
  repeat' (first | with_reducible assumption | with_reducible exact Keeps.refl _ _ | with_reducible apply State.advance_keeps | with_reducible apply State.setPair_keeps | with_reducible apply State.enterPair_keeps | with_reducible apply State.released_keeps | with_reducible apply State.startClaim_keeps | with_reducible apply KeepsRes.done | with_reducible apply KeepsRes.accepted | with_reducible apply KeepsRes.waiting | with_reducible apply KeepsOut.next | with_reducible apply keepsParts_intro | with_reducible exact Or.inl (by with_reducible assumption) | with_reducible exact Or.inr rfl | simp only [keeps_mk] | with_reducible refine keepsMk_of ?_ ⟨rfl, rfl⟩ (fun h_ => by first | exact h_ | simpa only [updAt_length] using h_ | with_unfolding_all rfl) ?_ ?_ | with_reducible apply keeps_ite | with_reducible apply keepsOut_ite | split | intro _ _ | dsimp only | intro _ _ | intro _)

theorem execClaimConfirm_keeps {p_ : Allow} {z : State} (at_ : Instant) (seen : Bool) {s0 : State}  (hfree_ : p_.may .free = true) (hevents_ : p_.may .events = true) (hports_ : p_.may .ports = true) (haln_ : p_.may .aln = true) (hbatches_ : p_.may .batches = true) (hpub_ : p_.may .pub = true) (hkey_ : p_.may .key = true) (htime_ : p_.clock = true) (h_ : Keeps p_ z s0) : KeepsOut p_ z (execClaimConfirm at_ seen s0) := by
  unfold execClaimConfirm
  repeat' (first | with_reducible assumption | with_reducible exact Keeps.refl _ _ | with_reducible apply State.advance_keeps | with_reducible apply State.takeOver_keeps | with_reducible apply State.pairCount_keeps | with_reducible apply State.setPair_keeps | with_reducible apply State.loseInterlock_keeps | with_reducible apply KeepsRes.done | with_reducible apply KeepsRes.accepted | with_reducible apply KeepsRes.waiting | with_reducible apply KeepsOut.next | with_reducible apply keepsParts_intro | with_reducible exact Or.inl (by with_reducible assumption) | with_reducible exact Or.inr rfl | simp only [keeps_mk] | with_reducible refine keepsMk_of ?_ ⟨rfl, rfl⟩ (fun h_ => by first | exact h_ | simpa only [updAt_length] using h_ | with_unfolding_all rfl) ?_ ?_ | with_reducible apply keeps_ite | with_reducible apply keepsOut_ite | split | dsimp only | intro _ _ | intro _)

theorem execClaimBackoffEnd_keeps {p_ : Allow} {z : State} {s : State}  (htime_ : p_.clock = true) (h_ : Keeps p_ z s) : KeepsOut p_ z (execClaimBackoffEnd s) := by
  unfold execClaimBackoffEnd
  repeat' (first | with_reducible assumption | with_reducible exact Keeps.refl _ _ | with_reducible apply State.advanceUp_keeps | with_reducible apply State.setPair_keeps | with_reducible apply KeepsRes.done | with_reducible apply KeepsRes.accepted | with_reducible apply KeepsRes.waiting | with_reducible apply KeepsOut.next | with_reducible apply keepsParts_intro | with_reducible exact Or.inl (by with_reducible assumption) | with_reducible exact Or.inr rfl | simp only [keeps_mk] | with_reducible refine keepsMk_of ?_ ⟨rfl, rfl⟩ (fun h_ => by first | exact h_ | simpa only [updAt_length] using h_ | with_unfolding_all rfl) ?_ ?_ | split | intro _ _ | dsimp only | intro _ _ | intro _)

theorem execPreferActiveContendTimeout_keeps {p_ : Allow} {z : State} (at_ : Instant) {s0 : State}  (hevents_ : p_.may .events = true) (hports_ : p_.may .ports = true) (haln_ : p_.may .aln = true) (htime_ : p_.clock = true) (h_ : Keeps p_ z s0) : KeepsOut p_ z (execPreferActiveContendTimeout at_ s0) := by
  unfold execPreferActiveContendTimeout
  repeat' (first | with_reducible assumption | with_reducible exact Keeps.refl _ _ | with_reducible apply State.advance_keeps | with_reducible apply State.pairCount_keeps | with_reducible apply State.enterPair_keeps | with_reducible apply State.setPair_keeps | with_reducible apply State.cutPorts_keeps | with_reducible apply KeepsRes.done | with_reducible apply KeepsRes.accepted | with_reducible apply KeepsRes.waiting | with_reducible apply KeepsOut.next | with_reducible apply keepsParts_intro | with_reducible exact Or.inl (by with_reducible assumption) | with_reducible exact Or.inr rfl | simp only [keeps_mk] | with_reducible refine keepsMk_of ?_ ⟨rfl, rfl⟩ (fun h_ => by first | exact h_ | simpa only [updAt_length] using h_ | with_unfolding_all rfl) ?_ ?_ | with_reducible apply keeps_ite | with_reducible apply keepsOut_ite | split | dsimp only | intro _ _ | intro _)

theorem execPairHeartbeatSend_keeps {p_ : Allow} {z : State} (at_ : Instant) {s0 : State}  (htime_ : p_.clock = true) (h_ : Keeps p_ z s0) : KeepsOut p_ z (execPairHeartbeatSend at_ s0) := by
  unfold execPairHeartbeatSend
  repeat' (first | with_reducible assumption | with_reducible exact Keeps.refl _ _ | with_reducible apply State.advance_keeps | with_reducible apply State.sendHeartbeat_keeps | with_reducible apply KeepsRes.done | with_reducible apply KeepsRes.accepted | with_reducible apply KeepsRes.waiting | with_reducible apply KeepsOut.next | with_reducible apply keeps_ite | with_reducible apply keepsOut_ite | split | dsimp only | intro _ _ | intro _)

theorem State.laneFrame_keeps {p_ : Allow} {z : State} {s : State} (crcOk : Bool) (take : State → State) (hk_take : ∀ t, Keeps p_ z t → Keeps p_ z (take t)) (hevents_ : p_.may .events = true) (hflt_ : p_.may .flt = true) (h_ : Keeps p_ z s) : Keeps p_ z (State.laneFrame s crcOk take) := by
  unfold State.laneFrame
  repeat' (first | with_reducible apply hk_take | with_reducible assumption | with_reducible exact Keeps.refl _ _ | with_reducible apply State.occasion_keeps | with_reducible apply State.pairCount_keeps | with_reducible apply State.detect_keeps | with_reducible refine State.occasion_keeps_of (by with_reducible assumption) ?_ ?_ | with_reducible apply keepsParts_intro | with_reducible exact Or.inl (by with_reducible assumption) | with_reducible exact Or.inr rfl | simp only [keeps_mk] | with_reducible refine keepsMk_of ?_ ⟨rfl, rfl⟩ (fun h_ => by first | exact h_ | simpa only [updAt_length] using h_ | with_unfolding_all rfl) ?_ ?_ | with_reducible apply keeps_ite | split | intro _ _ | dsimp only | intro _ _ | intro _)

theorem execPairHeartbeatReceive_keeps {p_ : Allow} {z : State} (at_ : Instant) (h : Heartbeat) {s : State}  (hfree_ : p_.may .free = true) (hevents_ : p_.may .events = true) (hports_ : p_.may .ports = true) (hpec_ : p_.may .pec = true) (haln_ : p_.may .aln = true) (hpub_ : p_.may .pub = true) (hosc_ : p_.may .osc = true) (hcap_ : p_.may .cap = true) (hflt_ : p_.may .flt = true) (hkey_ : p_.may .key = true) (hevr_ : p_.may .evr = true) (htime_ : p_.clock = true) (h_ : Keeps p_ z s) : KeepsOut p_ z (execPairHeartbeatReceive at_ h s) := by
  unfold execPairHeartbeatReceive
  repeat' (first | with_reducible assumption | with_reducible exact Keeps.refl _ _ | with_reducible apply State.advance_keeps | with_reducible apply State.laneFrame_keeps | with_reducible apply State.takeHeartbeat_keeps | with_reducible apply KeepsRes.done | with_reducible apply KeepsRes.accepted | with_reducible apply KeepsRes.waiting | with_reducible apply KeepsOut.next | dsimp only | intro _ _ | intro _)

theorem execPeerLaneLoss_keeps {p_ : Allow} {z : State} (at_ : Instant) {s0 : State}  (hevents_ : p_.may .events = true) (haln_ : p_.may .aln = true) (htime_ : p_.clock = true) (h_ : Keeps p_ z s0) : KeepsOut p_ z (execPeerLaneLoss at_ s0) := by
  unfold execPeerLaneLoss
  repeat' (first | with_reducible assumption | with_reducible exact Keeps.refl _ _ | with_reducible apply State.advance_keeps | with_reducible apply State.pairCount_keeps | with_reducible apply State.loseLane_keeps | with_reducible apply KeepsRes.done | with_reducible apply KeepsRes.accepted | with_reducible apply KeepsRes.waiting | with_reducible apply KeepsOut.next | with_reducible apply keeps_ite | with_reducible apply keepsOut_ite | split | dsimp only | intro _ _ | intro _)

theorem execInclusionListReceive_keeps {p_ : Allow} {z : State} (at_ : Instant) (l : InclusionList) {s : State}  (hevents_ : p_.may .events = true) (haln_ : p_.may .aln = true) (hisl_ : p_.may .isl = true) (hbatches_ : p_.may .batches = true) (hflt_ : p_.may .flt = true) (htime_ : p_.clock = true) (h_ : Keeps p_ z s) : KeepsOut p_ z (execInclusionListReceive at_ l s) := by
  unfold execInclusionListReceive
  repeat' (first | with_reducible assumption | with_reducible exact Keeps.refl _ _ | with_reducible apply State.advance_keeps | with_reducible apply State.laneFrame_keeps | with_reducible apply State.takeList_keeps | with_reducible apply KeepsRes.done | with_reducible apply KeepsRes.accepted | with_reducible apply KeepsRes.waiting | with_reducible apply KeepsOut.next | dsimp only | intro _ _ | intro _)

theorem execPairRecordFetchComplete_keeps {p_ : Allow} {z : State} (at_ : Instant) (recs : List Rec) {s : State}  (hevents_ : p_.may .events = true) (haln_ : p_.may .aln = true) (hisl_ : p_.may .isl = true) (hbatches_ : p_.may .batches = true) (hflt_ : p_.may .flt = true) (htime_ : p_.clock = true) (h_ : Keeps p_ z s) : KeepsOut p_ z (execPairRecordFetchComplete at_ recs s) := by
  unfold execPairRecordFetchComplete
  repeat' (first | with_reducible assumption | with_reducible exact Keeps.refl _ _ | with_reducible apply State.advance_keeps | with_reducible apply State.laneFrame_keeps | with_reducible apply State.takeRecords_keeps | with_reducible apply KeepsRes.done | with_reducible apply KeepsRes.accepted | with_reducible apply KeepsRes.waiting | with_reducible apply KeepsOut.next | dsimp only | intro _ _ | intro _)

theorem execPairAckReceive_keeps {p_ : Allow} {z : State} (at_ : Instant) (g : Fin 32) (t : Instant) {s : State}  (hevents_ : p_.may .events = true) (haln_ : p_.may .aln = true) (hisl_ : p_.may .isl = true) (hbatches_ : p_.may .batches = true) (hflt_ : p_.may .flt = true) (htime_ : p_.clock = true) (h_ : Keeps p_ z s) : KeepsOut p_ z (execPairAckReceive at_ g t s) := by
  unfold execPairAckReceive
  repeat' (first | with_reducible assumption | with_reducible exact Keeps.refl _ _ | with_reducible apply State.advance_keeps | with_reducible apply State.laneFrame_keeps | with_reducible apply State.takeAck_keeps | with_reducible apply KeepsRes.done | with_reducible apply KeepsRes.accepted | with_reducible apply KeepsRes.waiting | with_reducible apply KeepsOut.next | dsimp only | intro _ _ | intro _)

theorem execPairAckTimeout_keeps {p_ : Allow} {z : State} {s : State}  (hevents_ : p_.may .events = true) (haln_ : p_.may .aln = true) (hisl_ : p_.may .isl = true) (hbatches_ : p_.may .batches = true) (htime_ : p_.clock = true) (h_ : Keeps p_ z s) : KeepsOut p_ z (execPairAckTimeout s) := by
  unfold execPairAckTimeout
  repeat' (first | with_reducible assumption | with_reducible exact Keeps.refl _ _ | with_reducible apply State.advanceUp_keeps | with_reducible apply State.pairCount_keeps | with_reducible apply State.setPair_keeps | with_reducible apply State.enterPair_keeps | with_reducible apply State.commitHead_keeps | with_reducible apply KeepsRes.done | with_reducible apply KeepsRes.accepted | with_reducible apply KeepsRes.waiting | with_reducible apply KeepsOut.next | with_reducible apply keepsParts_intro | with_reducible exact Or.inl (by with_reducible assumption) | with_reducible exact Or.inr rfl | simp only [keeps_mk] | with_reducible refine keepsMk_of ?_ ⟨rfl, rfl⟩ (fun h_ => by first | exact h_ | simpa only [updAt_length] using h_ | with_unfolding_all rfl) ?_ ?_ | split | intro _ _ | dsimp only | intro _ _ | intro _)

theorem execResultRecordReceive_keeps {p_ : Allow} {z : State} (at_ : Instant) (r : ResultRecord) {s : State}  (hevents_ : p_.may .events = true) (haln_ : p_.may .aln = true) (hflt_ : p_.may .flt = true) (htime_ : p_.clock = true) (h_ : Keeps p_ z s) : KeepsOut p_ z (execResultRecordReceive at_ r s) := by
  unfold execResultRecordReceive
  repeat' (first | with_reducible assumption | with_reducible exact Keeps.refl _ _ | with_reducible apply State.advance_keeps | with_reducible apply State.laneFrame_keeps | with_reducible apply State.takeResult_keeps | with_reducible apply KeepsRes.done | with_reducible apply KeepsRes.accepted | with_reducible apply KeepsRes.waiting | with_reducible apply KeepsOut.next | dsimp only | intro _ _ | intro _)

theorem State.setCopy_keeps {p_ : Allow} {z : State} {s : State} (f : Copy → Copy)  (h_ : Keeps p_ z s) : Keeps p_ z (State.setCopy s f) := by
  unfold State.setCopy
  repeat' (first | with_reducible assumption | with_reducible exact Keeps.refl _ _ | with_reducible apply State.setPair_keeps | with_reducible apply keepsParts_intro | with_reducible exact Or.inl (by with_reducible assumption) | with_reducible exact Or.inr rfl | simp only [keeps_mk] | with_reducible refine keepsMk_of ?_ ⟨rfl, rfl⟩ (fun h_ => by first | exact h_ | simpa only [updAt_length] using h_ | with_unfolding_all rfl) ?_ ?_ | dsimp only | intro _ _ | intro _)

theorem execCopyPhaseAComplete_keeps {p_ : Allow} {z : State} (at_ : Instant) (x : Option PairImage) {s0 : State}  (hports_ : p_.may .ports = true) (hing_ : p_.may .ing = true) (hpec_ : p_.may .pec = true) (haln_ : p_.may .aln = true) (hlim_ : p_.may .lim = true) (hisl_ : p_.may .isl = true) (hpub_ : p_.may .pub = true) (hosc_ : p_.may .osc = true) (htime_ : p_.clock = true) (h_ : Keeps p_ z s0) : KeepsOut p_ z (execCopyPhaseAComplete at_ x s0) := by
  unfold execCopyPhaseAComplete
  repeat' (first | with_reducible assumption | with_reducible exact Keeps.refl _ _ | with_reducible apply State.advance_keeps | with_reducible apply State.setCopy_keeps | with_reducible apply State.installSettings_keeps | with_reducible apply KeepsRes.done | with_reducible apply KeepsRes.accepted | with_reducible apply KeepsRes.waiting | with_reducible apply KeepsOut.next | with_reducible apply keepsParts_intro | with_reducible exact Or.inl (by with_reducible assumption) | with_reducible exact Or.inr rfl | simp only [keeps_mk] | with_reducible refine keepsMk_of ?_ ⟨rfl, rfl⟩ (fun h_ => by first | exact h_ | simpa only [updAt_length] using h_ | with_unfolding_all rfl) ?_ ?_ | with_reducible apply keeps_ite | with_reducible apply keepsOut_ite | split | intro _ _ | dsimp only | intro _ _ | intro _)

theorem execCopyTCut_keeps {p_ : Allow} {z : State} {s : State}  (htime_ : p_.clock = true) (h_ : Keeps p_ z s) : KeepsOut p_ z (execCopyTCut s) := by
  unfold execCopyTCut
  repeat' (first | with_reducible assumption | with_reducible exact Keeps.refl _ _ | with_reducible apply State.advance_keeps | with_reducible apply State.peerOut_keeps | with_reducible apply KeepsRes.done | with_reducible apply KeepsRes.accepted | with_reducible apply KeepsRes.waiting | with_reducible apply KeepsOut.next | with_reducible apply keepsParts_intro | with_reducible exact Or.inl (by with_reducible assumption) | with_reducible exact Or.inr rfl | simp only [keeps_mk] | with_reducible refine keepsMk_of ?_ ⟨rfl, rfl⟩ (fun h_ => by first | exact h_ | simpa only [updAt_length] using h_ | with_unfolding_all rfl) ?_ ?_ | split | intro _ _ | dsimp only | intro _ _ | intro _)

theorem execCopyImageInstalled_keeps {p_ : Allow} {z : State} (at_ : Instant) (x : Option PairImage) {s0 : State}  (hevents_ : p_.may .events = true) (hpec_ : p_.may .pec = true) (haln_ : p_.may .aln = true) (hlim_ : p_.may .lim = true) (hisl_ : p_.may .isl = true) (hbatches_ : p_.may .batches = true) (hpub_ : p_.may .pub = true) (hosc_ : p_.may .osc = true) (htime_ : p_.clock = true) (h_ : Keeps p_ z s0) : KeepsOut p_ z (execCopyImageInstalled at_ x s0) := by
  unfold execCopyImageInstalled
  repeat' (first | with_reducible assumption | with_reducible exact Keeps.refl _ _ | with_reducible apply State.advance_keeps | with_reducible apply State.setCopy_keeps | with_reducible apply State.installImage_keeps | with_reducible apply State.replayRaw_keeps | with_reducible apply State.serveLists_keeps | with_reducible apply KeepsRes.done | with_reducible apply KeepsRes.accepted | with_reducible apply KeepsRes.waiting | with_reducible apply KeepsOut.next | with_reducible apply keepsParts_intro | with_reducible exact Or.inl (by with_reducible assumption) | with_reducible exact Or.inr rfl | simp only [keeps_mk] | with_reducible refine keepsMk_of ?_ ⟨rfl, rfl⟩ (fun h_ => by first | exact h_ | simpa only [updAt_length] using h_ | with_unfolding_all rfl) ?_ ?_ | with_reducible apply keeps_ite | with_reducible apply keepsOut_ite | split | intro _ _ | dsimp only | intro _ _ | intro _)

theorem execCopyComplete_keeps {p_ : Allow} {z : State} (at_ : Instant) {s0 : State}  (hevents_ : p_.may .events = true) (haln_ : p_.may .aln = true) (htime_ : p_.clock = true) (h_ : Keeps p_ z s0) : KeepsOut p_ z (execCopyComplete at_ s0) := by
  unfold execCopyComplete
  repeat' (first | with_reducible assumption | with_reducible exact Keeps.refl _ _ | with_reducible apply State.advance_keeps | with_reducible apply State.enterPair_keeps | with_reducible apply State.setPair_keeps | with_reducible apply State.endCommand_keeps | with_reducible apply KeepsRes.done | with_reducible apply KeepsRes.accepted | with_reducible apply KeepsRes.waiting | with_reducible apply KeepsOut.next | with_reducible apply keepsParts_intro | with_reducible exact Or.inl (by with_reducible assumption) | with_reducible exact Or.inr rfl | simp only [keeps_mk] | with_reducible refine keepsMk_of ?_ ⟨rfl, rfl⟩ (fun h_ => by first | exact h_ | simpa only [updAt_length] using h_ | with_unfolding_all rfl) ?_ ?_ | with_reducible apply keeps_ite | with_reducible apply keepsOut_ite | split | intro _ _ | dsimp only | intro _ _ | intro _)

theorem execCopyTimeout_keeps {p_ : Allow} {z : State} {s : State}  (hevents_ : p_.may .events = true) (haln_ : p_.may .aln = true) (htime_ : p_.clock = true) (h_ : Keeps p_ z s) : KeepsOut p_ z (execCopyTimeout s) := by
  unfold execCopyTimeout
  repeat' (first | with_reducible assumption | with_reducible exact Keeps.refl _ _ | with_reducible apply State.advanceUp_keeps | with_reducible apply State.failCopy_keeps | with_reducible apply KeepsRes.done | with_reducible apply KeepsRes.accepted | with_reducible apply KeepsRes.waiting | with_reducible apply KeepsOut.next | with_reducible apply keepsParts_intro | with_reducible exact Or.inl (by with_reducible assumption) | with_reducible exact Or.inr rfl | simp only [keeps_mk] | with_reducible refine keepsMk_of ?_ ⟨rfl, rfl⟩ (fun h_ => by first | exact h_ | simpa only [updAt_length] using h_ | with_unfolding_all rfl) ?_ ?_ | split | intro _ _ | dsimp only | intro _ _ | intro _)

theorem State.passSwap_keeps {p_ : Allow} {z : State} {s : State}  (hfree_ : p_.may .free = true) (hevents_ : p_.may .events = true) (hports_ : p_.may .ports = true) (hpec_ : p_.may .pec = true) (haln_ : p_.may .aln = true) (hpub_ : p_.may .pub = true) (hosc_ : p_.may .osc = true) (hcap_ : p_.may .cap = true) (hflt_ : p_.may .flt = true) (hkey_ : p_.may .key = true) (hevr_ : p_.may .evr = true) (h_ : Keeps p_ z s) : Keeps p_ z (State.passSwap s) := by
  unfold State.passSwap
  repeat' (first | with_reducible assumption | with_reducible exact Keeps.refl _ _ | with_reducible apply State.releaseIlk_keeps | with_reducible apply State.enterPair_keeps | with_reducible apply State.setPair_keeps | with_reducible apply State.released_keeps | with_reducible apply State.peerOut_keeps | with_reducible apply keepsParts_intro | with_reducible exact Or.inl (by with_reducible assumption) | with_reducible exact Or.inr rfl | simp only [keeps_mk] | with_reducible refine keepsMk_of ?_ ⟨rfl, rfl⟩ (fun h_ => by first | exact h_ | simpa only [updAt_length] using h_ | with_unfolding_all rfl) ?_ ?_ | dsimp only | intro _ _ | intro _)

theorem execSwapFramesDrained_keeps {p_ : Allow} {z : State} (at_ : Instant) {s0 : State}  (hfree_ : p_.may .free = true) (hevents_ : p_.may .events = true) (hports_ : p_.may .ports = true) (hpec_ : p_.may .pec = true) (haln_ : p_.may .aln = true) (hpub_ : p_.may .pub = true) (hosc_ : p_.may .osc = true) (hcap_ : p_.may .cap = true) (hflt_ : p_.may .flt = true) (hkey_ : p_.may .key = true) (hevr_ : p_.may .evr = true) (htime_ : p_.clock = true) (h_ : Keeps p_ z s0) : KeepsOut p_ z (execSwapFramesDrained at_ s0) := by
  unfold execSwapFramesDrained
  repeat' (first | with_reducible assumption | with_reducible exact Keeps.refl _ _ | with_reducible apply State.advance_keeps | with_reducible apply State.passSwap_keeps | with_reducible apply KeepsRes.done | with_reducible apply KeepsRes.accepted | with_reducible apply KeepsRes.waiting | with_reducible apply KeepsOut.next | with_reducible apply keeps_ite | with_reducible apply keepsOut_ite | split | dsimp only | intro _ _ | intro _)

theorem execSwapCheckExpiry_keeps {p_ : Allow} {z : State} {s : State}  (htime_ : p_.clock = true) (h_ : Keeps p_ z s) : KeepsOut p_ z (execSwapCheckExpiry s) := by
  unfold execSwapCheckExpiry
  repeat' (first | with_reducible assumption | with_reducible exact Keeps.refl _ _ | with_reducible apply State.advanceUp_keeps | with_reducible apply State.setPair_keeps | with_reducible apply State.endCommand_keeps | with_reducible apply KeepsRes.done | with_reducible apply KeepsRes.accepted | with_reducible apply KeepsRes.waiting | with_reducible apply KeepsOut.next | with_reducible apply keepsParts_intro | with_reducible exact Or.inl (by with_reducible assumption) | with_reducible exact Or.inr rfl | simp only [keeps_mk] | with_reducible refine keepsMk_of ?_ ⟨rfl, rfl⟩ (fun h_ => by first | exact h_ | simpa only [updAt_length] using h_ | with_unfolding_all rfl) ?_ ?_ | with_reducible apply keeps_ite | with_reducible apply keepsOut_ite | split | intro _ _ | dsimp only | intro _ _ | intro _)

theorem execSwapCheckFail_keeps {p_ : Allow} {z : State} (at_ : Instant) {s0 : State}  (hevents_ : p_.may .events = true) (hports_ : p_.may .ports = true) (haln_ : p_.may .aln = true) (htime_ : p_.clock = true) (h_ : Keeps p_ z s0) : KeepsOut p_ z (execSwapCheckFail at_ s0) := by
  unfold execSwapCheckFail
  repeat' (first | with_reducible assumption | with_reducible exact Keeps.refl _ _ | with_reducible apply State.advance_keeps | with_reducible apply State.noteSwapFail_keeps | with_reducible apply State.releaseIlk_keeps | with_reducible apply State.setPair_keeps | with_reducible apply State.unverify_keeps | with_reducible apply KeepsRes.done | with_reducible apply KeepsRes.accepted | with_reducible apply KeepsRes.waiting | with_reducible apply KeepsOut.next | with_reducible apply keepsParts_intro | with_reducible exact Or.inl (by with_reducible assumption) | with_reducible exact Or.inr rfl | simp only [keeps_mk] | with_reducible refine keepsMk_of ?_ ⟨rfl, rfl⟩ (fun h_ => by first | exact h_ | simpa only [updAt_length] using h_ | with_unfolding_all rfl) ?_ ?_ | with_reducible apply keeps_ite | with_reducible apply keepsOut_ite | split | intro _ _ | dsimp only | intro _ _ | intro _)

theorem execScheduledSwap_keeps {p_ : Allow} {z : State} {s : State}  (htime_ : p_.clock = true) (h_ : Keeps p_ z s) : KeepsOut p_ z (execScheduledSwap s) := by
  unfold execScheduledSwap
  repeat' (first | with_reducible assumption | with_reducible exact Keeps.refl _ _ | with_reducible apply State.advance_keeps | with_reducible apply State.startSwap_keeps | with_reducible apply KeepsRes.done | with_reducible apply KeepsRes.accepted | with_reducible apply KeepsRes.waiting | with_reducible apply KeepsOut.next | with_reducible apply keepsParts_intro | with_reducible exact Or.inl (by with_reducible assumption) | with_reducible exact Or.inr rfl | simp only [keeps_mk] | with_reducible refine keepsMk_of ?_ ⟨rfl, rfl⟩ (fun h_ => by first | exact h_ | simpa only [updAt_length] using h_ | with_unfolding_all rfl) ?_ ?_ | with_reducible apply keeps_ite | with_reducible apply keepsOut_ite | split | intro _ _ | dsimp only | intro _ _ | intro _)

theorem bodyPairStatus_keeps {p_ : Allow} {z : State} {s : State}  (h_ : Keeps p_ z s) : KeepsRes p_ z (bodyPairStatus s) := by
  unfold bodyPairStatus
  repeat' (first | with_reducible assumption | with_reducible exact Keeps.refl _ _ | with_reducible apply ok_keeps | with_reducible apply KeepsRes.done | with_reducible apply KeepsRes.accepted | with_reducible apply KeepsRes.waiting | with_reducible apply KeepsOut.next | split | dsimp only | intro _ _ | intro _)

theorem execPairStatus_keeps {p_ : Allow} {z : State} (h : Hdr) {s : State}  (htime_ : p_.clock = true) (h_ : Keeps p_ z s) : KeepsOut p_ z (execPairStatus h s) := by
  unfold execPairStatus
  repeat' (first | with_reducible assumption | with_reducible exact Keeps.refl _ _ | with_reducible apply runCmd_keeps | with_reducible apply bodyPairStatus_keeps | with_reducible apply KeepsRes.done | with_reducible apply KeepsRes.accepted | with_reducible apply KeepsRes.waiting | with_reducible apply KeepsOut.next | dsimp only | intro _ _ | intro _)

theorem bodyPairForm_keeps {p_ : Allow} {z : State} (sideB prefer : Bool) {s : State}  (hevents_ : p_.may .events = true) (hports_ : p_.may .ports = true) (haln_ : p_.may .aln = true) (h_ : Keeps p_ z s) : KeepsRes p_ z (bodyPairForm sideB prefer s) := by
  unfold bodyPairForm
  repeat' (first | with_reducible assumption | with_reducible exact Keeps.refl _ _ | with_reducible apply refuse_keeps | with_reducible apply ok_keeps | with_reducible apply State.setRb_keeps | with_reducible apply State.formPair_keeps | with_reducible apply KeepsRes.done | with_reducible apply KeepsRes.accepted | with_reducible apply KeepsRes.waiting | with_reducible apply KeepsOut.next | with_reducible apply keeps_ite | with_reducible apply keepsRes_ite | split | dsimp only | intro _ _ | intro _)

theorem execPairForm_keeps {p_ : Allow} {z : State} (h : Hdr) (sideB prefer : Bool) {s : State}  (hevents_ : p_.may .events = true) (hports_ : p_.may .ports = true) (haln_ : p_.may .aln = true) (htime_ : p_.clock = true) (h_ : Keeps p_ z s) : KeepsOut p_ z (execPairForm h sideB prefer s) := by
  unfold execPairForm
  repeat' (first | with_reducible assumption | with_reducible exact Keeps.refl _ _ | with_reducible apply runCmd_keeps | with_reducible apply bodyPairForm_keeps | with_reducible apply KeepsRes.done | with_reducible apply KeepsRes.accepted | with_reducible apply KeepsRes.waiting | with_reducible apply KeepsOut.next | dsimp only | intro _ _ | intro _)

theorem bodyPairJoin_keeps {p_ : Allow} {z : State} (h : Hdr) {s : State}  (hevents_ : p_.may .events = true) (haln_ : p_.may .aln = true) (h_ : Keeps p_ z s) : KeepsRes p_ z (bodyPairJoin h s) := by
  unfold bodyPairJoin
  repeat' (first | with_reducible assumption | with_reducible exact Keeps.refl _ _ | with_reducible apply refuse_keeps | with_reducible apply State.enterPair_keeps | with_reducible apply State.setPair_keeps | with_reducible apply State.peerOut_keeps | with_reducible apply KeepsRes.done | with_reducible apply KeepsRes.accepted | with_reducible apply KeepsRes.waiting | with_reducible apply KeepsOut.next | with_reducible apply keepsParts_intro | with_reducible exact Or.inl (by with_reducible assumption) | with_reducible exact Or.inr rfl | simp only [keeps_mk] | with_reducible refine keepsMk_of ?_ ⟨rfl, rfl⟩ (fun h_ => by first | exact h_ | simpa only [updAt_length] using h_ | with_unfolding_all rfl) ?_ ?_ | with_reducible apply keeps_ite | with_reducible apply keepsRes_ite | split | intro _ _ | dsimp only | intro _ _ | intro _)

theorem execPairJoin_keeps {p_ : Allow} {z : State} (h : Hdr) {s : State}  (hevents_ : p_.may .events = true) (haln_ : p_.may .aln = true) (htime_ : p_.clock = true) (h_ : Keeps p_ z s) : KeepsOut p_ z (execPairJoin h s) := by
  unfold execPairJoin
  repeat' (first | with_reducible assumption | with_reducible exact Keeps.refl _ _ | with_reducible apply runCmd_keeps | with_reducible apply bodyPairJoin_keeps | with_reducible apply KeepsRes.done | with_reducible apply KeepsRes.accepted | with_reducible apply KeepsRes.waiting | with_reducible apply KeepsOut.next | dsimp only | intro _ _ | intro _)

theorem bodyPairSwap_keeps {p_ : Allow} {z : State} (h : Hdr) {s : State}  (h_ : Keeps p_ z s) : KeepsRes p_ z (bodyPairSwap h s) := by
  unfold bodyPairSwap
  repeat' (first | with_reducible assumption | with_reducible exact Keeps.refl _ _ | with_reducible apply refuse_keeps | with_reducible apply State.startSwap_keeps | with_reducible apply KeepsRes.done | with_reducible apply KeepsRes.accepted | with_reducible apply KeepsRes.waiting | with_reducible apply KeepsOut.next | with_reducible apply keeps_ite | with_reducible apply keepsRes_ite | split | dsimp only | intro _ _ | intro _)

theorem execPairSwap_keeps {p_ : Allow} {z : State} (h : Hdr) {s : State}  (htime_ : p_.clock = true) (h_ : Keeps p_ z s) : KeepsOut p_ z (execPairSwap h s) := by
  unfold execPairSwap
  repeat' (first | with_reducible assumption | with_reducible exact Keeps.refl _ _ | with_reducible apply runCmd_keeps | with_reducible apply bodyPairSwap_keeps | with_reducible apply KeepsRes.done | with_reducible apply KeepsRes.accepted | with_reducible apply KeepsRes.waiting | with_reducible apply KeepsOut.next | dsimp only | intro _ _ | intro _)

theorem bodyPairSwapSched_keeps {p_ : Allow} {z : State} (hours : Nat) {s : State}  (h_ : Keeps p_ z s) : KeepsRes p_ z (bodyPairSwapSched hours s) := by
  unfold bodyPairSwapSched
  repeat' (first | with_reducible assumption | with_reducible exact Keeps.refl _ _ | with_reducible apply refuse_keeps | with_reducible apply ok_keeps | with_reducible apply State.setRf_keeps | with_reducible apply State.setPair_keeps | with_reducible apply KeepsRes.done | with_reducible apply KeepsRes.accepted | with_reducible apply KeepsRes.waiting | with_reducible apply KeepsOut.next | with_reducible apply keepsParts_intro | with_reducible exact Or.inl (by with_reducible assumption) | with_reducible exact Or.inr rfl | simp only [keeps_mk] | with_reducible refine keepsMk_of ?_ ⟨rfl, rfl⟩ (fun h_ => by first | exact h_ | simpa only [updAt_length] using h_ | with_unfolding_all rfl) ?_ ?_ | with_reducible apply keeps_ite | with_reducible apply keepsRes_ite | split | dsimp only | intro _ _ | intro _)

theorem execPairSwapSched_keeps {p_ : Allow} {z : State} (h : Hdr) (hours : Nat) {s : State}  (htime_ : p_.clock = true) (h_ : Keeps p_ z s) : KeepsOut p_ z (execPairSwapSched h hours s) := by
  unfold execPairSwapSched
  repeat' (first | with_reducible assumption | with_reducible exact Keeps.refl _ _ | with_reducible apply runCmd_keeps | with_reducible apply bodyPairSwapSched_keeps | with_reducible apply KeepsRes.done | with_reducible apply KeepsRes.accepted | with_reducible apply KeepsRes.waiting | with_reducible apply KeepsOut.next | dsimp only | intro _ _ | intro _)

theorem bodyPairRestart_keeps {p_ : Allow} {z : State} (h : Hdr) {s : State}  (hfree_ : p_.may .free = true) (hevents_ : p_.may .events = true) (hports_ : p_.may .ports = true) (hpec_ : p_.may .pec = true) (haln_ : p_.may .aln = true) (hlim_ : p_.may .lim = true) (hisl_ : p_.may .isl = true) (hpub_ : p_.may .pub = true) (hosc_ : p_.may .osc = true) (hkey_ : p_.may .key = true) (h_ : Keeps p_ z s) : KeepsRes p_ z (bodyPairRestart h s) := by
  unfold bodyPairRestart
  repeat' (first | with_reducible assumption | with_reducible exact Keeps.refl _ _ | with_reducible apply refuse_keeps | with_reducible apply State.enterPair_keeps | with_reducible apply State.setPair_keeps | with_reducible apply State.startClaim_keeps | with_reducible apply State.restartAllOf_keeps | with_reducible apply KeepsRes.done | with_reducible apply KeepsRes.accepted | with_reducible apply KeepsRes.waiting | with_reducible apply KeepsOut.next | with_reducible apply keepsParts_intro | with_reducible exact Or.inl (by with_reducible assumption) | with_reducible exact Or.inr rfl | simp only [keeps_mk] | with_reducible refine keepsMk_of ?_ ⟨rfl, rfl⟩ (fun h_ => by first | exact h_ | simpa only [updAt_length] using h_ | with_unfolding_all rfl) ?_ ?_ | with_reducible apply keeps_ite | with_reducible apply keepsRes_ite | split | dsimp only | intro _ _ | intro _)

theorem execPairRestart_keeps {p_ : Allow} {z : State} (h : Hdr) {s : State}  (hfree_ : p_.may .free = true) (hevents_ : p_.may .events = true) (hports_ : p_.may .ports = true) (hpec_ : p_.may .pec = true) (haln_ : p_.may .aln = true) (hlim_ : p_.may .lim = true) (hisl_ : p_.may .isl = true) (hpub_ : p_.may .pub = true) (hosc_ : p_.may .osc = true) (hkey_ : p_.may .key = true) (htime_ : p_.clock = true) (h_ : Keeps p_ z s) : KeepsOut p_ z (execPairRestart h s) := by
  unfold execPairRestart
  repeat' (first | with_reducible assumption | with_reducible exact Keeps.refl _ _ | with_reducible apply runCmd_keeps | with_reducible apply bodyPairRestart_keeps | with_reducible apply KeepsRes.done | with_reducible apply KeepsRes.accepted | with_reducible apply KeepsRes.waiting | with_reducible apply KeepsOut.next | dsimp only | intro _ _ | intro _)

theorem bodyPairSplit_keeps {p_ : Allow} {z : State} {s : State}  (hevents_ : p_.may .events = true) (hports_ : p_.may .ports = true) (haln_ : p_.may .aln = true) (h_ : Keeps p_ z s) : KeepsRes p_ z (bodyPairSplit s) := by
  unfold bodyPairSplit
  repeat' (first | with_reducible assumption | with_reducible exact Keeps.refl _ _ | with_reducible apply ok_keeps | with_reducible apply State.setRb_keeps | with_reducible apply State.unpair_keeps | with_reducible apply KeepsRes.done | with_reducible apply KeepsRes.accepted | with_reducible apply KeepsRes.waiting | with_reducible apply KeepsOut.next | dsimp only | intro _ _ | intro _)

theorem execPairSplit_keeps {p_ : Allow} {z : State} (h : Hdr) {s : State}  (hevents_ : p_.may .events = true) (hports_ : p_.may .ports = true) (haln_ : p_.may .aln = true) (htime_ : p_.clock = true) (h_ : Keeps p_ z s) : KeepsOut p_ z (execPairSplit h s) := by
  unfold execPairSplit
  repeat' (first | with_reducible assumption | with_reducible exact Keeps.refl _ _ | with_reducible apply runCmd_keeps | with_reducible apply bodyPairSplit_keeps | with_reducible apply KeepsRes.done | with_reducible apply KeepsRes.accepted | with_reducible apply KeepsRes.waiting | with_reducible apply KeepsOut.next | dsimp only | intro _ _ | intro _)

theorem bodyPairTune_keeps {p_ : Allow} {z : State} (a : PairTuneArgs) {s : State}  (h_ : Keeps p_ z s) : KeepsRes p_ z (bodyPairTune a s) := by
  unfold bodyPairTune
  repeat' (first | with_reducible assumption | with_reducible exact Keeps.refl _ _ | with_reducible apply refuse_keeps | with_reducible apply ok_keeps | with_reducible apply State.setSome_keeps | with_reducible apply KeepsRes.done | with_reducible apply KeepsRes.accepted | with_reducible apply KeepsRes.waiting | with_reducible apply KeepsOut.next | with_reducible apply keeps_ite | with_reducible apply keepsRes_ite | split | dsimp only | intro _ _ | intro _)

theorem execPairTune_keeps {p_ : Allow} {z : State} (h : Hdr) (a : PairTuneArgs) {s : State}  (htime_ : p_.clock = true) (h_ : Keeps p_ z s) : KeepsOut p_ z (execPairTune h a s) := by
  unfold execPairTune
  repeat' (first | with_reducible assumption | with_reducible exact Keeps.refl _ _ | with_reducible apply runCmd_keeps | with_reducible apply bodyPairTune_keeps | with_reducible apply KeepsRes.done | with_reducible apply KeepsRes.accepted | with_reducible apply KeepsRes.waiting | with_reducible apply KeepsOut.next | dsimp only | intro _ _ | intro _)

/-! ### Machine/IslandReset.lean -/

theorem State.resetPort_keeps {p_ : Allow} {z : State} {s : State} (p : Nat)  (hports_ : p_.may .ports = true) (h_ : Keeps p_ z s) : Keeps p_ z (State.resetPort s p) := by
  unfold State.resetPort
  repeat' (first | with_reducible assumption | with_reducible exact Keeps.refl _ _ | with_reducible apply State.linkDown_keeps | with_reducible apply State.resetRegs_keeps | with_reducible apply State.setI2c_keeps | with_reducible apply State.updPort_keeps | with_reducible apply keepsParts_intro | with_reducible exact Or.inl (by with_reducible assumption) | with_reducible exact Or.inr rfl | simp only [keeps_mk] | with_reducible refine keepsMk_of ?_ ⟨rfl, rfl⟩ (fun h_ => by first | exact h_ | simpa only [updAt_length] using h_ | with_unfolding_all rfl) ?_ ?_ | with_reducible apply keeps_ite | split | dsimp only | intro _ _ | intro _)

theorem State.resetFixative_keeps {p_ : Allow} {z : State} {s : State} (cause : Nat)  (hevents_ : p_.may .events = true) (hpec_ : p_.may .pec = true) (haln_ : p_.may .aln = true) (hisl_ : p_.may .isl = true) (hosc_ : p_.may .osc = true) (hcap_ : p_.may .cap = true) (hevr_ : p_.may .evr = true) (htime_ : p_.clock = true) (h_ : Keeps p_ z s) : Keeps p_ z (State.resetFixative s cause) := by
  unfold State.resetFixative
  repeat' (first | with_reducible assumption | with_reducible exact Keeps.refl _ _ | with_reducible apply State.abandonRestep_keeps | with_reducible apply State.beforeStep_keeps | with_reducible apply State.resetRegs_keeps | with_reducible apply State.setRb_keeps | with_reducible apply State.setRf_keeps | with_reducible apply State.afterStep_keeps | with_reducible apply State.raise_keeps | refine State.setTime_keeps _ (fun h_ => by first | exact h_ | simpa only [updAt_length] using h_ | with_unfolding_all rfl) ?_ ?_ | with_reducible apply keeps_foldl | with_reducible apply keeps_foldl_fst | with_reducible apply keeps_foldl_snd | intro _ _ _ | with_reducible apply keepsParts_intro | with_reducible exact Or.inl (by with_reducible assumption) | with_reducible exact Or.inr rfl | simp only [keeps_mk] | with_reducible refine keepsMk_of ?_ ⟨rfl, rfl⟩ (fun h_ => by first | exact h_ | simpa only [updAt_length] using h_ | with_unfolding_all rfl) ?_ ?_ | with_reducible apply keeps_ite | split | dsimp only | intro _ _ | intro _)

theorem State.resetNoseIsland_keeps {p_ : Allow} {z : State} {s : State}  (hfree_ : p_.may .free = true) (hports_ : p_.may .ports = true) (hcapIn_ : p_.may .capIn = true) (haln_ : p_.may .aln = true) (hlim_ : p_.may .lim = true) (hisl_ : p_.may .isl = true) (hbatches_ : p_.may .batches = true) (hpub_ : p_.may .pub = true) (hosc_ : p_.may .osc = true) (hkey_ : p_.may .key = true) (h_ : Keeps p_ z s) : Keeps p_ z (State.resetNoseIsland s) := by
  unfold State.resetNoseIsland
  repeat' (first | with_reducible assumption | with_reducible exact Keeps.refl _ _ | with_reducible apply State.resetNose_keeps | with_reducible apply State.resetOsc_keeps | with_reducible apply State.retractAll_keeps | dsimp only | intro _ _ | intro _)

theorem State.resetControl_keeps {p_ : Allow} {z : State} {s : State}  (hevents_ : p_.may .events = true) (haon_ : p_.may .aon = true) (hflt_ : p_.may .flt = true) (hevr_ : p_.may .evr = true) (hmbx_ : p_.may .mbx = true) (h_ : Keeps p_ z s) : Keeps p_ z (State.resetControl s) := by
  unfold State.resetControl
  repeat' (first | with_reducible assumption | with_reducible exact Keeps.refl _ _ | with_reducible apply State.disarmAll_keeps | with_reducible apply State.breakAll_keeps | with_reducible apply State.closeSessions_keeps | with_reducible apply State.clearRings_keeps | with_reducible apply State.resetRegs_keeps | with_reducible apply State.setCmd_keeps | with_reducible apply State.setFlt_keeps | with_reducible apply State.setMbx_keeps | with_reducible apply State.raiseGen_keeps | with_reducible apply keeps_foldl | with_reducible apply keeps_foldl_fst | with_reducible apply keeps_foldl_snd | intro _ _ _ | with_reducible apply keepsParts_intro | with_reducible exact Or.inl (by with_reducible assumption) | with_reducible exact Or.inr rfl | simp only [keeps_mk] | with_reducible refine keepsMk_of ?_ ⟨rfl, rfl⟩ (fun h_ => by first | exact h_ | simpa only [updAt_length] using h_ | with_unfolding_all rfl) ?_ ?_ | split | dsimp only | intro _ _ | intro _)

theorem State.resetIsland_keeps {p_ : Allow} {z : State} {s : State} (isl cause : Nat)  (hfree_ : p_.may .free = true) (hevents_ : p_.may .events = true) (haon_ : p_.may .aon = true) (hports_ : p_.may .ports = true) (hing_ : p_.may .ing = true) (hpec_ : p_.may .pec = true) (hcapIn_ : p_.may .capIn = true) (haln_ : p_.may .aln = true) (hlim_ : p_.may .lim = true) (hisl_ : p_.may .isl = true) (hbatches_ : p_.may .batches = true) (hpub_ : p_.may .pub = true) (hosc_ : p_.may .osc = true) (hcap_ : p_.may .cap = true) (hflt_ : p_.may .flt = true) (hkey_ : p_.may .key = true) (hevr_ : p_.may .evr = true) (hmbx_ : p_.may .mbx = true) (htime_ : p_.clock = true) (h_ : Keeps p_ z s) : Keeps p_ z (State.resetIsland s isl cause) := by
  unfold State.resetIsland
  repeat' (first | with_reducible assumption | with_reducible exact Keeps.refl _ _ | with_reducible apply State.resetPort_keeps | with_reducible apply State.resetIngress_keeps | with_reducible apply State.resetEstimation_keeps | with_reducible apply State.resetAccord_keeps | with_reducible apply State.resetNoseIsland_keeps | with_reducible apply State.resetAtomizer_keeps | with_reducible apply State.resetCapture_keeps | with_reducible apply State.resetSillage_keeps | with_reducible apply State.resetFlacon_keeps | with_reducible apply State.resetFixative_keeps | with_reducible apply State.resetControl_keeps | with_reducible apply State.resetCascade_keeps | with_reducible apply State.resetPair_keeps | with_reducible apply State.resetMemory_keeps | with_reducible apply keeps_ite | split | dsimp only | intro _ _ | intro _)

theorem State.runAgain_keeps {p_ : Allow} {z : State} {s : State} (isl : Nat)  (hfree_ : p_.may .free = true) (hevents_ : p_.may .events = true) (haon_ : p_.may .aon = true) (hports_ : p_.may .ports = true) (hpec_ : p_.may .pec = true) (hpub_ : p_.may .pub = true) (hosc_ : p_.may .osc = true) (hcap_ : p_.may .cap = true) (hflt_ : p_.may .flt = true) (hkey_ : p_.may .key = true) (hevr_ : p_.may .evr = true) (h_ : Keeps p_ z s) : Keeps p_ z (State.runAgain s isl) := by
  unfold State.runAgain
  repeat' (first | with_reducible assumption | with_reducible exact Keeps.refl _ _ | with_reducible apply State.resumeEstimation_keeps | with_reducible apply State.resumeOsc_keeps | with_reducible apply State.resumeAtomizer_keeps | with_reducible apply State.resumeCapture_keeps | with_reducible apply State.resumeSillage_keeps | with_reducible apply keeps_ite | split | dsimp only | intro _ _ | intro _)

theorem State.dropHeld_keeps {p_ : Allow} {z : State} {s : State} (isl : Nat)  (haln_ : p_.may .aln = true) (hbatches_ : p_.may .batches = true) (hpub_ : p_.may .pub = true) (hosc_ : p_.may .osc = true) (h_ : Keeps p_ z s) : Keeps p_ z (State.dropHeld s isl) := by
  unfold State.dropHeld
  repeat' (first | with_reducible assumption | with_reducible exact Keeps.refl _ _ | with_reducible apply State.setAln_keeps | with_reducible apply keepsParts_intro | with_reducible exact Or.inl (by with_reducible assumption) | with_reducible exact Or.inr rfl | simp only [keeps_mk] | with_reducible refine keepsMk_of ?_ ⟨rfl, rfl⟩ (fun h_ => by first | exact h_ | simpa only [updAt_length] using h_ | with_unfolding_all rfl) ?_ ?_ | with_reducible apply keeps_ite | split | dsimp only | intro _ _ | intro _)

theorem State.resetAll_keeps {p_ : Allow} {z : State} {s : State}  (hfree_ : p_.may .free = true) (hevents_ : p_.may .events = true) (haon_ : p_.may .aon = true) (hports_ : p_.may .ports = true) (hing_ : p_.may .ing = true) (hpec_ : p_.may .pec = true) (hcapIn_ : p_.may .capIn = true) (haln_ : p_.may .aln = true) (hlim_ : p_.may .lim = true) (hisl_ : p_.may .isl = true) (hbatches_ : p_.may .batches = true) (hpub_ : p_.may .pub = true) (hosc_ : p_.may .osc = true) (hcap_ : p_.may .cap = true) (hflt_ : p_.may .flt = true) (hkey_ : p_.may .key = true) (hevr_ : p_.may .evr = true) (hmbx_ : p_.may .mbx = true) (htime_ : p_.clock = true) (h_ : Keeps p_ z s) : Keeps p_ z (State.resetAll s) := by
  unfold State.resetAll
  repeat' (first | with_reducible assumption | with_reducible exact Keeps.refl _ _ | with_reducible apply State.resetIsland_keeps | with_reducible apply keeps_foldl | with_reducible apply keeps_foldl_fst | with_reducible apply keeps_foldl_snd | intro _ _ _ | dsimp only | intro _ _ | intro _)

/-! ### Machine/PowerOps.lean -/

theorem State.addCause_keeps {p_ : Allow} {z : State} {s : State} (c : Nat)  (haon_ : p_.may .aon = true) (h_ : Keeps p_ z s) : Keeps p_ z (State.addCause s c) := by
  unfold State.addCause
  repeat' (first | with_reducible assumption | with_reducible exact Keeps.refl _ _ | with_reducible apply State.setAon_keeps | with_reducible apply keepsParts_intro | with_reducible exact Or.inl (by with_reducible assumption) | with_reducible exact Or.inr rfl | simp only [keeps_mk] | with_reducible refine keepsMk_of ?_ ⟨rfl, rfl⟩ (fun h_ => by first | exact h_ | simpa only [updAt_length] using h_ | with_unfolding_all rfl) ?_ ?_ | with_reducible refine keepsMk_clear ?_ (by assumption) rfl (fun h_ => by first | exact h_ | simpa only [updAt_length] using h_ | with_unfolding_all rfl) ?_ ?_ | with_reducible refine keepsMk_reset ?_ (by assumption) rfl (fun h_ => by first | exact h_ | simpa only [updAt_length] using h_ | with_unfolding_all rfl) ?_ ?_ | refine State.setMem_clear _ (by assumption) rfl ?_ | with_reducible apply keeps_ite | split | dsimp only | intro _ _ | intro _)

theorem State.dropCause_keeps {p_ : Allow} {z : State} {s : State} (c : Nat)  (haon_ : p_.may .aon = true) (h_ : Keeps p_ z s) : Keeps p_ z (State.dropCause s c) := by
  unfold State.dropCause
  repeat' (first | with_reducible assumption | with_reducible exact Keeps.refl _ _ | with_reducible apply State.setAon_keeps | with_reducible apply keepsParts_intro | with_reducible exact Or.inl (by with_reducible assumption) | with_reducible exact Or.inr rfl | simp only [keeps_mk] | with_reducible refine keepsMk_of ?_ ⟨rfl, rfl⟩ (fun h_ => by first | exact h_ | simpa only [updAt_length] using h_ | with_unfolding_all rfl) ?_ ?_ | with_reducible refine keepsMk_clear ?_ (by assumption) rfl (fun h_ => by first | exact h_ | simpa only [updAt_length] using h_ | with_unfolding_all rfl) ?_ ?_ | with_reducible refine keepsMk_reset ?_ (by assumption) rfl (fun h_ => by first | exact h_ | simpa only [updAt_length] using h_ | with_unfolding_all rfl) ?_ ?_ | refine State.setMem_clear _ (by assumption) rfl ?_ | dsimp only | intro _ _ | intro _)

theorem State.fallBack_keeps {p_ : Allow} {z : State} {s : State} (reason : Nat)  (hevents_ : p_.may .events = true) (haon_ : p_.may .aon = true) (h_ : Keeps p_ z s) : Keeps p_ z (State.fallBack s reason) := by
  unfold State.fallBack
  repeat' (first | with_reducible assumption | with_reducible exact Keeps.refl _ _ | with_reducible apply State.setAon_keeps | with_reducible apply State.setRf_keeps | with_reducible apply State.raise_keeps | with_reducible apply keepsParts_intro | with_reducible exact Or.inl (by with_reducible assumption) | with_reducible exact Or.inr rfl | simp only [keeps_mk] | with_reducible refine keepsMk_of ?_ ⟨rfl, rfl⟩ (fun h_ => by first | exact h_ | simpa only [updAt_length] using h_ | with_unfolding_all rfl) ?_ ?_ | with_reducible refine keepsMk_clear ?_ (by assumption) rfl (fun h_ => by first | exact h_ | simpa only [updAt_length] using h_ | with_unfolding_all rfl) ?_ ?_ | with_reducible refine keepsMk_reset ?_ (by assumption) rfl (fun h_ => by first | exact h_ | simpa only [updAt_length] using h_ | with_unfolding_all rfl) ?_ ?_ | refine State.setMem_clear _ (by assumption) rfl ?_ | dsimp only | intro _ _ | intro _)

theorem State.startIdentity_keeps {p_ : Allow} {z : State} {s : State}  (haon_ : p_.may .aon = true) (h_ : Keeps p_ z s) : Keeps p_ z (State.startIdentity s) := by
  unfold State.startIdentity
  repeat' (first | with_reducible assumption | with_reducible exact Keeps.refl _ _ | with_reducible apply State.setAon_keeps | with_reducible apply keepsParts_intro | with_reducible exact Or.inl (by with_reducible assumption) | with_reducible exact Or.inr rfl | simp only [keeps_mk] | with_reducible refine keepsMk_of ?_ ⟨rfl, rfl⟩ (fun h_ => by first | exact h_ | simpa only [updAt_length] using h_ | with_unfolding_all rfl) ?_ ?_ | with_reducible refine keepsMk_clear ?_ (by assumption) rfl (fun h_ => by first | exact h_ | simpa only [updAt_length] using h_ | with_unfolding_all rfl) ?_ ?_ | with_reducible refine keepsMk_reset ?_ (by assumption) rfl (fun h_ => by first | exact h_ | simpa only [updAt_length] using h_ | with_unfolding_all rfl) ?_ ?_ | refine State.setMem_clear _ (by assumption) rfl ?_ | with_reducible apply keeps_ite | split | dsimp only | intro _ _ | intro _)

theorem State.companionChange_keeps {p_ : Allow} {z : State} {s : State} (present : Bool)  (hevents_ : p_.may .events = true) (haon_ : p_.may .aon = true) (h_ : Keeps p_ z s) : Keeps p_ z (State.companionChange s present) := by
  unfold State.companionChange
  repeat' (first | with_reducible assumption | with_reducible exact Keeps.refl _ _ | with_reducible apply State.setAon_keeps | with_reducible apply State.startIdentity_keeps | with_reducible apply State.fallBack_keeps | with_reducible apply keepsParts_intro | with_reducible exact Or.inl (by with_reducible assumption) | with_reducible exact Or.inr rfl | simp only [keeps_mk] | with_reducible refine keepsMk_of ?_ ⟨rfl, rfl⟩ (fun h_ => by first | exact h_ | simpa only [updAt_length] using h_ | with_unfolding_all rfl) ?_ ?_ | with_reducible refine keepsMk_clear ?_ (by assumption) rfl (fun h_ => by first | exact h_ | simpa only [updAt_length] using h_ | with_unfolding_all rfl) ?_ ?_ | with_reducible refine keepsMk_reset ?_ (by assumption) rfl (fun h_ => by first | exact h_ | simpa only [updAt_length] using h_ | with_unfolding_all rfl) ?_ ?_ | refine State.setMem_clear _ (by assumption) rfl ?_ | with_reducible apply keeps_ite | split | dsimp only | intro _ _ | intro _)

theorem State.takeIdentity_keeps {p_ : Allow} {z : State} {s : State} (r : CompanionRead)  (hevents_ : p_.may .events = true) (haon_ : p_.may .aon = true) (h_ : Keeps p_ z s) : Keeps p_ z (State.takeIdentity s r) := by
  unfold State.takeIdentity
  repeat' (first | with_reducible assumption | with_reducible exact Keeps.refl _ _ | with_reducible apply State.setAon_keeps | with_reducible apply State.setRf_keeps | with_reducible apply State.fallBack_keeps | with_reducible apply keepsParts_intro | with_reducible exact Or.inl (by with_reducible assumption) | with_reducible exact Or.inr rfl | simp only [keeps_mk] | with_reducible refine keepsMk_of ?_ ⟨rfl, rfl⟩ (fun h_ => by first | exact h_ | simpa only [updAt_length] using h_ | with_unfolding_all rfl) ?_ ?_ | with_reducible refine keepsMk_clear ?_ (by assumption) rfl (fun h_ => by first | exact h_ | simpa only [updAt_length] using h_ | with_unfolding_all rfl) ?_ ?_ | with_reducible refine keepsMk_reset ?_ (by assumption) rfl (fun h_ => by first | exact h_ | simpa only [updAt_length] using h_ | with_unfolding_all rfl) ?_ ?_ | refine State.setMem_clear _ (by assumption) rfl ?_ | with_reducible apply keeps_ite | split | intro _ _ | dsimp only | intro _ _ | intro _)

theorem State.releaseLands_keeps {p_ : Allow} {z : State} {s : State}  (hpub_ : p_.may .pub = true) (h_ : Keeps p_ z s) : Keeps p_ z (State.releaseLands s) := by
  unfold State.releaseLands
  repeat' (first | with_reducible assumption | with_reducible exact Keeps.refl _ _ | with_reducible apply State.updLand_keeps | with_reducible apply keeps_foldl | with_reducible apply keeps_foldl_fst | with_reducible apply keeps_foldl_snd | intro _ _ _ | dsimp only | intro _ _ | intro _)

theorem State.leaveRun_keeps {p_ : Allow} {z : State} {s : State}  (hevents_ : p_.may .events = true) (haon_ : p_.may .aon = true) (haln_ : p_.may .aln = true) (hisl_ : p_.may .isl = true) (hbatches_ : p_.may .batches = true) (hpub_ : p_.may .pub = true) (hosc_ : p_.may .osc = true) (hcap_ : p_.may .cap = true) (hflt_ : p_.may .flt = true) (hevr_ : p_.may .evr = true) (h_ : Keeps p_ z s) : Keeps p_ z (State.leaveRun s) := by
  unfold State.leaveRun
  repeat' (first | with_reducible assumption | with_reducible exact Keeps.refl _ _ | with_reducible apply State.flushStop_keeps | with_reducible apply State.releaseLands_keeps | with_reducible apply State.runStream_keeps | with_reducible apply State.setRb_keeps | with_reducible apply State.stopBlock_keeps | with_reducible apply State.stopSets_keeps | with_reducible apply State.capDisable_keeps | with_reducible apply State.disarmAll_keeps | with_reducible apply keeps_foldl | with_reducible apply keeps_foldl_fst | with_reducible apply keeps_foldl_snd | intro _ _ _ | with_reducible apply keeps_ite | split | dsimp only | intro _ _ | intro _)

theorem State.loseVolatile_keeps {p_ : Allow} {z : State} {s : State}  (hl_ : p_.lose = true) (hevents_ : p_.may .events = true) (hports_ : p_.may .ports = true) (hpub_ : p_.may .pub = true) (hcap_ : p_.may .cap = true) (hkey_ : p_.may .key = true) (hmbx_ : p_.may .mbx = true) (h_ : Keeps p_ z s) : Keeps p_ z (State.loseVolatile s) := by
  unfold State.loseVolatile
  repeat' (first | with_reducible assumption | with_reducible exact Keeps.refl _ _ | with_reducible apply State.expireKeys_keeps | with_reducible apply State.clearMailboxes_keeps | with_reducible apply keepsParts_intro | with_reducible exact Or.inl (by with_reducible assumption) | with_reducible exact Or.inr rfl | simp only [keeps_mk] | with_reducible refine keepsMk_of ?_ ⟨rfl, rfl⟩ (fun h_ => by first | exact h_ | simpa only [updAt_length] using h_ | with_unfolding_all rfl) ?_ ?_ | with_reducible refine keepsMk_clear ?_ (by assumption) rfl (fun h_ => by first | exact h_ | simpa only [updAt_length] using h_ | with_unfolding_all rfl) ?_ ?_ | with_reducible refine keepsMk_reset ?_ (by assumption) rfl (fun h_ => by first | exact h_ | simpa only [updAt_length] using h_ | with_unfolding_all rfl) ?_ ?_ | refine State.setMem_clear _ (by assumption) rfl ?_ | dsimp only | intro _ _ | intro _)

theorem State.powerDown_keeps {p_ : Allow} {z : State} {s : State}  (hl_ : p_.lose = true) (hfree_ : p_.may .free = true) (hevents_ : p_.may .events = true) (haon_ : p_.may .aon = true) (hports_ : p_.may .ports = true) (hpub_ : p_.may .pub = true) (hcap_ : p_.may .cap = true) (hkey_ : p_.may .key = true) (hevr_ : p_.may .evr = true) (hmbx_ : p_.may .mbx = true) (h_ : Keeps p_ z s) : Keeps p_ z (State.powerDown s) := by
  unfold State.powerDown
  repeat' (first | with_reducible assumption | with_reducible exact Keeps.refl _ _ | with_reducible apply State.releaseLands_keeps | with_reducible apply State.releaseIlk_keeps | with_reducible apply State.keysLosePower_keeps | with_reducible apply State.loseLog_keeps | with_reducible apply State.loseVolatile_keeps | with_reducible apply State.setAon_keeps | with_reducible apply keepsParts_intro | with_reducible exact Or.inl (by with_reducible assumption) | with_reducible exact Or.inr rfl | simp only [keeps_mk] | with_reducible refine keepsMk_of ?_ ⟨rfl, rfl⟩ (fun h_ => by first | exact h_ | simpa only [updAt_length] using h_ | with_unfolding_all rfl) ?_ ?_ | with_reducible refine keepsMk_clear ?_ (by assumption) rfl (fun h_ => by first | exact h_ | simpa only [updAt_length] using h_ | with_unfolding_all rfl) ?_ ?_ | with_reducible refine keepsMk_reset ?_ (by assumption) rfl (fun h_ => by first | exact h_ | simpa only [updAt_length] using h_ | with_unfolding_all rfl) ?_ ?_ | refine State.setMem_clear _ (by assumption) rfl ?_ | dsimp only | intro _ _ | intro _)

theorem State.enterState_keeps {p_ : Allow} {z : State} {s : State} (t : Transition)  (hl_ : p_.lose = true) (hfree_ : p_.may .free = true) (hevents_ : p_.may .events = true) (haon_ : p_.may .aon = true) (hports_ : p_.may .ports = true) (hpec_ : p_.may .pec = true) (hpub_ : p_.may .pub = true) (hcap_ : p_.may .cap = true) (hflt_ : p_.may .flt = true) (hkey_ : p_.may .key = true) (hevr_ : p_.may .evr = true) (hmbx_ : p_.may .mbx = true) (h_ : Keeps p_ z s) : Keeps p_ z (State.enterState s t) := by
  unfold State.enterState
  repeat' (first | with_reducible assumption | with_reducible exact Keeps.refl _ _ | with_reducible apply State.setAon_keeps | with_reducible apply State.dropCause_keeps | with_reducible apply State.restartAll_keeps | with_reducible apply State.sealLog_keeps | with_reducible apply State.loseVolatile_keeps | with_reducible apply State.loseLog_keeps | with_reducible apply State.updPort_keeps | with_reducible apply State.powerDown_keeps | with_reducible apply keeps_foldl | with_reducible apply keeps_foldl_fst | with_reducible apply keeps_foldl_snd | intro _ _ _ | with_reducible apply keepsParts_intro | with_reducible exact Or.inl (by with_reducible assumption) | with_reducible exact Or.inr rfl | simp only [keeps_mk] | with_reducible refine keepsMk_of ?_ ⟨rfl, rfl⟩ (fun h_ => by first | exact h_ | simpa only [updAt_length] using h_ | with_unfolding_all rfl) ?_ ?_ | with_reducible refine keepsMk_clear ?_ (by assumption) rfl (fun h_ => by first | exact h_ | simpa only [updAt_length] using h_ | with_unfolding_all rfl) ?_ ?_ | with_reducible refine keepsMk_reset ?_ (by assumption) rfl (fun h_ => by first | exact h_ | simpa only [updAt_length] using h_ | with_unfolding_all rfl) ?_ ?_ | refine State.setMem_clear _ (by assumption) rfl ?_ | with_reducible apply keeps_ite | split | intro _ _ | dsimp only | intro _ _ | intro _)

theorem State.begin_keeps {p_ : Allow} {z : State} {s : State} (t : Transition)  (haon_ : p_.may .aon = true) (h_ : Keeps p_ z s) : Keeps p_ z (State.begin s t) := by
  unfold State.begin
  repeat' (first | with_reducible assumption | with_reducible exact Keeps.refl _ _ | with_reducible apply State.setAon_keeps | with_reducible apply keepsParts_intro | with_reducible exact Or.inl (by with_reducible assumption) | with_reducible exact Or.inr rfl | simp only [keeps_mk] | with_reducible refine keepsMk_of ?_ ⟨rfl, rfl⟩ (fun h_ => by first | exact h_ | simpa only [updAt_length] using h_ | with_unfolding_all rfl) ?_ ?_ | with_reducible refine keepsMk_clear ?_ (by assumption) rfl (fun h_ => by first | exact h_ | simpa only [updAt_length] using h_ | with_unfolding_all rfl) ?_ ?_ | with_reducible refine keepsMk_reset ?_ (by assumption) rfl (fun h_ => by first | exact h_ | simpa only [updAt_length] using h_ | with_unfolding_all rfl) ?_ ?_ | refine State.setMem_clear _ (by assumption) rfl ?_ | dsimp only | intro _ _ | intro _)

theorem State.wakeUp_keeps {p_ : Allow} {z : State} {s : State} (cause : Nat)  (haon_ : p_.may .aon = true) (h_ : Keeps p_ z s) : Keeps p_ z (State.wakeUp s cause) := by
  unfold State.wakeUp
  repeat' (first | with_reducible assumption | with_reducible exact Keeps.refl _ _ | with_reducible apply State.begin_keeps | with_reducible apply keepsParts_intro | with_reducible exact Or.inl (by with_reducible assumption) | with_reducible exact Or.inr rfl | simp only [keeps_mk] | with_reducible refine keepsMk_of ?_ ⟨rfl, rfl⟩ (fun h_ => by first | exact h_ | simpa only [updAt_length] using h_ | with_unfolding_all rfl) ?_ ?_ | with_reducible refine keepsMk_clear ?_ (by assumption) rfl (fun h_ => by first | exact h_ | simpa only [updAt_length] using h_ | with_unfolding_all rfl) ?_ ?_ | with_reducible refine keepsMk_reset ?_ (by assumption) rfl (fun h_ => by first | exact h_ | simpa only [updAt_length] using h_ | with_unfolding_all rfl) ?_ ?_ | refine State.setMem_clear _ (by assumption) rfl ?_ | with_reducible apply keeps_ite | split | intro _ _ | dsimp only | intro _ _ | intro _)

theorem State.loadImage_keeps {p_ : Allow} {z : State} {s : State} (copy : Nat) (bad : Bool)  (hevents_ : p_.may .events = true) (hflt_ : p_.may .flt = true) (h_ : Keeps p_ z s) : Keeps p_ z (State.loadImage s copy bad).2 := by
  unfold State.loadImage
  repeat' (first | with_reducible assumption | with_reducible exact Keeps.refl _ _ | with_reducible apply State.occasion_keeps | with_reducible apply State.detect_keeps | with_reducible refine State.occasion_keeps_of (by with_reducible assumption) ?_ ?_ | with_reducible apply keepsParts_intro | with_reducible exact Or.inl (by with_reducible assumption) | with_reducible exact Or.inr rfl | simp only [keeps_mk] | with_reducible refine keepsMk_of ?_ ⟨rfl, rfl⟩ (fun h_ => by first | exact h_ | simpa only [updAt_length] using h_ | with_unfolding_all rfl) ?_ ?_ | with_reducible refine keepsMk_clear ?_ (by assumption) rfl (fun h_ => by first | exact h_ | simpa only [updAt_length] using h_ | with_unfolding_all rfl) ?_ ?_ | with_reducible refine keepsMk_reset ?_ (by assumption) rfl (fun h_ => by first | exact h_ | simpa only [updAt_length] using h_ | with_unfolding_all rfl) ?_ ?_ | refine State.setMem_clear _ (by assumption) rfl ?_ | split | intro _ _ | dsimp only | intro _ _ | intro _)
theorem State.loadImage_keeps_of {p_ : Allow} {z : State} {s : State} {copy : Nat} {bad : Bool} {a_ : _} {t_ : State} (e_ : State.loadImage s copy bad = (a_, t_)) (hevents_ : p_.may .events = true) (hflt_ : p_.may .flt = true) (h_ : Keeps p_ z s) : Keeps p_ z t_ := by
  have k_ := State.loadImage_keeps (z := z) copy bad hevents_ hflt_ h_
  rw [e_] at k_; exact k_

theorem State.released_keeps {p_ : Allow} {z : State} {s : State} (cause : Nat)  (hfree_ : p_.may .free = true) (hevents_ : p_.may .events = true) (haon_ : p_.may .aon = true) (hports_ : p_.may .ports = true) (hpec_ : p_.may .pec = true) (hpub_ : p_.may .pub = true) (hosc_ : p_.may .osc = true) (hcap_ : p_.may .cap = true) (hflt_ : p_.may .flt = true) (hkey_ : p_.may .key = true) (hevr_ : p_.may .evr = true) (h_ : Keeps p_ z s) : Keeps p_ z (State.released s cause) := by
  unfold State.released
  repeat' (first | with_reducible assumption | with_reducible exact Keeps.refl _ _ | with_reducible apply State.setAon_keeps | with_reducible apply State.startRing_keeps | with_reducible apply State.runAgain_keeps | with_reducible apply State.setCmd_keeps | with_reducible apply State.raise_keeps | with_reducible apply State.vector_keeps | with_reducible apply keeps_foldl | with_reducible apply keeps_foldl_fst | with_reducible apply keeps_foldl_snd | intro _ _ _ | with_reducible apply keepsParts_intro | with_reducible exact Or.inl (by with_reducible assumption) | with_reducible exact Or.inr rfl | simp only [keeps_mk] | with_reducible refine keepsMk_of ?_ ⟨rfl, rfl⟩ (fun h_ => by first | exact h_ | simpa only [updAt_length] using h_ | with_unfolding_all rfl) ?_ ?_ | with_reducible refine keepsMk_clear ?_ (by assumption) rfl (fun h_ => by first | exact h_ | simpa only [updAt_length] using h_ | with_unfolding_all rfl) ?_ ?_ | with_reducible refine keepsMk_reset ?_ (by assumption) rfl (fun h_ => by first | exact h_ | simpa only [updAt_length] using h_ | with_unfolding_all rfl) ?_ ?_ | refine State.setMem_clear _ (by assumption) rfl ?_ | split | intro _ _ | dsimp only | intro _ _ | intro _)

theorem State.coldStart_keeps {p_ : Allow} {z : State} {s : State} (a : StartArgs)  (hl_ : p_.lose = true) (hrdata_ : p_.may .rdata = true) (hfree_ : p_.may .free = true) (hevents_ : p_.may .events = true) (haon_ : p_.may .aon = true) (hports_ : p_.may .ports = true) (hing_ : p_.may .ing = true) (hpec_ : p_.may .pec = true) (hcapIn_ : p_.may .capIn = true) (haln_ : p_.may .aln = true) (hlim_ : p_.may .lim = true) (hisl_ : p_.may .isl = true) (hbatches_ : p_.may .batches = true) (hpub_ : p_.may .pub = true) (hosc_ : p_.may .osc = true) (hcap_ : p_.may .cap = true) (hflt_ : p_.may .flt = true) (hkey_ : p_.may .key = true) (hevr_ : p_.may .evr = true) (hmbx_ : p_.may .mbx = true) (htime_ : p_.clock = true) (h_ : Keeps p_ z s) : Keeps p_ z (State.coldStart s a) := by
  unfold State.coldStart
  repeat' (first | with_reducible assumption | with_reducible exact Keeps.refl _ _ | with_reducible apply State.resetPort_keeps | with_reducible apply State.setReg_keeps | with_reducible apply State.addCause_keeps | with_reducible apply State.dropCause_keeps | with_reducible apply State.raise_keeps | with_reducible apply State.keysPowerUp_keeps | with_reducible apply keeps_foldl | with_reducible apply keeps_foldl_fst | with_reducible apply keeps_foldl_snd | intro _ _ _ | with_reducible apply keepsParts_intro | with_reducible exact Or.inl (by with_reducible assumption) | with_reducible exact Or.inr rfl | simp only [keeps_mk] | with_reducible refine keepsMk_of ?_ ⟨rfl, rfl⟩ (fun h_ => by first | exact h_ | simpa only [updAt_length] using h_ | with_unfolding_all rfl) ?_ ?_ | with_reducible refine keepsMk_clear ?_ (by assumption) rfl (fun h_ => by first | exact h_ | simpa only [updAt_length] using h_ | with_unfolding_all rfl) ?_ ?_ | with_reducible refine keepsMk_reset ?_ (by assumption) rfl (fun h_ => by first | exact h_ | simpa only [updAt_length] using h_ | with_unfolding_all rfl) ?_ ?_ | refine State.setMem_clear _ (by assumption) rfl ?_ | with_reducible apply keeps_ite | split | dsimp only | intro _ _ | intro _)

theorem State.loadImages_keeps {p_ : Allow} {z : State} {s : State} (a : StartArgs)  (hevents_ : p_.may .events = true) (hflt_ : p_.may .flt = true) (h_ : Keeps p_ z s) : Keeps p_ z (State.loadImages s a).2 := by
  unfold State.loadImages
  repeat' (first | with_reducible assumption | with_reducible exact Keeps.refl _ _ | with_reducible apply State.loadImage_keeps | with_reducible refine State.loadImage_keeps_of (by with_reducible assumption) ?_ ?_ ?_ | with_reducible apply keeps_ite | split | dsimp only | intro _ _ | intro _)
theorem State.loadImages_keeps_of {p_ : Allow} {z : State} {s : State} {a : StartArgs} {a_ : _} {t_ : State} (e_ : State.loadImages s a = (a_, t_)) (hevents_ : p_.may .events = true) (hflt_ : p_.may .flt = true) (h_ : Keeps p_ z s) : Keeps p_ z t_ := by
  have k_ := State.loadImages_keeps (z := z) a hevents_ hflt_ h_
  rw [e_] at k_; exact k_

theorem State.withoutImage_keeps {p_ : Allow} {z : State} {s : State}  (haon_ : p_.may .aon = true) (h_ : Keeps p_ z s) : Keeps p_ z (State.withoutImage s) := by
  unfold State.withoutImage
  repeat' (first | with_reducible assumption | with_reducible exact Keeps.refl _ _ | with_reducible apply State.addCause_keeps | with_reducible apply State.setAon_keeps | with_reducible apply State.setCmd_keeps | with_reducible apply keepsParts_intro | with_reducible exact Or.inl (by with_reducible assumption) | with_reducible exact Or.inr rfl | simp only [keeps_mk] | with_reducible refine keepsMk_of ?_ ⟨rfl, rfl⟩ (fun h_ => by first | exact h_ | simpa only [updAt_length] using h_ | with_unfolding_all rfl) ?_ ?_ | with_reducible refine keepsMk_clear ?_ (by assumption) rfl (fun h_ => by first | exact h_ | simpa only [updAt_length] using h_ | with_unfolding_all rfl) ?_ ?_ | with_reducible refine keepsMk_reset ?_ (by assumption) rfl (fun h_ => by first | exact h_ | simpa only [updAt_length] using h_ | with_unfolding_all rfl) ?_ ?_ | refine State.setMem_clear _ (by assumption) rfl ?_ | dsimp only | intro _ _ | intro _)

theorem State.sampleHead_keeps {p_ : Allow} {z : State} {s : State} (head : Bool)  (haon_ : p_.may .aon = true) (h_ : Keeps p_ z s) : Keeps p_ z (State.sampleHead s head) := by
  unfold State.sampleHead
  repeat' (first | with_reducible assumption | with_reducible exact Keeps.refl _ _ | with_reducible apply State.setAon_keeps | with_reducible apply keepsParts_intro | with_reducible exact Or.inl (by with_reducible assumption) | with_reducible exact Or.inr rfl | simp only [keeps_mk] | with_reducible refine keepsMk_of ?_ ⟨rfl, rfl⟩ (fun h_ => by first | exact h_ | simpa only [updAt_length] using h_ | with_unfolding_all rfl) ?_ ?_ | with_reducible refine keepsMk_clear ?_ (by assumption) rfl (fun h_ => by first | exact h_ | simpa only [updAt_length] using h_ | with_unfolding_all rfl) ?_ ?_ | with_reducible refine keepsMk_reset ?_ (by assumption) rfl (fun h_ => by first | exact h_ | simpa only [updAt_length] using h_ | with_unfolding_all rfl) ?_ ?_ | refine State.setMem_clear _ (by assumption) rfl ?_ | dsimp only | intro _ _ | intro _)

theorem State.resetFromDormant_keeps {p_ : Allow} {z : State} {s : State}  (hl_ : p_.lose = true) (hfree_ : p_.may .free = true) (hevents_ : p_.may .events = true) (haon_ : p_.may .aon = true) (hports_ : p_.may .ports = true) (hing_ : p_.may .ing = true) (hpec_ : p_.may .pec = true) (hcapIn_ : p_.may .capIn = true) (haln_ : p_.may .aln = true) (hlim_ : p_.may .lim = true) (hisl_ : p_.may .isl = true) (hbatches_ : p_.may .batches = true) (hpub_ : p_.may .pub = true) (hosc_ : p_.may .osc = true) (hcap_ : p_.may .cap = true) (hflt_ : p_.may .flt = true) (hkey_ : p_.may .key = true) (hevr_ : p_.may .evr = true) (hmbx_ : p_.may .mbx = true) (htime_ : p_.clock = true) (h_ : Keeps p_ z s) : Keeps p_ z (State.resetFromDormant s) := by
  unfold State.resetFromDormant
  repeat' (first | with_reducible assumption | with_reducible exact Keeps.refl _ _ | with_reducible apply State.resetAll_keeps | with_reducible apply State.setCmd_keeps | refine State.setMem_clear _ (by assumption) rfl ?_ | with_reducible apply keepsParts_intro | with_reducible exact Or.inl (by with_reducible assumption) | with_reducible exact Or.inr rfl | simp only [keeps_mk] | with_reducible refine keepsMk_of ?_ ⟨rfl, rfl⟩ (fun h_ => by first | exact h_ | simpa only [updAt_length] using h_ | with_unfolding_all rfl) ?_ ?_ | with_reducible refine keepsMk_clear ?_ (by assumption) rfl (fun h_ => by first | exact h_ | simpa only [updAt_length] using h_ | with_unfolding_all rfl) ?_ ?_ | with_reducible refine keepsMk_reset ?_ (by assumption) rfl (fun h_ => by first | exact h_ | simpa only [updAt_length] using h_ | with_unfolding_all rfl) ?_ ?_ | refine State.setMem_clear _ (by assumption) rfl ?_ | dsimp only | intro _ _ | intro _)

theorem State.completeStart_keeps {p_ : Allow} {z : State} {s : State} (t : Transition) (a : StartArgs)  (hl_ : p_.lose = true) (hrdata_ : p_.may .rdata = true) (hfree_ : p_.may .free = true) (hevents_ : p_.may .events = true) (haon_ : p_.may .aon = true) (hports_ : p_.may .ports = true) (hing_ : p_.may .ing = true) (hpec_ : p_.may .pec = true) (hcapIn_ : p_.may .capIn = true) (haln_ : p_.may .aln = true) (hlim_ : p_.may .lim = true) (hisl_ : p_.may .isl = true) (hbatches_ : p_.may .batches = true) (hpub_ : p_.may .pub = true) (hosc_ : p_.may .osc = true) (hcap_ : p_.may .cap = true) (hflt_ : p_.may .flt = true) (hkey_ : p_.may .key = true) (hevr_ : p_.may .evr = true) (hmbx_ : p_.may .mbx = true) (htime_ : p_.clock = true) (h_ : Keeps p_ z s) : Keeps p_ z (State.completeStart s t a) := by
  unfold State.completeStart
  repeat' (first | with_reducible assumption | with_reducible exact Keeps.refl _ _ | with_reducible apply State.loadImages_keeps | with_reducible apply State.coldStart_keeps | with_reducible apply State.released_keeps | with_reducible apply State.startIdentity_keeps | with_reducible apply State.withoutImage_keeps | with_reducible apply State.resetFromDormant_keeps | with_reducible apply State.sampleHead_keeps | with_reducible apply State.setAon_keeps | with_reducible refine State.loadImages_keeps_of (by with_reducible assumption) ?_ ?_ ?_ | with_reducible apply keepsParts_intro | with_reducible exact Or.inl (by with_reducible assumption) | with_reducible exact Or.inr rfl | simp only [keeps_mk] | with_reducible refine keepsMk_of ?_ ⟨rfl, rfl⟩ (fun h_ => by first | exact h_ | simpa only [updAt_length] using h_ | with_unfolding_all rfl) ?_ ?_ | with_reducible refine keepsMk_clear ?_ (by assumption) rfl (fun h_ => by first | exact h_ | simpa only [updAt_length] using h_ | with_unfolding_all rfl) ?_ ?_ | with_reducible refine keepsMk_reset ?_ (by assumption) rfl (fun h_ => by first | exact h_ | simpa only [updAt_length] using h_ | with_unfolding_all rfl) ?_ ?_ | refine State.setMem_clear _ (by assumption) rfl ?_ | with_reducible apply keeps_ite | split | intro _ _ | dsimp only | intro _ _ | intro _)

theorem State.watchdogReset_keeps {p_ : Allow} {z : State} {s : State} (isl : Nat) (inj : Bool)  (hfree_ : p_.may .free = true) (hevents_ : p_.may .events = true) (haon_ : p_.may .aon = true) (hports_ : p_.may .ports = true) (hing_ : p_.may .ing = true) (hpec_ : p_.may .pec = true) (hcapIn_ : p_.may .capIn = true) (haln_ : p_.may .aln = true) (hlim_ : p_.may .lim = true) (hisl_ : p_.may .isl = true) (hbatches_ : p_.may .batches = true) (hpub_ : p_.may .pub = true) (hosc_ : p_.may .osc = true) (hcap_ : p_.may .cap = true) (hflt_ : p_.may .flt = true) (hkey_ : p_.may .key = true) (hevr_ : p_.may .evr = true) (hmbx_ : p_.may .mbx = true) (htime_ : p_.clock = true) (h_ : Keeps p_ z s) : Keeps p_ z (State.watchdogReset s isl inj) := by
  unfold State.watchdogReset
  repeat' (first | with_reducible assumption | with_reducible exact Keeps.refl _ _ | with_reducible apply State.tripInterlock_keeps | with_reducible apply State.resetIsland_keeps | with_reducible apply State.dropHeld_keeps | dsimp only | intro _ _ | intro _)

theorem State.sramRead_keeps {p_ : Allow} {z : State} {s : State} (double : Bool) (area : Nat)  (hfree_ : p_.may .free = true) (hevents_ : p_.may .events = true) (haon_ : p_.may .aon = true) (hports_ : p_.may .ports = true) (hing_ : p_.may .ing = true) (hpec_ : p_.may .pec = true) (hcapIn_ : p_.may .capIn = true) (haln_ : p_.may .aln = true) (hlim_ : p_.may .lim = true) (hisl_ : p_.may .isl = true) (hbatches_ : p_.may .batches = true) (hpub_ : p_.may .pub = true) (hosc_ : p_.may .osc = true) (hcap_ : p_.may .cap = true) (hflt_ : p_.may .flt = true) (hkey_ : p_.may .key = true) (hevr_ : p_.may .evr = true) (hmbx_ : p_.may .mbx = true) (htime_ : p_.clock = true) (h_ : Keeps p_ z s) : Keeps p_ z (State.sramRead s double area) := by
  unfold State.sramRead
  repeat' (first | with_reducible assumption | with_reducible exact Keeps.refl _ _ | with_reducible apply State.occasion_keeps | with_reducible apply State.detect_keeps | with_reducible apply State.watchdogReset_keeps | with_reducible apply State.runAgain_keeps | with_reducible refine State.occasion_keeps_of (by with_reducible assumption) ?_ ?_ | with_reducible apply keepsParts_intro | with_reducible exact Or.inl (by with_reducible assumption) | with_reducible exact Or.inr rfl | simp only [keeps_mk] | with_reducible refine keepsMk_of ?_ ⟨rfl, rfl⟩ (fun h_ => by first | exact h_ | simpa only [updAt_length] using h_ | with_unfolding_all rfl) ?_ ?_ | with_reducible refine keepsMk_clear ?_ (by assumption) rfl (fun h_ => by first | exact h_ | simpa only [updAt_length] using h_ | with_unfolding_all rfl) ?_ ?_ | with_reducible refine keepsMk_reset ?_ (by assumption) rfl (fun h_ => by first | exact h_ | simpa only [updAt_length] using h_ | with_unfolding_all rfl) ?_ ?_ | refine State.setMem_clear _ (by assumption) rfl ?_ | with_reducible apply keeps_ite | split | intro _ _ | dsimp only | intro _ _ | intro _)

theorem State.setProfile_keeps {p_ : Allow} {z : State} {s : State} (efficient : Bool)  (hfree_ : p_.may .free = true) (haon_ : p_.may .aon = true) (h_ : Keeps p_ z s) : Keeps p_ z (State.setProfile s efficient) := by
  unfold State.setProfile
  repeat' (first | with_reducible assumption | with_reducible exact Keeps.refl _ _ | with_reducible apply State.nextFree_keeps | with_reducible apply State.setAon_keeps | with_reducible apply keepsParts_intro | with_reducible exact Or.inl (by with_reducible assumption) | with_reducible exact Or.inr rfl | simp only [keeps_mk] | with_reducible refine keepsMk_of ?_ ⟨rfl, rfl⟩ (fun h_ => by first | exact h_ | simpa only [updAt_length] using h_ | with_unfolding_all rfl) ?_ ?_ | with_reducible refine keepsMk_clear ?_ (by assumption) rfl (fun h_ => by first | exact h_ | simpa only [updAt_length] using h_ | with_unfolding_all rfl) ?_ ?_ | with_reducible refine keepsMk_reset ?_ (by assumption) rfl (fun h_ => by first | exact h_ | simpa only [updAt_length] using h_ | with_unfolding_all rfl) ?_ ?_ | refine State.setMem_clear _ (by assumption) rfl ?_ | with_reducible apply keeps_ite | split | intro _ _ | dsimp only | intro _ _ | intro _)

theorem State.settleCompanion_keeps {p_ : Allow} {z : State} {s : State} (was : Bool)  (hevents_ : p_.may .events = true) (haon_ : p_.may .aon = true) (h_ : Keeps p_ z s) : Keeps p_ z (State.settleCompanion s was) := by
  unfold State.settleCompanion
  repeat' (first | with_reducible assumption | with_reducible exact Keeps.refl _ _ | with_reducible apply State.startIdentity_keeps | with_reducible apply State.fallBack_keeps | with_reducible apply State.setAon_keeps | with_reducible apply keepsParts_intro | with_reducible exact Or.inl (by with_reducible assumption) | with_reducible exact Or.inr rfl | simp only [keeps_mk] | with_reducible refine keepsMk_of ?_ ⟨rfl, rfl⟩ (fun h_ => by first | exact h_ | simpa only [updAt_length] using h_ | with_unfolding_all rfl) ?_ ?_ | with_reducible refine keepsMk_clear ?_ (by assumption) rfl (fun h_ => by first | exact h_ | simpa only [updAt_length] using h_ | with_unfolding_all rfl) ?_ ?_ | with_reducible refine keepsMk_reset ?_ (by assumption) rfl (fun h_ => by first | exact h_ | simpa only [updAt_length] using h_ | with_unfolding_all rfl) ?_ ?_ | refine State.setMem_clear _ (by assumption) rfl ?_ | with_reducible apply keeps_ite | split | dsimp only | intro _ _ | intro _)

/-! ### Machine/Power.lean -/

theorem execSupplyInRange_keeps {p_ : Allow} {z : State} (at_ : Instant) (tempC : Int) {s0 : State}  (hl_ : p_.lose = true) (hfree_ : p_.may .free = true) (hevents_ : p_.may .events = true) (haon_ : p_.may .aon = true) (hports_ : p_.may .ports = true) (hpub_ : p_.may .pub = true) (hcap_ : p_.may .cap = true) (hkey_ : p_.may .key = true) (hevr_ : p_.may .evr = true) (hmbx_ : p_.may .mbx = true) (htime_ : p_.clock = true) (h_ : Keeps p_ z s0) : KeepsOut p_ z (execSupplyInRange at_ tempC s0) := by
  unfold execSupplyInRange
  repeat' (first | with_reducible assumption | with_reducible exact Keeps.refl _ _ | with_reducible apply State.advance_keeps | with_reducible apply State.powerDown_keeps | with_reducible apply State.setAon_keeps | with_reducible apply State.dropCause_keeps | with_reducible apply State.begin_keeps | with_reducible apply KeepsRes.done | with_reducible apply KeepsRes.accepted | with_reducible apply KeepsRes.waiting | with_reducible apply KeepsOut.next | with_reducible apply keepsParts_intro | with_reducible exact Or.inl (by with_reducible assumption) | with_reducible exact Or.inr rfl | simp only [keeps_mk] | with_reducible refine keepsMk_of ?_ ⟨rfl, rfl⟩ (fun h_ => by first | exact h_ | simpa only [updAt_length] using h_ | with_unfolding_all rfl) ?_ ?_ | with_reducible apply keeps_ite | with_reducible apply keepsOut_ite | split | dsimp only | intro _ _ | intro _)

theorem execPowerUpComplete_keeps {p_ : Allow} {z : State} (at_ : Instant) (a : StartArgs) {s0 : State}  (hl_ : p_.lose = true) (hrdata_ : p_.may .rdata = true) (hfree_ : p_.may .free = true) (hevents_ : p_.may .events = true) (haon_ : p_.may .aon = true) (hports_ : p_.may .ports = true) (hing_ : p_.may .ing = true) (hpec_ : p_.may .pec = true) (hcapIn_ : p_.may .capIn = true) (haln_ : p_.may .aln = true) (hlim_ : p_.may .lim = true) (hisl_ : p_.may .isl = true) (hbatches_ : p_.may .batches = true) (hpub_ : p_.may .pub = true) (hosc_ : p_.may .osc = true) (hcap_ : p_.may .cap = true) (hflt_ : p_.may .flt = true) (hkey_ : p_.may .key = true) (hevr_ : p_.may .evr = true) (hmbx_ : p_.may .mbx = true) (htime_ : p_.clock = true) (h_ : Keeps p_ z s0) : KeepsOut p_ z (execPowerUpComplete at_ a s0) := by
  unfold execPowerUpComplete
  repeat' (first | with_reducible assumption | with_reducible exact Keeps.refl _ _ | with_reducible apply State.advance_keeps | with_reducible apply State.completeStart_keeps | with_reducible apply KeepsRes.done | with_reducible apply KeepsRes.accepted | with_reducible apply KeepsRes.waiting | with_reducible apply KeepsOut.next | with_reducible apply keepsParts_intro | with_reducible exact Or.inl (by with_reducible assumption) | with_reducible exact Or.inr rfl | simp only [keeps_mk] | with_reducible refine keepsMk_of ?_ ⟨rfl, rfl⟩ (fun h_ => by first | exact h_ | simpa only [updAt_length] using h_ | with_unfolding_all rfl) ?_ ?_ | with_reducible apply keeps_ite | with_reducible apply keepsOut_ite | split | intro _ _ | dsimp only | intro _ _ | intro _)

theorem execVinLoss_keeps {p_ : Allow} {z : State} (at_ : Instant) {s0 : State}  (hl_ : p_.lose = true) (hfree_ : p_.may .free = true) (hevents_ : p_.may .events = true) (haon_ : p_.may .aon = true) (hports_ : p_.may .ports = true) (hpub_ : p_.may .pub = true) (hcap_ : p_.may .cap = true) (hkey_ : p_.may .key = true) (hevr_ : p_.may .evr = true) (hmbx_ : p_.may .mbx = true) (htime_ : p_.clock = true) (h_ : Keeps p_ z s0) : KeepsOut p_ z (execVinLoss at_ s0) := by
  unfold execVinLoss
  repeat' (first | with_reducible assumption | with_reducible exact Keeps.refl _ _ | with_reducible apply State.advance_keeps | with_reducible apply State.setAon_keeps | with_reducible apply State.addCause_keeps | with_reducible apply State.powerDown_keeps | with_reducible apply KeepsRes.done | with_reducible apply KeepsRes.accepted | with_reducible apply KeepsRes.waiting | with_reducible apply KeepsOut.next | with_reducible apply keepsParts_intro | with_reducible exact Or.inl (by with_reducible assumption) | with_reducible exact Or.inr rfl | simp only [keeps_mk] | with_reducible refine keepsMk_of ?_ ⟨rfl, rfl⟩ (fun h_ => by first | exact h_ | simpa only [updAt_length] using h_ | with_unfolding_all rfl) ?_ ?_ | with_reducible apply keeps_ite | with_reducible apply keepsOut_ite | split | dsimp only | intro _ _ | intro _)

theorem execVioOutOfRange_keeps {p_ : Allow} {z : State} (at_ : Instant) {s0 : State}  (haon_ : p_.may .aon = true) (hpub_ : p_.may .pub = true) (htime_ : p_.clock = true) (h_ : Keeps p_ z s0) : KeepsOut p_ z (execVioOutOfRange at_ s0) := by
  unfold execVioOutOfRange
  repeat' (first | with_reducible assumption | with_reducible exact Keeps.refl _ _ | with_reducible apply State.advance_keeps | with_reducible apply State.setAon_keeps | with_reducible apply State.addCause_keeps | with_reducible apply State.releaseLands_keeps | with_reducible apply KeepsRes.done | with_reducible apply KeepsRes.accepted | with_reducible apply KeepsRes.waiting | with_reducible apply KeepsOut.next | with_reducible apply keepsParts_intro | with_reducible exact Or.inl (by with_reducible assumption) | with_reducible exact Or.inr rfl | simp only [keeps_mk] | with_reducible refine keepsMk_of ?_ ⟨rfl, rfl⟩ (fun h_ => by first | exact h_ | simpa only [updAt_length] using h_ | with_unfolding_all rfl) ?_ ?_ | dsimp only | intro _ _ | intro _)

theorem execVinAboveRange_keeps {p_ : Allow} {z : State} (at_ : Instant) {s0 : State}  (haon_ : p_.may .aon = true) (htime_ : p_.clock = true) (h_ : Keeps p_ z s0) : KeepsOut p_ z (execVinAboveRange at_ s0) := by
  unfold execVinAboveRange
  repeat' (first | with_reducible assumption | with_reducible exact Keeps.refl _ _ | with_reducible apply State.advance_keeps | with_reducible apply State.setAon_keeps | with_reducible apply State.addCause_keeps | with_reducible apply KeepsRes.done | with_reducible apply KeepsRes.accepted | with_reducible apply KeepsRes.waiting | with_reducible apply KeepsOut.next | with_reducible apply keepsParts_intro | with_reducible exact Or.inl (by with_reducible assumption) | with_reducible exact Or.inr rfl | simp only [keeps_mk] | with_reducible refine keepsMk_of ?_ ⟨rfl, rfl⟩ (fun h_ => by first | exact h_ | simpa only [updAt_length] using h_ | with_unfolding_all rfl) ?_ ?_ | dsimp only | intro _ _ | intro _)

theorem execResetNPulse_keeps {p_ : Allow} {z : State} (at_ : Instant) (widthNs : Nat) {s0 : State}  (hfree_ : p_.may .free = true) (hevents_ : p_.may .events = true) (haon_ : p_.may .aon = true) (hports_ : p_.may .ports = true) (hing_ : p_.may .ing = true) (hpec_ : p_.may .pec = true) (hcapIn_ : p_.may .capIn = true) (haln_ : p_.may .aln = true) (hlim_ : p_.may .lim = true) (hisl_ : p_.may .isl = true) (hbatches_ : p_.may .batches = true) (hpub_ : p_.may .pub = true) (hosc_ : p_.may .osc = true) (hcap_ : p_.may .cap = true) (hflt_ : p_.may .flt = true) (hkey_ : p_.may .key = true) (hevr_ : p_.may .evr = true) (hmbx_ : p_.may .mbx = true) (htime_ : p_.clock = true) (h_ : Keeps p_ z s0) : KeepsOut p_ z (execResetNPulse at_ widthNs s0) := by
  unfold execResetNPulse
  repeat' (first | with_reducible assumption | with_reducible exact Keeps.refl _ _ | with_reducible apply State.advance_keeps | with_reducible apply State.nextFree_keeps | with_reducible apply State.wakeUp_keeps | with_reducible apply State.resetAll_keeps | with_reducible apply State.setCmd_keeps | with_reducible apply State.setAon_keeps | with_reducible apply State.begin_keeps | with_reducible apply KeepsRes.done | with_reducible apply KeepsRes.accepted | with_reducible apply KeepsRes.waiting | with_reducible apply KeepsOut.next | with_reducible apply keepsParts_intro | with_reducible exact Or.inl (by with_reducible assumption) | with_reducible exact Or.inr rfl | simp only [keeps_mk] | with_reducible refine keepsMk_of ?_ ⟨rfl, rfl⟩ (fun h_ => by first | exact h_ | simpa only [updAt_length] using h_ | with_unfolding_all rfl) ?_ ?_ | with_reducible apply keeps_ite | with_reducible apply keepsOut_ite | split | intro _ _ | dsimp only | intro _ _ | intro _)

theorem execPerstNAssert_keeps {p_ : Allow} {z : State} (at_ : Instant) {s0 : State}  (hevents_ : p_.may .events = true) (haon_ : p_.may .aon = true) (htime_ : p_.clock = true) (h_ : Keeps p_ z s0) : KeepsOut p_ z (execPerstNAssert at_ s0) := by
  unfold execPerstNAssert
  repeat' (first | with_reducible assumption | with_reducible exact Keeps.refl _ _ | with_reducible apply State.advance_keeps | with_reducible apply State.setAon_keeps | with_reducible apply State.breakAll_keeps | with_reducible apply State.closeSessions_keeps | with_reducible apply State.clearRings_keeps | with_reducible apply State.resetRegs_keeps | with_reducible apply State.setCmd_keeps | with_reducible apply State.raiseGen_keeps | with_reducible apply KeepsRes.done | with_reducible apply KeepsRes.accepted | with_reducible apply KeepsRes.waiting | with_reducible apply KeepsOut.next | with_reducible apply keepsParts_intro | with_reducible exact Or.inl (by with_reducible assumption) | with_reducible exact Or.inr rfl | simp only [keeps_mk] | with_reducible refine keepsMk_of ?_ ⟨rfl, rfl⟩ (fun h_ => by first | exact h_ | simpa only [updAt_length] using h_ | with_unfolding_all rfl) ?_ ?_ | with_reducible apply keeps_ite | with_reducible apply keepsOut_ite | split | dsimp only | intro _ _ | intro _)

theorem execPerstNRelease_keeps {p_ : Allow} {z : State} (at_ : Instant) {s0 : State}  (haon_ : p_.may .aon = true) (htime_ : p_.clock = true) (h_ : Keeps p_ z s0) : KeepsOut p_ z (execPerstNRelease at_ s0) := by
  unfold execPerstNRelease
  repeat' (first | with_reducible assumption | with_reducible exact Keeps.refl _ _ | with_reducible apply State.advance_keeps | with_reducible apply State.setAon_keeps | with_reducible apply State.resetRegs_keeps | with_reducible apply State.wakeUp_keeps | with_reducible apply KeepsRes.done | with_reducible apply KeepsRes.accepted | with_reducible apply KeepsRes.waiting | with_reducible apply KeepsOut.next | with_reducible apply keepsParts_intro | with_reducible exact Or.inl (by with_reducible assumption) | with_reducible exact Or.inr rfl | simp only [keeps_mk] | with_reducible refine keepsMk_of ?_ ⟨rfl, rfl⟩ (fun h_ => by first | exact h_ | simpa only [updAt_length] using h_ | with_unfolding_all rfl) ?_ ?_ | with_reducible apply keeps_ite | with_reducible apply keepsOut_ite | split | dsimp only | intro _ _ | intro _)

theorem execWakeNEdge_keeps {p_ : Allow} {z : State} (at_ : Instant) {s0 : State}  (haon_ : p_.may .aon = true) (htime_ : p_.clock = true) (h_ : Keeps p_ z s0) : KeepsOut p_ z (execWakeNEdge at_ s0) := by
  unfold execWakeNEdge
  repeat' (first | with_reducible assumption | with_reducible exact Keeps.refl _ _ | with_reducible apply State.advance_keeps | with_reducible apply State.wakeUp_keeps | with_reducible apply KeepsRes.done | with_reducible apply KeepsRes.accepted | with_reducible apply KeepsRes.waiting | with_reducible apply KeepsOut.next | with_reducible apply keeps_ite | with_reducible apply keepsOut_ite | split | dsimp only | intro _ _ | intro _)

theorem execWakePatternMatch_keeps {p_ : Allow} {z : State} (at_ : Instant) (m : Fin 2) (f : WakeFrame) {s0 : State}  (haon_ : p_.may .aon = true) (htime_ : p_.clock = true) (h_ : Keeps p_ z s0) : KeepsOut p_ z (execWakePatternMatch at_ m f s0) := by
  unfold execWakePatternMatch
  repeat' (first | with_reducible assumption | with_reducible exact Keeps.refl _ _ | with_reducible apply State.advance_keeps | with_reducible apply State.setReg_keeps | with_reducible apply State.setAon_keeps | with_reducible apply State.wakeUp_keeps | with_reducible apply KeepsRes.done | with_reducible apply KeepsRes.accepted | with_reducible apply KeepsRes.waiting | with_reducible apply KeepsOut.next | with_reducible apply keepsParts_intro | with_reducible exact Or.inl (by with_reducible assumption) | with_reducible exact Or.inr rfl | simp only [keeps_mk] | with_reducible refine keepsMk_of ?_ ⟨rfl, rfl⟩ (fun h_ => by first | exact h_ | simpa only [updAt_length] using h_ | with_unfolding_all rfl) ?_ ?_ | with_reducible apply keeps_ite | with_reducible apply keepsOut_ite | split | intro _ _ | dsimp only | intro _ _ | intro _)

theorem execStateTransitionComplete_keeps {p_ : Allow} {z : State} (at_ : Instant) {s0 : State}  (hl_ : p_.lose = true) (hfree_ : p_.may .free = true) (hevents_ : p_.may .events = true) (haon_ : p_.may .aon = true) (hports_ : p_.may .ports = true) (hpec_ : p_.may .pec = true) (hpub_ : p_.may .pub = true) (hcap_ : p_.may .cap = true) (hflt_ : p_.may .flt = true) (hkey_ : p_.may .key = true) (hevr_ : p_.may .evr = true) (hmbx_ : p_.may .mbx = true) (htime_ : p_.clock = true) (h_ : Keeps p_ z s0) : KeepsOut p_ z (execStateTransitionComplete at_ s0) := by
  unfold execStateTransitionComplete
  repeat' (first | with_reducible assumption | with_reducible exact Keeps.refl _ _ | with_reducible apply State.advance_keeps | with_reducible apply State.complete_keeps | with_reducible apply State.enterState_keeps | with_reducible apply KeepsRes.done | with_reducible apply KeepsRes.accepted | with_reducible apply KeepsRes.waiting | with_reducible apply KeepsOut.next | with_reducible apply keepsParts_intro | with_reducible exact Or.inl (by with_reducible assumption) | with_reducible exact Or.inr rfl | simp only [keeps_mk] | with_reducible refine keepsMk_of ?_ ⟨rfl, rfl⟩ (fun h_ => by first | exact h_ | simpa only [updAt_length] using h_ | with_unfolding_all rfl) ?_ ?_ | with_reducible apply keeps_ite | with_reducible apply keepsOut_ite | split | intro _ _ | dsimp only | intro _ _ | intro _)

theorem execTemperatureSample_keeps {p_ : Allow} {z : State} (at_ : Instant) (tempC : Int) {s0 : State}  (hl_ : p_.lose = true) (hfree_ : p_.may .free = true) (hevents_ : p_.may .events = true) (haon_ : p_.may .aon = true) (hports_ : p_.may .ports = true) (hpub_ : p_.may .pub = true) (hcap_ : p_.may .cap = true) (hflt_ : p_.may .flt = true) (hkey_ : p_.may .key = true) (hevr_ : p_.may .evr = true) (hmbx_ : p_.may .mbx = true) (htime_ : p_.clock = true) (h_ : Keeps p_ z s0) : KeepsOut p_ z (execTemperatureSample at_ tempC s0) := by
  unfold execTemperatureSample
  repeat' (first | with_reducible assumption | with_reducible exact Keeps.refl _ _ | with_reducible apply State.advance_keeps | with_reducible apply State.shot_keeps | with_reducible apply State.occasion_keeps | with_reducible apply State.setAon_keeps | with_reducible apply State.setRb_keeps | with_reducible apply State.count_keeps | with_reducible apply State.vector_keeps | with_reducible apply State.detect_keeps | with_reducible apply State.addCause_keeps | with_reducible apply State.powerDown_keeps | with_reducible refine State.shot_keeps_of (by with_reducible assumption) ?_ ?_ | with_reducible refine State.occasion_keeps_of (by with_reducible assumption) ?_ ?_ | with_reducible apply KeepsRes.done | with_reducible apply KeepsRes.accepted | with_reducible apply KeepsRes.waiting | with_reducible apply KeepsOut.next | with_reducible apply keepsParts_intro | with_reducible exact Or.inl (by with_reducible assumption) | with_reducible exact Or.inr rfl | simp only [keeps_mk] | with_reducible refine keepsMk_of ?_ ⟨rfl, rfl⟩ (fun h_ => by first | exact h_ | simpa only [updAt_length] using h_ | with_unfolding_all rfl) ?_ ?_ | with_reducible apply keeps_ite | with_reducible apply keepsOut_ite | split | intro _ _ | dsimp only | intro _ _ | intro _)

theorem execIslandWatchdogExpiry_keeps {p_ : Allow} {z : State} (at_ : Instant) (isl : Fin 23) (real : Bool) {s0 : State}  (hfree_ : p_.may .free = true) (hevents_ : p_.may .events = true) (haon_ : p_.may .aon = true) (hports_ : p_.may .ports = true) (hing_ : p_.may .ing = true) (hpec_ : p_.may .pec = true) (hcapIn_ : p_.may .capIn = true) (haln_ : p_.may .aln = true) (hlim_ : p_.may .lim = true) (hisl_ : p_.may .isl = true) (hbatches_ : p_.may .batches = true) (hpub_ : p_.may .pub = true) (hosc_ : p_.may .osc = true) (hcap_ : p_.may .cap = true) (hflt_ : p_.may .flt = true) (hkey_ : p_.may .key = true) (hevr_ : p_.may .evr = true) (hmbx_ : p_.may .mbx = true) (htime_ : p_.clock = true) (h_ : Keeps p_ z s0) : KeepsOut p_ z (execIslandWatchdogExpiry at_ isl real s0) := by
  unfold execIslandWatchdogExpiry
  repeat' (first | with_reducible assumption | with_reducible exact Keeps.refl _ _ | with_reducible apply State.advance_keeps | with_reducible apply State.occasion_keeps | with_reducible apply State.watchdogReset_keeps | with_reducible apply State.setAon_keeps | with_reducible apply State.count_keeps | with_reducible apply State.detect_keeps | with_reducible apply State.runAgain_keeps | with_reducible apply State.addCause_keeps | with_reducible refine State.occasion_keeps_of (by with_reducible assumption) ?_ ?_ | with_reducible apply KeepsRes.done | with_reducible apply KeepsRes.accepted | with_reducible apply KeepsRes.waiting | with_reducible apply KeepsOut.next | with_reducible apply keepsParts_intro | with_reducible exact Or.inl (by with_reducible assumption) | with_reducible exact Or.inr rfl | simp only [keeps_mk] | with_reducible refine keepsMk_of ?_ ⟨rfl, rfl⟩ (fun h_ => by first | exact h_ | simpa only [updAt_length] using h_ | with_unfolding_all rfl) ?_ ?_ | with_reducible apply keeps_ite | with_reducible apply keepsOut_ite | split | intro _ _ | dsimp only | intro _ _ | intro _)

theorem execRailWindowFault_keeps {p_ : Allow} {z : State} (at_ : Instant) (rail : Fin 6) (real : Bool) {s0 : State}  (hevents_ : p_.may .events = true) (haon_ : p_.may .aon = true) (hflt_ : p_.may .flt = true) (htime_ : p_.clock = true) (h_ : Keeps p_ z s0) : KeepsOut p_ z (execRailWindowFault at_ rail real s0) := by
  unfold execRailWindowFault
  repeat' (first | with_reducible assumption | with_reducible exact Keeps.refl _ _ | with_reducible apply State.advance_keeps | with_reducible apply State.occasion_keeps | with_reducible apply State.setFlt_keeps | with_reducible apply State.addCause_keeps | with_reducible apply State.detect_keeps | with_reducible refine State.occasion_keeps_of (by with_reducible assumption) ?_ ?_ | with_reducible apply KeepsRes.done | with_reducible apply KeepsRes.accepted | with_reducible apply KeepsRes.waiting | with_reducible apply KeepsOut.next | with_reducible apply keepsParts_intro | with_reducible exact Or.inl (by with_reducible assumption) | with_reducible exact Or.inr rfl | simp only [keeps_mk] | with_reducible refine keepsMk_of ?_ ⟨rfl, rfl⟩ (fun h_ => by first | exact h_ | simpa only [updAt_length] using h_ | with_unfolding_all rfl) ?_ ?_ | with_reducible apply keeps_ite | with_reducible apply keepsOut_ite | split | intro _ _ | dsimp only | intro _ _ | intro _)

theorem execPllLockLoss_keeps {p_ : Allow} {z : State} (at_ : Instant) (isl : Fin 23) (real : Bool) {s0 : State}  (hfree_ : p_.may .free = true) (hevents_ : p_.may .events = true) (haon_ : p_.may .aon = true) (hports_ : p_.may .ports = true) (hing_ : p_.may .ing = true) (hpec_ : p_.may .pec = true) (hcapIn_ : p_.may .capIn = true) (haln_ : p_.may .aln = true) (hlim_ : p_.may .lim = true) (hisl_ : p_.may .isl = true) (hbatches_ : p_.may .batches = true) (hpub_ : p_.may .pub = true) (hosc_ : p_.may .osc = true) (hcap_ : p_.may .cap = true) (hflt_ : p_.may .flt = true) (hkey_ : p_.may .key = true) (hevr_ : p_.may .evr = true) (hmbx_ : p_.may .mbx = true) (htime_ : p_.clock = true) (h_ : Keeps p_ z s0) : KeepsOut p_ z (execPllLockLoss at_ isl real s0) := by
  unfold execPllLockLoss
  repeat' (first | with_reducible assumption | with_reducible exact Keeps.refl _ _ | with_reducible apply State.advance_keeps | with_reducible apply State.occasion_keeps | with_reducible apply State.resetIsland_keeps | with_reducible apply State.detect_keeps | with_reducible apply State.setAon_keeps | with_reducible refine State.occasion_keeps_of (by with_reducible assumption) ?_ ?_ | with_reducible apply KeepsRes.done | with_reducible apply KeepsRes.accepted | with_reducible apply KeepsRes.waiting | with_reducible apply KeepsOut.next | with_reducible apply keepsParts_intro | with_reducible exact Or.inl (by with_reducible assumption) | with_reducible exact Or.inr rfl | simp only [keeps_mk] | with_reducible refine keepsMk_of ?_ ⟨rfl, rfl⟩ (fun h_ => by first | exact h_ | simpa only [updAt_length] using h_ | with_unfolding_all rfl) ?_ ?_ | with_reducible apply keeps_ite | with_reducible apply keepsOut_ite | split | intro _ _ | dsimp only | intro _ _ | intro _)

theorem execPllRelock_keeps {p_ : Allow} {z : State} (at_ : Instant) (isl : Fin 23) {s0 : State}  (hfree_ : p_.may .free = true) (hevents_ : p_.may .events = true) (haon_ : p_.may .aon = true) (hports_ : p_.may .ports = true) (hpec_ : p_.may .pec = true) (hpub_ : p_.may .pub = true) (hosc_ : p_.may .osc = true) (hcap_ : p_.may .cap = true) (hflt_ : p_.may .flt = true) (hkey_ : p_.may .key = true) (hevr_ : p_.may .evr = true) (htime_ : p_.clock = true) (h_ : Keeps p_ z s0) : KeepsOut p_ z (execPllRelock at_ isl s0) := by
  unfold execPllRelock
  repeat' (first | with_reducible assumption | with_reducible exact Keeps.refl _ _ | with_reducible apply State.advance_keeps | with_reducible apply State.setAon_keeps | with_reducible apply State.runAgain_keeps | with_reducible apply KeepsRes.done | with_reducible apply KeepsRes.accepted | with_reducible apply KeepsRes.waiting | with_reducible apply KeepsOut.next | with_reducible apply keepsParts_intro | with_reducible exact Or.inl (by with_reducible assumption) | with_reducible exact Or.inr rfl | simp only [keeps_mk] | with_reducible refine keepsMk_of ?_ ⟨rfl, rfl⟩ (fun h_ => by first | exact h_ | simpa only [updAt_length] using h_ | with_unfolding_all rfl) ?_ ?_ | dsimp only | intro _ _ | intro _)

theorem execCpmMarginLoss_keeps {p_ : Allow} {z : State} (at_ : Instant) (isl : Fin 23) (real : Bool) {s0 : State}  (hfree_ : p_.may .free = true) (hevents_ : p_.may .events = true) (haon_ : p_.may .aon = true) (hflt_ : p_.may .flt = true) (htime_ : p_.clock = true) (h_ : Keeps p_ z s0) : KeepsOut p_ z (execCpmMarginLoss at_ isl real s0) := by
  unfold execCpmMarginLoss
  repeat' (first | with_reducible assumption | with_reducible exact Keeps.refl _ _ | with_reducible apply State.advance_keeps | with_reducible apply State.occasion_keeps | with_reducible apply State.detect_keeps | with_reducible apply State.nextFree_keeps | with_reducible apply State.setAon_keeps | with_reducible refine State.occasion_keeps_of (by with_reducible assumption) ?_ ?_ | with_reducible apply KeepsRes.done | with_reducible apply KeepsRes.accepted | with_reducible apply KeepsRes.waiting | with_reducible apply KeepsOut.next | with_reducible apply keepsParts_intro | with_reducible exact Or.inl (by with_reducible assumption) | with_reducible exact Or.inr rfl | simp only [keeps_mk] | with_reducible refine keepsMk_of ?_ ⟨rfl, rfl⟩ (fun h_ => by first | exact h_ | simpa only [updAt_length] using h_ | with_unfolding_all rfl) ?_ ?_ | with_reducible apply keeps_ite | with_reducible apply keepsOut_ite | split | intro _ _ | dsimp only | intro _ _ | intro _)

theorem execClockStretchEnd_keeps {p_ : Allow} {z : State} (isl : Fin 23) {s : State}  (haon_ : p_.may .aon = true) (htime_ : p_.clock = true) (h_ : Keeps p_ z s) : KeepsOut p_ z (execClockStretchEnd isl s) := by
  unfold execClockStretchEnd
  repeat' (first | with_reducible assumption | with_reducible exact Keeps.refl _ _ | with_reducible apply State.advanceUp_keeps | with_reducible apply State.setAon_keeps | with_reducible apply KeepsRes.done | with_reducible apply KeepsRes.accepted | with_reducible apply KeepsRes.waiting | with_reducible apply KeepsOut.next | with_reducible apply keepsParts_intro | with_reducible exact Or.inl (by with_reducible assumption) | with_reducible exact Or.inr rfl | simp only [keeps_mk] | with_reducible refine keepsMk_of ?_ ⟨rfl, rfl⟩ (fun h_ => by first | exact h_ | simpa only [updAt_length] using h_ | with_unfolding_all rfl) ?_ ?_ | split | intro _ _ | dsimp only | intro _ _ | intro _)

theorem execTcPresChange_keeps {p_ : Allow} {z : State} (at_ : Instant) (present : Bool) {s0 : State}  (hevents_ : p_.may .events = true) (haon_ : p_.may .aon = true) (htime_ : p_.clock = true) (h_ : Keeps p_ z s0) : KeepsOut p_ z (execTcPresChange at_ present s0) := by
  unfold execTcPresChange
  repeat' (first | with_reducible assumption | with_reducible exact Keeps.refl _ _ | with_reducible apply State.advance_keeps | with_reducible apply State.setAon_keeps | with_reducible apply State.companionChange_keeps | with_reducible apply KeepsRes.done | with_reducible apply KeepsRes.accepted | with_reducible apply KeepsRes.waiting | with_reducible apply KeepsOut.next | with_reducible apply keepsParts_intro | with_reducible exact Or.inl (by with_reducible assumption) | with_reducible exact Or.inr rfl | simp only [keeps_mk] | with_reducible refine keepsMk_of ?_ ⟨rfl, rfl⟩ (fun h_ => by first | exact h_ | simpa only [updAt_length] using h_ | with_unfolding_all rfl) ?_ ?_ | with_reducible apply keeps_ite | with_reducible apply keepsOut_ite | split | dsimp only | intro _ _ | intro _)

theorem execTc10IdentityReadComplete_keeps {p_ : Allow} {z : State} (at_ : Instant) (r : CompanionRead) {s0 : State}  (hevents_ : p_.may .events = true) (haon_ : p_.may .aon = true) (htime_ : p_.clock = true) (h_ : Keeps p_ z s0) : KeepsOut p_ z (execTc10IdentityReadComplete at_ r s0) := by
  unfold execTc10IdentityReadComplete
  repeat' (first | with_reducible assumption | with_reducible exact Keeps.refl _ _ | with_reducible apply State.advance_keeps | with_reducible apply State.takeIdentity_keeps | with_reducible apply KeepsRes.done | with_reducible apply KeepsRes.accepted | with_reducible apply KeepsRes.waiting | with_reducible apply KeepsOut.next | with_reducible apply keeps_ite | with_reducible apply keepsOut_ite | split | dsimp only | intro _ _ | intro _)

theorem execTc10WarmupEnd_keeps {p_ : Allow} {z : State} {s : State}  (haon_ : p_.may .aon = true) (htime_ : p_.clock = true) (h_ : Keeps p_ z s) : KeepsOut p_ z (execTc10WarmupEnd s) := by
  unfold execTc10WarmupEnd
  repeat' (first | with_reducible assumption | with_reducible exact Keeps.refl _ _ | with_reducible apply State.advanceUp_keeps | with_reducible apply State.setAon_keeps | with_reducible apply KeepsRes.done | with_reducible apply KeepsRes.accepted | with_reducible apply KeepsRes.waiting | with_reducible apply KeepsOut.next | with_reducible apply keepsParts_intro | with_reducible exact Or.inl (by with_reducible assumption) | with_reducible exact Or.inr rfl | simp only [keeps_mk] | with_reducible refine keepsMk_of ?_ ⟨rfl, rfl⟩ (fun h_ => by first | exact h_ | simpa only [updAt_length] using h_ | with_unfolding_all rfl) ?_ ?_ | split | intro _ _ | dsimp only | intro _ _ | intro _)

theorem bodyAonStatus_keeps {p_ : Allow} {z : State} {s : State}  (hfree_ : p_.may .free = true) (h_ : Keeps p_ z s) : KeepsRes p_ z (bodyAonStatus s) := by
  unfold bodyAonStatus
  repeat' (first | with_reducible assumption | with_reducible exact Keeps.refl _ _ | with_reducible apply ok_keeps | with_reducible apply State.nextFree_keeps | with_reducible apply KeepsRes.done | with_reducible apply KeepsRes.accepted | with_reducible apply KeepsRes.waiting | with_reducible apply KeepsOut.next | split | dsimp only | intro _ _ | intro _)

theorem execAonStatus_keeps {p_ : Allow} {z : State} (h : Hdr) {s : State}  (hfree_ : p_.may .free = true) (htime_ : p_.clock = true) (h_ : Keeps p_ z s) : KeepsOut p_ z (execAonStatus h s) := by
  unfold execAonStatus
  repeat' (first | with_reducible assumption | with_reducible exact Keeps.refl _ _ | with_reducible apply runCmd_keeps | with_reducible apply bodyAonStatus_keeps | with_reducible apply KeepsRes.done | with_reducible apply KeepsRes.accepted | with_reducible apply KeepsRes.waiting | with_reducible apply KeepsOut.next | dsimp only | intro _ _ | intro _)

theorem bodyPwrState_keeps {p_ : Allow} {z : State} (h : Hdr) (goal : PwrMode) {s : State}  (hevents_ : p_.may .events = true) (haon_ : p_.may .aon = true) (haln_ : p_.may .aln = true) (hisl_ : p_.may .isl = true) (hbatches_ : p_.may .batches = true) (hpub_ : p_.may .pub = true) (hosc_ : p_.may .osc = true) (hcap_ : p_.may .cap = true) (hflt_ : p_.may .flt = true) (hevr_ : p_.may .evr = true) (h_ : Keeps p_ z s) : KeepsRes p_ z (bodyPwrState h goal s) := by
  unfold bodyPwrState
  repeat' (first | with_reducible assumption | with_reducible exact Keeps.refl _ _ | with_reducible apply refuse_keeps | with_reducible apply State.leaveRun_keeps | with_reducible apply State.begin_keeps | with_reducible apply KeepsRes.done | with_reducible apply KeepsRes.accepted | with_reducible apply KeepsRes.waiting | with_reducible apply KeepsOut.next | with_reducible apply keeps_ite | with_reducible apply keepsRes_ite | split | dsimp only | intro _ _ | intro _)

theorem execPwrState_keeps {p_ : Allow} {z : State} (h : Hdr) (goal : PwrMode) {s : State}  (hevents_ : p_.may .events = true) (haon_ : p_.may .aon = true) (haln_ : p_.may .aln = true) (hisl_ : p_.may .isl = true) (hbatches_ : p_.may .batches = true) (hpub_ : p_.may .pub = true) (hosc_ : p_.may .osc = true) (hcap_ : p_.may .cap = true) (hflt_ : p_.may .flt = true) (hevr_ : p_.may .evr = true) (htime_ : p_.clock = true) (h_ : Keeps p_ z s) : KeepsOut p_ z (execPwrState h goal s) := by
  unfold execPwrState
  repeat' (first | with_reducible assumption | with_reducible exact Keeps.refl _ _ | with_reducible apply runCmd_keeps | with_reducible apply bodyPwrState_keeps | with_reducible apply KeepsRes.done | with_reducible apply KeepsRes.accepted | with_reducible apply KeepsRes.waiting | with_reducible apply KeepsOut.next | dsimp only | intro _ _ | intro _)

theorem bodyPwrProfile_keeps {p_ : Allow} {z : State} (efficient : Bool) {s : State}  (hfree_ : p_.may .free = true) (haon_ : p_.may .aon = true) (h_ : Keeps p_ z s) : KeepsRes p_ z (bodyPwrProfile efficient s) := by
  unfold bodyPwrProfile
  repeat' (first | with_reducible assumption | with_reducible exact Keeps.refl _ _ | with_reducible apply ok_keeps | with_reducible apply State.setRb_keeps | with_reducible apply State.setProfile_keeps | with_reducible apply KeepsRes.done | with_reducible apply KeepsRes.accepted | with_reducible apply KeepsRes.waiting | with_reducible apply KeepsOut.next | dsimp only | intro _ _ | intro _)

theorem execPwrProfile_keeps {p_ : Allow} {z : State} (h : Hdr) (efficient : Bool) {s : State}  (hfree_ : p_.may .free = true) (haon_ : p_.may .aon = true) (htime_ : p_.clock = true) (h_ : Keeps p_ z s) : KeepsOut p_ z (execPwrProfile h efficient s) := by
  unfold execPwrProfile
  repeat' (first | with_reducible assumption | with_reducible exact Keeps.refl _ _ | with_reducible apply runCmd_keeps | with_reducible apply bodyPwrProfile_keeps | with_reducible apply KeepsRes.done | with_reducible apply KeepsRes.accepted | with_reducible apply KeepsRes.waiting | with_reducible apply KeepsOut.next | dsimp only | intro _ _ | intro _)

theorem bodyTc10Identity_keeps {p_ : Allow} {z : State} {s : State}  (h_ : Keeps p_ z s) : KeepsRes p_ z (bodyTc10Identity s) := by
  unfold bodyTc10Identity
  repeat' (first | with_reducible assumption | with_reducible exact Keeps.refl _ _ | with_reducible apply ok_keeps | with_reducible apply KeepsRes.done | with_reducible apply KeepsRes.accepted | with_reducible apply KeepsRes.waiting | with_reducible apply KeepsOut.next | dsimp only | intro _ _ | intro _)

theorem execTc10Identity_keeps {p_ : Allow} {z : State} (h : Hdr) {s : State}  (htime_ : p_.clock = true) (h_ : Keeps p_ z s) : KeepsOut p_ z (execTc10Identity h s) := by
  unfold execTc10Identity
  repeat' (first | with_reducible assumption | with_reducible exact Keeps.refl _ _ | with_reducible apply runCmd_keeps | with_reducible apply bodyTc10Identity_keeps | with_reducible apply KeepsRes.done | with_reducible apply KeepsRes.accepted | with_reducible apply KeepsRes.waiting | with_reducible apply KeepsOut.next | dsimp only | intro _ _ | intro _)

theorem bodyAvfsRaw_keeps {p_ : Allow} {z : State} (a : AvfsArgs) {s : State}  (haon_ : p_.may .aon = true) (h_ : Keeps p_ z s) : KeepsRes p_ z (bodyAvfsRaw a s) := by
  unfold bodyAvfsRaw
  repeat' (first | with_reducible assumption | with_reducible exact Keeps.refl _ _ | with_reducible apply refuse_keeps | with_reducible apply State.setAon_keeps | with_reducible apply ok_keeps | with_reducible apply State.status_keeps | with_reducible apply KeepsRes.done | with_reducible apply KeepsRes.accepted | with_reducible apply KeepsRes.waiting | with_reducible apply KeepsOut.next | with_reducible apply keeps_foldl | with_reducible apply keeps_foldl_fst | with_reducible apply keeps_foldl_snd | intro _ _ _ | with_reducible apply keepsParts_intro | with_reducible exact Or.inl (by with_reducible assumption) | with_reducible exact Or.inr rfl | simp only [keeps_mk] | with_reducible refine keepsMk_of ?_ ⟨rfl, rfl⟩ (fun h_ => by first | exact h_ | simpa only [updAt_length] using h_ | with_unfolding_all rfl) ?_ ?_ | with_reducible apply keeps_ite | with_reducible apply keepsRes_ite | split | intro _ _ | dsimp only | intro _ _ | intro _)

theorem execAvfsRaw_keeps {p_ : Allow} {z : State} (h : Hdr) (a : AvfsArgs) {s : State}  (haon_ : p_.may .aon = true) (htime_ : p_.clock = true) (h_ : Keeps p_ z s) : KeepsOut p_ z (execAvfsRaw h a s) := by
  unfold execAvfsRaw
  repeat' (first | with_reducible assumption | with_reducible exact Keeps.refl _ _ | with_reducible apply runCmd_keeps | with_reducible apply bodyAvfsRaw_keeps | with_reducible apply KeepsRes.done | with_reducible apply KeepsRes.accepted | with_reducible apply KeepsRes.waiting | with_reducible apply KeepsOut.next | dsimp only | intro _ _ | intro _)

theorem bodyIslandReset_keeps {p_ : Allow} {z : State} (isl : Fin 23) {s : State}  (hfree_ : p_.may .free = true) (hevents_ : p_.may .events = true) (haon_ : p_.may .aon = true) (hports_ : p_.may .ports = true) (hing_ : p_.may .ing = true) (hpec_ : p_.may .pec = true) (hcapIn_ : p_.may .capIn = true) (haln_ : p_.may .aln = true) (hlim_ : p_.may .lim = true) (hisl_ : p_.may .isl = true) (hbatches_ : p_.may .batches = true) (hpub_ : p_.may .pub = true) (hosc_ : p_.may .osc = true) (hcap_ : p_.may .cap = true) (hflt_ : p_.may .flt = true) (hkey_ : p_.may .key = true) (hevr_ : p_.may .evr = true) (hmbx_ : p_.may .mbx = true) (htime_ : p_.clock = true) (h_ : Keeps p_ z s) : KeepsRes p_ z (bodyIslandReset isl s) := by
  unfold bodyIslandReset
  repeat' (first | with_reducible assumption | with_reducible exact Keeps.refl _ _ | with_reducible apply State.resetIsland_keeps | with_reducible apply State.setAon_keeps | with_reducible apply ok_keeps | with_reducible apply State.dropCause_keeps | with_reducible apply State.runAgain_keeps | with_reducible apply KeepsRes.done | with_reducible apply KeepsRes.accepted | with_reducible apply KeepsRes.waiting | with_reducible apply KeepsOut.next | with_reducible apply keepsParts_intro | with_reducible exact Or.inl (by with_reducible assumption) | with_reducible exact Or.inr rfl | simp only [keeps_mk] | with_reducible refine keepsMk_of ?_ ⟨rfl, rfl⟩ (fun h_ => by first | exact h_ | simpa only [updAt_length] using h_ | with_unfolding_all rfl) ?_ ?_ | with_reducible apply keeps_ite | with_reducible apply keepsRes_ite | split | dsimp only | intro _ _ | intro _)

theorem execIslandReset_keeps {p_ : Allow} {z : State} (h : Hdr) (isl : Fin 23) {s : State}  (hfree_ : p_.may .free = true) (hevents_ : p_.may .events = true) (haon_ : p_.may .aon = true) (hports_ : p_.may .ports = true) (hing_ : p_.may .ing = true) (hpec_ : p_.may .pec = true) (hcapIn_ : p_.may .capIn = true) (haln_ : p_.may .aln = true) (hlim_ : p_.may .lim = true) (hisl_ : p_.may .isl = true) (hbatches_ : p_.may .batches = true) (hpub_ : p_.may .pub = true) (hosc_ : p_.may .osc = true) (hcap_ : p_.may .cap = true) (hflt_ : p_.may .flt = true) (hkey_ : p_.may .key = true) (hevr_ : p_.may .evr = true) (hmbx_ : p_.may .mbx = true) (htime_ : p_.clock = true) (h_ : Keeps p_ z s) : KeepsOut p_ z (execIslandReset h isl s) := by
  unfold execIslandReset
  repeat' (first | with_reducible assumption | with_reducible exact Keeps.refl _ _ | with_reducible apply runCmd_keeps | with_reducible apply bodyIslandReset_keeps | with_reducible apply KeepsRes.done | with_reducible apply KeepsRes.accepted | with_reducible apply KeepsRes.waiting | with_reducible apply KeepsOut.next | dsimp only | intro _ _ | intro _)

/-! ### Machine/Faults.lean -/

theorem State.denyInjection_keeps {p_ : Allow} {z : State} {s : State}  (h_ : Keeps p_ z s) : Keeps p_ z (State.denyInjection s) := by
  unfold State.denyInjection
  repeat' (first | with_reducible assumption | with_reducible exact Keeps.refl _ _ | with_reducible apply State.count_keeps | with_reducible apply State.status_keeps | dsimp only | intro _ _ | intro _)

theorem State.armSlot_keeps {p_ : Allow} {z : State} {s : State} (i : Nat) (session : Fin 4)  (hevents_ : p_.may .events = true) (hflt_ : p_.may .flt = true) (h_ : Keeps p_ z s) : Keeps p_ z (State.armSlot s i session) := by
  unfold State.armSlot
  repeat' (first | with_reducible assumption | with_reducible exact Keeps.refl _ _ | with_reducible apply State.count_keeps | with_reducible apply State.setRb_keeps | with_reducible apply State.updInj_keeps | with_reducible apply State.raise_keeps | with_reducible apply keepsParts_intro | with_reducible exact Or.inl (by with_reducible assumption) | with_reducible exact Or.inr rfl | simp only [keeps_mk] | with_reducible refine keepsMk_of ?_ ⟨rfl, rfl⟩ (fun h_ => by first | exact h_ | simpa only [updAt_length] using h_ | with_unfolding_all rfl) ?_ ?_ | split | intro _ _ | dsimp only | intro _ _ | intro _)

theorem State.writeInjWords_keeps {p_ : Allow} {z : State} {s : State} (i : Nat) (sel ctl tm param : Word)  (h_ : Keeps p_ z s) : Keeps p_ z (State.writeInjWords s i sel ctl tm param) := by
  unfold State.writeInjWords
  repeat' (first | with_reducible assumption | with_reducible exact Keeps.refl _ _ | with_reducible apply State.setReg_keeps | dsimp only | intro _ _ | intro _)

theorem State.disarmSlot_keeps {p_ : Allow} {z : State} {s : State} (i : Nat)  (haon_ : p_.may .aon = true) (hflt_ : p_.may .flt = true) (hevr_ : p_.may .evr = true) (h_ : Keeps p_ z s) : Keeps p_ z (State.disarmSlot s i) := by
  unfold State.disarmSlot
  repeat' (first | with_reducible assumption | with_reducible exact Keeps.refl _ _ | with_reducible apply State.disarmInj_keeps | dsimp only | intro _ _ | intro _)

theorem bodyFltStatus_keeps {p_ : Allow} {z : State} {s : State}  (h_ : Keeps p_ z s) : KeepsRes p_ z (bodyFltStatus s) := by
  unfold bodyFltStatus
  repeat' (first | with_reducible assumption | with_reducible exact Keeps.refl _ _ | with_reducible apply ok_keeps | with_reducible apply KeepsRes.done | with_reducible apply KeepsRes.accepted | with_reducible apply KeepsRes.waiting | with_reducible apply KeepsOut.next | with_reducible apply keepsParts_intro | with_reducible exact Or.inl (by with_reducible assumption) | with_reducible exact Or.inr rfl | simp only [keeps_mk] | with_reducible refine keepsMk_of ?_ ⟨rfl, rfl⟩ (fun h_ => by first | exact h_ | simpa only [updAt_length] using h_ | with_unfolding_all rfl) ?_ ?_ | split | intro _ _ | dsimp only | intro _ _ | intro _)

theorem execFltStatus_keeps {p_ : Allow} {z : State} (h : Hdr) {s : State}  (htime_ : p_.clock = true) (h_ : Keeps p_ z s) : KeepsOut p_ z (execFltStatus h s) := by
  unfold execFltStatus
  repeat' (first | with_reducible assumption | with_reducible exact Keeps.refl _ _ | with_reducible apply runCmd_keeps | with_reducible apply bodyFltStatus_keeps | with_reducible apply KeepsRes.done | with_reducible apply KeepsRes.accepted | with_reducible apply KeepsRes.waiting | with_reducible apply KeepsOut.next | dsimp only | intro _ _ | intro _)

theorem bodyInject_keeps {p_ : Allow} {z : State} (h : Hdr) (a : InjectArgs) {s : State}  (hevents_ : p_.may .events = true) (haon_ : p_.may .aon = true) (hflt_ : p_.may .flt = true) (hevr_ : p_.may .evr = true) (h_ : Keeps p_ z s) : KeepsRes p_ z (bodyInject h a s) := by
  unfold bodyInject
  repeat' (first | with_reducible assumption | with_reducible exact Keeps.refl _ _ | with_reducible apply State.denyInjection_keeps | with_reducible apply State.disarm_keeps | with_reducible apply ok_keeps | with_reducible apply State.disarmSlot_keeps | with_reducible apply State.arm_keeps | with_reducible apply refuse_keeps | with_reducible apply State.writeInjWords_keeps | with_reducible apply State.armSlot_keeps | with_reducible refine State.arm_keeps_of (by with_reducible assumption) ?_ ?_ | with_reducible apply KeepsRes.done | with_reducible apply KeepsRes.accepted | with_reducible apply KeepsRes.waiting | with_reducible apply KeepsOut.next | with_reducible apply keepsParts_intro | with_reducible exact Or.inl (by with_reducible assumption) | with_reducible exact Or.inr rfl | simp only [keeps_mk] | with_reducible refine keepsMk_of ?_ ⟨rfl, rfl⟩ (fun h_ => by first | exact h_ | simpa only [updAt_length] using h_ | with_unfolding_all rfl) ?_ ?_ | with_reducible apply keeps_ite | with_reducible apply keepsRes_ite | split | intro _ _ | dsimp only | intro _ _ | intro _)

theorem execInject_keeps {p_ : Allow} {z : State} (h : Hdr) (a : InjectArgs) {s : State}  (hevents_ : p_.may .events = true) (haon_ : p_.may .aon = true) (hflt_ : p_.may .flt = true) (hevr_ : p_.may .evr = true) (htime_ : p_.clock = true) (h_ : Keeps p_ z s) : KeepsOut p_ z (execInject h a s) := by
  unfold execInject
  repeat' (first | with_reducible assumption | with_reducible exact Keeps.refl _ _ | with_reducible apply runCmd_keeps | with_reducible apply bodyInject_keeps | with_reducible apply KeepsRes.done | with_reducible apply KeepsRes.accepted | with_reducible apply KeepsRes.waiting | with_reducible apply KeepsOut.next | dsimp only | intro _ _ | intro _)

theorem bodyFltInjRaw_keeps {p_ : Allow} {z : State} (h : Hdr) (a : InjRawArgs) {s : State}  (hevents_ : p_.may .events = true) (haon_ : p_.may .aon = true) (hflt_ : p_.may .flt = true) (hevr_ : p_.may .evr = true) (h_ : Keeps p_ z s) : KeepsRes p_ z (bodyFltInjRaw h a s) := by
  unfold bodyFltInjRaw
  repeat' (first | with_reducible assumption | with_reducible exact Keeps.refl _ _ | with_reducible apply State.denyInjection_keeps | with_reducible apply ok_keeps | with_reducible apply State.disarmSlot_keeps | with_reducible apply State.writeInjWords_keeps | with_reducible apply refuse_keeps | with_reducible apply State.armSlot_keeps | with_reducible apply KeepsRes.done | with_reducible apply KeepsRes.accepted | with_reducible apply KeepsRes.waiting | with_reducible apply KeepsOut.next | with_reducible apply keeps_ite | with_reducible apply keepsRes_ite | split | dsimp only | intro _ _ | intro _)

theorem execFltInjRaw_keeps {p_ : Allow} {z : State} (h : Hdr) (a : InjRawArgs) {s : State}  (hevents_ : p_.may .events = true) (haon_ : p_.may .aon = true) (hflt_ : p_.may .flt = true) (hevr_ : p_.may .evr = true) (htime_ : p_.clock = true) (h_ : Keeps p_ z s) : KeepsOut p_ z (execFltInjRaw h a s) := by
  unfold execFltInjRaw
  repeat' (first | with_reducible assumption | with_reducible exact Keeps.refl _ _ | with_reducible apply runCmd_keeps | with_reducible apply bodyFltInjRaw_keeps | with_reducible apply KeepsRes.done | with_reducible apply KeepsRes.accepted | with_reducible apply KeepsRes.waiting | with_reducible apply KeepsOut.next | dsimp only | intro _ _ | intro _)

theorem State.writeInjCtl_keeps {p_ : Allow} {z : State} {s : State} (i : Nat) (v : Word) (session : Fin 4)  (hevents_ : p_.may .events = true) (haon_ : p_.may .aon = true) (hflt_ : p_.may .flt = true) (hevr_ : p_.may .evr = true) (h_ : Keeps p_ z s) : Keeps p_ z (State.writeInjCtl s i v session) := by
  unfold State.writeInjCtl
  repeat' (first | with_reducible assumption | with_reducible exact Keeps.refl _ _ | with_reducible apply State.setReg_keeps | with_reducible apply State.disarmSlot_keeps | with_reducible apply State.armSlot_keeps | with_reducible apply keeps_ite | split | dsimp only | intro _ _ | intro _)

theorem execInjSlotArm_keeps {p_ : Allow} {z : State} (at_ : Instant) (slot : Fin 8) (session : Fin 4) {s0 : State}  (hevents_ : p_.may .events = true) (haon_ : p_.may .aon = true) (hflt_ : p_.may .flt = true) (hevr_ : p_.may .evr = true) (htime_ : p_.clock = true) (h_ : Keeps p_ z s0) : KeepsOut p_ z (execInjSlotArm at_ slot session s0) := by
  unfold execInjSlotArm
  repeat' (first | with_reducible assumption | with_reducible exact Keeps.refl _ _ | with_reducible apply State.advance_keeps | with_reducible apply State.writeInjCtl_keeps | with_reducible apply State.denyInjection_keeps | with_reducible apply KeepsRes.done | with_reducible apply KeepsRes.accepted | with_reducible apply KeepsRes.waiting | with_reducible apply KeepsOut.next | with_reducible apply keeps_ite | with_reducible apply keepsOut_ite | split | dsimp only | intro _ _ | intro _)

theorem execInjSlotDisarm_keeps {p_ : Allow} {z : State} (at_ : Instant) (slot : Fin 8) {s0 : State}  (haon_ : p_.may .aon = true) (hflt_ : p_.may .flt = true) (hevr_ : p_.may .evr = true) (htime_ : p_.clock = true) (h_ : Keeps p_ z s0) : KeepsOut p_ z (execInjSlotDisarm at_ slot s0) := by
  unfold execInjSlotDisarm
  repeat' (first | with_reducible assumption | with_reducible exact Keeps.refl _ _ | with_reducible apply State.advance_keeps | with_reducible apply State.disarmSlot_keeps | with_reducible apply State.denyInjection_keeps | with_reducible apply KeepsRes.done | with_reducible apply KeepsRes.accepted | with_reducible apply KeepsRes.waiting | with_reducible apply KeepsOut.next | with_reducible apply keeps_ite | with_reducible apply keepsOut_ite | split | dsimp only | intro _ _ | intro _)

theorem State.expireHeartbeat_keeps {p_ : Allow} {z : State} {s : State} (real : Bool)  (hevents_ : p_.may .events = true) (hflt_ : p_.may .flt = true) (h_ : Keeps p_ z s) : Keeps p_ z (State.expireHeartbeat s real) := by
  unfold State.expireHeartbeat
  repeat' (first | with_reducible assumption | with_reducible exact Keeps.refl _ _ | with_reducible apply State.occasion_keeps | with_reducible apply State.breakAll_keeps | with_reducible apply State.closeSessions_keeps | with_reducible apply State.clearRings_keeps | with_reducible apply State.setCmd_keeps | with_reducible apply State.setRb_keeps | with_reducible apply State.raiseGen_keeps | with_reducible apply State.detect_keeps | with_reducible refine State.occasion_keeps_of (by with_reducible assumption) ?_ ?_ | with_reducible apply keepsParts_intro | with_reducible exact Or.inl (by with_reducible assumption) | with_reducible exact Or.inr rfl | simp only [keeps_mk] | with_reducible refine keepsMk_of ?_ ⟨rfl, rfl⟩ (fun h_ => by first | exact h_ | simpa only [updAt_length] using h_ | with_unfolding_all rfl) ?_ ?_ | split | intro _ _ | dsimp only | intro _ _ | intro _)

theorem execInjectionFire_keeps {p_ : Allow} {z : State} (slot : Fin 8) {s : State}  (hfree_ : p_.may .free = true) (hevents_ : p_.may .events = true) (haon_ : p_.may .aon = true) (hports_ : p_.may .ports = true) (hing_ : p_.may .ing = true) (hpec_ : p_.may .pec = true) (hcapIn_ : p_.may .capIn = true) (haln_ : p_.may .aln = true) (hlim_ : p_.may .lim = true) (hisl_ : p_.may .isl = true) (hbatches_ : p_.may .batches = true) (hpub_ : p_.may .pub = true) (hosc_ : p_.may .osc = true) (hcap_ : p_.may .cap = true) (hflt_ : p_.may .flt = true) (hkey_ : p_.may .key = true) (hevr_ : p_.may .evr = true) (hmbx_ : p_.may .mbx = true) (htime_ : p_.clock = true) (h_ : Keeps p_ z s) : KeepsOut p_ z (execInjectionFire slot s) := by
  unfold execInjectionFire
  repeat' (first | with_reducible assumption | with_reducible exact Keeps.refl _ _ | with_reducible apply State.advanceUp_keeps | with_reducible apply State.updInj_keeps | with_reducible apply State.expireHeartbeat_keeps | with_reducible apply execKatRun_keeps | with_reducible apply State.sramRead_keeps | with_reducible apply KeepsRes.done | with_reducible apply KeepsRes.accepted | with_reducible apply KeepsRes.waiting | with_reducible apply KeepsOut.next | with_reducible apply keeps_foldl | with_reducible apply keeps_foldl_fst | with_reducible apply keeps_foldl_snd | intro _ _ _ | with_reducible apply keepsParts_intro | with_reducible exact Or.inl (by with_reducible assumption) | with_reducible exact Or.inr rfl | simp only [keeps_mk] | with_reducible refine keepsMk_of ?_ ⟨rfl, rfl⟩ (fun h_ => by first | exact h_ | simpa only [updAt_length] using h_ | with_unfolding_all rfl) ?_ ?_ | with_reducible apply keeps_ite | with_reducible apply keepsOut_ite | split | dsimp only | intro _ _ | intro _)

theorem execInjectionSpanEnd_keeps {p_ : Allow} {z : State} (slot : Fin 8) {s : State}  (hflt_ : p_.may .flt = true) (htime_ : p_.clock = true) (h_ : Keeps p_ z s) : KeepsOut p_ z (execInjectionSpanEnd slot s) := by
  unfold execInjectionSpanEnd
  repeat' (first | with_reducible assumption | with_reducible exact Keeps.refl _ _ | with_reducible apply State.advanceUp_keeps | with_reducible apply State.updInj_keeps | with_reducible apply KeepsRes.done | with_reducible apply KeepsRes.accepted | with_reducible apply KeepsRes.waiting | with_reducible apply KeepsOut.next | with_reducible apply keepsParts_intro | with_reducible exact Or.inl (by with_reducible assumption) | with_reducible exact Or.inr rfl | simp only [keeps_mk] | with_reducible refine keepsMk_of ?_ ⟨rfl, rfl⟩ (fun h_ => by first | exact h_ | simpa only [updAt_length] using h_ | with_unfolding_all rfl) ?_ ?_ | with_reducible apply keeps_ite | with_reducible apply keepsOut_ite | split | dsimp only | intro _ _ | intro _)

theorem execInjBitClear_keeps {p_ : Allow} {z : State} {s : State}  (hflt_ : p_.may .flt = true) (htime_ : p_.clock = true) (h_ : Keeps p_ z s) : KeepsOut p_ z (execInjBitClear s) := by
  unfold execInjBitClear
  repeat' (first | with_reducible assumption | with_reducible exact Keeps.refl _ _ | with_reducible apply State.advanceUp_keeps | with_reducible apply State.setFlt_keeps | with_reducible apply KeepsRes.done | with_reducible apply KeepsRes.accepted | with_reducible apply KeepsRes.waiting | with_reducible apply KeepsOut.next | with_reducible apply keepsParts_intro | with_reducible exact Or.inl (by with_reducible assumption) | with_reducible exact Or.inr rfl | simp only [keeps_mk] | with_reducible refine keepsMk_of ?_ ⟨rfl, rfl⟩ (fun h_ => by first | exact h_ | simpa only [updAt_length] using h_ | with_unfolding_all rfl) ?_ ?_ | split | intro _ _ | dsimp only | intro _ _ | intro _)

theorem State.abandonValue_keeps {p_ : Allow} {z : State} {s : State} (isl : Nat) (inj : Bool)  (hing_ : p_.may .ing = true) (h_ : Keeps p_ z s) : Keeps p_ z (State.abandonValue s isl inj) := by
  unfold State.abandonValue
  repeat' (first | with_reducible assumption | with_reducible exact Keeps.refl _ _ | with_reducible apply State.setIng_keeps | with_reducible apply keepsParts_intro | with_reducible exact Or.inl (by with_reducible assumption) | with_reducible exact Or.inr rfl | simp only [keeps_mk] | with_reducible refine keepsMk_of ?_ ⟨rfl, rfl⟩ (fun h_ => by first | exact h_ | simpa only [updAt_length] using h_ | with_unfolding_all rfl) ?_ ?_ | with_reducible apply keeps_ite | split | intro _ _ | dsimp only | intro _ _ | intro _)

theorem execFabricTimeout_keeps {p_ : Allow} {z : State} (at_ : Instant) (isl : Fin 23) (real : Bool) {s0 : State}  (hevents_ : p_.may .events = true) (hing_ : p_.may .ing = true) (hflt_ : p_.may .flt = true) (htime_ : p_.clock = true) (h_ : Keeps p_ z s0) : KeepsOut p_ z (execFabricTimeout at_ isl real s0) := by
  unfold execFabricTimeout
  repeat' (first | with_reducible assumption | with_reducible exact Keeps.refl _ _ | with_reducible apply State.advance_keeps | with_reducible apply State.occasion_keeps | with_reducible apply State.count_keeps | with_reducible apply State.detect_keeps | with_reducible apply State.abandonValue_keeps | with_reducible refine State.occasion_keeps_of (by with_reducible assumption) ?_ ?_ | with_reducible apply KeepsRes.done | with_reducible apply KeepsRes.accepted | with_reducible apply KeepsRes.waiting | with_reducible apply KeepsOut.next | with_reducible apply keepsParts_intro | with_reducible exact Or.inl (by with_reducible assumption) | with_reducible exact Or.inr rfl | simp only [keeps_mk] | with_reducible refine keepsMk_of ?_ ⟨rfl, rfl⟩ (fun h_ => by first | exact h_ | simpa only [updAt_length] using h_ | with_unfolding_all rfl) ?_ ?_ | with_reducible apply keeps_ite | with_reducible apply keepsOut_ite | split | intro _ _ | dsimp only | intro _ _ | intro _)

theorem execHandshakeTimeout_keeps {p_ : Allow} {z : State} (at_ : Instant) (snd rcv : Fin 23) (real : Bool) {s0 : State}  (hevents_ : p_.may .events = true) (hing_ : p_.may .ing = true) (hflt_ : p_.may .flt = true) (htime_ : p_.clock = true) (h_ : Keeps p_ z s0) : KeepsOut p_ z (execHandshakeTimeout at_ snd rcv real s0) := by
  unfold execHandshakeTimeout
  repeat' (first | with_reducible assumption | with_reducible exact Keeps.refl _ _ | with_reducible apply State.advance_keeps | with_reducible apply State.occasion_keeps | with_reducible apply State.detect_keeps | with_reducible apply State.abandonValue_keeps | with_reducible refine State.occasion_keeps_of (by with_reducible assumption) ?_ ?_ | with_reducible apply KeepsRes.done | with_reducible apply KeepsRes.accepted | with_reducible apply KeepsRes.waiting | with_reducible apply KeepsOut.next | with_reducible apply keepsParts_intro | with_reducible exact Or.inl (by with_reducible assumption) | with_reducible exact Or.inr rfl | simp only [keeps_mk] | with_reducible refine keepsMk_of ?_ ⟨rfl, rfl⟩ (fun h_ => by first | exact h_ | simpa only [updAt_length] using h_ | with_unfolding_all rfl) ?_ ?_ | with_reducible apply keeps_ite | with_reducible apply keepsOut_ite | split | intro _ _ | dsimp only | intro _ _ | intro _)

theorem execAlarmOutReadbackCheck_keeps {p_ : Allow} {z : State} (at_ : Instant) (land : Fin 8) (real : Bool) {s0 : State}  (hevents_ : p_.may .events = true) (hflt_ : p_.may .flt = true) (htime_ : p_.clock = true) (h_ : Keeps p_ z s0) : KeepsOut p_ z (execAlarmOutReadbackCheck at_ land real s0) := by
  unfold execAlarmOutReadbackCheck
  repeat' (first | with_reducible assumption | with_reducible exact Keeps.refl _ _ | with_reducible apply State.advance_keeps | with_reducible apply State.occasion_keeps | with_reducible apply State.detect_keeps | with_reducible apply State.setPair_keeps | with_reducible refine State.occasion_keeps_of (by with_reducible assumption) ?_ ?_ | with_reducible apply KeepsRes.done | with_reducible apply KeepsRes.accepted | with_reducible apply KeepsRes.waiting | with_reducible apply KeepsOut.next | with_reducible apply keepsParts_intro | with_reducible exact Or.inl (by with_reducible assumption) | with_reducible exact Or.inr rfl | simp only [keeps_mk] | with_reducible refine keepsMk_of ?_ ⟨rfl, rfl⟩ (fun h_ => by first | exact h_ | simpa only [updAt_length] using h_ | with_unfolding_all rfl) ?_ ?_ | with_reducible apply keeps_ite | with_reducible apply keepsOut_ite | split | intro _ _ | dsimp only | intro _ _ | intro _)

/-! ### Machine/Registers.lean -/

theorem State.plainRead_keeps {p_ : Allow} {z : State} {s : State} (a : Nat)  (h_ : Keeps p_ z s) : Keeps p_ z (State.plainRead s a).2 := by
  unfold State.plainRead
  repeat' (first | with_reducible assumption | with_reducible exact Keeps.refl _ _ | with_reducible apply State.setReg_keeps | with_reducible apply keepsParts_intro | with_reducible exact Or.inl (by with_reducible assumption) | with_reducible exact Or.inr rfl | simp only [keeps_mk] | with_reducible refine keepsMk_of ?_ ⟨rfl, rfl⟩ (fun h_ => by first | exact h_ | simpa only [updAt_length] using h_ | with_unfolding_all rfl) ?_ ?_ | with_reducible apply keeps_ite | split | intro _ _ | dsimp only | intro _ _ | intro _)
theorem State.plainRead_keeps_of {p_ : Allow} {z : State} {s : State} {a : Nat} {a_ : _} {t_ : State} (e_ : State.plainRead s a = (a_, t_)) (h_ : Keeps p_ z s) : Keeps p_ z t_ := by
  have k_ := State.plainRead_keeps (z := z) a h_
  rw [e_] at k_; exact k_

theorem State.readReg_keeps {p_ : Allow} {z : State} {s : State} (a : Nat)  (hports_ : p_.may .ports = true) (hevr_ : p_.may .evr = true) (hmbx_ : p_.may .mbx = true) (htime_ : p_.clock = true) (h_ : Keeps p_ z s) : Keeps p_ z (State.readReg s a).2 := by
  unfold State.readReg
  repeat' (first | with_reducible assumption | with_reducible exact Keeps.refl _ _ | with_reducible apply State.readNow_keeps | with_reducible apply State.readFine_keeps | with_reducible apply State.readSeqLo_keeps | with_reducible apply State.clearMaxWait_keeps | with_reducible apply State.setReg_keeps | with_reducible apply State.readTxts_keeps | with_reducible apply State.readTdc_keeps | with_reducible apply State.plainRead_keeps | with_reducible apply State.readCnt64_keeps | with_reducible apply State.readW15_keeps | with_reducible refine State.readNow_keeps_of (by with_reducible assumption) ?_ | with_reducible refine State.readFine_keeps_of (by with_reducible assumption) ?_ | with_reducible refine State.readSeqLo_keeps_of (by with_reducible assumption) ?_ ?_ | with_reducible refine State.readTxts_keeps_of (by with_reducible assumption) ?_ ?_ | with_reducible refine State.readTdc_keeps_of (by with_reducible assumption) ?_ ?_ | with_reducible refine State.plainRead_keeps_of (by with_reducible assumption) ?_ | with_reducible refine State.readCnt64_keeps_of (by with_reducible assumption) ?_ ?_ | with_reducible refine State.readW15_keeps_of (by with_reducible assumption) ?_ ?_ | with_reducible apply keepsParts_intro | with_reducible exact Or.inl (by with_reducible assumption) | with_reducible exact Or.inr rfl | simp only [keeps_mk] | with_reducible refine keepsMk_of ?_ ⟨rfl, rfl⟩ (fun h_ => by first | exact h_ | simpa only [updAt_length] using h_ | with_unfolding_all rfl) ?_ ?_ | with_reducible apply keeps_ite | split | intro _ _ | dsimp only | intro _ _ | intro _)
theorem State.readReg_keeps_of {p_ : Allow} {z : State} {s : State} {a : Nat} {a_ : _} {t_ : State} (e_ : State.readReg s a = (a_, t_)) (hports_ : p_.may .ports = true) (hevr_ : p_.may .evr = true) (hmbx_ : p_.may .mbx = true) (htime_ : p_.clock = true) (h_ : Keeps p_ z s) : Keeps p_ z t_ := by
  have k_ := State.readReg_keeps (z := z) a hports_ hevr_ hmbx_ htime_ h_
  rw [e_] at k_; exact k_

theorem State.writeAon_keeps {p_ : Allow} {z : State} {s : State} (a : Nat) (v : Word)  (hfree_ : p_.may .free = true) (hevents_ : p_.may .events = true) (haon_ : p_.may .aon = true) (h_ : Keeps p_ z s) : Keeps p_ z (State.writeAon s a v) := by
  unfold State.writeAon
  repeat' (first | with_reducible assumption | with_reducible exact Keeps.refl _ _ | with_reducible apply State.plainWrite_keeps | with_reducible apply State.settleCompanion_keeps | with_reducible apply State.setProfile_keeps | with_reducible apply keeps_ite | split | dsimp only | intro _ _ | intro _)

theorem State.writeTime_keeps {p_ : Allow} {z : State} {s : State} (a : Nat) (v : Word)  (hevents_ : p_.may .events = true) (hcapIn_ : p_.may .capIn = true) (hcap_ : p_.may .cap = true) (htime_ : p_.clock = true) (h_ : Keeps p_ z s) : Keeps p_ z (State.writeTime s a v) := by
  unfold State.writeTime
  repeat' (first | with_reducible assumption | with_reducible exact Keeps.refl _ _ | with_reducible apply State.plainWrite_keeps | with_reducible apply State.reselect_keeps | with_reducible apply State.armCompare_keeps | refine State.setTime_keeps _ (fun h_ => by first | exact h_ | simpa only [updAt_length] using h_ | with_unfolding_all rfl) ?_ ?_ | with_reducible apply keepsParts_intro | with_reducible exact Or.inl (by with_reducible assumption) | with_reducible exact Or.inr rfl | simp only [keeps_mk] | with_reducible refine keepsMk_of ?_ ⟨rfl, rfl⟩ (fun h_ => by first | exact h_ | simpa only [updAt_length] using h_ | with_unfolding_all rfl) ?_ ?_ | with_reducible apply keeps_ite | split | intro _ _ | dsimp only | intro _ _ | intro _)

theorem State.writePort_keeps {p_ : Allow} {z : State} {s : State} (a : Nat) (v : Word)  (hfree_ : p_.may .free = true) (hevents_ : p_.may .events = true) (hports_ : p_.may .ports = true) (h_ : Keeps p_ z s) : Keeps p_ z (State.writePort s a v) := by
  unfold State.writePort
  repeat' (first | with_reducible assumption | with_reducible exact Keeps.refl _ _ | with_reducible apply State.changeMode_keeps | with_reducible apply State.setReg_keeps | with_reducible apply State.relink_keeps | with_reducible apply State.plainWrite_keeps | with_reducible apply State.checkPause_keeps | with_reducible apply State.writeRxTail_keeps | with_reducible apply State.writeTxTail_keeps | with_reducible apply State.rejudge_keeps | with_reducible apply keepsParts_intro | with_reducible exact Or.inl (by with_reducible assumption) | with_reducible exact Or.inr rfl | simp only [keeps_mk] | with_reducible refine keepsMk_of ?_ ⟨rfl, rfl⟩ (fun h_ => by first | exact h_ | simpa only [updAt_length] using h_ | with_unfolding_all rfl) ?_ ?_ | with_reducible apply keeps_ite | split | intro _ _ | dsimp only | intro _ _ | intro _)

theorem State.tblCommand_keeps {p_ : Allow} {z : State} {s : State} (v : Word) (read write : State → State) (hk_read : ∀ t, Keeps p_ z t → Keeps p_ z (read t)) (hk_write : ∀ t, Keeps p_ z t → Keeps p_ z (write t)) (h_ : Keeps p_ z s) : Keeps p_ z (State.tblCommand s v read write) := by
  unfold State.tblCommand
  repeat' (first | with_reducible apply hk_read | with_reducible apply hk_write | with_reducible assumption | with_reducible exact Keeps.refl _ _ | with_reducible apply keepsParts_intro | with_reducible exact Or.inl (by with_reducible assumption) | with_reducible exact Or.inr rfl | simp only [keeps_mk] | with_reducible refine keepsMk_of ?_ ⟨rfl, rfl⟩ (fun h_ => by first | exact h_ | simpa only [updAt_length] using h_ | with_unfolding_all rfl) ?_ ?_ | split | intro _ _ | dsimp only | intro _ _ | intro _)

theorem State.writeIng_keeps {p_ : Allow} {z : State} {s : State} (a : Nat) (v : Word)  (hing_ : p_.may .ing = true) (hpec_ : p_.may .pec = true) (h_ : Keeps p_ z s) : Keeps p_ z (State.writeIng s a v) := by
  unfold State.writeIng
  repeat' (first | with_reducible assumption | with_reducible exact Keeps.refl _ _ | with_reducible apply State.tblCommand_keeps | with_reducible apply State.ingTblRead_keeps | with_reducible apply State.ingTblWrite_keeps | with_reducible apply State.plainWrite_keeps | with_reducible apply keeps_ite | split | dsimp only | intro _ _ | intro _)

theorem State.writePec_keeps {p_ : Allow} {z : State} {s : State} (a : Nat) (v : Word)  (hpec_ : p_.may .pec = true) (h_ : Keeps p_ z s) : Keeps p_ z (State.writePec s a v) := by
  unfold State.writePec
  repeat' (first | with_reducible assumption | with_reducible exact Keeps.refl _ _ | with_reducible apply State.tblCommand_keeps | with_reducible apply State.pecTblRead_keeps | with_reducible apply State.pecTblWrite_keeps | with_reducible apply State.plainWrite_keeps | with_reducible apply State.pecSettle_keeps | with_reducible apply keeps_ite | split | dsimp only | intro _ _ | intro _)

theorem State.writeAln_keeps {p_ : Allow} {z : State} {s : State} (a : Nat) (v : Word)  (hevents_ : p_.may .events = true) (haln_ : p_.may .aln = true) (hisl_ : p_.may .isl = true) (hbatches_ : p_.may .batches = true) (h_ : Keeps p_ z s) : Keeps p_ z (State.writeAln s a v) := by
  unfold State.writeAln
  repeat' (first | with_reducible assumption | with_reducible exact Keeps.refl _ _ | with_reducible apply State.tblCommand_keeps | with_reducible apply State.alnChanRead_keeps | with_reducible apply State.alnChanWrite_keeps | with_reducible apply State.plainWrite_keeps | with_reducible apply State.flushStop_keeps | with_reducible apply State.grpRegWrite_keeps | with_reducible apply keeps_foldl | with_reducible apply keeps_foldl_fst | with_reducible apply keeps_foldl_snd | intro _ _ _ | with_reducible apply keeps_ite | split | dsimp only | intro _ _ | intro _)

theorem State.writeOsc_keeps {p_ : Allow} {z : State} {s : State} (a : Nat) (v : Word)  (hevents_ : p_.may .events = true) (hbatches_ : p_.may .batches = true) (hosc_ : p_.may .osc = true) (h_ : Keeps p_ z s) : Keeps p_ z (State.writeOsc s a v) := by
  unfold State.writeOsc
  repeat' (first | with_reducible assumption | with_reducible exact Keeps.refl _ _ | with_reducible apply State.tblCommand_keeps | with_reducible apply State.oscTblRead_keeps | with_reducible apply State.oscTblWrite_keeps | with_reducible apply State.plainWrite_keeps | with_reducible apply State.stopSets_keeps | with_reducible apply keeps_ite | split | dsimp only | intro _ _ | intro _)

theorem State.writeIsl_keeps {p_ : Allow} {z : State} {s : State} (a : Nat) (v : Word)  (hisl_ : p_.may .isl = true) (h_ : Keeps p_ z s) : Keeps p_ z (State.writeIsl s a v) := by
  unfold State.writeIsl
  repeat' (first | with_reducible assumption | with_reducible exact Keeps.refl _ _ | with_reducible apply State.islTblRead_keeps | with_reducible apply State.islTblWrite_keeps | with_reducible apply State.plainWrite_keeps | with_reducible apply keepsParts_intro | with_reducible exact Or.inl (by with_reducible assumption) | with_reducible exact Or.inr rfl | simp only [keeps_mk] | with_reducible refine keepsMk_of ?_ ⟨rfl, rfl⟩ (fun h_ => by first | exact h_ | simpa only [updAt_length] using h_ | with_unfolding_all rfl) ?_ ?_ | with_reducible apply keeps_ite | split | intro _ _ | dsimp only | intro _ _ | intro _)

theorem State.writePub_keeps {p_ : Allow} {z : State} {s : State} (a : Nat) (v : Word)  (hfree_ : p_.may .free = true) (hports_ : p_.may .ports = true) (hlim_ : p_.may .lim = true) (hpub_ : p_.may .pub = true) (hkey_ : p_.may .key = true) (h_ : Keeps p_ z s) : Keeps p_ z (State.writePub s a v) := by
  unfold State.writePub
  repeat' (first | with_reducible assumption | with_reducible exact Keeps.refl _ _ | with_reducible apply State.tblCommand_keeps | with_reducible apply State.pubTblRead_keeps | with_reducible apply State.pubTblWrite_keeps | with_reducible apply State.settleBlock_keeps | with_reducible apply State.plainWrite_keeps | with_reducible apply State.driveLand_keeps | with_reducible apply State.writeStreamCtl_keeps | with_reducible refine State.writeStreamCtl_keeps_done (by with_reducible assumption) ?_ ?_ | with_reducible refine State.writeStreamCtl_keeps_accepted (by with_reducible assumption) ?_ ?_ | with_reducible refine State.writeStreamCtl_keeps_waiting (by with_reducible assumption) ?_ ?_ | with_reducible apply keeps_foldl | with_reducible apply keeps_foldl_fst | with_reducible apply keeps_foldl_snd | intro _ _ _ | with_reducible apply keepsParts_intro | with_reducible exact Or.inl (by with_reducible assumption) | with_reducible exact Or.inr rfl | simp only [keeps_mk] | with_reducible refine keepsMk_of ?_ ⟨rfl, rfl⟩ (fun h_ => by first | exact h_ | simpa only [updAt_length] using h_ | with_unfolding_all rfl) ?_ ?_ | with_reducible apply keeps_ite | split | intro _ _ | dsimp only | intro _ _ | intro _)

theorem State.writeCap_keeps {p_ : Allow} {z : State} {s : State} (a : Nat) (v : Word)  (hevents_ : p_.may .events = true) (hcap_ : p_.may .cap = true) (h_ : Keeps p_ z s) : Keeps p_ z (State.writeCap s a v) := by
  unfold State.writeCap
  repeat' (first | with_reducible assumption | with_reducible exact Keeps.refl _ _ | with_reducible apply State.writeCapCtl_keeps | with_reducible apply State.unitWrite_keeps | with_reducible apply State.plainWrite_keeps | with_reducible apply keeps_ite | split | dsimp only | intro _ _ | intro _)

theorem State.writeEvr_keeps {p_ : Allow} {z : State} {s : State} (a : Nat) (v : Word)  (hevr_ : p_.may .evr = true) (h_ : Keeps p_ z s) : Keeps p_ z (State.writeEvr s a v) := by
  unfold State.writeEvr
  repeat' (first | with_reducible assumption | with_reducible exact Keeps.refl _ _ | with_reducible apply State.setClass_keeps | with_reducible apply State.plainWrite_keeps | with_reducible apply keepsParts_intro | with_reducible exact Or.inl (by with_reducible assumption) | with_reducible exact Or.inr rfl | simp only [keeps_mk] | with_reducible refine keepsMk_of ?_ ⟨rfl, rfl⟩ (fun h_ => by first | exact h_ | simpa only [updAt_length] using h_ | with_unfolding_all rfl) ?_ ?_ | with_reducible apply keeps_ite | split | intro _ _ | dsimp only | intro _ _ | intro _)

theorem State.writeCmd_keeps {p_ : Allow} {z : State} {s : State} (a : Nat) (v : Word)  (h_ : Keeps p_ z s) : Keeps p_ z (State.writeCmd s a v) := by
  unfold State.writeCmd
  repeat' (first | with_reducible assumption | with_reducible exact Keeps.refl _ _ | with_reducible apply State.plainWrite_keeps | with_reducible apply State.writeTail_keeps | with_reducible apply State.freeReplies_keeps | with_reducible apply State.feedHeartbeat_keeps | with_reducible apply State.settleHeartbeat_keeps | with_reducible apply State.setCmd_keeps | with_reducible apply keepsParts_intro | with_reducible exact Or.inl (by with_reducible assumption) | with_reducible exact Or.inr rfl | simp only [keeps_mk] | with_reducible refine keepsMk_of ?_ ⟨rfl, rfl⟩ (fun h_ => by first | exact h_ | simpa only [updAt_length] using h_ | with_unfolding_all rfl) ?_ ?_ | with_reducible apply keeps_ite | split | dsimp only | intro _ _ | intro _)

theorem State.writeMbx_keeps {p_ : Allow} {z : State} {s : State} (a : Nat) (v : Word)  (hevents_ : p_.may .events = true) (hmbx_ : p_.may .mbx = true) (h_ : Keeps p_ z s) : Keeps p_ z (State.writeMbx s a v) := by
  unfold State.writeMbx
  repeat' (first | with_reducible assumption | with_reducible exact Keeps.refl _ _ | with_reducible apply State.writeBind_keeps | with_reducible apply State.writeMbox_keeps | with_reducible apply State.plainWrite_keeps | with_reducible apply keeps_ite | split | dsimp only | intro _ _ | intro _)

theorem State.writePair_keeps {p_ : Allow} {z : State} {s : State} (a : Nat) (v : Word)  (hevents_ : p_.may .events = true) (hports_ : p_.may .ports = true) (haln_ : p_.may .aln = true) (h_ : Keeps p_ z s) : Keeps p_ z (State.writePair s a v) := by
  unfold State.writePair
  repeat' (first | with_reducible assumption | with_reducible exact Keeps.refl _ _ | with_reducible apply State.plainWrite_keeps | with_reducible apply State.unpair_keeps | with_reducible apply State.formPair_keeps | with_reducible apply State.setPair_keeps | with_reducible apply keepsParts_intro | with_reducible exact Or.inl (by with_reducible assumption) | with_reducible exact Or.inr rfl | simp only [keeps_mk] | with_reducible refine keepsMk_of ?_ ⟨rfl, rfl⟩ (fun h_ => by first | exact h_ | simpa only [updAt_length] using h_ | with_unfolding_all rfl) ?_ ?_ | with_reducible apply keeps_ite | split | dsimp only | intro _ _ | intro _)

theorem State.writeFlt_keeps {p_ : Allow} {z : State} {s : State} (a : Nat) (v : Word) (session : Fin 4)  (hevents_ : p_.may .events = true) (haon_ : p_.may .aon = true) (hflt_ : p_.may .flt = true) (hevr_ : p_.may .evr = true) (h_ : Keeps p_ z s) : Keeps p_ z (State.writeFlt s a v session) := by
  unfold State.writeFlt
  repeat' (first | with_reducible assumption | with_reducible exact Keeps.refl _ _ | with_reducible apply State.writeInjCtl_keeps | with_reducible apply State.plainWrite_keeps | with_reducible apply keepsParts_intro | with_reducible exact Or.inl (by with_reducible assumption) | with_reducible exact Or.inr rfl | simp only [keeps_mk] | with_reducible refine keepsMk_of ?_ ⟨rfl, rfl⟩ (fun h_ => by first | exact h_ | simpa only [updAt_length] using h_ | with_unfolding_all rfl) ?_ ?_ | split | intro _ _ | dsimp only | intro _ _ | intro _)

theorem State.writeClassWord_keeps {p_ : Allow} {z : State} {s : State} (a : Nat) (v : Word)  (haln_ : p_.may .aln = true) (h_ : Keeps p_ z s) : Keeps p_ z (State.writeClassWord s a v) := by
  unfold State.writeClassWord
  repeat' (first | with_reducible assumption | with_reducible exact Keeps.refl _ _ | with_reducible apply State.storeClassWord_keeps | with_reducible apply State.setAln_keeps | with_reducible apply keepsParts_intro | with_reducible exact Or.inl (by with_reducible assumption) | with_reducible exact Or.inr rfl | simp only [keeps_mk] | with_reducible refine keepsMk_of ?_ ⟨rfl, rfl⟩ (fun h_ => by first | exact h_ | simpa only [updAt_length] using h_ | with_unfolding_all rfl) ?_ ?_ | dsimp only | intro _ _ | intro _)

theorem State.writeReg_keeps {p_ : Allow} {z : State} {s : State} (session : Fin 4) (a : Nat) (v : Word)  (hfree_ : p_.may .free = true) (hevents_ : p_.may .events = true) (haon_ : p_.may .aon = true) (hports_ : p_.may .ports = true) (hing_ : p_.may .ing = true) (hpec_ : p_.may .pec = true) (hcapIn_ : p_.may .capIn = true) (haln_ : p_.may .aln = true) (hlim_ : p_.may .lim = true) (hisl_ : p_.may .isl = true) (hbatches_ : p_.may .batches = true) (hpub_ : p_.may .pub = true) (hosc_ : p_.may .osc = true) (hcap_ : p_.may .cap = true) (hflt_ : p_.may .flt = true) (hkey_ : p_.may .key = true) (hevr_ : p_.may .evr = true) (hmbx_ : p_.may .mbx = true) (htime_ : p_.clock = true) (h_ : Keeps p_ z s) : Keeps p_ z (State.writeReg s session a v) := by
  unfold State.writeReg
  repeat' (first | with_reducible assumption | with_reducible exact Keeps.refl _ _ | with_reducible apply State.writeAon_keeps | with_reducible apply State.writeTime_keeps | with_reducible apply State.writePort_keeps | with_reducible apply State.writeIng_keeps | with_reducible apply State.writePec_keeps | with_reducible apply State.writeAln_keeps | with_reducible apply State.writeClassWord_keeps | with_reducible apply State.plainWrite_keeps | with_reducible apply State.writeOsc_keeps | with_reducible apply State.writeIsl_keeps | with_reducible apply State.writePub_keeps | with_reducible apply State.writeCap_keeps | with_reducible apply State.writeEvr_keeps | with_reducible apply State.writeCmd_keeps | with_reducible apply State.writeMbx_keeps | with_reducible apply State.writePair_keeps | with_reducible apply State.writeFlt_keeps | with_reducible apply keepsParts_intro | with_reducible exact Or.inl (by with_reducible assumption) | with_reducible exact Or.inr rfl | simp only [keeps_mk] | with_reducible refine keepsMk_of ?_ ⟨rfl, rfl⟩ (fun h_ => by first | exact h_ | simpa only [updAt_length] using h_ | with_unfolding_all rfl) ?_ ?_ | with_reducible apply keeps_ite | split | intro _ _ | dsimp only | intro _ _ | intro _)

theorem State.writeRun_keeps {p_ : Allow} {z : State} {s : State} (session : Fin 4) (l : List (Word × Word))  (hfree_ : p_.may .free = true) (hevents_ : p_.may .events = true) (haon_ : p_.may .aon = true) (hports_ : p_.may .ports = true) (hing_ : p_.may .ing = true) (hpec_ : p_.may .pec = true) (hcapIn_ : p_.may .capIn = true) (haln_ : p_.may .aln = true) (hlim_ : p_.may .lim = true) (hisl_ : p_.may .isl = true) (hbatches_ : p_.may .batches = true) (hpub_ : p_.may .pub = true) (hosc_ : p_.may .osc = true) (hcap_ : p_.may .cap = true) (hflt_ : p_.may .flt = true) (hkey_ : p_.may .key = true) (hevr_ : p_.may .evr = true) (hmbx_ : p_.may .mbx = true) (htime_ : p_.clock = true) (h_ : Keeps p_ z s) : Keeps p_ z (State.writeRun s session l).2 := by
  unfold State.writeRun
  repeat' (first | with_reducible assumption | with_reducible exact Keeps.refl _ _ | with_reducible apply State.writeReg_keeps | with_reducible apply keeps_foldl | with_reducible apply keeps_foldl_fst | with_reducible apply keeps_foldl_snd | intro _ _ _ | with_reducible apply keeps_ite | split | dsimp only | intro _ _ | intro _)
theorem State.writeRun_keeps_of {p_ : Allow} {z : State} {s : State} {session : Fin 4} {l : List (Word × Word)} {a_ : _} {t_ : State} (e_ : State.writeRun s session l = (a_, t_)) (hfree_ : p_.may .free = true) (hevents_ : p_.may .events = true) (haon_ : p_.may .aon = true) (hports_ : p_.may .ports = true) (hing_ : p_.may .ing = true) (hpec_ : p_.may .pec = true) (hcapIn_ : p_.may .capIn = true) (haln_ : p_.may .aln = true) (hlim_ : p_.may .lim = true) (hisl_ : p_.may .isl = true) (hbatches_ : p_.may .batches = true) (hpub_ : p_.may .pub = true) (hosc_ : p_.may .osc = true) (hcap_ : p_.may .cap = true) (hflt_ : p_.may .flt = true) (hkey_ : p_.may .key = true) (hevr_ : p_.may .evr = true) (hmbx_ : p_.may .mbx = true) (htime_ : p_.clock = true) (h_ : Keeps p_ z s) : Keeps p_ z t_ := by
  have k_ := State.writeRun_keeps (z := z) session l hfree_ hevents_ haon_ hports_ hing_ hpec_ hcapIn_ haln_ hlim_ hisl_ hbatches_ hpub_ hosc_ hcap_ hflt_ hkey_ hevr_ hmbx_ htime_ h_
  rw [e_] at k_; exact k_

theorem State.readRun_keeps {p_ : Allow} {z : State} {s : State} (a n : Nat)  (hports_ : p_.may .ports = true) (hevr_ : p_.may .evr = true) (hmbx_ : p_.may .mbx = true) (htime_ : p_.clock = true) (h_ : Keeps p_ z s) : Keeps p_ z (State.readRun s a n).2 := by
  unfold State.readRun
  repeat' (first | with_reducible assumption | with_reducible exact Keeps.refl _ _ | with_reducible apply State.readReg_keeps | with_reducible refine State.readReg_keeps_of (by with_reducible assumption) ?_ ?_ ?_ ?_ ?_ | with_reducible apply keeps_foldl | with_reducible apply keeps_foldl_fst | with_reducible apply keeps_foldl_snd | intro _ _ _ | dsimp only | intro _ _ | intro _)
theorem State.readRun_keeps_of {p_ : Allow} {z : State} {s : State} {a n : Nat} {a_ : _} {t_ : State} (e_ : State.readRun s a n = (a_, t_)) (hports_ : p_.may .ports = true) (hevr_ : p_.may .evr = true) (hmbx_ : p_.may .mbx = true) (htime_ : p_.clock = true) (h_ : Keeps p_ z s) : Keeps p_ z t_ := by
  have k_ := State.readRun_keeps (z := z) a n hports_ hevr_ hmbx_ htime_ h_
  rw [e_] at k_; exact k_

/-! ### Machine/Global.lean -/

theorem bodyIdentity_keeps {p_ : Allow} {z : State} {s : State}  (h_ : Keeps p_ z s) : KeepsRes p_ z (bodyIdentity s) := by
  unfold bodyIdentity
  repeat' (first | with_reducible assumption | with_reducible exact Keeps.refl _ _ | with_reducible apply ok_keeps | with_reducible apply KeepsRes.done | with_reducible apply KeepsRes.accepted | with_reducible apply KeepsRes.waiting | with_reducible apply KeepsOut.next | split | dsimp only | intro _ _ | intro _)

theorem execIdentity_keeps {p_ : Allow} {z : State} (h : Hdr) {s : State}  (htime_ : p_.clock = true) (h_ : Keeps p_ z s) : KeepsOut p_ z (execIdentity h s) := by
  unfold execIdentity
  repeat' (first | with_reducible assumption | with_reducible exact Keeps.refl _ _ | with_reducible apply runCmd_keeps | with_reducible apply bodyIdentity_keeps | with_reducible apply KeepsRes.done | with_reducible apply KeepsRes.accepted | with_reducible apply KeepsRes.waiting | with_reducible apply KeepsOut.next | dsimp only | intro _ _ | intro _)

theorem bodyGlbStatus_keeps {p_ : Allow} {z : State} {s : State}  (h_ : Keeps p_ z s) : KeepsRes p_ z (bodyGlbStatus s) := by
  unfold bodyGlbStatus
  repeat' (first | with_reducible assumption | with_reducible exact Keeps.refl _ _ | with_reducible apply ok_keeps | with_reducible apply KeepsRes.done | with_reducible apply KeepsRes.accepted | with_reducible apply KeepsRes.waiting | with_reducible apply KeepsOut.next | split | dsimp only | intro _ _ | intro _)

theorem execGlbStatus_keeps {p_ : Allow} {z : State} (h : Hdr) {s : State}  (htime_ : p_.clock = true) (h_ : Keeps p_ z s) : KeepsOut p_ z (execGlbStatus h s) := by
  unfold execGlbStatus
  repeat' (first | with_reducible assumption | with_reducible exact Keeps.refl _ _ | with_reducible apply runCmd_keeps | with_reducible apply bodyGlbStatus_keeps | with_reducible apply KeepsRes.done | with_reducible apply KeepsRes.accepted | with_reducible apply KeepsRes.waiting | with_reducible apply KeepsOut.next | dsimp only | intro _ _ | intro _)

theorem bodyGlbEnable_keeps {p_ : Allow} {z : State} (l : List EnableItem) (session : Fin 4) {s : State}  (hfree_ : p_.may .free = true) (hevents_ : p_.may .events = true) (haon_ : p_.may .aon = true) (hports_ : p_.may .ports = true) (hing_ : p_.may .ing = true) (hpec_ : p_.may .pec = true) (hcapIn_ : p_.may .capIn = true) (haln_ : p_.may .aln = true) (hlim_ : p_.may .lim = true) (hisl_ : p_.may .isl = true) (hbatches_ : p_.may .batches = true) (hpub_ : p_.may .pub = true) (hosc_ : p_.may .osc = true) (hcap_ : p_.may .cap = true) (hflt_ : p_.may .flt = true) (hkey_ : p_.may .key = true) (hevr_ : p_.may .evr = true) (hmbx_ : p_.may .mbx = true) (htime_ : p_.clock = true) (h_ : Keeps p_ z s) : KeepsRes p_ z (bodyGlbEnable l session s) := by
  unfold bodyGlbEnable
  repeat' (first | with_reducible assumption | with_reducible exact Keeps.refl _ _ | with_reducible apply refuse_keeps | with_reducible apply ok_keeps | with_reducible apply State.writeReg_keeps | with_reducible apply KeepsRes.done | with_reducible apply KeepsRes.accepted | with_reducible apply KeepsRes.waiting | with_reducible apply KeepsOut.next | with_reducible apply keeps_foldl | with_reducible apply keeps_foldl_fst | with_reducible apply keeps_foldl_snd | intro _ _ _ | with_reducible apply keeps_ite | with_reducible apply keepsRes_ite | split | dsimp only | intro _ _ | intro _)

theorem execGlbEnable_keeps {p_ : Allow} {z : State} (h : Hdr) (l : List EnableItem) {s : State}  (hfree_ : p_.may .free = true) (hevents_ : p_.may .events = true) (haon_ : p_.may .aon = true) (hports_ : p_.may .ports = true) (hing_ : p_.may .ing = true) (hpec_ : p_.may .pec = true) (hcapIn_ : p_.may .capIn = true) (haln_ : p_.may .aln = true) (hlim_ : p_.may .lim = true) (hisl_ : p_.may .isl = true) (hbatches_ : p_.may .batches = true) (hpub_ : p_.may .pub = true) (hosc_ : p_.may .osc = true) (hcap_ : p_.may .cap = true) (hflt_ : p_.may .flt = true) (hkey_ : p_.may .key = true) (hevr_ : p_.may .evr = true) (hmbx_ : p_.may .mbx = true) (htime_ : p_.clock = true) (h_ : Keeps p_ z s) : KeepsOut p_ z (execGlbEnable h l s) := by
  unfold execGlbEnable
  repeat' (first | with_reducible assumption | with_reducible exact Keeps.refl _ _ | with_reducible apply runCmd_keeps | with_reducible apply bodyGlbEnable_keeps | with_reducible apply KeepsRes.done | with_reducible apply KeepsRes.accepted | with_reducible apply KeepsRes.waiting | with_reducible apply KeepsOut.next | dsimp only | intro _ _ | intro _)

theorem State.lockBlock_keeps {p_ : Allow} {z : State} {s : State} (b : Fin 20) (port : Fin 10)  (h_ : Keeps p_ z s) : Keeps p_ z (State.lockBlock s b port) := by
  unfold State.lockBlock
  repeat' (first | with_reducible assumption | with_reducible exact Keeps.refl _ _ | with_reducible apply State.setRb_keeps | with_reducible apply keeps_ite | split | dsimp only | intro _ _ | intro _)

theorem bodyGlbLock_keeps {p_ : Allow} {z : State} (l : List (Fin 20 × Fin 10)) {s : State}  (h_ : Keeps p_ z s) : KeepsRes p_ z (bodyGlbLock l s) := by
  unfold bodyGlbLock
  repeat' (first | with_reducible assumption | with_reducible exact Keeps.refl _ _ | with_reducible apply refuse_keeps | with_reducible apply ok_keeps | with_reducible apply State.lockBlock_keeps | with_reducible apply KeepsRes.done | with_reducible apply KeepsRes.accepted | with_reducible apply KeepsRes.waiting | with_reducible apply KeepsOut.next | with_reducible apply keeps_foldl | with_reducible apply keeps_foldl_fst | with_reducible apply keeps_foldl_snd | intro _ _ _ | with_reducible apply keeps_ite | with_reducible apply keepsRes_ite | split | dsimp only | intro _ _ | intro _)

theorem execGlbLock_keeps {p_ : Allow} {z : State} (h : Hdr) (l : List (Fin 20 × Fin 10)) {s : State}  (htime_ : p_.clock = true) (h_ : Keeps p_ z s) : KeepsOut p_ z (execGlbLock h l s) := by
  unfold execGlbLock
  repeat' (first | with_reducible assumption | with_reducible exact Keeps.refl _ _ | with_reducible apply runCmd_keeps | with_reducible apply bodyGlbLock_keeps | with_reducible apply KeepsRes.done | with_reducible apply KeepsRes.accepted | with_reducible apply KeepsRes.waiting | with_reducible apply KeepsOut.next | dsimp only | intro _ _ | intro _)

theorem bodyRegRead_keeps {p_ : Allow} {z : State} (addr : Word) (n : Nat) {s : State}  (hports_ : p_.may .ports = true) (hevr_ : p_.may .evr = true) (hmbx_ : p_.may .mbx = true) (htime_ : p_.clock = true) (h_ : Keeps p_ z s) : KeepsRes p_ z (bodyRegRead addr n s) := by
  unfold bodyRegRead
  repeat' (first | with_reducible assumption | with_reducible exact Keeps.refl _ _ | with_reducible apply refuse_keeps | with_reducible apply State.readRun_keeps | with_reducible apply ok_keeps | with_reducible refine State.readRun_keeps_of (by with_reducible assumption) ?_ ?_ ?_ ?_ ?_ | with_reducible apply KeepsRes.done | with_reducible apply KeepsRes.accepted | with_reducible apply KeepsRes.waiting | with_reducible apply KeepsOut.next | with_reducible apply keeps_ite | with_reducible apply keepsRes_ite | split | dsimp only | intro _ _ | intro _)

theorem execRegRead_keeps {p_ : Allow} {z : State} (h : Hdr) (addr : Word) (n : Nat) {s : State}  (hports_ : p_.may .ports = true) (hevr_ : p_.may .evr = true) (hmbx_ : p_.may .mbx = true) (htime_ : p_.clock = true) (h_ : Keeps p_ z s) : KeepsOut p_ z (execRegRead h addr n s) := by
  unfold execRegRead
  repeat' (first | with_reducible assumption | with_reducible exact Keeps.refl _ _ | with_reducible apply runCmd_keeps | with_reducible apply bodyRegRead_keeps | with_reducible apply KeepsRes.done | with_reducible apply KeepsRes.accepted | with_reducible apply KeepsRes.waiting | with_reducible apply KeepsOut.next | dsimp only | intro _ _ | intro _)

theorem bodyRegWrite_keeps {p_ : Allow} {z : State} (l : List (Word × Word)) (session : Fin 4) {s : State}  (hfree_ : p_.may .free = true) (hevents_ : p_.may .events = true) (haon_ : p_.may .aon = true) (hports_ : p_.may .ports = true) (hing_ : p_.may .ing = true) (hpec_ : p_.may .pec = true) (hcapIn_ : p_.may .capIn = true) (haln_ : p_.may .aln = true) (hlim_ : p_.may .lim = true) (hisl_ : p_.may .isl = true) (hbatches_ : p_.may .batches = true) (hpub_ : p_.may .pub = true) (hosc_ : p_.may .osc = true) (hcap_ : p_.may .cap = true) (hflt_ : p_.may .flt = true) (hkey_ : p_.may .key = true) (hevr_ : p_.may .evr = true) (hmbx_ : p_.may .mbx = true) (htime_ : p_.clock = true) (h_ : Keeps p_ z s) : KeepsRes p_ z (bodyRegWrite l session s) := by
  unfold bodyRegWrite
  repeat' (first | with_reducible assumption | with_reducible exact Keeps.refl _ _ | with_reducible apply refuse_keeps | with_reducible apply State.denyInjection_keeps | with_reducible apply State.writeRun_keeps | with_reducible apply ok_keeps | with_reducible refine State.writeRun_keeps_of (by with_reducible assumption) ?_ ?_ ?_ ?_ ?_ ?_ ?_ ?_ ?_ ?_ ?_ ?_ ?_ ?_ ?_ ?_ ?_ ?_ ?_ ?_ | with_reducible apply KeepsRes.done | with_reducible apply KeepsRes.accepted | with_reducible apply KeepsRes.waiting | with_reducible apply KeepsOut.next | with_reducible apply keeps_ite | with_reducible apply keepsRes_ite | split | dsimp only | intro _ _ | intro _)

theorem execRegWrite_keeps {p_ : Allow} {z : State} (h : Hdr) (l : List (Word × Word)) {s : State}  (hfree_ : p_.may .free = true) (hevents_ : p_.may .events = true) (haon_ : p_.may .aon = true) (hports_ : p_.may .ports = true) (hing_ : p_.may .ing = true) (hpec_ : p_.may .pec = true) (hcapIn_ : p_.may .capIn = true) (haln_ : p_.may .aln = true) (hlim_ : p_.may .lim = true) (hisl_ : p_.may .isl = true) (hbatches_ : p_.may .batches = true) (hpub_ : p_.may .pub = true) (hosc_ : p_.may .osc = true) (hcap_ : p_.may .cap = true) (hflt_ : p_.may .flt = true) (hkey_ : p_.may .key = true) (hevr_ : p_.may .evr = true) (hmbx_ : p_.may .mbx = true) (htime_ : p_.clock = true) (h_ : Keeps p_ z s) : KeepsOut p_ z (execRegWrite h l s) := by
  unfold execRegWrite
  repeat' (first | with_reducible assumption | with_reducible exact Keeps.refl _ _ | with_reducible apply runCmdAs_keeps | with_reducible apply bodyRegWrite_keeps | with_reducible apply KeepsRes.done | with_reducible apply KeepsRes.accepted | with_reducible apply KeepsRes.waiting | with_reducible apply KeepsOut.next | dsimp only | intro _ _ | intro _)

theorem execBlockLockSet_keeps {p_ : Allow} {z : State} (at_ : Instant) (b : Fin 20) (port : Fin 10) {s : State}  (htime_ : p_.clock = true) (h_ : Keeps p_ z s) : KeepsOut p_ z (execBlockLockSet at_ b port s) := by
  unfold execBlockLockSet
  repeat' (first | with_reducible assumption | with_reducible exact Keeps.refl _ _ | with_reducible apply State.advance_keeps | with_reducible apply State.lockBlock_keeps | with_reducible apply KeepsRes.done | with_reducible apply KeepsRes.accepted | with_reducible apply KeepsRes.waiting | with_reducible apply KeepsOut.next | dsimp only | intro _ _ | intro _)

theorem execRegWritePlain_keeps {p_ : Allow} {z : State} (at_ : Instant) (addr v : Word) {s0 : State}  (hfree_ : p_.may .free = true) (hevents_ : p_.may .events = true) (haon_ : p_.may .aon = true) (hports_ : p_.may .ports = true) (hing_ : p_.may .ing = true) (hpec_ : p_.may .pec = true) (hcapIn_ : p_.may .capIn = true) (haln_ : p_.may .aln = true) (hlim_ : p_.may .lim = true) (hisl_ : p_.may .isl = true) (hbatches_ : p_.may .batches = true) (hpub_ : p_.may .pub = true) (hosc_ : p_.may .osc = true) (hcap_ : p_.may .cap = true) (hflt_ : p_.may .flt = true) (hkey_ : p_.may .key = true) (hevr_ : p_.may .evr = true) (hmbx_ : p_.may .mbx = true) (htime_ : p_.clock = true) (h_ : Keeps p_ z s0) : KeepsOut p_ z (execRegWritePlain at_ addr v s0) := by
  unfold execRegWritePlain
  repeat' (first | with_reducible assumption | with_reducible exact Keeps.refl _ _ | with_reducible apply State.advance_keeps | with_reducible apply State.denyInjection_keeps | with_reducible apply State.writeReg_keeps | with_reducible apply KeepsRes.done | with_reducible apply KeepsRes.accepted | with_reducible apply KeepsRes.waiting | with_reducible apply KeepsOut.next | with_reducible apply keeps_ite | with_reducible apply keepsOut_ite | split | dsimp only | intro _ _ | intro _)

theorem execRcCounterRead_keeps {p_ : Allow} {z : State} (at_ : Instant) (addr : Word) {s0 : State}  (hrdata_ : p_.may .rdata = true) (hports_ : p_.may .ports = true) (hevr_ : p_.may .evr = true) (hmbx_ : p_.may .mbx = true) (htime_ : p_.clock = true) (h_ : Keeps p_ z s0) : KeepsOut p_ z (execRcCounterRead at_ addr s0) := by
  unfold execRcCounterRead
  repeat' (first | with_reducible assumption | with_reducible exact Keeps.refl _ _ | with_reducible apply State.advance_keeps | with_reducible apply State.readReg_keeps | with_reducible refine State.readReg_keeps_of (by with_reducible assumption) ?_ ?_ ?_ ?_ ?_ | with_reducible apply KeepsRes.done | with_reducible apply KeepsRes.accepted | with_reducible apply KeepsRes.waiting | with_reducible apply KeepsOut.next | with_reducible apply keepsParts_intro | with_reducible exact Or.inl (by with_reducible assumption) | with_reducible exact Or.inr rfl | simp only [keeps_mk] | with_reducible refine keepsMk_of ?_ ⟨rfl, rfl⟩ (fun h_ => by first | exact h_ | simpa only [updAt_length] using h_ | with_unfolding_all rfl) ?_ ?_ | dsimp only | intro _ _ | intro _)

theorem execSqDoorbell_keeps {p_ : Allow} {z : State} (at_ : Instant) (tail : Nat) {s0 : State}  (htime_ : p_.clock = true) (h_ : Keeps p_ z s0) : KeepsOut p_ z (execSqDoorbell at_ tail s0) := by
  unfold execSqDoorbell
  repeat' (first | with_reducible assumption | with_reducible exact Keeps.refl _ _ | with_reducible apply State.advance_keeps | with_reducible apply State.writeTail_keeps | with_reducible apply KeepsRes.done | with_reducible apply KeepsRes.accepted | with_reducible apply KeepsRes.waiting | with_reducible apply KeepsOut.next | with_reducible apply keeps_ite | with_reducible apply keepsOut_ite | split | dsimp only | intro _ _ | intro _)

theorem execRqHeadFree_keeps {p_ : Allow} {z : State} (at_ : Instant) (head : BitVec 8) {s0 : State}  (htime_ : p_.clock = true) (h_ : Keeps p_ z s0) : KeepsOut p_ z (execRqHeadFree at_ head s0) := by
  unfold execRqHeadFree
  repeat' (first | with_reducible assumption | with_reducible exact Keeps.refl _ _ | with_reducible apply State.advance_keeps | with_reducible apply State.freeReplies_keeps | with_reducible apply KeepsRes.done | with_reducible apply KeepsRes.accepted | with_reducible apply KeepsRes.waiting | with_reducible apply KeepsOut.next | with_reducible apply keeps_ite | with_reducible apply keepsOut_ite | split | dsimp only | intro _ _ | intro _)

theorem execHeartbeatFeed_keeps {p_ : Allow} {z : State} (at_ : Instant) {s0 : State}  (htime_ : p_.clock = true) (h_ : Keeps p_ z s0) : KeepsOut p_ z (execHeartbeatFeed at_ s0) := by
  unfold execHeartbeatFeed
  repeat' (first | with_reducible assumption | with_reducible exact Keeps.refl _ _ | with_reducible apply State.advance_keeps | with_reducible apply State.feedHeartbeat_keeps | with_reducible apply KeepsRes.done | with_reducible apply KeepsRes.accepted | with_reducible apply KeepsRes.waiting | with_reducible apply KeepsOut.next | with_reducible apply keeps_ite | with_reducible apply keepsOut_ite | split | dsimp only | intro _ _ | intro _)

theorem execFetchEnable_keeps {p_ : Allow} {z : State} (at_ : Instant) {s0 : State}  (htime_ : p_.clock = true) (h_ : Keeps p_ z s0) : KeepsOut p_ z (execFetchEnable at_ s0) := by
  unfold execFetchEnable
  repeat' (first | with_reducible assumption | with_reducible exact Keeps.refl _ _ | with_reducible apply State.advance_keeps | with_reducible apply State.enableFetch_keeps | with_reducible apply KeepsRes.done | with_reducible apply KeepsRes.accepted | with_reducible apply KeepsRes.waiting | with_reducible apply KeepsOut.next | with_reducible apply keeps_ite | with_reducible apply keepsOut_ite | split | dsimp only | intro _ _ | intro _)

theorem execFetchDisable_keeps {p_ : Allow} {z : State} (at_ : Instant) {s0 : State}  (htime_ : p_.clock = true) (h_ : Keeps p_ z s0) : KeepsOut p_ z (execFetchDisable at_ s0) := by
  unfold execFetchDisable
  repeat' (first | with_reducible assumption | with_reducible exact Keeps.refl _ _ | with_reducible apply State.advance_keeps | with_reducible apply State.enableFetch_keeps | with_reducible apply KeepsRes.done | with_reducible apply KeepsRes.accepted | with_reducible apply KeepsRes.waiting | with_reducible apply KeepsOut.next | with_reducible apply keeps_ite | with_reducible apply keepsOut_ite | split | dsimp only | intro _ _ | intro _)

/-! ### Machine/Sessions.lean -/

theorem bodyCmdSessionOpen_keeps {p_ : Allow} {z : State} (h : Hdr) (expert : Bool) {s : State}  (hevents_ : p_.may .events = true) (h_ : Keeps p_ z s) : KeepsRes p_ z (bodyCmdSessionOpen h expert s) := by
  unfold bodyCmdSessionOpen
  repeat' (first | with_reducible assumption | with_reducible exact Keeps.refl _ _ | with_reducible apply ok_keeps | with_reducible apply State.dropLocks_keeps | with_reducible apply State.updSession_keeps | with_reducible apply KeepsRes.done | with_reducible apply KeepsRes.accepted | with_reducible apply KeepsRes.waiting | with_reducible apply KeepsOut.next | dsimp only | intro _ _ | intro _)

theorem execCmdSessionOpen_keeps {p_ : Allow} {z : State} (h : Hdr) (expert : Bool) {s : State}  (hevents_ : p_.may .events = true) (htime_ : p_.clock = true) (h_ : Keeps p_ z s) : KeepsOut p_ z (execCmdSessionOpen h expert s) := by
  unfold execCmdSessionOpen
  repeat' (first | with_reducible assumption | with_reducible exact Keeps.refl _ _ | with_reducible apply runCmd_keeps | with_reducible apply bodyCmdSessionOpen_keeps | with_reducible apply KeepsRes.done | with_reducible apply KeepsRes.accepted | with_reducible apply KeepsRes.waiting | with_reducible apply KeepsOut.next | dsimp only | intro _ _ | intro _)

theorem bodyCmdSessionClose_keeps {p_ : Allow} {z : State} (session : Fin 4) {s : State}  (hevents_ : p_.may .events = true) (h_ : Keeps p_ z s) : KeepsRes p_ z (bodyCmdSessionClose session s) := by
  unfold bodyCmdSessionClose
  repeat' (first | with_reducible assumption | with_reducible exact Keeps.refl _ _ | with_reducible apply ok_keeps | with_reducible apply State.dropLocks_keeps | with_reducible apply State.updSession_keeps | with_reducible apply KeepsRes.done | with_reducible apply KeepsRes.accepted | with_reducible apply KeepsRes.waiting | with_reducible apply KeepsOut.next | dsimp only | intro _ _ | intro _)

theorem execCmdSessionClose_keeps {p_ : Allow} {z : State} (h : Hdr) {s : State}  (hevents_ : p_.may .events = true) (htime_ : p_.clock = true) (h_ : Keeps p_ z s) : KeepsOut p_ z (execCmdSessionClose h s) := by
  unfold execCmdSessionClose
  repeat' (first | with_reducible assumption | with_reducible exact Keeps.refl _ _ | with_reducible apply runCmd_keeps | with_reducible apply bodyCmdSessionClose_keeps | with_reducible apply KeepsRes.done | with_reducible apply KeepsRes.accepted | with_reducible apply KeepsRes.waiting | with_reducible apply KeepsOut.next | dsimp only | intro _ _ | intro _)

theorem bodyLockAcquire_keeps {p_ : Allow} {z : State} (h : Hdr) (n : Fin 32) (leaseMs : Nat) (wait : Bool) {s : State}  (h_ : Keeps p_ z s) : KeepsRes p_ z (bodyLockAcquire h n leaseMs wait s) := by
  unfold bodyLockAcquire
  repeat' (first | with_reducible assumption | with_reducible exact Keeps.refl _ _ | with_reducible apply refuse_keeps | with_reducible apply State.updLock_keeps | with_reducible apply State.grant_keeps | with_reducible refine State.grant_keeps_of (by with_reducible assumption) ?_ | with_reducible apply KeepsRes.done | with_reducible apply KeepsRes.accepted | with_reducible apply KeepsRes.waiting | with_reducible apply KeepsOut.next | with_reducible apply keepsParts_intro | with_reducible exact Or.inl (by with_reducible assumption) | with_reducible exact Or.inr rfl | simp only [keeps_mk] | with_reducible refine keepsMk_of ?_ ⟨rfl, rfl⟩ (fun h_ => by first | exact h_ | simpa only [updAt_length] using h_ | with_unfolding_all rfl) ?_ ?_ | with_reducible apply keeps_ite | with_reducible apply keepsRes_ite | split | dsimp only | intro _ _ | intro _)

theorem execLockAcquire_keeps {p_ : Allow} {z : State} (h : Hdr) (n : Fin 32) (leaseMs : Nat) (wait : Bool) {s : State}  (htime_ : p_.clock = true) (h_ : Keeps p_ z s) : KeepsOut p_ z (execLockAcquire h n leaseMs wait s) := by
  unfold execLockAcquire
  repeat' (first | with_reducible assumption | with_reducible exact Keeps.refl _ _ | with_reducible apply runCmd_keeps | with_reducible apply bodyLockAcquire_keeps | with_reducible apply KeepsRes.done | with_reducible apply KeepsRes.accepted | with_reducible apply KeepsRes.waiting | with_reducible apply KeepsOut.next | dsimp only | intro _ _ | intro _)

theorem bodyLockRenew_keeps {p_ : Allow} {z : State} (session : Fin 4) (n : Fin 32) (leaseMs : Nat) {s : State}  (h_ : Keeps p_ z s) : KeepsRes p_ z (bodyLockRenew session n leaseMs s) := by
  unfold bodyLockRenew
  repeat' (first | with_reducible assumption | with_reducible exact Keeps.refl _ _ | with_reducible apply refuse_keeps | with_reducible apply ok_keeps | with_reducible apply State.updLock_keeps | with_reducible apply KeepsRes.done | with_reducible apply KeepsRes.accepted | with_reducible apply KeepsRes.waiting | with_reducible apply KeepsOut.next | with_reducible apply keepsParts_intro | with_reducible exact Or.inl (by with_reducible assumption) | with_reducible exact Or.inr rfl | simp only [keeps_mk] | with_reducible refine keepsMk_of ?_ ⟨rfl, rfl⟩ (fun h_ => by first | exact h_ | simpa only [updAt_length] using h_ | with_unfolding_all rfl) ?_ ?_ | with_reducible apply keeps_ite | with_reducible apply keepsRes_ite | split | dsimp only | intro _ _ | intro _)

theorem execLockRenew_keeps {p_ : Allow} {z : State} (h : Hdr) (n : Fin 32) (leaseMs : Nat) {s : State}  (htime_ : p_.clock = true) (h_ : Keeps p_ z s) : KeepsOut p_ z (execLockRenew h n leaseMs s) := by
  unfold execLockRenew
  repeat' (first | with_reducible assumption | with_reducible exact Keeps.refl _ _ | with_reducible apply runCmd_keeps | with_reducible apply bodyLockRenew_keeps | with_reducible apply KeepsRes.done | with_reducible apply KeepsRes.accepted | with_reducible apply KeepsRes.waiting | with_reducible apply KeepsOut.next | dsimp only | intro _ _ | intro _)

theorem bodyLockRelease_keeps {p_ : Allow} {z : State} (session : Fin 4) (n : Fin 32) {s : State}  (h_ : Keeps p_ z s) : KeepsRes p_ z (bodyLockRelease session n s) := by
  unfold bodyLockRelease
  repeat' (first | with_reducible assumption | with_reducible exact Keeps.refl _ _ | with_reducible apply refuse_keeps | with_reducible apply ok_keeps | with_reducible apply State.updLock_keeps | with_reducible apply State.passLock_keeps | with_reducible apply KeepsRes.done | with_reducible apply KeepsRes.accepted | with_reducible apply KeepsRes.waiting | with_reducible apply KeepsOut.next | with_reducible apply keepsParts_intro | with_reducible exact Or.inl (by with_reducible assumption) | with_reducible exact Or.inr rfl | simp only [keeps_mk] | with_reducible refine keepsMk_of ?_ ⟨rfl, rfl⟩ (fun h_ => by first | exact h_ | simpa only [updAt_length] using h_ | with_unfolding_all rfl) ?_ ?_ | with_reducible apply keeps_ite | with_reducible apply keepsRes_ite | split | dsimp only | intro _ _ | intro _)

theorem execLockRelease_keeps {p_ : Allow} {z : State} (h : Hdr) (n : Fin 32) {s : State}  (htime_ : p_.clock = true) (h_ : Keeps p_ z s) : KeepsOut p_ z (execLockRelease h n s) := by
  unfold execLockRelease
  repeat' (first | with_reducible assumption | with_reducible exact Keeps.refl _ _ | with_reducible apply runCmd_keeps | with_reducible apply bodyLockRelease_keeps | with_reducible apply KeepsRes.done | with_reducible apply KeepsRes.accepted | with_reducible apply KeepsRes.waiting | with_reducible apply KeepsOut.next | dsimp only | intro _ _ | intro _)

theorem bodyLockStatus_keeps {p_ : Allow} {z : State} {s : State}  (h_ : Keeps p_ z s) : KeepsRes p_ z (bodyLockStatus s) := by
  unfold bodyLockStatus
  repeat' (first | with_reducible assumption | with_reducible exact Keeps.refl _ _ | with_reducible apply ok_keeps | with_reducible apply KeepsRes.done | with_reducible apply KeepsRes.accepted | with_reducible apply KeepsRes.waiting | with_reducible apply KeepsOut.next | dsimp only | intro _ _ | intro _)

theorem execLockStatus_keeps {p_ : Allow} {z : State} (h : Hdr) {s : State}  (htime_ : p_.clock = true) (h_ : Keeps p_ z s) : KeepsOut p_ z (execLockStatus h s) := by
  unfold execLockStatus
  repeat' (first | with_reducible assumption | with_reducible exact Keeps.refl _ _ | with_reducible apply runCmd_keeps | with_reducible apply bodyLockStatus_keeps | with_reducible apply KeepsRes.done | with_reducible apply KeepsRes.accepted | with_reducible apply KeepsRes.waiting | with_reducible apply KeepsOut.next | dsimp only | intro _ _ | intro _)

theorem bodyCmdEcho_keeps {p_ : Allow} {z : State} (payload : List Word) {s : State}  (h_ : Keeps p_ z s) : KeepsRes p_ z (bodyCmdEcho payload s) := by
  unfold bodyCmdEcho
  repeat' (first | with_reducible assumption | with_reducible exact Keeps.refl _ _ | with_reducible apply ok_keeps | with_reducible apply KeepsRes.done | with_reducible apply KeepsRes.accepted | with_reducible apply KeepsRes.waiting | with_reducible apply KeepsOut.next | dsimp only | intro _ _ | intro _)

theorem execCmdEcho_keeps {p_ : Allow} {z : State} (h : Hdr) (payload : List Word) {s : State}  (htime_ : p_.clock = true) (h_ : Keeps p_ z s) : KeepsOut p_ z (execCmdEcho h payload s) := by
  unfold execCmdEcho
  repeat' (first | with_reducible assumption | with_reducible exact Keeps.refl _ _ | with_reducible apply runCmd_keeps | with_reducible apply bodyCmdEcho_keeps | with_reducible apply KeepsRes.done | with_reducible apply KeepsRes.accepted | with_reducible apply KeepsRes.waiting | with_reducible apply KeepsOut.next | dsimp only | intro _ _ | intro _)

theorem bodyCmdTune_keeps {p_ : Allow} {z : State} (a : CmdTuneArgs) {s : State}  (h_ : Keeps p_ z s) : KeepsRes p_ z (bodyCmdTune a s) := by
  unfold bodyCmdTune
  repeat' (first | with_reducible assumption | with_reducible exact Keeps.refl _ _ | with_reducible apply refuse_keeps | with_reducible apply State.setCmd_keeps | with_reducible apply State.setRf_keeps | with_reducible apply ok_keeps | with_reducible apply KeepsRes.done | with_reducible apply KeepsRes.accepted | with_reducible apply KeepsRes.waiting | with_reducible apply KeepsOut.next | with_reducible apply keepsParts_intro | with_reducible exact Or.inl (by with_reducible assumption) | with_reducible exact Or.inr rfl | simp only [keeps_mk] | with_reducible refine keepsMk_of ?_ ⟨rfl, rfl⟩ (fun h_ => by first | exact h_ | simpa only [updAt_length] using h_ | with_unfolding_all rfl) ?_ ?_ | with_reducible apply keeps_ite | with_reducible apply keepsRes_ite | split | intro _ _ | dsimp only | intro _ _ | intro _)

theorem execCmdTune_keeps {p_ : Allow} {z : State} (h : Hdr) (a : CmdTuneArgs) {s : State}  (htime_ : p_.clock = true) (h_ : Keeps p_ z s) : KeepsOut p_ z (execCmdTune h a s) := by
  unfold execCmdTune
  repeat' (first | with_reducible assumption | with_reducible exact Keeps.refl _ _ | with_reducible apply runCmd_keeps | with_reducible apply bodyCmdTune_keeps | with_reducible apply KeepsRes.done | with_reducible apply KeepsRes.accepted | with_reducible apply KeepsRes.waiting | with_reducible apply KeepsOut.next | dsimp only | intro _ _ | intro _)

theorem execCommandFetch_keeps {p_ : Allow} {z : State} (op : BitVec 16) (h : Hdr) {s : State}  (htime_ : p_.clock = true) (h_ : Keeps p_ z s) : KeepsOut p_ z (execCommandFetch op h s) := by
  unfold execCommandFetch
  repeat' (first | with_reducible assumption | with_reducible exact Keeps.refl _ _ | with_reducible apply State.advance_keeps | with_reducible apply State.fetchCmd_keeps | with_reducible apply KeepsRes.done | with_reducible apply KeepsRes.accepted | with_reducible apply KeepsRes.waiting | with_reducible apply KeepsOut.next | with_reducible apply keepsParts_intro | with_reducible exact Or.inl (by with_reducible assumption) | with_reducible exact Or.inr rfl | simp only [keeps_mk] | with_reducible refine keepsMk_of ?_ ⟨rfl, rfl⟩ (fun h_ => by first | exact h_ | simpa only [updAt_length] using h_ | with_unfolding_all rfl) ?_ ?_ | dsimp only | intro _ _ | intro _)

theorem execRoutedCommandReceive_keeps {p_ : Allow} {z : State} (op : BitVec 16) (h : Hdr) {s0 : State}  (htime_ : p_.clock = true) (h_ : Keeps p_ z s0) : KeepsOut p_ z (execRoutedCommandReceive op h s0) := by
  unfold execRoutedCommandReceive
  repeat' (first | with_reducible assumption | with_reducible exact Keeps.refl _ _ | with_reducible apply State.advance_keeps | with_reducible apply State.fetchCmd_keeps | with_reducible apply KeepsRes.done | with_reducible apply KeepsRes.accepted | with_reducible apply KeepsRes.waiting | with_reducible apply KeepsOut.next | with_reducible apply keepsParts_intro | with_reducible exact Or.inl (by with_reducible assumption) | with_reducible exact Or.inr rfl | simp only [keeps_mk] | with_reducible refine keepsMk_of ?_ ⟨rfl, rfl⟩ (fun h_ => by first | exact h_ | simpa only [updAt_length] using h_ | with_unfolding_all rfl) ?_ ?_ | with_reducible apply keeps_ite | with_reducible apply keepsOut_ite | split | dsimp only | intro _ _ | intro _)

theorem execMirroredCommandReceive_keeps {p_ : Allow} {z : State} (at_ : Instant) (op : BitVec 16) (h : Hdr) {s0 : State}  (htime_ : p_.clock = true) (h_ : Keeps p_ z s0) : KeepsOut p_ z (execMirroredCommandReceive at_ op h s0) := by
  unfold execMirroredCommandReceive
  repeat' (first | with_reducible assumption | with_reducible exact Keeps.refl _ _ | with_reducible apply State.advance_keeps | with_reducible apply State.fetchCmd_keeps | with_reducible apply KeepsRes.done | with_reducible apply KeepsRes.accepted | with_reducible apply KeepsRes.waiting | with_reducible apply KeepsOut.next | with_reducible apply keepsParts_intro | with_reducible exact Or.inl (by with_reducible assumption) | with_reducible exact Or.inr rfl | simp only [keeps_mk] | with_reducible refine keepsMk_of ?_ ⟨rfl, rfl⟩ (fun h_ => by first | exact h_ | simpa only [updAt_length] using h_ | with_unfolding_all rfl) ?_ ?_ | with_reducible apply keeps_ite | with_reducible apply keepsOut_ite | split | dsimp only | intro _ _ | intro _)

theorem execMirrorAckReceive_keeps {p_ : Allow} {z : State} (at_ : Instant) (session : Fin 4) (seq : Word) (status : BitVec 16) {s0 : State}  (htime_ : p_.clock = true) (h_ : Keeps p_ z s0) : KeepsOut p_ z (execMirrorAckReceive at_ session seq status s0) := by
  unfold execMirrorAckReceive
  repeat' (first | with_reducible assumption | with_reducible exact Keeps.refl _ _ | with_reducible apply State.advance_keeps | with_reducible apply State.status_keeps | with_reducible apply State.updFlights_keeps | with_reducible apply State.postFinal_keeps | with_reducible apply KeepsRes.done | with_reducible apply KeepsRes.accepted | with_reducible apply KeepsRes.waiting | with_reducible apply KeepsOut.next | with_reducible apply keepsParts_intro | with_reducible exact Or.inl (by with_reducible assumption) | with_reducible exact Or.inr rfl | simp only [keeps_mk] | with_reducible refine keepsMk_of ?_ ⟨rfl, rfl⟩ (fun h_ => by first | exact h_ | simpa only [updAt_length] using h_ | with_unfolding_all rfl) ?_ ?_ | with_reducible apply keeps_ite | with_reducible apply keepsOut_ite | split | intro _ _ | dsimp only | intro _ _ | intro _)

theorem execCommandTimeout_keeps {p_ : Allow} {z : State} (session : Fin 4) (seq : Word) {s : State}  (hevents_ : p_.may .events = true) (haln_ : p_.may .aln = true) (hkey_ : p_.may .key = true) (hmbx_ : p_.may .mbx = true) (htime_ : p_.clock = true) (h_ : Keeps p_ z s) : KeepsOut p_ z (execCommandTimeout session seq s) := by
  unfold execCommandTimeout
  repeat' (first | with_reducible assumption | with_reducible exact Keeps.refl _ _ | with_reducible apply State.advanceUp_keeps | with_reducible apply State.abandon_keeps | with_reducible apply State.count_keeps | with_reducible apply State.raise_keeps | with_reducible apply State.enterPair_keeps | with_reducible apply KeepsRes.done | with_reducible apply KeepsRes.accepted | with_reducible apply KeepsRes.waiting | with_reducible apply KeepsOut.next | with_reducible apply keepsParts_intro | with_reducible exact Or.inl (by with_reducible assumption) | with_reducible exact Or.inr rfl | simp only [keeps_mk] | with_reducible refine keepsMk_of ?_ ⟨rfl, rfl⟩ (fun h_ => by first | exact h_ | simpa only [updAt_length] using h_ | with_unfolding_all rfl) ?_ ?_ | with_reducible apply keeps_ite | with_reducible apply keepsOut_ite | split | intro _ _ | dsimp only | intro _ _ | intro _)

theorem execCoreWatchdogExpiry_keeps {p_ : Allow} {z : State} (at_ : Instant) (core : Fin 4) (real : Bool) (cmds : List (Fin 4 × Word)) {s0 : State}  (hevents_ : p_.may .events = true) (hflt_ : p_.may .flt = true) (hkey_ : p_.may .key = true) (hmbx_ : p_.may .mbx = true) (htime_ : p_.clock = true) (h_ : Keeps p_ z s0) : KeepsOut p_ z (execCoreWatchdogExpiry at_ core real cmds s0) := by
  unfold execCoreWatchdogExpiry
  repeat' (first | with_reducible assumption | with_reducible exact Keeps.refl _ _ | with_reducible apply State.advance_keeps | with_reducible apply State.occasion_keeps | with_reducible apply State.detect_keeps | with_reducible apply State.resetCore_keeps | with_reducible refine State.occasion_keeps_of (by with_reducible assumption) ?_ ?_ | with_reducible apply KeepsRes.done | with_reducible apply KeepsRes.accepted | with_reducible apply KeepsRes.waiting | with_reducible apply KeepsOut.next | with_reducible apply keepsParts_intro | with_reducible exact Or.inl (by with_reducible assumption) | with_reducible exact Or.inr rfl | simp only [keeps_mk] | with_reducible refine keepsMk_of ?_ ⟨rfl, rfl⟩ (fun h_ => by first | exact h_ | simpa only [updAt_length] using h_ | with_unfolding_all rfl) ?_ ?_ | with_reducible apply keeps_ite | with_reducible apply keepsOut_ite | split | intro _ _ | dsimp only | intro _ _ | intro _)

theorem execLockLeaseExpiry_keeps {p_ : Allow} {z : State} (n : Fin 32) {s : State}  (hevents_ : p_.may .events = true) (htime_ : p_.clock = true) (h_ : Keeps p_ z s) : KeepsOut p_ z (execLockLeaseExpiry n s) := by
  unfold execLockLeaseExpiry
  repeat' (first | with_reducible assumption | with_reducible exact Keeps.refl _ _ | with_reducible apply State.advanceUp_keeps | with_reducible apply State.breakLock_keeps | with_reducible apply KeepsRes.done | with_reducible apply KeepsRes.accepted | with_reducible apply KeepsRes.waiting | with_reducible apply KeepsOut.next | with_reducible apply keeps_ite | with_reducible apply keepsOut_ite | split | dsimp only | intro _ _ | intro _)

theorem execHeartbeatExpiry_keeps {p_ : Allow} {z : State} {s : State}  (hevents_ : p_.may .events = true) (hflt_ : p_.may .flt = true) (htime_ : p_.clock = true) (h_ : Keeps p_ z s) : KeepsOut p_ z (execHeartbeatExpiry s) := by
  unfold execHeartbeatExpiry
  repeat' (first | with_reducible assumption | with_reducible exact Keeps.refl _ _ | with_reducible apply State.advanceUp_keeps | with_reducible apply State.expireHeartbeat_keeps | with_reducible apply KeepsRes.done | with_reducible apply KeepsRes.accepted | with_reducible apply KeepsRes.waiting | with_reducible apply KeepsOut.next | with_reducible apply keepsParts_intro | with_reducible exact Or.inl (by with_reducible assumption) | with_reducible exact Or.inr rfl | simp only [keeps_mk] | with_reducible refine keepsMk_of ?_ ⟨rfl, rfl⟩ (fun h_ => by first | exact h_ | simpa only [updAt_length] using h_ | with_unfolding_all rfl) ?_ ?_ | split | intro _ _ | dsimp only | intro _ _ | intro _)

theorem execReplyCoalesceExpiry_keeps {p_ : Allow} {z : State} (n : Fin 4) {s : State}  (htime_ : p_.clock = true) (h_ : Keeps p_ z s) : KeepsOut p_ z (execReplyCoalesceExpiry n s) := by
  unfold execReplyCoalesceExpiry
  repeat' (first | with_reducible assumption | with_reducible exact Keeps.refl _ _ | with_reducible apply State.advanceUp_keeps | with_reducible apply State.setCmd_keeps | with_reducible apply State.vector_keeps | with_reducible apply KeepsRes.done | with_reducible apply KeepsRes.accepted | with_reducible apply KeepsRes.waiting | with_reducible apply KeepsOut.next | with_reducible apply keepsParts_intro | with_reducible exact Or.inl (by with_reducible assumption) | with_reducible exact Or.inr rfl | simp only [keeps_mk] | with_reducible refine keepsMk_of ?_ ⟨rfl, rfl⟩ (fun h_ => by first | exact h_ | simpa only [updAt_length] using h_ | with_unfolding_all rfl) ?_ ?_ | split | intro _ _ | dsimp only | intro _ _ | intro _)

theorem execCascadeReplyAggregate_keeps {p_ : Allow} {z : State} (at_ : Instant) (session : Fin 4) (seq : Word) {s0 : State}  (htime_ : p_.clock = true) (h_ : Keeps p_ z s0) : KeepsOut p_ z (execCascadeReplyAggregate at_ session seq s0) := by
  unfold execCascadeReplyAggregate
  repeat' (first | with_reducible assumption | with_reducible exact Keeps.refl _ _ | with_reducible apply State.advance_keeps | with_reducible apply State.closeAggregate_keeps | with_reducible apply KeepsRes.done | with_reducible apply KeepsRes.accepted | with_reducible apply KeepsRes.waiting | with_reducible apply KeepsOut.next | with_reducible apply keepsParts_intro | with_reducible exact Or.inl (by with_reducible assumption) | with_reducible exact Or.inr rfl | simp only [keeps_mk] | with_reducible refine keepsMk_of ?_ ⟨rfl, rfl⟩ (fun h_ => by first | exact h_ | simpa only [updAt_length] using h_ | with_unfolding_all rfl) ?_ ?_ | with_reducible apply keeps_ite | with_reducible apply keepsOut_ite | split | intro _ _ | dsimp only | intro _ _ | intro _)

end Sys2Proof.Machine
end

