-- ==== Sys2Proof/Laws/Registers.lean ====
section
/-! SUPPORT. What reading gives after writing: bits and fields of a word, registers of the bank, and bytes of the host area. -/

namespace Sys2Proof.Machine

/-! ### Bits and fields of a word -/

/-- The bits of a field's mask. -/
theorem getLsbD_maskOf (hi lo i : Nat) (hl : lo ≤ hi) (h : hi < 32) : (maskOf hi lo).getLsbD i = (decide (lo ≤ i) && decide (i ≤ hi)) := by
  unfold maskOf
  rw [BitVec.getLsbD_ofNat, Nat.testBit_mul_two_pow, Nat.testBit_two_pow_sub_one]
  by_cases h1 : lo ≤ i <;> by_cases h2 : i ≤ hi <;> simp [h1, h2] <;> omega

/-- The bits of a value placed at a field. -/
theorem getLsbD_put (hi lo v i : Nat) (hl : lo ≤ hi) (h : hi < 32) :
    (put hi lo v).getLsbD i = (decide (lo ≤ i) && decide (i ≤ hi) && v.testBit (i - lo)) := by
  unfold put
  rw [BitVec.getLsbD_ofNat, Nat.testBit_mul_two_pow, Nat.testBit_mod_two_pow]
  by_cases h1 : lo ≤ i <;> by_cases h2 : i ≤ hi <;> by_cases h3 : i < 32 <;> simp [h1, h2, h3] <;> omega

/-- The bits of a flag placed at a bit. -/
theorem getLsbD_putBit (n : Nat) (b : Bool) (i : Nat) (h : n < 32) : (putBit n b).getLsbD i = (b && decide (i = n)) := by
  unfold putBit
  cases b
  · simp
  · simp only [if_true, Bool.true_and]
    rw [BitVec.getLsbD_ofNat, Nat.testBit_two_pow]
    by_cases e : n = i <;> simp [e, eq_comm] <;> omega

/-- The bits of a word with a field set. -/
theorem getLsbD_setFld (w : Word) (hi lo v i : Nat) (hl : lo ≤ hi) (h : hi < 32) :
    (setFld w hi lo v).getLsbD i = if lo ≤ i ∧ i ≤ hi then v.testBit (i - lo) else w.getLsbD i := by
  unfold setFld
  rw [BitVec.getLsbD_or, BitVec.getLsbD_and, BitVec.getLsbD_not, getLsbD_maskOf hi lo i hl h, getLsbD_put hi lo v i hl h]
  by_cases h1 : lo ≤ i <;> by_cases h2 : i ≤ hi <;> by_cases h3 : i < 32 <;> simp [h1, h2, h3]
  all_goals first
    | omega
    | exact BitVec.getLsbD_of_ge w i (by omega)

/-- A field reads, bit by bit, the word's bits. -/
theorem testBit_fld (w : Word) (hi lo i : Nat) : (fld w hi lo).testBit i = (decide (i < hi + 1 - lo) && w.getLsbD (lo + i)) := by
  unfold fld
  rw [Nat.testBit_mod_two_pow, Nat.testBit_div_two_pow, Nat.add_comm i lo]
  rfl

/-- A field reads what was set, cut to its width. -/
theorem fld_setFld (w : Word) (hi lo v : Nat) (hl : lo ≤ hi) (h : hi < 32) : fld (setFld w hi lo v) hi lo = v % 2 ^ (hi + 1 - lo) := by
  apply Nat.eq_of_testBit_eq
  intro i
  rw [testBit_fld, getLsbD_setFld w hi lo v _ hl h, Nat.testBit_mod_two_pow]
  by_cases hi' : i < hi + 1 - lo
  · have a : lo ≤ lo + i ∧ lo + i ≤ hi := by omega
    simp [hi', a]
  · simp [hi']

/-- A field set leaves a bit outside it. -/
theorem bit_setFld_ne (w : Word) (hi lo v n : Nat) (hl : lo ≤ hi) (h : hi < 32) (hn : n < lo ∨ hi < n) : bit (setFld w hi lo v) n = bit w n := by
  unfold bit
  rw [getLsbD_setFld w hi lo v n hl h, if_neg (by omega)]

/-- A bit set reads so. -/
theorem bit_setBit (w : Word) (n : Nat) (b : Bool) (h : n < 32) : bit (setBit w n b) n = b := by
  unfold bit setBit
  rw [getLsbD_setFld w n n _ n (Nat.le_refl n) h, if_pos ⟨Nat.le_refl n, Nat.le_refl n⟩, Nat.sub_self]
  cases b <;> rfl

/-- A bit set leaves a field that does not hold it. -/
theorem fld_setBit_ne (w : Word) (n hi lo : Nat) (b : Bool) (h : n < 32) (hn : n < lo ∨ hi < n) : fld (setBit w n b) hi lo = fld w hi lo := by
  apply Nat.eq_of_testBit_eq
  intro i
  rw [testBit_fld, testBit_fld]
  by_cases hi' : i < hi + 1 - lo
  · unfold setBit
    rw [getLsbD_setFld w n n _ _ (Nat.le_refl n) h, if_neg (by omega)]
  · simp [hi']

/-! ### Lists -/

/-- The elements of a list with one rewritten. -/
theorem getElem_updAt {α : Type} (f : α → α) : ∀ (l : List α) (n : Nat), (updAt l n f)[n]? = (l[n]?).map f
  | [], _ => by simp [updAt]
  | _ :: _, 0 => rfl
  | _ :: rest, n + 1 => by simpa [updAt] using getElem_updAt f rest n

/-! ### Stores -/

theorem lookup_setKey {α : Type} (key : Nat) (v : α) : ∀ l : List (Nat × α), lookup (setKey l key v) key = some v
  | [] => by simp [setKey, lookup]
  | (k, w) :: rest => by
    simp only [setKey]
    split
    · simp [lookup]
    · split
      · simp [lookup]
      · rename_i h; simp only [lookup, if_neg h, lookup_setKey key v rest]

theorem lookup_below {α : Type} {key : Nat} : ∀ {l : List (Nat × α)} {lo : Nat}, risingFrom lo l = true → key < lo → lookup l key = none
  | [], _, _, _ => rfl
  | (k, v) :: rest, lo, h, hk => by
    simp only [risingFrom, Bool.and_eq_true, decide_eq_true_eq] at h
    have : k ≠ key := by omega
    simp only [lookup, if_neg this]
    exact lookup_below h.2 (by omega)

theorem lookup_dropKey {α : Type} {key : Nat} : ∀ {l : List (Nat × α)} {lo : Nat}, risingFrom lo l = true → lookup (dropKey l key) key = none
  | [], _, _ => rfl
  | (k, v) :: rest, lo, h => by
    simp only [risingFrom, Bool.and_eq_true, decide_eq_true_eq] at h
    simp only [dropKey]
    split
    · rename_i e; subst e; exact lookup_below h.2 (Nat.lt_succ_self _)
    · rename_i e; simp only [lookup, if_neg e]; exact lookup_dropKey h.2

theorem lookup_dropKey_ne {α : Type} {key i : Nat} (h : i ≠ key) : ∀ l : List (Nat × α), lookup (dropKey l key) i = lookup l i
  | [] => rfl
  | (k, v) :: rest => by
    simp only [dropKey]
    split
    · rename_i e; subst e; simp [lookup, Ne.symm h]
    · simp only [lookup, lookup_dropKey_ne h rest]

/-- A store in its canonical form reads what was written. -/
theorem fetch_store {α : Type} [DecidableEq α] {dflt : Nat → α} {l : List (Nat × α)} (key : Nat) (v : α) (h : canon dflt l = true) :
    fetch dflt (store dflt l key v) key = v := by
  simp only [canon, Bool.and_eq_true] at h
  by_cases e : v = dflt key
  · subst e; simp only [fetch, store, if_true, lookup_dropKey h.1]
  · simp only [fetch, store, if_neg e, lookup_setKey]

/-- A write leaves every other key. -/
theorem fetch_store_ne {α : Type} [DecidableEq α] (dflt : Nat → α) (l : List (Nat × α)) {key i : Nat} (v : α) (h : i ≠ key) :
    fetch dflt (store dflt l key v) i = fetch dflt l i := by
  by_cases e : v = dflt key
  · simp only [fetch, store, if_pos e, lookup_dropKey_ne h]
  · simp only [fetch, store, if_neg e, lookup_setKey_ne h]

/-! ### The register bank -/

variable {s : State}

/-- A register reads what was written to it. -/
theorem State.reg_setReg (a : Nat) (w : Word) (h : canon resetWord s.regs = true) : (s.setReg a w).reg a = w := fetch_store a w h

/-- A write leaves every other register. -/
@[simp] theorem State.reg_setReg_ne {a b : Nat} (w : Word) (h : b ≠ a) : (s.setReg a w).reg b = s.reg b := fetch_store_ne _ _ w h

/-- A bit of a register set reads so. -/
theorem State.rb_setRb (a n : Nat) (b : Bool) (h : canon resetWord s.regs = true) (hn : n < 32) : (s.setRb a n b).rb a n = b := by
  unfold State.rb State.setRb
  rw [State.reg_setReg a _ h, bit_setBit _ _ _ hn]

/-- A field of a register set reads what was set, cut to its width. -/
theorem State.rf_setRf (a hi lo v : Nat) (h : canon resetWord s.regs = true) (hl : lo ≤ hi) (hh : hi < 32) :
    (s.setRf a hi lo v).rf a hi lo = v % 2 ^ (hi + 1 - lo) := by
  unfold State.rf State.setRf
  rw [State.reg_setReg a _ h, fld_setFld _ _ _ _ hl hh]

/-- A status bit raised reads so, at every register but the interrupt status. -/
theorem State.reg_vector_ne (v a : Nat) (h : a ≠ Reg.CMD_INT_STAT) : (s.vector v).reg a = s.reg a := by
  unfold State.vector
  dsimp only
  split
  all_goals exact State.reg_setReg_ne _ h

end Sys2Proof.Machine
end

