-- ==== Sys2Proof/WellFormed.lean ====
section
/-! DEFINITION. Well-formed commands and events: every header field fits its place in Table 14-1, every number of a command or event 32 bits and
every number of a record among its operands 64, every instant the 48-bit seconds of R26, and every list what a command's 4,032 bytes of payload,
a ring or a buffer can carry. What a well-formed value means, and whether its command accepts it, is for the command's own checks. -/

namespace Sys2Proof

open Sys2Proof.Machine

/-- An instant fits the 96-bit format of R26. -/
def instantOk (t : Instant) : Bool := decide (t < 2 ^ 48 * 65536000000000)

/-- A number fits a word. -/
def numOk (n : Nat) : Bool := decide (n < 2 ^ 32)

/-- A number of a record fits two words. -/
def num64Ok (n : Nat) : Bool := decide (n < 2 ^ 64)

/-- A temperature fits the signed byte of AON_STAT. -/
def tempOk (t : Int) : Bool := decide (-128 ≤ t) && decide (t ≤ 127)

/-- A list holds at most `n` items. -/
def sizeOk {α : Type} (n : Nat) (l : List α) : Bool := decide (l.length ≤ n)

/-- Whether a header's fields fit their places (Table 14-1). -/
def headerOk (h : Hdr) : Bool :=
  instantOk h.at_ && decide (h.tag < 2 ^ 16) && numOk h.payLen && numOk h.timeoutMs && decide (h.bufAddr < 2 ^ 64) && numOk h.bufLen &&
    h.chosen.all instantOk

/-! ### Records among the operands -/

def avfsArgsOk (x : AvfsArgs) : Bool :=
  x.capW.all num64Ok && sizeOk 1073741824 x.floors && x.floors.all (fun p => num64Ok p.2)

def wakePatternArgsOk (x : WakePatternArgs) : Bool :=
  sizeOk 1073741824 x.bytes && x.bytes.all (fun p => num64Ok p.1)

def timeOutputsArgsOk (x : TimeOutputsArgs) : Bool :=
  num64Ok x.ppsWidth

def timeServoArgsOk (x : TimeServoArgs) : Bool :=
  num64Ok x.bwMhz && num64Ok x.lockNs && num64Ok x.driftPs

def timeDiscontArgsOk (x : TimeDiscontArgs) : Bool :=
  num64Ok x.stepThresh && num64Ok x.confirm

def ptpClockDSOk (x : PtpClockDS) : Bool :=
  num64Ok x.identity && num64Ok x.priority1 && num64Ok x.priority2 && num64Ok x.accuracy && num64Ok x.variance

def ptpTimeDSOk (x : PtpTimeDS) : Bool :=
  num64Ok x.timeSource

def ptpPortDSOk (x : PtpPortDS) : Bool :=
  num64Ok x.announceMs && num64Ok x.syncMs && num64Ok x.delayMs && num64Ok x.receipt

def timePtpDsArgsOk (x : TimePtpDsArgs) : Bool :=
  x.clock.all ptpClockDSOk && x.times.all ptpTimeDSOk && x.ds.all ptpPortDSOk

def portProfileArgsOk (x : PortProfileArgs) : Bool :=
  num64Ok x.mode && num64Ok x.fec

def ringSetupOk (x : RingSetup) : Bool :=
  num64Ok x.size

def portRingsArgsOk (x : PortRingsArgs) : Bool :=
  sizeOk 1073741824 x.rings && x.rings.all ringSetupOk && sizeOk 1073741824 x.filters

def portPrpArgsOk (x : PortPrpArgs) : Bool :=
  num64Ok x.forgetMs

def portMacsecArgsOk (x : PortMacsecArgs) : Bool :=
  num64Ok x.slot

def portMacRawArgsOk (x : PortMacRawArgs) : Bool :=
  num64Ok x.maxLen && num64Ok x.pnWarn && num64Ok x.replayWin && x.offset.all num64Ok

def addBlockOk (x : AddBlock) : Bool :=
  num64Ok x.chanBase && num64Ok x.chanSpan && x.offsets.all (fun p => num64Ok p.1 && num64Ok p.2)

def streamAddArgsOk (x : StreamAddArgs) : Bool :=
  sizeOk 1073741824 x.blocks && x.blocks.all addBlockOk && num64Ok x.rate && num64Ok x.svSlot && num64Ok x.synchReq && x.auth.all num64Ok

def streamRefOk (x : StreamRef) : Bool :=
  match x with
  | .key _ => true
  | .index i => num64Ok i

def streamRawArgsOk (x : StreamRawArgs) : Bool :=
  num64Ok x.index

def chanScaleArgsOk (x : ChanScaleArgs) : Bool :=
  sizeOk 1073741824 x.chans && x.chans.all (fun p => num64Ok p.1)

def ingTuneArgsOk (x : IngTuneArgs) : Bool :=
  x.sizeMib.all num64Ok && x.tqMax.all num64Ok && x.cfgPoll.all num64Ok

def pecProfileArgsOk (x : PecProfileArgs) : Bool :=
  sizeOk 1073741824 x.slots

def pecThresholdOk (x : PecThreshold) : Bool :=
  num64Ok x.debounce

def pecSwapArgsOk (x : PecSwapArgs) : Bool :=
  sizeOk 1073741824 x.slots && x.len.all num64Ok

def pecSlotRawArgsOk (x : PecSlotRawArgs) : Bool :=
  num64Ok x.decim && num64Ok x.firProf && num64Ok x.holdMax && num64Ok x.xfLen

def pecCoefArgsOk (x : PecCoefArgs) : Bool :=
  sizeOk 1073741824 x.taps

def groupStartArgsOk (x : GroupStartArgs) : Bool :=
  x.waitNs.all num64Ok && x.deadNs.all num64Ok && x.tolNs.all num64Ok && x.minFill.all num64Ok && x.chans.all (fun l => sizeOk 1073741824 l &&
    l.all num64Ok)

def groupChanArgsOk (x : GroupChanArgs) : Bool :=
  sizeOk 1073741824 x.add && x.add.all num64Ok && sizeOk 1073741824 x.remove && x.remove.all num64Ok

def groupTimingArgsOk (x : GroupTimingArgs) : Bool :=
  x.waitNs.all num64Ok && x.deadNs.all num64Ok && x.minFill.all num64Ok

def histAllocArgsOk (x : HistAllocArgs) : Bool :=
  num64Ok x.depth && num64Ok x.maxChan

def histReadArgsOk (x : HistReadArgs) : Bool :=
  instantOk x.start

def alnTuneArgsOk (x : AlnTuneArgs) : Bool :=
  x.tol.all (fun p => num64Ok p.2) && x.sizeGib.all num64Ok

def depthProfileOk (x : DepthProfile) : Bool :=
  match x with
  | .off => true
  | .depth n => num64Ok n
  | .auto => true

def classRawArgsOk (x : ClassRawArgs) : Bool :=
  num64Ok x.maxAge

def oscProfileArgsOk (x : OscProfileArgs) : Bool :=
  num64Ok x.winS && num64Ok x.first && num64Ok x.count && num64Ok x.order

def oscThresholdArgsOk (x : OscThresholdArgs) : Bool :=
  x.dampPers.all num64Ok && x.ampPers.all num64Ok && x.clrPers.all num64Ok

def oscTblEntryOk (x : OscTblEntry) : Bool :=
  num64Ok x.index

def oscTuneArgsOk (x : OscTuneArgs) : Bool :=
  x.tauS.all num64Ok && x.minValid.all num64Ok && x.k.all (fun p => (fun p => num64Ok p.1 && num64Ok p.2) p.2) && x.pfrDb.all num64Ok &&
    x.cohPct.all num64Ok && x.cvPct.all num64Ok && x.segS.all num64Ok && x.persistS.all num64Ok && x.defWinS.all num64Ok && x.minSig.all num64Ok

def islProfileArgsOk (x : IslProfileArgs) : Bool :=
  num64Ok x.tHoldMs && num64Ok x.clrHoldMs && num64Ok x.taMs && num64Ok x.minLive && num64Ok x.livePct

def modelBufferOk (x : ModelBuffer) : Bool :=
  num64Ok x.nBus && num64Ok x.nBranch && sizeOk 1073741824 x.words

def islTuneArgsOk (x : IslTuneArgs) : Bool :=
  x.ringWait.all num64Ok && x.ringClose.all num64Ok && x.topoPers.all num64Ok && x.topoClr.all num64Ok

def islRawRecOk (x : IslRawRec) : Bool :=
  num64Ok x.index

def pubDestOk (x : PubDest) : Bool :=
  sizeOk 1073741824 x.svid && sizeOk 1073741824 x.svidP

def streamProfileArgsOk (x : StreamProfileArgs) : Bool :=
  pubDestOk x.dest

def layoutBlockOk (x : LayoutBlock) : Bool :=
  sizeOk 1073741824 x.ph && sizeOk 1073741824 x.an && sizeOk 1073741824 x.dg

def layoutBufferOk (x : LayoutBuffer) : Bool :=
  sizeOk 1073741824 x.blocks && x.blocks.all layoutBlockOk

def gocbArgsOk (x : GocbArgs) : Bool :=
  x.strings.all (fun p => sizeOk 1073741824 p.1 && (fun p => sizeOk 1073741824 p.1 && sizeOk 1073741824 p.2) p.2) &&
    x.members.all (sizeOk 1073741824) && x.dest.all pubDestOk

def alarmOutArgsOk (x : AlarmOutArgs) : Bool :=
  x.sels.all (sizeOk 1073741824) && x.minOnMs.all num64Ok

def limitArgsOk (x : LimitArgs) : Bool :=
  num64Ok x.chan && num64Ok x.debounce

def pubStreamRawArgsOk (x : PubStreamRawArgs) : Bool :=
  x.leadDs.all num64Ok

def gocbRawArgsOk (x : GocbRawArgs) : Bool :=
  x.tMin.all num64Ok && x.t0.all num64Ok

def pubTblEntryOk (x : PubTblEntry) : Bool :=
  num64Ok x.index

def capProfileArgsOk (x : CapProfileArgs) : Bool :=
  num64Ok x.pre && num64Ok x.post

def capReadArgsOk (x : CapReadArgs) : Bool :=
  num64Ok x.first && num64Ok x.count

def capTuneArgsOk (x : CapTuneArgs) : Bool :=
  x.rowWait.all num64Ok && x.partGib.all num64Ok

def evrProfileOk (x : EvrProfile) : Bool :=
  sizeOk 1073741824 x.classes && num64Ok x.interval

def evrReadArgsOk (x : EvrReadArgs) : Bool :=
  num64Ok x.first && num64Ok x.last

def keyGenArgsOk (x : KeyGenArgs) : Bool :=
  num64Ok x.bits

def keyImportArgsOk (x : KeyImportArgs) : Bool :=
  sizeOk 1073741824 x.wrapped

def keyDeriveArgsOk (x : KeyDeriveArgs) : Bool :=
  sizeOk 1073741824 x.label && sizeOk 1073741824 x.context && num64Ok x.bits

def keySourceOk (x : KeySource) : Bool :=
  match x with
  | .generate => true
  | .derive _ label context => sizeOk 1073741824 label && sizeOk 1073741824 context
  | .wrapped _ data => sizeOk 1073741824 data
  | .clear key => sizeOk 1073741824 key

def keyReplaceArgsOk (x : KeyReplaceArgs) : Bool :=
  keySourceOk x.source && sizeOk 1073741824 x.kcv

def keyClearArgsOk (x : KeyClearArgs) : Bool :=
  sizeOk 1073741824 x.key

def keyTuneArgsOk (x : KeyTuneArgs) : Bool :=
  x.periodDs.all num64Ok

def cmdTuneArgsOk (x : CmdTuneArgs) : Bool :=
  x.defTimeoutMs.all num64Ok && x.coalCnt.all num64Ok && x.coalUs.all num64Ok

def pairTuneArgsOk (x : PairTuneArgs) : Bool :=
  x.quiet.all num64Ok && x.hbMiss.all num64Ok && x.ackUs.all num64Ok && x.checkMs.all num64Ok

def injectArgsOk (x : InjectArgs) : Bool :=
  match x with
  | .arm _ _ _ _ shots delayUs durUs => num64Ok shots && num64Ok delayUs && num64Ok durUs
  | .disarm _ => true

def txDescOk (x : TxDesc) : Bool :=
  num64Ok x.len

def measurementOk (x : Measurement) : Bool :=
  num64Ok x.milliHz

def todSentenceOk (x : TodSentence) : Bool :=
  sizeOk 1073741824 x.chars

def irigFrameOk (x : IrigFrame) : Bool :=
  num64Ok x.daySecs && num64Ok x.bcdYear && num64Ok x.year1344

def companionReadOk (x : CompanionRead) : Bool :=
  sizeOk 1073741824 x.bytes

def secTagOk (x : SecTag) : Bool :=
  num64Ok x.pn

def c37TlvOk (x : C37Tlv) : Bool :=
  num64Ok x.gmIdentity && num64Ok x.inaccuracyNs

def announceOk (x : Announce) : Bool :=
  num64Ok x.gmIdentity && num64Ok x.gmClass && num64Ok x.gmAccuracy && num64Ok x.gmVariance && num64Ok x.priority1 && num64Ok x.priority2 &&
    num64Ok x.stepsRemoved && num64Ok x.sender && num64Ok x.timeSource && x.tlv.all c37TlvOk

def ptpBodyOk (x : PtpBody) : Bool :=
  match x with
  | .announce a => announceOk a
  | .sync origin _ => instantOk origin
  | .followUp origin => instantOk origin
  | .delayReq => true
  | .delayResp rx => instantOk rx
  | .pdelayReq => true
  | .pdelayResp rx turnaround _ => instantOk rx && num64Ok turnaround
  | .pdelayRespFollowUp tx => instantOk tx
  | .management => true

def ptpMsgOk (x : PtpMsg) : Bool :=
  ptpBodyOk x.body

def c37FrameOk (x : C37Frame) : Bool :=
  sizeOk 1073741824 x.bytes

def asduOk (x : Asdu) : Bool :=
  num64Ok x.smpCnt && num64Ok x.smpSynch && x.smpRate.all num64Ok && sizeOk 1073741824 x.data

def svFrameOk (x : SvFrame) : Bool :=
  num64Ok x.noAsdu && sizeOk 1073741824 x.asdus && x.asdus.all asduOk && x.auth.all (sizeOk 1073741824)

def frameBodyOk (x : FrameBody) : Bool :=
  match x with
  | .ptp m => ptpMsgOk m
  | .macControl opcode pauseTime => num64Ok opcode && num64Ok pauseTime
  | .eapol => true
  | .c37 f => c37FrameOk f
  | .sv f => svFrameOk f
  | .session905 => true
  | .fragmentOrIpv6 => true
  | .prpSupervision => true
  | .hsr => true
  | .other => true

def rxFrameOk (x : RxFrame) : Bool :=
  num64Ok x.len && num64Ok x.fecFixed && num64Ok x.fecBad && x.sectag.all secTagOk && frameBodyOk x.body

def opticsReadOk (x : OpticsRead) : Bool :=
  sizeOk 1073741824 x.bytes

def wakeFrameOk (x : WakeFrame) : Bool :=
  num64Ok x.len && sizeOk 1073741824 x.bytes

def cfgBlockOk (x : CfgBlock) : Bool :=
  sizeOk 1073741824 x.phasors && sizeOk 1073741824 x.analogs && sizeOk 1073741824 x.digitals

def cfgFrameOk (x : CfgFrame) : Bool :=
  num64Ok x.frameSize && num64Ok x.timeBase && sizeOk 1073741824 x.blocks && x.blocks.all cfgBlockOk

def packetOk (x : Packet) : Bool :=
  instantOk x.t && sizeOk 1073741824 x.entries && sizeOk 1073741824 x.status

def blockWriteOk (x : BlockWrite) : Bool :=
  instantOk x.at_

def ringBodyOk (x : RingBody) : Bool :=
  match x with
  | .summary p => packetOk p
  | .command op h => num64Ok op && headerOk h
  | .reply _ _ status words => num64Ok status && sizeOk 1073741824 words
  | .chunk addr data => num64Ok addr && sizeOk 1073741824 data
  | .mailbox _ _ _ _ => true
  | .token count uids => num64Ok count && sizeOk 1073741824 uids && uids.all (sizeOk 1073741824)
  | .map _ _ => true
  | .closedToken _ => true
  | .releaseOrder _ at_ => instantOk at_
  | .joinRecord uid _ => sizeOk 1073741824 uid

def ringFrameOk (x : RingFrame) : Bool :=
  ringBodyOk x.body

def memberViewOk (x : MemberView) : Bool :=
  instantOk x.t

def pubAlarmOk (x : PubAlarm) : Bool :=
  num64Ok x.src && num64Ok x.key && instantOk x.t

def cursorOk (x : Cursor) : Bool :=
  sizeOk 1073741824 x.streams && x.streams.all (fun p => num64Ok p.1 && instantOk p.2) && sizeOk 1073741824 x.blocks &&
    x.blocks.all (fun p => num64Ok p.1 && (fun p => (fun p => (fun l => sizeOk 1073741824 l && l.all memberViewOk) p.2) p.2) p.2) &&
    sizeOk 1073741824 x.alarms && x.alarms.all pubAlarmOk

def heartbeatOk (x : Heartbeat) : Bool :=
  num64Ok x.cause && cursorOk x.cursor

def inclusionListOk (x : InclusionList) : Bool :=
  num64Ok x.setVer && instantOk x.t && num64Ok x.digest && num64Ok x.mirrorCnt && sizeOk 1073741824 x.arrivals && x.arrivals.all num64Ok &&
    sizeOk 1073741824 x.lates

def recOk (x : Rec) : Bool :=
  num64Ok x.chan && num64Ok x.q && num64Ok x.arr

def resultRecordOk (x : ResultRecord) : Bool :=
  num64Ok x.source && num64Ok x.item && num64Ok x.crc

def startArgsOk (x : StartArgs) : Bool :=
  sizeOk 1073741824 x.badKeys && x.badKeys.all num64Ok

/-! ### Commands and events -/

/-- Whether a command or event is well-formed. -/
def Instr.wf (i : Instr) : Bool :=
  match i with
  | .identity h => headerOk h
  | .glbStatus h => headerOk h
  | .glbEnable h l => headerOk h && sizeOk 1008 l
  | .glbLock h l => headerOk h && sizeOk 1008 l
  | .regRead h _ n => headerOk h && numOk n
  | .regWrite h l => headerOk h && sizeOk 1008 l
  | .aonStatus h => headerOk h
  | .pwrState h _ => headerOk h
  | .pwrProfile h _ => headerOk h
  | .tc10Identity h => headerOk h
  | .avfsRaw h a => headerOk h && avfsArgsOk a
  | .islandReset h _ => headerOk h
  | .wakePattern h a => headerOk h && wakePatternArgsOk a
  | .wakePatternRaw h _ => headerOk h
  | .timeStatus h => headerOk h
  | .timeProfile h _ => headerOk h
  | .timeRestep h => headerOk h
  | .timeSources h _ => headerOk h
  | .timeOutputs h p => headerOk h && timeOutputsArgsOk p
  | .timeServo h p => headerOk h && timeServoArgsOk p
  | .timeDiscontCfg h p => headerOk h && timeDiscontArgsOk p
  | .timePtpDs h p => headerOk h && timePtpDsArgsOk p
  | .portStatus h _ => headerOk h
  | .portProfile h a => headerOk h && portProfileArgsOk a
  | .portRings h a => headerOk h && portRingsArgsOk a
  | .portPrp h a => headerOk h && portPrpArgsOk a
  | .portMacsec h a => headerOk h && portMacsecArgsOk a
  | .portOptics h _ a2h => headerOk h && a2h.all (sizeOk 1073741824)
  | .portEq h _ => headerOk h
  | .portMacRaw h a => headerOk h && portMacRawArgsOk a
  | .portOptOverride h _ _ => headerOk h
  | .ingStatus h => headerOk h
  | .ingStreamAdd h a => headerOk h && streamAddArgsOk a
  | .ingStreamRemove h r => headerOk h && streamRefOk r
  | .ingStreamList h => headerOk h
  | .ingUnknown h => headerOk h
  | .ingCfgFetch h r => headerOk h && streamRefOk r
  | .ingHeader h r => headerOk h && streamRefOk r
  | .ingStreamRaw h a => headerOk h && streamRawArgsOk a
  | .ingChanScale h a => headerOk h && chanScaleArgsOk a
  | .ingTune h a => headerOk h && ingTuneArgsOk a
  | .pecStatus h => headerOk h
  | .pecProfile h a => headerOk h && pecProfileArgsOk a
  | .pecInputs h l => headerOk h && sizeOk 1008 l
  | .pecThresholds h l => headerOk h && sizeOk 1008 l && l.all pecThresholdOk
  | .syncDecim h => headerOk h
  | .pecBankSwap h a => headerOk h && pecSwapArgsOk a
  | .pecSlotRaw h a => headerOk h && pecSlotRawArgsOk a
  | .pecCoefLoad h a => headerOk h && pecCoefArgsOk a
  | .pecBankSwapX h a => headerOk h && pecSwapArgsOk a
  | .pecDsyncCfg h _ _ => headerOk h
  | .alnStatus h => headerOk h
  | .alnGroupStart h a => headerOk h && groupStartArgsOk a
  | .alnGroupStop h _ _ => headerOk h
  | .alnGroupChannels h a => headerOk h && groupChanArgsOk a
  | .alnGroupTiming h a => headerOk h && groupTimingArgsOk a
  | .alnHistAlloc h a => headerOk h && histAllocArgsOk a
  | .alnHistRead h a => headerOk h && histReadArgsOk a
  | .alnGroupRaw h _ => headerOk h
  | .alnChanRaw h l => headerOk h && sizeOk 1008 l && l.all (fun p => num64Ok p.1)
  | .alnTune h a => headerOk h && alnTuneArgsOk a
  | .splStatus h => headerOk h
  | .splGroup h _ p => headerOk h && depthProfileOk p
  | .splClass h _ _ => headerOk h
  | .splLedgerRead h _ _ => headerOk h
  | .splClassRaw h a => headerOk h && classRawArgsOk a
  | .splGroupRaw h _ _ _ => headerOk h
  | .oscStatus h => headerOk h
  | .oscSetProfile h a => headerOk h && oscProfileArgsOk a
  | .oscSignals h _ l => headerOk h && sizeOk 1008 l
  | .oscThresholds h a => headerOk h && oscThresholdArgsOk a
  | .oscSetStart h _ => headerOk h
  | .oscSetStop h _ => headerOk h
  | .oscModesRead h _ _ => headerOk h
  | .oscDefBranches h l => headerOk h && sizeOk 1008 l
  | .oscForcedRead h _ _ => headerOk h
  | .oscSetRaw h _ l => headerOk h && sizeOk 1008 l
  | .oscSigRaw h l => headerOk h && sizeOk 1008 l && l.all oscTblEntryOk
  | .oscTune h a => headerOk h && oscTuneArgsOk a
  | .islStatus h => headerOk h
  | .islProfile h a => headerOk h && islProfileArgsOk a
  | .islModelLoad h b => headerOk h && modelBufferOk b
  | .islIslandsRead h _ => headerOk h
  | .islTune h a => headerOk h && islTuneArgsOk a
  | .islTblRaw h l => headerOk h && sizeOk 1008 l && l.all islRawRecOk
  | .islModelActivate h _ => headerOk h
  | .pubStatus h => headerOk h
  | .pubStreamProfile h a => headerOk h && streamProfileArgsOk a
  | .pubStreamLayout h _ l => headerOk h && layoutBufferOk l
  | .pubStreamCtl h _ _ => headerOk h
  | .pubGocb h a => headerOk h && gocbArgsOk a
  | .pubAlarmOut h a => headerOk h && alarmOutArgsOk a
  | .pubLimits h l => headerOk h && sizeOk 1008 l && l.all limitArgsOk
  | .pubAlarmsRead h _ => headerOk h
  | .pubStreamRaw h a => headerOk h && pubStreamRawArgsOk a
  | .pubGocbRaw h a => headerOk h && gocbRawArgsOk a
  | .pubTblRaw h l => headerOk h && sizeOk 1008 l && l.all pubTblEntryOk
  | .capStatus h => headerOk h
  | .capUnitProfile h a => headerOk h && capProfileArgsOk a
  | .capChannels h _ l => headerOk h && sizeOk 1008 l
  | .capArm h _ => headerOk h
  | .capStop h _ _ => headerOk h
  | .capForce h _ => headerOk h
  | .capList h _ => headerOk h
  | .capRead h a => headerOk h && capReadArgsOk a
  | .capFree h _ => headerOk h
  | .capLock h _ _ => headerOk h
  | .capSeqRaw h _ l => headerOk h && sizeOk 1008 l
  | .capArmX h _ _ => headerOk h
  | .capTune h a => headerOk h && capTuneArgsOk a
  | .evrStatus h => headerOk h
  | .evrClassProfile h p => headerOk h && evrProfileOk p
  | .evrRead h a => headerOk h && evrReadArgsOk a
  | .evrPubkey h => headerOk h
  | .evrSeal h => headerOk h
  | .evrClearNonce h => headerOk h
  | .evrClear h nonce tag => headerOk h && sizeOk 1073741824 nonce && sizeOk 1073741824 tag
  | .evrHostEvent h _ => headerOk h
  | .evrClassRaw h l => headerOk h && sizeOk 1008 l
  | .keyStatus h => headerOk h
  | .keyInfo h _ => headerOk h
  | .keyGenerate h a => headerOk h && keyGenArgsOk a
  | .keyImport h a => headerOk h && keyImportArgsOk a
  | .keyDerive h a => headerOk h && keyDeriveArgsOk a
  | .keyReplace h a => headerOk h && keyReplaceArgsOk a
  | .keyReplaceCommit h _ kcv => headerOk h && sizeOk 1073741824 kcv
  | .keyDestroy h _ => headerOk h
  | .keyExport h _ _ => headerOk h
  | .keyLcNonce h => headerOk h
  | .keyLifecycle h _ nonce tag => headerOk h && sizeOk 1073741824 nonce && sizeOk 1073741824 tag
  | .keyAttest h _ nonce => headerOk h && sizeOk 1073741824 nonce
  | .keyTxnResult h => headerOk h
  | .keyImportClear h a => headerOk h && keyClearArgsOk a
  | .keyAttrRaw h _ => headerOk h
  | .keyTune h a => headerOk h && keyTuneArgsOk a
  | .cmdSessionOpen h _ => headerOk h
  | .cmdSessionClose h => headerOk h
  | .lockAcquire h _ leaseMs _ => headerOk h && numOk leaseMs
  | .lockRenew h _ leaseMs => headerOk h && numOk leaseMs
  | .lockRelease h _ => headerOk h
  | .lockStatus h => headerOk h
  | .cmdEcho h payload => headerOk h && sizeOk 1008 payload
  | .cmdTune h a => headerOk h && cmdTuneArgsOk a
  | .mbxStatus h _ => headerOk h
  | .mbxSend h _ _ _ => headerOk h
  | .mbxRecv h _ _ => headerOk h
  | .mbxPeek h _ => headerOk h
  | .mbxBind h _ _ _ _ => headerOk h
  | .mbxClear h _ => headerOk h
  | .casStatus h => headerOk h
  | .casRejoin h _ => headerOk h
  | .casReform h => headerOk h
  | .casTune h _ _ => headerOk h
  | .memStatus h => headerOk h
  | .memTickets h _ => headerOk h
  | .memHostRead h off len => headerOk h && numOk off && numOk len
  | .memHostWrite h off data => headerOk h && numOk off && sizeOk 1073741824 data
  | .memTicketsRaw h _ _ => headerOk h
  | .memLfsr h _ _ => headerOk h
  | .pairStatus h => headerOk h
  | .pairForm h _ _ => headerOk h
  | .pairJoin h => headerOk h
  | .pairSwap h => headerOk h
  | .pairSwapSched h hours => headerOk h && numOk hours
  | .pairRestart h => headerOk h
  | .pairSplit h => headerOk h
  | .pairTune h a => headerOk h && pairTuneArgsOk a
  | .fltStatus h => headerOk h
  | .inject h a => headerOk h && injectArgsOk a
  | .fltInjRaw h _ => headerOk h
  | .sqDoorbell at_ tail => instantOk at_ && numOk tail
  | .rqHeadFree at_ _ => instantOk at_
  | .heartbeatFeed at_ => instantOk at_
  | .fetchEnable at_ => instantOk at_
  | .fetchDisable at_ => instantOk at_
  | .blockLockSet at_ _ _ => instantOk at_
  | .regWritePlain at_ _ _ => instantOk at_
  | .rcCounterRead at_ _ => instantOk at_
  | .counter64LoRead at_ _ _ => instantOk at_
  | .timeNowLatchRead at_ => instantOk at_
  | .fineTimeLatchRead at_ => instantOk at_
  | .evrSeqLatchRead at_ => instantOk at_
  | .txtsIdRead at_ _ => instantOk at_
  | .tdcStampRead at_ _ => instantOk at_
  | .compareArm at_ _ _ _ => instantOk at_
  | .portModeChange at_ _ _ _ => instantOk at_
  | .rxTailWrite at_ _ _ _ => instantOk at_
  | .txTailWrite at_ _ _ _ descs => instantOk at_ && sizeOk 4096 descs && descs.all txDescOk
  | .ingTblRead at_ => instantOk at_
  | .ingTblWrite at_ => instantOk at_
  | .pecTblRead at_ => instantOk at_
  | .pecTblWrite at_ => instantOk at_
  | .alnChanRead at_ => instantOk at_
  | .alnChanWrite at_ => instantOk at_
  | .oscTblRead at_ => instantOk at_
  | .oscTblWrite at_ => instantOk at_
  | .islTblReadActive at_ => instantOk at_
  | .islTblWriteStaged at_ => instantOk at_
  | .islTblReadStaged at_ => instantOk at_
  | .pubTblRead at_ => instantOk at_
  | .pubTblWrite at_ => instantOk at_
  | .alnGrpRegWrite at_ _ _ _ => instantOk at_
  | .splClassRegWrite at_ l => instantOk at_ && sizeOk 1008 l
  | .capPartWrite at_ _ => instantOk at_
  | .mbxWordWrite at_ _ _ _ _ => instantOk at_
  | .mbxW15Read at_ _ => instantOk at_
  | .mbxBindWrite at_ _ _ => instantOk at_
  | .injSlotArm at_ _ _ => instantOk at_
  | .injSlotDisarm at_ _ => instantOk at_
  | .commandFetch _ h => headerOk h
  | .commandTimeout _ _ => true
  | .coreWatchdogExpiry at_ _ _ cmds => instantOk at_ && sizeOk 1008 cmds
  | .lockLeaseExpiry _ => true
  | .heartbeatExpiry => true
  | .replyCoalesceExpiry _ => true
  | .cascadeReplyAggregate at_ _ _ => instantOk at_
  | .routedCommandReceive _ h => headerOk h
  | .mirroredCommandReceive at_ _ h => instantOk at_ && headerOk h
  | .mirrorAckReceive at_ _ _ _ => instantOk at_
  | .ptpMessageReceive at_ => instantOk at_
  | .announceReceiptTimeout _ => true
  | .servoMeasurement at_ m => instantOk at_ && measurementOk m
  | .sourceUnqualifyTimeout _ => true
  | .restepTake => true
  | .leapSecondEnd => true
  | .ppsInEdge at_ _ widthNs => instantOk at_ && numOk widthNs
  | .todSentenceReceive at_ m => instantOk at_ && todSentenceOk m
  | .irigFrameReceive at_ f => instantOk at_ && irigFrameOk f
  | .ppsOutPulse => true
  | .todSentenceSend => true
  | .tdcEdgeStamp at_ _ _ => instantOk at_
  | .compareFire _ => true
  | .trigOutPulseEnd _ => true
  | .tcPresChange at_ _ => instantOk at_
  | .tc10IdentityReadComplete at_ r => instantOk at_ && companionReadOk r
  | .tc10WarmupEnd => true
  | .frameReceive at_ _ f => instantOk at_ && rxFrameOk f
  | .pauseExpiry _ => true
  | .pauseRepeat _ => true
  | .prpForgetExpiry _ => true
  | .transmitSelect at_ _ => instantOk at_
  | .frameTransmitComplete at_ _ => instantOk at_
  | .linkUp at_ _ _ => instantOk at_
  | .linkDown at_ _ => instantOk at_
  | .eqAdaptComplete at_ _ _ => instantOk at_
  | .modAbsChange at_ _ _ => instantOk at_
  | .modAbsDebounceEnd _ => true
  | .opticsReadStart _ => true
  | .opticsReadComplete at_ _ r => instantOk at_ && opticsReadOk r
  | .opticsReadRetry _ => true
  | .wakePatternMatch at_ _ f => instantOk at_ && wakeFrameOk f
  | .parseFrame at_ => instantOk at_
  | .heldConfigApply at_ _ => instantOk at_
  | .configFrameReceive at_ c => instantOk at_ && cfgFrameOk c
  | .cfgPollTimer _ => true
  | .cfgFetchTimeout _ => true
  | .c37CommandFrameReceive at_ _ _ => instantOk at_
  | .svSampleIn at_ => instantOk at_
  | .estimateOutput at_ _ => instantOk at_
  | .slotRestart _ => true
  | .dsyncEdge at_ _ widthNs => instantOk at_ && numOk widthNs
  | .crossfadeEnd at_ _ => instantOk at_
  | .heldSwapStart at_ _ => instantOk at_
  | .accordValueReceive at_ => instantOk at_
  | .provisionalIssue _ => true
  | .windowClose _ => true
  | .closeGuardEnd _ => true
  | .emptyGroupTrigger _ => true
  | .snapshotCommit at_ _ => instantOk at_
  | .groupStartReached _ => true
  | .groupChangeEffective _ => true
  | .classChangeEffective at_ => instantOk at_
  | .provisionalSnapshotEvaluate at_ => instantOk at_
  | .committedSnapshotEvaluate at_ => instantOk at_
  | .confirmReceive at_ => instantOk at_
  | .rollbackReceive at_ => instantOk at_
  | .flushReceive at_ => instantOk at_
  | .summaryPacketReceive at_ p => instantOk at_ && packetOk p
  | .provisionalViewForm at_ => instantOk at_
  | .ringWaitExpiry => true
  | .ringCommit at_ => instantOk at_
  | .ringCloseExpiry => true
  | .islModelEffective => true
  | .oscSnapshotIntake at_ => instantOk at_
  | .oscUpdateReady at_ _ => instantOk at_
  | .oscUpdateComplete at_ _ => instantOk at_
  | .alarmBatchReceive at_ => instantOk at_
  | .gooseRetransmit _ => true
  | .alarmOutMinOnExpiry _ => true
  | .snapshotPublish at_ => instantOk at_
  | .streamChangeEffective _ => true
  | .captureRowClose at_ => instantOk at_
  | .captureRowWaitExpiry _ => true
  | .captureEventQueue at_ => instantOk at_
  | .recordDrainComplete at_ _ => instantOk at_
  | .eventAccumulate at_ => instantOk at_
  | .accumulationIntervalEnd _ => true
  | .immediateHoldoffEnd _ => true
  | .recordMramWrite at_ _ _ => instantOk at_
  | .signatureBlockWrite w => blockWriteOk w
  | .evrNonceExpiry => true
  | .keyRemask at_ => instantOk at_
  | .keyCommitComplete at_ _ => instantOk at_
  | .stagedKeyDiscard _ => true
  | .childCascadeDestroy _ => true
  | .lcNonceExpiry => true
  | .katRun at_ _ => instantOk at_
  | .mbxClaimLapse _ => true
  | .mbxRingMessageArrive at_ _ _ _ _ => instantOk at_
  | .ringFormationToken at_ count uids => instantOk at_ && numOk count && sizeOk 64 uids && uids.all (sizeOk 1073741824)
  | .ringFormationReturn at_ count uids => instantOk at_ && numOk count && sizeOk 64 uids && uids.all (sizeOk 1073741824)
  | .ringFormationTimeout => true
  | .ringMapBroadcast at_ => instantOk at_
  | .ringMapReceive at_ _ _ => instantOk at_
  | .ringFrameReceive at_ f => instantOk at_ && ringFrameOk f
  | .crInSilence at_ => instantOk at_
  | .ringRelock at_ _ => instantOk at_
  | .ringClosedToken at_ _ => instantOk at_
  | .rejoinRelease => true
  | .joinRecordReceive at_ uid _ => instantOk at_ && sizeOk 1073741824 uid
  | .rejoinTrialTimeout => true
  | .arbitrationDraw at_ _ _ _ _ => instantOk at_
  | .barrierComplete at_ _ => instantOk at_
  | .fabricTimeout at_ _ _ => instantOk at_
  | .handshakeTimeout at_ _ _ _ => instantOk at_
  | .interlockWatchdogFeed at_ => instantOk at_
  | .interlockWatchdogExpiry => true
  | .ownWaveLost at_ _ => instantOk at_
  | .interlockQuiet at_ => instantOk at_
  | .claimConfirm at_ _ => instantOk at_
  | .claimBackoffEnd => true
  | .preferActiveContendTimeout at_ => instantOk at_
  | .pairHeartbeatSend at_ => instantOk at_
  | .pairHeartbeatReceive at_ h => instantOk at_ && heartbeatOk h
  | .peerLaneLoss at_ => instantOk at_
  | .inclusionListReceive at_ l => instantOk at_ && inclusionListOk l
  | .pairRecordFetchComplete at_ recs => instantOk at_ && sizeOk 1008 recs && recs.all recOk
  | .pairAckReceive at_ _ t => instantOk at_ && instantOk t
  | .pairAckTimeout => true
  | .resultRecordReceive at_ r => instantOk at_ && resultRecordOk r
  | .copyPhaseAComplete at_ _ => instantOk at_
  | .copyTCut => true
  | .copyImageInstalled at_ _ => instantOk at_
  | .copyComplete at_ => instantOk at_
  | .copyTimeout => true
  | .swapFramesDrained at_ => instantOk at_
  | .swapCheckExpiry => true
  | .swapCheckFail at_ => instantOk at_
  | .scheduledSwap => true
  | .supplyInRange at_ tempC => instantOk at_ && tempOk tempC
  | .powerUpComplete at_ a => instantOk at_ && startArgsOk a
  | .vinLoss at_ => instantOk at_
  | .resetNPulse at_ widthNs => instantOk at_ && numOk widthNs
  | .perstNAssert at_ => instantOk at_
  | .perstNRelease at_ => instantOk at_
  | .wakeNEdge at_ => instantOk at_
  | .stateTransitionComplete at_ => instantOk at_
  | .temperatureSample at_ tempC => instantOk at_ && tempOk tempC
  | .islandWatchdogExpiry at_ _ _ => instantOk at_
  | .railWindowFault at_ _ _ => instantOk at_
  | .pllLockLoss at_ _ _ => instantOk at_
  | .cpmMarginLoss at_ _ _ => instantOk at_
  | .clockStretchEnd _ => true
  | .injectionFire _ => true
  | .injectionSpanEnd _ => true
  | .injBitClear => true
  | .ptpMessageInterval _ => true
  | .vioOutOfRange at_ => instantOk at_
  | .vinAboveRange at_ => instantOk at_
  | .pllRelock at_ _ => instantOk at_
  | .alarmOutReadbackCheck at_ _ _ => instantOk at_
  | .rngHealthTest at_ _ => instantOk at_

end Sys2Proof
end

