-- ==== Sys2Proof/Tests/Slice0.lean ====
section
/-! SUPPORT. Tests of the model: ill-formed commands are refused, values of the manual's own examples come out, and for every statement a state and
operands meet what it assumes. -/

set_option Elab.async false

namespace Sys2Proof.Machine

/-! ### A command at its turn -/

/-- A plain header: the host's, of session 0, for the head. -/
def hdr0 : Hdr := ⟨0, 0, 0#32, 0, false, false, false, 0, 0, 0, 64, 1048576, .host, none, none, .good, 0#4⟩

/-- A command in flight under that header, which owes nobody an acknowledgement. -/
def flight0 (op : Nat) : Flight := ⟨0, 0#32, op, 0, false, false, 0, .host, 0, 0, .mirrored, false, 0, none, 0⟩

/-- A module with one command in flight. -/
def State.atTurn (s : State) (op : Nat) : State := s.setCmd (fun c => { c with flights := [flight0 op] })

/-- The command of an opcode can be performed, accepted or queued on a module: it is at its turn, its condition holds, and its effect, whatever it
changes, meets no lock. -/
def Can (op : Nat) (cond : State → Prop) (s : State) : Prop :=
  Ready op hdr0 (s.atTurn op) ∧ cond ((s.atTurn op).turn op hdr0) ∧ ∀ t, ((s.atTurn op).turn op hdr0).breaksLock t = false

/-- An address that holds a lock bit: that of its window, its port or the command block, or a mailbox binding. -/
def holdsLock (a : Nat) : Bool := blockOf a == 15 || lockReg a == a

/-- No lock bit of a bank is set. -/
def unlockedBank (l : List (Nat × Word)) : Bool := l.all (fun x => !holdsLock x.1 || !bit x.2 31)

theorem lookup_unlocked {a : Nat} {l : List (Nat × Word)} {v : Word} (h : unlockedBank l = true) (ha : holdsLock a = true)
    (e : lookup l a = some v) : bit v 31 = false := by
  induction l with
  | nil => cases e
  | cons x rest ih =>
    obtain ⟨k, w⟩ := x
    simp only [unlockedBank, List.all_cons, Bool.and_eq_true] at h
    unfold lookup at e
    split at e
    · rename_i hk; subst hk; cases e; simpa [ha] using h.1
    · exact ih h.2 e

/-- A word of a window whose registers all reset with bit 31 clear. -/
theorem resetWord_clear {a : Nat} (h : (regsOf (blockOf a)).all (fun d => decide (d.reset < 2 ^ 31)) = true) : bit (resetWord a) 31 = false := by
  unfold resetWord
  cases e : descAt a with
  | none => decide
  | some d =>
    have := List.all_eq_true.mp h d (List.mem_of_find?_eq_some e)
    simp only [decide_eq_true_eq] at this
    unfold bit word
    rw [BitVec.getLsbD_ofNat]
    simp [Nat.testBit_lt_two_pow this]

theorem unlocked_rb {s : State} {a : Nat} (h : unlockedBank s.regs = true) (ha : holdsLock a = true)
    (hr : bit (resetWord a) 31 = false) : s.rb a 31 = false := by
  unfold State.rb State.reg fetch
  cases e : lookup s.regs a with
  | none => exact hr
  | some v => exact lookup_unlocked h ha e

theorem windows_clear (b : Nat) (h : b ≠ 12 ∧ b ≠ 14) : (regsOf b).all (fun d => decide (d.reset < 2 ^ 31)) = true := by
  unfold regsOf
  split <;> first | rfl | decide | exact absurd rfl h.1 | exact absurd rfl h.2

theorem lockReg_block {a : Nat} (h : blockOf a ≠ 14) : blockOf (lockReg a) = blockOf a := by
  unfold lockReg
  split
  · unfold blockOf at *; omega
  · unfold blockOf at *; omega

theorem lockReg_holds (a : Nat) : holdsLock (lockReg a) = true := by
  have : lockReg (lockReg a) = lockReg a := by
    by_cases h14 : blockOf a = 14
    · have : lockReg a = Reg.CMD_CTL := by unfold lockReg; simp [h14]
      rw [this]; decide
    · have hb := lockReg_block h14
      unfold lockReg at hb ⊢
      split
      · rename_i h3
        simp only [h3, if_true] at hb ⊢
        simp only [hb, if_true]
        omega
      · rename_i h3
        simp only [h3, h14, if_false] at hb ⊢
        simp only [hb, h3, h14, if_false]
  simp [holdsLock, this]

/-- No lock is set where no lock bit of the bank is. -/
theorem unlocked_isLocked {s : State} (h : unlockedBank s.regs = true) (a : Nat) : s.isLocked a = false := by
  unfold State.isLocked
  split
  · rename_i e
    exact unlocked_rb h (by simp [holdsLock, e]) (resetWord_clear (windows_clear _ (by omega)))
  · apply unlocked_rb h (lockReg_holds a)
    by_cases h14 : blockOf a = 14
    · have : lockReg a = Reg.CMD_CTL := by unfold lockReg; simp [h14]
      rw [this]; decide
    · by_cases h12 : blockOf a = 12
      · have : lockReg a = 0xC0000 := by unfold lockReg; simp [h12]
        rw [this]; decide
      · exact resetWord_clear (by rw [lockReg_block h14]; exact windows_clear _ ⟨h12, h14⟩)

theorem unlocked_breaks {s : State} (h : unlockedBank s.regs = true) (t : State) : s.breaksLock t = false := by
  unfold State.breaksLock
  rw [List.any_eq_false]
  intro p _
  simp [unlocked_isLocked h]

theorem executable_at {op : Nat} {s : State} (hi : s.ownIndex = 0) : ((s.atTurn op).advance 0).executable op hdr0 = some (flight0 op) := by
  have hb : ((s.atTurn op).advance 0).isBehind (flight0 op) = false := by simp [State.isBehind, State.atTurn, State.setCmd, State.advance]
  have hh : ((s.atTurn op).advance 0).isHere (flight0 op) = true := by
    have : ((s.atTurn op).advance 0).ownIndex = 0 := hi
    simp [State.isHere, flight0, this]
  have hl : ((s.atTurn op).advance 0).cmd.flights = [flight0 op] := rfl
  unfold State.executable
  simp only [hdr0, hl, List.find?_cons, hh, hb]
  simp [flight0, Flight.is]

/-- No instant is chosen for the command, so it works on the module at its instant. -/
theorem turn_at {op : Nat} {s : State} (hi : s.ownIndex = 0) : (s.atTurn op).turn op hdr0 = (s.atTurn op).advance 0 := by
  have e : (s.atTurn op).chosenFor op hdr0 = none := by
    unfold State.chosenFor
    split
    · rfl
    · have h := executable_at (op := op) hi
      show (((s.atTurn op).advance 0).executable op hdr0).bind _ = none
      rw [h]; rfl
  unfold State.turn
  rw [e]; rfl

theorem ready_at {op : Nat} {s : State} (hi : s.ownIndex = 0) (ho : s.opcodeRuns op = true) : Ready op hdr0 (s.atTurn op) :=
  ⟨⟨flight0 op, executable_at hi, (by simp [flight0]), Or.inl rfl⟩, ho, rfl, Or.inl rfl⟩

theorem can_at {op : Nat} {cond : State → Prop} {s : State} (hi : s.ownIndex = 0) (ho : s.opcodeRuns op = true) (hl : unlockedBank s.regs = true)
    (hc : cond ((s.atTurn op).advance 0)) : Can op cond s :=
  ⟨ready_at hi ho, (turn_at hi).symm ▸ hc, (turn_at hi).symm ▸ unlocked_breaks hl⟩

/-- After reset every opcode runs. -/
theorem reset_runs (op : Nat) : State.reset.opcodeRuns op = true := by
  have h : ∀ b, (match islandOf b with | some i => State.reset.runs i | none => true) = true := by
    intro b
    unfold islandOf
    split <;> first | rfl | decide
  exact h (op / 256)

theorem can_at_reset {op : Nat} {cond : State → Prop} (hc : cond ((State.reset.atTurn op).advance 0)) : Can op cond State.reset :=
  can_at rfl (reset_runs op) rfl hc

/-- A property of every member of a list, decided member by member. -/
theorem all_mem {α : Type} {P : α → Prop} [DecidablePred P] {l : List α} (h : l.all (fun a => decide (P a)) = true) : ∀ a ∈ l, P a :=
  fun a m => of_decide_eq_true (List.all_eq_true.mp h a m)

/-! ### Small pieces of state -/

/-- A synchrophasor stream of one block, and a module that has learnt of it. -/
def addC37 : StreamAddArgs := ⟨⟨0, 1#48, 2#16, 3#16, 0#32⟩, true, none, false, false, true, [⟨0, 1023, none⟩], 0, 0, 0, none, 0#32⟩
def withC37 : State := State.reset.setEntry 0 (addWords addC37 0 ⟨0, 1023, none⟩)

/-- A sampled-value stream into slot 0, and a module that takes it. -/
def addSv : StreamAddArgs := ⟨⟨1, 1#48, 0#16, 0x4000#16, 5#32⟩, false, none, false, false, true, [], 4000, 0, 0, none, 0#32⟩
def withSv : State := State.reset.setEntry 0 (addWords addSv 0 ⟨0, 0, none⟩)

/-- An empty committed snapshot of group 0, an assembly of one channel, and a group that runs. -/
def snap0 : Snapshot := ⟨0, true, false, false, 0, 1#32, 5, 50, 0, 0#32, 0, 0, 0, 20, 50, [], false⟩
def asm0 : Asm := ⟨5, 0, ⟨0#32, 0#32, 0#32⟩, 0, [0], [], none, false, false, false, false⟩
def running (g : Nat) : State := State.reset.updGroup g (fun x => { x with st := .running })

/-- A layout of one block of no channels, and its buffer. -/
def layout0 : LayoutBuffer :=
  let b : LayoutBlock := ⟨Vector.ofFn (fun _ => 0#8), 0#16, 0xFFFFFFFF#32, 0xFFFFFFFF#32, [], [], []⟩
  ⟨0#16, crc32c (LayoutBuffer.body ⟨0#16, 0#32, [b]⟩), [b]⟩

/-- Capture unit 3 set to record input 0 of a sampled-value stream, with a partition of 8 GiB. -/
def withCapture : State := (withSv.setReg (Reg.CAP_U_CH 3 0) 0x80000000#32).setReg Reg.CAP_CTL 0x801#32

/-- A closed record of the capture directory. -/
def rec0 : CapRec := ⟨255, 0, true, false, 0, 1, false, 4000, 0, 1#32, 0, 0, 0, 0, 0, 0, [], []⟩

/-- A record of Sillage and an accumulation. -/
def evr0 : EvrRecord := ⟨1, 0, 0, 1#32, 0, 0, 0, 1, 0#32, [], 0#32, 0, 0#32, 0, 0, 0, 0, [], 0⟩
def accum0 : Accum := ⟨0, 0, 1, [], 0, 0, 0, 0, 0, 0, 0, false, false, [], 1#32, false, false, none⟩

/-- A key of a class in slot `n`. -/
def withKey (n cls : Nat) : State := State.reset.updKslot n (fun x => { x with st := .active, cls := cls, len := 32, uses := 1#32 })

/-- A replacement of the key of slot 255, and the module with it. -/
def shadow0 (staged : Option Nat) : KeyShadow := ⟨255, 0#32, [], 1#32, 0, none, false, staged, 0, 0#32, State.reset.kslot 255⟩
def withShadow (staged : Option Nat) : State := State.reset.setKeys (fun k => { k with shadows := [shadow0 staged] })

/-- A MACsec key of 16 zero bytes as it stands when unwrapped: class 0, 16 bytes long, one use, its check value, the key. -/
def unwrapped0 (c0 c1 c2 : Byte) : List Byte :=
  [0#8, 16#8, 0#8, 0#8, 1#8, 0#8, 0#8, 0#8, c0, c1, c2, 0#8, 0#8, 0#8, 0#8, 0#8] ++ List.replicate 16 0#8

theorem unwrap0 {op : Nat} {data : List Byte} {c0 c1 c2 : Byte} (hv : checkValue 0 (List.replicate 16 0#8) = [c0, c1, c2])
    (h : Config.kwpUnwrap [] data = some (unwrapped0 c0 c1 c2)) :
    ((((withKey 1 4).atTurn op).advance 0).unwrap 1 data).1 = .ok (parseWrapped (unwrapped0 c0 c1 c2)) := by
  have hk : (((withKey 1 4).atTurn op).advance 0).keyBytes 1 = [] := rfl
  have hu : ((((withKey 1 4).atTurn op).advance 0).useKeySlot 1 [4]).1 = 0 := rfl
  have hp : parseWrapped (unwrapped0 c0 c1 c2) = ⟨0, 16, 0, 1#32, [c0, c1, c2], List.replicate 16 0#8⟩ := rfl
  unfold State.unwrap
  simp only [hk, hu, h, hp, hv]
  simp [lengthFits, classBits]

theorem armed_of {x : Except Nat (Nat × Nat) × State} (h : x.1.toBool = true) : ∃ t k b, x = (.ok (k, b), t) := by
  obtain ⟨a, t⟩ := x
  cases a with
  | ok v => exact ⟨t, v.1, v.2, rfl⟩
  | error e => cases h

/-- What the host's own commands send comes to its buffer. -/
theorem host_passes (s : State) : s.chunksPass hdr0.via := Or.inl (by decide)

/-- A module that may inject, a heartbeat of a peer, and a module in a state of the pair. -/
def injecting : State := (State.reset.setReg Reg.FLT_CTL 2#32).setKeys (fun k => { k with lc := .service })
def beat0 (st : PairState) (ok : Bool) : Heartbeat := ⟨st, 0, true, false, 1, 0#32, false, ⟨[], [], []⟩, ok⟩
def inPair (st peer : PairState) : State := State.reset.setPair (fun p => { p with st := st, peer := some (beat0 peer true), lane := true })

/-! ### Well-formed and ill-formed commands -/

/-- The header of the witnesses is well-formed, and a header is refused for each of its fields that does not fit. -/
theorem test_header_checks :
    headerOk hdr0 = true ∧ headerOk { hdr0 with at_ := 2 ^ 48 * 65536000000000 } = false ∧ headerOk { hdr0 with tag := 65536 } = false ∧
    headerOk { hdr0 with payLen := 2 ^ 32 } = false ∧ headerOk { hdr0 with timeoutMs := 2 ^ 32 } = false ∧
    headerOk { hdr0 with bufAddr := 2 ^ 64 } = false ∧ headerOk { hdr0 with bufLen := 2 ^ 32 } = false := by decide

/-- Commands and events: a good one of each shape, and one refused for its header, its instant, a number, a temperature or a record. -/
theorem test_instr_checks :
    (Sys2Proof.Instr.identity hdr0).wf = true ∧ (Sys2Proof.Instr.identity { hdr0 with tag := 65536 }).wf = false ∧
    (Sys2Proof.Instr.fetchEnable (2 ^ 48 * 65536000000000 - 1)).wf = true ∧ (Sys2Proof.Instr.fetchEnable (2 ^ 48 * 65536000000000)).wf = false ∧
    (Sys2Proof.Instr.lockRenew hdr0 0 (2 ^ 32)).wf = false ∧ (Sys2Proof.Instr.temperatureSample 0 127).wf = true ∧
    (Sys2Proof.Instr.temperatureSample 0 128).wf = false ∧ (Sys2Proof.Instr.temperatureSample 0 (-129)).wf = false ∧
    (Sys2Proof.Instr.timeServo hdr0 ⟨2 ^ 64, 0, 0⟩).wf = false := by decide

/-- A list longer than a payload is refused. -/
theorem test_instr_too_long (l : List Word) (h : 1008 < l.length) : (Sys2Proof.Instr.cmdEcho hdr0 l).wf = false := by
  have e : sizeOk 1008 l = false := decide_eq_false (Nat.not_le.mpr h)
  exact (congrArg (headerOk hdr0 && ·) e).trans (Bool.and_false _)

/-- Records that are not well-formed are refused: a number that does not fit, or an instant that does not. -/
theorem test_record_refused_1 :
    avfsArgsOk ⟨some (2 ^ 64), []⟩ = false ∧
    wakePatternArgsOk ⟨0, 0, [(2 ^ 64, 0)], false⟩ = false ∧
    timeOutputsArgsOk ⟨false, 2 ^ 64, false, false, 0⟩ = false ∧
    timeServoArgsOk ⟨2 ^ 64, 0, 0⟩ = false ∧
    timeDiscontArgsOk ⟨2 ^ 64, 0, false⟩ = false ∧
    ptpClockDSOk ⟨2 ^ 64, 0, 0, 0, 0⟩ = false ∧
    ptpTimeDSOk ⟨false, false, 2 ^ 64⟩ = false ∧
    ptpPortDSOk ⟨2 ^ 64, 0, 0, 0⟩ = false ∧
    timePtpDsArgsOk ⟨some (⟨2 ^ 64, 0, 0, 0, 0⟩), none, 0, none, none⟩ = false ∧
    portProfileArgsOk ⟨0, 2 ^ 64, 0, false⟩ = false ∧
    ringSetupOk ⟨false, 0, 0, 2 ^ 64⟩ = false ∧
    portRingsArgsOk ⟨0, [⟨false, 0, 0, 2 ^ 64⟩], []⟩ = false ∧
    portPrpArgsOk ⟨0, false, 2 ^ 64⟩ = false ∧
    portMacsecArgsOk ⟨0, false, none, 0, 0, 2 ^ 64, .gcm128, 0⟩ = false ∧
    portMacRawArgsOk ⟨0, 2 ^ 64, 0, 0, 0, 0, 0, none⟩ = false ∧
    addBlockOk ⟨2 ^ 64, 0, none⟩ = false := by decide

/-- Records that are not well-formed are refused: a number that does not fit, or an instant that does not. -/
theorem test_record_refused_2 :
    streamAddArgsOk ⟨⟨0, 0, 0, 0, 0⟩, false, none, false, false, false, [⟨2 ^ 64, 0, none⟩], 0, 0, 0, none, 0⟩ = false ∧
    streamRefOk (.index (2 ^ 64)) = false ∧
    streamRawArgsOk ⟨2 ^ 64, Vector.ofFn (fun _ => 0)⟩ = false ∧
    chanScaleArgsOk ⟨[(2 ^ 64, ⟨.freq, 0, 0⟩)]⟩ = false ∧
    ingTuneArgsOk ⟨some (2 ^ 64), none, none, none⟩ = false ∧
    pecThresholdOk ⟨0, 0, 0, 0, 2 ^ 64, false, false⟩ = false ∧
    pecSwapArgsOk ⟨[], some (2 ^ 64), false⟩ = false ∧
    pecSlotRawArgsOk ⟨0, 2 ^ 64, 0, 0, false, 0⟩ = false ∧
    groupStartArgsOk ⟨0, none, some (2 ^ 64), none, none, none, none, none, none⟩ = false ∧
    groupChanArgsOk ⟨0, [2 ^ 64], []⟩ = false ∧
    groupTimingArgsOk ⟨0, some (2 ^ 64), none, none, none⟩ = false ∧
    histAllocArgsOk ⟨0, 2 ^ 64, 0⟩ = false ∧
    histReadArgsOk ⟨0, 2 ^ 48 * 65536000000000⟩ = false ∧
    alnTuneArgsOk ⟨some ((0, 2 ^ 64)), none⟩ = false ∧
    depthProfileOk (.depth (2 ^ 64)) = false ∧
    classRawArgsOk ⟨0, 0, 2 ^ 64, 0, 0, 0, 0⟩ = false := by decide

/-- Records that are not well-formed are refused: a number that does not fit, or an instant that does not. -/
theorem test_record_refused_3 :
    oscProfileArgsOk ⟨0, 0, 2 ^ 64, 0, 0, 0, 0⟩ = false ∧
    oscThresholdArgsOk ⟨0, 0, none, none, none, none, some (2 ^ 64), none, none⟩ = false ∧
    oscTblEntryOk ⟨false, 2 ^ 64, Vector.ofFn (fun _ => 0)⟩ = false ∧
    oscTuneArgsOk ⟨0, some (2 ^ 64), none, none, none, none, none, none, none, none, none⟩ = false ∧
    islProfileArgsOk ⟨0, 0, 2 ^ 64, 0, 0, 0, 0⟩ = false ∧
    modelBufferOk ⟨0, 2 ^ 64, 0, 0, false, 0, []⟩ = false ∧
    islTuneArgsOk ⟨some (2 ^ 64), none, none, none⟩ = false ∧
    islRawRecOk ⟨false, 2 ^ 64, Vector.ofFn (fun _ => 0)⟩ = false ∧
    alarmOutArgsOk ⟨0, none, none, none, some (2 ^ 64)⟩ = false ∧
    limitArgsOk ⟨0, 0, 2 ^ 64, 0, 0, 0, 0⟩ = false ∧
    pubStreamRawArgsOk ⟨0, none, some (2 ^ 64), none⟩ = false ∧
    gocbRawArgsOk ⟨0, none, none, some (2 ^ 64), none⟩ = false ∧
    pubTblEntryOk ⟨0, 2 ^ 64, Vector.ofFn (fun _ => 0)⟩ = false ∧
    capProfileArgsOk ⟨0, false, 2 ^ 64, 0, (.level 0 false 0)⟩ = false ∧
    capReadArgsOk ⟨0, 2 ^ 64, 0⟩ = false ∧
    capTuneArgsOk ⟨some (2 ^ 64), none, none, none, none, none⟩ = false := by decide

/-- Records that are not well-formed are refused: a number that does not fit, or an instant that does not. -/
theorem test_record_refused_4 :
    evrProfileOk ⟨[], 2 ^ 64, 0⟩ = false ∧
    evrReadArgsOk ⟨2 ^ 64, 0⟩ = false ∧
    keyGenArgsOk ⟨0, 0, 2 ^ 64, 0, false, false, false⟩ = false ∧
    keyDeriveArgsOk ⟨0, 0, [], [], 0, 2 ^ 64, 0, false, false, false⟩ = false ∧
    keyTuneArgsOk ⟨some (2 ^ 64), none, none⟩ = false ∧
    cmdTuneArgsOk ⟨some (2 ^ 64), none, none⟩ = false ∧
    pairTuneArgsOk ⟨some (2 ^ 64), none, none, none⟩ = false ∧
    injectArgsOk (.arm 0 0 0 .once (2 ^ 64) 0 0) = false ∧
    txDescOk ⟨2 ^ 64, false, false, false, 0, false, false, 0, 0⟩ = false ∧
    measurementOk ⟨0, 2 ^ 64⟩ = false ∧
    irigFrameOk ⟨0, 0, 2 ^ 64, 0, false, 0, false, false, 0, 0, false⟩ = false ∧
    secTagOk ⟨0, false, 0, 2 ^ 64, false⟩ = false ∧
    c37TlvOk ⟨2 ^ 64, 0⟩ = false ∧
    announceOk ⟨2 ^ 64, 0, 0, 0, 0, 0, 0, 0, 0, false, 0, false, false, 0, none⟩ = false ∧
    ptpBodyOk (.announce ⟨2 ^ 64, 0, 0, 0, 0, 0, 0, 0, 0, false, 0, false, false, 0, none⟩) = false ∧
    ptpMsgOk ⟨false, 0, 0, (.announce ⟨2 ^ 64, 0, 0, 0, 0, 0, 0, 0, 0, false, 0, false, false, 0, none⟩)⟩ = false := by decide

/-- Records that are not well-formed are refused: a number that does not fit, or an instant that does not. -/
theorem test_record_refused_5 :
    asduOk ⟨0, 2 ^ 64, 0, 0, none, [], false⟩ = false ∧
    svFrameOk ⟨false, 0, 0, 0, false, false, 2 ^ 64, [], none⟩ = false ∧
    frameBodyOk (.ptp ⟨false, 0, 0, (.announce ⟨2 ^ 64, 0, 0, 0, 0, 0, 0, 0, 0, false, 0, false, false, 0, none⟩)⟩) = false ∧
    rxFrameOk ⟨2 ^ 64, false, 0, 0, 0, 0, 0, none, none, false, none, (.ptp ⟨false, 0, 0, (.announce ⟨0, 0, 0, 0, 0, 0, 0, 0, 0, false, 0, false, false, 0, none⟩)⟩)⟩ = false ∧
    wakeFrameOk ⟨false, 2 ^ 64, []⟩ = false ∧
    cfgFrameOk ⟨0, 0, 0, 2 ^ 64, 0, []⟩ = false ∧
    packetOk ⟨false, 0, 0, 2 ^ 48 * 65536000000000, 0, [], [], 0, 0⟩ = false ∧
    blockWriteOk ⟨2 ^ 48 * 65536000000000, false, false⟩ = false ∧
    ringBodyOk (.summary ⟨false, 0, 0, 2 ^ 48 * 65536000000000, 0, [], [], 0, 0⟩) = false ∧
    ringFrameOk ⟨0, none, false, (.summary ⟨false, 0, 0, 2 ^ 48 * 65536000000000, 0, [], [], 0, 0⟩)⟩ = false ∧
    memberViewOk ⟨0, 2 ^ 48 * 65536000000000, false, false⟩ = false ∧
    pubAlarmOk ⟨2 ^ 64, 0, 0, 0, false, false, none⟩ = false ∧
    cursorOk ⟨[(2 ^ 64, 0)], [], []⟩ = false ∧
    heartbeatOk ⟨.unpaired, 2 ^ 64, false, false, 0, 0, false, ⟨[], [], []⟩, false⟩ = false ∧
    inclusionListOk ⟨0, false, 2 ^ 64, 0, 0, 0, 0, 0, [], [], false⟩ = false ∧
    recOk ⟨2 ^ 64, 0, 0, 0, 0, 0⟩ = false := by decide

/-- Records that are not well-formed are refused: a number that does not fit, or an instant that does not. -/
theorem test_record_refused_6 :
    resultRecordOk ⟨2 ^ 64, 0, 0⟩ = false ∧
    startArgsOk ⟨false, false, false, [2 ^ 64], false, false⟩ = false := by decide

/-- And lists longer than any payload, ring or buffer. -/
theorem test_record_too_long :
    (∀ l : List (Fin 1024), 1073741824 < l.length → pecProfileArgsOk ⟨l, false, false, 0⟩ = false) ∧
    (∀ l : List (Int), 1073741824 < l.length → pecCoefArgsOk ⟨false, 0, l⟩ = false) ∧
    (∀ l : List (Byte), 1073741824 < l.length → pubDestOk ⟨0, 0, none, l, []⟩ = false) ∧
    (∀ l : List (Byte), 1073741824 < l.length → streamProfileArgsOk ⟨0, false, false, 0, ⟨0, 0, none, l, []⟩, 0, false, 0⟩ = false) ∧
    (∀ l : List (Word), 1073741824 < l.length → layoutBlockOk ⟨Vector.ofFn (fun _ => 0), 0, 0, 0, l, [], []⟩ = false) ∧
    (∀ l : List (Word), 1073741824 < l.length → layoutBufferOk ⟨0, 0, [⟨Vector.ofFn (fun _ => 0), 0, 0, 0, l, [], []⟩]⟩ = false) ∧
    (∀ l : List (Byte), 1073741824 < l.length → gocbArgsOk ⟨0, none, some ((l, ([], []))), none, none, none, none, none, none⟩ = false) ∧
    (∀ l : List (Byte), 1073741824 < l.length → keyImportArgsOk ⟨0, 0, l⟩ = false) ∧
    (∀ l : List (Byte), 1073741824 < l.length → keySourceOk (.derive 0 l []) = false) ∧
    (∀ l : List (Byte), 1073741824 < l.length → keyReplaceArgsOk ⟨0, 0, 0, (.derive 0 l []), []⟩ = false) ∧
    (∀ l : List (Byte), 1073741824 < l.length → keyClearArgsOk ⟨0, 0, l, 0, false, false, false⟩ = false) ∧
    (∀ l : List (Byte), 1073741824 < l.length → todSentenceOk ⟨l⟩ = false) ∧
    (∀ l : List (Byte), 1073741824 < l.length → companionReadOk ⟨false, l⟩ = false) ∧
    (∀ l : List (Byte), 1073741824 < l.length → c37FrameOk ⟨0, 0, false, false, l⟩ = false) ∧
    (∀ l : List (Byte), 1073741824 < l.length → opticsReadOk ⟨false, l⟩ = false) ∧
    (∀ l : List (Word), 1073741824 < l.length → cfgBlockOk ⟨0, false, l, [], []⟩ = false) := by
  refine ⟨?_, ?_, ?_, ?_, ?_, ?_, ?_, ?_, ?_, ?_, ?_, ?_, ?_, ?_, ?_, ?_⟩ <;> intro l h <;> simp [pecProfileArgsOk, pecCoefArgsOk, pubDestOk, streamProfileArgsOk, layoutBlockOk, layoutBufferOk, gocbArgsOk, keyImportArgsOk, keySourceOk, keyReplaceArgsOk, keyClearArgsOk, todSentenceOk, companionReadOk, c37FrameOk, opticsReadOk, cfgBlockOk, sizeOk] <;> omega

/-! ### The queue -/

/-- The front of the queue runs and the rest stays; an empty queue idles; no word spells a command. -/
theorem test_queue :
    (∃ t, step { State.reset with pending := [.fetchEnable 5, .fetchDisable 7] } = .next t ∧ t.pending = [.fetchDisable 7] ∧
      t.rb Reg.CMD_CTL 0 = true ∧ t.now = 5) ∧
    step State.reset = .next State.reset ∧ Sys2Proof.decodeTableWord 32 0 = none ∧ State.reset.withFetchWord 32 0 = State.reset :=
  ⟨⟨_, rfl, by decide⟩, rfl, rfl, rfl⟩

/-- A session opened by the first command fetched: one final reply with status OK in slot 0, gen 1 (Table 14-3, R418). -/
theorem test_session_open :
    ∃ t, step { ((State.reset.setReg Reg.CMD_CTL 1#32).setReg Reg.CMD_SQ_TAIL 1#32) with pending := [.cmdSessionOpen hdr0 true] } = .next t ∧
      t.cmd.replies = [⟨0, true, 0, 0, 0#32, 0x0E00, true, false, 0, 0, []⟩] ∧ (t.session 0).opened = true ∧ (t.session 0).expert = true :=
  ⟨_, rfl, by decide +kernel⟩

/-! ### Values of the manual's own examples -/

/-- The time-of-day sentence of chapter 02 (R39). -/
theorem test_tod_sentence : readTod (ascii "$BGTOD,1790000037,37,0,0,P*29") = some (1790000037, 37, 0, 48#8) := by decide

/-- The timer of chapter 02 across the wrap of fine time: its target is 50 ms ahead (R28). -/
theorem test_fine_wrap : fineDiff 49972224 1099511600000 = 50000000 := by decide

/-- The check string of R103, and the mask and check words of the wake pattern of chapter 03. -/
theorem test_wake_pattern :
    crc16 (ascii "123456789") = 0x29B1 ∧ maskWord [14, 15, 16, 17, 18, 19, 20, 21, 22] 0 = 0x007FC000#32 ∧
    maskWord [14, 15, 16, 17, 18, 19, 20, 21, 22] 1 = 0#32 := by decide +kernel

/-- “P-class, 50 Hz, 50 frames/s” at 4,000 samples/s (chapter 05): G 22.125 ms, q 5 ms, δ 0.125 ms, the span from 27.0 ms before the instant to
27.25 ms after it, and a Drydown of 2. Samples are 0.25 ms apart. -/
theorem test_pec_profile :
    let p : Profile := ⟨false, false, 50, (defaultFront 4000).1, 4000, (defaultTaps (defaultFront 4000).2).length⟩
    p.groupNs = 22125000 ∧ p.qSamples = 20 ∧ p.delta2 = 1 ∧ p.ahead = 109 ∧ p.behind = 108 ∧ p.drydown = 2 := by decide

/-- Each default compensator has a DC gain of exactly 1 (R152). -/
theorem test_default_taps :
    (defaultTaps 0).foldl (· + ·) 0 = 4194304 ∧ (defaultTaps 1).foldl (· + ·) 0 = 4194304 ∧ (defaultTaps 2).foldl (· + ·) 0 = 4194304 := by decide

/-- The history slot and the arrivals of chapter 06: 10,320 channels take 165,184 bytes; 4.2 ms is 42 and 3.5 ms is 35. -/
theorem test_accord_example :
    histSlot 10320 = 165184 ∧ arrivalField (us 4200) 0 = 42 ∧ arrivalField (ms 20 + us 3500) (ms 20) = 35 := by decide

/-- The difference of two sequence numbers is signed (R423). -/
theorem test_seq_diff : seqDiff 0#32 0xFFFFFFFF#32 = 1 ∧ seqDiff 0xFFFFFFFF#32 0#32 = -1 := by decide

/-- A plain write (Table 0-3): RW takes the value, RWL only while unlocked, W1C clears what is written 1, RO stays. -/
theorem test_plain_write :
    let d : RegDesc := ⟨0, [], 0xFF, 0xFF00, 0xFF0000, 0, 0xFF000000, 0, 0⟩
    writeMerge d false 0xAAFF0000#32 0x550F1234#32 = 0xAAF01234#32 ∧ writeMerge d true 0xAAFF0000#32 0x550F1234#32 = 0xAAF00034#32 := by decide +kernel

/-- The registers of chapters 14 and 17 lie where chapter 21 puts them, and an unmapped address has none (R9, R572). -/
theorem test_register_map :
    (descAt Reg.CMD_CTL).isSome = true ∧ (descAt 0xE0FFC).isSome = false ∧ resetWord (Reg.PAIR_TMO) ≠ 0#32 ∧ (descAt 0x20002).isSome = false := by
  decide

/-! ### What the statements assume is met -/

/-- What Obligations.StepRunsTheFront assumes is met. -/
theorem witness_StepRunsTheFront :
    (∃ (s : State), s.pending = []) :=
  ⟨State.reset, rfl⟩

/-- What Obligations.GlobalCommandsComplete assumes is met. -/
theorem witness_GlobalCommandsComplete :
    (∀ op, Can op (fun _ => True) State.reset) ∧
    (∃ (l : List EnableItem), Can 0x0002 (fun n => ∀ x ∈ l, x.fields ≠ 0#32 ∧ clearBits x.fields (word (enableMask x.block.val)) = 0#32 ∧
      n.takesWrites (ctlReg x.block x.port) = true ∧ n.lockRefuses (ctlReg x.block x.port) (n.enabledWord x) = false) State.reset) ∧
    (∃ (l : List (Fin 20 × Fin 10)), Can 0x0003 (fun n => ∀ x ∈ l, hasLock (ctlReg x.1 x.2) = true ∧ n.takesWrites (ctlReg x.1 x.2) = true)
      State.reset) ∧
    (∃ (k : Nat), Can 0x0080 (fun _ => 0 < k ∧ k ≤ 1016) State.reset) ∧
    (∃ (h : Hdr) (l : List (Word × Word)) (s : State), Ready 0x0081 h s ∧ l.length ≤ 503 ∧ ((∃ p ∈ l, isInjReg p.1.toNat = true) → (s.turn
      0x0081 h).injAllowed = true) ∧ (s.pair.st = .unpaired ∨ (∀ p ∈ l, inMirrored p.1 = true) ∨ (∀ p ∈ l, inMirrored p.1 = false)) ∧ ((∃ p ∈ l,
      isClassWord p.1.toNat = true) → (s.turn 0x0081 h).classPending = false) ∧ ((s.turn 0x0081 h).writeRun h.session l).1 = 0) :=
  ⟨fun op => can_at_reset trivial,
   ⟨[⟨2, 0, 1#32, true⟩], can_at_reset (all_mem (by decide +kernel))⟩,
   ⟨[(2, 0)], can_at_reset (all_mem (by decide +kernel))⟩,
   ⟨1016, can_at_reset (by decide +kernel)⟩,
   ⟨hdr0, [(word Reg.TB_DISC_CTL, 5#32)], State.reset.atTurn 0x0081, ready_at rfl (reset_runs _), by decide, by decide, Or.inl rfl, by decide⟩⟩

/-- What Obligations.CommandBlockCompletes assumes is met. -/
theorem witness_CommandBlockCompletes :
    (∀ op, Can op (fun _ => True) State.reset) ∧
    (∃ (h : Hdr) (n : Fin 32) (d : Nat) (s : State), Ready 0x0E02 h s ∧ 10 ≤ d ∧ d ≤ 60000 ∧ (∀ m ∈ (s.turn 0x0E02 h).locksOf h.session, m <
      n.val) ∧ ((s.turn 0x0E02 h).lock n.val).owner = none ∧ (s.turn 0x0E02 h).breaksLock ((s.turn 0x0E02 h).grant n.val h.session d).2 = false) ∧
    (∃ (n : Fin 32) (d : Nat) (s : State), Can 0x0E02 (fun m => 10 ≤ d ∧ d ≤ 60000 ∧ (∀ k ∈ m.locksOf hdr0.session, k < n.val) ∧ (m.lock
      n.val).owner ≠ none) s) ∧
    (∃ (n : Fin 32) (d : Nat) (s : State), Can 0x0E03 (fun m => 10 ≤ d ∧ d ≤ 60000 ∧ (m.lock n.val).owner = some hdr0.session) s) ∧
    (∃ (n : Fin 32) (s : State), Can 0x0E04 (fun m => (m.lock n.val).owner = some hdr0.session) s) ∧
    (∃ (h : Hdr) (s : State), Ready 0x0E06 h s) ∧
    (∃ (a : CmdTuneArgs), Can 0x0E80 (fun _ => (∀ v, a.defTimeoutMs = some v → 1 ≤ v ∧ v ≤ 600000) ∧ (∀ v, a.coalCnt = some v → 1 ≤ v ∧ v ≤ 255)
      ∧ (∀ v, a.coalUs = some v → v ≤ 1000)) State.reset) ∧
    (∃ (h : Hdr) (op : Nat), op < 2 ^ 16 ∧ h.tag < 2 ^ 16 ∧ h.payLen < 2 ^ 32 ∧ h.timeoutMs < 2 ^ 32 ∧ h.bufAddr < 2 ^ 64 ∧ h.bufLen < 2 ^ 32) :=
  ⟨fun op => can_at_reset trivial,
   ⟨hdr0, 31, 10, State.reset.atTurn 0x0E02, ready_at rfl (reset_runs _), by decide, by decide, by decide, rfl, unlocked_breaks rfl _⟩,
   ⟨31, 60000, State.reset.updLock 31 (fun l => { l with owner := some 1 }), can_at (by decide) (by decide) (by decide) (by decide +kernel)⟩,
   ⟨31, 60000, State.reset.updLock 31 (fun l => { l with owner := some 0 }), can_at (by decide) (by decide) (by decide) (by decide +kernel)⟩,
   ⟨31, State.reset.updLock 31 (fun l => { l with owner := some 0 }), can_at (by decide) (by decide) (by decide) (by decide +kernel)⟩,
   ⟨hdr0, State.reset.atTurn 0x0E06, ready_at rfl (reset_runs _)⟩,
   ⟨⟨some 600000, some 255, some 1000⟩, can_at_reset (by simp)⟩,
   ⟨{ hdr0 with tag := 65535, payLen := 4294967295, timeoutMs := 4294967295, bufAddr := 18446744073709551615, bufLen := 4294967295 }, 65535, by
     decide⟩⟩

/-- What Obligations.CommandEventsComplete assumes is met. -/
theorem witness_CommandEventsComplete :
    (∃ (a : Instant) (b : Fin 20) (p : Fin 10) (s : State), hasLock (ctlReg b p) = true ∧ (s.advance a).takesWrites (ctlReg b p) = true) ∧
    (∃ (a : Instant) (addr : Word) (s : State), (isInjReg addr.toNat = true → (s.advance a).injAllowed = true)) ∧
    (∃ (a : Instant) (s : State), (s.advance a).barOpen = true) ∧
    (∃ (a : Instant) (s : State), (s.advance a).barOpen = true) ∧
    (∃ (a : Instant) (s : State), (s.advance a).barOpen = true) ∧
    (∃ (a : Instant) (s : State), (s.advance a).barOpen = true) ∧
    (∃ (a : Instant) (s : State), (s.advance a).barOpen = true) ∧
    (∃ (op : BitVec 16) (h : Hdr) (s : State), (s.advance h.at_).fetchable = true ∧ (s.advance h.at_).roomFor op.toNat h = true) ∧
    (∃ (h : Hdr) (s : State), (s.advance h.at_).runs Isle.control = true ∧ (s.advance h.at_).inRing = true) ∧
    (∃ (a : Instant) (s : State), (s.advance a).runs Isle.control = true ∧ s.pair.st ≠ .unpaired) ∧
    (∃ (a : Instant) (n : Fin 4) (q : Word) (f : _) (s : State), (s.advance a).flight? n q = some f ∧ f.st = .mirroring) ∧
    (∃ (n : Fin 4) (q : Word) (f : _) (s : State), s.flight? n q = some f ∧ f.uncommitted = true) ∧
    (∃ (a : Instant) (s : State), (s.advance a).runs Isle.control = true) ∧
    (∃ (n : Fin 32) (o : _) (s : State), (s.lock n.val).owner = some o) ∧
    (∃ (u : Nat) (s : State), s.cmd.hbDue = some u) ∧
    (∃ (n : Fin 4) (u : Nat) (s : State), ((s.cmd.coal[n.val]?).getD ⟨0, none⟩).due = some u) ∧
    (∃ (a : Instant) (n : Fin 4) (q : Word) (g : _) (f : _) (s : State), s.cmd.aggs.find? (fun x => x.session == n && x.seq == q) = some g ∧
      (s.advance a).flight? n q = some f ∧ (s.advance a).allReplied g = true) :=
  ⟨⟨0, 2, 0, State.reset, by decide⟩,
   ⟨0, word Reg.TB_DISC_CTL, State.reset, by decide⟩,
   ⟨0, State.reset, by decide⟩,
   ⟨0, State.reset, by decide⟩,
   ⟨0, State.reset, by decide⟩,
   ⟨0, State.reset, by decide⟩,
   ⟨0, State.reset, by decide⟩,
   ⟨0x0204#16, hdr0, (State.reset.setReg Reg.CMD_CTL 1#32).setReg Reg.CMD_SQ_TAIL 1#32, by decide⟩,
   ⟨hdr0, State.reset.setCas (fun c => { c with st := .formed }), by decide⟩,
   ⟨0, State.reset.setPair (fun p => { p with st := .active }), by decide⟩,
   ⟨0, 0, 0#32, { flight0 0x0204 with st := .mirroring }, State.reset.setCmd (fun c =>
     { c with flights := [{ flight0 0x0204 with st := .mirroring }] }), by decide⟩,
   ⟨0, 0#32, { flight0 0x0204 with st := .admitted }, State.reset.setCmd (fun c =>
     { c with flights := [{ flight0 0x0204 with st := .admitted }] }), by decide⟩,
   ⟨0, State.reset, by decide⟩,
   ⟨31, 0, State.reset.updLock 31 (fun l => { l with owner := some 0 }), by decide⟩,
   ⟨7, State.reset.setCmd (fun c => { c with hbDue := some 7 }), by decide⟩,
   ⟨0, 9, State.reset.setCmd (fun c => { c with coal := [⟨1, some 9⟩] }), by decide⟩,
   ⟨0, 0, 0#32, ⟨0, 0#32, 0x0204, [(0, 0)]⟩, flight0 0x0204, (State.reset.atTurn 0x0204).setAggs (fun _ => [⟨0, 0#32, 0x0204, [(0, 0)]⟩]), by
     decide⟩⟩

/-- What Obligations.TimeCommandsComplete assumes is met. -/
theorem witness_TimeCommandsComplete :
    (∀ op, Can op (fun _ => True) State.reset) ∧
    (∃ (s : State), Can 0x0202 (fun n => n.time.restep = none ∧ ((n.time.servo = .acquire ∧ n.time.stepped = true) ∨ n.time.servo = .locked ∨
      n.time.servo = .discont)) s) ∧
    (∃ (p : TimeSourcesArgs), Can 0x0203 (fun _ => ∀ i < 6, p.prio.toNat / 16 ^ i % 16 ≠ 13 ∧ p.prio.toNat / 16 ^ i % 16 ≠ 14) State.reset) ∧
    (∃ (p : TimeOutputsArgs), Can 0x0204 (fun n => n.rb Reg.TB_CTL 31 = false ∨ p.outEn = n.rb Reg.TB_CTL 2) State.reset) ∧
    (∃ (p : TimeServoArgs), Can 0x0280 (fun _ => p.lockNs ≤ 255 ∧ p.driftPs < 2 ^ 24) State.reset) ∧
    (∃ (p : TimeDiscontArgs), Can 0x0281 (fun _ => p.confirm ≤ 7) State.reset) :=
  ⟨fun op => can_at_reset trivial,
   ⟨State.reset.setTime (fun t => { t with servo := .locked }), can_at (by decide) (by decide) (by decide) (by decide +kernel)⟩,
   ⟨⟨0xFF210F#24, none⟩, can_at_reset (by decide +kernel)⟩,
   ⟨⟨true, 500, false, true, 3⟩, can_at_reset (by decide +kernel)⟩,
   ⟨⟨500, 255, 16777215⟩, can_at_reset (by decide +kernel)⟩,
   ⟨⟨1000000, 7, true⟩, can_at_reset (by decide +kernel)⟩⟩

/-- What Obligations.TimeSourceEventsComplete assumes is met. -/
theorem witness_TimeSourceEventsComplete :
    (∃ (a : Instant) (s : State), (s.advance a).runs Isle.fixative = true) ∧
    (∃ (c : Fin 13) (u : Nat) (s : State), (s.srcQual c.val).due = some u) ∧
    (∃ (r : _) (s : State), s.time.restep = some r) ∧
    (∃ (dir : _) (l : _) (s : State), s.time.leap = some (dir, l)) ∧
    (∃ (a : Instant) (r : Bool) (w : Nat) (s : State), (s.advance a).runs Isle.fixative = true ∧ r ≠ (s.advance a).rb Reg.TB_TOD_CTL 2 ∧ 100 ≤ w
      ∧ (s.advance a).rb Reg.TB_CTL 3 = true ∧ (∀ u, s.time.ppsIn = some u → u + ms 900 ≤ (s.advance a).up)) ∧
    (∃ (a : Instant) (r : Bool) (w : Nat) (u : Nat) (s : State), (s.advance a).runs Isle.fixative = true ∧ r ≠ (s.advance a).rb Reg.TB_TOD_CTL 2
      ∧ 100 ≤ w ∧ (s.advance a).rb Reg.TB_CTL 3 = true ∧ s.time.ppsIn = some u ∧ (s.advance a).up < u + ms 900) ∧
    (∃ (a : Instant) (m : TodSentence) (u : Nat) (sc : _) (utc : _) (leap : _) (tq : _) (s : State), (s.advance a).runs Isle.fixative = true ∧
      (s.advance a).todMode = 1 ∧ s.time.ppsIn = some u ∧ u + ms 10 ≤ (s.advance a).up ∧ (s.advance a).up ≤ u + ms 900 ∧ readTod m.chars = some
      (sc, utc, leap, tq)) ∧
    (∃ (a : Instant) (f : IrigFrame) (s : State), (s.advance a).runs Isle.fixative = true ∧ (s.advance a).todMode = 2 ∧ (f.ieee1344 = true →
      f.parityOk = true)) ∧
    (∃ (s : State), s.runs Isle.fixative = true ∧ (s.advance s.nextSecond).ppsAllowed = true) ∧
    (∃ (e : _) (s : State), s.time.ppsOutLast = some e ∧ s.time.todSent ≠ some e ∧ s.rb Reg.TB_OUT_CTL 10 = true ∧ s.rb Reg.TB_CTL 2 = true ∧
      s.runs Isle.fixative = true) :=
  ⟨⟨0, State.reset, by decide⟩,
   ⟨12, 8, State.reset.setTime (fun t => { t with src := updAt t.src 12 (fun x => { x with due := some 8 }) }), by decide⟩,
   ⟨⟨0, 0#32, sec 5⟩, State.reset.setTime (fun t => { t with restep := some ⟨0, 0#32, sec 5⟩ }), by decide⟩,
   ⟨-1, sec 100, State.reset.setTime (fun t => { t with leap := some (-1, sec 100) }), by decide⟩,
   ⟨0, true, 100, State.reset, by decide⟩,
   ⟨0, true, 100, 0, State.reset.setTime (fun t => { t with ppsIn := some 0 }), by decide⟩,
   ⟨ms 10, ⟨ascii "$BGTOD,5,+37,0,0,G*2B"⟩, 0, 5, 37, 0, 48#8, (State.reset.setReg Reg.TB_TOD_CTL 1#32).setTime (fun t =>
     { t with ppsIn := some 0 }), by decide⟩,
   ⟨0, ⟨0, 5, 0, 0, true, 0, false, false, 0#4, 0, true⟩, State.reset.setReg Reg.TB_TOD_CTL 2#32, by decide⟩,
   ⟨(State.reset.setReg Reg.TB_CTL 4#32).setTime (fun t => { t with servo := .locked }), by decide⟩,
   ⟨sec 1, ((State.reset.setReg Reg.TB_CTL 4#32).setReg Reg.TB_OUT_CTL 1024#32).setTime (fun t => { t with ppsOutLast := some (sec 1) }), by
     decide⟩⟩

/-- What Obligations.StampAndCompareEventsComplete assumes is met. -/
theorem witness_StampAndCompareEventsComplete :
    (∃ (a : Instant) (s : State), (s.advance a).runs Isle.fixative = true) ∧
    (∃ (a : Instant) (t : _) (s : State), (s.advance a).runs Isle.fixative = true ∧ (s.advance a).rb Reg.TB_CTL 3 = true ∧ ((s.advance
      a).stampEdge 5).2 = some t) ∧
    (∃ (a : Instant) (n : Fin 6) (r : Bool) (t : _) (s : State), n.val < 4 ∧ ((s.advance a).trigLevel n.val r).runs Isle.fixative = true ∧
      ((s.advance a).trigLevel n.val r).rb Reg.TB_CTL 3 = true ∧ ((s.advance a).trigLevel n.val r).edgeSelected n.val r = true ∧ (((s.advance
      a).trigLevel n.val r).stampEdge n.val).2 = some t) ∧
    (∃ (n : Fin 8) (s : State), s.rb (Reg.TB_CMP_CTL n.val) 0 = true) ∧
    (∃ (n : Fin 8) (x : _) (l : _) (s : State), (s.time.cmpPulse[n.val]?).getD [] = x :: l) :=
  ⟨⟨0, State.reset, by decide⟩,
   ⟨0, 0, State.reset.setReg Reg.TB_CTL 8#32, by decide⟩,
   ⟨0, 3, true, 0, (State.reset.setReg Reg.TB_CTL 8#32).setReg Reg.CAP_TRIGIN_CTL 255#32, by decide⟩,
   ⟨7, State.reset.setReg (Reg.TB_CMP_CTL 7) 1#32, by decide⟩,
   ⟨7, (0, 3), [], State.reset.setTime (fun t => { t with cmpPulse := updAt t.cmpPulse 7 (fun _ => [(0, 3)]) }), by decide⟩⟩

/-- What Obligations.PtpEventsComplete assumes is met. -/
theorem witness_PtpEventsComplete :
    (∃ (p : _) (m : _) (ts : _) (rest : _) (s : State), s.ports.ptpIn = (p, m, ts) :: rest ∧ s.runs Isle.fixative = true) ∧
    (∃ (p : Fin 10) (u : Nat) (s : State), (s.ptpPort p.val).announceBy = some u) ∧
    (∃ (p : Fin 10) (u : Nat) (s : State), sooner (s.ptpPort p.val).annDue (sooner (s.ptpPort p.val).syncDue (s.ptpPort p.val).delayDue) = some
      u ∧ s.rb Reg.TB_CTL 1 = true ∧ s.runs Isle.fixative = true ∧ (s.ptpPort p.val).st ≠ .disabled) :=
  ⟨⟨9, ⟨false, 0#8, 0#16, .management⟩, 0, [],
     { State.reset with ports := { freshPorts with ptpIn := [(9, ⟨false, 0#8, 0#16, .management⟩, 0)] } }, by decide⟩,
   ⟨9, 4, State.reset.setTime (fun t => { t with ptp := updAt t.ptp 9 (fun x => { x with announceBy := some 4 }) }), by decide⟩,
   ⟨9, 4, (State.reset.setReg Reg.TB_CTL 2#32).setTime (fun t =>
     { t with ptp := updAt t.ptp 9 (fun x => { x with annDue := some 4, st := .master }) }), by decide⟩⟩

/-- What Obligations.PortCommandsComplete assumes is met. -/
theorem witness_PortCommandsComplete :
    (∀ op, Can op (fun _ => True) State.reset) ∧
    (∃ (a : PortProfileArgs), Can 0x0301 (fun n => a.mode ≤ 7 ∧ a.fec ≤ 3 ∧ ∀ p < 10, a.ports.getLsbD p = true → n.rb (Reg.PORT_CTL p) 31 =
      false ∨ (n.rf (Reg.PORT_CTL p) 3 1 = a.mode ∧ n.rf (Reg.PORT_CTL p) 9 8 = a.fec ∧ n.rb (Reg.PORT_CTL p) 10 = a.an)) State.reset) ∧
    (∃ (a : PortRingsArgs), Can 0x0302 (fun _ => ∀ g ∈ a.rings, g.base.toNat % 64 = 0 ∧ powerIn 64 4096 g.size = true) State.reset) ∧
    (∃ (a : PortPrpArgs), Can 0x0303 (fun _ => 10 ≤ a.forgetMs ∧ a.forgetMs ≤ 1000) State.reset) ∧
    (∃ (a : PortMacsecArgs), Can 0x0304 (fun _ => a.port.val < 8 ∧ a.install = false) State.reset) ∧
    (∃ (a : PortMacsecArgs) (s : State), Can 0x0304 (fun n => a.port.val < 8 ∧ a.install = true ∧ (n.useKeySlot a.slot [0]).1 = St.OK) s) ∧
    (∃ (a : PortMacRawArgs), Can 0x0381 (fun _ => a.replayWin < 2 ^ 30 ∧ a.pnWarn < 2 ^ 64 ∧ (a.offset = none ∨ a.offset = some 0 ∨ a.offset =
      some 30 ∨ a.offset = some 50)) State.reset) ∧
    (∃ (a : WakePatternArgs), Can 0x0110 (fun _ => (∀ x ∈ a.bytes, x.1 < 128) ∧ noDup (a.bytes.map (·.1)) = true) State.reset) :=
  ⟨fun op => can_at_reset trivial,
   ⟨⟨0x3FF#10, 4, 1, true⟩, can_at_reset (by decide +kernel)⟩,
   ⟨⟨9, [⟨true, 1, 64#64, 4096⟩], []⟩, can_at_reset (by decide +kernel)⟩,
   ⟨⟨4, true, 1000⟩, can_at_reset (by decide +kernel)⟩,
   ⟨⟨7, false, none, 0#64, 3, 255, .gcm128, 0⟩, can_at_reset (by decide +kernel)⟩,
   ⟨⟨0, true, none, 0#64, 0, 1, .gcm128, 0⟩, withKey 1 0, can_at (by decide) (by decide) (by decide) (by decide +kernel)⟩,
   ⟨⟨9, 9600, 0#16, 0#8, 0#8, 18446744073709551615, 1073741823, some 50⟩, can_at_reset (by decide +kernel)⟩,
   ⟨⟨0, 7, [(127, 0#8), (0, 1#8)], true⟩, can_at_reset (by decide +kernel)⟩⟩

/-- What Obligations.PortEventsComplete assumes is met. -/
theorem witness_PortEventsComplete :
    (∃ (p : Fin 10) (s : State), (s.port p.val).link = true ∧ s.runs p.val = true) ∧
    (∃ (p : Fin 10) (u : Nat) (s : State), (s.port p.val).pauseEnd = some u) ∧
    (∃ (p : Fin 10) (u : Nat) (s : State), (s.port p.val).xoffDue = some u ∧ (s.advanceUp u).wantsPause p.val = true) ∧
    (∃ (p : Fin 10) (u : Nat) (s : State), (s.port p.val).xoffDue = some u ∧ (s.advanceUp u).wantsPause p.val = false) ∧
    (∃ (k : Fin 5) (x : _) (e : _) (rest : _) (s : State), s.ports.pairs[Fin.val k]? = some x ∧ x.window = e :: rest) ∧
    (∃ (a : Instant) (p : Fin 10) (u : Nat) (s : State), (s.port p.val).adaptDue = some u ∧ (s.advance a).up ≤ u) ∧
    (∃ (p : Fin 10) (s : State), (s.port p.val).adaptDue = none ∧ p.val < 8 ∧ (s.port p.val).signal = true) ∧
    (∃ (p : Fin 10) (s : State), s.rb (Reg.PORT_CTL p.val) 31 = false) :=
  ⟨⟨9, State.reset.updPort 9 (fun x => { x with link := true }), by decide⟩,
   ⟨9, 5, State.reset.updPort 9 (fun x => { x with pauseEnd := some 5 }), by decide⟩,
   ⟨9, 5, (State.reset.updPort 9 (fun x => { x with xoffDue := some 5 })).setRb (Reg.PORT_MAC_CTL 9) 11 true |>.setReg (Reg.PORT_RXR_SIZE 9 0)
     64#32 |>.setReg (Reg.PORT_PAUSE_CTL 9) 0xFF0000#32, by decide⟩,
   ⟨9, 5, State.reset.updPort 9 (fun x => { x with xoffDue := some 5 }), by decide⟩,
   ⟨0, ⟨[⟨0#48, 0#16, 4, false⟩], 0#16⟩, ⟨0#48, 0#16, 4, false⟩, [],
     { State.reset with ports := { freshPorts with pairs := [⟨[⟨0#48, 0#16, 4, false⟩], 0#16⟩] } }, by decide⟩,
   ⟨0, 9, 5, State.reset.updPort 9 (fun x => { x with adaptDue := some 5 }), by decide⟩,
   ⟨7, State.reset.updPort 7 (fun x => { x with signal := true }), by decide⟩,
   ⟨9, State.reset, by decide⟩⟩

/-- What Obligations.OpticsEventsComplete assumes is met. -/
theorem witness_OpticsEventsComplete :
    (∃ (a : Instant) (p : Fin 10) (b : Bool) (s : State), ((s.advance a).updPort p.val (fun x => { x with modAbsPin := b })).monitored p.val =
      true ∧ s.runs p.val = true) ∧
    (∃ (p : Fin 10) (u : Nat) (s : State), (s.port p.val).optics = .debounce u ∧ (s.port p.val).modAbsPin = true) ∧
    (∃ (p : Fin 10) (u : Nat) (s : State), (s.port p.val).optics = .debounce u ∧ (s.port p.val).modAbsPin = false) ∧
    (∃ (p : Fin 10) (u : Nat) (s : State), (s.port p.val).optics = .settle u) ∧
    (∃ (p : Fin 10) (r : OpticsRead) (s : State), (s.port p.val).optics = .reading ∧ (s.port p.val).modAbsPin = false ∧ r.ack = true ∧ sum8
      r.bytes 0 63 = ((r.bytes[63]?).getD 0#8).toNat) ∧
    (∃ (p : Fin 10) (r : OpticsRead) (s : State), (s.port p.val).optics = .reading ∧ (s.port p.val).modAbsPin = false ∧ r.ack = false ∧ (s.port
      p.val).retries < 2) ∧
    (∃ (p : Fin 10) (u : Nat) (s : State), (s.port p.val).optics = .retry u) :=
  ⟨⟨0, 9, true, State.reset.setReg (Reg.PORT_OPT_CTL 9) 1#32, by decide⟩,
   ⟨9, 5, State.reset.updPort 9 (fun x => { x with optics := .debounce 5 }), by decide⟩,
   ⟨9, 5, State.reset.updPort 9 (fun x => { x with optics := .debounce 5, modAbsPin := false }), by decide⟩,
   ⟨9, 5, State.reset.updPort 9 (fun x => { x with optics := .settle 5 }), by decide⟩,
   ⟨9, ⟨true, []⟩, State.reset.updPort 9 (fun x => { x with optics := .reading, modAbsPin := false }), by decide⟩,
   ⟨9, ⟨false, []⟩, State.reset.updPort 9 (fun x => { x with optics := .reading, modAbsPin := false, retries := 1 }), by decide⟩,
   ⟨9, 5, State.reset.updPort 9 (fun x => { x with optics := .retry 5 }), by decide⟩⟩

/-- What Obligations.IngressCommandsComplete assumes is met. -/
theorem witness_IngressCommandsComplete :
    (∀ op, Can op (fun _ => True) State.reset) ∧
    (∃ (a : StreamAddArgs) (e : _), Can 0x0401 (fun n => a.key.kind = 0 ∧ a.blocks ≠ [] ∧ a.blocks.length ≤ 1024 ∧ (∀ b ∈ a.blocks, b.chanBase <
      262144 ∧ b.chanSpan < 1024) ∧ (∀ b ∈ a.blocks, ∀ o, b.offsets = some o → o.1 < 1024 ∧ o.2 < 1024) ∧ n.findKey a.key = none ∧ n.freeRun
      a.blocks.length = some e ∧ n.addRefused e (((upto a.blocks.length).zip a.blocks).map (fun p => (p.1, addWords a p.1 p.2))) = 0) State.reset) ∧
    (∃ (a : StreamAddArgs) (e : _), Can 0x0401 (fun n => a.key.kind ≠ 0 ∧ a.synchReq < 3 ∧ a.svSlot < 1024 ∧ dsRateCode a.rate ≠ none ∧ (∀ v,
      a.auth = some v → v < 256) ∧ n.findKey a.key = none ∧ n.freeRun 1 = some e ∧ n.addRefused e [(0, addWords a 0 ⟨0, 0, none⟩)] = 0)
      State.reset) ∧
    (∃ (r : StreamRef) (e : _) (s : State), Can 0x0402 (fun n => n.findStream r = some e) s) ∧
    (∃ (r : StreamRef) (e : _) (s : State), Can 0x0405 (fun n => n.findStream r = some e) s) ∧
    (∃ (r : StreamRef) (e : _) (s : State), Can 0x0406 (fun n => n.findStream r = some e) s) ∧
    (∃ (a : StreamRawArgs), Can 0x0480 (fun n => a.index < 16384 ∧ n.entryErr a.index a.words.toList = 0) State.reset) ∧
    (∃ (a : ChanScaleArgs), Can 0x0481 (fun _ => ∀ c ∈ a.chans, c.1 < estimatedBase) State.reset) ∧
    (∃ (a : IngTuneArgs), Can 0x0482 (fun n => (∀ v, a.tqMax = some v → v ≤ 15) ∧ (∀ v, a.cfgPoll = some v → v ≤ 255) ∧ (n.rb Reg.ING_CTL 31 =
      false ∨ ∀ v, a.sizeMib = some v → min 256 v = n.rf Reg.ING_SPILL_CTL 8 0)) State.reset) :=
  ⟨fun op => can_at_reset trivial,
   ⟨addC37, 0, can_at_reset (by decide)⟩,
   ⟨addSv, 0, can_at_reset (by decide)⟩,
   ⟨.index 0, 0, withC37, can_at (by decide) (by decide) (by decide) (by decide +kernel)⟩,
   ⟨.key addC37.key, 0, withC37, can_at (by decide) (by decide) (by decide) (by decide +kernel)⟩,
   ⟨.index 0, 0, withC37, can_at (by decide) (by decide) (by decide) (by decide +kernel)⟩,
   ⟨⟨16383, Vector.ofFn (fun _ => 0#32)⟩, can_at_reset (by decide +kernel)⟩,
   ⟨⟨[(237567, ⟨.analog, 0#32, 0#16⟩)]⟩, can_at_reset (by decide +kernel)⟩,
   ⟨⟨some 256, some 15, some 255, none⟩, can_at_reset (by decide +kernel)⟩⟩

/-- What Obligations.IngressEventsComplete assumes is met. -/
theorem witness_IngressEventsComplete :
    (∃ (a : Instant) (p : _) (f : _) (s : State), (s.advance a).runs Isle.ingress = true ∧ (s.advance a).nextParse = some (p, f) ∧ f.spilled =
      false) ∧
    (∃ (a : Instant) (e : Fin 16384) (u : Nat) (c : _) (s : State), (s.fw (Fin.val e)).applyDue = some u ∧ (s.fw e.val).held = some c ∧
      (s.advance a).up ≤ u) ∧
    (∃ (a : Instant) (c : CfgFrame) (e : _) (s : State), (s.advance a).findKey ⟨0, BitVec.ofNat 48 c.srcIp.toNat, c.dstPort, c.idcode, 0#32⟩ =
      some e ∧ s.runs Isle.control = true) ∧
    (∃ (e : Fin 16384) (u : Nat) (s : State), (s.fw (Fin.val e)).pollDue = some u ∧ (((s.advanceUp u).setFw e.val (fun x =>
      { x with pollDue := some ((s.advanceUp u).nextPoll e.val) })).fw e.val).fetch = none) ∧
    (∃ (e : Fin 16384) (f : _) (s : State), (s.fw (Fin.val e)).fetch = some f) ∧
    (∃ (a : Instant) (s : State), (s.advance a).entryErr (s.rf Reg.ING_TBL_IDX 13 0) s.ingWindow = 0) ∧
    (∃ (a : Instant) (s : State), (s.advance a).entryErr (s.rf Reg.ING_TBL_IDX 13 0) s.ingWindow ≠ 0) :=
  ⟨⟨0, 9, ⟨64, 0, .other, false, 1#32, false⟩, State.reset.setIng (fun g =>
     { g with buffers := List.replicate 9 [] ++ [[⟨64, 0, .other, false, 1#32, false⟩]] }), by decide⟩,
   ⟨5, 0, 5, ⟨0#32, 0#16, 0#16, 0, 1, []⟩, withC37.setFw 0 (fun x => { x with held := some ⟨0#32, 0#16, 0#16, 0, 1, []⟩, applyDue := some 5 }),
     by decide⟩,
   ⟨0, ⟨1#32, 2#16, 3#16, 0, 1, []⟩, 0, withC37, by decide⟩,
   ⟨0, 5, withC37.setFw 0 (fun x => { x with pollDue := some 5 }), by decide⟩,
   ⟨0, ⟨5, 2, none, false⟩, withC37.setFw 0 (fun x => { x with fetch := some ⟨5, 2, none, false⟩ }), by decide⟩,
   ⟨0, State.reset.setReg Reg.ING_TBL_IDX 16383#32, by decide⟩,
   ⟨0, State.reset.setReg (Reg.ING_TBL_W 0) 0x8C000000#32, by decide⟩⟩

/-- What Obligations.EstimationCommandsComplete assumes is met. -/
theorem witness_EstimationCommandsComplete :
    (∀ op, Can op (fun _ => True) State.reset) ∧
    (∃ (a : PecProfileArgs) (s : State), Can 0x0501 (fun n => a.slots ≠ [] ∧ ∀ i ∈ a.slots, n.slotWordErr i.val (n.namedSlotWord i.val a) = 0)
      s) ∧
    (∃ (l : List PecThreshold), Can 0x0503 (fun _ => ∀ x ∈ l, x.debounce ≤ 255 ∧ thrRefused x.words = false) State.reset) ∧
    (∃ (a : PecSwapArgs) (s : State), Can 0x0505 (fun n => a.slots ≠ [] ∧ noDup (a.slots.map (·.val)) = true ∧ (∀ l, a.len = some l → l ≤ 4096)
      ∧ ∀ i ∈ a.slots, (n.slot i.val).held = false ∧ (n.slot i.val).xf = none ∧ n.taps (!(n.slot i.val).bank) (fld (n.pw 0 i.val 0) 14 11) ≠ [])
      s) ∧
    (∃ (a : PecSwapArgs) (s : State), Can 0x0582 (fun n => a.slots ≠ [] ∧ noDup (a.slots.map (·.val)) = true ∧ (∀ l, a.len = some l → l ≤ 4096)
      ∧ ∀ i ∈ a.slots, (n.slot i.val).held = false ∧ (a.queue = false → (n.slot i.val).xf = none) ∧ n.taps (!(n.slot i.val).bank) (fld (n.pw 0
      i.val 0) 14 11) ≠ []) s) ∧
    (∃ (a : PecSlotRawArgs) (s : State), Can 0x0580 (fun n => a.decim ≤ 127 ∧ a.firProf ≤ 15 ∧ a.holdMax ≤ 63 ∧ a.xfLen ≤ 4096 ∧ n.slotWordErr
      a.slot.val (setBit (setFld (setFld (setFld (n.pw 0 a.slot.val 0) 22 16 a.decim) 14 11 a.firProf) 9 4 a.holdMax) 10 a.acceptTest) = 0) s) ∧
    (∃ (a : PecCoefArgs), Can 0x0581 (fun n => a.taps.length ≤ 128 ∧ (∀ c ∈ a.taps, -8388608 ≤ c ∧ c ≤ 8388607) ∧ n.commitErr a.bank
      a.profile.val a.taps = 0) State.reset) :=
  ⟨fun op => can_at_reset trivial,
   ⟨⟨[0], false, false, 3⟩, withSv, can_at (by decide) (by decide) (by decide) ⟨by decide, all_mem (by decide +kernel)⟩⟩,
   ⟨[⟨24575, 0x3F800000#32, 0#32, 0#32, 255, true, true⟩], can_at_reset (by decide +kernel)⟩,
   ⟨⟨[0], none, false⟩, withSv.commitTaps true 0 [1, 2, 1], can_at (by decide) (by decide) (by decide) ⟨by decide, by decide, by
     decide +kernel, all_mem (by decide +kernel)⟩⟩,
   ⟨⟨[0], none, true⟩, (withSv.commitTaps true 0 [1, 2, 1]).updSlot 0 (fun x => { x with xf := some ⟨1, 2, true⟩ }), can_at (by decide) (by
     decide) (by decide) ⟨by decide, by decide, by decide +kernel, all_mem (by decide +kernel)⟩⟩,
   ⟨⟨0, (defaultFront 4000).1, (defaultFront 4000).2, 63, true, 4096⟩, withSv.setPw 0 0 0 (withSv.namedSlotWord 0 ⟨[0], false, false, 3⟩),
     can_at (by decide) (by decide) (by decide) (by decide +kernel)⟩,
   ⟨⟨true, 15, [-8388608, 8388607, -8388608]⟩, can_at_reset (by decide +kernel)⟩⟩

/-- What Obligations.EstimationEventsComplete assumes is met. -/
theorem witness_EstimationEventsComplete :
    (∃ (m : _) (rest : _) (s : State), s.ing.samples = m :: rest ∧ s.pecOn = true ∧ s.awaitsImage = false) ∧
    (∃ (m : _) (rest : _) (s : State), s.ing.samples = m :: rest ∧ s.pecOn = true ∧ s.awaitsImage = true) ∧
    (∃ (i : Fin 1024) (o : _) (rest : _) (s : State), (s.slot (Fin.val i)).ready = o :: rest ∧ s.pecOn = true) ∧
    (∃ (i : Fin 1024) (p : _) (rest : _) (s : State), (s.slot (Fin.val i)).pend = p :: rest) ∧
    (∃ (r : Bool) (w : Nat) (s : State), s.pecOn = true ∧ s.rb Reg.PEC_SYNC_CTL 0 = true ∧ r ≠ s.rb Reg.PEC_SYNC_CTL 1 ∧ 100 ≤ w) ∧
    (∃ (i : Fin 1024) (f : _) (s : State), (s.slot (Fin.val i)).xf = some f ∧ f.started = true ∧ f.len ≤ f.step) ∧
    (∃ (i : Fin 1024) (s : State), (s.slot (Fin.val i)).held = true ∧ (s.slot i.val).xf = none) :=
  ⟨⟨⟨0, 4000, 0, 0, 0, 1#32, [], false⟩, [], (State.reset.setReg Reg.PEC_CTL 1#32).setIng (fun g =>
     { g with samples := [⟨0, 4000, 0, 0, 0, 1#32, [], false⟩] }), by decide⟩,
   ⟨⟨0, 4000, 0, 0, 0, 1#32, [], false⟩, [], ((inPair .copyDst .copySrc).setPair (fun p => { p with copy := { noCopy with phase := 2 } })
     |>.setReg Reg.PEC_CTL 1#32).setIng (fun g => { g with samples := [⟨0, 4000, 0, 0, 0, 1#32, [], false⟩] }), by decide⟩,
   ⟨1023, ⟨0, false, []⟩, [], (State.reset.setReg Reg.PEC_CTL 1#32).updSlot 1023 (fun x => { x with ready := [⟨0, false, []⟩] }), by decide⟩,
   ⟨1023, ⟨5, none, none⟩, [], State.reset.updSlot 1023 (fun x => { x with pend := [⟨5, none, none⟩] }), by decide⟩,
   ⟨true, 100, (State.reset.setReg Reg.PEC_CTL 1#32).setReg Reg.PEC_SYNC_CTL 1#32, by decide⟩,
   ⟨1023, ⟨4096, 4096, true⟩, State.reset.updSlot 1023 (fun x => { x with xf := some ⟨4096, 4096, true⟩ }), by decide⟩,
   ⟨1023, State.reset.updSlot 1023 (fun x => { x with held := true }), by decide⟩⟩

/-- What Obligations.AccordCommandsComplete assumes is met. -/
theorem witness_AccordCommandsComplete :
    (∀ op, Can op (fun _ => True) State.reset) ∧
    (∃ (a : GroupStartArgs) (w : _) (s : State), Can 0x0601 (fun n => n.rb Reg.ALN_CTL 0 = true ∧ (n.group a.group.val).active = false ∧
      newWords (n.grpWords a.group.val) a.rate a.waitNs a.deadNs a.tolNs a.minFill a.fillMiss a.histEn = some w ∧ n.joinErr a.group.val
      (a.chans.getD (n.group a.group.val).set) = 0 ∧ (w.histEn = true → (n.group a.group.val).depth ≠ 0 ∧ (a.chans.getD (n.group
      a.group.val).set).length ≤ (n.group a.group.val).maxChan) ∧ n.loadErr a.group.val (grpNeed (a.chans.getD (n.group a.group.val).set).length
      w) ((a.chans.getD (n.group a.group.val).set).length * w.fr) = 0) s) ∧
    (∃ (g : Fin 32) (s : State), Can 0x0602 (fun n => (n.group g.val).st = .running) s) ∧
    (∃ (g : Fin 32) (s : State), Can 0x0602 (fun n => (n.group g.val).st = .running ∨ (n.group g.val).st = .stopping) s) ∧
    (∃ (g : Fin 32) (s : State), Can 0x0602 (fun n => (n.group g.val).st = .starting) s) ∧
    (∃ (g : Fin 32) (b : Bool) (s : State), Can 0x0602 (fun n => (n.group g.val).st = .stopped ∨ ((n.group g.val).st = .stopping ∧ b = false))
      s) ∧
    (∃ (a : GroupChanArgs) (l : _) (s : State), Can 0x0603 (fun n => n.joinErr a.group.val a.add = 0 ∧ noDup a.remove = true ∧ (∀ c ∈ a.remove,
      (n.group a.group.val).set.contains c = true ∧ a.add.contains c = false) ∧ l = sortChans ((n.group a.group.val).set.filter (fun c =>
      !a.remove.contains c) ++ a.add.filter (fun c => !(n.group a.group.val).set.contains c)) ∧ n.acceptsChange a.group.val (n.grpWords
      a.group.val) (some l)) s) ∧
    (∃ (a : GroupChanArgs) (l : _) (s : State), Can 0x0603 (fun n => n.joinErr a.group.val a.add = 0 ∧ noDup a.remove = true ∧ (∀ c ∈ a.remove,
      (n.group a.group.val).set.contains c = true ∧ a.add.contains c = false) ∧ l = sortChans ((n.group a.group.val).set.filter (fun c =>
      !a.remove.contains c) ++ a.add.filter (fun c => !(n.group a.group.val).set.contains c)) ∧ n.takesChange a.group.val (n.grpWords a.group.val)
      (some l)) s) ∧
    (∃ (a : GroupTimingArgs) (w : _) (s : State), Can 0x0604 (fun n => newWords (n.grpWords a.group.val) none a.waitNs a.deadNs none a.minFill
      a.fillMiss none = some w ∧ n.acceptsChange a.group.val w none) s) ∧
    (∃ (a : GroupTimingArgs) (w : _) (s : State), Can 0x0604 (fun n => newWords (n.grpWords a.group.val) none a.waitNs a.deadNs none a.minFill
      a.fillMiss none = some w ∧ n.takesChange a.group.val w none) s) ∧
    (∃ (a : HistAllocArgs) (s : State), Can 0x0605 (fun n => (n.group a.group.val).active = false ∧ a.depth < 2 ^ 28 ∧ a.maxChan ≤ 262144 ∧
      n.histBytes (some a.group.val) + a.depth * histSlot a.maxChan ≤ n.histSize ∧ (n.rb (Reg.ALN_GRP_CTL a.group.val) 6 = true → a.depth ≠ 0 →
      (n.group a.group.val).set.length ≤ a.maxChan)) s) ∧
    (∃ (a : HistReadArgs) (l : _) (s : State), Can 0x0606 (fun n => (n.takePoison 0).1 = none ∧ l ≠ [] ∧ l = fitting hdr0.bufLen ((n.group
      a.group.val).hist.dropWhile (fun x => decide (x.t < a.start)))) s) ∧
    (∃ (a : HistReadArgs) (x : _) (l : _) (s : State), Can 0x0606 (fun n => (n.takePoison 0).1 ≠ none ∧ l ≠ [] ∧ x :: l = fitting hdr0.bufLen
      ((n.group a.group.val).hist.dropWhile (fun x => decide (x.t < a.start)))) s) ∧
    (∃ (a : GroupRawArgs), Can 0x0680 (fun n => (n.group a.group.val).active = false ∧ 1 ≤ fld a.wait 13 0 ∧ fld a.wait 13 0 ≤ 10000 ∧ 5 ≤ fld
      a.wait 30 14 ∧ fld a.wait 30 14 ≤ 10 * fld a.wait 13 0 ∧ fld a.tol 9 0 ≤ 1000 ∧ (bit a.ctl 6 = true → (n.group a.group.val).depth ≠ 0 ∧
      (n.group a.group.val).set.length ≤ (n.group a.group.val).maxChan)) State.reset) ∧
    (∃ (l : List (Nat × Word)), Can 0x0681 (fun n => n.chansErr l = 0) State.reset) ∧
    (∃ (z : _), Can 0x0682 (fun n => ∀ k, z = some k → n.histBytes none ≤ min 20 k * 2 ^ 30) State.reset) ∧
    (∃ (g : Fin 32) (v : Nat) (z : Option Nat) (w : _) (s : State), Can 0x0682 (fun n => (∀ k, z = some k → n.histBytes none ≤ min 20 k * 2 ^
      30) ∧ newWords (n.grpWords g.val) none none none (some v) none none none = some w ∧ n.acceptsChange g.val w none) s) :=
  ⟨fun op => can_at_reset trivial,
   ⟨⟨31, some 3, none, none, none, none, none, none, some [0, 262143]⟩, (newWords (State.reset.grpWords 31) (some 3) none none none none none
     none).getD ⟨0#32, 0#32, 0#32⟩, State.reset.setReg Reg.ALN_CTL 1#32, can_at (by decide) (by decide) (by decide) (by decide +kernel)⟩,
   ⟨31, running 31, can_at (by decide) (by decide) (by decide) (by decide +kernel)⟩,
   ⟨31, running 31, can_at (by decide) (by decide) (by decide) (by decide +kernel)⟩,
   ⟨31, State.reset.updGroup 31 (fun x => { x with st := .starting }), can_at (by decide) (by decide) (by decide) (by decide +kernel)⟩,
   ⟨31, true, State.reset, can_at (by decide) (by decide) (by decide) (by decide +kernel)⟩,
   ⟨⟨31, [262143], []⟩, [262143], running 31, can_at rfl (reset_runs _) rfl (by unfold State.acceptsChange; decide)⟩,
   ⟨⟨31, [262143], []⟩, [262143], State.reset, can_at rfl (reset_runs _) rfl (by unfold State.takesChange; decide)⟩,
   ⟨⟨31, some 10000000000, none, none, some true⟩, (newWords (State.reset.grpWords 31) none (some 10000000000) none none none (some true)
     none).getD ⟨0#32, 0#32, 0#32⟩, running 31, can_at rfl (reset_runs _) rfl (by unfold State.acceptsChange; decide)⟩,
   ⟨⟨31, some 10000000000, none, none, some true⟩, (newWords (State.reset.grpWords 31) none (some 10000000000) none none none (some true)
     none).getD ⟨0#32, 0#32, 0#32⟩, State.reset, can_at rfl (reset_runs _) rfl (by unfold State.takesChange; decide)⟩,
   ⟨⟨31, 1, 4⟩, State.reset.setReg Reg.ALN_HIST_CTL 1#32, can_at (by decide) (by decide) (by decide) (by decide +kernel)⟩,
   ⟨⟨31, 0⟩, [snap0], State.reset.updGroup 31 (fun x => { x with hist := [snap0] }), can_at (by decide) (by decide) (by decide) (by
     decide +kernel)⟩,
   ⟨⟨31, 0⟩, snap0, [snap0], (State.reset.updGroup 31 (fun x => { x with hist := [snap0, snap0] })).setMem (fun m =>
     { m with poison := [(0, 0, false)] }), can_at (by decide) (by decide) (by decide) (by decide +kernel)⟩,
   ⟨⟨31, 0#32, put 13 0 10000 ||| put 30 14 100000, 1000#32⟩, can_at_reset (by decide +kernel)⟩,
   ⟨[(262143, 0#32)], can_at_reset (by decide +kernel)⟩,
   ⟨some 20, can_at_reset (by decide +kernel)⟩,
   ⟨31, 1000, some 20, (newWords (State.reset.grpWords 31) none none none (some 1000) none none none).getD ⟨0#32, 0#32, 0#32⟩, running 31,
     can_at rfl (reset_runs _) rfl (by unfold State.acceptsChange; refine ⟨?_, by decide, by decide⟩; intro k hk; cases hk; decide)⟩⟩

/-- What Obligations.AccordEventsComplete assumes is met. -/
theorem witness_AccordEventsComplete :
    (∃ (v : _) (rest : _) (s : State), s.ing.values = v :: rest ∧ s.runs Isle.accord = true) ∧
    (∃ (g : Fin 32) (s1 : _) (a : _) (s : State), s.nextDeadline (Fin.val g) = (s1, some a)) ∧
    (∃ (g : Fin 32) (s1 : _) (a : _) (s : State), s.nextAsm (Fin.val g) (fun a => !a.closed) = (s1, some a)) ∧
    (∃ (g : Fin 32) (a : _) (s : State), (s.group (Fin.val g)).asms.find? (fun a => a.closed && !a.guardEnd && !a.trig) = some a) ∧
    (∃ (g : Fin 32) (s1 : _) (a : _) (s : State), s.nextAsm (Fin.val g) (fun a => !a.trig) = (s1, some a) ∧ a.set = [] ∧ s1.followsLists =
      false) ∧
    (∃ (g : Fin 32) (s : State), (s.group (Fin.val g)).st = .starting) ∧
    (∃ (g : Fin 32) (c : _) (s : State), (s.group (Fin.val g)).pend = some c) ∧
    (∃ (s : State), s.chanErr (s.rf Reg.ALN_CHAN_IDX 17 0) (s.reg Reg.ALN_CHAN_W0) = 0) ∧
    (∃ (s : State), s.chanErr (s.rf Reg.ALN_CHAN_IDX 17 0) (s.reg Reg.ALN_CHAN_W0) ≠ 0) :=
  ⟨⟨⟨0, 0, 0, 0#32, 0#32, 0, 1#32⟩, [], State.reset.setIng (fun g => { g with values := [⟨0, 0, 0, 0#32, 0#32, 0, 1#32⟩] }), by decide⟩,
   ⟨31, _, asm0, (running 31).updGroup 31 (fun x => { x with asms := [asm0], nextDl := 5, nextOpen := 6 }), rfl⟩,
   ⟨31, _, asm0, (running 31).updGroup 31 (fun x => { x with asms := [asm0] }), rfl⟩,
   ⟨31, { asm0 with closed := true }, (running 31).updGroup 31 (fun x => { x with asms := [{ asm0 with closed := true }] }), by decide⟩,
   ⟨31, _, { asm0 with set := [] }, (running 31).updGroup 31 (fun x => { x with asms := [{ asm0 with set := [] }] }), rfl, rfl, rfl⟩,
   ⟨31, State.reset.updGroup 31 (fun x => { x with st := .starting }), by decide⟩,
   ⟨31, ⟨5, 0, ⟨0#32, 0#32, 0#32⟩, none⟩, (running 31).updGroup 31 (fun x => { x with pend := some ⟨5, 0, ⟨0#32, 0#32, 0#32⟩, none⟩ }), by
     decide⟩,
   ⟨State.reset, by decide⟩,
   ⟨(State.reset.setReg Reg.ALN_CHAN_W0 0x80000000#32).updGroup 0 (fun x => { x with st := .running }), by decide⟩⟩

/-- What Obligations.SpeculationCompletes assumes is met. -/
theorem witness_SpeculationCompletes :
    (∀ op, Can op (fun _ => True) State.reset) ∧
    (∃ (g : Fin 32) (s : State), Can 0x0701 (fun n => n.acceptsChange g.val
      { (n.grpWords g.val) with ctl := depthWord (n.grpWords g.val).ctl (autoDepth (n.grpWords g.val)) } none) s) ∧
    (∃ (g : Fin 32) (d : Nat) (s : State), Can 0x0701 (fun n => d ≤ 64 ∧ n.acceptsChange g.val
      { (n.grpWords g.val) with ctl := depthWord (n.grpWords g.val).ctl d } none) s) ∧
    (∃ (g : Fin 32) (s : State), Can 0x0701 (fun n => n.acceptsChange g.val
      { (n.grpWords g.val) with ctl := depthWord (n.grpWords g.val).ctl 0 } none) s) ∧
    (Can 0x0702 (fun n => n.classPending = false) State.reset) ∧
    (∃ (a : ClassRawArgs), Can 0x0780 (fun n => badTol a.tolMag = false ∧ badTol a.tolAng = false ∧ badTol a.tolAbs = false ∧ 1 ≤ a.maxAge ∧
      a.maxAge ≤ 255 ∧ n.classPending = false) State.reset) ∧
    (∃ (g : Fin 32) (d : Fin 64) (m : Bool) (s : State), Can 0x0781 (fun n => n.acceptsChange g.val
      { (n.grpWords g.val) with ctl := setFld (setBit (n.reg (Reg.ALN_GRP_CTL g.val)) 22 m) 21 16 d.val } none) s) ∧
    (∃ (s : State), s.classPending = false) ∧
    (∃ (s : State), s.classPending = true) :=
  ⟨fun op => can_at_reset trivial,
   ⟨31, running 31, can_at rfl (reset_runs _) rfl (by unfold State.acceptsChange; decide)⟩,
   ⟨31, 64, running 31, can_at rfl (reset_runs _) rfl (by unfold State.acceptsChange; decide)⟩,
   ⟨31, running 31, can_at rfl (reset_runs _) rfl (by unfold State.acceptsChange; decide)⟩,
   can_at_reset rfl,
   ⟨⟨15, 3, 255, 0#32, 0#32, 0#32, 0#32⟩, can_at_reset (by decide +kernel)⟩,
   ⟨31, 63, true, running 31, can_at rfl (reset_runs _) rfl (by unfold State.acceptsChange; decide)⟩,
   ⟨State.reset, by decide⟩,
   ⟨State.reset.setAln (fun a => { a with clsPend := some 5 }), by decide⟩⟩

/-- What Obligations.IslandCommandsComplete assumes is met. -/
theorem witness_IslandCommandsComplete :
    (∀ op, Can op (fun _ => True) State.reset) ∧
    (∃ (a : IslProfileArgs), Can 0x0901 (fun _ => 20 ≤ a.tHoldMs ∧ a.tHoldMs ≤ 4000 ∧ a.clrHoldMs ≤ 4095 ∧ 100 ≤ a.taMs ∧ a.taMs ≤ 5000 ∧ 1 ≤
      a.minLive ∧ a.minLive ≤ 255 ∧ a.livePct ≤ 127) State.reset) ∧
    (∃ (b : ModelBuffer) (s : State), Can 0x0902 (fun n => n.isl.pend = none ∧ b.nBus ≤ 65536 ∧ b.nBranch ≤ 131072 ∧ b.words.length = 4 *
      (b.nBus + b.nBranch) ∧ b.crc = crc32c (bytesOf b.words) ∧ n.modelBad b.model = false ∧ n.modelFits b.model = true ∧ (n.group
      b.model.group).st ≠ .stopping ∧ ((n.group b.model.group).st = .stopped → hdr0.casc = true)) s) ∧
    (∃ (b : ModelBuffer) (s : State), Can 0x0902 (fun n => n.isl.pend = none ∧ b.nBus ≤ 65536 ∧ b.nBranch ≤ 131072 ∧ b.words.length = 4 *
      (b.nBus + b.nBranch) ∧ b.crc = crc32c (bytesOf b.words) ∧ n.modelBad b.model = false ∧ n.modelFits b.model = true ∧ (n.group
      b.model.group).st = .stopped ∧ hdr0.casc = false) s) ∧
    (∃ (a : IslTuneArgs), Can 0x0980 (fun _ => outside 100 600 a.ringWait = false ∧ outside 500 5000 a.ringClose = false ∧ outside 0 255
      a.topoPers = false ∧ outside 0 255 a.topoClr = false) State.reset) ∧
    (∃ (l : List IslRawRec), Can 0x0981 (fun n => n.isl.pend = none ∧ ∀ r ∈ l, r.index < islEntries r.branch) State.reset) ∧
    (∃ (a : IslActivateArgs) (m : _) (s : State), Can 0x0982 (fun n => m =
      { n.isl.staged with version := a.version, group := a.group.val, is60 := a.is60 } ∧ n.isl.pend = none ∧ n.modelBad m = false ∧ n.modelFits m
      = true ∧ (n.group m.group).st ≠ .stopping ∧ ((n.group m.group).st = .stopped → hdr0.casc = true)) s) ∧
    (∃ (a : IslActivateArgs) (m : _) (s : State), Can 0x0982 (fun n => m =
      { n.isl.staged with version := a.version, group := a.group.val, is60 := a.is60 } ∧ n.isl.pend = none ∧ n.modelBad m = false ∧ n.modelFits m
      = true ∧ (n.group m.group).st = .stopped ∧ hdr0.casc = false) s) :=
  ⟨fun op => can_at_reset trivial,
   ⟨⟨0#32, 0#32, 4000, 20, 5000, 255, 127⟩, can_at_reset (by decide +kernel)⟩,
   ⟨⟨0#32, 0, 0, 31, false, crc32c [], []⟩, running 31, can_at (by decide) (by decide) (by decide) (by decide +kernel)⟩,
   ⟨⟨0#32, 0, 0, 31, false, crc32c [], []⟩, State.reset, can_at (by decide) (by decide) (by decide) (by decide +kernel)⟩,
   ⟨⟨some 600, some 5000, some 255, some 1⟩, can_at_reset (by decide +kernel)⟩,
   ⟨[⟨true, 131071, Vector.ofFn (fun _ => 0#32)⟩, ⟨false, 65535, Vector.ofFn (fun _ => 0#32)⟩], can_at_reset (by decide +kernel)⟩,
   ⟨⟨1#32, 31, true⟩, { freshIsl.staged with version := 1#32, group := 31, is60 := true }, running 31, can_at (by decide) (by decide) (by
     decide) (by decide +kernel)⟩,
   ⟨⟨1#32, 31, true⟩, { freshIsl.staged with version := 1#32, group := 31, is60 := true }, State.reset, can_at (by decide) (by decide) (by
     decide) (by decide +kernel)⟩⟩

/-- What Obligations.IslandEventsComplete assumes is met. -/
theorem witness_IslandEventsComplete :
    (∃ (s : State), s.isl.pend = none ∧ s.islIdx.2 < islEntries s.islIdx.1 ∧ s.isl.staged.invalid s.islIdx.1 s.islIdx.2 (s.reg (Reg.ISL_TBL_W
      0)) (s.reg (Reg.ISL_TBL_W 1)) = false) ∧
    (∃ (s : State), s.runs Isle.nose = true) ∧
    (∃ (a : Instant) (m : _) (r : _) (x : _) (s : State), (s.advance a).ringNow.findSome? (fun r => ((s.advance a).modelAt r.t).bind (fun m =>
      if r.formed || !(s.advance a).holdsAll m r.t false then none else r.prov.map (fun x => (m, r, x)))) = some (m, r, x)) ∧
    (∃ (m : _) (r : _) (x : _) (s : State), s.unformed = some (r, x) ∧ (s.advance (x.t + us (100 * x.dead) + s.ringWait)).modelAt r.t = some m) ∧
    (∃ (a : Instant) (m : _) (r : _) (x : _) (s : State), (s.advance a).ringNow.findSome? (fun r => ((s.advance a).modelAt r.t).bind (fun m =>
      if (s.advance a).holdsAll m r.t true then r.commit.map (fun x => (m, r, x)) else none)) = some (m, r, x)) ∧
    (∃ (m : _) (r : _) (x : _) (s : State), s.ringNow.findSome? (fun r => (r.commit.or r.prov).map (fun x => (r, x))) = some (r, x) ∧ (s.advance
      (x.t + ms x.waitMs + s.ringClose)).modelAt r.t = some m) ∧
    (∃ (k : _) (t : _) (s : State), s.isl.pend = some (k, t)) :=
  ⟨⟨State.reset, by decide⟩,
   ⟨State.reset, by decide⟩,
   ⟨0, freshIsl.staged, ⟨5, 0, some snap0, none, false⟩, snap0, State.reset.setIsl (fun a =>
     { a with active := some freshIsl.staged, ring := [⟨5, 0, some snap0, none, false⟩] }), by decide⟩,
   ⟨freshIsl.staged, ⟨5, 0, some snap0, none, false⟩, snap0, State.reset.setIsl (fun a =>
     { a with active := some freshIsl.staged, ring := [⟨5, 0, some snap0, none, false⟩] }), by decide⟩,
   ⟨0, freshIsl.staged, ⟨5, 0, none, some snap0, true⟩, snap0, State.reset.setIsl (fun a =>
     { a with active := some freshIsl.staged, ring := [⟨5, 0, none, some snap0, true⟩] }), by decide⟩,
   ⟨freshIsl.staged, ⟨5, 0, none, some snap0, true⟩, snap0, State.reset.setIsl (fun a =>
     { a with active := some freshIsl.staged, ring := [⟨5, 0, none, some snap0, true⟩] }), by decide⟩,
   ⟨5, 0, State.reset.setIsl (fun a => { a with pend := some (5, 0) }), by decide⟩⟩

/-- What Obligations.NoseEventsComplete assumes is met. -/
theorem witness_NoseEventsComplete :
    (∃ (x : _) (rest : _) (s : State), s.aln.nose = .prov x :: rest ∧ s.runs Isle.nose = true) ∧
    (∃ (x : _) (rest : _) (s : State), s.aln.nose = .commit x :: rest ∧ s.runs Isle.nose = true ∧ s.barred Isle.accord = false) ∧
    (∃ (x : _) (rest : _) (s : State), s.aln.nose = .confirm x :: rest ∧ s.runs Isle.nose = true ∧ s.barred Isle.accord = false) ∧
    (∃ (x : _) (rest : _) (s : State), s.aln.nose = .rollback x :: rest ∧ s.runs Isle.nose = true ∧ s.barred Isle.accord = false) ∧
    (∃ (g : _) (ks : _) (rest : _) (s : State), s.aln.nose = .flush g ks :: rest ∧ s.runs Isle.nose = true) :=
  ⟨⟨snap0, [], State.reset.setAln (fun a => { a with nose := [.prov snap0] }), by decide⟩,
   ⟨snap0, [], State.reset.setAln (fun a => { a with nose := [.commit snap0] }), by decide⟩,
   ⟨snap0, [], State.reset.setAln (fun a => { a with nose := [.confirm snap0] }), by decide⟩,
   ⟨snap0, [], State.reset.setAln (fun a => { a with nose := [.rollback snap0] }), by decide⟩,
   ⟨31, [5], [], State.reset.setAln (fun a => { a with nose := [.flush 31 [5]] }), by decide⟩⟩

/-- What Obligations.PublicationCommandsComplete assumes is met. -/
theorem witness_PublicationCommandsComplete :
    (∀ op, Can op (fun _ => True) State.reset) ∧
    (∃ (a : StreamProfileArgs) (c : StreamCfg), Can 0x0A01 (fun n => c = ⟨(n.stream a.stream.val).layout, a.prov, a.ports.toNat, a.dest,
      (n.stream a.stream.val).confRev⟩ ∧ n.authRefused (a.rsv && a.authEn) a.authSlot.toNat = false ∧ n.rb (Reg.PUB_STRM_CTL a.stream.val) 26 =
      false ∧ (n.setStream a).rb (Reg.PUB_STRM_CTL a.stream.val) 26 = false) State.reset) ∧
    (∃ (a : StreamProfileArgs) (c : StreamCfg) (s : State), Can 0x0A01 (fun n => c = ⟨(n.stream a.stream.val).layout, a.prov, a.ports.toNat,
      a.dest, (n.stream a.stream.val).confRev⟩ ∧ n.authRefused (a.rsv && a.authEn) a.authSlot.toNat = false ∧ n.rb (Reg.PUB_STRM_CTL a.stream.val)
      28 = a.rsv ∧ n.rf (Reg.PUB_STRM_CTL a.stream.val) 20 16 = a.group.val ∧ (n.setStream a).rb (Reg.PUB_STRM_CTL a.stream.val) 26 = true ∧
      ((n.setStream a).stream a.stream.val).pend = none) s) ∧
    (∃ (i : Fin 64) (l : LayoutBuffer) (c : _) (s : State), Can 0x0A02 (fun n => c =
      { n.strmCfg i.val with layout := some l, confRev := (n.stream i.val).confRev + 1 } ∧ l.blocks ≠ [] ∧ l.blocks.length ≤ 1024 ∧ (∀ x ∈
      l.chans, n.chanGroup x = some (n.rf (Reg.PUB_STRM_CTL i.val) 20 16)) ∧ l.chans.length ≤ 8000 ∧ streamBytes (n.rb (Reg.PUB_STRM_CTL i.val)
      28) (n.rb (Reg.PUB_STRM_CTL i.val) 28 && n.rb (Reg.PUB_STRM_CTL i.val) 27) c l ≤ 65507 ∧ l.crc = crc32c l.body ∧ (∀ b ∈ l.blocks, n.badBlock
      b = false) ∧ n.rb (Reg.PUB_STRM_CTL i.val) 26 = true ∧ (n.stream i.val).pend = none) s) ∧
    (∃ (i : Fin 64) (l : LayoutBuffer) (c : _), Can 0x0A02 (fun n => c =
      { n.strmCfg i.val with layout := some l, confRev := (n.stream i.val).confRev + 1 } ∧ l.blocks ≠ [] ∧ l.blocks.length ≤ 1024 ∧ (∀ x ∈
      l.chans, n.chanGroup x = some (n.rf (Reg.PUB_STRM_CTL i.val) 20 16)) ∧ l.chans.length ≤ 8000 ∧ streamBytes (n.rb (Reg.PUB_STRM_CTL i.val)
      28) (n.rb (Reg.PUB_STRM_CTL i.val) 28 && n.rb (Reg.PUB_STRM_CTL i.val) 27) c l ≤ 65507 ∧ l.crc = crc32c l.body ∧ (∀ b ∈ l.blocks, n.badBlock
      b = false) ∧ n.rb (Reg.PUB_STRM_CTL i.val) 26 = false) State.reset) ∧
    (∃ (i : Fin 64) (r : Bool) (s : State), Can 0x0A03 (fun n => r = true → (n.stream (Fin.val i)).layout ≠ none) s) ∧
    (∃ (a : GocbArgs), Can 0x0A04 (fun n => (∀ x y z, a.strings = some (x, y, z) → x.length ≤ 64 ∧ y.length ≤ 64 ∧ z.length ≤ 64) ∧
      (a.members.getD []).length ≤ 64 ∧ (n.gocbKind a = false → (a.appid.getD 0).toNat ≤ 0x3FFF) ∧ (∀ e k, a.auth = some (e, k) → n.authRefused e
      k.toNat = false)) State.reset) ∧
    (∃ (a : AlarmOutArgs), Can 0x0A05 (fun _ => (a.sels.getD []).length ≤ 16 ∧ outside 0 1000 a.minOnMs = false) State.reset) ∧
    (∃ (l : List LimitArgs), Can 0x0A06 (fun n => ∀ a ∈ l, a.chan < 262144 ∧ a.debounce ≤ 255 ∧ n.limitType (a.words.headD 0#32) = false)
      State.reset) ∧
    (∃ (i : Fin 64) (z : Option Nat) (k : Option (BitVec 8)), Can 0x0A80 (fun n => (∀ d, z = some d → 1 ≤ d ∧ d ≤ 6000) ∧ n.authRefused (n.rb
      (Reg.PUB_STRM_CTL i.val) 27 && n.rb (Reg.PUB_STRM_CTL i.val) 28) ((k.map BitVec.toNat).getD (n.rf (Reg.PUB_STRM_AUTH i.val) 7 0)) = false)
      State.reset) ∧
    (∃ (i : Fin 64) (w : Word) (z : Option Nat) (k : Option (BitVec 8)) (words : List Word) (u : State), Can 0x0A80 (fun n => (∀ d, z = some d →
      1 ≤ d ∧ d ≤ 6000) ∧ n.authRefused (bit w 27 && bit w 28) ((k.map BitVec.toNat).getD (n.rf (Reg.PUB_STRM_AUTH i.val) 7 0)) = false ∧ (((z.map
      (n.setRf (Reg.PUB_STRM_LEAD i.val) 12 0)).getD n).setRf (Reg.PUB_STRM_AUTH i.val) 7 0 ((k.map BitVec.toNat).getD (n.rf (Reg.PUB_STRM_AUTH
      i.val) 7 0))).writeStreamCtl i.val w = .done St.OK words u) State.reset) ∧
    (∃ (a : GocbRawArgs), Can 0x0A81 (fun n => outside 1 64 a.tMin = false ∧ outside 100 60000 a.t0 = false ∧ n.authRefused (bit (n.rawGocbCtl
      a) 29) (fld (n.rawGocbCtl a) 15 8) = false) State.reset) ∧
    (∃ (l : List PubTblEntry), Can 0x0A82 (fun n => ∀ e ∈ l, e.index < pubEntries e.table.val ∧ (e.table = 0 → n.limitType (e.words.toList.headD
      0#32) = false)) State.reset) :=
  ⟨fun op => can_at_reset trivial,
   ⟨⟨63, false, false, 31, ⟨0#48, 0#16, none, [], []⟩, 0x3FF#10, false, 0#8⟩, _, can_at_reset ⟨rfl, by decide, by decide, by decide⟩⟩,
   ⟨⟨63, false, false, 31, ⟨0#48, 0#16, none, [], []⟩, 0x3FF#10, false, 0#8⟩, _, State.reset.setReg (Reg.PUB_STRM_CTL 63) 0x41F0000#32, can_at
     rfl (reset_runs _) rfl ⟨rfl, by decide, by decide, by decide, by decide, rfl⟩⟩,
   ⟨63, layout0, _, State.reset.setReg (Reg.PUB_STRM_CTL 63) 0x4000000#32, can_at rfl (reset_runs _) rfl ⟨rfl, by decide, by decide, by decide,
     by decide, by decide, by decide +kernel, by decide, by decide, rfl⟩⟩,
   ⟨63, layout0, _, can_at_reset ⟨rfl, by decide, by decide, by decide, by decide, by decide, by decide +kernel, by decide, by decide⟩⟩,
   ⟨63, true, State.reset.updStream 63 (fun x => { x with layout := some layout0 }), can_at (by decide) (by decide) (by decide) (by
     decide +kernel)⟩,
   ⟨⟨127, some true, none, some [], some 0x3FFF#16, none, none, none, none⟩, can_at_reset ⟨(fun _ _ _ h => nomatch h), by decide, by decide,
     (fun _ _ h => nomatch h)⟩⟩,
   ⟨⟨7, some [], none, none, some 1000⟩, can_at_reset (by decide +kernel)⟩,
   ⟨[⟨32767, 3, 262143, 255, 0#32, 0#32, 0#32⟩], can_at_reset (by decide +kernel)⟩,
   ⟨63, some 6000, some 255#8, can_at_reset ⟨fun _ h => by cases h; decide, by decide⟩⟩,
   ⟨63, 0#32, some 6000, some 255#8, _, _, can_at_reset ⟨fun _ h => by cases h; decide, by decide, rfl⟩⟩,
   ⟨⟨127, none, none, some 64, some 60000⟩, can_at_reset (by decide +kernel)⟩,
   ⟨[⟨2, 8191, Vector.ofFn (fun _ => 0#32)⟩], can_at_reset (by decide +kernel)⟩⟩

/-- What Obligations.PublicationEventsComplete assumes is met. -/
theorem witness_PublicationEventsComplete :
    (∃ (i : Fin 64) (s : State), s.rb (Reg.PUB_STRM_CTL (Fin.val i)) 28 = false ∧ s.rb (Reg.PUB_STRM_CTL i.val) 26 = true ∧ (s.stream
      i.val).layout ≠ none) ∧
    (∃ (i : Fin 64) (s : State), s.rb (Reg.PUB_STRM_CTL (Fin.val i)) 28 = false ∧ s.rb (Reg.PUB_STRM_CTL i.val) 26 = true ∧ (s.stream
      i.val).layout ≠ none) ∧
    (∃ (i : Fin 64) (s : State), s.rb (Reg.PUB_STRM_CTL (Fin.val i)) 28 = false ∧ s.rb (Reg.PUB_STRM_CTL i.val) 26 = true ∧ (s.stream
      i.val).layout ≠ none ∧ s.speaks = true) ∧
    (∃ (b : _) (rest : _) (s : State), s.batches = b :: rest ∧ s.runs Isle.atomizer = true ∧ s.barred Isle.nose = false) ∧
    (∃ (k : Fin 128) (u : Nat) (s : State), (s.block (Fin.val k)).due = some u ∧ s.blockRuns k.val = true ∧ s.runs Isle.atomizer = true) ∧
    (∃ (n : Fin 8) (u : Nat) (s : State), (s.land (Fin.val n)).relDue = some u ∧ s.landWanted n.val = false ∧ s.runs Isle.atomizer = true) ∧
    (∃ (x : _) (rest : _) (s : State), s.aln.pub = x :: rest ∧ s.runs Isle.atomizer = true ∧ s.publishable x = true) ∧
    (∃ (i : Fin 64) (t : _) (c : _) (s : State), (s.stream (Fin.val i)).pend = some (t, c)) :=
  ⟨⟨63, (State.reset.setReg (Reg.PUB_STRM_CTL 63) 0x4000000#32).updStream 63 (fun x => { x with layout := some layout0 }), by decide⟩,
   ⟨63, (State.reset.setReg (Reg.PUB_STRM_CTL 63) 0x4000000#32).updStream 63 (fun x => { x with layout := some layout0 }), by decide⟩,
   ⟨63, (State.reset.setReg (Reg.PUB_STRM_CTL 63) 0x4000000#32).updStream 63 (fun x => { x with layout := some layout0 }), by decide⟩,
   ⟨⟨32, 0, []⟩, [], { State.reset with batches := [⟨32, 0, []⟩] }, by decide⟩,
   ⟨127, 5, ((State.reset.setReg (Reg.PUB_GOCB_CTL 127) 0x80000000#32).setReg Reg.PUB_CTL 2#32).updBlock 127 (fun x =>
     { x with due := some 5 }), by decide⟩,
   ⟨7, 5, State.reset.updLand 7 (fun x => { x with relDue := some 5 }), by decide⟩,
   ⟨snap0, [], State.reset.setAln (fun a => { a with pub := [snap0] }), by decide⟩,
   ⟨63, 5, ⟨none, false, 0, ⟨0#48, 0#16, none, [], []⟩, 0⟩, State.reset.updStream 63 (fun x =>
     { x with pend := some (5, ⟨none, false, 0, ⟨0#48, 0#16, none, [], []⟩, 0⟩) }), by decide⟩⟩

/-- What Obligations.OscillationCommandsComplete assumes is met. -/
theorem witness_OscillationCommandsComplete :
    (∀ op, Can op (fun _ => True) State.reset) ∧
    (∃ (a : OscProfileArgs), Can 0x0801 (fun n => (n.oset a.set.val).run = false ∧ 10 ≤ a.winS ∧ a.winS ≤ 600 ∧ 1 ≤ a.count ∧ a.first + a.count
      ≤ 256 ∧ a.order ≤ 25 ∧ (n.setOscProfile a).bandBad a.set.val = false) State.reset) ∧
    (∃ (i : Fin 32) (l : List OscSignal) (s : State), Can 0x0802 (fun n => (n.oset (Fin.val i)).run = false ∧ ∀ a ∈ l, n.hasCore i.val
      a.core.val = true ∧ n.sigErr a.index a.w0 a.w1 = 0) s) ∧
    (∃ (a : OscThresholdArgs), Can 0x0803 (fun _ => outside 1 1023 a.dampPers = false ∧ outside 1 1023 a.ampPers = false ∧ outside 1 1023
      a.clrPers = false) State.reset) ∧
    (∃ (i : Fin 32) (s : State), Can 0x0804 (fun n => (n.copyRef i.val).startErr i.val = 0) s) ∧
    (∃ (l : List OscBranch), Can 0x0807 (fun n => ∀ a ∈ l, n.branchErr a.index.val (a.words.headD 0#32) ((a.words.drop 1).headD 0#32) = 0)
      State.reset) ∧
    (∃ (i : Fin 32) (l : List (Fin 32 × Word)), Can 0x0880 (fun n => (∀ p ∈ l, n.oscHeldReg (Fin.val i) (4 * p.1.val) = false) ∧ (∀ p ∈ l,
      oscWordBad (4 * p.1.val) p.2 = false) ∧ (l.foldl (fun (t : State) p => t.plainWrite (Reg.OSC_SET_CTL i.val + 4 * p.1.val) p.2) n).changeErr
      i.val (l.map (fun p => 4 * p.1.val)) = 0) State.reset) ∧
    (∃ (l : List OscTblEntry), Can 0x0881 (fun n => ∀ e ∈ l, (n.oscWrite e.branch e.index e.words.toList).1 = 0) State.reset) ∧
    (∃ (a : OscTuneArgs), Can 0x0882 (fun _ => a.bad = false) State.reset) :=
  ⟨fun op => can_at_reset trivial,
   ⟨⟨31, 4, 600, 255, 1, 7, 24⟩, can_at_reset (by decide +kernel)⟩,
   ⟨31, [⟨255, 63, true, 0, 237568#18, 237568#18, 0#32⟩], (State.reset.setReg (Reg.OSC_SET_CORES 31) 0x1FF#32).setAln (fun a =>
     { a with chans := [(237568, 0x80000000#32)] }), can_at (by decide) (by decide) (by decide) (by decide +kernel)⟩,
   ⟨⟨31, 2, none, none, none, none, some 1023, some 1, none⟩, can_at_reset (by decide +kernel)⟩,
   ⟨31, (State.reset.setReg Reg.OSC_CTL 1#32).setReg (Reg.OSC_SET_CORES 31) 0x1FF#32, can_at (by decide) (by decide) (by decide) (by
     decide +kernel)⟩,
   ⟨[⟨4095, true, 0, 0#18, 0#18, 0, 0, 0#16, 0#16, 0#32⟩], can_at_reset (by decide +kernel)⟩,
   ⟨31, [(31, 0#32), (0, 0#32)], can_at_reset ⟨all_mem (by decide +kernel), all_mem (by decide +kernel), by decide +kernel⟩⟩,
   ⟨[⟨true, 4095, Vector.ofFn (fun _ => 0#32)⟩, ⟨false, 16383, Vector.ofFn (fun _ => 0#32)⟩], can_at_reset (by decide +kernel)⟩,
   ⟨⟨31, none, none, none, none, none, none, none, none, none, none⟩, can_at_reset (by decide +kernel)⟩⟩

/-- What Obligations.OscillationEventsComplete assumes is met. -/
theorem witness_OscillationEventsComplete :
    (∃ (x : _) (rest : _) (s : State), s.aln.osc = x :: rest ∧ s.barred Isle.accord = false ∧ s.runs Isle.nose = true ∧ s.rb Reg.OSC_CTL 0 =
      true) ∧
    (∃ (a : Instant) (i : Fin 32) (s : State), (s.advance a).oscReady (Fin.val i) = true ∧ s.runs Isle.nose = true) ∧
    (∃ (i : Fin 32) (u : OscUpdate) (s : State), (s.oset (Fin.val i)).current = some u ∧ s.runs Isle.nose = true) :=
  ⟨⟨snap0, [], (State.reset.setReg Reg.OSC_CTL 1#32).setAln (fun a => { a with osc := [snap0] }), by decide⟩,
   ⟨0, 31, State.reset.setOsc (fun o => { o with sets := updAt o.sets 31 (fun x => { x with run := true }) }), by decide⟩,
   ⟨31, ⟨0, [], []⟩, State.reset.setOsc (fun o => { o with sets := updAt o.sets 31 (fun x => { x with current := some ⟨0, [], []⟩ }) }), by
     decide⟩⟩

/-- What Obligations.CaptureCommandsComplete assumes is met. -/
theorem witness_CaptureCommandsComplete :
    (∀ op, Can op (fun _ => True) State.reset) ∧
    (∃ (a : CapProfileArgs), Can 0x0B01 (fun n => n.unitIdle a.unit.val = true ∧ a.pre < 2 ^ 20 ∧ a.post < 2 ^ 32) State.reset) ∧
    (∃ (u : Fin 4), Can 0x0B02 (fun n => n.unitIdle (Fin.val u) = true) State.reset) ∧
    (∃ (u : Fin 4) (t : _) (k : _) (b : _) (s : State), Can 0x0B03 (fun n => n.arm (Fin.val u) false = (.ok (k, b), t)) s) ∧
    (∃ (u : Fin 4) (s : State), Can 0x0B04 (fun n => (n.capUnit (Fin.val u)).st = .triggered) s) ∧
    (∃ (u : Fin 4) (s : State), Can 0x0B04 (fun n => (n.capUnit (Fin.val u)).st = .filling ∨ (n.capUnit u.val).st = .armed) s) ∧
    (∃ (u : Fin 4) (s : State), Can 0x0B05 (fun n => (n.capUnit (Fin.val u)).st = .filling ∨ (n.capUnit u.val).st = .armed) s) ∧
    (∃ (h : Hdr) (a : CapReadArgs) (r : _) (n : _) (s : State), Ready 0x0B07 h s ∧ n = s.turn 0x0B07 h ∧ n.capRec a.number.val = some r ∧
      r.closed = true ∧ 512 ≤ h.bufLen ∧ a.first ≤ r.rows.length ∧ (n.copyRecord h.via h.bufAddr h.bufLen r a).2.chunksPass h.via ∧ n.breaksLock
      ((n.copyRecord h.via h.bufAddr h.bufLen r a).2.chunksGone h.via) = false) ∧
    (∃ (k : Fin 256) (r : _) (s : State), Can 0x0B08 (fun n => n.capRec (Fin.val k) = some r ∧ r.closed = true ∧ r.locked = false) s) ∧
    (∃ (k : Fin 256) (r : _) (s : State), Can 0x0B09 (fun n => n.capRec (Fin.val k) = some r) s) ∧
    (∃ (u : Fin 4), Can 0x0B80 (fun n => n.unitIdle (Fin.val u) = true) State.reset) ∧
    (∃ (u : Fin 4) (tr : Bool) (t : _) (k : _) (b : _) (s : State), Can 0x0B81 (fun n => n.arm (Fin.val u) tr = (.ok (k, b), t)) s) ∧
    (∃ (a : CapTuneArgs), Can 0x0B82 (fun _ => outside 1 1000 a.rowWait = false ∧ outside 0 8 a.partGib = false) State.reset) :=
  ⟨fun op => can_at_reset trivial,
   ⟨⟨3, true, 1048575, 4294967295, .ext 3⟩, can_at_reset (by decide +kernel)⟩,
   ⟨3, can_at_reset (by decide +kernel)⟩,
   let ⟨t, k, b, e⟩ := armed_of (x := ((withCapture.atTurn 0x0B03).advance 0).arm 3 false) (by decide +kernel); ⟨3, t, k, b, withCapture,
     can_at rfl (reset_runs _) rfl e⟩,
   ⟨3, State.reset.updUnit 3 (fun x => { x with st := .triggered }), can_at (by decide) (by decide) (by decide) (by decide +kernel)⟩,
   ⟨3, State.reset.updUnit 3 (fun x => { x with st := .armed }), can_at (by decide) (by decide) (by decide) (by decide +kernel)⟩,
   ⟨3, State.reset.updUnit 3 (fun x => { x with st := .filling }), can_at (by decide) (by decide) (by decide) (by decide +kernel)⟩,
   ⟨hdr0, ⟨255, 0, 0⟩, rec0, _, (State.reset.setCap (fun c => { c with recs := [rec0] })).atTurn 0x0B07, ready_at rfl (reset_runs _), (turn_at
     rfl).symm, by decide, by decide, by decide, by decide, Or.inl (by decide), unlocked_breaks rfl _⟩,
   ⟨255, rec0, State.reset.setCap (fun c => { c with recs := [rec0] }), can_at (by decide) (by decide) (by decide) (by decide +kernel)⟩,
   ⟨255, rec0, State.reset.setCap (fun c => { c with recs := [rec0] }), can_at (by decide) (by decide) (by decide) (by decide +kernel)⟩,
   ⟨3, can_at_reset (by decide +kernel)⟩,
   let ⟨t, k, b, e⟩ := armed_of (x := ((withCapture.atTurn 0x0B81).advance 0).arm 3 true) (by decide +kernel); ⟨3, true, t, k, b, withCapture,
     can_at rfl (reset_runs _) rfl e⟩,
   ⟨⟨some 1000, some 8, none, none, none, none⟩, can_at_reset (by decide +kernel)⟩⟩

/-- What Obligations.CaptureEventsComplete assumes is met. -/
theorem witness_CaptureEventsComplete :
    (∃ (m : _) (rest : _) (s : State), s.runs Isle.capture = true ∧ takeFirst CapIn.isElem s.capIn = some (.raw m, rest)) ∧
    (∃ (v : _) (rest : _) (s : State), s.runs Isle.capture = true ∧ takeFirst CapIn.isElem s.capIn = some (.est v, rest)) ∧
    (∃ (u : Fin 4) (s : State), (s.capUnit (Fin.val u)).st ≠ .idle ∧ s.runs Isle.capture = true) ∧
    (∃ (m : _) (e : _) (rest : _) (s : State), s.runs Isle.capture = true ∧ takeFirst (fun m => !m.isElem) s.capIn = some (m, rest) ∧ m.evt =
      some e) ∧
    (∃ (u : Fin 4) (s : State), (s.capUnit (Fin.val u)).st = .closing ∧ s.runs Isle.capture = true) :=
  ⟨⟨⟨0, 4000, 0, 0, 0, 1#32, [], false⟩, [], { State.reset with capIn := [.raw ⟨0, 4000, 0, 0, 0, 1#32, [], false⟩] }, by decide⟩,
   ⟨⟨0, 0, 0, 0#32, 0#32, 0, 1#32⟩, [.ext 3 true 0], { State.reset with capIn := [.ext 3 true 0, .est ⟨0, 0, 0, 0#32, 0#32, 0, 1#32⟩] }, by
     decide⟩,
   ⟨3, State.reset.updUnit 3 (fun x => { x with st := .armed }), by decide⟩,
   ⟨.ext 3 true 0, ⟨.ext 3, 0, false⟩, [], { State.reset with capIn := [.ext 3 true 0] }, by decide⟩,
   ⟨3, State.reset.updUnit 3 (fun x => { x with st := .closing }), by decide⟩⟩

/-- What Obligations.SillageCommandsComplete assumes is met. -/
theorem witness_SillageCommandsComplete :
    (∀ op, Can op (fun _ => True) State.reset) ∧
    (∃ (p : EvrProfile), Can 0x0C01 (fun _ => 1 ≤ p.interval ∧ p.interval ≤ 3600) State.reset) ∧
    (∃ (a : EvrReadArgs) (recs : _) (blks : _) (s : State), Can 0x0C02 (fun n => recs = (sortBy (fun x y => decide (x.item.seq ≤ y.item.seq))
      (((n.evr.pinned ++ n.evr.circ ++ n.evr.refuge).map (·.2)).filter (fun x => decide (a.first ≤ x.item.seq) && decide (x.item.seq ≤
      a.last)))).take (hdr0.bufLen / 256) ∧ blks = (n.evr.blocks.filter (fun b => decide (b.first ≤ a.last) && decide (a.first < b.first +
      b.n))).take (hdr0.bufLen / 256 - recs.length) ∧ recs ≠ []) s) ∧
    (Can 0x0C03 (fun n => (n.kslot (n.rf Reg.EVR_CTL 23 16)).st ≠ .empty ∧ (n.kslot (n.rf Reg.EVR_CTL 23 16)).cls = 3) State.reset) ∧
    (∃ (k : List Byte) (tag : List Byte) (e : _) (s : State), Can 0x0C06 (fun n => n.refugeMode = false ∧ n.logLost = false ∧ n.evr.nonce = some
      e ∧ e.bytes = k ∧ n.up < e.due ∧ (n.useKeySlot (n.rf Reg.EVR_CTL 15 8) [2]).1 = 0 ∧ tag = (Config.hmacSha256 (n.keyBytes (n.rf Reg.EVR_CTL
      15 8)) (k ++ n.seqLast)).take 16) s) ∧
    (∃ (a : EvrHostArgs), Can 0x0C07 (fun _ => 48 ≤ a.cls.val) State.reset) ∧
    (∃ (l : List EvrClassRaw), Can 0x0C80 (fun _ => ∀ a ∈ l, fld a.ctl 11 0 ≤ 3600) State.reset) :=
  ⟨fun op => can_at_reset trivial,
   ⟨⟨[63], 3600, 0#32⟩, can_at_reset (by decide +kernel)⟩,
   ⟨⟨0, 0⟩, _, _, State.reset.setEvr (fun e => { e with pinned := [(0, ⟨evr0, [], []⟩)] }), can_at rfl (reset_runs _) rfl ⟨rfl, rfl, by
     decide⟩⟩,
   can_at_reset (by decide +kernel),
   ⟨[1#8], _, ⟨[1#8], 1⟩, ((withKey 5 2).setReg Reg.EVR_CTL (put 15 8 5)).setEvr (fun e => { e with nonce := some ⟨[1#8], 1⟩ }), can_at rfl
     (reset_runs _) rfl ⟨rfl, rfl, rfl, rfl, by decide, by decide, rfl⟩⟩,
   ⟨⟨48, 0#32, Vector.ofFn (fun _ => 0#32)⟩, can_at_reset (by decide +kernel)⟩,
   ⟨[⟨63, 3600#32, 0#32⟩], can_at_reset (by decide +kernel)⟩⟩

/-- What Obligations.SillageEventsComplete assumes is met. -/
theorem witness_SillageEventsComplete :
    (∃ (m : _) (rest : _) (s : State), s.events = m :: rest ∧ s.runs Isle.sillage = true) ∧
    (∃ (c : Fin 64) (x : _) (s : State), lookup s.evr.open_ (Fin.val c) = some x ∧ s.runs Isle.sillage = true) ∧
    (∃ (c : Fin 64) (u : Nat) (s : State), s.holdoffEnd (Fin.val c) = some u ∧ s.runs Isle.sillage = true ∧ classImm c.val = true) ∧
    (∃ (s : State), s.runs Isle.sillage = true) ∧
    (∃ (s : State), s.runs Isle.sillage = true) ∧
    (∃ (e : _) (s : State), s.evr.nonce = some e) :=
  ⟨⟨⟨0, 0, 0, 1#32, false, false, []⟩, [], { State.reset with events := [⟨0, 0, 0, 1#32, false, false, []⟩] }, by decide⟩,
   ⟨63, accum0, State.reset.setEvr (fun e => { e with open_ := [(63, accum0)] }), by decide⟩,
   ⟨27, ms 10, State.reset.setEvr (fun e => { e with lastClose := [(27, (0, 0))] }), by decide⟩,
   ⟨State.reset, by decide⟩,
   ⟨State.reset, by decide⟩,
   ⟨⟨[], 5⟩, State.reset.setEvr (fun e => { e with nonce := some ⟨[], 5⟩ }), by decide⟩⟩

/-- What Obligations.KeyCommandsComplete assumes is met. -/
theorem witness_KeyCommandsComplete :
    (∀ op, Can op (fun _ => True) State.reset) ∧
    (∃ (h : Hdr) (s : State), Ready 0x0D01 h s ∧ s.key.lc ≠ .retired) ∧
    (∃ (a : KeyGenArgs), Can 0x0D02 (fun n => n.key.lc ≠ .retired ∧ n.createErr a.slot.val = 0 ∧ lengthFits a.cls.val a.bits = true ∧
      n.key.rngOk = true) State.reset) ∧
    (∀ data c0 c1 c2, checkValue 0 (List.replicate 16 0#8) = [c0, c1, c2] → Config.kwpUnwrap [] data = some (unwrapped0 c0 c1 c2) → ∃ (a :
      KeyImportArgs) (w : Unwrapped) (s : State), Can 0x0D03 (fun n => n.key.lc ≠ .retired ∧ n.createErr a.slot.val = 0 ∧ (n.unwrap a.kek.val
      a.wrapped).1 = .ok w) s) ∧
    (∃ (a : KeyDeriveArgs) (s : State), Can 0x0D04 (fun n => n.key.lc ≠ .retired ∧ n.createErr a.slot.val = 0 ∧ a.label.length ≤ 64 ∧
      a.context.length ≤ 64 ∧ lengthFits a.cls.val a.bits = true ∧ a.cls.val ≠ 3 ∧ (n.useKeySlot a.parent.val [5]).1 = 0) s) ∧
    (∃ (a : KeyReplaceArgs) (key : _) (o : _) (p : _) (s : State), a.source = .generate ∧ Can 0x0D05 (fun n => n.key.lc ≠ .retired ∧ a.slot.val
      ≠ 0 ∧ (n.kslot a.slot.val).st ≠ .empty ∧ n.shadow a.slot.val = none ∧ n.key.shadows.length < 8 ∧ (n.newKey (n.kslot a.slot.val) a.source).1
      = .ok (key, o, p)) s) ∧
    (∃ (a : KeyReplaceArgs) (key : _) (o : _) (p : _) (s : State), a.source ≠ .generate ∧ Can 0x0D05 (fun n => n.key.lc ≠ .retired ∧ a.slot.val
      ≠ 0 ∧ (n.kslot a.slot.val).st ≠ .empty ∧ n.shadow a.slot.val = none ∧ n.key.shadows.length < 8 ∧ (n.kslot a.slot.val).cls ≠ 3 ∧ (n.newKey
      (n.kslot a.slot.val) a.source).1 = .ok (key, o, p) ∧ checkValue (n.kslot a.slot.val).cls key = a.kcv) s) ∧
    (∃ (k : Fin 256) (c : List Byte) (x : _) (u : Nat) (s : State), Can 0x0D06 (fun n => n.key.lc ≠ .retired ∧ n.shadow (Fin.val k) = some x ∧
      x.staged = some u ∧ n.up < u ∧ checkValue (x.base (n.kslot k.val)).cls x.key = c) s) ∧
    (∃ (k : Fin 256) (s : State), Can 0x0D07 (fun n => n.key.lc ≠ .retired ∧ Fin.val k ≠ 0 ∧ (n.kslot k.val).st ≠ .empty) s) ∧
    (∃ (k : Fin 256) (e : Fin 256) (s : State), Can 0x0D08 (fun n => n.key.lc ≠ .retired ∧ (n.kslot (Fin.val k)).st ≠ .empty ∧ (n.kslot
      k.val).exportNever = false ∧ (n.useKeySlot (Fin.val e) [4]).1 = 0) s) ∧
    (Can 0x0D09 (fun n => n.key.lc ≠ .retired) State.reset) ∧
    (∃ (goal : Lifecycle), Can 0x0D0A (fun n => n.key.lc ≠ .retired ∧ transition (n.rb Reg.KEY_CTL 16) n.key.lc goal = some false) State.reset) ∧
    (∃ (goal : Lifecycle) (k : List Byte) (tag : List Byte) (e : _) (s : State), Can 0x0D0A (fun n => n.key.lc ≠ .retired ∧ transition (n.rb
      Reg.KEY_CTL 16) n.key.lc goal = some true ∧ n.rb Reg.KEY_CTL 16 = true ∧ n.key.nonce = some e ∧ e.bytes = k ∧ n.up < e.due ∧ (n.useKeySlot
      (n.rf Reg.KEY_CTL 15 8) [2]).1 = 0 ∧ tag = (Config.hmacSha256 (n.keyBytes (n.rf Reg.KEY_CTL 15 8)) (k ++ padTo 16 Config.uid ++ le 1
      goal.code)).take 16) s) ∧
    (∃ (k : Fin 256), Can 0x0D0B (fun n => n.key.lc ≠ .retired ∧ (n.kslot (Fin.val k)).st ≠ .empty ∧ (n.useKeySlot 0 [3]).1 = 0) State.reset) ∧
    (Can 0x0D0C (fun n => n.key.lc ≠ .retired) State.reset) ∧
    (∃ (a : KeyClearArgs) (s : State), Can 0x0D80 (fun n => n.key.lc ≠ .retired ∧ n.clearAllowed = true ∧ n.createErr a.slot.val = 0 ∧ a.cls.val
      ≠ 3 ∧ lengthFits a.cls.val (8 * a.key.length) = true) s) ∧
    (∃ (a : KeyAttrArgs) (s : State), Can 0x0D81 (fun n => n.key.lc ≠ .retired ∧ (a.slot.val = 0 → a.uses = none) ∧ (n.kslot a.slot.val).st ≠
      .empty ∧ ∀ u, a.uses = some u → u.toNat ≤ (n.kslot a.slot.val).uses.toNat) s) ∧
    (∃ (a : KeyTuneArgs), Can 0x0D82 (fun n => n.key.lc ≠ .retired ∧ outside 1 600 a.periodDs = false ∧ (a.authSlot ≠ none ∨ a.authEn ≠ none →
      (n.setKeyTune a).rb Reg.KEY_CTL 16 = true → (n.kslot ((n.setKeyTune a).rf Reg.KEY_CTL 15 8)).st ≠ .empty ∧ (n.kslot ((n.setKeyTune a).rf
      Reg.KEY_CTL 15 8)).cls = 2)) State.reset) :=
  ⟨fun op => can_at_reset trivial,
   ⟨hdr0, State.reset.atTurn 0x0D01, ready_at rfl (reset_runs _), by decide⟩,
   ⟨⟨255, 0, 256, 1#32, false, false, false⟩, can_at_reset (by decide +kernel)⟩,
   fun data c0 c1 c2 hv h => ⟨⟨255, 1, data⟩, parseWrapped (unwrapped0 c0 c1 c2), withKey 1 4, can_at rfl (reset_runs _) rfl ⟨by decide, rfl,
     unwrap0 hv h⟩⟩,
   ⟨⟨255, 1, [], [], 0, 128, 1#32, false, false, false⟩, withKey 1 5, can_at (by decide) (by decide) (by decide) (by decide +kernel)⟩,
   ⟨⟨255, 0#32, 1#32, .generate, []⟩, _, _, _, withKey 255 0, rfl, can_at rfl (reset_runs _) rfl ⟨by decide, by decide, by decide, rfl, by
     decide, rfl⟩⟩,
   ⟨⟨255, 0#32, 1#32, .clear (List.replicate 32 0#8), checkValue 0 (List.replicate 32 0#8)⟩, List.replicate 32 0#8, _, _, (withKey 255
     0).setKeys (fun k => { k with lc := .service }), (fun e => by cases e), can_at rfl (reset_runs _) rfl ⟨by decide, by decide, by decide, rfl,
     by decide, by decide, rfl, rfl⟩⟩,
   ⟨255, checkValue 0 [], shadow0 (some 1), 1, withShadow (some 1), can_at rfl (reset_runs _) rfl ⟨by decide, rfl, rfl, by decide, rfl⟩⟩,
   ⟨255, withKey 255 0, can_at (by decide) (by decide) (by decide) (by decide +kernel)⟩,
   ⟨255, 1, (withKey 1 4).updKslot 255 (fun x => { x with st := .active }), can_at (by decide) (by decide) (by decide) (by decide +kernel)⟩,
   can_at_reset (by decide +kernel),
   ⟨.provisioned, can_at_reset (by decide +kernel)⟩,
   ⟨.deployed, [1#8], _, ⟨[1#8], 1⟩, ((withKey 5 2).setReg Reg.KEY_CTL 0x10500#32).setKeys (fun k =>
     { k with lc := .provisioned, nonce := some ⟨[1#8], 1⟩ }), can_at rfl (reset_runs _) rfl ⟨by decide, rfl, rfl, rfl, rfl, by decide, by
     decide, rfl⟩⟩,
   ⟨0, can_at_reset (by decide +kernel)⟩,
   can_at_reset (by decide +kernel),
   ⟨⟨255, 0, List.replicate 16 0#8, 1#32, false, false, false⟩, State.reset.setKeys (fun k => { k with lc := .service }), can_at (by decide)
     (by decide) (by decide) (by decide +kernel)⟩,
   ⟨⟨5, some 1#32, true⟩, withKey 5 0, can_at rfl (reset_runs _) rfl ⟨by decide, by decide, by decide, fun u h => by cases h; decide⟩⟩,
   ⟨⟨some 600, none, none⟩, can_at_reset (by decide +kernel)⟩⟩

/-- What Obligations.KeyEventsComplete assumes is met. -/
theorem witness_KeyEventsComplete :
    (∃ (s : State), s.runs Isle.flacon = true) ∧
    (∃ (k : Fin 256) (x : _) (s : State), s.shadow (Fin.val k) = some x ∧ x.staged = none ∧ s.runs Isle.flacon = true) ∧
    (∃ (k : Fin 256) (x : _) (u : Nat) (s : State), s.shadow (Fin.val k) = some x ∧ x.staged = some u) ∧
    (∃ (k : Fin 256) (s : State), (s.kslot (Fin.val k)).dying = true) ∧
    (∃ (e : _) (s : State), s.key.nonce = some e) ∧
    (∃ (a : Instant) (f : Bool) (i : _) (s : State), ((s.advance a).occasion 15 0 f).1 = some i) ∧
    (∃ (a : Instant) (f : Bool) (s : State), ((s.advance a).occasion 15 0 f).1 = none) :=
  ⟨⟨State.reset, by decide⟩,
   ⟨255, shadow0 none, withShadow none, by decide⟩,
   ⟨255, shadow0 (some 5), 5, withShadow (some 5), by decide⟩,
   ⟨255, (withKey 255 0).updKslot 255 (fun x => { x with dying := true }), by decide⟩,
   ⟨⟨[], 5⟩, State.reset.setKeys (fun k => { k with nonce := some ⟨[], 5⟩ }), by decide⟩,
   ⟨0, true, false, State.reset, by decide⟩,
   ⟨0, false, State.reset, by decide⟩⟩

/-- What Obligations.MailboxCompletes assumes is met. -/
theorem witness_MailboxCompletes :
    (∀ op, Can op (fun _ => True) State.reset) ∧
    (∃ (k : Fin 64), Can 0x0F01 (fun n => n.mayWrite (Fin.val k) hostIdent = true ∧ (n.mchan k.val).full = false ∧ n.claimedByOther k.val
      hostIdent = false) State.reset) ∧
    (∃ (k : Fin 64) (s : State), Can 0x0F01 (fun n => n.mayWrite (Fin.val k) hostIdent = true ∧ ((n.mchan k.val).full = true ∨ n.claimedByOther
      k.val hostIdent = true)) s) ∧
    (∃ (k : Fin 64) (s : State), Can 0x0F02 (fun n => (n.mchan (Fin.val k)).full = true) s) ∧
    (∃ (k : Fin 64), Can 0x0F02 (fun n => (n.mchan (Fin.val k)).full = false) State.reset) ∧
    (∃ (k : Fin 64) (s : State), Can 0x0F03 (fun n => (n.mchan (Fin.val k)).full = true) s) ∧
    (∃ (k : Fin 64), Can 0x0F04 (fun n => n.rb (Reg.MBX_BIND (Fin.val k)) 31 = false) State.reset) ∧
    (∃ (k : Fin 64) (c : _) (s : State), (s.mchan (Fin.val k)).claim = some c) :=
  ⟨fun op => can_at_reset trivial,
   ⟨63, can_at_reset (by decide +kernel)⟩,
   ⟨63, State.reset.updMchan 63 (fun c => { c with full := true }), can_at (by decide) (by decide) (by decide) (by decide +kernel)⟩,
   ⟨63, State.reset.updMchan 63 (fun c => { c with full := true }), can_at (by decide) (by decide) (by decide) (by decide +kernel)⟩,
   ⟨63, can_at_reset (by decide +kernel)⟩,
   ⟨63, State.reset.updMchan 63 (fun c => { c with full := true }), can_at (by decide) (by decide) (by decide) (by decide +kernel)⟩,
   ⟨63, can_at_reset (by decide +kernel)⟩,
   ⟨63, ⟨0#12, 5, []⟩, State.reset.updMchan 63 (fun c => { c with claim := some ⟨0#12, 5, []⟩ }), by decide⟩⟩

/-- What Obligations.CascadeCommandsComplete assumes is met. -/
theorem witness_CascadeCommandsComplete :
    (∀ op, Can op (fun _ => True) State.reset) ∧
    (∃ (m : Fin 64) (s : State), Can 0x1001 (fun n => n.isHead = true ∧ n.cas.rejoin = none ∧ n.cas.formDue = none ∧ n.cas.absent.getLsbD
      (Fin.val m) = true) s) ∧
    (Can 0x1002 (fun n => n.isHead = true ∧ n.cas.rejoin = none ∧ n.cas.formDue = none) State.reset) :=
  ⟨fun op => can_at_reset trivial,
   ⟨63, State.reset.setCas (fun c => { c with absent := 0x8000000000000000#64 }), can_at (by decide) (by decide) (by decide) (by
     decide +kernel)⟩,
   can_at_reset (by decide +kernel)⟩

/-- What Obligations.CascadeEventsComplete assumes is met. -/
theorem witness_CascadeEventsComplete :
    (∃ (u : Nat) (s : State), s.cas.formDue = some u) ∧
    (∃ (s : State), s.isHead = true) ∧
    (∃ (s : State), s.inRing = true ∧ s.rb Reg.CAS_CTL 1 = true ∧ s.cas.skipping = false) ∧
    (∃ (s : State), s.inRing = true ∧ (s.rb Reg.CAS_CTL 1 = false ∨ s.cas.skipping = true)) ∧
    (∃ (s : State), s.cas.skipping = true ∧ s.isHead = true) ∧
    (∃ (s : State), s.cas.skipping = true ∧ s.isHead = false) ∧
    (∃ (s : State), s.cas.skipping = true) ∧
    (∃ (t : _) (s : State), s.cas.release = some t ∧ s.cas.rejoin = none) ∧
    (∃ (r : _) (s : State), s.cas.release = none ∧ s.cas.rejoin = some r ∧ r.trial = none) ∧
    (∃ (u : Nat) (s : State), s.cas.trial = some u) :=
  ⟨⟨5, State.reset.setCas (fun c => { c with formDue := some 5 }), by decide⟩,
   ⟨State.reset, by decide⟩,
   ⟨(State.reset.setReg Reg.CAS_CTL 2#32).setCas (fun c => { c with st := .formed }), by decide⟩,
   ⟨(State.reset.setReg Reg.CAS_CTL 0#32).setCas (fun c => { c with st := .closed }), by decide⟩,
   ⟨State.reset.setCas (fun c => { c with skipping := true }), by decide⟩,
   ⟨(State.reset.setCas (fun c => { c with skipping := true })).setAon (fun a => { a with cascHead := false }), by decide⟩,
   ⟨State.reset.setCas (fun c => { c with skipping := true }), by decide⟩,
   ⟨5, State.reset.setCas (fun c => { c with release := some 5 }), by decide⟩,
   ⟨⟨63, 0, 0#32, 5, none⟩, State.reset.setCas (fun c => { c with rejoin := some ⟨63, 0, 0#32, 5, none⟩ }), by decide⟩,
   ⟨5, State.reset.setCas (fun c => { c with trial := some 5 }), by decide⟩⟩

/-- What Obligations.MemoryCompletes assumes is met. -/
theorem witness_MemoryCompletes :
    (∀ op, Can op (fun _ => True) State.reset) ∧
    (∃ (o : Nat) (l : Nat), Can 0x1102 (fun _ => o + l ≤ hostSize ∧ l ≤ hdr0.bufLen) State.reset) ∧
    (∃ (o : Nat) (d : List Byte), Can 0x1103 (fun _ => o + d.length ≤ hostSize) State.reset) ∧
    (∃ (s : State), s.runs Isle.memory = true) :=
  ⟨fun op => can_at_reset trivial,
   ⟨hostSize - 1048576, 1048576, can_at_reset (by decide +kernel)⟩,
   ⟨hostSize - 1, [1#8], can_at_reset (by decide +kernel)⟩,
   ⟨State.reset, by decide⟩⟩

/-- What Obligations.FaultCommandsComplete assumes is met. -/
theorem witness_FaultCommandsComplete :
    (∀ op, Can op (fun _ => True) State.reset) ∧
    (∃ (s : State), Can 0x1301 (fun n => n.injAllowed = true) s) ∧
    (∃ (det : Fin 22) (tgt : Fin 65536) (par : Word) (sh : Nat) (de : Nat) (du : Nat) (i : _) (s : State), Can 0x1301 (fun n => n.injAllowed =
      true ∧ sh ≤ 0xFFFF ∧ de ≤ 0xFFFF ∧ du ≤ 0xFFFF ∧ selOk (put 4 0 (Fin.val det) ||| put 23 8 (Fin.val tgt)) par = true ∧ (upto 8).find? (fun i
      => (n.inj i).free) = some i) s) ∧
    (∃ (a : InjRawArgs) (s : State), Can 0x1380 (fun n => n.injAllowed = true ∧ bit a.ctl 31 = false) s) ∧
    (∃ (a : InjRawArgs) (s : State), Can 0x1380 (fun n => n.injAllowed = true ∧ bit a.ctl 31 = true ∧ selOk a.sel a.param = true ∧ (n.inj
      a.slot.val).free = true) s) :=
  ⟨fun op => can_at_reset trivial,
   ⟨injecting, can_at (by decide) (by decide) (by decide) (by decide +kernel)⟩,
   ⟨0, 0, 0#32, 65535, 65535, 65535, 0, injecting, can_at (by decide) (by decide) (by decide) (by decide +kernel)⟩,
   ⟨⟨7, 0#32, 0#32, 0#32, 0#32⟩, injecting, can_at (by decide) (by decide) (by decide) (by decide +kernel)⟩,
   ⟨⟨7, 0#32, 0x80000000#32, 0#32, 0#32⟩, injecting, can_at (by decide) (by decide) (by decide) (by decide +kernel)⟩⟩

/-- What Obligations.FaultEventsComplete assumes is met. -/
theorem witness_FaultEventsComplete :
    (∃ (s : State), s.injAllowed = true) ∧
    (∃ (s : State), s.injAllowed = true) ∧
    (∃ (i : Fin 8) (s : State), (s.inj (Fin.val i)).st = .armed ∧ (s.inj i.val).det ∉ [4, 5, 6, 16]) ∧
    (∃ (i : Fin 8) (s : State), (s.inj (Fin.val i)).st = .armed ∧ (s.inj i.val).det = 4) ∧
    (∃ (i : Fin 8) (s : State), (s.inj (Fin.val i)).st = .armed ∧ (s.inj i.val).det = 16) ∧
    (∃ (i : Fin 8) (s : State), (s.inj (Fin.val i)).st = .armed ∧ ((s.inj i.val).det = 5 ∨ (s.inj i.val).det = 6) ∧ s.runs (sramOwner (s.inj
      i.val).target) = true) ∧
    (∃ (i : Fin 8) (s : State), (s.inj (Fin.val i)).st = .firing ∧ (s.inj i.val).mode = .span) ∧
    (∃ (u : Nat) (s : State), s.flt.lastFire = some u) ∧
    (∃ (a : Instant) (i : Fin 23) (r : Bool) (b : _) (s : State), s.runs (Fin.val i) = true ∧ ((s.advance a).occasion 0 i.val r).1 = some b) ∧
    (∃ (a : Instant) (x : Fin 23) (y : Fin 23) (r : Bool) (b : _) (s : State), s.runs (Fin.val x) = true ∧ (Fin.val y) ≠ Isle.accord ∧
      ((s.advance a).occasion 1 x.val r).1 = some b) ∧
    (∃ (a : Instant) (x : Fin 23) (y : Fin 23) (r : Bool) (b : _) (s : State), s.runs (Fin.val x) = true ∧ (Fin.val y) = Isle.accord ∧
      ((s.advance a).occasion 1 x.val r).1 = some b) ∧
    (∃ (a : Instant) (n : Fin 8) (r : Bool) (b : _) (s : State), s.runs Isle.atomizer = true ∧ ((s.advance a).occasion 18 (Fin.val n) r).1 =
      some b) :=
  ⟨⟨injecting, by decide⟩,
   ⟨injecting, by decide⟩,
   ⟨7, ((State.reset.updInj 7 (fun x => { x with st := .armed, det := 0 }))), by decide⟩,
   ⟨7, ((State.reset.updInj 7 (fun x => { x with st := .armed, det := 4 }))), by decide⟩,
   ⟨7, ((State.reset.updInj 7 (fun x => { x with st := .armed, det := 16 }))), by decide⟩,
   ⟨7, ((State.reset.updInj 7 (fun x => { x with st := .armed, det := 6 }))), by decide⟩,
   ⟨7, State.reset.updInj 7 (fun x => { x with st := .firing, mode := .span }), by decide⟩,
   ⟨5, State.reset.setFlt (fun p => { p with lastFire := some 5 }), by decide⟩,
   ⟨0, 22, true, false, State.reset, by decide⟩,
   ⟨0, 22, 0, true, false, State.reset, by decide⟩,
   ⟨0, 22, ⟨Isle.accord, by decide⟩, true, false, State.reset, by decide⟩,
   ⟨0, 7, true, false, State.reset, by decide⟩⟩

/-- What Obligations.PairCommandsComplete assumes is met. -/
theorem witness_PairCommandsComplete :
    (∀ op, Can op (fun _ => True) State.reset) ∧
    (Can 0x1201 (fun n => n.pair.st = .unpaired ∧ n.pair.wants = false) State.reset) ∧
    (∃ (x : _) (s : State), Can 0x1202 (fun n => n.pair.st = .solo ∧ n.pair.peer = some x ∧ n.pair.lane = true ∧ x.sideB ≠ n.sideB ∧ (x.st =
      .listen ∨ x.st = .unverified)) s) ∧
    (∃ (s : State), Can 0x1203 (fun n => n.pair.st = .active ∧ n.peerStandby = true ∧ n.pair.swap = none ∧ (∀ x, n.pair.peer = some x → x.st ≠
      .unverified)) s) ∧
    (∃ (k : Nat), Can 0x1204 (fun _ => k ≤ 720) State.reset) ∧
    (∃ (h : Hdr) (g : _) (t : _) (s : State), Ready 0x1205 h s ∧ s.pair.st = .orphan ∧ s.pair.copy.phaseA = true ∧ t = (((s.turn 0x1205
      h).enterPair .solo 0 false).setPair (fun p => { p with copy := noCopy, restart := some (h.session, h.seq) })).startClaim.restartAllOf ∧
      (s.turn 0x1205 h).breaksLock t = false ∧ t.flight? h.session h.seq = some g) ∧
    (∃ (a : PairTuneArgs), Can 0x1280 (fun _ => outside 5 40 a.quiet = false ∧ outside 4 255 a.hbMiss = false ∧ outside 100 10000 a.ackUs =
      false ∧ outside 10 10000 a.checkMs = false) State.reset) :=
  ⟨fun op => can_at_reset trivial,
   can_at_reset (by decide +kernel),
   ⟨beat0 .listen true, inPair .solo .listen, can_at (by decide) (by decide) (by decide) (by decide +kernel)⟩,
   ⟨inPair .active .standby, can_at rfl (reset_runs _) rfl ⟨rfl, by decide, rfl, fun x h => by cases h; decide⟩⟩,
   ⟨720, can_at_reset (by decide +kernel)⟩,
   ⟨hdr0, flight0 0x1205, _, ((inPair .orphan .listen).setCopy (fun c => { c with phaseA := true })).atTurn 0x1205, ready_at rfl (reset_runs
     _), rfl, rfl, rfl, unlocked_breaks rfl _, by decide +kernel⟩,
   ⟨⟨some 40, some 255, some 100, some 10000⟩, can_at_reset (by decide +kernel)⟩⟩

/-- What Obligations.InterlockEventsComplete assumes is met. -/
theorem witness_InterlockEventsComplete :
    (∃ (s : State), s.pair.st.holds = true ∧ s.runs Isle.pair = true ∧ s.pair.wdTrip = none ∧ s.aon.causes = []) ∧
    (∃ (s : State), s.pair.driving = true) ∧
    (∃ (a : Instant) (r : Bool) (b : _) (s : State), s.pair.driving = true ∧ s.pair.ownSeen = true ∧ ((s.advance a).occasion 19 0 r).1 = some b) ∧
    (∃ (a : Instant) (n : _) (s : State), n = (s.advance a).setPair (fun p => { p with lineBusy := false }) ∧ s.pair.driving = false ∧
      s.pair.backoff = none ∧ s.runs Isle.pair = true ∧ (s.pair.st = .unverified ∨ (s.pair.st = .unpaired ∧ s.pair.wants = true) ∨ (s.pair.st =
      .standby ∧ ∀ u, s.pair.swap = some (.released u) → u ≤ n.up))) ∧
    (∃ (a : Instant) (n : _) (s : State), n = (s.advance a).setPair (fun p => { p with lineBusy := false }) ∧ s.pair.driving = false ∧ s.pair.st
      = .copyDst) ∧
    (∃ (a : Instant) (c : _) (s : State), s.pair.claim = some c ∧ (s.advance a).firing 19 0 = none) ∧
    (∃ (a : Instant) (c : _) (b : Bool) (n : _) (s : State), s.pair.claim = some c ∧ (b = false ∨ (s.advance a).firing 19 0 ≠ none) ∧ n =
      ((s.advance a).pairCount 9 1).setPair (fun p =>
      { p with driving := false, claim := none, backoff := some ((s.advance a).up + us (if s.sideB then 4 else 2)) })) ∧
    (∃ (u : Nat) (s : State), s.pair.backoff = some u) ∧
    (∃ (s : State), s.pair.wants = true ∧ s.pair.st = .unpaired) :=
  ⟨⟨inPair .active .standby, by decide⟩,
   ⟨State.reset.setPair (fun p => { p with driving := true }), by decide⟩,
   ⟨0, true, false, State.reset.setPair (fun p => { p with driving := true, ownSeen := true }), by decide⟩,
   ⟨0, _, inPair .unverified .listen, rfl, by decide, by decide, by decide, Or.inl (by decide)⟩,
   ⟨0, _, inPair .copyDst .copySrc, rfl, by decide, by decide⟩,
   ⟨0, 5, State.reset.setPair (fun p => { p with claim := some 5 }), by decide⟩,
   ⟨0, 5, false, _, State.reset.setPair (fun p => { p with claim := some 5 }), by decide, Or.inl rfl, rfl⟩,
   ⟨5, State.reset.setPair (fun p => { p with backoff := some 5 }), by decide⟩,
   ⟨State.reset.setPair (fun p => { p with wants := true }), by decide⟩⟩

/-- What Obligations.PeerLaneEventsComplete assumes is met. -/
theorem witness_PeerLaneEventsComplete :
    (∃ (s : State), s.runs Isle.pair = true) ∧
    (∃ (a : Instant) (b : Heartbeat) (t : _) (s : State), (s.advance a).occasion 17 1 (!b.crcOk) = (none, t) ∧ t.runs Isle.pair = true) ∧
    (∃ (a : Instant) (b : Heartbeat) (i : _) (t : _) (s : State), (s.advance a).occasion 17 1 (!b.crcOk) = (some i, t)) ∧
    (∃ (s : State), s.pair.lane = true) ∧
    (∃ (a : Instant) (l : InclusionList) (t : _) (s : State), (s.advance a).occasion 17 1 (!l.crcOk) = (none, t) ∧ t.runs Isle.pair = true) ∧
    (∃ (a : Instant) (t : _) (s : State), (s.advance a).occasion 17 1 false = (none, t) ∧ t.runs Isle.pair = true) ∧
    (∃ (a : Instant) (t : _) (s : State), (s.advance a).occasion 17 1 false = (none, t) ∧ t.runs Isle.pair = true) ∧
    (∃ (l : _) (s : State), s.firstOverdue = some l) ∧
    (∃ (a : Instant) (t : _) (s : State), (s.advance a).occasion 17 1 false = (none, t) ∧ t.runs Isle.pair = true) :=
  ⟨⟨State.reset, by decide⟩,
   ⟨0, beat0 .solo true, _, State.reset, rfl, by decide⟩,
   ⟨0, beat0 .solo false, _, _, State.reset, rfl⟩,
   ⟨inPair .solo .listen, by decide⟩,
   ⟨0, ⟨31, true, 0, 1#32, 0, 0#32, 0, 0, [], [], true⟩, _, State.reset, rfl, by decide⟩,
   ⟨0, _, State.reset, rfl, by decide⟩,
   ⟨0, _, State.reset, rfl, by decide⟩,
   ⟨⟨0, 0, 5⟩, State.reset.setAln (fun a => { a with lists := [⟨1, 0, 6⟩, ⟨0, 0, 5⟩] }), by decide⟩,
   ⟨0, _, State.reset, rfl, by decide⟩⟩

/-- What Obligations.CopyAndSwapEventsComplete assumes is met. -/
theorem witness_CopyAndSwapEventsComplete :
    (∃ (s : State), s.pair.copy.phase = 1 ∧ s.pair.st = .copySrc) ∧
    (∃ (s : State), s.pair.copy.phase = 1 ∧ s.pair.st = .copyDst) ∧
    (∃ (t : _) (s : State), s.pair.st = .copySrc ∧ s.pair.copy.tCut = some t) ∧
    (∃ (s : State), s.pair.copy.phase = 2 ∧ s.pair.st = .copyDst) ∧
    (∃ (a : Instant) (t : _) (s : State), s.pair.copy.phase = 2 ∧ s.pair.st = .copySrc ∧ s.pair.copy.tCut = some t ∧ t ≤ (s.advance a).now) ∧
    (∃ (a : Instant) (s : State), s.pair.copy.phase = 3 ∧ (s.advance a).allLive = true ∧ s.pair.st = .copySrc) ∧
    (∃ (a : Instant) (s : State), s.pair.copy.phase = 3 ∧ (s.advance a).allLive = true ∧ s.pair.st = .copyDst) ∧
    (∃ (u : Nat) (s : State), s.pair.st = .copySrc ∧ s.pair.copy.due = some u) ∧
    (∃ (s : State), s.pair.st = .active ∧ s.pair.swap = some .draining ∧ s.speakingFrames = false) ∧
    (∃ (u : Nat) (s : State), s.pair.swap = some (.checking u) ∧ s.pair.st = .active ∧ (s.advanceUp u).swapFails = false) ∧
    (∃ (a : Instant) (u : Nat) (s : State), s.pair.swap = some (.checking u) ∧ s.pair.st = .active ∧ (s.advance a).swapFails = true) ∧
    (∃ (t : _) (s : State), s.nextSwap = some t ∧ s.pair.st = .active ∧ s.peerStandby = true ∧ s.pair.swap = none) :=
  ⟨⟨(inPair .copySrc .copyDst).setCopy (fun c => { c with phase := 1 }), by decide⟩,
   ⟨(inPair .copyDst .copySrc).setCopy (fun c => { c with phase := 1 }), by decide⟩,
   ⟨5, (inPair .copySrc .copyDst).setCopy (fun c => { c with tCut := some 5 }), by decide⟩,
   ⟨(inPair .copyDst .copySrc).setCopy (fun c => { c with phase := 2 }), by decide⟩,
   ⟨5, 5, (inPair .copySrc .copyDst).setCopy (fun c => { c with phase := 2, tCut := some 5 }), by decide⟩,
   ⟨0, (inPair .copySrc .copyDst).setCopy (fun c => { c with phase := 3 }), by decide⟩,
   ⟨0, (inPair .copyDst .copySrc).setCopy (fun c => { c with phase := 3 }), by decide⟩,
   ⟨5, (inPair .copySrc .copyDst).setCopy (fun c => { c with due := some 5 }), by decide⟩,
   ⟨(inPair .active .standby).setPair (fun p => { p with swap := some .draining }), by decide⟩,
   ⟨5, (inPair .active .standby).setPair (fun p => { p with swap := some (.checking 5) }), by decide⟩,
   ⟨0, 5, (inPair .active .standby).setPair (fun p => { p with swap := some (.checking 5), swapBad := true }), by decide⟩,
   ⟨sec 3600, ((inPair .active .standby).setReg Reg.PAIR_SWAP_CTL 1#32).setPair (fun p => { p with lastSwap := some 0 }), by decide⟩⟩

/-- What Obligations.PowerCommandsComplete assumes is met. -/
theorem witness_PowerCommandsComplete :
    (∀ op, Can op (fun _ => True) State.reset) ∧
    (∃ (m : PwrMode), Can 0x0101 (fun n => n.aon.trans = none ∧ commandable n.aon.mode m = true ∧ (m = .run ∨ n.pair.st = .unpaired ∨ n.pair.st
      = .listen ∨ n.pair.st = .orphan) ∧ (m = .dormant → n.canWake = true)) State.reset) ∧
    (∃ (c : Option Nat) (f : List (Fin 23 × Nat)), Can 0x0180 (fun _ => (∀ w, c = some w → 30 ≤ w ∧ w ≤ 65) ∧ ∀ p ∈ f, 800 ≤ p.2 ∧ p.2 ≤ 1600)
      State.reset) :=
  ⟨fun op => can_at_reset trivial,
   ⟨.ready, can_at_reset (by decide +kernel)⟩,
   ⟨some 65, [(22, 800), (0, 1600)], can_at_reset ⟨fun _ h => by cases h; decide, by decide⟩⟩⟩

/-- What Obligations.PowerStateEventsComplete assumes is met. -/
theorem witness_PowerStateEventsComplete :
    (∃ (a : Instant) (c : Int) (t : _) (s : State), (s.aon.vinOk && s.aon.vioOk) = false ∧ t = ((if s.aon.mode = .off then s.advance a else
      (s.advance a).powerDown).setAon (fun x => { x with vinOk := true, vioOk := true, temp := c })).dropCause 0 ∧ t.aon.offHeld = false ∧
      (t.aon.hotOff = false ∨ c < 95)) ∧
    (∃ (t : _) (s : State), s.aon.trans = some t ∧ t.cold = true ∧ s.aon.vinOk = true ∧ s.aon.vioOk = true) ∧
    (∃ (s : State), s.aon.mode ≠ .off) ∧
    (∃ (w : Nat) (s : State), 10000 ≤ w ∧ (s.aon.mode = .run ∨ s.aon.mode = .ready)) ∧
    (∃ (w : Nat) (s : State), 10000 ≤ w ∧ s.aon.mode = .dormant) ∧
    (∃ (w : Nat), w < 1000) ∧
    (∃ (s : State), s.isHead = true ∧ s.aon.perstLow = false ∧ (s.aon.mode = .run ∨ s.aon.mode = .ready)) ∧
    (∃ (a : Instant) (t : _) (s : State), s.isHead = true ∧ s.aon.perstLow = true ∧ t = ((s.advance a).setAon (fun x =>
      { x with perstLow := false })).resetRegs (fun r => blockOf r == 14)) ∧
    (∃ (s : State), s.rb Reg.AON_CTL 0 = true) ∧
    (∃ (m : Fin 2) (f : WakeFrame) (u : Nat) (s : State), s.aon.dormantAt = some u ∧ s.aon.mode = .dormant ∧ s.aon.trans = none ∧ (s.port (8 +
      Fin.val m)).wakeable = true ∧ (upto 8).filter (fun k => s.wakeMatches m.val k f) ≠ []) ∧
    (∃ (a : Instant) (t : _) (s : State), s.aon.trans = some t ∧ t.cold = false ∧ (s.advance a).waitsOver t = true) ∧
    (∃ (p : TestPort), p.held = false) ∧
    (∃ (p : TestPort), p.held = true) ∧
    (∃ (p : TestPort) (l : TestLand), p.drives l = true) :=
  ⟨⟨0, 0, _, State.reset.setAon (fun a => { a with mode := .off, vinOk := false, trans := none }), by decide, rfl, by decide, Or.inl (by
     decide)⟩,
   ⟨⟨.run, 0, true, none, []⟩, State.reset.setAon (fun a => { a with trans := some ⟨.run, 0, true, none, []⟩ }), by decide⟩,
   ⟨State.reset, by decide⟩,
   ⟨10000, State.reset, by decide⟩,
   ⟨10000, State.reset.setAon (fun a => { a with mode := .dormant }), by decide⟩,
   ⟨999, by decide⟩,
   ⟨State.reset, by decide⟩,
   ⟨0, _, State.reset.setAon (fun a => { a with perstLow := true }), by decide, by decide, rfl⟩,
   ⟨State.reset.setReg Reg.AON_CTL 1#32, by decide⟩,
   ⟨1, ⟨true, 64, [0xAB#8]⟩, 5, (((State.reset.setReg (wakeMaskReg 1 7 0) 1#32).setReg (wakeCrcReg 1 7) (0x80000000#32 ||| put 15 0 (crc16
     [0xAB#8]))).setAon (fun a => { a with mode := .dormant, dormantAt := some 5 })).updPort 9 (fun x => { x with wakeable := true }), by decide⟩,
   ⟨0, ⟨.ready, 0, false, some (0, 0#32), []⟩, State.reset.setAon (fun a => { a with trans := some ⟨.ready, 0, false, some (0, 0#32), []⟩ }),
     by decide⟩,
   ⟨⟨false, .bypass⟩, by decide⟩,
   ⟨⟨true, .bypass⟩, by decide⟩,
   ⟨⟨false, .extest⟩, .other, by decide⟩⟩

/-- What Obligations.IslandHealthEventsComplete assumes is met. -/
theorem witness_IslandHealthEventsComplete :
    (∃ (a : Instant) (c : Int) (s : State), s.aon.mode ≠ .off ∧ c ≤ 103 ∧ (s.advance a).firing 12 0 = none) ∧
    (∃ (a : Instant) (c : Int) (t : _) (s : State), s.aon.mode ≠ .off ∧ 103 < c ∧ (s.advance a).firing 12 0 = none ∧ t = ((((((s.advance
      a).occasion 12 0 true).2.setAon (fun x => { x with temp := c })).setRb Reg.AON_STAT 0 true).count Reg.AON_HOT 1).vector 22).detect 12 false
      (c : Rat) [word c.toNat]) ∧
    (∃ (a : Instant) (i : Fin 23) (r : Bool) (b : _) (l : _) (t : _) (s : State), s.runs (Fin.val i) = true ∧ ((s.advance a).occasion 2 i.val
      r).1 = some b ∧ l = ((lookup s.aon.wdTimes i.val).getD []).filter (fun u => decide ((s.advance a).up < u + sec 10)) ++ [(s.advance a).up] ∧
      t = (((((s.advance a).occasion 2 i.val r).2.watchdogReset i.val b).setAon (fun x => { x with wdTimes := setKey x.wdTimes i.val l })).count
      Reg.AON_WD_EXPIRE 1).detect 2 b 0 [word i.val]) ∧
    (∃ (a : Instant) (i : Fin 6) (r : Bool) (b : _) (s : State), s.aon.mode ≠ .off ∧ ((s.advance a).occasion 11 (Fin.val i) r).1 = some b) ∧
    (∃ (a : Instant) (i : Fin 23) (r : Bool) (b : _) (s : State), s.runs (Fin.val i) = true ∧ ((s.advance a).occasion 13 i.val r).1 = some b) ∧
    (∃ (a : Instant) (i : Fin 23) (r : Bool) (b : _) (t : _) (s : State), s.runs (Fin.val i) = true ∧ ((s.advance a).occasion 10 i.val r).1 =
      some b ∧ t = ((s.advance a).occasion 10 i.val r).2.detect 10 b 0 [word i.val]) ∧
    (∃ (i : Fin 23) (u : Nat) (f : _) (s : State), (s.aon.stretch[Fin.val i]?).getD none = some (u, f)) ∧
    (∃ (s : State), s.aon.mode ≠ .off) ∧
    (∃ (u : Nat) (s : State), s.aon.comp.readDue = some u ∧ s.aon.comp.present = true) ∧
    (∃ (u : Nat) (s : State), s.aon.comp.warmDue = some u) :=
  ⟨⟨0, 103, State.reset, by decide⟩,
   ⟨0, 116, _, State.reset, by decide, by decide, by decide, rfl⟩,
   ⟨0, 22, true, false, _, _, State.reset, by decide, rfl, rfl, rfl⟩,
   ⟨0, 5, true, false, State.reset, by decide⟩,
   ⟨0, 22, true, false, State.reset, by decide⟩,
   ⟨0, 22, true, false, _, State.reset, by decide, rfl, rfl⟩,
   ⟨22, 5, 1600, State.reset.setAon (fun a => { a with stretch := updAt a.stretch 22 (fun _ => some (5, 1600)) }), by decide⟩,
   ⟨State.reset, by decide⟩,
   ⟨5, State.reset.setAon (fun a => { a with comp := { a.comp with present := true, readDue := some 5 } }), by decide⟩,
   ⟨5, State.reset.setAon (fun a => { a with comp := { a.comp with warmDue := some 5 } }), by decide⟩⟩

/-- What Obligations.StepTakesOneCommand assumes is met. -/
theorem witness_StepTakesOneCommand :
    ∃ t, { State.reset with pending := [.fetchEnable 0, .heartbeatFeed 5] }.pending = [.fetchEnable 0, .heartbeatFeed 5] ∧
      step { State.reset with pending := [.fetchEnable 0, .heartbeatFeed 5] } = .next t := ⟨_, rfl, rfl⟩


/-- What Obligations.PartsOutsideTheFootprintStay assumes is met, by a command and by an event. -/
theorem witness_PartsOutsideTheFootprintStay :
    (∃ t, exec (.fetchEnable 0) State.reset = .next t ∧ Part.ports ∉ footprint (.fetchEnable 0)) ∧
    (∃ t, exec (.capForce hdr0 3) State.reset = .next t ∧ Part.osc ∉ footprint (.capForce hdr0 3)) :=
  ⟨⟨_, rfl, by decide⟩, ⟨_, rfl, by decide⟩⟩


/-- What Obligations.HostAreaStaysElsewhere assumes is met, just past the bytes that a command writes. -/
theorem witness_HostAreaStaysElsewhere :
    ∃ t, exec (.memHostWrite hdr0 64 [1#8]) State.reset = .next t ∧ mayLose (.memHostWrite hdr0 64 [1#8]) = false ∧
      writesAt (.memHostWrite hdr0 64 [1#8]) 65 = false := ⟨_, rfl, rfl, rfl⟩


/-- A module whose session 0 has recorded seq 0. -/
def recorded (x : Cached) : State :=
  ((State.reset.setReg Reg.CMD_CTL 1#32).setReg Reg.CMD_SQ_TAIL 1#32).updSession 0 (fun s => { s with opened := true, window := [x] })

/-- What Obligations.DuplicateIsNotExecutedAgain assumes is met, with a reply kept, with none yet, and with none asked for. -/
theorem witness_DuplicateIsNotExecutedAgain :
    ∀ x ∈ [(⟨0#32, false, some (0, [])⟩ : Cached), ⟨0#32, false, none⟩, ⟨0#32, true, none⟩],
      commandOf (.cmdEcho hdr0 []) = some (0x0E06, hdr0) ∧ hdr0.via = .host ∧ hdr0.tag ≤ 255 ∧
      ((recorded x).advance hdr0.at_).executable 0x0E06 hdr0 = none ∧ ((recorded x).session hdr0.session).opened = true ∧
      ((recorded x).session hdr0.session).find hdr0.seq = some x ∧
      (x.noReply = false → (recorded x).fetchable = true ∧ (recorded x).roomFor 0x0E06 hdr0 = true ∧ hdr0.noReply = false) := by
  decide +kernel


/-- What Obligations.FailedCommandsChangeNothing assumes is met: a lock nobody holds is not released, and an injection is refused and counted. -/
theorem witness_FailedCommandsChangeNothing :
    (commandOf (.lockRelease hdr0 0) = some (0x0E04, hdr0) ∧ ∃ words t, Ready 0x0E04 hdr0 (State.reset.atTurn 0x0E04) ∧
      bodyLockRelease hdr0.session 0 ((State.reset.atTurn 0x0E04).advance 0) = .done St.STATE words t ∧ tookEffect St.STATE = false) ∧
    (commandOf (.inject hdr0 (.disarm 0)) = some (0x1301, hdr0) ∧ ∃ words t, Ready 0x1301 hdr0 (State.reset.atTurn 0x1301) ∧
      bodyInject hdr0 (.disarm 0) ((State.reset.atTurn 0x1301).advance 0) = .done St.INJECT_DENIED words t ∧ tookEffect St.INJECT_DENIED = false) :=
  ⟨⟨rfl, _, _, ready_at rfl (reset_runs _), rfl, rfl⟩, ⟨rfl, _, _, ready_at rfl (reset_runs _), rfl, rfl⟩⟩


/-- A module whose bulk-memory block is locked. -/
def lockedMem : State := (State.reset.setReg Reg.MEM_CTL 0x80000000#32).atTurn 0x1101

/-- What Obligations.LockedEffectFails assumes is met: MEM_TICKETS behind the lock of bulk memory. -/
theorem witness_LockedEffectFails :
    ∃ (mir : Bool) (body : State → Res) (t : State) (words : List Word),
      (∀ u, exec (.memTickets hdr0 .captureFirst) u = .next (runCmdAs mir 0x1101 hdr0 body u)) ∧ Ready 0x1101 hdr0 lockedMem ∧
      body (lockedMem.advance 0) = .done 0 words t ∧ tookEffect 0 = true ∧ (lockedMem.advance 0).breaksLock t = true :=
  ⟨_, _, _, _, fun _ => rfl, ready_at rfl (reset_runs _), rfl, rfl, by decide +kernel⟩


/-- A module in Ready. -/
def inReady : State := State.reset.setAon (fun a => { a with mode := .ready })

/-- What Obligations.ReadyExecutesItsOwnOpcodes assumes is met: CAP_FORCE in Ready. -/
theorem witness_ReadyExecutesItsOwnOpcodes :
    commandOf (.capForce hdr0 3) = some (0x0B05, hdr0) ∧ inReady.aon.mode = .ready ∧ inReady.aon.imageFail = false ∧
    0x0B05 ∉ [0x0000, 0x0001, 0x0100, 0x0103, 0x0101, 0x0102, 0x0200, 0x0300, 0x1000] ∧ 0x0B05 / 256 ≠ 0x0E ∧
    ((inReady.atTurn 0x0B05).advance 0).executable 0x0B05 hdr0 = some (flight0 0x0B05) ∧ (flight0 0x0B05).via ≠ .peer ∧
    (flight0 0x0B05).st = .mirrored := by decide +kernel


/-- What Obligations.FineTimeIsTheNanosecondCount assumes is met at the greatest fraction, and the fine time there. -/
theorem witness_FineTimeIsTheNanosecondCount : (65535 : Nat) < 65536 ∧ fineOf (sec 1099 + ns 511627776) = 0 ∧ fineOf (sec 1099 + ns 511627775) = 2 ^ 40 - 1 := by
  decide

/-- What the second part of Obligations.FineTimeIsTheNanosecondCount assumes is met at the ends of the range. -/
theorem witness_FineTimeIsTheNanosecondCount_difference :
    ((2 ^ 39 - 1 : Nat) : Int) - (0 : Nat) < 2 ^ 39 ∧ ((0 : Nat) : Int) - (2 ^ 39 - 1 : Nat) < 2 ^ 39 ∧
    fineDiff (fineOf (ns (2 ^ 39 - 1))) (fineOf (ns 0)) = 2 ^ 39 - 1 := by decide

/-- A module whose converters run, with TDC5 blind until an uptime. -/
def converting (blind : Nat) : State :=
  ((State.reset.setReg Reg.TB_CTL 8#32).setReg Reg.CAP_TRIGIN_CTL 64#32).setTime (fun t => { t with tdc := updAt t.tdc 5 (fun x => { x with blind := blind }) })

/-- What Obligations.ConvertersStampEdges assumes is met, for an edge within the blind time, for one just past it, and at TDC3. -/
theorem witness_ConvertersStampEdges :
    (∀ b ∈ [0, 1], (converting b).Canonical) ∧ ((converting 1).advance 0).runs Isle.fixative = true ∧
    ((converting 1).advance 0).rb Reg.TB_CTL 3 = true ∧ (4 : Nat) ≤ 5 ∧ ((converting 1).advance 0).up < (((converting 1).advance 0).tdcOf 5).blind ∧
    (((converting 0).advance 0).tdcOf 5).blind ≤ ((converting 0).advance 0).up ∧
    (((converting 0).advance 0).trigLevel 3 true).edgeSelected 3 true = true := by
  refine ⟨?_, by decide, by decide, by decide, by decide, by decide, by decide⟩
  unfold State.Canonical
  decide


/-- What Obligations.TxtsReadTakesTheOldest assumes is met, with an entry and with none. -/
theorem witness_TxtsReadTakesTheOldest :
    State.reset.Canonical ∧ (State.reset.time.txts[9]?).getD [] = [] ∧
    (∃ s : State, s.Canonical ∧ s.time.txts[9]? = some (⟨5#16, 0, true⟩ :: [])) :=
  ⟨⟨rfl, rfl, rfl⟩, rfl, State.reset.setTime (fun t => { t with txts := updAt t.txts 9 (fun _ => [⟨5#16, 0, true⟩]) }),
    (by unfold State.Canonical; decide +kernel), by decide⟩


/-- What Obligations.MailboxW15ReadEmptiesTheChannel assumes is met, of an empty channel and of a full one. -/
theorem witness_MailboxW15ReadEmptiesTheChannel :
    (State.reset.mchan 63).full = false ∧
    (∃ s : State, (s.mchan 63).full = true ∧ s.mbx.waiters = []) :=
  ⟨rfl, State.reset.updMchan 63 (fun c => { c with full := true }), rfl, rfl⟩


theorem injAllowed_atTurn (s : State) (op : Nat) (t : Instant) : ((s.atTurn op).advance t).injAllowed = s.injAllowed := rfl

/-- What Obligations.InjectionNeedsItsEnable assumes is met at both ends of the injection registers. -/
theorem witness_InjectionNeedsItsEnable :
    (∀ op, Ready op hdr0 (State.reset.atTurn op) ∧ ((State.reset.atTurn op).advance hdr0.at_).injAllowed = false) ∧
    (∀ a ∈ [0x130100#32, 0x1301FC#32], [(a, 0#32)].length ≤ 503 ∧
      ∃ p ∈ [(a, 0#32)], 0x130100 ≤ (Prod.fst p : Word).toNat ∧ p.1.toNat < 0x130200) := by
  refine ⟨fun op => ⟨ready_at rfl (reset_runs op), (injAllowed_atTurn _ _ _).trans ?_⟩, ?_⟩
  · decide
  · simp

/-- What Obligations.FixativeResetStartsTimeAtZero assumes is met. -/
theorem witness_FixativeResetStartsTimeAtZero : State.reset.time.servo ≠ .locked := by decide

/-- What Obligations.StepKeepsCanonicalForms assumes is met. -/
theorem witness_StepKeepsCanonicalForms : State.Canonical State.reset ∧ step State.reset = .next State.reset := ⟨⟨rfl, rfl, rfl⟩, rfl⟩



end Sys2Proof.Machine
end

section
/-! PROOFS. The statements of the family of the scope: the commands of the command block and the words of a header (O3), and what a set lock
does to an effect (O53). -/

namespace Sys2Proof.Machine

/-! ### An effect that a lock forbids (R579) -/

/-- The outcome of an effect that is done and breaks a lock is STATE, on the module as it was; REG_WRITE and ISLAND_RESET are not guarded. -/
theorem State.outcome_breaksLock {s t : State} {op : Nat} {h : Hdr} {body : State → Res} {st : Nat} {words : List Word}
    (ho : s.opcodeRuns op = true) (hf : h.form = .good) (he : h.epoch = none ∨ h.epoch = some s.time.epoch)
    (hb : body s = .done st words t) (hw : op ≠ 0x0081) (hi : op ≠ 0x0181) (ht : tookEffect st = true) (hl : s.breaksLock t = true) :
    s.outcome op h body = refuse St.STATE s := by
  unfold State.outcome
  simp [ho, hf, epochCheck_pass he, hb, guardLocks, ht, hw, hi, hl]

/-- A command at its turn whose outcome is refused ends with that status, and the module is as it was at the command's instant. -/
theorem runCmdAs_refused {mir : Bool} {op : Nat} {h : Hdr} {body : State → Res} {s : State} {st : Nat} (r : Ready op h s)
    (ho : (s.turn op h).outcome op h body = refuse st (s.turn op h)) :
    runCmdAs mir op h body s = (s.advance h.at_).complete h.session h.seq st [] := by
  obtain ⟨⟨f, hx, hv, hg⟩, -⟩ := r
  obtain ⟨hsession, hseq⟩ := State.executable_is hx
  rw [runCmdAs_finish hx hv hg, ho]
  simp only [refuse, Res.put, State.finish, hsession, hseq, State.returned_turn]

/-- Settles O53: the lock guard turns the effect's outcome into a refusal, and a refused command changes nothing. -/
theorem lockedEffectFails : Obligations.LockedEffectFails := by
  intro c op h mir body s t st words hexec hw hi hr hb ht hl
  have ho : (s.turn op h).outcome op h body = refuse St.STATE (s.turn op h) := by
    obtain ⟨-, hruns, hform, hepoch⟩ := hr
    obtain ⟨-, -, -, hsame⟩ := State.turn_same (s := s) (op := op) (h := h)
    rw [← hsame] at hepoch
    exact State.outcome_breaksLock (State.turn_opcodeRuns.trans hruns) hform hepoch hb hw hi ht hl
  rw [hexec, runCmdAs_refused hr ho]

/-! ### The lock service (R433, R434) -/

theorem leaseOk_of_range {d : Nat} (hlo : 10 ≤ d) (hhi : d ≤ 60000) : leaseOk d = true := by simp [leaseOk, hlo, hhi]

/-- A session that holds only locks below `n` acquires `n` in increasing order. -/
theorem acquires_in_order {l : List Nat} {n : Nat} (h : ∀ m ∈ l, m < n) : l.any (fun m => decide (n ≤ m)) = false := by
  simpa [List.any_eq_false] using h

theorem bodyLockAcquire_free {s : State} {h : Hdr} {n : Fin 32} {d : Nat} {w : Bool} (hlo : 10 ≤ d) (hhi : d ≤ 60000)
    (hord : ∀ m ∈ s.locksOf h.session, m < n.val) (hfree : (s.lock n.val).owner = none) :
    bodyLockAcquire h n d w s = .done (if (s.lock n.val).broken then St.LOCK_BROKEN else St.OK) [] (s.grant n.val h.session d).2 := by
  simp [bodyLockAcquire, leaseOk_of_range hlo hhi, acquires_in_order hord, hfree, State.grant]

theorem bodyLockAcquire_held {s : State} {h : Hdr} {n : Fin 32} {d : Nat} (hlo : 10 ≤ d) (hhi : d ≤ 60000)
    (hord : ∀ m ∈ s.locksOf h.session, m < n.val) (hheld : (s.lock n.val).owner ≠ none) :
    bodyLockAcquire h n d true s = .waiting (s.updLock n.val (fun l => { l with queue := l.queue ++ [⟨h.session, h.seq, d⟩] })) := by
  simp [bodyLockAcquire, leaseOk_of_range hlo hhi, acquires_in_order hord, Option.isSome_iff_ne_none.mpr hheld]

theorem bodyLockRenew_owner {s : State} {o : Fin 4} {n : Fin 32} {d : Nat} (hlo : 10 ≤ d) (hhi : d ≤ 60000)
    (ho : (s.lock n.val).owner = some o) : bodyLockRenew o n d s = ok [] (s.updLock n.val (fun l => { l with due := s.up + ms d })) := by
  simp [bodyLockRenew, leaseOk_of_range hlo hhi, ho]

theorem bodyLockRelease_owner {s : State} {o : Fin 4} {n : Fin 32} (ho : (s.lock n.val).owner = some o) :
    bodyLockRelease o n s = ok [] ((s.updLock n.val (fun l => { l with owner := none, broken := false })).passLock n.val) := by
  simp [bodyLockRelease, ho]

/-- A free lock is granted at once, with LOCK_BROKEN where its last owner lost it. -/
theorem lockAcquire_grants {h : Hdr} {n : Fin 32} {d : Nat} {w : Bool} {s : State} (r : Ready 0x0E02 h s) (hlo : 10 ≤ d) (hhi : d ≤ 60000)
    (hord : ∀ m ∈ (s.turn 0x0E02 h).locksOf h.session, m < n.val) (hfree : ((s.turn 0x0E02 h).lock n.val).owner = none)
    (hl : (s.turn 0x0E02 h).breaksLock ((s.turn 0x0E02 h).grant n.val h.session d).2 = false) :
    exec (.lockAcquire h n d w) s = .next ((s.returned 0x0E02 h ((s.turn 0x0E02 h).grant n.val h.session d).2).complete h.session h.seq
      (if ((s.turn 0x0E02 h).lock n.val).broken then St.LOCK_BROKEN else St.OK) []) :=
  congrArg Host.Outcome.next
    (runCmdAs_done r (bodyLockAcquire_free hlo hhi hord hfree) (Or.inr (Or.inr (Or.inr hl))))

/-! ### CMD_TUNE (R428, R437) -/

theorem someIn_of_range {lo hi : Nat} {o : Option Nat} (h : ∀ v, o = some v → lo ≤ v ∧ v ≤ hi) : someIn lo hi o = true := by
  cases o with
  | none => rfl
  | some v => simpa [someIn] using h v rfl

/-- The settings that CMD_TUNE names, set. -/
def State.cmdTuned (s : State) (a : CmdTuneArgs) : State :=
  let t := s.setCmd (fun c => { c with defTimeout := a.defTimeoutMs.getD c.defTimeout })
  let t := (a.coalCnt.map (t.setRf Reg.CMD_INT_COAL 7 0)).getD t
  (a.coalUs.map (t.setRf Reg.CMD_INT_COAL 25 16)).getD t

theorem bodyCmdTune_inRange {a : CmdTuneArgs} {s : State} (hdef : ∀ v, a.defTimeoutMs = some v → 1 ≤ v ∧ v ≤ 600000)
    (hcnt : ∀ v, a.coalCnt = some v → 1 ≤ v ∧ v ≤ 255) (hus : ∀ v, a.coalUs = some v → v ≤ 1000) :
    bodyCmdTune a s = ok [] (s.cmdTuned a) := by
  have hus0 : ∀ v, a.coalUs = some v → 0 ≤ v ∧ v ≤ 1000 := fun v e => ⟨v.zero_le, hus v e⟩
  obtain ⟨def?, cnt?, us?⟩ := a
  simp only [bodyCmdTune, someIn_of_range hdef, someIn_of_range hcnt, someIn_of_range hus0]
  cases def? <;> cases cnt? <;> cases us? <;> rfl

/-! ### The words of a header (Table 14-1) -/

/-- A field that holds the bits of a number that fits it reads that number. -/
theorem fld_eq_of_bits {w : Word} {hi lo v : Nat} (hv : v < 2 ^ (hi + 1 - lo))
    (h : ∀ i, i < hi + 1 - lo → w.getLsbD (lo + i) = v.testBit i) : fld w hi lo = v := by
  apply Nat.eq_of_testBit_eq
  intro i
  rw [testBit_fld]
  by_cases hin : i < hi + 1 - lo
  · simp [hin, h i hin]
  · have hhigh : v.testBit i = false := Nat.testBit_lt_two_pow (Nat.lt_of_lt_of_le hv (Nat.pow_le_pow_right (by decide) (by omega)))
    simp [hin, hhigh]

theorem word_toNat {n : Nat} (h : n < 2 ^ 32) : (word n).toNat = n := Nat.mod_eq_of_lt h

/-- A 64-bit number is spelt by its low word and its high word. -/
theorem toNat_word_low_high {n : Nat} (h : n < 2 ^ 64) : (word n).toNat + (word (n / 2 ^ 32)).toNat * 2 ^ 32 = n := by
  rw [word_toNat (n := n / 2 ^ 32) (by omega)]
  simp only [word, BitVec.toNat_ofNat]
  omega

/-- The bits of word 0 of a header: the opcode and the three flags. -/
theorem getLsbD_word0 (op i : Nat) (e c r : Bool) :
    (put 15 0 op ||| putBit 16 e ||| putBit 17 c ||| putBit 18 r).getLsbD i =
      (decide (i ≤ 15) && op.testBit i || e && decide (i = 16) || c && decide (i = 17) || r && decide (i = 18)) := by
  simp [getLsbD_put, getLsbD_putBit]

/-- The bits of word 1 of a header: the tag, the session and the target. -/
theorem getLsbD_word1 (tag session target i : Nat) :
    (put 15 0 tag ||| put 17 16 session ||| put 29 24 target).getLsbD i =
      (decide (i ≤ 15) && tag.testBit i || (decide (16 ≤ i) && decide (i ≤ 17) && session.testBit (i - 16)) ||
        (decide (24 ≤ i) && decide (i ≤ 29) && target.testBit (i - 24))) := by
  simp [getLsbD_put]

section
variable (h : Hdr) (op : Nat)

theorem Hdr.length_words : (h.words op).length = 16 := rfl

theorem Hdr.opcode_words (ho : op < 2 ^ 16) : fld (wordAt (h.words op) 0) 15 0 = op :=
  fld_eq_of_bits ho fun i hi => by
    refine (getLsbD_word0 op (0 + i) h.expert h.casc h.noReply).trans ?_
    simp [show i ≤ 15 by omega, show i ≠ 16 by omega, show i ≠ 17 by omega, show i ≠ 18 by omega]

theorem Hdr.expert_words : bit (wordAt (h.words op) 0) 16 = h.expert :=
  (getLsbD_word0 op 16 h.expert h.casc h.noReply).trans (by simp)

theorem Hdr.casc_words : bit (wordAt (h.words op) 0) 17 = h.casc :=
  (getLsbD_word0 op 17 h.expert h.casc h.noReply).trans (by simp)

theorem Hdr.noReply_words : bit (wordAt (h.words op) 0) 18 = h.noReply :=
  (getLsbD_word0 op 18 h.expert h.casc h.noReply).trans (by simp)

theorem Hdr.tag_words (ht : h.tag < 2 ^ 16) : fld (wordAt (h.words op) 1) 15 0 = h.tag :=
  fld_eq_of_bits ht fun i hi => by
    refine (getLsbD_word1 h.tag h.session.val h.target.val (0 + i)).trans ?_
    simp [show i ≤ 15 by omega, show ¬ 16 ≤ i by omega, show ¬ 24 ≤ i by omega]

theorem Hdr.session_words : fld (wordAt (h.words op) 1) 17 16 = h.session.val :=
  fld_eq_of_bits h.session.isLt fun i hi => by
    refine (getLsbD_word1 h.tag h.session.val h.target.val (16 + i)).trans ?_
    simp [show ¬ 16 + i ≤ 15 by omega, show 16 + i ≤ 17 by omega, show ¬ 24 ≤ 16 + i by omega]

theorem Hdr.target_words : fld (wordAt (h.words op) 1) 29 24 = h.target.val :=
  fld_eq_of_bits h.target.isLt fun i hi => by
    refine (getLsbD_word1 h.tag h.session.val h.target.val (24 + i)).trans ?_
    simp [show ¬ 24 + i ≤ 15 by omega, show ¬ 24 + i ≤ 17 by omega, show 24 + i ≤ 29 by omega]

/-- The words of a header spell its opcode and every field that a header carries. -/
theorem Hdr.read_words (k : Hdr) (ho : op < 2 ^ 16) (ht : h.tag < 2 ^ 16) (hp : h.payLen < 2 ^ 32) (hm : h.timeoutMs < 2 ^ 32)
    (ha : h.bufAddr < 2 ^ 64) (hl : h.bufLen < 2 ^ 32) :
    k.read (h.words op) =
      (op, { h with at_ := k.at_, via := k.via, epoch := k.epoch, chosen := k.chosen, form := k.form, hostGen := k.hostGen }) := by
  have hpay : (wordAt (h.words op) 2).toNat = h.payLen := word_toNat hp
  have hseq : wordAt (h.words op) 3 = h.seq := rfl
  have htime : (wordAt (h.words op) 4).toNat = h.timeoutMs := word_toNat hm
  have haddr : (wordAt (h.words op) 5).toNat + (wordAt (h.words op) 6).toNat * 2 ^ 32 = h.bufAddr := toNat_word_low_high ha
  have hlen : (wordAt (h.words op) 7).toNat = h.bufLen := word_toNat hl
  simp only [Hdr.read, h.opcode_words op ho, h.expert_words, h.casc_words, h.noReply_words, h.tag_words op ht, h.session_words, h.target_words,
    hpay, hseq, htime, haddr, hlen, Fin.ofNat_val_eq_self]

end

/-- Settles O3, command by command: each body ends in its effect under the stated conditions, and the words of a header are read back field by
field. -/
theorem commandBlockCompletes : Obligations.CommandBlockCompletes := by
  refine ⟨fun h e => ?sessionOpen, fun h => ?sessionClose, fun h n d w s => lockAcquire_grants, fun h n d => ?acquireWaits, fun h n d => ?renew,
    fun h n => ?release, fun h => ?status, fun h p s r => ?echo, fun h a => ?tune,
    fun h k op ho ht hp hm ha hl => ⟨h.length_words op, h.read_words op k ho ht hp hm ha hl⟩⟩
  case sessionOpen => exact performs_of (fun _ => rfl) (fun _ _ => ⟨_, rfl⟩)
  case sessionClose => exact performs_of (fun _ => rfl) (fun _ _ => ⟨[], rfl⟩)
  case acquireWaits =>
    refine queues_of (fun _ => rfl) ?_
    rintro m ⟨hlo, hhi, hord, hheld⟩
    exact bodyLockAcquire_held hlo hhi hord hheld
  case renew =>
    refine performs_of (fun _ => rfl) ?_
    rintro m ⟨hlo, hhi, ho⟩
    exact ⟨[], bodyLockRenew_owner hlo hhi ho⟩
  case release => exact performs_of (fun _ => rfl) (fun _ ho => ⟨[], bodyLockRelease_owner ho⟩)
  case status => exact reads_of (fun _ => rfl) (fun _ => ⟨_, rfl⟩)
  case echo =>
    have hdone := runCmdAs_done (mir := mirroredOp 0x0E06) r (body := bodyCmdEcho p) rfl
      (Or.inr (Or.inr (Or.inr (State.breaksLock_same rfl))))
    rw [State.returned_turn] at hdone
    exact congrArg Host.Outcome.next hdone
  case tune =>
    refine performs_of (fun _ => rfl) ?_
    rintro m ⟨hdef, hcnt, hus⟩
    exact ⟨[], bodyCmdTune_inRange hdef hcnt hus⟩

end Sys2Proof.Machine
end

section
/-! PROOFS. The statements of the family of the measurement journey: the parts of the state that each command and event leaves as they are (O49),
and the events of slots and detectors (O37). -/

namespace Sys2Proof.Machine

/-! ### What each command and event may change -/

/-- What a command or event may change: the parts of its footprint, the bytes of the host area that `writesAt` names, the whole of bulk memory
where `mayLose` says so, and module time. -/
def allowOf (c : Sys2Proof.Instr) : Allow := ⟨writesAt c, mayLose c, fun P => (footprint c).contains P, true⟩

theorem allowOf_may_outside {c : Sys2Proof.Instr} {P : Part} (h : P ∉ footprint c) : (allowOf c).may P = false := by
  simpa [allowOf] using h

/-- An offset that MEM_HOST_WRITE may not write lies before its bytes or behind them. -/
theorem outside_of_writesAt {h : Hdr} {off : Nat} {data : List Byte} (i : Nat) (hw : (allowOf (.memHostWrite h off data)).write i = false) :
    i < off ∨ off + data.length ≤ i := by
  simp only [allowOf, writesAt, Bool.and_eq_false_iff, decide_eq_false_iff_not] at hw
  omega

/-- A part that may not change is the same. -/
theorem Keeps.same_part {p : Allow} {z t : State} (k : Keeps p z t) {P : Part} (h : p.may P = false) : P.same z t := by
  have hstay : ∀ {α : Type} {a b : α}, p.may P = true ∨ b = a → b = a := fun o => o.resolve_left (by simp [h])
  obtain ⟨hRdata, hFree, hEvents, hAon, hPorts, hIng, hPec, hCapIn, hAln, hLim, hIsl, hBatches, hPub, hOsc, hCap, hFlt, hKey, hEvr, hMbx⟩ :=
    k.parts
  cases P with
  | rdata => exact (hstay hRdata).symm
  | free => exact (hstay hFree).symm
  | events => exact (hstay hEvents).symm
  | aon => exact (hstay hAon).symm
  | ports => exact (hstay hPorts).symm
  | ing => exact (hstay hIng).symm
  | pec => exact (hstay hPec).symm
  | capIn => exact (hstay hCapIn).symm
  | aln => exact (hstay hAln).symm
  | lim => exact (hstay hLim).symm
  | isl => exact (hstay hIsl).symm
  | batches => exact (hstay hBatches).symm
  | pub => exact (hstay hPub).symm
  | osc => exact (hstay hOsc).symm
  | cap => exact (hstay hCap).symm
  | flt => exact (hstay hFlt).symm
  | key => exact (hstay hKey).symm
  | evr => exact (hstay hEvr).symm
  | mbx => exact (hstay hMbx).symm

/-- Every command and event keeps the queue and the canonical forms, and changes no more than it may: its own meaning's law, row by row of the
operation table, with each part that the law names found in the row's footprint. -/
theorem exec_keeps (c : Sys2Proof.Instr) (s : State) : KeepsOut (allowOf c) s (exec c s) :=
  match c with
  -- the opcodes
  | .identity h => execIdentity_keeps h rfl (Keeps.refl _ s)
  | .glbStatus h => execGlbStatus_keeps h rfl (Keeps.refl _ s)
  | .glbEnable h l => execGlbEnable_keeps h l rfl rfl rfl rfl rfl rfl rfl rfl rfl rfl rfl rfl rfl rfl rfl rfl rfl rfl rfl (Keeps.refl _ s)
  | .glbLock h l => execGlbLock_keeps h l rfl (Keeps.refl _ s)
  | .regRead h addr n => execRegRead_keeps h addr n rfl rfl rfl rfl (Keeps.refl _ s)
  | .regWrite h l => execRegWrite_keeps h l rfl rfl rfl rfl rfl rfl rfl rfl rfl rfl rfl rfl rfl rfl rfl rfl rfl rfl rfl (Keeps.refl _ s)
  | .aonStatus h => execAonStatus_keeps h rfl rfl (Keeps.refl _ s)
  | .pwrState h goal => execPwrState_keeps h goal rfl rfl rfl rfl rfl rfl rfl rfl rfl rfl rfl (Keeps.refl _ s)
  | .pwrProfile h efficient => execPwrProfile_keeps h efficient rfl rfl rfl (Keeps.refl _ s)
  | .tc10Identity h => execTc10Identity_keeps h rfl (Keeps.refl _ s)
  | .avfsRaw h a => execAvfsRaw_keeps h a rfl rfl (Keeps.refl _ s)
  | .islandReset h isl => execIslandReset_keeps h isl rfl rfl rfl rfl rfl rfl rfl rfl rfl rfl rfl rfl rfl rfl rfl rfl rfl rfl rfl (Keeps.refl _ s)
  | .wakePattern h a => execWakePattern_keeps h a rfl (Keeps.refl _ s)
  | .wakePatternRaw h a => execWakePatternRaw_keeps h a rfl (Keeps.refl _ s)
  | .timeStatus h => execTimeStatus_keeps h rfl (Keeps.refl _ s)
  | .timeProfile h p => execTimeProfile_keeps h p rfl rfl (Keeps.refl _ s)
  | .timeRestep h => execTimeRestep_keeps h rfl (Keeps.refl _ s)
  | .timeSources h p => execTimeSources_keeps h p rfl rfl (Keeps.refl _ s)
  | .timeOutputs h p => execTimeOutputs_keeps h p rfl (Keeps.refl _ s)
  | .timeServo h p => execTimeServo_keeps h p rfl (Keeps.refl _ s)
  | .timeDiscontCfg h p => execTimeDiscontCfg_keeps h p rfl (Keeps.refl _ s)
  | .timePtpDs h p => execTimePtpDs_keeps h p rfl (Keeps.refl _ s)
  | .portStatus h p => execPortStatus_keeps h p rfl (Keeps.refl _ s)
  | .portProfile h a => execPortProfile_keeps h a rfl rfl rfl (Keeps.refl _ s)
  | .portRings h a => execPortRings_keeps h a rfl rfl (Keeps.refl _ s)
  | .portPrp h a => execPortPrp_keeps h a rfl (Keeps.refl _ s)
  | .portMacsec h a => execPortMacsec_keeps h a rfl rfl rfl rfl (Keeps.refl _ s)
  | .portOptics h p a2h => execPortOptics_keeps h p a2h rfl (Keeps.refl _ s)
  | .portEq h a => execPortEq_keeps h a rfl (Keeps.refl _ s)
  | .portMacRaw h a => execPortMacRaw_keeps h a rfl rfl (Keeps.refl _ s)
  | .portOptOverride h p on => execPortOptOverride_keeps h p on rfl rfl rfl (Keeps.refl _ s)
  | .ingStatus h => execIngStatus_keeps h rfl (Keeps.refl _ s)
  | .ingStreamAdd h a => execIngStreamAdd_keeps h a rfl rfl (Keeps.refl _ s)
  | .ingStreamRemove h r => execIngStreamRemove_keeps h r rfl rfl rfl (Keeps.refl _ s)
  | .ingStreamList h => execIngStreamList_keeps h rfl (Keeps.refl _ s)
  | .ingUnknown h => execIngUnknown_keeps h rfl (Keeps.refl _ s)
  | .ingCfgFetch h r => execIngCfgFetch_keeps h r rfl rfl (Keeps.refl _ s)
  | .ingHeader h r => execIngHeader_keeps h r rfl (Keeps.refl _ s)
  | .ingStreamRaw h a => execIngStreamRaw_keeps h a rfl rfl rfl (Keeps.refl _ s)
  | .ingChanScale h a => execIngChanScale_keeps h a rfl rfl (Keeps.refl _ s)
  | .ingTune h a => execIngTune_keeps h a rfl (Keeps.refl _ s)
  | .pecStatus h => execPecStatus_keeps h rfl (Keeps.refl _ s)
  | .pecProfile h a => execPecProfile_keeps h a rfl rfl (Keeps.refl _ s)
  | .pecInputs h l => execPecInputs_keeps h l rfl rfl (Keeps.refl _ s)
  | .pecThresholds h l => execPecThresholds_keeps h l rfl rfl (Keeps.refl _ s)
  | .syncDecim h => execSyncDecim_keeps h rfl rfl (Keeps.refl _ s)
  | .pecBankSwap h a => execPecBankSwap_keeps h a rfl rfl (Keeps.refl _ s)
  | .pecSlotRaw h a => execPecSlotRaw_keeps h a rfl rfl (Keeps.refl _ s)
  | .pecCoefLoad h a => execPecCoefLoad_keeps h a rfl rfl (Keeps.refl _ s)
  | .pecBankSwapX h a => execPecBankSwapX_keeps h a rfl rfl (Keeps.refl _ s)
  | .pecDsyncCfg h enable falling => execPecDsyncCfg_keeps h enable falling rfl (Keeps.refl _ s)
  | .alnStatus h => execAlnStatus_keeps h rfl (Keeps.refl _ s)
  | .alnGroupStart h a => execAlnGroupStart_keeps h a rfl rfl (Keeps.refl _ s)
  | .alnGroupStop h g flush => execAlnGroupStop_keeps h g flush rfl rfl rfl rfl rfl (Keeps.refl _ s)
  | .alnGroupChannels h a => execAlnGroupChannels_keeps h a rfl rfl (Keeps.refl _ s)
  | .alnGroupTiming h a => execAlnGroupTiming_keeps h a rfl rfl (Keeps.refl _ s)
  | .alnHistAlloc h a => execAlnHistAlloc_keeps h a rfl rfl (Keeps.refl _ s)
  | .alnHistRead h a => execAlnHistRead_keeps h a rfl (Keeps.refl _ s)
  | .alnGroupRaw h a => execAlnGroupRaw_keeps h a rfl (Keeps.refl _ s)
  | .alnChanRaw h l => execAlnChanRaw_keeps h l rfl rfl (Keeps.refl _ s)
  | .alnTune h a => execAlnTune_keeps h a rfl rfl (Keeps.refl _ s)
  | .splStatus h => execSplStatus_keeps h rfl (Keeps.refl _ s)
  | .splGroup h g p => execSplGroup_keeps h g p rfl rfl (Keeps.refl _ s)
  | .splClass h n kind => execSplClass_keeps h n kind rfl rfl (Keeps.refl _ s)
  | .splLedgerRead h lists contra => execSplLedgerRead_keeps h lists contra rfl (Keeps.refl _ s)
  | .splClassRaw h a => execSplClassRaw_keeps h a rfl rfl (Keeps.refl _ s)
  | .splGroupRaw h g depth max64 => execSplGroupRaw_keeps h g depth max64 rfl rfl (Keeps.refl _ s)
  | .oscStatus h => execOscStatus_keeps h rfl (Keeps.refl _ s)
  | .oscSetProfile h a => execOscSetProfile_keeps h a rfl (Keeps.refl _ s)
  | .oscSignals h set l => execOscSignals_keeps h set l rfl rfl (Keeps.refl _ s)
  | .oscThresholds h a => execOscThresholds_keeps h a rfl (Keeps.refl _ s)
  | .oscSetStart h set => execOscSetStart_keeps h set rfl rfl (Keeps.refl _ s)
  | .oscSetStop h set => execOscSetStop_keeps h set rfl rfl rfl rfl (Keeps.refl _ s)
  | .oscModesRead h set shapes => execOscModesRead_keeps h set shapes rfl (Keeps.refl _ s)
  | .oscDefBranches h l => execOscDefBranches_keeps h l rfl rfl (Keeps.refl _ s)
  | .oscForcedRead h set flows => execOscForcedRead_keeps h set flows rfl (Keeps.refl _ s)
  | .oscSetRaw h set l => execOscSetRaw_keeps h set l rfl (Keeps.refl _ s)
  | .oscSigRaw h l => execOscSigRaw_keeps h l rfl rfl (Keeps.refl _ s)
  | .oscTune h a => execOscTune_keeps h a rfl (Keeps.refl _ s)
  | .islStatus h => execIslStatus_keeps h rfl (Keeps.refl _ s)
  | .islProfile h a => execIslProfile_keeps h a rfl (Keeps.refl _ s)
  | .islModelLoad h b => execIslModelLoad_keeps h b rfl rfl (Keeps.refl _ s)
  | .islIslandsRead h labels => execIslIslandsRead_keeps h labels rfl (Keeps.refl _ s)
  | .islTune h a => execIslTune_keeps h a rfl (Keeps.refl _ s)
  | .islTblRaw h l => execIslTblRaw_keeps h l rfl rfl (Keeps.refl _ s)
  | .islModelActivate h a => execIslModelActivate_keeps h a rfl rfl (Keeps.refl _ s)
  | .pubStatus h => execPubStatus_keeps h rfl (Keeps.refl _ s)
  | .pubStreamProfile h a => execPubStreamProfile_keeps h a rfl rfl (Keeps.refl _ s)
  | .pubStreamLayout h stream l => execPubStreamLayout_keeps h stream l rfl rfl (Keeps.refl _ s)
  | .pubStreamCtl h stream run => execPubStreamCtl_keeps h stream run rfl rfl (Keeps.refl _ s)
  | .pubGocb h a => execPubGocb_keeps h a rfl rfl rfl rfl rfl (Keeps.refl _ s)
  | .pubAlarmOut h a => execPubAlarmOut_keeps h a rfl rfl (Keeps.refl _ s)
  | .pubLimits h l => execPubLimits_keeps h l rfl rfl (Keeps.refl _ s)
  | .pubAlarmsRead h src => execPubAlarmsRead_keeps h src rfl (Keeps.refl _ s)
  | .pubStreamRaw h a => execPubStreamRaw_keeps h a rfl rfl (Keeps.refl _ s)
  | .pubGocbRaw h a => execPubGocbRaw_keeps h a rfl rfl rfl rfl rfl (Keeps.refl _ s)
  | .pubTblRaw h l => execPubTblRaw_keeps h l rfl rfl rfl rfl rfl rfl (Keeps.refl _ s)
  | .capStatus h => execCapStatus_keeps h rfl (Keeps.refl _ s)
  | .capUnitProfile h a => execCapUnitProfile_keeps h a rfl (Keeps.refl _ s)
  | .capChannels h u l => execCapChannels_keeps h u l rfl (Keeps.refl _ s)
  | .capArm h u => execCapArm_keeps h u rfl rfl (Keeps.refl _ s)
  | .capStop h u keep => execCapStop_keeps h u keep rfl rfl rfl (Keeps.refl _ s)
  | .capForce h u => execCapForce_keeps h u rfl rfl (Keeps.refl _ s)
  | .capList h first => execCapList_keeps h first rfl (Keeps.refl _ s)
  | .capRead h a => execCapRead_keeps h a rfl rfl rfl (Keeps.refl _ s)
  | .capFree h n => execCapFree_keeps h n rfl rfl (Keeps.refl _ s)
  | .capLock h n lock => execCapLock_keeps h n lock rfl rfl (Keeps.refl _ s)
  | .capSeqRaw h u l => execCapSeqRaw_keeps h u l rfl (Keeps.refl _ s)
  | .capArmX h u trunc => execCapArmX_keeps h u trunc rfl rfl (Keeps.refl _ s)
  | .capTune h a => execCapTune_keeps h a rfl (Keeps.refl _ s)
  | .evrStatus h => execEvrStatus_keeps h rfl (Keeps.refl _ s)
  | .evrClassProfile h p => execEvrClassProfile_keeps h p rfl rfl (Keeps.refl _ s)
  | .evrRead h a => execEvrRead_keeps h a rfl (Keeps.refl _ s)
  | .evrPubkey h => execEvrPubkey_keeps h rfl (Keeps.refl _ s)
  | .evrSeal h => execEvrSeal_keeps h rfl rfl rfl rfl rfl rfl rfl (Keeps.refl _ s)
  | .evrClearNonce h => execEvrClearNonce_keeps h rfl rfl rfl (Keeps.refl _ s)
  | .evrClear h nonce tag => execEvrClear_keeps h nonce tag rfl rfl rfl rfl rfl rfl rfl (Keeps.refl _ s)
  | .evrHostEvent h a => execEvrHostEvent_keeps h a rfl rfl (Keeps.refl _ s)
  | .evrClassRaw h l => execEvrClassRaw_keeps h l rfl rfl (Keeps.refl _ s)
  | .keyStatus h => execKeyStatus_keeps h rfl (Keeps.refl _ s)
  | .keyInfo h slot => execKeyInfo_keeps h slot rfl (Keeps.refl _ s)
  | .keyGenerate h a => execKeyGenerate_keeps h a rfl rfl rfl (Keeps.refl _ s)
  | .keyImport h a => execKeyImport_keeps h a rfl rfl rfl (Keeps.refl _ s)
  | .keyDerive h a => execKeyDerive_keeps h a rfl rfl rfl (Keeps.refl _ s)
  | .keyReplace h a => execKeyReplace_keeps h a rfl rfl rfl (Keeps.refl _ s)
  | .keyReplaceCommit h slot kcv => execKeyReplaceCommit_keeps h slot kcv rfl rfl (Keeps.refl _ s)
  | .keyDestroy h slot => execKeyDestroy_keeps h slot rfl rfl rfl rfl rfl (Keeps.refl _ s)
  | .keyExport h slot kek => execKeyExport_keeps h slot kek rfl rfl rfl (Keeps.refl _ s)
  | .keyLcNonce h => execKeyLcNonce_keeps h rfl rfl rfl (Keeps.refl _ s)
  | .keyLifecycle h goal nonce tag => execKeyLifecycle_keeps h goal nonce tag rfl rfl rfl rfl rfl rfl rfl rfl rfl (Keeps.refl _ s)
  | .keyAttest h slot nonce => execKeyAttest_keeps h slot nonce rfl rfl rfl (Keeps.refl _ s)
  | .keyTxnResult h => execKeyTxnResult_keeps h rfl (Keeps.refl _ s)
  | .keyImportClear h a => execKeyImportClear_keeps h a rfl rfl rfl (Keeps.refl _ s)
  | .keyAttrRaw h a => execKeyAttrRaw_keeps h a rfl rfl (Keeps.refl _ s)
  | .keyTune h a => execKeyTune_keeps h a rfl (Keeps.refl _ s)
  | .cmdSessionOpen h expert => execCmdSessionOpen_keeps h expert rfl rfl (Keeps.refl _ s)
  | .cmdSessionClose h => execCmdSessionClose_keeps h rfl rfl (Keeps.refl _ s)
  | .lockAcquire h n leaseMs wait => execLockAcquire_keeps h n leaseMs wait rfl (Keeps.refl _ s)
  | .lockRenew h n leaseMs => execLockRenew_keeps h n leaseMs rfl (Keeps.refl _ s)
  | .lockRelease h n => execLockRelease_keeps h n rfl (Keeps.refl _ s)
  | .lockStatus h => execLockStatus_keeps h rfl (Keeps.refl _ s)
  | .cmdEcho h payload => execCmdEcho_keeps h payload rfl (Keeps.refl _ s)
  | .cmdTune h a => execCmdTune_keeps h a rfl (Keeps.refl _ s)
  | .mbxStatus h ident => execMbxStatus_keeps h ident rfl (Keeps.refl _ s)
  | .mbxSend h n words wait => execMbxSend_keeps h n words wait rfl rfl rfl (Keeps.refl _ s)
  | .mbxRecv h n wait => execMbxRecv_keeps h n wait rfl rfl (Keeps.refl _ s)
  | .mbxPeek h n => execMbxPeek_keeps h n rfl (Keeps.refl _ s)
  | .mbxBind h n en a b => execMbxBind_keeps h n en a b rfl (Keeps.refl _ s)
  | .mbxClear h n => execMbxClear_keeps h n rfl rfl (Keeps.refl _ s)
  | .casStatus h => execCasStatus_keeps h rfl (Keeps.refl _ s)
  | .casRejoin h m => execCasRejoin_keeps h m rfl (Keeps.refl _ s)
  | .casReform h => execCasReform_keeps h rfl (Keeps.refl _ s)
  | .casTune h skipEn intEn => execCasTune_keeps h skipEn intEn rfl (Keeps.refl _ s)
  | .memStatus h => execMemStatus_keeps h rfl (Keeps.refl _ s)
  | .memTickets h p => execMemTickets_keeps h p rfl (Keeps.refl _ s)
  | .memHostRead h off len => execMemHostRead_keeps h off len rfl rfl rfl (Keeps.refl _ s)
  | .memHostWrite h off data => execMemHostWrite_keeps h off data outside_of_writesAt rfl (Keeps.refl _ s)
  | .memTicketsRaw h t0 t1 => execMemTicketsRaw_keeps h t0 t1 rfl (Keeps.refl _ s)
  | .memLfsr h c seed => execMemLfsr_keeps h c seed rfl (Keeps.refl _ s)
  | .pairStatus h => execPairStatus_keeps h rfl (Keeps.refl _ s)
  | .pairForm h sideB prefer => execPairForm_keeps h sideB prefer rfl rfl rfl rfl (Keeps.refl _ s)
  | .pairJoin h => execPairJoin_keeps h rfl rfl rfl (Keeps.refl _ s)
  | .pairSwap h => execPairSwap_keeps h rfl (Keeps.refl _ s)
  | .pairSwapSched h hours => execPairSwapSched_keeps h hours rfl (Keeps.refl _ s)
  | .pairRestart h => execPairRestart_keeps h rfl rfl rfl rfl rfl rfl rfl rfl rfl rfl rfl (Keeps.refl _ s)
  | .pairSplit h => execPairSplit_keeps h rfl rfl rfl rfl (Keeps.refl _ s)
  | .pairTune h a => execPairTune_keeps h a rfl (Keeps.refl _ s)
  | .fltStatus h => execFltStatus_keeps h rfl (Keeps.refl _ s)
  | .inject h a => execInject_keeps h a rfl rfl rfl rfl rfl (Keeps.refl _ s)
  | .fltInjRaw h a => execFltInjRaw_keeps h a rfl rfl rfl rfl rfl (Keeps.refl _ s)
  -- register accesses outside a command
  | .sqDoorbell at_ tail => execSqDoorbell_keeps at_ tail rfl (Keeps.refl _ s)
  | .rqHeadFree at_ head => execRqHeadFree_keeps at_ head rfl (Keeps.refl _ s)
  | .heartbeatFeed at_ => execHeartbeatFeed_keeps at_ rfl (Keeps.refl _ s)
  | .fetchEnable at_ => execFetchEnable_keeps at_ rfl (Keeps.refl _ s)
  | .fetchDisable at_ => execFetchDisable_keeps at_ rfl (Keeps.refl _ s)
  | .blockLockSet at_ b port => execBlockLockSet_keeps at_ b port rfl (Keeps.refl _ s)
  | .regWritePlain at_ addr v => execRegWritePlain_keeps at_ addr v rfl rfl rfl rfl rfl rfl rfl rfl rfl rfl rfl rfl rfl rfl rfl rfl rfl rfl rfl
    (Keeps.refl _ s)
  | .rcCounterRead at_ addr => execRcCounterRead_keeps at_ addr rfl rfl rfl rfl rfl (Keeps.refl _ s)
  | .counter64LoRead at_ p tx => execCounter64LoRead_keeps at_ p tx rfl rfl rfl (Keeps.refl _ s)
  | .timeNowLatchRead at_ => execTimeNowLatchRead_keeps at_ rfl rfl (Keeps.refl _ s)
  | .fineTimeLatchRead at_ => execFineTimeLatchRead_keeps at_ rfl rfl (Keeps.refl _ s)
  | .evrSeqLatchRead at_ => execEvrSeqLatchRead_keeps at_ rfl rfl rfl (Keeps.refl _ s)
  | .txtsIdRead at_ p => execTxtsIdRead_keeps at_ p rfl rfl (Keeps.refl _ s)
  | .tdcStampRead at_ n => execTdcStampRead_keeps at_ n rfl rfl (Keeps.refl _ s)
  | .compareArm at_ n irq action => execCompareArm_keeps at_ n irq action rfl rfl rfl (Keeps.refl _ s)
  | .portModeChange at_ p mode fec => execPortModeChange_keeps at_ p mode fec rfl rfl rfl (Keeps.refl _ s)
  | .rxTailWrite at_ p r tail => execRxTailWrite_keeps at_ p r tail rfl rfl (Keeps.refl _ s)
  | .txTailWrite at_ p r tail descs => execTxTailWrite_keeps at_ p r tail descs rfl rfl rfl (Keeps.refl _ s)
  | .ingTblRead at_ => execIngTblRead_keeps at_ rfl (Keeps.refl _ s)
  | .ingTblWrite at_ => execIngTblWrite_keeps at_ rfl rfl rfl (Keeps.refl _ s)
  | .pecTblRead at_ => execPecTblRead_keeps at_ rfl (Keeps.refl _ s)
  | .pecTblWrite at_ => execPecTblWrite_keeps at_ rfl rfl (Keeps.refl _ s)
  | .alnChanRead at_ => execAlnChanRead_keeps at_ rfl (Keeps.refl _ s)
  | .alnChanWrite at_ => execAlnChanWrite_keeps at_ rfl rfl (Keeps.refl _ s)
  | .oscTblRead at_ => execOscTblRead_keeps at_ rfl (Keeps.refl _ s)
  | .oscTblWrite at_ => execOscTblWrite_keeps at_ rfl rfl (Keeps.refl _ s)
  | .islTblReadActive at_ => execIslTblReadActive_keeps at_ rfl (Keeps.refl _ s)
  | .islTblWriteStaged at_ => execIslTblWriteStaged_keeps at_ rfl rfl (Keeps.refl _ s)
  | .islTblReadStaged at_ => execIslTblReadStaged_keeps at_ rfl (Keeps.refl _ s)
  | .pubTblRead at_ => execPubTblRead_keeps at_ rfl (Keeps.refl _ s)
  | .pubTblWrite at_ => execPubTblWrite_keeps at_ rfl rfl rfl rfl rfl rfl (Keeps.refl _ s)
  | .alnGrpRegWrite at_ g idx v => execAlnGrpRegWrite_keeps at_ g idx v rfl (Keeps.refl _ s)
  | .splClassRegWrite at_ l => execSplClassRegWrite_keeps at_ l rfl rfl (Keeps.refl _ s)
  | .capPartWrite at_ gib => execCapPartWrite_keeps at_ gib rfl rfl rfl (Keeps.refl _ s)
  | .mbxWordWrite at_ ident n j v => execMbxWordWrite_keeps at_ ident n j v rfl rfl rfl (Keeps.refl _ s)
  | .mbxW15Read at_ n => execMbxW15Read_keeps at_ n rfl rfl rfl (Keeps.refl _ s)
  | .mbxBindWrite at_ n w => execMbxBindWrite_keeps at_ n w rfl (Keeps.refl _ s)
  | .injSlotArm at_ slot session => execInjSlotArm_keeps at_ slot session rfl rfl rfl rfl rfl (Keeps.refl _ s)
  | .injSlotDisarm at_ slot => execInjSlotDisarm_keeps at_ slot rfl rfl rfl rfl (Keeps.refl _ s)
  -- the events that deadlines, lines and partners cause
  | .commandFetch op h => execCommandFetch_keeps op h rfl (Keeps.refl _ s)
  | .commandTimeout session seq => execCommandTimeout_keeps session seq rfl rfl rfl rfl rfl (Keeps.refl _ s)
  | .coreWatchdogExpiry at_ core real cmds => execCoreWatchdogExpiry_keeps at_ core real cmds rfl rfl rfl rfl rfl (Keeps.refl _ s)
  | .lockLeaseExpiry n => execLockLeaseExpiry_keeps n rfl rfl (Keeps.refl _ s)
  | .heartbeatExpiry => execHeartbeatExpiry_keeps rfl rfl rfl (Keeps.refl _ s)
  | .replyCoalesceExpiry n => execReplyCoalesceExpiry_keeps n rfl (Keeps.refl _ s)
  | .cascadeReplyAggregate at_ session seq => execCascadeReplyAggregate_keeps at_ session seq rfl (Keeps.refl _ s)
  | .routedCommandReceive op h => execRoutedCommandReceive_keeps op h rfl (Keeps.refl _ s)
  | .mirroredCommandReceive at_ op h => execMirroredCommandReceive_keeps at_ op h rfl (Keeps.refl _ s)
  | .mirrorAckReceive at_ session seq status => execMirrorAckReceive_keeps at_ session seq status rfl (Keeps.refl _ s)
  | .ptpMessageReceive at_ => execPtpMessageReceive_keeps at_ rfl rfl (Keeps.refl _ s)
  | .announceReceiptTimeout p => execAnnounceReceiptTimeout_keeps p rfl rfl (Keeps.refl _ s)
  | .servoMeasurement at_ m => execServoMeasurement_keeps at_ m rfl rfl rfl rfl rfl rfl rfl rfl rfl rfl (Keeps.refl _ s)
  | .sourceUnqualifyTimeout src => execSourceUnqualifyTimeout_keeps src rfl rfl (Keeps.refl _ s)
  | .restepTake => execRestepTake_keeps rfl rfl rfl rfl rfl rfl rfl rfl (Keeps.refl _ s)
  | .leapSecondEnd => execLeapSecondEnd_keeps rfl (Keeps.refl _ s)
  | .ppsInEdge at_ rising widthNs => execPpsInEdge_keeps at_ rising widthNs rfl (Keeps.refl _ s)
  | .todSentenceReceive at_ m => execTodSentenceReceive_keeps at_ m rfl (Keeps.refl _ s)
  | .irigFrameReceive at_ f => execIrigFrameReceive_keeps at_ f rfl (Keeps.refl _ s)
  | .ppsOutPulse => execPpsOutPulse_keeps rfl (Keeps.refl _ s)
  | .todSentenceSend => execTodSentenceSend_keeps rfl (Keeps.refl _ s)
  | .tdcEdgeStamp at_ n rising => execTdcEdgeStamp_keeps at_ n rising rfl rfl rfl (Keeps.refl _ s)
  | .compareFire n => execCompareFire_keeps n rfl rfl rfl (Keeps.refl _ s)
  | .trigOutPulseEnd n => execTrigOutPulseEnd_keeps n rfl (Keeps.refl _ s)
  | .tcPresChange at_ present => execTcPresChange_keeps at_ present rfl rfl rfl (Keeps.refl _ s)
  | .tc10IdentityReadComplete at_ r => execTc10IdentityReadComplete_keeps at_ r rfl rfl rfl (Keeps.refl _ s)
  | .tc10WarmupEnd => execTc10WarmupEnd_keeps rfl rfl (Keeps.refl _ s)
  | .frameReceive at_ p f => execFrameReceive_keeps at_ p f rfl rfl rfl rfl (Keeps.refl _ s)
  | .pauseExpiry p => execPauseExpiry_keeps p rfl rfl (Keeps.refl _ s)
  | .pauseRepeat p => execPauseRepeat_keeps p rfl rfl (Keeps.refl _ s)
  | .prpForgetExpiry k => execPrpForgetExpiry_keeps k rfl rfl (Keeps.refl _ s)
  | .transmitSelect at_ p => execTransmitSelect_keeps at_ p rfl rfl rfl (Keeps.refl _ s)
  | .frameTransmitComplete at_ p => execFrameTransmitComplete_keeps at_ p rfl rfl (Keeps.refl _ s)
  | .linkUp at_ p c => execLinkUp_keeps at_ p c rfl rfl rfl (Keeps.refl _ s)
  | .linkDown at_ p => execLinkDown_keeps at_ p rfl rfl (Keeps.refl _ s)
  | .eqAdaptComplete at_ p e => execEqAdaptComplete_keeps at_ p e rfl rfl rfl (Keeps.refl _ s)
  | .modAbsChange at_ p absent => execModAbsChange_keeps at_ p absent rfl rfl rfl (Keeps.refl _ s)
  | .modAbsDebounceEnd p => execModAbsDebounceEnd_keeps p rfl rfl rfl (Keeps.refl _ s)
  | .opticsReadStart p => execOpticsReadStart_keeps p rfl rfl (Keeps.refl _ s)
  | .opticsReadComplete at_ p r => execOpticsReadComplete_keeps at_ p r rfl rfl rfl (Keeps.refl _ s)
  | .opticsReadRetry p => execOpticsReadRetry_keeps p rfl rfl (Keeps.refl _ s)
  | .wakePatternMatch at_ m f => execWakePatternMatch_keeps at_ m f rfl rfl (Keeps.refl _ s)
  | .parseFrame at_ => execParseFrame_keeps at_ rfl rfl rfl rfl rfl rfl rfl (Keeps.refl _ s)
  | .heldConfigApply at_ e => execHeldConfigApply_keeps at_ e rfl rfl rfl (Keeps.refl _ s)
  | .configFrameReceive at_ c => execConfigFrameReceive_keeps at_ c rfl rfl rfl (Keeps.refl _ s)
  | .cfgPollTimer e => execCfgPollTimer_keeps e rfl rfl (Keeps.refl _ s)
  | .cfgFetchTimeout e => execCfgFetchTimeout_keeps e rfl rfl rfl (Keeps.refl _ s)
  | .c37CommandFrameReceive at_ idx c => execC37CommandFrameReceive_keeps at_ idx c rfl rfl (Keeps.refl _ s)
  | .svSampleIn at_ => execSvSampleIn_keeps at_ rfl rfl rfl rfl (Keeps.refl _ s)
  | .estimateOutput at_ idx => execEstimateOutput_keeps at_ idx rfl rfl rfl rfl (Keeps.refl _ s)
  | .slotRestart idx => execSlotRestart_keeps idx rfl rfl (Keeps.refl _ s)
  | .dsyncEdge at_ rising widthNs => execDsyncEdge_keeps at_ rising widthNs rfl rfl (Keeps.refl _ s)
  | .crossfadeEnd at_ idx => execCrossfadeEnd_keeps at_ idx rfl rfl (Keeps.refl _ s)
  | .heldSwapStart at_ idx => execHeldSwapStart_keeps at_ idx rfl rfl (Keeps.refl _ s)
  | .accordValueReceive at_ => execAccordValueReceive_keeps at_ rfl rfl rfl rfl (Keeps.refl _ s)
  | .provisionalIssue g => execProvisionalIssue_keeps g rfl rfl rfl rfl (Keeps.refl _ s)
  | .windowClose g => execWindowClose_keeps g rfl rfl (Keeps.refl _ s)
  | .closeGuardEnd g => execCloseGuardEnd_keeps g rfl rfl (Keeps.refl _ s)
  | .emptyGroupTrigger g => execEmptyGroupTrigger_keeps g rfl rfl (Keeps.refl _ s)
  | .snapshotCommit at_ g => execSnapshotCommit_keeps at_ g rfl rfl rfl rfl rfl (Keeps.refl _ s)
  | .groupStartReached g => execGroupStartReached_keeps g rfl rfl (Keeps.refl _ s)
  | .groupChangeEffective g => execGroupChangeEffective_keeps g rfl rfl (Keeps.refl _ s)
  | .classChangeEffective at_ => execClassChangeEffective_keeps at_ rfl rfl (Keeps.refl _ s)
  | .provisionalSnapshotEvaluate at_ => execProvisionalSnapshotEvaluate_keeps at_ rfl rfl rfl rfl rfl rfl (Keeps.refl _ s)
  | .committedSnapshotEvaluate at_ => execCommittedSnapshotEvaluate_keeps at_ rfl rfl rfl rfl rfl rfl (Keeps.refl _ s)
  | .confirmReceive at_ => execConfirmReceive_keeps at_ rfl rfl rfl rfl rfl rfl (Keeps.refl _ s)
  | .rollbackReceive at_ => execRollbackReceive_keeps at_ rfl rfl rfl rfl rfl rfl (Keeps.refl _ s)
  | .flushReceive at_ => execFlushReceive_keeps at_ rfl rfl rfl rfl rfl rfl (Keeps.refl _ s)
  | .summaryPacketReceive at_ p => execSummaryPacketReceive_keeps at_ p rfl rfl (Keeps.refl _ s)
  | .provisionalViewForm at_ => execProvisionalViewForm_keeps at_ rfl rfl rfl rfl (Keeps.refl _ s)
  | .ringWaitExpiry => execRingWaitExpiry_keeps rfl rfl rfl rfl (Keeps.refl _ s)
  | .ringCommit at_ => execRingCommit_keeps at_ rfl rfl rfl rfl (Keeps.refl _ s)
  | .ringCloseExpiry => execRingCloseExpiry_keeps rfl rfl rfl rfl (Keeps.refl _ s)
  | .islModelEffective => execIslModelEffective_keeps rfl rfl (Keeps.refl _ s)
  | .oscSnapshotIntake at_ => execOscSnapshotIntake_keeps at_ rfl rfl rfl (Keeps.refl _ s)
  | .oscUpdateReady at_ idx => execOscUpdateReady_keeps at_ idx rfl rfl (Keeps.refl _ s)
  | .oscUpdateComplete at_ idx => execOscUpdateComplete_keeps at_ idx rfl rfl rfl rfl rfl rfl (Keeps.refl _ s)
  | .alarmBatchReceive at_ => execAlarmBatchReceive_keeps at_ rfl rfl rfl rfl rfl rfl rfl (Keeps.refl _ s)
  | .gooseRetransmit k => execGooseRetransmit_keeps k rfl rfl rfl rfl rfl (Keeps.refl _ s)
  | .alarmOutMinOnExpiry n => execAlarmOutMinOnExpiry_keeps n rfl rfl (Keeps.refl _ s)
  | .snapshotPublish at_ => execSnapshotPublish_keeps at_ rfl rfl rfl rfl rfl rfl (Keeps.refl _ s)
  | .streamChangeEffective idx => execStreamChangeEffective_keeps idx rfl rfl (Keeps.refl _ s)
  | .captureRowClose at_ => execCaptureRowClose_keeps at_ rfl rfl rfl (Keeps.refl _ s)
  | .captureRowWaitExpiry u => execCaptureRowWaitExpiry_keeps u rfl rfl (Keeps.refl _ s)
  | .captureEventQueue at_ => execCaptureEventQueue_keeps at_ rfl rfl rfl (Keeps.refl _ s)
  | .recordDrainComplete at_ u => execRecordDrainComplete_keeps at_ u rfl rfl rfl (Keeps.refl _ s)
  | .eventAccumulate at_ => execEventAccumulate_keeps at_ rfl rfl rfl (Keeps.refl _ s)
  | .accumulationIntervalEnd c => execAccumulationIntervalEnd_keeps c rfl rfl (Keeps.refl _ s)
  | .immediateHoldoffEnd c => execImmediateHoldoffEnd_keeps c rfl rfl (Keeps.refl _ s)
  | .recordMramWrite at_ real1 real2 => execRecordMramWrite_keeps at_ real1 real2 rfl rfl rfl rfl rfl (Keeps.refl _ s)
  | .signatureBlockWrite w => execSignatureBlockWrite_keeps w rfl rfl rfl rfl rfl rfl rfl (Keeps.refl _ s)
  | .evrNonceExpiry => execEvrNonceExpiry_keeps rfl rfl (Keeps.refl _ s)
  | .keyRemask at_ => execKeyRemask_keeps at_ rfl rfl rfl rfl (Keeps.refl _ s)
  | .keyCommitComplete at_ slot => execKeyCommitComplete_keeps at_ slot rfl rfl rfl rfl rfl rfl (Keeps.refl _ s)
  | .stagedKeyDiscard slot => execStagedKeyDiscard_keeps slot rfl rfl (Keeps.refl _ s)
  | .childCascadeDestroy slot => execChildCascadeDestroy_keeps slot rfl rfl rfl rfl rfl (Keeps.refl _ s)
  | .lcNonceExpiry => execLcNonceExpiry_keeps rfl rfl (Keeps.refl _ s)
  | .katRun at_ real => execKatRun_keeps at_ real rfl rfl rfl rfl rfl (Keeps.refl _ s)
  | .mbxClaimLapse n => execMbxClaimLapse_keeps n rfl rfl (Keeps.refl _ s)
  | .mbxRingMessageArrive at_ n sender gen words => execMbxRingMessageArrive_keeps at_ n sender gen words rfl rfl rfl (Keeps.refl _ s)
  | .ringFormationToken at_ count uids => execRingFormationToken_keeps at_ count uids rfl (Keeps.refl _ s)
  | .ringFormationReturn at_ count uids => execRingFormationReturn_keeps at_ count uids rfl (Keeps.refl _ s)
  | .ringFormationTimeout => execRingFormationTimeout_keeps rfl (Keeps.refl _ s)
  | .ringMapBroadcast at_ => execRingMapBroadcast_keeps at_ rfl (Keeps.refl _ s)
  | .ringMapReceive at_ present absent => execRingMapReceive_keeps at_ present absent rfl rfl (Keeps.refl _ s)
  | .ringFrameReceive at_ f => execRingFrameReceive_keeps at_ f rfl rfl rfl rfl rfl (Keeps.refl _ s)
  | .crInSilence at_ => execCrInSilence_keeps at_ rfl (Keeps.refl _ s)
  | .ringRelock at_ locked => execRingRelock_keeps at_ locked rfl rfl (Keeps.refl _ s)
  | .ringClosedToken at_ silent => execRingClosedToken_keeps at_ silent rfl rfl (Keeps.refl _ s)
  | .rejoinRelease => execRejoinRelease_keeps rfl (Keeps.refl _ s)
  | .joinRecordReceive at_ uid index => execJoinRecordReceive_keeps at_ uid index rfl rfl (Keeps.refl _ s)
  | .rejoinTrialTimeout => execRejoinTrialTimeout_keeps rfl (Keeps.refl _ s)
  | .arbitrationDraw at_ c asking withdraw ecc => execArbitrationDraw_keeps at_ c asking withdraw ecc rfl rfl rfl rfl rfl rfl rfl (Keeps.refl _ s)
  | .barrierComplete at_ isl => execBarrierComplete_keeps at_ isl rfl (Keeps.refl _ s)
  | .fabricTimeout at_ isl real => execFabricTimeout_keeps at_ isl real rfl rfl rfl rfl (Keeps.refl _ s)
  | .handshakeTimeout at_ snd rcv real => execHandshakeTimeout_keeps at_ snd rcv real rfl rfl rfl rfl (Keeps.refl _ s)
  | .interlockWatchdogFeed at_ => execInterlockWatchdogFeed_keeps at_ rfl (Keeps.refl _ s)
  | .interlockWatchdogExpiry => execInterlockWatchdogExpiry_keeps rfl rfl rfl rfl (Keeps.refl _ s)
  | .ownWaveLost at_ real => execOwnWaveLost_keeps at_ real rfl rfl rfl rfl rfl (Keeps.refl _ s)
  | .interlockQuiet at_ => execInterlockQuiet_keeps at_ rfl rfl rfl rfl rfl rfl rfl rfl rfl rfl rfl rfl (Keeps.refl _ s)
  | .claimConfirm at_ seen => execClaimConfirm_keeps at_ seen rfl rfl rfl rfl rfl rfl rfl rfl (Keeps.refl _ s)
  | .claimBackoffEnd => execClaimBackoffEnd_keeps rfl (Keeps.refl _ s)
  | .preferActiveContendTimeout at_ => execPreferActiveContendTimeout_keeps at_ rfl rfl rfl rfl (Keeps.refl _ s)
  | .pairHeartbeatSend at_ => execPairHeartbeatSend_keeps at_ rfl (Keeps.refl _ s)
  | .pairHeartbeatReceive at_ h => execPairHeartbeatReceive_keeps at_ h rfl rfl rfl rfl rfl rfl rfl rfl rfl rfl rfl rfl (Keeps.refl _ s)
  | .peerLaneLoss at_ => execPeerLaneLoss_keeps at_ rfl rfl rfl (Keeps.refl _ s)
  | .inclusionListReceive at_ l => execInclusionListReceive_keeps at_ l rfl rfl rfl rfl rfl rfl (Keeps.refl _ s)
  | .pairRecordFetchComplete at_ recs => execPairRecordFetchComplete_keeps at_ recs rfl rfl rfl rfl rfl rfl (Keeps.refl _ s)
  | .pairAckReceive at_ g t => execPairAckReceive_keeps at_ g t rfl rfl rfl rfl rfl rfl (Keeps.refl _ s)
  | .pairAckTimeout => execPairAckTimeout_keeps rfl rfl rfl rfl rfl (Keeps.refl _ s)
  | .resultRecordReceive at_ r => execResultRecordReceive_keeps at_ r rfl rfl rfl rfl (Keeps.refl _ s)
  | .copyPhaseAComplete at_ x => execCopyPhaseAComplete_keeps at_ x rfl rfl rfl rfl rfl rfl rfl rfl rfl (Keeps.refl _ s)
  | .copyTCut => execCopyTCut_keeps rfl (Keeps.refl _ s)
  | .copyImageInstalled at_ x => execCopyImageInstalled_keeps at_ x rfl rfl rfl rfl rfl rfl rfl rfl rfl (Keeps.refl _ s)
  | .copyComplete at_ => execCopyComplete_keeps at_ rfl rfl rfl (Keeps.refl _ s)
  | .copyTimeout => execCopyTimeout_keeps rfl rfl rfl (Keeps.refl _ s)
  | .swapFramesDrained at_ => execSwapFramesDrained_keeps at_ rfl rfl rfl rfl rfl rfl rfl rfl rfl rfl rfl rfl (Keeps.refl _ s)
  | .swapCheckExpiry => execSwapCheckExpiry_keeps rfl (Keeps.refl _ s)
  | .swapCheckFail at_ => execSwapCheckFail_keeps at_ rfl rfl rfl rfl (Keeps.refl _ s)
  | .scheduledSwap => execScheduledSwap_keeps rfl (Keeps.refl _ s)
  | .supplyInRange at_ tempC => execSupplyInRange_keeps at_ tempC rfl rfl rfl rfl rfl rfl rfl rfl rfl rfl rfl (Keeps.refl _ s)
  | .powerUpComplete at_ a => execPowerUpComplete_keeps at_ a rfl rfl rfl rfl rfl rfl rfl rfl rfl rfl rfl rfl rfl rfl rfl rfl rfl rfl rfl rfl rfl
    (Keeps.refl _ s)
  | .vinLoss at_ => execVinLoss_keeps at_ rfl rfl rfl rfl rfl rfl rfl rfl rfl rfl rfl (Keeps.refl _ s)
  | .resetNPulse at_ widthNs => execResetNPulse_keeps at_ widthNs rfl rfl rfl rfl rfl rfl rfl rfl rfl rfl rfl rfl rfl rfl rfl rfl rfl rfl rfl
    (Keeps.refl _ s)
  | .perstNAssert at_ => execPerstNAssert_keeps at_ rfl rfl rfl (Keeps.refl _ s)
  | .perstNRelease at_ => execPerstNRelease_keeps at_ rfl rfl (Keeps.refl _ s)
  | .wakeNEdge at_ => execWakeNEdge_keeps at_ rfl rfl (Keeps.refl _ s)
  | .stateTransitionComplete at_ => execStateTransitionComplete_keeps at_ rfl rfl rfl rfl rfl rfl rfl rfl rfl rfl rfl rfl rfl (Keeps.refl _ s)
  | .temperatureSample at_ tempC => execTemperatureSample_keeps at_ tempC rfl rfl rfl rfl rfl rfl rfl rfl rfl rfl rfl rfl (Keeps.refl _ s)
  | .islandWatchdogExpiry at_ isl real => execIslandWatchdogExpiry_keeps at_ isl real rfl rfl rfl rfl rfl rfl rfl rfl rfl rfl rfl rfl rfl rfl rfl
    rfl rfl rfl rfl (Keeps.refl _ s)
  | .railWindowFault at_ rail real => execRailWindowFault_keeps at_ rail real rfl rfl rfl rfl (Keeps.refl _ s)
  | .pllLockLoss at_ isl real => execPllLockLoss_keeps at_ isl real rfl rfl rfl rfl rfl rfl rfl rfl rfl rfl rfl rfl rfl rfl rfl rfl rfl rfl rfl
    (Keeps.refl _ s)
  | .cpmMarginLoss at_ isl real => execCpmMarginLoss_keeps at_ isl real rfl rfl rfl rfl rfl (Keeps.refl _ s)
  | .clockStretchEnd isl => execClockStretchEnd_keeps isl rfl rfl (Keeps.refl _ s)
  | .injectionFire slot => execInjectionFire_keeps slot rfl rfl rfl rfl rfl rfl rfl rfl rfl rfl rfl rfl rfl rfl rfl rfl rfl rfl rfl (Keeps.refl _ s)
  | .injectionSpanEnd slot => execInjectionSpanEnd_keeps slot rfl rfl (Keeps.refl _ s)
  | .injBitClear => execInjBitClear_keeps rfl rfl (Keeps.refl _ s)
  | .ptpMessageInterval p => execPtpMessageInterval_keeps p rfl rfl (Keeps.refl _ s)
  | .vioOutOfRange at_ => execVioOutOfRange_keeps at_ rfl rfl rfl (Keeps.refl _ s)
  | .vinAboveRange at_ => execVinAboveRange_keeps at_ rfl rfl (Keeps.refl _ s)
  | .pllRelock at_ isl => execPllRelock_keeps at_ isl rfl rfl rfl rfl rfl rfl rfl rfl rfl rfl rfl rfl (Keeps.refl _ s)
  | .alarmOutReadbackCheck at_ land real => execAlarmOutReadbackCheck_keeps at_ land real rfl rfl rfl (Keeps.refl _ s)
  | .rngHealthTest at_ fails => execRngHealthTest_keeps at_ fails rfl rfl rfl rfl (Keeps.refl _ s)

/-- Settles O49: a part outside the footprint may not change, and every command and event keeps to what it may change. -/
theorem partsOutsideTheFootprintStay : Obligations.PartsOutsideTheFootprintStay :=
  fun c s t _ hexec hout => (exec_keeps c s t hexec).same_part (allowOf_may_outside hout)

/-! ### Slots fire and end (R532, R537) -/

theorem State.advance_runs (s : State) (t : Instant) (isl : Nat) : (s.advance t).runs isl = s.runs isl := rfl

theorem State.advance_injAllowed (s : State) (t : Instant) : (s.advance t).injAllowed = s.injAllowed := rfl

/-- The module once the delay of slot `i` is over: the slot fires, until its duration is over too. -/
def State.slotFired (s : State) (i : Nat) : State :=
  (s.advanceUp (s.inj i).due).updInj i (fun y => { y with st := .firing, due := y.due + y.dur })

theorem State.slotFired_runs (s : State) (i isl : Nat) : (s.slotFired i).runs isl = s.runs isl := rfl

section
variable {i : Fin 8} {s : State}

theorem injSlotArm_allowed {a : Instant} {n : Fin 4} (h : s.injAllowed = true) :
    exec (.injSlotArm a i n) s = .next ((s.advance a).writeInjCtl i.val (setBit (s.reg (Reg.FLT_INJ_CTL i.val)) 31 true) n) :=
  congrArg Host.Outcome.next (if_pos ((s.advance_injAllowed a).trans h))

theorem injSlotDisarm_allowed {a : Instant} (h : s.injAllowed = true) :
    exec (.injSlotDisarm a i) s = .next ((s.advance a).disarmSlot i.val) :=
  congrArg Host.Outcome.next (if_pos ((s.advance_injAllowed a).trans h))

/-- An armed slot of a detector that waits for its own occasion only fires. -/
theorem injectionFire_waits (ha : (s.inj i.val).st = .armed) (hd : (s.inj i.val).det ∉ [4, 5, 6, 16]) :
    exec (.injectionFire i) s = .next (s.slotFired i.val) := by
  simp only [List.mem_cons, List.not_mem_nil, or_false, not_or] at hd
  obtain ⟨h4, h5, h6, h16⟩ := hd
  change execInjectionFire i s = _
  simp [execInjectionFire, State.slotFired, ha, h4, h5, h6, h16]

theorem injectionFire_heartbeat (ha : (s.inj i.val).st = .armed) (hd : (s.inj i.val).det = 4) :
    exec (.injectionFire i) s = .next ((s.slotFired i.val).expireHeartbeat false) := by
  change execInjectionFire i s = _
  simp [execInjectionFire, State.slotFired, ha, hd]

theorem injectionFire_kat (ha : (s.inj i.val).st = .armed) (hd : (s.inj i.val).det = 16) :
    exec (.injectionFire i) s = exec (.katRun (s.slotFired i.val).now 0#4) (s.slotFired i.val) := by
  change execInjectionFire i s = execKatRun (s.slotFired i.val).now 0#4 (s.slotFired i.val)
  simp [execInjectionFire, State.slotFired, ha, hd]

theorem injectionFire_sram (ha : (s.inj i.val).st = .armed) (hd : (s.inj i.val).det = 5 ∨ (s.inj i.val).det = 6)
    (hr : s.runs (sramOwner (s.inj i.val).target) = true) :
    exec (.injectionFire i) s = .next ((upto (s.inj i.val).left).foldl
      (fun (t : State) _ => t.sramRead ((s.inj i.val).det == 6) (s.inj i.val).target) (s.slotFired i.val)) := by
  have hr' : (s.slotFired i.val).runs (sramOwner (s.inj i.val).target) = true := (s.slotFired_runs i.val _).trans hr
  change execInjectionFire i s = _
  unfold State.slotFired at hr' ⊢
  rcases hd with hd | hd <;> simp [execInjectionFire, ha, hd, hr']

theorem injectionSpanEnd_firing (hf : (s.inj i.val).st = .firing) (hm : (s.inj i.val).mode = .span) :
    exec (.injectionSpanEnd i) s = .next ((s.advanceUp (s.inj i.val).due).updInj i.val (fun y => { y with st := .done })) := by
  change execInjectionSpanEnd i s = _
  simp [execInjectionSpanEnd, hf, hm]

theorem injBitClear_fired {u : Nat} (h : s.flt.lastFire = some u) :
    exec .injBitClear s = .next ((s.advanceUp (u + sec 1)).setFlt (fun f => { f with lastFire := none })) := by
  change execInjBitClear s = _
  simp only [execInjBitClear, h]

end

/-! ### Detectors meet their occasions (R11, R501, R521, R557) -/

/-- The check of a swap under way has failed; with no swap under way the module is as it was. -/
def State.spoilsSwapCheck (s : State) : State :=
  match s.pair.swap with
  | some (.checking _) => s.setPair (fun p => { p with swapBad := true })
  | _ => s

section
variable {a : Instant} {real inj : Bool} {s : State}

theorem fabricTimeout_occasion {isl : Fin 23} (hr : s.runs isl.val = true) (ho : ((s.advance a).occasion 0 isl.val real).1 = some inj) :
    exec (.fabricTimeout a isl real) s = .next (((((s.advance a).occasion 0 isl.val real).2.count Reg.AON_FAB_TIMEOUT 1).detect 0 inj 0
      [word isl.val]).abandonValue isl.val inj) := by
  change execFabricTimeout a isl real s = _
  simp [execFabricTimeout, State.advance_runs, hr, ho]

/-- What a crossing that is not acknowledged leaves: only a crossing to Accord loses its value. -/
theorem handshakeTimeout_occasion {snd rcv : Fin 23} (hr : s.runs snd.val = true)
    (ho : ((s.advance a).occasion 1 snd.val real).1 = some inj) :
    exec (.handshakeTimeout a snd rcv real) s = .next (
      if rcv.val = Isle.accord
      then (((s.advance a).occasion 1 snd.val real).2.detect 1 inj 0 [word snd.val, word rcv.val]).abandonValue snd.val inj
      else ((s.advance a).occasion 1 snd.val real).2.detect 1 inj 0 [word snd.val, word rcv.val]) := by
  change execHandshakeTimeout a snd rcv real s = _
  by_cases h : rcv.val = Isle.accord <;> simp [execHandshakeTimeout, State.advance_runs, hr, ho, h]

/-- A land that reads back wrong is detected, and fails the check of a swap under way. -/
theorem alarmOutReadbackCheck_occasion {land : Fin 8} (hr : s.runs Isle.atomizer = true)
    (ho : ((s.advance a).occasion 18 land.val real).1 = some inj) :
    exec (.alarmOutReadbackCheck a land real) s =
      .next (((s.advance a).occasion 18 land.val real).2.detect 18 inj 0 [word land.val]).spoilsSwapCheck := by
  change execAlarmOutReadbackCheck a land real s = _
  simp only [execAlarmOutReadbackCheck, State.advance_runs, hr, ho, Bool.not_true, Bool.false_eq_true, if_false]
  rfl

end

/-- Settles O37: each event by its equation above, a crossing by whether it goes to Accord. -/
theorem faultEventsComplete : Obligations.FaultEventsComplete :=
  ⟨fun _ _ _ _ => injSlotArm_allowed,
    fun _ _ _ => injSlotDisarm_allowed,
    fun _ _ => injectionFire_waits,
    fun _ _ => injectionFire_heartbeat,
    fun _ _ => injectionFire_kat,
    fun _ _ => injectionFire_sram,
    fun _ _ => injectionSpanEnd_firing,
    fun _ _ => injBitClear_fired,
    fun _ _ _ _ _ => fabricTimeout_occasion,
    fun _ _ _ _ _ _ hruns hother hocc => (handshakeTimeout_occasion hruns hocc).trans (by rw [if_neg hother]),
    fun _ _ _ _ _ _ hruns haccord hocc => (handshakeTimeout_occasion hruns hocc).trans (by rw [if_pos haccord]),
    fun _ _ _ _ _ => alarmOutReadbackCheck_occasion⟩

end Sys2Proof.Machine
end

section
/-! PROOFS. The statements of the family of the time base: fine time (O55), a reset of the Fixative island (O60), the transmit timestamps (O57), the
edges at the converters (O56), and the commands and events of the time base (O5 to O8). -/

namespace Sys2Proof.Machine

/-! ### Registers and bits read back -/

theorem bit_or (v w : Word) (n : Nat) : bit (v ||| w) n = (bit v n || bit w n) := BitVec.getLsbD_or

/-- A bit below a placed field or above it is clear. -/
theorem bit_put_outside {hi lo v n : Nat} (hl : lo ≤ hi) (h : hi < 32) (hn : n < lo ∨ hi < n) : bit (put hi lo v) n = false := by
  have hout : (decide (lo ≤ n) && decide (n ≤ hi)) = false := by
    rcases hn with hbelow | habove
    · rw [decide_eq_false (Nat.not_le.mpr hbelow), Bool.false_and]
    · rw [decide_eq_false (Nat.not_le.mpr habove), Bool.and_false]
  unfold bit
  rw [getLsbD_put hi lo v n hl h, hout, Bool.false_and]

theorem bit_putBit (n : Nat) (b : Bool) (h : n < 32) : bit (putBit n b) n = b := by
  unfold bit
  simp [getLsbD_putBit n b n h]

/-- A counter field raised reads one more, or all ones. -/
theorem State.rf_countFld {s : State} (a hi lo k : Nat) (h : canon resetWord s.regs = true) (hl : lo ≤ hi) (hh : hi < 32) :
    (s.countFld a hi lo k).rf a hi lo = min (2 ^ (hi + 1 - lo) - 1) (s.rf a hi lo + k) := by
  have hpos : 0 < 2 ^ (hi + 1 - lo) := Nat.two_pow_pos _
  unfold State.countFld
  rw [State.rf_setRf a hi lo _ h hl hh, Nat.mod_eq_of_lt (by omega)]

/-- A bit of a register set leaves a field of it that does not hold the bit. -/
theorem State.rf_setRb_ne {s : State} (a k hi lo : Nat) (b : Bool) (h : canon resetWord s.regs = true) (hk : k < 32) (hn : k < lo ∨ hi < k) :
    (s.setRb a k b).rf a hi lo = s.rf a hi lo := by
  unfold State.rf State.setRb
  rw [State.reg_setReg a _ h, fld_setBit_ne _ _ _ _ _ hk hn]

/-- A status bit raised leaves every other register but the interrupt status. -/
theorem State.reg_status_ne {s : State} {a b : Nat} (k : Nat) (hb : b ≠ a) (hi : b ≠ Reg.CMD_INT_STAT) : (s.status a k).reg b = s.reg b := by
  unfold State.status State.setRb
  rw [State.reg_vector_ne _ _ hi, State.reg_setReg_ne _ hb]

/-! ### Fine time (R27, R28) -/

/-- Settles O55: 2^40 divides 2^48 seconds in nanoseconds, so fine time is the nanosecond count whatever of the seconds wraps. -/
theorem fineTimeIsTheNanosecondCount : Obligations.FineTimeIsTheNanosecondCount := by
  refine ⟨fun t => ⟨?count, ?bound, ?wraps, fun f hf => ?fraction⟩, fun a b hab hba => ?difference⟩
  case count => simp only [fineOf, secsOf, nsecOf]; omega
  case bound => simp only [fineOf]; omega
  case wraps => simp only [fineOf, ns]; omega
  case fraction => simp only [fineOf, fracOf]; omega
  case difference => simp only [fineDiff, signed, fineOf, ns]; omega

/-! ### A reset of the Fixative island (R47) -/

/-- What a step of module time does to the other blocks leaves the time base. -/
theorem State.afterStep_time (s : State) : s.afterStep.time = s.time :=
  (State.afterStep_keeps (p_ := ⟨fun _ => false, false, fun _ => true, false⟩) rfl rfl rfl rfl rfl rfl (Keeps.refl _ s)).same.resolve_left
    Bool.false_ne_true

theorem State.foldl_setRb_time (f : Nat → Nat) (b : Nat) (v : Bool) (l : List Nat) (s : State) :
    (l.foldl (fun (t : State) n => t.setRb (f n) b v) s).time = s.time := by
  induction l generalizing s with
  | nil => rfl
  | cons n rest ih => exact ih _

/-- A reset of the Fixative island leaves the time base fresh, in the next epoch, but for the transmit timestamps already queued. -/
theorem State.resetFixative_time (s : State) (cause : Nat) :
    (s.resetFixative cause).time =
      { freshTime (s.time.epoch + 1#32) s.abandonRestep.beforeStep.time.up with txts := s.abandonRestep.beforeStep.time.txts } := by
  unfold State.resetFixative
  simp only [State.raise_time, State.afterStep_time, apply_ite State.time, State.setRf_time, ite_self, State.foldl_setRb_time,
    State.setTime_time, State.resetRegs_time]

theorem State.resetIsland_fixative (s : State) (cause : Nat) : s.resetIsland Isle.fixative cause = s.resetFixative cause := rfl

theorem State.degraded_of_not_locked {s : State} (h : s.time.servo ≠ .locked) : s.degraded = true := by
  simp [State.degraded, h]

/-- Settles O60: the time base after the reset is a fresh one. -/
theorem fixativeResetStartsTimeAtZero : Obligations.FixativeResetStartsTimeAtZero := by
  refine ⟨fun s cause => ?_, rfl, rfl, fun _ => State.degraded_of_not_locked⟩
  have htime := s.resetFixative_time cause
  have hservo : (s.resetFixative cause).time.servo = .freerun := by rw [htime]; rfl
  rw [State.resetIsland_fixative]
  exact ⟨by rw [htime]; rfl, hservo, State.degraded_of_not_locked (by simp [hservo])⟩

/-! ### Reads of the transmit timestamps (R66) -/

section
variable {s : State} {e : TxStamp} {rest : List TxStamp}

/-- The word that a read of TB_TXTS_ID returns for an entry. -/
def txtsWord (p : Nat) (e : TxStamp) : Word := putBit 31 true ||| putBit 30 e.epochLsb ||| put 19 16 p ||| put 15 0 e.frameId.toNat

theorem txtsWord_valid (p : Nat) (e : TxStamp) : bit (txtsWord p e) 31 = true := by
  simp [txtsWord, bit_or, bit_putBit]

theorem txtsWord_frameId (p : Nat) (e : TxStamp) : fld (txtsWord p e) 15 0 = e.frameId.toNat :=
  fld_eq_of_bits e.frameId.isLt fun i hi => by
    unfold txtsWord
    simp only [BitVec.getLsbD_or, getLsbD_putBit _ _ _ (by decide : 31 < 32), getLsbD_putBit _ _ _ (by decide : 30 < 32),
      getLsbD_put 19 16 _ _ (by decide) (by decide), getLsbD_put 15 0 _ _ (by decide) (by decide)]
    simp [show i ≠ 31 by omega, show i ≠ 30 by omega, show ¬ 16 ≤ i by omega, show i ≤ 15 by omega]

theorem State.readTxts_nil {n : Nat} (h : (s.time.txts[n]?).getD [] = []) : s.readTxts n = (put 19 16 n, s) := by
  simp [State.readTxts, h]

/-- The three registers beside TB_TXTS_ID with the time of an entry. -/
def State.copyTxts (s : State) (n : Nat) (t : Instant) : State :=
  ((s.setReg (Reg.TB_TXTS_NS n) (word (nsecOf t))).setReg (Reg.TB_TXTS_SEC_LO n) (word (secsOf t))).setReg
    (Reg.TB_TXTS_SEC_HI n) (word (secsOf t / 2 ^ 32))

theorem State.readTxts_cons {n : Nat} (h : s.time.txts[n]? = some (e :: rest)) :
    s.readTxts n = (txtsWord n e, (s.copyTxts n e.at_).setTime (fun t => { t with txts := updAt t.txts n (fun _ => rest) })) := by
  simp [State.readTxts, h, txtsWord, State.copyTxts]

theorem State.reg_copyTxts (n : Nat) (t : Instant) (h : canon resetWord s.regs = true) :
    (s.copyTxts n t).reg (Reg.TB_TXTS_NS n) = word (nsecOf t) ∧ (s.copyTxts n t).reg (Reg.TB_TXTS_SEC_LO n) = word (secsOf t) ∧
      (s.copyTxts n t).reg (Reg.TB_TXTS_SEC_HI n) = word (secsOf t / 2 ^ 32) := by
  have hnsLo : Reg.TB_TXTS_NS n ≠ Reg.TB_TXTS_SEC_LO n := by simp only [Reg.TB_TXTS_NS, Reg.TB_TXTS_SEC_LO]; omega
  have hnsHi : Reg.TB_TXTS_NS n ≠ Reg.TB_TXTS_SEC_HI n := by simp only [Reg.TB_TXTS_NS, Reg.TB_TXTS_SEC_HI]; omega
  have hloHi : Reg.TB_TXTS_SEC_LO n ≠ Reg.TB_TXTS_SEC_HI n := by simp only [Reg.TB_TXTS_SEC_LO, Reg.TB_TXTS_SEC_HI]; omega
  have hcanon := canon_store (Reg.TB_TXTS_NS n) (word (nsecOf t)) h
  unfold State.copyTxts
  refine ⟨?_, ?_, State.reg_setReg _ _ (canon_store _ _ hcanon)⟩
  · rw [State.reg_setReg_ne _ hnsHi, State.reg_setReg_ne _ hnsLo, State.reg_setReg _ _ h]
  · rw [State.reg_setReg_ne _ hloHi, State.reg_setReg _ _ hcanon]

/-- Settles O57: the empty queue and a queue with an oldest entry. -/
theorem txtsReadTakesTheOldest : Obligations.TxtsReadTakesTheOldest := by
  rintro a p s ⟨hbank, -, -⟩
  refine ⟨fun hnone => ?empty, fun e rest hsome => ?entry⟩
  case empty =>
    refine ⟨put 19 16 p.val, bit_put_outside (by decide) (by decide) (Or.inr (by decide)), ?_⟩
    exact congrArg (fun r => Host.Outcome.next (State.returning r)) (State.readTxts_nil (s := s.advance a) hnone)
  case entry =>
    obtain ⟨hns, hlo, hhi⟩ := State.reg_copyTxts (s := s.advance a) p.val e.at_ hbank
    refine ⟨State.returning ((s.advance a).readTxts p.val), txtsWord p.val e, rfl, ?_⟩
    rw [State.readTxts_cons (s := s.advance a) hsome]
    refine ⟨rfl, txtsWord_valid _ _, txtsWord_frameId _ _, ?_, hns, hlo, hhi⟩
    change (updAt s.time.txts p.val fun _ => rest)[p.val]? = some rest
    rw [getElem_updAt, hsome, Option.map_some]

end

/-! ### Edges at the converters (R62, R63) -/

section
variable {s : State} {n : Nat}

theorem State.tdcOf_updTdc (f : Tdc → Tdc) (h : n < s.time.tdc.length) : (s.updTdc n f).tdcOf n = f (s.tdcOf n) := by
  unfold State.tdcOf State.updTdc
  simp [getElem_updAt, h]

theorem State.tdcOf_of_tdc {t : State} (h : t.time.tdc = s.time.tdc) (n : Nat) : t.tdcOf n = s.tdcOf n := by
  unfold State.tdcOf; rw [h]

/-- Module time at the last step of 1/128 ns. -/
def State.stampNow (s : State) : Instant := s.now / 512 * 512

theorem State.stampNow_spec (s : State) : s.stampNow % 512 = 0 ∧ s.stampNow ≤ s.now ∧ s.now < s.stampNow + 512 :=
  ⟨Nat.mul_mod_left _ _, Nat.div_mul_le_self _ _, Nat.lt_div_mul_add (by decide)⟩

/-- The converter with the present edge stamped, blind for 20 ns. -/
def State.converted (s : State) (n : Nat) : State :=
  s.updTdc n (fun c => { c with last := some s.stampNow, fresh := true, blind := s.up + ns 20 })

theorem State.stampEdge_blind (h : s.up < (s.tdcOf n).blind) : s.stampEdge n = (s.countFld (Reg.TB_TDC_STAT n) 15 0 1, none) := by
  simp [State.stampEdge, h]

/-- An edge that is not a TRIG_IN input's is stamped and held by nothing else. -/
theorem State.stampEdge_clock (h : (s.tdcOf n).blind ≤ s.up) (hn : 4 ≤ n) : s.stampEdge n = (s.converted n, some s.stampNow) := by
  simp [State.stampEdge, State.converted, State.stampNow, Nat.not_lt.mpr h, Nat.not_lt.mpr hn]

theorem State.stampEdge_room (h : (s.tdcOf n).blind ≤ s.up) (hn : n < 4) (hq : (s.tdcOf n).queue.length < 16) :
    s.stampEdge n = ((s.converted n).updTdc n (fun c => { c with queue := c.queue ++ [s.stampNow] }), some s.stampNow) := by
  simp [State.stampEdge, State.converted, State.stampNow, Nat.not_lt.mpr h, hn, hq]

theorem State.stampEdge_full (h : (s.tdcOf n).blind ≤ s.up) (hn : n < 4) (hq : 16 ≤ (s.tdcOf n).queue.length) :
    s.stampEdge n = (((((s.converted n).countFld (Reg.TB_TDC_STAT n) 15 0 1).setRb (Reg.TB_TDC_STAT n) 31 true).status Reg.TB_STAT 3),
      some s.stampNow) := by
  simp [State.stampEdge, State.converted, State.stampNow, Nat.not_lt.mpr h, hn, Nat.not_lt.mpr hq]

/-- What an edge within the blind time leaves at its converter, with the lost edge counted. -/
def EdgeLost (s t : State) (n : Nat) : Prop :=
  t.tdcOf n = s.tdcOf n ∧ t.rf (Reg.TB_TDC_STAT n) 15 0 = min 65535 (s.rf (Reg.TB_TDC_STAT n) 15 0 + 1)

/-- What an accepted edge leaves at its converter: the stamp, the blind time, and the queue of TDC0 to TDC3. -/
def EdgeStamped (s t : State) (n : Nat) : Prop :=
  ∃ x, (t.tdcOf n).last = some x ∧ x % 512 = 0 ∧ x ≤ s.now ∧ s.now < x + 512 ∧ (t.tdcOf n).blind = s.up + ns 20 ∧
    (n < 4 → (s.tdcOf n).queue.length < 16 → (t.tdcOf n).queue = (s.tdcOf n).queue ++ [x]) ∧
    (n < 4 → 16 ≤ (s.tdcOf n).queue.length → (t.tdcOf n).queue = (s.tdcOf n).queue ∧ t.rb (Reg.TB_TDC_STAT n) 31 = true ∧
      t.rf (Reg.TB_TDC_STAT n) 15 0 = min 65535 (s.rf (Reg.TB_TDC_STAT n) 15 0 + 1))

theorem State.stampEdge_lost (hbank : canon resetWord s.regs = true) (h : s.up < (s.tdcOf n).blind) : EdgeLost s (s.stampEdge n).1 n := by
  rw [State.stampEdge_blind h]
  exact ⟨rfl, State.rf_countFld _ 15 0 1 hbank (by decide) (by decide)⟩

/-- A stamp dropped at a full queue is counted, and ovf sets. -/
theorem State.stat_dropped {k : Nat} (hbank : canon resetWord s.regs = true) :
    let t := ((s.countFld (Reg.TB_TDC_STAT n) 15 0 1).setRb (Reg.TB_TDC_STAT n) 31 true).status Reg.TB_STAT k
    n < 4 → t.rb (Reg.TB_TDC_STAT n) 31 = true ∧ t.rf (Reg.TB_TDC_STAT n) 15 0 = min 65535 (s.rf (Reg.TB_TDC_STAT n) 15 0 + 1) := by
  intro t hn
  have hcounted : canon resetWord (s.countFld (Reg.TB_TDC_STAT n) 15 0 1).regs = true := canon_store _ _ hbank
  have hreg : t.reg (Reg.TB_TDC_STAT n) =
      ((s.countFld (Reg.TB_TDC_STAT n) 15 0 1).setRb (Reg.TB_TDC_STAT n) 31 true).reg (Reg.TB_TDC_STAT n) :=
    State.reg_status_ne k (by simp only [Reg.TB_TDC_STAT, Reg.TB_STAT]; omega) (by simp only [Reg.TB_TDC_STAT, Reg.CMD_INT_STAT]; omega)
  constructor
  · exact (congrArg (bit · 31) hreg).trans (State.rb_setRb _ 31 true hcounted (by decide))
  · calc t.rf (Reg.TB_TDC_STAT n) 15 0
        = ((s.countFld (Reg.TB_TDC_STAT n) 15 0 1).setRb (Reg.TB_TDC_STAT n) 31 true).rf (Reg.TB_TDC_STAT n) 15 0 := congrArg (fld · 15 0) hreg
      _ = (s.countFld (Reg.TB_TDC_STAT n) 15 0 1).rf (Reg.TB_TDC_STAT n) 15 0 :=
          State.rf_setRb_ne _ 31 15 0 true hcounted (by decide) (Or.inr (by decide))
      _ = min 65535 (s.rf (Reg.TB_TDC_STAT n) 15 0 + 1) := State.rf_countFld _ 15 0 1 hbank (by decide) (by decide)

/-- A converter with the present edge stamped, whatever its queue holds then. -/
theorem EdgeStamped.of_tdcOf {t : State} {q : List Instant}
    (htdc : t.tdcOf n = ⟨q, some s.stampNow, true, s.up + ns 20⟩)
    (hroom : n < 4 → (s.tdcOf n).queue.length < 16 → q = (s.tdcOf n).queue ++ [s.stampNow])
    (hfull : n < 4 → 16 ≤ (s.tdcOf n).queue.length → q = (s.tdcOf n).queue ∧ t.rb (Reg.TB_TDC_STAT n) 31 = true ∧
      t.rf (Reg.TB_TDC_STAT n) 15 0 = min 65535 (s.rf (Reg.TB_TDC_STAT n) 15 0 + 1)) : EdgeStamped s t n := by
  obtain ⟨hstep, hle, hlt⟩ := s.stampNow_spec
  unfold EdgeStamped
  rw [htdc]
  exact ⟨s.stampNow, rfl, hstep, hle, hlt, rfl, hroom, hfull⟩

theorem State.stampEdge_stamped (hbank : canon resetWord s.regs = true) (hlen : n < s.time.tdc.length) (h : (s.tdcOf n).blind ≤ s.up) :
    EdgeStamped s (s.stampEdge n).1 n := by
  have hconv : (s.converted n).tdcOf n = ⟨(s.tdcOf n).queue, some s.stampNow, true, s.up + ns 20⟩ := State.tdcOf_updTdc _ hlen
  by_cases hn : n < 4
  · by_cases hq : (s.tdcOf n).queue.length < 16
    case pos =>
      have hlen' : n < (s.converted n).time.tdc.length := Nat.lt_of_lt_of_eq hlen (updAt_length _ _ _).symm
      rw [State.stampEdge_room h hn hq]
      refine EdgeStamped.of_tdcOf ((State.tdcOf_updTdc _ hlen').trans ?_) (fun _ _ => rfl) (fun _ hfull => absurd hq (Nat.not_lt.mpr hfull))
      rw [hconv]
    case neg =>
      rw [State.stampEdge_full h hn (Nat.not_lt.mp hq)]
      exact EdgeStamped.of_tdcOf ((State.tdcOf_of_tdc (by simp) n).trans hconv) (fun _ hroom => absurd hroom hq)
        (fun _ _ => ⟨rfl, State.stat_dropped (s := s.converted n) hbank hn⟩)
  · rw [State.stampEdge_clock h (Nat.not_lt.mp hn)]
    exact EdgeStamped.of_tdcOf hconv (fun h4 => absurd h4 hn) (fun h4 => absurd h4 hn)

end

/-! ### An edge at its converter, and the edges of PPS_IN (R38, R42, R344) -/

section
variable {s u : State} {a : Instant} {r : Bool} {w : Nat}

theorem State.ppsEdge_early {v : Nat} (hr : r ≠ u.rb Reg.TB_TOD_CTL 2) (hw : 100 ≤ w) (hen : u.rb Reg.TB_CTL 3 = true)
    (hlast : u.time.ppsIn = some v) (h : u.up < v + ms 900) : u.ppsEdge r w = u.countFld Reg.TB_SRC_STAT 23 16 1 := by
  simp [State.ppsEdge, hr, Nat.not_lt.mpr hw, hen, hlast, h]

/-- What an edge of PPS_IN leaves: where its converter stamped it, the edge and its stamp are remembered. -/
def State.ppsStamped (x : State × Option Instant) : State :=
  match x.2 with
  | some t => x.1.setTime (fun y => { y with ppsIn := some y.up, ppsStamp := some t })
  | none => x.1

theorem State.ppsEdge_stamps (hr : r ≠ u.rb Reg.TB_TOD_CTL 2) (hw : 100 ≤ w) (hen : u.rb Reg.TB_CTL 3 = true)
    (hlast : ∀ v, u.time.ppsIn = some v → v + ms 900 ≤ u.up) : u.ppsEdge r w = State.ppsStamped (u.stampEdge 4) := by
  unfold State.ppsEdge
  rw [if_neg (by simp [hr, Nat.not_lt.mpr hw, hen]), if_neg]
  · rfl
  · cases hp : u.time.ppsIn with
    | none => exact Bool.false_ne_true
    | some v => simpa using hlast v hp

theorem State.ppsStamped_regs (x : State × Option Instant) : (State.ppsStamped x).regs = x.1.regs := by
  unfold State.ppsStamped; split <;> rfl

theorem State.ppsStamped_tdc (x : State × Option Instant) : (State.ppsStamped x).time.tdc = x.1.time.tdc := by
  unfold State.ppsStamped; split <;> rfl

/-- What an edge at another converter leaves: where it was stamped, the capture units take an edge of TRIG_IN, and IRIG-B one of TOD_IN. -/
def State.edgeStamped (n : Nat) (r : Bool) (x : State × Option Instant) : State :=
  match x.2 with
  | some t => if n < 4 then x.1.trigEdge n r t else x.1.keepIrigEdge r t
  | none => x.1

theorem State.trigEdge_same (n : Nat) (r : Bool) (t : Instant) (s : State) :
    (s.trigEdge n r t).regs = s.regs ∧ (s.trigEdge n r t).time = s.time := by
  unfold State.trigEdge; split <;> exact ⟨rfl, rfl⟩

theorem State.keepIrigEdge_same (r : Bool) (t : Instant) (s : State) :
    (s.keepIrigEdge r t).regs = s.regs ∧ (s.keepIrigEdge r t).time.tdc = s.time.tdc := by
  unfold State.keepIrigEdge; split <;> exact ⟨rfl, rfl⟩

theorem State.edgeStamped_same (n : Nat) (r : Bool) (x : State × Option Instant) :
    (State.edgeStamped n r x).regs = x.1.regs ∧ (State.edgeStamped n r x).time.tdc = x.1.time.tdc := by
  rcases x with ⟨t, _ | i⟩
  · exact ⟨rfl, rfl⟩
  · by_cases hn : n < 4
    · obtain ⟨hregs, htime⟩ := State.trigEdge_same n r i t
      simpa [State.edgeStamped, hn, hregs] using congrArg TimePart.tdc htime
    · simpa [State.edgeStamped, hn] using State.keepIrigEdge_same r i t

/-- The module at the instant of an edge at a converter: at TDC0 to TDC3 the level of the input has changed. -/
def State.atEdge (s : State) (a : Instant) (n : Nat) (r : Bool) : State := if n < 4 then (s.advance a).trigLevel n r else s.advance a

theorem State.atEdge_same (s : State) (a : Instant) (n : Nat) (r : Bool) :
    (s.atEdge a n r).regs = s.regs ∧ (s.atEdge a n r).time.tdc = s.time.tdc := by
  unfold State.atEdge; split <;> exact ⟨rfl, rfl⟩

theorem tdcEdgeStamp_pps (hruns : (s.advance a).runs Isle.fixative = true) :
    exec (.tdcEdgeStamp a 4 r) s = .next ((s.advance a).ppsEdge r 100) := by
  have hon : ¬ (!(s.advance a).runs Isle.fixative) = true := by rw [hruns]; exact Bool.false_ne_true
  change execTdcEdgeStamp a 4 r s = _
  exact (if_neg hon).trans (if_pos rfl)

theorem tdcEdgeStamp_converter {n : Fin 6} (hn : n.val ≠ 4) (hruns : (s.atEdge a n.val r).runs Isle.fixative = true)
    (hen : (s.atEdge a n.val r).rb Reg.TB_CTL 3 = true) (hsel : n.val < 4 → (s.atEdge a n.val r).edgeSelected n.val r = true) :
    exec (.tdcEdgeStamp a n r) s = .next (State.edgeStamped n.val r ((s.atEdge a n.val r).stampEdge n.val)) := by
  have hat : (if n.val < 4 then (s.advance a).trigLevel n.val r else s.advance a) = s.atEdge a n.val r := rfl
  have htakes : (n.val == 5 || (s.atEdge a n.val r).edgeSelected n.val r) = true := by
    by_cases h4 : n.val < 4
    · rw [hsel h4, Bool.or_true]
    · rw [show n.val = 5 by omega]; rfl
  change execTdcEdgeStamp a n r s = _
  simp only [execTdcEdgeStamp, hat, hruns, hn, hen, htakes, State.edgeStamped, Bool.not_true, Bool.false_eq_true, Bool.and_true, if_false, if_true]
  cases ((s.atEdge a n.val r).stampEdge n.val).2 <;> rfl

/-- Whichever input it comes from, an edge taken leaves the converters and the registers as its stamp leaves them. -/
theorem tdcEdgeStamp_converts {n : Fin 6} (hu : u = s.atEdge a n.val r) (hruns : u.runs Isle.fixative = true)
    (hen : u.rb Reg.TB_CTL 3 = true) (hsel : n.val < 4 → u.edgeSelected n.val r = true)
    (hpps : n.val = 4 → r ≠ u.rb Reg.TB_TOD_CTL 2 ∧ ∀ v, u.time.ppsIn = some v → v + ms 900 ≤ u.up) :
    ∃ t, exec (.tdcEdgeStamp a n r) s = .next t ∧ t.regs = (u.stampEdge n.val).1.regs ∧ t.time.tdc = (u.stampEdge n.val).1.time.tdc := by
  by_cases hn : n.val = 4
  · obtain rfl : n = 4 := Fin.ext hn
    obtain rfl : u = s.advance a := hu
    obtain ⟨hsense, hlast⟩ := hpps rfl
    exact ⟨_, (tdcEdgeStamp_pps hruns).trans (congrArg _ (State.ppsEdge_stamps hsense (Nat.le_refl 100) hen hlast)),
      State.ppsStamped_regs _, State.ppsStamped_tdc _⟩
  · subst hu
    obtain ⟨hsameRegs, hsameTdc⟩ := State.edgeStamped_same n.val r ((s.atEdge a n.val r).stampEdge n.val)
    exact ⟨_, tdcEdgeStamp_converter hn hruns hen hsel, hsameRegs, hsameTdc⟩

/-- Settles O56: an edge leaves at its converter what its stamp leaves there, within the blind time and after it. -/
theorem convertersStampEdges : Obligations.ConvertersStampEdges := by
  rintro a n r s u ⟨hbank, -, hconv⟩ hu hruns hen hsel hpps
  replace hu : u = s.atEdge a n.val r := hu
  obtain ⟨t, hexec, htregs, httdc⟩ := tdcEdgeStamp_converts hu hruns hen hsel hpps
  obtain ⟨hregs, htdc⟩ := s.atEdge_same a n.val r
  rw [← hu] at hregs htdc
  have hubank : canon resetWord u.regs = true := hregs ▸ hbank
  have hulen : n.val < u.time.tdc.length := by rw [htdc, hconv]; exact n.isLt
  have hreg := State.reg_of_regs htregs
  have hconverter := State.tdcOf_of_tdc httdc n.val
  refine ⟨t, hexec, fun hblind => ?lost, fun hready => ?stamped⟩
  case lost =>
    have h := State.stampEdge_lost hubank hblind
    simpa only [EdgeLost, State.rf, ← hconverter, ← hreg] using h
  case stamped =>
    have h := State.stampEdge_stamped hubank hulen hready
    simpa only [EdgeStamped, State.rf, State.rb, ← hconverter, ← hreg] using h

end

/-! ### The commands of the time base (Table 2-10) -/

theorem bodyTimeRestep_allowed {h : Hdr} {s : State} (hnone : s.time.restep = none)
    (hservo : (s.time.servo = .acquire ∧ s.time.stepped = true) ∨ s.time.servo = .locked ∨ s.time.servo = .discont) :
    bodyTimeRestep h s = .accepted (s.setTime (fun t => { t with
      restep := some ⟨h.session, h.seq, ((s.flight? h.session h.seq).bind (·.chosen)).getD s.restepSecond⟩ })) := by
  rcases hservo with ⟨hacquire, hstepped⟩ | hlocked | hdiscont
  · simp [bodyTimeRestep, hnone, hacquire, hstepped]
  · simp [bodyTimeRestep, hnone, hlocked]
  · simp [bodyTimeRestep, hnone, hdiscont]

/-- The priority list set, and REF_IN's frequency where it is given. -/
def State.setSources (s : State) (p : TimeSourcesArgs) : State :=
  match p.refFreq with
  | some b => (s.setRf Reg.TB_SRC_CTL 23 0 p.prio.toNat).setRb Reg.TB_SRC_CTL 28 b
  | none => s.setRf Reg.TB_SRC_CTL 23 0 p.prio.toNat

/-- Codes 0xD and 0xE name no source; a list without them is taken. -/
theorem bodyTimeSources_named {p : TimeSourcesArgs} {s : State}
    (h : ∀ i < 6, p.prio.toNat / 16 ^ i % 16 ≠ 13 ∧ p.prio.toNat / 16 ^ i % 16 ≠ 14) :
    bodyTimeSources p s = ok [] (s.setSources p).reselect := by
  have hnamed : (upto 6).any (fun i => p.prio.toNat / 16 ^ i % 16 == 13 || p.prio.toNat / 16 ^ i % 16 == 14) = false := by
    simpa [upto, List.any_eq_false] using h
  exact if_neg (by simp only [hnamed, Bool.false_eq_true, not_false_eq_true])

theorem bodyTimeOutputs_unlocked {p : TimeOutputsArgs} {s : State} (h : s.rb Reg.TB_CTL 31 = false ∨ p.outEn = s.rb Reg.TB_CTL 2) :
    bodyTimeOutputs p s = ok [] ((s.setReg Reg.TB_OUT_CTL
      (put 8 0 (min 500 p.ppsWidth) ||| putBit 9 p.ppsFree ||| putBit 10 p.todEn ||| put 13 12 p.todBaud.val)).setRb Reg.TB_CTL 2 p.outEn) := by
  rcases h with h | h <;> simp [bodyTimeOutputs, h]

theorem bodyTimeServo_inRange {p : TimeServoArgs} {s : State} (hlock : p.lockNs ≤ 255) (hdrift : p.driftPs < 2 ^ 24) :
    bodyTimeServo p s = ok [] (((s.setRf Reg.TB_SERVO_CTL 8 0 (min 500 p.bwMhz)).setRf Reg.TB_DISC_CTL 27 20 p.lockNs).setRf
      Reg.TB_HOLD_CTL 23 0 p.driftPs) :=
  if_neg (by simpa [Nat.not_lt.mpr hlock] using hdrift)

theorem bodyTimeDiscontCfg_inRange {p : TimeDiscontArgs} {s : State} (h : p.confirm ≤ 7) :
    bodyTimeDiscontCfg p s = ok [] (((s.setRf Reg.TB_DISC_CTL 19 0 (min 1000000 p.stepThresh)).setRf Reg.TB_DISC_CTL 30 28 p.confirm).setRb
      Reg.TB_DISC_CTL 31 p.hold) :=
  if_neg (Nat.not_lt.mpr h)

/-- The data sets given, and a port's asymmetry where it is given. -/
def State.setPtpDs (s : State) (p : TimePtpDsArgs) : State :=
  let t := s.setTime (fun t => { t with
    clockDS := p.clock.getD t.clockDS, timesDS := p.times.getD t.timesDS
    ptp := updAt t.ptp p.port.val (fun x => { x with ds := p.ds.getD x.ds }) })
  (p.asym.map (fun v => t.setRf (Reg.TB_PORT_ASYM p.port.val) 15 0 v.toNat)).getD t

theorem bodyTimePtpDs_sets (p : TimePtpDsArgs) (s : State) :
    bodyTimePtpDs p s = ok ((s.setPtpDs p).ptpWords p.port.val) (s.setPtpDs p) := by
  unfold bodyTimePtpDs State.setPtpDs
  cases p.asym <;> rfl

/-- Settles O5, command by command: each body ends in its effect under the stated conditions. -/
theorem timeCommandsComplete : Obligations.TimeCommandsComplete := by
  refine ⟨fun h => ?status, fun h p => ?profile, fun h => ?restep, fun h p => ?sources, fun h p => ?outputs, fun h p => ?servo,
    fun h p => ?discont, fun h p => ?ptpDs⟩
  case status => exact reads_of (fun _ => rfl) (fun _ => ⟨_, rfl⟩)
  case profile => exact performs_of (fun _ => rfl) (fun _ _ => ⟨[], rfl⟩)
  case restep =>
    refine accepts_of (fun _ => rfl) ?_ (fun _ => rfl)
    rintro n ⟨hnone, hservo⟩
    exact bodyTimeRestep_allowed hnone hservo
  case sources => exact performs_of (fun _ => rfl) (fun _ hnamed => ⟨[], bodyTimeSources_named hnamed⟩)
  case outputs => exact performs_of (fun _ => rfl) (fun _ hunlocked => ⟨[], bodyTimeOutputs_unlocked hunlocked⟩)
  case servo =>
    refine performs_of (fun _ => rfl) ?_
    rintro n ⟨hlock, hdrift⟩
    exact ⟨[], bodyTimeServo_inRange hlock hdrift⟩
  case discont => exact performs_of (fun _ => rfl) (fun _ hconfirm => ⟨[], bodyTimeDiscontCfg_inRange hconfirm⟩)
  case ptpDs => exact performs_of (fun _ => rfl) (fun n _ => ⟨_, bodyTimePtpDs_sets p n⟩)

/-! ### The events of the time sources and of the timing outputs -/

section
variable {s : State} {a : Instant} {r : Bool} {w : Nat}

theorem servoMeasurement_runs {m : Measurement} (h : (s.advance a).runs Isle.fixative = true) :
    exec (.servoMeasurement a m) s = .next ((s.advance a).servoMeasure m) :=
  congrArg Host.Outcome.next (if_pos h)

theorem sourceUnqualifyTimeout_due {c : Fin 13} {u : Nat} (h : (s.srcQual c.val).due = some u) :
    exec (.sourceUnqualifyTimeout c) s = .next ((s.advanceUp u).unqualify c.val) := by
  change execSourceUnqualifyTimeout c s = _
  rw [execSourceUnqualifyTimeout, h]

/-- The instant of module time at which a TIME_RESTEP takes effect for a second of source time. -/
def State.restepInstant (s : State) (second : Instant) : Instant := ((second : Int) + s.time.lead).toNat

/-- The module after a pending TIME_RESTEP has stepped it. -/
def State.resteppedTo (s : State) (second : Instant) : State :=
  (((s.advance (s.restepInstant second)).setTime (fun t => { t with restep := none })).stepTo second).setServo .acquire

/-- How far a TIME_RESTEP steps module time. -/
def State.restepSize (s : State) (second : Instant) : Int := (second : Int) - ((s.advance (s.restepInstant second)).now : Int)

theorem restepTake_pending {p : Restep} (h : s.time.restep = some p) :
    exec .restepTake s = .next ((s.resteppedTo p.second).complete p.session p.seq St.OK
      ([(s.resteppedTo p.second).time.epoch] ++ int64Words (s.restepSize p.second / 65536) ++ [word (unsign 16 (s.restepSize p.second))] ++
        instantWords p.second)) := by
  change execRestepTake s = _
  rw [execRestepTake, h]
  rfl

theorem leapSecondEnd_pending {dir : Int} {l : Instant} (h : s.time.leap = some (dir, l)) :
    exec .leapSecondEnd s = .next (((s.advance l).setRf Reg.TB_UTC_CTL 7 0 (unsign 8 (s.utcOffset + dir))).setTime
      (fun t => { t with leap := none })) := by
  change execLeapSecondEnd s = _
  rw [execLeapSecondEnd, h]
  rfl

theorem ppsInEdge_runs (h : (s.advance a).runs Isle.fixative = true) : exec (.ppsInEdge a r w) s = .next ((s.advance a).ppsEdge r w) :=
  congrArg Host.Outcome.next (if_pos h)

theorem todSentenceReceive_accepted {m : TodSentence} {u sc : Nat} {utc leap : Int} {tq : BitVec 8}
    (hruns : (s.advance a).runs Isle.fixative = true) (hmode : (s.advance a).todMode = 1) (hpps : s.time.ppsIn = some u)
    (hafter : u + ms 10 ≤ (s.advance a).up) (hbefore : (s.advance a).up ≤ u + ms 900) (hform : readTod m.chars = some (sc, utc, leap, tq)) :
    exec (.todSentenceReceive a m) s = .next ((s.advance a).takeSentence sc utc leap tq) := by
  have hpps' : (s.advance a).time.ppsIn = some u := hpps
  change execTodSentenceReceive a m s = _
  simp [execTodSentenceReceive, hruns, hmode, hpps', hafter, hbefore, hform]

theorem irigFrameReceive_good {f : IrigFrame} (hruns : (s.advance a).runs Isle.fixative = true) (hmode : (s.advance a).todMode = 2)
    (hparity : f.ieee1344 = true → f.parityOk = true) : exec (.irigFrameReceive a f) s = .next ((s.advance a).takeIrig f) := by
  have hgood : (f.ieee1344 && !f.parityOk) = false := by
    cases he : f.ieee1344 with
    | false => rfl
    | true => rw [hparity he]; rfl
  change execIrigFrameReceive a f s = _
  simp [execIrigFrameReceive, hruns, hmode, hgood]

theorem ppsOutPulse_driven (hruns : s.runs Isle.fixative = true) (hallowed : (s.advance s.nextSecond).ppsAllowed = true) :
    exec .ppsOutPulse s = .next ((s.advance s.nextSecond).setTime (fun t => { t with
      ppsOutLast := some t.now, ppsOutEnd := some (t.up + ms (s.advance s.nextSecond).ppsWidth) })) :=
  if_pos (Bool.and_eq_true_iff.mpr ⟨hruns, hallowed⟩)

theorem todSentenceSend_described {e : Instant} (hedge : s.time.ppsOutLast = some e) (hunsent : s.time.todSent ≠ some e)
    (htod : s.rb Reg.TB_OUT_CTL 10 = true) (hout : s.rb Reg.TB_CTL 2 = true) (hruns : s.runs Isle.fixative = true) :
    exec .todSentenceSend s = .next ((s.advance (e + ms 20)).setTime (fun t => { t with
      todSent := some e, todOut := t.todOut ++ [(s.advance (e + ms 20)).todSentence e] })) := by
  change execTodSentenceSend s = _
  simp [execTodSentenceSend, hedge, hunsent, htod, hout, hruns]

end

/-- Settles O6, event by event; an edge of PPS_IN by whether it comes within 900 ms of the last accepted one. -/
theorem timeSourceEventsComplete : Obligations.TimeSourceEventsComplete :=
  ⟨fun _ _ _ => servoMeasurement_runs,
    fun _ _ _ => sourceUnqualifyTimeout_due,
    fun _ _ => restepTake_pending,
    fun _ _ _ => leapSecondEnd_pending,
    fun _ _ _ _ hruns hsense hwide hen hspaced =>
      (ppsInEdge_runs hruns).trans (congrArg Host.Outcome.next (State.ppsEdge_stamps hsense hwide hen hspaced)),
    fun _ _ _ _ _ hruns hsense hwide hen hlast hearly =>
      (ppsInEdge_runs hruns).trans (congrArg Host.Outcome.next (State.ppsEdge_early hsense hwide hen hlast hearly)),
    fun _ _ _ _ _ _ _ _ => todSentenceReceive_accepted,
    fun _ _ _ => irigFrameReceive_good,
    fun _ => ppsOutPulse_driven,
    fun _ _ => todSentenceSend_described⟩

/-! ### Edges, compares and the latched reads -/

section
variable {s : State} {a : Instant}

theorem State.edgeStamped_trig {n : Nat} {r : Bool} {x : State × Option Instant} {t : Instant} (hn : n < 4) (h : x.2 = some t) :
    State.edgeStamped n r x = x.1.trigEdge n r t := by
  simp [State.edgeStamped, h, hn]

theorem State.edgeStamped_irig {n : Nat} {r : Bool} {x : State × Option Instant} {t : Instant} (hn : 4 ≤ n) (h : x.2 = some t) :
    State.edgeStamped n r x = x.1.keepIrigEdge r t := by
  simp [State.edgeStamped, h, Nat.not_lt.mpr hn]

theorem tdcEdgeStamp_irig {r : Bool} {t : Instant} (hruns : (s.advance a).runs Isle.fixative = true)
    (hen : (s.advance a).rb Reg.TB_CTL 3 = true) (h : ((s.advance a).stampEdge 5).2 = some t) :
    exec (.tdcEdgeStamp a 5 r) s = .next (((s.advance a).stampEdge 5).1.keepIrigEdge r t) :=
  (tdcEdgeStamp_converter (n := 5) (by decide) hruns hen (fun h4 => absurd h4 (by decide))).trans
    (congrArg Host.Outcome.next (State.edgeStamped_irig (by decide) h))

theorem tdcEdgeStamp_trig {n : Fin 6} {r : Bool} {t : Instant} (hn : n.val < 4)
    (hruns : ((s.advance a).trigLevel n.val r).runs Isle.fixative = true) (hen : ((s.advance a).trigLevel n.val r).rb Reg.TB_CTL 3 = true)
    (hsel : ((s.advance a).trigLevel n.val r).edgeSelected n.val r = true)
    (h : (((s.advance a).trigLevel n.val r).stampEdge n.val).2 = some t) :
    exec (.tdcEdgeStamp a n r) s = .next ((((s.advance a).trigLevel n.val r).stampEdge n.val).1.trigEdge n.val r t) := by
  have hat : s.atEdge a n.val r = (s.advance a).trigLevel n.val r := if_pos hn
  rw [← hat] at hruns hen hsel h ⊢
  exact (tdcEdgeStamp_converter (Nat.ne_of_lt hn) hruns hen (fun _ => hsel)).trans
    (congrArg Host.Outcome.next (State.edgeStamped_trig hn h))

theorem trigOutPulseEnd_pulsing {n : Fin 8} {x : Nat × Nat} {l : List (Nat × Nat)} (h : (s.time.cmpPulse[n.val]?).getD [] = x :: l) :
    exec (.trigOutPulseEnd n) s =
      .next ((s.advanceUp x.2).setTime (fun t => { t with cmpPulse := updAt t.cmpPulse n.val (fun l => l.drop 1) })) := by
  change execTrigOutPulseEnd n s = _
  rw [execTrigOutPulseEnd, h]

end

/-- Settles O7, event by event; the reads and the arming have no condition. -/
theorem stampAndCompareEventsComplete : Obligations.StampAndCompareEventsComplete :=
  ⟨fun _ _ _ => tdcEdgeStamp_pps,
    fun _ _ _ _ => tdcEdgeStamp_irig,
    fun _ _ _ _ _ => tdcEdgeStamp_trig,
    fun _ _ harmed => if_pos harmed,
    fun _ _ _ _ => trigOutPulseEnd_pulsing,
    fun _ _ => rfl,
    fun _ _ => rfl,
    fun _ _ _ => rfl,
    fun _ _ _ => rfl,
    fun _ _ _ _ _ => rfl⟩

/-! ### The PTP engine (R33 to R37) -/

section
variable {s : State}

theorem ptpMessageReceive_oldest {a : Instant} {p : Nat} {m : PtpMsg} {ts : Instant} {rest : List (Nat × PtpMsg × Instant)}
    (h : s.ports.ptpIn = (p, m, ts) :: rest) (hruns : s.runs Isle.fixative = true) :
    exec (.ptpMessageReceive a) s =
      .next (({ (s.advance a) with ports := { s.ports with ptpIn := rest } } : State).ptpHandle p m ts) := by
  have hports : (s.advance a).ports.ptpIn = (p, m, ts) :: rest := h
  change execPtpMessageReceive a s = _
  simp only [execPtpMessageReceive, hports]
  exact congrArg Host.Outcome.next (if_pos hruns)

/-- A port whose Announce receipt timeout is over: its master and a half-open exchange are forgotten, and the port states decided. -/
def State.announceMissed (s : State) (p : Nat) : State :=
  (s.updPtp p (fun x => { x with
    best := none, pendSync := none, pdelayRx := none, missed := x.missed + 1
    announceBy := some (s.up + ms (max 1 (x.ds.announceMs * x.ds.receipt))) })).decidePtp

/-- The third timeout in a row without valid time unqualifies the port's source. -/
def State.unqualifySilent (s : State) (p : Nat) : State :=
  if 3 ≤ (s.ptpPort p).missed && (s.srcQual p).qualified then s.unqualify p else s

theorem announceReceiptTimeout_due {p : Fin 10} {u : Nat} (h : (s.ptpPort p.val).announceBy = some u) :
    exec (.announceReceiptTimeout p) s = .next (((s.advanceUp u).announceMissed p.val).unqualifySilent p.val) := by
  change execAnnounceReceiptTimeout p s = _
  rw [execAnnounceReceiptTimeout, h]
  rfl

/-- Whether an interval that ends at `d`, where it runs, is over. -/
def State.intervalOver (s : State) (d : Option Nat) : Bool := d.any (fun v => decide (v ≤ s.up))

/-- The end of an interval, started anew where it is over. -/
def State.nextInterval (s : State) (d : Option Nat) (msec : Nat) : Option Nat :=
  if s.intervalOver d then some (s.up + ms (max 1 msec)) else d

/-- The intervals of a port, each that is over started anew. -/
def State.restartIntervals (s : State) (p : Nat) : State :=
  s.updPtp p (fun y => { y with
    annDue := s.nextInterval y.annDue y.ds.announceMs, syncDue := s.nextInterval y.syncDue y.ds.syncMs
    delayDue := s.nextInterval y.delayDue y.ds.delayMs })

theorem ptpMessageInterval_enabled {p : Fin 10} {u : Nat}
    (h : sooner (s.ptpPort p.val).annDue (sooner (s.ptpPort p.val).syncDue (s.ptpPort p.val).delayDue) = some u)
    (hen : s.rb Reg.TB_CTL 1 = true) (hruns : s.runs Isle.fixative = true) (hst : (s.ptpPort p.val).st ≠ .disabled) :
    exec (.ptpMessageInterval p) s = .next (((s.advanceUp u).restartIntervals p.val).ptpSend p.val
      ((s.advanceUp u).intervalOver (s.ptpPort p.val).annDue) ((s.advanceUp u).intervalOver (s.ptpPort p.val).syncDue)
      ((s.advanceUp u).intervalOver (s.ptpPort p.val).delayDue)) := by
  have hen' : ((s.advanceUp u).restartIntervals p.val).rb Reg.TB_CTL 1 = true := hen
  have hruns' : ((s.advanceUp u).restartIntervals p.val).runs Isle.fixative = true := hruns
  have hsends : (!((s.advanceUp u).restartIntervals p.val).rb Reg.TB_CTL 1 || (s.ptpPort p.val).st == .disabled ||
      !((s.advanceUp u).restartIntervals p.val).runs Isle.fixative) ≠ true := by simp [hen', hruns', hst]
  change execPtpMessageInterval p s = _
  rw [execPtpMessageInterval, h]
  exact if_neg hsends

end

/-- Settles O8, event by event. -/
theorem ptpEventsComplete : Obligations.PtpEventsComplete :=
  ⟨fun _ _ _ _ _ _ => ptpMessageReceive_oldest,
    fun _ _ _ => announceReceiptTimeout_due,
    fun _ _ _ => ptpMessageInterval_enabled⟩

end Sys2Proof.Machine
end

section
/-! PROOFS. The statements of the family of the ports: the port and wake commands (O9), the events of frames, links, rings and PAUSE (O10), and
the events of a port's optics (O11). -/

namespace Sys2Proof.Machine

/-! ### The port and wake commands (Table 3-9, R102) -/

/-- Only fields behind a port's lock refuse a profile (R579): a port not locked takes any, and a locked one the values it has. -/
theorem bodyPortProfile_unlocked {a : PortProfileArgs} {s : State} (hmode : a.mode ≤ 7) (hfec : a.fec ≤ 3)
    (hlock : ∀ p < 10, a.ports.getLsbD p = true → s.rb (Reg.PORT_CTL p) 31 = false ∨
      (s.rf (Reg.PORT_CTL p) 3 1 = a.mode ∧ s.rf (Reg.PORT_CTL p) 9 8 = a.fec ∧ s.rb (Reg.PORT_CTL p) 10 = a.an)) :
    bodyPortProfile a s =
      ok [] (((upto 10).filter (fun p => a.ports.getLsbD p)).foldl (fun (t : State) p => t.portProfile p a) s) := by
  have hrange : ¬ (decide (7 < a.mode) || decide (3 < a.fec)) = true := by simp [hmode, hfec]
  refine (if_neg hrange).trans (if_neg ?_)
  rw [Bool.not_eq_true, List.any_eq_false]
  intro p hp
  obtain ⟨hp10, hnamed⟩ := List.mem_filter.mp hp
  rcases hlock p (List.mem_range.mp hp10) hnamed with hfree | ⟨hm, hf, han⟩
  · simp [hfree]
  · simp [hm, hf, han]

theorem bodyPortRings_aligned {a : PortRingsArgs} {s : State} (h : ∀ g ∈ a.rings, g.base.toNat % 64 = 0 ∧ powerIn 64 4096 g.size = true) :
    bodyPortRings a s = ok [] ((a.filters.foldl (fun (t : State) f =>
      t.setReg (Reg.PORT_HOST_FILT a.port.val f.index.val) (putBit 31 f.enabled ||| put 15 0 f.etherType.toNat))
      (a.rings.foldl (fun (t : State) g => t.setupRing a.port.val g) s)).checkPause a.port.val) := by
  have hbase : ¬ a.rings.any (fun g => g.base.toNat % 64 != 0) = true := by simpa using fun g hg => (h g hg).1
  have hsize : ¬ a.rings.any (fun g => !powerIn 64 4096 g.size) = true := by simpa using fun g hg => (h g hg).2
  exact (if_neg hbase).trans (if_neg hsize)

theorem bodyPortPrp_inRange {a : PortPrpArgs} {s : State} (hlow : 10 ≤ a.forgetMs) (hhigh : a.forgetMs ≤ 1000) :
    bodyPortPrp a s = ok [] (s.setReg (Reg.PORT_PRP_CTL (lanA a.pair.val)) (put 25 16 a.forgetMs ||| putBit 0 a.enable)) :=
  if_neg (by simp [hlow, hhigh])

theorem bodyPortMacsec_retires {a : PortMacsecArgs} {s : State} (hport : a.port.val < 8) (hretire : a.install = false) :
    bodyPortMacsec a s = ok [] ((s.updPort a.port.val (fun x => { x with macsec := x.macsec.change a [] [] })).setRf
      (Reg.PORT_MSEC_CTL a.port.val) 2 1 a.validate.val) :=
  (if_neg (Nat.not_le.mpr hport)).trans (if_neg (by simp [hretire]))

/-- The engine takes the slot's key in two shares, the first of them random (R392). -/
theorem bodyPortMacsec_installs {a : PortMacsecArgs} {s : State} (hport : a.port.val < 8) (hinstall : a.install = true)
    (hslot : (s.useKeySlot a.slot [0]).1 = St.OK) :
    bodyPortMacsec a s = ok []
      (let k := s.keyBytes a.slot
       let m := padTo k.length ((s.useKeySlot a.slot [0]).2.random k.length).1
       (((s.useKeySlot a.slot [0]).2.random k.length).2.updPort a.port.val
         (fun x => { x with macsec := x.macsec.change a m (xorBytes k m) })).setRf (Reg.PORT_MSEC_CTL a.port.val) 2 1 a.validate.val) :=
  (if_neg (Nat.not_le.mpr hport)).trans ((if_pos hinstall).trans (if_pos hslot))

theorem bodyPortMacRaw_inRange {a : PortMacRawArgs} {s : State} (hwin : a.replayWin < 2 ^ 30) (hwarn : a.pnWarn < 2 ^ 64)
    (hoff : a.offset = none ∨ a.offset = some 0 ∨ a.offset = some 30 ∨ a.offset = some 50) :
    bodyPortMacRaw a s = ok [] ((((((s.setRf (Reg.PORT_MAC_CTL a.port.val) 29 16 (min 9600 a.maxLen)).setReg (Reg.PORT_PAUSE_CTL a.port.val)
      (put 15 0 a.quanta.toNat ||| put 23 16 a.xoff.toNat ||| put 31 24 a.xon.toNat)).setRb (Reg.PORT_MSEC_CTL a.port.val) 3 true).updPort
      a.port.val (fun x => { x with
        macsec := { x.macsec with pnWarn := some a.pnWarn, replayWin := a.replayWin, offset := a.offset } })).checkPause a.port.val)) := by
  have hoffset : a.offset.all (fun o => o == 0 || o == 30 || o == 50) = true := by
    rcases hoff with h | h | h | h <;> rw [h] <;> rfl
  exact if_neg (by simp only [hoffset, Nat.not_le.mpr hwin, Nat.not_le.mpr hwarn, decide_false, Bool.not_true, Bool.or_false,
    Bool.false_eq_true, not_false_eq_true])

theorem bodyWakePattern_distinct {a : WakePatternArgs} {s : State} (hoff : ∀ x ∈ a.bytes, x.1 < 128)
    (hdistinct : noDup (a.bytes.map (·.1)) = true) :
    bodyWakePattern a s = ok [] (((upto 4).foldl (fun (t : State) w =>
      t.setReg (wakeMaskReg a.m.val a.k.val w) (maskWord (a.bytes.map (·.1)) w)) s).setReg (wakeCrcReg a.m.val a.k.val)
      (put 15 0 (crc16 ((sortBy (fun x y => decide (x.1 ≤ y.1)) a.bytes).map (·.2))) ||| putBit 31 a.enable)) := by
  have hrange : ¬ (a.bytes.map (·.1)).any (fun o => decide (128 ≤ o)) = true := by
    simpa only [List.any_map, List.any_eq_true, Function.comp_apply, decide_eq_true_eq, not_exists, not_and, Nat.not_le] using hoff
  exact (if_neg hrange).trans (if_neg (by simp [hdistinct]))

/-- Settles O9, command by command: each body ends in its effect under the stated conditions. -/
theorem portCommandsComplete : Obligations.PortCommandsComplete := by
  refine ⟨fun h p => ?status, fun h a => ?profile, fun h a => ?rings, fun h a => ?prp, fun h a => ?retire, fun h a => ?install,
    fun h p b => ?optics, fun h a => ?eq, fun h a => ?macRaw, fun h p on => ?override, fun h a => ?wake, fun h a => ?wakeRaw⟩
  case status => exact reads_of (fun _ => rfl) (fun _ => ⟨_, rfl⟩)
  case profile =>
    refine performs_of (fun _ => rfl) ?_
    rintro n ⟨hmode, hfec, hlock⟩
    exact ⟨[], bodyPortProfile_unlocked hmode hfec hlock⟩
  case rings => exact performs_of (fun _ => rfl) (fun _ haligned => ⟨[], bodyPortRings_aligned haligned⟩)
  case prp =>
    refine performs_of (fun _ => rfl) ?_
    rintro n ⟨hlow, hhigh⟩
    exact ⟨[], bodyPortPrp_inRange hlow hhigh⟩
  case retire =>
    refine performs_of (fun _ => rfl) ?_
    rintro n ⟨hport, hretire⟩
    exact ⟨[], bodyPortMacsec_retires hport hretire⟩
  case install =>
    refine performs_of (fun _ => rfl) ?_
    rintro n ⟨hport, hinstall, hslot⟩
    exact ⟨[], bodyPortMacsec_installs hport hinstall hslot⟩
  case optics => exact reads_of (fun _ => rfl) (fun _ => ⟨_, rfl⟩)
  case eq => exact performs_of (fun _ => rfl) (fun _ _ => ⟨[], rfl⟩)
  case macRaw =>
    refine performs_of (fun _ => rfl) ?_
    rintro n ⟨hwin, hwarn, hoff⟩
    exact ⟨[], bodyPortMacRaw_inRange hwin hwarn hoff⟩
  case override => exact performs_of (fun _ => rfl) (fun _ _ => ⟨[], rfl⟩)
  case wake =>
    refine performs_of (fun _ => rfl) ?_
    rintro n ⟨hoff, hdistinct⟩
    exact ⟨[], bodyWakePattern_distinct hoff hdistinct⟩
  case wakeRaw => exact performs_of (fun _ => rfl) (fun _ _ => ⟨[], rfl⟩)

/-! ### Frames, PAUSE, PRP and the link -/

section
variable {s : State} {a : Instant} {p : Fin 10} {u : Nat}

theorem State.advance_port (s : State) (t : Instant) (q : Nat) : (s.advance t).port q = s.port q := rfl

theorem State.advance_rb (s : State) (t : Instant) (r k : Nat) : (s.advance t).rb r k = s.rb r k := rfl

theorem frameReceive_linked {f : RxFrame} (hlink : (s.port p.val).link = true) (hruns : s.runs p.val = true) :
    exec (.frameReceive a p f) s = .next ((s.advance a).receiveFrame p.val f ((s.advance a).lanATies a p.val f)) :=
  congrArg Host.Outcome.next (if_pos (Bool.and_eq_true_iff.mpr ⟨hlink, hruns⟩))

theorem pauseExpiry_paused (h : (s.port p.val).pauseEnd = some u) : exec (.pauseExpiry p) s =
    .next (((s.advanceUp u).countPaused p.val).updPort p.val (fun x => { x with pauseEnd := none, pausedAt := none })) := by
  change execPauseExpiry p s = _
  rw [execPauseExpiry, h]

/-- A port between two of its PAUSE frames: another is due while free descriptors stay short, and none once they do not (R84). -/
def State.repeatPause (s : State) (p : Nat) : State :=
  if s.wantsPause p then s.pauseNow p else s.updPort p (fun x => { x with xoffDue := none })

theorem pauseRepeat_due (h : (s.port p.val).xoffDue = some u) : exec (.pauseRepeat p) s = .next ((s.advanceUp u).repeatPause p.val) := by
  change execPauseRepeat p s = _
  rw [execPauseRepeat, h]
  rfl

theorem State.repeatPause_wanted (h : s.wantsPause p.val = true) : s.repeatPause p.val = s.pauseNow p.val := if_pos h

theorem State.repeatPause_unwanted (h : s.wantsPause p.val = false) :
    s.repeatPause p.val = s.updPort p.val (fun x => { x with xoffDue := none }) := if_neg (ne_true_of_eq_false h)

theorem prpForgetExpiry_oldest {k : Fin 5} {x : PrpPair} {e : PrpEntry} {rest : List PrpEntry} (hpair : s.ports.pairs[k.val]? = some x)
    (hwindow : x.window = e :: rest) : exec (.prpForgetExpiry k) s = .next { (s.advanceUp e.due) with ports := { s.ports with
      pairs := updAt s.ports.pairs k.val (fun x => { x with window := x.window.drop 1 }) } } := by
  have holdest : ((s.ports.pairs[k.val]?).map (·.window)).getD [] = e :: rest := by rw [hpair]; exact hwindow
  change execPrpForgetExpiry k s = _
  rw [execPrpForgetExpiry, holdest]
  rfl

/-- The adaptation that a receiver waits for completes (R110). -/
theorem eqAdaptComplete_initial {e : EqResult} (hdue : (s.port p.val).adaptDue = some u) (hbefore : (s.advance a).up ≤ u) :
    exec (.eqAdaptComplete a p e) s =
      .next ((((s.advance a).takeEq p.val e).updPort p.val (fun x => { x with adaptDue := none, adapted := true })).tryLink p.val) := by
  have hintime : (if u < (s.advance a).up then s.advanceUp u else s.advance a) = s.advance a := if_neg (Nat.not_lt.mpr hbefore)
  change execEqAdaptComplete a p e s = _
  simp only [execEqAdaptComplete, hdue, hintime]

theorem eqAdaptComplete_adapted {e : EqResult} (hdue : (s.port p.val).adaptDue = none) (hport : p.val < 8)
    (hsignal : (s.port p.val).signal = true) : exec (.eqAdaptComplete a p e) s = .next ((s.advance a).takeEq p.val e) := by
  change execEqAdaptComplete a p e s = _
  rw [execEqAdaptComplete, hdue]
  exact congrArg Host.Outcome.next (if_pos ⟨hport, hsignal⟩)

theorem portModeChange_unlocked {m : Fin 8} {f : Fin 4} (h : s.rb (Reg.PORT_CTL p.val) 31 = false) :
    exec (.portModeChange a p m f) s = .next ((s.advance a).changeMode p.val m.val f.val) :=
  congrArg Host.Outcome.next (if_neg (ne_true_of_eq_false ((s.advance_rb a _ 31).trans h)))

end

/-- Settles O10, event by event; the rows of transmission, of the link's conditions, of the rings and of the counters have no condition. -/
theorem portEventsComplete : Obligations.PortEventsComplete :=
  ⟨fun _ _ _ _ => frameReceive_linked,
    fun _ _ _ => pauseExpiry_paused,
    fun _ _ _ hdue hwants => (pauseRepeat_due hdue).trans (congrArg Host.Outcome.next (State.repeatPause_wanted hwants)),
    fun _ _ _ hdue hwants => (pauseRepeat_due hdue).trans (congrArg Host.Outcome.next (State.repeatPause_unwanted hwants)),
    fun _ _ _ _ _ => prpForgetExpiry_oldest,
    fun _ _ _ => rfl,
    fun _ _ _ => rfl,
    fun _ _ _ _ => rfl,
    fun _ _ _ => rfl,
    fun _ _ _ _ _ => eqAdaptComplete_initial,
    fun _ _ _ _ => eqAdaptComplete_adapted,
    fun _ _ _ _ _ => portModeChange_unlocked,
    fun _ _ _ _ _ => rfl,
    fun _ _ _ _ _ _ => rfl,
    fun _ _ _ _ => rfl⟩

/-! ### The optics of a port (R105 to R107) -/

section
variable {s : State} {a : Instant} {p : Fin 10} {u : Nat}

theorem State.freeI2c_port (s : State) (p : Fin 10) (q : Nat) : (s.freeI2c p).port q = s.port q := rfl

/-- A port whose MOD_ABS has changed, where it is monitored and runs: a read is abandoned, the optics are not accepted, and the debounce runs. -/
def State.startDebounce (s : State) (p : Fin 10) : State :=
  ((s.freeI2c p).updPort p.val (fun x => { x with optics := .debounce (s.up + ms 50), optReason := 7, retries := 0 })).relink p.val 3

theorem modAbsChange_monitored {b : Bool} (hmon : ((s.advance a).updPort p.val (fun x => { x with modAbsPin := b })).monitored p.val = true)
    (hruns : s.runs p.val = true) : exec (.modAbsChange a p b) s =
      .next (((s.advance a).updPort p.val (fun x => { x with modAbsPin := b })).startDebounce p) :=
  congrArg Host.Outcome.next (if_pos (Bool.and_eq_true_iff.mpr ⟨hmon, hruns⟩))

theorem modAbsDebounceEnd_removed (hopt : (s.port p.val).optics = .debounce u) (hpin : (s.port p.val).modAbsPin = true) :
    exec (.modAbsDebounceEnd p) s = .next ((((s.advanceUp u).updPort p.val (fun x => { x with
      modAbs := true, optics := .idle, optReason := 1 })).copyOptics p.val []).linkDown p.val 3) := by
  change execModAbsDebounceEnd p s = _
  rw [execModAbsDebounceEnd, hopt]
  exact if_pos hpin

theorem modAbsDebounceEnd_inserted (hopt : (s.port p.val).optics = .debounce u) (hpin : (s.port p.val).modAbsPin = false) :
    exec (.modAbsDebounceEnd p) s = .next (((s.advanceUp u).updPort p.val (fun x => { x with
      modAbs := false, optics := .settle ((s.advanceUp u).up + ms 300) })).relink p.val 3) := by
  change execModAbsDebounceEnd p s = _
  rw [execModAbsDebounceEnd, hopt]
  exact if_neg (ne_true_of_eq_false hpin)

theorem opticsReadStart_settled (h : (s.port p.val).optics = .settle u) : exec (.opticsReadStart p) s = .next ((s.advanceUp u).startRead p) := by
  change execOpticsReadStart p s = _
  rw [execOpticsReadStart, h]

theorem opticsReadRetry_due (h : (s.port p.val).optics = .retry u) : exec (.opticsReadRetry p) s = .next ((s.advanceUp u).startRead p) := by
  change execOpticsReadRetry p s = _
  rw [execOpticsReadRetry, h]

/-- The port once the read of page A0h is done: it holds the page, and whether the checksum of its second part is bad. -/
def State.takePage (s : State) (p : Nat) (bytes : List Byte) : State :=
  (s.updPort p (fun x => { x with
    optics := .idle, modAbs := false, extBad := sum8 bytes 64 95 != ((bytes[95]?).getD 0#8).toNat })).copyOptics p bytes

/-- The optics judged by the page just read (Table 3-8). -/
def State.judgePage (s : State) (p : Nat) (bytes : List Byte) : State :=
  (s.admitOptics p (opticsCheck (s.portMode p) bytes)).relink p 3

theorem opticsReadComplete_good {r : OpticsRead} (hread : (s.port p.val).optics = .reading) (hpin : (s.port p.val).modAbsPin = false)
    (hack : r.ack = true) (hsum : sum8 r.bytes 0 63 = ((r.bytes[63]?).getD 0#8).toNat) : exec (.opticsReadComplete a p r) s =
      .next ((((s.advance a).freeI2c p).takePage p.val r.bytes).judgePage p.val r.bytes) := by
  change execOpticsReadComplete a p r s = _
  simp [execOpticsReadComplete, hread, State.freeI2c_port, State.advance_port, hpin, hack, hsum, State.takePage, State.judgePage]

theorem opticsReadComplete_unacknowledged {r : OpticsRead} (hread : (s.port p.val).optics = .reading)
    (hpin : (s.port p.val).modAbsPin = false) (hack : r.ack = false) (hretries : (s.port p.val).retries < 2) :
    exec (.opticsReadComplete a p r) s = .next (((s.advance a).freeI2c p).updPort p.val (fun x => { x with
      optics := .retry (((s.advance a).freeI2c p).up + ms 100), retries := x.retries + 1 })) := by
  change execOpticsReadComplete a p r s = _
  simp [execOpticsReadComplete, hread, State.freeI2c_port, State.advance_port, hpin, hack, hretries]

end

/-- Settles O11, event by event; the end of a debounce by the level of MOD_ABS, and the end of a read by its acknowledge. -/
theorem opticsEventsComplete : Obligations.OpticsEventsComplete :=
  ⟨fun _ _ _ _ => modAbsChange_monitored,
    fun _ _ _ => modAbsDebounceEnd_removed,
    fun _ _ _ => modAbsDebounceEnd_inserted,
    fun _ _ _ => opticsReadStart_settled,
    fun _ _ _ _ => opticsReadComplete_good,
    fun _ _ _ _ => opticsReadComplete_unacknowledged,
    fun _ _ _ => opticsReadRetry_due⟩

end Sys2Proof.Machine
end

section
/-! PROOFS. The statements of the family of the ingress of streams: the ingress commands (O12), and the events of ingress and the accesses of its
table window (O13). -/

namespace Sys2Proof.Machine

/-! ### ING_STREAM_ADD (R120, R122, R126) -/

/-- The entries of a new stream, each with its place in the run. -/
def newEntries (a : StreamAddArgs) (blocks : List AddBlock) : List (Nat × List Word) :=
  ((upto blocks.length).zip blocks).map (fun p => (p.1, addWords a p.1 p.2))

/-- The entries written in their run, which begins at `e`. -/
def State.placeEntries (s : State) (e : Nat) (entries : List (Nat × List Word)) : State :=
  entries.foldl (fun (t : State) p => t.setEntry (e + p.1) p.2) s

/-- A C37.118.2 stream begins in LEARNING: the firmware fetches its configuration, and polls for it from now on (R134). -/
def State.startLearning (s : State) (a : StreamAddArgs) (e : Nat) : State :=
  (s.setFw e (fun _ => { freshFw with
    tcp := a.tcp, cfg3 := a.cfg3, startData := a.startData, pollDue := some (s.up + sec s.cfgPoll) })).startFetch e 1 none

/-- What the operands of a new SV or R-SV stream keep to (Table 4-6). -/
def SvInRange (a : StreamAddArgs) : Prop :=
  a.synchReq < 3 ∧ a.svSlot < 1024 ∧ dsRateCode a.rate ≠ none ∧ ∀ v, a.auth = some v → v < 256

section
variable {a : StreamAddArgs} {blocks : List AddBlock} {s : State} {e : Nat}

theorem SvInRange.not_refused (h : SvInRange a) :
    (decide (3 ≤ a.synchReq) || decide (1024 ≤ a.svSlot) || (dsRateCode a.rate).isNone || decide (256 ≤ a.auth.getD 0)) = false := by
  obtain ⟨hsync, hslot, hrate, hauth⟩ := h
  have hauthD : a.auth.getD 0 < 256 := by
    cases hv : a.auth with
    | none => decide
    | some v => exact hauth v hv
  simp [hsync, hslot, hauthD, Option.isNone_eq_false_iff, Option.isSome_iff_ne_none, hrate]

/-- A stream whose operands are in range, whose key is new and whose entries find a run and pass their checks is placed there. -/
theorem bodyIngStreamAdd_admitted (hblocks : (if a.key.kind = 0 then a.blocks else [⟨0, 0, none⟩]) = blocks) (hne : blocks ≠ [])
    (hlen : blocks.length ≤ 1024) (hsv : a.key.kind ≠ 0 → SvInRange a) (hchan : ∀ b ∈ blocks, b.chanBase < 262144 ∧ b.chanSpan < 1024)
    (hoff : ∀ b ∈ blocks, ∀ o, b.offsets = some o → o.1 < 1024 ∧ o.2 < 1024) (hnew : s.findKey a.key = none)
    (hrun : s.freeRun blocks.length = some e) (hpass : s.addRefused e (newEntries a blocks) = 0) :
    bodyIngStreamAdd a s = ok [word e] (if a.key.kind = 0 then (s.placeEntries e (newEntries a blocks)).startLearning a e
      else s.placeEntries e (newEntries a blocks)) := by
  have hcount : ¬ (decide (blocks.length = 0) || decide (1024 < blocks.length)) = true := by simp [hne, hlen]
  have hrange : ¬ (decide (a.key.kind ≠ 0) && (decide (3 ≤ a.synchReq) || decide (1024 ≤ a.svSlot) || (dsRateCode a.rate).isNone ||
      decide (256 ≤ a.auth.getD 0))) = true := by
    by_cases hk : a.key.kind = 0
    · simp [hk]
    · simp only [(hsv hk).not_refused, Bool.and_false, Bool.false_eq_true, not_false_eq_true]
  have hoffsets : ¬ blocks.any (fun b => b.offsets.any (fun o => decide (1024 ≤ o.1) || decide (1024 ≤ o.2))) = true := by
    simpa [Option.any_eq_true] using hoff
  have hchannels : ¬ blocks.any (fun b => decide (262144 ≤ b.chanBase) || decide (1024 ≤ b.chanSpan)) = true := by
    simpa using hchan
  have hkey : ¬ (s.findKey a.key).isSome = true := by simp [hnew]
  simp only [bodyIngStreamAdd, hblocks]
  refine (if_neg hcount).trans <| (if_neg hrange).trans <| (if_neg hoffsets).trans <| (if_neg hchannels).trans <| (if_neg hkey).trans ?_
  rw [hrun]
  exact if_neg (not_not_intro hpass)

theorem bodyIngStreamAdd_c37 (hkind : a.key.kind = 0) (hne : a.blocks ≠ []) (hlen : a.blocks.length ≤ 1024)
    (hchan : ∀ b ∈ a.blocks, b.chanBase < 262144 ∧ b.chanSpan < 1024)
    (hoff : ∀ b ∈ a.blocks, ∀ o, b.offsets = some o → o.1 < 1024 ∧ o.2 < 1024) (hnew : s.findKey a.key = none)
    (hrun : s.freeRun a.blocks.length = some e) (hpass : s.addRefused e (newEntries a a.blocks) = 0) :
    bodyIngStreamAdd a s = ok [word e] ((s.placeEntries e (newEntries a a.blocks)).startLearning a e) :=
  (bodyIngStreamAdd_admitted (if_pos hkind) hne hlen (absurd hkind) hchan hoff hnew hrun hpass).trans (by rw [if_pos hkind])

/-- An SV or R-SV stream takes a single entry. -/
theorem bodyIngStreamAdd_sv (hkind : a.key.kind ≠ 0) (hsv : SvInRange a) (hnew : s.findKey a.key = none) (hrun : s.freeRun 1 = some e)
    (hpass : s.addRefused e [(0, addWords a 0 ⟨0, 0, none⟩)] = 0) :
    bodyIngStreamAdd a s = ok [word e] (s.setEntry (e + 0) (addWords a 0 ⟨0, 0, none⟩)) := by
  have hentries : newEntries a [⟨0, 0, none⟩] = [(0, addWords a 0 ⟨0, 0, none⟩)] := rfl
  have hadd := bodyIngStreamAdd_admitted (blocks := [⟨0, 0, none⟩]) (if_neg hkind) (List.cons_ne_nil _ _) (by simp) (fun _ => hsv)
    (by simp) (by simp) hnew hrun (by rw [hentries, hpass])
  rw [hadd, if_neg hkind, hentries, State.placeEntries, List.foldl_cons, List.foldl_nil]

end

/-! ### The other ingress commands (Table 4-6) -/

section
variable {s : State} {r : StreamRef} {e : Nat}

theorem bodyIngStreamRemove_found (h : s.findStream r = some e) : bodyIngStreamRemove r s = ok [] (s.freeStream e) := by
  rw [bodyIngStreamRemove, h]

theorem bodyIngCfgFetch_found (h : s.findStream r = some e) :
    bodyIngCfgFetch r s = ok [] (if wKind (s.sw e 0) = 0 then s.startFetch e 1 (s.fw e).staleSize else s) := by
  rw [bodyIngCfgFetch, h]

theorem bodyIngHeader_found (h : s.findStream r = some e) : bodyIngHeader r s = ok (wordsLE (s.fw e).header) s := by
  rw [bodyIngHeader, h]

theorem bodyIngStreamRaw_accepted {a : StreamRawArgs} (hindex : a.index < 16384) (hpass : s.entryErr a.index a.words.toList = 0) :
    bodyIngStreamRaw a s = ok [] (s.writeEntry a.index a.words.toList) :=
  (if_neg (Nat.not_le.mpr hindex)).trans (if_neg (not_not_intro hpass))

theorem bodyIngChanScale_measured {a : ChanScaleArgs} (h : ∀ c ∈ a.chans, c.1 < estimatedBase) :
    bodyIngChanScale a s = ok [] (s.setIng (fun g => { g with scales := a.chans.foldl (fun l c => setKey l c.1 c.2) g.scales })) :=
  if_neg (by simpa using h)

/-- The settings that ING_TUNE names, set. -/
def State.ingTuned (s : State) (a : IngTuneArgs) : State :=
  let t := (a.sizeMib.map (fun v => s.setRf Reg.ING_SPILL_CTL 8 0 (min 256 v))).getD s
  let t := (a.tqMax.map (t.setRf Reg.ING_CTL 7 4)).getD t
  let t := (a.cfgPoll.map (t.setRf Reg.ING_CTL 15 8)).getD t
  (a.unkToFw.map (t.setRb Reg.ING_CTL 1)).getD t

/-- Only the spill size is behind ingress's lock (R579): a lock that is not set takes any, and a set one the size it has. -/
theorem bodyIngTune_unlocked {a : IngTuneArgs} (htq : ∀ v, a.tqMax = some v → v ≤ 15) (hpoll : ∀ v, a.cfgPoll = some v → v ≤ 255)
    (hlock : s.rb Reg.ING_CTL 31 = false ∨ ∀ v, a.sizeMib = some v → min 256 v = s.rf Reg.ING_SPILL_CTL 8 0) :
    bodyIngTune a s = ok [] (s.ingTuned a) := by
  have hrange : ¬ (decide (15 < a.tqMax.getD 0) || decide (255 < a.cfgPoll.getD 1)) = true := by
    cases ht : a.tqMax <;> cases hp : a.cfgPoll <;> simp [htq, hpoll, ht, hp]
  have hsize : ¬ (s.rb Reg.ING_CTL 31 && (a.sizeMib.map (min 256)).isSome &&
      a.sizeMib.map (min 256) != some (s.rf Reg.ING_SPILL_CTL 8 0)) = true := by
    rcases hlock with hfree | hsame
    · simp [hfree]
    · cases hv : a.sizeMib with
      | none => simp
      | some v => simp [hsame v hv]
  refine (if_neg hrange).trans ((if_neg hsize).trans ?_)
  -- each of the four settings is named, and set, or left as it is
  obtain ⟨size?, tq?, poll?, unk?⟩ := a
  cases size? <;> cases tq? <;> cases poll? <;> cases unk? <;> rfl

end

/-- Settles O12, command by command: each body ends in its effect under the stated conditions. -/
theorem ingressCommandsComplete : Obligations.IngressCommandsComplete := by
  refine ⟨fun h => ?status, fun h a e => ?addC37, fun h a e => ?addSv, fun h r e => ?remove, fun h => ?list, fun h => ?unknown,
    fun h r e => ?fetch, fun h r e => ?header, fun h a => ?raw, fun h a => ?scale, fun h a => ?tune⟩
  case status => exact reads_of (fun _ => rfl) (fun _ => ⟨_, rfl⟩)
  case addC37 =>
    refine performs_of (fun _ => rfl) ?_
    rintro n ⟨hkind, hne, hlen, hchan, hoff, hnew, hrun, hpass⟩
    exact ⟨[word e], bodyIngStreamAdd_c37 hkind hne hlen hchan hoff hnew hrun hpass⟩
  case addSv =>
    refine performs_of (fun _ => rfl) ?_
    rintro n ⟨hkind, hsync, hslot, hrate, hauth, hnew, hrun, hpass⟩
    exact ⟨[word e], bodyIngStreamAdd_sv hkind ⟨hsync, hslot, hrate, hauth⟩ hnew hrun hpass⟩
  case remove => exact performs_of (fun _ => rfl) (fun _ hfound => ⟨[], bodyIngStreamRemove_found hfound⟩)
  case list => exact reads_of (fun _ => rfl) (fun _ => ⟨_, rfl⟩)
  case unknown => exact reads_of (fun _ => rfl) (fun _ => ⟨_, rfl⟩)
  case fetch => exact performs_of (fun _ => rfl) (fun _ hfound => ⟨[], bodyIngCfgFetch_found hfound⟩)
  case header => exact performs_of (fun _ => rfl) (fun _ hfound => ⟨_, bodyIngHeader_found hfound⟩)
  case raw =>
    refine performs_of (fun _ => rfl) ?_
    rintro n ⟨hindex, hpass⟩
    exact ⟨[], bodyIngStreamRaw_accepted hindex hpass⟩
  case scale => exact performs_of (fun _ => rfl) (fun _ hmeasured => ⟨[], bodyIngChanScale_measured hmeasured⟩)
  case tune =>
    refine performs_of (fun _ => rfl) ?_
    rintro n ⟨htq, hpoll, hlock⟩
    exact ⟨[], bodyIngTune_unlocked htq hpoll hlock⟩

/-! ### Frames parsed (R137, R140) -/

section
variable {a : Instant} {s : State} {e : Fin 16384} {u : Nat}

/-- The oldest frame of port `p` taken from its buffer; the next port has its turn (R140). -/
def State.takeFrame (s : State) (p : Nat) : State :=
  s.setIng (fun g => { g with buffers := updAt g.buffers p (fun l => l.drop 1), next := (p + 1) % 10 })

/-- Only a spilled frame can come poisoned: one from the port's own buffer is parsed as it is. -/
theorem parseFrame_buffered {p : Nat} {f : BufFrame} (hruns : (s.advance a).runs Isle.ingress = true)
    (hnext : (s.advance a).nextParse = some (p, f)) (hbuffered : f.spilled = false) :
    exec (.parseFrame a) s = .next (((s.advance a).takeFrame p).parseFrame p f) := by
  change execParseFrame a s = _
  simp [execParseFrame, hruns, hnext, hbuffered, State.takeFrame]

/-! ### Configurations (R134, R135) -/

theorem heldConfigApply_inTime {c : CfgFrame} (hdue : (s.fw e.val).applyDue = some u) (hheld : (s.fw e.val).held = some c)
    (hbefore : (s.advance a).up ≤ u) :
    exec (.heldConfigApply a e) s =
      .next (if (s.advance a).cfgFits e.val c then (s.advance a).writeCfg e.val c else (s.advance a).suspend e.val 1) := by
  change execHeldConfigApply a e s = _
  simp only [execHeldConfigApply, hdue, hheld, Nat.not_lt.mpr hbefore, if_false]

theorem configFrameReceive_known {c : CfgFrame} {k : Nat}
    (hkey : (s.advance a).findKey ⟨0, BitVec.ofNat 48 c.srcIp.toNat, c.dstPort, c.idcode, 0#32⟩ = some k)
    (hruns : s.runs Isle.control = true) : exec (.configFrameReceive a c) s = .next ((s.advance a).takeCfg k c) := by
  change execConfigFrameReceive a c s = _
  simp only [execConfigFrameReceive, hkey, State.advance_runs, hruns, if_true]

/-- The firmware's next poll of a stream, an interval from now. -/
def State.schedulePoll (s : State) (e : Nat) : State := s.setFw e (fun x => { x with pollDue := some (s.nextPoll e) })

theorem cfgPollTimer_due (hdue : (s.fw e.val).pollDue = some u)
    (hidle : (((s.advanceUp u).schedulePoll e.val).fw e.val).fetch = none) :
    exec (.cfgPollTimer e) s = .next (((s.advanceUp u).schedulePoll e.val).startFetch e.val 1 none) := by
  have hfetch : ¬ (((s.advanceUp u).schedulePoll e.val).fw e.val).fetch.isSome = true := by simp [hidle]
  change execCfgPollTimer e s = _
  rw [execCfgPollTimer, hdue]
  exact congrArg Host.Outcome.next (if_neg hfetch)

theorem cfgFetchTimeout_fetching {f : CfgFetch} (h : (s.fw e.val).fetch = some f) :
    exec (.cfgFetchTimeout e) s = .next (if f.size.isSome then (s.advanceUp f.due).fetchFailed e.val
      else (s.advanceUp f.due).setFw e.val (fun x => { x with fetch := none })) := by
  change execCfgFetchTimeout e s = _
  rw [execCfgFetchTimeout, h]

/-! ### The table window (R143, R144) -/

theorem State.advance_ingWindow (s : State) (t : Instant) : (s.advance t).ingWindow = s.ingWindow := rfl

theorem State.advance_rf (s : State) (t : Instant) (r hi lo : Nat) : (s.advance t).rf r hi lo = s.rf r hi lo := rfl

theorem ingTblWrite_accepted (h : (s.advance a).entryErr (s.rf Reg.ING_TBL_IDX 13 0) s.ingWindow = 0) :
    exec (.ingTblWrite a) s =
      .next (((s.advance a).setRf Reg.ING_TBL_CMD 30 28 0).writeEntry (s.rf Reg.ING_TBL_IDX 13 0) s.ingWindow) := by
  change Host.Outcome.next (s.advance a).ingTblWrite = _
  simp only [State.ingTblWrite, State.advance_ingWindow, State.advance_rf, h, if_true]

theorem ingTblWrite_refused (h : (s.advance a).entryErr (s.rf Reg.ING_TBL_IDX 13 0) s.ingWindow ≠ 0) :
    exec (.ingTblWrite a) s =
      .next ((s.advance a).setRf Reg.ING_TBL_CMD 30 28 ((s.advance a).entryErr (s.rf Reg.ING_TBL_IDX 13 0) s.ingWindow)) := by
  change Host.Outcome.next (s.advance a).ingTblWrite = _
  simp only [State.ingTblWrite, State.advance_ingWindow, State.advance_rf, h, if_false]

end

/-- Settles O13, event by event; a read of the table window has no condition, and a write of it goes by the entry's check. -/
theorem ingressEventsComplete : Obligations.IngressEventsComplete :=
  ⟨fun _ _ _ _ => parseFrame_buffered,
    fun _ _ _ _ _ => heldConfigApply_inTime,
    fun _ _ _ _ => configFrameReceive_known,
    fun _ _ _ => cfgPollTimer_due,
    fun _ _ _ => cfgFetchTimeout_fetching,
    fun _ _ => rfl,
    fun _ _ => ingTblWrite_accepted,
    fun _ _ => ingTblWrite_refused⟩

end Sys2Proof.Machine
end

section
/-! PROOFS. The statements of the family of phasor estimation: the estimation commands (O14), and the events of estimation and the accesses of its
table window (O15). -/

namespace Sys2Proof.Machine

/-! ### PEC_PROFILE and PEC_SLOT_RAW (R157, R158) -/

section
variable {s : State}

/-- The word that PEC_PROFILE makes for each slot it names. -/
def State.profileWords (s : State) (a : PecProfileArgs) : List (Nat × Word) := a.slots.map (fun i => (i.val, s.namedSlotWord i.val a))

theorem bodyPecProfile_supported {a : PecProfileArgs} (hne : a.slots ≠ [])
    (hpass : ∀ i ∈ a.slots, s.slotWordErr i.val (s.namedSlotWord i.val a) = 0) :
    bodyPecProfile a s = ok (word (secsOf (restartSecond s.now)) :: (s.profileWords a).flatMap (fun p => s.slotDelay p.1 p.2))
      ((s.profileWords a).foldl (fun (t : State) p => t.writeSlot p.1 [p.2, t.pw 0 p.1 1]) s) := by
  have hwords : ∀ p ∈ s.profileWords a, s.slotWordErr p.1 p.2 = 0 := by simpa [State.profileWords] using hpass
  have hnamed : ¬ a.slots.isEmpty = true := by simp [hne]
  have hentry : ¬ (s.profileWords a).any (fun p => s.slotWordErr p.1 p.2 == 5) = true := by
    rw [List.any_eq_true]
    rintro ⟨p, hp, hmissing⟩
    simp [hwords p hp] at hmissing
  have hprofile : ¬ (s.profileWords a).any (fun p => s.slotWordErr p.1 p.2 != 0) = true := by simpa using hwords
  exact (if_neg hnamed).trans <| (if_neg hentry).trans (if_neg hprofile)

/-- The word that PEC_SLOT_RAW makes: the slot's own with the raw settings in it. -/
def State.rawSlotWord (s : State) (a : PecSlotRawArgs) : Word :=
  setBit (setFld (setFld (setFld (s.pw 0 a.slot.val 0) 22 16 a.decim) 14 11 a.firProf) 9 4 a.holdMax) 10 a.acceptTest

theorem bodyPecSlotRaw_supported {a : PecSlotRawArgs} (hdecim : a.decim ≤ 127) (hprof : a.firProf ≤ 15) (hhold : a.holdMax ≤ 63)
    (hfade : a.xfLen ≤ 4096) (hpass : s.slotWordErr a.slot.val (s.rawSlotWord a) = 0) :
    bodyPecSlotRaw a s = ok (word (secsOf (restartSecond s.now)) :: s.slotDelay a.slot.val (s.rawSlotWord a))
      (s.writeSlot a.slot.val [s.rawSlotWord a, put 12 0 a.xfLen]) := by
  have hrange : ¬ (decide (127 < a.decim) || decide (15 < a.firProf) || decide (63 < a.holdMax) || decide (4096 < a.xfLen)) = true := by
    simp [hdecim, hprof, hhold, hfade]
  have hentry : ¬ s.slotWordErr a.slot.val (s.rawSlotWord a) = 5 := by simp [hpass]
  exact (if_neg hrange).trans <| (if_neg hentry).trans (if_neg (not_not_intro hpass))

/-! ### PEC_THRESHOLDS and PEC_COEF_LOAD (R150, R151, R177) -/

theorem bodyPecThresholds_uncrossed {l : List PecThreshold} (h : ∀ x ∈ l, x.debounce ≤ 255 ∧ thrRefused x.words = false) :
    bodyPecThresholds l s = ok [] (l.foldl (fun (t : State) x => t.storeEntry 2 x.index.val x.words) s) := by
  have hrange : ¬ l.any (fun x => decide (255 < x.debounce)) = true := by
    simpa using fun x hx => (h x hx).1
  have hcrossed : ¬ l.any (fun x => thrRefused x.words) = true := by
    simpa using fun x hx => (h x hx).2
  exact (if_neg hrange).trans (if_neg hcrossed)

theorem bodyPecCoefLoad_committed {a : PecCoefArgs} (hlen : a.taps.length ≤ 128) (hrange : ∀ c ∈ a.taps, -8388608 ≤ c ∧ c ≤ 8388607)
    (hcommit : s.commitErr a.bank a.profile.val a.taps = 0) :
    bodyPecCoefLoad a s = ok [] ((s.stageTaps a.bank a.profile.val a.taps).commitTaps a.bank a.profile.val a.taps) := by
  have htaps : ¬ (decide (128 < a.taps.length) || a.taps.any (fun c => decide (c < -8388608) || decide (8388607 < c))) = true := by
    simpa [hlen] using hrange
  refine (if_neg htaps).trans ?_
  simp only [hcommit]

/-! ### Bank swaps (R172, R175) -/

/-- The cross-fade length written to every slot named, where one is given. -/
def State.setFadeLen (s : State) (len : Option Nat) (slots : List Nat) : State :=
  (len.map (fun l => slots.foldl (fun (t : State) i => t.setPw 0 i 1 (put 12 0 l)) s)).getD s

/-- Slots named once each are swapped where none holds a swap, none is in a cross-fade or the swap may wait for its end, and no target bank is
empty. -/
theorem bankSwap_free {a : PecSwapArgs} {queue : Bool} (hne : a.slots ≠ []) (honce : noDup (a.slots.map (·.val)) = true)
    (hlen : ∀ l, a.len = some l → l ≤ 4096)
    (hslots : ∀ i ∈ a.slots, (s.slot i.val).held = false ∧ (queue = false → (s.slot i.val).xf = none) ∧
      s.taps (!(s.slot i.val).bank) (fld (s.pw 0 i.val 0) 14 11) ≠ []) :
    ∃ words, bankSwap a queue s = ok words ((s.setFadeLen a.len (a.slots.map (·.val))).swapSlots (a.slots.map (·.val))).2 := by
  have hnamed : ¬ ((a.slots.map (·.val)).isEmpty || !noDup (a.slots.map (·.val))) = true := by simp [hne, honce]
  have hbusy : ¬ (a.slots.map (·.val)).any (fun i => (s.slot i).held || ((s.slot i).xf.isSome && !queue)) = true := by
    simp only [List.any_map, List.any_eq_true, not_exists, not_and]
    intro i hi
    obtain ⟨hheld, hxf, -⟩ := hslots i hi
    cases queue with
    | false => simp [hheld, hxf rfl]
    | true => simp [hheld]
  have htarget : ¬ (a.slots.map (·.val)).any (fun i => (s.taps (!(s.slot i).bank) (fld (s.pw 0 i 0) 14 11)).isEmpty) = true := by
    simpa using fun i hi => (hslots i hi).2.2
  obtain ⟨slots, len?, queued⟩ := a
  cases len? with
  | none => exact ⟨_, (if_neg hnamed).trans <| (if_neg Bool.false_ne_true).trans <| (if_neg hbusy).trans (if_neg htarget)⟩
  | some l =>
    have hrange : ¬ decide (4096 < l) = true := by simp [hlen l rfl]
    exact ⟨_, (if_neg hnamed).trans <| (if_neg hrange).trans <| (if_neg hbusy).trans (if_neg htarget)⟩

end

/-- Settles O14, command by command: each body ends in its effect under the stated conditions; without the queue option a swap waits for no
cross-fade, so no slot it names is in one. -/
theorem estimationCommandsComplete : Obligations.EstimationCommandsComplete := by
  refine ⟨fun h => ?status, fun h a => ?profile, fun h l => ?inputs, fun h l => ?thresholds, fun h => ?restart, fun h a => ?swap,
    fun h a => ?swapX, fun h a => ?raw, fun h a => ?taps, fun h e f => ?dsync⟩
  case status => exact reads_of (fun _ => rfl) (fun _ => ⟨_, rfl⟩)
  case profile =>
    refine performs_of (fun _ => rfl) ?_
    rintro n ⟨hne, hpass⟩
    exact ⟨_, bodyPecProfile_supported hne hpass⟩
  case inputs => exact performs_of (fun _ => rfl) (fun _ _ => ⟨[], rfl⟩)
  case thresholds => exact performs_of (fun _ => rfl) (fun _ huncrossed => ⟨[], bodyPecThresholds_uncrossed huncrossed⟩)
  case restart => exact performs_of (fun _ => rfl) (fun _ _ => ⟨_, rfl⟩)
  case swap =>
    refine performs_of (fun _ => rfl) ?_
    rintro n ⟨hne, honce, hlen, hslots⟩
    refine bankSwap_free hne honce hlen fun i hi => ?_
    obtain ⟨hheld, hxf, htarget⟩ := hslots i hi
    exact ⟨hheld, fun _ => hxf, htarget⟩
  case swapX =>
    refine performs_of (fun _ => rfl) ?_
    rintro n ⟨hne, honce, hlen, hslots⟩
    exact bankSwap_free hne honce hlen hslots
  case raw =>
    refine performs_of (fun _ => rfl) ?_
    rintro n ⟨hdecim, hprof, hhold, hfade, hpass⟩
    exact ⟨_, bodyPecSlotRaw_supported hdecim hprof hhold hfade hpass⟩
  case taps =>
    refine performs_of (fun _ => rfl) ?_
    rintro n ⟨hlen, hrange, hcommit⟩
    exact ⟨[], bodyPecCoefLoad_committed hlen hrange hcommit⟩
  case dsync => exact performs_of (fun _ => rfl) (fun _ _ => ⟨[], rfl⟩)

/-! ### Samples and outputs (R145, R160, R489) -/

section
variable {s : State} {a : Instant} {i : Fin 1024}

theorem State.advance_pecOn (s : State) (t : Instant) : (s.advance t).pecOn = s.pecOn := rfl

theorem State.advance_slot (s : State) (t : Instant) (n : Nat) : (s.advance t).slot n = s.slot n := rfl

/-- The oldest sample set taken from ingress; it goes to the capture units too (R127). -/
def State.popSample (s : State) (m : SvSample) (rest : List SvSample) : State :=
  { s with ing := { s.ing with samples := rest }, capIn := s.capIn ++ [CapIn.raw m] }

theorem State.popSample_pecOn (s : State) (m : SvSample) (rest : List SvSample) : (s.popSample m rest).pecOn = s.pecOn := rfl

/-- A sample set of a running chain enters estimation, or waits with the standby of a copy for its image. -/
theorem svSampleIn_running {m : SvSample} {rest : List SvSample} (holdest : s.ing.samples = m :: rest) (hon : s.pecOn = true) :
    exec (.svSampleIn a) s = .next (if s.awaitsImage then
        ((s.advance a).popSample m rest).setPair (fun p => { p with copy := { p.copy with raw := p.copy.raw ++ [m] } })
      else ((s.advance a).popSample m rest).sampleIn m) := by
  have hrunning : ¬ (!((s.advance a).popSample m rest).pecOn) = true := by
    simp [State.popSample_pecOn, State.advance_pecOn, hon]
  change execSvSampleIn a s = _
  simp only [execSvSampleIn, State.advance_ing, holdest]
  exact congrArg Host.Outcome.next (if_neg hrunning)

theorem svSampleIn_estimated {m : SvSample} {rest : List SvSample} (holdest : s.ing.samples = m :: rest) (hon : s.pecOn = true)
    (himage : s.awaitsImage = false) : exec (.svSampleIn a) s = .next (((s.advance a).popSample m rest).sampleIn m) := by
  simp only [svSampleIn_running holdest hon, himage, Bool.false_eq_true, if_false]

theorem svSampleIn_awaitsImage {m : SvSample} {rest : List SvSample} (holdest : s.ing.samples = m :: rest) (hon : s.pecOn = true)
    (himage : s.awaitsImage = true) : exec (.svSampleIn a) s =
      .next (((s.advance a).popSample m rest).setPair (fun p => { p with copy := { p.copy with raw := p.copy.raw ++ [m] } })) := by
  simp only [svSampleIn_running holdest hon, himage, if_true]

/-- The values of an output delivered, once it is out of its slot's queue. -/
def State.deliverOutput (s : State) (i : Nat) (o : ReadyOut) (rest : List ReadyOut) : State :=
  o.ins.foldl (fun (t : State) r => t.deliverInput i o.tc r) (s.updSlot i (fun x => { x with ready := rest }))

/-- An output of Drydown counts towards its end (R168). -/
def State.countDrydown (s : State) (i : Nat) (o : ReadyOut) : State :=
  if o.dry && decide ((s.slot i).t0 ≤ o.tc) then s.updSlot i (fun x => { x with
      dryLeft := x.dryLeft - 1, st := if x.st = .drydown && decide (x.dryLeft ≤ 1) then .run else x.st })
  else s

theorem estimateOutput_oldest {o : ReadyOut} {rest : List ReadyOut} (holdest : (s.slot i.val).ready = o :: rest) (hon : s.pecOn = true) :
    exec (.estimateOutput a i) s = .next ((((s.advance a).deliverOutput i.val o rest).countDrydown i.val o).track i.val o) := by
  have hrunning : ¬ (!(s.advance a).pecOn) = true := by simp [State.advance_pecOn, hon]
  change execEstimateOutput a i s = _
  simp only [execEstimateOutput, State.advance_slot, holdest]
  exact if_neg hrunning

/-! ### Restarts and cross-fades (R166, R170, R172, R175) -/

theorem slotRestart_earliest {p : PendRestart} {rest : List PendRestart} (h : (s.slot i.val).pend = p :: rest) :
    exec (.slotRestart i) s = .next ((s.advance p.t0).takeDue i.val p.t0) := by
  change execSlotRestart i s = _
  rw [execSlotRestart, h]

theorem dsyncEdge_active {r : Bool} {w : Nat} (hon : s.pecOn = true) (hen : s.rb Reg.PEC_SYNC_CTL 0 = true)
    (hedge : r ≠ s.rb Reg.PEC_SYNC_CTL 1) (hwide : 100 ≤ w) : exec (.dsyncEdge a r w) s = .next (s.advance a).syncRestart.1 :=
  if_pos (by simp [State.advance_pecOn, State.advance_rb, hon, hen, hedge, hwide])

theorem crossfadeEnd_complete {f : CrossFade} (hxf : (s.slot i.val).xf = some f) (hstarted : f.started = true) (hover : f.len ≤ f.step) :
    exec (.crossfadeEnd a i) s = .next (((s.advance a).updSlot i.val (fun x => { x with
      xf := none, bank := !x.bank, curBank := !x.curBank, xfEnd := fineOf (s.advance a).now })).status Reg.PEC_STAT 2) := by
  change execCrossfadeEnd a i s = _
  simp only [execCrossfadeEnd, State.advance_slot, hxf]
  exact if_pos (by simp [hstarted, hover])

theorem heldSwapStart_faded (hheld : (s.slot i.val).held = true) (hxf : (s.slot i.val).xf = none) :
    exec (.heldSwapStart a i) s = .next (((s.advance a).updSlot i.val (fun x => { x with held := false })).startFade i.val) :=
  if_pos (by simp [State.advance_slot, hheld, hxf])

end

/-- Settles O15, event by event; the accesses of the table window have no condition. -/
theorem estimationEventsComplete : Obligations.EstimationEventsComplete :=
  ⟨fun _ _ _ _ => svSampleIn_estimated,
    fun _ _ _ _ => svSampleIn_awaitsImage,
    fun _ _ _ _ _ => estimateOutput_oldest,
    fun _ _ _ _ => slotRestart_earliest,
    fun _ _ _ _ => dsyncEdge_active,
    fun _ _ _ _ => crossfadeEnd_complete,
    fun _ _ _ => heldSwapStart_faded,
    fun _ _ => rfl,
    fun _ _ => rfl⟩

end Sys2Proof.Machine
end

section
/-! PROOFS. The statements of the family of alignment: the alignment commands (O16), and the events of alignment and the accesses of its
registers (O17). -/

namespace Sys2Proof.Machine

/-! ### Changes of a group (R204, R208, R210) -/

section
variable {s : State} {g : Nat} {w : GrpWords} {set : Option (List Nat)}

/-- A set given that fits the history allocation, where history is kept, is not refused; nor is a change that gives no set. -/
theorem setOverflows_eq_false {room : Nat} {old : List Nat} (h : set ≠ none → w.histEn = true → (set.getD []).length ≤ room) :
    (set.isSome && w.histEn && decide (room < (set.getD old).length)) = false := by
  cases set with
  | none => rfl
  | some l =>
    cases hw : w.histEn with
    | false => rfl
    | true => simpa using h (Option.some_ne_none l) hw

theorem State.changeGroup_acceptsChange (h : s.acceptsChange g w set) : ∃ words, s.changeGroup g w set = ok words (s.pendChange g w set) := by
  obtain ⟨hst, hpend, hroom, hload⟩ := h
  have hfits := setOverflows_eq_false (old := (s.group g).set) hroom
  rcases hst with hst | hst
  all_goals
    simp only [State.changeGroup, hst, hpend, hfits, hload, Option.isSome_none, Bool.false_eq_true, ne_eq, not_true_eq_false, if_false]
    exact ⟨_, rfl⟩

theorem State.changeGroup_takesChange (h : s.takesChange g w set) : ∃ words, s.changeGroup g w set = ok words (s.changeNow g w set) := by
  obtain ⟨hst, hroom⟩ := h
  have hfits := setOverflows_eq_false (old := (s.group g).set) hroom
  simp only [State.changeGroup, hst, hfits, Bool.false_eq_true, if_false]
  exact ⟨_, rfl⟩

end

/-! ### The set that ALN_GROUP_CHANNELS makes (R186, R204, R205) -/

section
variable {s : State}

/-- The set of a group with the channels named added and removed. -/
def State.changedSet (s : State) (a : GroupChanArgs) : List Nat :=
  sortChans ((s.group a.group.val).set.filter (fun c => !a.remove.contains c) ++ a.add.filter (fun c => !(s.group a.group.val).set.contains c))

/-- Channels that may join, and members named once each to leave, make a change of the group's set. -/
theorem bodyAlnGroupChannels_admitted {a : GroupChanArgs} (hjoin : s.joinErr a.group.val a.add = 0) (honce : noDup a.remove = true)
    (hmember : ∀ c ∈ a.remove, (s.group a.group.val).set.contains c = true ∧ a.add.contains c = false) :
    bodyAlnGroupChannels a s = s.changeGroup a.group.val (s.grpWords a.group.val) (some (s.changedSet a)) := by
  have hstranger : a.remove.any (fun c => !(s.group a.group.val).set.contains c || a.add.contains c) = false := by
    rw [List.any_eq_false]
    intro c hc
    obtain ⟨hin, hout⟩ := hmember c hc
    simp only [hin, hout, Bool.not_true, Bool.or_self, Bool.false_eq_true, not_false_eq_true]
  have hremove : ¬ (!noDup a.remove || a.remove.any (fun c => !(s.group a.group.val).set.contains c || a.add.contains c)) = true := by
    simp only [honce, hstranger, Bool.not_true, Bool.or_self, Bool.false_eq_true, not_false_eq_true]
  exact (if_neg (not_not_intro hjoin)).trans (if_neg hremove)

theorem bodyAlnGroupTiming_inRange {a : GroupTimingArgs} {w : GrpWords}
    (hwords : newWords (s.grpWords a.group.val) none a.waitNs a.deadNs none a.minFill a.fillMiss none = some w) :
    bodyAlnGroupTiming a s = s.changeGroup a.group.val w none := by
  rw [bodyAlnGroupTiming, hwords]

/-! ### ALN_GROUP_START and ALN_GROUP_STOP (R201, R202) -/

/-- The group set going from the first reporting instant that leads by 100 ms, with its settings and its set. -/
def State.startGroup (s : State) (g : Nat) (w : GrpWords) (chans : List Nat) : State :=
  ((s.setWords g w).replaceSet g chans).updGroup g (fun x => { x with
    st := .starting, was := [], startK := s.leadK w.fr, startT := reportInstant (s.leadK w.fr) w.fr, nextOpen := s.leadK w.fr
    nextDl := s.leadK w.fr, asms := [], susp := none })

theorem bodyAlnGroupStart_admitted {a : GroupStartArgs} {w : GrpWords} {chans : List Nat}
    (hchans : a.chans.getD (s.group a.group.val).set = chans) (hen : s.rb Reg.ALN_CTL 0 = true)
    (hstopped : (s.group a.group.val).active = false)
    (hwords : newWords (s.grpWords a.group.val) a.rate a.waitNs a.deadNs a.tolNs a.minFill a.fillMiss a.histEn = some w)
    (hjoin : s.joinErr a.group.val chans = 0)
    (hhist : w.histEn = true → (s.group a.group.val).depth ≠ 0 ∧ chans.length ≤ (s.group a.group.val).maxChan)
    (hload : s.loadErr a.group.val (grpNeed chans.length w) (chans.length * w.fr) = 0) :
    ∃ words, bodyAlnGroupStart a s = ok words (s.startGroup a.group.val w chans) := by
  have hready : ¬ (!s.rb Reg.ALN_CTL 0 || (s.group a.group.val).active) = true := by simp [hen, hstopped]
  have hfits : ¬ (w.histEn && (decide ((s.group a.group.val).depth = 0) || decide ((s.group a.group.val).maxChan < chans.length))) = true := by
    simpa using hhist
  unfold bodyAlnGroupStart
  simp only [hchans, hwords]
  exact ⟨_, (if_neg hready).trans <| (if_neg (not_not_intro hjoin)).trans <| (if_neg hfits).trans (if_neg (not_not_intro hload))⟩

variable {g : Fin 32} {flush : Bool}

theorem bodyAlnGroupStop_running (hst : (s.group g.val).st = .running) : ∃ words, bodyAlnGroupStop g false s =
    ok words ((s.updGroup g.val (fun x => { x with
      st := .stopping, stopK := s.leadK (s.grpFr g.val), stopT := reportInstant (s.leadK (s.grpFr g.val)) (s.grpFr g.val) })).stopIfDone
        g.val) := by
  simp only [bodyAlnGroupStop, hst]
  exact ⟨_, rfl⟩

theorem bodyAlnGroupStop_flushes (hst : (s.group g.val).st = .running ∨ (s.group g.val).st = .stopping) :
    bodyAlnGroupStop g true s = ok [] (s.flushStop g.val) := by
  rcases hst with hst | hst <;> simp only [bodyAlnGroupStop, hst, if_true]

theorem bodyAlnGroupStop_starting (hst : (s.group g.val).st = .starting) :
    bodyAlnGroupStop g flush s = ok [] ((s.updGroup g.val (fun x => { x with asms := [] })).groupStopped g.val s.now) := by
  simp only [bodyAlnGroupStop, hst]

/-- Nothing is left to stop of a STOPPED group, nor of a STOPPING one that need not be flushed. -/
theorem bodyAlnGroupStop_idle (hst : (s.group g.val).st = .stopped ∨ ((s.group g.val).st = .stopping ∧ flush = false)) :
    ∃ words, bodyAlnGroupStop g flush s = ok words s := by
  rcases hst with hst | ⟨hst, rfl⟩
  · exact ⟨[], by simp only [bodyAlnGroupStop, hst]⟩
  · exact ⟨_, by simp only [bodyAlnGroupStop, hst, Bool.false_eq_true, if_false]; rfl⟩

/-! ### History (R210, R212, R539) -/

/-- History of the group allocated anew and empty; hist_en is given up where the depth is 0. -/
def State.allocHist (s : State) (a : HistAllocArgs) : State :=
  let t := s.updGroup a.group.val (fun x => { x with depth := a.depth, maxChan := a.maxChan, hist := [] })
  if a.depth = 0 then t.setRb (Reg.ALN_GRP_CTL a.group.val) 6 false else t

theorem bodyAlnHistAlloc_fits {a : HistAllocArgs} (hstopped : (s.group a.group.val).active = false) (hdepth : a.depth < 2 ^ 28)
    (hmax : a.maxChan ≤ 262144) (hsize : s.histBytes (some a.group.val) + a.depth * histSlot a.maxChan ≤ s.histSize)
    (hset : s.rb (Reg.ALN_GRP_CTL a.group.val) 6 = true → a.depth ≠ 0 → (s.group a.group.val).set.length ≤ a.maxChan) :
    bodyAlnHistAlloc a s = ok [] (s.allocHist a) := by
  have hidle : ¬ (s.group a.group.val).active = true := by simp [hstopped]
  have hrange : ¬ (decide (2 ^ 28 ≤ a.depth) || decide (262144 < a.maxChan)) = true := by
    simpa only [Bool.or_eq_true, decide_eq_true_eq, not_or, Nat.not_le, Nat.not_lt] using And.intro hdepth hmax
  have hslot : ¬ (s.rb (Reg.ALN_GRP_CTL a.group.val) 6 && a.depth ≠ 0 && decide (a.maxChan < (s.group a.group.val).set.length)) = true := by
    simpa only [Bool.and_eq_true, decide_eq_true_eq, not_and, Nat.not_lt, and_imp] using hset
  exact (if_neg hidle).trans <| (if_neg hrange).trans <| (if_neg (Nat.not_lt.mpr hsize)).trans (if_neg hslot)

theorem State.takePoison_none {p : Nat} (h : (s.takePoison p).1 = none) : (s.takePoison p).2 = s := by
  unfold State.takePoison at h ⊢
  split at h
  · cases h
  · rfl

/-- The snapshots of a group's history that ALN_HIST_READ copies: those at or after its instant, as many as fit the buffer. -/
def State.histRun (s : State) (len : Nat) (a : HistReadArgs) : List Snapshot :=
  fitting len ((s.group a.group.val).hist.dropWhile (fun x => decide (x.t < a.start)))

/-- What is left of the run once a poisoned transfer has taken its first snapshot goes to the host buffer; something is left. -/
theorem bodyAlnHistRead_copies {a : HistReadArgs} {via : Via} {buf len : Nat} {run l : List Snapshot} (hrun : run = s.histRun len a)
    (hsome : run ≠ []) (hleft : (if (s.takePoison 0).1.isSome then run.drop 1 else run) = l) (hne : l ≠ []) :
    ∃ words, bodyAlnHistRead via buf len a s = ok words ((s.takePoison 0).2.hostWrite via buf (wordsLE (l.flatMap Snapshot.bytes))) := by
  have hfirst : l.head? = some (l.head hne) := List.head?_eq_some_head hne
  have hlast : l.getLast? = some (l.getLast hne) := List.getLast?_eq_some_getLast hne
  have htaken : ¬ run.isEmpty = true := by simpa using hsome
  unfold State.histRun at hrun
  simp only [bodyAlnHistRead, ← hrun, if_neg htaken, hleft, hfirst, hlast]
  exact ⟨_, rfl⟩

theorem bodyAlnHistRead_clean {a : HistReadArgs} {via : Via} {buf len : Nat} {l : List Snapshot} (hclean : (s.takePoison 0).1 = none)
    (hne : l ≠ []) (hrun : l = s.histRun len a) :
    ∃ words, bodyAlnHistRead via buf len a s = ok words (s.hostWrite via buf (wordsLE (l.flatMap Snapshot.bytes))) := by
  have hcopy := bodyAlnHistRead_copies (via := via) (buf := buf) hrun hne (by simp [hclean]) hne
  rwa [State.takePoison_none hclean] at hcopy

theorem bodyAlnHistRead_poisoned {a : HistReadArgs} {via : Via} {buf len : Nat} {x : Snapshot} {l : List Snapshot}
    (hpoisoned : (s.takePoison 0).1 ≠ none) (hne : l ≠ []) (hrun : x :: l = s.histRun len a) :
    ∃ words, bodyAlnHistRead via buf len a s = ok words ((s.takePoison 0).2.hostWrite via buf (wordsLE (l.flatMap Snapshot.bytes))) :=
  bodyAlnHistRead_copies hrun (List.cons_ne_nil x l) (if_pos (Option.isSome_iff_ne_none.mpr hpoisoned)) hne

/-! ### Raw words and ALN_TUNE (R207, R210, R213, R215) -/

theorem bodyAlnGroupRaw_inRange {a : GroupRawArgs} (hstopped : (s.group a.group.val).active = false) (hwait1 : 1 ≤ fld a.wait 13 0)
    (hwait2 : fld a.wait 13 0 ≤ 10000) (hdead1 : 5 ≤ fld a.wait 30 14) (hdead2 : fld a.wait 30 14 ≤ 10 * fld a.wait 13 0)
    (htol : fld a.tol 9 0 ≤ 1000)
    (hhist : bit a.ctl 6 = true → (s.group a.group.val).depth ≠ 0 ∧ (s.group a.group.val).set.length ≤ (s.group a.group.val).maxChan) :
    bodyAlnGroupRaw a s = ok [] (s.setWords a.group.val ⟨a.ctl &&& grpCtlMask, a.wait &&& 0x7FFFFFFF#32, a.tol &&& 0x3FF#32⟩) := by
  have hidle : ¬ (s.group a.group.val).active = true := by simp [hstopped]
  have hrange : ¬ (decide (fld a.wait 13 0 = 0) || decide (10000 < fld a.wait 13 0) || decide (fld a.wait 30 14 < 5) ||
      decide (10 * fld a.wait 13 0 < fld a.wait 30 14) || decide (1000 < fld a.tol 9 0)) = true := by
    simp only [Bool.or_eq_true, decide_eq_true_eq]
    omega
  have hfits : ¬ (bit a.ctl 6 && (decide ((s.group a.group.val).depth = 0) ||
      decide ((s.group a.group.val).maxChan < (s.group a.group.val).set.length))) = true := by
    simpa using hhist
  exact (if_neg hidle).trans <| (if_neg hrange).trans (if_neg hfits)

/-- The history partition set to a size in GiB, where one is given; above 20 it is taken as 20 (Table 6-11). -/
def State.sizedHist (s : State) (z : Option Nat) : State :=
  (z.map (fun k => s.setRf Reg.ALN_HIST_CTL 4 0 (min 20 k))).getD s

theorem bodyAlnTune_size {z : Option Nat} (hsize : ∀ k, z = some k → s.histBytes none ≤ min 20 k * 2 ^ 30) :
    bodyAlnTune ⟨none, z⟩ s = ok [] (s.sizedHist z) := by
  cases z with
  | none => rfl
  | some k => exact if_neg (by simpa only [decide_eq_true_eq, Nat.not_lt] using hsize k rfl)

/-- A tolerance given makes a change of the group's settings; the partition is sized once the change is accepted. -/
theorem bodyAlnTune_tolerance {v : Nat} {z : Option Nat} {w : GrpWords} {words : List Word} {t : State}
    (hsize : ∀ k, z = some k → s.histBytes none ≤ min 20 k * 2 ^ 30)
    (hwords : newWords (s.grpWords g.val) none none none (some v) none none none = some w)
    (hchange : s.changeGroup g.val w none = ok words t) :
    bodyAlnTune ⟨some (g, v), z⟩ s = ok words (t.sizedHist z) := by
  cases z with
  | none => simp only [bodyAlnTune, hwords, hchange, ok]; rfl
  | some k =>
    have hroom : ¬ decide (min 20 k * 2 ^ 30 < s.histBytes none) = true := by
      simpa only [decide_eq_true_eq, Nat.not_lt] using hsize k rfl
    simp only [bodyAlnTune, if_neg hroom, hwords, hchange, ok]
    rfl

end

/-- Settles O16, command by command: each body ends in its effect under the stated conditions, and every change of a group's settings or set
goes by the group's state. -/
theorem accordCommandsComplete : Obligations.AccordCommandsComplete := by
  refine ⟨fun h => ?status, fun h a w => ?start, fun h g => ?stop, fun h g => ?flush, fun h g b => ?stopStarting, fun h g b => ?stopIdle,
    fun h a l => ?channelsPend, fun h a l => ?channelsNow, fun h a w => ?timingPend, fun h a w => ?timingNow, fun h a => ?histAlloc,
    fun h a l => ?histRead, fun h a x l => ?histPoisoned, fun h a => ?groupRaw, fun h l => ?chanRaw, fun h z => ?size,
    fun h g v z w => ?tolerance⟩
  case status => exact reads_of (fun _ => rfl) (fun _ => ⟨_, rfl⟩)
  case start =>
    refine performs_of (fun _ => rfl) ?_
    rintro n ⟨hen, hstopped, hwords, hjoin, hhist, hload⟩
    exact bodyAlnGroupStart_admitted rfl hen hstopped hwords hjoin hhist hload
  case stop => exact performs_of (fun _ => rfl) (fun _ hst => bodyAlnGroupStop_running hst)
  case flush => exact performs_of (fun _ => rfl) (fun _ hst => ⟨[], bodyAlnGroupStop_flushes hst⟩)
  case stopStarting => exact performs_of (fun _ => rfl) (fun _ hst => ⟨[], bodyAlnGroupStop_starting hst⟩)
  case stopIdle => exact performs_of (fun _ => rfl) (fun _ hst => bodyAlnGroupStop_idle hst)
  case channelsPend =>
    refine performs_of (fun _ => rfl) ?_
    rintro n ⟨hjoin, honce, hmember, rfl, haccepts⟩
    rw [bodyAlnGroupChannels_admitted hjoin honce hmember]
    exact State.changeGroup_acceptsChange haccepts
  case channelsNow =>
    refine performs_of (fun _ => rfl) ?_
    rintro n ⟨hjoin, honce, hmember, rfl, htakes⟩
    rw [bodyAlnGroupChannels_admitted hjoin honce hmember]
    exact State.changeGroup_takesChange htakes
  case timingPend =>
    refine performs_of (fun _ => rfl) ?_
    rintro n ⟨hwords, haccepts⟩
    rw [bodyAlnGroupTiming_inRange hwords]
    exact State.changeGroup_acceptsChange haccepts
  case timingNow =>
    refine performs_of (fun _ => rfl) ?_
    rintro n ⟨hwords, htakes⟩
    rw [bodyAlnGroupTiming_inRange hwords]
    exact State.changeGroup_takesChange htakes
  case histAlloc =>
    refine performs_of (fun _ => rfl) ?_
    rintro n ⟨hstopped, hdepth, hmax, hsize, hset⟩
    exact ⟨[], bodyAlnHistAlloc_fits hstopped hdepth hmax hsize hset⟩
  case histRead =>
    refine sends_of (fun _ => rfl) ?_
    rintro n ⟨hclean, hne, hrun⟩
    exact bodyAlnHistRead_clean hclean hne hrun
  case histPoisoned =>
    refine sends_of (fun _ => rfl) ?_
    rintro n ⟨hpoisoned, hne, hrun⟩
    exact bodyAlnHistRead_poisoned hpoisoned hne hrun
  case groupRaw =>
    refine performs_of (fun _ => rfl) ?_
    rintro n ⟨hstopped, hwait1, hwait2, hdead1, hdead2, htol, hhist⟩
    exact ⟨[], bodyAlnGroupRaw_inRange hstopped hwait1 hwait2 hdead1 hdead2 htol hhist⟩
  case chanRaw => exact performs_of (fun _ => rfl) (fun _ hpass => ⟨[], if_neg (not_not_intro hpass)⟩)
  case size => exact performs_of (fun _ => rfl) (fun _ hsize => ⟨[], bodyAlnTune_size hsize⟩)
  case tolerance =>
    refine performs_of (fun _ => rfl) ?_
    rintro n ⟨hsize, hwords, haccepts⟩
    obtain ⟨words, hchange⟩ := State.changeGroup_acceptsChange haccepts
    exact ⟨words, bodyAlnTune_tolerance hsize hwords hchange⟩

/-! ### Values, deadlines and windows (R189, R190, R195, R216) -/

section
variable {s s1 : State} {a : Instant} {g : Fin 32}

theorem State.advance_group (s : State) (t : Instant) (n : Nat) : (s.advance t).group n = s.group n := rfl

theorem State.advance_followsLists (s : State) (t : Instant) : (s.advance t).followsLists = s.followsLists := rfl

theorem accordValueReceive_oldest {v : ChanValue} {rest : List ChanValue} (holdest : s.ing.values = v :: rest)
    (hruns : s.runs Isle.accord = true) : exec (.accordValueReceive a) s =
      .next (State.acceptValue (State.takeReports { (s.advance a) with ing := { s.ing with values := rest } } v.chan) v).guardTriggers := by
  have hon : ¬ (!(s.advance a).runs Isle.accord) = true := by simp [State.advance_runs, hruns]
  change execAccordValueReceive a s = _
  simp only [execAccordValueReceive, State.advance_ing, holdest]
  exact if_neg hon

theorem provisionalIssue_next {x : Asm} (h : s.nextDeadline g.val = (s1, some x)) :
    exec (.provisionalIssue g) s = .next ((s1.advance (x.t + x.words.deadline)).deadline g.val x) := by
  change execProvisionalIssue g s = _
  rw [execProvisionalIssue, h]

theorem windowClose_next {x : Asm} (h : s.nextAsm g.val (fun y => !y.closed) = (s1, some x)) : exec (.windowClose g) s =
    .next ((s1.advance (x.t + x.words.wait_)).updAsm g.val x.k (fun y => { y with closed := true })) := by
  change execWindowClose g s = _
  rw [execWindowClose, h]

theorem closeGuardEnd_closed {x : Asm} (h : (s.group g.val).asms.find? (fun y => y.closed && !y.guardEnd && !y.trig) = some x) :
    exec (.closeGuardEnd g) s = .next ((s.advance (x.t + x.words.wait_ + us 20)).updAsm g.val x.k
      (fun y => { y with guardEnd := !y.set.isEmpty })).guardTriggers := by
  change execCloseGuardEnd g s = _
  rw [execCloseGuardEnd, h]

/-- Off a standby, the instant of a group without channels triggers at its own time (R195, R491). -/
theorem emptyGroupTrigger_next {x : Asm} (h : s.nextAsm g.val (fun y => !y.trig) = (s1, some x)) (hempty : x.set = [])
    (hactive : s1.followsLists = false) : exec (.emptyGroupTrigger g) s = .next ((s1.advance x.t).trigger g.val x.k) := by
  change execEmptyGroupTrigger g s = _
  rw [execEmptyGroupTrigger, h]
  simp only [hempty, List.isEmpty_nil, State.advance_followsLists, hactive, Bool.false_eq_true, if_true, if_false]

/-! ### Groups and their registers (R201, R204, R207, R215) -/

theorem groupStartReached_starting (h : (s.group g.val).st = .starting) : exec (.groupStartReached g) s =
    .next ((s.advance (s.group g.val).startT).updGroup g.val (fun x => { x with st := .running })) :=
  if_pos h

theorem groupChangeEffective_pending {c : GrpChange} (h : (s.group g.val).pend = some c) :
    exec (.groupChangeEffective g) s = .next (((s.openUpTo g.val c.k).advance c.t).applyChange g.val) := by
  change execGroupChangeEffective g s = _
  rw [execGroupChangeEffective, h]

theorem alnChanWrite_accepted (h : s.chanErr (s.rf Reg.ALN_CHAN_IDX 17 0) (s.reg Reg.ALN_CHAN_W0) = 0) : exec (.alnChanWrite a) s =
    .next (((s.advance a).setRf Reg.ALN_CHAN_CMD 30 28 0).writeChan (s.rf Reg.ALN_CHAN_IDX 17 0) (s.reg Reg.ALN_CHAN_W0)) := by
  have hpass : (s.advance a).chanErr ((s.advance a).rf Reg.ALN_CHAN_IDX 17 0) ((s.advance a).reg Reg.ALN_CHAN_W0) = 0 := h
  change Host.Outcome.next (s.advance a).alnChanWrite = _
  simp only [State.alnChanWrite, hpass, if_true]
  rfl

theorem alnChanWrite_refused (h : s.chanErr (s.rf Reg.ALN_CHAN_IDX 17 0) (s.reg Reg.ALN_CHAN_W0) ≠ 0) : exec (.alnChanWrite a) s =
    .next ((s.advance a).setRf Reg.ALN_CHAN_CMD 30 28 (s.chanErr (s.rf Reg.ALN_CHAN_IDX 17 0) (s.reg Reg.ALN_CHAN_W0))) :=
  congrArg Host.Outcome.next (if_neg h)

/-- A STOPPED group takes its three settings registers; a write to any other group is counted. -/
theorem alnGrpRegWrite_next (i : Fin 3) (v : Word) : exec (.alnGrpRegWrite a g i v) s = .next (if (s.group g.val).active
    then ((s.advance a).count (Reg.ALN_CNT 2) 1).status Reg.ALN_STAT 3
    else if i = 0 then (s.advance a).setReg (Reg.ALN_GRP_CTL g.val)
      (if (s.group g.val).depth = 0 then setBit (v &&& grpCtlMask) 6 false else v &&& grpCtlMask)
    else if i = 1 then (s.advance a).setReg (Reg.ALN_GRP_WAIT g.val) (v &&& 0x7FFFFFFF#32)
    else (s.advance a).setReg (Reg.ALN_GRP_TOL g.val) (v &&& 0x3FF#32)) :=
  match i with
  | 0 => rfl
  | 1 => rfl
  | 2 => rfl

end

/-- Settles O17, event by event; a commit, the classes' change and a read of the channel window have no condition. -/
theorem accordEventsComplete : Obligations.AccordEventsComplete :=
  ⟨fun _ _ _ _ => accordValueReceive_oldest,
    fun _ _ _ _ => provisionalIssue_next,
    fun _ _ _ _ => windowClose_next,
    fun _ _ _ => closeGuardEnd_closed,
    fun _ _ _ _ => emptyGroupTrigger_next,
    fun _ _ _ => rfl,
    fun _ _ => groupStartReached_starting,
    fun _ _ _ => groupChangeEffective_pending,
    fun _ _ => rfl,
    fun _ _ => rfl,
    fun _ _ => alnChanWrite_accepted,
    fun _ _ => alnChanWrite_refused,
    fun _ _ i v _ => alnGrpRegWrite_next i v⟩

end Sys2Proof.Machine
end

section
/-! PROOFS. The statements of the family of speculative snapshots: the speculation commands and the direct write of class words (O18), and the
messages of Accord that Nose takes (O21). -/

namespace Sys2Proof.Machine

/-! ### Changes of depth (R237) -/

section
variable {s : State} {g : Fin 32} {ctl : Word}

/-- A group that accepts new settings takes the depth in its control word as one of them. -/
theorem State.changeDepth_acceptsChange (h : s.acceptsChange g.val { (s.grpWords g.val) with ctl := ctl } none) : ∃ words,
    s.changeDepth g.val ctl = ok words (s.pendChange g.val { (s.grpWords g.val) with ctl := ctl } none) := by
  obtain ⟨words, hchange⟩ := State.changeGroup_acceptsChange h
  rw [State.changeDepth, hchange]
  exact ⟨_, rfl⟩

theorem bodySplGroup_depth {d : Nat} (hd : d ≤ 64) :
    bodySplGroup g (.depth d) s = s.changeDepth g.val (depthWord (s.grpWords g.val).ctl d) :=
  if_neg (Nat.not_lt.mpr hd)

end

/-! ### Changes of classes (R238, R243, R244) -/

section
variable {s : State}

theorem bodySplClass_idle {c : Fin 16} {k : Fin 4} (hidle : s.classPending = false) :
    bodySplClass c k s = ok [] (s.writeClass c.val { resetClass with ctl := setFld resetClass.ctl 1 0 k.val }) :=
  if_neg (Bool.eq_false_iff.mp hidle)

/-- The words of a class named in full, its maximum age and kind packed below the floor (Table 7-13). -/
def ClassRawArgs.vals (a : ClassRawArgs) : ClassVals :=
  ⟨(a.magFloor &&& 0xFFFF0000#32) ||| put 15 8 a.maxAge ||| put 1 0 a.kind.val, a.tolMag, a.tolAng, a.tolAbs⟩

theorem bodySplClassRaw_inRange {a : ClassRawArgs} (hmag : badTol a.tolMag = false) (hang : badTol a.tolAng = false)
    (habs : badTol a.tolAbs = false) (hage1 : 1 ≤ a.maxAge) (hage2 : a.maxAge ≤ 255) (hidle : s.classPending = false) :
    bodySplClassRaw a s = ok [] (s.writeClass a.cls.val a.vals) := by
  have hrange : ¬ (badTol a.tolMag || badTol a.tolAng || badTol a.tolAbs || decide (a.maxAge = 0) || decide (255 < a.maxAge)) = true := by
    simp only [hmag, hang, habs, Bool.false_or, Bool.or_eq_true, decide_eq_true_eq]
    omega
  exact (if_neg hrange).trans (if_neg (Bool.eq_false_iff.mp hidle))

/-- With no change of classes pending, the class words are stored and their change is due in 100 ms. -/
theorem State.classWrite_idle {l : List (Nat × Word)} (hidle : s.classPending = false) : (s.classWrite l).2 =
    (l.foldl (fun (t : State) p => t.storeClassWord p.1 p.2) s).setAln (fun x => { x with clsPend := some (s.up + ms 100) }) :=
  congrArg Prod.snd (if_neg (Bool.eq_false_iff.mp hidle))

theorem State.classWrite_pending {l : List (Nat × Word)} (hpending : s.classPending = true) : (s.classWrite l).2 = s :=
  congrArg Prod.snd (if_pos hpending)

theorem State.advance_classPending (s : State) (t : Instant) : (s.advance t).classPending = s.classPending := rfl

end

/-- Settles O18, command by command: each change of depth is a change of the group's settings, and each change of classes waits for the one
pending. -/
theorem speculationCompletes : Obligations.SpeculationCompletes := by
  refine ⟨fun h => ?status, fun h g => ?auto, fun h g d => ?depth, fun h g => ?off, fun h c k => ?profile, fun h l c => ?ledger,
    fun h a => ?classRaw, fun h g d m => ?groupRaw, fun a l s hidle => ?regWrite, fun a l s hpending => ?regWritePending⟩
  case status => exact reads_of (fun _ => rfl) (fun _ => ⟨_, rfl⟩)
  case auto => exact performs_of (fun _ => rfl) (fun _ haccepts => State.changeDepth_acceptsChange haccepts)
  case depth =>
    refine performs_of (fun _ => rfl) ?_
    rintro n ⟨hd, haccepts⟩
    rw [bodySplGroup_depth hd]
    exact State.changeDepth_acceptsChange haccepts
  case off => exact performs_of (fun _ => rfl) (fun _ haccepts => State.changeDepth_acceptsChange haccepts)
  case profile => exact performs_of (fun _ => rfl) (fun _ hidle => ⟨[], bodySplClass_idle hidle⟩)
  case ledger => exact reads_of (fun _ => rfl) (fun _ => ⟨_, rfl⟩)
  case classRaw =>
    refine performs_of (fun _ => rfl) ?_
    rintro n ⟨hmag, hang, habs, hage1, hage2, hidle⟩
    exact ⟨[], bodySplClassRaw_inRange hmag hang habs hage1 hage2 hidle⟩
  case groupRaw => exact performs_of (fun _ => rfl) (fun _ haccepts => State.changeDepth_acceptsChange haccepts)
  case regWrite =>
    exact congrArg Host.Outcome.next (State.classWrite_idle ((State.advance_classPending s a).trans hidle))
  case regWritePending =>
    exact congrArg Host.Outcome.next (State.classWrite_pending ((State.advance_classPending s a).trans hpending))

/-! ### The messages of Accord (R227, R228, R229, R239) -/

section
variable {s : State} {a : Instant} {x : Snapshot} {rest : List NoseMsg}

/-- Nose takes what Accord committed while it runs and Accord's barrier has completed (R474); time running on changes neither. -/
theorem State.advance_takesCommitted (hruns : s.runs Isle.nose = true) (hbarrier : s.barred Isle.accord = false) :
    ((s.advance a).runs Isle.nose && !(s.advance a).barred Isle.accord) = true := by
  have hbarrier' : (s.advance a).barred Isle.accord = false := hbarrier
  rw [State.advance_runs, hruns, hbarrier']
  rfl

theorem provisionalSnapshotEvaluate_oldest (holdest : s.aln.nose = .prov x :: rest) (hruns : s.runs Isle.nose = true) :
    exec (.provisionalSnapshotEvaluate a) s = .next ((s.advance a).popNose.noseProv x) := by
  change execProvisionalSnapshotEvaluate a s = _
  simp only [execProvisionalSnapshotEvaluate, State.advance_aln, holdest]
  exact congrArg Host.Outcome.next (if_pos hruns)

theorem committedSnapshotEvaluate_oldest (holdest : s.aln.nose = .commit x :: rest) (hruns : s.runs Isle.nose = true)
    (hbarrier : s.barred Isle.accord = false) :
    exec (.committedSnapshotEvaluate a) s = .next ((s.advance a).popNose.noseCommit x false) := by
  change execCommittedSnapshotEvaluate a s = _
  simp only [execCommittedSnapshotEvaluate, State.advance_aln, holdest]
  exact congrArg Host.Outcome.next (if_pos (State.advance_takesCommitted hruns hbarrier))

theorem confirmReceive_oldest (holdest : s.aln.nose = .confirm x :: rest) (hruns : s.runs Isle.nose = true)
    (hbarrier : s.barred Isle.accord = false) :
    exec (.confirmReceive a) s = .next (((s.advance a).popNose.noseCommit x true).retire x.group x.k) := by
  change execConfirmReceive a s = _
  simp only [execConfirmReceive, State.advance_aln, holdest]
  exact congrArg Host.Outcome.next (if_pos (State.advance_takesCommitted hruns hbarrier))

theorem rollbackReceive_oldest (holdest : s.aln.nose = .rollback x :: rest) (hruns : s.runs Isle.nose = true)
    (hbarrier : s.barred Isle.accord = false) :
    exec (.rollbackReceive a) s = .next (((s.advance a).popNose.noseCommit x false).retire x.group x.k) := by
  change execRollbackReceive a s = _
  simp only [execRollbackReceive, State.advance_aln, holdest]
  exact congrArg Host.Outcome.next (if_pos (State.advance_takesCommitted hruns hbarrier))

theorem flushReceive_oldest {g : Nat} {ks : List Nat} (holdest : s.aln.nose = .flush g ks :: rest) (hruns : s.runs Isle.nose = true) :
    exec (.flushReceive a) s = .next ((s.advance a).popNose.noseFlush g ks) := by
  change execFlushReceive a s = _
  simp only [execFlushReceive, State.advance_aln, holdest]
  exact congrArg Host.Outcome.next (if_pos hruns)

end

/-- Settles O21, message by message; the snapshot of a committed instant also waits for Accord's barrier. -/
theorem noseEventsComplete : Obligations.NoseEventsComplete :=
  ⟨fun _ _ _ _ => provisionalSnapshotEvaluate_oldest,
    fun _ _ _ _ => committedSnapshotEvaluate_oldest,
    fun _ _ _ _ => confirmReceive_oldest,
    fun _ _ _ _ => rollbackReceive_oldest,
    fun _ _ _ _ _ => flushReceive_oldest⟩

end Sys2Proof.Machine
end

section
/-! PROOFS. The statements of the family of oscillation analysis: the oscillation commands (O24), and the events of the oscillation engine and the
accesses of its table window (O25). -/

namespace Sys2Proof.Machine

/-! ### Sets (R245, R247, R251) -/

section
variable {s : State}

theorem bodyOscSetProfile_stopped {a : OscProfileArgs} (hstopped : (s.oset a.set.val).run = false) (hwin1 : 10 ≤ a.winS) (hwin2 : a.winS ≤ 600)
    (hcount : 1 ≤ a.count) (hcores : a.first + a.count ≤ 256) (horder : a.order ≤ 25) (hband : (s.setOscProfile a).bandBad a.set.val = false) :
    bodyOscSetProfile a s = ok [] (s.setOscProfile a) := by
  have hrange : ¬ (decide (a.winS < 10) || decide (600 < a.winS) || decide (a.count = 0) || decide (256 < a.count) ||
      decide (256 < a.first + a.count) || decide (25 < a.order)) = true := by
    simp only [Bool.or_eq_true, decide_eq_true_eq]
    omega
  exact (if_neg (Bool.eq_false_iff.mp hstopped)).trans <| (if_neg hrange).trans (if_neg (Bool.eq_false_iff.mp hband))

/-- Where every entry may be written, none is found to refuse the command for. -/
theorem find?_err_eq_none {α : Type} {l : List α} {err : α → Nat} (h : ∀ a ∈ l, err a = 0) : l.find? (fun a => err a != 0) = none :=
  List.find?_eq_none.mpr fun a ha => by simp [h a ha]

theorem bodyOscSignals_stopped {i : Fin 32} {l : List OscSignal} (hstopped : (s.oset i.val).run = false)
    (hpass : ∀ a ∈ l, s.hasCore i.val a.core.val = true ∧ s.sigErr a.index a.w0 a.w1 = 0) :
    bodyOscSignals i l s = ok [] (l.foldl (fun (t : State) a => t.putSig a.index a.w0 a.w1 a.scale) s) := by
  have hcores : ¬ l.any (fun a => !s.hasCore i.val a.core.val) = true := by simpa using fun a ha => (hpass a ha).1
  refine (if_neg (Bool.eq_false_iff.mp hstopped)).trans <| (if_neg hcores).trans ?_
  simp only [find?_err_eq_none fun a ha => (hpass a ha).2]

theorem bodyOscThresholds_inRange {a : OscThresholdArgs} (hdamp : outside 1 1023 a.dampPers = false) (hamp : outside 1 1023 a.ampPers = false)
    (hclr : outside 1 1023 a.clrPers = false) : bodyOscThresholds a s =
      ok [] (((((((s.setRegSome (Reg.OSC_SET_B_DAMP a.set.val a.band.val) a.zeta).setRegSome (Reg.OSC_SET_B_HYST a.set.val a.band.val)
        a.hyst).setRegSome (Reg.OSC_SET_B_AMIN a.set.val a.band.val) a.aMin).setRegSome (Reg.OSC_SET_B_AMAX a.set.val a.band.val) a.aMax).setSome
        (Reg.OSC_SET_B_PERS a.set.val a.band.val) 9 0 a.dampPers).setSome (Reg.OSC_SET_B_PERS a.set.val a.band.val) 19 10 a.ampPers).setSome
        (Reg.OSC_SET_B_PERS a.set.val a.band.val) 29 20 a.clrPers) :=
  if_neg (by simp [hdamp, hamp, hclr])

theorem bodyOscSetRaw_accepted {i : Fin 32} {l : List (Fin 32 × Word)} (hfree : ∀ p ∈ l, s.oscHeldReg i.val (4 * p.1.val) = false)
    (hrange : ∀ p ∈ l, oscWordBad (4 * p.1.val) p.2 = false)
    (hpass : (l.foldl (fun (t : State) p => t.plainWrite (Reg.OSC_SET_CTL i.val + 4 * p.1.val) p.2) s).changeErr i.val
      (l.map (fun p => 4 * p.1.val)) = 0) :
    bodyOscSetRaw i l s = ok [] (l.foldl (fun (t : State) p => t.plainWrite (Reg.OSC_SET_CTL i.val + 4 * p.1.val) p.2) s) := by
  have hheld : ¬ l.any (fun p => s.oscHeldReg i.val (4 * p.1.val)) = true := by simpa using hfree
  have hbad : ¬ l.any (fun p => oscWordBad (4 * p.1.val) p.2) = true := by simpa using hrange
  exact (if_neg hheld).trans <| (if_neg hbad).trans (if_neg (not_not_intro hpass))

/-! ### Branches and raw entries (R276) -/

theorem bodyOscDefBranches_accepted {l : List OscBranch}
    (hpass : ∀ a ∈ l, s.branchErr a.index.val (a.words.headD 0#32) ((a.words.drop 1).headD 0#32) = 0) :
    bodyOscDefBranches l s = ok [] (l.foldl (fun (t : State) a => t.putBranch a.index.val a.words) s) := by
  simp only [bodyOscDefBranches, find?_err_eq_none hpass]

theorem bodyOscSigRaw_accepted {l : List OscTblEntry} (hpass : ∀ e ∈ l, (s.oscWrite e.branch e.index e.words.toList).1 = 0) :
    bodyOscSigRaw l s = ok [] (l.foldl (fun (t : State) e => (t.oscWrite e.branch e.index e.words.toList).2) s) := by
  simp only [bodyOscSigRaw, find?_err_eq_none hpass]

end

/-- Settles O24, command by command: each body ends in its effect under the stated conditions; a set's start is judged with its reference copied. -/
theorem oscillationCommandsComplete : Obligations.OscillationCommandsComplete := by
  refine ⟨fun h => ?status, fun h a => ?profile, fun h i l => ?signals, fun h a => ?thresholds, fun h i => ?start, fun h i => ?stop,
    fun h i b => ?modes, fun h l => ?branches, fun h i b => ?forced, fun h i l => ?setRaw, fun h l => ?sigRaw, fun h a => ?tune⟩
  case status => exact reads_of (fun _ => rfl) (fun _ => ⟨_, rfl⟩)
  case profile =>
    refine performs_of (fun _ => rfl) ?_
    rintro n ⟨hstopped, hwin1, hwin2, hcount, hcores, horder, hband⟩
    exact ⟨[], bodyOscSetProfile_stopped hstopped hwin1 hwin2 hcount hcores horder hband⟩
  case signals =>
    refine performs_of (fun _ => rfl) ?_
    rintro n ⟨hstopped, hpass⟩
    exact ⟨[], bodyOscSignals_stopped hstopped hpass⟩
  case thresholds =>
    refine performs_of (fun _ => rfl) ?_
    rintro n ⟨hdamp, hamp, hclr⟩
    exact ⟨[], bodyOscThresholds_inRange hdamp hamp hclr⟩
  case start => exact performs_of (fun _ => rfl) (fun _ hpass => ⟨[], if_neg (not_not_intro hpass)⟩)
  case stop => exact performs_of (fun _ => rfl) (fun _ _ => ⟨[], rfl⟩)
  case modes => exact reads_of (fun _ => rfl) (fun _ => ⟨_, rfl⟩)
  case branches => exact performs_of (fun _ => rfl) (fun _ hpass => ⟨[], bodyOscDefBranches_accepted hpass⟩)
  case forced => exact reads_of (fun _ => rfl) (fun _ => ⟨_, rfl⟩)
  case setRaw =>
    refine performs_of (fun _ => rfl) ?_
    rintro n ⟨hfree, hrange, hpass⟩
    exact ⟨[], bodyOscSetRaw_accepted hfree hrange hpass⟩
  case sigRaw => exact performs_of (fun _ => rfl) (fun _ hpass => ⟨[], bodyOscSigRaw_accepted hpass⟩)
  case tune => exact performs_of (fun _ => rfl) (fun _ hrange => ⟨[], if_neg (Bool.eq_false_iff.mp hrange)⟩)

/-! ### Snapshots and updates (R252, R257 to R259, R474) -/

section
variable {s : State} {a : Instant} {i : Fin 32}

theorem State.advance_barred (s : State) (t : Instant) (isl : Nat) : (s.advance t).barred isl = s.barred isl := rfl

theorem State.advance_oset (s : State) (t : Instant) (n : Nat) : (s.advance t).oset n = s.oset n := rfl

theorem State.setAln_runs (s : State) (f : AccordPart → AccordPart) (isl : Nat) : (s.setAln f).runs isl = s.runs isl := rfl

theorem State.setAln_rb (s : State) (f : AccordPart → AccordPart) (r k : Nat) : (s.setAln f).rb r k = s.rb r k := rfl

/-- The engine, enabled, takes the oldest snapshot once Accord's barrier has completed (R474). -/
theorem oscSnapshotIntake_oldest {x : Snapshot} {rest : List Snapshot} (holdest : s.aln.osc = x :: rest)
    (hbarrier : s.barred Isle.accord = false) (hruns : s.runs Isle.nose = true) (hon : s.rb Reg.OSC_CTL 0 = true) :
    exec (.oscSnapshotIntake a) s = .next (((s.advance a).setAln (fun y => { y with osc := rest })).oscTake x) := by
  change execOscSnapshotIntake a s = _
  simp only [execOscSnapshotIntake, State.advance_aln, holdest, State.advance_barred, hbarrier, State.setAln_runs, State.setAln_rb,
    State.advance_runs, State.advance_rb, hruns, hon, Bool.and_self, Bool.false_eq_true, if_true, if_false]

theorem oscUpdateReady_queues (hready : (s.advance a).oscReady i.val = true) (hruns : s.runs Isle.nose = true) :
    exec (.oscUpdateReady a i) s = .next ((s.advance a).oscQueue i.val) :=
  congrArg Host.Outcome.next (if_pos (by simp [hready, State.advance_runs, hruns]))

/-- The update that waited follows the one under way (R258); what an update leaves goes out behind a barrier of Nose (R474). -/
theorem oscUpdateComplete_current {u : OscUpdate} (hcurrent : (s.oset i.val).current = some u) (hruns : s.runs Isle.nose = true) :
    exec (.oscUpdateComplete a i) s = .next ((((s.advance a).oscResult i.val u).updSet i.val (fun x =>
      { x with current := x.waiting, waiting := none })).issueBarrier Isle.nose) := by
  change execOscUpdateComplete a i s = _
  simp only [execOscUpdateComplete, State.advance_oset, hcurrent, State.advance_runs, hruns, if_true]

end

/-- Settles O25, event by event; the accesses of the table window have no condition. -/
theorem oscillationEventsComplete : Obligations.OscillationEventsComplete :=
  ⟨fun _ _ => rfl,
    fun _ _ => rfl,
    fun _ _ _ _ => oscSnapshotIntake_oldest,
    fun _ _ _ => oscUpdateReady_queues,
    fun _ _ _ _ => oscUpdateComplete_current⟩

end Sys2Proof.Machine
end

section
/-! PROOFS. The statements of the family of island detection: the island commands (O19), and the events of the island engine and the accesses of
its table window (O20). -/

namespace Sys2Proof.Machine

/-! ### Staging a model (R204, R278 to R280) -/

section
variable {s : State} {m : Model} {casc : Bool}

/-- What a model that is staged keeps to: no other waits, it is well formed, and its channels are of its group. -/
structure State.TakesModel (s : State) (m : Model) : Prop where
  idle : s.isl.pend = none
  good : s.modelBad m = false
  fits : s.modelFits m = true

/-- t_eff of a model staged now: the first reporting instant of its group that leads by 100 ms, by 500 ms across a cascade. -/
def State.modelEff (s : State) (m : Model) (casc : Bool) : Nat × Instant :=
  let k := firstK (s.now + ms (if casc then 500 else 100)) (s.grpFr m.group)
  (k, reportInstant k (s.grpFr m.group))

/-- The model staged, and waiting for its t_eff. -/
def State.awaitModel (s : State) (m : Model) (casc : Bool) : State :=
  s.setIsl (fun a => { a with staged := m, pend := some (s.modelEff m casc) })

/-- Only the state of the model's group still decides when it takes effect. -/
theorem State.stageModel_taken (h : s.TakesModel m) (hst : (s.group m.group).st ≠ .stopping) :
    ∃ words words', s.stageModel m casc = if (s.group m.group).st == .stopped && !casc
      then ok words ((s.setIsl (fun a => { a with staged := m })).activateModel s.now) else ok words' (s.awaitModel m casc) := by
  obtain ⟨hidle, hgood, hfits⟩ := h
  have hpend : ¬ s.isl.pend.isSome = true := by simp [hidle]
  have hmisfit : ¬ (!s.modelFits m) = true := by simp [hfits]
  have hstopping : ¬ ((s.group m.group).st == .stopping) = true := by simpa using hst
  exact ⟨_, _, (if_neg hpend).trans <| (if_neg (Bool.eq_false_iff.mp hgood)).trans <| (if_neg hmisfit).trans (if_neg hstopping)⟩

/-- A model of a group that goes on, or of a cascade, waits for its t_eff. -/
theorem State.stageModel_awaits (h : s.TakesModel m) (hst : (s.group m.group).st ≠ .stopping)
    (hcasc : (s.group m.group).st = .stopped → casc = true) : ∃ words, s.stageModel m casc = ok words (s.awaitModel m casc) := by
  obtain ⟨_, words, hstage⟩ := State.stageModel_taken (casc := casc) h hst
  have hdefers : ¬ ((s.group m.group).st == .stopped && !casc) = true := by simpa using hcasc
  exact ⟨words, hstage.trans (if_neg hdefers)⟩

/-- Outside a cascade, a model of a STOPPED group is active at once. -/
theorem State.stageModel_atOnce (h : s.TakesModel m) (hst : (s.group m.group).st = .stopped) (hcasc : casc = false) :
    ∃ words, s.stageModel m casc = ok words ((s.setIsl (fun a => { a with staged := m })).activateModel s.now) := by
  obtain ⟨words, _, hstage⟩ := State.stageModel_taken (casc := casc) h (by simp [hst])
  exact ⟨words, hstage.trans (if_pos (by simp [hst, hcasc]))⟩

/-! ### The bodies of the island commands (Tables 9-12 and 9-14) -/

/-- A buffer with the counts, the length and the checksum it states is staged as its model. -/
theorem bodyIslModelLoad_intact {b : ModelBuffer} (hidle : s.isl.pend = none) (hbus : b.nBus ≤ 65536) (hbranch : b.nBranch ≤ 131072)
    (hlen : b.words.length = 4 * (b.nBus + b.nBranch)) (hcrc : b.crc = crc32c (bytesOf b.words)) :
    bodyIslModelLoad b casc s = s.stageModel b.model casc := by
  have hpend : ¬ s.isl.pend.isSome = true := by simp [hidle]
  have hbroken : ¬ (decide (65536 < b.nBus) || decide (131072 < b.nBranch) || b.words.length != 4 * (b.nBus + b.nBranch) ||
      b.crc != crc32c (bytesOf b.words)) = true := by
    simp [hbus, hbranch, hlen, hcrc]
  exact (if_neg hpend).trans (if_neg hbroken)

theorem bodyIslProfile_inRange {a : IslProfileArgs} (hhold1 : 20 ≤ a.tHoldMs) (hhold2 : a.tHoldMs ≤ 4000) (hclr : a.clrHoldMs ≤ 4095)
    (hta1 : 100 ≤ a.taMs) (hta2 : a.taMs ≤ 5000) (hlive1 : 1 ≤ a.minLive) (hlive2 : a.minLive ≤ 255) (hpct : a.livePct ≤ 127) :
    bodyIslProfile a s = ok [] (((((s.setReg Reg.ISL_COH_F a.fGap).setReg Reg.ISL_COH_ANG a.thetaLim).setReg Reg.ISL_COH_TIME
      (put 11 0 a.tHoldMs ||| put 27 16 a.clrHoldMs)).setRf Reg.ISL_COH_EMA 12 0 a.taMs).setReg Reg.ISL_ALM_CTL
      (setFld (setFld (s.reg Reg.ISL_ALM_CTL) 7 0 a.minLive) 30 24 a.livePct)) := by
  refine if_neg ?_
  simp only [Bool.or_eq_true, decide_eq_true_eq]
  omega

theorem bodyIslTune_inRange {a : IslTuneArgs} (hwait : outside 100 600 a.ringWait = false) (hclose : outside 500 5000 a.ringClose = false)
    (hpers : outside 0 255 a.topoPers = false) (hclr : outside 0 255 a.topoClr = false) :
    bodyIslTune a s = ok [] ((((s.setSome Reg.ISL_RING_CTL 9 0 a.ringWait).setSome Reg.ISL_RING_CTL 28 16 a.ringClose).setSome
      Reg.ISL_ALM_CTL 15 8 a.topoPers).setSome Reg.ISL_ALM_CTL 23 16 a.topoClr) :=
  if_neg (by simp [hwait, hclose, hpers, hclr])

theorem bodyIslTblRaw_inTable {l : List IslRawRec} (hidle : s.isl.pend = none) (hin : ∀ r ∈ l, r.index < islEntries r.branch) :
    bodyIslTblRaw l s = ok [] (l.foldl (fun (t : State) r =>
      t.setIsl (fun a => { a with staged := a.staged.write r.branch r.index r.words.toList })) s) := by
  have hpend : ¬ s.isl.pend.isSome = true := by simp [hidle]
  have houtside : ¬ l.any (fun r => decide (islEntries r.branch ≤ r.index)) = true := by simpa using hin
  exact (if_neg hpend).trans (if_neg houtside)

end

/-- Settles O19, command by command: each body ends in its effect under the stated conditions, and a model loaded or activated is staged by the
state of its group. -/
theorem islandCommandsComplete : Obligations.IslandCommandsComplete := by
  refine ⟨fun h => ?status, fun h a => ?profile, fun h b => ?loadAwaits, fun h b => ?loadAtOnce, fun h b => ?islands, fun h a => ?tune,
    fun h l => ?raw, fun h a m => ?activateAwaits, fun h a m => ?activateAtOnce⟩
  case status => exact reads_of (fun _ => rfl) (fun _ => ⟨_, rfl⟩)
  case profile =>
    refine performs_of (fun _ => rfl) ?_
    rintro n ⟨hhold1, hhold2, hclr, hta1, hta2, hlive1, hlive2, hpct⟩
    exact ⟨[], bodyIslProfile_inRange hhold1 hhold2 hclr hta1 hta2 hlive1 hlive2 hpct⟩
  case loadAwaits =>
    refine performs_of (fun _ => rfl) ?_
    rintro n ⟨hidle, hbus, hbranch, hlen, hcrc, hgood, hfits, hst, hcasc⟩
    rw [bodyIslModelLoad_intact hidle hbus hbranch hlen hcrc]
    exact State.stageModel_awaits ⟨hidle, hgood, hfits⟩ hst hcasc
  case loadAtOnce =>
    refine performs_of (fun _ => rfl) ?_
    rintro n ⟨hidle, hbus, hbranch, hlen, hcrc, hgood, hfits, hst, hcasc⟩
    rw [bodyIslModelLoad_intact hidle hbus hbranch hlen hcrc]
    exact State.stageModel_atOnce ⟨hidle, hgood, hfits⟩ hst hcasc
  case islands => exact reads_of (fun _ => rfl) (fun _ => ⟨_, rfl⟩)
  case tune =>
    refine performs_of (fun _ => rfl) ?_
    rintro n ⟨hwait, hclose, hpers, hclr⟩
    exact ⟨[], bodyIslTune_inRange hwait hclose hpers hclr⟩
  case raw =>
    refine performs_of (fun _ => rfl) ?_
    rintro n ⟨hidle, hin⟩
    exact ⟨[], bodyIslTblRaw_inTable hidle hin⟩
  case activateAwaits =>
    refine performs_of (fun _ => rfl) ?_
    rintro n ⟨rfl, hidle, hgood, hfits, hst, hcasc⟩
    exact State.stageModel_awaits ⟨hidle, hgood, hfits⟩ hst hcasc
  case activateAtOnce =>
    refine performs_of (fun _ => rfl) ?_
    rintro n ⟨rfl, hidle, hgood, hfits, hst, hcasc⟩
    exact State.stageModel_atOnce ⟨hidle, hgood, hfits⟩ hst hcasc

/-! ### The table window (R302) -/

section
variable {s : State} {a : Instant}

/-- While no model waits, a valid record of the table goes from the window to the staged model. -/
theorem State.islTblWrite_accepted (hidle : s.isl.pend = none) (hin : s.islIdx.2 < islEntries s.islIdx.1)
    (hvalid : s.isl.staged.invalid s.islIdx.1 s.islIdx.2 (s.reg (Reg.ISL_TBL_W 0)) (s.reg (Reg.ISL_TBL_W 1)) = false) :
    s.islTblWrite = (s.setIsl (fun x => { x with
      staged := x.staged.write s.islIdx.1 s.islIdx.2 ((upto 4).map (fun w => s.reg (Reg.ISL_TBL_W w))) })).setRf Reg.ISL_TBL_CMD 30 28 0 := by
  have hpend : ¬ s.isl.pend.isSome = true := by simp [hidle]
  exact (if_neg hpend).trans <| (if_neg (Nat.not_le.mpr hin)).trans (if_neg (Bool.eq_false_iff.mp hvalid))

/-! ### The ring exchange (R285 to R287, R297) -/

theorem summaryPacketReceive_running {p : Packet} (hruns : s.runs Isle.nose = true) :
    exec (.summaryPacketReceive a p) s = .next ((s.advance a).takePacket p) :=
  congrArg Host.Outcome.next (if_pos hruns)

variable {m : Model} {r : RingInst} {x : Snapshot}

theorem provisionalViewForm_held (hheld : (s.advance a).ringNow.findSome? (fun r => ((s.advance a).modelAt r.t).bind (fun m =>
      if r.formed || !(s.advance a).holdsAll m r.t false then none else r.prov.map (fun x => (m, r, x)))) = some (m, r, x)) :
    exec (.provisionalViewForm a) s = .next ((s.advance a).formView m r x) := by
  change execProvisionalViewForm a s = _
  simp only [execProvisionalViewForm, hheld]

theorem ringWaitExpiry_oldest (holdest : s.unformed = some (r, x))
    (hmodel : (s.advance (x.t + us (100 * x.dead) + s.ringWait)).modelAt r.t = some m) :
    exec .ringWaitExpiry s = .next ((s.advance (x.t + us (100 * x.dead) + s.ringWait)).formView m r x) := by
  change execRingWaitExpiry s = _
  simp only [execRingWaitExpiry, holdest, hmodel]

theorem ringCommit_held (hheld : (s.advance a).ringNow.findSome? (fun r => ((s.advance a).modelAt r.t).bind (fun m =>
      if (s.advance a).holdsAll m r.t true then r.commit.map (fun x => (m, r, x)) else none)) = some (m, r, x)) :
    exec (.ringCommit a) s = .next ((s.advance a).ringCommit m r x) := by
  change execRingCommit a s = _
  simp only [execRingCommit, hheld]

theorem ringCloseExpiry_oldest (holdest : s.ringNow.findSome? (fun r => (r.commit.or r.prov).map (fun x => (r, x))) = some (r, x))
    (hmodel : (s.advance (x.t + ms x.waitMs + s.ringClose)).modelAt r.t = some m) :
    exec .ringCloseExpiry s = .next ((s.advance (x.t + ms x.waitMs + s.ringClose)).ringCommit m r x) := by
  change execRingCloseExpiry s = _
  simp only [execRingCloseExpiry, holdest, hmodel]

theorem islModelEffective_pending {k : Nat} {t : Instant} (hpend : s.isl.pend = some (k, t)) :
    exec .islModelEffective s = .next ((s.advance t).activateModel t) := by
  change execIslModelEffective s = _
  rw [execIslModelEffective, hpend]

end

/-- Settles O20, event by event; the reads of the table window have no condition. -/
theorem islandEventsComplete : Obligations.IslandEventsComplete :=
  ⟨fun _ _ => rfl,
    fun _ _ => rfl,
    fun a s hidle hin hvalid => congrArg Host.Outcome.next (State.islTblWrite_accepted (s := s.advance a) hidle hin hvalid),
    fun _ _ _ => summaryPacketReceive_running,
    fun _ _ _ _ _ => provisionalViewForm_held,
    fun _ _ _ _ => ringWaitExpiry_oldest,
    fun _ _ _ _ _ => ringCommit_held,
    fun _ _ _ _ => ringCloseExpiry_oldest,
    fun _ _ _ => islModelEffective_pending⟩

end Sys2Proof.Machine
end

section
/-! PROOFS. The statements of the family of alarms and publication: the publication commands (O22), and the events of Atomizer and the accesses of
its table window (O23). -/

namespace Sys2Proof.Machine

/-! ### A stream's configuration (R303, R304, R309, R310) -/

section
variable {s : State} {i : Nat} {c : StreamCfg}

/-- A change of a stopped stream is in force at once, for every instant. -/
theorem State.changeStream_stopped (hstopped : s.rb (Reg.PUB_STRM_CTL i) 26 = false) :
    ∃ words, s.changeStream i c = ok words ((s.applyStream i 0 c).updStream i (fun x => { x with old := none })) :=
  ⟨_, if_pos (congrArg not hstopped)⟩

/-- A change of a running stream on which none waits is due at t_eff. -/
theorem State.changeStream_running (hrun : s.rb (Reg.PUB_STRM_CTL i) 26 = true) (hidle : (s.stream i).pend = none) :
    ∃ words, s.changeStream i c = ok words (s.updStream i (fun x => { x with pend := some (s.streamEff i, c) })) :=
  ⟨_, (if_neg (Bool.eq_false_iff.mp (congrArg not hrun))).trans (if_neg (by simp [hidle]))⟩

/-- A profile with a slot that may be used, which moves no running stream to another kind or group, sets the stream; where it names another
configuration, that is a change of the stream set so. -/
theorem bodyPubStreamProfile_admitted {a : StreamProfileArgs} {t : State}
    (hcfg : c = ⟨(s.stream a.stream.val).layout, a.prov, a.ports.toNat, a.dest, (s.stream a.stream.val).confRev⟩)
    (hauth : s.authRefused (a.rsv && a.authEn) a.authSlot.toNat = false)
    (hkept : s.rb (Reg.PUB_STRM_CTL a.stream.val) 26 = true →
      s.rb (Reg.PUB_STRM_CTL a.stream.val) 28 = a.rsv ∧ s.rf (Reg.PUB_STRM_CTL a.stream.val) 20 16 = a.group.val)
    (hchange : ∃ words, (s.setStream a).changeStream a.stream.val c = ok words t) :
    ∃ words, bodyPubStreamProfile a s = ok words (if c = s.strmCfg a.stream.val then s.setStream a else t) := by
  obtain ⟨words, hchange⟩ := hchange
  have hmoved : ¬ (s.rb (Reg.PUB_STRM_CTL a.stream.val) 26 && (s.rb (Reg.PUB_STRM_CTL a.stream.val) 28 != a.rsv ||
      s.rf (Reg.PUB_STRM_CTL a.stream.val) 20 16 != a.group.val)) = true := by simpa using hkept
  by_cases hsame : c = s.strmCfg a.stream.val
  · rw [if_pos hsame]
    exact ⟨[], (if_neg (Bool.eq_false_iff.mp hauth)).trans <| (if_neg hmoved).trans (if_pos (hcfg.symm.trans hsame))⟩
  · rw [if_neg hsame]
    refine ⟨words, (if_neg (Bool.eq_false_iff.mp hauth)).trans <| (if_neg hmoved).trans <| (if_neg (hcfg ▸ hsame)).trans ?_⟩
    rw [← hcfg, hchange]
    rfl

/-- What R304 asks of a layout that a stream takes: 1 to 1,024 blocks of channels of its source group and of the types listed, within the channels
and the bytes of a frame, and intact. -/
structure State.TakesLayout (s : State) (i : Nat) (c : StreamCfg) (l : LayoutBuffer) : Prop where
  nonempty : l.blocks ≠ []
  atMost : l.blocks.length ≤ 1024
  ofGroup : ∀ x ∈ l.chans, s.chanGroup x = some (s.rf (Reg.PUB_STRM_CTL i) 20 16)
  fewChans : l.chans.length ≤ 8000
  fits : streamBytes (s.rb (Reg.PUB_STRM_CTL i) 28) (s.rb (Reg.PUB_STRM_CTL i) 28 && s.rb (Reg.PUB_STRM_CTL i) 27) c l ≤ 65507
  intact : l.crc = crc32c l.body
  ofTypes : ∀ b ∈ l.blocks, s.badBlock b = false

/-- A layout that the stream takes is a change of its configuration, with confRev raised. -/
theorem bodyPubStreamLayout_taken {i : Fin 64} {l : LayoutBuffer}
    (hcfg : c = { s.strmCfg i.val with layout := some l, confRev := (s.stream i.val).confRev + 1 }) (h : s.TakesLayout i.val c l) :
    bodyPubStreamLayout i l s = s.changeStream i.val c := by
  obtain ⟨hsome, hcount, hgroup, hchans, hbytes, hcrc, htypes⟩ := h
  subst hcfg
  have hblocks : ¬ (l.blocks.isEmpty || decide (1024 < l.blocks.length)) = true := by simp [hsome, hcount]
  have hforeign : ¬ l.chans.any (fun x => s.chanGroup x != some (s.rf (Reg.PUB_STRM_CTL i.val) 20 16)) = true := by simpa using hgroup
  have hbroken : ¬ (l.crc != crc32c l.body || l.blocks.any s.badBlock) = true := by simpa [hcrc] using htypes
  exact (if_neg hblocks).trans <| (if_neg hforeign).trans <| (if_neg (Nat.not_lt.mpr hchans)).trans <|
    (if_neg (Nat.not_lt.mpr hbytes)).trans (if_neg hbroken)

/-! ### A stream's control word (R311) -/

theorem bodyPubStreamCtl_laidOut {i : Fin 64} {run : Bool} (hlayout : run = true → (s.stream i.val).layout ≠ none) :
    bodyPubStreamCtl i run s = ok [] (s.runStream i.val run) :=
  if_neg (by simpa [Option.isNone_iff_eq_none] using hlayout)

theorem outside_eq_false {lo hi : Nat} {v : Option Nat} (h : ∀ d, v = some d → lo ≤ d ∧ d ≤ hi) : outside lo hi v = false := by
  cases v with
  | none => rfl
  | some d => simpa [outside] using h d rfl

/-- The slot that PUB_STREAM_RAW leaves a stream with. -/
def State.rawSlot (s : State) (i : Nat) (k : Option (BitVec 8)) : Nat := (k.map BitVec.toNat).getD (s.rf (Reg.PUB_STRM_AUTH i) 7 0)

/-- A stream with the lead given, where one is, and with its slot. -/
def State.setLeadSlot (s : State) (i : Nat) (z : Option Nat) (k : Option (BitVec 8)) : State :=
  ((z.map (s.setRf (Reg.PUB_STRM_LEAD i) 12 0)).getD s).setRf (Reg.PUB_STRM_AUTH i) 7 0 (s.rawSlot i k)

variable {j : Fin 64} {z : Option Nat} {k : Option (BitVec 8)}

theorem bodyPubStreamRaw_keepsCtl (hlead : ∀ d, z = some d → 1 ≤ d ∧ d ≤ 6000)
    (hauth : s.authRefused (s.rb (Reg.PUB_STRM_CTL j.val) 27 && s.rb (Reg.PUB_STRM_CTL j.val) 28) (s.rawSlot j.val k) = false) :
    bodyPubStreamRaw ⟨j, none, z, k⟩ s = ok [] (s.setLeadSlot j.val z k) := by
  refine (if_neg (Bool.eq_false_iff.mp (outside_eq_false hlead))).trans <| (if_neg (Bool.eq_false_iff.mp hauth)).trans ?_
  cases z <;> rfl

theorem bodyPubStreamRaw_writesCtl {w : Word} {words : List Word} {u : State} (hlead : ∀ d, z = some d → 1 ≤ d ∧ d ≤ 6000)
    (hauth : s.authRefused (bit w 27 && bit w 28) (s.rawSlot j.val k) = false)
    (hwrite : (s.setLeadSlot j.val z k).writeStreamCtl j.val w = .done St.OK words u) :
    bodyPubStreamRaw ⟨j, some w, z, k⟩ s = ok words u := by
  refine (if_neg (Bool.eq_false_iff.mp (outside_eq_false hlead))).trans <| (if_neg (Bool.eq_false_iff.mp hauth)).trans ?_
  unfold State.setLeadSlot State.rawSlot at hwrite
  cases z <;>
    · simp only [Option.map_none, Option.map_some, Option.getD_none, Option.getD_some] at hwrite
      simp only [hwrite, if_true, ok]

/-! ### Control blocks, lands, limits and tables (R312, R318, R322, R324, R330) -/

theorem bodyPubGocb_admitted {a : GocbArgs}
    (hstrings : ∀ x y z, a.strings = some (x, y, z) → x.length ≤ 64 ∧ y.length ≤ 64 ∧ z.length ≤ 64) (hmembers : (a.members.getD []).length ≤ 64)
    (happid : s.gocbKind a = false → (a.appid.getD 0).toNat ≤ 0x3FFF) (hauth : ∀ e k, a.auth = some (e, k) → s.authRefused e k.toNat = false) :
    bodyPubGocb a s = ok [] (s.setGocb a) := by
  refine (if_neg ?range).trans (if_neg ?auth)
  case range =>
    have happid' : (!s.gocbKind a && decide (0x3FFF < (a.appid.getD 0).toNat)) = false := by simpa using happid
    rw [happid']
    split
    next x y z hgiven => simpa [hmembers, and_assoc] using hstrings x y z hgiven
    next => simp [hmembers]
  case auth =>
    split
    next e k hgiven => exact Bool.eq_false_iff.mp (hauth e k hgiven)
    next => decide

theorem bodyPubAlarmOut_inRange {a : AlarmOutArgs} (hsels : (a.sels.getD []).length ≤ 16) (hmin : outside 0 1000 a.minOnMs = false) :
    bodyPubAlarmOut a s = ok [] (s.setAlarmOut a) :=
  if_neg (by simp [hsels, hmin])

theorem bodyPubGocbRaw_admitted {a : GocbRawArgs} (htMin : outside 1 64 a.tMin = false) (ht0 : outside 100 60000 a.t0 = false)
    (hauth : s.authRefused (bit (s.rawGocbCtl a) 29) (fld (s.rawGocbCtl a) 15 8) = false) :
    bodyPubGocbRaw a s = ok [] (s.setGocbRaw a) :=
  (if_neg (by simp [htMin, ht0])).trans (if_neg (Bool.eq_false_iff.mp hauth))

theorem bodyPubLimits_accepted {l : List LimitArgs}
    (hpass : ∀ a ∈ l, a.chan < 262144 ∧ a.debounce ≤ 255 ∧ s.limitType (a.words.headD 0#32) = false) :
    bodyPubLimits l s = ok [] (l.foldl (fun (t : State) a => t.writeLimit a.entry.val a.words) s) := by
  have hrange : ¬ l.any (fun a => decide (262144 ≤ a.chan) || decide (255 < a.debounce)) = true := by
    simpa using fun a ha => let ⟨hchan, hdebounce, _⟩ := hpass a ha; ⟨hchan, hdebounce⟩
  have htypes : ¬ l.any (fun a => s.limitType (a.words.headD 0#32)) = true := by simpa using fun a ha => let ⟨_, _, htype⟩ := hpass a ha; htype
  exact (if_neg hrange).trans (if_neg htypes)

theorem bodyPubTblRaw_accepted {l : List PubTblEntry}
    (hpass : ∀ e ∈ l, e.index < pubEntries e.table.val ∧ (e.table = 0 → s.limitType (e.words.toList.headD 0#32) = false)) :
    bodyPubTblRaw l s = ok [] (l.foldl (fun (t : State) e => (t.pubWrite e.table.val e.index e.words.toList).2) s) := by
  have hrange : ¬ l.any (fun e => decide (pubEntries e.table.val ≤ e.index)) = true := by simpa using fun e he => (hpass e he).1
  have htypes : ¬ l.any (fun e => e.table == 0 && s.limitType (e.words.toList.headD 0#32)) = true := by simpa using fun e he => (hpass e he).2
  exact (if_neg hrange).trans (if_neg htypes)

end

/-- Settles O22, command by command: each body ends in its effect under the stated conditions, and a profile or a layout is a change of its stream,
which goes by whether the stream runs. -/
theorem publicationCommandsComplete : Obligations.PublicationCommandsComplete := by
  refine ⟨fun h => ?status, fun h a c => ?profileStopped, fun h a c => ?profileRunning, fun h i l c => ?layoutRunning,
    fun h i l c => ?layoutStopped, fun h i r => ?ctl, fun h a => ?gocb, fun h a => ?alarmOut, fun h l => ?limits, fun h x => ?alarms,
    fun h i z k => ?streamRaw, fun h i w z k words u => ?streamRawCtl, fun h a => ?gocbRaw, fun h l => ?tblRaw⟩
  case status => exact reads_of (fun _ => rfl) (fun _ => ⟨_, rfl⟩)
  case profileStopped =>
    refine performs_of (fun _ => rfl) ?_
    rintro n ⟨hcfg, hauth, hstopped, hstill⟩
    exact bodyPubStreamProfile_admitted hcfg hauth (fun hrun => absurd hrun (Bool.eq_false_iff.mp hstopped)) (State.changeStream_stopped hstill)
  case profileRunning =>
    refine performs_of (fun _ => rfl) ?_
    rintro n ⟨hcfg, hauth, hkind, hgroup, hrun, hidle⟩
    exact bodyPubStreamProfile_admitted hcfg hauth (fun _ => ⟨hkind, hgroup⟩) (State.changeStream_running hrun hidle)
  case layoutRunning =>
    refine performs_of (fun _ => rfl) ?_
    rintro n ⟨hcfg, hsome, hcount, hgroup, hchans, hbytes, hcrc, htypes, hrun, hidle⟩
    rw [bodyPubStreamLayout_taken hcfg ⟨hsome, hcount, hgroup, hchans, hbytes, hcrc, htypes⟩]
    exact State.changeStream_running hrun hidle
  case layoutStopped =>
    refine performs_of (fun _ => rfl) ?_
    rintro n ⟨hcfg, hsome, hcount, hgroup, hchans, hbytes, hcrc, htypes, hstopped⟩
    rw [bodyPubStreamLayout_taken hcfg ⟨hsome, hcount, hgroup, hchans, hbytes, hcrc, htypes⟩]
    exact State.changeStream_stopped hstopped
  case ctl => exact performs_of (fun _ => rfl) (fun _ hlayout => ⟨[], bodyPubStreamCtl_laidOut hlayout⟩)
  case gocb =>
    refine performs_of (fun _ => rfl) ?_
    rintro n ⟨hstrings, hmembers, happid, hauth⟩
    exact ⟨[], bodyPubGocb_admitted hstrings hmembers happid hauth⟩
  case alarmOut =>
    refine performs_of (fun _ => rfl) ?_
    rintro n ⟨hsels, hmin⟩
    exact ⟨[], bodyPubAlarmOut_inRange hsels hmin⟩
  case limits => exact performs_of (fun _ => rfl) (fun _ hpass => ⟨[], bodyPubLimits_accepted hpass⟩)
  case alarms => exact reads_of (fun _ => rfl) (fun _ => ⟨_, rfl⟩)
  case streamRaw =>
    refine performs_of (fun _ => rfl) ?_
    rintro n ⟨hlead, hauth⟩
    exact ⟨[], bodyPubStreamRaw_keepsCtl hlead hauth⟩
  case streamRawCtl =>
    refine performs_of (fun _ => rfl) ?_
    rintro n ⟨hlead, hauth, hwrite⟩
    exact ⟨words, bodyPubStreamRaw_writesCtl hlead hauth hwrite⟩
  case gocbRaw =>
    refine performs_of (fun _ => rfl) ?_
    rintro n ⟨htMin, ht0, hauth⟩
    exact ⟨[], bodyPubGocbRaw_admitted htMin ht0 hauth⟩
  case tblRaw => exact performs_of (fun _ => rfl) (fun _ hpass => ⟨[], bodyPubTblRaw_accepted hpass⟩)

/-! ### Command frames, alarm batches, messages, lands and snapshots (R303, R305, R309, R310, R317, R320, R324, R474) -/

section
variable {s : State} {a : Instant} {i : Fin 64} {u : Nat}

theorem State.advance_stream (s : State) (t : Instant) (n : Nat) : (s.advance t).stream n = s.stream n := rfl

theorem State.advance_speaks (s : State) (t : Instant) : (s.advance t).speaks = s.speaks := rfl

theorem State.advance_publishable (s : State) (t : Instant) (x : Snapshot) : (s.advance t).publishable x = s.publishable x := rfl

theorem State.advanceUp_runs (s : State) (u isl : Nat) : (s.advanceUp u).runs isl = s.runs isl := rfl

theorem State.advanceUp_blockRuns (s : State) (u k : Nat) : (s.advanceUp u).blockRuns k = s.blockRuns k := rfl

theorem State.advanceUp_landWanted (s : State) (u n : Nat) : (s.advanceUp u).landWanted n = s.landWanted n := rfl

/-- Where a stream answers command frames: of kind C37.118.2, running, with a layout. -/
structure State.AnswersC37 (s : State) (i : Nat) : Prop where
  isC37 : s.rb (Reg.PUB_STRM_CTL i) 28 = false
  runs : s.rb (Reg.PUB_STRM_CTL i) 26 = true
  laidOut : (s.stream i).layout ≠ none

/-- Such a stream is not passed over when a frame comes. -/
theorem State.AnswersC37.taken (h : s.AnswersC37 i.val) : ¬ ((s.advance a).rb (Reg.PUB_STRM_CTL i.val) 28 ||
    !(s.advance a).rb (Reg.PUB_STRM_CTL i.val) 26 || ((s.advance a).stream i.val).layout.isNone) = true := by
  simp [State.advance_rb, State.advance_stream, h.isC37, h.runs, h.laidOut]

theorem c37CommandFrameReceive_dataOn (h : s.AnswersC37 i.val) :
    exec (.c37CommandFrameReceive a i .dataOn) s = .next ((s.advance a).updStream i.val (fun x => { x with on := true })) :=
  congrArg Host.Outcome.next (if_neg h.taken)

theorem c37CommandFrameReceive_dataOff (h : s.AnswersC37 i.val) :
    exec (.c37CommandFrameReceive a i .dataOff) s = .next ((s.advance a).updStream i.val (fun x => { x with on := false })) :=
  congrArg Host.Outcome.next (if_neg h.taken)

/-- A module that speaks answers with the configuration frame asked for. -/
theorem c37CommandFrameReceive_sendCfg {b : Bool} (h : s.AnswersC37 i.val) (hspeaks : s.speaks = true) :
    exec (.c37CommandFrameReceive a i (if b then .sendCfg3 else .sendCfg2)) s =
      .next ((s.advance a).setPub (fun p => { p with answers := p.answers ++ ((s.advance a).cfgAnswer i.val b).toList })) := by
  have hspeaksNow : (s.advance a).speaks = true := (State.advance_speaks s a).trans hspeaks
  cases b <;> exact congrArg Host.Outcome.next ((if_neg h.taken).trans (if_pos hspeaksNow))

/-- The oldest batch is taken once Nose's barrier has completed (R474). -/
theorem alarmBatchReceive_oldest {b : AlarmBatch} {rest : List AlarmBatch} (holdest : s.batches = b :: rest)
    (hruns : s.runs Isle.atomizer = true) (hbarrier : s.barred Isle.nose = false) :
    exec (.alarmBatchReceive a) s = .next (State.takeBatch { (s.advance a) with batches := rest } b) := by
  change execAlarmBatchReceive a s = _
  simp only [execAlarmBatchReceive, State.advance_batches, holdest, State.advance_runs, State.advance_barred, hruns, hbarrier, Bool.not_false,
    Bool.and_self, if_true]

theorem gooseRetransmit_due {k : Fin 128} (hdue : (s.block k.val).due = some u) (hblock : s.blockRuns k.val = true)
    (hruns : s.runs Isle.atomizer = true) : exec (.gooseRetransmit k) s = .next ((s.advanceUp u).retransmit k.val) := by
  change execGooseRetransmit k s = _
  simp only [execGooseRetransmit, hdue, State.advanceUp_blockRuns, State.advanceUp_runs, hblock, hruns, Bool.and_self, if_true]

/-- A land that no alarm holds any more is released. -/
theorem alarmOutMinOnExpiry_unwanted {n : Fin 8} (hdue : (s.land n.val).relDue = some u) (hunwanted : s.landWanted n.val = false)
    (hruns : s.runs Isle.atomizer = true) :
    exec (.alarmOutMinOnExpiry n) s = .next ((s.advanceUp u).updLand n.val (fun _ => idleLand)) := by
  change execAlarmOutMinOnExpiry n s = _
  simp only [execAlarmOutMinOnExpiry, hdue, State.advanceUp_landWanted, State.advanceUp_runs, hunwanted, hruns, Bool.not_true, Bool.or_self,
    Bool.false_eq_true, if_false]

theorem snapshotPublish_oldest {x : Snapshot} {rest : List Snapshot} (holdest : s.aln.pub = x :: rest) (hruns : s.runs Isle.atomizer = true)
    (hready : s.publishable x = true) :
    exec (.snapshotPublish a) s = .next (((s.advance a).setAln (fun y => { y with pub := rest })).publishSnapshot x) := by
  change execSnapshotPublish a s = _
  simp only [execSnapshotPublish, State.advance_aln, holdest, State.advance_runs, State.advance_publishable, hruns, hready, if_true]

theorem streamChangeEffective_pending {t : Instant} {c : StreamCfg} (hpend : (s.stream i.val).pend = some (t, c)) :
    exec (.streamChangeEffective i) s = .next ((s.advance t).applyStream i.val t c) := by
  change execStreamChangeEffective i s = _
  rw [execStreamChangeEffective, hpend]

end

/-- Settles O23, event by event; the accesses of the table window have no condition. -/
theorem publicationEventsComplete : Obligations.PublicationEventsComplete :=
  ⟨fun _ _ => rfl,
    fun _ _ => rfl,
    fun _ _ _ hkind hrun hlayout => c37CommandFrameReceive_dataOn ⟨hkind, hrun, hlayout⟩,
    fun _ _ _ hkind hrun hlayout => c37CommandFrameReceive_dataOff ⟨hkind, hrun, hlayout⟩,
    fun _ _ _ _ hkind hrun hlayout => c37CommandFrameReceive_sendCfg ⟨hkind, hrun, hlayout⟩,
    fun _ _ _ _ => alarmBatchReceive_oldest,
    fun _ _ _ => gooseRetransmit_due,
    fun _ _ _ => alarmOutMinOnExpiry_unwanted,
    fun _ _ _ _ => snapshotPublish_oldest,
    fun _ _ _ _ => streamChangeEffective_pending⟩

end Sys2Proof.Machine
end

section
/-! PROOFS. What every step does and keeps, whatever runs: it runs the front of the queue (O1), ends in a next state (O45), takes one command from
the queue (O48), keeps the canonical forms (O46), which the module has at reset (O47), and leaves the host area outside the bytes written (O50). -/

namespace Sys2Proof.Machine

/-! ### The front of the queue (R411, R427) -/

theorem step_cons {c : Sys2Proof.Instr} {rest : List Sys2Proof.Instr} {s : State} (hq : s.pending = c :: rest) :
    step s = exec c { s with pending := rest } := by
  unfold step
  rw [hq]

theorem step_idle {s : State} (hq : s.pending = []) : step s = .next s := by
  unfold step
  rw [hq]

/-- Settles O1. -/
theorem stepRunsTheFront : Obligations.StepRunsTheFront :=
  ⟨fun _ _ _ => step_cons rfl, fun _ => step_idle⟩

/-- Settles O48: no command or event changes the queue that it runs on. -/
theorem stepTakesOneCommand : Obligations.StepTakesOneCommand := by
  intro c rest s t hq hstep
  rw [step_cons hq] at hstep
  exact (exec_keeps c _ t hstep).queue

/-! ### The canonical forms (R464, R572, R576) -/

/-- What keeps a state keeps its canonical forms. -/
theorem Keeps.canonical {p : Allow} {z t : State} (k : Keeps p z t) : z.Canonical → t.Canonical
  | ⟨hbank, hhost, hconv⟩ => ⟨k.bank hbank, k.host hhost, k.conv hconv⟩

/-- Settles O46: the canonical forms do not look at the queue, and every command and event keeps them. -/
theorem stepKeepsCanonicalForms : Obligations.StepKeepsCanonicalForms := by
  intro s t hcanonical hstep
  cases hq : s.pending with
  | nil =>
    rw [step_idle hq] at hstep
    exact Host.Outcome.next.inj hstep ▸ hcanonical
  | cons c rest =>
    rw [step_cons hq] at hstep
    exact (exec_keeps c _ t hstep).canonical hcanonical

/-- Settles O47: the bank and the host area are empty, and the six converters are there. -/
theorem resetIsCanonical : Obligations.ResetIsCanonical := ⟨rfl, rfl, rfl⟩

/-! ### The host area (R464, R465, R476) -/

/-- A byte that may not be written reads as before where the contents may not be lost. -/
theorem Keeps.hostByte_eq {p : Allow} {z t : State} (k : Keeps p z t) (hlose : p.lose = false) {off : Nat} (hwrite : p.write off = false) :
    hostByte t.mem off = hostByte z.mem off := by
  have hbyte : lookup t.mem.host off = lookup z.mem.host off := (k.area off hwrite).resolve_right (by simp [hlose])
  have hfill : t.mem.fill = z.mem.fill := k.fill.resolve_left (by simp [hlose])
  rw [hostByte, hostByte, hbyte, hfill]

/-- Settles O50. -/
theorem hostAreaStaysElsewhere : Obligations.HostAreaStaysElsewhere :=
  fun c s t _ hexec hlose hwrite => (exec_keeps c s t hexec).hostByte_eq hlose hwrite

/-! ### Every meaning ends in a next state -/

/-- The outcome is a next state. -/
def Answers (o : Host.Outcome State Fault Refusal) : Prop := ∃ t, o = .next t

theorem answers_next (t : State) : Answers (.next t) := ⟨t, rfl⟩

section
variable (s : State)

theorem execPtpMessageReceive_answers (at_ : Instant) : Answers (execPtpMessageReceive at_ s) := by
  unfold execPtpMessageReceive
  dsimp only
  split <;> exact answers_next _

theorem execAnnounceReceiptTimeout_answers (p : Fin 10) : Answers (execAnnounceReceiptTimeout p s) := by
  unfold execAnnounceReceiptTimeout
  split <;> exact answers_next _

theorem execSourceUnqualifyTimeout_answers (src : Fin 13) : Answers (execSourceUnqualifyTimeout src s) := by
  unfold execSourceUnqualifyTimeout
  split <;> exact answers_next _

theorem execRestepTake_answers : Answers (execRestepTake s) := by
  unfold execRestepTake
  split <;> exact answers_next _

theorem execLeapSecondEnd_answers : Answers (execLeapSecondEnd s) := by
  unfold execLeapSecondEnd
  split <;> exact answers_next _

theorem execTodSentenceReceive_answers (at_ : Instant) (m : TodSentence) : Answers (execTodSentenceReceive at_ m s) := by
  unfold execTodSentenceReceive
  dsimp only
  repeat' first | exact answers_next _ | split

theorem execIrigFrameReceive_answers (at_ : Instant) (f : IrigFrame) : Answers (execIrigFrameReceive at_ f s) := by
  unfold execIrigFrameReceive
  dsimp only
  repeat' first | exact answers_next _ | split

theorem execPpsOutPulse_answers : Answers (execPpsOutPulse s) := by
  unfold execPpsOutPulse
  dsimp only
  split <;> exact answers_next _

theorem execTodSentenceSend_answers : Answers (execTodSentenceSend s) := by
  unfold execTodSentenceSend
  repeat' first | exact answers_next _ | split

theorem execTdcEdgeStamp_answers (at_ : Instant) (n : Fin 6) (rising : Bool) : Answers (execTdcEdgeStamp at_ n rising s) := by
  unfold execTdcEdgeStamp
  dsimp only
  repeat' first | exact answers_next _ | split

theorem execCompareFire_answers (n : Fin 8) : Answers (execCompareFire n s) := by
  unfold execCompareFire
  split <;> exact answers_next _

theorem execTrigOutPulseEnd_answers (n : Fin 8) : Answers (execTrigOutPulseEnd n s) := by
  unfold execTrigOutPulseEnd
  split <;> exact answers_next _

theorem execTc10WarmupEnd_answers : Answers (execTc10WarmupEnd s) := by
  unfold execTc10WarmupEnd
  split <;> exact answers_next _

theorem execPauseExpiry_answers (p : Fin 10) : Answers (execPauseExpiry p s) := by
  unfold execPauseExpiry
  split <;> exact answers_next _

theorem execPauseRepeat_answers (p : Fin 10) : Answers (execPauseRepeat p s) := by
  unfold execPauseRepeat
  split <;> exact answers_next _

theorem execPrpForgetExpiry_answers (k : Fin 5) : Answers (execPrpForgetExpiry k s) := by
  unfold execPrpForgetExpiry
  split <;> exact answers_next _

theorem execEqAdaptComplete_answers (at_ : Instant) (p : Fin 10) (e : EqResult) : Answers (execEqAdaptComplete at_ p e s) := by
  unfold execEqAdaptComplete
  split <;> exact answers_next _

theorem execModAbsDebounceEnd_answers (p : Fin 10) : Answers (execModAbsDebounceEnd p s) := by
  unfold execModAbsDebounceEnd
  dsimp only
  repeat' first | exact answers_next _ | split

theorem execOpticsReadStart_answers (p : Fin 10) : Answers (execOpticsReadStart p s) := by
  unfold execOpticsReadStart
  split <;> exact answers_next _

theorem execOpticsReadComplete_answers (at_ : Instant) (p : Fin 10) (r : OpticsRead) : Answers (execOpticsReadComplete at_ p r s) := by
  unfold execOpticsReadComplete
  dsimp only
  repeat' first | exact answers_next _ | split

theorem execOpticsReadRetry_answers (p : Fin 10) : Answers (execOpticsReadRetry p s) := by
  unfold execOpticsReadRetry
  split <;> exact answers_next _

theorem execParseFrame_answers (at_ : Instant) : Answers (execParseFrame at_ s) := by
  unfold execParseFrame
  dsimp only
  repeat' first | exact answers_next _ | split

theorem execHeldConfigApply_answers (at_ : Instant) (e : Fin 16384) : Answers (execHeldConfigApply at_ e s) := by
  unfold execHeldConfigApply
  split <;> exact answers_next _

theorem execConfigFrameReceive_answers (at_ : Instant) (c : CfgFrame) : Answers (execConfigFrameReceive at_ c s) := by
  unfold execConfigFrameReceive
  dsimp only
  split <;> exact answers_next _

theorem execCfgPollTimer_answers (e : Fin 16384) : Answers (execCfgPollTimer e s) := by
  unfold execCfgPollTimer
  split <;> exact answers_next _

theorem execCfgFetchTimeout_answers (e : Fin 16384) : Answers (execCfgFetchTimeout e s) := by
  unfold execCfgFetchTimeout
  split <;> exact answers_next _

theorem execSvSampleIn_answers (at_ : Instant) : Answers (execSvSampleIn at_ s) := by
  unfold execSvSampleIn
  dsimp only
  split <;> exact answers_next _

theorem execEstimateOutput_answers (at_ : Instant) (i : Fin 1024) : Answers (execEstimateOutput at_ i s) := by
  unfold execEstimateOutput
  dsimp only
  repeat' first | exact answers_next _ | split

theorem execSlotRestart_answers (i : Fin 1024) : Answers (execSlotRestart i s) := by
  unfold execSlotRestart
  split <;> exact answers_next _

theorem execDsyncEdge_answers (at_ : Instant) (rising : Bool) (widthNs : Nat) : Answers (execDsyncEdge at_ rising widthNs s) := by
  unfold execDsyncEdge
  dsimp only
  split <;> exact answers_next _

theorem execCrossfadeEnd_answers (at_ : Instant) (i : Fin 1024) : Answers (execCrossfadeEnd at_ i s) := by
  unfold execCrossfadeEnd
  dsimp only
  repeat' first | exact answers_next _ | split

theorem execHeldSwapStart_answers (at_ : Instant) (i : Fin 1024) : Answers (execHeldSwapStart at_ i s) := by
  unfold execHeldSwapStart
  dsimp only
  split <;> exact answers_next _

theorem execAccordValueReceive_answers (at_ : Instant) : Answers (execAccordValueReceive at_ s) := by
  unfold execAccordValueReceive
  dsimp only
  repeat' first | exact answers_next _ | split

theorem execProvisionalIssue_answers (g : Fin 32) : Answers (execProvisionalIssue g s) := by
  unfold execProvisionalIssue
  split <;> exact answers_next _

theorem execWindowClose_answers (g : Fin 32) : Answers (execWindowClose g s) := by
  unfold execWindowClose
  split <;> exact answers_next _

theorem execCloseGuardEnd_answers (g : Fin 32) : Answers (execCloseGuardEnd g s) := by
  unfold execCloseGuardEnd
  split <;> exact answers_next _

theorem execEmptyGroupTrigger_answers (g : Fin 32) : Answers (execEmptyGroupTrigger g s) := by
  unfold execEmptyGroupTrigger
  repeat' first | exact answers_next _ | split

theorem execGroupStartReached_answers (g : Fin 32) : Answers (execGroupStartReached g s) := by
  unfold execGroupStartReached
  split <;> exact answers_next _

theorem execGroupChangeEffective_answers (g : Fin 32) : Answers (execGroupChangeEffective g s) := by
  unfold execGroupChangeEffective
  split <;> exact answers_next _

theorem execProvisionalSnapshotEvaluate_answers (at_ : Instant) : Answers (execProvisionalSnapshotEvaluate at_ s) := by
  unfold execProvisionalSnapshotEvaluate
  dsimp only
  split <;> exact answers_next _

theorem execCommittedSnapshotEvaluate_answers (at_ : Instant) : Answers (execCommittedSnapshotEvaluate at_ s) := by
  unfold execCommittedSnapshotEvaluate
  dsimp only
  split <;> exact answers_next _

theorem execConfirmReceive_answers (at_ : Instant) : Answers (execConfirmReceive at_ s) := by
  unfold execConfirmReceive
  dsimp only
  split <;> exact answers_next _

theorem execRollbackReceive_answers (at_ : Instant) : Answers (execRollbackReceive at_ s) := by
  unfold execRollbackReceive
  dsimp only
  split <;> exact answers_next _

theorem execFlushReceive_answers (at_ : Instant) : Answers (execFlushReceive at_ s) := by
  unfold execFlushReceive
  dsimp only
  split <;> exact answers_next _

theorem execProvisionalViewForm_answers (at_ : Instant) : Answers (execProvisionalViewForm at_ s) := by
  unfold execProvisionalViewForm
  dsimp only
  split <;> exact answers_next _

theorem execRingWaitExpiry_answers : Answers (execRingWaitExpiry s) := by
  unfold execRingWaitExpiry
  split <;> exact answers_next _

theorem execRingCommit_answers (at_ : Instant) : Answers (execRingCommit at_ s) := by
  unfold execRingCommit
  dsimp only
  split <;> exact answers_next _

theorem execRingCloseExpiry_answers : Answers (execRingCloseExpiry s) := by
  unfold execRingCloseExpiry
  split <;> exact answers_next _

theorem execIslModelEffective_answers : Answers (execIslModelEffective s) := by
  unfold execIslModelEffective
  split <;> exact answers_next _

theorem execOscSnapshotIntake_answers (at_ : Instant) : Answers (execOscSnapshotIntake at_ s) := by
  unfold execOscSnapshotIntake
  dsimp only
  split <;> exact answers_next _

theorem execOscUpdateComplete_answers (at_ : Instant) (i : Fin 32) : Answers (execOscUpdateComplete at_ i s) := by
  unfold execOscUpdateComplete
  dsimp only
  split <;> exact answers_next _

theorem execAlarmBatchReceive_answers (at_ : Instant) : Answers (execAlarmBatchReceive at_ s) := by
  unfold execAlarmBatchReceive
  dsimp only
  split <;> exact answers_next _

theorem execGooseRetransmit_answers (k : Fin 128) : Answers (execGooseRetransmit k s) := by
  unfold execGooseRetransmit
  split <;> exact answers_next _

theorem execAlarmOutMinOnExpiry_answers (n : Fin 8) : Answers (execAlarmOutMinOnExpiry n s) := by
  unfold execAlarmOutMinOnExpiry
  split <;> exact answers_next _

theorem execSnapshotPublish_answers (at_ : Instant) : Answers (execSnapshotPublish at_ s) := by
  unfold execSnapshotPublish
  dsimp only
  split <;> exact answers_next _

theorem execStreamChangeEffective_answers (i : Fin 64) : Answers (execStreamChangeEffective i s) := by
  unfold execStreamChangeEffective
  split <;> exact answers_next _

theorem execCaptureRowClose_answers (at_ : Instant) : Answers (execCaptureRowClose at_ s) := by
  unfold execCaptureRowClose
  dsimp only
  repeat' first | exact answers_next _ | split

theorem execCaptureRowWaitExpiry_answers (u : Fin 4) : Answers (execCaptureRowWaitExpiry u s) := by
  unfold execCaptureRowWaitExpiry
  dsimp only
  split <;> exact answers_next _

theorem execCaptureEventQueue_answers (at_ : Instant) : Answers (execCaptureEventQueue at_ s) := by
  unfold execCaptureEventQueue
  dsimp only
  repeat' first | exact answers_next _ | split

theorem execEventAccumulate_answers (at_ : Instant) : Answers (execEventAccumulate at_ s) := by
  unfold execEventAccumulate
  dsimp only
  split <;> exact answers_next _

theorem execAccumulationIntervalEnd_answers (c : Fin 64) : Answers (execAccumulationIntervalEnd c s) := by
  unfold execAccumulationIntervalEnd
  split <;> exact answers_next _

theorem execImmediateHoldoffEnd_answers (c : Fin 64) : Answers (execImmediateHoldoffEnd c s) := by
  unfold execImmediateHoldoffEnd
  split <;> exact answers_next _

theorem execEvrNonceExpiry_answers : Answers (execEvrNonceExpiry s) := by
  unfold execEvrNonceExpiry
  split <;> exact answers_next _

theorem execKeyRemask_answers (at_ : Instant) : Answers (execKeyRemask at_ s) := by
  unfold execKeyRemask
  dsimp only
  split <;> exact answers_next _

theorem execKeyCommitComplete_answers (at_ : Instant) (slot : Fin 256) : Answers (execKeyCommitComplete at_ slot s) := by
  unfold execKeyCommitComplete
  dsimp only
  split <;> exact answers_next _

theorem execStagedKeyDiscard_answers (slot : Fin 256) : Answers (execStagedKeyDiscard slot s) := by
  unfold execStagedKeyDiscard
  repeat' first | exact answers_next _ | split

theorem execLcNonceExpiry_answers : Answers (execLcNonceExpiry s) := by
  unfold execLcNonceExpiry
  split <;> exact answers_next _

theorem execMbxClaimLapse_answers (n : Fin 64) : Answers (execMbxClaimLapse n s) := by
  unfold execMbxClaimLapse
  split <;> exact answers_next _

theorem execRingFormationTimeout_answers : Answers (execRingFormationTimeout s) := by
  unfold execRingFormationTimeout
  split <;> exact answers_next _

theorem execRejoinRelease_answers : Answers (execRejoinRelease s) := by
  unfold execRejoinRelease
  split <;> exact answers_next _

theorem execRejoinTrialTimeout_answers : Answers (execRejoinTrialTimeout s) := by
  unfold execRejoinTrialTimeout
  split <;> exact answers_next _

theorem execInterlockWatchdogExpiry_answers : Answers (execInterlockWatchdogExpiry s) := by
  unfold execInterlockWatchdogExpiry
  split <;> exact answers_next _

theorem execOwnWaveLost_answers (at_ : Instant) (real : Bool) : Answers (execOwnWaveLost at_ real s) := by
  unfold execOwnWaveLost
  dsimp only
  repeat' first | exact answers_next _ | split

theorem execInterlockQuiet_answers (at_ : Instant) : Answers (execInterlockQuiet at_ s) := by
  unfold execInterlockQuiet
  dsimp only
  split <;> exact answers_next _

theorem execClaimConfirm_answers (at_ : Instant) (seen : Bool) : Answers (execClaimConfirm at_ seen s) := by
  unfold execClaimConfirm
  dsimp only
  repeat' first | exact answers_next _ | split

theorem execClaimBackoffEnd_answers : Answers (execClaimBackoffEnd s) := by
  unfold execClaimBackoffEnd
  split <;> exact answers_next _

theorem execPairAckTimeout_answers : Answers (execPairAckTimeout s) := by
  unfold execPairAckTimeout
  split <;> exact answers_next _

theorem execCopyPhaseAComplete_answers (at_ : Instant) (x : Option PairImage) : Answers (execCopyPhaseAComplete at_ x s) := by
  unfold execCopyPhaseAComplete
  dsimp only
  repeat' first | exact answers_next _ | split

theorem execCopyTCut_answers : Answers (execCopyTCut s) := by
  unfold execCopyTCut
  split <;> exact answers_next _

theorem execCopyImageInstalled_answers (at_ : Instant) (x : Option PairImage) : Answers (execCopyImageInstalled at_ x s) := by
  unfold execCopyImageInstalled
  dsimp only
  repeat' first | exact answers_next _ | split

theorem execCopyComplete_answers (at_ : Instant) : Answers (execCopyComplete at_ s) := by
  unfold execCopyComplete
  dsimp only
  repeat' first | exact answers_next _ | split

theorem execCopyTimeout_answers : Answers (execCopyTimeout s) := by
  unfold execCopyTimeout
  split <;> exact answers_next _

theorem execSwapCheckExpiry_answers : Answers (execSwapCheckExpiry s) := by
  unfold execSwapCheckExpiry
  dsimp only
  repeat' first | exact answers_next _ | split

theorem execSwapCheckFail_answers (at_ : Instant) : Answers (execSwapCheckFail at_ s) := by
  unfold execSwapCheckFail
  dsimp only
  split <;> exact answers_next _

theorem execScheduledSwap_answers : Answers (execScheduledSwap s) := by
  unfold execScheduledSwap
  split <;> exact answers_next _

theorem execClockStretchEnd_answers (isl : Fin 23) : Answers (execClockStretchEnd isl s) := by
  unfold execClockStretchEnd
  split <;> exact answers_next _

theorem execInjectionFire_answers (slot : Fin 8) : Answers (execInjectionFire slot s) := by
  unfold execInjectionFire
  dsimp only
  repeat' first | exact answers_next _ | split

theorem execInjectionSpanEnd_answers (slot : Fin 8) : Answers (execInjectionSpanEnd slot s) := by
  unfold execInjectionSpanEnd
  dsimp only
  split <;> exact answers_next _

theorem execInjBitClear_answers : Answers (execInjBitClear s) := by
  unfold execInjBitClear
  split <;> exact answers_next _

theorem execPtpMessageInterval_answers (p : Fin 10) : Answers (execPtpMessageInterval p s) := by
  unfold execPtpMessageInterval
  dsimp only
  repeat' first | exact answers_next _ | split

theorem execRngHealthTest_answers (at_ : Instant) (fails : Bool) : Answers (execRngHealthTest at_ fails s) := by
  unfold execRngHealthTest
  dsimp only
  split <;> exact answers_next _

end

/-- Every command and event ends in a next state: the meanings that branch, along their branches; every other is one next state. -/
theorem exec_answers (c : Sys2Proof.Instr) (s : State) : Answers (exec c s) :=
  match c with
  | .ptpMessageReceive at_ => execPtpMessageReceive_answers s at_
  | .announceReceiptTimeout p => execAnnounceReceiptTimeout_answers s p
  | .sourceUnqualifyTimeout src => execSourceUnqualifyTimeout_answers s src
  | .restepTake => execRestepTake_answers s
  | .leapSecondEnd => execLeapSecondEnd_answers s
  | .todSentenceReceive at_ m => execTodSentenceReceive_answers s at_ m
  | .irigFrameReceive at_ f => execIrigFrameReceive_answers s at_ f
  | .ppsOutPulse => execPpsOutPulse_answers s
  | .todSentenceSend => execTodSentenceSend_answers s
  | .tdcEdgeStamp at_ n rising => execTdcEdgeStamp_answers s at_ n rising
  | .compareFire n => execCompareFire_answers s n
  | .trigOutPulseEnd n => execTrigOutPulseEnd_answers s n
  | .tc10WarmupEnd => execTc10WarmupEnd_answers s
  | .pauseExpiry p => execPauseExpiry_answers s p
  | .pauseRepeat p => execPauseRepeat_answers s p
  | .prpForgetExpiry k => execPrpForgetExpiry_answers s k
  | .eqAdaptComplete at_ p e => execEqAdaptComplete_answers s at_ p e
  | .modAbsDebounceEnd p => execModAbsDebounceEnd_answers s p
  | .opticsReadStart p => execOpticsReadStart_answers s p
  | .opticsReadComplete at_ p r => execOpticsReadComplete_answers s at_ p r
  | .opticsReadRetry p => execOpticsReadRetry_answers s p
  | .parseFrame at_ => execParseFrame_answers s at_
  | .heldConfigApply at_ e => execHeldConfigApply_answers s at_ e
  | .configFrameReceive at_ c => execConfigFrameReceive_answers s at_ c
  | .cfgPollTimer e => execCfgPollTimer_answers s e
  | .cfgFetchTimeout e => execCfgFetchTimeout_answers s e
  | .svSampleIn at_ => execSvSampleIn_answers s at_
  | .estimateOutput at_ i => execEstimateOutput_answers s at_ i
  | .slotRestart i => execSlotRestart_answers s i
  | .dsyncEdge at_ rising widthNs => execDsyncEdge_answers s at_ rising widthNs
  | .crossfadeEnd at_ i => execCrossfadeEnd_answers s at_ i
  | .heldSwapStart at_ i => execHeldSwapStart_answers s at_ i
  | .accordValueReceive at_ => execAccordValueReceive_answers s at_
  | .provisionalIssue g => execProvisionalIssue_answers s g
  | .windowClose g => execWindowClose_answers s g
  | .closeGuardEnd g => execCloseGuardEnd_answers s g
  | .emptyGroupTrigger g => execEmptyGroupTrigger_answers s g
  | .groupStartReached g => execGroupStartReached_answers s g
  | .groupChangeEffective g => execGroupChangeEffective_answers s g
  | .provisionalSnapshotEvaluate at_ => execProvisionalSnapshotEvaluate_answers s at_
  | .committedSnapshotEvaluate at_ => execCommittedSnapshotEvaluate_answers s at_
  | .confirmReceive at_ => execConfirmReceive_answers s at_
  | .rollbackReceive at_ => execRollbackReceive_answers s at_
  | .flushReceive at_ => execFlushReceive_answers s at_
  | .provisionalViewForm at_ => execProvisionalViewForm_answers s at_
  | .ringWaitExpiry => execRingWaitExpiry_answers s
  | .ringCommit at_ => execRingCommit_answers s at_
  | .ringCloseExpiry => execRingCloseExpiry_answers s
  | .islModelEffective => execIslModelEffective_answers s
  | .oscSnapshotIntake at_ => execOscSnapshotIntake_answers s at_
  | .oscUpdateComplete at_ i => execOscUpdateComplete_answers s at_ i
  | .alarmBatchReceive at_ => execAlarmBatchReceive_answers s at_
  | .gooseRetransmit k => execGooseRetransmit_answers s k
  | .alarmOutMinOnExpiry n => execAlarmOutMinOnExpiry_answers s n
  | .snapshotPublish at_ => execSnapshotPublish_answers s at_
  | .streamChangeEffective i => execStreamChangeEffective_answers s i
  | .captureRowClose at_ => execCaptureRowClose_answers s at_
  | .captureRowWaitExpiry u => execCaptureRowWaitExpiry_answers s u
  | .captureEventQueue at_ => execCaptureEventQueue_answers s at_
  | .eventAccumulate at_ => execEventAccumulate_answers s at_
  | .accumulationIntervalEnd c => execAccumulationIntervalEnd_answers s c
  | .immediateHoldoffEnd c => execImmediateHoldoffEnd_answers s c
  | .evrNonceExpiry => execEvrNonceExpiry_answers s
  | .keyRemask at_ => execKeyRemask_answers s at_
  | .keyCommitComplete at_ slot => execKeyCommitComplete_answers s at_ slot
  | .stagedKeyDiscard slot => execStagedKeyDiscard_answers s slot
  | .lcNonceExpiry => execLcNonceExpiry_answers s
  | .mbxClaimLapse n => execMbxClaimLapse_answers s n
  | .ringFormationTimeout => execRingFormationTimeout_answers s
  | .rejoinRelease => execRejoinRelease_answers s
  | .rejoinTrialTimeout => execRejoinTrialTimeout_answers s
  | .interlockWatchdogExpiry => execInterlockWatchdogExpiry_answers s
  | .ownWaveLost at_ real => execOwnWaveLost_answers s at_ real
  | .interlockQuiet at_ => execInterlockQuiet_answers s at_
  | .claimConfirm at_ seen => execClaimConfirm_answers s at_ seen
  | .claimBackoffEnd => execClaimBackoffEnd_answers s
  | .pairAckTimeout => execPairAckTimeout_answers s
  | .copyPhaseAComplete at_ x => execCopyPhaseAComplete_answers s at_ x
  | .copyTCut => execCopyTCut_answers s
  | .copyImageInstalled at_ x => execCopyImageInstalled_answers s at_ x
  | .copyComplete at_ => execCopyComplete_answers s at_
  | .copyTimeout => execCopyTimeout_answers s
  | .swapCheckExpiry => execSwapCheckExpiry_answers s
  | .swapCheckFail at_ => execSwapCheckFail_answers s at_
  | .scheduledSwap => execScheduledSwap_answers s
  | .clockStretchEnd isl => execClockStretchEnd_answers s isl
  | .injectionFire slot => execInjectionFire_answers s slot
  | .injectionSpanEnd slot => execInjectionSpanEnd_answers s slot
  | .injBitClear => execInjBitClear_answers s
  | .ptpMessageInterval p => execPtpMessageInterval_answers s p
  | .rngHealthTest at_ fails => execRngHealthTest_answers s at_ fails
  | .identity .. | .glbStatus .. | .glbEnable .. | .glbLock .. | .regRead .. | .regWrite .. | .aonStatus .. | .pwrState .. | .pwrProfile .. |
    .tc10Identity .. | .avfsRaw .. | .islandReset .. | .wakePattern .. | .wakePatternRaw .. | .timeStatus .. | .timeProfile .. | .timeRestep .. |
    .timeSources .. | .timeOutputs .. | .timeServo .. | .timeDiscontCfg .. | .timePtpDs .. | .portStatus .. | .portProfile .. | .portRings .. |
    .portPrp .. | .portMacsec .. | .portOptics .. | .portEq .. | .portMacRaw .. | .portOptOverride .. | .ingStatus .. | .ingStreamAdd .. |
    .ingStreamRemove .. | .ingStreamList .. | .ingUnknown .. | .ingCfgFetch .. | .ingHeader .. | .ingStreamRaw .. | .ingChanScale .. | .ingTune ..
    | .pecStatus .. | .pecProfile .. | .pecInputs .. | .pecThresholds .. | .syncDecim .. | .pecBankSwap .. | .pecSlotRaw .. | .pecCoefLoad .. |
    .pecBankSwapX .. | .pecDsyncCfg .. | .alnStatus .. | .alnGroupStart .. | .alnGroupStop .. | .alnGroupChannels .. | .alnGroupTiming .. |
    .alnHistAlloc .. | .alnHistRead .. | .alnGroupRaw .. | .alnChanRaw .. | .alnTune .. | .splStatus .. | .splGroup .. | .splClass .. |
    .splLedgerRead .. | .splClassRaw .. | .splGroupRaw .. | .oscStatus .. | .oscSetProfile .. | .oscSignals .. | .oscThresholds .. | .oscSetStart
    .. | .oscSetStop .. | .oscModesRead .. | .oscDefBranches .. | .oscForcedRead .. | .oscSetRaw .. | .oscSigRaw .. | .oscTune .. | .islStatus ..
    | .islProfile .. | .islModelLoad .. | .islIslandsRead .. | .islTune .. | .islTblRaw .. | .islModelActivate .. | .pubStatus .. |
    .pubStreamProfile .. | .pubStreamLayout .. | .pubStreamCtl .. | .pubGocb .. | .pubAlarmOut .. | .pubLimits .. | .pubAlarmsRead .. |
    .pubStreamRaw .. | .pubGocbRaw .. | .pubTblRaw .. | .capStatus .. | .capUnitProfile .. | .capChannels .. | .capArm .. | .capStop .. |
    .capForce .. | .capList .. | .capRead .. | .capFree .. | .capLock .. | .capSeqRaw .. | .capArmX .. | .capTune .. | .evrStatus .. |
    .evrClassProfile .. | .evrRead .. | .evrPubkey .. | .evrSeal .. | .evrClearNonce .. | .evrClear .. | .evrHostEvent .. | .evrClassRaw .. |
    .keyStatus .. | .keyInfo .. | .keyGenerate .. | .keyImport .. | .keyDerive .. | .keyReplace .. | .keyReplaceCommit .. | .keyDestroy .. |
    .keyExport .. | .keyLcNonce .. | .keyLifecycle .. | .keyAttest .. | .keyTxnResult .. | .keyImportClear .. | .keyAttrRaw .. | .keyTune .. |
    .cmdSessionOpen .. | .cmdSessionClose .. | .lockAcquire .. | .lockRenew .. | .lockRelease .. | .lockStatus .. | .cmdEcho .. | .cmdTune .. |
    .mbxStatus .. | .mbxSend .. | .mbxRecv .. | .mbxPeek .. | .mbxBind .. | .mbxClear .. | .casStatus .. | .casRejoin .. | .casReform .. |
    .casTune .. | .memStatus .. | .memTickets .. | .memHostRead .. | .memHostWrite .. | .memTicketsRaw .. | .memLfsr .. | .pairStatus .. |
    .pairForm .. | .pairJoin .. | .pairSwap .. | .pairSwapSched .. | .pairRestart .. | .pairSplit .. | .pairTune .. | .fltStatus .. | .inject .. |
    .fltInjRaw .. | .sqDoorbell .. | .rqHeadFree .. | .heartbeatFeed .. | .fetchEnable .. | .fetchDisable .. | .blockLockSet .. | .regWritePlain
    .. | .rcCounterRead .. | .counter64LoRead .. | .timeNowLatchRead .. | .fineTimeLatchRead .. | .evrSeqLatchRead .. | .txtsIdRead .. |
    .tdcStampRead .. | .compareArm .. | .portModeChange .. | .rxTailWrite .. | .txTailWrite .. | .ingTblRead .. | .ingTblWrite .. | .pecTblRead ..
    | .pecTblWrite .. | .alnChanRead .. | .alnChanWrite .. | .oscTblRead .. | .oscTblWrite .. | .islTblReadActive .. | .islTblWriteStaged .. |
    .islTblReadStaged .. | .pubTblRead .. | .pubTblWrite .. | .alnGrpRegWrite .. | .splClassRegWrite .. | .capPartWrite .. | .mbxWordWrite .. |
    .mbxW15Read .. | .mbxBindWrite .. | .injSlotArm .. | .injSlotDisarm .. | .commandFetch .. | .commandTimeout .. | .coreWatchdogExpiry .. |
    .lockLeaseExpiry .. | .heartbeatExpiry .. | .replyCoalesceExpiry .. | .cascadeReplyAggregate .. | .routedCommandReceive .. |
    .mirroredCommandReceive .. | .mirrorAckReceive .. | .servoMeasurement .. | .ppsInEdge .. | .tcPresChange .. | .tc10IdentityReadComplete .. |
    .frameReceive .. | .transmitSelect .. | .frameTransmitComplete .. | .linkUp .. | .linkDown .. | .modAbsChange .. | .wakePatternMatch .. |
    .c37CommandFrameReceive .. | .snapshotCommit .. | .classChangeEffective .. | .summaryPacketReceive .. | .oscUpdateReady .. |
    .recordDrainComplete .. | .recordMramWrite .. | .signatureBlockWrite .. | .childCascadeDestroy .. | .katRun .. | .mbxRingMessageArrive .. |
    .ringFormationToken .. | .ringFormationReturn .. | .ringMapBroadcast .. | .ringMapReceive .. | .ringFrameReceive .. | .crInSilence .. |
    .ringRelock .. | .ringClosedToken .. | .joinRecordReceive .. | .arbitrationDraw .. | .barrierComplete .. | .fabricTimeout .. |
    .handshakeTimeout .. | .interlockWatchdogFeed .. | .preferActiveContendTimeout .. | .pairHeartbeatSend .. | .pairHeartbeatReceive .. |
    .peerLaneLoss .. | .inclusionListReceive .. | .pairRecordFetchComplete .. | .pairAckReceive .. | .resultRecordReceive .. | .swapFramesDrained
    .. | .supplyInRange .. | .powerUpComplete .. | .vinLoss .. | .resetNPulse .. | .perstNAssert .. | .perstNRelease .. | .wakeNEdge .. |
    .stateTransitionComplete .. | .temperatureSample .. | .islandWatchdogExpiry .. | .railWindowFault .. | .pllLockLoss .. | .cpmMarginLoss .. |
    .vioOutOfRange .. | .vinAboveRange .. | .pllRelock .. | .alarmOutReadbackCheck .. => answers_next _

/-- Settles O45. -/
theorem everyCommandEndsInANextState : Obligations.EveryCommandEndsInANextState := exec_answers

end Sys2Proof.Machine
end

section
/-! PROOFS. What the end of a command may change: the registers outside named windows stay. The layer that the frames of failed commands (O52) and of
duplicates (O51) rest on. -/

namespace Sys2Proof.Machine

/-! ### Registers outside named windows -/

/-- The registers outside the windows of the blocks `B` stay. -/
def RegsStay (B : List Nat) (u t : State) : Prop := ∀ a, blockOf a ∉ B → t.reg a = u.reg a

section
variable {B : List Nat} {u s t : State}

theorem RegsStay.refl (B : List Nat) (u : State) : RegsStay B u u := fun _ _ => rfl

theorem RegsStay.trans (h : RegsStay B u s) (k : RegsStay B s t) : RegsStay B u t := fun a ha => (k a ha).trans (h a ha)

theorem RegsStay.of_regs (h : t.regs = u.regs) : RegsStay B u t := fun a _ => by rw [State.reg, State.reg, h]

theorem RegsStay.mono {C : List Nat} (h : RegsStay B u t) (hsub : ∀ b ∈ B, b ∈ C) : RegsStay C u t :=
  fun a ha => h a (fun hb => ha (hsub _ hb))

theorem State.setReg_regsStay {a : Nat} (w : Word) (ha : blockOf a ∈ B) : RegsStay B s (s.setReg a w) :=
  fun _ hb => State.reg_setReg_ne w (fun e => hb (e ▸ ha))

theorem State.count_regsStay {a : Nat} (n : Nat) (ha : blockOf a ∈ B) : RegsStay B s (s.count a n) := State.setReg_regsStay _ ha

theorem State.setRb_regsStay {a : Nat} (n : Nat) (b : Bool) (ha : blockOf a ∈ B) : RegsStay B s (s.setRb a n b) := State.setReg_regsStay _ ha

/-- An interrupt vector shows in the command block's window only (R436). -/
theorem State.vector_regsStay (v : Nat) (h14 : 14 ∈ B) : RegsStay B s (s.vector v) :=
  fun _ hb => State.reg_vector_ne v _ (fun e => hb (e ▸ h14))

theorem State.status_regsStay {a : Nat} (n : Nat) (ha : blockOf a ∈ B) (h14 : 14 ∈ B) : RegsStay B s (s.status a n) :=
  (State.setRb_regsStay n true ha).trans (State.vector_regsStay _ h14)

end

/-! ### Replies and the end of a flight touch the command block only (R417 to R426) -/

/-- The command block's own work: registers outside its window stay, and so do module time, the sessions' windows, the locks, the ring and the
pair. -/
structure CmdWork (u t : State) : Prop where
  regs     : RegsStay [14] u t
  time     : t.time = u.time
  aon      : t.aon = u.aon
  sessions : t.cmd.sessions = u.cmd.sessions
  locks    : t.cmd.locks = u.cmd.locks
  cas      : t.cas = u.cas
  pair     : t.pair = u.pair

section
variable {u s t : State}

theorem CmdWork.refl (u : State) : CmdWork u u := ⟨RegsStay.refl _ u, rfl, rfl, rfl, rfl, rfl, rfl⟩

theorem CmdWork.trans (h : CmdWork u s) (k : CmdWork s t) : CmdWork u t :=
  ⟨h.regs.trans k.regs, k.time.trans h.time, k.aon.trans h.aon, k.sessions.trans h.sessions, k.locks.trans h.locks, k.cas.trans h.cas,
    k.pair.trans h.pair⟩

/-- A change of the command block's part that leaves sessions and locks. -/
theorem CmdWork.of_cmd {c : CmdPart} (hsessions : c.sessions = s.cmd.sessions) (hlocks : c.locks = s.cmd.locks) : CmdWork s { s with cmd := c } :=
  ⟨RegsStay.of_regs rfl, rfl, rfl, hsessions, hlocks, rfl, rfl⟩

theorem State.setReg_cmdWork {a : Nat} (w : Word) (ha : blockOf a = 14) : CmdWork s (s.setReg a w) :=
  ⟨State.setReg_regsStay w (by simp [ha]), rfl, rfl, rfl, rfl, rfl, rfl⟩

theorem State.count_cmdWork {a : Nat} (n : Nat) (ha : blockOf a = 14) : CmdWork s (s.count a n) := State.setReg_cmdWork _ ha

theorem State.vector_cmdWork (v : Nat) : CmdWork s (s.vector v) := by
  have hregs : RegsStay [14] s (s.vector v) := State.vector_regsStay v (by simp)
  refine ⟨hregs, ?_, ?_, ?_, ?_, ?_, ?_⟩ <;> (unfold State.vector; dsimp only; split <;> rfl)

theorem State.stall_cmdWork : CmdWork s s.stall := by
  unfold State.stall
  split
  · exact CmdWork.refl s
  · refine CmdWork.trans ?_ (State.vector_cmdWork 4)
    exact CmdWork.of_cmd rfl rfl

theorem State.takeSlot_cmdWork : CmdWork s s.takeSlot := by
  unfold State.takeSlot
  refine CmdWork.trans ?_ (State.count_cmdWork 1 rfl)
  exact CmdWork.of_cmd rfl rfl

theorem State.takePoison_cmdWork (p : Nat) : CmdWork s (s.takePoison p).2 := by
  unfold State.takePoison
  split
  · exact ⟨RegsStay.of_regs rfl, rfl, rfl, rfl, rfl, rfl, rfl⟩
  · exact CmdWork.refl s

theorem State.coalesce_cmdWork (n : Fin 4) : CmdWork s (s.coalesce n) := by
  unfold State.coalesce
  dsimp only
  split
  · refine CmdWork.trans ?_ (State.vector_cmdWork n.val)
    exact CmdWork.of_cmd rfl rfl
  · exact CmdWork.of_cmd rfl rfl

theorem State.writeReply_cmdWork (f : Flight) (st : Nat) (words : List Word) (final inProgress : Bool) :
    CmdWork s (s.writeReply f st words final inProgress) := by
  unfold State.writeReply
  refine CmdWork.trans ?_ (State.coalesce_cmdWork f.session)
  exact CmdWork.of_cmd rfl rfl

theorem State.addFlight_cmdWork (f : Flight) : CmdWork s (s.addFlight f) := CmdWork.of_cmd rfl rfl

theorem State.noteNoReply_cmdWork (f : Flight) (st : Nat) : CmdWork s (s.noteNoReply f st) := by
  unfold State.noteNoReply
  split
  · exact CmdWork.refl s
  · exact (State.count_cmdWork 1 rfl).trans (State.setReg_cmdWork _ rfl)

theorem State.replyAtOnce_cmdWork (op : Nat) (h : Hdr) (st : Nat) (words : List Word) (inProgress : Bool) :
    CmdWork s (s.replyAtOnce op h st words inProgress) := by
  unfold State.replyAtOnce
  dsimp only
  split
  · exact State.noteNoReply_cmdWork _ _
  · exact (State.addFlight_cmdWork _).trans (State.writeReply_cmdWork _ _ _ _ _)

theorem State.replyDuplicate_cmdWork (op : Nat) (h : Hdr) (x : Cached) : CmdWork s (s.replyDuplicate op h x) := by
  have hcounted : CmdWork s (s.count (Reg.CMD_CNT 1) 1) := State.count_cmdWork 1 rfl
  unfold State.replyDuplicate
  dsimp only
  split
  · exact hcounted
  · split
    · exact (hcounted.trans (State.takePoison_cmdWork 4)).trans (State.replyAtOnce_cmdWork _ _ _ _ _)
    · exact hcounted.trans (State.replyAtOnce_cmdWork _ _ _ _ _)

end

end Sys2Proof.Machine
end

section
/-! PROOFS. A command that fails changes nothing but its outcome, and what the manual counts of failures (O52). -/

namespace Sys2Proof.Machine

/-! ### How an effect fails (R420, R421) -/

/-- Where the effect is done, the state that it leaves is `R`. -/
def EndsTo (R : State → Prop) (r : Res) : Prop := ∀ st words t, r = .done st words t → R t

/-- Where the effect ends in a status that took no effect, the state that it leaves is `R`. -/
def FailsTo (R : State → Prop) (r : Res) : Prop := ∀ st words t, r = .done st words t → tookEffect st = false → R t

/-- Where the effect fails, the module is as it was. -/
abbrev FailsClean (z : State) (r : Res) : Prop := FailsTo (· = z) r

section
variable {R : State → Prop} {z t : State} {r : Res}

theorem EndsTo.failsTo (h : EndsTo R r) : FailsTo R r := fun st words t hdone _ => h st words t hdone

theorem endsTo_done {st : Nat} {words : List Word} (h : R t) : EndsTo R (.done st words t) := by
  intro _ _ _ hdone
  injection hdone with _ _ hstate
  exact hstate ▸ h

theorem failsTo_refuse {st : Nat} (h : R t) : FailsTo R (refuse st t) := EndsTo.failsTo (endsTo_done h)

theorem failsTo_tookEffect {st : Nat} {words : List Word} (ht : tookEffect st = true) : FailsTo R (.done st words t) := by
  intro _ _ _ hdone hfails
  injection hdone with hstatus
  rw [← hstatus, ht] at hfails
  exact absurd hfails (by decide)

theorem failsTo_ok (words : List Word) : FailsTo R (ok words t) := failsTo_tookEffect rfl

theorem failsTo_of_ok {st : Nat} {words : List Word} (hok : st = St.OK) : FailsTo R (.done st words t) := failsTo_tookEffect (hok ▸ rfl)

/-- An effect that is not done does not fail. -/
theorem failsTo_of_notDone (h : ∀ st words t, r = .done st words t → False) : FailsTo R r := fun st words t hdone _ => (h st words t hdone).elim

theorem failsTo_accepted : FailsTo R (.accepted t) := fun _ _ _ hdone => by injection hdone

theorem failsTo_waiting : FailsTo R (.waiting t) := fun _ _ _ hdone => by injection hdone

theorem failsClean_refuse (st : Nat) : FailsClean z (refuse st z) := failsTo_refuse rfl

theorem failsClean_done (st : Nat) (words : List Word) : FailsClean z (.done st words z) := EndsTo.failsTo (endsTo_done rfl)

/-- In RETIRED a key command fails at once. -/
theorem failsTo_unlessRetired {body : State → Res} (hz : R z) (h : FailsTo R (body z)) : FailsTo R (unlessRetired body z) := by
  unfold unlessRetired
  split
  · exact failsTo_refuse hz
  · exact h

end

/-! ### Effects that change nothing where they fail -/

section
variable {z : State}

theorem State.changeGroup_failsClean (g : Nat) (w : GrpWords) (set : Option (List Nat)) : FailsClean z (z.changeGroup g w set) := by
  unfold State.changeGroup
  repeat' first | exact failsClean_refuse _ | exact failsTo_ok _ | split | dsimp only

theorem State.changeDepth_failsClean (g : Nat) (ctl : Word) : FailsClean z (z.changeDepth g ctl) := by
  unfold State.changeDepth
  have h := State.changeGroup_failsClean (z := z) g { (z.grpWords g) with ctl := ctl } none
  cases hr : z.changeGroup g { (z.grpWords g) with ctl := ctl } none with
  | done st words t =>
    rw [hr] at h
    dsimp only
    split
    next hok => exact failsTo_of_ok hok
    next => exact h
  | accepted t => exact failsTo_accepted
  | waiting t => exact failsTo_waiting

theorem State.changeStream_failsClean (i : Nat) (c : StreamCfg) : FailsClean z (z.changeStream i c) := by
  unfold State.changeStream
  dsimp only
  repeat' first | exact failsClean_refuse _ | exact failsTo_ok _ | split

theorem State.stageModel_failsClean (m : Model) (casc : Bool) : FailsClean z (z.stageModel m casc) := by
  unfold State.stageModel
  repeat' first | exact failsClean_refuse _ | exact failsTo_ok _ | split

theorem bodyAlnGroupStart_failsClean (a : GroupStartArgs) : FailsClean z (bodyAlnGroupStart a z) := by
  unfold bodyAlnGroupStart
  dsimp only
  repeat' first | exact failsClean_refuse _ | exact failsTo_ok _ | split

theorem bodyAlnGroupStop_failsClean (g : Fin 32) (flush : Bool) : FailsClean z (bodyAlnGroupStop g flush z) := by
  unfold bodyAlnGroupStop
  dsimp only
  repeat' first | exact failsClean_refuse _ | exact failsTo_ok _ | split

theorem bodyAlnHistAlloc_failsClean (a : HistAllocArgs) : FailsClean z (bodyAlnHistAlloc a z) := by
  unfold bodyAlnHistAlloc
  dsimp only
  repeat' first | exact failsClean_refuse _ | exact failsTo_ok _ | split

theorem bodyAlnGroupRaw_failsClean (a : GroupRawArgs) : FailsClean z (bodyAlnGroupRaw a z) := by
  unfold bodyAlnGroupRaw
  dsimp only
  repeat' first | exact failsClean_refuse _ | exact failsTo_ok _ | split

theorem bodyAlnChanRaw_failsClean (l : List (Nat × Word)) : FailsClean z (bodyAlnChanRaw l z) := by
  unfold bodyAlnChanRaw
  dsimp only
  repeat' first | exact failsClean_refuse _ | exact failsTo_ok _ | split

theorem bodyCapUnitProfile_failsClean (a : CapProfileArgs) : FailsClean z (bodyCapUnitProfile a z) := by
  unfold bodyCapUnitProfile
  repeat' first | exact failsClean_refuse _ | exact failsTo_ok _ | split

theorem bodyCapChannels_failsClean (u : Fin 4) (l : List CapChannel) : FailsClean z (bodyCapChannels u l z) := by
  unfold bodyCapChannels
  split
  · exact failsClean_refuse _
  · exact failsTo_ok _

theorem bodyCapStop_failsClean (u : Fin 4) (keep : Bool) : FailsClean z (bodyCapStop u keep z) := by
  unfold bodyCapStop
  repeat' first | exact failsClean_refuse _ | exact failsTo_ok _ | split

theorem bodyCapForce_failsClean (u : Fin 4) : FailsClean z (bodyCapForce u z) := by
  unfold bodyCapForce
  repeat' first | exact failsClean_refuse _ | exact failsTo_ok _ | split

theorem bodyCapFree_failsClean (n : Fin 256) : FailsClean z (bodyCapFree n z) := by
  unfold bodyCapFree
  repeat' first | exact failsClean_refuse _ | exact failsTo_ok _ | split

theorem bodyCapLock_failsClean (n : Fin 256) (lock : Bool) : FailsClean z (bodyCapLock n lock z) := by
  unfold bodyCapLock
  split
  · exact failsClean_refuse _
  · exact failsTo_ok _

theorem bodyCapSeqRaw_failsClean (u : Fin 4) (l : List CapSeqWord) : FailsClean z (bodyCapSeqRaw u l z) := by
  unfold bodyCapSeqRaw
  split
  · exact failsClean_refuse _
  · exact failsTo_ok _

theorem bodyCapTune_failsClean (a : CapTuneArgs) : FailsClean z (bodyCapTune a z) := by
  unfold bodyCapTune
  split
  · exact failsClean_refuse _
  · exact failsTo_ok _

theorem bodyIslTblRaw_failsClean (l : List IslRawRec) : FailsClean z (bodyIslTblRaw l z) := by
  unfold bodyIslTblRaw
  repeat' first | exact failsClean_refuse _ | exact failsTo_ok _ | split

theorem bodyIslProfile_failsClean (a : IslProfileArgs) : FailsClean z (bodyIslProfile a z) := by
  unfold bodyIslProfile
  split
  · exact failsClean_refuse _
  · exact failsTo_ok _

theorem bodyIslTune_failsClean (a : IslTuneArgs) : FailsClean z (bodyIslTune a z) := by
  unfold bodyIslTune
  split
  · exact failsClean_refuse _
  · exact failsTo_ok _

theorem bodyCasRejoin_failsClean (h : Hdr) (m : Fin 64) : FailsClean z (bodyCasRejoin h m z) := by
  unfold bodyCasRejoin
  repeat' first | exact failsClean_refuse _ | exact failsTo_ok _ | exact failsTo_accepted | exact failsTo_waiting | split

theorem bodyCasReform_failsClean (h : Hdr) : FailsClean z (bodyCasReform h z) := by
  unfold bodyCasReform
  repeat' first | exact failsClean_refuse _ | exact failsTo_ok _ | exact failsTo_accepted | exact failsTo_waiting | split

theorem bodyPecProfile_failsClean (a : PecProfileArgs) : FailsClean z (bodyPecProfile a z) := by
  unfold bodyPecProfile
  dsimp only
  repeat' first | exact failsClean_refuse _ | exact failsTo_ok _ | split

theorem bodyPecThresholds_failsClean (l : List PecThreshold) : FailsClean z (bodyPecThresholds l z) := by
  unfold bodyPecThresholds
  repeat' first | exact failsClean_refuse _ | exact failsTo_ok _ | split

theorem bodyPecSlotRaw_failsClean (a : PecSlotRawArgs) : FailsClean z (bodyPecSlotRaw a z) := by
  unfold bodyPecSlotRaw
  dsimp only
  repeat' first | exact failsClean_refuse _ | exact failsTo_ok _ | split

theorem bodyPecCoefLoad_failsClean (a : PecCoefArgs) : FailsClean z (bodyPecCoefLoad a z) := by
  unfold bodyPecCoefLoad
  repeat' first | exact failsClean_refuse _ | exact failsTo_ok _ | split

theorem bodyTimeRestep_failsClean (h : Hdr) : FailsClean z (bodyTimeRestep h z) := by
  unfold bodyTimeRestep
  dsimp only
  repeat' first | exact failsClean_refuse _ | exact failsTo_ok _ | exact failsTo_accepted | exact failsTo_waiting | split

theorem bodyTimeSources_failsClean (p : TimeSourcesArgs) : FailsClean z (bodyTimeSources p z) := by
  unfold bodyTimeSources
  split
  · exact failsClean_refuse _
  · exact failsTo_ok _

theorem bodyTimeOutputs_failsClean (p : TimeOutputsArgs) : FailsClean z (bodyTimeOutputs p z) := by
  unfold bodyTimeOutputs
  split
  · exact failsClean_refuse _
  · exact failsTo_ok _

theorem bodyTimeServo_failsClean (p : TimeServoArgs) : FailsClean z (bodyTimeServo p z) := by
  unfold bodyTimeServo
  split
  · exact failsClean_refuse _
  · exact failsTo_ok _

theorem bodyTimeDiscontCfg_failsClean (p : TimeDiscontArgs) : FailsClean z (bodyTimeDiscontCfg p z) := by
  unfold bodyTimeDiscontCfg
  split
  · exact failsClean_refuse _
  · exact failsTo_ok _

theorem bodyPortProfile_failsClean (a : PortProfileArgs) : FailsClean z (bodyPortProfile a z) := by
  unfold bodyPortProfile
  dsimp only
  repeat' first | exact failsClean_refuse _ | exact failsTo_ok _ | split

theorem bodyPortRings_failsClean (a : PortRingsArgs) : FailsClean z (bodyPortRings a z) := by
  unfold bodyPortRings
  repeat' first | exact failsClean_refuse _ | exact failsTo_ok _ | split

theorem bodyPortPrp_failsClean (a : PortPrpArgs) : FailsClean z (bodyPortPrp a z) := by
  unfold bodyPortPrp
  split
  · exact failsClean_refuse _
  · exact failsTo_ok _

theorem bodyPortMacRaw_failsClean (a : PortMacRawArgs) : FailsClean z (bodyPortMacRaw a z) := by
  unfold bodyPortMacRaw
  split
  · exact failsClean_refuse _
  · exact failsTo_ok _

theorem bodyWakePattern_failsClean (a : WakePatternArgs) : FailsClean z (bodyWakePattern a z) := by
  unfold bodyWakePattern
  dsimp only
  repeat' first | exact failsClean_refuse _ | exact failsTo_ok _ | split

theorem bodyIngStreamAdd_failsClean (a : StreamAddArgs) : FailsClean z (bodyIngStreamAdd a z) := by
  unfold bodyIngStreamAdd
  dsimp only
  repeat' first | exact failsClean_refuse _ | exact failsTo_ok _ | split

theorem bodyIngCfgFetch_failsClean (r : StreamRef) : FailsClean z (bodyIngCfgFetch r z) := by
  unfold bodyIngCfgFetch
  repeat' first | exact failsClean_refuse _ | exact failsTo_ok _ | split

theorem bodyIngHeader_failsClean (r : StreamRef) : FailsClean z (bodyIngHeader r z) := by
  unfold bodyIngHeader
  repeat' first | exact failsClean_refuse _ | exact failsTo_ok _ | split

theorem bodyIngStreamRaw_failsClean (a : StreamRawArgs) : FailsClean z (bodyIngStreamRaw a z) := by
  unfold bodyIngStreamRaw
  dsimp only
  repeat' first | exact failsClean_refuse _ | exact failsTo_ok _ | split

theorem bodyIngChanScale_failsClean (a : ChanScaleArgs) : FailsClean z (bodyIngChanScale a z) := by
  unfold bodyIngChanScale
  split
  · exact failsClean_refuse _
  · exact failsTo_ok _

theorem bodyIngTune_failsClean (a : IngTuneArgs) : FailsClean z (bodyIngTune a z) := by
  unfold bodyIngTune
  dsimp only
  repeat' first | exact failsClean_refuse _ | exact failsTo_ok _ | split

theorem bodyKeyInfo_failsClean (slot : Fin 256) : FailsClean z (bodyKeyInfo slot z) := failsClean_done _ _

theorem bodyKeyGenerate_failsClean (a : KeyGenArgs) : FailsClean z (bodyKeyGenerate a z) := by
  unfold bodyKeyGenerate
  dsimp only
  repeat' first | exact failsClean_refuse _ | exact failsTo_ok _ | split

theorem bodyKeyImportClear_failsClean (a : KeyClearArgs) : FailsClean z (bodyKeyImportClear a z) := by
  unfold bodyKeyImportClear
  dsimp only
  repeat' first | exact failsClean_refuse _ | exact failsTo_ok _ | split

theorem bodyKeyDestroy_failsClean (slot : Fin 256) : FailsClean z (bodyKeyDestroy slot z) := by
  unfold bodyKeyDestroy
  repeat' first | exact failsClean_refuse _ | exact failsTo_ok _ | split

theorem bodyKeyAttrRaw_failsClean (a : KeyAttrArgs) : FailsClean z (bodyKeyAttrRaw a z) := by
  unfold bodyKeyAttrRaw
  dsimp only
  repeat' first | exact failsClean_refuse _ | exact failsTo_ok _ | split

theorem bodyKeyTune_failsClean (a : KeyTuneArgs) : FailsClean z (bodyKeyTune a z) := by
  unfold bodyKeyTune
  dsimp only
  repeat' first | exact failsClean_refuse _ | exact failsTo_ok _ | split

theorem bodyMemHostWrite_failsClean (off : Nat) (data : List Byte) : FailsClean z (bodyMemHostWrite off data z) := by
  unfold bodyMemHostWrite
  split
  · exact failsClean_refuse _
  · exact failsTo_ok _

theorem bodyMemLfsr_failsClean (c : Fin 32) (seed : Option Word) : FailsClean z (bodyMemLfsr c seed z) := by
  unfold bodyMemLfsr
  repeat' first | exact failsClean_refuse _ | exact failsTo_ok _ | split

theorem bodyOscSetProfile_failsClean (a : OscProfileArgs) : FailsClean z (bodyOscSetProfile a z) := by
  unfold bodyOscSetProfile
  dsimp only
  repeat' first | exact failsClean_refuse _ | exact failsTo_ok _ | split

theorem bodyOscSignals_failsClean (set : Fin 32) (l : List OscSignal) : FailsClean z (bodyOscSignals set l z) := by
  unfold bodyOscSignals
  repeat' first | exact failsClean_refuse _ | exact failsTo_ok _ | split

theorem bodyOscThresholds_failsClean (a : OscThresholdArgs) : FailsClean z (bodyOscThresholds a z) := by
  unfold bodyOscThresholds
  split
  · exact failsClean_refuse _
  · exact failsTo_ok _

theorem bodyOscSetStart_failsClean (set : Fin 32) : FailsClean z (bodyOscSetStart set z) := by
  unfold bodyOscSetStart
  dsimp only
  repeat' first | exact failsClean_refuse _ | exact failsTo_ok _ | split

theorem bodyOscSetRaw_failsClean (set : Fin 32) (l : List (Fin 32 × Word)) : FailsClean z (bodyOscSetRaw set l z) := by
  unfold bodyOscSetRaw
  dsimp only
  repeat' first | exact failsClean_refuse _ | exact failsTo_ok _ | split

theorem bodyOscTune_failsClean (a : OscTuneArgs) : FailsClean z (bodyOscTune a z) := by
  unfold bodyOscTune
  split
  · exact failsClean_refuse _
  · exact failsTo_ok _

theorem bodyOscDefBranches_failsClean (l : List OscBranch) : FailsClean z (bodyOscDefBranches l z) := by
  unfold bodyOscDefBranches
  split
  · exact failsClean_refuse _
  · exact failsTo_ok _

theorem bodyOscSigRaw_failsClean (l : List OscTblEntry) : FailsClean z (bodyOscSigRaw l z) := by
  unfold bodyOscSigRaw
  split
  · exact failsClean_refuse _
  · exact failsTo_ok _

theorem bodyPubStreamCtl_failsClean (stream : Fin 64) (run : Bool) : FailsClean z (bodyPubStreamCtl stream run z) := by
  unfold bodyPubStreamCtl
  split
  · exact failsClean_refuse _
  · exact failsTo_ok _

theorem bodyPubGocb_failsClean (a : GocbArgs) : FailsClean z (bodyPubGocb a z) := by
  unfold bodyPubGocb
  dsimp only
  repeat' first | exact failsClean_refuse _ | exact failsTo_ok _ | split

theorem bodyPubGocbRaw_failsClean (a : GocbRawArgs) : FailsClean z (bodyPubGocbRaw a z) := by
  unfold bodyPubGocbRaw
  repeat' first | exact failsClean_refuse _ | exact failsTo_ok _ | split

theorem bodyPubAlarmOut_failsClean (a : AlarmOutArgs) : FailsClean z (bodyPubAlarmOut a z) := by
  unfold bodyPubAlarmOut
  split
  · exact failsClean_refuse _
  · exact failsTo_ok _

theorem bodyPubLimits_failsClean (l : List LimitArgs) : FailsClean z (bodyPubLimits l z) := by
  unfold bodyPubLimits
  repeat' first | exact failsClean_refuse _ | exact failsTo_ok _ | split

theorem bodyPubTblRaw_failsClean (l : List PubTblEntry) : FailsClean z (bodyPubTblRaw l z) := by
  unfold bodyPubTblRaw
  repeat' first | exact failsClean_refuse _ | exact failsTo_ok _ | split

theorem bodyPairForm_failsClean (sideB : Bool) (prefer : Bool) : FailsClean z (bodyPairForm sideB prefer z) := by
  unfold bodyPairForm
  split
  · exact failsClean_refuse _
  · exact failsTo_ok _

theorem bodyPairJoin_failsClean (h : Hdr) : FailsClean z (bodyPairJoin h z) := by
  unfold bodyPairJoin
  repeat' first | exact failsClean_refuse _ | exact failsTo_ok _ | exact failsTo_accepted | exact failsTo_waiting | split

theorem bodyPairSwap_failsClean (h : Hdr) : FailsClean z (bodyPairSwap h z) := by
  unfold bodyPairSwap
  repeat' first | exact failsClean_refuse _ | exact failsTo_ok _ | exact failsTo_accepted | exact failsTo_waiting | split

theorem bodyPairSwapSched_failsClean (hours : Nat) : FailsClean z (bodyPairSwapSched hours z) := by
  unfold bodyPairSwapSched
  split
  · exact failsClean_refuse _
  · exact failsTo_ok _

theorem bodyPairRestart_failsClean (h : Hdr) : FailsClean z (bodyPairRestart h z) := by
  unfold bodyPairRestart
  repeat' first | exact failsClean_refuse _ | exact failsTo_ok _ | exact failsTo_accepted | exact failsTo_waiting | split

theorem bodyPairTune_failsClean (a : PairTuneArgs) : FailsClean z (bodyPairTune a z) := by
  unfold bodyPairTune
  split
  · exact failsClean_refuse _
  · exact failsTo_ok _

theorem bodyEvrClassProfile_failsClean (p : EvrProfile) : FailsClean z (bodyEvrClassProfile p z) := by
  unfold bodyEvrClassProfile
  split
  · exact failsClean_refuse _
  · exact failsTo_ok _

theorem bodyEvrClassRaw_failsClean (l : List EvrClassRaw) : FailsClean z (bodyEvrClassRaw l z) := by
  unfold bodyEvrClassRaw
  split
  · exact failsClean_refuse _
  · exact failsTo_ok _

theorem bodyEvrPubkey_failsClean : FailsClean z (bodyEvrPubkey z) := by
  unfold bodyEvrPubkey
  dsimp only
  repeat' first | exact failsClean_refuse _ | exact failsTo_ok _ | split

theorem bodyEvrHostEvent_failsClean (a : EvrHostArgs) : FailsClean z (bodyEvrHostEvent a z) := by
  unfold bodyEvrHostEvent
  split
  · exact failsClean_refuse _
  · exact failsTo_ok _

theorem bodyPwrState_failsClean (h : Hdr) (goal : PwrMode) : FailsClean z (bodyPwrState h goal z) := by
  unfold bodyPwrState
  repeat' first | exact failsClean_refuse _ | exact failsTo_ok _ | exact failsTo_accepted | exact failsTo_waiting | split

theorem bodyAvfsRaw_failsClean (a : AvfsArgs) : FailsClean z (bodyAvfsRaw a z) := by
  unfold bodyAvfsRaw
  dsimp only
  repeat' first | exact failsClean_refuse _ | exact failsTo_ok _ | split

theorem bodySplClass_failsClean (n : Fin 16) (kind : Fin 4) : FailsClean z (bodySplClass n kind z) := by
  unfold bodySplClass
  split
  · exact failsClean_refuse _
  · exact failsTo_ok _

theorem bodySplClassRaw_failsClean (a : ClassRawArgs) : FailsClean z (bodySplClassRaw a z) := by
  unfold bodySplClassRaw
  repeat' first | exact failsClean_refuse _ | exact failsTo_ok _ | split

theorem bodyGlbEnable_failsClean (l : List EnableItem) (session : Fin 4) : FailsClean z (bodyGlbEnable l session z) := by
  unfold bodyGlbEnable
  repeat' first | exact failsClean_refuse _ | exact failsTo_ok _ | split

theorem bodyGlbLock_failsClean (l : List (Fin 20 × Fin 10)) : FailsClean z (bodyGlbLock l z) := by
  unfold bodyGlbLock
  repeat' first | exact failsClean_refuse _ | exact failsTo_ok _ | split

theorem bodyRegRead_failsClean (addr : Word) (n : Nat) : FailsClean z (bodyRegRead addr n z) := by
  unfold bodyRegRead
  split
  · exact failsClean_refuse _
  · exact failsTo_ok _

theorem bodyMbxRecv_failsClean (h : Hdr) (n : Fin 64) (wait : Bool) : FailsClean z (bodyMbxRecv h n wait z) := by
  unfold bodyMbxRecv
  repeat' first | exact failsClean_refuse _ | exact failsTo_ok _ | exact failsTo_accepted | exact failsTo_waiting | split

theorem bodyMbxPeek_failsClean (n : Fin 64) : FailsClean z (bodyMbxPeek n z) := by
  unfold bodyMbxPeek
  repeat' first | exact failsClean_refuse _ | exact failsTo_ok _ | split

theorem bodyMbxBind_failsClean (n : Fin 64) (en : Bool) (a : MasterId) (b : MasterId) : FailsClean z (bodyMbxBind n en a b z) := by
  unfold bodyMbxBind
  split
  · exact failsClean_refuse _
  · exact failsTo_ok _

theorem bodyLockRenew_failsClean (session : Fin 4) (n : Fin 32) (leaseMs : Nat) : FailsClean z (bodyLockRenew session n leaseMs z) := by
  unfold bodyLockRenew
  repeat' first | exact failsClean_refuse _ | exact failsTo_ok _ | split

theorem bodyLockRelease_failsClean (session : Fin 4) (n : Fin 32) : FailsClean z (bodyLockRelease session n z) := by
  unfold bodyLockRelease
  split
  · exact failsClean_refuse _
  · exact failsTo_ok _

theorem bodyCmdTune_failsClean (a : CmdTuneArgs) : FailsClean z (bodyCmdTune a z) := by
  unfold bodyCmdTune
  split
  · exact failsClean_refuse _
  · exact failsTo_ok _

theorem bodyAlnGroupChannels_failsClean (a : GroupChanArgs) : FailsClean z (bodyAlnGroupChannels a z) := by
  unfold bodyAlnGroupChannels
  dsimp only
  repeat' first | exact failsClean_refuse _ | exact State.changeGroup_failsClean _ _ _ | split

theorem bodyAlnGroupTiming_failsClean (a : GroupTimingArgs) : FailsClean z (bodyAlnGroupTiming a z) := by
  unfold bodyAlnGroupTiming
  split
  · exact failsClean_refuse _
  · exact State.changeGroup_failsClean _ _ _

theorem bodyAlnTune_failsClean (a : AlnTuneArgs) : FailsClean z (bodyAlnTune a z) := by
  unfold bodyAlnTune
  dsimp only
  repeat' first | exact failsClean_refuse _ | exact failsTo_ok _ | exact failsTo_of_ok ‹_› | exact State.changeGroup_failsClean _ _ _ | split
  all_goals exact ‹State.changeGroup _ _ _ _ = _› ▸ State.changeGroup_failsClean _ _ _

theorem bodyIslModelLoad_failsClean (b : ModelBuffer) (casc : Bool) : FailsClean z (bodyIslModelLoad b casc z) := by
  unfold bodyIslModelLoad
  repeat' first | exact failsClean_refuse _ | exact State.stageModel_failsClean _ _ | split

theorem bodyIslModelActivate_failsClean (a : IslActivateArgs) (casc : Bool) : FailsClean z (bodyIslModelActivate a casc z) :=
  State.stageModel_failsClean _ _

theorem bodyIngStreamRemove_failsClean (r : StreamRef) : FailsClean z (bodyIngStreamRemove r z) := by
  unfold bodyIngStreamRemove
  cases z.findStream r with
  | some e => exact failsTo_ok _
  | none => exact failsClean_refuse _

theorem bodyPubStreamProfile_failsClean (a : StreamProfileArgs) : FailsClean z (bodyPubStreamProfile a z) := by
  unfold bodyPubStreamProfile
  dsimp only
  repeat' first | exact failsClean_refuse _ | exact failsTo_ok _ | exact failsTo_of_ok ‹_› | exact failsClean_done _ _ | split
  all_goals exact failsTo_of_notDone ‹_›

theorem bodyPubStreamLayout_failsClean (i : Fin 64) (l : LayoutBuffer) : FailsClean z (bodyPubStreamLayout i l z) := by
  unfold bodyPubStreamLayout
  dsimp only
  repeat' first | exact failsClean_refuse _ | exact State.changeStream_failsClean _ _ | split

theorem bodyPubStreamRaw_failsClean (a : PubStreamRawArgs) : FailsClean z (bodyPubStreamRaw a z) := by
  unfold bodyPubStreamRaw
  dsimp only
  repeat' first | exact failsClean_refuse _ | exact failsTo_ok _ | exact failsTo_of_ok ‹_› | exact failsClean_done _ _ | split
  all_goals exact failsTo_of_notDone ‹_›

theorem bodySplGroup_failsClean (g : Fin 32) (p : DepthProfile) : FailsClean z (bodySplGroup g p z) := by
  unfold bodySplGroup
  dsimp only
  repeat' first | exact failsClean_refuse _ | exact State.changeDepth_failsClean _ _ | split

theorem bodySplGroupRaw_failsClean (g : Fin 32) (depth : Fin 64) (max64 : Bool) : FailsClean z (bodySplGroupRaw g depth max64 z) :=
  State.changeDepth_failsClean _ _

/-- A lock granted takes effect, broken or not. -/
theorem bodyLockAcquire_failsClean (h : Hdr) (n : Fin 32) (leaseMs : Nat) (wait : Bool) : FailsClean z (bodyLockAcquire h n leaseMs wait z) := by
  have hgrant : tookEffect (z.grant n.val h.session leaseMs).1 = true := by
    unfold State.grant
    dsimp only
    split <;> rfl
  unfold bodyLockAcquire
  repeat' first | exact failsClean_refuse _ | exact failsTo_waiting | exact failsTo_tookEffect hgrant | split

end

/-! ### Failures, and uses of a key, that are counted (R386, R420, R531) -/

/-- What may change of the parts where a failure is counted. -/
def countedAllow : Allow := ⟨fun _ => false, false, fun P => decide (P = .key ∨ P = .evr ∨ P = .events ∨ P = .free), false⟩

/-- The windows of the counters of failures. -/
def countedWindows : List Nat := [5, 12, 13, 14, 15, 19]

/-- A failure that is counted, or that used a key, leaves everything but the key store, the event record, the events on their way to it, the
count of free values, and the windows of the counters. -/
structure Counted (z t : State) : Prop where
  keeps : Keeps countedAllow z t
  regs  : RegsStay countedWindows z t
  mem   : t.mem = z.mem
  pair  : t.pair = z.pair
  cas   : t.cas = z.cas

section
variable {z s : State}

theorem Counted.refl (z : State) : Counted z z := ⟨Keeps.refl _ z, RegsStay.refl _ z, rfl, rfl, rfl⟩

theorem State.count_counted {a : Nat} (n : Nat) (ha : blockOf a ∈ countedWindows) (h : Counted z s) : Counted z (s.count a n) :=
  ⟨State.count_keeps a n h.keeps, h.regs.trans (State.count_regsStay n ha), h.mem, h.pair, h.cas⟩

theorem State.status_counted {a : Nat} (n : Nat) (ha : blockOf a ∈ countedWindows) (h : Counted z s) : Counted z (s.status a n) :=
  ⟨State.status_keeps a n h.keeps, h.regs.trans (State.status_regsStay n ha (by decide)), (s.status_mem a n).trans h.mem,
    (s.status_pair a n).trans h.pair, (s.status_cas a n).trans h.cas⟩

theorem State.raise_counted (cls : Nat) (qty : Rat) (detail : List Word) (h : Counted z s) : Counted z (s.raise cls qty detail) :=
  ⟨State.raise_keeps cls qty detail rfl h.keeps, h.regs.trans (RegsStay.of_regs rfl), h.mem, h.pair, h.cas⟩

theorem State.setKeys_counted (f : KeyPart → KeyPart) (h : Counted z s) : Counted z (s.setKeys f) :=
  ⟨State.setKeys_keeps f rfl h.keeps, h.regs.trans (RegsStay.of_regs rfl), h.mem, h.pair, h.cas⟩

theorem State.setEvr_counted (f : EvrPart → EvrPart) (h : Counted z s) : Counted z (s.setEvr f) :=
  ⟨State.setEvr_keeps f rfl h.keeps, h.regs.trans (RegsStay.of_regs rfl), h.mem, h.pair, h.cas⟩

theorem State.random_counted (n : Nat) (h : Counted z s) : Counted z (s.random n).2 :=
  ⟨State.random_keeps n rfl h.keeps, h.regs.trans (RegsStay.of_regs rfl), h.mem, h.pair, h.cas⟩

theorem blockOf_keyCnt (i : Nat) (hi : i < 8) : blockOf (Reg.KEY_CNT i) ∈ countedWindows := by
  have hall : ∀ j : Fin 8, blockOf (Reg.KEY_CNT j.val) ∈ countedWindows := by decide
  exact hall ⟨i, hi⟩

theorem State.keyCount_counted {i : Nat} (hi : i < 8) (h : Counted z s) : Counted z (s.keyCount i) :=
  State.count_counted 1 (blockOf_keyCnt i hi) h

theorem State.updKslot_counted (n : Nat) (f : KeySlot → KeySlot) (h : Counted z s) : Counted z (s.updKslot n f) := State.setKeys_counted _ h

theorem State.remaskLate_counted (n : Nat) (h : Counted z s) : Counted z (s.remaskLate n) := by
  unfold State.remaskLate
  split
  · unfold State.remaskSlot
    exact State.updKslot_counted _ _ (State.random_counted _ h)
  · exact h

/-- One use of a key slot, whether it starts or not (R386). -/
theorem State.useKeySlot_counted (n : Nat) (classes : List Nat) (h : Counted z s) : Counted z (s.useKeySlot n classes).2 := by
  unfold State.useKeySlot
  split
  · dsimp only
    exact State.updKslot_counted _ _ (State.keyCount_counted (i := 0) (by decide) (State.remaskLate_counted n h))
  · split
    · exact h
    · exact State.status_counted 2 (by decide) (State.updKslot_counted _ _ (State.keyCount_counted (i := 1) (by decide) h))
  · exact h

theorem State.dropShadow_counted (n : Nat) (h : Counted z s) : Counted z (s.dropShadow n) := State.setKeys_counted _ h

/-- A wrapped key taken apart, whether it comes whole or not. -/
theorem State.unwrap_counted (kek : Nat) (data : List Byte) (h : Counted z s) : Counted z (s.unwrap kek data).2 := by
  have hused : Counted z (s.useKeySlot kek [4]).2 := State.useKeySlot_counted kek [4] h
  unfold State.unwrap
  dsimp only
  repeat' first | exact hused | exact State.keyCount_counted (by decide) hused | split

theorem State.newKey_counted (x : KeySlot) (source : KeySource) (h : Counted z s) : Counted z (s.newKey x source).2 := by
  cases source with
  | generate =>
    unfold State.newKey
    dsimp only
    split
    · exact h
    · exact State.random_counted x.len h
  | derive parent label context =>
    have hused : Counted z (s.useKeySlot parent.val [5]).2 := State.useKeySlot_counted _ _ h
    unfold State.newKey
    dsimp only
    repeat' first | exact h | exact hused | split
  | wrapped kek data =>
    have hunwrapped : Counted z (s.unwrap kek.val data).2 := State.unwrap_counted _ _ h
    unfold State.newKey
    dsimp only
    repeat' first | exact hunwrapped | split
  | clear key =>
    unfold State.newKey
    dsimp only
    repeat' first | exact h | split

theorem State.clearFailed_counted (code : Nat) (h : Counted z s) : Counted z (s.clearFailed code) :=
  State.raise_counted _ _ _ (State.count_counted 1 (by decide) h)

theorem State.denyInjection_counted (h : Counted z s) : Counted z s.denyInjection :=
  State.status_counted 2 (by decide) (State.count_counted 1 (by decide) h)

theorem State.bindDrop_counted (n : Nat) (i : MasterId) (h : Counted z s) : Counted z (s.bindDrop n i) :=
  State.raise_counted _ _ _ (State.status_counted 1 (by decide) (State.count_counted 1 (by decide) h))

end

/-! ### The effects that count their failures -/

section
variable {z : State}

theorem bankSwap_failsCounted (a : PecSwapArgs) (queue : Bool) : FailsTo (Counted z) (bankSwap a queue z) := by
  have hz := Counted.refl z
  unfold bankSwap
  dsimp only
  repeat' first | exact failsTo_refuse hz | exact failsTo_ok _ | exact failsTo_refuse (State.count_counted 1 (by decide) hz) | split

theorem bodyPortMacsec_failsCounted (a : PortMacsecArgs) : FailsTo (Counted z) (bodyPortMacsec a z) := by
  unfold bodyPortMacsec
  dsimp only
  repeat' first | exact failsTo_refuse (Counted.refl z) | exact failsTo_ok _ |
    exact failsTo_refuse (State.useKeySlot_counted _ _ (Counted.refl z)) | split

theorem bodyRegWrite_failsCounted (l : List (Word × Word)) (session : Fin 4) : FailsTo (Counted z) (bodyRegWrite l session z) := by
  unfold bodyRegWrite
  repeat' first | exact failsTo_refuse (Counted.refl z) | exact failsTo_ok _ | exact failsTo_refuse (State.denyInjection_counted (Counted.refl z)) |
    split

theorem bodyKeyImport_failsCounted (a : KeyImportArgs) : FailsTo (Counted z) (bodyKeyImport a z) := by
  unfold bodyKeyImport
  dsimp only
  repeat' first | exact failsTo_refuse (Counted.refl z) | exact failsTo_ok _ | exact failsTo_refuse (State.unwrap_counted _ _ (Counted.refl z)) | split

theorem bodyKeyDerive_failsCounted (a : KeyDeriveArgs) : FailsTo (Counted z) (bodyKeyDerive a z) := by
  unfold bodyKeyDerive
  dsimp only
  repeat' first | exact failsTo_refuse (Counted.refl z) | exact failsTo_ok _ |
    exact failsTo_refuse (State.useKeySlot_counted _ _ (Counted.refl z)) | split

theorem bodyKeyReplace_failsCounted (h : Hdr) (a : KeyReplaceArgs) : FailsTo (Counted z) (bodyKeyReplace h a z) := by
  have hnew := State.newKey_counted (z.kslot a.slot.val) a.source (Counted.refl z)
  unfold bodyKeyReplace
  dsimp only
  repeat' first | exact failsTo_refuse (Counted.refl z) | exact failsTo_ok _ | exact failsTo_waiting | exact failsTo_refuse hnew |
    exact failsTo_refuse (State.keyCount_counted (by decide) hnew) | split

theorem bodyKeyReplaceCommit_failsCounted (h : Hdr) (slot : Fin 256) (kcv : List Byte) :
    FailsTo (Counted z) (bodyKeyReplaceCommit h slot kcv z) := by
  have hdropped := State.dropShadow_counted slot.val (Counted.refl z)
  unfold bodyKeyReplaceCommit
  repeat' first | exact failsTo_refuse (Counted.refl z) | exact failsTo_waiting | exact failsTo_refuse hdropped |
    exact failsTo_refuse (State.keyCount_counted (by decide) hdropped) | split

theorem bodyKeyExport_failsCounted (slot kek : Fin 256) : FailsTo (Counted z) (bodyKeyExport slot kek z) := by
  unfold bodyKeyExport
  dsimp only
  repeat' first | exact failsTo_refuse (Counted.refl z) | exact failsTo_ok _ |
    exact failsTo_refuse (State.useKeySlot_counted _ _ (Counted.refl z)) | split

theorem bodyKeyLifecycle_failsCounted (goal : Lifecycle) (nonce tag : List Byte) :
    FailsTo (Counted z) (bodyKeyLifecycle goal nonce tag z) := by
  have hused := State.useKeySlot_counted (z.rf Reg.KEY_CTL 15 8) [2] (Counted.refl z)
  unfold bodyKeyLifecycle
  dsimp only
  repeat' first | exact failsTo_refuse (Counted.refl z) | exact failsTo_ok _ | exact failsTo_refuse hused |
    exact failsTo_refuse (State.keyCount_counted (by decide) (Counted.refl z)) |
    exact failsTo_refuse (State.keyCount_counted (by decide) (State.setKeys_counted _ hused)) | split

theorem bodyKeyAttest_failsCounted (slot : Fin 256) (nonce : List Byte) : FailsTo (Counted z) (bodyKeyAttest slot nonce z) := by
  unfold bodyKeyAttest
  dsimp only
  repeat' first | exact failsTo_refuse (Counted.refl z) | exact failsTo_ok _ |
    exact failsTo_refuse (State.useKeySlot_counted _ _ (Counted.refl z)) | split

theorem bodyEvrClear_failsCounted (nonce tag : List Byte) : FailsTo (Counted z) (bodyEvrClear nonce tag z) := by
  have hused := State.useKeySlot_counted (z.rf Reg.EVR_CTL 15 8) [2] (Counted.refl z)
  unfold bodyEvrClear
  dsimp only
  split
  · exact failsTo_refuse (Counted.refl z)
  split
  · exact failsTo_refuse (State.clearFailed_counted 5 (Counted.refl z))
  split
  · exact failsTo_refuse (State.clearFailed_counted 5 (Counted.refl z))
  split
  · exact failsTo_refuse hused
  split
  · exact failsTo_refuse (State.clearFailed_counted 4 (State.setEvr_counted _ hused))
  · exact failsTo_ok _

theorem bodyInject_failsCounted (h : Hdr) (a : InjectArgs) : FailsTo (Counted z) (bodyInject h a z) := by
  unfold bodyInject
  dsimp only
  repeat' first | exact failsTo_refuse (Counted.refl z) | exact failsTo_ok _ | exact failsTo_refuse (State.denyInjection_counted (Counted.refl z)) |
    split

theorem bodyFltInjRaw_failsCounted (h : Hdr) (a : InjRawArgs) : FailsTo (Counted z) (bodyFltInjRaw h a z) := by
  unfold bodyFltInjRaw
  dsimp only
  repeat' first | exact failsTo_refuse (Counted.refl z) | exact failsTo_ok _ | exact failsTo_refuse (State.denyInjection_counted (Counted.refl z)) |
    split

theorem bodyMbxSend_failsCounted (h : Hdr) (n : Fin 64) (words : Vector Word 16) (wait : Bool) :
    FailsTo (Counted z) (bodyMbxSend h n words wait z) := by
  unfold bodyMbxSend
  repeat' first | exact failsTo_refuse (Counted.refl z) | exact failsTo_ok _ | exact failsTo_waiting |
    exact failsTo_refuse (State.bindDrop_counted _ _ (Counted.refl z)) | split

end

/-! ### Reads of bulk memory that fail (R466, R539) -/

/-- What may change of the parts where transfers came poisoned. -/
def readAllow : Allow := ⟨fun _ => false, false, fun P => decide (P = .flt ∨ P = .events), false⟩

/-- The windows of bulk memory, of the detectors and of the command block. -/
def readWindows : List Nat := [14, 17, 19]

/-- A read of bulk memory, and what it sends to the host's buffer, leaves everything but the detectors, the events on their way, those windows,
and the ring's queue. -/
structure OnlyRead (z t : State) : Prop where
  keeps : Keeps readAllow z t
  regs  : RegsStay readWindows z t
  pair  : t.pair = z.pair

section
variable {z s : State}

theorem OnlyRead.refl (z : State) : OnlyRead z z := ⟨Keeps.refl _ z, RegsStay.refl _ z, rfl⟩

/-- A step of a read that changes no register and not the pair. -/
theorem OnlyRead.of_regs {t : State} (h : OnlyRead z s) (hk : Keeps readAllow z t) (hregs : t.regs = s.regs) (hpair : t.pair = s.pair) :
    OnlyRead z t :=
  ⟨hk, h.regs.trans (RegsStay.of_regs hregs), hpair.trans h.pair⟩

theorem State.count_onlyRead {a : Nat} (n : Nat) (ha : blockOf a ∈ readWindows) (h : OnlyRead z s) : OnlyRead z (s.count a n) :=
  ⟨State.count_keeps a n h.keeps, h.regs.trans (State.count_regsStay n ha), h.pair⟩

theorem State.setRb_onlyRead {a : Nat} (n : Nat) (b : Bool) (ha : blockOf a ∈ readWindows) (h : OnlyRead z s) : OnlyRead z (s.setRb a n b) :=
  ⟨State.setRb_keeps a n b h.keeps, h.regs.trans (State.setRb_regsStay n b ha), h.pair⟩

theorem State.vector_onlyRead (v : Nat) (h : OnlyRead z s) : OnlyRead z (s.vector v) :=
  ⟨State.vector_keeps v h.keeps, h.regs.trans (State.vector_regsStay v (by decide)), (s.vector_pair v).trans h.pair⟩

theorem State.status_onlyRead {a : Nat} (n : Nat) (ha : blockOf a ∈ readWindows) (h : OnlyRead z s) : OnlyRead z (s.status a n) :=
  State.vector_onlyRead _ (State.setRb_onlyRead n true ha h)

theorem State.setFlt_onlyRead (f : FltPart → FltPart) (h : OnlyRead z s) : OnlyRead z (s.setFlt f) :=
  h.of_regs (State.setFlt_keeps f rfl h.keeps) rfl rfl

theorem State.spendShot_onlyRead (i : Nat) (h : OnlyRead z s) : OnlyRead z (s.spendShot i) := by
  unfold State.spendShot
  exact State.setFlt_onlyRead _ (State.status_onlyRead 0 (by decide) (State.count_onlyRead 1 (by decide) (State.setFlt_onlyRead _ h)))

theorem State.occasion_onlyRead (d t : Nat) (h : OnlyRead z s) : OnlyRead z (s.occasion d t false).2 := by
  unfold State.occasion State.shot
  cases s.firing d t with
  | some i => exact State.spendShot_onlyRead i h
  | none => exact h

theorem State.detect_onlyRead {d : Nat} (hd : blockOf (Reg.FLT_DET d) ∈ readWindows) (inj : Bool) (qty : Rat) (detail : List Word)
    (h : OnlyRead z s) : OnlyRead z (s.detect d inj qty detail) := by
  have hdetected : OnlyRead z (s.detected d) := by
    have hcounted := State.setFlt_onlyRead (fun p => { p with lastDet := setKey p.lastDet d s.up })
      (State.setRb_onlyRead (a := Reg.FLT_DET_STAT) d true (by decide) (State.count_onlyRead 1 hd h))
    unfold State.detected
    dsimp only
    split
    · exact State.vector_onlyRead 15 hcounted
    · exact hcounted
  unfold State.detect
  dsimp only
  split
  · exact hdetected.of_regs (State.raiseInjected_keeps _ _ _ rfl hdetected.keeps) rfl rfl
  · exact hdetected.of_regs (State.raise_keeps _ _ _ rfl hdetected.keeps) rfl rfl

/-- The poison of bulk memory used up: its host area stays. -/
theorem State.setPoison_onlyRead (l : List (Nat × Nat × Bool)) (h : OnlyRead z s) : OnlyRead z { s with mem := { s.mem with poison := l } } :=
  h.of_regs (State.setMem_keeps (fun m => { m with poison := l }) ⟨rfl, rfl⟩ h.keeps) rfl rfl

theorem State.takePoison_onlyRead (p : Nat) (h : OnlyRead z s) : OnlyRead z (s.takePoison p).2 := by
  unfold State.takePoison
  split
  · exact State.setPoison_onlyRead _ h
  · exact h

theorem State.readTransfer_onlyRead (p n : Nat) (h : OnlyRead z s) : OnlyRead z (s.readTransfer p n).2 := by
  have hcorrected : OnlyRead z (match (s.occasion 7 (channelOf (64 * n)) false).1 with
      | some inj => (((((s.occasion 7 (channelOf (64 * n)) false).2.count (Reg.MEM_CNT 2) 1).status Reg.MEM_STAT 0).detect 7 inj 0
          [word (channelOf (64 * n))]))
      | none => (s.occasion 7 (channelOf (64 * n)) false).2) := by
    have hocc := State.occasion_onlyRead 7 (channelOf (64 * n)) h
    split
    · exact State.detect_onlyRead (by decide) _ _ _ (State.status_onlyRead 0 (by decide) (State.count_onlyRead 1 (by decide) hocc))
    · exact hocc
  have hocc := State.occasion_onlyRead 8 (channelOf (64 * n)) hcorrected
  unfold State.readTransfer
  dsimp only
  split
  · exact State.detect_onlyRead (by decide) _ _ _ (State.status_onlyRead 1 (by decide) (State.count_onlyRead 1 (by decide) hocc))
  · split
    · exact State.setPoison_onlyRead _ hocc
    · exact hocc

theorem State.readBulk_onlyRead (p addr len : Nat) (h : OnlyRead z s) : OnlyRead z (s.readBulk p addr len).2 := by
  have hfold : ∀ (l : List Nat) (q : List Nat × State), OnlyRead z q.2 →
      OnlyRead z (l.foldl (fun (q : List Nat × State) i =>
        let r := q.2.readTransfer p (addr / 64 + i)
        (if r.1 then q.1 ++ [i] else q.1, r.2)) q).2 := by
    intro l
    induction l with
    | nil => exact fun _ hq => hq
    | cons i rest ih => exact fun q hq => ih _ (State.readTransfer_onlyRead p (addr / 64 + i) hq)
  unfold State.readBulk
  dsimp only
  split
  · exact h
  · exact hfold _ _ h

theorem State.ringOut_onlyRead (dest : Option (Fin 64)) (b : RingBody) (h : OnlyRead z s) : OnlyRead z (s.ringOut dest b) := by
  unfold State.ringOut
  split
  · exact h.of_regs (State.setCas_keeps _ h.keeps) rfl rfl
  · exact h

theorem State.hostWrite_onlyRead (via : Via) (addr : Nat) (data : List Word) (h : OnlyRead z s) : OnlyRead z (s.hostWrite via addr data) := by
  have hfold : ∀ (l : List Nat) (t : State), OnlyRead z t → OnlyRead z (l.foldl (fun (s : State) k =>
      s.ringOut (some 0) (.chunk (addr + 4096 * k) ((data.drop (1024 * k)).take 1024))) t) := by
    intro l
    induction l with
    | nil => exact fun _ ht => ht
    | cons k rest ih => exact fun t ht => ih _ (State.ringOut_onlyRead _ _ ht)
  have hdma : OnlyRead z (s.dmaOut addr data) := h.of_regs (State.dmaOut_keeps addr data h.keeps) rfl rfl
  cases via with
  | host => exact hdma
  | peer => exact hdma
  | ring => exact hfold _ s h

end

/-! ### The effects that read bulk memory -/

section
variable {z : State}

/-- What is sent round the ring takes no more than poison with it. -/
theorem Res.carried_onlyRead {via : Via} {r : Res} (h : EndsTo (OnlyRead z) r) : EndsTo (OnlyRead z) (r.carried via) := by
  cases r with
  | done st words t =>
    have ht : OnlyRead z t := h st words t rfl
    have hfirst := State.takePoison_onlyRead 7 ht
    unfold Res.carried
    dsimp only
    split
    · split
      · exact endsTo_done (State.takePoison_onlyRead 7 hfirst)
      · exact endsTo_done hfirst
    · exact endsTo_done ht
  | accepted t => exact fun _ _ _ hdone => by injection hdone
  | waiting t => exact fun _ _ _ hdone => by injection hdone

theorem bodyAlnHistRead_onlyRead (via : Via) (buf len : Nat) (a : HistReadArgs) : EndsTo (OnlyRead z) (bodyAlnHistRead via buf len a z) := by
  have hpoison : OnlyRead z (if (z.histRun len a).isEmpty then (none, z) else z.takePoison 0).2 := by
    split
    · exact OnlyRead.refl z
    · exact State.takePoison_onlyRead 0 (OnlyRead.refl z)
  unfold bodyAlnHistRead
  dsimp only
  split
  · exact endsTo_done (State.hostWrite_onlyRead _ _ _ hpoison)
  · exact endsTo_done hpoison

theorem bodyCapRead_onlyRead (via : Via) (buf len : Nat) (a : CapReadArgs) : EndsTo (OnlyRead z) (bodyCapRead via buf len a z) := by
  have hcopied : ∀ r, OnlyRead z (z.copyRecord via buf len r a).2 := fun r =>
    State.hostWrite_onlyRead _ _ _ (State.readBulk_onlyRead _ _ _ (OnlyRead.refl z))
  unfold bodyCapRead
  repeat' first | exact endsTo_done (OnlyRead.refl z) | exact endsTo_done (hcopied _) | split

theorem bodyEvrRead_onlyRead (via : Via) (buf len : Nat) (a : EvrReadArgs) : EndsTo (OnlyRead z) (bodyEvrRead via buf len a z) := by
  unfold bodyEvrRead
  dsimp only
  split
  · exact endsTo_done (OnlyRead.refl z)
  · exact endsTo_done (State.hostWrite_onlyRead _ _ _ (State.takePoison_onlyRead 5 (OnlyRead.refl z)))

theorem bodyMemHostRead_onlyRead (via : Via) (buf bufLen off len : Nat) : EndsTo (OnlyRead z) (bodyMemHostRead via buf bufLen off len z) := by
  unfold bodyMemHostRead
  dsimp only
  split
  · exact endsTo_done (OnlyRead.refl z)
  split
  · exact endsTo_done (OnlyRead.refl z)
  · exact endsTo_done (State.hostWrite_onlyRead _ _ _ (State.readBulk_onlyRead _ _ _ (OnlyRead.refl z)))

end

/-! ### An arming that fails (R337) -/

section
variable {z : State}

/-- Nothing but the capture part changed. -/
def CapOnly (z t : State) : Prop := ∃ c, t = { z with cap := c }

/-- What is recycled are records: the rest stays. -/
theorem State.recycle_capOnly (n : Nat) : ∀ (fuel : Nat) {s : State}, CapOnly z s → CapOnly z (s.recycle n fuel)
  | 0, _, h => h
  | fuel + 1, s, h => by
    unfold State.recycle
    split
    · exact h
    · split
      · obtain ⟨c, rfl⟩ := h
        exact State.recycle_capOnly n fuel ⟨_, rfl⟩
      · exact h

/-- An arming that ends in an error has changed the capture part alone. -/
def ArmFails (z : State) (x : Except Nat (Nat × Nat) × State) : Prop := ∀ st, x.1 = .error st → CapOnly z x.2

theorem armFails_error {st : Nat} {t : State} (h : CapOnly z t) : ArmFails z (.error st, t) := fun _ _ => h

theorem armFails_ok {p : Nat × Nat} {t : State} : ArmFails z (.ok p, t) := fun _ h => by injection h

/-- An arming that does not start its unit leaves all but the records that it recycled. -/
theorem State.arm_fails (u : Nat) (trunc : Bool) : ArmFails z (z.arm u trunc) := by
  have hz : CapOnly z z := ⟨z.cap, rfl⟩
  have hrecycled : CapOnly z (if z.rb (Reg.CAP_U_CTL u) 3 then
      z.recycle (ceilDiv (recBytes (z.rf (Reg.CAP_U_PRE u) 19 0) (z.reg (Reg.CAP_U_POST u)).toNat (z.rowBytes u)) (2 ^ 20)) 256 else z) := by
    split
    · exact State.recycle_capOnly _ 256 hz
    · exact hz
  unfold State.arm
  dsimp only
  generalize (if z.rb (Reg.CAP_U_CTL u) 3 then
      z.recycle (ceilDiv (recBytes (z.rf (Reg.CAP_U_PRE u) 19 0) (z.reg (Reg.CAP_U_POST u)).toNat (z.rowBytes u)) (2 ^ 20)) 256 else z) = s1
    at hrecycled ⊢
  repeat' first | exact armFails_ok | exact armFails_error hz | exact armFails_error hrecycled | split

theorem bodyCapArm_fails (u : Fin 4) (trunc : Bool) : FailsTo (CapOnly z) (bodyCapArm u trunc z) := by
  have hfails := State.arm_fails (z := z) u.val trunc
  unfold bodyCapArm
  split
  next => exact failsTo_ok _
  next st t harm =>
    rw [harm] at hfails
    exact failsTo_refuse (hfails st rfl)

end

/-! ### Every opcode's row (R420, R421) -/

/-- What a failure of an opcode may change: nothing; what is counted of it; the records that an arming recycled; or what a read of bulk memory
uses up. -/
def FailureFrame (op : Nat) (u t : State) : Prop :=
  (op ∉ [0x0081, 0x0304, 0x0505, 0x0582, 0x0606, 0x0B03, 0x0B07, 0x0B81, 0x0C02, 0x0C06, 0x0D03, 0x0D04, 0x0D05, 0x0D06, 0x0D08, 0x0D0A, 0x0D0B,
    0x0F01, 0x1102, 0x1301, 0x1380] → t = u) ∧
  (op ∈ [0x0B03, 0x0B81] → CapOnly u t) ∧
  (op ∉ [0x0606, 0x0B03, 0x0B07, 0x0B81, 0x0C02, 0x1102] → (∀ P : Part, P ≠ .key → P ≠ .evr → P ≠ .events → P ≠ .free → P.same u t) ∧
    RegsStay countedWindows u t ∧ t.mem = u.mem ∧ t.time = u.time ∧ t.pair = u.pair ∧ t.cas = u.cas) ∧
  (op ∈ [0x0606, 0x0B07, 0x0C02, 0x1102] → (∀ P : Part, P ≠ .flt → P ≠ .events → P.same u t) ∧
    RegsStay readWindows u t ∧ (∀ off, hostByte t.mem off = hostByte u.mem off) ∧ t.time = u.time ∧ t.pair = u.pair)

section
variable {op : Nat} {u t : State}

theorem Part.same_refl (P : Part) (u : State) : P.same u u := by cases P <;> rfl

/-- A failure that is counted leaves what the manual says it leaves. -/
theorem Counted.frame (h : Counted u t) : (∀ P : Part, P ≠ .key → P ≠ .evr → P ≠ .events → P ≠ .free → P.same u t) ∧
    RegsStay countedWindows u t ∧ t.mem = u.mem ∧ t.time = u.time ∧ t.pair = u.pair ∧ t.cas = u.cas := by
  refine ⟨fun P hkey hevr hevents hfree => h.keeps.same_part ?_, h.regs, h.mem, h.keeps.same.resolve_left (by decide), h.pair, h.cas⟩
  simp [countedAllow, hkey, hevr, hevents, hfree]

theorem OnlyRead.frame (h : OnlyRead u t) : (∀ P : Part, P ≠ .flt → P ≠ .events → P.same u t) ∧
    RegsStay readWindows u t ∧ (∀ off, hostByte t.mem off = hostByte u.mem off) ∧ t.time = u.time ∧ t.pair = u.pair := by
  refine ⟨fun P hflt hevents => h.keeps.same_part ?_, h.regs, fun off => h.keeps.hostByte_eq rfl rfl, h.keeps.same.resolve_left (by decide), h.pair⟩
  simp [readAllow, hflt, hevents]

theorem failureFrame_same : FailureFrame op u u :=
  ⟨fun _ => rfl, fun _ => ⟨u.cap, rfl⟩, fun _ => (Counted.refl u).frame, fun _ => (OnlyRead.refl u).frame⟩

/-- The opcodes whose failures, or whose uses of a key, are counted. -/
def countedOps : List Nat :=
  [0x0081, 0x0304, 0x0505, 0x0582, 0x0C06, 0x0D03, 0x0D04, 0x0D05, 0x0D06, 0x0D08, 0x0D0A, 0x0D0B, 0x0F01, 0x1301, 0x1380]

theorem failureFrame_counted (hop : op ∈ countedOps) (h : Counted u t) : FailureFrame op u t := by
  have hcounted : ∀ o ∈ countedOps, o ∈ [0x0081, 0x0304, 0x0505, 0x0582, 0x0606, 0x0B03, 0x0B07, 0x0B81, 0x0C02, 0x0C06, 0x0D03, 0x0D04, 0x0D05,
      0x0D06, 0x0D08, 0x0D0A, 0x0D0B, 0x0F01, 0x1102, 0x1301, 0x1380] ∧ o ∉ [0x0B03, 0x0B81] ∧ o ∉ [0x0606, 0x0B07, 0x0C02, 0x1102] := by
    decide
  obtain ⟨hlisted, harming, hreading⟩ := hcounted op hop
  exact ⟨fun hout => absurd hlisted hout, fun hin => absurd hin harming, fun _ => h.frame, fun hin => absurd hin hreading⟩

theorem failureFrame_arming (hop : op ∈ [0x0B03, 0x0B81]) (h : CapOnly u t) : FailureFrame op u t := by
  have harming : ∀ o ∈ [0x0B03, 0x0B81], o ∈ [0x0081, 0x0304, 0x0505, 0x0582, 0x0606, 0x0B03, 0x0B07, 0x0B81, 0x0C02, 0x0C06, 0x0D03, 0x0D04,
      0x0D05, 0x0D06, 0x0D08, 0x0D0A, 0x0D0B, 0x0F01, 0x1102, 0x1301, 0x1380] ∧ o ∈ [0x0606, 0x0B03, 0x0B07, 0x0B81, 0x0C02, 0x1102] ∧
      o ∉ [0x0606, 0x0B07, 0x0C02, 0x1102] := by
    decide
  obtain ⟨hlisted, hnone, hreading⟩ := harming op hop
  exact ⟨fun hout => absurd hlisted hout, fun _ => h, fun hout => absurd hnone hout, fun hin => absurd hin hreading⟩

theorem failureFrame_reading (hop : op ∈ [0x0606, 0x0B07, 0x0C02, 0x1102]) (h : OnlyRead u t) : FailureFrame op u t := by
  have hreading : ∀ o ∈ [0x0606, 0x0B07, 0x0C02, 0x1102], o ∈ [0x0081, 0x0304, 0x0505, 0x0582, 0x0606, 0x0B03, 0x0B07, 0x0B81, 0x0C02, 0x0C06,
      0x0D03, 0x0D04, 0x0D05, 0x0D06, 0x0D08, 0x0D0A, 0x0D0B, 0x0F01, 0x1102, 0x1301, 0x1380] ∧ o ∉ [0x0B03, 0x0B81] ∧
      o ∈ [0x0606, 0x0B03, 0x0B07, 0x0B81, 0x0C02, 0x1102] := by
    decide
  obtain ⟨hlisted, harming, hnone⟩ := hreading op hop
  exact ⟨fun hout => absurd hlisted hout, fun hin => absurd hin harming, fun hout => absurd hnone hout, fun _ => h.frame⟩

end

/-- What a command's row is: one effect run as every opcode's, whose failures leave what they may. An event's row says nothing of this. -/
def RowOf (c : Sys2Proof.Instr) : Option (Nat × Hdr) → Prop
  | none => True
  | some (op, h) => ∃ (mir : Bool) (body : State → Res), (∀ u, exec c u = .next (runCmdAs mir op h body u)) ∧
      ∀ u, FailsTo (FailureFrame op u) (body u)

section
variable {c : Sys2Proof.Instr} {op : Nat} {h : Hdr} {mir : Bool} {body : State → Res}

theorem rowClean (hexec : ∀ u, exec c u = .next (runCmdAs mir op h body u)) (hfails : ∀ z, FailsClean z (body z)) : RowOf c (some (op, h)) :=
  ⟨mir, body, hexec, fun u st words t hdone hst => hfails u st words t hdone hst ▸ failureFrame_same⟩

theorem rowCounted (hop : op ∈ countedOps) (hexec : ∀ u, exec c u = .next (runCmdAs mir op h body u))
    (hfails : ∀ z, FailsTo (Counted z) (body z)) : RowOf c (some (op, h)) :=
  ⟨mir, body, hexec, fun u st words t hdone hst => failureFrame_counted hop (hfails u st words t hdone hst)⟩

theorem rowArming (hop : op ∈ [0x0B03, 0x0B81]) (hexec : ∀ u, exec c u = .next (runCmdAs mir op h body u))
    (hfails : ∀ z, FailsTo (CapOnly z) (body z)) : RowOf c (some (op, h)) :=
  ⟨mir, body, hexec, fun u st words t hdone hst => failureFrame_arming hop (hfails u st words t hdone hst)⟩

theorem rowReading (hop : op ∈ [0x0606, 0x0B07, 0x0C02, 0x1102]) (hexec : ∀ u, exec c u = .next (runCmdAs mir op h body u))
    (hends : ∀ z, EndsTo (OnlyRead z) (body z)) : RowOf c (some (op, h)) :=
  ⟨mir, body, hexec, fun u st words t hdone _ => failureFrame_reading hop (hends u st words t hdone)⟩

end

/-- The row of every opcode. -/
theorem commandOf_row (c : Sys2Proof.Instr) : RowOf c (commandOf c) :=
  match c with
  | .identity _ => rowClean (fun _ => rfl) fun _ => failsTo_ok _
  | .glbStatus _ => rowClean (fun _ => rfl) fun _ => failsTo_ok _
  | .glbEnable h l => rowClean (fun _ => rfl) fun _ => bodyGlbEnable_failsClean l h.session
  | .glbLock _ l => rowClean (fun _ => rfl) fun _ => bodyGlbLock_failsClean l
  | .regRead _ addr n => rowClean (fun _ => rfl) fun _ => bodyRegRead_failsClean addr n
  | .regWrite h l => rowCounted (by decide) (fun _ => rfl) fun _ => bodyRegWrite_failsCounted l h.session
  | .aonStatus _ => rowClean (fun _ => rfl) fun _ => failsTo_ok _
  | .pwrState h goal => rowClean (fun _ => rfl) fun _ => bodyPwrState_failsClean h goal
  | .pwrProfile _ _ => rowClean (fun _ => rfl) fun _ => failsTo_ok _
  | .tc10Identity _ => rowClean (fun _ => rfl) fun _ => failsTo_ok _
  | .avfsRaw _ a => rowClean (fun _ => rfl) fun _ => bodyAvfsRaw_failsClean a
  | .islandReset _ _ => rowClean (fun _ => rfl) fun _ => failsTo_ok _
  | .wakePattern _ a => rowClean (fun _ => rfl) fun _ => bodyWakePattern_failsClean a
  | .wakePatternRaw _ _ => rowClean (fun _ => rfl) fun _ => failsTo_ok _
  | .timeStatus _ => rowClean (fun _ => rfl) fun _ => failsTo_ok _
  | .timeProfile _ _ => rowClean (fun _ => rfl) fun _ => failsTo_ok _
  | .timeRestep h => rowClean (fun _ => rfl) fun _ => bodyTimeRestep_failsClean h
  | .timeSources _ p => rowClean (fun _ => rfl) fun _ => bodyTimeSources_failsClean p
  | .timeOutputs _ p => rowClean (fun _ => rfl) fun _ => bodyTimeOutputs_failsClean p
  | .timeServo _ p => rowClean (fun _ => rfl) fun _ => bodyTimeServo_failsClean p
  | .timeDiscontCfg _ p => rowClean (fun _ => rfl) fun _ => bodyTimeDiscontCfg_failsClean p
  | .timePtpDs _ _ => rowClean (fun _ => rfl) fun _ => failsTo_ok _
  | .portStatus _ _ => rowClean (fun _ => rfl) fun _ => failsTo_ok _
  | .portProfile _ a => rowClean (fun _ => rfl) fun _ => bodyPortProfile_failsClean a
  | .portRings _ a => rowClean (fun _ => rfl) fun _ => bodyPortRings_failsClean a
  | .portPrp _ a => rowClean (fun _ => rfl) fun _ => bodyPortPrp_failsClean a
  | .portMacsec _ a => rowCounted (by decide) (fun _ => rfl) fun _ => bodyPortMacsec_failsCounted a
  | .portOptics _ _ _ => rowClean (fun _ => rfl) fun _ => failsTo_ok _
  | .portEq _ _ => rowClean (fun _ => rfl) fun _ => failsTo_ok _
  | .portMacRaw _ a => rowClean (fun _ => rfl) fun _ => bodyPortMacRaw_failsClean a
  | .portOptOverride _ _ _ => rowClean (fun _ => rfl) fun _ => failsTo_ok _
  | .ingStatus _ => rowClean (fun _ => rfl) fun _ => failsTo_ok _
  | .ingStreamAdd _ a => rowClean (fun _ => rfl) fun _ => bodyIngStreamAdd_failsClean a
  | .ingStreamRemove _ r => rowClean (fun _ => rfl) fun _ => bodyIngStreamRemove_failsClean r
  | .ingStreamList _ => rowClean (fun _ => rfl) fun _ => failsTo_ok _
  | .ingUnknown _ => rowClean (fun _ => rfl) fun _ => failsTo_ok _
  | .ingCfgFetch _ r => rowClean (fun _ => rfl) fun _ => bodyIngCfgFetch_failsClean r
  | .ingHeader _ r => rowClean (fun _ => rfl) fun _ => bodyIngHeader_failsClean r
  | .ingStreamRaw _ a => rowClean (fun _ => rfl) fun _ => bodyIngStreamRaw_failsClean a
  | .ingChanScale _ a => rowClean (fun _ => rfl) fun _ => bodyIngChanScale_failsClean a
  | .ingTune _ a => rowClean (fun _ => rfl) fun _ => bodyIngTune_failsClean a
  | .pecStatus _ => rowClean (fun _ => rfl) fun _ => failsTo_ok _
  | .pecProfile _ a => rowClean (fun _ => rfl) fun _ => bodyPecProfile_failsClean a
  | .pecInputs _ _ => rowClean (fun _ => rfl) fun _ => failsTo_ok _
  | .pecThresholds _ l => rowClean (fun _ => rfl) fun _ => bodyPecThresholds_failsClean l
  | .syncDecim _ => rowClean (fun _ => rfl) fun _ => failsTo_ok _
  | .pecBankSwap _ a => rowCounted (by decide) (fun _ => rfl) fun _ => bankSwap_failsCounted a false
  | .pecSlotRaw _ a => rowClean (fun _ => rfl) fun _ => bodyPecSlotRaw_failsClean a
  | .pecCoefLoad _ a => rowClean (fun _ => rfl) fun _ => bodyPecCoefLoad_failsClean a
  | .pecBankSwapX _ a => rowCounted (by decide) (fun _ => rfl) fun _ => bankSwap_failsCounted a a.queue
  | .pecDsyncCfg _ _ _ => rowClean (fun _ => rfl) fun _ => failsTo_ok _
  | .alnStatus _ => rowClean (fun _ => rfl) fun _ => failsTo_ok _
  | .alnGroupStart _ a => rowClean (fun _ => rfl) fun _ => bodyAlnGroupStart_failsClean a
  | .alnGroupStop _ g flush => rowClean (fun _ => rfl) fun _ => bodyAlnGroupStop_failsClean g flush
  | .alnGroupChannels _ a => rowClean (fun _ => rfl) fun _ => bodyAlnGroupChannels_failsClean a
  | .alnGroupTiming _ a => rowClean (fun _ => rfl) fun _ => bodyAlnGroupTiming_failsClean a
  | .alnHistAlloc _ a => rowClean (fun _ => rfl) fun _ => bodyAlnHistAlloc_failsClean a
  | .alnHistRead h a => rowReading (by decide) (fun _ => rfl) fun _ => Res.carried_onlyRead (bodyAlnHistRead_onlyRead h.via h.bufAddr h.bufLen a)
  | .alnGroupRaw _ a => rowClean (fun _ => rfl) fun _ => bodyAlnGroupRaw_failsClean a
  | .alnChanRaw _ l => rowClean (fun _ => rfl) fun _ => bodyAlnChanRaw_failsClean l
  | .alnTune _ a => rowClean (fun _ => rfl) fun _ => bodyAlnTune_failsClean a
  | .splStatus _ => rowClean (fun _ => rfl) fun _ => failsTo_ok _
  | .splGroup _ g p => rowClean (fun _ => rfl) fun _ => bodySplGroup_failsClean g p
  | .splClass _ n kind => rowClean (fun _ => rfl) fun _ => bodySplClass_failsClean n kind
  | .splLedgerRead _ _ _ => rowClean (fun _ => rfl) fun _ => failsTo_ok _
  | .splClassRaw _ a => rowClean (fun _ => rfl) fun _ => bodySplClassRaw_failsClean a
  | .splGroupRaw _ g depth max64 => rowClean (fun _ => rfl) fun _ => bodySplGroupRaw_failsClean g depth max64
  | .oscStatus _ => rowClean (fun _ => rfl) fun _ => failsTo_ok _
  | .oscSetProfile _ a => rowClean (fun _ => rfl) fun _ => bodyOscSetProfile_failsClean a
  | .oscSignals _ set l => rowClean (fun _ => rfl) fun _ => bodyOscSignals_failsClean set l
  | .oscThresholds _ a => rowClean (fun _ => rfl) fun _ => bodyOscThresholds_failsClean a
  | .oscSetStart _ set => rowClean (fun _ => rfl) fun _ => bodyOscSetStart_failsClean set
  | .oscSetStop _ _ => rowClean (fun _ => rfl) fun _ => failsTo_ok _
  | .oscModesRead _ _ _ => rowClean (fun _ => rfl) fun _ => failsTo_ok _
  | .oscDefBranches _ l => rowClean (fun _ => rfl) fun _ => bodyOscDefBranches_failsClean l
  | .oscForcedRead _ _ _ => rowClean (fun _ => rfl) fun _ => failsTo_ok _
  | .oscSetRaw _ set l => rowClean (fun _ => rfl) fun _ => bodyOscSetRaw_failsClean set l
  | .oscSigRaw _ l => rowClean (fun _ => rfl) fun _ => bodyOscSigRaw_failsClean l
  | .oscTune _ a => rowClean (fun _ => rfl) fun _ => bodyOscTune_failsClean a
  | .islStatus _ => rowClean (fun _ => rfl) fun _ => failsTo_ok _
  | .islProfile _ a => rowClean (fun _ => rfl) fun _ => bodyIslProfile_failsClean a
  | .islModelLoad h b => rowClean (fun _ => rfl) fun _ => bodyIslModelLoad_failsClean b h.casc
  | .islIslandsRead _ _ => rowClean (fun _ => rfl) fun _ => failsTo_ok _
  | .islTune _ a => rowClean (fun _ => rfl) fun _ => bodyIslTune_failsClean a
  | .islTblRaw _ l => rowClean (fun _ => rfl) fun _ => bodyIslTblRaw_failsClean l
  | .islModelActivate h a => rowClean (fun _ => rfl) fun _ => bodyIslModelActivate_failsClean a h.casc
  | .pubStatus _ => rowClean (fun _ => rfl) fun _ => failsTo_ok _
  | .pubStreamProfile _ a => rowClean (fun _ => rfl) fun _ => bodyPubStreamProfile_failsClean a
  | .pubStreamLayout _ stream l => rowClean (fun _ => rfl) fun _ => bodyPubStreamLayout_failsClean stream l
  | .pubStreamCtl _ stream run => rowClean (fun _ => rfl) fun _ => bodyPubStreamCtl_failsClean stream run
  | .pubGocb _ a => rowClean (fun _ => rfl) fun _ => bodyPubGocb_failsClean a
  | .pubAlarmOut _ a => rowClean (fun _ => rfl) fun _ => bodyPubAlarmOut_failsClean a
  | .pubLimits _ l => rowClean (fun _ => rfl) fun _ => bodyPubLimits_failsClean l
  | .pubAlarmsRead _ _ => rowClean (fun _ => rfl) fun _ => failsTo_ok _
  | .pubStreamRaw _ a => rowClean (fun _ => rfl) fun _ => bodyPubStreamRaw_failsClean a
  | .pubGocbRaw _ a => rowClean (fun _ => rfl) fun _ => bodyPubGocbRaw_failsClean a
  | .pubTblRaw _ l => rowClean (fun _ => rfl) fun _ => bodyPubTblRaw_failsClean l
  | .capStatus _ => rowClean (fun _ => rfl) fun _ => failsTo_ok _
  | .capUnitProfile _ a => rowClean (fun _ => rfl) fun _ => bodyCapUnitProfile_failsClean a
  | .capChannels _ u l => rowClean (fun _ => rfl) fun _ => bodyCapChannels_failsClean u l
  | .capArm _ u => rowArming (by decide) (fun _ => rfl) fun _ => bodyCapArm_fails u false
  | .capStop _ u keep => rowClean (fun _ => rfl) fun _ => bodyCapStop_failsClean u keep
  | .capForce _ u => rowClean (fun _ => rfl) fun _ => bodyCapForce_failsClean u
  | .capList _ _ => rowClean (fun _ => rfl) fun _ => failsTo_ok _
  | .capRead h a => rowReading (by decide) (fun _ => rfl) fun _ => Res.carried_onlyRead (bodyCapRead_onlyRead h.via h.bufAddr h.bufLen a)
  | .capFree _ n => rowClean (fun _ => rfl) fun _ => bodyCapFree_failsClean n
  | .capLock _ n lock => rowClean (fun _ => rfl) fun _ => bodyCapLock_failsClean n lock
  | .capSeqRaw _ u l => rowClean (fun _ => rfl) fun _ => bodyCapSeqRaw_failsClean u l
  | .capArmX _ u trunc => rowArming (by decide) (fun _ => rfl) fun _ => bodyCapArm_fails u trunc
  | .capTune _ a => rowClean (fun _ => rfl) fun _ => bodyCapTune_failsClean a
  | .evrStatus _ => rowClean (fun _ => rfl) fun _ => failsTo_ok _
  | .evrClassProfile _ p => rowClean (fun _ => rfl) fun _ => bodyEvrClassProfile_failsClean p
  | .evrRead h a => rowReading (by decide) (fun _ => rfl) fun _ => Res.carried_onlyRead (bodyEvrRead_onlyRead h.via h.bufAddr h.bufLen a)
  | .evrPubkey _ => rowClean (fun _ => rfl) fun _ => bodyEvrPubkey_failsClean
  | .evrSeal _ => rowClean (fun _ => rfl) fun _ => failsTo_ok _
  | .evrClearNonce _ => rowClean (fun _ => rfl) fun _ => failsTo_ok _
  | .evrClear _ nonce tag => rowCounted (by decide) (fun _ => rfl) fun _ => bodyEvrClear_failsCounted nonce tag
  | .evrHostEvent _ a => rowClean (fun _ => rfl) fun _ => bodyEvrHostEvent_failsClean a
  | .evrClassRaw _ l => rowClean (fun _ => rfl) fun _ => bodyEvrClassRaw_failsClean l
  | .keyStatus _ => rowClean (fun _ => rfl) fun _ => failsTo_ok _
  | .keyInfo _ slot => rowClean (fun _ => rfl) fun _ => failsTo_unlessRetired rfl (bodyKeyInfo_failsClean slot)
  | .keyGenerate _ a => rowClean (fun _ => rfl) fun _ => failsTo_unlessRetired rfl (bodyKeyGenerate_failsClean a)
  | .keyImport _ a => rowCounted (by decide) (fun _ => rfl) fun _ => failsTo_unlessRetired (Counted.refl _) (bodyKeyImport_failsCounted a)
  | .keyDerive _ a => rowCounted (by decide) (fun _ => rfl) fun _ => failsTo_unlessRetired (Counted.refl _) (bodyKeyDerive_failsCounted a)
  | .keyReplace h a => rowCounted (by decide) (fun _ => rfl) fun _ => failsTo_unlessRetired (Counted.refl _) (bodyKeyReplace_failsCounted h a)
  | .keyReplaceCommit h slot kcv => rowCounted (by decide) (fun _ => rfl) fun _ => failsTo_unlessRetired (Counted.refl _)
    (bodyKeyReplaceCommit_failsCounted h slot kcv)
  | .keyDestroy _ slot => rowClean (fun _ => rfl) fun _ => failsTo_unlessRetired rfl (bodyKeyDestroy_failsClean slot)
  | .keyExport _ slot kek => rowCounted (by decide) (fun _ => rfl) fun _ => failsTo_unlessRetired (Counted.refl _) (bodyKeyExport_failsCounted
    slot kek)
  | .keyLcNonce _ => rowClean (fun _ => rfl) fun _ => failsTo_unlessRetired rfl (failsTo_ok _)
  | .keyLifecycle _ goal nonce tag => rowCounted (by decide) (fun _ => rfl) fun _ => failsTo_unlessRetired (Counted.refl _)
    (bodyKeyLifecycle_failsCounted goal nonce tag)
  | .keyAttest _ slot nonce => rowCounted (by decide) (fun _ => rfl) fun _ => failsTo_unlessRetired (Counted.refl _) (bodyKeyAttest_failsCounted
    slot nonce)
  | .keyTxnResult _ => rowClean (fun _ => rfl) fun _ => failsTo_unlessRetired rfl (failsTo_ok _)
  | .keyImportClear _ a => rowClean (fun _ => rfl) fun _ => failsTo_unlessRetired rfl (bodyKeyImportClear_failsClean a)
  | .keyAttrRaw _ a => rowClean (fun _ => rfl) fun _ => failsTo_unlessRetired rfl (bodyKeyAttrRaw_failsClean a)
  | .keyTune _ a => rowClean (fun _ => rfl) fun _ => failsTo_unlessRetired rfl (bodyKeyTune_failsClean a)
  | .cmdSessionOpen _ _ => rowClean (fun _ => rfl) fun _ => failsTo_ok _
  | .cmdSessionClose _ => rowClean (fun _ => rfl) fun _ => failsTo_ok _
  | .lockAcquire h n leaseMs wait => rowClean (fun _ => rfl) fun _ => bodyLockAcquire_failsClean h n leaseMs wait
  | .lockRenew h n leaseMs => rowClean (fun _ => rfl) fun _ => bodyLockRenew_failsClean h.session n leaseMs
  | .lockRelease h n => rowClean (fun _ => rfl) fun _ => bodyLockRelease_failsClean h.session n
  | .lockStatus _ => rowClean (fun _ => rfl) fun _ => failsTo_ok _
  | .cmdEcho _ _ => rowClean (fun _ => rfl) fun _ => failsTo_ok _
  | .cmdTune _ a => rowClean (fun _ => rfl) fun _ => bodyCmdTune_failsClean a
  | .mbxStatus _ _ => rowClean (fun _ => rfl) fun _ => failsTo_ok _
  | .mbxSend h n words wait => rowCounted (by decide) (fun _ => rfl) fun _ => bodyMbxSend_failsCounted h n words wait
  | .mbxRecv h n wait => rowClean (fun _ => rfl) fun _ => bodyMbxRecv_failsClean h n wait
  | .mbxPeek _ n => rowClean (fun _ => rfl) fun _ => bodyMbxPeek_failsClean n
  | .mbxBind _ n en a b => rowClean (fun _ => rfl) fun _ => bodyMbxBind_failsClean n en a b
  | .mbxClear _ _ => rowClean (fun _ => rfl) fun _ => failsTo_ok _
  | .casStatus _ => rowClean (fun _ => rfl) fun _ => failsTo_ok _
  | .casRejoin h m => rowClean (fun _ => rfl) fun _ => bodyCasRejoin_failsClean h m
  | .casReform h => rowClean (fun _ => rfl) fun _ => bodyCasReform_failsClean h
  | .casTune _ _ _ => rowClean (fun _ => rfl) fun _ => failsTo_ok _
  | .memStatus _ => rowClean (fun _ => rfl) fun _ => failsTo_ok _
  | .memTickets _ _ => rowClean (fun _ => rfl) fun _ => failsTo_ok _
  | .memHostRead h off len => rowReading (by decide) (fun _ => rfl) fun _ => Res.carried_onlyRead (bodyMemHostRead_onlyRead h.via h.bufAddr
    h.bufLen off len)
  | .memHostWrite _ off data => rowClean (fun _ => rfl) fun _ => bodyMemHostWrite_failsClean off data
  | .memTicketsRaw _ _ _ => rowClean (fun _ => rfl) fun _ => failsTo_ok _
  | .memLfsr _ c seed => rowClean (fun _ => rfl) fun _ => bodyMemLfsr_failsClean c seed
  | .pairStatus _ => rowClean (fun _ => rfl) fun _ => failsTo_ok _
  | .pairForm _ sideB prefer => rowClean (fun _ => rfl) fun _ => bodyPairForm_failsClean sideB prefer
  | .pairJoin h => rowClean (fun _ => rfl) fun _ => bodyPairJoin_failsClean h
  | .pairSwap h => rowClean (fun _ => rfl) fun _ => bodyPairSwap_failsClean h
  | .pairSwapSched _ hours => rowClean (fun _ => rfl) fun _ => bodyPairSwapSched_failsClean hours
  | .pairRestart h => rowClean (fun _ => rfl) fun _ => bodyPairRestart_failsClean h
  | .pairSplit _ => rowClean (fun _ => rfl) fun _ => failsTo_ok _
  | .pairTune _ a => rowClean (fun _ => rfl) fun _ => bodyPairTune_failsClean a
  | .fltStatus _ => rowClean (fun _ => rfl) fun _ => failsTo_ok _
  | .inject h a => rowCounted (by decide) (fun _ => rfl) fun _ => bodyInject_failsCounted h a
  | .fltInjRaw h a => rowCounted (by decide) (fun _ => rfl) fun _ => bodyFltInjRaw_failsCounted h a
  | .sqDoorbell .. | .rqHeadFree .. | .heartbeatFeed .. | .fetchEnable .. | .fetchDisable .. | .blockLockSet .. | .regWritePlain .. |
    .rcCounterRead .. | .counter64LoRead .. | .timeNowLatchRead .. | .fineTimeLatchRead .. | .evrSeqLatchRead .. | .txtsIdRead .. | .tdcStampRead
    .. | .compareArm .. | .portModeChange .. | .rxTailWrite .. | .txTailWrite .. | .ingTblRead .. | .ingTblWrite .. | .pecTblRead .. |
    .pecTblWrite .. | .alnChanRead .. | .alnChanWrite .. | .oscTblRead .. | .oscTblWrite .. | .islTblReadActive .. | .islTblWriteStaged .. |
    .islTblReadStaged .. | .pubTblRead .. | .pubTblWrite .. | .alnGrpRegWrite .. | .splClassRegWrite .. | .capPartWrite .. | .mbxWordWrite .. |
    .mbxW15Read .. | .mbxBindWrite .. | .injSlotArm .. | .injSlotDisarm .. | .commandFetch .. | .commandTimeout .. | .coreWatchdogExpiry .. |
    .lockLeaseExpiry .. | .heartbeatExpiry .. | .replyCoalesceExpiry .. | .cascadeReplyAggregate .. | .routedCommandReceive .. |
    .mirroredCommandReceive .. | .mirrorAckReceive .. | .ptpMessageReceive .. | .announceReceiptTimeout .. | .servoMeasurement .. |
    .sourceUnqualifyTimeout .. | .restepTake .. | .leapSecondEnd .. | .ppsInEdge .. | .todSentenceReceive .. | .irigFrameReceive .. | .ppsOutPulse
    .. | .todSentenceSend .. | .tdcEdgeStamp .. | .compareFire .. | .trigOutPulseEnd .. | .tcPresChange .. | .tc10IdentityReadComplete .. |
    .tc10WarmupEnd .. | .frameReceive .. | .pauseExpiry .. | .pauseRepeat .. | .prpForgetExpiry .. | .transmitSelect .. | .frameTransmitComplete
    .. | .linkUp .. | .linkDown .. | .eqAdaptComplete .. | .modAbsChange .. | .modAbsDebounceEnd .. | .opticsReadStart .. | .opticsReadComplete ..
    | .opticsReadRetry .. | .wakePatternMatch .. | .parseFrame .. | .heldConfigApply .. | .configFrameReceive .. | .cfgPollTimer .. |
    .cfgFetchTimeout .. | .c37CommandFrameReceive .. | .svSampleIn .. | .estimateOutput .. | .slotRestart .. | .dsyncEdge .. | .crossfadeEnd .. |
    .heldSwapStart .. | .accordValueReceive .. | .provisionalIssue .. | .windowClose .. | .closeGuardEnd .. | .emptyGroupTrigger .. |
    .snapshotCommit .. | .groupStartReached .. | .groupChangeEffective .. | .classChangeEffective .. | .provisionalSnapshotEvaluate .. |
    .committedSnapshotEvaluate .. | .confirmReceive .. | .rollbackReceive .. | .flushReceive .. | .summaryPacketReceive .. | .provisionalViewForm
    .. | .ringWaitExpiry .. | .ringCommit .. | .ringCloseExpiry .. | .islModelEffective .. | .oscSnapshotIntake .. | .oscUpdateReady .. |
    .oscUpdateComplete .. | .alarmBatchReceive .. | .gooseRetransmit .. | .alarmOutMinOnExpiry .. | .snapshotPublish .. | .streamChangeEffective
    .. | .captureRowClose .. | .captureRowWaitExpiry .. | .captureEventQueue .. | .recordDrainComplete .. | .eventAccumulate .. |
    .accumulationIntervalEnd .. | .immediateHoldoffEnd .. | .recordMramWrite .. | .signatureBlockWrite .. | .evrNonceExpiry .. | .keyRemask .. |
    .keyCommitComplete .. | .stagedKeyDiscard .. | .childCascadeDestroy .. | .lcNonceExpiry .. | .katRun .. | .mbxClaimLapse .. |
    .mbxRingMessageArrive .. | .ringFormationToken .. | .ringFormationReturn .. | .ringFormationTimeout .. | .ringMapBroadcast .. |
    .ringMapReceive .. | .ringFrameReceive .. | .crInSilence .. | .ringRelock .. | .ringClosedToken .. | .rejoinRelease .. | .joinRecordReceive ..
    | .rejoinTrialTimeout .. | .arbitrationDraw .. | .barrierComplete .. | .fabricTimeout .. | .handshakeTimeout .. | .interlockWatchdogFeed .. |
    .interlockWatchdogExpiry .. | .ownWaveLost .. | .interlockQuiet .. | .claimConfirm .. | .claimBackoffEnd .. | .preferActiveContendTimeout .. |
    .pairHeartbeatSend .. | .pairHeartbeatReceive .. | .peerLaneLoss .. | .inclusionListReceive .. | .pairRecordFetchComplete .. | .pairAckReceive
    .. | .pairAckTimeout .. | .resultRecordReceive .. | .copyPhaseAComplete .. | .copyTCut .. | .copyImageInstalled .. | .copyComplete .. |
    .copyTimeout .. | .swapFramesDrained .. | .swapCheckExpiry .. | .swapCheckFail .. | .scheduledSwap .. | .supplyInRange .. | .powerUpComplete
    .. | .vinLoss .. | .resetNPulse .. | .perstNAssert .. | .perstNRelease .. | .wakeNEdge .. | .stateTransitionComplete .. | .temperatureSample
    .. | .islandWatchdogExpiry .. | .railWindowFault .. | .pllLockLoss .. | .cpmMarginLoss .. | .clockStretchEnd .. | .injectionFire .. |
    .injectionSpanEnd .. | .injBitClear .. | .ptpMessageInterval .. | .vioOutOfRange .. | .vinAboveRange .. | .pllRelock .. |
    .alarmOutReadbackCheck .. | .rngHealthTest .. => trivial

/-! ### The posting of an outcome (R417, R419, R424) -/

/-- The outcome posted: registers outside the command block's window stay, and so do bulk memory and the locks. -/
structure Posted (s t : State) : Prop where
  regs  : RegsStay [14] s t
  mem   : t.mem = s.mem
  locks : t.cmd.locks = s.cmd.locks

section
variable {s t : State}

/-- A change of the command block's part, of the ring's or of the peer lane's that leaves the locks. -/
theorem posted_of_same (hregs : t.regs = s.regs) (hmem : t.mem = s.mem) (hlocks : t.cmd.locks = s.cmd.locks) : Posted s t :=
  ⟨RegsStay.of_regs hregs, hmem, hlocks⟩

theorem Posted.trans {u : State} (h : Posted s t) (k : Posted t u) : Posted s u :=
  ⟨h.regs.trans k.regs, k.mem.trans h.mem, k.locks.trans h.locks⟩

theorem CmdWork.posted (h : CmdWork s t) (hmem : t.mem = s.mem) : Posted s t := ⟨h.regs, hmem, h.locks⟩

theorem State.coalesce_mem (n : Fin 4) : (s.coalesce n).mem = s.mem := by
  unfold State.coalesce
  dsimp only
  split
  · exact State.vector_mem _ _
  · rfl

theorem State.noteNoReply_mem (f : Flight) (st : Nat) : (s.noteNoReply f st).mem = s.mem := by
  unfold State.noteNoReply
  split <;> rfl

theorem State.writeReply_posted (f : Flight) (st : Nat) (words : List Word) (final inProgress : Bool) :
    Posted s (s.writeReply f st words final inProgress) :=
  (State.writeReply_cmdWork f st words final inProgress).posted (State.coalesce_mem f.session)

theorem State.noteNoReply_posted (f : Flight) (st : Nat) : Posted s (s.noteNoReply f st) :=
  (State.noteNoReply_cmdWork f st).posted (State.noteNoReply_mem f st)

theorem State.ringReplyOut_posted (f : Flight) (st : Nat) (words : List Word) : Posted s (s.ringReplyOut f st words) := by
  unfold State.ringReplyOut State.ringOut
  split
  · exact posted_of_same rfl rfl rfl
  · exact posted_of_same rfl rfl rfl

theorem State.postFinal_posted (f : Flight) (st : Nat) (words : List Word) : Posted s (s.postFinal f st words) := by
  unfold State.postFinal
  dsimp only
  split
  · refine Posted.trans ?_ (State.ringReplyOut_posted _ _ _)
    exact posted_of_same rfl rfl rfl
  · exact posted_of_same rfl rfl rfl
  · split
    · exact posted_of_same rfl rfl rfl
    split
    · exact posted_of_same rfl rfl rfl
    split
    · refine Posted.trans ?_ (State.noteNoReply_posted f st)
      exact posted_of_same rfl rfl rfl
    · refine Posted.trans ?_ (State.writeReply_posted f st _ _ _)
      exact posted_of_same rfl rfl rfl

theorem State.complete_posted (session : Fin 4) (seq : Word) (st : Nat) (words : List Word) : Posted s (s.complete session seq st words) := by
  unfold State.complete
  split
  · exact State.postFinal_posted _ _ _
  · exact posted_of_same rfl rfl rfl

/-- Nothing may change. -/
def nothingAllow : Allow := ⟨fun _ => false, false, fun _ => false, false⟩

theorem State.complete_keepsAll (session : Fin 4) (seq : Word) (st : Nat) (words : List Word) :
    Keeps nothingAllow s (s.complete session seq st words) :=
  State.complete_keeps session seq st words (Keeps.refl _ s)

end

/-- Settles O52: the row of each opcode with the frame of its failures, what a command at its turn that fails comes to, and the posting of an
outcome. -/
theorem failedCommandsChangeNothing : Obligations.FailedCommandsChangeNothing := by
  refine ⟨fun c op h hc => ?_, fun s session seq st words => ?_⟩
  · have hrow := commandOf_row c
    rw [hc] at hrow
    obtain ⟨mir, body, hexec, hfails⟩ := hrow
    refine ⟨mir, body, hexec, hfails, fun s st words t hready hdone hst => ?_⟩
    rw [hexec, runCmdAs_done hready hdone (Or.inl hst)]
  · have hposted := State.complete_posted (s := s) session seq st words
    have hkept := State.complete_keepsAll (s := s) session seq st words
    exact ⟨fun P => hkept.same_part rfl, fun a ha => hposted.regs a (by simpa using ha), hposted.mem, hkept.same.resolve_left (by decide),
      hposted.locks⟩

end Sys2Proof.Machine
end

section
/-! PROOFS. A command whose seq its session has recorded is answered as a duplicate and not executed again (O51). -/

namespace Sys2Proof.Machine

/-! ### What a reply at once adds (R417, R423 to R425) -/

section
variable {s t : State} {op : Nat} {h : Hdr}

theorem State.vector_replies (v : Nat) : (s.vector v).cmd.replies = s.cmd.replies ∧ (s.vector v).cmd.flights = s.cmd.flights := by
  unfold State.vector
  dsimp only
  split <;> exact ⟨rfl, rfl⟩

theorem State.coalesce_replies (n : Fin 4) : (s.coalesce n).cmd.replies = s.cmd.replies ∧ (s.coalesce n).cmd.flights = s.cmd.flights := by
  unfold State.coalesce
  dsimp only
  split
  · exact State.vector_replies n.val
  · exact ⟨rfl, rfl⟩

/-- A reply written is one more reply, of the command's seq. -/
theorem State.writeReply_replies (f : Flight) (st : Nat) (words : List Word) (final inProgress : Bool) :
    (s.writeReply f st words final inProgress).cmd.flights = s.cmd.flights ∧
      ∃ r : Reply, (s.writeReply f st words final inProgress).cmd.replies = s.cmd.replies ++ [r] ∧ r.status = st ∧ r.seq = f.seq ∧
        r.final = final ∧ r.inProgress = inProgress ∧ r.result = words := by
  unfold State.writeReply
  dsimp only
  exact ⟨(State.coalesce_replies f.session).2, _, (State.coalesce_replies f.session).1, rfl, rfl, rfl, rfl, rfl⟩

theorem State.noteNoReply_cmd (f : Flight) (st : Nat) : (s.noteNoReply f st).cmd = s.cmd := by
  unfold State.noteNoReply
  split <;> rfl

/-- Flights that have their final reply: nothing of them executes. -/
def AllReplied (l : List Flight) : Prop := ∀ f ∈ l, ∃ n, f.st = .replied n

theorem AllReplied.nil : AllReplied [] := fun _ hf => absurd hf List.not_mem_nil

/-- A reply at once leaves behind the flights only some that have their final reply. -/
theorem State.replyAtOnce_flights (st : Nat) (words : List Word) (inProgress : Bool) :
    ∃ l, (s.replyAtOnce op h st words inProgress).cmd.flights = s.cmd.flights ++ l ∧ AllReplied l := by
  unfold State.replyAtOnce
  dsimp only
  split
  · exact ⟨[], by rw [State.noteNoReply_cmd, List.append_nil], AllReplied.nil⟩
  · exact ⟨[s.newFlight op h (.replied s.cmd.rqTail) 0], (State.writeReply_replies _ _ _ _ _).1,
      fun f hf => ⟨s.cmd.rqTail, List.mem_singleton.mp hf ▸ rfl⟩⟩

theorem State.replyAtOnce_replies (hreply : h.noReply = false) (st : Nat) (words : List Word) (inProgress : Bool) :
    ∃ r : Reply, (s.replyAtOnce op h st words inProgress).cmd.replies = s.cmd.replies ++ [r] ∧ r.status = st ∧ r.seq = h.seq ∧
      r.final = true ∧ r.inProgress = inProgress ∧ r.result = words := by
  have hwritten : s.replyAtOnce op h st words inProgress = State.writeReply (s.addFlight (s.newFlight op h (.replied s.cmd.rqTail) 0))
      (s.newFlight op h (.replied s.cmd.rqTail) 0) st words true inProgress := by
    unfold State.replyAtOnce
    simp only [hreply, Bool.false_eq_true, if_false]
  rw [hwritten]
  exact (State.writeReply_replies _ _ _ _ _).2

theorem State.takePoison_cmd (p : Nat) : (s.takePoison p).2.cmd = s.cmd := by
  unfold State.takePoison
  split <;> rfl

/-- What comes poisoned is bulk memory's to say. -/
theorem State.takePoison_fst {p : Nat} (hmem : t.mem = s.mem) : (t.takePoison p).1 = (s.takePoison p).1 := by
  unfold State.takePoison
  rw [hmem]
  cases s.mem.poison.find? (fun x => x.1 == p) <;> rfl

theorem State.replyDuplicate_flights (x : Cached) :
    ∃ l, (s.replyDuplicate op h x).cmd.flights = s.cmd.flights ++ l ∧ AllReplied l := by
  unfold State.replyDuplicate
  dsimp only
  split
  · exact ⟨[], (List.append_nil _).symm, AllReplied.nil⟩
  · split
    · obtain ⟨l, hl, hreplied⟩ := State.replyAtOnce_flights (s := ((s.count (Reg.CMD_CNT 1) 1).takePoison 4).2) _ _ _
      exact ⟨l, hl.trans (by rw [State.takePoison_cmd]; rfl), hreplied⟩
    · exact State.replyAtOnce_flights _ _ _

/-- The result of the reply to a duplicate: what was recorded, where it can be read (R424, R512, R539). -/
def State.duplicateResult (s : State) (x : Cached) : List Word :=
  match x.reply with
  | some (st, words) => if s.aon.mode = .ready ∨ (s.takePoison 4).1.isSome = true then [] else word st :: words
  | none => []

theorem State.duplicateResult_congr {x : Cached} (haon : t.aon = s.aon) (hmem : t.mem = s.mem) : t.duplicateResult x = s.duplicateResult x := by
  unfold State.duplicateResult
  rw [haon, State.takePoison_fst hmem]

theorem State.replyDuplicate_replies {x : Cached} (hreply : h.noReply = false) (hx : x.noReply = false) :
    ∃ r : Reply, (s.replyDuplicate op h x).cmd.replies = s.cmd.replies ++ [r] ∧ r.status = St.DUPLICATE ∧ r.seq = h.seq ∧ r.final = true ∧
      r.inProgress = x.reply.isNone ∧ r.result = s.duplicateResult x := by
  unfold State.replyDuplicate State.duplicateResult
  simp only [hx, Bool.false_eq_true, if_false]
  cases x.reply with
  | none => exact State.replyAtOnce_replies hreply _ _ _
  | some p =>
    obtain ⟨st, words⟩ := p
    obtain ⟨r, hr, hrest⟩ := State.replyAtOnce_replies (s := ((s.count (Reg.CMD_CNT 1) 1).takePoison 4).2) (op := op) hreply St.DUPLICATE
      (if (s.count (Reg.CMD_CNT 1) 1).aon.mode == .ready || ((s.count (Reg.CMD_CNT 1) 1).takePoison 4).1.isSome then [] else word st :: words) false
    rw [State.takePoison_cmd] at hr
    refine ⟨r, hr, ?_⟩
    simpa [State.takePoison_fst (s := s) (t := s.count (Reg.CMD_CNT 1) 1) rfl] using hrest

theorem State.replyDuplicate_noReply {x : Cached} (hx : x.noReply = true) : s.replyDuplicate op h x = s.count (Reg.CMD_CNT 1) 1 := by
  unfold State.replyDuplicate
  simp only [hx, if_true]

/-! ### Nothing of a duplicate executes -/

/-- The flights before one that is there are the same with more behind. -/
theorem takeWhile_ne_append {f : Flight} {l : List Flight} (hf : f ∈ l) (r : List Flight) :
    (l ++ r).takeWhile (· != f) = l.takeWhile (· != f) := by
  induction l with
  | nil => exact absurd hf List.not_mem_nil
  | cons g rest ih =>
    by_cases hg : g = f
    · simp [hg]
    · have hrest : f ∈ rest := (List.mem_cons.mp hf).resolve_left (Ne.symm hg)
      simp [hg, ih hrest]

/-- Where no command in flight is at its turn, none is with flights behind that have their final reply. -/
theorem State.executable_append {l : List Flight} (hflights : t.cmd.flights = s.cmd.flights ++ l) (hreplied : AllReplied l) (hcas : t.cas = s.cas)
    (hnone : s.executable op h = none) : t.executable op h = none := by
  have hindex : t.ownIndex = s.ownIndex := by unfold State.ownIndex; rw [hcas]
  have hhere : ∀ f, t.isHere f = s.isHere f := fun f => by unfold State.isHere; rw [hindex]
  have hbehind : ∀ f ∈ s.cmd.flights, t.isBehind f = s.isBehind f := fun f hf => by
    unfold State.isBehind
    rw [hflights, takeWhile_ne_append hf]
    simp only [hhere]
  unfold State.executable at hnone ⊢
  rw [List.find?_eq_none] at hnone ⊢
  intro f hf
  rw [hflights, List.mem_append] at hf
  rcases hf with hf | hf
  · rw [hhere, hbehind f hf]
    exact hnone f hf
  · obtain ⟨n, hn⟩ := hreplied f hf
    simp [Flight.is, hn]

end

/-! ### The fetch of a duplicate (R423) -/

section
variable {s : State} {op : Nat} {h : Hdr} {x : Cached}

theorem State.checkFirst_duplicate (htag : h.tag ≤ 255) (hopen : (s.session h.session).opened = true)
    (hfind : (s.session h.session).find h.seq = some x) : s.checkFirst op h = .duplicate x := by
  unfold State.checkFirst
  simp [Nat.not_lt.mpr htag, hopen, hfind]

theorem State.takeSlot_session (n : Fin 4) : s.takeSlot.session n = s.session n := rfl

/-- A fetch of a recorded seq: nothing while it cannot, stalled without room, and else the reply to a duplicate. -/
theorem State.fetchCmd_duplicate (hvia : h.via = .host) (htag : h.tag ≤ 255) (hopen : (s.session h.session).opened = true)
    (hfind : (s.session h.session).find h.seq = some x) :
    s.fetchCmd op h = if s.fetchable then if s.roomFor op h then s.takeSlot.replyDuplicate op h x else s.stall else s := by
  have hcheck : s.takeSlot.checkAndAdmit op h = s.takeSlot.replyDuplicate op h x := by
    unfold State.checkAndAdmit
    rw [State.checkFirst_duplicate (s := s.takeSlot) htag hopen hfind]
  unfold State.fetchCmd
  rw [hvia, hcheck]
  cases s.fetchable <;> cases s.roomFor op h <;> rfl

theorem State.stall_flights : s.stall.cmd.flights = s.cmd.flights ∧ s.stall.cmd.replies = s.cmd.replies := by
  unfold State.stall
  split
  · exact ⟨rfl, rfl⟩
  · exact ⟨(State.vector_replies 4).2, (State.vector_replies 4).1⟩

/-- A fetch of a recorded seq is work of the command block alone, and leaves behind the flights only some that have their final reply. -/
theorem State.fetchCmd_duplicate_work (hvia : h.via = .host) (htag : h.tag ≤ 255) (hopen : (s.session h.session).opened = true)
    (hfind : (s.session h.session).find h.seq = some x) :
    CmdWork s (s.fetchCmd op h) ∧ ∃ l, (s.fetchCmd op h).cmd.flights = s.cmd.flights ++ l ∧ AllReplied l := by
  rw [State.fetchCmd_duplicate hvia htag hopen hfind]
  split
  · split
    · exact ⟨State.takeSlot_cmdWork.trans (State.replyDuplicate_cmdWork op h x), State.replyDuplicate_flights x⟩
    · exact ⟨State.stall_cmdWork, [], by rw [State.stall_flights.1, List.append_nil], AllReplied.nil⟩
  · exact ⟨CmdWork.refl s, [], (List.append_nil _).symm, AllReplied.nil⟩

end

section
variable {s : State} {mir : Bool} {op : Nat} {h : Hdr} {body : State → Res} {x : Cached}

/-- The row of a command whose seq is recorded ends with its fetch. -/
theorem runCmdAs_duplicate (hvia : h.via = .host) (htag : h.tag ≤ 255) (hnone : (s.advance h.at_).executable op h = none)
    (hopen : (s.session h.session).opened = true) (hfind : (s.session h.session).find h.seq = some x) :
    runCmdAs mir op h body s = (s.advance h.at_).fetchCmd op h := by
  obtain ⟨hwork, l, hflights, hreplied⟩ := State.fetchCmd_duplicate_work (s := s.advance h.at_) (op := op) hvia htag hopen hfind
  have hstill : ((s.advance h.at_).fetchCmd op h).executable op h = none := State.executable_append hflights hreplied hwork.cas hnone
  unfold runCmdAs
  simp only [hnone, hstill]

/-- Only module time may change. -/
def clockAllow : Allow := ⟨fun _ => false, false, fun _ => false, true⟩

theorem State.fetchCmd_keepsParts : Keeps clockAllow s ((s.advance h.at_).fetchCmd op h) :=
  State.fetchCmd_keeps op h (State.advance_keeps h.at_ rfl (Keeps.refl _ s))

/-- With room, and both asking for a reply, the fetch of a recorded seq writes one reply to a duplicate. -/
theorem State.fetchCmd_duplicate_reply (hvia : h.via = .host) (htag : h.tag ≤ 255) (hopen : (s.session h.session).opened = true)
    (hfind : (s.session h.session).find h.seq = some x) (hfetchable : s.fetchable = true) (hroom : s.roomFor op h = true)
    (hreply : h.noReply = false) (hx : x.noReply = false) :
    ∃ r : Reply, (s.fetchCmd op h).cmd.replies = s.cmd.replies ++ [r] ∧ r.status = St.DUPLICATE ∧ r.seq = h.seq ∧ r.final = true ∧
      r.inProgress = x.reply.isNone ∧ r.result = s.duplicateResult x := by
  rw [State.fetchCmd_duplicate hvia htag hopen hfind, if_pos hfetchable, if_pos hroom,
    ← State.duplicateResult_congr (s := s) (t := s.takeSlot) rfl rfl]
  exact State.replyDuplicate_replies (s := s.takeSlot) hreply hx

/-- Where the original asked for no reply, its duplicate gets none. -/
theorem State.fetchCmd_duplicate_noReply (hvia : h.via = .host) (htag : h.tag ≤ 255) (hopen : (s.session h.session).opened = true)
    (hfind : (s.session h.session).find h.seq = some x) (hx : x.noReply = true) : (s.fetchCmd op h).cmd.replies = s.cmd.replies := by
  rw [State.fetchCmd_duplicate hvia htag hopen hfind, State.replyDuplicate_noReply hx]
  split
  · split
    · rfl
    · exact State.stall_flights.2
  · rfl

end

/-- Settles O51: the row ends with the fetch, which is the command block's own work and keeps every part. -/
theorem duplicateIsNotExecutedAgain : Obligations.DuplicateIsNotExecutedAgain := by
  intro c op h s x hc hvia htag hnone hopen hfind
  have hrow := commandOf_row c
  rw [hc] at hrow
  obtain ⟨mir, body, hexec, -⟩ := hrow
  have hwork : CmdWork (s.advance h.at_) ((s.advance h.at_).fetchCmd op h) :=
    (State.fetchCmd_duplicate_work (s := s.advance h.at_) hvia htag hopen hfind).1
  have hkept : Keeps clockAllow s ((s.advance h.at_).fetchCmd op h) := State.fetchCmd_keepsParts
  refine ⟨(s.advance h.at_).fetchCmd op h, (hexec s).trans (congrArg _ (runCmdAs_duplicate hvia htag hnone hopen hfind)),
    fun P => hkept.same_part rfl, fun a ha => hwork.regs a (by simpa using ha), fun off => hkept.hostByte_eq rfl rfl, hwork.pair, hwork.cas,
    hwork.sessions, hwork.locks, fun hfetchable hroom hreply hx => ?_, fun hx => ?_⟩
  · obtain ⟨r, hr, hstatus, hseq, hfinal, hprogress, hresult⟩ :=
      State.fetchCmd_duplicate_reply (s := s.advance h.at_) hvia htag hopen hfind hfetchable hroom hreply hx
    exact ⟨r, hr, hstatus, hseq, hfinal, hprogress, hresult.trans (State.duplicateResult_congr (t := s.advance h.at_) rfl rfl)⟩
  · exact State.fetchCmd_duplicate_noReply (s := s.advance h.at_) hvia htag hopen hfind hx

end Sys2Proof.Machine
end

section
/-! PROOFS. The statements of disturbance capture: its commands (O26), and its events with the write of its partition size (O27). -/

namespace Sys2Proof.Machine

/-! ### The bodies of the capture commands (R331, R337, R347, R354, R357, R359, R360) -/

section
variable {s : State} {u : Fin 4}

theorem bodyCapUnitProfile_idle {a : CapProfileArgs} (hidle : s.unitIdle a.unit.val = true) (hpre : a.pre < 2 ^ 20) (hpost : a.post < 2 ^ 32) :
    bodyCapUnitProfile a s = ok [] (s.setCapProfile a) := by
  have hrange : ¬ (decide (2 ^ 20 ≤ a.pre) || decide (2 ^ 32 ≤ a.post)) = true := by
    simp only [Bool.or_eq_true, decide_eq_true_eq]; omega
  exact (if_neg (by simp [hidle])).trans (if_neg hrange)

theorem bodyCapChannels_idle {l : List CapChannel} (hidle : s.unitIdle u.val = true) :
    bodyCapChannels u l s =
      ok [] (l.foldl (fun (t : State) c => t.setReg (Reg.CAP_U_CH u.val c.k.val) (putBit 31 c.en ||| put 17 0 c.src.toNat)) s) :=
  if_neg (by simp [hidle])

theorem bodyCapSeqRaw_idle {l : List CapSeqWord} (hidle : s.unitIdle u.val = true) :
    bodyCapSeqRaw u l s =
      ok [] (l.foldl (fun (t : State) w => t.setReg (seqReg u.val w.st.val w.slot.val) (w.val &&& seqMask w.slot.val)) s) :=
  if_neg (by simp [hidle])

theorem bodyCapArm_armed {trunc : Bool} {k b : Nat} {t : State} (harm : s.arm u.val trunc = (.ok (k, b), t)) :
    ∃ words, bodyCapArm u trunc s = ok words t :=
  ⟨[word k, word b, word (b / 2 ^ 32)], by rw [bodyCapArm, harm]⟩

theorem bodyCapStop_triggered {keep : Bool} (hst : (s.capUnit u.val).st = .triggered) : bodyCapStop u keep s = ok [] (s.beginClose u.val 4) := by
  rw [bodyCapStop, hst]

theorem bodyCapStop_untriggered {keep : Bool} (hst : (s.capUnit u.val).st = .filling ∨ (s.capUnit u.val).st = .armed) :
    bodyCapStop u keep s = ok [] (if keep then s.keepRing u.val else s.disarm u.val) := by
  obtain hst | hst := hst <;> rw [bodyCapStop, hst]

theorem bodyCapForce_untriggered (hst : (s.capUnit u.val).st = .filling ∨ (s.capUnit u.val).st = .armed) :
    bodyCapForce u s = ok [] (s.updUnit u.val (fun x => { x with force := true })) := by
  obtain hst | hst := hst <;> rw [bodyCapForce, hst]

/-- A closed record is copied, and its status says whether it overflowed. -/
theorem bodyCapRead_closed {via : Via} {buf len : Nat} {a : CapReadArgs} {r : CapRec} (hrec : s.capRec a.number.val = some r)
    (hclosed : r.closed = true) (hlen : 512 ≤ len) (hfirst : a.first ≤ r.rows.length) :
    bodyCapRead via buf len a s = .done (if r.flags % 2 = 1 then St.CAP_OVERFLOW else St.OK) (s.copyRecord via buf len r a).1
      (s.copyRecord via buf len r a).2 := by
  have hrange : ¬ (decide (len < 512) || decide (r.rows.length < a.first)) = true := by
    simp only [Bool.or_eq_true, decide_eq_true_eq]; omega
  simp only [bodyCapRead, hrec, hclosed, Bool.not_true, Bool.false_eq_true, if_false, hrange, beq_iff_eq]

theorem bodyCapFree_closed {k : Fin 256} {r : CapRec} (hrec : s.capRec k.val = some r) (hclosed : r.closed = true) (hfree : r.locked = false) :
    bodyCapFree k s = ok [] (s.dropRec k.val) := by
  simp only [bodyCapFree, hrec, hclosed, hfree, Bool.not_true, Bool.false_eq_true, if_false]

theorem bodyCapLock_held {k : Fin 256} {b : Bool} {r : CapRec} (hrec : s.capRec k.val = some r) :
    bodyCapLock k b s = ok [] (s.updRec k.val (fun r => { r with locked := b })) := by
  simp only [bodyCapLock, hrec]

theorem bodyCapTune_inRange {a : CapTuneArgs} (hwait : outside 1 1000 a.rowWait = false) (hpart : outside 0 8 a.partGib = false) :
    bodyCapTune a s = ok [] (s.setCapTune a) :=
  if_neg (by simp [hwait, hpart])

end

/-- Both statuses that CAP_READ ends in have taken effect. -/
theorem tookEffect_capRead (c : Prop) [Decidable c] : tookEffect (if c then St.CAP_OVERFLOW else St.OK) = true := by
  split <;> rfl

/-- CAP_READ at its turn: the copy, sent to the host, under the status that the record's overflow gives. -/
theorem capRead_closed {h : Hdr} {a : CapReadArgs} {r : CapRec} {n s : State} (hready : Ready 0x0B07 h s) (hturn : n = s.turn 0x0B07 h)
    (hrec : n.capRec a.number.val = some r) (hclosed : r.closed = true) (hlen : 512 ≤ h.bufLen) (hfirst : a.first ≤ r.rows.length)
    (hpass : (n.copyRecord h.via h.bufAddr h.bufLen r a).2.chunksPass h.via)
    (hlocks : n.breaksLock ((n.copyRecord h.via h.bufAddr h.bufLen r a).2.chunksGone h.via) = false) :
    exec (.capRead h a) s = .next ((s.returned 0x0B07 h ((n.copyRecord h.via h.bufAddr h.bufLen r a).2.chunksGone h.via)).complete h.session h.seq
      (if r.flags % 2 = 1 then St.CAP_OVERFLOW else St.OK) (n.copyRecord h.via h.bufAddr h.bufLen r a).1) := by
  subst hturn
  have hbody : (bodyCapRead h.via h.bufAddr h.bufLen a (s.turn 0x0B07 h)).carried h.via = _ :=
    (congrArg (Res.carried h.via) (bodyCapRead_closed hrec hclosed hlen hfirst)).trans (Res.carried_done hpass (tookEffect_capRead _))
  exact congrArg Host.Outcome.next (runCmdAs_done hready hbody (Or.inr (Or.inr (Or.inr hlocks))))

/-- Settles O26, command by command: each body ends in its effect under the stated conditions. -/
theorem captureCommandsComplete : Obligations.CaptureCommandsComplete := by
  refine ⟨fun h => ?status, fun h a => ?profile, fun h u l => ?channels, fun h u t k b => ?arm, fun h u keep => ?stopTriggered,
    fun h u keep => ?stopUntriggered, fun h u => ?force, fun h f => ?list, fun h a r n s => ?read, fun h k r => ?free, fun h k b r => ?lock,
    fun h u l => ?seqRaw, fun h u tr t k b => ?armX, fun h a => ?tune⟩
  case status => exact reads_of (fun _ => rfl) (fun _ => ⟨_, rfl⟩)
  case profile => exact performs_of (fun _ => rfl) (fun _ ⟨hidle, hpre, hpost⟩ => ⟨[], bodyCapUnitProfile_idle hidle hpre hpost⟩)
  case channels => exact performs_of (fun _ => rfl) (fun _ hidle => ⟨[], bodyCapChannels_idle hidle⟩)
  case arm => exact performs_of (fun _ => rfl) (fun _ harm => bodyCapArm_armed harm)
  case stopTriggered => exact performs_of (fun _ => rfl) (fun _ hst => ⟨[], bodyCapStop_triggered hst⟩)
  case stopUntriggered => exact performs_of (fun _ => rfl) (fun _ hst => ⟨[], bodyCapStop_untriggered hst⟩)
  case force => exact performs_of (fun _ => rfl) (fun _ hst => ⟨[], bodyCapForce_untriggered hst⟩)
  case list => exact reads_of (fun _ => rfl) (fun _ => ⟨_, rfl⟩)
  case read => exact capRead_closed
  case free => exact performs_of (fun _ => rfl) (fun _ ⟨hrec, hclosed, hfree⟩ => ⟨[], bodyCapFree_closed hrec hclosed hfree⟩)
  case lock => exact performs_of (fun _ => rfl) (fun _ hrec => ⟨[], bodyCapLock_held hrec⟩)
  case seqRaw => exact performs_of (fun _ => rfl) (fun _ hidle => ⟨[], bodyCapSeqRaw_idle hidle⟩)
  case armX => exact performs_of (fun _ => rfl) (fun _ harm => bodyCapArm_armed harm)
  case tune => exact performs_of (fun _ => rfl) (fun _ ⟨hwait, hpart⟩ => ⟨[], bodyCapTune_inRange hwait hpart⟩)

/-! ### Rows, events and drains (R334, R339, R340, R343) -/

section
variable {s : State} {a : Instant} {u : Fin 4} {rest : List CapIn}

theorem State.advance_capUnit (s : State) (t : Instant) (n : Nat) : (s.advance t).capUnit n = s.capUnit n := rfl

theorem captureRowClose_raw {m : SvSample} (hruns : s.runs Isle.capture = true)
    (holdest : takeFirst CapIn.isElem s.capIn = some (.raw m, rest)) :
    exec (.captureRowClose a) s = .next (({ (s.advance a) with capIn := rest }).capRaw m).closeAll := by
  change execCaptureRowClose a s = _
  simp only [execCaptureRowClose, State.advance_runs, State.advance_capIn, hruns, holdest, Bool.not_true, Bool.false_eq_true, if_false]

theorem captureRowClose_est {v : ChanValue} (hruns : s.runs Isle.capture = true)
    (holdest : takeFirst CapIn.isElem s.capIn = some (.est v, rest)) :
    exec (.captureRowClose a) s = .next (({ (s.advance a) with capIn := rest }).capEstimate v).closeAll := by
  change execCaptureRowClose a s = _
  simp only [execCaptureRowClose, State.advance_runs, State.advance_capIn, hruns, holdest, Bool.not_true, Bool.false_eq_true, if_false]

theorem captureRowWaitExpiry_active (hactive : (s.capUnit u.val).st ≠ .idle) (hruns : s.runs Isle.capture = true) :
    exec (.captureRowWaitExpiry u) s =
      .next (((s.advance (rowInstant (s.capUnit u.val).next (s.capUnit u.val).rate + s.rowWait)).closeRow u.val).closeAll) := by
  have hrunsThen (t : Instant) : (s.advance t).runs Isle.capture = true := (State.advance_runs s t _).trans hruns
  exact (if_neg hactive).trans (congrArg Host.Outcome.next (if_pos (hrunsThen _)))

theorem captureEventQueue_oldest {m : CapIn} {e : CapEvt} (hruns : s.runs Isle.capture = true)
    (holdest : takeFirst (fun m => !m.isElem) s.capIn = some (m, rest)) (hevt : m.evt = some e) :
    exec (.captureEventQueue a) s = .next (({ (s.advance a) with capIn := rest }).queueEvt e) := by
  change execCaptureEventQueue a s = _
  simp only [execCaptureEventQueue, State.advance_runs, State.advance_capIn, hruns, holdest, hevt, Bool.not_true, Bool.false_eq_true, if_false]

theorem recordDrainComplete_closing (hst : (s.capUnit u.val).st = .closing) (hruns : s.runs Isle.capture = true) :
    exec (.recordDrainComplete a u) s = .next ((s.advance a).drained u.val) :=
  congrArg Host.Outcome.next (if_pos (by simp [State.advance_capUnit, State.advance_runs, hst, hruns]))

end

/-- Settles O27, event by event; the write of the partition size has no condition. -/
theorem captureEventsComplete : Obligations.CaptureEventsComplete :=
  ⟨fun _ _ _ => rfl,
    fun _ _ _ _ => captureRowClose_raw,
    fun _ _ _ _ => captureRowClose_est,
    fun _ _ => captureRowWaitExpiry_active,
    fun _ _ _ _ _ => captureEventQueue_oldest,
    fun _ _ _ => recordDrainComplete_closing⟩

end Sys2Proof.Machine
end

section
/-! PROOFS. The statements of Sillage, the event record: its commands (O28) and its events (O29). -/

namespace Sys2Proof.Machine

/-! ### The bodies of Sillage's commands (R363, R366, R379 to R382) -/

section
variable {s : State}

theorem bodyEvrClassProfile_inRange {p : EvrProfile} (hmin : 1 ≤ p.interval) (hmax : p.interval ≤ 3600) :
    bodyEvrClassProfile p s = ok [] (p.classes.foldl (fun (t : State) c =>
      t.setClass c.val (setFld (t.reg (Reg.EVR_CLASS_CTL c.val)) 11 0 p.interval) p.base) s) :=
  if_neg (by simp only [Bool.or_eq_true, decide_eq_true_eq]; omega)

theorem bodyEvrClassRaw_inRange {l : List EvrClassRaw} (hrange : ∀ a ∈ l, fld a.ctl 11 0 ≤ 3600) :
    bodyEvrClassRaw l s = ok [] (l.foldl (fun (t : State) a => t.setClass a.cls.val a.ctl a.base) s) :=
  if_neg (by simpa using hrange)

/-- A range with a record of its own is copied with the blocks over it, as far as the buffer holds them. -/
theorem bodyEvrRead_found {via : Via} {buf len : Nat} {a : EvrReadArgs} {recs : List EvrStored} {blks : List EvrBlock}
    (hrecs : recs = (sortBy (fun x y => decide (x.item.seq ≤ y.item.seq)) (((s.evr.pinned ++ s.evr.circ ++ s.evr.refuge).map (·.2)).filter
        (fun x => decide (a.first ≤ x.item.seq) && decide (x.item.seq ≤ a.last)))).take (len / 256))
    (hblks : blks = (s.evr.blocks.filter (fun b => decide (b.first ≤ a.last) && decide (a.first < b.first + b.n))).take (len / 256 - recs.length))
    (hsome : recs ≠ []) :
    bodyEvrRead via buf len a s = ok [word recs.length, word blks.length]
      ((s.takePoison 5).2.hostWrite via buf (wordsLE (recs.flatMap (fun x => x.item.bytes) ++ blks.flatMap (·.bytes)))) := by
  subst hblks
  subst hrecs
  exact if_neg (by simpa using hsome)

theorem bodyEvrPubkey_signing (hused : (s.kslot (s.rf Reg.EVR_CTL 23 16)).st ≠ .empty) (hcls : (s.kslot (s.rf Reg.EVR_CTL 23 16)).cls = 3) :
    ∃ words, bodyEvrPubkey s = ok words s :=
  ⟨_, if_neg (by simp [hused, hcls])⟩

/-- A nonce that is the one given, in time, with a key that may be used and the tag it gives, clears the log. -/
theorem bodyEvrClear_accepted {k tag : List Byte} {e : Nonce} (hmode : s.refugeMode = false) (hlost : s.logLost = false)
    (hnonce : s.evr.nonce = some e) (hbytes : e.bytes = k) (hdue : s.up < e.due) (hkey : (s.useKeySlot (s.rf Reg.EVR_CTL 15 8) [2]).1 = 0)
    (htag : tag = (Config.hmacSha256 (s.keyBytes (s.rf Reg.EVR_CTL 15 8)) (k ++ s.seqLast)).take 16) :
    bodyEvrClear k tag s =
      ok [] (((s.useKeySlot (s.rf Reg.EVR_CTL 15 8) [2]).2.setEvr (fun x => { x with nonce := none })).clearLog k) := by
  have hopen : ¬ (s.refugeMode || s.logLost) = true := by simp [hmode, hlost]
  have hvalid : ¬ (e.bytes != k || decide (e.due ≤ s.up)) = true := by simp [hbytes, hdue]
  have hgenuine : ¬ (tag != (Config.hmacSha256 (s.keyBytes (s.rf Reg.EVR_CTL 15 8)) (k ++ s.seqLast)).take 16) = true := by simp [htag]
  simp only [bodyEvrClear, hopen, if_false, hnonce, hvalid, hkey, ne_eq, not_true_eq_false, hgenuine, Bool.false_eq_true]

theorem bodyEvrHostEvent_ofHost {a : EvrHostArgs} (hcls : 48 ≤ a.cls.val) :
    bodyEvrHostEvent a s = ok [] (s.accumulate ⟨a.cls.val, if F32.isFinite a.qty then F32.toRat a.qty else Config.infQuantity, s.now, s.time.epoch,
      false, s.degraded, a.detail.toList⟩) :=
  if_neg (Nat.not_lt.mpr hcls)

end

/-- Settles O28, command by command: each body ends in its effect under the stated conditions. -/
theorem sillageCommandsComplete : Obligations.SillageCommandsComplete := by
  refine ⟨fun h => ?status, fun h p => ?classProfile, fun h a recs blks => ?read, fun h => ?pubkey, fun h => ?sealLog, fun h => ?clearNonce,
    fun h k tag e => ?clear, fun h a => ?hostEvent, fun h l => ?classRaw⟩
  case status => exact reads_of (fun _ => rfl) (fun _ => ⟨_, rfl⟩)
  case classProfile => exact performs_of (fun _ => rfl) (fun _ ⟨hmin, hmax⟩ => ⟨[], bodyEvrClassProfile_inRange hmin hmax⟩)
  case read => exact sends_of (fun _ => rfl) (fun _ ⟨hrecs, hblks, hsome⟩ => ⟨_, bodyEvrRead_found hrecs hblks hsome⟩)
  case pubkey => exact performs_of (fun _ => rfl) (fun _ ⟨hused, hcls⟩ => bodyEvrPubkey_signing hused hcls)
  case sealLog => exact performs_of (fun _ => rfl) (fun _ _ => ⟨[], rfl⟩)
  case clearNonce => exact performs_of (fun _ => rfl) (fun n _ => ⟨wordsLE (padTo 16 (n.random 16).1), rfl⟩)
  case clear =>
    refine performs_of (fun _ => rfl) ?_
    rintro n ⟨hmode, hlost, hnonce, hbytes, hdue, hkey, htag⟩
    exact ⟨[], bodyEvrClear_accepted hmode hlost hnonce hbytes hdue hkey htag⟩
  case hostEvent => exact performs_of (fun _ => rfl) (fun _ hcls => ⟨[], bodyEvrHostEvent_ofHost hcls⟩)
  case classRaw => exact performs_of (fun _ => rfl) (fun _ hrange => ⟨[], bodyEvrClassRaw_inRange hrange⟩)

/-! ### Events, accumulations, records, blocks and nonces (R363 to R365, R367, R374, R379) -/

section
variable {s : State} {c : Fin 64}

theorem eventAccumulate_oldest {a : Instant} {m : EventMsg} {rest : List EventMsg} (holdest : s.events = m :: rest)
    (hruns : s.runs Isle.sillage = true) :
    exec (.eventAccumulate a) s = .next (({ (s.advance a) with events := rest } : State).accumulate m) := by
  change execEventAccumulate a s = _
  simp only [execEventAccumulate, State.advance_events, State.advance_runs, holdest, hruns, if_true]

theorem accumulationIntervalEnd_open {x : Accum} (hopen : lookup s.evr.open_ c.val = some x) (hruns : s.runs Isle.sillage = true) :
    exec (.accumulationIntervalEnd c) s = .next ((s.advance (x.start + s.classInterval c.val)).closeClass c.val false) := by
  have hrunsThen (t : Instant) : (s.advance t).runs Isle.sillage = true := (State.advance_runs s t _).trans hruns
  change execAccumulationIntervalEnd c s = _
  rw [execAccumulationIntervalEnd, hopen]
  exact congrArg Host.Outcome.next (if_pos (hrunsThen _))

theorem immediateHoldoffEnd_due {u : Nat} (hdue : s.holdoffEnd c.val = some u) (hruns : s.runs Isle.sillage = true)
    (himm : classImm c.val = true) : exec (.immediateHoldoffEnd c) s = .next ((s.advanceUp u).closeClass c.val false) := by
  change execImmediateHoldoffEnd c s = _
  simp only [execImmediateHoldoffEnd, hdue, State.advanceUp_runs, hruns, himm, Bool.and_self, if_true]

theorem recordMramWrite_running {a : Instant} {r1 r2 : Bool} (hruns : s.runs Isle.sillage = true) :
    exec (.recordMramWrite a r1 r2) s = .next ((s.advance a).writeNext r1 r2) :=
  congrArg Host.Outcome.next (if_pos ((State.advance_runs s a _).trans hruns))

theorem signatureBlockWrite_running {w : BlockWrite} (hruns : s.runs Isle.sillage = true) :
    exec (.signatureBlockWrite w) s = .next ((s.advance w.at_).writeDue w.real1 w.real2) :=
  congrArg Host.Outcome.next (if_pos ((State.advance_runs s w.at_ _).trans hruns))

theorem evrNonceExpiry_given {e : Nonce} (hnonce : s.evr.nonce = some e) :
    exec .evrNonceExpiry s = .next ((s.advanceUp e.due).setEvr (fun x => { x with nonce := none })) := by
  change execEvrNonceExpiry s = _
  rw [execEvrNonceExpiry, hnonce]

end

/-- Settles O29, event by event; the read of EVR_SEQ_LO has no condition. -/
theorem sillageEventsComplete : Obligations.SillageEventsComplete :=
  ⟨fun _ _ _ _ => eventAccumulate_oldest,
    fun _ _ _ => accumulationIntervalEnd_open,
    fun _ _ _ => immediateHoldoffEnd_due,
    fun _ _ _ _ => recordMramWrite_running,
    fun _ _ => signatureBlockWrite_running,
    fun _ _ => evrNonceExpiry_given,
    fun _ _ => rfl⟩

end Sys2Proof.Machine
end

section
/-! PROOFS. The statements of Flacon, the key store: its commands (O30) and its events (O31). -/

namespace Sys2Proof.Machine

/-! ### The bodies of the key commands (R389 to R391, R395, R396, R402 to R404, R406) -/

section
variable {s : State}

/-- Outside RETIRED a key command is its own body (R405). -/
theorem unlessRetired_done {body : State → Res} {r : Res} (hlc : s.key.lc ≠ .retired) (hbody : body s = r) : unlessRetired body s = r :=
  (if_neg (by simpa using hlc)).trans hbody

theorem bodyKeyInfo_status {k : Fin 256} :
    ∃ words, bodyKeyInfo k s = .done (if (s.kslot k.val).st = .orphaned then St.KEY_ORPHANED else St.OK) words s := by
  simp only [bodyKeyInfo, beq_iff_eq]
  exact ⟨_, rfl⟩

theorem bodyKeyGenerate_free {a : KeyGenArgs} (hslot : s.createErr a.slot.val = 0) (hlen : lengthFits a.cls.val a.bits = true)
    (hrng : s.key.rngOk = true) :
    ∃ words, bodyKeyGenerate a s = ok words ((s.random (a.bits / 8)).2.createKey a.slot.val
      ⟨a.cls.val, padTo (a.bits / 8) (s.random (a.bits / 8)).1, a.uses, a.expire, a.cascade, a.exportNever, 1, none⟩) :=
  ⟨_, (if_neg (not_not_intro hslot)).trans <| (if_neg (by simp [hlen])).trans (if_neg (by simp [hrng]))⟩

theorem bodyKeyImport_unwrapped {a : KeyImportArgs} {w : Unwrapped} (hslot : s.createErr a.slot.val = 0)
    (hkey : (s.unwrap a.kek.val a.wrapped).1 = .ok w) :
    bodyKeyImport a s = ok [] ((s.unwrap a.kek.val a.wrapped).2.createKey a.slot.val ⟨w.cls, w.key, w.uses, decide (w.flags / 4 % 2 = 1),
      decide (w.flags % 2 = 1), decide (w.flags / 2 % 2 = 1), 3, some a.kek.val⟩) := by
  refine (if_neg (not_not_intro hslot)).trans ?_
  rw [hkey]

theorem bodyKeyDerive_derivable {a : KeyDeriveArgs} (hslot : s.createErr a.slot.val = 0) (hlabel : a.label.length ≤ 64)
    (hcontext : a.context.length ≤ 64) (hlen : lengthFits a.cls.val a.bits = true) (hcls : a.cls.val ≠ 3)
    (huse : (s.useKeySlot a.parent.val [5]).1 = 0) :
    bodyKeyDerive a s = ok [] ((s.useKeySlot a.parent.val [5]).2.createKey a.slot.val ⟨a.cls.val,
      deriveKey (s.keyBytes a.parent.val) a.label a.context a.bits, a.uses, a.expire, a.cascade, a.exportNever, 2, some a.parent.val⟩) :=
  (if_neg (not_not_intro hslot)).trans <| (if_neg (by simp [hlabel, hcontext, hlen])).trans <| (if_neg hcls).trans (if_neg (not_not_intro huse))

/-- Where a slot takes a replacement: not slot 0, not EMPTY, with none pending, and room among the pending replacements. -/
structure State.TakesReplacement (s : State) (n : Nat) : Prop where
  slot : n ≠ 0
  used : (s.kslot n).st ≠ .empty
  idle : s.shadow n = none
  room : s.key.shadows.length < 8

/-- What a replacement of a slot puts aside. -/
def KeyReplaceArgs.shadowOf (a : KeyReplaceArgs) (h : Hdr) (s : State) (x : List Byte × Nat × Option Nat) (staged : Option Nat) : KeyShadow :=
  ⟨a.slot.val, a.txn, x.1, a.uses, x.2.1, x.2.2, s.key.lc == .service, staged, h.session, h.seq, s.kslot a.slot.val⟩

section
variable {h : Hdr} {a : KeyReplaceArgs} {key : List Byte} {o : Nat} {p : Option Nat}

/-- A generated key is staged for 60 s. -/
theorem bodyKeyReplace_staged (hgen : a.source = .generate) (htakes : s.TakesReplacement a.slot.val)
    (hkey : (s.newKey (s.kslot a.slot.val) a.source).1 = .ok (key, o, p)) :
    ∃ words, bodyKeyReplace h a s = ok words ((s.newKey (s.kslot a.slot.val) a.source).2.setKeys (fun k => { k with
      shadows := k.shadows ++ [a.shadowOf h s (key, o, p) (some (s.up + sec 60))] })) := by
  obtain ⟨hslot, hused, hidle, hroom⟩ := htakes
  have hbusy : ¬ ((s.shadow a.slot.val).isSome || decide (8 ≤ s.key.shadows.length)) = true := by simp [hidle, hroom]
  have hsign : ¬ ((decide ((s.kslot a.slot.val).cls = 3)) && a.source != .generate) = true := by simp [hgen]
  refine ⟨wordsLE (checkValue (s.kslot a.slot.val).cls key) ++ (if (s.kslot a.slot.val).cls = 3 then wordsLE (publicKey key) else []),
    (if_neg hslot).trans <| (if_neg (by simpa using hused)).trans <| (if_neg hbusy).trans <| (if_neg hsign).trans ?_⟩
  dsimp only
  rw [hkey]
  exact if_pos hgen

/-- Another key goes to its commit. -/
theorem bodyKeyReplace_commits (hgen : a.source ≠ .generate) (htakes : s.TakesReplacement a.slot.val) (hcls : (s.kslot a.slot.val).cls ≠ 3)
    (hkey : (s.newKey (s.kslot a.slot.val) a.source).1 = .ok (key, o, p)) (hkcv : checkValue (s.kslot a.slot.val).cls key = a.kcv) :
    bodyKeyReplace h a s = .waiting ((s.newKey (s.kslot a.slot.val) a.source).2.setKeys (fun k => { k with
      shadows := k.shadows ++ [a.shadowOf h s (key, o, p) none] })) := by
  obtain ⟨hslot, hused, hidle, hroom⟩ := htakes
  have hbusy : ¬ ((s.shadow a.slot.val).isSome || decide (8 ≤ s.key.shadows.length)) = true := by simp [hidle, hroom]
  have hsign : ¬ ((decide ((s.kslot a.slot.val).cls = 3)) && a.source != .generate) = true := by simp [hcls]
  refine (if_neg hslot).trans <| (if_neg (by simpa using hused)).trans <| (if_neg hbusy).trans <| (if_neg hsign).trans ?_
  dsimp only
  rw [hkey]
  exact (if_neg hgen).trans (if_neg (by simp [hkcv]))

end

theorem bodyKeyReplaceCommit_staged {h : Hdr} {k : Fin 256} {c : List Byte} {x : KeyShadow} {u : Nat} (hshadow : s.shadow k.val = some x)
    (hstaged : x.staged = some u) (hdue : s.up < u) (hkcv : checkValue (x.base (s.kslot k.val)).cls x.key = c) :
    bodyKeyReplaceCommit h k c s = .waiting ((s.dropShadow k.val).setKeys (fun y => { y with
      shadows := y.shadows ++ [{ x with staged := none, session := h.session, seq := h.seq }] })) := by
  have hgood : ¬ (checkValue (x.base (s.kslot k.val)).cls x.key != c) = true := by simp [hkcv]
  rw [bodyKeyReplaceCommit, hshadow]
  dsimp only
  rw [hstaged]
  exact (if_neg (Nat.not_le.mpr hdue)).trans (if_neg hgood)

theorem bodyKeyDestroy_used {k : Fin 256} (hslot : k.val ≠ 0) (hused : (s.kslot k.val).st ≠ .empty) :
    bodyKeyDestroy k s = ok [] (s.destroyKey k.val) :=
  (if_neg hslot).trans (if_neg (by simpa using hused))

theorem bodyKeyExport_exportable {k e : Fin 256} (hused : (s.kslot k.val).st ≠ .empty) (hexport : (s.kslot k.val).exportNever = false)
    (huse : (s.useKeySlot e.val [4]).1 = 0) : ∃ words, bodyKeyExport k e s = ok words (s.useKeySlot e.val [4]).2 :=
  ⟨_, (if_neg (by simpa using hused)).trans <| (if_neg (by simp [hexport])).trans (if_neg (not_not_intro huse))⟩

theorem bodyKeyLifecycle_free {goal : Lifecycle} {k tag : List Byte} (hlisted : transition (s.rb Reg.KEY_CTL 16) s.key.lc goal = some false) :
    bodyKeyLifecycle goal k tag s = ok [] (s.changeLifecycle goal) := by
  rw [bodyKeyLifecycle, hlisted]

/-- A transition that needs a tag is made with a nonce that is the one given, in time, with a key that may be used and the tag it gives. -/
theorem bodyKeyLifecycle_tagged {goal : Lifecycle} {k tag : List Byte} {e : Nonce}
    (hlisted : transition (s.rb Reg.KEY_CTL 16) s.key.lc goal = some true) (hauth : s.rb Reg.KEY_CTL 16 = true) (hnonce : s.key.nonce = some e)
    (hbytes : e.bytes = k) (hdue : s.up < e.due) (huse : (s.useKeySlot (s.rf Reg.KEY_CTL 15 8) [2]).1 = 0)
    (htag : tag = (Config.hmacSha256 (s.keyBytes (s.rf Reg.KEY_CTL 15 8)) (k ++ padTo 16 Config.uid ++ le 1 goal.code)).take 16) :
    bodyKeyLifecycle goal k tag s =
      ok [] (((s.useKeySlot (s.rf Reg.KEY_CTL 15 8) [2]).2.setKeys (fun x => { x with nonce := none })).changeLifecycle goal) := by
  have hvalid : ¬ (e.bytes != k || decide (e.due ≤ s.up)) = true := by simp [hbytes, hdue]
  have hgenuine : ¬ (tag != (Config.hmacSha256 (s.keyBytes (s.rf Reg.KEY_CTL 15 8)) (k ++ padTo 16 Config.uid ++ le 1 goal.code)).take 16) = true := by
    simp [htag]
  rw [bodyKeyLifecycle, hlisted]
  refine (if_neg (by simp [hauth])).trans ?_
  rw [hnonce]
  exact (if_neg hvalid).trans <| (if_neg (not_not_intro huse)).trans (if_neg hgenuine)

theorem bodyKeyAttest_used {k : Fin 256} {c : List Byte} (hused : (s.kslot k.val).st ≠ .empty) (huse : (s.useKeySlot 0 [3]).1 = 0) :
    ∃ words, bodyKeyAttest k c s = ok words (s.useKeySlot 0 [3]).2 :=
  ⟨_, (if_neg (by simpa using hused)).trans (if_neg (not_not_intro huse))⟩

theorem bodyKeyImportClear_allowed {a : KeyClearArgs} (hallowed : s.clearAllowed = true) (hslot : s.createErr a.slot.val = 0)
    (hcls : a.cls.val ≠ 3) (hlen : lengthFits a.cls.val (8 * a.key.length) = true) :
    ∃ words, bodyKeyImportClear a s =
      ok words (s.createKey a.slot.val ⟨a.cls.val, a.key, a.uses, a.expire, a.cascade, a.exportNever, 4, none⟩) :=
  ⟨_, (if_neg (by simp [hallowed])).trans <| (if_neg (not_not_intro hslot)).trans <| (if_neg hcls).trans (if_neg (by simp [hlen]))⟩

theorem bodyKeyAttrRaw_lowering {a : KeyAttrArgs} (hslot : a.slot.val = 0 → a.uses = none) (hused : (s.kslot a.slot.val).st ≠ .empty)
    (huses : ∀ u, a.uses = some u → u.toNat ≤ (s.kslot a.slot.val).uses.toNat) :
    bodyKeyAttrRaw a s = ok [] (s.updKslot a.slot.val (fun x => { x with
      uses := a.uses.getD x.uses, exportNever := x.exportNever || a.setExport })) := by
  refine (if_neg (by simpa using hslot)).trans <| (if_neg (by simpa using hused)).trans (if_neg ?_)
  split
  next u hgiven => simpa using huses u hgiven
  next => decide

theorem bodyKeyTune_admitted {a : KeyTuneArgs} (hperiod : outside 1 600 a.periodDs = false)
    (hauth : a.authSlot ≠ none ∨ a.authEn ≠ none → (s.setKeyTune a).rb Reg.KEY_CTL 16 = true →
      (s.kslot ((s.setKeyTune a).rf Reg.KEY_CTL 15 8)).st ≠ .empty ∧ (s.kslot ((s.setKeyTune a).rf Reg.KEY_CTL 15 8)).cls = 2) :
    bodyKeyTune a s = ok [] (s.setKeyTune a) := by
  refine (if_neg (by simp [hperiod])).trans (if_neg fun hbad => ?_)
  simp only [Bool.and_eq_true, Bool.or_eq_true, Option.isSome_iff_ne_none] at hbad
  obtain ⟨⟨hgiven, hon⟩, hunfit⟩ := hbad
  obtain ⟨hused, hcls⟩ := hauth hgiven hon
  simp [hused, hcls] at hunfit

end

/-- The key store at a command's turn is the module's. -/
theorem State.turn_key {s : State} {op : Nat} {h : Hdr} : (s.turn op h).key = s.key := by
  unfold State.turn
  cases s.chosenFor op h <;> rfl

theorem State.turn_kslot {s : State} {op : Nat} {h : Hdr} {n : Nat} : (s.turn op h).kslot n = s.kslot n := by
  rw [State.kslot, State.turn_key, ← State.kslot]

/-- KEY_INFO at its turn: nothing changes, and an ORPHANED slot's attributes come with KEY_ORPHANED (R400). -/
theorem keyInfo_ready {h : Hdr} {k : Fin 256} {s : State} (hready : Ready 0x0D01 h s) (hlc : s.key.lc ≠ .retired) :
    ∃ words, exec (.keyInfo h k) s = .next ((s.advance h.at_).complete h.session h.seq
      (if (s.kslot k.val).st = .orphaned then St.KEY_ORPHANED else St.OK) words) := by
  obtain ⟨words, hinfo⟩ := bodyKeyInfo_status (s := s.turn 0x0D01 h) (k := k)
  rw [State.turn_kslot] at hinfo
  have hdone := runCmdAs_done (mir := mirroredOp 0x0D01) hready (unlessRetired_done (State.turn_key (s := s) ▸ hlc) hinfo)
    (Or.inr (Or.inr (Or.inr (State.breaksLock_same rfl))))
  exact ⟨words, congrArg Host.Outcome.next (State.returned_turn (s := s) ▸ hdone)⟩

/-- Settles O30, command by command: each body ends in its effect under the stated conditions. -/
theorem keyCommandsComplete : Obligations.KeyCommandsComplete := by
  refine ⟨fun h => ?status, fun h k s => ?info, fun h a => ?generate, fun h a w => ?importWrapped, fun h a => ?derive,
    fun h a key o p hgen => ?replaceStaged, fun h a key o p hgen => ?replaceCommits, fun h k c x u => ?replaceCommit, fun h k => ?destroy,
    fun h k e => ?exportKey, fun h => ?lcNonce, fun h goal k tag => ?lifecycleFree, fun h goal k tag e => ?lifecycleTagged, fun h k c => ?attest,
    fun h => ?txnResult, fun h a => ?importClear, fun h a => ?attrRaw, fun h a => ?tune⟩
  case status => exact reads_of (fun _ => rfl) (fun _ => ⟨_, rfl⟩)
  case info => exact keyInfo_ready
  case generate =>
    refine performs_of (fun _ => rfl) ?_
    rintro n ⟨hlc, hslot, hlen, hrng⟩
    exact (bodyKeyGenerate_free hslot hlen hrng).imp fun _ => unlessRetired_done hlc
  case importWrapped =>
    refine performs_of (fun _ => rfl) ?_
    rintro n ⟨hlc, hslot, hkey⟩
    exact ⟨[], unlessRetired_done hlc (bodyKeyImport_unwrapped hslot hkey)⟩
  case derive =>
    refine performs_of (fun _ => rfl) ?_
    rintro n ⟨hlc, hslot, hlabel, hcontext, hlen, hcls, huse⟩
    exact ⟨[], unlessRetired_done hlc (bodyKeyDerive_derivable hslot hlabel hcontext hlen hcls huse)⟩
  case replaceStaged =>
    refine performs_of (fun _ => rfl) ?_
    rintro n ⟨hlc, hslot, hused, hidle, hroom, hkey⟩
    exact (bodyKeyReplace_staged hgen ⟨hslot, hused, hidle, hroom⟩ hkey).imp fun _ => unlessRetired_done hlc
  case replaceCommits =>
    refine queues_of (fun _ => rfl) ?_
    rintro n ⟨hlc, hslot, hused, hidle, hroom, hcls, hkey, hkcv⟩
    exact unlessRetired_done hlc (bodyKeyReplace_commits hgen ⟨hslot, hused, hidle, hroom⟩ hcls hkey hkcv)
  case replaceCommit =>
    refine queues_of (fun _ => rfl) ?_
    rintro n ⟨hlc, hshadow, hstaged, hdue, hkcv⟩
    exact unlessRetired_done hlc (bodyKeyReplaceCommit_staged hshadow hstaged hdue hkcv)
  case destroy => exact performs_of (fun _ => rfl) (fun _ ⟨hlc, hslot, hused⟩ => ⟨[], unlessRetired_done hlc (bodyKeyDestroy_used hslot hused)⟩)
  case exportKey =>
    refine performs_of (fun _ => rfl) ?_
    rintro n ⟨hlc, hused, hexport, huse⟩
    exact (bodyKeyExport_exportable hused hexport huse).imp fun _ => unlessRetired_done hlc
  case lcNonce => exact performs_of (fun _ => rfl) (fun n hlc => ⟨wordsLE (padTo 16 (n.random 16).1), unlessRetired_done hlc rfl⟩)
  case lifecycleFree =>
    exact performs_of (fun _ => rfl) (fun _ ⟨hlc, hlisted⟩ => ⟨[], unlessRetired_done hlc (bodyKeyLifecycle_free hlisted)⟩)
  case lifecycleTagged =>
    refine performs_of (fun _ => rfl) ?_
    rintro n ⟨hlc, hlisted, hauth, hnonce, hbytes, hdue, huse, htag⟩
    exact ⟨[], unlessRetired_done hlc (bodyKeyLifecycle_tagged hlisted hauth hnonce hbytes hdue huse htag)⟩
  case attest =>
    refine performs_of (fun _ => rfl) ?_
    rintro n ⟨hlc, hused, huse⟩
    exact (bodyKeyAttest_used hused huse).imp fun _ => unlessRetired_done hlc
  case txnResult => exact performs_of (fun _ => rfl) (fun _ hlc => ⟨_, unlessRetired_done hlc rfl⟩)
  case importClear =>
    refine performs_of (fun _ => rfl) ?_
    rintro n ⟨hlc, hallowed, hslot, hcls, hlen⟩
    exact (bodyKeyImportClear_allowed hallowed hslot hcls hlen).imp fun _ => unlessRetired_done hlc
  case attrRaw =>
    refine performs_of (fun _ => rfl) ?_
    rintro n ⟨hlc, hslot, hused, huses⟩
    exact ⟨[], unlessRetired_done hlc (bodyKeyAttrRaw_lowering hslot hused huses)⟩
  case tune =>
    refine performs_of (fun _ => rfl) ?_
    rintro n ⟨hlc, hperiod, hauth⟩
    exact ⟨[], unlessRetired_done hlc (bodyKeyTune_admitted hperiod hauth)⟩

/-! ### Remasking, commits, discards, nonces and tests (R392, R396 to R398, R400, R403, R529) -/

section
variable {s : State} {a : Instant} {k : Fin 256}

theorem State.advance_shadow (s : State) (t : Instant) (n : Nat) : (s.advance t).shadow n = s.shadow n := rfl

theorem keyRemask_running (hruns : s.runs Isle.flacon = true) : exec (.keyRemask a) s =
    .next ((upto 8).foldl State.remaskPort ((s.key.slots.map (·.1)).foldl (fun (t : State) n => t.remaskTurn n) (s.advance a))) :=
  if_neg (by simp [State.advance_runs, hruns])

theorem keyCommitComplete_committing {x : KeyShadow} (hshadow : s.shadow k.val = some x) (hstaged : x.staged = none)
    (hruns : s.runs Isle.flacon = true) :
    exec (.keyCommitComplete a k) s = .next ((((s.advance a).installKey x).noteOutcome x).complete x.session x.seq St.OK []) := by
  change execKeyCommitComplete a k s = _
  simp only [execKeyCommitComplete, State.advance_shadow, State.advance_runs, hshadow, hstaged, hruns, Option.isNone_none, Bool.and_self, if_true]

theorem stagedKeyDiscard_staged {x : KeyShadow} {u : Nat} (hshadow : s.shadow k.val = some x) (hstaged : x.staged = some u) :
    exec (.stagedKeyDiscard k) s = .next ((s.advanceUp u).dropShadow k.val) := by
  change execStagedKeyDiscard k s = _
  simp only [execStagedKeyDiscard, hshadow, hstaged]

theorem childCascadeDestroy_dying (hdying : (s.kslot k.val).dying = true) : exec (.childCascadeDestroy k) s =
    .next ((((s.advanceUp (s.kslot k.val).usedUntil).wipeSlot k.val).keyCount 3).invalidate k.val 256) :=
  congrArg Host.Outcome.next (if_pos hdying)

theorem lcNonceExpiry_given {e : Nonce} (hnonce : s.key.nonce = some e) :
    exec .lcNonceExpiry s = .next ((s.advanceUp e.due).setKeys (fun k => { k with nonce := none })) := by
  change execLcNonceExpiry s = _
  rw [execLcNonceExpiry, hnonce]

theorem rngHealthTest_failing {f : Bool} {i : Bool} (hfails : ((s.advance a).occasion 15 0 f).1 = some i) : exec (.rngHealthTest a f) s =
    .next ((((s.advance a).occasion 15 0 f).2.detect 15 i 0 []).setKeys (fun k => { k with rngOk := false })) := by
  change execRngHealthTest a f s = _
  rw [execRngHealthTest, hfails]

theorem rngHealthTest_passing {f : Bool} (hpasses : ((s.advance a).occasion 15 0 f).1 = none) : exec (.rngHealthTest a f) s =
    .next (((s.advance a).occasion 15 0 f).2.setKeys (fun k => { k with rngOk := true })) := by
  change execRngHealthTest a f s = _
  rw [execRngHealthTest, hpasses]

end

/-- Settles O31, event by event; the known-answer tests have no condition. -/
theorem keyEventsComplete : Obligations.KeyEventsComplete :=
  ⟨fun _ _ => keyRemask_running,
    fun _ _ _ _ => keyCommitComplete_committing,
    fun _ _ _ _ => stagedKeyDiscard_staged,
    fun _ _ => childCascadeDestroy_dying,
    fun _ _ => lcNonceExpiry_given,
    fun _ _ _ => rfl,
    fun _ _ _ _ => rngHealthTest_failing,
    fun _ _ _ => rngHealthTest_passing⟩

end Sys2Proof.Machine
end

section
/-! PROOFS. The statements of the mailboxes: commands, accesses and events (O32), and the read of W15 (O58). -/

namespace Sys2Proof.Machine

/-! ### Channels without a waiter (R445, R448) -/

section
variable {s : State} {n : Nat}

theorem State.mchan_updMchan (f : MbxChan → MbxChan) : (s.updMchan n f).mchan n = ((s.mbx.chans[n]?).map f).getD emptyChan := by
  simp only [State.mchan, State.updMchan, State.setMbx, getElem_updAt]

theorem State.mchan_emptyMbox : ((s.emptyMbox n).mchan n).full = false := by
  rw [State.emptyMbox, State.mchan_updMchan]
  cases s.mbx.chans[n]? <;> rfl

/-- Where nobody waits, nobody is served. -/
theorem State.serveChan_noWaiter (hnone : s.mbx.waiters = []) (fuel : Nat) : s.serveChan n fuel = s := by
  cases fuel with
  | zero => rfl
  | succ fuel => simp only [State.serveChan, hnone, List.filter_nil, List.find?_nil, ite_self]

theorem State.readW15_notFull (hempty : (s.mchan n).full = false) : s.readW15 n = (s.reg (Reg.MBX_CH_W n 15), s) := by
  simp only [State.readW15, hempty, Bool.false_eq_true, if_false]

theorem State.readW15_full (hfull : (s.mchan n).full = true) (hnone : s.mbx.waiters = []) :
    s.readW15 n = (s.reg (Reg.MBX_CH_W n 15), s.emptyMbox n) := by
  have hnobody : (s.emptyMbox n).mbx.waiters = [] := hnone
  simp only [State.readW15, hfull, if_true, State.settleChan, State.serveChan_noWaiter hnobody]

end

section
variable {s : State} {a : Instant} {k : Fin 64}

theorem State.advance_mchan (s : State) (t : Instant) (n : Nat) : (s.advance t).mchan n = s.mchan n := rfl

theorem State.advance_reg (s : State) (t : Instant) (n : Nat) : (s.advance t).reg n = s.reg n := rfl

theorem mbxW15Read_notFull (hempty : (s.mchan k.val).full = false) :
    exec (.mbxW15Read a k) s = .next { s.advance a with rdata := [s.reg (Reg.MBX_CH_W k.val 15)] } := by
  change execMbxW15Read a k s = _
  simp only [execMbxW15Read, State.readW15_notFull (s := s.advance a) hempty, State.advance_reg]

theorem mbxW15Read_full (hfull : (s.mchan k.val).full = true) (hnone : s.mbx.waiters = []) :
    exec (.mbxW15Read a k) s = .next { (s.advance a).emptyMbox k.val with rdata := [s.reg (Reg.MBX_CH_W k.val 15)] } := by
  change execMbxW15Read a k s = _
  simp only [execMbxW15Read, State.readW15_full (s := s.advance a) hfull hnone, State.advance_reg]

end

/-- Settles O58: the read leaves an empty channel as it is, and empties a full one with nobody waiting. -/
theorem mailboxW15ReadEmptiesTheChannel : Obligations.MailboxW15ReadEmptiesTheChannel := by
  refine ⟨fun _ _ _ => mbxW15Read_notFull, fun a k s hfull hnone => ⟨_, mbxW15Read_full hfull hnone, ?_, rfl, rfl⟩⟩
  exact State.mchan_emptyMbox (s := s.advance a)

/-! ### The bodies of the mailbox commands (R444, R445, R448, R451) -/

section
variable {s : State} {h : Hdr} {k : Fin 64} {w : Vector Word 16}

theorem bodyMbxSend_empty {b : Bool} (hbound : s.mayWrite k.val hostIdent = true) (hempty : (s.mchan k.val).full = false)
    (hunclaimed : s.claimedByOther k.val hostIdent = false) :
    bodyMbxSend h k w b s = ok [] ((s.fillChan k.val hostIdent (s.genOf hostIdent) (byPosition w.toList)).settleChan k.val) :=
  (if_neg (by simp [hbound])).trans (if_neg (by simp [hempty, hunclaimed]))

theorem bodyMbxSend_waits (hbound : s.mayWrite k.val hostIdent = true)
    (htaken : (s.mchan k.val).full = true ∨ s.claimedByOther k.val hostIdent = true) :
    bodyMbxSend h k w true s =
      .waiting (s.setMbx (fun m => { m with waiters := m.waiters ++ [⟨k.val, some (w.toList, hostIdent), h.session, h.seq⟩] })) :=
  (if_neg (by simp [hbound])).trans (if_pos (by simpa using htaken))

theorem bodyMbxRecv_full {b : Bool} (hfull : (s.mchan k.val).full = true) :
    ∃ words, bodyMbxRecv h k b s = ok words ((s.emptyMbox k.val).settleChan k.val) :=
  ⟨_, if_pos hfull⟩

theorem bodyMbxRecv_waits (hempty : (s.mchan k.val).full = false) :
    bodyMbxRecv h k true s = .waiting (s.setMbx (fun m => { m with waiters := m.waiters ++ [⟨k.val, none, h.session, h.seq⟩] })) :=
  if_neg (Bool.eq_false_iff.mp hempty)

theorem bodyMbxPeek_full (hfull : (s.mchan k.val).full = true) : ∃ words, bodyMbxPeek k s = ok words s :=
  ⟨_, if_pos hfull⟩

theorem bodyMbxBind_unbound {e : Bool} {x y : MasterId} (hunbound : s.rb (Reg.MBX_BIND k.val) 31 = false) :
    bodyMbxBind k e x y s = ok [] (s.writeBind k.val (putBit 31 e ||| put 23 12 y.toNat ||| put 11 0 x.toNat)) :=
  if_neg (Bool.eq_false_iff.mp hunbound)

theorem mbxClaimLapse_claimed {c : MbxClaim} (hclaim : (s.mchan k.val).claim = some c) : exec (.mbxClaimLapse k) s =
    .next ((((s.advanceUp c.due).updMchan k.val (fun x => { x with claim := none })).count (Reg.MBX_CNT 2) 1).settleChan k.val) := by
  change execMbxClaimLapse k s = _
  rw [execMbxClaimLapse, hclaim]

end

/-- Settles O32: each body ends in its effect under the stated conditions, and the accesses have none. -/
theorem mailboxCompletes : Obligations.MailboxCompletes := by
  refine ⟨fun h i => ?status, fun h k w b => ?send, fun h k w => ?sendWaits, fun h k b => ?recv, fun h k => ?recvWaits, fun h k => ?peek,
    fun h k e x y => ?bind, fun h k => ?clear, fun _ _ _ _ _ _ => rfl, fun _ _ _ => rfl, fun _ _ _ _ => rfl, fun k c s => ?lapse,
    fun _ _ _ _ _ _ => rfl⟩
  case status => exact reads_of (fun _ => rfl) (fun _ => ⟨_, rfl⟩)
  case send =>
    exact performs_of (fun _ => rfl) (fun _ ⟨hbound, hempty, hunclaimed⟩ => ⟨[], bodyMbxSend_empty (h := h) hbound hempty hunclaimed⟩)
  case sendWaits => exact queues_of (fun _ => rfl) (fun _ ⟨hbound, htaken⟩ => bodyMbxSend_waits hbound htaken)
  case recv => exact performs_of (fun _ => rfl) (fun _ hfull => bodyMbxRecv_full (h := h) hfull)
  case recvWaits => exact queues_of (fun _ => rfl) (fun _ hempty => bodyMbxRecv_waits hempty)
  case peek => exact performs_of (fun _ => rfl) (fun _ hfull => bodyMbxPeek_full hfull)
  case bind => exact performs_of (fun _ => rfl) (fun _ hunbound => ⟨[], bodyMbxBind_unbound hunbound⟩)
  case clear => exact performs_of (fun _ => rfl) (fun _ _ => ⟨[], rfl⟩)
  case lapse => exact mbxClaimLapse_claimed

end Sys2Proof.Machine
end

section
/-! PROOFS. The statements of the cascade ring and of bulk memory: the cascade commands (O33) and events (O34), and bulk memory (O35). -/

namespace Sys2Proof.Machine

/-! ### The cascade commands (R454, R459, R461) -/

section
variable {s : State} {h : Hdr}

/-- Neither a rejoin nor a formation is in progress. -/
theorem State.notForming (hrejoin : s.cas.rejoin = none) (hform : s.cas.formDue = none) :
    ¬ (s.cas.rejoin.isSome || s.cas.formDue.isSome) = true := by
  simp [hrejoin, hform]

theorem bodyCasRejoin_absent {m : Fin 64} (hhead : s.isHead = true) (hrejoin : s.cas.rejoin = none) (hform : s.cas.formDue = none)
    (habsent : s.cas.absent.getLsbD m.val = true) : bodyCasRejoin h m s = .accepted (s.orderRejoin h m) :=
  (if_neg (by simp [hhead])).trans <| (if_neg (State.notForming hrejoin hform)).trans (if_neg (by simp [habsent]))

theorem bodyCasReform_idle (hhead : s.isHead = true) (hrejoin : s.cas.rejoin = none) (hform : s.cas.formDue = none) :
    bodyCasReform h s = .accepted (s.startFormation (some (h.session, h.seq))) :=
  (if_neg (by simp [hhead])).trans (if_neg (State.notForming hrejoin hform))

theorem State.ringOut_cmd (s : State) (dest : Option (Fin 64)) (b : RingBody) : (s.ringOut dest b).cmd = s.cmd := by
  unfold State.ringOut
  split <;> rfl

theorem State.takeRelease_cmd (s : State) (m : Fin 64) (t : Instant) : (s.takeRelease m t).cmd = s.cmd := by
  unfold State.takeRelease
  split <;> rfl

/-- The order of a rejoin leaves the commands in flight. -/
theorem State.orderRejoin_cmd (s : State) (h : Hdr) (m : Fin 64) : (s.orderRejoin h m).cmd = s.cmd := by
  unfold State.orderRejoin
  dsimp only
  split
  · rw [State.takeRelease_cmd, State.setCas_cmd]
  · rw [State.ringOut_cmd, State.setCas_cmd]

theorem bodyCasTune_given {x y : Option Bool} :
    bodyCasTune x y s = ok [] (let t := (x.map (s.setRb Reg.CAS_CTL 1)).getD s; (y.map (t.setRb Reg.CAS_CTL 2)).getD t) := by
  cases x <;> cases y <;> rfl

end

/-- Settles O33, command by command: each body ends in its effect under the stated conditions. -/
theorem cascadeCommandsComplete : Obligations.CascadeCommandsComplete := by
  refine ⟨fun h => ?status, fun h m => ?rejoin, fun h => ?reform, fun h x y => ?tune⟩
  case status => exact reads_of (fun _ => rfl) (fun _ => ⟨_, rfl⟩)
  case rejoin =>
    refine accepts_of (fun _ => rfl) ?_ (fun n => by rw [State.flight?, State.orderRejoin_cmd, ← State.flight?])
    rintro n ⟨hhead, hrejoin, hform, habsent⟩
    exact bodyCasRejoin_absent hhead hrejoin hform habsent
  case reform => exact accepts_of (fun _ => rfl) (fun _ ⟨hhead, hrejoin, hform⟩ => bodyCasReform_idle hhead hrejoin hform) (fun _ => rfl)
  case tune => exact performs_of (fun _ => rfl) (fun _ _ => ⟨[], bodyCasTune_given⟩)

/-! ### Formation, the map, silence and rejoining (R452, R453, R457 to R460) -/

section
variable {s : State} {a : Instant}

theorem State.advance_isHead (s : State) (t : Instant) : (s.advance t).isHead = s.isHead := rfl

theorem State.advance_inRing (s : State) (t : Instant) : (s.advance t).inRing = s.inRing := rfl

/-- Once a state has been advanced to an instant, the instant has come. -/
theorem State.le_now_advance (s : State) (t : Instant) : t ≤ (s.advance t).now :=
  Nat.sub_le_iff_le_add'.mp (Nat.le_refl (t - s.time.now))

theorem ringFormationTimeout_due {u : Nat} (hdue : s.cas.formDue = some u) :
    exec .ringFormationTimeout s = .next ((s.advanceUp u).endFormation .alone 1 [Config.uid]) := by
  change execRingFormationTimeout s = _
  rw [execRingFormationTimeout, hdue]

theorem ringMapBroadcast_head (hhead : s.isHead = true) :
    exec (.ringMapBroadcast a) s = .next ((s.advance a).ringOut none (.map s.cas.present s.cas.absent)) :=
  congrArg Host.Outcome.next (if_pos hhead)

theorem crInSilence_skips (hring : s.inRing = true) (hen : s.rb Reg.CAS_CTL 1 = true) (hidle : s.cas.skipping = false) :
    exec (.crInSilence a) s = .next ((s.advance a).setCas (fun c => { c with skipping := true })) := by
  change execCrInSilence a s = _
  simp only [execCrInSilence, State.advance_inRing, State.advance_rb, State.advance_cas, hring, hen, hidle, Bool.not_true, Bool.not_false,
    Bool.and_self, Bool.false_eq_true, if_false, if_true]

theorem crInSilence_breaks (hring : s.inRing = true) (hcannot : s.rb Reg.CAS_CTL 1 = false ∨ s.cas.skipping = true) :
    exec (.crInSilence a) s = .next (s.advance a).breakRing := by
  have hnoSkip : ¬ (s.rb Reg.CAS_CTL 1 && !s.cas.skipping) = true := by
    obtain hoff | hskips := hcannot
    · simp [hoff]
    · simp [hskips]
  exact congrArg Host.Outcome.next ((if_neg (by simp [State.advance_inRing, hring])).trans (if_neg hnoSkip))

/-- A relock of a member that skips its neighbour is not passed over. -/
theorem State.skips_advance (hskips : s.cas.skipping = true) : ¬ (!(s.advance a).cas.skipping) = true := by
  simp [hskips]

theorem ringRelock_head (hskips : s.cas.skipping = true) (hhead : s.isHead = true) :
    exec (.ringRelock a true) s = .next ((s.advance a).closeAround (Fin.ofNat 64 (s.neighbour s.ownIndex true))) :=
  congrArg Host.Outcome.next ((if_neg (State.skips_advance hskips)).trans (if_pos hhead))

theorem ringRelock_member (hskips : s.cas.skipping = true) (hmember : s.isHead = false) : exec (.ringRelock a true) s =
    .next ((s.advance a).loseFrames.ringOut (some 0) (.closedToken (Fin.ofNat 64 (s.neighbour s.ownIndex true)))) :=
  congrArg Host.Outcome.next ((if_neg (State.skips_advance hskips)).trans (if_neg (Bool.eq_false_iff.mp hmember)))

theorem ringRelock_unlocked (hskips : s.cas.skipping = true) : exec (.ringRelock a false) s = .next (s.advance a).breakRing :=
  congrArg Host.Outcome.next (if_neg (State.skips_advance hskips))

/-- The neighbour of an absent member releases CR_SKIP_N and tries the member. -/
theorem rejoinRelease_neighbour {t : Instant} (hrelease : s.cas.release = some t) (hrejoin : s.cas.rejoin = none) : exec .rejoinRelease s =
    .next ((s.advance t).setCas (fun c => { c with release := none, skipping := false, trial := some ((s.advance t).up + us 200) })) := by
  change execRejoinRelease s = _
  simp only [execRejoinRelease, hrelease, hrejoin]

/-- The head awaits the member's join record. -/
theorem rejoinRelease_head {r : Rejoin} (hrelease : s.cas.release = none) (hrejoin : s.cas.rejoin = some r) (htrial : r.trial = none) :
    exec .rejoinRelease s =
      .next ((s.advance r.at_).setCas (fun c => { c with rejoin := some { r with trial := some ((s.advance r.at_).up + us 200) } })) := by
  have hdue : (r.trial.isNone && decide (r.at_ ≤ (s.advance r.at_).now)) = true := by simp [htrial, State.le_now_advance]
  change execRejoinRelease s = _
  simp only [execRejoinRelease, hrelease, hrejoin, hdue, if_true]

theorem rejoinTrialTimeout_trial {u : Nat} (htrial : s.cas.trial = some u) :
    exec .rejoinTrialTimeout s = .next ((s.advanceUp u).failRejoin 0x1010) := by
  change execRejoinTrialTimeout s = _
  rw [execRejoinTrialTimeout, htrial]

end

/-- Settles O34, event by event; what arrives from the ring has no condition. -/
theorem cascadeEventsComplete : Obligations.CascadeEventsComplete :=
  ⟨fun _ _ _ _ => rfl,
    fun _ _ _ _ => rfl,
    fun _ _ => ringFormationTimeout_due,
    fun _ _ => ringMapBroadcast_head,
    fun _ _ _ _ => rfl,
    fun _ _ _ => rfl,
    fun _ _ => crInSilence_skips,
    fun _ _ => crInSilence_breaks,
    fun _ _ => ringRelock_head,
    fun _ _ => ringRelock_member,
    fun _ _ => ringRelock_unlocked,
    fun _ _ _ => rfl,
    fun _ _ => rejoinRelease_neighbour,
    fun _ _ => rejoinRelease_head,
    fun _ _ _ _ => rfl,
    fun _ _ => rejoinTrialTimeout_trial⟩

/-! ### Bulk memory (R464, R470, R474, R476) -/

section
variable {s : State}

theorem bodyMemHostRead_inArea {via : Via} {buf len o l : Nat} (harea : o + l ≤ hostSize) (hbuf : l ≤ len) :
    ∃ words, bodyMemHostRead via buf len o l s =
      ok words ((s.readBulk 4 (hostBase + o) l).2.hostWrite via buf (wordsLE (hostRange s.mem o l (s.readBulk 4 (hostBase + o) l).1))) :=
  ⟨_, (if_neg (Nat.not_lt.mpr harea)).trans (if_neg (Nat.not_lt.mpr hbuf))⟩

theorem bodyMemHostWrite_inArea {o : Nat} {d : List Byte} (harea : o + d.length ≤ hostSize) :
    bodyMemHostWrite o d s = ok [] (s.setMem (fun m => m.writeBytes o d)) :=
  if_neg (Nat.not_lt.mpr harea)

theorem arbitrationDraw_running {a : Instant} {c : Fin 32} {p : BitVec 8} {w : Bool} {e : EccOutcome} (hruns : s.runs Isle.memory = true) :
    exec (.arbitrationDraw a c p w e) s = .next ((s.advance a).arbitrate c.val ((upto 8).filter (fun i => p.getLsbD i)) w e) :=
  congrArg Host.Outcome.next (if_neg (by simp [State.advance_runs, hruns]))

end

/-- Settles O35: each body ends in its effect under the stated conditions; a barrier completes under none. -/
theorem memoryCompletes : Obligations.MemoryCompletes := by
  refine ⟨fun h => ?status, fun h p => ?tickets, fun h o l => ?hostRead, fun h o d => ?hostWrite, fun h x y => ?ticketsRaw, fun h c => ?lfsrRead,
    fun h c w => ?lfsrSeed, fun a c p w e s => ?draw, fun _ _ _ => rfl⟩
  case status => exact reads_of (fun _ => rfl) (fun _ => ⟨_, rfl⟩)
  case tickets => exact performs_of (fun _ => rfl) (fun _ _ => ⟨[], rfl⟩)
  case hostRead => exact sends_of (fun _ => rfl) (fun _ ⟨harea, hbuf⟩ => bodyMemHostRead_inArea harea hbuf)
  case hostWrite => exact performs_of (fun _ => rfl) (fun _ harea => ⟨[], bodyMemHostWrite_inArea harea⟩)
  case ticketsRaw => exact performs_of (fun _ => rfl) (fun _ _ => ⟨[], rfl⟩)
  case lfsrRead => exact reads_of (fun _ => rfl) (fun _ => ⟨_, rfl⟩)
  case lfsrSeed => exact performs_of (fun _ => rfl) (fun _ _ => ⟨[if w = 0#32 then 1#32 else w], rfl⟩)
  case draw => exact arbitrationDraw_running

end Sys2Proof.Machine
end

section
/-! PROOFS. The statements of the global block and of the faults: the global commands (O2), the opcodes of Ready (O54), the fault commands (O36), and
the enable that injection needs (O59). -/

namespace Sys2Proof.Machine

/-! ### The global commands (R439, R572, R573, R575) -/

section
variable {s : State}

theorem State.turn_injAllowed {op : Nat} {h : Hdr} : (s.turn op h).injAllowed = s.injAllowed := by
  unfold State.turn
  cases s.chosenFor op h <;> rfl

theorem State.turn_pair {op : Nat} {h : Hdr} : (s.turn op h).pair = s.pair := by
  unfold State.turn
  cases s.chosenFor op h <;> rfl

theorem bodyGlbEnable_permitted {l : List EnableItem} {session : Fin 4}
    (hpass : ∀ x ∈ l, x.fields ≠ 0#32 ∧ clearBits x.fields (word (enableMask x.block.val)) = 0#32 ∧
      s.takesWrites (ctlReg x.block x.port) = true ∧ s.lockRefuses (ctlReg x.block x.port) (s.enabledWord x) = false) :
    bodyGlbEnable l session s = ok [] (l.foldl (fun (t : State) x => t.writeReg session (ctlReg x.block x.port) (t.enabledWord x)) s) := by
  have hfields : ¬ l.any (fun x => x.fields = 0#32 || clearBits x.fields (word (enableMask x.block.val)) != 0#32) = true := by
    simpa using fun x hx => let ⟨hsome, hown, _⟩ := hpass x hx; ⟨hsome, hown⟩
  have hruns : ¬ l.any (fun x => !s.takesWrites (ctlReg x.block x.port)) = true := by
    simpa using fun x hx => let ⟨_, _, htakes, _⟩ := hpass x hx; htakes
  have hlocks : ¬ l.any (fun x => s.lockRefuses (ctlReg x.block x.port) (s.enabledWord x)) = true := by
    simpa using fun x hx => let ⟨_, _, _, hlock⟩ := hpass x hx; hlock
  exact (if_neg hfields).trans <| (if_neg hruns).trans (if_neg hlocks)

theorem bodyGlbLock_lockable {l : List (Fin 20 × Fin 10)}
    (hpass : ∀ x ∈ l, hasLock (ctlReg x.1 x.2) = true ∧ s.takesWrites (ctlReg x.1 x.2) = true) :
    bodyGlbLock l s = ok [] (l.foldl (fun (t : State) x => t.lockBlock x.1 x.2) s) := by
  have hfields : ¬ l.any (fun x => !hasLock (ctlReg x.1 x.2)) = true := by simpa using fun a b hx => (hpass (a, b) hx).1
  have hruns : ¬ l.any (fun x => !s.takesWrites (ctlReg x.1 x.2)) = true := by simpa using fun a b hx => (hpass (a, b) hx).2
  exact (if_neg hfields).trans (if_neg hruns)

theorem bodyRegRead_inRange {addr : Word} {k : Nat} (hmin : 0 < k) (hmax : k ≤ 1016) :
    ∃ words, bodyRegRead addr k s = ok words (s.readRun addr.toNat k).2 := by
  have hrange : ¬ (decide (k = 0) || decide (maxResult < k)) = true := by
    have hcap : maxResult = 1016 := rfl
    simp only [hcap, Bool.or_eq_true, decide_eq_true_eq]; omega
  exact ⟨(s.readRun addr.toNat k).1, if_neg (by simpa using hrange)⟩

/-- Where injection is allowed or no pair of a REG_WRITE is of a slot, where its pairs keep to mirrored windows or to the others, where no change of
classes meets one that is pending, and where no block refuses a pair, the pairs are written in order. -/
theorem bodyRegWrite_accepted {l : List (Word × Word)} {session : Fin 4} (hlen : l.length ≤ 503)
    (hinj : (∃ p ∈ l, isInjReg p.1.toNat = true) → s.injAllowed = true)
    (hpair : s.pair.st = .unpaired ∨ (∀ p ∈ l, inMirrored p.1 = true) ∨ (∀ p ∈ l, inMirrored p.1 = false))
    (hclass : (∃ p ∈ l, isClassWord p.1.toNat = true) → s.classPending = false) (hrun : (s.writeRun session l).1 = 0) :
    bodyRegWrite l session s = ok [] (s.writeRun session l).2 := by
  have hdenied : ¬ (l.any (fun p => isInjReg p.1.toNat) && !s.injAllowed) = true := by
    rw [Bool.and_eq_true, List.any_eq_true]
    rintro ⟨hnames, hdenies⟩
    simp [hinj hnames] at hdenies
  have hmixed : ¬ (s.pair.st != .unpaired && l.any (fun p => inMirrored p.1) && l.any (fun p => !inMirrored p.1)) = true := by
    simp only [Bool.and_eq_true, List.any_eq_true, bne_iff_ne]
    rintro ⟨⟨hpaired, p, hp, hin⟩, q, hq, hout⟩
    obtain hunpaired | hall | hnone := hpair
    · exact hpaired hunpaired
    · simp [hall q hq] at hout
    · simp [hnone p hp] at hin
  have hpending : ¬ (l.any (fun p => isClassWord p.1.toNat) && s.classPending) = true := by
    rw [Bool.and_eq_true, List.any_eq_true]
    rintro ⟨hnames, hwaits⟩
    simp [hclass hnames] at hwaits
  exact (if_neg (Nat.not_lt.mpr hlen)).trans <| (if_neg hdenied).trans <| (if_neg hmixed).trans <| (if_neg hpending).trans
    (if_neg (not_not_intro hrun))

end

/-- REG_WRITE at its turn: no lock guards it, and its pairs are written. -/
theorem regWrite_accepted {h : Hdr} {l : List (Word × Word)} {s : State} (hready : Ready 0x0081 h s) (hlen : l.length ≤ 503)
    (hinj : (∃ p ∈ l, isInjReg p.1.toNat = true) → (s.turn 0x0081 h).injAllowed = true)
    (hpair : s.pair.st = .unpaired ∨ (∀ p ∈ l, inMirrored p.1 = true) ∨ (∀ p ∈ l, inMirrored p.1 = false))
    (hclass : (∃ p ∈ l, isClassWord p.1.toNat = true) → (s.turn 0x0081 h).classPending = false)
    (hrun : ((s.turn 0x0081 h).writeRun h.session l).1 = 0) :
    exec (.regWrite h l) s =
      .next ((s.returned 0x0081 h ((s.turn 0x0081 h).writeRun h.session l).2).complete h.session h.seq St.OK []) :=
  congrArg Host.Outcome.next (runCmdAs_done hready (bodyRegWrite_accepted hlen hinj (State.turn_pair (s := s) ▸ hpair) hclass hrun) (Or.inr (Or.inl rfl)))

/-- Settles O2, command by command: each body ends in its effect under the stated conditions. -/
theorem globalCommandsComplete : Obligations.GlobalCommandsComplete := by
  refine ⟨fun h => ?identity, fun h => ?status, fun h l => ?enable, fun h l => ?lock, fun h addr k => ?regRead, fun h l s => ?regWrite⟩
  case identity => exact reads_of (fun _ => rfl) (fun _ => ⟨_, rfl⟩)
  case status => exact reads_of (fun _ => rfl) (fun _ => ⟨_, rfl⟩)
  case enable => exact performs_of (fun _ => rfl) (fun _ hpass => ⟨[], bodyGlbEnable_permitted hpass⟩)
  case lock => exact performs_of (fun _ => rfl) (fun _ hpass => ⟨[], bodyGlbLock_lockable hpass⟩)
  case regRead => exact performs_of (fun _ => rfl) (fun _ ⟨hmin, hmax⟩ => bodyRegRead_inRange hmin hmax)
  case regWrite => exact regWrite_accepted

/-! ### The opcodes of Ready (R512) -/

theorem readyOpcode_iff {op : Nat} : readyOpcode op = true ↔
    op ∈ [0x0000, 0x0001, 0x0100, 0x0103, 0x0101, 0x0102, 0x0200, 0x0300, 0x1000] ∨ op / 256 = 0x0E := by
  simp only [readyOpcode, Bool.or_eq_true, beq_iff_eq, List.mem_cons, List.not_mem_nil, or_false]
  grind

theorem State.opcodeRuns_ready {s : State} {op : Nat} (hmode : s.aon.mode = .ready) (himage : s.aon.imageFail = false) :
    s.opcodeRuns op = readyOpcode op := by
  simp only [State.opcodeRuns, himage, hmode, beq_self_eq_true, Bool.false_eq_true, if_false, if_true]

/-- A command whose opcode the module does not run has the outcome STATE. -/
theorem State.outcome_notRunning {s : State} {op : Nat} {h : Hdr} {body : State → Res} (hnot : s.opcodeRuns op = false) :
    s.outcome op h body = refuse St.STATE s :=
  if_pos (by simp [hnot])

/-- A command at its turn whose opcode the module does not run gets STATE, and the module is as it was at the command's instant. -/
theorem runCmdAs_notRunning {mir : Bool} {op : Nat} {h : Hdr} {body : State → Res} {s : State} {f : Flight}
    (hflight : (s.advance h.at_).executable op h = some f) (hvia : f.via ≠ .peer)
    (hgate : f.st = .mirrored ∨ (s.advance h.at_).pairGate = .pass) (hnot : s.opcodeRuns op = false) :
    runCmdAs mir op h body s = (s.advance h.at_).complete h.session h.seq St.STATE [] := by
  obtain ⟨hsession, hseq⟩ := State.executable_is hflight
  have hrefused : (s.turn op h).outcome op h body = refuse St.STATE (s.turn op h) := State.outcome_notRunning (State.turn_opcodeRuns.trans hnot)
  rw [runCmdAs_finish hflight hvia hgate, hrefused]
  simp only [refuse, Res.put, State.finish, hsession, hseq, State.returned_turn]

/-- Settles O54: the list of R512, and the row of every opcode, whose outcome the opcode's own state gate decides first. -/
theorem readyExecutesItsOwnOpcodes : Obligations.ReadyExecutesItsOwnOpcodes := by
  refine ⟨fun s op hmode himage => (State.opcodeRuns_ready hmode himage) ▸ readyOpcode_iff, ?others⟩
  case others =>
    intro c op h s f hcmd hmode himage hlisted hblock hflight hvia hgate
    have hnot : s.opcodeRuns op = false := by
      rw [State.opcodeRuns_ready hmode himage, Bool.eq_false_iff, ne_eq, readyOpcode_iff]
      exact not_or_intro hlisted hblock
    have hrow := commandOf_row c
    rw [hcmd] at hrow
    obtain ⟨mir, body, hexec, -⟩ := hrow
    rw [hexec, runCmdAs_notRunning hflight hvia hgate hnot]

/-! ### The fault commands (R531, R532, R535) -/

section
variable {s : State} {h : Hdr}

theorem bodyInject_disarm {i : Fin 8} (hinj : s.injAllowed = true) : bodyInject h (.disarm i) s = ok [word i.val] (s.disarmSlot i.val) :=
  if_neg (by simp [hinj])

/-- An arming within the ranges takes the lowest slot that is free. -/
theorem bodyInject_arm {det : Fin 22} {tgt : Fin 65536} {par : Word} {mode : InjMode} {sh de du i : Nat} (hinj : s.injAllowed = true)
    (hshots : sh ≤ 0xFFFF) (hdelay : de ≤ 0xFFFF) (hdur : du ≤ 0xFFFF) (hsel : selOk (put 4 0 det.val ||| put 23 8 tgt.val) par = true)
    (hfree : (upto 8).find? (fun i => (s.inj i).free) = some i) :
    ∃ words, bodyInject h (.arm det tgt par mode sh de du) s = ok words ((s.writeInjWords i (put 4 0 det.val ||| put 23 8 tgt.val)
      (put 29 28 (modeCode mode) ||| put 15 0 sh) (put 15 0 de ||| put 31 16 du) par).armSlot i h.session) := by
  have hrange : ¬ (decide (0xFFFF < sh) || decide (0xFFFF < de) || decide (0xFFFF < du)) = true := by
    simp only [Bool.or_eq_true, decide_eq_true_eq]; omega
  refine ⟨[word i], (if_neg (by simp [hinj])).trans <| (if_neg (by simpa using hrange)).trans <| (if_neg (by simp [hsel])).trans ?_⟩
  rw [hfree]

theorem bodyFltInjRaw_disarm {a : InjRawArgs} (hinj : s.injAllowed = true) (harm : bit a.ctl 31 = false) :
    bodyFltInjRaw h a s = ok [] ((s.disarmSlot a.slot.val).writeInjWords a.slot.val a.sel a.ctl a.time a.param) :=
  (if_neg (by simp [hinj])).trans (if_pos (by simp [harm]))

theorem bodyFltInjRaw_arm {a : InjRawArgs} (hinj : s.injAllowed = true) (harm : bit a.ctl 31 = true) (hsel : selOk a.sel a.param = true)
    (hfree : (s.inj a.slot.val).free = true) :
    bodyFltInjRaw h a s = ok [] ((s.writeInjWords a.slot.val a.sel a.ctl a.time a.param).armSlot a.slot.val h.session) :=
  (if_neg (by simp [hinj])).trans <| (if_neg (by simp [harm])).trans <| (if_neg (by simp [hsel])).trans (if_neg (by simp [hfree]))

end

/-- Settles O36, command by command: each body ends in its effect under the stated conditions. -/
theorem faultCommandsComplete : Obligations.FaultCommandsComplete := by
  refine ⟨fun h => ?status, fun h i => ?disarm, fun h det tgt par mode sh de du i => ?arm, fun h a => ?rawDisarm, fun h a => ?rawArm⟩
  case status => exact reads_of (fun _ => rfl) (fun _ => ⟨_, rfl⟩)
  case disarm =>
    refine performs_of (fun _ => rfl) ?_
    intro n hinj
    exact ⟨[word i.val], bodyInject_disarm hinj⟩
  case arm =>
    refine performs_of (fun _ => rfl) ?_
    rintro n ⟨hinj, hshots, hdelay, hdur, hsel, hfree⟩
    exact bodyInject_arm hinj hshots hdelay hdur hsel hfree
  case rawDisarm =>
    refine performs_of (fun _ => rfl) ?_
    rintro n ⟨hinj, harm⟩
    exact ⟨[], bodyFltInjRaw_disarm hinj harm⟩
  case rawArm =>
    refine performs_of (fun _ => rfl) ?_
    rintro n ⟨hinj, harm, hsel, hfree⟩
    exact ⟨[], bodyFltInjRaw_arm hinj harm hsel hfree⟩

/-! ### Injection refused (R531) -/

section
variable {s : State} {h : Hdr}

theorem State.injAllowed_iff : s.injAllowed = true ↔ (s.key.lc = .provisioned ∨ s.key.lc = .service) ∧ s.rb Reg.FLT_CTL 1 = true := by
  simp only [State.injAllowed, Bool.and_eq_true, Bool.or_eq_true, beq_iff_eq]

/-- Whether a vector sends its message: it was clear, it is not masked, and messages are enabled (R436). -/
def State.vectorSends (s : State) (v : Nat) : Bool := !s.rb Reg.CMD_INT_STAT v && !s.rb Reg.CMD_INT_MASK v && s.rb Reg.CMD_CTL 1

theorem State.vector_sends {v : Nat} (hsends : s.vectorSends v = true) :
    s.vector v = { s.setRb Reg.CMD_INT_STAT v true with cmd := { s.cmd with msix := s.cmd.msix ++ [v] } } :=
  if_pos hsends

theorem State.vector_quiet {v : Nat} (hquiet : ¬ s.vectorSends v = true) : s.vector v = s.setRb Reg.CMD_INT_STAT v true :=
  if_neg hquiet

/-- A vector is raised whatever module time is. -/
theorem State.vector_withTime (v : Nat) (t : TimePart) : ({ s with time := t } : State).vector v = { s.vector v with time := t } := by
  by_cases hsends : s.vectorSends v = true
  · rw [State.vector_sends hsends, State.vector_sends (s := { s with time := t }) hsends]
    rfl
  · rw [State.vector_quiet hsends, State.vector_quiet (s := { s with time := t }) hsends]
    rfl

/-- What a refused injection counts does not go by module time. -/
theorem State.denyInjection_withTime (t : TimePart) : ({ s with time := t } : State).denyInjection = { s.denyInjection with time := t } :=
  State.vector_withTime (s := (s.count (Reg.FLT_CNT 0) 1).setRb Reg.FLT_STAT 2 true) _ t

theorem State.returned_denyInjection {op : Nat} : s.returned op h (s.turn op h).denyInjection = (s.advance h.at_).denyInjection := by
  unfold State.returned State.turn
  cases s.chosenFor op h with
  | none => rfl
  | some c =>
    simp only [State.reckoned, State.putBack, State.denyInjection_withTime]
    exact (State.denyInjection_withTime (s := s.advance h.at_) (s.advance h.at_).time).symm

/-- A command at its turn that refuses injection, because it is not allowed, is counted and does nothing else. -/
theorem runCmdAs_denied {mir : Bool} {op : Nat} {body : State → Res} (hready : Ready op h s) (hinj : (s.advance h.at_).injAllowed = false)
    (hbody : ∀ n : State, n.injAllowed = false → body n = .done St.INJECT_DENIED [] n.denyInjection) :
    runCmdAs mir op h body s = (s.advance h.at_).denyInjection.complete h.session h.seq St.INJECT_DENIED [] := by
  rw [runCmdAs_done hready (hbody _ (State.turn_injAllowed.trans hinj)) (Or.inl rfl), State.returned_denyInjection]

theorem bodyInject_denied {a : InjectArgs} (hinj : s.injAllowed = false) : bodyInject h a s = .done St.INJECT_DENIED [] s.denyInjection :=
  if_pos (by simp [hinj])

theorem bodyFltInjRaw_denied {a : InjRawArgs} (hinj : s.injAllowed = false) : bodyFltInjRaw h a s = .done St.INJECT_DENIED [] s.denyInjection :=
  if_pos (by simp [hinj])

theorem bodyRegWrite_denied {l : List (Word × Word)} {session : Fin 4} (hinj : s.injAllowed = false) (hlen : l.length ≤ 503)
    (hnames : ∃ p ∈ l, isInjReg p.1.toNat = true) : bodyRegWrite l session s = .done St.INJECT_DENIED [] s.denyInjection :=
  (if_neg (Nat.not_lt.mpr hlen)).trans (if_pos (by rw [hinj, Bool.not_false, Bool.and_true]; exact List.any_eq_true.mpr hnames))

end

/-- Settles O59: each of the three commands refuses injection before anything else. -/
theorem injectionNeedsItsEnable : Obligations.InjectionNeedsItsEnable :=
  ⟨fun _ => State.injAllowed_iff,
    fun _ _ _ hready hinj => congrArg Host.Outcome.next (runCmdAs_denied hready hinj fun _ => bodyInject_denied),
    fun _ _ _ hready hinj => congrArg Host.Outcome.next (runCmdAs_denied hready hinj fun _ => bodyFltInjRaw_denied),
    fun _ _ _ hready hinj hlen hnames =>
      congrArg Host.Outcome.next (runCmdAs_denied hready hinj fun _ hnow => bodyRegWrite_denied hnow hlen hnames)⟩

end Sys2Proof.Machine
end

section
/-! PROOFS. The statements of the always-on island: the power commands (O42), the events of supplies, resets and power states with the test port
(O43), and the events of islands, clocks, rails, temperature and the companion (O44). -/

namespace Sys2Proof.Machine

/-! ### The power commands (R509 to R511, R523, R524, R527) -/

section
variable {s : State}

theorem bodyPwrState_commandable {h : Hdr} {m : PwrMode} (hidle : s.aon.trans = none) (hlisted : commandable s.aon.mode m = true)
    (hpair : m = .run ∨ s.pair.st = .unpaired ∨ s.pair.st = .listen ∨ s.pair.st = .orphan) (hwake : m = .dormant → s.canWake = true) :
    bodyPwrState h m s = .waiting ((if s.aon.mode = .run then s.leaveRun else s).begin
      ⟨m, 5, false, some (h.session, h.seq), s.othersInFlight (h.session, h.seq)⟩) := by
  have hrole : ¬ (m != .run && !(s.pair.st == .unpaired || s.pair.st == .listen || s.pair.st == .orphan)) = true := by
    obtain hgoal | hst | hst | hst := hpair
    · simp [hgoal]
    all_goals simp [hst]
  have hsource : ¬ (decide (m = .dormant) && !s.canWake) = true := by simpa using hwake
  exact (if_neg (by simp [hidle])).trans <| (if_neg (by simp [hlisted])).trans <| (if_neg hrole).trans (if_neg hsource)

/-- The floors that AVFS_RAW names. -/
def State.setFloors (s : State) (f : List (Fin 23 × Nat)) : State :=
  s.setAon (fun x => { x with floors := f.foldl (fun l p => updAt l p.1.val (fun _ => p.2)) x.floors })

/-- The cap that AVFS_RAW names, where one is named and the floors would not break it. -/
def State.setPowerCap (s : State) : Option Nat → State
  | some w => if Config.capBroken w ((upto 23).map s.floorMhz) then s.status Reg.AON_STAT 1 else s.setAon (fun x => { x with capW := w })
  | none => s

/-- Floors and a cap within their ranges are taken, but for a cap that the floors would break. -/
theorem bodyAvfsRaw_inRange {c : Option Nat} {f : List (Fin 23 × Nat)} (hcap : ∀ w, c = some w → 30 ≤ w ∧ w ≤ 65)
    (hfloors : ∀ p ∈ f, 800 ≤ p.2 ∧ p.2 ≤ 1600) : bodyAvfsRaw ⟨c, f⟩ s = ok [] ((s.setFloors f).setPowerCap c) := by
  have hpass : ¬ f.any (fun p => decide (p.2 < 800) || decide (1600 < p.2)) = true := by simpa using fun i n hp => hfloors (i, n) hp
  cases c with
  | none => exact if_neg (by simpa using hpass)
  | some w =>
    obtain ⟨hmin, hmax⟩ := hcap w rfl
    have hrange : ¬ ((decide (w < 30) || decide (65 < w)) || f.any (fun p => decide (p.2 < 800) || decide (1600 < p.2))) = true := by
      rw [Bool.or_eq_true]
      exact not_or_intro (by simp only [Bool.or_eq_true, decide_eq_true_eq]; omega) hpass
    refine (if_neg hrange).trans ?_
    exact (apply_ite (ok []) _ _ _).symm

end

/-- Settles O42, command by command: each body ends in its effect under the stated conditions. -/
theorem powerCommandsComplete : Obligations.PowerCommandsComplete := by
  refine ⟨fun h => ?status, fun h m => ?pwrState, fun h e => ?profile, fun h => ?identity, fun h c f => ?avfs, fun h i => ?islandReset⟩
  case status => exact performs_of (fun _ => rfl) (fun _ _ => ⟨_, rfl⟩)
  case pwrState =>
    refine queues_of (fun _ => rfl) ?_
    rintro n ⟨hidle, hlisted, hpair, hwake⟩
    exact bodyPwrState_commandable hidle hlisted hpair hwake
  case profile => exact performs_of (fun _ => rfl) (fun _ _ => ⟨[], rfl⟩)
  case identity => exact reads_of (fun _ => rfl) (fun _ => ⟨_, rfl⟩)
  case avfs => exact performs_of (fun _ => rfl) (fun _ ⟨hcap, hfloors⟩ => ⟨[], bodyAvfsRaw_inRange hcap hfloors⟩)
  case islandReset => exact performs_of (fun _ => rfl) (fun _ _ => ⟨[], rfl⟩)

/-! ### Supplies (R509, R515, R516, R519) -/

section
variable {s : State} {a : Instant}

theorem State.addCause_mode (s : State) (c : Nat) : (s.addCause c).aon.mode = s.aon.mode := by
  unfold State.addCause
  split <;> rfl

/-- A module that no command and no heat holds Off begins its power-up once both supplies are in range. -/
theorem supplyInRange_starts {c : Int} {t : State} (hout : (s.aon.vinOk && s.aon.vioOk) = false)
    (ht : t = ((if s.aon.mode = .off then s.advance a else (s.advance a).powerDown).setAon (fun x => { x with
      vinOk := true, vioOk := true, temp := c })).dropCause 0)
    (hheld : t.aon.offHeld = false) (hcool : t.aon.hotOff = false ∨ c < 95) : exec (.supplyInRange a c) s =
      .next ((((t.dropCause 3).dropCause 5).setAon (fun x => { x with hotOff := false })).begin ⟨.run, 0, true, none, []⟩) := by
  have hcold : ¬ (t.aon.hotOff && decide (95 ≤ c)) = true := by
    obtain hoff | hlow := hcool
    · simp [hoff]
    · simp [hlow]
  subst ht
  exact congrArg Host.Outcome.next ((if_neg (Bool.eq_false_iff.mp hout)).trans <| (if_neg (Bool.eq_false_iff.mp hheld)).trans (if_neg hcold))

theorem powerUpComplete_cold {x : StartArgs} {t : Transition} (htrans : s.aon.trans = some t) (hcold : t.cold = true) (hvin : s.aon.vinOk = true)
    (hvio : s.aon.vioOk = true) : exec (.powerUpComplete a x) s = .next ((s.advance a).completeStart t x) := by
  change execPowerUpComplete a x s = _
  simp only [execPowerUpComplete, State.advance_aon, htrans, hcold, hvin, hvio, Bool.and_self, if_true]

theorem vinLoss_powered (hmode : s.aon.mode ≠ .off) : exec (.vinLoss a) s =
    .next (((s.advance a).setAon (fun x => { x with vinOk := false, offHeld := false })).addCause 0).powerDown :=
  congrArg Host.Outcome.next (if_neg (by rw [State.addCause_mode]; exact hmode))

/-! ### Reset lands and wakes (R102 to R104, R509, R510, R517, R518) -/

/-- From 10 µs on a pulse of RESET_N resets whatever the module draws for shorter ones. -/
theorem resetNPulse_long {w : Nat} (hlong : 10000 ≤ w) : exec (.resetNPulse a w) s = .next (match s.aon.mode with
    | .off => s.advance a
    | .dormant => (s.advance a).wakeUp 4
    | .ready | .run => (((s.advance a).resetAll.setCmd (fun c => { c with ready := false })).setAon (fun x => { x with resetLow := true })).begin
      ⟨.run, 4, true, none, []⟩) := by
  have hmid : ¬ (decide (1000 ≤ w) && decide (w < 10000)) = true := by simp only [Bool.and_eq_true, decide_eq_true_eq]; omega
  have hresets : ¬ (!(decide (10000 ≤ w) || (decide (1000 ≤ w) && Config.midPulseResets (s.advance a).free w))) = true := by simp [hlong]
  change execResetNPulse a w s = _
  unfold execResetNPulse
  dsimp only
  rw [if_neg hresets, if_neg (by simpa using hmid)]
  rfl

theorem resetNPulse_awake {w : Nat} (hlong : 10000 ≤ w) (hmode : s.aon.mode = .run ∨ s.aon.mode = .ready) : exec (.resetNPulse a w) s =
    .next ((((s.advance a).resetAll.setCmd (fun c => { c with ready := false })).setAon (fun x => { x with resetLow := true })).begin
      ⟨.run, 4, true, none, []⟩) := by
  rw [resetNPulse_long hlong]
  obtain hmode | hmode := hmode <;> rw [hmode]

theorem resetNPulse_dormant {w : Nat} (hlong : 10000 ≤ w) (hmode : s.aon.mode = .dormant) :
    exec (.resetNPulse a w) s = .next ((s.advance a).wakeUp 4) := by
  rw [resetNPulse_long hlong, hmode]

/-- Below 1 µs a pulse of RESET_N is ignored. -/
theorem resetNPulse_short {w : Nat} (hshort : w < 1000) : exec (.resetNPulse a w) s = .next (s.advance a) := by
  have hmid : ¬ (decide (1000 ≤ w) && decide (w < 10000)) = true := by simp only [Bool.and_eq_true, decide_eq_true_eq]; omega
  have hignored : (!(decide (10000 ≤ w) || (decide (1000 ≤ w) && Config.midPulseResets (s.advance a).free w))) = true := by
    have hnotLong : ¬ 10000 ≤ w := by omega
    simp [hnotLong, Nat.not_le.mpr hshort]
  change execResetNPulse a w s = _
  unfold execResetNPulse
  dsimp only
  rw [if_pos hignored, if_neg (by simpa using hmid)]

theorem perstNAssert_head (hhead : s.isHead = true) (hlow : s.aon.perstLow = false) (hmode : s.aon.mode = .run ∨ s.aon.mode = .ready) :
    exec (.perstNAssert a) s = .next ((((((s.advance a).setAon (fun x => { x with perstLow := true })).breakAll.closeSessions.clearRings).resetRegs
      (fun r => blockOf r == 14)).setCmd (fun c => { c with hbDue := none })).raiseGen hostIdent) := by
  have hnew : ¬ (!s.isHead || s.aon.perstLow) = true := by simp [hhead, hlow]
  have hawake : ¬ (decide (s.aon.mode = .off) || decide (s.aon.mode = .dormant)) = true := by obtain hmode | hmode := hmode <;> simp [hmode]
  exact congrArg Host.Outcome.next ((if_neg hnew).trans (if_neg hawake))

theorem perstNRelease_head {t : State} (hhead : s.isHead = true) (hlow : s.aon.perstLow = true)
    (ht : t = ((s.advance a).setAon (fun x => { x with perstLow := false })).resetRegs (fun r => blockOf r == 14)) :
    exec (.perstNRelease a) s = .next (if t.aon.mode = .dormant then t.wakeUp 3 else t) := by
  have hheld : ¬ (!s.isHead || !s.aon.perstLow) = true := by simp [hhead, hlow]
  subst ht
  exact congrArg Host.Outcome.next (if_neg hheld)

theorem wakeNEdge_enabled (hen : s.rb Reg.AON_CTL 0 = true) : exec (.wakeNEdge a) s = .next ((s.advance a).wakeUp 2) :=
  congrArg Host.Outcome.next (if_pos hen)

theorem State.advance_wakeMatches (s : State) (t : Instant) (m k : Nat) (f : WakeFrame) : (s.advance t).wakeMatches m k f = s.wakeMatches m k f := rfl

/-- The patterns of a detector that a frame matches. -/
def State.wakeHits (s : State) (m : Nat) (f : WakeFrame) : List Nat := (upto 8).filter (fun k => s.wakeMatches m k f)

/-- A frame at a watched port that matches a pattern wakes the module from Dormant. -/
theorem wakePatternMatch_hit {m : Fin 2} {f : WakeFrame} {u : Nat} (hdormant : s.aon.dormantAt = some u) (hmode : s.aon.mode = .dormant)
    (hidle : s.aon.trans = none) (hport : (s.port (8 + m.val)).wakeable = true) (hhits : s.wakeHits m.val f ≠ []) :
    exec (.wakePatternMatch a m f) s = .next (((((s.advance a).setReg Reg.AON_WAKE_STAT (putBit 31 true ||| putBit 16 (m.val == 1) |||
      put 7 0 (total ((s.wakeHits m.val f).map (2 ^ ·))))).setReg Reg.AON_WAKE_TIME (word (((s.advance a).up - u) / ms 1))).setAon (fun x => { x with
        wakeFrame := some (8 + m.val, total ((s.wakeHits m.val f).map (2 ^ ·))) })).wakeUp 1) := by
  have hwatched : ¬ (s.aon.mode != .dormant || s.aon.trans.isSome || !(s.port (8 + m.val)).wakeable || (s.wakeHits m.val f).isEmpty) = true := by
    simp [hmode, hidle, hport, hhits]
  change execWakePatternMatch a m f s = _
  unfold execWakePatternMatch
  simp only [State.advance_aon, hdormant]
  exact congrArg Host.Outcome.next (if_neg hwatched)

theorem stateTransitionComplete_over {t : Transition} (htrans : s.aon.trans = some t) (hcold : t.cold = false)
    (hover : (s.advance a).waitsOver t = true) : exec (.stateTransitionComplete a) s = .next ((match t.command with
      | some (n, q) => (s.advance a).complete n q St.OK []
      | none => s.advance a).enterState t) := by
  change execStateTransitionComplete a s = _
  simp only [execStateTransitionComplete, State.advance_aon, htrans]
  exact congrArg Host.Outcome.next (if_neg (by simp [hcold, hover]))

end

/-! ### The test port (R550) -/

theorem TestPort.load_instr {p : TestPort} {resetLow : Bool} {i : TestInstr} (hfree : p.held = false) :
    (p.load resetLow i).instr = if resetLow = true ∨ i = .bypass ∨ i = .idcode then i else p.instr := by
  cases i <;> cases resetLow <;> simp [TestPort.load, hfree]

theorem TestPort.load_held {p : TestPort} {resetLow : Bool} {i : TestInstr} (hheld : p.held = true) : p.load resetLow i = ⟨true, .idcode⟩ :=
  if_pos hheld

theorem TestPort.idcode_drives (held : Bool) (l : TestLand) : TestPort.drives ⟨held, .idcode⟩ l = false := by
  cases l <;> rfl

theorem TestPort.other_of_drives {p : TestPort} {l : TestLand} (hdrives : p.drives l = true) : l = .other := by
  cases l with
  | ilk => exact absurd hdrives (by simp [TestPort.drives])
  | alarmOut n => exact absurd hdrives (by simp [TestPort.drives])
  | other => rfl

/-- Settles O43, event by event, and the three facts of the test port. -/
theorem powerStateEventsComplete : Obligations.PowerStateEventsComplete :=
  ⟨fun _ _ _ _ => supplyInRange_starts,
    fun _ _ _ _ => powerUpComplete_cold,
    fun _ _ => vinLoss_powered,
    fun _ _ => rfl,
    fun _ _ => rfl,
    fun _ _ _ => resetNPulse_awake,
    fun _ _ _ => resetNPulse_dormant,
    fun _ _ _ => resetNPulse_short,
    fun _ _ => perstNAssert_head,
    fun _ _ _ => perstNRelease_head,
    fun _ _ => wakeNEdge_enabled,
    fun _ _ _ _ _ => wakePatternMatch_hit,
    fun _ _ _ => stateTransitionComplete_over,
    fun _ _ _ => TestPort.load_instr,
    fun _ _ _ l hheld => TestPort.load_held hheld ▸ ⟨rfl, TestPort.idcode_drives _ l⟩,
    fun _ _ hdrives => TestPort.other_of_drives hdrives ▸ ⟨by simp, by simp⟩⟩

/-! ### Islands, clocks, rails, temperature and the companion (R519 to R522, R525, R526) -/

section
variable {s : State} {a : Instant}

/-- With no injection firing, the reading is the junction's temperature. -/
theorem reading_uninjected (c : Int) : (if c < 114 then min 114 (c + 0) else c) = c := by
  split <;> omega

theorem temperatureSample_normal {c : Int} (hmode : s.aon.mode ≠ .off) (hlow : c ≤ 103) (hnone : (s.advance a).firing 12 0 = none) :
    exec (.temperatureSample a c) s = .next (((s.advance a).occasion 12 0 false).2.setAon (fun x => { x with temp := c })) := by
  have hhot : decide (103 < c) = false := decide_eq_false (by omega)
  change execTemperatureSample a c s = _
  simp only [execTemperatureSample, State.advance_aon, hnone, reading_uninjected, hmode, hhot, hlow, if_false, if_true]

theorem temperatureSample_hot {c : Int} {t : State} (hmode : s.aon.mode ≠ .off) (hhot : 103 < c) (hnone : (s.advance a).firing 12 0 = none)
    (ht : t = ((((((s.advance a).occasion 12 0 true).2.setAon (fun x => { x with temp := c })).setRb Reg.AON_STAT 0 true).count Reg.AON_HOT 1).vector
      22).detect 12 false (c : Rat) [word c.toNat]) :
    exec (.temperatureSample a c) s = .next (if 115 < c then
      ((t.setAon (fun x => { x with hotOff := true, offHeld := true })).addCause 3).powerDown else t.vector 15) := by
  have hreal : decide (103 < c) = true := by simpa using hhot
  subst ht
  change execTemperatureSample a c s = _
  simp only [execTemperatureSample, State.advance_aon, hnone, reading_uninjected, hmode, hreal, Int.not_le.mpr hhot, decide_false, if_false]

/-- The expiries of an island's watchdog in the 10 s up to now, this one among them. -/
def State.expiries (s : State) (i : Nat) : List Nat :=
  ((lookup s.aon.wdTimes i).getD []).filter (fun u => decide (s.up < u + sec 10)) ++ [s.up]

theorem islandWatchdogExpiry_occasion {i : Fin 23} {r b : Bool} {l : List Nat} {t : State} (hruns : s.runs i.val = true)
    (hocc : ((s.advance a).occasion 2 i.val r).1 = some b) (hl : l = (s.advance a).expiries i.val)
    (ht : t = (((((s.advance a).occasion 2 i.val r).2.watchdogReset i.val b).setAon (fun x => { x with wdTimes := setKey x.wdTimes i.val l })).count
      Reg.AON_WD_EXPIRE 1).detect 2 b 0 [word i.val]) :
    exec (.islandWatchdogExpiry a i r) s = .next (if l.length < 3 then t.runAgain i.val
      else (t.setAon (fun x => { x with held := x.held ++ [i.val], lastHeld := i.val, wdTimes := setKey x.wdTimes i.val [] })).addCause 1) := by
  subst ht
  subst hl
  change execIslandWatchdogExpiry a i r s = _
  simp only [execIslandWatchdogExpiry, State.advance_runs, hruns, hocc, Bool.not_true, Bool.false_eq_true, if_false] <;> rfl

theorem railWindowFault_occasion {i : Fin 6} {r b : Bool} (hmode : s.aon.mode ≠ .off) (hocc : ((s.advance a).occasion 11 i.val r).1 = some b) :
    exec (.railWindowFault a i r) s = .next (((((s.advance a).occasion 11 i.val r).2.setFlt (fun f => { f with
      injCauses := if b then (if s.aon.causes.contains 5 then f.injCauses else f.injCauses ++ [5]) else f.injCauses.filter (· != 5) })).addCause
        5).detect 11 b 0 [word i.val]) := by
  change execRailWindowFault a i r s = _
  simp only [execRailWindowFault, State.advance_aon, hmode, hocc, if_false] <;> rfl

theorem pllLockLoss_occasion {i : Fin 23} {r b : Bool} (hruns : s.runs i.val = true) (hocc : ((s.advance a).occasion 13 i.val r).1 = some b) :
    exec (.pllLockLoss a i r) s = .next (((((s.advance a).occasion 13 i.val r).2.resetIsland i.val 0).detect 13 b 0 [word i.val]).setAon (fun x =>
      { x with pllHeld := x.pllHeld ++ [i.val] })) := by
  change execPllLockLoss a i r s = _
  simp only [execPllLockLoss, State.advance_runs, hruns, hocc, Bool.not_true, Bool.false_eq_true, if_false]

theorem cpmMarginLoss_occasion {i : Fin 23} {r b : Bool} {t : State} (hruns : s.runs i.val = true)
    (hocc : ((s.advance a).occasion 10 i.val r).1 = some b) (ht : t = ((s.advance a).occasion 10 i.val r).2.detect 10 b 0 [word i.val]) :
    exec (.cpmMarginLoss a i r) s = .next (t.nextFree.setAon (fun x => { x with
      stretch := updAt x.stretch i.val (fun _ => some (t.up + us 10, match (t.aon.stretch[i.val]?).getD none with
        | some (_, f) => f
        | none => (t.aon.freq[i.val]?).getD 0))
      freq := updAt x.freq i.val (fun _ => Config.stretchedMhz t.free i.val) })) := by
  subst ht
  change execCpmMarginLoss a i r s = _
  simp only [execCpmMarginLoss, State.advance_runs, hruns, hocc, Bool.not_true, Bool.false_eq_true, if_false] <;> rfl

theorem clockStretchEnd_stretched {i : Fin 23} {u f : Nat} (hstretch : (s.aon.stretch[i]?).getD none = some (u, f)) : exec (.clockStretchEnd i) s =
    .next ((s.advanceUp u).setAon (fun x => { x with
      stretch := updAt x.stretch i.val (fun _ => none), freq := updAt x.freq i.val (fun _ => f) })) := by
  change execClockStretchEnd i s = _
  unfold execClockStretchEnd
  rw [show (s.aon.stretch[i.val]?).getD none = some (u, f) from hstretch]

theorem tcPresChange_powered {b : Bool} (hmode : s.aon.mode ≠ .off) : exec (.tcPresChange a b) s = .next ((s.advance a).companionChange b) :=
  congrArg Host.Outcome.next (if_neg hmode)

theorem tc10IdentityReadComplete_due {r : CompanionRead} {u : Nat} (hdue : s.aon.comp.readDue = some u) (hpresent : s.aon.comp.present = true) :
    exec (.tc10IdentityReadComplete a r) s = .next ((s.advance a).takeIdentity r) :=
  congrArg Host.Outcome.next (if_pos (by simp [hdue, hpresent]))

theorem tc10WarmupEnd_due {u : Nat} (hdue : s.aon.comp.warmDue = some u) : exec .tc10WarmupEnd s =
    .next ((s.advanceUp u).setAon (fun x => { x with comp := { x.comp with warmDue := none, inUse := true, reason := 0 } })) := by
  change execTc10WarmupEnd s = _
  rw [execTc10WarmupEnd, hdue]

end

/-- Settles O44, event by event; the relock of a PLL has no condition. -/
theorem islandHealthEventsComplete : Obligations.IslandHealthEventsComplete :=
  ⟨fun _ _ _ => temperatureSample_normal,
    fun _ _ _ _ => temperatureSample_hot,
    fun _ _ _ _ _ _ _ => islandWatchdogExpiry_occasion,
    fun _ _ _ _ _ => railWindowFault_occasion,
    fun _ _ _ _ _ => pllLockLoss_occasion,
    fun _ _ _ => rfl,
    fun _ _ _ _ _ _ => cpmMarginLoss_occasion,
    fun _ _ _ _ => clockStretchEnd_stretched,
    fun _ _ _ => tcPresChange_powered,
    fun _ _ _ _ => tc10IdentityReadComplete_due,
    fun _ _ => tc10WarmupEnd_due⟩

end Sys2Proof.Machine
end

section
/-! PROOFS. The statements of redundant pairs: the pair commands (O38), and the events of the interlock (O39), of the peer lane (O40), and of the
state copy and of swaps (O41). -/

namespace Sys2Proof.Machine

/-! ### The pair commands (R486, R488, R500, R502, R503, R506) -/

section
variable {s : State} {h : Hdr}

/-- A change of the pair's state leaves the commands in flight. -/
theorem State.enterPair_flights (s : State) (st : PairState) (cause : Nat) (inj : Bool) :
    (s.enterPair st cause inj).cmd.flights = s.cmd.flights := by
  unfold State.enterPair
  dsimp only
  split
  · rfl
  · rw [State.raiseAs_cmd]
    dsimp only
    split <;> simp

theorem bodyPairForm_unpaired {b p : Bool} (hst : s.pair.st = .unpaired) (hwants : s.pair.wants = false) :
    bodyPairForm b p s = ok [] ((((s.setRb Reg.PAIR_CTL 1 b).setRb Reg.PAIR_CTL 2 p).setRb Reg.PAIR_CTL 0 true).formPair p) :=
  if_neg (by simp [hst, hwants])

/-- The module as the source of a copy that a command asked for. -/
def State.startCopy (s : State) (h : Hdr) : State :=
  (s.enterPair .copySrc 0 false).setPair (fun q => { q with copy := { noCopy with phase := 1, command := some (h.session, h.seq) } })

theorem State.startCopy_flight {n : Fin 4} {q : Word} {m k : PeerMsg} :
    (((s.startCopy h).peerOut m).peerOut k).flight? n q = s.flight? n q := by
  rw [State.flight?, State.peerOut, State.peerOut, State.startCopy, State.setPair_cmd, State.setPair_cmd, State.setPair_cmd,
    State.enterPair_flights, ← State.flight?]

theorem bodyPairJoin_listening {x : Heartbeat} (hst : s.pair.st = .solo) (hpeer : s.pair.peer = some x) (hlane : s.pair.lane = true)
    (hside : x.sideB ≠ s.sideB) (hready : x.st = .listen ∨ x.st = .unverified) :
    bodyPairJoin h s = .accepted (((s.startCopy h).peerOut .join).peerOut (.settings (s.startCopy h).image)) := by
  have hsides : ¬ (x.sideB == s.sideB) = true := by simpa using hside
  have hjoins : ¬ (x.st != .listen && x.st != .unverified) = true := by obtain hst' | hst' := hready <;> simp [hst']
  refine (if_neg (by simp [hst])).trans ?_
  rw [hpeer]
  exact (if_neg (by simp [hlane])).trans <| (if_neg hsides).trans (if_neg hjoins)

theorem bodyPairSwap_standby (hst : s.pair.st = .active) (hpeer : s.peerStandby = true) (hidle : s.pair.swap = none)
    (hverified : ∀ x, s.pair.peer = some x → x.st ≠ .unverified) :
    bodyPairSwap h s = .accepted (s.startSwap (some (h.session, h.seq))) := by
  have hpeer' : ¬ s.peerUnverified = true := by
    unfold State.peerUnverified
    split
    next x hgiven => simpa using hverified x hgiven
    next => decide
  exact (if_neg hpeer').trans (if_pos (by simp [hst, hpeer, hidle]))

theorem bodyPairSwapSched_inRange {k : Nat} (hrange : k ≤ 720) : bodyPairSwapSched k s =
    ok [] ((s.setRf Reg.PAIR_SWAP_CTL 9 0 k).setPair (fun p => { p with lastSwap := some (p.lastSwap.getD s.now) })) :=
  if_neg (Nat.not_lt.mpr hrange)

theorem bodyPairRestart_orphan (hst : s.pair.st = .orphan) (hphase : s.pair.copy.phaseA = true) : bodyPairRestart h s =
    .accepted (((s.enterPair .solo 0 false).setPair (fun p => { p with
      copy := noCopy, restart := some (h.session, h.seq) })).startClaim.restartAllOf) :=
  if_neg (by simp [hst, hphase])

theorem bodyPairTune_inRange {a : PairTuneArgs} (hquiet : outside 5 40 a.quiet = false) (hmiss : outside 4 255 a.hbMiss = false)
    (hack : outside 100 10000 a.ackUs = false) (hcheck : outside 10 10000 a.checkMs = false) :
    bodyPairTune a s = ok [] ((((s.setSome Reg.PAIR_TMO 5 0 a.quiet).setSome Reg.PAIR_TMO 15 8 a.hbMiss).setSome Reg.PAIR_TMO 29 16 a.ackUs).setSome
      Reg.PAIR_SWAP_CTL 29 16 a.checkMs) :=
  if_neg (by simp [hquiet, hmiss, hack, hcheck])

/-- PAIR_RESTART at its turn, in an ORPHAN that holds every setting. -/
theorem pairRestart_orphan {g : Flight} {t : State} (hready : Ready 0x1205 h s) (hst : s.pair.st = .orphan) (hphase : s.pair.copy.phaseA = true)
    (ht : t = (((s.turn 0x1205 h).enterPair .solo 0 false).setPair (fun p => { p with
      copy := noCopy, restart := some (h.session, h.seq) })).startClaim.restartAllOf)
    (hlocks : (s.turn 0x1205 h).breaksLock t = false) (hflight : t.flight? h.session h.seq = some g) :
    exec (.pairRestart h) s = .next ((s.returned 0x1205 h t).postAccepted g) := by
  have hbody : bodyPairRestart h (s.turn 0x1205 h) = .accepted t :=
    ht ▸ bodyPairRestart_orphan (State.turn_pair (s := s) ▸ hst) (State.turn_pair (s := s) ▸ hphase)
  exact congrArg Host.Outcome.next (runCmdAs_accepted hready hbody hlocks (State.returned_flight.trans hflight))

end

/-- Settles O38, command by command: each body ends in its effect under the stated conditions. -/
theorem pairCommandsComplete : Obligations.PairCommandsComplete := by
  refine ⟨fun h => ?status, fun h b p => ?form, fun h x => ?join, fun h => ?swap, fun h k => ?sched, fun h g t s => ?restart, fun h => ?split,
    fun h a => ?tune⟩
  case status => exact reads_of (fun _ => rfl) (fun _ => ⟨_, rfl⟩)
  case form => exact performs_of (fun _ => rfl) (fun _ ⟨hst, hwants⟩ => ⟨[], bodyPairForm_unpaired hst hwants⟩)
  case join =>
    refine accepts_of (fun _ => rfl) ?_ (fun n => State.startCopy_flight (s := n) (h := h))
    rintro n ⟨hst, hpeer, hlane, hside, hready⟩
    exact bodyPairJoin_listening hst hpeer hlane hside hready
  case swap =>
    refine accepts_of (fun _ => rfl) ?_ (fun _ => rfl)
    rintro n ⟨hst, hpeer, hidle, hverified⟩
    exact bodyPairSwap_standby hst hpeer hidle hverified
  case sched => exact performs_of (fun _ => rfl) (fun _ hrange => ⟨[], bodyPairSwapSched_inRange hrange⟩)
  case restart => exact pairRestart_orphan
  case split => exact performs_of (fun _ => rfl) (fun _ _ => ⟨[], rfl⟩)
  case tune =>
    refine performs_of (fun _ => rfl) ?_
    rintro n ⟨hquiet, hmiss, hack, hcheck⟩
    exact ⟨[], bodyPairTune_inRange hquiet hmiss hack hcheck⟩

/-! ### The interlock (R479 to R482, R487) -/

section
variable {s : State} {a : Instant}

theorem interlockWatchdogFeed_holder (hholds : s.pair.st.holds = true) (hruns : s.runs Isle.pair = true) (htrip : s.pair.wdTrip = none)
    (hcauses : s.aon.causes = []) :
    exec (.interlockWatchdogFeed a) s = .next ((s.advance a).setPair (fun p => { p with fed := (s.advance a).up })) :=
  congrArg Host.Outcome.next (if_pos (by simp [State.advance_runs, hholds, hruns, htrip, hcauses]))

theorem interlockWatchdogExpiry_driving (hdriving : s.pair.driving = true) :
    exec .interlockWatchdogExpiry s = .next ((s.advanceUp (s.pair.fed + us 2)).loseInterlock (s.pair.wdTrip.getD false)) :=
  if_pos hdriving

theorem ownWaveLost_occasion {r b : Bool} (hdriving : s.pair.driving = true) (hseen : s.pair.ownSeen = true)
    (hocc : ((s.advance a).occasion 19 0 r).1 = some b) :
    exec (.ownWaveLost a r) s = .next ((((s.advance a).occasion 19 0 r).2.detect 19 b 0 []).loseInterlock b) := by
  have hboth : (s.advance a).occasion 19 0 r = (some b, ((s.advance a).occasion 19 0 r).2) := by rw [← hocc]
  have hown : (s.pair.driving && s.pair.ownSeen) = true := by simp [hdriving, hseen]
  refine (if_pos hown).trans ?_
  rw [hboth]

/-- The module once the line is quiet, where it does not drive it. -/
def State.quiet (s : State) : State := s.setPair (fun p => { p with lineBusy := false })

/-- The module may claim: it does not drive the line, waits for no back-off, and its pair island runs. -/
theorem State.mayClaim (hdriving : s.pair.driving = false) (hbackoff : s.pair.backoff = none) (hruns : s.runs Isle.pair = true) :
    (!(s.advance a).quiet.pair.driving && (s.advance a).quiet.pair.backoff.isNone && (s.advance a).quiet.runs Isle.pair) = true := by
  have hnow : (s.advance a).quiet.runs Isle.pair = true := hruns
  simp [State.quiet, hdriving, hbackoff] at hnow ⊢
  exact hnow

theorem interlockQuiet_undriven (hdriving : s.pair.driving = false) :
    exec (.interlockQuiet a) s = (
      let n := (s.advance a).quiet
      let may := !n.pair.driving && n.pair.backoff.isNone && n.runs Isle.pair
      match s.pair.st with
      | .copyDst => .next (n.enterPair .orphan 10 n.peerInj)
      | .standby => .next (if may && !(match s.pair.swap with | some (.released due) => decide (n.up < due) | _ => false) then n.startClaim else n)
      | .unverified => .next (if may then n.startClaim else n)
      | .unpaired => .next (if may && s.pair.wants then n.startClaim else n)
      | _ => .next n) := by
  have hnow : ¬ (s.advance a).pair.driving = true := by simp [hdriving]
  change execInterlockQuiet a s = _
  unfold execInterlockQuiet
  dsimp only
  rw [if_neg hnow]
  rfl

theorem interlockQuiet_claims {n : State} (hn : n = (s.advance a).setPair (fun p => { p with lineBusy := false }))
    (hdriving : s.pair.driving = false) (hbackoff : s.pair.backoff = none) (hruns : s.runs Isle.pair = true)
    (heligible : s.pair.st = .unverified ∨ (s.pair.st = .unpaired ∧ s.pair.wants = true) ∨
      (s.pair.st = .standby ∧ ∀ u, s.pair.swap = some (.released u) → u ≤ n.up)) :
    exec (.interlockQuiet a) s = .next n.startClaim := by
  have hmay := State.mayClaim (a := a) hdriving hbackoff hruns
  subst hn
  rw [interlockQuiet_undriven hdriving]
  obtain hst | ⟨hst, hwants⟩ | ⟨hst, hdue⟩ := heligible
  · simp only [hst]
    exact congrArg Host.Outcome.next (if_pos hmay)
  · simp only [hst]
    exact congrArg Host.Outcome.next (if_pos (by rw [hmay, hwants]; rfl))
  · simp only [hst, hmay]
    refine congrArg Host.Outcome.next (if_pos ?_)
    split
    next due hreleased =>
      have hover : ¬ (s.advance a).quiet.up < due := Nat.not_lt.mpr (hdue due hreleased)
      simp [hover]
    next => rfl

theorem interlockQuiet_copyTarget {n : State} (hn : n = (s.advance a).setPair (fun p => { p with lineBusy := false }))
    (hdriving : s.pair.driving = false) (hst : s.pair.st = .copyDst) :
    exec (.interlockQuiet a) s = .next (n.enterPair .orphan 10 n.peerInj) := by
  subst hn
  rw [interlockQuiet_undriven hdriving]
  simp only [hst]
  rfl

theorem claimConfirm_seen {c : Nat} (hclaim : s.pair.claim = some c) (hnone : (s.advance a).firing 19 0 = none) :
    exec (.claimConfirm a true) s = .next (s.advance a).takeOver := by
  have hclaims : ¬ s.pair.claim.isNone = true := by simp [hclaim]
  exact (if_neg hclaims).trans (if_pos (by simp [hnone]))

/-- A claim that is not confirmed, or whose confirmation an injection keeps out of sight, backs off. -/
theorem claimConfirm_unseen {c : Nat} {b : Bool} {n : State} (hclaim : s.pair.claim = some c) (hunseen : b = false ∨ (s.advance a).firing 19 0 ≠ none)
    (hn : n = ((s.advance a).pairCount 9 1).setPair (fun p => { p with
      driving := false, claim := none, backoff := some ((s.advance a).up + us (if s.sideB then 4 else 2)) })) :
    exec (.claimConfirm a b) s = .next (if s.pair.restart = none then n else n.loseInterlock false) := by
  have hclaims : ¬ s.pair.claim.isNone = true := by simp [hclaim]
  have hblind : ¬ (b && ((s.advance a).firing 19 0).isNone) = true := by
    obtain hfalse | hfires := hunseen
    · simp [hfalse]
    · simp [hfires]
  subst hn
  refine (if_neg hclaims).trans ((if_neg hblind).trans (congrArg Host.Outcome.next ?_))
  by_cases hrestart : s.pair.restart = none
  · exact (if_neg (by simpa [State.pairCount] using hrestart)).trans (if_pos hrestart).symm
  · exact (if_pos (by simpa [State.pairCount, Option.isSome_iff_ne_none] using hrestart)).trans (if_neg hrestart).symm

theorem claimBackoffEnd_due {u : Nat} (hdue : s.pair.backoff = some u) :
    exec .claimBackoffEnd s = .next ((s.advanceUp u).setPair (fun p => { p with backoff := none })) := by
  change execClaimBackoffEnd s = _
  rw [execClaimBackoffEnd, hdue]

theorem preferActiveContendTimeout_wanting (hwants : s.pair.wants = true) (hst : s.pair.st = .unpaired) :
    exec (.preferActiveContendTimeout a) s = .next ((((s.advance a).pairCount 9 1).enterPair .listen 0 false).setPair (fun p => { p with
      wants := false, gate := false, driving := false, claim := none, backoff := none })).cutPorts :=
  congrArg Host.Outcome.next (if_pos (by simp [hwants, hst]))

end

/-- Settles O39, event by event. -/
theorem interlockEventsComplete : Obligations.InterlockEventsComplete :=
  ⟨fun _ _ => interlockWatchdogFeed_holder,
    fun _ => interlockWatchdogExpiry_driving,
    fun _ _ _ _ => ownWaveLost_occasion,
    fun _ _ _ => interlockQuiet_claims,
    fun _ _ _ => interlockQuiet_copyTarget,
    fun _ _ _ => claimConfirm_seen,
    fun _ _ _ _ _ => claimConfirm_unseen,
    fun _ _ => claimBackoffEnd_due,
    fun _ _ => preferActiveContendTimeout_wanting⟩

/-! ### The peer lane (R490, R491, R493, R494, R496) -/

section
variable {s : State} {a : Instant}

theorem pairHeartbeatSend_running (hruns : s.runs Isle.pair = true) : exec (.pairHeartbeatSend a) s = .next (s.advance a).sendHeartbeat :=
  congrArg Host.Outcome.next (if_pos ((State.advance_runs s a _).trans hruns))

theorem State.laneFrame_passes {crcOk : Bool} {take : State → State} {t : State} (hocc : s.occasion 17 1 (!crcOk) = (none, t))
    (hruns : t.runs Isle.pair = true) : s.laneFrame crcOk take = take t := by
  rw [State.laneFrame, hocc]
  exact if_pos hruns

theorem State.laneFrame_drops {crcOk : Bool} {take : State → State} {i : Bool} {t : State} (hocc : s.occasion 17 1 (!crcOk) = (some i, t)) :
    s.laneFrame crcOk take = (t.pairCount 8 1).detect 17 i 0 [1#32] := by
  rw [State.laneFrame, hocc]

theorem peerLaneLoss_up (hlane : s.pair.lane = true) : exec (.peerLaneLoss a) s = .next ((s.advance a).pairCount 8 s.hbMiss).loseLane :=
  congrArg Host.Outcome.next (if_pos hlane)

theorem pairAckTimeout_overdue {l : SentList} (hoverdue : s.firstOverdue = some l) : exec .pairAckTimeout s =
    .next ((((((s.advanceUp l.due).pairCount 7 1).setPair (fun p => { p with forced := l.group :: p.forced.filter (· != l.group) })).enterPair .solo 5
      ((s.advanceUp l.due).pairCount 7 1).peerInj).setPair (fun p => { p with swap := none })).commitHead l.group) := by
  change execPairAckTimeout s = _
  rw [execPairAckTimeout, hoverdue]

end

/-- Settles O40, event by event: what comes over the lane goes through its check first. -/
theorem peerLaneEventsComplete : Obligations.PeerLaneEventsComplete :=
  ⟨fun _ _ => pairHeartbeatSend_running,
    fun _ _ _ _ hocc hruns => congrArg Host.Outcome.next (State.laneFrame_passes hocc hruns),
    fun _ _ _ _ _ hocc => congrArg Host.Outcome.next (State.laneFrame_drops hocc),
    fun _ _ => peerLaneLoss_up,
    fun _ _ _ _ hocc hruns => congrArg Host.Outcome.next (State.laneFrame_passes hocc hruns),
    fun _ _ _ _ hocc hruns => congrArg Host.Outcome.next (State.laneFrame_passes (crcOk := true) hocc hruns),
    fun _ _ _ _ _ hocc hruns => congrArg Host.Outcome.next (State.laneFrame_passes (crcOk := true) hocc hruns),
    fun _ _ => pairAckTimeout_overdue,
    fun _ _ _ _ hocc hruns => congrArg Host.Outcome.next (State.laneFrame_passes (crcOk := true) hocc hruns)⟩

/-! ### The state copy (R488, R489) -/

section
variable {s : State} {a : Instant}

theorem copyPhaseAComplete_source {x : Option PairImage} (hphase : s.pair.copy.phase = 1) (hst : s.pair.st = .copySrc) :
    exec (.copyPhaseAComplete a x) s = .next ((s.advance a).setCopy (fun c => { c with
      phase := 2, phaseA := true, tCut := some (ceilSec ((s.advance a).now + ms 100)), due := some ((s.advance a).up + sec 5) })) := by
  change execCopyPhaseAComplete a x s = _
  simp only [execCopyPhaseAComplete, State.advance_pair, hphase, hst, ne_eq, not_true_eq_false, if_false]

theorem copyPhaseAComplete_target {x : PairImage} (hphase : s.pair.copy.phase = 1) (hst : s.pair.st = .copyDst) :
    exec (.copyPhaseAComplete a (some x)) s =
      .next (((s.advance a).installSettings x).setCopy (fun c => { c with phase := 2, phaseA := true })) := by
  change execCopyPhaseAComplete a (some x) s = _
  simp only [execCopyPhaseAComplete, State.advance_pair, hphase, hst, ne_eq, not_true_eq_false, if_false]

theorem copyTCut_source {t : Instant} (hst : s.pair.st = .copySrc) (hcut : s.pair.copy.tCut = some t) :
    exec .copyTCut s = .next ((s.advance t).peerOut (.image t (s.advance t).image)) := by
  change execCopyTCut s = _
  rw [execCopyTCut, hst, hcut]

theorem copyImageInstalled_target {x : PairImage} (hphase : s.pair.copy.phase = 2) (hst : s.pair.st = .copyDst) :
    exec (.copyImageInstalled a (some x)) s = .next (
      let n := (((s.advance a).installImage x).setCopy (fun c => { c with phase := 3 })).replayRaw
      State.serveLists n.pair.work.length n) := by
  have hphaseNow : ¬ (s.advance a).pair.copy.phase ≠ 2 := not_not_intro hphase
  have hstNow : (s.advance a).pair.st = .copyDst := hst
  change execCopyImageInstalled a (some x) s = _
  unfold execCopyImageInstalled
  dsimp only
  rw [if_neg hphaseNow, hstNow]

theorem copyImageInstalled_source {x : Option PairImage} {t : Instant} (hphase : s.pair.copy.phase = 2) (hst : s.pair.st = .copySrc)
    (hcut : s.pair.copy.tCut = some t) (hdue : t ≤ (s.advance a).now) :
    exec (.copyImageInstalled a x) s = .next ((s.advance a).setCopy (fun c => { c with phase := 3 })) := by
  have hphaseNow : ¬ (s.advance a).pair.copy.phase ≠ 2 := not_not_intro hphase
  have hstNow : (s.advance a).pair.st = .copySrc := hst
  have hcutNow : (s.advance a).pair.copy.tCut = some t := hcut
  change execCopyImageInstalled a x s = _
  unfold execCopyImageInstalled
  dsimp only
  rw [if_neg hphaseNow, hstNow]
  dsimp only
  rw [hcutNow, if_pos (decide_eq_true hdue)]

/-- A copy in phase C whose running groups are all live is not passed over. -/
theorem State.copyLive {n : State} (hphase : n.pair.copy.phase = 3) (hlive : n.allLive = true) :
    ¬ (decide (n.pair.copy.phase ≠ 3) || !n.allLive) = true := by
  simp [hphase, hlive]

theorem copyComplete_source (hphase : s.pair.copy.phase = 3) (hlive : (s.advance a).allLive = true) (hst : s.pair.st = .copySrc) :
    exec (.copyComplete a) s = .next ((((s.advance a).enterPair .active 0 false).setPair (fun p => { p with
      copy := noCopy })).endCommand s.pair.copy.command St.OK) := by
  change execCopyComplete a s = _
  unfold execCopyComplete
  dsimp only
  rw [if_neg (State.copyLive (n := s.advance a) hphase hlive)]
  simp only [State.advance_pair, hst]

theorem copyComplete_target (hphase : s.pair.copy.phase = 3) (hlive : (s.advance a).allLive = true) (hst : s.pair.st = .copyDst) :
    exec (.copyComplete a) s = .next (((s.advance a).enterPair .standby 0 false).setPair (fun p => { p with copy := noCopy })) := by
  change execCopyComplete a s = _
  unfold execCopyComplete
  dsimp only
  rw [if_neg (State.copyLive (n := s.advance a) hphase hlive)]
  simp only [State.advance_pair, hst]

theorem copyTimeout_source {u : Nat} (hst : s.pair.st = .copySrc) (hdue : s.pair.copy.due = some u) :
    exec .copyTimeout s = .next ((s.advanceUp u).failCopy .solo 9 false) := by
  change execCopyTimeout s = _
  rw [execCopyTimeout, hst, hdue]

/-! ### Swaps (R500 to R502) -/

theorem swapFramesDrained_drained (hst : s.pair.st = .active) (hswap : s.pair.swap = some .draining) (hdrained : s.speakingFrames = false) :
    exec (.swapFramesDrained a) s = .next (s.advance a).passSwap := by
  have hgone : (s.advance a).speakingFrames = false := hdrained
  exact congrArg Host.Outcome.next (if_neg (by simp [hst, hswap, hgone]))

theorem swapCheckExpiry_passed {u : Nat} (hswap : s.pair.swap = some (.checking u)) (hpasses : (s.advanceUp u).swapFails = false) :
    exec .swapCheckExpiry s = .next (((s.advanceUp u).setPair (fun p => { p with
      swap := none, swapCmd := none, lastSwap := some (s.advanceUp u).now })).endCommand s.pair.swapCmd St.OK) := by
  change execSwapCheckExpiry s = _
  simp only [execSwapCheckExpiry, hswap, hpasses, Bool.and_false, Bool.false_eq_true, if_false]

theorem swapCheckFail_failed {u : Nat} (hswap : s.pair.swap = some (.checking u)) (hst : s.pair.st = .active)
    (hfails : (s.advance a).swapFails = true) :
    exec (.swapCheckFail a) s = .next ((((s.advance a).noteSwapFail.releaseIlk).setPair (fun p => { p with
      swap := none, swapBad := false, switchPend := none })).unverify 8 false) := by
  change execSwapCheckFail a s = _
  simp only [execSwapCheckFail, State.advance_pair, hswap, hst, hfails, beq_self_eq_true, Bool.and_self, if_true]

theorem scheduledSwap_due {t : Instant} (hdue : s.nextSwap = some t) (hst : s.pair.st = .active) (hpeer : s.peerStandby = true)
    (hidle : s.pair.swap = none) : exec .scheduledSwap s = .next ((s.advance (max t (ceilSec s.now))).startSwap none) := by
  have hpeerThen (u : Instant) : (s.advance u).peerStandby = true := hpeer
  change execScheduledSwap s = _
  rw [execScheduledSwap, hdue]
  exact congrArg Host.Outcome.next (if_pos (by simp [hst, hidle, hpeerThen]))

end

/-- Settles O41, event by event; a check that passes ends the swap whatever the module's state is. -/
theorem copyAndSwapEventsComplete : Obligations.CopyAndSwapEventsComplete :=
  ⟨fun _ _ _ => copyPhaseAComplete_source,
    fun _ _ _ => copyPhaseAComplete_target,
    fun _ _ => copyTCut_source,
    fun _ _ _ => copyImageInstalled_target,
    fun _ _ _ _ => copyImageInstalled_source,
    fun _ _ => copyComplete_source,
    fun _ _ => copyComplete_target,
    fun _ _ => copyTimeout_source,
    fun _ _ => swapFramesDrained_drained,
    fun _ _ hswap _ hpasses => swapCheckExpiry_passed hswap hpasses,
    fun _ _ _ => swapCheckFail_failed,
    fun _ _ => scheduledSwap_due⟩

end Sys2Proof.Machine
end

section
/-! PROOFS. The events of the command block (O4): accesses without a command, and commands on their way. -/

namespace Sys2Proof.Machine

section
variable {s : State} {a : Instant}

/-! ### Accesses without a command (R7, R411, R412, R438, R531) -/

theorem State.lockBlock_lockable {b : Fin 20} {p : Fin 10} (hlock : hasLock (ctlReg b p) = true) (htakes : s.takesWrites (ctlReg b p) = true) :
    s.lockBlock b p = s.setRb (ctlReg b p) 31 true :=
  if_pos (by simp [hlock, htakes])

theorem regWritePlain_permitted {addr v : Word} (hinj : isInjReg addr.toNat = true → (s.advance a).injAllowed = true) :
    exec (.regWritePlain a addr v) s = .next ((s.advance a).writeReg 0 addr.toNat v) :=
  congrArg Host.Outcome.next (if_neg (by simpa using hinj))

theorem sqDoorbell_open {k : Nat} (hopen : (s.advance a).barOpen = true) : exec (.sqDoorbell a k) s = .next ((s.advance a).writeTail k) :=
  congrArg Host.Outcome.next (if_pos hopen)

theorem rqHeadFree_open {k : BitVec 8} (hopen : (s.advance a).barOpen = true) :
    exec (.rqHeadFree a k) s = .next ((s.advance a).freeReplies k.toNat) :=
  congrArg Host.Outcome.next (if_pos hopen)

theorem heartbeatFeed_open (hopen : (s.advance a).barOpen = true) : exec (.heartbeatFeed a) s = .next (s.advance a).feedHeartbeat :=
  congrArg Host.Outcome.next (if_pos hopen)

theorem fetchEnable_open (hopen : (s.advance a).barOpen = true) : exec (.fetchEnable a) s = .next ((s.advance a).enableFetch true) :=
  congrArg Host.Outcome.next (if_pos hopen)

theorem fetchDisable_open (hopen : (s.advance a).barOpen = true) : exec (.fetchDisable a) s = .next ((s.advance a).enableFetch false) :=
  congrArg Host.Outcome.next (if_pos hopen)

/-! ### Commands that reach the module (R411, R426, R430, R484) -/

theorem commandFetch_room {op : BitVec 16} {h : Hdr} (hfetch : (s.advance h.at_).fetchable = true)
    (hroom : (s.advance h.at_).roomFor op.toNat h = true) :
    exec (.commandFetch op h) s = .next ((s.advance h.at_).takeSlot.checkAndAdmit op.toNat { h with via := .host }) := by
  have hroomHost : (s.advance h.at_).roomFor op.toNat { h with via := .host } = true := hroom
  exact congrArg Host.Outcome.next ((if_neg (by simp [hfetch])).trans (if_neg (by simp [hroomHost])))

theorem routedCommandReceive_member {op : BitVec 16} {h : Hdr} (hruns : (s.advance h.at_).runs Isle.control = true)
    (hring : (s.advance h.at_).inRing = true) :
    exec (.routedCommandReceive op h) s = .next (((s.advance h.at_).learnGen hostIdent h.hostGen).addFlight
      ((s.advance h.at_).newFlight op.toNat { h with via := .ring } .admitted 0)) :=
  congrArg Host.Outcome.next (if_pos (by simp [hruns, hring]))

theorem mirroredCommandReceive_paired {op : BitVec 16} {h : Hdr} (hruns : (s.advance a).runs Isle.control = true)
    (hpaired : s.pair.st ≠ .unpaired) :
    exec (.mirroredCommandReceive a op h) s =
      .next ((s.advance a).addFlight ((s.advance a).newFlight op.toNat { h with via := .peer } .admitted 0)) :=
  congrArg Host.Outcome.next (if_pos (by simp [hruns, hpaired]))

theorem mirrorAckReceive_mirroring {n : Fin 4} {q : Word} {st : BitVec 16} {f : Flight} (hflight : (s.advance a).flight? n q = some f)
    (hst : f.st = .mirroring) : exec (.mirrorAckReceive a n q st) s = .next (if tookEffect st.toNat = true
      then (s.advance a).updFlights (List.map (fun g => if g.is n q then { g with st := .mirrored } else g))
      else (s.advance a).postFinal f st.toNat []) := by
  change execMirrorAckReceive a n q st s = _
  simp only [execMirrorAckReceive, hflight]
  exact congrArg Host.Outcome.next (if_neg (by simp [hst]))

/-! ### Timeouts, watchdogs, leases, coalescing and aggregates (R428, R429, R431, R435, R437, R438) -/

theorem commandTimeout_uncommitted {n : Fin 4} {q : Word} {f : Flight} (hflight : s.flight? n q = some f) (hopen : f.uncommitted = true) :
    exec (.commandTimeout n q) s = .next (
      let t := ((((s.advanceUp f.due).abandon f (timeoutStatus f)).count (Reg.CMD_CNT 2) 1)).raise 22 (f.limit : Rat)
        [word n.val, word f.opcode, word f.tag]
      if f.st == .mirroring && t.pair.st == .active then t.enterPair .solo 6 false else t) := by
  change execCommandTimeout n q s = _
  simp only [execCommandTimeout, hflight]
  exact congrArg Host.Outcome.next (if_neg (by simp [hopen]))

theorem coreWatchdogExpiry_occasion {c : Fin 4} {l : List (Fin 4 × Word)} {i : Bool} (hruns : (s.advance a).runs Isle.control = true)
    (hocc : ((s.advance a).occasion 3 c.val true).1 = some i) : exec (.coreWatchdogExpiry a c true l) s =
      .next ((((s.advance a).occasion 3 c.val true).2.detect 3 i 0 [word c.val]).resetCore c l) := by
  change execCoreWatchdogExpiry a c true l s = _
  simp only [execCoreWatchdogExpiry, hruns, hocc, Bool.not_true, Bool.false_eq_true, if_false]

theorem lockLeaseExpiry_owned {n : Fin 32} {o : Fin 4} (howner : (s.lock n.val).owner = some o) :
    exec (.lockLeaseExpiry n) s = .next ((s.advanceUp (s.lock n.val).due).breakLock n.val false) :=
  congrArg Host.Outcome.next (if_pos (by simp [howner]))

theorem heartbeatExpiry_due {u : Nat} (hdue : s.cmd.hbDue = some u) : exec .heartbeatExpiry s = .next ((s.advanceUp u).expireHeartbeat true) := by
  change execHeartbeatExpiry s = _
  rw [execHeartbeatExpiry, hdue]

theorem replyCoalesceExpiry_due {n : Fin 4} {u : Nat} (hdue : ((s.cmd.coal[n.val]?).getD ⟨0, none⟩).due = some u) :
    exec (.replyCoalesceExpiry n) s = .next (((s.advanceUp u).setCmd (fun c =>
      { c with coal := updAt c.coal n.val (fun x => { x with due := none }) })).vector n.val) := by
  change execReplyCoalesceExpiry n s = _
  rw [execReplyCoalesceExpiry, hdue]

theorem cascadeReplyAggregate_replied {n : Fin 4} {q : Word} {g : Aggregate} {f : Flight}
    (hagg : s.cmd.aggs.find? (fun x => x.session == n && x.seq == q) = some g) (hflight : (s.advance a).flight? n q = some f)
    (hall : (s.advance a).allReplied g = true) :
    exec (.cascadeReplyAggregate a n q) s = .next ((s.advance a).closeAggregate f g false) := by
  change execCascadeReplyAggregate a n q s = _
  simp only [execCascadeReplyAggregate, State.advance_cmd, hagg, hflight, hall, if_true]

end

/-- Settles O4, event by event; a read that clears its counters has no condition. -/
theorem commandEventsComplete : Obligations.CommandEventsComplete :=
  ⟨fun _ _ _ _ hlock htakes => congrArg Host.Outcome.next (State.lockBlock_lockable hlock htakes),
    fun _ _ _ _ => regWritePlain_permitted,
    fun _ _ _ => rfl,
    fun _ _ _ => sqDoorbell_open,
    fun _ _ _ => rqHeadFree_open,
    fun _ _ => heartbeatFeed_open,
    fun _ _ => fetchEnable_open,
    fun _ _ => fetchDisable_open,
    fun _ _ _ => commandFetch_room,
    fun _ _ _ => routedCommandReceive_member,
    fun _ _ _ _ => mirroredCommandReceive_paired,
    fun _ _ _ _ _ _ => mirrorAckReceive_mirroring,
    fun _ _ _ _ => commandTimeout_uncommitted,
    fun _ _ _ _ hruns _ => coreWatchdogExpiry_occasion hruns,
    fun _ _ _ => lockLeaseExpiry_owned,
    fun _ _ => heartbeatExpiry_due,
    fun _ _ _ => replyCoalesceExpiry_due,
    fun _ _ _ _ _ _ => cascadeReplyAggregate_replied⟩

end Sys2Proof.Machine
end
